-- ==== Sys2Proof/Word.lean ====
section
/-!
DEFINITION. The plain word types and the three-channel container used by the whole model.
-/
namespace Sys2Proof

/-- One byte of a frame, a memory or a record. -/
abbrev Byte := BitVec 8

/-- One value for each of the channels A, B and C (03 R59). -/
structure Per3 (α : Type) where
  a : α
  b : α
  c : α
  deriving DecidableEq, Repr

/-- The value of channel `n`: 0 A, 1 B, otherwise C. -/
def Per3.get {α : Type} (p : Per3 α) (n : Nat) : α :=
  if n = 0 then p.a else if n = 1 then p.b else p.c

/-- Replaces the value of channel `n` (0 A, 1 B, 2 C; any other number changes nothing). -/
def Per3.set {α : Type} (p : Per3 α) (n : Nat) (v : α) : Per3 α :=
  if n = 0 then { p with a := v } else if n = 1 then { p with b := v }
  else if n = 2 then { p with c := v } else p

end Sys2Proof
end

