-- ==== Sys2Proof/Syntax.lean ====
section
/-!
DEFINITION. The commands of the block, one constructor per row of spec/opcode_table.json, with the operands that
the spec gives the event: addresses, values, levels, results reported by a unit outside the command.
-/
namespace Sys2Proof

/-- A store of a retired instruction (03 R74, R78): address, data, 4-bit byte mask. -/
structure StoreOp where
  addr : Nat
  data : Nat
  mask : Nat
  deriving DecidableEq, Repr

/-- What comes from outside a core with a retirement (03 R66, R69, R71, R75, R89): the address of an SRAM read that was corrected, bits
that have flipped: in the 72-bit delay FIFO or replay log entry that the instruction takes, in its pc, write-back data, store address
and store data as the MISR absorbs them; whether a mismatch that it finds comes in the CORE cycle of the channel's previous one. -/
structure Retired where
  corrected : Option Nat := none
  entry : Nat := 0
  pc : Nat := 0
  wb : Nat := 0
  addr : Nat := 0
  data : Nat := 0
  same : Bool := false
  deriving DecidableEq, Repr

/-- An entry of a draining store-buffer half with a parity error (03 R79): its number, whether it is found in the CORE cycle of the
channel's previous mismatch. -/
structure BadEntry where
  k : Nat
  same : Bool := false
  deriving DecidableEq, Repr

/-- The fields of a received flit beside KIND, LANE and SEQ (05 Table 5.2). -/
structure FlitRest where
  tag : Nat := 0
  payload : Nat := 0
  crc : Nat := 0
  deriving DecidableEq, Repr

/-- Where a railway block reads (07 R637): a safe input with its status bit, or a payload bit of the receive entry of a connection with
its VALID. -/
inductive BlkSrc where
  | input (n : Nat)
  | zst (conn bit : Nat)
  deriving DecidableEq, Repr

/-- The detection of a POINT (07 Table 7.13): inputs N and R, or the 2-bit code at a payload position of a connection. -/
inductive PointSrc where
  | pair (n r : Nat)
  | zst (conn bit : Nat)
  deriving DecidableEq, Repr

/-- What a SIGNAL drives (07 Table 7.13): an owned image bit, or messages on a connection. -/
inductive SignalOut where
  | bit (n : Nat)
  | zst (conn : Nat)
  deriving DecidableEq, Repr

/-- The inputs of a library block at one call (07 Tables 7.6, 7.7, 7.13), as its task's program and its instance parameters present them; PT in ticks of 10 ns. -/
inductive BlkIn where
  | ton (inp : Bool) (pt : Int)
  | tof (inp : Bool) (pt : Int)
  | tp (inp : Bool) (pt : Int)
  | rTrig (clk : Bool)
  | fTrig (clk : Bool)
  | ctu (cu r : Bool) (pv : Int)
  | ctd (cd ld : Bool) (pv : Int)
  | sr (s1 r : Bool)
  | rs (s r1 : Bool)
  /-- Route number, SET_CMD, REL_CMD. -/
  | route (n : Nat) (set rel : Bool)
  /-- Index, detection, position command, image bits of the normal and the reverse drive demand. -/
  | point (n : Nat) (det : PointSrc) (pos : Nat) (drive : List Nat)
  /-- Index, occupancy. -/
  | chainSection (n : Nat) (src : BlkSrc)
  /-- CLEAR_CMD, route permission, what its demand drives. -/
  | signal (clear perm : Bool) (out : SignalOut)
  | approachLock (clear relDem cancel : Bool) (pt : Int)
  /-- Index, PSD group input, keys of its DOOR_UNIT instances. -/
  | psdEdge (n : Nat) (group : BlkSrc) (doors : List Nat)
  /-- Door source, FLT_T in ms. -/
  | doorUnit (src : BlkSrc) (flt : Nat)
  deriving DecidableEq, Repr

/-- One instance call of a dispatch: instance key and inputs. -/
structure BlkCall where
  key : Nat
  inp : BlkIn
  deriving DecidableEq, Repr

/-- A stretch of a task's execution (07 R233): the calls in it, and whether a snapshot preempts the task after the last of them. -/
structure DispatchOp where
  calls : List BlkCall := []
  preempted : Bool := false
  deriving DecidableEq, Repr

/-- A frame as a port receives it (14 R409): an Ethernet frame from the destination address to the padding, with its FCS
verdict; a CAN frame with identifier, extended format, FD format, remote bit; a CAN XL frame with priority identifier, SDT, acceptance
field; an RS-485 frame with its framing verdict. -/
inductive PortRx where
  | eth (bytes : List Byte) (ok : Bool)
  | can (id : Nat) (ext fd remote : Bool) (bytes : List Byte) (ok : Bool)
  | canXl (prio sdt af : Nat) (bytes : List Byte) (ok : Bool)
  | uart (bytes : List Byte) (ok : Bool)
  deriving DecidableEq, Repr

/-- The contents of an Announce that the best master clock algorithm compares (14 R419, IEEE 802.1AS): priority1,
clockQuality, priority2, identity of the grandmaster, stepsRemoved, identity of the sending port. -/
structure AnnounceOp where
  priority1 : Nat
  quality : Nat
  priority2 : Nat
  gm : Nat
  steps : Nat
  sender : Nat
  deriving DecidableEq, Repr

/-- How a Percolator slice ends (18 R513 to R519), with the corrected words of E0: completed; a failing read in element
`elem` at word `word` of the slice, with the expected and the observed 72-bit values; a parity error in the slice buffer. -/
inductive SliceEnd where
  | pass (corr : Nat)
  | fail (corr elem word exp obs : Nat)
  | parity
  deriving DecidableEq, Repr

/-- A frame that a task sends in a delivery (12 R359): connection, lattice-gated, payload. -/
structure SendOp where
  conn : Nat
  lg : Bool
  payload : List Byte
  deriving DecidableEq, Repr

/-- What a task's program gives to a delivery (07 R238, R246; 12 R359): image bits of the release, apply times of time-triggered
outputs as 64-bit Weir times, frames in send order. -/
structure DeliveryOp where
  img : Nat := 0
  applies : List (Nat × Nat) := []
  sends : List SendOp := []
  deriving DecidableEq, Repr

/-- A claim of a context 0 to 3 of the management interrupt controller, with the other contexts that claim in the same cycle (02 R55). -/
structure ClaimOp where
  ctx : Nat
  same : List Nat := []
  deriving DecidableEq, Repr

/-- The commands of the block: one constructor per row of spec/opcode_table.json, in the table's order. -/
inductive Instr where
  /-- SNAPSHOT (R156). Weir time reaches a multiple of BASE x 25,000 ticks: Weir latches the snapshot into every channel, raises channel source 0 and starts the deadlines of the released tasks. Operands: SEAL[7:0] read with the pull-up and with the pull-down, whether the checker under test responds. -/
  | snapshot (pu pd : Nat) (responds : Bool)
  /-- CHECKER_ROTATE_TIMER (R138). While no snapshots are issued, the checker-group test advances every 10 ms. Operands: whether the detector under test responds. -/
  | checkerRotateTimer (responds : Bool)
  /-- STRAP_READ_TIMER (R166). While no snapshots are issued, Weir rereads the seal straps every 10 ms. Operands: SEAL[7:0] read with the pull-up and with the pull-down. -/
  | strapReadTimer (pu pd : Nat)
  /-- PERMISSION_RETURN (R214). The permission return lands in the buffer at 0x5000_8000, with RET_SEQ written last. -/
  | permissionReturn
  /-- SNAPSHOT_HANDOVER (R242). The link twin completes the snapshot buffer and hands it to the logic twin through the snapshot mailbox, raising source 120. Operands: channel. -/
  | snapshotHandover (c : Nat)
  /-- TASK_DISPATCH (R233). The runtime dispatches the highest-priority task with work: input copy, PMP set-up and its instances in descriptor order. Operands: channel, the instance calls up to the end of the task or to its preemption. -/
  | taskDispatch (c : Nat) (d : DispatchOp)
  /-- TASK_DELIVERY (R234). A release delivers its result in its final base cycle, after every lower-numbered task. Operands: channel, what the task's program gives to the delivery. -/
  | taskDelivery (c : Nat) (d : DeliveryOp)
  /-- APP_TRAP (R240). An exception in application code stops all dispatch in that channel. Operands: channel, task, mcause, mepc, instance key. -/
  | appTrap (c t mcause mepc key : Nat)
  /-- INSTRUCTION_RETIRE (R74). A core retires an instruction: the MISR absorbs it and the lead core samples any once-sampled input. Operands: channel, twin (0 logic, 1 link), trailing core, what retires. -/
  | instructionRetire (c twin : Nat) (trail : Bool) (r : Retired)
  /-- WINDOW_CYCLE_LIMIT (R75). A window closes early once 4 x WIN_LEN CORE cycles have elapsed since it began. Operands: channel, twin. -/
  | windowCycleLimit (c twin : Nat)
  /-- WINDOW_COMPARE (R76). The comparator result arrives 7 CORE cycles after the close: equal, mismatch or injection outcome. Operands: channel, twin, whether the result comes in the CORE cycle of the channel's previous mismatch. -/
  | windowCompare (c twin : Nat) (same : Bool)
  /-- STORE_COMMIT (R79). A draining store-buffer half commits its entries in program order. Operands: channel, twin, entry of the draining half with a parity error. -/
  | storeCommit (c twin : Nat) (bad : Option BadEntry)
  /-- SRAM_DED (R67). A double-bit error in a channel SRAM read signals a mismatch on the reading twin at once. Operands: channel, twin, address, instruction fetch, whether it is found in the CORE cycle of the channel's previous mismatch. -/
  | sramDed (c twin a : Nat) (fetch same : Bool)
  /-- ECC_WRITEBACK (R66). The SRAM controller writes the corrected word back, unless a commit to that word wins. Operands: channel, address. -/
  | eccWriteback (c a : Nat)
  /-- CHANNEL_INTERRUPT (R72). The channel interrupt controller delivers the highest pending source to the lead core, and it stays delivered-uncommitted until its window compares. Operands: channel, twin. -/
  | channelInterrupt (c twin : Nat)
  /-- ROLLBACK_DONE (R83). The rollback sequence ends and the lead core resumes at the checkpointed pc. Operands: channel, twin, duration in ns, parity error in a committed shadow word. -/
  | rollbackDone (c twin ns : Nat) (bad : Bool)
  /-- RB_TIMEOUT (R85). Rollback not complete 400 PER cycles after the mismatch loses the channel. Operands: channel, twin. -/
  | rbTimeout (c twin : Nat)
  /-- CHANNEL_LOST_TIMEOUT (R95). 10 ms after entry to LOST, the channel receives an automatic CHANNEL reset. Operands: channel. -/
  | channelLostTimeout (c : Nat)
  /-- CHANNEL_SELFTEST_DONE (R95). The channel's SELFTEST ends and the channel enters SYNC, ACTIVE, LOST or BARRED. Operands: channel, comparator and parity tests passed, march passed at last with the firmware segment written, failures that the march found (macro, word, differing bits). -/
  | channelSelftestDone (c : Nat) (cmp march : Bool) (bad : List (Nat × Nat × Nat))
  /-- CF_PORT_IMG (R102). A committed store writes one output image word into the channel's filling slot. Operands: channel, image word 0 to 127, value. -/
  | cfPortImg (c n v : Nat)
  /-- CF_PORT_MSG (R105). A committed store pushes a message word into the filling slot; an overflow sets OVF and is discarded. Operands: channel, word pushed. -/
  | cfPortMsg (c v : Nat)
  /-- CF_PORT_DELIVER (R101). A committed store of the header closes the filling slot and delivers the result, stalling the drain while no slot is free. Operands: channel, header, slot word with a parity error. -/
  | cfPortDeliver (c v : Nat) (bad : Option Nat)
  /-- VOTE_EXPIRY (R117). VOTE_WINDOW expires: a vote is taken with the results present, and absent channels leave as missing. -/
  | voteExpiry
  /-- VOTE_RELEASE (R119). 0.10 us after closure Confluence releases the voted result to Sluice, Weir, the ZST engine and the output mirror. -/
  | voteRelease
  /-- VOTING_SET_ACK (R120). Weir's acknowledgment arrives and Confluence releases the held result. -/
  | votingSetAck
  /-- VOTING_SET_ACK_TIMEOUT (R122). No acknowledgment 11.9 us after time zero sends Confluence to SAFE. -/
  | votingSetAckTimeout
  /-- RESYNC_BULK_START (R125). With Confluence in 2oo2 and a channel in SYNC, the resync engine starts the bulk copy. -/
  | resyncBulkStart
  /-- RESYNC_BULK_DONE (R127). The bulk phase ends after every block has been copied once, with dirty blocks marked. -/
  | resyncBulkDone
  /-- RESYNC_FINAL_START (R128). In the first idle gap after the bulk phase, the final phase re-copies the dirty blocks and sends the enlarged set to Weir. -/
  | resyncFinalStart
  /-- CHANNEL_IMAGE (R144). Weir receives a channel's output image and checks its CRC-64. Operands: channel, image as a number whose bit k is image bit k, the CRC-64 that comes with it. -/
  | channelImage (c img : Nat) (crc : Nat)
  /-- VOTED_IMAGE (R146). Weir receives a voted image, pairs it with the channel images and runs the independent vote check. -/
  | votedImage
  /-- CHECK_OPEN_TIMEOUT (R146). An open check not closed by a matching voting-set flit within 11.3 us sends Weir to the safe state with VOTE_CHECK. -/
  | checkOpenTimeout
  /-- VOTING_SET_FLIT (R145). Weir applies a voting-set flit and acknowledges it within 2.0 us. -/
  | votingSetFlit
  /-- SAFE_REQUEST_FLIT (R579). Weir receives Confluence's safe-state request and enters the safe state with cause CONFLUENCE. -/
  | safeRequestFlit
  /-- CAPTURE_TIMEOUT (R581). CAPTURED is set 1 s after entry if the FAULT flush has not yet completed. -/
  | captureTimeout
  /-- DUAL_RAIL_FAULT (R136). A stage without completion within one WDN period, or showing the illegal code, sends Weir to the safe state. -/
  | dualRailFault
  /-- DEADLINE_CHECK (R160). At a deadline instant Weir compares R(c) and D(c) and takes out each late channel. -/
  | deadlineCheck
  /-- DEADLINE_WARN (R162). At d - WARN Weir raises channel source 1 in a channel that is still behind. -/
  | deadlineWarn
  /-- RATE_GATE_END (R158). At the end of a 1,000,000-cycle WDN gate Weir judges the PER and WRC counts. Operands: PER and WRC counts of the gate. -/
  | rateGateEnd (per wrc : Nat)
  /-- WDN_MISSING_EDGE (R158). No WDN edge for 10 WRC cycles forces every enable to spacer and latches cause WRC. -/
  | wdnMissingEdge
  /-- TIME_PARITY (R157). A logic-die receiver finds a time-bus parity error and requests the safe state. -/
  | timeParity
  /-- PFAIL_TRIGGER (R169). PFAIL_N low or a supply out of limits for 1.0 us starts the power-fail sequence. Operands: PFAIL_N low, WR_SUP.UVOV. -/
  | pfailTrigger (low : Bool) (uvov : Nat)
  /-- PFAIL_RELEASE (R172). After the 50 ms release window with every condition clear, Weir issues a SUPPLY reset. -/
  | pfailRelease
  /-- WEIR_POR (R170). VDD_WEIR below 0.95 V holds Weir in POR; release zeroes Weir time and sets WPOR. Operands: SEAL[7:0] read with the pull-up and with the pull-down after the POR. -/
  | weirPor (pu pd : Nat)
  /-- WEIR_SELFTEST_DONE (R176). The Weir self-test completes, sets READY, or holds the safe state with cause SELFTEST. Operands: result. -/
  | weirSelftestDone (ok : Bool)
  /-- FLIT_RECEIVE (R140). A receiver accepts a flit with good CRC and expected SEQ, or sends a NAK. Operands: direction (true: towards Weir), lane, SEQ, KIND, TAG with payload and CRC. -/
  | flitReceive (up : Bool) (lane seq kind : Nat) (x : FlitRest)
  /-- FLIT_NAK (R140). On a NAK the sender resends from the expected flit; a fourth consecutive NAK fails the link. Operands: direction of the flits that the NAK is about, lane, expected SEQ that it carries. -/
  | flitNak (up : Bool) (lane seq : Nat)
  /-- FLIT_ACK (R140). An acknowledgment frees the acknowledged flits from the sender's replay buffer. Operands: direction of the flits acknowledged, lane, SEQ expected next. -/
  | flitAck (up : Bool) (lane seq : Nat)
  /-- FLIT_SEND (R141). At each flit boundary the sender serves its lanes in the order 3, 0, 1, 2, or sends an idle flit. Operands: direction. -/
  | flitSend (up : Bool)
  /-- LINK_SILENCE (R143). A receiver that sees no valid flit for 2.0 us fails the link, and Weir enters the safe state with cause LINK. Operands: the receiver that sees no valid flit: Weir, or the logic die. -/
  | linkSilence (atWeir : Bool)
  /-- WR_STOFF_HI_WRITE (R155). A loader write of WR_STOFF_HI after WR_STOFF_LO fixes the station offset and sets STOFF_SET. Operands: requester, value. -/
  | wrStoffHiWrite (req v : Nat)
  /-- WR_TIME_LO_READ (R178). A read of WR_TIME_LO latches bits [63:32] for the same requester. Operands: requester. -/
  | wrTimeLoRead (req : Nat)
  /-- LATTICE_LATCH (R194). The lattice latches a voted image, builds the update overlay and evaluates the request words in order. Operands: error found in a bank word: 0 none, 1 corrected, 2 uncorrectable; bank word index. -/
  | latticeLatch (ecc w : Nat)
  /-- LATTICE_COMMIT (R195). V commits once its vote check has passed and its last request has been processed: overlay, LOCK, PERM and SPERM take effect. -/
  | latticeCommit
  /-- SWEEP_EVAL (R199). The sweep re-proves one route over its 33 words and withdraws its permission on the first failing word. Operands: error found in a bank word: 0 none, 1 corrected, 2 uncorrectable; bank word index. -/
  | sweepEval (ecc w : Nat)
  /-- SWEEP_PASS_TIMEOUT (R207). A sweep pass not ended 70,000 WDN cycles after it began sends Weir to the safe state with cause LATTICE. -/
  | sweepPassTimeout
  /-- GATE_QUERY (R210). Weir receives the ZST engine's gate query for a released result. -/
  | gateQuery
  /-- GATE_VERDICT (R211). In the tick after V commits, Weir answers the query with GO or DENY per message. -/
  | gateVerdict
  /-- VERDICT_RECEIVE (R361). The ZST engine sends the GO frames and discards the DENY frames. -/
  | verdictReceive
  /-- LOAD_BEGIN (R216). Command LOAD_BEGIN moves STANDBY to LOADING. -/
  | loadBegin
  /-- LOAD_END (R216). Command LOAD_END moves STANDBY from LOADING to LOADED. -/
  | loadEnd
  /-- COPY (R219). Command COPY moves STANDBY to COPYING, to wait for the next sweep pass. -/
  | copy
  /-- COPY_CAPTURE_START (R219). At the start of the next sweep pass, the copy begins capturing ACTIVE words into STANDBY. -/
  | copyCaptureStart
  /-- COPY_DONE (R219). The copy completes and STANDBY becomes LOADED. Operands: error found in a bank word: 0 none, 1 corrected, 2 uncorrectable; bank word index. -/
  | copyDone (ecc w : Nat)
  /-- VERIFY (R220). Command VERIFY starts the scan and compare phases on STANDBY. -/
  | verify
  /-- VERIFY_DONE (R220). Verification ends in VERIFIED or FAILED, with the CHANGED routes counted. Operands: error found in a bank word: 0 none, 1 corrected, 2 uncorrectable; bank word index of STANDBY, or 2^17 more for a word of ACTIVE. -/
  | verifyDone (ecc w : Nat)
  /-- STANDBY_WRITE (R217). A loader write to the STANDBY window is accepted or refused by state; any write moves VERIFIED or FAILED to LOADED. Operands: requester, address, bytes. -/
  | standbyWrite (req a : Nat) (b : List Byte)
  /-- LAT_SWAP_ARM (R221). A write of ARM arms a swap for LAT_SWAP_AT, or refuses it with BUSY, NOT_VERIFIED or LATE. Operands: the ARM bit written. -/
  | latSwapArm (arm : Bool)
  /-- APPLY_TIME (R247). Weir time reaches a pending apply time, and the demand takes the new image bit. Operands: output. -/
  | applyTime (n : Nat)
  /-- RETAIN_FRAME (R255). The management plane takes a retain frame from the output mirror and keeps the newest copy of each page. -/
  | retainFrame
  /-- RETAIN_WRITE_TIMER (R255). A changed retained page is written to eMMC within 1 s. -/
  | retainWriteTimer
  /-- OLC_BEGIN (R263). Command OLC_BEGIN moves staging to LOADING. Operands: command came from the service port, TAG, CV. -/
  | olcBegin (svc : Bool) (tag cv : Nat)
  /-- OLC_LOAD (R264). Command OLC_LOAD writes bytes into the idle code bank or the data area. Operands: command came from the service port, TAG, CV, TARGET, OFFSET, data. -/
  | olcLoad (svc : Bool) (tag cv : Nat) (target off : Nat) (data : List Byte)
  /-- OLC_PREPARE (R265). Command OLC_PREPARE checks the staged application and, if it passes, moves to STAGED and issues the new LAT_CV. Operands: command came from the service port, TAG, CV, new check value, new LAT_CV, new Weir check value, change-table offset and entries. -/
  | olcPrepare (svc : Bool) (tag cv : Nat) (newCv latCv weirCv off n : Nat)
  /-- OLC_SWAP (R267). Command OLC_SWAP arms the swap for snapshot S. Operands: command came from the service port, TAG, CV, new check value, S. -/
  | olcSwap (svc : Bool) (tag cv newCv n : Nat)
  /-- OLC_ABORT (R263). Command OLC_ABORT returns staging to IDLE, or sends ARM = 0 from ARMED. Operands: command came from the service port, TAG, CV. -/
  | olcAbort (svc : Bool) (tag cv : Nat)
  /-- FORCE_SET (R278). Command FORCE_SET sets or replaces a force on instance data. Operands: command came from the service port, TAG, CV, VKEY, IKEY, TYPESIG, OFFSET, WIDTH, BIT, VALUE. -/
  | forceSet (svc : Bool) (tag cv : Nat) (vkey ikey sig off width bit value : Nat)
  /-- FORCE_CLEAR (R280). Command FORCE_CLEAR ends the force of one VKEY. Operands: command came from the service port, TAG, CV, VKEY. -/
  | forceClear (svc : Bool) (tag cv : Nat) (vkey : Nat)
  /-- FORCE_CLEAR_ALL (R280). Command FORCE_CLEAR_ALL ends every force. Operands: command came from the service port, TAG, CV. -/
  | forceClearAll (svc : Bool) (tag cv : Nat)
  /-- ERR_INJECT (R52). Command ERR_INJECT sends an error injection for a control-plane page through a loader frame. Operands: command came from the service port, TAG, CV, page address, value for BLK_ERRINJ. -/
  | errInject (svc : Bool) (tag cv : Nat) (pg v : Nat)
  /-- SIN_RESET (R306). Command SIN_RESET sends an input unlock mask through a loader frame. Operands: command came from the service port, TAG, CV, input mask. -/
  | sinReset (svc : Bool) (tag cv : Nat) (mask : Nat)
  /-- SOUT_RESET (R333). Command SOUT_RESET sends a group unlock mask through a loader frame. Operands: command came from the service port, TAG, CV, group mask. -/
  | soutReset (svc : Bool) (tag cv : Nat) (mask : Nat)
  /-- PERC_FUSE_CMD (R526). Command PERC_FUSE sends a fuse command for a channel engine through a loader frame. Operands: command came from the service port, TAG, CV, channel, macro, spare. -/
  | percFuseCmd (svc : Bool) (tag cv : Nat) (c m sp : Nat)
  /-- CFG_CONFIRM (R558). Command CFG_CONFIRM confirms the configuration when the ledger and the identities allow it. Operands: command came from the service port, TAG, CV. -/
  | cfgConfirm (svc : Bool) (tag cv : Nat)
  /-- KEY_LOAD (R562). Command KEY_LOAD writes a key and its KCV into the idle phase of a slot. Operands: command came from the service port, TAG, CV, SLOT, PHASE, KEY, KCV. -/
  | keyLoad (svc : Bool) (tag cv : Nat) (slot phase : Nat) (key : List Byte) (kcv : Nat)
  /-- KEY_PHASE (R562). Command KEY_PHASE makes a phase current and optionally clears the other phase. Operands: command came from the service port, TAG, CV, SLOT, PHASE, CLEAR_OTHER. -/
  | keyPhase (svc : Bool) (tag cv : Nat) (slot phase clear : Nat)
  /-- FW_ACTIVATE (R571). Command FW_ACTIVATE arms a firmware activation at T_act. Operands: command came from the service port, TAG, CV, SLOT, ACTIVATE_AT, DIGEST as a big-endian number. -/
  | fwActivate (svc : Bool) (tag cv : Nat) (slot at' digest : Nat)
  /-- FW_CANCEL (R571). Command FW_CANCEL disarms the activation. Operands: command came from the service port, TAG, CV. -/
  | fwCancel (svc : Bool) (tag cv : Nat)
  /-- LOCKOUT_RESET (R584). Gate command LOCKOUT_RESET clears HELD and raises the LOCKOUT_RESET reset. Operands: command came from the service port, TAG, CV. -/
  | lockoutReset (svc : Bool) (tag cv : Nat)
  /-- CHANNEL_RESET (R584). Gate command CHANNEL_RESET raises a CHANNEL reset of one channel. Operands: command came from the service port, TAG, CV, channel. -/
  | channelReset (svc : Bool) (tag cv : Nat) (c : Nat)
  /-- COLD_RESTART (R584). Gate command COLD_RESTART raises a WARM reset with a cold restart. Operands: command came from the service port, TAG, CV. -/
  | coldRestart (svc : Bool) (tag cv : Nat)
  /-- LOADER_FRAME (R635). The configuration loader takes a voted loader frame from the mirror and writes its entries in order. -/
  | loaderFrame
  /-- SERVICE_CONNECTED (R430). The service link has been up for a continuous 1 s, and the port counts as connected. -/
  | serviceConnected
  /-- SERVICE_LINK_LOSS (R430). Loss of the service link discards every queued command not yet placed. -/
  | serviceLinkLoss
  /-- SIN_SAMPLE (R285). Every 10 us the block samples all inputs and runs filter, pair, test, start-up and unlock logic. -/
  | sinSample
  /-- SIN_EDGE (R286). A comparator transition is captured for the stamp of the next sample. Operands: input, comparator level after the transition, ticks that pass before it. -/
  | sinEdge (n : Nat) (level : Bool) (dt : Nat)
  /-- SIN_FILTER_EXPIRY (R288). The filter time of a raw change has run, and the change becomes the filtered level. Operands: input. -/
  | sinFilterExpiry (n : Nat)
  /-- SIN_DISC_TIMEOUT (R294). A pair still in disagreement T_DISC after the clock started enters LOCKOUT with cause DISC. Operands: pair. -/
  | sinDiscTimeout (k : Nat)
  /-- SIN_UNLOCK_WRITE (R307). A W1S write to SIN_UNLOCK requests unlocks that act at the next sample. Operands: requester, 64-bit mask, TAG of the command that the mask comes from. -/
  | sinUnlockWrite (req mask tag : Nat)
  /-- TOUT_DUE (R298). A test source falls due TP_INT x 10 ms after its previous pulse started. Operands: test source. -/
  | toutDue (j : Nat)
  /-- TOUT_PULSE_START (R298). A due source starts its pulse at the first sample with no other source pulsing or waiting ahead. Operands: test source. -/
  | toutPulseStart (j : Nat)
  /-- TOUT_PULSE_END (R300). After TP_W the source returns high and the recovery window begins. Operands: test source. -/
  | toutPulseEnd (j : Nat)
  /-- TOUT_RECOVERY_END (R300). At the end of the recovery window each armed input is judged PASS, DISCARDED or FAIL. Operands: test source. -/
  | toutRecoveryEnd (j : Nat)
  /-- SOUT_SAMPLE (R316). Every 10 us the controller samples readback and judges each output by state. Operands: SOUT_FB[31:0] at the sample. -/
  | soutSample (fb : Nat)
  /-- ENV_READ (R317). Every 100 us, and after a sample whose judgment needs it, the controller reads WR_EN. -/
  | envRead
  /-- ENV_READ_DONE (R317). The WR_EN response updates ENV and completes any judgment that waits on it. -/
  | envReadDone
  /-- SOUT_TEST_DUE (R326). An HS or LS off-pulse test falls due for an output in ON. Operands: output, side. -/
  | soutTestDue (n : Nat) (ls : Bool)
  /-- SOUT_PULSE_START (R328). A due test starts its pulse at the first slot boundary where the slot limit allows, in due order. Operands: output, side. -/
  | soutPulseStart (n : Nat) (ls : Bool)
  /-- SOUT_PULSE_END (R322). The pulse width elapses: the output goes to RECOVER, or to judgment with STUCK. Operands: output. -/
  | soutPulseEnd (n : Nat)
  /-- SOUT_RECOVERY_END (R322). The recovery window ends without the readback recovering, and the output is judged. Operands: output. -/
  | soutRecoveryEnd (n : Nat)
  /-- SOUT_UNLOCK_WRITE (R334). A W1S write to SOUT_UNLOCK requests group unlocks that act at the next sample. Operands: requester, 16-bit group mask, TAG of the command that the mask comes from. -/
  | soutUnlockWrite (req mask tag : Nat)
  /-- ZST_FRAME_TX (R377). A port transmits the next queued frame, encapsulated for its medium. Operands: port 0 to 11. -/
  | zstFrameTx (p : Nat)
  /-- ZST_FRAME_RX (R365). The engine receives a frame, filters it by DST and connection, and stores it in the batch. Operands: arrival port, frame bytes. -/
  | zstFrameRx (port : Nat) (f : List Byte)
  /-- ZST_RX_HDR_READ (R366). A channel read of ZST_RX_HDR starts the next frame of the store. Operands: requester. -/
  | zstRxHdrRead (req : Nat)
  /-- ZST_RX_DAT_READ (R366). A channel read of ZST_RX_DAT returns the next four frame bytes. Operands: requester. -/
  | zstRxDatRead (req : Nat)
  /-- ZST_PRECHECK (R367). The link twin pre-checks one frame of the batch for structure, safety code and claim. Operands: channel. -/
  | zstPrecheck (c : Nat)
  /-- ID_REQ_TIMER (R373). An ID_REQ is sent once per second until identity is confirmed, then every 600 s. Operands: channel, connection. -/
  | idReqTimer (c n : Nat)
  /-- JOIN_WAIT_EXPIRY (R400). JOIN_WAIT passes since ACTIVE entry without the expected heartbeat, and a request is sent or granting begins. Operands: channel. -/
  | joinWaitExpiry (c : Nat)
  /-- EPOCH_RECORD_WRITE (R400). The witness's management plane stores a changed epoch in eMMC within 1 s. -/
  | epochRecordWrite
  /-- PORT_FRAME_RX (R409). A port tags a received frame with port and class, and delivers or drops it per the authentication matrix. Operands: port 0 to 14, frame. -/
  | portFrameRx (p : Nat) (f : PortRx)
  /-- PORT_TX_REFUSED (R411). A transmit request from a source that the port class does not permit gets an error and sets BLK_ERR.PLANE. Operands: port, source: 0 ZST engine, 1 gPTP and time beacons, 2 bridge, 3 management cores, any other number another unit. -/
  | portTxRefused (p src : Nat)
  /-- PLCA_BEACON_TIMEOUT (R414). A follower that receives no PLCA BEACON for 1 ms changes to CSMA/CD and raises PLCA_LOST. Operands: port 0 to 3. -/
  | plcaBeaconTimeout (p : Nat)
  /-- PLCA_BEACON_RX (R414). A PLCA BEACON returns the port to PLCA. Operands: port 0 to 3. -/
  | plcaBeaconRx (p : Nat)
  /-- GPTP_SYNC_RX (R420). A Sync on the slave port updates TM_OFF, TM_NRR and MEAS. Operands: port, time of the gPTP domain at the reception in ns, Weir time at the reception in ticks, rate of the source in ppb as a 32-bit pattern. -/
  | gptpSyncRx (p station stamp ppb : Nat)
  /-- PDELAY_REQ_RX (R420). The port time function answers a Pdelay_Req in hardware. Operands: port, Weir time of the reception and of the answer. -/
  | pdelayReqRx (p t2 t3 : Nat)
  /-- TIME_SILENCE (R421). No time measurement for 1 s clears LOCKED and raises TIME_UNLOCK. -/
  | timeSilence
  /-- TIME_BEACON_RX (R424). A unit that follows beacons forms TM_OFF from each beacon pair carrying LOCKED = 1. Operands: port, Weir time captured at the beacon, its payload. -/
  | timeBeaconRx (p cap : Nat) (b : List Byte)
  /-- BUS_OFF (R427). A CAN port that reaches bus-off raises BUS_OFF. Operands: port 8 to 11, transmit error counter. -/
  | busOff (p tec : Nat)
  /-- BUS_ON (R427). After 128 occurrences of 11 recessive bits the port recovers and raises BUS_ON. Operands: port 8 to 11. -/
  | busOn (p : Nat)
  /-- ENGINE_FAULT (R431). A protocol engine whose watchdog or microcode parity fails disables its ports. Operands: engine 0 to 3 of the T1S ports, 4 and 5 of the CAN ports; 1 watchdog, 2 parity. -/
  | engineFault (e cause : Nat)
  /-- RS485_IDLE_DISCARD (R441). An idle line of 4 character times before a complete frame discards the partial frame. Operands: UART. -/
  | rs485IdleDiscard (i : Nat)
  /-- BRIDGE_FRAME (R437). The bridge looks up a completed DATA frame, checks, converts and queues it on its output port. Operands: bridge port, frame. -/
  | bridgeFrame (q : Nat) (f : PortRx)
  /-- BR_TBL_W3_WRITE (R443). A write to BR_TBL_W[3] stores the shadow entry at IDX and increments IDX. Operands: requester, value. -/
  | brTblW3Write (req v : Nat)
  /-- TABLE_COMMIT (R444). BR_TBL_CMD.COMMIT checks the shadow table and exchanges it with the active table. Operands: COUNT. -/
  | tableCommit (n : Nat)
  /-- REGION_COMMIT (R457). BR_REG_CMD.COMMIT checks the shadow regions and makes them active. -/
  | regionCommit
  /-- WINDOW_WRITE (R449). A window write is posted to the 32-entry queue, or answered with RETRY. Operands: requester, window, offset in its page, bytes. -/
  | windowWrite (req w off : Nat) (b : List Byte)
  /-- WINDOW_READ (R450). A window read allocates a delayed-read slot, or is served from a READY or prefetched slot. Operands: requester, window, offset in its page, bytes. -/
  | windowRead (req w off len : Nat)
  /-- READ_RESPONSE (R452). A READ_RSP or ERROR answer makes its slot READY or ERROR. Operands: bridge port, frame. -/
  | readResponse (q : Nat) (f : PortRx)
  /-- WRITE_ACK (R449). A WRITE_ACK or ERROR answer completes a posted write and frees its tag. Operands: bridge port, frame. -/
  | writeAck (q : Nat) (f : PortRx)
  /-- RESPONSE_TIMEOUT (R452). No answer within RSP_TO sets the slot to ERROR or fails the write. Operands: read slot 0 to 63 or write tag 64 to 95. -/
  | responseTimeout (tag : Nat)
  /-- DR_TIMEOUT (R453). A READY slot not collected within DR_TIMEOUT is freed, and its data go to the orphan registers. Operands: slot. -/
  | drTimeout (n : Nat)
  /-- INBOUND_MESSAGE (R455). A register message routed to port 14 is served against the inbound window. -/
  | inboundMessage
  /-- CVU_FEED_WRITE (R461). A write to CVU_FEED absorbs four bytes. Operands: unit, value. -/
  | cvuFeedWrite (i v : Nat)
  /-- CVU_FEED_B_WRITE (R461). A write to CVU_FEED_B absorbs one byte. Operands: unit, value. -/
  | cvuFeedBWrite (i v : Nat)
  /-- CVU_VAL_WRITE (R462). A write to CVU_VAL starts or resumes a computation, and is refused while BUSY. Operands: unit, upper half, value. -/
  | cvuValWrite (i : Nat) (hi : Bool) (v : Nat)
  /-- CVU_PRESET_WRITE (R460). A non-zero PRESET write loads every CRC parameter of the preset. Operands: requester, unit, value of CVU_CFG. -/
  | cvuPresetWrite (req i v : Nat)
  /-- FABRIC_REQUEST (R465). A requester issues a shared-fabric transaction, which is routed or refused. Operands: requester ID of Table 16.1, address, write. -/
  | fabricRequest (req a : Nat) (wr : Bool)
  /-- ARBITRATION_DECISION (R471). A target arbiter grants a reserved slot, or picks a winner by aging, credit and round-robin pointer. Operands: target, slot 0 to 15 of the frame. -/
  | arbitrationDecision (t slot : Nat)
  /-- ARB_HUNG (R477). A target without a response 100 us after a grant is declared hung, and its requests get errors. Operands: target. -/
  | arbHung (t : Nat)
  /-- EVENT_RAISE (R20). A hardware source raises an event into its staging register, or the event counts as lost. Operands: source, code, the values that the event carries. -/
  | eventRaise (src code : Nat) (data : List Nat)
  /-- INT_RAISE (R480). A write to INT_RAISE stages the requester's assembly buffer with a Weir time stamp. Operands: requester. -/
  | intRaise (req : Nat)
  /-- INT_ASM_WRITE (R480). A write to INT_ASM fills the writing requester's assembly buffer. Operands: requester, word 0 to 10, value. -/
  | intAsmWrite (req k v : Nat)
  /-- EVENT_MERGE (R481). Each FAB cycle the merge unit passes the oldest staged event to the recorder's write port. -/
  | eventMerge
  /-- LOST_RECORD_STAGE (R483). When a source's staging register is free and events are pending lost, a LOST record is staged. Operands: source. -/
  | lostRecordStage (src : Nat)
  /-- RECORD_ENTRY (R491). A record enters the Carafe with its calendar TIME. -/
  | recordEntry
  /-- FLUSH_HALF (R492). PEND reaches 2,048 and triggers a flush. -/
  | flushHalf
  /-- FLUSH_TIMER (R492). 1 s after the previous flush started, with records pending, a flush is triggered. -/
  | flushTimer
  /-- FLUSH_START (R492). A flush takes every pending record and writes it to Eddy and then Headwater. -/
  | flushStart
  /-- EMMC_WRITE_DONE (R493). A sector write completes, committing its records and freeing their Carafe slots. -/
  | emmcWriteDone
  /-- EMMC_WRITE_FAIL (R494). An eMMC write that errs or exceeds 100 ms is retried; the fourth failure enters FAIL with STORE_FAIL. Operands: eMMC status. -/
  | emmcWriteFail (status : Nat)
  /-- LOG_RECOVERY_DONE (R498). Log recovery after POR completes with POWER_UP and RUN, or enters NOLOG. -/
  | logRecoveryDone
  /-- FREEZE (R499). EVR_CMD FREEZE moves the recorder to FROZEN. -/
  | freeze
  /-- UNFREEZE (R499). EVR_CMD UNFREEZE returns the recorder to RUN. -/
  | unfreeze
  /-- FLUSH (R492). EVR_CMD FLUSH triggers a flush. -/
  | flush
  /-- FORMAT (R498). EVR_CMD FORMAT in NOLOG writes a new log and enters RUN. -/
  | format
  /-- SPILLWAY_START (R501). The power-fail flit starts the Spillway: SPILLWAY record, freeze lifted, fetch abandoned, state SPILL. -/
  | spillwayStart
  /-- SPILLWAY_INTAKE_CLOSE (R501). 1.0 ms after the Spillway starts, or after 4,096 records, the Carafe closes intake. -/
  | spillwayIntakeClose
  /-- EVR_CURSOR_WRITE (R504). A write to EVR_CURSOR starts the fetch of the selected record's sector. Operands: INDEX. -/
  | evrCursorWrite (i : Nat)
  /-- WINDOW_FETCH_DONE (R504). The fetch completes and sets WIN_READY, or GONE. -/
  | windowFetchDone
  /-- EVR_WIN15_READ (R505). A read of EVR_WIN[15] increments INDEX and fetches the next record. -/
  | evrWin15Read
  /-- EVR_CLR_HI_WRITE (R507). A write of EVR_CLR_HI submits an Eddy clear, which is accepted and run or refused. Operands: requester, upper half of the quoted value. -/
  | evrClrHiWrite (req hi : Nat)
  /-- PERC_SLICE_START (R515). Once both twins have halted after the strobe, the channel engine starts a transparent march slice. Operands: channel. -/
  | percSliceStart (c : Nat)
  /-- PERC_SLICE_DONE (R513). A slice completes, or fails and restores the slice, records the failure and repairs. Operands: engine (0 to 2 the channels, 3 the scheduler), group, end of the slice. -/
  | percSliceDone (e g : Nat) (r : SliceEnd)
  /-- SCHED_SLICE_TIMER (R517). Every PERIOD ms the scheduler runs one slice in each enabled group. -/
  | schedSliceTimer
  /-- PERC_FUSE_GO (R525). A write of PERC_FUSE.GO starts programming a soft repair into fuses, or is refused. Operands: requester, engine, value of PERC_FUSE. -/
  | percFuseGo (req e v : Nat)
  /-- FUSE_DONE (R525). Fuse programming completes and sets FUSED. Operands: engine. -/
  | fuseDone (e : Nat)
  /-- PWR_REQ_WRITE (R532). A write of PWR_REQ starts a power-state request or places it in the pending slot. Operands: requester, value. -/
  | pwrReqWrite (req v : Nat)
  /-- CONSENT_ASK_START (R537). Once every control-plane block signals consent, or NOTICE_MS passes, the controller begins asking blocks in order. -/
  | consentAskStart
  /-- NOTICE_TIMEOUT (R537). NOTICE_MS passes without every control-plane consent line set. -/
  | noticeTimeout
  /-- CONSENT_ANSWER (R538). An asked block consents and stops, or refuses and starts a rollback. Operands: what lies outside the block: management cores in WFI and firmware done, a DEFER block that finishes in time. -/
  | consentAnswer (ready : Bool)
  /-- CONSENT_TIMEOUT (R21). A block that does not answer within 100 us counts as refusing. -/
  | consentTimeout
  /-- IDLE_WAKE (R531). A pending enabled management interrupt returns IDLE to RUN. -/
  | idleWake
  /-- WAKE_N_LOW (R542). WAKE_N low for 1 us wakes the unit, or raises PWR_HOLD from OFF. -/
  | wakeNLow
  /-- I2C_ADDRESS_MATCH (R543). An address match on the management I2C target wakes the unit while SCL is held. Operands: 7-bit address received. -/
  | i2cAddressMatch (addr : Nat)
  /-- AON_ALARM (R542). PWR_AON reaches PWR_ALARM with TIMER_EN and wakes the unit. -/
  | aonAlarm
  /-- WAKE_RESTART (R544). After PLL lock the controller restarts the stopped blocks, and Weir issues the withheld snapshot. Operands: the retained state of the safe inputs matches its CRC. -/
  | wakeRestart (crcOk : Bool)
  /-- PACKAGE_STORE (R555). A package received on the service port with a good CRC is stored as PENDING. Operands: frame tagged SERVICE, bytes of the package. -/
  | packageStore (svc : Bool) (pkg : List Byte)
  /-- FW_IMAGE_STORE (R569). A firmware image is written into the idle slot, read back, verified and marked VALID. Operands: frame tagged SERVICE, slot, header of the image, signature verified after read-back, first 8 bytes of its SHA-384 as a big-endian number. -/
  | fwImageStore (svc : Bool) (slot : Nat) (hdr : List Byte) (ok : Bool) (digest : Nat)
  /-- SVN_ADVANCE (R570). A management command from the service port in maintenance mode advances the SVN fuse. Operands: frame tagged SERVICE, SVN. -/
  | svnAdvance (svc : Bool) (svn : Nat)
  /-- IDB_SCAN (R567). An identity-bus scan reads every memory into the scan buffer. Operands: identity bus, the memories found: segment 0 to 3 of the controller, address, content. -/
  | idbScan (i : Nat) (mems : List (Nat × Nat × List Byte))
  /-- IDB_SCAN_TIMER (R567). A scan starts every 600 s. Operands: identity bus. -/
  | idbScanTimer (i : Nat)
  /-- CONFIRM_RECORD_WRITE (R559). The management firmware writes the confirmation record within 1 s. -/
  | confirmRecordWrite
  /-- ACTIVATION_STROBE (R572). At the first strobe at or after ACT_AT with ARM = 1, the gate raises a WARM reset in place of the snapshot. -/
  | activationStrobe
  /-- TRIAL_BOOT_TIMEOUT (R572). A trial boot in which the channels do not enter ACTIVE within 2 s uses up one boot, and after three it reverts. -/
  | trialBootTimeout
  /-- CLK_LOCK_LOSS (R595). The root PLL reports loss of lock, and the monitor forces outputs off and silences the link. -/
  | clkLockLoss
  /-- REF_MISSING (R594). No REF edge for 200 ns is a clock fault. -/
  | refMissing
  /-- DIVIDER_WINDOW (R594). At the end of a 1,000-PER window, a deviating domain count is a clock fault. Operands: domain (row of Table 22.1), CORE branch, count over 1,000 PER cycles. -/
  | dividerWindow (dom branch count : Nat)
  /-- FRC_RANGE_WINDOW (R594). At the end of 250 REF cycles, an FRC count outside 1,900-2,100 is a clock fault. Operands: FRC count over 250 REF cycles. -/
  | frcRangeWindow (count : Nat)
  /-- RESET_STEP_TIMEOUT (R594). A boot step that exceeds its time is a reset-sequencer fault. Operands: boot step. -/
  | resetStepTimeout (step : Nat)
  /-- CLK_CTL_WRITE (R593). A loader write of CLK_CTL.SEL switches CORE, MGMT, FAB, NET and PER between FRC and the root PLL. Operands: requester, value. -/
  | clkCtlWrite (req v : Nat)
  /-- POR_ASSERT (R624). A monitored logic-die supply falls below its POR threshold and asserts POR. Operands: whether VDD_AON has been lost. -/
  | porAssert (aonLost : Bool)
  /-- POR_RELEASE (R597). 1 ms after every supply is above threshold, POR releases and the cold boot starts. -/
  | porRelease
  /-- RESET_FLIT (R599). A lane-0 power-fail flit carries a SUPPLY, WARM or LOCKOUT_RESET reset between Weir and the logic die. Operands: towards Weir. -/
  | resetFlit (up : Bool)
  /-- RESET_ASSERT (R600). The sequencer drops the demands, stops ZST, sends the reset flit and asserts reset for 10 us. -/
  | resetAssert
  /-- RESET_RELEASE (R602). Reset release starts the warm boot. -/
  | resetRelease
  /-- BOOT_STEP_DONE (R602). A boot step of Table 22.5 completes, and the next one starts. Operands: step of Table 22.5, two results and two values (by step: fuses; PLL lock, monitor self-test; failing SIN and SOUT_FB comparators; memory test; first and other slot pass; eMMC; SRAM word correction at the lattice VERIFY and its word; SOUT_FB levels of the off test). -/
  | bootStepDone (step : Nat) (ok ok2 : Bool) (m m2 : Nat)
  /-- BLK_LOCK_WRITE (R44). A key write to BLK_LOCK arms, opens, disarms or closes the lock. Operands: requester, page address, key. -/
  | blkLockWrite (req pg key : Nat)
  /-- LOCK_EXPIRY (R45). The lock closes 1 ms after opening, or disarms 1 ms after arming. Operands: page address. -/
  | lockExpiry (pg : Nat)
  /-- CRC_SCAN (R49). At least once per ms with the lock closed, the page recomputes its CRC and flags any drift. Operands: page address, whether the registers still give BLK_CRC. -/
  | crcScan (pg : Nat) (same : Bool)
  /-- SOFT_RESET (R41). A W1S write of SOFT_RESET returns the block's state machines and RW registers to reset. Operands: requester, page address. -/
  | softReset (req pg : Nat)
  /-- SOFT_RESET_DONE (R41). The soft reset completes, and pending error responses are flagged. Operands: page address. -/
  | softResetDone (pg : Nat)
  /-- IRQ_PEND_CLEAR (R42). A W1C write to IRQ_PEND clears the IRQ_RAW latches behind it. Operands: requester, page address, value. -/
  | irqPendClear (req pg v : Nat)
  /-- BLK_ERRINJ_WRITE (R52). A write to BLK_ERRINJ in maintenance mode arms an injected error for the next access. Operands: requester, page address, value. -/
  | blkErrinjWrite (req pg v : Nat)
  /-- REGISTER_WRITE (R37). A write to a register without a row of its own takes effect by its access type, or is refused under the lock or plane rules. Operands: requester, address, size in bytes, value. -/
  | registerWrite (req a size v : Nat)
  /-- SELF_GATE_IDLE (R50). After IDLE_DLY of idleness a block gates its clock or power under GATE. Operands: page address. -/
  | selfGateIdle (pg : Nat)
  /-- SELF_UNGATE (R51). An access to a self-gated block ungates it and holds the access until it responds. Operands: page address. -/
  | selfUngate (pg : Nat)
  /-- PLIC_CLAIM (R55). A claim read returns the highest-priority pending source, lowest ID first. Operands: requester, its context, the other contexts that claim in the same cycle. -/
  | plicClaim (req : Nat) (ctx : ClaimOp)
  /-- PLIC_COMPLETE (R54). A write of the claim/complete register completes the source's interrupt. Operands: requester, context 0 to 3, ID written. -/
  | plicComplete (req ctx id : Nat)
  /-- REINT_LOSS_AGE_OUT (R98). A counted channel loss passes out of the last 24 h of Weir time, and CH_REINT.LOSSES falls by one. Operands: channel. -/
  | reintLossAgeOut (c : Nat)
  /-- SERVICE_LINK_UP (R430). SVC_STAT.LINK rises and the 1 s count towards a connected service port starts. -/
  | serviceLinkUp
  /-- PORT_LINK_CHANGE (R432). The link of a T1 or T1S port comes up or is lost, which changes PORT_STAT.LINK and cuts a frame in progress. Operands: port 0 to 7, link up, whether a frame was being received. -/
  | portLinkChange (p : Nat) (up cut : Bool)
  /-- TRIGGER_CONDITION_CLEAR (R172). PFAIL_N returns high and every monitored supply returns within limits, and the 50 ms release window can start. -/
  | triggerConditionClear
  /-- PDELAY_INTERVAL (R419). Every 1 s a gPTP port sends Pdelay_Req to measure the peer delay. Operands: port, Weir time of the transmission. -/
  | pdelayInterval (p t1 : Nat)
  /-- PDELAY_RESP_RX (R419). A Pdelay_Resp received on a gPTP port updates the neighbour delay and asCapable. Operands: port, neighbour delay in ns. -/
  | pdelayRespRx (p delay : Nat)
  /-- ANNOUNCE_RX (R419). An Announce received on a gPTP port feeds the best master clock algorithm, which selects the slave port and may raise GM_CHANGE. Operands: port, contents. -/
  | announceRx (p : Nat) (m : AnnounceOp)
  /-- CB_RESET_TIMER (R418). CB_RST passes without a frame of a stream, and the vector recovery history is reset. Operands: stream: source MAC times 4096 plus VID. -/
  | cbResetTimer (key : Nat)
  /-- FABRIC_RESPONSE (R475). A target returns the response of a shared-fabric transaction, which frees the outstanding entry and the queue entry. Operands: target. -/
  | fabricResponse (t : Nat)
  /-- BRIDGE_EGRESS_TX (R442). A port sends the next frame of its bridge egress queue and frees the queue entry. Operands: bridge port. -/
  | bridgeEgressTx (q : Nat)
  /-- RANGE_WRITE_ABSORB (R461). A management-fabric write within CVU_BASE to CVU_BASE + CVU_LEN - 1 is absorbed by a check-value unit in RANGE mode. Operands: address, bytes of a completed management-fabric write. -/
  | rangeWriteAbsorb (a : Nat) (b : List Byte)
  /-- REGISTER_READ_ERROR (R35). A read with behaviour of its own: a wrong size or alignment, a read of EVR_WIN before WIN_READY, or the first access after BLK_ERRINJ.ARM gets an error or fires the injection. Operands: requester, address, size in bytes. -/
  | registerReadError (req a size : Nat)
  deriving DecidableEq, Repr

end Sys2Proof
end

