-- ==== Sys2Proof/Config.lean ====
section
/-!
DEFINITION. What the spec leaves open and an implementation fixes: constants without a body. A claim that holds
in this model holds for every value of them.
-/
namespace Sys2Proof

/-- A free value (a value that the spec leaves open), by the number of free values drawn before it. DESIGN CHOICE:
log 3. -/
opaque Config.freeNat : Nat → Nat

/-- Byte `i` of the 40 DATA bytes of a hardware event's record, by source, code and the values that the event carries:
the chapters list the values, not their places and widths (17 Table 17.1). UNVERIFIED: log 11. -/
opaque Config.dataByte : Nat → Nat → List Nat → Nat → BitVec 8

/-- Byte `i` of the data of a retained page (`kind` 0) or a mirror page (1), by page and the data that it holds, as numbers: the
compiler places the variables (07 R254; 13 R397). UNVERIFIED: log 30. -/
opaque Config.pageByte : Nat → Nat → List Int → Nat → BitVec 8

/-- The mirror page that holds the data of an instance key (13 R397). UNVERIFIED: log 30. -/
opaque Config.mirrorPage : Nat → Nat

/-- What mirror page data hold for an instance key and a variable of it (13 R399). UNVERIFIED: log 30. -/
opaque Config.mirrorField : List (BitVec 8) → Nat → Nat → Nat

/-- Byte `i` of the unit's own Abtil Identity Record (12 R375): the spec gives its layout, not its place. UNVERIFIED:
log 31. -/
opaque Config.ownRecord : Nat → BitVec 8

/-- Byte `i` of the instance-store image of a staged application, by its APP_ID (08 R265): the initial values of carried instances stand
nowhere in the running unit. DESIGN CHOICE: log 32. -/
opaque Config.stagedByte : Nat → Nat → BitVec 8

/-- The bytes of an instance's data that the RETAIN variables of a user type occupy, by type signature (07 R636): the interface text is not
part of the application image. UNVERIFIED: log 119. -/
opaque Config.retainBytes : Nat → List Nat

/-- The bytes of an instance's data that the mirrored variables of a user type occupy, by type signature (13 R397): the interface text is not
part of the application image. UNVERIFIED: log 119. -/
opaque Config.mirrorBytes : Nat → List Nat

/-- The rate of the steering word, a 24-bit pattern, by residual and rate of the source (14 R421): the control law is not given.
UNVERIFIED: log 39. -/
opaque Config.steerRate : Nat → Nat → Nat

/-- The check value that Weir computes over the parameter words that the loader has written into it (05 R175): the algorithm is
not given. UNVERIFIED: log 41. -/
opaque Config.weirCheck : List Nat → Nat

/-- The byte of the boot ROM at an address (02 Table 2.1): the spec does not print its contents. UNVERIFIED: log 50. -/
opaque Config.romByte : Nat → BitVec 8

/-- Records that the fitted eMMC device holds beyond the 8,192 that the log needs at least (17 R495). -/
opaque Config.emmcSpare : Nat

end Sys2Proof
end

