-- ==== Sys2Proof/Machine/RegFile.lean ====
section
/-!
DEFINITION. The register field file. Every register field that the spec's register tables give is one named
constant of type `Fld` (Machine/Fields.lean). The values of all fields are held as a list of (key, value) pairs
with rising keys; a field that the list does not name has the value of its Reset column. Fields of up to
64 bits that span an `_LO`/`_HI` pair of registers are one field.
-/
namespace Sys2Proof.Machine

/-- The access types of Table 2.3 (02 R37). -/
inductive Acc where
  | ro | rw | rwl | w1c | w1s | wo
  deriving DecidableEq, Repr

/-- What a reset does to a field (Table 22.3, 22 R597; 03 R100).
`ctl` every unit-wide reset returns it to its reset value; `por` kept by every reset except POR;
`aon` kept while VDD_AON stays within limits; `weir` on the Weir die, kept by unit-wide resets and lost at a
Weir POR; `weirCtl` on the Weir die, control state: lost at unit-wide resets and at a Weir POR. -/
inductive Dom where
  | ctl | por | aon | weir | weirCtl
  deriving DecidableEq, Repr

/-- A register field: byte address of its register, lowest bit, width, reset value, access type, reset domain. -/
structure Fld where
  addr : Nat
  lo : Nat
  width : Nat
  rst : Nat
  acc : Acc
  dom : Dom
  deriving DecidableEq, Repr

/-- The address of register number `i` of an array of `n`, `stride` bytes apart from `base`; a number outside the
array addresses no register (address 0, which lies in the boot ROM). -/
def slot (i n base stride : Nat) : Nat := if i < n then base + i * stride else 0

/-- The key of a field in the field file: fields of one register lie next to each other. -/
def Fld.key (f : Fld) : Nat := f.addr * 32 + f.lo

/-- The contents of the field file: (key, value) pairs. -/
abbrev Regs := List (Nat × Nat)

/-- The value listed under `k`, or `d` where none is. -/
def regLookup : Regs → Nat → Nat → Nat
  | [], _, d => d
  | (a, v) :: t, k, d => if a = k then v else regLookup t k d

/-- The list without the entries of `k`. -/
def regErase : Regs → Nat → Regs
  | [], _ => []
  | (a, v) :: t, k => if a = k then regErase t k else (a, v) :: regErase t k

/-- The list with `(k, v)` put before the first larger key. -/
def regInsert : Regs → Nat → Nat → Regs
  | [], k, v => [(k, v)]
  | (a, w) :: t, k, v => if k < a then (k, v) :: (a, w) :: t else (a, w) :: regInsert t k v

/-- The list in which `k` reads `v`, where an unlisted `k` reads `d`. -/
def regAssign (l : Regs) (k v d : Nat) : Regs :=
  if v = d then regErase l k else regInsert (regErase l k) k v

/-- The value of a field: never more than its width holds. -/
def Fld.read (f : Fld) (l : Regs) : Nat := regLookup l f.key f.rst % 2 ^ f.width

/-- The file with a field set to a value, taken modulo the field's width. -/
def Fld.write (f : Fld) (l : Regs) (v : Nat) : Regs := regAssign l f.key (v % 2 ^ f.width) f.rst

/-- One part of a 32-bit register: `width` bits from bit `regLo` of the register, which are bits
`fldLo` and up of the field. -/
structure Piece where
  fld : Fld
  regLo : Nat
  width : Nat
  fldLo : Nat
  deriving DecidableEq, Repr

/-- One row of a register table: a first address, a stride, a count, and the parts of register number `i`. -/
structure RegRow where
  base : Nat
  stride : Nat
  count : Nat
  pieces : Nat → List Piece

/-- The number of the register of this row that lies at an address, if one does. -/
def RegRow.index? (r : RegRow) (a : Nat) : Option Nat :=
  if a < r.base then none
  else if r.stride = 0 then (if a = r.base then some 0 else none)
  else if (a - r.base) % r.stride = 0 ∧ (a - r.base) / r.stride < r.count then some ((a - r.base) / r.stride)
  else none

end Sys2Proof.Machine
end

