-- ==== Sys2Proof/Machine/Fields.lean ====
section
/-!
DEFINITION. Every register field of the register tables of spec/, one constant each, named REGISTER.FIELD as the
tables name them; and the register rows, which say which fields lie at an address. Reset values are those of the
tables' Reset column. Registers the tables list without field rows are one whole-register field, reset 0
(assumption log 4). The `Dom` of a field says which resets keep it (Table 22.3, 22 R597; 03 R100).
-/
namespace Sys2Proof.Machine.Reg


/-! ### Page header (Tables 2.4 to 2.12); `pg` is the address of the page -/
/-- Tables 2.4 to 2.12, [1:1]. Returns state machines and RW registers to reset -/
def BLK_CTRL.SOFT_RESET (pg : Nat) : Fld := ⟨pg + 0x8, 1, 1, 0, .w1s, .ctl⟩
/-- Tables 2.4 to 2.12, [0:0]. 1: block operates -/
def BLK_CTRL.ENABLE (pg : Nat) : Fld := ⟨pg + 0x8, 0, 1, 0, .rwl, .ctl⟩
/-- Tables 2.4 to 2.12, [9:8]. 0 running; 1 clock gated; 2 power gated; 3 stopped under consent -/
def BLK_STAT.PWR (pg : Nat) : Fld := ⟨pg + 0xC, 8, 2, 0, .ro, .ctl⟩
/-- Tables 2.4 to 2.12, [4:4]. Last scan matched BLK_CRC -/
def BLK_STAT.CRC_OK (pg : Nat) : Fld := ⟨pg + 0xC, 4, 1, 1, .ro, .ctl⟩
/-- Tables 2.4 to 2.12, [2:2]. Soft reset in progress -/
def BLK_STAT.RST_BUSY (pg : Nat) : Fld := ⟨pg + 0xC, 2, 1, 0, .ro, .ctl⟩
/-- Tables 2.4 to 2.12, [1:1]. Block has work in progress -/
def BLK_STAT.BUSY (pg : Nat) : Fld := ⟨pg + 0xC, 1, 1, 0, .ro, .ctl⟩
/-- Tables 2.4 to 2.12, [0:0]. Block out of reset and initialised -/
def BLK_STAT.READY (pg : Nat) : Fld := ⟨pg + 0xC, 0, 1, 0, .ro, .ctl⟩
/-- Tables 2.4 to 2.12, [30:0]. IRQ_RAW latches; bit 31 follows ERR_ANY (R43) -/
def IRQ.RAW (pg : Nat) : Fld := ⟨pg + 0x10, 0, 31, 0, .ro, .ctl⟩
/-- Tables 2.4 to 2.12, [31:0]. Interrupt enables -/
def IRQ_MASK.MASK (pg : Nat) : Fld := ⟨pg + 0x14, 0, 32, 0, .rw, .ctl⟩
/-- Tables 2.4 to 2.12, [17:16]. 0 AUTO, 1 DEFER, 2 REFUSE, 3 CONTROL -/
def BLK_PWR.CONSENT (pg : Nat) : Fld := ⟨pg + 0x1C, 16, 2, 0, .rwl, .ctl⟩
/-- Tables 2.4 to 2.12, [15:8]. Idle time before self-gating, in us -/
def BLK_PWR.IDLE_DLY (pg : Nat) : Fld := ⟨pg + 0x1C, 8, 8, 0x10, .rwl, .ctl⟩
/-- Tables 2.4 to 2.12, [1:0]. 0 never; 1 clock; 2 clock and power; 3 reserved, write ignored -/
def BLK_PWR.GATE (pg : Nat) : Fld := ⟨pg + 0x1C, 0, 2, 0, .rwl, .ctl⟩
/-- Tables 2.4 to 2.12, [23:16]. Time until the lock closes, in 10 us units -/
def BLK_LOCK.REMAIN (pg : Nat) : Fld := ⟨pg + 0x20, 16, 8, 0, .ro, .ctl⟩
/-- Tables 2.4 to 2.12, [15:8]. Requester that armed or opened the lock -/
def BLK_LOCK.OWNER (pg : Nat) : Fld := ⟨pg + 0x20, 8, 8, 0, .ro, .ctl⟩
/-- Tables 2.4 to 2.12, [1:1]. First key received -/
def BLK_LOCK.ARMED (pg : Nat) : Fld := ⟨pg + 0x20, 1, 1, 0, .ro, .ctl⟩
/-- Tables 2.4 to 2.12, [0:0]. RWL writes accepted from OWNER -/
def BLK_LOCK.OPEN (pg : Nat) : Fld := ⟨pg + 0x20, 0, 1, 0, .ro, .ctl⟩
/-- Tables 2.4 to 2.12, [5:5]. An injected error was raised -/
def BLK_ERR.INJ_DONE (pg : Nat) : Fld := ⟨pg + 0x24, 5, 1, 0, .w1c, .ctl⟩
/-- Tables 2.4 to 2.12, [4:4]. Parity error in an RWL register -/
def BLK_ERR.REGPAR (pg : Nat) : Fld := ⟨pg + 0x24, 4, 1, 0, .w1c, .ctl⟩
/-- Tables 2.4 to 2.12, [3:3]. Scan did not match BLK_CRC -/
def BLK_ERR.CRC_DRIFT (pg : Nat) : Fld := ⟨pg + 0x24, 3, 1, 0, .w1c, .ctl⟩
/-- Tables 2.4 to 2.12, [2:2]. Write rejected under R38 -/
def BLK_ERR.PLANE (pg : Nat) : Fld := ⟨pg + 0x24, 2, 1, 0, .w1c, .ctl⟩
/-- Tables 2.4 to 2.12, [1:1]. Unsupported size or alignment, or write during soft reset -/
def BLK_ERR.ACCESS (pg : Nat) : Fld := ⟨pg + 0x24, 1, 1, 0, .w1c, .ctl⟩
/-- Tables 2.4 to 2.12, [0:0]. RWL write rejected under R46 -/
def BLK_ERR.LOCK_VIOL (pg : Nat) : Fld := ⟨pg + 0x24, 0, 1, 0, .w1c, .ctl⟩
/-- Tables 2.4 to 2.12, [8:8]. Inject at the next access to this page; clears itself -/
def BLK_ERRINJ.ARM (pg : Nat) : Fld := ⟨pg + 0x28, 8, 1, 0, .rw, .ctl⟩
/-- Tables 2.4 to 2.12, [2:0]. 0 REGPAR, 1 CRC_DRIFT, 2 ACCESS -/
def BLK_ERRINJ.SEL (pg : Nat) : Fld := ⟨pg + 0x28, 0, 3, 0, .rw, .ctl⟩
/-- Tables 2.4 to 2.12, [31:0]. CRC-32C over the RWL registers of the page -/
def BLK_CRC.CRC (pg : Nat) : Fld := ⟨pg + 0x2C, 0, 32, 0, .ro, .ctl⟩

/-! ### Channels (Tables 3.10 to 3.19) -/
/-- Table 3.11, [9:8]. 0 A, 1 B, 2 C -/
def CH_STATE.CHAN (c : Nat) : Fld := ⟨slot c 3 0x40200040 0x4000, 8, 2, c, .ro, .ctl⟩
/-- Table 3.11, [6:5]. Mismatch events in the current cycle, 0–2 -/
def CH_STATE.MM_CYC (c : Nat) : Fld := ⟨slot c 3 0x40200040 0x4000, 5, 2, 0, .ro, .ctl⟩
/-- Table 3.11, [4:4]. Link twin rolling back -/
def CH_STATE.RB_LK (c : Nat) : Fld := ⟨slot c 3 0x40200040 0x4000, 4, 1, 0, .ro, .ctl⟩
/-- Table 3.11, [3:3]. Logic twin rolling back -/
def CH_STATE.RB_LT (c : Nat) : Fld := ⟨slot c 3 0x40200040 0x4000, 3, 1, 0, .ro, .ctl⟩
/-- Table 3.11, [2:0]. Table 3.7 code -/
def CH_STATE.STATE (c : Nat) : Fld := ⟨slot c 3 0x40200040 0x4000, 0, 3, 0, .ro, .ctl⟩
/-- Table 3.12, [31:28]. Loss count within 24 h that leads to BARRED, 1–15; 0 rejected at load -/
def CH_CFG.REINT_MAX (c : Nat) : Fld := ⟨slot c 3 0x40200044 0x4000, 28, 4, 3, .rwl, .ctl⟩
/-- Table 3.12, [26:16]. Link-twin WIN_LEN, 64–1024; other values rejected at load -/
def CH_CFG.LK_WIN (c : Nat) : Fld := ⟨slot c 3 0x40200044 0x4000, 16, 11, 256, .rwl, .ctl⟩
/-- Table 3.12, [10:0]. Logic-twin WIN_LEN, 64–1024; other values rejected at load -/
def CH_CFG.LT_WIN (c : Nat) : Fld := ⟨slot c 3 0x40200044 0x4000, 0, 11, 256, .rwl, .ctl⟩
/-- Table 3.13, [31:16]. Link-twin mismatches since POR, saturating at 0xFFFF -/
def CH_MMCNT.LK (c : Nat) : Fld := ⟨slot c 3 0x40200048 0x4000, 16, 16, 0, .ro, .por⟩
/-- Table 3.13, [15:0]. Logic-twin mismatches since POR, saturating at 0xFFFF -/
def CH_MMCNT.LT (c : Nat) : Fld := ⟨slot c 3 0x40200048 0x4000, 0, 16, 0, .ro, .por⟩
/-- Table 3.10, [31:0]. Logic-twin windows compared equal since CHANNEL reset; wraps -/
def CH_WINCNT_LT.COUNT (c : Nat) : Fld := ⟨slot c 3 0x4020004C 0x4000, 0, 32, 0, .ro, .ctl⟩
/-- Table 3.10, [31:0]. Link-twin windows compared equal since CHANNEL reset; wraps -/
def CH_WINCNT_LK.COUNT (c : Nat) : Fld := ⟨slot c 3 0x40200050 0x4000, 0, 32, 0, .ro, .ctl⟩
/-- Table 3.14, [18:18]. Start-up tests of R91 passed for both twins -/
def CH_INJ.BOOT_OK (c : Nat) : Fld := ⟨slot c 3 0x40200054 0x4000, 18, 1, 0, .ro, .ctl⟩
/-- Table 3.14, [17:17]. Last link-twin injection passed -/
def CH_INJ.LK_LAST_OK (c : Nat) : Fld := ⟨slot c 3 0x40200054 0x4000, 17, 1, 0, .ro, .ctl⟩
/-- Table 3.14, [16:16]. Last logic-twin injection passed -/
def CH_INJ.LT_LAST_OK (c : Nat) : Fld := ⟨slot c 3 0x40200054 0x4000, 16, 1, 0, .ro, .ctl⟩
/-- Table 3.14, [13:8]. Lane of the next link-twin injection -/
def CH_INJ.LK_LANE (c : Nat) : Fld := ⟨slot c 3 0x40200054 0x4000, 8, 6, 0, .ro, .ctl⟩
/-- Table 3.14, [5:0]. Lane of the next logic-twin injection -/
def CH_INJ.LT_LANE (c : Nat) : Fld := ⟨slot c 3 0x40200054 0x4000, 0, 6, 0, .ro, .ctl⟩
/-- Table 3.15, [31:24]. Rollbacks since CHANNEL reset, saturating at 255 -/
def CH_RB.TOTAL (c : Nat) : Fld := ⟨slot c 3 0x40200058 0x4000, 24, 8, 0, .ro, .ctl⟩
/-- Table 3.15, [16:16]. Twin of the last rollback: 0 logic, 1 link -/
def CH_RB.TWIN (c : Nat) : Fld := ⟨slot c 3 0x40200058 0x4000, 16, 1, 0, .ro, .ctl⟩
/-- Table 3.15, [15:0]. Duration of the last rollback in ns, 0–4000 -/
def CH_RB.LAST_NS (c : Nat) : Fld := ⟨slot c 3 0x40200058 0x4000, 0, 16, 0, .ro, .ctl⟩
/-- Table 3.16, [31:24]. Early window closes since CHANNEL reset, saturating at 255 -/
def CH_BUF.EARLY (c : Nat) : Fld := ⟨slot c 3 0x4020005C 0x4000, 24, 8, 0, .ro, .ctl⟩
/-- Table 3.16, [22:16]. Highest replay-log entries in one window, 0–64 -/
def CH_BUF.RPL_HWM (c : Nat) : Fld := ⟨slot c 3 0x4020005C 0x4000, 16, 7, 0, .ro, .ctl⟩
/-- Table 3.16, [8:0]. Highest store-buffer half fill, 0–256 -/
def CH_BUF.SB_HWM (c : Nat) : Fld := ⟨slot c 3 0x4020005C 0x4000, 0, 9, 0, .ro, .ctl⟩
/-- Table 3.17, [23:16]. Double-bit errors since POR, saturating at 255 -/
def CH_ECC.DED (c : Nat) : Fld := ⟨slot c 3 0x40200060 0x4000, 16, 8, 0, .ro, .por⟩
/-- Table 3.17, [15:0]. Corrected errors since POR, saturating at 0xFFFF -/
def CH_ECC.CORR (c : Nat) : Fld := ⟨slot c 3 0x40200060 0x4000, 0, 16, 0, .ro, .por⟩
/-- Table 3.10, [31:0]. Address of the last corrected or detected SRAM error -/
def CH_ECC_ADDR.ADDR (c : Nat) : Fld := ⟨slot c 3 0x40200064 0x4000, 0, 32, 0, .ro, .por⟩
/-- Table 3.18, [31:8]. Low 24 bits of MIR_CYCLE at the last loss (R97) -/
def CH_LOSS.CYCLE (c : Nat) : Fld := ⟨slot c 3 0x40200068 0x4000, 8, 24, 0, .ro, .por⟩
/-- Table 3.18, [3:0]. Table 3.9 code; 0 no loss since POR -/
def CH_LOSS.CAUSE (c : Nat) : Fld := ⟨slot c 3 0x40200068 0x4000, 0, 4, 0, .ro, .por⟩
/-- Table 3.18, [3:0]. Counted losses within the last 24 h of Weir time, saturating at 15 -/
def CH_REINT.LOSSES (c : Nat) : Fld := ⟨slot c 3 0x4020006C 0x4000, 0, 4, 0, .ro, .por⟩
/-- Table 3.19, MM_SIG_LEAD_LO and MM_SIG_LEAD_HI. Lead-core signature of the last mismatching window -/
def MM_SIG_LEAD.SIG (c : Nat) : Fld := ⟨slot c 3 0x40201040 0x4000, 0, 64, 0, .ro, .por⟩
/-- Table 3.19, MM_SIG_TRAIL_LO and MM_SIG_TRAIL_HI. Trailing-core signature of the same window -/
def MM_SIG_TRAIL.SIG (c : Nat) : Fld := ⟨slot c 3 0x40201048 0x4000, 0, 64, 0, .ro, .por⟩
/-- Table 3.19, MM_DIFF_LO and MM_DIFF_HI. Lanes flagged; injected lane shown inverted back -/
def MM_DIFF.LANES (c : Nat) : Fld := ⟨slot c 3 0x40201050 0x4000, 0, 64, 0, .ro, .por⟩
/-- Table 3.19, [31:0]. Window number of the mismatch -/
def MM_WIN.WIN (c : Nat) : Fld := ⟨slot c 3 0x40201058 0x4000, 0, 32, 0, .ro, .por⟩
/-- Table 3.19, [31:8]. Retired count at window start -/
def MM_INFO.COUNT (c : Nat) : Fld := ⟨slot c 3 0x4020105C 0x4000, 8, 24, 0, .ro, .por⟩
/-- Table 3.19, [3:3]. DED-triggered -/
def MM_INFO.DED (c : Nat) : Fld := ⟨slot c 3 0x4020105C 0x4000, 3, 1, 0, .ro, .por⟩
/-- Table 3.19, [2:2]. Parity-triggered -/
def MM_INFO.PARITY (c : Nat) : Fld := ⟨slot c 3 0x4020105C 0x4000, 2, 1, 0, .ro, .por⟩
/-- Table 3.19, [1:1]. Injected window -/
def MM_INFO.INJ (c : Nat) : Fld := ⟨slot c 3 0x4020105C 0x4000, 1, 1, 0, .ro, .por⟩
/-- Table 3.19, [0:0]. 0 logic, 1 link -/
def MM_INFO.TWIN (c : Nat) : Fld := ⟨slot c 3 0x4020105C 0x4000, 0, 1, 0, .ro, .por⟩
/-- Table 19.8, [31:31]. NOTICE latched at the last strobe -/
def CH_CSN.NOTICE (c : Nat) : Fld := ⟨slot c 3 0x40201060 0x4000, 31, 1, 0, .ro, .ctl⟩
/-- Table 19.8, [30:28]. Target state -/
def CH_CSN.TARGET (c : Nat) : Fld := ⟨slot c 3 0x40201060 0x4000, 28, 3, 0, .ro, .ctl⟩
/-- Table 19.8, [0:0]. Runtime halted under R535; cleared at each strobe -/
def CH_CSN.READY (c : Nat) : Fld := ⟨slot c 3 0x40201060 0x4000, 0, 1, 0, .rw, .ctl⟩

/-! ### Confluence (Tables 4.1 to 4.13) -/
/-- Table 4.10, [31:24]. Failed final phases before the target is lost, 1–255; 0 rejected at load -/
def CF_CFG.RS_TRY_MAX : Fld := ⟨0x40300040, 24, 8, 8, .rwl, .ctl⟩
/-- Table 4.10, [15:8]. Voted image words, 1–128; other values rejected at load -/
def CF_CFG.IMG_WORDS : Fld := ⟨0x40300040, 8, 8, 128, .rwl, .ctl⟩
/-- Table 4.10, [6:0]. VOTE_WINDOW in µs, 5–100; other values rejected at load -/
def CF_CFG.VOTE_WIN : Fld := ⟨0x40300040, 0, 7, 20, .rwl, .ctl⟩
/-- Table 4.11, [11:10]. Channel in SYNC: 0 A, 1 B, 2 C, 3 none -/
def CF_MODE.SYNC_CH : Fld := ⟨0x40300044, 10, 2, 3, .ro, .ctl⟩
/-- Table 4.11, [9:8]. 0 idle, 1 bulk, 2 final -/
def CF_MODE.RS_PHASE : Fld := ⟨0x40300044, 8, 2, 0, .ro, .ctl⟩
/-- Table 4.11, [6:4]. Bit n set: channel n in the voting set -/
def CF_MODE.MASK : Fld := ⟨0x40300044, 4, 3, 0, .ro, .ctl⟩
/-- Table 4.11, [1:0]. Table 4.4 code -/
def CF_MODE.MODE : Fld := ⟨0x40300044, 0, 2, 0, .ro, .ctl⟩
/-- Table 4.12, [31:8]. SEQ of the last result voted from this port -/
def CF_PSTAT.LAST_SEQ (n : Nat) : Fld := ⟨slot n 3 0x40300048 0x4, 8, 24, 0, .ro, .ctl⟩
/-- Table 4.12, [5:5]. Last delivery discarded under R105 -/
def CF_PSTAT.OVF (n : Nat) : Fld := ⟨slot n 3 0x40300048 0x4, 5, 1, 0, .ro, .ctl⟩
/-- Table 4.12, [4:4]. Slot parity error since entry to the voting set -/
def CF_PSTAT.PARITY (n : Nat) : Fld := ⟨slot n 3 0x40300048 0x4, 4, 1, 0, .ro, .ctl⟩
/-- Table 4.12, [3:2]. Occupied slots, 0–2 -/
def CF_PSTAT.SLOTS (n : Nat) : Fld := ⟨slot n 3 0x40300048 0x4, 2, 2, 0, .ro, .ctl⟩
/-- Table 4.12, [1:0]. 0 off, 1 resync target, 2 voting -/
def CF_PSTAT.PSTATE (n : Nat) : Fld := ⟨slot n 3 0x40300048 0x4, 0, 2, 0, .ro, .ctl⟩
/-- Table 4.13, [31:16]. First to last arrival in 10 ns ticks, saturating at 0xFFFF -/
def CF_LAST.SPREAD : Fld := ⟨0x40300054, 16, 16, 0, .ro, .ctl⟩
/-- Table 4.13, [11:8]. 0 unanimous, 1 majority, 2 expiry with two equal results, 3 failed -/
def CF_LAST.OUTCOME : Fld := ⟨0x40300054, 8, 4, 0, .ro, .ctl⟩
/-- Table 4.13, [6:4]. Channels in the minority -/
def CF_LAST.MINORITY : Fld := ⟨0x40300054, 4, 3, 0, .ro, .ctl⟩
/-- Table 4.13, [2:0]. Channels whose result arrived in time -/
def CF_LAST.ARRIVED : Fld := ⟨0x40300054, 0, 3, 0, .ro, .ctl⟩
/-- Table 4.13, [31:16]. Windows closed by expiry since POR, saturating at 0xFFFF -/
def CF_CNT.EXPIRED : Fld := ⟨0x40300058, 16, 16, 0, .ro, .por⟩
/-- Table 4.13, [15:0]. Votes with a minority since POR, saturating at 0xFFFF -/
def CF_CNT.MINOR : Fld := ⟨0x40300058, 0, 16, 0, .ro, .por⟩
/-- Table 4.9, [31:0]. Votes since POR, wrapping -/
def CF_VOTES.COUNT : Fld := ⟨0x4030005C, 0, 32, 0, .ro, .por⟩
/-- Table 4.13, [31:16]. Longest closure-to-release time since POR, in ns -/
def CF_HOLD.MAX_NS : Fld := ⟨0x40300060, 16, 16, 0, .ro, .por⟩
/-- Table 4.13, [15:0]. Last closure-to-release time in ns; 100 without reconfiguration -/
def CF_HOLD.LAST_NS : Fld := ⟨0x40300060, 0, 16, 0, .ro, .ctl⟩
/-- Table 4.13, [31:16]. Dirty blocks, 0–28,928 -/
def CF_RS.DIRTY : Fld := ⟨0x40300064, 16, 16, 0, .ro, .ctl⟩
/-- Table 4.13, [15:8]. Failed final phases in the current transfer -/
def CF_RS.TRIES : Fld := ⟨0x40300064, 8, 8, 0, .ro, .ctl⟩

/-! ### Output mirror (04 R133) -/
/-- Table 4.8, [0:0]. Current mirror buffer (R17) -/
def MIR_STAT.CUR : Fld := ⟨0x40800040, 0, 1, 0, .ro, .ctl⟩
/-- Table 4.8, [31:0]. Cycle number of the current buffer -/
def MIR_CYCLE.COUNT : Fld := ⟨0x40800044, 0, 32, 0, .ro, .ctl⟩

/-! ### Weir (Tables 5.9 to 5.11) -/
/-- Table 5.9, [23:16]. First safe-state cause, Table 5.6 -/
def WR_STAT.CAUSE : Fld := ⟨0x50000040, 16, 8, 0, .ro, .weirCtl⟩
/-- Table 5.9, [11:11]. Weir POR since the loader last cleared it -/
def WR_STAT.WPOR : Fld := ⟨0x50000040, 11, 1, 1, .w1c, .weir⟩
/-- Table 5.9, [10:10]. WR_STOFF written since the last Weir POR (R155) -/
def WR_STAT.STOFF_SET : Fld := ⟨0x50000040, 10, 1, 0, .ro, .weir⟩
/-- Table 5.9, [9:9]. MAINT_PERMIT fitted at the last snapshot -/
def WR_STAT.MAINT : Fld := ⟨0x50000040, 9, 1, 0, .ro, .weir⟩
/-- Table 5.9, [8:8]. Inter-die link operating -/
def WR_STAT.LINK_UP : Fld := ⟨0x50000040, 8, 1, 0, .ro, .weir⟩
/-- Table 5.9, [7:7]. Power-fail trigger latched -/
def WR_STAT.PFAIL : Fld := ⟨0x50000040, 7, 1, 0, .ro, .weir⟩
/-- Table 5.9, [6:4]. Weir voting set, bit n channel n -/
def WR_STAT.SET : Fld := ⟨0x50000040, 4, 3, 0, .ro, .weirCtl⟩
/-- Table 5.9, [3:3]. Lockout latched -/
def WR_STAT.LOCKOUT : Fld := ⟨0x50000040, 3, 1, 1, .ro, .weirCtl⟩
/-- Table 5.9, [2:2]. Safe state -/
def WR_STAT.SAFE : Fld := ⟨0x50000040, 2, 1, 1, .ro, .weirCtl⟩
/-- Table 5.9, [0:0]. Self-test passed -/
def WR_STAT.READY : Fld := ⟨0x50000040, 0, 1, 0, .ro, .weirCtl⟩
/-- Table 5.9, [23:23]. Steering word in use -/
def WR_CFG.STEER_EN : Fld := ⟨0x50000044, 23, 1, 0, .rwl, .weir⟩
/-- Table 5.9, [22:16]. Image word carrying the steering, 0–127 -/
def WR_CFG.STEER_WORD : Fld := ⟨0x50000044, 16, 7, 0, .rwl, .weir⟩
/-- Table 5.9, [11:0]. Snapshot period in 250 µs units, 1–4000 -/
def WR_CFG.BASE : Fld := ⟨0x50000044, 0, 12, 4, .rwl, .weir⟩
/-- Table 5.9, [23:16]. Straps read OPEN at the last read -/
def WR_SEAL.OPEN : Fld := ⟨0x50000048, 16, 8, 0, .ro, .weir⟩
/-- Table 5.9, [15:8]. Values at the last read -/
def WR_SEAL.CURRENT : Fld := ⟨0x50000048, 8, 8, 0, .ro, .weir⟩
/-- Table 5.9, [7:0]. Values latched at reset -/
def WR_SEAL.LATCHED : Fld := ⟨0x50000048, 0, 8, 0, .ro, .weir⟩
/-- Table 5.9, [8:8]. PFAIL_N low now -/
def WR_SUP.PFAIL_LOW : Fld := ⟨0x5000004C, 8, 1, 0, .ro, .weir⟩
/-- Table 5.9, [7:0]. Pairs [1:0] VDD_WEIR, [3:2] VDD_WIO, [5:4] VDD_CORE, [7:6] VDD_SRAM; in each pair, bit 0 UV and bit 1 OV, now -/
def WR_SUP.UVOV : Fld := ⟨0x5000004C, 0, 8, 0, .ro, .weir⟩
/-- Table 5.9, [31:16]. Flits failing CRC, saturating at 0xFFFF -/
def WR_LINK.CRCERR : Fld := ⟨0x50001040, 16, 16, 0, .ro, .weir⟩
/-- Table 5.9, [15:8]. Resends, saturating at 255 -/
def WR_LINK.RETRY : Fld := ⟨0x50001040, 8, 8, 0, .ro, .weir⟩
/-- Table 5.9, [1:0]. 0 none, 1 resend limit, 2 silence -/
def WR_LINK.FAIL : Fld := ⟨0x50001040, 0, 2, 0, .ro, .weir⟩
/-- Table 5.10, WR_SNAP_LO and WR_SNAP_HI. Last snapshot -/
def WR_SNAP.SNAP : Fld := ⟨0x50002048, 0, 64, 0, .ro, .weir⟩
/-- Table 5.10, [24:24]. Last steering word clamped -/
def WR_RATE.CLAMP : Fld := ⟨0x50002050, 24, 1, 0, .ro, .weir⟩
/-- Table 5.10, [23:0]. Applied rate, signed ppb -/
def WR_RATE.RATE : Fld := ⟨0x50002050, 0, 24, 0, .ro, .weir⟩
/-- Table 5.10, [31:16]. Last WRC count minus 100,000, signed -/
def WR_RCHK.WRC_DEV : Fld := ⟨0x50002054, 16, 16, 0, .ro, .weir⟩
/-- Table 5.10, [15:0]. Last PER count minus 1,000,000, signed -/
def WR_RCHK.PER_DEV : Fld := ⟨0x50002054, 0, 16, 0, .ro, .weir⟩
/-- Table 5.10, [31:0]. Index k of the last snapshot (R159), wrapping; 0xFFFF_FFFF before the first -/
def WR_SNAPCNT.COUNT : Fld := ⟨0x50002058, 0, 32, 4294967295, .ro, .weirCtl⟩
/-- Table 5.10, WR_STOFF_LO and WR_STOFF_HI. Station offset in ticks, signed 64-bit; written under R155 only -/
def WR_STOFF.STOFF : Fld := ⟨0x5000205C, 0, 64, 0, .rwl, .weir⟩
/-- Table 5.11, [10:8]. Channels differing from V at the last check -/
def WR_VC.DIFF : Fld := ⟨0x50003040, 8, 3, 0, .ro, .weirCtl⟩
/-- Table 5.11, [1:1]. Check open -/
def WR_VC.OPEN : Fld := ⟨0x50003040, 1, 1, 0, .ro, .weirCtl⟩
/-- Table 5.11, [0:0]. Last check passed -/
def WR_VC.PASS : Fld := ⟨0x50003040, 0, 1, 0, .ro, .weirCtl⟩
/-- Table 5.11, [31:0]. Checks passed since POR, wrapping -/
def WR_VCCNT.PASSED : Fld := ⟨0x50003044, 0, 32, 0, .ro, .weir⟩
/-- Table 5.11, [31:0]. Enable of output n in bit n -/
def WR_EN.EN : Fld := ⟨0x50003048, 0, 32, 0, .ro, .weirCtl⟩
/-- Table 5.11, [31:31]. Output n in use -/
def WR_OMAP.USED (n : Nat) : Fld := ⟨slot n 32 0x50003100 0x4, 31, 1, 0, .rwl, .weir⟩
/-- Table 5.11, [30:30]. Output n is a signal -/
def WR_OMAP.SIGNAL (n : Nat) : Fld := ⟨slot n 32 0x50003100 0x4, 30, 1, 0, .rwl, .weir⟩
/-- Table 5.11, [26:16]. Lattice signal, 0–2047 -/
def WR_OMAP.SIGNO (n : Nat) : Fld := ⟨slot n 32 0x50003100 0x4, 16, 11, 0, .rwl, .weir⟩
/-- Table 5.11, [11:0]. Image bit, 0–4095 -/
def WR_OMAP.BIT (n : Nat) : Fld := ⟨slot n 32 0x50003100 0x4, 0, 12, 0, .rwl, .weir⟩
/-- Table 5.11, [31:20]. Period in 250 µs units; 0 for an unused task -/
def WR_TDL.PERIOD (t : Nat) : Fld := ⟨slot t 8 0x50004040 0x4, 20, 12, 0, .rwl, .weir⟩
/-- Table 5.11, [19:0]. Deadline in µs, 1–1,000,000 -/
def WR_TDL.DL (t : Nat) : Fld := ⟨slot t 8 0x50004040 0x4, 0, 20, 0, .rwl, .weir⟩
/-- Table 5.11, [15:0]. Warning lead in µs; 0 disables the warning -/
def WR_WD_CFG.WARN : Fld := ⟨0x50004060, 0, 16, 0, .rwl, .weir⟩
/-- Table 5.11, [19:19]. The last take-out followed a CRC-failed image -/
def WR_WD_STAT.CRC : Fld := ⟨0x50004064, 19, 1, 0, .ro, .weir⟩
/-- Table 5.11, [18:16]. Channel of the last take-out -/
def WR_WD_STAT.LAST_CH : Fld := ⟨0x50004064, 16, 3, 0, .ro, .weir⟩
/-- Table 5.11, [15:0]. Take-outs since POR, saturating at 0xFFFF -/
def WR_WD_STAT.MISSES : Fld := ⟨0x50004064, 0, 16, 0, .ro, .weir⟩

/-! ### Conflict lattice (Tables 6.15 and 6.16) -/
/-- Table 6.16, [31:24]. Update words, 0–96; other values rejected at load -/
def LAT_CFG.UPD_CNT : Fld := ⟨0x50006040, 24, 8, 0, .rwl, .weir⟩
/-- Table 6.16, [22:16]. First update word, 0–127 -/
def LAT_CFG.UPD_BASE : Fld := ⟨0x50006040, 16, 7, 0, .rwl, .weir⟩
/-- Table 6.16, [9:8]. Request words, 0–3 -/
def LAT_CFG.REQ_CNT : Fld := ⟨0x50006040, 8, 2, 0, .rwl, .weir⟩
/-- Table 6.16, [6:0]. First request word, 0–127 -/
def LAT_CFG.REQ_BASE : Fld := ⟨0x50006040, 0, 7, 0, .rwl, .weir⟩
/-- Table 6.16, [26:16]. Route the sweep is evaluating -/
def LAT_STAT.ROUTE : Fld := ⟨0x50006044, 16, 11, 0, .ro, .weir⟩
/-- Table 6.16, [15:12]. SET evaluations in the current pass, 0–12 -/
def LAT_STAT.PASS_REQ : Fld := ⟨0x50006044, 12, 4, 0, .ro, .weir⟩
/-- Table 6.16, [8:8]. Last command ignored under R216; cleared by the next accepted command -/
def LAT_STAT.CMD_ERR : Fld := ⟨0x50006044, 8, 1, 0, .ro, .weir⟩
/-- Table 6.16, [7:7]. Sweep running -/
def LAT_STAT.SWEEP : Fld := ⟨0x50006044, 7, 1, 0, .ro, .weir⟩
/-- Table 6.16, [6:6]. ACTIVE physical bank -/
def LAT_STAT.ACTIVE_ID : Fld := ⟨0x50006044, 6, 1, 0, .ro, .weir⟩
/-- Table 6.16, [2:0]. Table 6.12 code -/
def LAT_STAT.SB_STATE : Fld := ⟨0x50006044, 0, 3, 0, .ro, .weir⟩
/-- Table 6.16, [2:0]. 1 LOAD_BEGIN, 2 LOAD_END, 3 COPY, 4 VERIFY; others ignored with CMD_ERR -/
def LAT_SB_CMD.CMD : Fld := ⟨0x50006048, 0, 3, 0, .wo, .weir⟩
/-- Table 6.16, LAT_CV_LO and LAT_CV_HI. Expected bank check value -/
def LAT_CV.CV : Fld := ⟨0x5000604C, 0, 64, 0, .rwl, .weir⟩
/-- Table 6.16, LAT_CVC_LO and LAT_CVC_HI. Computed bank check value -/
def LAT_CVC.CVC : Fld := ⟨0x50006054, 0, 64, 0, .ro, .weir⟩
/-- Table 6.16, [31:0]. WR_SNAPCNT value of the swap -/
def LAT_SWAP_AT.AT : Fld := ⟨0x5000605C, 0, 32, 0, .rwl, .weir⟩
/-- Table 6.16, [10:8]. 0 none, 1 done, 2 NOT_VERIFIED, 3 BUSY, 4 PENDING, 5 SAFE, 6 LATE -/
def LAT_SWAP.RESULT : Fld := ⟨0x50006060, 8, 3, 0, .ro, .weirCtl⟩
/-- Table 6.16, [0:0]. Swap armed; cleared at refusal or decision -/
def LAT_SWAP.ARM : Fld := ⟨0x50006060, 0, 1, 0, .rwl, .weirCtl⟩
/-- Table 6.16, [16:0]. Last pass length -/
def LAT_PASS.CYCLES : Fld := ⟨0x50006064, 0, 17, 0, .ro, .weir⟩
/-- Table 6.16, [16:0]. Longest pass since Weir POR -/
def LAT_PASS_MAX.CYCLES : Fld := ⟨0x50006068, 0, 17, 0, .ro, .weir⟩
/-- Table 6.16, [31:0]. Passes since Weir POR, wrapping -/
def LAT_PASSCNT.COUNT : Fld := ⟨0x5000606C, 0, 32, 0, .ro, .weir⟩
/-- Table 6.16, [31:28]. Table 6.8 code -/
def LAT_DENY_LAST.REASON : Fld := ⟨0x50007040, 28, 4, 0, .ro, .weir⟩
/-- Table 6.16, [27:16]. Object reported -/
def LAT_DENY_LAST.OBJ : Fld := ⟨0x50007040, 16, 12, 0, .ro, .weir⟩
/-- Table 6.16, [15:15]. 1: NUM is a connection -/
def LAT_DENY_LAST.GATE : Fld := ⟨0x50007040, 15, 1, 0, .ro, .weir⟩
/-- Table 6.16, [10:0]. Route or connection -/
def LAT_DENY_LAST.NUM : Fld := ⟨0x50007040, 0, 11, 0, .ro, .weir⟩
/-- Table 6.16, [31:0]. Grants since Weir POR, wrapping -/
def LAT_GRANTS.COUNT : Fld := ⟨0x50007044, 0, 32, 0, .ro, .weir⟩
/-- Table 6.16, [31:0]. Denials since Weir POR, wrapping -/
def LAT_DENIALS.COUNT : Fld := ⟨0x50007048, 0, 32, 0, .ro, .weir⟩
/-- Table 6.16, [31:0]. Withdrawals since Weir POR, wrapping -/
def LAT_WDRAW.COUNT : Fld := ⟨0x5000704C, 0, 32, 0, .ro, .weir⟩
/-- Table 6.16, [31:16]. RATE denials, saturating at 0xFFFF -/
def LAT_ERRCNT.RATE : Fld := ⟨0x50007050, 16, 16, 0, .ro, .weir⟩
/-- Table 6.16, [15:0]. Ignored update and request words, saturating at 0xFFFF -/
def LAT_ERRCNT.UPD_BAD : Fld := ⟨0x50007050, 0, 16, 0, .ro, .weir⟩
/-- Table 6.16, [15:0]. Corrected bank errors, saturating at 0xFFFF -/
def LAT_ECC.CORR : Fld := ⟨0x50007054, 0, 16, 0, .ro, .weir⟩
/-- Table 6.16, [31:28]. Table 6.14 code -/
def LAT_VERR.ERR : Fld := ⟨0x50007058, 28, 4, 0, .ro, .weir⟩
/-- Table 6.16, [16:0]. Bank word index of the error -/
def LAT_VERR.WORD : Fld := ⟨0x50007058, 0, 17, 0, .ro, .weir⟩
/-- Table 6.16, [11:0]. CHANGED routes, 0–2048 -/
def LAT_CHANGED.COUNT : Fld := ⟨0x5000705C, 0, 12, 0, .ro, .weir⟩

/-! ### Safe input block (Tables 9.7 and 9.8) -/
/-- Table 9.8, [7:0]. Front-end delay in µs, 0–100 -/
def SIN_GCFG.FE_DLY : Fld := ⟨0x40400040, 0, 8, 0, .rwl, .ctl⟩
/-- Table 9.8, [16:0]. Proof age limit in s, 0–86,400 -/
def SIN_AGE.MAX_AGE : Fld := ⟨0x40400044, 0, 17, 0, .rwl, .ctl⟩
/-- Table 9.8, [31:31]. Acknowledgment input in use -/
def SIN_RST.ACK_EN : Fld := ⟨0x40400048, 31, 1, 0, .rwl, .ctl⟩
/-- Table 9.8, [5:0]. Acknowledgment input, 0–63 -/
def SIN_RST.ACK_IN : Fld := ⟨0x40400048, 0, 6, 0, .rwl, .ctl⟩
/-- Table 9.8, SIN_LOG_LO and SIN_LOG_HI. Logical values, bit n input n -/
def SIN_LOG.VAL : Fld := ⟨0x4040004C, 0, 64, 0, .ro, .ctl⟩
/-- Table 9.8, SIN_NORM_LO and SIN_NORM_HI. Status bits, bit n input n -/
def SIN_NORM.VAL : Fld := ⟨0x40400054, 0, 64, 0, .ro, .ctl⟩
/-- Table 9.8, SIN_UNLOCK_LO and SIN_UNLOCK_HI. Unlock request, bit n input n -/
def SIN_UNLOCK.REQ : Fld := ⟨0x4040005C, 0, 64, 0, .w1s, .ctl⟩
/-- Table 9.8, [31:16]. Entries to LOCKOUT since POR, saturating at 0xFFFF -/
def SIN_CNT.LOCKOUTS : Fld := ⟨0x40400064, 16, 16, 0, .ro, .por⟩
/-- Table 9.8, [15:0]. DISCARDED tests since POR, saturating at 0xFFFF -/
def SIN_CNT.DISCARDED : Fld := ⟨0x40400064, 0, 16, 0, .ro, .por⟩
/-- Table 9.8, [14:8]. Inputs whose proof survived, 0–64 -/
def SIN_RET.KEPT : Fld := ⟨0x40400068, 8, 7, 0, .ro, .ctl⟩
/-- Table 9.8, [3:3]. Check value differed at wake -/
def SIN_RET.CV_CHANGED : Fld := ⟨0x40400068, 3, 1, 0, .ro, .ctl⟩
/-- Table 9.8, [2:2]. Retained-state CRC failed -/
def SIN_RET.CRC_FAIL : Fld := ⟨0x40400068, 2, 1, 0, .ro, .ctl⟩
/-- Table 9.8, [1:1]. WPOR read 1 at wake -/
def SIN_RET.WPOR : Fld := ⟨0x40400068, 1, 1, 0, .ro, .ctl⟩
/-- Table 9.8, [0:0]. Retention check passed -/
def SIN_RET.PASS : Fld := ⟨0x40400068, 0, 1, 0, .ro, .ctl⟩
/-- Table 9.8, [31:31]. Input in use -/
def SIN_CFG.USED (n : Nat) : Fld := ⟨slot n 64 0x40401040 0x4, 31, 1, 0, .rwl, .ctl⟩
/-- Table 9.8, [30:30]. Changes to 0 bypass the filter -/
def SIN_CFG.OFF_FAST (n : Nat) : Fld := ⟨slot n 64 0x40401040 0x4, 30, 1, 0, .rwl, .ctl⟩
/-- Table 9.8, [29:28]. Even n only: 0 single, 1 equivalent, 2 antivalent -/
def SIN_CFG.PAIR (n : Nat) : Fld := ⟨slot n 64 0x40401040 0x4, 28, 2, 0, .rwl, .ctl⟩
/-- Table 9.8, [27:26]. 0 NONE, 1 GUARD_CYCLE -/
def SIN_CFG.STARTUP (n : Nat) : Fld := ⟨slot n 64 0x40401040 0x4, 26, 2, 0, .rwl, .ctl⟩
/-- Table 9.8, [25:25]. Unlocked by the acknowledgment pulse -/
def SIN_CFG.ACK (n : Nat) : Fld := ⟨slot n 64 0x40401040 0x4, 25, 1, 0, .rwl, .ctl⟩
/-- Table 9.8, [19:16]. Test source 0–7; 15 none -/
def SIN_CFG.TSRC (n : Nat) : Fld := ⟨slot n 64 0x40401040 0x4, 16, 4, 15, .rwl, .ctl⟩
/-- Table 9.8, [12:0]. Filter in 10 µs units, 0–6550 -/
def SIN_CFG.FILT (n : Nat) : Fld := ⟨slot n 64 0x40401040 0x4, 0, 13, 0, .rwl, .ctl⟩
/-- Table 9.8, [15:0]. Discrepancy time in 10 µs units, 1–65,535 for a pair -/
def SIN_DISC.T_DISC (k : Nat) : Fld := ⟨slot k 32 0x40402040 0x4, 0, 16, 0, .rwl, .ctl⟩
/-- Table 9.8, [31:31]. Source pulses -/
def TOUT_CFG.EN (j : Nat) : Fld := ⟨slot j 8 0x404020C0 0x4, 31, 1, 0, .rwl, .ctl⟩
/-- Table 9.8, [28:16]. Interval in 10 ms units, 1–6000 -/
def TOUT_CFG.TP_INT (j : Nat) : Fld := ⟨slot j 8 0x404020C0 0x4, 16, 13, 0, .rwl, .ctl⟩
/-- Table 9.8, [15:8]. Recovery window in 10 µs units, 1–50 -/
def TOUT_CFG.TP_REC (j : Nat) : Fld := ⟨slot j 8 0x404020C0 0x4, 8, 8, 0, .rwl, .ctl⟩
/-- Table 9.8, [7:0]. Pulse width in 10 µs units, 5–200 -/
def TOUT_CFG.TP_W (j : Nat) : Fld := ⟨slot j 8 0x404020C0 0x4, 0, 8, 0, .rwl, .ctl⟩
/-- Table 9.8, [31:24]. Bit j: the last pulse of source j gave a FAIL -/
def TOUT_STAT.FAIL : Fld := ⟨0x404020E0, 24, 8, 0, .ro, .ctl⟩
/-- Table 9.8, [7:4]. Source in its pulse or recovery window; 15 none -/
def TOUT_STAT.ACTIVE : Fld := ⟨0x404020E0, 4, 4, 15, .ro, .ctl⟩
/-- Table 9.8, [15:0]. Longest wait from due to start, in 10 µs units -/
def TOUT_WAIT.WAIT : Fld := ⟨0x404020E4, 0, 16, 0, .ro, .ctl⟩
/-- Table 9.8, [31:24]. Glitches under R286, saturating at 255 -/
def SIN_ST.GLITCH (n : Nat) : Fld := ⟨slot n 64 0x40403040 0x4, 24, 8, 0, .ro, .ctl⟩
/-- Table 9.8, [19:16]. 0 none, 1 DISC, 2 TEST, 3 CMP -/
def SIN_ST.CAUSE (n : Nat) : Fld := ⟨slot n 64 0x40403040 0x4, 16, 4, 0, .ro, .ctl⟩
/-- Table 9.8, [7:7]. Discrepancy clock running -/
def SIN_ST.DISC (n : Nat) : Fld := ⟨slot n 64 0x40403040 0x4, 7, 1, 0, .ro, .ctl⟩
/-- Table 9.8, [6:6]. Filtered level -/
def SIN_ST.FILT (n : Nat) : Fld := ⟨slot n 64 0x40403040 0x4, 6, 1, 0, .ro, .ctl⟩
/-- Table 9.8, [5:5]. Raw level at the last sample -/
def SIN_ST.RAW (n : Nat) : Fld := ⟨slot n 64 0x40403040 0x4, 5, 1, 0, .ro, .ctl⟩
/-- Table 9.8, [4:3]. Start-up step, 0–2 -/
def SIN_ST.GSTEP (n : Nat) : Fld := ⟨slot n 64 0x40403040 0x4, 3, 2, 0, .ro, .ctl⟩
/-- Table 9.8, [2:0]. Table 9.1 code -/
def SIN_ST.STATE (n : Nat) : Fld := ⟨slot n 64 0x40403040 0x4, 0, 3, 0, .ro, .ctl⟩
/-- Table 9.8, SIN_PROOF_LO and SIN_PROOF_HI. Last proof stamp, Weir time -/
def SIN_PROOF.PROOF (n : Nat) : Fld := ⟨slot n 64 0x40403140 0x8, 0, 64, 0, .ro, .ctl⟩

/-! ### Sluice controller (Tables 10.6 and 10.7) -/
/-- Table 10.7, [29:20]. Switch-on time in µs, 0–500 -/
def SOUT_GCFG.SW_ON : Fld := ⟨0x40500040, 20, 10, 0, .rwl, .ctl⟩
/-- Table 10.7, [19:10]. Switch-off time in µs, 0–500 -/
def SOUT_GCFG.SW_OFF : Fld := ⟨0x40500040, 10, 10, 0, .rwl, .ctl⟩
/-- Table 10.7, [6:0]. Readback delay in µs, 0–100 -/
def SOUT_GCFG.FB_DLY : Fld := ⟨0x40500040, 0, 7, 0, .rwl, .ctl⟩
/-- Table 10.7, [31:31]. Reset input in use -/
def SOUT_RST.IN_EN : Fld := ⟨0x40500044, 31, 1, 0, .rwl, .ctl⟩
/-- Table 10.7, [21:16]. Reset input, 0–63 -/
def SOUT_RST.IN : Fld := ⟨0x40500044, 16, 6, 0, .rwl, .ctl⟩
/-- Table 10.7, [15:0]. Bit g: group g unlocked by the reset pulse -/
def SOUT_RST.GRP_ACK : Fld := ⟨0x40500044, 0, 16, 0, .rwl, .ctl⟩
/-- Table 10.7, [15:0]. 1 requests an unlock of group g under R334 -/
def SOUT_UNLOCK.GRP : Fld := ⟨0x40500048, 0, 16, 0, .w1s, .ctl⟩
/-- Table 10.7, [15:0]. Bit g: group g in LOCKOUT -/
def SOUT_LOCK.GRP : Fld := ⟨0x4050004C, 0, 16, 0, .ro, .ctl⟩
/-- Table 10.7, [31:0]. Readback at the last sample, bit n output n -/
def SOUT_FBV.VAL : Fld := ⟨0x40500050, 0, 32, 0, .ro, .ctl⟩
/-- Table 10.7, [31:0]. DEM_HS, bit n output n -/
def SOUT_DHS.VAL : Fld := ⟨0x40500054, 0, 32, 0, .ro, .ctl⟩
/-- Table 10.7, [31:0]. DEM_LS, bit n output n -/
def SOUT_DLS.VAL : Fld := ⟨0x40500058, 0, 32, 0, .ro, .ctl⟩
/-- Table 10.7, [31:0]. ENV, bit n output n -/
def SOUT_ENV.VAL : Fld := ⟨0x4050005C, 0, 32, 0, .ro, .ctl⟩
/-- Table 10.7, [31:16]. DISCARDED tests since POR, saturating at 0xFFFF -/
def SOUT_CNT.DISCARDED : Fld := ⟨0x40500060, 16, 16, 0, .ro, .por⟩
/-- Table 10.7, [15:8]. Late time-triggered changes (R247) since POR, saturating at 255 -/
def SOUT_CNT.LATE : Fld := ⟨0x40500060, 8, 8, 0, .ro, .por⟩
/-- Table 10.7, [7:0]. Group lockouts since POR, saturating at 255 -/
def SOUT_CNT.LOCKOUTS : Fld := ⟨0x40500060, 0, 8, 0, .ro, .por⟩
/-- Table 10.7, [15:0]. Longest wait from due to start, in 10 µs units -/
def SOUT_WAIT.WAIT : Fld := ⟨0x40500064, 0, 16, 0, .ro, .ctl⟩
/-- Table 10.7, [31:31]. Output in use -/
def SOUT_CFG.USED (n : Nat) : Fld := ⟨slot n 32 0x40501040 0x4, 31, 1, 0, .rwl, .ctl⟩
/-- Table 10.7, [30:27]. Lockout group, 0–15 -/
def SOUT_CFG.GROUP (n : Nat) : Fld := ⟨slot n 32 0x40501040 0x4, 27, 4, 0, .rwl, .ctl⟩
/-- Table 10.7, [26:20]. Image word of the apply time, 0–127 -/
def SOUT_CFG.APPLY_WORD (n : Nat) : Fld := ⟨slot n 32 0x40501040 0x4, 20, 7, 0, .rwl, .ctl⟩
/-- Table 10.7, [19:19]. Output is time-triggered -/
def SOUT_CFG.TT (n : Nat) : Fld := ⟨slot n 32 0x40501040 0x4, 19, 1, 0, .rwl, .ctl⟩
/-- Table 10.7, [11:0]. Image bit, 0–4095 -/
def SOUT_CFG.BIT (n : Nat) : Fld := ⟨slot n 32 0x40501040 0x4, 0, 12, 0, .rwl, .ctl⟩
/-- Table 10.7, [31:19]. Interval in 10 ms units, 2–6000 -/
def SOUT_TCFG.INT (n : Nat) : Fld := ⟨slot n 32 0x405010C0 0x4, 19, 13, 0, .rwl, .ctl⟩
/-- Table 10.7, [15:8]. Recovery window in 10 µs units, 1–50 -/
def SOUT_TCFG.REC (n : Nat) : Fld := ⟨slot n 32 0x405010C0 0x4, 8, 8, 0, .rwl, .ctl⟩
/-- Table 10.7, [6:0]. Pulse width in 10 µs units, 5–100 -/
def SOUT_TCFG.PW (n : Nat) : Fld := ⟨slot n 32 0x405010C0 0x4, 0, 7, 0, .rwl, .ctl⟩
/-- Table 10.7, [31:24]. PASS results since entry to ON, saturating at 255 -/
def SOUT_ST.PASSES (n : Nat) : Fld := ⟨slot n 32 0x40501140 0x4, 24, 8, 0, .ro, .ctl⟩
/-- Table 10.7, [19:16]. 0 none, 1 STUCK, 2 NO_RECOVER, 3 DROPOUT, 4 ON_FAIL, 5 OFF_FB, 6 CMP, 7 GROUP (locked with a failing partner) -/
def SOUT_ST.CAUSE (n : Nat) : Fld := ⟨slot n 32 0x40501140 0x4, 16, 4, 0, .ro, .ctl⟩
/-- Table 10.7, [4:4]. Side of the current or last test: 0 HS, 1 LS -/
def SOUT_ST.SIDE (n : Nat) : Fld := ⟨slot n 32 0x40501140 0x4, 4, 1, 0, .ro, .ctl⟩
/-- Table 10.7, [2:0]. Table 10.1 code -/
def SOUT_ST.STATE (n : Nat) : Fld := ⟨slot n 32 0x40501140 0x4, 0, 3, 0, .ro, .ctl⟩

/-! ### Maintenance gate page: commissioning, faults, ledger (Tables 11.4, 20.9, 21.8) -/
/-- Table 20.9, [31:31]. Unit CONFIRMED -/
def CFG_STAT.CONFIRMED : Fld := ⟨0x40700100, 31, 1, 0, .ro, .ctl⟩
/-- Table 20.9, [30:30]. Defaults applied (R573) -/
def CFG_STAT.DEFAULTS : Fld := ⟨0x40700100, 30, 1, 0, .ro, .ctl⟩
/-- Table 20.9, [29:29]. CFG_CV differs from the package value -/
def CFG_STAT.MISMATCH : Fld := ⟨0x40700100, 29, 1, 0, .ro, .ctl⟩
/-- Table 20.9, [28:28]. CFG_CV written from a voted loader frame since the last reset -/
def CFG_STAT.CV_VALID : Fld := ⟨0x40700100, 28, 1, 0, .ro, .ctl⟩
/-- Table 20.9, CFG_CV_LO and CFG_CV_HI. Voted check value -/
def CFG_CV.CV : Fld := ⟨0x40700104, 0, 64, 0, .ro, .ctl⟩
/-- Table 20.9, ACT_AT_LO and ACT_AT_HI. Activation Weir time -/
def ACT_AT.AT : Fld := ⟨0x4070010C, 0, 64, 0, .ro, .ctl⟩
/-- Table 20.9, [31:31]. Activation armed -/
def ACT_CFG.ARM : Fld := ⟨0x40700114, 31, 1, 0, .ro, .ctl⟩
/-- Table 20.9, [0:0]. Slot to activate -/
def ACT_CFG.SLOT : Fld := ⟨0x40700114, 0, 1, 0, .ro, .ctl⟩
/-- Table 20.9, CFG_PKGCV_LO and CFG_PKGCV_HI. Check value of the CURRENT package (R554) -/
def CFG_PKGCV.CV : Fld := ⟨0x40700118, 0, 64, 0, .ro, .ctl⟩
/-- Table 21.8, [30:30]. R581 -/
def FLT_STAT.CAPTURED : Fld := ⟨0x40700200, 30, 1, 0, .ro, .aon⟩
/-- Table 21.8, [29:29]. Capture holds a safe-state entry -/
def FLT_STAT.VALID : Fld := ⟨0x40700200, 29, 1, 0, .ro, .aon⟩
/-- Table 21.8, [28:28]. R583; cleared only by LOCKOUT_RESET -/
def FLT_STAT.HELD : Fld := ⟨0x40700200, 28, 1, 0, .ro, .aon⟩
/-- Table 21.8, [19:16]. Last gate command of Table 21.3: 0 none, 1 accepted, 2–6 refusal status -/
def FLT_STAT.LAST_RST : Fld := ⟨0x40700200, 16, 4, 0, .ro, .aon⟩
/-- Table 21.8, [1:0]. Class of the last fault recorded -/
def FLT_STAT.LAST_CLASS : Fld := ⟨0x40700200, 0, 2, 0, .ro, .aon⟩
/-- Table 21.8, [15:0]. Table 21.2 -/
def FLT_FIRST.FCODE : Fld := ⟨0x40700204, 0, 16, 0, .ro, .aon⟩
/-- Table 21.8, FLT_FTIME_LO and FLT_FTIME_HI. Weir time of entry -/
def FLT_FTIME.VAL : Fld := ⟨0x40700208, 0, 64, 0, .ro, .aon⟩
/-- Table 21.8, [31:0]. MIR_CYCLE at entry -/
def FLT_CYCLE.VAL : Fld := ⟨0x40700210, 0, 32, 0, .ro, .aon⟩
/-- Table 21.8, [31:16]. Saturating at 0xFFFF -/
def FLT_CNT.UNIT_SAFE : Fld := ⟨0x40700214, 16, 16, 0, .ro, .por⟩
/-- Table 21.8, [15:8]. Saturating at 255 -/
def FLT_CNT.CH_LOST : Fld := ⟨0x40700214, 8, 8, 0, .ro, .por⟩
/-- Table 21.8, [7:0]. Saturating at 255 -/
def FLT_CNT.NONSAFETY : Fld := ⟨0x40700214, 0, 8, 0, .ro, .por⟩
/-- Table 21.8, [31:0]. Captured register k of Table 21.7 -/
def FLT_CAP.VAL (k : Nat) : Fld := ⟨slot k 12 0x40700240 0x4, 0, 32, 0, .ro, .aon⟩
/-- Table 11.4, [31:31]. Results written for the configuration in force -/
def LED_STAT.VALID : Fld := ⟨0x40700400, 31, 1, 0, .ro, .ctl⟩
/-- Table 11.4, [30:30]. At least one chain exceeds its budget -/
def LED_STAT.OVER : Fld := ⟨0x40700400, 30, 1, 0, .ro, .ctl⟩
/-- Table 11.4, [23:16]. Lowest chain index over budget; valid when OVER = 1 -/
def LED_STAT.FIRST : Fld := ⟨0x40700400, 16, 8, 0, .ro, .ctl⟩
/-- Table 11.4, [7:0]. Chains with KIND ≠ 0, 0–240 -/
def LED_STAT.NCHAIN : Fld := ⟨0x40700400, 0, 8, 0, .ro, .ctl⟩
/-- Table 11.4, [31:31]. Result exceeds LED_BUDGET[i] -/
def LED_RESULT.OVER (i : Nat) : Fld := ⟨slot i 240 0x40700440 0x4, 31, 1, 0, .ro, .ctl⟩
/-- Table 11.4, [23:0]. Worst case in µs, saturating at 0xFF_FFFF -/
def LED_RESULT.WC (i : Nat) : Fld := ⟨slot i 240 0x40700440 0x4, 0, 24, 0, .ro, .ctl⟩
/-- Table 11.4, [31:28]. Table 11.1; 0 unused -/
def LED_DEF.KIND (i : Nat) : Fld := ⟨slot i 240 0x40700800 0x8, 28, 4, 0, .rwl, .ctl⟩
/-- Table 11.4, [27:25]. Task of the chain, 0–7 -/
def LED_DEF.TASK (i : Nat) : Fld := ⟨slot i 240 0x40700800 0x8, 25, 3, 0, .rwl, .ctl⟩
/-- Table 11.4, [24:24]. 1: source is a ZST connection; 1 required for KIND 3, 0 for KIND 1 and 2 -/
def LED_DEF.SRC_Z (i : Nat) : Fld := ⟨slot i 240 0x40700800 0x8, 24, 1, 0, .rwl, .ctl⟩
/-- Table 11.4, [20:12]. Input 0–63, or connection 0–511 -/
def LED_DEF.SRC (i : Nat) : Fld := ⟨slot i 240 0x40700800 0x8, 12, 9, 0, .rwl, .ctl⟩
/-- Table 11.4, [8:0]. Output 0–31, or connection 0–511 for KIND 2 -/
def LED_DEF.END (i : Nat) : Fld := ⟨slot i 240 0x40700800 0x8, 0, 9, 0, .rwl, .ctl⟩
/-- Table 11.4, [23:0]. Process safety time in µs, 1–16,777,214 -/
def LED_BUDGET.PST (i : Nat) : Fld := ⟨slot i 240 0x40700804 0x8, 0, 24, 0, .rwl, .ctl⟩

/-! ### ZST engine, partner and time registers (Tables 12.13, 13.10, 14.7) -/
/-- Table 12.13, [31:0]. Own ID under R350 -/
def ZST_ID.ID : Fld := ⟨0x40600040, 0, 32, 0, .rwl, .ctl⟩
/-- Table 12.13, [31:16]. Network identifier -/
def ZST_GCFG.NET_ID : Fld := ⟨0x40600044, 16, 16, 0, .rwl, .ctl⟩
/-- Table 12.13, [15:10]. Frames per batch ÷ 16, 1–63 -/
def ZST_GCFG.RX_FR : Fld := ⟨0x40600044, 10, 6, 0, .rwl, .ctl⟩
/-- Table 12.13, [9:0]. Time tolerance in µs, 1–1,000 -/
def ZST_GCFG.TS_TOL : Fld := ⟨0x40600044, 0, 10, 0, .rwl, .ctl⟩
/-- Table 12.13, [31:8]. Epoch sent -/
def ZST_CLAIM.EPOCH : Fld := ⟨0x40600048, 8, 24, 0, .rwl, .ctl⟩
/-- Table 12.13, [7:0]. Rank sent -/
def ZST_CLAIM.RANK : Fld := ⟨0x40600048, 0, 8, 0, .rwl, .ctl⟩
/-- Table 12.13, [21:0]. Offset from 0x1040_0000, multiple of 32 -/
def ZST_CTOFF.OFF : Fld := ⟨0x4060004C, 0, 22, 0, .rwl, .ctl⟩
/-- Table 12.13, [21:0]. Offset from 0x1040_0000, multiple of 32 -/
def ZST_KTOFF.OFF : Fld := ⟨0x40600050, 0, 22, 0, .rwl, .ctl⟩
/-- Table 12.13, [31:16]. Frames dropped under R365, saturating at 0xFFFF -/
def ZST_RXCNT.DROP : Fld := ⟨0x40600054, 16, 16, 0, .ro, .ctl⟩
/-- Table 12.13, [15:0]. Highest store fill in 16-byte units -/
def ZST_RXCNT.STORE_HWM : Fld := ⟨0x40600054, 0, 16, 0, .ro, .ctl⟩
/-- Table 13.10, [31:25]. Mirrored data pages, 0–63 -/
def PR_CFG.MIR_PAGES : Fld := ⟨0x40600058, 25, 7, 0, .rwl, .ctl⟩
/-- Table 13.10, [23:20]. Mirror frames per task-0 delivery, 1–8 -/
def PR_CFG.MIR_RATE : Fld := ⟨0x40600058, 20, 4, 0, .rwl, .ctl⟩
/-- Table 13.10, [13:0]. Join wait in ms, 100–10,000 -/
def PR_CFG.JOIN_WAIT : Fld := ⟨0x40600058, 0, 14, 0, .rwl, .ctl⟩
/-- Table 13.10, [24:16]. TX connection, 0–511 (Table 13.2); unused in PR_PEER of a witness -/
def PR_HB.TX : Fld := ⟨0x4060005C, 16, 9, 0, .rwl, .ctl⟩
/-- Table 13.10, [8:0]. RX connection, 0–511 (Table 13.2); unused in PR_MIR of a witness -/
def PR_HB.RX : Fld := ⟨0x4060005C, 0, 9, 0, .rwl, .ctl⟩
/-- Table 13.10, [24:16]. TX connection, 0–511 (Table 13.2); unused in PR_PEER of a witness -/
def PR_PEER.TX : Fld := ⟨0x40600060, 16, 9, 0, .rwl, .ctl⟩
/-- Table 13.10, [8:0]. RX connection, 0–511 (Table 13.2); unused in PR_MIR of a witness -/
def PR_PEER.RX : Fld := ⟨0x40600060, 0, 9, 0, .rwl, .ctl⟩
/-- Table 13.10, [24:16]. TX connection, 0–511 (Table 13.2); unused in PR_PEER of a witness -/
def PR_MIR.TX : Fld := ⟨0x40600064, 16, 9, 0, .rwl, .ctl⟩
/-- Table 13.10, [8:0]. RX connection, 0–511 (Table 13.2); unused in PR_MIR of a witness -/
def PR_MIR.RX : Fld := ⟨0x40600064, 0, 9, 0, .rwl, .ctl⟩
/-- Table 13.10, [31:31]. Written for the configuration in force -/
def PR_STAT.VALID : Fld := ⟨0x40600068, 31, 1, 0, .ro, .ctl⟩
/-- Table 13.10, [30:28]. Table 13.4 code; 0 in a witness -/
def PR_STAT.STATE : Fld := ⟨0x40600068, 28, 3, 0, .ro, .ctl⟩
/-- Table 13.10, [27:27]. Return request pending -/
def PR_STAT.RETURNING : Fld := ⟨0x40600068, 27, 1, 0, .ro, .ctl⟩
/-- Table 13.10, [26:26]. R396 -/
def PR_STAT.ISOLATED : Fld := ⟨0x40600068, 26, 1, 0, .ro, .ctl⟩
/-- Table 13.10, [25:25]. Witness heartbeat LIVE; in a witness, rank-1 partner LIVE -/
def PR_STAT.WIT_LIVE : Fld := ⟨0x40600068, 25, 1, 0, .ro, .ctl⟩
/-- Table 13.10, [24:24]. Partner heartbeat LIVE; in a witness, rank-2 partner LIVE -/
def PR_STAT.PTR_LIVE : Fld := ⟨0x40600068, 24, 1, 0, .ro, .ctl⟩
/-- Table 13.10, [14:8]. Mirror pages synchronised, 0–64 -/
def PR_STAT.SYNCED : Fld := ⟨0x40600068, 8, 7, 0, .ro, .ctl⟩
/-- Table 13.10, [31:8]. Partner: highest epoch seen; witness: E -/
def PR_HIGH.EPOCH : Fld := ⟨0x4060006C, 8, 24, 0, .ro, .ctl⟩
/-- Table 13.10, [7:0]. Rank of that claim; witness: holder rank -/
def PR_HIGH.RANK : Fld := ⟨0x4060006C, 0, 8, 0, .ro, .ctl⟩
/-- Table 14.7, [31:28]. 0 gPTP; 1–4 beacons of T1S 0–3; 8–11 beacons of CAN0–3 -/
def TM_CFG.SRC : Fld := ⟨0x40600070, 28, 4, 0, .rwl, .ctl⟩
/-- Table 14.7, [7:0]. gPTP domain, 0–127 -/
def TM_CFG.DOMAIN : Fld := ⟨0x40600070, 0, 8, 0, .rwl, .ctl⟩
/-- Table 14.6, TM_OFF_LO and TM_OFF_HI. Station time minus Weir time, ns, signed 64-bit -/
def TM_OFF.OFF : Fld := ⟨0x40600074, 0, 64, 0, .ro, .ctl⟩
/-- Table 14.6, [31:0]. Source rate relative to Weir time, ppb, signed -/
def TM_NRR.PPB : Fld := ⟨0x4060007C, 0, 32, 0, .ro, .ctl⟩
/-- Table 14.7, [31:16]. Measurements, wrapping -/
def TM_STAT.MEAS : Fld := ⟨0x40600080, 16, 16, 0, .ro, .ctl⟩
/-- Table 14.7, [7:4]. Port of the last measurement, numbered as p; 15 none -/
def TM_STAT.PORT : Fld := ⟨0x40600080, 4, 4, 15, .ro, .ctl⟩
/-- Table 14.7, [3:3]. TM_STOFF written since the last reset of the page (R422) -/
def TM_STAT.STOFF : Fld := ⟨0x40600080, 3, 1, 0, .ro, .ctl⟩
/-- Table 14.7, [2:2]. Slave port asCapable -/
def TM_STAT.AS_CAPABLE : Fld := ⟨0x40600080, 2, 1, 0, .ro, .ctl⟩
/-- Table 14.7, [1:1]. R421 -/
def TM_STAT.LOCKED : Fld := ⟨0x40600080, 1, 1, 0, .ro, .ctl⟩
/-- Table 14.7, [0:0]. A measurement has arrived since ACTIVE entry -/
def TM_STAT.VALID : Fld := ⟨0x40600080, 0, 1, 0, .ro, .ctl⟩
/-- Table 14.7, TM_STOFF_LO and TM_STOFF_HI. Copy of WR_STOFF (R422), ticks, signed 64-bit -/
def TM_STOFF.STOFF : Fld := ⟨0x40600084, 0, 64, 0, .rwl, .ctl⟩
/-- Table 12.13, [24:16]. Loader connection, 0–511 -/
def ZST_SELF.LOADER : Fld := ⟨0x4060008C, 16, 9, 0, .rwl, .ctl⟩
/-- Table 12.13, [8:0]. Retain connection, 0–511 -/
def ZST_SELF.RETAIN : Fld := ⟨0x4060008C, 0, 9, 0, .rwl, .ctl⟩
/-- Table 12.13, [31:31]. A frame was started -/
def ZST_RX_HDR.VALID : Fld := ⟨0x40601040, 31, 1, 0, .ro, .ctl⟩
/-- Table 12.13, [30:27]. Arrival port -/
def ZST_RX_HDR.PORT : Fld := ⟨0x40601040, 27, 4, 0, .ro, .ctl⟩
/-- Table 12.13, [26:16]. Frame bytes, 40–1,064 -/
def ZST_RX_HDR.LEN : Fld := ⟨0x40601040, 16, 11, 0, .ro, .ctl⟩
/-- Table 12.13, [15:0]. Batch number, low 16 bits -/
def ZST_RX_HDR.BATCH : Fld := ⟨0x40601040, 0, 16, 0, .ro, .ctl⟩
/-- Table 12.13, [31:0]. Frame bytes in order -/
def ZST_RX_DAT.DATA : Fld := ⟨0x40601044, 0, 32, 0, .ro, .ctl⟩
/-- Table 12.13, [31:31]. Connection in use -/
def ZST_CONN.USED (c : Nat) : Fld := ⟨slot c 512 0x40602040 0x4, 31, 1, 0, .rwl, .ctl⟩
/-- Table 12.13, [30:30]. 0 RX, 1 TX -/
def ZST_CONN.DIR (c : Nat) : Fld := ⟨slot c 512 0x40602040 0x4, 30, 1, 0, .rwl, .ctl⟩
/-- Table 12.13, [29:29]. Addressed to the unit itself; never transmitted -/
def ZST_CONN.SELF (c : Nat) : Fld := ⟨slot c 512 0x40602040 0x4, 29, 1, 0, .rwl, .ctl⟩
/-- Table 12.13, [26:23]. Port 0–11; 15 none -/
def ZST_CONN.PORT_A (c : Nat) : Fld := ⟨slot c 512 0x40602040 0x4, 23, 4, 15, .rwl, .ctl⟩
/-- Table 12.13, [22:19]. Second port 0–11; 15 none -/
def ZST_CONN.PORT_B (c : Nat) : Fld := ⟨slot c 512 0x40602040 0x4, 19, 4, 15, .rwl, .ctl⟩
/-- Table 12.13, [15:0]. Connection identifier -/
def ZST_CONN.CID (c : Nat) : Fld := ⟨slot c 512 0x40602040 0x4, 0, 16, 0, .rwl, .ctl⟩
/-- Table 12.13, [31:30]. EN 50159 category, 1–3 -/
def ZST_PCFG.CAT (p : Nat) : Fld := ⟨slot p 12 0x40602900 0x8, 30, 2, 3, .rwl, .ctl⟩
/-- Table 12.13, [23:16]. Frames per base cycle, 1–255 -/
def ZST_PCFG.TXQ_FR (p : Nat) : Fld := ⟨slot p 12 0x40602900 0x8, 16, 8, 0, .rwl, .ctl⟩
/-- Table 12.13, [15:0]. Frame bytes per base cycle, 40–65,535 -/
def ZST_PCFG.TXQ_B (p : Nat) : Fld := ⟨slot p 12 0x40602900 0x8, 0, 16, 0, .rwl, .ctl⟩
/-- Table 12.13, [31:16]. T1S: other nodes' wire bytes per PLCA cycle; CAN: CAN_BLK in µs -/
def ZST_PCFG2.OTH (p : Nat) : Fld := ⟨slot p 12 0x40602904 0x8, 16, 16, 0, .rwl, .ctl⟩
/-- Table 12.13, [31:16]. Strangers, saturating at 0xFFFF -/
def ZST_PSTAT.STRANGER (p : Nat) : Fld := ⟨slot p 12 0x40602980 0x4, 16, 16, 0, .ro, .ctl⟩
/-- Table 12.13, [15:0]. Frames discarded under R362, saturating at 0xFFFF -/
def ZST_PSTAT.TXDROP (p : Nat) : Fld := ⟨slot p 12 0x40602980 0x4, 0, 16, 0, .ro, .ctl⟩
/-- Table 12.13, [31:0]. Peer ID -/
def ZST_PEER.PEER (c : Nat) : Fld := ⟨slot c 512 0x40603040 0x4, 0, 32, 0, .rwl, .ctl⟩

/-! ### Field ports (Tables 14.6 and 14.7). `pg` is the address of page 0 of the port instance. -/
/-- Table 14.7, [31:30]. 0 SAFE, 1 DATA, 2 MGMT, 3 SERVICE; reads 3 on the service port and ignores writes there -/
def PORT_CFG.CLASS (pg : Nat) : Fld := ⟨pg + 0x40, 30, 2, 1, .rwl, .ctl⟩
/-- Table 14.7, [29:26]. T1S: 0 PLCA, 1 CSMA/CD only; T1: 0 slave, 1 master; CAN: Table 14.4; others 0 -/
def PORT_CFG.MODE (pg : Nat) : Fld := ⟨pg + 0x40, 26, 4, 0, .rwl, .ctl⟩
/-- Table 14.7, [25:25]. T1 ports: gPTP enabled -/
def PORT_CFG.GPTP_EN (pg : Nat) : Fld := ⟨pg + 0x40, 25, 1, 0, .rwl, .ctl⟩
/-- Table 14.7, [24:24]. T1S and CAN: time beacons sent -/
def PORT_CFG.BEACON_EN (pg : Nat) : Fld := ⟨pg + 0x40, 24, 1, 0, .rwl, .ctl⟩
/-- Table 14.7, [23:23]. T1 ports: 802.1CB in use -/
def PORT_CFG.CB_EN (pg : Nat) : Fld := ⟨pg + 0x40, 23, 1, 0, .rwl, .ctl⟩
/-- Table 14.7, [14:12]. VLAN priority -/
def PORT_CFG.PCP (pg : Nat) : Fld := ⟨pg + 0x40, 12, 3, 6, .rwl, .ctl⟩
/-- Table 14.7, [11:0]. VLAN identifier, 1–4094 -/
def PORT_CFG.VID (pg : Nat) : Fld := ⟨pg + 0x40, 0, 12, 0, .rwl, .ctl⟩
/-- Table 14.7, [31:16]. Frames dropped under R409, saturating at 0xFFFF -/
def PORT_STAT.CLASS_DROP (pg : Nat) : Fld := ⟨pg + 0x44, 16, 16, 0, .ro, .ctl⟩
/-- Table 14.7, [4:4]. Port is the gPTP slave port -/
def PORT_STAT.GP_SLAVE (pg : Nat) : Fld := ⟨pg + 0x44, 4, 1, 0, .ro, .ctl⟩
/-- Table 14.7, [3:3]. CAN error passive -/
def PORT_STAT.ERR_PASSIVE (pg : Nat) : Fld := ⟨pg + 0x44, 3, 1, 0, .ro, .ctl⟩
/-- Table 14.7, [2:2]. CAN bus-off -/
def PORT_STAT.BUS_OFF (pg : Nat) : Fld := ⟨pg + 0x44, 2, 1, 0, .ro, .ctl⟩
/-- Table 14.7, [1:1]. T1S in PLCA -/
def PORT_STAT.PLCA_ACTIVE (pg : Nat) : Fld := ⟨pg + 0x44, 1, 1, 0, .ro, .ctl⟩
/-- Table 14.7, [0:0]. Link up, or CAN error active or passive -/
def PORT_STAT.LINK (pg : Nat) : Fld := ⟨pg + 0x44, 0, 1, 0, .ro, .ctl⟩
/-- Table 14.7, [31:16]. Frames with FCS, CRC, length or framing errors, saturating -/
def PORT_CNT.RXERR (pg : Nat) : Fld := ⟨pg + 0x48, 16, 16, 0, .ro, .ctl⟩
/-- Table 14.7, [15:0]. Frames failing address, VLAN or identifier filters, saturating -/
def PORT_CNT.FILT_DROP (pg : Nat) : Fld := ⟨pg + 0x48, 0, 16, 0, .ro, .ctl⟩
/-- Table 14.6, [31:0]. MAC bytes 2-5 -/
def PORT_MAC_LO.MAC (pg : Nat) : Fld := ⟨pg + 0x4C, 0, 32, 0, .rwl, .ctl⟩
/-- Table 14.6, [15:0]. MAC bytes 0-1 -/
def PORT_MAC_HI.MAC (pg : Nat) : Fld := ⟨pg + 0x50, 0, 16, 0, .rwl, .ctl⟩
/-- Table 14.7, [19:16]. Burst count, 0–15 -/
def T1S_PLCA.BURST (pg : Nat) : Fld := ⟨pg + 0x1040, 16, 4, 0, .rwl, .ctl⟩
/-- Table 14.7, [15:8]. Node count, 1–32 -/
def T1S_PLCA.NCNT (pg : Nat) : Fld := ⟨pg + 0x1040, 8, 8, 1, .rwl, .ctl⟩
/-- Table 14.7, [4:0]. Node ID; 0 coordinator -/
def T1S_PLCA.NODE_ID (pg : Nat) : Fld := ⟨pg + 0x1040, 0, 5, 0, .rwl, .ctl⟩
/-- Table 14.7, [31:16]. PLCA changes to CSMA/CD, saturating -/
def T1S_STAT.BCN_MISS (pg : Nat) : Fld := ⟨pg + 0x1044, 16, 16, 0, .ro, .ctl⟩
/-- Table 14.7, [15:0]. Collisions, saturating -/
def T1S_STAT.COLL (pg : Nat) : Fld := ⟨pg + 0x1044, 0, 16, 0, .ro, .ctl⟩
/-- Table 14.7, [25:20]. History length, 2–32 -/
def CB_CFG.CB_HIST (pg : Nat) : Fld := ⟨pg + 0x1040, 20, 6, 2, .rwl, .ctl⟩
/-- Table 14.7, [9:0]. Recovery reset time in ms, 1–1,000 -/
def CB_CFG.CB_RST (pg : Nat) : Fld := ⟨pg + 0x1040, 0, 10, 1, .rwl, .ctl⟩
/-- Table 14.7, [31:24]. Prescaler − 1; 0–31 nominal, 0–3 data -/
def CAN_NBT.BRP (pg : Nat) : Fld := ⟨pg + 0x1040, 24, 8, 0, .rwl, .ctl⟩
/-- Table 14.7, [23:16]. Propagation and phase 1 in tq − 1, 1–255 -/
def CAN_NBT.TSEG1 (pg : Nat) : Fld := ⟨pg + 0x1040, 16, 8, 0, .rwl, .ctl⟩
/-- Table 14.7, [15:8]. Phase 2 in tq − 1, 0–127 -/
def CAN_NBT.TSEG2 (pg : Nat) : Fld := ⟨pg + 0x1040, 8, 8, 0, .rwl, .ctl⟩
/-- Table 14.7, [7:0]. Jump width in tq − 1, not above TSEG2 -/
def CAN_NBT.SJW (pg : Nat) : Fld := ⟨pg + 0x1040, 0, 8, 0, .rwl, .ctl⟩
/-- Table 14.7, [31:24]. Prescaler − 1; 0–31 nominal, 0–3 data -/
def CAN_DBT.BRP (pg : Nat) : Fld := ⟨pg + 0x1044, 24, 8, 0, .rwl, .ctl⟩
/-- Table 14.7, [23:16]. Propagation and phase 1 in tq − 1, 1–255 -/
def CAN_DBT.TSEG1 (pg : Nat) : Fld := ⟨pg + 0x1044, 16, 8, 0, .rwl, .ctl⟩
/-- Table 14.7, [15:8]. Phase 2 in tq − 1, 0–127 -/
def CAN_DBT.TSEG2 (pg : Nat) : Fld := ⟨pg + 0x1044, 8, 8, 0, .rwl, .ctl⟩
/-- Table 14.7, [7:0]. Jump width in tq − 1, not above TSEG2 -/
def CAN_DBT.SJW (pg : Nat) : Fld := ⟨pg + 0x1044, 0, 8, 0, .rwl, .ctl⟩
/-- Table 14.7, [31:24]. CAN XL service data unit type for ZST and beacons -/
def CAN_ZCFG.SDT (pg : Nat) : Fld := ⟨pg + 0x1048, 24, 8, 0, .rwl, .ctl⟩
/-- Table 14.7, [28:0]. Receive identifier, receive mask, beacon identifier -/
def CAN_ZRX.ID (pg : Nat) : Fld := ⟨pg + 0x104C, 0, 29, 0, .rwl, .ctl⟩
/-- Table 14.7, [28:0]. Receive identifier, receive mask, beacon identifier -/
def CAN_ZMSK.ID (pg : Nat) : Fld := ⟨pg + 0x1050, 0, 29, 0, .rwl, .ctl⟩
/-- Table 14.7, [28:0]. Receive identifier, receive mask, beacon identifier -/
def CAN_BCN.ID (pg : Nat) : Fld := ⟨pg + 0x1054, 0, 29, 0, .rwl, .ctl⟩
/-- Table 14.7, [28:0]. Identifier of transmitted ZST frames (R426); bits [10:0] are the CAN XL priority identifier -/
def CAN_ZTX.TXID (pg : Nat) : Fld := ⟨pg + 0x1058, 0, 29, 0, .rwl, .ctl⟩
/-- Table 14.7, [31:8]. Bit time in PER cycles, 10–83,333 -/
def UART_CFG.DIV (pg : Nat) : Fld := ⟨pg + 0x54, 8, 24, 0, .rwl, .ctl⟩
/-- Table 14.7, [2:1]. 0 none, 1 even, 2 odd -/
def UART_CFG.PAR (pg : Nat) : Fld := ⟨pg + 0x54, 1, 2, 0, .rwl, .ctl⟩
/-- Table 14.7, [0:0]. Two stop bits -/
def UART_CFG.STOP2 (pg : Nat) : Fld := ⟨pg + 0x54, 0, 1, 0, .rwl, .ctl⟩
/-- Table 14.7, [4:0]. PHY address, 0–31 -/
def SVC_CFG.PHYAD (pg : Nat) : Fld := ⟨pg + 0x54, 0, 5, 0, .rwl, .ctl⟩

/-! ### Bridge and check-value units (Tables 15.8 and 15.9) -/
/-- Table 15.9, [31:24]. Slots not FREE, 0–64 -/
def BR_STAT.SLOTS : Fld := ⟨0x42000040, 24, 8, 0, .ro, .ctl⟩
/-- Table 15.9, [23:16]. Queued posted writes, 0–32 -/
def BR_STAT.PWQ : Fld := ⟨0x42000040, 16, 8, 0, .ro, .ctl⟩
/-- Table 15.9, [0:0]. Active table bank -/
def BR_STAT.BANK : Fld := ⟨0x42000040, 0, 1, 0, .ro, .ctl⟩
/-- Table 15.9, [11:0]. Entry index -/
def BR_TBL_IDX.IDX : Fld := ⟨0x42000044, 0, 12, 0, .rw, .ctl⟩
/-- Table 15.8, [31:0]. Word k of the entry at IDX -/
def BR_TBL_W.W (k : Nat) : Fld := ⟨slot k 4 0x42000048 0x4, 0, 32, 0, .rwl, .ctl⟩
/-- Table 15.9, [31:31]. Commit under R444 -/
def BR_TBL_CMD.COMMIT : Fld := ⟨0x42000058, 31, 1, 0, .wo, .ctl⟩
/-- Table 15.9, [12:0]. Entries, 0–4,096 -/
def BR_TBL_CMD.COUNT : Fld := ⟨0x42000058, 0, 13, 0, .wo, .ctl⟩
/-- Table 15.9, [31:28]. 0 done, 1 ORDER, 2 ENTRY -/
def BR_TBL_STAT.STATUS : Fld := ⟨0x4200005C, 28, 4, 0, .ro, .ctl⟩
/-- Table 15.9, [12:0]. Active entries -/
def BR_TBL_STAT.COUNT : Fld := ⟨0x4200005C, 0, 13, 0, .ro, .ctl⟩
/-- Table 15.8, [31:0]. CRC-32C of the active table -/
def BR_TBL_CRC.CRC : Fld := ⟨0x42000060, 0, 32, 0, .ro, .ctl⟩
/-- Table 15.9, [30:17]. Response timeout in 100 µs units, 1–10,000 -/
def BR_DRCFG.RSP_TO : Fld := ⟨0x42000064, 17, 14, 10, .rwl, .ctl⟩
/-- Table 15.9, [16:0]. Collection time in µs, 10–100,000 -/
def BR_DRCFG.DR_TIMEOUT : Fld := ⟨0x42000064, 0, 17, 1000, .rwl, .ctl⟩
/-- Table 15.9, [31:0]. Management SRAM address, 4 KB aligned -/
def BR_IN_BASE.BASE : Fld := ⟨0x42000068, 0, 32, 536870912, .rwl, .ctl⟩
/-- Table 15.9, [31:31]. Inbound accesses served -/
def BR_IN_CFG.EN : Fld := ⟨0x4200006C, 31, 1, 0, .rwl, .ctl⟩
/-- Table 15.9, [30:30]. Inbound writes accepted -/
def BR_IN_CFG.WR_EN : Fld := ⟨0x4200006C, 30, 1, 0, .rwl, .ctl⟩
/-- Table 15.9, [11:0]. Window size in 4 KB, 1–2,048 -/
def BR_IN_CFG.PAGES : Fld := ⟨0x4200006C, 0, 12, 1, .rwl, .ctl⟩
/-- Table 15.9, [31:0]. Orphan remote address -/
def BR_ORPH_ADDR.VAL : Fld := ⟨0x42000070, 0, 32, 0, .ro, .ctl⟩
/-- Table 15.9, BR_ORPH_DATA_LO and BR_ORPH_DATA_HI. Orphan data -/
def BR_ORPH_DATA.VAL : Fld := ⟨0x42000074, 0, 64, 0, .ro, .ctl⟩
/-- Table 15.9, [31:31]. Orphan held -/
def BR_ORPH_INFO.VALID : Fld := ⟨0x4200007C, 31, 1, 0, .w1c, .ctl⟩
/-- Table 15.9, [23:16]. Orphans replaced, saturating at 255 -/
def BR_ORPH_INFO.LOST : Fld := ⟨0x4200007C, 16, 8, 0, .ro, .ctl⟩
/-- Table 15.9, [15:12]. Region -/
def BR_ORPH_INFO.REGION : Fld := ⟨0x4200007C, 12, 4, 0, .ro, .ctl⟩
/-- Table 15.9, [9:8]. Management core -/
def BR_ORPH_INFO.REQ : Fld := ⟨0x4200007C, 8, 2, 0, .ro, .ctl⟩
/-- Table 15.9, [2:0]. SIZE code of Table 15.4 -/
def BR_ORPH_INFO.SIZE : Fld := ⟨0x4200007C, 0, 3, 0, .ro, .ctl⟩
/-- Table 15.9, [31:16]. MISS -/
def BR_CNT0.MISS : Fld := ⟨0x42000080, 16, 16, 0, .ro, .ctl⟩
/-- Table 15.9, [15:0]. EGR_FULL -/
def BR_CNT0.EGR_FULL : Fld := ⟨0x42000080, 0, 16, 0, .ro, .ctl⟩
/-- Table 15.9, [31:16]. TOO_BIG -/
def BR_CNT1.TOO_BIG : Fld := ⟨0x42000084, 16, 16, 0, .ro, .ctl⟩
/-- Table 15.9, [15:0]. ALIGN -/
def BR_CNT1.ALIGN : Fld := ⟨0x42000084, 0, 16, 0, .ro, .ctl⟩
/-- Table 15.9, [31:16]. LATE_RSP -/
def BR_CNT2.LATE_RSP : Fld := ⟨0x42000088, 16, 16, 0, .ro, .ctl⟩
/-- Table 15.9, [15:0]. IN_DROP -/
def BR_CNT2.IN_DROP : Fld := ⟨0x42000088, 0, 16, 0, .ro, .ctl⟩
/-- Table 15.9, [31:31]. Line carries a check -/
def BR_UPORT.CVU_EN (i : Nat) : Fld := ⟨slot i 2 0x4200008C 0x4, 31, 1, 0, .rwl, .ctl⟩
/-- Table 15.9, [30:28]. Unit 0–7 -/
def BR_UPORT.CVU (i : Nat) : Fld := ⟨slot i 2 0x4200008C 0x4, 28, 3, 0, .rwl, .ctl⟩
/-- Table 15.9, [31:0]. Remote base -/
def BR_RBASE.BASE (r : Nat) : Fld := ⟨slot r 16 0x42001040 0x10, 0, 32, 0, .rwl, .ctl⟩
/-- Table 15.9, [31:31]. Region in use -/
def BR_RCTL.VALID (r : Nat) : Fld := ⟨slot r 16 0x42001044 0x10, 31, 1, 0, .rwl, .ctl⟩
/-- Table 15.9, [30:30]. Reads have side effects -/
def BR_RCTL.SIDE (r : Nat) : Fld := ⟨slot r 16 0x42001044 0x10, 30, 1, 0, .rwl, .ctl⟩
/-- Table 15.9, [29:29]. R454 -/
def BR_RCTL.PREFETCH (r : Nat) : Fld := ⟨slot r 16 0x42001044 0x10, 29, 1, 0, .rwl, .ctl⟩
/-- Table 15.9, [28:28]. Writes permitted -/
def BR_RCTL.WRITE_EN (r : Nat) : Fld := ⟨slot r 16 0x42001044 0x10, 28, 1, 0, .rwl, .ctl⟩
/-- Table 15.9, [27:27]. No byte-order conversion -/
def BR_RCTL.NATIVE (r : Nat) : Fld := ⟨slot r 16 0x42001044 0x10, 27, 1, 0, .rwl, .ctl⟩
/-- Table 15.9, [26:24]. 0 1 B, 1 2 B, 2 4 B, 3 8 B -/
def BR_RCTL.MAXSIZE (r : Nat) : Fld := ⟨slot r 16 0x42001044 0x10, 24, 3, 2, .rwl, .ctl⟩
/-- Table 15.9, [23:20]. Port q, 0–13 -/
def BR_RCTL.PORT (r : Nat) : Fld := ⟨slot r 16 0x42001044 0x10, 20, 4, 0, .rwl, .ctl⟩
/-- Table 15.9, [19:15]. Region size, 12–31 -/
def BR_RCTL.SIZE_LOG2 (r : Nat) : Fld := ⟨slot r 16 0x42001044 0x10, 15, 5, 12, .rwl, .ctl⟩
/-- Table 15.9, [14:14]. Frames checked and appended -/
def BR_RCTL.CVU_EN (r : Nat) : Fld := ⟨slot r 16 0x42001044 0x10, 14, 1, 0, .rwl, .ctl⟩
/-- Table 15.9, [13:11]. Unit 0–7 -/
def BR_RCTL.CVU (r : Nat) : Fld := ⟨slot r 16 0x42001044 0x10, 11, 3, 0, .rwl, .ctl⟩
/-- Table 15.9, [10:8]. Table 15.2; 3 not permitted -/
def BR_RCTL.KIND (r : Nat) : Fld := ⟨slot r 16 0x42001044 0x10, 8, 3, 0, .rwl, .ctl⟩
/-- Table 15.9, [31:0]. Request identifier -/
def BR_RID.ID (r : Nat) : Fld := ⟨slot r 16 0x42001048 0x10, 0, 32, 0, .rwl, .ctl⟩
/-- Table 15.9, [31:0]. Response identifier -/
def BR_RRSP.ID (r : Nat) : Fld := ⟨slot r 16 0x4200104C 0x10, 0, 32, 0, .rwl, .ctl⟩
/-- Table 15.9, [31:6]. Region offset ÷ 64 -/
def BR_WSEL.WOFF (w : Nat) : Fld := ⟨slot w 2 0x42001140 0x4, 6, 26, 0, .rw, .ctl⟩
/-- Table 15.9, [5:5]. Window open -/
def BR_WSEL.EN (w : Nat) : Fld := ⟨slot w 2 0x42001140 0x4, 5, 1, 0, .rw, .ctl⟩
/-- Table 15.9, [3:0]. Region 0–15 -/
def BR_WSEL.REGION (w : Nat) : Fld := ⟨slot w 2 0x42001140 0x4, 0, 4, 0, .rw, .ctl⟩
/-- Table 15.9, [31:31]. Commit under R457 -/
def BR_REG_CMD.COMMIT : Fld := ⟨0x42001148, 31, 1, 0, .wo, .ctl⟩
/-- Table 15.9, [31:28]. 0 done, 1 PREFETCH_SIDE, 2 RANGE, 3 BUSY, 4 PORT -/
def BR_REG_STAT.STATUS : Fld := ⟨0x4200114C, 28, 4, 0, .ro, .ctl⟩
/-- Table 15.9, [3:0]. First failing region -/
def BR_REG_STAT.REGION : Fld := ⟨0x4200114C, 0, 4, 0, .ro, .ctl⟩
/-- Table 15.9, [15:0]. Saturating at 0xFFFF -/
def BR_PFDISC.COUNT (r : Nat) : Fld := ⟨slot r 16 0x42001180 0x4, 0, 16, 0, .ro, .ctl⟩
/-- Table 15.9, [31:28]. 0 custom; Table 15.7 -/
def CVU_CFG.PRESET (u : Nat) : Fld := ⟨slot u 8 0x42100040 0x4000, 28, 4, 0, .rwl, .ctl⟩
/-- Table 15.9, [27:26]. 0 SOFTWARE, 1 STREAM, 2 RANGE, 3 reserved -/
def CVU_CFG.MODE (u : Nat) : Fld := ⟨slot u 8 0x42100040 0x4000, 26, 2, 0, .rwl, .ctl⟩
/-- Table 15.9, [25:25]. Reflect input bytes -/
def CVU_CFG.REFIN (u : Nat) : Fld := ⟨slot u 8 0x42100040 0x4000, 25, 1, 0, .rwl, .ctl⟩
/-- Table 15.9, [24:24]. Reflect result -/
def CVU_CFG.REFOUT (u : Nat) : Fld := ⟨slot u 8 0x42100040 0x4000, 24, 1, 0, .rwl, .ctl⟩
/-- Table 15.9, [6:0]. 8–64; other values ignored -/
def CVU_CFG.WIDTH (u : Nat) : Fld := ⟨slot u 8 0x42100040 0x4000, 0, 7, 32, .rwl, .ctl⟩
/-- Table 15.9, [31:16]. Check failures, saturating at 0xFFFF -/
def CVU_STAT.CHK_FAIL (u : Nat) : Fld := ⟨slot u 8 0x42100044 0x4000, 16, 16, 0, .ro, .ctl⟩
/-- Table 15.9, [2:2]. Last check passed -/
def CVU_STAT.LAST_OK (u : Nat) : Fld := ⟨slot u 8 0x42100044 0x4000, 2, 1, 0, .ro, .ctl⟩
/-- Table 15.9, [1:1]. Named by an entry, region or RS-485 port -/
def CVU_STAT.OWNED (u : Nat) : Fld := ⟨slot u 8 0x42100044 0x4000, 1, 1, 0, .ro, .ctl⟩
/-- Table 15.9, [0:0]. Absorbing bytes -/
def CVU_STAT.BUSY (u : Nat) : Fld := ⟨slot u 8 0x42100044 0x4000, 0, 1, 0, .ro, .ctl⟩
/-- Table 15.9, CVU_POLY_LO and CVU_POLY_HI. Polynomial -/
def CVU_POLY.VAL (u : Nat) : Fld := ⟨slot u 8 0x42100048 0x4000, 0, 64, 0, .rwl, .ctl⟩
/-- Table 15.9, CVU_INIT_LO and CVU_INIT_HI. Initial value -/
def CVU_INIT.VAL (u : Nat) : Fld := ⟨slot u 8 0x42100050 0x4000, 0, 64, 0, .rwl, .ctl⟩
/-- Table 15.9, CVU_XOR_LO and CVU_XOR_HI. Final XOR -/
def CVU_XOR.VAL (u : Nat) : Fld := ⟨slot u 8 0x42100058 0x4000, 0, 64, 0, .rwl, .ctl⟩
/-- Table 15.9, CVU_VAL_LO and CVU_VAL_HI. Running value -/
def CVU_VAL.VAL (u : Nat) : Fld := ⟨slot u 8 0x42100060 0x4000, 0, 64, 0, .rw, .ctl⟩
/-- Table 15.9, CVU_RES_LO and CVU_RES_HI. Result -/
def CVU_RES.VAL (u : Nat) : Fld := ⟨slot u 8 0x42100068 0x4000, 0, 64, 0, .ro, .ctl⟩
/-- Table 15.9, CVU_BASE_LO and CVU_BASE_HI. RANGE window base -/
def CVU_BASE.ADDR (u : Nat) : Fld := ⟨slot u 8 0x42100070 0x4000, 0, 64, 0, .rwl, .ctl⟩
/-- Table 15.9, [31:0]. Range length in bytes -/
def CVU_LEN.LEN (u : Nat) : Fld := ⟨slot u 8 0x42100078 0x4000, 0, 32, 0, .rwl, .ctl⟩
/-- Table 15.9, [31:0]. Four bytes, byte 0 in [7:0] first -/
def CVU_FEED.DATA (u : Nat) : Fld := ⟨slot u 8 0x4210007C 0x4000, 0, 32, 0, .wo, .ctl⟩
/-- Table 15.9, [7:0]. One byte -/
def CVU_FEED_B.DATA (u : Nat) : Fld := ⟨slot u 8 0x42100080 0x4000, 0, 8, 0, .wo, .ctl⟩

/-! ### Shared fabric arbiter and event intake (Tables 16.8 and 16.9) -/
/-- Table 16.9, [4:0]. Bit 0 UNMAPPED, 1 DENIED, 2 HUNG, 3 STARVE, 4 PARITY -/
def ARB_ERR.CAUSE : Fld := ⟨0x40A00040, 0, 5, 0, .ro, .por⟩
/-- Table 16.9, [31:0]. Address bits [31:0] -/
def ARB_ERR_ADDR.ADDR : Fld := ⟨0x40A00044, 0, 32, 0, .ro, .por⟩
/-- Table 16.9, [11:8]. Target t; 15 unmapped -/
def ARB_ERR_INFO.TGT : Fld := ⟨0x40A00048, 8, 4, 0, .ro, .por⟩
/-- Table 16.9, [7:4]. Bit number of ARB_ERR -/
def ARB_ERR_INFO.CAUSE : Fld := ⟨0x40A00048, 4, 4, 0, .ro, .por⟩
/-- Table 16.9, [3:0]. Requester ID -/
def ARB_ERR_INFO.REQ : Fld := ⟨0x40A00048, 0, 4, 0, .ro, .por⟩
/-- Table 16.9, [31:16]. Highest outstanding count since POR, 0–128 -/
def ARB_OUT.HWM : Fld := ⟨0x40A0004C, 16, 16, 0, .ro, .por⟩
/-- Table 16.9, [7:0]. Outstanding now, 0–128 -/
def ARB_OUT.NOW : Fld := ⟨0x40A0004C, 0, 8, 0, .ro, .ctl⟩
/-- Table 16.9, [9:0]. Aging limit, 16–1,023; other values rejected at load -/
def ARB_TCFG.AGE_LIM (t : Nat) : Fld := ⟨slot t 7 0x40A01040 0x4, 0, 10, 64, .rwl, .ctl⟩
/-- Table 16.9, [4j+3:4j]. Weight of requester ID 3 + j at target t -/
def ARB_WT.W (t j : Nat) : Fld := ⟨slot t 7 0x40A01080 0x4, 4 * (j % 8), 4, 4, .rwl, .ctl⟩
/-- Table 16.9, [9:0]. Longest wait in decisions, saturating -/
def ARB_LAT.MAX (t : Nat) : Fld := ⟨slot t 7 0x40A02040 0x4, 0, 10, 0, .ro, .ctl⟩
/-- Table 16.9, [23:16]. Staging registers full now, saturating at 255 -/
def INT_STAT.FULL : Fld := ⟨0x40900040, 16, 8, 0, .ro, .ctl⟩
/-- Table 16.9, [0:0]. Recorder write port refusing (R482) -/
def INT_STAT.STALL : Fld := ⟨0x40900040, 0, 1, 0, .ro, .ctl⟩
/-- Table 16.9, [31:0]. Lost events since POR, saturating -/
def INT_LOSTSUM.COUNT : Fld := ⟨0x40900044, 0, 32, 0, .ro, .por⟩
/-- Table 16.9, [15:0]. Event code -/
def INT_ASM0.CODE : Fld := ⟨0x40901040, 0, 16, 0, .wo, .ctl⟩
/-- Table 16.9, [31:0]. Assembly buffer word k -/
def INT_ASM.DATA (k : Nat) : Fld := ⟨slot k 11 0x40901040 0x4, 0, 32, 0, .wo, .ctl⟩
/-- Table 16.9, [31:0]. Any write stages the assembly buffer -/
def INT_RAISE.ANY : Fld := ⟨0x40901070, 0, 32, 0, .wo, .ctl⟩
/-- Table 16.9 and 16.8: lost events of source s, saturating at 0xFFFF, two sources a register -/
def INT_LOST.COUNT (s : Nat) : Fld := ⟨slot (s / 2) 128 0x40901100 0x4, 16 * (s % 2), 16, 0, .ro, .por⟩

/-! ### Event recorder (Tables 17.8 and 17.9) -/
/-- Table 17.9, [31:0]. Sector address -/
def EVR_LBA.LBA : Fld := ⟨0x44500040, 0, 32, 0, .rwl, .por⟩
/-- Table 17.9, [31:0]. Geometry for FORMAT -/
def EVR_FMT_N.COUNT : Fld := ⟨0x44500044, 0, 32, 0, .rwl, .por⟩
/-- Table 17.9, [31:0]. Geometry for FORMAT -/
def EVR_FMT_M.COUNT : Fld := ⟨0x44500048, 0, 32, 0, .rwl, .por⟩
/-- Table 17.9, [2:0]. 1 FREEZE, 2 UNFREEZE, 3 FLUSH, 4 FORMAT; ignored outside its state, with CMD_ERR -/
def EVR_CMD.CMD : Fld := ⟨0x4450004C, 0, 3, 0, .wo, .por⟩
/-- Table 17.9, [8:8]. Last command ignored -/
def EVR_STAT.CMD_ERR : Fld := ⟨0x44500050, 8, 1, 0, .ro, .por⟩
/-- Table 17.9, [7:6]. R487 -/
def EVR_STAT.TSRC : Fld := ⟨0x44500050, 6, 2, 3, .ro, .por⟩
/-- Table 17.9, [5:5]. R505 -/
def EVR_STAT.GONE : Fld := ⟨0x44500050, 5, 1, 0, .ro, .por⟩
/-- Table 17.9, [4:4]. R504 -/
def EVR_STAT.WIN_READY : Fld := ⟨0x44500050, 4, 1, 0, .ro, .por⟩
/-- Table 17.9, [3:3]. Headwater full -/
def EVR_STAT.HW_FULL : Fld := ⟨0x44500050, 3, 1, 0, .ro, .por⟩
/-- Table 17.9, [2:0]. Table 17.3 code -/
def EVR_STAT.STATE : Fld := ⟨0x44500050, 0, 3, 0, .ro, .por⟩
/-- Table 17.9, [28:16]. Pending records, 0–4,096 -/
def EVR_CF.PEND : Fld := ⟨0x44500054, 16, 13, 0, .ro, .por⟩
/-- Table 17.9, [11:0]. Oldest pending slot -/
def EVR_CF.HEAD : Fld := ⟨0x44500054, 0, 12, 0, .ro, .por⟩
/-- Table 17.9, [31:0]. Next SEQ -/
def EVR_SEQ.VAL : Fld := ⟨0x44500058, 0, 32, 0, .ro, .por⟩
/-- Table 17.9, [31:0]. Eddy BASE -/
def EVR_BASE.VAL : Fld := ⟨0x4450005C, 0, 32, 0, .ro, .por⟩
/-- Table 17.9, [31:0]. Headwater records -/
def EVR_HWFILL.VAL : Fld := ⟨0x44500060, 0, 32, 0, .ro, .por⟩
/-- Table 17.9, [31:0]. Geometry in force -/
def EVR_N.VAL : Fld := ⟨0x44500064, 0, 32, 0, .ro, .por⟩
/-- Table 17.9, [31:0]. Geometry in force -/
def EVR_M.VAL : Fld := ⟨0x44500068, 0, 32, 0, .ro, .por⟩
/-- Table 17.9, [31:0]. Power-cycle count -/
def EVR_PCC.VAL : Fld := ⟨0x4450006C, 0, 32, 0, .ro, .por⟩
/-- Table 17.9, EVR_LOGCV_LO and EVR_LOGCV_HI. Log check value -/
def EVR_LOGCV.VAL : Fld := ⟨0x44500070, 0, 64, 0, .ro, .por⟩
/-- Table 17.9, EVR_CALOFF_LO and EVR_CALOFF_HI. CALOFF, signed ns -/
def EVR_CALOFF.VAL : Fld := ⟨0x44500078, 0, 64, 0, .ro, .por⟩
/-- Table 17.9, EVR_CALSET_LO and EVR_CALSET_HI. Offset for TSRC SET -/
def EVR_CALSET.VAL : Fld := ⟨0x44500080, 0, 64, 0, .rwl, .por⟩
/-- Table 17.9, [31:0]. SEQ (AREA 0) or Headwater slot (AREA 1) -/
def EVR_CURSOR.INDEX : Fld := ⟨0x44501040, 0, 32, 0, .rw, .por⟩
/-- Table 17.9, [0:0]. 0 Eddy by SEQ, 1 Headwater -/
def EVR_CURCTL.AREA : Fld := ⟨0x44501044, 0, 1, 0, .rw, .por⟩
/-- Table 17.9, [31:0]. Little-endian record bytes -/
def EVR_WIN.DATA (k : Nat) : Fld := ⟨slot k 16 0x44501080 0x4, 0, 32, 0, .ro, .por⟩
/-- Table 17.9, EVR_CLR_LO and EVR_CLR_HI. Quoted log check value -/
def EVR_CLR.CV : Fld := ⟨0x445010C0, 0, 64, 0, .wo, .por⟩
/-- Table 17.9, [3:0]. 0 none, 1 done, 2–6 CLEAR_REFUSED reasons 1–5 -/
def EVR_CLR_STAT.RESULT : Fld := ⟨0x445010C8, 0, 4, 0, .ro, .por⟩
/-- Table 17.9, [31:0]. Bit j: source 32k + j triggers FAULT -/
def EVR_URG.MASK (k : Nat) : Fld := ⟨slot k 8 0x44501100 0x4, 0, 32, (if k = 0 then 0xFFFF001F else if k = 1 then 3 else 0), .rwl, .por⟩

/-! ### Percolator engines (`pg` the engine page: 0x40B0_0000 + n × 0x4000 for the channels, 0x4460_0000 the scheduler; Tables 18.5, 18.6) -/
/-- Table 18.6, [31:31]. Operational slices run -/
def PERC_CFG.EN (pg : Nat) : Fld := ⟨pg + 0x40, 31, 1, 0, .rwl, .ctl⟩
/-- Table 18.6, [23:16]. Slice budget in µs, 1–20 -/
def PERC_CFG.BUDGET (pg : Nat) : Fld := ⟨pg + 0x40, 16, 8, 5, .rwl, .ctl⟩
/-- Table 18.6, [8:0]. 16–256, multiple of 16 -/
def PERC_CFG.SLICE_WORDS (pg : Nat) : Fld := ⟨pg + 0x40, 0, 9, 256, .rwl, .ctl⟩
/-- Table 18.6, [31:29]. Group under test; scheduler only -/
def PERC_STAT.GROUP (pg : Nat) : Fld := ⟨pg + 0x44, 29, 3, 0, .ro, .ctl⟩
/-- Table 18.6, [28:24]. Macro under test -/
def PERC_STAT.MACRO (pg : Nat) : Fld := ⟨pg + 0x44, 24, 5, 0, .ro, .ctl⟩
/-- Table 18.6, [23:12]. Slice index within the macro -/
def PERC_STAT.SLICE (pg : Nat) : Fld := ⟨pg + 0x44, 12, 12, 0, .ro, .ctl⟩
/-- Table 18.6, [1:1]. A repair is pending (R521) -/
def PERC_STAT.PENDING (pg : Nat) : Fld := ⟨pg + 0x44, 1, 1, 0, .ro, .ctl⟩
/-- Table 18.6, [0:0]. Slice running -/
def PERC_STAT.ACTIVE (pg : Nat) : Fld := ⟨pg + 0x44, 0, 1, 0, .ro, .ctl⟩
/-- Table 18.6, [31:0]. Byte address of the failing word -/
def PERC_FADDR.ADDR (pg : Nat) : Fld := ⟨pg + 0x48, 0, 32, 0, .ro, .por⟩
/-- Table 18.6, [31:31]. A failure is recorded since POR -/
def PERC_FINFO.VALID (pg : Nat) : Fld := ⟨pg + 0x4C, 31, 1, 0, .ro, .por⟩
/-- Table 18.6, [30:24]. Lowest failing bit, 0–71; 64–71 are check bits -/
def PERC_FINFO.BIT (pg : Nat) : Fld := ⟨pg + 0x4C, 24, 7, 0, .ro, .por⟩
/-- Table 18.6, [23:21]. Table 18.2 -/
def PERC_FINFO.ELEM (pg : Nat) : Fld := ⟨pg + 0x4C, 21, 3, 0, .ro, .por⟩
/-- Table 18.6, [15:8]. Expected check bits -/
def PERC_FINFO.EXP_ECC (pg : Nat) : Fld := ⟨pg + 0x4C, 8, 8, 0, .ro, .por⟩
/-- Table 18.6, [7:0]. Observed check bits -/
def PERC_FINFO.OBS_ECC (pg : Nat) : Fld := ⟨pg + 0x4C, 0, 8, 0, .ro, .por⟩
/-- Table 18.6, PERC_FEXP_LO and _HI. Expected data bits -/
def PERC_FEXP.DATA (pg : Nat) : Fld := ⟨pg + 0x50, 0, 64, 0, .ro, .por⟩
/-- Table 18.6, PERC_FOBS_LO and _HI. Observed data bits -/
def PERC_FOBS.DATA (pg : Nat) : Fld := ⟨pg + 0x58, 0, 64, 0, .ro, .por⟩
/-- Table 18.6, [31:16]. Completed passes, saturating at 0xFFFF -/
def PERC_CNT.PASSES (pg : Nat) : Fld := ⟨pg + 0x60, 16, 16, 0, .ro, .por⟩
/-- Table 18.6, [15:8]. Transient errors under R514, saturating at 255 -/
def PERC_CNT.CORR (pg : Nat) : Fld := ⟨pg + 0x60, 8, 8, 0, .ro, .por⟩
/-- Table 18.6, [7:0]. Failures, saturating at 255 -/
def PERC_CNT.FAILS (pg : Nat) : Fld := ⟨pg + 0x60, 0, 8, 0, .ro, .por⟩
/-- Table 18.6, [7:5]. Scheduler only -/
def PERC_SPSEL.GROUP (pg : Nat) : Fld := ⟨pg + 0x64, 5, 3, 0, .rw, .ctl⟩
/-- Table 18.6, [4:0]. Macro 0–31 -/
def PERC_SPSEL.MACRO (pg : Nat) : Fld := ⟨pg + 0x64, 0, 5, 0, .rw, .ctl⟩
/-- Table 18.6, [31:31]. Start programming; clears at completion -/
def PERC_FUSE.GO (pg : Nat) : Fld := ⟨pg + 0x100, 31, 1, 0, .rwl, .ctl⟩
/-- Table 18.6, [10:8]. Spare 0–5 -/
def PERC_FUSE.SPARE (pg : Nat) : Fld := ⟨pg + 0x100, 8, 3, 0, .rwl, .ctl⟩
/-- Table 18.6, [7:5]. Scheduler only -/
def PERC_FUSE.GROUP (pg : Nat) : Fld := ⟨pg + 0x100, 5, 3, 0, .rwl, .ctl⟩
/-- Table 18.6, [4:0]. Macro 0–31 -/
def PERC_FUSE.MACRO (pg : Nat) : Fld := ⟨pg + 0x100, 0, 5, 0, .rwl, .ctl⟩
/-- Table 18.6, [31:28]. 0 none, 1 done, 2 NOT_SOFT, 3 FUSED, 4 STRAP, 5 BUSY -/
def PERC_FSTAT.RESULT (pg : Nat) : Fld := ⟨pg + 0x104, 28, 4, 0, .ro, .ctl⟩
/-- Table 18.6, [0:0]. Programming in progress -/
def PERC_FSTAT.BUSY (pg : Nat) : Fld := ⟨pg + 0x104, 0, 1, 0, .ro, .ctl⟩
/-- Table 18.6, [18:16]. Bit g: group g of Table 18.1 tested -/
def PERC_GRP.GRP_EN (pg : Nat) : Fld := ⟨pg + 0x108, 16, 3, 0, .rwl, .ctl⟩
/-- Table 18.6, [6:0]. Slice period in ms, 1–100 -/
def PERC_GRP.PERIOD (pg : Nat) : Fld := ⟨pg + 0x108, 0, 7, 10, .rwl, .ctl⟩

/-! ### Power controller (Tables 19.6 and 19.7) -/
/-- Table 19.7, [2:0]. Table 19.1 code -/
def PWR_REQ.STATE : Fld := ⟨0x44700040, 0, 3, 0, .wo, .ctl⟩
/-- Table 19.7, [15:12]. Last request: 0 none, 1 DONE, 2 REFUSED, 3 TIMEOUT, 4 REPLACED, 5 CANCELLED, 6 INVALID, 7 ABANDONED -/
def PWR_STAT.RESULT : Fld := ⟨0x44700044, 12, 4, 0, .ro, .ctl⟩
/-- Table 19.7, [11:9]. 0 none, 1 NOTICE, 2 ASK, 3 ROLLBACK, 4 WAKE -/
def PWR_STAT.PHASE : Fld := ⟨0x44700044, 9, 3, 0, .ro, .ctl⟩
/-- Table 19.7, [8:6]. Pending request; 7 none -/
def PWR_STAT.PENDING : Fld := ⟨0x44700044, 6, 3, 7, .ro, .ctl⟩
/-- Table 19.7, [5:3]. State requested -/
def PWR_STAT.TARGET : Fld := ⟨0x44700044, 3, 3, 0, .ro, .ctl⟩
/-- Table 19.7, [2:0]. Table 19.1 code -/
def PWR_STAT.STATE : Fld := ⟨0x44700044, 0, 3, 0, .ro, .ctl⟩
/-- Table 19.7, [31:16]. Block type -/
def PWR_REFUSER.TYPE : Fld := ⟨0x44700048, 16, 16, 0, .ro, .ctl⟩
/-- Table 19.7, [15:8]. Instance -/
def PWR_REFUSER.INST : Fld := ⟨0x44700048, 8, 8, 0, .ro, .ctl⟩
/-- Table 19.7, [1:0]. 1 refused, 2 no answer -/
def PWR_REFUSER.WHY : Fld := ⟨0x44700048, 0, 2, 0, .ro, .ctl⟩
/-- Table 19.7, [31:31]. Address match wakes -/
def PWR_CFG.I2C_EN : Fld := ⟨0x4470004C, 31, 1, 0, .rwl, .aon⟩
/-- Table 19.7, [30:24]. 7-bit wake address -/
def PWR_CFG.I2C_ADDR : Fld := ⟨0x4470004C, 24, 7, 0, .rwl, .aon⟩
/-- Table 19.7, [23:23]. AON alarm wakes -/
def PWR_CFG.TIMER_EN : Fld := ⟨0x4470004C, 23, 1, 0, .rwl, .aon⟩
/-- Table 19.7, [22:22]. LPDDR4X kept in self-refresh in DEEP_SLEEP -/
def PWR_CFG.DDR_SR : Fld := ⟨0x4470004C, 22, 1, 1, .rwl, .aon⟩
/-- Table 19.7, [21:21]. 0 BANKS, 1 FULL -/
def PWR_CFG.RETMODE : Fld := ⟨0x4470004C, 21, 1, 0, .rwl, .aon⟩
/-- Table 19.7, [12:0]. Notice limit in ms, 1–5,000 -/
def PWR_CFG.NOTICE_MS : Fld := ⟨0x4470004C, 0, 13, 2000, .rwl, .aon⟩
/-- Table 19.7, [31:0]. Bit m: macro m kept; at most 8 set -/
def PWR_RETBANK.MASK : Fld := ⟨0x44700050, 0, 32, 0, .rwl, .aon⟩
/-- Table 19.7, [4:0]. Bit 0 WAKE_N, 1 I2C, 2 AON, 3 Weir, 4 management interrupt -/
def PWR_WAKE.CAUSE : Fld := ⟨0x44700054, 0, 5, 0, .w1c, .aon⟩
/-- Table 19.7, PWR_AON_LO and PWR_AON_HI. AON count, 32.768 kHz, 48 bits -/
def PWR_AON.COUNT : Fld := ⟨0x44700058, 0, 48, 0, .ro, .aon⟩
/-- Table 19.7, PWR_ALARM_LO and PWR_ALARM_HI. AON alarm -/
def PWR_ALARM.COUNT : Fld := ⟨0x44700060, 0, 48, 0, .rw, .aon⟩
/-- Table 19.7, [31:16]. Saturating at 0xFFFF -/
def PWR_CNT.REFUSALS : Fld := ⟨0x44700068, 16, 16, 0, .ro, .ctl⟩
/-- Table 19.7, [15:0]. Completed entries, saturating at 0xFFFF -/
def PWR_CNT.ENTRIES : Fld := ⟨0x44700068, 0, 16, 0, .ro, .ctl⟩
/-- Table 19.7, [31:16]. Block type -/
def PWR_CLOG.TYPE (k : Nat) : Fld := ⟨slot k 64 0x44701040 0x4, 16, 16, 0, .ro, .ctl⟩
/-- Table 19.7, [15:8]. Instance -/
def PWR_CLOG.INST (k : Nat) : Fld := ⟨slot k 64 0x44701040 0x4, 8, 8, 0, .ro, .ctl⟩
/-- Table 19.7, [1:0]. 0 not asked, 1 consent, 2 refusal, 3 no answer -/
def PWR_CLOG.ANSWER (k : Nat) : Fld := ⟨slot k 64 0x44701040 0x4, 0, 2, 0, .ro, .ctl⟩

/-! ### Firmware and identity (Tables 20.8 and 20.9) -/
/-- Table 20.9, [15:12]. State of slot 1 -/
def FW_STAT.STATE1 : Fld := ⟨0x44401040, 12, 4, 0, .ro, .por⟩
/-- Table 20.9, [11:8]. State of slot 0 -/
def FW_STAT.STATE0 : Fld := ⟨0x44401040, 8, 4, 0, .ro, .por⟩
/-- Table 20.9, [5:4]. Trial boots left -/
def FW_STAT.TRIAL_LEFT : Fld := ⟨0x44401040, 4, 2, 0, .ro, .por⟩
/-- Table 20.9, [3:2]. Key in force -/
def FW_STAT.KEY_IDX : Fld := ⟨0x44401040, 2, 2, 0, .ro, .por⟩
/-- Table 20.9, [1:1]. Last boot was an activation boot -/
def FW_STAT.ACT_BOOT : Fld := ⟨0x44401040, 1, 1, 0, .ro, .por⟩
/-- Table 20.9, [0:0]. Running slot -/
def FW_STAT.RUN_SLOT : Fld := ⟨0x44401040, 0, 1, 0, .ro, .por⟩
/-- Table 20.9, [31:0]. VERSION of slot s -/
def FW_VER.VERSION (s : Nat) : Fld := ⟨slot s 2 0x44401044 0x4, 0, 32, 0, .ro, .por⟩
/-- Table 20.9, [31:0]. SVN fuse -/
def FW_SVN.SVN : Fld := ⟨0x4440104C, 0, 32, 0, .ro, .por⟩
/-- Table 20.9, [31:31]. 1 Fast-mode, 0 Standard-mode -/
def IDB_CFG.FM (i : Nat) : Fld := ⟨slot i 2 0x44900040 0x4000, 31, 1, 0, .rwl, .ctl⟩
/-- Table 20.9, [3:0]. Bit j: segment 4i + j scanned -/
def IDB_CFG.SEG_EN (i : Nat) : Fld := ⟨slot i 2 0x44900040 0x4000, 0, 4, 0, .rwl, .ctl⟩
/-- Table 20.9, [31:0]. Management SRAM address, 32 KB aligned -/
def IDB_BUF.ADDR (i : Nat) : Fld := ⟨slot i 2 0x44900044 0x4000, 0, 32, 536870912, .rwl, .ctl⟩
/-- Table 20.9, [0:0]. Start a scan -/
def IDB_SCAN.GO (i : Nat) : Fld := ⟨slot i 2 0x44900048 0x4000, 0, 1, 0, .w1s, .ctl⟩
/-- Table 20.9, [31:24]. Memories found, 0–32 -/
def IDB_STAT.FOUND (i : Nat) : Fld := ⟨slot i 2 0x4490004C 0x4000, 24, 8, 0, .ro, .ctl⟩
/-- Table 20.9, [23:16]. Records failing MAGIC, LEN or CRC -/
def IDB_STAT.BADREC (i : Nat) : Fld := ⟨slot i 2 0x4490004C 0x4000, 16, 8, 0, .ro, .ctl⟩
/-- Table 20.9, [0:0]. Scan running -/
def IDB_STAT.BUSY (i : Nat) : Fld := ⟨slot i 2 0x4490004C 0x4000, 0, 1, 0, .ro, .ctl⟩

/-! ### Clock and reset generation (Tables 22.10 and 22.11) -/
/-- Table 22.11, [4:4]. Last FRC range check passed -/
def CLK_STAT.FRC_OK : Fld := ⟨0x40100040, 4, 1, 1, .ro, .ctl⟩
/-- Table 22.11, [3:3]. REF present -/
def CLK_STAT.REF_OK : Fld := ⟨0x40100040, 3, 1, 0, .ro, .ctl⟩
/-- Table 22.11, [2:2]. DDR PLL locked -/
def CLK_STAT.DDR_LOCK : Fld := ⟨0x40100040, 2, 1, 0, .ro, .ctl⟩
/-- Table 22.11, [1:1]. Root PLL locked -/
def CLK_STAT.ROOT_LOCK : Fld := ⟨0x40100040, 1, 1, 0, .ro, .ctl⟩
/-- Table 22.11, [0:0]. CORE, MGMT, FAB, NET and PER run from the root PLL -/
def CLK_STAT.ON_PLL : Fld := ⟨0x40100040, 0, 1, 0, .ro, .ctl⟩
/-- Table 22.11, [31:31]. A clock fault since POR -/
def CLK_FLT.VALID : Fld := ⟨0x40100044, 31, 1, 0, .ro, .por⟩
/-- Table 22.11, [19:16]. Row of Table 22.1, 0–10, counted from REF = 0, as the last column of Table 22.2 assigns -/
def CLK_FLT.DOMAIN : Fld := ⟨0x40100044, 16, 4, 0, .ro, .por⟩
/-- Table 22.11, [15:0]. Table 22.2 -/
def CLK_FLT.FCODE : Fld := ⟨0x40100044, 0, 16, 0, .ro, .por⟩
/-- Table 22.11, [31:28]. 1 POR, 2 SUPPLY, 3 WARM, 4 LOCKOUT_RESET -/
def RST_CAUSE.KIND : Fld := ⟨0x40100048, 28, 4, 1, .ro, .por⟩
/-- Table 22.11, [27:24]. 0 power-on detector, 1 Weir, 2 COLD_RESTART, 3 ACTIVATE, 4 DEEP_SLEEP wake, 5 LOCKOUT_RESET command, 6 OFF ... -/
def RST_CAUSE.ORIGIN : Fld := ⟨0x40100048, 24, 4, 0, .ro, .por⟩
/-- Table 22.11, [23:23]. VDD_AON was lost before the POR -/
def RST_CAUSE.AON_LOST : Fld := ⟨0x40100048, 23, 1, 1, .ro, .por⟩
/-- Table 22.11, [22:22]. Slot named by ACTIVATE -/
def RST_CAUSE.SLOT : Fld := ⟨0x40100048, 22, 1, 0, .ro, .por⟩
/-- Table 22.11, [31:24]. Saturating at 255; cleared when VDD_AON is lost -/
def RST_CNT.POR : Fld := ⟨0x4010004C, 24, 8, 0, .ro, .aon⟩
/-- Table 22.11, [23:16]. As POR -/
def RST_CNT.SUPPLY : Fld := ⟨0x4010004C, 16, 8, 0, .ro, .aon⟩
/-- Table 22.11, [15:8]. As POR -/
def RST_CNT.WARM : Fld := ⟨0x4010004C, 8, 8, 0, .ro, .aon⟩
/-- Table 22.11, [7:0]. LOCKOUT_RESET resets; as POR -/
def RST_CNT.LOCKOUT : Fld := ⟨0x4010004C, 0, 8, 0, .ro, .aon⟩
/-- Table 22.11, [31:28]. Last step completed, Table 22.5 -/
def BOOT_STAT.STEP : Fld := ⟨0x40100050, 28, 4, 0, .ro, .ctl⟩
/-- Table 22.11, [27:27]. Boot stopped under R607 or R595 -/
def BOOT_STAT.FAIL : Fld := ⟨0x40100050, 27, 1, 0, .ro, .ctl⟩
/-- Table 22.11, [26:26]. Slot started -/
def BOOT_STAT.SLOT : Fld := ⟨0x40100050, 26, 1, 0, .ro, .ctl⟩
/-- Table 22.11, [25:25]. The first slot failed -/
def BOOT_STAT.FALLBACK : Fld := ⟨0x40100050, 25, 1, 0, .ro, .ctl⟩
/-- Table 22.11, [24:24]. 1 warm boot, 0 cold boot -/
def BOOT_STAT.WARM : Fld := ⟨0x40100050, 24, 1, 0, .ro, .ctl⟩
/-- Table 22.11, [23:0]. Release to completion in 100 µs units -/
def BOOT_STAT.TIME : Fld := ⟨0x40100050, 0, 24, 0, .ro, .ctl⟩
/-- Table 22.11, [1:1]. Root PLL running -/
def CLK_CTL.PLL_EN : Fld := ⟨0x40101040, 1, 1, 0, .rwl, .ctl⟩
/-- Table 22.11, [0:0]. 0 FRC, 1 root PLL (R593) -/
def CLK_CTL.SEL : Fld := ⟨0x40101040, 0, 1, 0, .rwl, .ctl⟩

/-! ### Register rows: what lies at an address -/

/-- Register rows of the fixed pages, part 0. -/
def regRows0 : List RegRow := [
  ⟨0x40200040, 0x4000, 3, fun i => [⟨CH_STATE.CHAN i, 8, 2, 0⟩, ⟨CH_STATE.MM_CYC i, 5, 2, 0⟩, ⟨CH_STATE.RB_LK i, 4, 1, 0⟩, ⟨CH_STATE.RB_LT i, 3, 1, 0⟩, ⟨CH_STATE.STATE i, 0, 3, 0⟩]⟩,
  ⟨0x40200044, 0x4000, 3, fun i => [⟨CH_CFG.REINT_MAX i, 28, 4, 0⟩, ⟨CH_CFG.LK_WIN i, 16, 11, 0⟩, ⟨CH_CFG.LT_WIN i, 0, 11, 0⟩]⟩,
  ⟨0x40200048, 0x4000, 3, fun i => [⟨CH_MMCNT.LK i, 16, 16, 0⟩, ⟨CH_MMCNT.LT i, 0, 16, 0⟩]⟩,
  ⟨0x4020004C, 0x4000, 3, fun i => [⟨CH_WINCNT_LT.COUNT i, 0, 32, 0⟩]⟩,
  ⟨0x40200050, 0x4000, 3, fun i => [⟨CH_WINCNT_LK.COUNT i, 0, 32, 0⟩]⟩,
  ⟨0x40200054, 0x4000, 3, fun i => [⟨CH_INJ.BOOT_OK i, 18, 1, 0⟩, ⟨CH_INJ.LK_LAST_OK i, 17, 1, 0⟩, ⟨CH_INJ.LT_LAST_OK i, 16, 1, 0⟩, ⟨CH_INJ.LK_LANE i, 8, 6, 0⟩, ⟨CH_INJ.LT_LANE i, 0, 6, 0⟩]⟩,
  ⟨0x40200058, 0x4000, 3, fun i => [⟨CH_RB.TOTAL i, 24, 8, 0⟩, ⟨CH_RB.TWIN i, 16, 1, 0⟩, ⟨CH_RB.LAST_NS i, 0, 16, 0⟩]⟩,
  ⟨0x4020005C, 0x4000, 3, fun i => [⟨CH_BUF.EARLY i, 24, 8, 0⟩, ⟨CH_BUF.RPL_HWM i, 16, 7, 0⟩, ⟨CH_BUF.SB_HWM i, 0, 9, 0⟩]⟩,
  ⟨0x40200060, 0x4000, 3, fun i => [⟨CH_ECC.DED i, 16, 8, 0⟩, ⟨CH_ECC.CORR i, 0, 16, 0⟩]⟩,
  ⟨0x40200064, 0x4000, 3, fun i => [⟨CH_ECC_ADDR.ADDR i, 0, 32, 0⟩]⟩,
  ⟨0x40200068, 0x4000, 3, fun i => [⟨CH_LOSS.CYCLE i, 8, 24, 0⟩, ⟨CH_LOSS.CAUSE i, 0, 4, 0⟩]⟩,
  ⟨0x4020006C, 0x4000, 3, fun i => [⟨CH_REINT.LOSSES i, 0, 4, 0⟩]⟩,
  ⟨0x40201040, 0x4000, 3, fun i => [⟨MM_SIG_LEAD.SIG i, 0, 32, 0⟩]⟩,
  ⟨0x40201044, 0x4000, 3, fun i => [⟨MM_SIG_LEAD.SIG i, 0, 32, 32⟩]⟩,
  ⟨0x40201048, 0x4000, 3, fun i => [⟨MM_SIG_TRAIL.SIG i, 0, 32, 0⟩]⟩,
  ⟨0x4020104C, 0x4000, 3, fun i => [⟨MM_SIG_TRAIL.SIG i, 0, 32, 32⟩]⟩,
  ⟨0x40201050, 0x4000, 3, fun i => [⟨MM_DIFF.LANES i, 0, 32, 0⟩]⟩,
  ⟨0x40201054, 0x4000, 3, fun i => [⟨MM_DIFF.LANES i, 0, 32, 32⟩]⟩,
  ⟨0x40201058, 0x4000, 3, fun i => [⟨MM_WIN.WIN i, 0, 32, 0⟩]⟩,
  ⟨0x4020105C, 0x4000, 3, fun i => [⟨MM_INFO.COUNT i, 8, 24, 0⟩, ⟨MM_INFO.DED i, 3, 1, 0⟩, ⟨MM_INFO.PARITY i, 2, 1, 0⟩, ⟨MM_INFO.INJ i, 1, 1, 0⟩, ⟨MM_INFO.TWIN i, 0, 1, 0⟩]⟩,
  ⟨0x40201060, 0x4000, 3, fun i => [⟨CH_CSN.NOTICE i, 31, 1, 0⟩, ⟨CH_CSN.TARGET i, 28, 3, 0⟩, ⟨CH_CSN.READY i, 0, 1, 0⟩]⟩,
  ⟨0x40300040, 0, 1, fun _ => [⟨CF_CFG.RS_TRY_MAX, 24, 8, 0⟩, ⟨CF_CFG.IMG_WORDS, 8, 8, 0⟩, ⟨CF_CFG.VOTE_WIN, 0, 7, 0⟩]⟩,
  ⟨0x40300044, 0, 1, fun _ => [⟨CF_MODE.SYNC_CH, 10, 2, 0⟩, ⟨CF_MODE.RS_PHASE, 8, 2, 0⟩, ⟨CF_MODE.MASK, 4, 3, 0⟩, ⟨CF_MODE.MODE, 0, 2, 0⟩]⟩,
  ⟨0x40300048, 0x4, 3, fun i => [⟨CF_PSTAT.LAST_SEQ i, 8, 24, 0⟩, ⟨CF_PSTAT.OVF i, 5, 1, 0⟩, ⟨CF_PSTAT.PARITY i, 4, 1, 0⟩, ⟨CF_PSTAT.SLOTS i, 2, 2, 0⟩, ⟨CF_PSTAT.PSTATE i, 0, 2, 0⟩]⟩,
  ⟨0x40300054, 0, 1, fun _ => [⟨CF_LAST.SPREAD, 16, 16, 0⟩, ⟨CF_LAST.OUTCOME, 8, 4, 0⟩, ⟨CF_LAST.MINORITY, 4, 3, 0⟩, ⟨CF_LAST.ARRIVED, 0, 3, 0⟩]⟩,
  ⟨0x40300058, 0, 1, fun _ => [⟨CF_CNT.EXPIRED, 16, 16, 0⟩, ⟨CF_CNT.MINOR, 0, 16, 0⟩]⟩,
  ⟨0x4030005C, 0, 1, fun _ => [⟨CF_VOTES.COUNT, 0, 32, 0⟩]⟩,
  ⟨0x40300060, 0, 1, fun _ => [⟨CF_HOLD.MAX_NS, 16, 16, 0⟩, ⟨CF_HOLD.LAST_NS, 0, 16, 0⟩]⟩,
  ⟨0x40300064, 0, 1, fun _ => [⟨CF_RS.DIRTY, 16, 16, 0⟩, ⟨CF_RS.TRIES, 8, 8, 0⟩]⟩,
  ⟨0x40800040, 0, 1, fun _ => [⟨MIR_STAT.CUR, 0, 1, 0⟩]⟩,
  ⟨0x40800044, 0, 1, fun _ => [⟨MIR_CYCLE.COUNT, 0, 32, 0⟩]⟩,
  ⟨0x50000040, 0, 1, fun _ => [⟨WR_STAT.CAUSE, 16, 8, 0⟩, ⟨WR_STAT.WPOR, 11, 1, 0⟩, ⟨WR_STAT.STOFF_SET, 10, 1, 0⟩, ⟨WR_STAT.MAINT, 9, 1, 0⟩, ⟨WR_STAT.LINK_UP, 8, 1, 0⟩, ⟨WR_STAT.PFAIL, 7, 1, 0⟩, ⟨WR_STAT.SET, 4, 3, 0⟩, ⟨WR_STAT.LOCKOUT, 3, 1, 0⟩, ⟨WR_STAT.SAFE, 2, 1, 0⟩, ⟨WR_STAT.READY, 0, 1, 0⟩, ⟨WR_VC.OPEN, 1, 1, 0⟩]⟩,
  ⟨0x50000044, 0, 1, fun _ => [⟨WR_CFG.STEER_EN, 23, 1, 0⟩, ⟨WR_CFG.STEER_WORD, 16, 7, 0⟩, ⟨WR_CFG.BASE, 0, 12, 0⟩]⟩,
  ⟨0x50000048, 0, 1, fun _ => [⟨WR_SEAL.OPEN, 16, 8, 0⟩, ⟨WR_SEAL.CURRENT, 8, 8, 0⟩, ⟨WR_SEAL.LATCHED, 0, 8, 0⟩]⟩,
  ⟨0x5000004C, 0, 1, fun _ => [⟨WR_SUP.PFAIL_LOW, 8, 1, 0⟩, ⟨WR_SUP.UVOV, 0, 8, 0⟩]⟩,
  ⟨0x50001040, 0, 1, fun _ => [⟨WR_LINK.CRCERR, 16, 16, 0⟩, ⟨WR_LINK.RETRY, 8, 8, 0⟩, ⟨WR_LINK.FAIL, 0, 2, 0⟩]⟩,
  ⟨0x50002048, 0, 1, fun _ => [⟨WR_SNAP.SNAP, 0, 32, 0⟩]⟩,
  ⟨0x5000204C, 0, 1, fun _ => [⟨WR_SNAP.SNAP, 0, 32, 32⟩]⟩,
  ⟨0x50002050, 0, 1, fun _ => [⟨WR_RATE.CLAMP, 24, 1, 0⟩, ⟨WR_RATE.RATE, 0, 24, 0⟩]⟩,
  ⟨0x50002054, 0, 1, fun _ => [⟨WR_RCHK.WRC_DEV, 16, 16, 0⟩, ⟨WR_RCHK.PER_DEV, 0, 16, 0⟩]⟩]

/-- Register rows of the fixed pages, part 1. -/
def regRows1 : List RegRow := [
  ⟨0x50002058, 0, 1, fun _ => [⟨WR_SNAPCNT.COUNT, 0, 32, 0⟩]⟩,
  ⟨0x5000205C, 0, 1, fun _ => [⟨WR_STOFF.STOFF, 0, 32, 0⟩]⟩,
  ⟨0x50002060, 0, 1, fun _ => [⟨WR_STOFF.STOFF, 0, 32, 32⟩]⟩,
  ⟨0x50003040, 0, 1, fun _ => [⟨WR_VC.DIFF, 8, 3, 0⟩, ⟨WR_VC.OPEN, 1, 1, 0⟩, ⟨WR_VC.PASS, 0, 1, 0⟩]⟩,
  ⟨0x50003044, 0, 1, fun _ => [⟨WR_VCCNT.PASSED, 0, 32, 0⟩]⟩,
  ⟨0x50003048, 0, 1, fun _ => [⟨WR_EN.EN, 0, 32, 0⟩]⟩,
  ⟨0x50003100, 0x4, 32, fun i => [⟨WR_OMAP.USED i, 31, 1, 0⟩, ⟨WR_OMAP.SIGNAL i, 30, 1, 0⟩, ⟨WR_OMAP.SIGNO i, 16, 11, 0⟩, ⟨WR_OMAP.BIT i, 0, 12, 0⟩]⟩,
  ⟨0x50004040, 0x4, 8, fun i => [⟨WR_TDL.PERIOD i, 20, 12, 0⟩, ⟨WR_TDL.DL i, 0, 20, 0⟩]⟩,
  ⟨0x50004060, 0, 1, fun _ => [⟨WR_WD_CFG.WARN, 0, 16, 0⟩]⟩,
  ⟨0x50004064, 0, 1, fun _ => [⟨WR_WD_STAT.CRC, 19, 1, 0⟩, ⟨WR_WD_STAT.LAST_CH, 16, 3, 0⟩, ⟨WR_WD_STAT.MISSES, 0, 16, 0⟩]⟩,
  ⟨0x50006040, 0, 1, fun _ => [⟨LAT_CFG.UPD_CNT, 24, 8, 0⟩, ⟨LAT_CFG.UPD_BASE, 16, 7, 0⟩, ⟨LAT_CFG.REQ_CNT, 8, 2, 0⟩, ⟨LAT_CFG.REQ_BASE, 0, 7, 0⟩]⟩,
  ⟨0x50006044, 0, 1, fun _ => [⟨LAT_STAT.ROUTE, 16, 11, 0⟩, ⟨LAT_STAT.PASS_REQ, 12, 4, 0⟩, ⟨LAT_STAT.CMD_ERR, 8, 1, 0⟩, ⟨LAT_STAT.SWEEP, 7, 1, 0⟩, ⟨LAT_STAT.ACTIVE_ID, 6, 1, 0⟩, ⟨LAT_STAT.SB_STATE, 0, 3, 0⟩]⟩,
  ⟨0x50006048, 0, 1, fun _ => [⟨LAT_SB_CMD.CMD, 0, 3, 0⟩]⟩,
  ⟨0x5000604C, 0, 1, fun _ => [⟨LAT_CV.CV, 0, 32, 0⟩]⟩,
  ⟨0x50006050, 0, 1, fun _ => [⟨LAT_CV.CV, 0, 32, 32⟩]⟩,
  ⟨0x50006054, 0, 1, fun _ => [⟨LAT_CVC.CVC, 0, 32, 0⟩]⟩,
  ⟨0x50006058, 0, 1, fun _ => [⟨LAT_CVC.CVC, 0, 32, 32⟩]⟩,
  ⟨0x5000605C, 0, 1, fun _ => [⟨LAT_SWAP_AT.AT, 0, 32, 0⟩]⟩,
  ⟨0x50006060, 0, 1, fun _ => [⟨LAT_SWAP.RESULT, 8, 3, 0⟩, ⟨LAT_SWAP.ARM, 0, 1, 0⟩]⟩,
  ⟨0x50006064, 0, 1, fun _ => [⟨LAT_PASS.CYCLES, 0, 17, 0⟩]⟩,
  ⟨0x50006068, 0, 1, fun _ => [⟨LAT_PASS_MAX.CYCLES, 0, 17, 0⟩]⟩,
  ⟨0x5000606C, 0, 1, fun _ => [⟨LAT_PASSCNT.COUNT, 0, 32, 0⟩]⟩,
  ⟨0x50007040, 0, 1, fun _ => [⟨LAT_DENY_LAST.REASON, 28, 4, 0⟩, ⟨LAT_DENY_LAST.OBJ, 16, 12, 0⟩, ⟨LAT_DENY_LAST.GATE, 15, 1, 0⟩, ⟨LAT_DENY_LAST.NUM, 0, 11, 0⟩]⟩,
  ⟨0x50007044, 0, 1, fun _ => [⟨LAT_GRANTS.COUNT, 0, 32, 0⟩]⟩,
  ⟨0x50007048, 0, 1, fun _ => [⟨LAT_DENIALS.COUNT, 0, 32, 0⟩]⟩,
  ⟨0x5000704C, 0, 1, fun _ => [⟨LAT_WDRAW.COUNT, 0, 32, 0⟩]⟩,
  ⟨0x50007050, 0, 1, fun _ => [⟨LAT_ERRCNT.RATE, 16, 16, 0⟩, ⟨LAT_ERRCNT.UPD_BAD, 0, 16, 0⟩]⟩,
  ⟨0x50007054, 0, 1, fun _ => [⟨LAT_ECC.CORR, 0, 16, 0⟩]⟩,
  ⟨0x50007058, 0, 1, fun _ => [⟨LAT_VERR.ERR, 28, 4, 0⟩, ⟨LAT_VERR.WORD, 0, 17, 0⟩]⟩,
  ⟨0x5000705C, 0, 1, fun _ => [⟨LAT_CHANGED.COUNT, 0, 12, 0⟩]⟩,
  ⟨0x40400040, 0, 1, fun _ => [⟨SIN_GCFG.FE_DLY, 0, 8, 0⟩]⟩,
  ⟨0x40400044, 0, 1, fun _ => [⟨SIN_AGE.MAX_AGE, 0, 17, 0⟩]⟩,
  ⟨0x40400048, 0, 1, fun _ => [⟨SIN_RST.ACK_EN, 31, 1, 0⟩, ⟨SIN_RST.ACK_IN, 0, 6, 0⟩]⟩,
  ⟨0x4040004C, 0, 1, fun _ => [⟨SIN_LOG.VAL, 0, 32, 0⟩]⟩,
  ⟨0x40400050, 0, 1, fun _ => [⟨SIN_LOG.VAL, 0, 32, 32⟩]⟩,
  ⟨0x40400054, 0, 1, fun _ => [⟨SIN_NORM.VAL, 0, 32, 0⟩]⟩,
  ⟨0x40400058, 0, 1, fun _ => [⟨SIN_NORM.VAL, 0, 32, 32⟩]⟩,
  ⟨0x4040005C, 0, 1, fun _ => [⟨SIN_UNLOCK.REQ, 0, 32, 0⟩]⟩,
  ⟨0x40400060, 0, 1, fun _ => [⟨SIN_UNLOCK.REQ, 0, 32, 32⟩]⟩,
  ⟨0x40400064, 0, 1, fun _ => [⟨SIN_CNT.LOCKOUTS, 16, 16, 0⟩, ⟨SIN_CNT.DISCARDED, 0, 16, 0⟩]⟩]

/-- Register rows of the fixed pages, part 2. -/
def regRows2 : List RegRow := [
  ⟨0x40400068, 0, 1, fun _ => [⟨SIN_RET.KEPT, 8, 7, 0⟩, ⟨SIN_RET.CV_CHANGED, 3, 1, 0⟩, ⟨SIN_RET.CRC_FAIL, 2, 1, 0⟩, ⟨SIN_RET.WPOR, 1, 1, 0⟩, ⟨SIN_RET.PASS, 0, 1, 0⟩]⟩,
  ⟨0x40401040, 0x4, 64, fun i => [⟨SIN_CFG.USED i, 31, 1, 0⟩, ⟨SIN_CFG.OFF_FAST i, 30, 1, 0⟩, ⟨SIN_CFG.PAIR i, 28, 2, 0⟩, ⟨SIN_CFG.STARTUP i, 26, 2, 0⟩, ⟨SIN_CFG.ACK i, 25, 1, 0⟩, ⟨SIN_CFG.TSRC i, 16, 4, 0⟩, ⟨SIN_CFG.FILT i, 0, 13, 0⟩]⟩,
  ⟨0x40402040, 0x4, 32, fun i => [⟨SIN_DISC.T_DISC i, 0, 16, 0⟩]⟩,
  ⟨0x404020C0, 0x4, 8, fun i => [⟨TOUT_CFG.EN i, 31, 1, 0⟩, ⟨TOUT_CFG.TP_INT i, 16, 13, 0⟩, ⟨TOUT_CFG.TP_REC i, 8, 8, 0⟩, ⟨TOUT_CFG.TP_W i, 0, 8, 0⟩]⟩,
  ⟨0x404020E0, 0, 1, fun _ => [⟨TOUT_STAT.FAIL, 24, 8, 0⟩, ⟨TOUT_STAT.ACTIVE, 4, 4, 0⟩]⟩,
  ⟨0x404020E4, 0, 1, fun _ => [⟨TOUT_WAIT.WAIT, 0, 16, 0⟩]⟩,
  ⟨0x40403040, 0x4, 64, fun i => [⟨SIN_ST.GLITCH i, 24, 8, 0⟩, ⟨SIN_ST.CAUSE i, 16, 4, 0⟩, ⟨SIN_ST.DISC i, 7, 1, 0⟩, ⟨SIN_ST.FILT i, 6, 1, 0⟩, ⟨SIN_ST.RAW i, 5, 1, 0⟩, ⟨SIN_ST.GSTEP i, 3, 2, 0⟩, ⟨SIN_ST.STATE i, 0, 3, 0⟩]⟩,
  ⟨0x40403140, 0x8, 64, fun i => [⟨SIN_PROOF.PROOF i, 0, 32, 0⟩]⟩,
  ⟨0x40403144, 0x8, 64, fun i => [⟨SIN_PROOF.PROOF i, 0, 32, 32⟩]⟩,
  ⟨0x40500040, 0, 1, fun _ => [⟨SOUT_GCFG.SW_ON, 20, 10, 0⟩, ⟨SOUT_GCFG.SW_OFF, 10, 10, 0⟩, ⟨SOUT_GCFG.FB_DLY, 0, 7, 0⟩]⟩,
  ⟨0x40500044, 0, 1, fun _ => [⟨SOUT_RST.IN_EN, 31, 1, 0⟩, ⟨SOUT_RST.IN, 16, 6, 0⟩, ⟨SOUT_RST.GRP_ACK, 0, 16, 0⟩]⟩,
  ⟨0x40500048, 0, 1, fun _ => [⟨SOUT_UNLOCK.GRP, 0, 16, 0⟩]⟩,
  ⟨0x4050004C, 0, 1, fun _ => [⟨SOUT_LOCK.GRP, 0, 16, 0⟩]⟩,
  ⟨0x40500050, 0, 1, fun _ => [⟨SOUT_FBV.VAL, 0, 32, 0⟩]⟩,
  ⟨0x40500054, 0, 1, fun _ => [⟨SOUT_DHS.VAL, 0, 32, 0⟩]⟩,
  ⟨0x40500058, 0, 1, fun _ => [⟨SOUT_DLS.VAL, 0, 32, 0⟩]⟩,
  ⟨0x4050005C, 0, 1, fun _ => [⟨SOUT_ENV.VAL, 0, 32, 0⟩]⟩,
  ⟨0x40500060, 0, 1, fun _ => [⟨SOUT_CNT.DISCARDED, 16, 16, 0⟩, ⟨SOUT_CNT.LATE, 8, 8, 0⟩, ⟨SOUT_CNT.LOCKOUTS, 0, 8, 0⟩]⟩,
  ⟨0x40500064, 0, 1, fun _ => [⟨SOUT_WAIT.WAIT, 0, 16, 0⟩]⟩,
  ⟨0x40501040, 0x4, 32, fun i => [⟨SOUT_CFG.USED i, 31, 1, 0⟩, ⟨SOUT_CFG.GROUP i, 27, 4, 0⟩, ⟨SOUT_CFG.APPLY_WORD i, 20, 7, 0⟩, ⟨SOUT_CFG.TT i, 19, 1, 0⟩, ⟨SOUT_CFG.BIT i, 0, 12, 0⟩]⟩,
  ⟨0x405010C0, 0x4, 32, fun i => [⟨SOUT_TCFG.INT i, 19, 13, 0⟩, ⟨SOUT_TCFG.REC i, 8, 8, 0⟩, ⟨SOUT_TCFG.PW i, 0, 7, 0⟩]⟩,
  ⟨0x40501140, 0x4, 32, fun i => [⟨SOUT_ST.PASSES i, 24, 8, 0⟩, ⟨SOUT_ST.CAUSE i, 16, 4, 0⟩, ⟨SOUT_ST.SIDE i, 4, 1, 0⟩, ⟨SOUT_ST.STATE i, 0, 3, 0⟩, ⟨SOUT_ENV.VAL, 11, 1, i⟩, ⟨SOUT_FBV.VAL, 10, 1, i⟩, ⟨SOUT_DLS.VAL, 9, 1, i⟩, ⟨SOUT_DHS.VAL, 8, 1, i⟩]⟩,
  ⟨0x40700100, 0, 1, fun _ => [⟨CFG_STAT.CONFIRMED, 31, 1, 0⟩, ⟨CFG_STAT.DEFAULTS, 30, 1, 0⟩, ⟨CFG_STAT.MISMATCH, 29, 1, 0⟩, ⟨CFG_STAT.CV_VALID, 28, 1, 0⟩]⟩,
  ⟨0x40700104, 0, 1, fun _ => [⟨CFG_CV.CV, 0, 32, 0⟩]⟩,
  ⟨0x40700108, 0, 1, fun _ => [⟨CFG_CV.CV, 0, 32, 32⟩]⟩,
  ⟨0x4070010C, 0, 1, fun _ => [⟨ACT_AT.AT, 0, 32, 0⟩]⟩,
  ⟨0x40700110, 0, 1, fun _ => [⟨ACT_AT.AT, 0, 32, 32⟩]⟩,
  ⟨0x40700114, 0, 1, fun _ => [⟨ACT_CFG.ARM, 31, 1, 0⟩, ⟨ACT_CFG.SLOT, 0, 1, 0⟩]⟩,
  ⟨0x40700118, 0, 1, fun _ => [⟨CFG_PKGCV.CV, 0, 32, 0⟩]⟩,
  ⟨0x4070011C, 0, 1, fun _ => [⟨CFG_PKGCV.CV, 0, 32, 32⟩]⟩,
  ⟨0x40700200, 0, 1, fun _ => [⟨FLT_STAT.CAPTURED, 30, 1, 0⟩, ⟨FLT_STAT.VALID, 29, 1, 0⟩, ⟨FLT_STAT.HELD, 28, 1, 0⟩, ⟨FLT_STAT.LAST_RST, 16, 4, 0⟩, ⟨FLT_STAT.LAST_CLASS, 0, 2, 0⟩, ⟨WR_STAT.LOCKOUT, 31, 1, 0⟩]⟩,
  ⟨0x40700204, 0, 1, fun _ => [⟨FLT_FIRST.FCODE, 0, 16, 0⟩]⟩,
  ⟨0x40700208, 0, 1, fun _ => [⟨FLT_FTIME.VAL, 0, 32, 0⟩]⟩,
  ⟨0x4070020C, 0, 1, fun _ => [⟨FLT_FTIME.VAL, 0, 32, 32⟩]⟩,
  ⟨0x40700210, 0, 1, fun _ => [⟨FLT_CYCLE.VAL, 0, 32, 0⟩]⟩,
  ⟨0x40700214, 0, 1, fun _ => [⟨FLT_CNT.UNIT_SAFE, 16, 16, 0⟩, ⟨FLT_CNT.CH_LOST, 8, 8, 0⟩, ⟨FLT_CNT.NONSAFETY, 0, 8, 0⟩]⟩,
  ⟨0x40700240, 0x4, 12, fun i => [⟨FLT_CAP.VAL i, 0, 32, 0⟩]⟩,
  ⟨0x40700400, 0, 1, fun _ => [⟨LED_STAT.VALID, 31, 1, 0⟩, ⟨LED_STAT.OVER, 30, 1, 0⟩, ⟨LED_STAT.FIRST, 16, 8, 0⟩, ⟨LED_STAT.NCHAIN, 0, 8, 0⟩]⟩,
  ⟨0x40700440, 0x4, 240, fun i => [⟨LED_RESULT.OVER i, 31, 1, 0⟩, ⟨LED_RESULT.WC i, 0, 24, 0⟩]⟩,
  ⟨0x40700800, 0x8, 240, fun i => [⟨LED_DEF.KIND i, 28, 4, 0⟩, ⟨LED_DEF.TASK i, 25, 3, 0⟩, ⟨LED_DEF.SRC_Z i, 24, 1, 0⟩, ⟨LED_DEF.SRC i, 12, 9, 0⟩, ⟨LED_DEF.END i, 0, 9, 0⟩]⟩]

/-- Register rows of the fixed pages, part 3. -/
def regRows3 : List RegRow := [
  ⟨0x40700804, 0x8, 240, fun i => [⟨LED_BUDGET.PST i, 0, 24, 0⟩]⟩,
  ⟨0x40600040, 0, 1, fun _ => [⟨ZST_ID.ID, 0, 32, 0⟩]⟩,
  ⟨0x40600044, 0, 1, fun _ => [⟨ZST_GCFG.NET_ID, 16, 16, 0⟩, ⟨ZST_GCFG.RX_FR, 10, 6, 0⟩, ⟨ZST_GCFG.TS_TOL, 0, 10, 0⟩]⟩,
  ⟨0x40600048, 0, 1, fun _ => [⟨ZST_CLAIM.EPOCH, 8, 24, 0⟩, ⟨ZST_CLAIM.RANK, 0, 8, 0⟩]⟩,
  ⟨0x4060004C, 0, 1, fun _ => [⟨ZST_CTOFF.OFF, 0, 22, 0⟩]⟩,
  ⟨0x40600050, 0, 1, fun _ => [⟨ZST_KTOFF.OFF, 0, 22, 0⟩]⟩,
  ⟨0x40600054, 0, 1, fun _ => [⟨ZST_RXCNT.DROP, 16, 16, 0⟩, ⟨ZST_RXCNT.STORE_HWM, 0, 16, 0⟩]⟩,
  ⟨0x40600058, 0, 1, fun _ => [⟨PR_CFG.MIR_PAGES, 25, 7, 0⟩, ⟨PR_CFG.MIR_RATE, 20, 4, 0⟩, ⟨PR_CFG.JOIN_WAIT, 0, 14, 0⟩]⟩,
  ⟨0x4060005C, 0, 1, fun _ => [⟨PR_HB.TX, 16, 9, 0⟩, ⟨PR_HB.RX, 0, 9, 0⟩]⟩,
  ⟨0x40600060, 0, 1, fun _ => [⟨PR_PEER.TX, 16, 9, 0⟩, ⟨PR_PEER.RX, 0, 9, 0⟩]⟩,
  ⟨0x40600064, 0, 1, fun _ => [⟨PR_MIR.TX, 16, 9, 0⟩, ⟨PR_MIR.RX, 0, 9, 0⟩]⟩,
  ⟨0x40600068, 0, 1, fun _ => [⟨PR_STAT.VALID, 31, 1, 0⟩, ⟨PR_STAT.STATE, 28, 3, 0⟩, ⟨PR_STAT.RETURNING, 27, 1, 0⟩, ⟨PR_STAT.ISOLATED, 26, 1, 0⟩, ⟨PR_STAT.WIT_LIVE, 25, 1, 0⟩, ⟨PR_STAT.PTR_LIVE, 24, 1, 0⟩, ⟨PR_STAT.SYNCED, 8, 7, 0⟩]⟩,
  ⟨0x4060006C, 0, 1, fun _ => [⟨PR_HIGH.EPOCH, 8, 24, 0⟩, ⟨PR_HIGH.RANK, 0, 8, 0⟩]⟩,
  ⟨0x40600070, 0, 1, fun _ => [⟨TM_CFG.SRC, 28, 4, 0⟩, ⟨TM_CFG.DOMAIN, 0, 8, 0⟩]⟩,
  ⟨0x40600074, 0, 1, fun _ => [⟨TM_OFF.OFF, 0, 32, 0⟩]⟩,
  ⟨0x40600078, 0, 1, fun _ => [⟨TM_OFF.OFF, 0, 32, 32⟩]⟩,
  ⟨0x4060007C, 0, 1, fun _ => [⟨TM_NRR.PPB, 0, 32, 0⟩]⟩,
  ⟨0x40600080, 0, 1, fun _ => [⟨TM_STAT.MEAS, 16, 16, 0⟩, ⟨TM_STAT.PORT, 4, 4, 0⟩, ⟨TM_STAT.STOFF, 3, 1, 0⟩, ⟨TM_STAT.AS_CAPABLE, 2, 1, 0⟩, ⟨TM_STAT.LOCKED, 1, 1, 0⟩, ⟨TM_STAT.VALID, 0, 1, 0⟩]⟩,
  ⟨0x40600084, 0, 1, fun _ => [⟨TM_STOFF.STOFF, 0, 32, 0⟩]⟩,
  ⟨0x40600088, 0, 1, fun _ => [⟨TM_STOFF.STOFF, 0, 32, 32⟩]⟩,
  ⟨0x4060008C, 0, 1, fun _ => [⟨ZST_SELF.LOADER, 16, 9, 0⟩, ⟨ZST_SELF.RETAIN, 0, 9, 0⟩]⟩,
  ⟨0x40601040, 0, 1, fun _ => [⟨ZST_RX_HDR.VALID, 31, 1, 0⟩, ⟨ZST_RX_HDR.PORT, 27, 4, 0⟩, ⟨ZST_RX_HDR.LEN, 16, 11, 0⟩, ⟨ZST_RX_HDR.BATCH, 0, 16, 0⟩]⟩,
  ⟨0x40601044, 0, 1, fun _ => [⟨ZST_RX_DAT.DATA, 0, 32, 0⟩]⟩,
  ⟨0x40602040, 0x4, 512, fun i => [⟨ZST_CONN.USED i, 31, 1, 0⟩, ⟨ZST_CONN.DIR i, 30, 1, 0⟩, ⟨ZST_CONN.SELF i, 29, 1, 0⟩, ⟨ZST_CONN.PORT_A i, 23, 4, 0⟩, ⟨ZST_CONN.PORT_B i, 19, 4, 0⟩, ⟨ZST_CONN.CID i, 0, 16, 0⟩]⟩,
  ⟨0x40602900, 0x8, 12, fun i => [⟨ZST_PCFG.CAT i, 30, 2, 0⟩, ⟨ZST_PCFG.TXQ_FR i, 16, 8, 0⟩, ⟨ZST_PCFG.TXQ_B i, 0, 16, 0⟩]⟩,
  ⟨0x40602904, 0x8, 12, fun i => [⟨ZST_PCFG2.OTH i, 16, 16, 0⟩]⟩,
  ⟨0x40602980, 0x4, 12, fun i => [⟨ZST_PSTAT.STRANGER i, 16, 16, 0⟩, ⟨ZST_PSTAT.TXDROP i, 0, 16, 0⟩]⟩,
  ⟨0x40603040, 0x4, 512, fun i => [⟨ZST_PEER.PEER i, 0, 32, 0⟩]⟩,
  ⟨0x42000040, 0, 1, fun _ => [⟨BR_STAT.SLOTS, 24, 8, 0⟩, ⟨BR_STAT.PWQ, 16, 8, 0⟩, ⟨BR_STAT.BANK, 0, 1, 0⟩]⟩,
  ⟨0x42000044, 0, 1, fun _ => [⟨BR_TBL_IDX.IDX, 0, 12, 0⟩]⟩,
  ⟨0x42000048, 0x4, 4, fun i => [⟨BR_TBL_W.W i, 0, 32, 0⟩]⟩,
  ⟨0x42000058, 0, 1, fun _ => [⟨BR_TBL_CMD.COMMIT, 31, 1, 0⟩, ⟨BR_TBL_CMD.COUNT, 0, 13, 0⟩]⟩,
  ⟨0x4200005C, 0, 1, fun _ => [⟨BR_TBL_STAT.STATUS, 28, 4, 0⟩, ⟨BR_TBL_STAT.COUNT, 0, 13, 0⟩]⟩,
  ⟨0x42000060, 0, 1, fun _ => [⟨BR_TBL_CRC.CRC, 0, 32, 0⟩]⟩,
  ⟨0x42000064, 0, 1, fun _ => [⟨BR_DRCFG.RSP_TO, 17, 14, 0⟩, ⟨BR_DRCFG.DR_TIMEOUT, 0, 17, 0⟩]⟩,
  ⟨0x42000068, 0, 1, fun _ => [⟨BR_IN_BASE.BASE, 0, 32, 0⟩]⟩,
  ⟨0x4200006C, 0, 1, fun _ => [⟨BR_IN_CFG.EN, 31, 1, 0⟩, ⟨BR_IN_CFG.WR_EN, 30, 1, 0⟩, ⟨BR_IN_CFG.PAGES, 0, 12, 0⟩]⟩,
  ⟨0x42000070, 0, 1, fun _ => [⟨BR_ORPH_ADDR.VAL, 0, 32, 0⟩]⟩,
  ⟨0x42000074, 0, 1, fun _ => [⟨BR_ORPH_DATA.VAL, 0, 32, 0⟩]⟩,
  ⟨0x42000078, 0, 1, fun _ => [⟨BR_ORPH_DATA.VAL, 0, 32, 32⟩]⟩]

/-- Register rows of the fixed pages, part 4. -/
def regRows4 : List RegRow := [
  ⟨0x4200007C, 0, 1, fun _ => [⟨BR_ORPH_INFO.VALID, 31, 1, 0⟩, ⟨BR_ORPH_INFO.LOST, 16, 8, 0⟩, ⟨BR_ORPH_INFO.REGION, 12, 4, 0⟩, ⟨BR_ORPH_INFO.REQ, 8, 2, 0⟩, ⟨BR_ORPH_INFO.SIZE, 0, 3, 0⟩]⟩,
  ⟨0x42000080, 0, 1, fun _ => [⟨BR_CNT0.MISS, 16, 16, 0⟩, ⟨BR_CNT0.EGR_FULL, 0, 16, 0⟩]⟩,
  ⟨0x42000084, 0, 1, fun _ => [⟨BR_CNT1.TOO_BIG, 16, 16, 0⟩, ⟨BR_CNT1.ALIGN, 0, 16, 0⟩]⟩,
  ⟨0x42000088, 0, 1, fun _ => [⟨BR_CNT2.LATE_RSP, 16, 16, 0⟩, ⟨BR_CNT2.IN_DROP, 0, 16, 0⟩]⟩,
  ⟨0x4200008C, 0x4, 2, fun i => [⟨BR_UPORT.CVU_EN i, 31, 1, 0⟩, ⟨BR_UPORT.CVU i, 28, 3, 0⟩]⟩,
  ⟨0x42001040, 0x10, 16, fun i => [⟨BR_RBASE.BASE i, 0, 32, 0⟩]⟩,
  ⟨0x42001044, 0x10, 16, fun i => [⟨BR_RCTL.VALID i, 31, 1, 0⟩, ⟨BR_RCTL.SIDE i, 30, 1, 0⟩, ⟨BR_RCTL.PREFETCH i, 29, 1, 0⟩, ⟨BR_RCTL.WRITE_EN i, 28, 1, 0⟩, ⟨BR_RCTL.NATIVE i, 27, 1, 0⟩, ⟨BR_RCTL.MAXSIZE i, 24, 3, 0⟩, ⟨BR_RCTL.PORT i, 20, 4, 0⟩, ⟨BR_RCTL.SIZE_LOG2 i, 15, 5, 0⟩, ⟨BR_RCTL.CVU_EN i, 14, 1, 0⟩, ⟨BR_RCTL.CVU i, 11, 3, 0⟩, ⟨BR_RCTL.KIND i, 8, 3, 0⟩]⟩,
  ⟨0x42001048, 0x10, 16, fun i => [⟨BR_RID.ID i, 0, 32, 0⟩]⟩,
  ⟨0x4200104C, 0x10, 16, fun i => [⟨BR_RRSP.ID i, 0, 32, 0⟩]⟩,
  ⟨0x42001140, 0x4, 2, fun i => [⟨BR_WSEL.WOFF i, 6, 26, 0⟩, ⟨BR_WSEL.EN i, 5, 1, 0⟩, ⟨BR_WSEL.REGION i, 0, 4, 0⟩]⟩,
  ⟨0x42001148, 0, 1, fun _ => [⟨BR_REG_CMD.COMMIT, 31, 1, 0⟩]⟩,
  ⟨0x4200114C, 0, 1, fun _ => [⟨BR_REG_STAT.STATUS, 28, 4, 0⟩, ⟨BR_REG_STAT.REGION, 0, 4, 0⟩]⟩,
  ⟨0x42001180, 0x4, 16, fun i => [⟨BR_PFDISC.COUNT i, 0, 16, 0⟩]⟩,
  ⟨0x42100040, 0x4000, 8, fun i => [⟨CVU_CFG.PRESET i, 28, 4, 0⟩, ⟨CVU_CFG.MODE i, 26, 2, 0⟩, ⟨CVU_CFG.REFIN i, 25, 1, 0⟩, ⟨CVU_CFG.REFOUT i, 24, 1, 0⟩, ⟨CVU_CFG.WIDTH i, 0, 7, 0⟩]⟩,
  ⟨0x42100044, 0x4000, 8, fun i => [⟨CVU_STAT.CHK_FAIL i, 16, 16, 0⟩, ⟨CVU_STAT.LAST_OK i, 2, 1, 0⟩, ⟨CVU_STAT.OWNED i, 1, 1, 0⟩, ⟨CVU_STAT.BUSY i, 0, 1, 0⟩]⟩,
  ⟨0x42100048, 0x4000, 8, fun i => [⟨CVU_POLY.VAL i, 0, 32, 0⟩]⟩,
  ⟨0x4210004C, 0x4000, 8, fun i => [⟨CVU_POLY.VAL i, 0, 32, 32⟩]⟩,
  ⟨0x42100050, 0x4000, 8, fun i => [⟨CVU_INIT.VAL i, 0, 32, 0⟩]⟩,
  ⟨0x42100054, 0x4000, 8, fun i => [⟨CVU_INIT.VAL i, 0, 32, 32⟩]⟩,
  ⟨0x42100058, 0x4000, 8, fun i => [⟨CVU_XOR.VAL i, 0, 32, 0⟩]⟩,
  ⟨0x4210005C, 0x4000, 8, fun i => [⟨CVU_XOR.VAL i, 0, 32, 32⟩]⟩,
  ⟨0x42100060, 0x4000, 8, fun i => [⟨CVU_VAL.VAL i, 0, 32, 0⟩]⟩,
  ⟨0x42100064, 0x4000, 8, fun i => [⟨CVU_VAL.VAL i, 0, 32, 32⟩]⟩,
  ⟨0x42100068, 0x4000, 8, fun i => [⟨CVU_RES.VAL i, 0, 32, 0⟩]⟩,
  ⟨0x4210006C, 0x4000, 8, fun i => [⟨CVU_RES.VAL i, 0, 32, 32⟩]⟩,
  ⟨0x42100070, 0x4000, 8, fun i => [⟨CVU_BASE.ADDR i, 0, 32, 0⟩]⟩,
  ⟨0x42100074, 0x4000, 8, fun i => [⟨CVU_BASE.ADDR i, 0, 32, 32⟩]⟩,
  ⟨0x42100078, 0x4000, 8, fun i => [⟨CVU_LEN.LEN i, 0, 32, 0⟩]⟩,
  ⟨0x4210007C, 0x4000, 8, fun i => [⟨CVU_FEED.DATA i, 0, 32, 0⟩]⟩,
  ⟨0x42100080, 0x4000, 8, fun i => [⟨CVU_FEED_B.DATA i, 0, 8, 0⟩]⟩,
  ⟨0x40A00040, 0, 1, fun _ => [⟨ARB_ERR.CAUSE, 0, 5, 0⟩]⟩,
  ⟨0x40A00044, 0, 1, fun _ => [⟨ARB_ERR_ADDR.ADDR, 0, 32, 0⟩]⟩,
  ⟨0x40A00048, 0, 1, fun _ => [⟨ARB_ERR_INFO.TGT, 8, 4, 0⟩, ⟨ARB_ERR_INFO.CAUSE, 4, 4, 0⟩, ⟨ARB_ERR_INFO.REQ, 0, 4, 0⟩]⟩,
  ⟨0x40A0004C, 0, 1, fun _ => [⟨ARB_OUT.HWM, 16, 16, 0⟩, ⟨ARB_OUT.NOW, 0, 8, 0⟩]⟩,
  ⟨0x40A01040, 0x4, 7, fun i => [⟨ARB_TCFG.AGE_LIM i, 0, 10, 0⟩]⟩,
  ⟨0x40A01080, 0x4, 7, fun i => [⟨ARB_WT.W i 0, 0, 4, 0⟩, ⟨ARB_WT.W i 1, 4, 4, 0⟩, ⟨ARB_WT.W i 2, 8, 4, 0⟩, ⟨ARB_WT.W i 3, 12, 4, 0⟩, ⟨ARB_WT.W i 4, 16, 4, 0⟩, ⟨ARB_WT.W i 5, 20, 4, 0⟩, ⟨ARB_WT.W i 6, 24, 4, 0⟩]⟩,
  ⟨0x40A02040, 0x4, 7, fun i => [⟨ARB_LAT.MAX i, 0, 10, 0⟩]⟩,
  ⟨0x40900040, 0, 1, fun _ => [⟨INT_STAT.FULL, 16, 8, 0⟩, ⟨INT_STAT.STALL, 0, 1, 0⟩]⟩,
  ⟨0x40900044, 0, 1, fun _ => [⟨INT_LOSTSUM.COUNT, 0, 32, 0⟩]⟩,
  ⟨0x40901040, 0x4, 11, fun i => [⟨INT_ASM.DATA i, 0, 32, 0⟩]⟩]

/-- Register rows of the fixed pages, part 5. -/
def regRows5 : List RegRow := [
  ⟨0x40901070, 0, 1, fun _ => [⟨INT_RAISE.ANY, 0, 32, 0⟩]⟩,
  ⟨0x40901100, 0x4, 128, fun i => [⟨INT_LOST.COUNT (2 * i), 0, 16, 0⟩, ⟨INT_LOST.COUNT (2 * i + 1), 16, 16, 0⟩]⟩,
  ⟨0x44500040, 0, 1, fun _ => [⟨EVR_LBA.LBA, 0, 32, 0⟩]⟩,
  ⟨0x44500044, 0, 1, fun _ => [⟨EVR_FMT_N.COUNT, 0, 32, 0⟩]⟩,
  ⟨0x44500048, 0, 1, fun _ => [⟨EVR_FMT_M.COUNT, 0, 32, 0⟩]⟩,
  ⟨0x4450004C, 0, 1, fun _ => [⟨EVR_CMD.CMD, 0, 3, 0⟩]⟩,
  ⟨0x44500050, 0, 1, fun _ => [⟨EVR_STAT.CMD_ERR, 8, 1, 0⟩, ⟨EVR_STAT.TSRC, 6, 2, 0⟩, ⟨EVR_STAT.GONE, 5, 1, 0⟩, ⟨EVR_STAT.WIN_READY, 4, 1, 0⟩, ⟨EVR_STAT.HW_FULL, 3, 1, 0⟩, ⟨EVR_STAT.STATE, 0, 3, 0⟩]⟩,
  ⟨0x44500054, 0, 1, fun _ => [⟨EVR_CF.PEND, 16, 13, 0⟩, ⟨EVR_CF.HEAD, 0, 12, 0⟩]⟩,
  ⟨0x44500058, 0, 1, fun _ => [⟨EVR_SEQ.VAL, 0, 32, 0⟩]⟩,
  ⟨0x4450005C, 0, 1, fun _ => [⟨EVR_BASE.VAL, 0, 32, 0⟩]⟩,
  ⟨0x44500060, 0, 1, fun _ => [⟨EVR_HWFILL.VAL, 0, 32, 0⟩]⟩,
  ⟨0x44500064, 0, 1, fun _ => [⟨EVR_N.VAL, 0, 32, 0⟩]⟩,
  ⟨0x44500068, 0, 1, fun _ => [⟨EVR_M.VAL, 0, 32, 0⟩]⟩,
  ⟨0x4450006C, 0, 1, fun _ => [⟨EVR_PCC.VAL, 0, 32, 0⟩]⟩,
  ⟨0x44500070, 0, 1, fun _ => [⟨EVR_LOGCV.VAL, 0, 32, 0⟩]⟩,
  ⟨0x44500074, 0, 1, fun _ => [⟨EVR_LOGCV.VAL, 0, 32, 32⟩]⟩,
  ⟨0x44500078, 0, 1, fun _ => [⟨EVR_CALOFF.VAL, 0, 32, 0⟩]⟩,
  ⟨0x4450007C, 0, 1, fun _ => [⟨EVR_CALOFF.VAL, 0, 32, 32⟩]⟩,
  ⟨0x44500080, 0, 1, fun _ => [⟨EVR_CALSET.VAL, 0, 32, 0⟩]⟩,
  ⟨0x44500084, 0, 1, fun _ => [⟨EVR_CALSET.VAL, 0, 32, 32⟩]⟩,
  ⟨0x44501040, 0, 1, fun _ => [⟨EVR_CURSOR.INDEX, 0, 32, 0⟩]⟩,
  ⟨0x44501044, 0, 1, fun _ => [⟨EVR_CURCTL.AREA, 0, 1, 0⟩]⟩,
  ⟨0x44501080, 0x4, 16, fun i => [⟨EVR_WIN.DATA i, 0, 32, 0⟩]⟩,
  ⟨0x445010C0, 0, 1, fun _ => [⟨EVR_CLR.CV, 0, 32, 0⟩]⟩,
  ⟨0x445010C4, 0, 1, fun _ => [⟨EVR_CLR.CV, 0, 32, 32⟩]⟩,
  ⟨0x445010C8, 0, 1, fun _ => [⟨EVR_CLR_STAT.RESULT, 0, 4, 0⟩]⟩,
  ⟨0x44501100, 0x4, 8, fun i => [⟨EVR_URG.MASK i, 0, 32, 0⟩]⟩,
  ⟨0x44700040, 0, 1, fun _ => [⟨PWR_REQ.STATE, 0, 3, 0⟩]⟩,
  ⟨0x44700044, 0, 1, fun _ => [⟨PWR_STAT.RESULT, 12, 4, 0⟩, ⟨PWR_STAT.PHASE, 9, 3, 0⟩, ⟨PWR_STAT.PENDING, 6, 3, 0⟩, ⟨PWR_STAT.TARGET, 3, 3, 0⟩, ⟨PWR_STAT.STATE, 0, 3, 0⟩]⟩,
  ⟨0x44700048, 0, 1, fun _ => [⟨PWR_REFUSER.TYPE, 16, 16, 0⟩, ⟨PWR_REFUSER.INST, 8, 8, 0⟩, ⟨PWR_REFUSER.WHY, 0, 2, 0⟩]⟩,
  ⟨0x4470004C, 0, 1, fun _ => [⟨PWR_CFG.I2C_EN, 31, 1, 0⟩, ⟨PWR_CFG.I2C_ADDR, 24, 7, 0⟩, ⟨PWR_CFG.TIMER_EN, 23, 1, 0⟩, ⟨PWR_CFG.DDR_SR, 22, 1, 0⟩, ⟨PWR_CFG.RETMODE, 21, 1, 0⟩, ⟨PWR_CFG.NOTICE_MS, 0, 13, 0⟩]⟩,
  ⟨0x44700050, 0, 1, fun _ => [⟨PWR_RETBANK.MASK, 0, 32, 0⟩]⟩,
  ⟨0x44700054, 0, 1, fun _ => [⟨PWR_WAKE.CAUSE, 0, 5, 0⟩]⟩,
  ⟨0x44700058, 0, 1, fun _ => [⟨PWR_AON.COUNT, 0, 32, 0⟩]⟩,
  ⟨0x4470005C, 0, 1, fun _ => [⟨PWR_AON.COUNT, 0, 32, 32⟩]⟩,
  ⟨0x44700060, 0, 1, fun _ => [⟨PWR_ALARM.COUNT, 0, 32, 0⟩]⟩,
  ⟨0x44700064, 0, 1, fun _ => [⟨PWR_ALARM.COUNT, 0, 32, 32⟩]⟩,
  ⟨0x44700068, 0, 1, fun _ => [⟨PWR_CNT.REFUSALS, 16, 16, 0⟩, ⟨PWR_CNT.ENTRIES, 0, 16, 0⟩]⟩,
  ⟨0x44701040, 0x4, 64, fun i => [⟨PWR_CLOG.TYPE i, 16, 16, 0⟩, ⟨PWR_CLOG.INST i, 8, 8, 0⟩, ⟨PWR_CLOG.ANSWER i, 0, 2, 0⟩]⟩,
  ⟨0x44401040, 0, 1, fun _ => [⟨FW_STAT.STATE1, 12, 4, 0⟩, ⟨FW_STAT.STATE0, 8, 4, 0⟩, ⟨FW_STAT.TRIAL_LEFT, 4, 2, 0⟩, ⟨FW_STAT.KEY_IDX, 2, 2, 0⟩, ⟨FW_STAT.ACT_BOOT, 1, 1, 0⟩, ⟨FW_STAT.RUN_SLOT, 0, 1, 0⟩]⟩]

/-- Register rows of the fixed pages, part 6. -/
def regRows6 : List RegRow := [
  ⟨0x44401044, 0x4, 2, fun i => [⟨FW_VER.VERSION i, 0, 32, 0⟩]⟩,
  ⟨0x4440104C, 0, 1, fun _ => [⟨FW_SVN.SVN, 0, 32, 0⟩]⟩,
  ⟨0x44900040, 0x4000, 2, fun i => [⟨IDB_CFG.FM i, 31, 1, 0⟩, ⟨IDB_CFG.SEG_EN i, 0, 4, 0⟩]⟩,
  ⟨0x44900044, 0x4000, 2, fun i => [⟨IDB_BUF.ADDR i, 0, 32, 0⟩]⟩,
  ⟨0x44900048, 0x4000, 2, fun i => [⟨IDB_SCAN.GO i, 0, 1, 0⟩]⟩,
  ⟨0x4490004C, 0x4000, 2, fun i => [⟨IDB_STAT.FOUND i, 24, 8, 0⟩, ⟨IDB_STAT.BADREC i, 16, 8, 0⟩, ⟨IDB_STAT.BUSY i, 0, 1, 0⟩]⟩,
  ⟨0x40100040, 0, 1, fun _ => [⟨CLK_STAT.FRC_OK, 4, 1, 0⟩, ⟨CLK_STAT.REF_OK, 3, 1, 0⟩, ⟨CLK_STAT.DDR_LOCK, 2, 1, 0⟩, ⟨CLK_STAT.ROOT_LOCK, 1, 1, 0⟩, ⟨CLK_STAT.ON_PLL, 0, 1, 0⟩]⟩,
  ⟨0x40100044, 0, 1, fun _ => [⟨CLK_FLT.VALID, 31, 1, 0⟩, ⟨CLK_FLT.DOMAIN, 16, 4, 0⟩, ⟨CLK_FLT.FCODE, 0, 16, 0⟩]⟩,
  ⟨0x40100048, 0, 1, fun _ => [⟨RST_CAUSE.KIND, 28, 4, 0⟩, ⟨RST_CAUSE.ORIGIN, 24, 4, 0⟩, ⟨RST_CAUSE.AON_LOST, 23, 1, 0⟩, ⟨RST_CAUSE.SLOT, 22, 1, 0⟩]⟩,
  ⟨0x4010004C, 0, 1, fun _ => [⟨RST_CNT.POR, 24, 8, 0⟩, ⟨RST_CNT.SUPPLY, 16, 8, 0⟩, ⟨RST_CNT.WARM, 8, 8, 0⟩, ⟨RST_CNT.LOCKOUT, 0, 8, 0⟩]⟩,
  ⟨0x40100050, 0, 1, fun _ => [⟨BOOT_STAT.STEP, 28, 4, 0⟩, ⟨BOOT_STAT.FAIL, 27, 1, 0⟩, ⟨BOOT_STAT.SLOT, 26, 1, 0⟩, ⟨BOOT_STAT.FALLBACK, 25, 1, 0⟩, ⟨BOOT_STAT.WARM, 24, 1, 0⟩, ⟨BOOT_STAT.TIME, 0, 24, 0⟩]⟩,
  ⟨0x40101040, 0, 1, fun _ => [⟨CLK_CTL.PLL_EN, 1, 1, 0⟩, ⟨CLK_CTL.SEL, 0, 1, 0⟩]⟩]

/-- Register rows of the port pages (Table 14.6). -/
def portRows : List RegRow := [
  ⟨0x46000040, 0x4000, 4, fun i => [⟨PORT_CFG.CLASS (0x46000000 + i * 0x4000), 30, 2, 0⟩, ⟨PORT_CFG.MODE (0x46000000 + i * 0x4000), 26, 4, 0⟩, ⟨PORT_CFG.GPTP_EN (0x46000000 + i * 0x4000), 25, 1, 0⟩, ⟨PORT_CFG.BEACON_EN (0x46000000 + i * 0x4000), 24, 1, 0⟩, ⟨PORT_CFG.CB_EN (0x46000000 + i * 0x4000), 23, 1, 0⟩, ⟨PORT_CFG.PCP (0x46000000 + i * 0x4000), 12, 3, 0⟩, ⟨PORT_CFG.VID (0x46000000 + i * 0x4000), 0, 12, 0⟩]⟩,
  ⟨0x46200040, 0x4000, 2, fun i => [⟨PORT_CFG.CLASS (0x46200000 + i * 0x4000), 30, 2, 0⟩, ⟨PORT_CFG.MODE (0x46200000 + i * 0x4000), 26, 4, 0⟩, ⟨PORT_CFG.GPTP_EN (0x46200000 + i * 0x4000), 25, 1, 0⟩, ⟨PORT_CFG.BEACON_EN (0x46200000 + i * 0x4000), 24, 1, 0⟩, ⟨PORT_CFG.CB_EN (0x46200000 + i * 0x4000), 23, 1, 0⟩, ⟨PORT_CFG.PCP (0x46200000 + i * 0x4000), 12, 3, 0⟩, ⟨PORT_CFG.VID (0x46200000 + i * 0x4000), 0, 12, 0⟩]⟩,
  ⟨0x46300040, 0x4000, 2, fun i => [⟨PORT_CFG.CLASS (0x46300000 + i * 0x4000), 30, 2, 0⟩, ⟨PORT_CFG.MODE (0x46300000 + i * 0x4000), 26, 4, 0⟩, ⟨PORT_CFG.GPTP_EN (0x46300000 + i * 0x4000), 25, 1, 0⟩, ⟨PORT_CFG.BEACON_EN (0x46300000 + i * 0x4000), 24, 1, 0⟩, ⟨PORT_CFG.CB_EN (0x46300000 + i * 0x4000), 23, 1, 0⟩, ⟨PORT_CFG.PCP (0x46300000 + i * 0x4000), 12, 3, 0⟩, ⟨PORT_CFG.VID (0x46300000 + i * 0x4000), 0, 12, 0⟩]⟩,
  ⟨0x46400040, 0x4000, 4, fun i => [⟨PORT_CFG.CLASS (0x46400000 + i * 0x4000), 30, 2, 0⟩, ⟨PORT_CFG.MODE (0x46400000 + i * 0x4000), 26, 4, 0⟩, ⟨PORT_CFG.GPTP_EN (0x46400000 + i * 0x4000), 25, 1, 0⟩, ⟨PORT_CFG.BEACON_EN (0x46400000 + i * 0x4000), 24, 1, 0⟩, ⟨PORT_CFG.CB_EN (0x46400000 + i * 0x4000), 23, 1, 0⟩, ⟨PORT_CFG.PCP (0x46400000 + i * 0x4000), 12, 3, 0⟩, ⟨PORT_CFG.VID (0x46400000 + i * 0x4000), 0, 12, 0⟩]⟩,
  ⟨0x46600040, 0x4000, 2, fun i => [⟨PORT_CFG.CLASS (0x46600000 + i * 0x4000), 30, 2, 0⟩, ⟨PORT_CFG.MODE (0x46600000 + i * 0x4000), 26, 4, 0⟩, ⟨PORT_CFG.GPTP_EN (0x46600000 + i * 0x4000), 25, 1, 0⟩, ⟨PORT_CFG.BEACON_EN (0x46600000 + i * 0x4000), 24, 1, 0⟩, ⟨PORT_CFG.CB_EN (0x46600000 + i * 0x4000), 23, 1, 0⟩, ⟨PORT_CFG.PCP (0x46600000 + i * 0x4000), 12, 3, 0⟩, ⟨PORT_CFG.VID (0x46600000 + i * 0x4000), 0, 12, 0⟩]⟩,
  ⟨0x44A00040, 0x4000, 1, fun i => [⟨PORT_CFG.CLASS (0x44A00000 + i * 0x4000), 30, 2, 0⟩, ⟨PORT_CFG.MODE (0x44A00000 + i * 0x4000), 26, 4, 0⟩, ⟨PORT_CFG.GPTP_EN (0x44A00000 + i * 0x4000), 25, 1, 0⟩, ⟨PORT_CFG.BEACON_EN (0x44A00000 + i * 0x4000), 24, 1, 0⟩, ⟨PORT_CFG.CB_EN (0x44A00000 + i * 0x4000), 23, 1, 0⟩, ⟨PORT_CFG.PCP (0x44A00000 + i * 0x4000), 12, 3, 0⟩, ⟨PORT_CFG.VID (0x44A00000 + i * 0x4000), 0, 12, 0⟩]⟩,
  ⟨0x46000044, 0x4000, 4, fun i => [⟨PORT_STAT.CLASS_DROP (0x46000000 + i * 0x4000), 16, 16, 0⟩, ⟨PORT_STAT.GP_SLAVE (0x46000000 + i * 0x4000), 4, 1, 0⟩, ⟨PORT_STAT.ERR_PASSIVE (0x46000000 + i * 0x4000), 3, 1, 0⟩, ⟨PORT_STAT.BUS_OFF (0x46000000 + i * 0x4000), 2, 1, 0⟩, ⟨PORT_STAT.PLCA_ACTIVE (0x46000000 + i * 0x4000), 1, 1, 0⟩, ⟨PORT_STAT.LINK (0x46000000 + i * 0x4000), 0, 1, 0⟩]⟩,
  ⟨0x46200044, 0x4000, 2, fun i => [⟨PORT_STAT.CLASS_DROP (0x46200000 + i * 0x4000), 16, 16, 0⟩, ⟨PORT_STAT.GP_SLAVE (0x46200000 + i * 0x4000), 4, 1, 0⟩, ⟨PORT_STAT.ERR_PASSIVE (0x46200000 + i * 0x4000), 3, 1, 0⟩, ⟨PORT_STAT.BUS_OFF (0x46200000 + i * 0x4000), 2, 1, 0⟩, ⟨PORT_STAT.PLCA_ACTIVE (0x46200000 + i * 0x4000), 1, 1, 0⟩, ⟨PORT_STAT.LINK (0x46200000 + i * 0x4000), 0, 1, 0⟩]⟩,
  ⟨0x46300044, 0x4000, 2, fun i => [⟨PORT_STAT.CLASS_DROP (0x46300000 + i * 0x4000), 16, 16, 0⟩, ⟨PORT_STAT.GP_SLAVE (0x46300000 + i * 0x4000), 4, 1, 0⟩, ⟨PORT_STAT.ERR_PASSIVE (0x46300000 + i * 0x4000), 3, 1, 0⟩, ⟨PORT_STAT.BUS_OFF (0x46300000 + i * 0x4000), 2, 1, 0⟩, ⟨PORT_STAT.PLCA_ACTIVE (0x46300000 + i * 0x4000), 1, 1, 0⟩, ⟨PORT_STAT.LINK (0x46300000 + i * 0x4000), 0, 1, 0⟩]⟩,
  ⟨0x46400044, 0x4000, 4, fun i => [⟨PORT_STAT.CLASS_DROP (0x46400000 + i * 0x4000), 16, 16, 0⟩, ⟨PORT_STAT.GP_SLAVE (0x46400000 + i * 0x4000), 4, 1, 0⟩, ⟨PORT_STAT.ERR_PASSIVE (0x46400000 + i * 0x4000), 3, 1, 0⟩, ⟨PORT_STAT.BUS_OFF (0x46400000 + i * 0x4000), 2, 1, 0⟩, ⟨PORT_STAT.PLCA_ACTIVE (0x46400000 + i * 0x4000), 1, 1, 0⟩, ⟨PORT_STAT.LINK (0x46400000 + i * 0x4000), 0, 1, 0⟩]⟩,
  ⟨0x46600044, 0x4000, 2, fun i => [⟨PORT_STAT.CLASS_DROP (0x46600000 + i * 0x4000), 16, 16, 0⟩, ⟨PORT_STAT.GP_SLAVE (0x46600000 + i * 0x4000), 4, 1, 0⟩, ⟨PORT_STAT.ERR_PASSIVE (0x46600000 + i * 0x4000), 3, 1, 0⟩, ⟨PORT_STAT.BUS_OFF (0x46600000 + i * 0x4000), 2, 1, 0⟩, ⟨PORT_STAT.PLCA_ACTIVE (0x46600000 + i * 0x4000), 1, 1, 0⟩, ⟨PORT_STAT.LINK (0x46600000 + i * 0x4000), 0, 1, 0⟩]⟩,
  ⟨0x44A00044, 0x4000, 1, fun i => [⟨PORT_STAT.CLASS_DROP (0x44A00000 + i * 0x4000), 16, 16, 0⟩, ⟨PORT_STAT.GP_SLAVE (0x44A00000 + i * 0x4000), 4, 1, 0⟩, ⟨PORT_STAT.ERR_PASSIVE (0x44A00000 + i * 0x4000), 3, 1, 0⟩, ⟨PORT_STAT.BUS_OFF (0x44A00000 + i * 0x4000), 2, 1, 0⟩, ⟨PORT_STAT.PLCA_ACTIVE (0x44A00000 + i * 0x4000), 1, 1, 0⟩, ⟨PORT_STAT.LINK (0x44A00000 + i * 0x4000), 0, 1, 0⟩]⟩,
  ⟨0x46000048, 0x4000, 4, fun i => [⟨PORT_CNT.RXERR (0x46000000 + i * 0x4000), 16, 16, 0⟩, ⟨PORT_CNT.FILT_DROP (0x46000000 + i * 0x4000), 0, 16, 0⟩]⟩,
  ⟨0x46200048, 0x4000, 2, fun i => [⟨PORT_CNT.RXERR (0x46200000 + i * 0x4000), 16, 16, 0⟩, ⟨PORT_CNT.FILT_DROP (0x46200000 + i * 0x4000), 0, 16, 0⟩]⟩,
  ⟨0x46300048, 0x4000, 2, fun i => [⟨PORT_CNT.RXERR (0x46300000 + i * 0x4000), 16, 16, 0⟩, ⟨PORT_CNT.FILT_DROP (0x46300000 + i * 0x4000), 0, 16, 0⟩]⟩,
  ⟨0x46400048, 0x4000, 4, fun i => [⟨PORT_CNT.RXERR (0x46400000 + i * 0x4000), 16, 16, 0⟩, ⟨PORT_CNT.FILT_DROP (0x46400000 + i * 0x4000), 0, 16, 0⟩]⟩,
  ⟨0x46600048, 0x4000, 2, fun i => [⟨PORT_CNT.RXERR (0x46600000 + i * 0x4000), 16, 16, 0⟩, ⟨PORT_CNT.FILT_DROP (0x46600000 + i * 0x4000), 0, 16, 0⟩]⟩,
  ⟨0x44A00048, 0x4000, 1, fun i => [⟨PORT_CNT.RXERR (0x44A00000 + i * 0x4000), 16, 16, 0⟩, ⟨PORT_CNT.FILT_DROP (0x44A00000 + i * 0x4000), 0, 16, 0⟩]⟩,
  ⟨0x4600004C, 0x4000, 4, fun i => [⟨PORT_MAC_LO.MAC (0x46000000 + i * 0x4000), 0, 32, 0⟩]⟩,
  ⟨0x4620004C, 0x4000, 2, fun i => [⟨PORT_MAC_LO.MAC (0x46200000 + i * 0x4000), 0, 32, 0⟩]⟩,
  ⟨0x4630004C, 0x4000, 2, fun i => [⟨PORT_MAC_LO.MAC (0x46300000 + i * 0x4000), 0, 32, 0⟩]⟩,
  ⟨0x44A0004C, 0x4000, 1, fun i => [⟨PORT_MAC_LO.MAC (0x44A00000 + i * 0x4000), 0, 32, 0⟩]⟩,
  ⟨0x46000050, 0x4000, 4, fun i => [⟨PORT_MAC_HI.MAC (0x46000000 + i * 0x4000), 0, 16, 0⟩]⟩,
  ⟨0x46200050, 0x4000, 2, fun i => [⟨PORT_MAC_HI.MAC (0x46200000 + i * 0x4000), 0, 16, 0⟩]⟩,
  ⟨0x46300050, 0x4000, 2, fun i => [⟨PORT_MAC_HI.MAC (0x46300000 + i * 0x4000), 0, 16, 0⟩]⟩,
  ⟨0x44A00050, 0x4000, 1, fun i => [⟨PORT_MAC_HI.MAC (0x44A00000 + i * 0x4000), 0, 16, 0⟩]⟩,
  ⟨0x46001040, 0x4000, 4, fun i => [⟨T1S_PLCA.BURST (0x46000000 + i * 0x4000), 16, 4, 0⟩, ⟨T1S_PLCA.NCNT (0x46000000 + i * 0x4000), 8, 8, 0⟩, ⟨T1S_PLCA.NODE_ID (0x46000000 + i * 0x4000), 0, 5, 0⟩]⟩,
  ⟨0x46001044, 0x4000, 4, fun i => [⟨T1S_STAT.BCN_MISS (0x46000000 + i * 0x4000), 16, 16, 0⟩, ⟨T1S_STAT.COLL (0x46000000 + i * 0x4000), 0, 16, 0⟩]⟩,
  ⟨0x46201040, 0x4000, 2, fun i => [⟨CB_CFG.CB_HIST (0x46200000 + i * 0x4000), 20, 6, 0⟩, ⟨CB_CFG.CB_RST (0x46200000 + i * 0x4000), 0, 10, 0⟩]⟩,
  ⟨0x46301040, 0x4000, 2, fun i => [⟨CB_CFG.CB_HIST (0x46300000 + i * 0x4000), 20, 6, 0⟩, ⟨CB_CFG.CB_RST (0x46300000 + i * 0x4000), 0, 10, 0⟩]⟩,
  ⟨0x46401040, 0x4000, 4, fun i => [⟨CAN_NBT.BRP (0x46400000 + i * 0x4000), 24, 8, 0⟩, ⟨CAN_NBT.TSEG1 (0x46400000 + i * 0x4000), 16, 8, 0⟩, ⟨CAN_NBT.TSEG2 (0x46400000 + i * 0x4000), 8, 8, 0⟩, ⟨CAN_NBT.SJW (0x46400000 + i * 0x4000), 0, 8, 0⟩]⟩,
  ⟨0x46401044, 0x4000, 4, fun i => [⟨CAN_DBT.BRP (0x46400000 + i * 0x4000), 24, 8, 0⟩, ⟨CAN_DBT.TSEG1 (0x46400000 + i * 0x4000), 16, 8, 0⟩, ⟨CAN_DBT.TSEG2 (0x46400000 + i * 0x4000), 8, 8, 0⟩, ⟨CAN_DBT.SJW (0x46400000 + i * 0x4000), 0, 8, 0⟩]⟩,
  ⟨0x46401048, 0x4000, 4, fun i => [⟨CAN_ZCFG.SDT (0x46400000 + i * 0x4000), 24, 8, 0⟩]⟩,
  ⟨0x4640104C, 0x4000, 4, fun i => [⟨CAN_ZRX.ID (0x46400000 + i * 0x4000), 0, 29, 0⟩]⟩,
  ⟨0x46401050, 0x4000, 4, fun i => [⟨CAN_ZMSK.ID (0x46400000 + i * 0x4000), 0, 29, 0⟩]⟩,
  ⟨0x46401054, 0x4000, 4, fun i => [⟨CAN_BCN.ID (0x46400000 + i * 0x4000), 0, 29, 0⟩]⟩,
  ⟨0x46401058, 0x4000, 4, fun i => [⟨CAN_ZTX.TXID (0x46400000 + i * 0x4000), 0, 29, 0⟩]⟩,
  ⟨0x46600054, 0x4000, 2, fun i => [⟨UART_CFG.DIV (0x46600000 + i * 0x4000), 8, 24, 0⟩, ⟨UART_CFG.PAR (0x46600000 + i * 0x4000), 1, 2, 0⟩, ⟨UART_CFG.STOP2 (0x46600000 + i * 0x4000), 0, 1, 0⟩]⟩,
  ⟨0x44A00054, 0x4000, 1, fun i => [⟨SVC_CFG.PHYAD (0x44A00000 + i * 0x4000), 0, 5, 0⟩]⟩]

/-- Register rows of the Percolator engines and scheduler (Table 18.5). -/
def percRows : List RegRow := [
  ⟨0x40B00040, 0, 1, fun _ => [⟨PERC_CFG.EN 0x40B00000, 31, 1, 0⟩, ⟨PERC_CFG.BUDGET 0x40B00000, 16, 8, 0⟩, ⟨PERC_CFG.SLICE_WORDS 0x40B00000, 0, 9, 0⟩]⟩,
  ⟨0x40B04040, 0, 1, fun _ => [⟨PERC_CFG.EN 0x40B04000, 31, 1, 0⟩, ⟨PERC_CFG.BUDGET 0x40B04000, 16, 8, 0⟩, ⟨PERC_CFG.SLICE_WORDS 0x40B04000, 0, 9, 0⟩]⟩,
  ⟨0x40B08040, 0, 1, fun _ => [⟨PERC_CFG.EN 0x40B08000, 31, 1, 0⟩, ⟨PERC_CFG.BUDGET 0x40B08000, 16, 8, 0⟩, ⟨PERC_CFG.SLICE_WORDS 0x40B08000, 0, 9, 0⟩]⟩,
  ⟨0x44600040, 0, 1, fun _ => [⟨PERC_CFG.EN 0x44600000, 31, 1, 0⟩, ⟨PERC_CFG.BUDGET 0x44600000, 16, 8, 0⟩, ⟨PERC_CFG.SLICE_WORDS 0x44600000, 0, 9, 0⟩]⟩,
  ⟨0x40B00044, 0, 1, fun _ => [⟨PERC_STAT.GROUP 0x40B00000, 29, 3, 0⟩, ⟨PERC_STAT.MACRO 0x40B00000, 24, 5, 0⟩, ⟨PERC_STAT.SLICE 0x40B00000, 12, 12, 0⟩, ⟨PERC_STAT.PENDING 0x40B00000, 1, 1, 0⟩, ⟨PERC_STAT.ACTIVE 0x40B00000, 0, 1, 0⟩]⟩,
  ⟨0x40B04044, 0, 1, fun _ => [⟨PERC_STAT.GROUP 0x40B04000, 29, 3, 0⟩, ⟨PERC_STAT.MACRO 0x40B04000, 24, 5, 0⟩, ⟨PERC_STAT.SLICE 0x40B04000, 12, 12, 0⟩, ⟨PERC_STAT.PENDING 0x40B04000, 1, 1, 0⟩, ⟨PERC_STAT.ACTIVE 0x40B04000, 0, 1, 0⟩]⟩,
  ⟨0x40B08044, 0, 1, fun _ => [⟨PERC_STAT.GROUP 0x40B08000, 29, 3, 0⟩, ⟨PERC_STAT.MACRO 0x40B08000, 24, 5, 0⟩, ⟨PERC_STAT.SLICE 0x40B08000, 12, 12, 0⟩, ⟨PERC_STAT.PENDING 0x40B08000, 1, 1, 0⟩, ⟨PERC_STAT.ACTIVE 0x40B08000, 0, 1, 0⟩]⟩,
  ⟨0x44600044, 0, 1, fun _ => [⟨PERC_STAT.GROUP 0x44600000, 29, 3, 0⟩, ⟨PERC_STAT.MACRO 0x44600000, 24, 5, 0⟩, ⟨PERC_STAT.SLICE 0x44600000, 12, 12, 0⟩, ⟨PERC_STAT.PENDING 0x44600000, 1, 1, 0⟩, ⟨PERC_STAT.ACTIVE 0x44600000, 0, 1, 0⟩]⟩,
  ⟨0x40B00048, 0, 1, fun _ => [⟨PERC_FADDR.ADDR 0x40B00000, 0, 32, 0⟩]⟩,
  ⟨0x40B04048, 0, 1, fun _ => [⟨PERC_FADDR.ADDR 0x40B04000, 0, 32, 0⟩]⟩,
  ⟨0x40B08048, 0, 1, fun _ => [⟨PERC_FADDR.ADDR 0x40B08000, 0, 32, 0⟩]⟩,
  ⟨0x44600048, 0, 1, fun _ => [⟨PERC_FADDR.ADDR 0x44600000, 0, 32, 0⟩]⟩,
  ⟨0x40B0004C, 0, 1, fun _ => [⟨PERC_FINFO.VALID 0x40B00000, 31, 1, 0⟩, ⟨PERC_FINFO.BIT 0x40B00000, 24, 7, 0⟩, ⟨PERC_FINFO.ELEM 0x40B00000, 21, 3, 0⟩, ⟨PERC_FINFO.EXP_ECC 0x40B00000, 8, 8, 0⟩, ⟨PERC_FINFO.OBS_ECC 0x40B00000, 0, 8, 0⟩]⟩,
  ⟨0x40B0404C, 0, 1, fun _ => [⟨PERC_FINFO.VALID 0x40B04000, 31, 1, 0⟩, ⟨PERC_FINFO.BIT 0x40B04000, 24, 7, 0⟩, ⟨PERC_FINFO.ELEM 0x40B04000, 21, 3, 0⟩, ⟨PERC_FINFO.EXP_ECC 0x40B04000, 8, 8, 0⟩, ⟨PERC_FINFO.OBS_ECC 0x40B04000, 0, 8, 0⟩]⟩,
  ⟨0x40B0804C, 0, 1, fun _ => [⟨PERC_FINFO.VALID 0x40B08000, 31, 1, 0⟩, ⟨PERC_FINFO.BIT 0x40B08000, 24, 7, 0⟩, ⟨PERC_FINFO.ELEM 0x40B08000, 21, 3, 0⟩, ⟨PERC_FINFO.EXP_ECC 0x40B08000, 8, 8, 0⟩, ⟨PERC_FINFO.OBS_ECC 0x40B08000, 0, 8, 0⟩]⟩,
  ⟨0x4460004C, 0, 1, fun _ => [⟨PERC_FINFO.VALID 0x44600000, 31, 1, 0⟩, ⟨PERC_FINFO.BIT 0x44600000, 24, 7, 0⟩, ⟨PERC_FINFO.ELEM 0x44600000, 21, 3, 0⟩, ⟨PERC_FINFO.EXP_ECC 0x44600000, 8, 8, 0⟩, ⟨PERC_FINFO.OBS_ECC 0x44600000, 0, 8, 0⟩]⟩,
  ⟨0x40B00050, 0, 1, fun _ => [⟨PERC_FEXP.DATA 0x40B00000, 0, 32, 0⟩]⟩,
  ⟨0x40B04050, 0, 1, fun _ => [⟨PERC_FEXP.DATA 0x40B04000, 0, 32, 0⟩]⟩,
  ⟨0x40B08050, 0, 1, fun _ => [⟨PERC_FEXP.DATA 0x40B08000, 0, 32, 0⟩]⟩,
  ⟨0x44600050, 0, 1, fun _ => [⟨PERC_FEXP.DATA 0x44600000, 0, 32, 0⟩]⟩,
  ⟨0x40B00054, 0, 1, fun _ => [⟨PERC_FEXP.DATA 0x40B00000, 0, 32, 32⟩]⟩,
  ⟨0x40B04054, 0, 1, fun _ => [⟨PERC_FEXP.DATA 0x40B04000, 0, 32, 32⟩]⟩,
  ⟨0x40B08054, 0, 1, fun _ => [⟨PERC_FEXP.DATA 0x40B08000, 0, 32, 32⟩]⟩,
  ⟨0x44600054, 0, 1, fun _ => [⟨PERC_FEXP.DATA 0x44600000, 0, 32, 32⟩]⟩,
  ⟨0x40B00058, 0, 1, fun _ => [⟨PERC_FOBS.DATA 0x40B00000, 0, 32, 0⟩]⟩,
  ⟨0x40B04058, 0, 1, fun _ => [⟨PERC_FOBS.DATA 0x40B04000, 0, 32, 0⟩]⟩,
  ⟨0x40B08058, 0, 1, fun _ => [⟨PERC_FOBS.DATA 0x40B08000, 0, 32, 0⟩]⟩,
  ⟨0x44600058, 0, 1, fun _ => [⟨PERC_FOBS.DATA 0x44600000, 0, 32, 0⟩]⟩,
  ⟨0x40B0005C, 0, 1, fun _ => [⟨PERC_FOBS.DATA 0x40B00000, 0, 32, 32⟩]⟩,
  ⟨0x40B0405C, 0, 1, fun _ => [⟨PERC_FOBS.DATA 0x40B04000, 0, 32, 32⟩]⟩,
  ⟨0x40B0805C, 0, 1, fun _ => [⟨PERC_FOBS.DATA 0x40B08000, 0, 32, 32⟩]⟩,
  ⟨0x4460005C, 0, 1, fun _ => [⟨PERC_FOBS.DATA 0x44600000, 0, 32, 32⟩]⟩,
  ⟨0x40B00060, 0, 1, fun _ => [⟨PERC_CNT.PASSES 0x40B00000, 16, 16, 0⟩, ⟨PERC_CNT.CORR 0x40B00000, 8, 8, 0⟩, ⟨PERC_CNT.FAILS 0x40B00000, 0, 8, 0⟩]⟩,
  ⟨0x40B04060, 0, 1, fun _ => [⟨PERC_CNT.PASSES 0x40B04000, 16, 16, 0⟩, ⟨PERC_CNT.CORR 0x40B04000, 8, 8, 0⟩, ⟨PERC_CNT.FAILS 0x40B04000, 0, 8, 0⟩]⟩,
  ⟨0x40B08060, 0, 1, fun _ => [⟨PERC_CNT.PASSES 0x40B08000, 16, 16, 0⟩, ⟨PERC_CNT.CORR 0x40B08000, 8, 8, 0⟩, ⟨PERC_CNT.FAILS 0x40B08000, 0, 8, 0⟩]⟩,
  ⟨0x44600060, 0, 1, fun _ => [⟨PERC_CNT.PASSES 0x44600000, 16, 16, 0⟩, ⟨PERC_CNT.CORR 0x44600000, 8, 8, 0⟩, ⟨PERC_CNT.FAILS 0x44600000, 0, 8, 0⟩]⟩,
  ⟨0x40B00064, 0, 1, fun _ => [⟨PERC_SPSEL.GROUP 0x40B00000, 5, 3, 0⟩, ⟨PERC_SPSEL.MACRO 0x40B00000, 0, 5, 0⟩]⟩,
  ⟨0x40B04064, 0, 1, fun _ => [⟨PERC_SPSEL.GROUP 0x40B04000, 5, 3, 0⟩, ⟨PERC_SPSEL.MACRO 0x40B04000, 0, 5, 0⟩]⟩,
  ⟨0x40B08064, 0, 1, fun _ => [⟨PERC_SPSEL.GROUP 0x40B08000, 5, 3, 0⟩, ⟨PERC_SPSEL.MACRO 0x40B08000, 0, 5, 0⟩]⟩,
  ⟨0x44600064, 0, 1, fun _ => [⟨PERC_SPSEL.GROUP 0x44600000, 5, 3, 0⟩, ⟨PERC_SPSEL.MACRO 0x44600000, 0, 5, 0⟩]⟩,
  ⟨0x40B00100, 0, 1, fun _ => [⟨PERC_FUSE.GO 0x40B00000, 31, 1, 0⟩, ⟨PERC_FUSE.SPARE 0x40B00000, 8, 3, 0⟩, ⟨PERC_FUSE.GROUP 0x40B00000, 5, 3, 0⟩, ⟨PERC_FUSE.MACRO 0x40B00000, 0, 5, 0⟩]⟩,
  ⟨0x40B04100, 0, 1, fun _ => [⟨PERC_FUSE.GO 0x40B04000, 31, 1, 0⟩, ⟨PERC_FUSE.SPARE 0x40B04000, 8, 3, 0⟩, ⟨PERC_FUSE.GROUP 0x40B04000, 5, 3, 0⟩, ⟨PERC_FUSE.MACRO 0x40B04000, 0, 5, 0⟩]⟩,
  ⟨0x40B08100, 0, 1, fun _ => [⟨PERC_FUSE.GO 0x40B08000, 31, 1, 0⟩, ⟨PERC_FUSE.SPARE 0x40B08000, 8, 3, 0⟩, ⟨PERC_FUSE.GROUP 0x40B08000, 5, 3, 0⟩, ⟨PERC_FUSE.MACRO 0x40B08000, 0, 5, 0⟩]⟩,
  ⟨0x44600100, 0, 1, fun _ => [⟨PERC_FUSE.GO 0x44600000, 31, 1, 0⟩, ⟨PERC_FUSE.SPARE 0x44600000, 8, 3, 0⟩, ⟨PERC_FUSE.GROUP 0x44600000, 5, 3, 0⟩, ⟨PERC_FUSE.MACRO 0x44600000, 0, 5, 0⟩]⟩,
  ⟨0x40B00104, 0, 1, fun _ => [⟨PERC_FSTAT.RESULT 0x40B00000, 28, 4, 0⟩, ⟨PERC_FSTAT.BUSY 0x40B00000, 0, 1, 0⟩]⟩,
  ⟨0x40B04104, 0, 1, fun _ => [⟨PERC_FSTAT.RESULT 0x40B04000, 28, 4, 0⟩, ⟨PERC_FSTAT.BUSY 0x40B04000, 0, 1, 0⟩]⟩,
  ⟨0x40B08104, 0, 1, fun _ => [⟨PERC_FSTAT.RESULT 0x40B08000, 28, 4, 0⟩, ⟨PERC_FSTAT.BUSY 0x40B08000, 0, 1, 0⟩]⟩,
  ⟨0x44600104, 0, 1, fun _ => [⟨PERC_FSTAT.RESULT 0x44600000, 28, 4, 0⟩, ⟨PERC_FSTAT.BUSY 0x44600000, 0, 1, 0⟩]⟩,
  ⟨0x40B00108, 0, 1, fun _ => [⟨PERC_GRP.GRP_EN 0x40B00000, 16, 3, 0⟩, ⟨PERC_GRP.PERIOD 0x40B00000, 0, 7, 0⟩]⟩,
  ⟨0x40B04108, 0, 1, fun _ => [⟨PERC_GRP.GRP_EN 0x40B04000, 16, 3, 0⟩, ⟨PERC_GRP.PERIOD 0x40B04000, 0, 7, 0⟩]⟩,
  ⟨0x40B08108, 0, 1, fun _ => [⟨PERC_GRP.GRP_EN 0x40B08000, 16, 3, 0⟩, ⟨PERC_GRP.PERIOD 0x40B08000, 0, 7, 0⟩]⟩,
  ⟨0x44600108, 0, 1, fun _ => [⟨PERC_GRP.GRP_EN 0x44600000, 16, 3, 0⟩, ⟨PERC_GRP.PERIOD 0x44600000, 0, 7, 0⟩]⟩]

/-- Parts of the header registers of the page at `pg` by offset (Table 2.4). -/
def headerPieces (pg off : Nat) : List Piece :=
  if off = 0x8 then [⟨BLK_CTRL.SOFT_RESET pg, 1, 1, 0⟩, ⟨BLK_CTRL.ENABLE pg, 0, 1, 0⟩] else
  if off = 0xC then [⟨BLK_STAT.PWR pg, 8, 2, 0⟩, ⟨BLK_STAT.CRC_OK pg, 4, 1, 0⟩, ⟨BLK_STAT.RST_BUSY pg, 2, 1, 0⟩, ⟨BLK_STAT.BUSY pg, 1, 1, 0⟩, ⟨BLK_STAT.READY pg, 0, 1, 0⟩] else
  if off = 0x10 then [⟨IRQ.RAW pg, 0, 31, 0⟩] else
  if off = 0x14 then [⟨IRQ_MASK.MASK pg, 0, 32, 0⟩] else
  if off = 0x1C then [⟨BLK_PWR.CONSENT pg, 16, 2, 0⟩, ⟨BLK_PWR.IDLE_DLY pg, 8, 8, 0⟩, ⟨BLK_PWR.GATE pg, 0, 2, 0⟩] else
  if off = 0x20 then [⟨BLK_LOCK.REMAIN pg, 16, 8, 0⟩, ⟨BLK_LOCK.OWNER pg, 8, 8, 0⟩, ⟨BLK_LOCK.ARMED pg, 1, 1, 0⟩, ⟨BLK_LOCK.OPEN pg, 0, 1, 0⟩] else
  if off = 0x24 then [⟨BLK_ERR.INJ_DONE pg, 5, 1, 0⟩, ⟨BLK_ERR.REGPAR pg, 4, 1, 0⟩, ⟨BLK_ERR.CRC_DRIFT pg, 3, 1, 0⟩, ⟨BLK_ERR.PLANE pg, 2, 1, 0⟩, ⟨BLK_ERR.ACCESS pg, 1, 1, 0⟩, ⟨BLK_ERR.LOCK_VIOL pg, 0, 1, 0⟩] else
  if off = 0x28 then [⟨BLK_ERRINJ.ARM pg, 8, 1, 0⟩, ⟨BLK_ERRINJ.SEL pg, 0, 3, 0⟩] else
  if off = 0x2C then [⟨BLK_CRC.CRC pg, 0, 32, 0⟩] else
  []

/-- All rows of registers from offset 0x040 on. -/
def regRows : List RegRow := regRows0 ++ regRows1 ++ regRows2 ++ regRows3 ++ regRows4 ++ regRows5 ++ regRows6 ++ portRows ++ percRows

end Sys2Proof.Machine.Reg
end

