-- ==== Sys2Proof/Machine/State.lean ====
section
/-!
DEFINITION. The state of one unit: the register field file, the internal state of every block, and the queue of
waiting commands. Every structure gives each field its reset value as its default; State.reset takes the defaults.
Plain data only.
-/
namespace Sys2Proof.Machine

/-- No command faults: an access that the spec refuses gets an error response, which is an effect (02 R34, R35). -/
inductive Fault where
  deriving DecidableEq, Repr

/-- Why a command is not executed. -/
inductive Refusal where
  /-- Raised by an arm of Dispatch.lean whose command has no meaning yet. Safe: the machine stops. -/
  | notModelled (mnemonic : String)
  deriving DecidableEq, Repr

/-- The last answer given on a register or memory path (02 R35, R38, R41; 15 R449, R450). -/
inductive BusResp where
  | none
  | ok
  | data (v : Nat)
  | error
  | retry
  /-- Status BUSY of the maintenance gate (01 R25). -/
  | busy
  deriving DecidableEq, Repr


/-! ### Register pages and interrupt structures (chapter 02) -/

/-- A BLK_LOCK that is armed or open (02 R44, R45): its page, and the instant at which it expires. -/
structure LockTimer where
  page : Nat
  due : Nat
  deriving DecidableEq, Repr

/-- Page bookkeeping behind the header registers, by page address. -/
structure Pages where
  locks : List LockTimer := []
  /-- Blocks whose soft reset runs, by page-0 address, with its end (R41); pages that a write has reached meanwhile. -/
  resetting : List (Nat × Nat) := []
  late : List Nat := []
  deriving DecidableEq, Repr

/-- The management interrupt controller (02 R54, R55). Vectors are numbers whose bit n is source n. -/
structure Plic where
  prio : List (Nat × Nat) := []
  pend : Nat := 0
  /-- Sources claimed and not completed. -/
  busy : Nat := 0
  enable : List Nat := [0, 0, 0, 0]
  threshold : List Nat := [0, 0, 0, 0]
  /-- What the last claim of each context returned. -/
  got : List Nat := [0, 0, 0, 0]
  deriving DecidableEq, Repr

/-- One channel interrupt controller (02 R57, 03 R72). Vectors of sources 0 to 127. -/
structure Cic where
  pend : Nat := 0
  /-- Bit n: 1 routes source n to the link twin, 0 to the logic twin. -/
  route : Nat := 0
  /-- Sources delivered to a lead core whose window has not committed (R72). -/
  delivered : Nat := 0
  deriving DecidableEq, Repr

/-! ### Safety channels (chapter 03) -/

/-- A delay FIFO or replay log entry (R69): kind of Table 3.3, source, retired count modulo 2^24, value, and the four even-parity bits of
its 17-bit groups, the group of the lowest bits first. -/
structure Sampled where
  kind : Nat
  source : Nat
  count : Nat
  value : Nat
  par : Nat
  deriving DecidableEq, Repr

/-- A store-buffer entry (R78) with its parity bit, and the window that it belongs to. -/
structure SbEntry where
  win : Nat
  addr : Nat
  data : Nat
  mask : Nat
  par : Bool
  deriving DecidableEq, Repr

/-- A checkpoint shadow set (R82): 64 words of 33 bits, bit 32 the even parity of the others; with it the privilege mode, minstret and
whether the core stood in WFI, which the 64 words do not hold (DESIGN CHOICE: log 103). -/
structure Shadow where
  words : List Nat := List.replicate 64 0
  priv : Nat := 3
  instret : Nat := 0
  wfi : Bool := true
  deriving DecidableEq, Repr

/-- One core. `arch` holds the 64 words of R82 in its order: x1 to x31, pc, mstatus, mie, mtvec, mscratch, mepc, mcause, mtval, pmpcfg0
to 3, pmpaddr0 to 15, and the five position words. -/
structure Core where
  arch : List Nat := List.replicate 64 0
  /-- Privilege mode: 3 Machine, 0 User. -/
  priv : Nat := 3
  /-- minstret, 64 bits. -/
  instret : Nat := 0
  misr : Nat := 0xFFFFFFFFFFFFFFFF
  /-- Instructions retired since the committed checkpoint, and in the present window. -/
  count : Nat := 0
  inWin : Nat := 0
  /-- The window that the core executes. -/
  win : Nat := 0
  fill : List SbEntry := []
  drain : List SbEntry := []
  /-- The pending shadow set, of the closed window with that number, and the committed one. -/
  pending : Option (Nat × Shadow) := none
  committed : Shadow := {}
  deriving DecidableEq, Repr

/-- A window that the lead core has closed (R75): its number, the retired count at its start and at its close, the two
signatures, the stores of a task's delivery that it carries (R81). -/
structure ClosedWin where
  no : Nat
  first : Nat
  last : Nat
  lead : Nat
  trail : Option Nat
  task : List (Nat × Nat) := []
  deriving DecidableEq, Repr

/-- A twin (R64). -/
structure Twin where
  lead : Core := {}
  trail : Core := {}
  fifo : List Sampled := []
  /-- Read position of the delay FIFO, 0 to 15. -/
  rd : Nat := 0
  log : List Sampled := []
  /-- Position in the replay log from which a re-execution takes its inputs (R83). -/
  replay : Nat := 0
  /-- Log entries sampled in the present window. -/
  sampled : Nat := 0
  /-- The cycle limit of the present window has been reached (R75). -/
  limit : Bool := false
  closed : List ClosedWin := []
  /-- The window that closed while the other store-buffer half drained: both cores stall (R80). -/
  stallWin : Option Nat := none
  /-- Start of the running rollback (R83). -/
  rb : Option Nat := none
  /-- The window that is executed again after a rollback. -/
  again : Option Nat := none
  /-- Stores of a task's delivery in the discarded window, for its second execution. -/
  redo : List (Nat × Nat) := []
  /-- Both cores stand: WFI, SYNC, a state without execution. -/
  halted : Bool := true
  /-- The strobe asks the twin to stand for the Percolator slice; it stands (R62, 18 R515). -/
  asked : Bool := false
  held : Bool := false
  /-- The safe-state line has ended a rollback: the cores stand until a reset (R88; DESIGN CHOICE: log 104). -/
  stopped : Bool := false
  deriving DecidableEq, Repr

/-- A channel beside its registers. -/
structure Channel where
  logic : Twin := {}
  link : Twin := {}
  /-- The snapshot mailbox (R61, Table 7.4): the number of the last snapshot whose buffer the link twin has handed over. -/
  mailbox : Option Nat := none
  /-- Channel SRAM by address 0x1000_0000 and up (02 Table 2.2). -/
  sram : List (Nat × BitVec 8) := []
  /-- SRAM words that hold a corrected error and wait for their write-back (R66). -/
  writeBack : List Nat := []
  lostAt : Option Nat := none
  /-- Weir times of the counted losses (R98). -/
  losses : List Nat := []
  /-- The present SELFTEST follows a CHANNEL reset (Table 3.8). -/
  afterReset : Bool := false
  /-- The channel has passed SELFTEST at a boot and waits for the common entry to ACTIVE. -/
  passed : Bool := false
  deriving DecidableEq, Repr

/-! ### Confluence and the output mirror (chapter 04) -/

/-- A cycle result in a slot (R101): header, image as a number whose bit k is image bit k, message words, arrival (Weir
time), the slot word with a parity error if there is one (R107). -/
structure Result where
  hdr : Nat := 0
  img : Nat := 0
  msgs : List Nat := []
  ovf : Bool := false
  bad : Option Nat := none
  arr : Nat := 0
  deriving DecidableEq, Repr

/-- A store to the port page: an image word, a message word, a header with the slot word that has a parity error. -/
inductive PortStore where
  | img (n v : Nat)
  | msg (v : Nat)
  | deliver (v : Nat) (bad : Option Nat)
  deriving DecidableEq, Repr

/-- A port: the filling slot, the delivered results that wait, at most two (R101, R112), and the stores that wait since a DELIVER found
no free slot (R106). -/
structure CfPort where
  fill : Result := {}
  queue : List Result := []
  wait : List PortStore := []
  deriving DecidableEq, Repr

/-- A voted result that waits for its release (R119): Weir time of closure, minority, whether Weir has been sent V. -/
structure CfRelease where
  res : Result
  close : Nat
  minority : Nat
  sent : Bool
  deriving DecidableEq, Repr

/-- A reconfiguration (R120): time zero, the voting set whose acknowledgment it waits for, whether the set shrinks from
2oo3 (R124) or a final phase is undone (R128). -/
structure Recon where
  t0 : Nat
  set : Nat
  shrink : Bool
  deriving DecidableEq, Repr

/-- The resync engine (R125 to R130). -/
structure Resync where
  target : Option Nat := none
  start : Nat := 0
  /-- Blocks read so far in the bulk phase. -/
  pos : Nat := 0
  /-- The bulk phase has ended. -/
  copied : Bool := false
  dirty : List Nat := []
  /-- Blocks written by a source since they were read. -/
  written : List Nat := []
  /-- The final phase has sent the enlarged set, which Weir has acknowledged. -/
  sent : Bool := false
  acked : Bool := false
  /-- The target left SYNC after the set was sent: the final phase fails at the snapshot. -/
  void : Bool := false
  deriving DecidableEq, Repr

/-- Confluence beside its registers. -/
structure Conf where
  ports : Per3 CfPort := ⟨{}, {}, {}⟩
  /-- Weir time at which the vote window opened. -/
  window : Option Nat := none
  releases : List CfRelease := []
  recon : Option Recon := none
  ackAt : Nat := 0
  rs : Resync := {}
  /-- The voted image that is applied. -/
  voted : Nat := 0
  /-- Both output mirror buffers by address (R133). -/
  mirror : List (Nat × BitVec 8) := []
  deriving DecidableEq, Repr



/-! ### Weir (chapter 05) -/

/-- Signals in the two-rail code of Table 5.1: bit n of `t` and of `f` are rails T and F of signal n. 1 and 0 is logical 1, 0 and 1 is
logical 0, 0 and 0 the spacer, 1 and 1 the illegal code. -/
structure Rails where
  t : Nat := 0
  f : Nat := 0
  deriving DecidableEq, Repr

/-- `n` signals at logical 0. -/
def Rails.low (n : Nat) : Rails := ⟨0, 2 ^ n - 1⟩

/-- A deadline that runs: the task, the Weir time of its release snapshot, the instant of the deadline (R159, R160). -/
structure Deadline where
  task : Nat
  snap : Nat
  due : Nat
  warned : Bool
  deriving DecidableEq, Repr

/-- A voted image that waits at Weir for its check, with the Weir time of its arrival (R146, R147). -/
structure VotedV where
  img : Nat
  arr : Nat
  deriving DecidableEq, Repr

/-- A check that stays open because the images of the channels `d` differ from V (R146). -/
structure OpenCheck where
  img : Nat
  d : Nat
  arr : Nat
  deriving DecidableEq, Repr

/-- The Weir die beside its registers. Images are numbers whose bit k is image bit k. -/
structure Weir where
  /-- Weir time in ticks (R152). -/
  time : Nat := 0
  /-- Phase accumulator of the steering (R154). -/
  acc : Int := 0
  /-- Output enables, result of the last vote check, take-out lines, safe-state line (R135). -/
  en : Rails := Rails.low 32
  pass : Rails := Rails.low 1
  takeOut : Rails := Rails.low 3
  line : Rails := Rails.low 1
  /-- The boot hold (22 R601). -/
  hold : Bool := true
  /-- The check of R175 has passed. -/
  cfgOk : Bool := false
  /-- Weir time at which CAUSE was recorded (R173). -/
  causeAt : Nat := 0
  /-- The unit is in OFF: Weir has no power until its POR (R177). -/
  off : Bool := false
  /-- Check value that the loader supplied last (R175). -/
  cfgCv : Nat := 0
  /-- Images received and not yet paired, oldest first (R144). -/
  images : Per3 (List Nat) := ⟨[], [], []⟩
  voted : List VotedV := []
  openCheck : Option OpenCheck := none
  /-- Voted image of the last passed check (R149, R150). -/
  lastV : Nat := 0
  deadlines : List Deadline := []
  /-- R(c) and D(c) since c entered the voting set, counted up to the last deadline judged, the Weir times of the images since, and the
  Weir time of that entry (R160). -/
  releases : Per3 Nat := ⟨0, 0, 0⟩
  delivered : Per3 Nat := ⟨0, 0, 0⟩
  arrivals : Per3 (List Nat) := ⟨[], [], []⟩
  entered : Per3 Nat := ⟨0, 0, 0⟩
  /-- The last image of the channel failed its CRC. -/
  badImage : Per3 Bool := ⟨false, false, false⟩
  /-- Checker group under test next (R138), and the next rotation and strap read while no snapshots come (R138, R166). -/
  checker : Nat := 0
  idleDue : Nat := 1000000
  strapDue : Nat := 1000000
  /-- Power-fail trigger: its Weir time, its origin (1 PFAIL_N, 2 supply), the last instant of violation (R168, R172). -/
  pfailAt : Option Nat := none
  pfailOrigin : Nat := 0
  /-- The power-fail monitor is armed (19 R538). -/
  pfArmed : Bool := true
  violation : Nat := 0
  /-- Reset flit that Weir holds to send after its self-test (22 R599). -/
  supplyDue : Bool := false
  /-- WR_STOFF_LO has been written (R155). -/
  stoffLo : Option Nat := none
  /-- WR_TIME_HI as latched for each requester (R178). -/
  hiLatch : List (Nat × Nat) := []
  /-- Weir time of the last SNAPSHOT instant, issued or withheld (R156); the snapshot is withheld under notice (19 R536). -/
  lastSnap : Option Nat := none
  withheld : Bool := false
  /-- End of the running rate-check gate (R158). -/
  gateEnd : Nat := 1000000
  /-- Voting sets applied whose acknowledgment waits for the voted image of the held result (R145). -/
  ackWait : List Nat := []
  deriving DecidableEq, Repr

/-- A flit (Table 5.2) without its lane, SEQ and CRC, which the sending lane gives it. -/
structure Flit where
  kind : Nat
  tag : Nat := 0
  payload : Nat := 0
  deriving DecidableEq, Repr

/-- One lane of one direction of the inter-die link (R139 to R143). -/
structure Lane where
  queue : List Flit := []
  /-- Flits sent and not acknowledged, oldest first, at most 16; the oldest has sequence number `base`. -/
  replay : List Flit := []
  base : Nat := 0
  /-- Number of replay flits to send again before a new one. -/
  resend : Nat := 0
  /-- SEQ that the receiver expects, and consecutive NAKs of one flit. -/
  expect : Nat := 0
  nakSeq : Nat := 0
  naks : Nat := 0
  /-- Flits accepted by the receiver and not yet acknowledged (R140). -/
  unacked : Nat := 0
  deriving DecidableEq, Repr

/-- Messages in flight on lane 0 and the voted image port. -/
structure Link where
  /-- Lanes 0 to 3 towards Weir, and towards the logic die. -/
  up : List Lane := List.replicate 4 {}
  down : List Lane := List.replicate 4 {}
  /-- The logic-die end is silent (22 R595). -/
  silent : Bool := false
  /-- Voted images released and not yet arrived at Weir (04 R119, R144). -/
  voted : List Nat := []
  /-- Voting sets sent and not yet arrived at Weir (04 R120). -/
  sets : List Nat := []
  /-- Acknowledgments under way to Confluence, each with the set that it acknowledges. -/
  acks : List Nat := []
  /-- Confluence's request for the safe state is under way (04 R110). -/
  safeReq : Bool := false
  /-- Gate queries under way, each with the connections of its messages (06 R210). -/
  queries : List (List Nat) := []
  /-- Verdicts under way, each the list of GO marks (06 R211). -/
  verdicts : List (List Bool) := []
  /-- Reset flits under way to Weir (TAG 0x0102, 0x0103) and to the logic die (0x0000 trigger, 0x0101) (22 R599). -/
  resetUp : List Nat := []
  resetDown : List Nat := []
  deriving DecidableEq, Repr

/-! ### Conflict lattice (chapter 06) -/

/-- Sparse bank words: (word index, 256-bit word), rising, no word 0. -/
abbrev Bank := List (Nat × Nat)

/-- One processed request word of a pending V (06 R194): SET or RELEASE, route, granted; for a denial its reason, object
and Weir time (06 R213). -/
structure LatReq where
  set : Bool
  route : Nat
  grant : Bool
  reason : Nat
  obj : Nat
  stamp : Nat
  deriving DecidableEq, Repr

/-- A V that the lattice has latched and that has not committed (06 R194, R195). -/
structure LatPend where
  pdet : Nat
  sclr : Nat
  eready : Nat
  reqs : List LatReq
  deriving DecidableEq, Repr

/-- A permission return (06 Table 6.11). -/
structure PermReturn where
  seq : Nat := 0
  safe : Bool := false
  swapped : Bool := false
  result : Nat := 0
  sbState : Nat := 0
  cv : Nat := 0
  perm : Nat := 0
  lock : Nat := 0
  sperm : Nat := 0
  deniedRoutes : Nat := 0
  deniedGates : Nat := 0
  deriving DecidableEq, Repr

/-- The conflict lattice. Vectors are numbers whose bit n (bits 2p+1, 2p for a point) belongs to object n (Table 6.2). -/
structure Lattice where
  lock : Nat := 0
  perm : Rails := Rails.low 2048
  sperm : Rails := Rails.low 2048
  pdet : Nat := 0
  sclr : Nat := 0
  eready : Nat := 0
  bank0 : Bank := []
  bank1 : Bank := []
  /-- Words with an uncorrectable error (R226). -/
  bad0 : List Nat := []
  bad1 : List Nat := []
  /-- Check value of each bank as last computed by VERIFY. -/
  cv0 : Nat := 0
  cv1 : Nat := 0
  /-- Voted images at the port that the lattice has not latched. -/
  port : List Nat := []
  pend : Option LatPend := none
  /-- Voted images whose check has passed and that have not committed, oldest first (R195); commits not yet answered by a verdict. -/
  passed : List Nat := []
  committed : Nat := 0
  /-- Start of the sweep pass (R207), copy waiting for a pass start (R219). -/
  passStart : Nat := 0
  copyWaits : Bool := false
  changed : Nat := 0
  deniedRoutes : Nat := 0
  deniedGates : Nat := 0
  /-- Connections whose last verdict was DENY (R212). -/
  lastDeny : Nat := 0
  /-- Queries that have arrived (R210). -/
  queries : List (List Nat) := []
  /-- Permission return captured at the last snapshot, and the buffer at 0x5000_8000 (R214). -/
  capture : Option PermReturn := none
  buffer : PermReturn := {}
  deriving DecidableEq, Repr

/-! ### Fault capture (chapter 21) -/

/-- The fault capture logic beside its registers (R581). -/
structure FaultUnit where
  /-- A first cause is latched for the present entry, at this Weir time. -/
  firstAt : Option Nat := none
  /-- Weir's entry, from which the 1 s of CAPTURED runs. -/
  entryAt : Option Nat := none
  deriving DecidableEq, Repr

/-! ### Maintenance gate (01 R24, R25; 08 Table 8.1) -/

/-- A maintenance-gate command: CODE, TAG, CV and the bytes ARGS [16–63] (Table 8.1). -/
structure GateEntry where
  code : Nat
  tag : Nat
  cv : Nat
  args : List Byte
  deriving DecidableEq, Repr

/-- The maintenance gate: accepted commands not yet placed, the commands placed in the present input image, the TAGs of the
last accepted SIN_RESET, SOUT_RESET and PERC_FUSE; the mirror record whose loader frames are being taken, and how many of them have
been (R27, 08 R635). -/
structure Gate where
  queue : List GateEntry := []
  placed : List GateEntry := []
  sinTag : Nat := 0
  soutTag : Nat := 0
  fuseTag : Nat := 0
  ldCycle : Nat := 0
  ldNext : Nat := 0
  deriving DecidableEq, Repr

/-! ### Function-block runtime of a channel (chapters 07, 08, 11, 12, 13) -/

/-- A frame in a receive entry (Table 12.6). -/
structure RxSlot where
  seq : Nat
  ts : Nat
  payload : List Byte
  deriving DecidableEq, Repr

/-- The state record of a connection (12 R351), its receive entry, and what its sender repeats (R359). -/
structure ConnSt where
  /-- Table 12.7. -/
  st : Nat := 0
  seq : Nat := 0
  /-- TS of the last accepted frame; none before the first one. -/
  ts : Option Nat := none
  /-- Highest CLAIM seen. -/
  high : Option Nat := none
  codeErr : Nat := 0
  gaps : Nat := 0
  repeats : Nat := 0
  ageRej : Nat := 0
  /-- GAPS at this snapshot, frames accepted at this snapshot. -/
  newGaps : Nat := 0
  slots : List RxSlot := []
  /-- CODE_ERR failures since the last CODE_ERR event, and the Weir time of that event (R367). -/
  errSince : Nat := 0
  errAt : Option Nat := none
  /-- Identity confirmed; Weir time of the last ID_REQ (R373). -/
  ident : Bool := false
  asked : Option Nat := none
  txSeq : Nat := 0
  /-- The first frame since ACTIVE entry has been built (R360). -/
  begun : Bool := false
  last : Option (List Byte) := none
  deriving DecidableEq, Repr

/-- The snapshot buffer (Table 7.5), with the receive entries by connection. Its address and its byte form in the firmware area are not
stated: a record (DESIGN CHOICE: log 116). -/
structure SnapBuf where
  snap : Nat := 0
  count : Nat := 0
  restart : Nat := 0
  maint : Bool := false
  swapped : Bool := false
  mask : Nat := 0
  mode : Nat := 0
  sinVal : Nat := 0
  sinStat : Nat := 0
  readback : Nat := 0
  lockout : Nat := 0
  edges : List Nat := []
  perm : PermReturn := {}
  cmds : List GateEntry := []
  rx : List (Nat × ConnSt) := []
  deriving DecidableEq, Repr

/-- A frame that has passed the pre-checks (R367): its batch, its connection, its bytes. -/
structure PreFrame where
  batch : Nat
  conn : Nat
  bytes : List Byte
  deriving DecidableEq, Repr

/-- Instance data of a library block (07 R249, R250, Tables 7.6, 7.13). Timers: state 0 idle or off, 1 timing or pulse, 2
done or on. Edge memories are none before the first call. `q` and `r` are the outputs. -/
structure Blk where
  key : Nat
  lib : Nat
  st : Nat := 0
  deadline : Int := 0
  ptSt : Nat := 0
  badPt : Bool := false
  m1 : Option Bool := none
  m2 : Option Bool := none
  m3 : Option Bool := none
  cv : Int := 0
  et : Int := 0
  q : Bool := false
  r : Bool := false
  locked : Bool := false
  value : Nat := 0
  /-- Instant since when a DOOR_UNIT source has been restrictive. -/
  since : Option Nat := none
  /-- Restarted with retained data: a timer restarts at its first call, a locked ROUTE queues a SET (Table 7.9). -/
  fresh : Bool := false
  /-- Carried across a swap and not called since (08 R276); a ROUTE of a CHANGED route: no request until a new SET_CMD (08 R277). -/
  carried : Bool := false
  /-- Image bits that the block drives, with their demands; the connection of a SIGNAL, with its ASPECT (07 Table 7.13). -/
  drives : List (Nat × Bool) := []
  gate : Option (Nat × Bool) := none
  /-- RETAIN variables of a user type's instance, by byte of its data (07 R636). -/
  bytes : List (Nat × BitVec 8) := []
  deriving DecidableEq, Repr

/-- A lattice object: kind 0 point, 1 section, 2 edge, and its index (07 R643). -/
structure LObj where
  kind : Nat
  index : Nat
  deriving DecidableEq, Repr

/-- A force (08 R278). -/
structure Force where
  vkey : Nat
  ikey : Nat
  sig : Nat
  offset : Nat
  width : Nat
  bit : Nat
  value : Nat
  tag : Nat
  deriving DecidableEq, Repr

/-- A task of the runtime (07 R233 to R239). -/
structure RTask where
  /-- Snapshot count of the release that runs, its SNAP; the descriptors called of a release that has been dispatched; its instances
  finished. -/
  release : Option Nat := none
  snap : Nat := 0
  reached : Option Nat := none
  done : Bool := false
  input : SnapBuf := {}
  /-- The shared view of its input copy (R237), by publishing task. -/
  view : List (Nat × List Byte) := []
  /-- Forces in force since its dispatch (R279). -/
  forces : List Force := []
  /-- Request words that wait (R252). -/
  queue : List Nat := []
  /-- Changes that wait for an update word: restrictive, permissive (R253); current object values; rotation position. -/
  restrictive : List LObj := []
  permissive : List (LObj × Nat) := []
  objs : List (LObj × Nat) := []
  rot : Nat := 0
  /-- Owned image bits of its latest delivery (R238). -/
  image : Nat := 0
  deriving DecidableEq, Repr

/-- The staging state of an on-line change (08 Table 8.3): 0 IDLE, 1 LOADING, 2 STAGED, 3 ARMED. -/
structure Staging where
  st : Nat := 0
  tag : Nat := 0
  cv : Nat := 0
  latCv : Nat := 0
  weirCv : Nat := 0
  table : List (Nat × Nat × Nat) := []
  swapAt : Nat := 0
  /-- Ledger of the staged application (11 R344). -/
  ledger : List Nat := []
  deriving DecidableEq, Repr

/-- A frame that the next task-0 delivery carries: connection, KIND, payload. -/
structure SendItem where
  conn : Nat
  kind : Nat
  payload : List Byte
  deriving DecidableEq, Repr

/-- A page that goes out in rotation: number, data, GEN or SNAP of its composition. -/
structure PageOut where
  page : Nat
  gen : Nat
  data : List Byte
  /-- The library-block data that the page holds. -/
  vals : List Blk := []
  deriving DecidableEq, Repr

/-- A partner's heartbeat as accepted last (13 Table 13.3). -/
structure Beat where
  wit : Bool
  state : Nat
  returning : Bool
  synced : Nat
  cv : Nat
  claim : Nat
  /-- CLAIM of the frame that carried it, its TS. -/
  frame : Nat
  ts : Nat
  deriving DecidableEq, Repr

/-- A request that a witness has accepted and not answered: rank, REASON, check value. -/
structure EpochReq where
  rank : Nat
  reason : Nat
  cv : Nat
  deriving DecidableEq, Repr

/-- Partner and witness logic of a link twin (chapter 13). -/
structure Partner where
  /-- Table 13.4. -/
  st : Nat := 0
  returning : Bool := false
  isolated : Bool := false
  /-- Pages applied since entry to SYNCING. -/
  synced : List Nat := []
  /-- REASON of the request that runs, and task-0 deliveries until it is sent again (R394). -/
  request : Option Nat := none
  wait : Nat := 0
  /-- JOIN_WAIT has passed since ACTIVE entry. -/
  joined : Bool := false
  /-- Claim adopted by a grant and not yet in effect. -/
  grant : Option Nat := none
  fromWit : Option Beat := none
  fromPtr : Option Beat := none
  /-- Witness: E, the holder's rank, deciding since; heartbeats by rank, requests that wait, epoch record missing. -/
  epoch : Nat := 0
  holder : Nat := 0
  deciding : Bool := false
  beat1 : Option Beat := none
  beat2 : Option Beat := none
  requests : List EpochReq := []
  witLost : Bool := false
  ptrLost : Bool := false
  /-- Mirror pages received at this snapshot with their TS, and pages applied, by number; pages as sent last; transmit SEQs at
  the last 8 snapshots, by aligned time (R399). Routes requested for the holder's locks. -/
  inbox : List (Nat × List Byte) := []
  asked : List Nat := []
  /-- Routes whose SET for the holder's lock has been denied, until its value next rises (R399). -/
  refused : List Nat := []
  applied : List (Nat × List Byte) := []
  out : List PageOut := []
  rot : Nat := 0
  seqHist : List (Nat × List (Nat × Nat)) := []
  deriving DecidableEq, Repr

/-- A delivery as composed (07 R238): header, image, message words. -/
structure Composed where
  hdr : Nat
  img : Nat
  msgs : List Nat
  deriving DecidableEq, Repr

/-- The runtime state of one channel. -/
structure Rt where
  /-- The first base cycle after entry to ACTIVE has begun (11 R343, 20 R554), the restart kind (1 cold, 2 warm) and its
  cause (Table 7.8). -/
  begun : Bool := false
  restart : Nat := 0
  cause : Nat := 0
  activeAt : Nat := 0
  confirmed : Bool := false
  trapped : Bool := false
  /-- Active code bank (0 A, 1 B). -/
  bank : Nat := 0
  /-- The two snapshot buffers (R242): the last one handed over and the one before. -/
  buf : SnapBuf := {}
  prev : SnapBuf := {}
  tasks : List RTask := List.replicate 8 {}
  seq : Nat := 0
  blocks : List Blk := []
  forces : List Force := []
  stg : Staging := {}
  /-- Check value in force (20 R554). -/
  cv : Nat := 0
  /-- Register writes that the next task-0 delivery orders (08 R635). -/
  writes : List (Nat × Nat) := []
  send : List SendItem := []
  conns : List (Nat × ConnSt) := []
  /-- Frames of the receive store that this link twin has pre-checked, counted since power-on; those that passed. -/
  checked : Nat := 0
  pre : List PreFrame := []
  /-- Publications in the shared view, by task (R237). -/
  shared : List (Nat × List Byte) := []
  /-- Retained store: RETAIN data as copied at the last publication of their tasks (R237), pages, pages replaced since whose frames may
  still come to the management plane, those changed since they were sent, rotation position (R255). -/
  saved : List Blk := []
  pages : List PageOut := []
  past : List PageOut := []
  changed : List Nat := []
  rot : Nat := 0
  /-- INST_REMOVED events still to raise: key, type signature, retyped (08 R275). -/
  removed : List (Nat × Nat × Bool) := []
  pair : Partner := {}
  /-- SWAP_DONE still to raise (08 Table 8.5 step 7). Forces that a restart has ended (08 R280): TAG, VKEY. -/
  swapNote : Option (List Nat) := none
  ended : List (Nat × Nat) := []
  /-- Every voting member's runtime halts at the end of this base cycle (19 R535). -/
  halting : Bool := false
  /-- TAG of the FW_ACTIVATE in force. -/
  fwTag : Nat := 0
  out : Option Composed := none
  deriving DecidableEq, Repr



/-! ### Safe inputs (chapter 09) -/

/-- What the safe input block holds of one input beside its registers. -/
structure SinIn where
  /-- Comparator output now. -/
  level : Bool := false
  /-- Comparator transitions since the last sample, and Weir time of the last one (R286). -/
  trans : Nat := 0
  lastTrans : Nat := 0
  /-- Stamp of a raw change that the filter has not passed yet (R288). -/
  change : Option Nat := none
  /-- Stamp of the last filtered edge, and whether the filtered level changed at this sample. -/
  filtStamp : Nat := 0
  changed : Bool := false
  /-- Edge time of the logical value (R292), and whether it has fallen in NORMAL since (R302). -/
  edge : Nat := 0
  fell : Bool := false
  /-- Armed by the running pulse of its source: the filter is fed 1 (R300). -/
  armed : Bool := false
  /-- Whether the input read 0 at the last sample inside the pulse. -/
  lowInPulse : Bool := false
  deriving DecidableEq, Repr

/-- Where a test source stands (R298). -/
inductive ToutPhase where
  | idle | pulse | recovery
  deriving DecidableEq, Repr

/-- One test source: its TOUT level, when it falls or fell due, its pulse. -/
structure Tout where
  high : Bool := false
  due : Option Nat := none
  /-- Set from the due instant until the pulse starts. -/
  waiting : Bool := false
  phase : ToutPhase := .idle
  start : Nat := 0
  deriving DecidableEq, Repr

/-- The result of a sample (R287, R292): its instant, logical values, status bits, edge times. -/
structure SinResult where
  time : Nat := 0
  val : Nat := 0
  stat : Nat := 0
  edges : List Nat := []
  deriving DecidableEq, Repr

/-- The safe input block. -/
structure Sin where
  ins : List SinIn := List.replicate 64 {}
  /-- Start of the running discrepancy clock of each pair (R294). -/
  disc : List (Option Nat) := List.replicate 32 none
  touts : List Tout := List.replicate 8 {}
  lastSample : Option Nat := none
  /-- The result of the last sample that fell on a multiple of 25,000 ticks (R287). -/
  result : SinResult := {}
  /-- No sample yet since the last reset or wake (R295, R304). -/
  first : Bool := true
  /-- TAG of the command whose mask stands in SIN_UNLOCK. -/
  unlockTag : Nat := 0
  /-- Unlock mask requested by an acknowledgment pulse (R306). -/
  ackMask : Nat := 0
  /-- Edge time of the acknowledgment input's rise. -/
  ackRise : Option Nat := none
  /-- Check value in force on entry to a sleep state (R303). -/
  retCv : Option Nat := none
  /-- Inputs that kept their proof at the last wake, with the proof: kept through a warm restart that follows (R303). -/
  kept : List (Nat × Nat) := []
  deriving DecidableEq, Repr


/-! ### Safe outputs (chapter 10) -/

/-- A judgment of Table 10.3 that waits for an ENV read. -/
inductive OutJudge where
  | noRecover | dropout | onFail
  deriving DecidableEq, Repr

/-- A time-triggered change that waits for its apply time (07 R247). -/
structure ApplyPend where
  bit : Bool
  word : Nat
  time : Nat
  deriving DecidableEq, Repr

/-- What the Sluice controller holds of one output beside its registers. -/
structure SluiceOut where
  /-- Commanded value C[n] (R313). -/
  cmd : Bool := false
  /-- Weir time of entry to the state. -/
  entry : Nat := 0
  /-- Weir time of the first ENV read that showed the enable set, in HELD. -/
  envSeen : Option Nat := none
  lowSeen : Bool := false
  hsDue : Option Nat := none
  lsDue : Option Nat := none
  pulseStart : Nat := 0
  /-- Judgment that waits, and the sample it belongs to. -/
  judge : Option OutJudge := none
  judgeAt : Nat := 0
  apply : Option ApplyPend := none
  lastBit : Option Bool := none
  lastWord : Nat := 0
  deriving DecidableEq, Repr

/-- The Sluice controller. -/
structure Sluice where
  outs : List SluiceOut := List.replicate 32 {}
  lastSample : Option Nat := none
  /-- Instant and readback of the last sample that fell on a multiple of 25,000 ticks (R316). -/
  sampled : Nat × Nat := (0, 0)
  /-- Issue times of the ENV reads in flight, oldest first, and the instant of the next periodic read (R317). -/
  envReads : List Nat := []
  envDue : Nat := 0
  unlockTag : Nat := 0
  /-- Groups that a reset pulse has requested to unlock (R333). -/
  rstMask : Nat := 0
  rstHigh : Bool := false
  rstRise : Nat := 0
  deriving DecidableEq, Repr


/-! ### ZST engine (chapter 12) -/

/-- How a queued frame stands with the lattice (06 R210, R211): not gated, or waiting as message `pos` of result `res`,
or GO. -/
inductive GateMark where
  | none
  | waiting (res pos : Nat)
  | go
  deriving DecidableEq, Repr

/-- A frame in a port's transmit queue. -/
structure TxFrame where
  conn : Nat
  bytes : List Byte
  gate : GateMark
  /-- Sequence number of its R-TAG (14 R418). -/
  rtag : Option Nat := none
  deriving DecidableEq, Repr

/-- A frame in the receive store: arrival port, batch, bytes, channels that have passed it (R365, R366). -/
structure RxFrame where
  port : Nat
  batch : Nat
  bytes : List Byte
  passed : Nat
  deriving DecidableEq, Repr

/-- One channel's reading of the store: frames it has begun, bytes of the present frame not yet read. -/
structure RxRead where
  next : Nat := 0
  rest : List Byte := []
  deriving DecidableEq, Repr

/-- Frames and bytes released in this base cycle on a port, and the quota that was exceeded: 1 frames, 2 bytes (R362). -/
structure Quota where
  frames : Nat := 0
  bytes : Nat := 0
  exceeded : Nat := 0
  deriving DecidableEq, Repr

/-- Counter of strangers since the last STRANGER event of a port, and the time of that event (R364). -/
structure Stranger where
  since : Nat := 0
  last : Option Nat := none
  deriving DecidableEq, Repr

/-- The ZST protocol engine. Ports 0 to 11. -/
structure Zst where
  txq : List (List TxFrame) := List.replicate 12 []
  quota : List Quota := List.replicate 12 {}
  /-- Numbers of the released results that wait for a verdict, oldest first, and the number of the next one. -/
  awaiting : List Nat := []
  results : Nat := 0
  store : List RxFrame := []
  /-- Frames ever freed from the front of the store, so that reading positions stay. -/
  freed : Nat := 0
  batch : Nat := 0
  inBatch : Nat := 0
  reads : Per3 RxRead := ⟨{}, {}, {}⟩
  strangers : List Stranger := List.replicate 12 {}
  /-- A ZST_CLAIM write that waits for the snapshot strobe (13 R388). -/
  claim : Option Nat := none
  /-- Time beacons queued ahead of the ZST frames, by port (14 R423). -/
  beacons : List (Nat × List Byte) := []
  /-- Next 802.1CB sequence number by VID (14 R418). -/
  cbSeq : List (Nat × Nat) := []
  deriving DecidableEq, Repr

/-! ### Field and backbone ports (chapter 14) -/

/-- The service port: whether it counts as connected, and the instant from which the 1 s runs while its link is up (R430). -/
structure Service where
  connected : Bool := false
  since : Option Nat := none
  deriving DecidableEq, Repr

/-- What a port puts on its medium. -/
inductive Wire where
  /-- An Ethernet frame from the destination address to the end of the padding. -/
  | eth (bytes : List Byte)
  /-- A CAN frame: extended format, FD format, identifier, data. -/
  | can (ext fd : Bool) (id : Nat) (data : List Byte)
  /-- A CAN XL frame: priority identifier, SDT, VCID, acceptance field, data. -/
  | canXl (prio sdt vcid af : Nat) (data : List Byte)
  /-- Characters on an RS-485 line. -/
  | uart (data : List Byte)
  /-- A gPTP message: messageType of IEEE 802.1AS, time stamp that it carries. -/
  | gptp (kind stamp : Nat)
  deriving DecidableEq, Repr

/-- The receivers of Table 14.2. -/
inductive Receiver where
  | zst | time | bridge | management
  deriving DecidableEq, Repr

/-- A frame delivered with its tag: receiver, class of the port, content without the encapsulation (R409). -/
structure Delivered where
  dest : Receiver
  cls : Nat
  bytes : List Byte
  deriving DecidableEq, Repr

/-- A port beside its registers. -/
structure PortRt where
  /-- PORT_CFG as the port took it at the last restart (R408); its reset value (Table 14.7). -/
  cfg : Nat := 0x40006000
  /-- Its protocol engine has failed (R431). -/
  disabled : Bool := false
  /-- Drops since the last CLASS_DROP event, and the instant of that event (R409). -/
  drops : Nat := 0
  dropAt : Option Nat := none
  /-- PLCA has been lost; instant of the last PLCA BEACON (R414). -/
  plcaLost : Bool := false
  plcaAt : Nat := 0
  /-- Aligned time captured at the last beacon sent (R423). -/
  sentCap : Nat := 0
  /-- Weir time at the last beacon received, and the last pair of value and capture (R424). -/
  rxCap : Option Nat := none
  pair : Option (Nat × Nat) := none
  /-- Neighbour delay in ns, asCapable, instant of the last Pdelay_Req (R419). -/
  delay : Nat := 0
  asCapable : Bool := false
  asked : Nat := 0
  /-- Last Announce: priority vector as a number, grandmaster identity (R419). -/
  announce : Option (Nat × Nat) := none
  /-- What the port sent last, and what it delivered last. -/
  wire : List Wire := []
  rx : Option Delivered := none
  deriving DecidableEq, Repr

/-- Sequence recovery of one 802.1CB stream (R418): key of source MAC and VID, any number taken next, RecovSeqNum, history with
bit k for RecovSeqNum − k, instant of the last frame passed. -/
structure CbStream where
  key : Nat
  any : Bool
  seq : Nat
  hist : Nat
  last : Nat
  deriving DecidableEq, Repr

/-- The port time function (R420, R421): measurements in a row within 1,000 ns, instant of the last one, grandmaster. -/
structure TimeFn where
  run : Nat := 0
  last : Option Nat := none
  gm : Option Nat := none
  deriving DecidableEq, Repr


/-! ### Bridge and check-value units (chapter 15) -/

/-- A frame in an egress queue: identifier kind (Table 15.2), identifier, payload; both MAC addresses of a native frame. -/
structure EgrFrame where
  kind : Nat
  id : Nat
  payload : List Byte
  dst : Nat
  src : Nat
  deriving DecidableEq, Repr

/-- A region descriptor in force (R457): the four words of its registers. -/
structure BrRegion where
  base : Nat := 0
  ctl : Nat := 0
  id : Nat := 0
  rsp : Nat := 0
  deriving DecidableEq, Repr

/-- State of a delayed-read slot (R451). -/
inductive SlotSt where
  | free | issued | ready | error
  deriving DecidableEq, Repr

/-- A delayed-read slot (R450 to R454): requester, region, remote address, SIZE code, line fetched for PREFETCH = 1; instant of
the READ or of becoming READY; data in fabric order; bytes of the line already read. -/
structure RdSlot where
  st : SlotSt := .free
  req : Nat := 0
  region : Nat := 0
  addr : Nat := 0
  size : Nat := 0
  since : Nat := 0
  data : List Byte := []
  seen : Nat := 0
  deriving DecidableEq, Repr

/-- A posted write (R449): tag, region, address, instant of its sending. -/
structure PostedWrite where
  tag : Nat
  region : Nat
  addr : Nat
  since : Nat
  deriving DecidableEq, Repr

/-- A message in the inbound queue (R455): arrival port, kind and identifier of its answer, payload. -/
structure Inbound where
  port : Nat
  kind : Nat
  id : Nat
  payload : List Byte
  deriving DecidableEq, Repr

/-- The bridge beside its registers. -/
structure Bridge where
  /-- The two routing tables: the four words of each entry written (R443). -/
  tbl0 : List (Nat × List Nat) := []
  tbl1 : List (Nat × List Nat) := []
  regions : List BrRegion := List.replicate 16 {}
  egress : List (List EgrFrame) := List.replicate 14 []
  slots : List RdSlot := List.replicate 64 {}
  writes : List PostedWrite := []
  inbound : List Inbound := []
  /-- Failures since the last CVU_CHECK_FAIL of each unit, and the instant of that event (R461). -/
  fails : List Stranger := List.replicate 8 {}
  deriving DecidableEq, Repr


/-! ### Event intake and shared fabric (chapter 16) -/

/-- An event: source, code, data values in the order of its chapter's table, Weir time stamp, INJ mark. -/
structure Ev where
  src : Nat
  code : Nat
  data : List Nat
  stamp : Nat
  inj : Bool
  /-- The data are the ten DATA words of INT_ASM. -/
  raw : Bool := false
  deriving DecidableEq, Repr

/-- Events of one source that are lost and not yet reported: pending count, stamp of the first loss (16 R483). -/
structure LostPend where
  src : Nat
  count : Nat
  first : Nat
  deriving DecidableEq, Repr

/-- Event intake: one-deep staging registers, pending losses, assembly buffers, merge unit (16 R479 to R483). -/
structure Intake where
  /-- Staging registers in use, at most one event per source. -/
  staged : List Ev := []
  /-- Events that wait until the merge unit has taken the one before of their source: what firmware raises (log 29), and what
  one command raises in later FAB cycles than the event that is staged (log 56). -/
  later : List Ev := []
  lost : List LostPend := []
  /-- Assembly buffers of requesters 0 to 6, eleven words each (R480). -/
  asm : List (List Nat) := List.replicate 7 (List.replicate 11 0)
  /-- Instant at which the merge unit began to hold an event that the recorder refuses (R482). -/
  stallSince : Option Nat := none
  deriving DecidableEq, Repr

/-- A shared-fabric transaction at a target. `waits` counts the decisions it lost, `granted` the instant of its grant. -/
structure FabReq where
  req : Nat
  addr : Nat
  write : Bool
  waits : Nat
  granted : Nat
  deriving DecidableEq, Repr

/-- One target arbiter (16 R468 to R477). Lists indexed by requester ID minus 3. -/
structure FabTarget where
  waiting : List FabReq := []
  queue : List FabReq := []
  credits : List Nat := List.replicate 7 4
  ages : List Nat := List.replicate 7 0
  /-- Weights and aging limit in force since the last credit reload (R474). -/
  weights : List Nat := List.replicate 7 4
  ageLim : Nat := 64
  /-- Requester ID at which the next search starts; 0 after reset (R472). -/
  pointer : Nat := 0
  hung : Bool := false
  deriving DecidableEq, Repr

/-- The shared fabric: targets 0 to 6 and the outstanding count of requesters 0 to 9 (R466). -/
structure Fabric where
  targets : List FabTarget := List.replicate 7 {}
  out : List Nat := List.replicate 10 0
  deriving DecidableEq, Repr

/-! ### Event recorder (chapter 17) -/

/-- A record (Table 17.1): its event, TIME as a 64-bit pattern, TSRC; SEQ and PCC once a flush has taken it. -/
structure Rec where
  ev : Ev
  time : Nat
  tsrc : Nat
  seq : Nat := 0
  pcc : Nat := 0
  /-- A flush has taken the record: SEQ, PCC and CRC are filled in (R489). -/
  taken : Bool := false
  deriving DecidableEq, Repr

/-- A superblock copy that is valid (R496). -/
structure Superblock where
  n : Nat
  m : Nat
  pcc : Nat
  base : Nat
  gen : Nat
  deriving DecidableEq, Repr

/-- The log region of the eMMC device (R495): two superblock copies, Headwater and Eddy slots that hold a valid record. -/
structure EmmcLog where
  sb0 : Option Superblock := none
  sb1 : Option Superblock := none
  headwater : List (Nat × Rec) := []
  eddy : List (Nat × Rec) := []
  deriving DecidableEq, Repr

/-- A running flush (R493): records still to be written to Eddy, records of this flush still to be written to Headwater. -/
structure Flush where
  eddy : List Rec
  hw : List Rec
  /-- Triggered by FAULT. -/
  fault : Bool
  /-- The rewrite with SPILLWAY_DONE (R502). -/
  done : Option Rec := none
  deriving DecidableEq, Repr

/-- A clear that has been accepted (R508): the quoted value; whether the flush of step 1 has started; whether step 1 has been
completed and the superblock write of step 2 runs; the old BASE. -/
structure EddyClear where
  quoted : Nat
  flushing : Bool
  step2 : Bool
  oldBase : Nat
  deriving DecidableEq, Repr

/-- The Spillway (R501): Weir time of its start, records that have entered it, records written. -/
structure Spill where
  start : Nat
  startNow : Nat
  entered : Nat
  written : Nat
  closed : Bool
  finished : Bool
  /-- Spillway records that still go to Headwater (R502). -/
  hw : List Rec
  deriving DecidableEq, Repr

/-- The event recorder beside its registers. -/
structure Recorder where
  /-- Carafe slots that have been written since power-on, by slot (R490). -/
  carafe : List (Nat × Rec) := []
  /-- The event at the write port (R491). -/
  port : Option Ev := none
  /-- A Percolator slice holds the Carafe macro (R491). -/
  macroHeld : Bool := false
  /-- A trigger that waits for its flush, and whether one of them is FAULT (R492). -/
  trig : Bool := false
  trigFault : Bool := false
  /-- PEND has reached 2,048 and the HALF trigger has not acted. -/
  half : Bool := false
  flush : Option Flush := none
  lastFlush : Nat := 0
  /-- Failed attempts of the present eMMC write (R494). -/
  tries : Nat := 0
  frozenAt : Option Nat := none
  recovered : Bool := false
  spill : Option Spill := none
  clear : Option EddyClear := none
  fetching : Bool := false
  /-- TM_STAT.LOCKED as the recorder sees it, a lock since POR, EVR_CALSET written since POR (R487). -/
  locked : Bool := false
  everLocked : Bool := false
  calSet : Bool := false
  /-- Highest committed SEQ with its record (R506). -/
  committed : Option Rec := none
  /-- The eMMC device: the log region at each sector address (R495). Kept by every reset. -/
  logs : List (Nat × EmmcLog) := []
  /-- EVR_LBA as used at the last recovery or format. -/
  lba : Nat := 0
  deriving DecidableEq, Repr


/-! ### Percolator (chapter 18) -/

/-- A spare entry of a macro (R520, R523): in use, programmed into fuses, its ADDR of PERC_SPR. -/
structure Spare where
  used : Bool := false
  fused : Bool := false
  addr : Nat := 0
  deriving DecidableEq, Repr

/-- A repair that waits for 2oo3 (R521): macro, word, differing bits. -/
structure PercPend where
  macroNo : Nat
  word : Nat
  diff : Nat
  deriving DecidableEq, Repr

/-- A fuse that is being programmed (R525): end, macro, spare, TAG of the command. -/
structure FuseRun where
  due : Nat
  macroNo : Nat
  spare : Nat
  tag : Nat
  deriving DecidableEq, Repr

/-- A Percolator engine, or the scheduler, beside its registers. A macro of group g of the scheduler has the number
g × 32 + m. Positions are (macro, slice) by group. -/
structure Perc where
  spares : List (Nat × List Spare) := []
  /-- Single-bit failures seen: macro, column (bit × 64 + mux), row. -/
  seen : List (Nat × Nat × Nat) := []
  pending : List PercPend := []
  fuse : Option FuseRun := none
  /-- Macro numbers, spares and ADDR values in the fuse map. -/
  fuses : List (Nat × Nat × Nat) := []
  pos : List (Nat × Nat) := [(0, 0), (0, 0), (0, 0)]
  passAt : List Nat := [0, 0, 0]
  /-- Groups with a slice that runs, and the instant of its start. -/
  running : List (Nat × Nat) := []
  due : Nat := 0
  /-- A failure of the present snapshot has made the channel leave (Table 18.3). -/
  left : Bool := false
  deriving DecidableEq, Repr


/-! ### Retained data of the management plane (07 R255, 13 R400) -/

/-- What the management plane keeps for the next start: the newest copy of each retained page, the pages whose copy is not
yet in eMMC, the pages in eMMC, the epoch record; the mirror record whose retain frames are being taken, and how many of them have
been. -/
structure Retain where
  newest : List (Nat × PageOut) := []
  dirty : List Nat := []
  dirtySince : Nat := 0
  emmc : List (Nat × PageOut) := []
  epoch : Nat := 0
  epochDirty : Bool := false
  epochEmmc : Nat := 0
  rdCycle : Nat := 0
  rdNext : Nat := 0
  deriving DecidableEq, Repr

/-! ### Power controller (chapter 19) -/

/-- The power controller beside its registers. Blocks are given by the address of their page 0. -/
structure Power where
  /-- NOTICE on the consent bus (R534). -/
  notice : Bool := false
  startAt : Nat := 0
  /-- Blocks still to be asked, blocks stopped (last first), the instant of the present question. -/
  asks : List Nat := []
  stopped : List Nat := []
  asked : Nat := 0
  askAt : Nat := 0
  /-- Wake causes that arrived during an entry (R547). -/
  wakePend : Nat := 0
  /-- PWR_HOLD, and SCL of the management I2C target held low (R543). -/
  hold : Bool := true
  sclHeld : Bool := false
  /-- Elapsed instant from which PWR_AON counts. -/
  aonBase : Nat := 0
  deriving DecidableEq, Repr


/-! ### Commissioning, identity and firmware store (chapter 20) -/

/-- A firmware slot of the xSPI device (R568, R569): state of FW_STAT, header fields, FORMATs by set, DIGEST. -/
structure FwSlot where
  state : Nat := 0
  version : Nat := 0
  svn : Nat := 0
  keyIdx : Nat := 0
  sets : List Nat := []
  digest : Nat := 0
  /-- Load address and bytes of the channel firmware segment (22 R605). -/
  seg : Nat × List Byte := (0, [])
  deriving DecidableEq, Repr

/-- A confirmation record (R559), without its calendar time. -/
structure ConfirmRec where
  cv : Nat
  snap : Nat
  tag : Nat
  version : Nat
  deriving DecidableEq, Repr

/-- A key in the key store (R563). -/
structure KeyRec where
  slot : Nat
  phase : Nat
  key : List Byte
  kcv : Nat
  deriving DecidableEq, Repr

/-- What the management plane keeps for commissioning and update. Fields up to `scanAt` are in eMMC, xSPI or fuses and outlive
every reset. -/
structure Commission where
  /-- Configuration packages as stored (R555). -/
  current : Option (List Byte) := none
  pending : Option (List Byte) := none
  record : Option ConfirmRec := none
  keys : List KeyRec := []
  /-- Bit k: current phase of key slot k. -/
  phases : Nat := 0
  slots : List FwSlot := [{}, {}]
  /-- Boot control block: running slot, the slot before it, trial boots left, the SVN fuse. -/
  run : Nat := 0
  prev : Nat := 0
  trial : Nat := 0
  svn : Nat := 0
  /-- A slot whose trial boots are used up, until the boot ROM has started the previous slot (R572). -/
  reverted : Option Nat := none
  /-- Schedule that the management firmware knows: slot, ACTIVATE_AT. -/
  schedule : Option (Nat × Nat) := none
  /-- The same of the last FW_ACTIVATE forwarded. -/
  forwarded : Option (Nat × Nat) := none
  /-- Last scan of each identity bus: every REQUIRED entry has matched; its instant. -/
  identOk : List Bool := [false, false]
  scanAt : List Nat := [0, 0]
  /-- A confirmation record to be written, and the instant by which it is (R559). -/
  recordDue : Option (Nat × ConfirmRec) := none
  /-- Sets 0 to 12 of the package in force: number, FORMAT, LENGTH; content of sets 0 and 11. -/
  heads : List (Nat × Nat × Nat) := []
  set0 : List Byte := []
  modules : List Byte := []
  deriving DecidableEq, Repr


/-! ### Resets and boot (chapter 22) -/

/-- A unit-wide reset (R597): KIND and ORIGIN of RST_CAUSE, slot named by ACTIVATE, instant of its acceptance. -/
structure ResetReq where
  kind : Nat
  origin : Nat
  slot : Nat
  since : Nat
  deriving DecidableEq, Repr

/-- The reset sequencer and the boot. -/
structure Boot where
  /-- The reset whose assertion or boot is under way; the state after reset is a POR whose boot has not begun. -/
  reset : Option ResetReq := some ⟨1, 0, 0, 0⟩
  /-- The reset is asserted (R600); it has been released, at this instant; a POR is asserted. -/
  asserted : Bool := false
  released : Option Nat := none
  por : Bool := true
  /-- Steps of Table 22.5 that have completed. -/
  done : List Nat := []
  /-- The boot has stopped (R607). -/
  stopped : Bool := false
  /-- A restart that COLD_RESTART demands (07 Table 7.8). -/
  cold : Bool := false
  /-- Failing comparators of step 4: safe inputs, output readbacks. -/
  sinBad : Nat := 0
  soutBad : Nat := 0
  /-- The eMMC device has failed to initialise (step 7). -/
  emmcBad : Bool := false
  /-- WR_STAT.WPOR as the loader read it in step 9 (07 R258). -/
  wpor : Bool := false
  /-- The restart kind of this boot (1 cold, 2 warm), once step 11 has decided it. -/
  restart : Nat := 0
  /-- This boot has used up its trial (20 R572). -/
  trialOver : Bool := false
  /-- This boot is a trial boot (20 R572); the boot ROM stays in its recovery loader (20 R570). -/
  trial : Bool := false
  recovery : Bool := false
  deriving DecidableEq, Repr



/-- The hardware of the unit. -/
structure Chip where
  /-- Register fields that differ from their reset value, by key (Machine/RegFile.lean). -/
  regs : List (Nat × Nat) := []
  /-- Elapsed WDN ticks of 10 ns since the model's start; never reset. -/
  now : Nat := 0
  /-- Last answer on a register or memory path. -/
  resp : BusResp := .none
  /-- The model's own counter of free values drawn (assumption log 3). -/
  freeCtr : Nat := 0
  intake : Intake := {}
  fab : Fabric := {}
  pages : Pages := {}
  plic : Plic := {}
  cic : Per3 Cic := ⟨{}, {}, {}⟩
  chans : Per3 Channel := ⟨{}, {}, {}⟩
  conf : Conf := {}
  weir : Weir := {}
  link : Link := {}
  lat : Lattice := {}
  flt : FaultUnit := {}
  gate : Gate := {}
  rt : Per3 Rt := ⟨{}, {}, {}⟩
  sin : Sin := {}
  sout : Sluice := {}
  zst : Zst := {}
  svc : Service := {}
  ports : List PortRt := List.replicate 15 {}
  cb : List CbStream := []
  tm : TimeFn := {}
  br : Bridge := {}
  /-- Management SRAM by address 0x2000_0000 and up (02 Table 2.1). -/
  msram : List (Nat × BitVec 8) := []
  /-- LPDDR4X by address 0x1_0000_0000 and up (02 Table 2.1). -/
  ddr : List (Nat × BitVec 8) := []
  evr : Recorder := {}
  perc : List Perc := List.replicate 4 {}
  ret : Retain := {}
  pwr : Power := {}
  com : Commission := {}
  boot : Boot := {}
  deriving DecidableEq, Repr

/-- The block: its hardware and the queue of commands that wait, first in first out. -/
structure State where
  chip : Chip := {}
  pending : List Instr := []
  deriving DecidableEq, Repr

/-- The machine right after reset: every register field at its Reset column, every internal field at its default. -/
def State.reset : State := {}

end Sys2Proof.Machine
end

