-- ==== Sys2Proof/Machine/Ops.lean ====
section
/-!
DEFINITION. The named operations over the field file, time, lists and memory that every meaning uses.
-/
namespace Sys2Proof.Machine

/-- A command's outcome: the hardware becomes `u`; the queue is not touched. -/
def State.become (s : State) (u : Chip) : Host.Outcome State Fault Refusal := .next { s with chip := u }

/-! ### Register fields -/

/-- The value of a register field. -/
def Chip.get (u : Chip) (f : Fld) : Nat := f.read u.regs

/-- Sets a register field, modulo its width. -/
def Chip.put (u : Chip) (f : Fld) (v : Nat) : Chip := { u with regs := f.write u.regs v }

/-- Whether a one-bit field reads 1 (or any field is not 0). -/
def Chip.on (u : Chip) (f : Fld) : Bool := u.get f != 0

/-- Adds 1 to a saturating counter field. -/
def Chip.satInc (u : Chip) (f : Fld) : Chip := u.put f (min (u.get f + 1) (2 ^ f.width - 1))

/-- Adds 1 to a counter field that wraps. -/
def Chip.wrapInc (u : Chip) (f : Fld) : Chip := u.put f (u.get f + 1)

/-- Raises a high-water mark, which saturates at the field's width. -/
def Chip.highWater (u : Chip) (f : Fld) (v : Nat) : Chip :=
  u.put f (min (max (u.get f) v) (2 ^ f.width - 1))

/-- Sets bit `n` of a field used as a bit vector. -/
def Chip.setBit (u : Chip) (f : Fld) (n : Nat) : Chip := u.put f (u.get f ||| 2 ^ n)

/-- Clears bit `n` of a field used as a bit vector. -/
def Chip.clearBit (u : Chip) (f : Fld) (n : Nat) : Chip :=
  if (u.get f).testBit n then u.put f (u.get f - 2 ^ n) else u

/-- Sets bit `n` of a field to a level. -/
def Chip.putBit (u : Chip) (f : Fld) (n : Nat) (b : Bool) : Chip :=
  if b then u.setBit f n else u.clearBit f n

/-- A one-bit level as a field value. -/
def lvl (b : Bool) : Nat := if b then 1 else 0

/-- Bits `hi` down to `lo` of a number. -/
def bits (v hi lo : Nat) : Nat := v / 2 ^ lo % 2 ^ (hi - lo + 1)

/-- A `w`-bit pattern read as two's complement. -/
def signed (w v : Nat) : Int := if v % 2 ^ w < 2 ^ (w - 1) then (v % 2 ^ w : Nat) else ((v % 2 ^ w : Nat) : Int) - 2 ^ w

/-- The `w`-bit two's complement pattern of an integer. -/
def pattern (w : Nat) (x : Int) : Nat := (x % (2 ^ w : Int)).toNat

/-! ### Lists -/

/-- Element `n` of a list changed by `g`. -/
def modAt {α : Type} : List α → Nat → (α → α) → List α
  | [], _, _ => []
  | x :: t, 0, g => g x :: t
  | x :: t, n + 1, g => x :: modAt t n g

/-- Folds an operation over the numbers below `n`, lowest first. -/
def foldUpTo {β : Type} (n : Nat) (b : β) (g : β → Nat → β) : β := (List.range n).foldl g b

/-- The value listed under a key in an association list. -/
def assoc {α : Type} (l : List (Nat × α)) (k : Nat) (d : α) : α :=
  match l.find? (fun e => e.1 == k) with
  | some e => e.2
  | none => d

/-- An association list in which `k` has the value `v`, in rising key order. -/
def assocPut {α : Type} : List (Nat × α) → Nat → α → List (Nat × α)
  | [], k, v => [(k, v)]
  | (a, w) :: t, k, v => if k = a then (k, v) :: t else if k < a then (k, v) :: (a, w) :: t else (a, w) :: assocPut t k v

/-- The numbers of the bits that are set below `n`. -/
def setBits (v n : Nat) : List Nat := (List.range n).filter (fun i => v.testBit i)

/-- The number of the bits that are set below `n`. -/
def popCount (v n : Nat) : Nat := (setBits v n).length

/-- The number that has exactly the given bits set. -/
def maskOf (l : List Nat) : Nat := l.foldl (fun m b => m ||| 2 ^ b) 0

/-! ### Time (assumption log 2) -/

/-- 1 µs in Weir ticks of 10 ns (05 R152). -/
def us (n : Nat) : Nat := n * 100

/-- 1 ms in Weir ticks. -/
def ms (n : Nat) : Nat := n * 100000

/-- 1 s in Weir ticks. -/
def sec (n : Nat) : Nat := n * 100000000

/-! ### Free values -/

/-- Draws a free value: nothing constrains it. -/
def Chip.free (u : Chip) : Nat × Chip := (Config.freeNat u.freeCtr, { u with freeCtr := u.freeCtr + 1 })

/-- Answers an access with a response. -/
def Chip.answer (u : Chip) (r : BusResp) : Chip := { u with resp := r }

/-! ### Two-rail signals (05 R135) -/

/-- Whether signal `n` is logical 1: spacer and illegal code are not (R137). -/
def Rails.get (r : Rails) (n : Nat) : Bool := r.t.testBit n && !r.f.testBit n

/-- The signals that are logical 1, as a word. -/
def Rails.word (r : Rails) : Nat := r.t - (r.t &&& r.f)

/-- `n` signals driven to the levels of a word. -/
def Rails.ofWord (n v : Nat) : Rails := ⟨v % 2 ^ n, 2 ^ n - 1 - v % 2 ^ n⟩

/-- Signal `n` driven to a level. -/
def Rails.put (r : Rails) (n : Nat) (b : Bool) : Rails :=
  let clear := fun (x : Nat) => if x.testBit n then x - 2 ^ n else x
  if b then ⟨r.t ||| 2 ^ n, clear r.f⟩ else ⟨clear r.t, r.f ||| 2 ^ n⟩

/-- Whether any of `n` signals shows the illegal code (R136). -/
def Rails.illegal (r : Rails) (n : Nat) : Bool := (List.range n).any (fun i => r.t.testBit i && r.f.testBit i)

/-! ### Byte-addressed memory: rising addresses, no entry equal to 0, an unlisted byte reads 0 (log 5) -/

/-- The byte at an address. -/
def memRead : List Host.Cell → Nat → Byte
  | [], _ => 0
  | (a, b) :: t, k => if a = k then b else memRead t k

/-- The memory without a listed byte at `k`. -/
def memErase : List Host.Cell → Nat → List Host.Cell
  | [], _ => []
  | (a, b) :: t, k => if a = k then memErase t k else (a, b) :: memErase t k

/-- The memory with a byte put before the first larger address. -/
def memInsert : List Host.Cell → Nat → Byte → List Host.Cell
  | [], k, v => [(k, v)]
  | (a, b) :: t, k, v => if k < a then (k, v) :: (a, b) :: t else (a, b) :: memInsert t k v

/-- Writes one byte; a byte 0 is not listed. -/
def memWrite (m : List Host.Cell) (k : Nat) (v : Byte) : List Host.Cell :=
  if v = 0 then memErase m k else memInsert (memErase m k) k v

/-- Addresses rise strictly from a bound on, and no listed byte is 0. -/
def memWfFrom : Nat → List Host.Cell → Bool
  | _, [] => true
  | lo, (a, b) :: t => decide (lo ≤ a) && decide (b ≠ 0) && memWfFrom (a + 1) t

/-- The canonical form of a memory. -/
def memWf (m : List Host.Cell) : Bool := memWfFrom 0 m

/-- Writes bytes at rising addresses. -/
def memWriteBytes (m : List Host.Cell) (k : Nat) : List Byte → List Host.Cell
  | [] => m
  | b :: t => memWriteBytes (memWrite m k b) (k + 1) t

/-- `n` bytes from an address on. -/
def memReadBytes (m : List Host.Cell) (k n : Nat) : List Byte := (List.range n).map (fun i => memRead m (k + i))

/-- The bytes of a range set to 0. -/
def memClear (m : List Host.Cell) (lo n : Nat) : List Host.Cell :=
  m.filter (fun e => e.1 < lo || lo + n ≤ e.1)

/-! ### Byte order -/

/-- The number that bytes spell, first byte lowest. -/
def leNat : List Byte → Nat
  | [] => 0
  | b :: t => b.toNat + 256 * leNat t

/-- `n` bytes of a number, lowest first. -/
def leBytes : Nat → Nat → List Byte
  | 0, _ => []
  | n + 1, v => BitVec.ofNat 8 v :: leBytes n (v / 256)

/-- The number that bytes spell, first byte highest. -/
def beNat (l : List Byte) : Nat := l.foldl (fun a b => a * 256 + b.toNat) 0

/-- `n` bytes of a number, highest first. -/
def beBytes (n v : Nat) : List Byte := (leBytes n v).reverse

/-- A little-endian number of `n` bytes at offset `o` of a byte list; absent bytes count as 0. -/
def leAt (l : List Byte) (o n : Nat) : Nat := leNat ((l.drop o).take n)

/-- A big-endian number of `n` bytes at offset `o` of a byte list. -/
def beAt (l : List Byte) (o n : Nat) : Nat := beNat ((l.drop o).take n)

end Sys2Proof.Machine
end

