-- ==== Sys2Proof/Machine/Crc.lean ====
section
/-!
DEFINITION. Cyclic redundancy checks: one bitwise computation with the six parameters of 15 R460, and the two codes that
other chapters name (CRC-32C of 02 R48, CRC-64 of 05 R144).
-/
namespace Sys2Proof.Machine

/-- The parameters of a CRC (15 R460, Table 15.14). -/
structure CrcParam where
  width : Nat
  poly : Nat
  init : Nat
  refIn : Bool
  refOut : Bool
  xorOut : Nat
  deriving DecidableEq, Repr

/-- The lowest `n` bits of a number in reversed order. -/
def reflectBits (n v : Nat) : Nat := foldUpTo n 0 (fun r i => r ||| (v >>> i % 2) <<< (n - 1 - i))

/-- One step of the shift register: the top bit leaves and brings the polynomial in. -/
def crcShift (p : CrcParam) (r : Nat) : Nat :=
  if r.testBit (p.width - 1) then (r <<< 1 % 2 ^ p.width) ^^^ p.poly else r <<< 1 % 2 ^ p.width

/-- Absorbs one bit, in the order in which bits enter. -/
def crcBit (p : CrcParam) (r : Nat) (b : Bool) : Nat :=
  crcShift p (if b then r ^^^ 2 ^ (p.width - 1) else r)

/-- Absorbs one byte: bit 7 first, or bit 0 first where the input is reflected. -/
def crcByte (p : CrcParam) (r : Nat) (b : Byte) : Nat :=
  foldUpTo 8 r (fun r i => crcBit p r (b.toNat.testBit (if p.refIn then i else 7 - i)))

/-- The result that a register holds. -/
def crcOut (p : CrcParam) (r : Nat) : Nat := (if p.refOut then reflectBits p.width r else r) ^^^ p.xorOut

/-- The CRC of a byte string. -/
def crcOf (p : CrcParam) (l : List Byte) : Nat := crcOut p (l.foldl (crcByte p) p.init)

/-- CRC-32C (02 R48). -/
def crc32c : CrcParam := ⟨32, 0x1EDC6F41, 0xFFFFFFFF, true, true, 0xFFFFFFFF⟩

/-- CRC-64/ECMA-182 with initial value 0 (05 R144). -/
def crc64 : CrcParam := ⟨64, 0x42F0E1EBA9EA3693, 0, false, false, 0⟩

/-- CRC-64/ECMA-182 with a given initial value (12 R355). -/
def crc64From (seed : Nat) : CrcParam := ⟨64, 0x42F0E1EBA9EA3693, seed, false, false, 0⟩

end Sys2Proof.Machine
end

