-- ==== Sys2Proof/Machine/Pages.lean ====
section
/-!
DEFINITION. Register pages: placement by block type (02 R53, Table 2.13; 05 Table 5.8; 06 Table 6.15), the read-only
header registers, planes and the address map (Table 2.1).
-/
namespace Sys2Proof.Machine

/-- A block type: code, instances, pages per instance, implemented IRQ bits (Tables 2.6, 2.13). -/
structure BlockType where
  ty : Nat
  insts : Nat
  npages : Nat
  nirq : Nat
  deriving DecidableEq, Repr

/-- Table 2.13. NIRQ counts the IRQ_RAW bits that the block's chapter names, plus bit 31 (Table 2.6). -/
def blockTypes : List BlockType := [
  ⟨0xC001, 1, 2, 4⟩, ⟨0xC002, 3, 2, 9⟩, ⟨0xC003, 1, 2, 7⟩, ⟨0xC004, 1, 4, 8⟩, ⟨0xC005, 1, 2, 8⟩, ⟨0xC006, 1, 4, 8⟩,
  ⟨0xC007, 1, 1, 1⟩, ⟨0xC008, 1, 1, 1⟩, ⟨0xC009, 1, 2, 3⟩, ⟨0xC00A, 1, 4, 6⟩, ⟨0xC00B, 3, 1, 6⟩,
  ⟨0xD020, 1, 4, 6⟩, ⟨0xD021, 8, 1, 2⟩,
  ⟨0xE040, 1, 1, 1⟩, ⟨0xE041, 1, 1, 1⟩, ⟨0xE042, 1, 4, 1⟩, ⟨0xE043, 1, 2, 1⟩, ⟨0xE044, 1, 2, 1⟩, ⟨0xE045, 1, 2, 8⟩,
  ⟨0xE046, 1, 1, 6⟩, ⟨0xE047, 1, 2, 5⟩, ⟨0xE048, 1, 1, 1⟩, ⟨0xE049, 2, 1, 1⟩, ⟨0xE04A, 1, 2, 1⟩,
  ⟨0xF060, 4, 2, 1⟩, ⟨0xF061, 4, 1, 1⟩, ⟨0xF062, 2, 2, 1⟩, ⟨0xF063, 2, 2, 1⟩, ⟨0xF064, 4, 2, 1⟩, ⟨0xF065, 2, 1, 1⟩,
  ⟨0xF066, 2, 1, 1⟩]

/-- The page address of a type, instance and page number (02 R53). -/
def pageAddr (ty inst page : Nat) : Nat := 0x40000000 + ty % 256 * 0x100000 + inst * 0x4000 + page * 0x1000

/-- A page as found at an address: type, instance, page number, pages per instance, IRQ bits, page-0 address. -/
structure PageInfo where
  ty : Nat
  inst : Nat
  page : Nat
  npages : Nat
  nirq : Nat
  base0 : Nat
  deriving DecidableEq, Repr

/-- The Weir window pages (Tables 5.8 and 6.15): address, type, page, pages, IRQ bits, page 0. -/
def weirPages : List (Nat × PageInfo) := [
  (0x50000000, ⟨0xC0F0, 0, 0, 2, 9, 0x50000000⟩), (0x50001000, ⟨0xC0F0, 0, 1, 2, 9, 0x50000000⟩),
  (0x50002000, ⟨0xC0F1, 0, 0, 1, 1, 0x50002000⟩), (0x50003000, ⟨0xC0F2, 0, 0, 1, 1, 0x50003000⟩),
  (0x50004000, ⟨0xC0F3, 0, 0, 1, 1, 0x50004000⟩),
  (0x50006000, ⟨0xC0F4, 0, 0, 2, 7, 0x50006000⟩), (0x50007000, ⟨0xC0F4, 0, 1, 2, 7, 0x50006000⟩)]

/-- The address of the page that holds an address. -/
def pageOf (a : Nat) : Nat := a / 0x1000 * 0x1000

/-- The page at an address, where one is allocated. -/
def pageInfo (a : Nat) : Option PageInfo :=
  if 0x50000000 ≤ a ∧ a < 0x51000000 then (weirPages.find? (fun e => e.1 == pageOf a)).map (·.2)
  else if 0x40000000 ≤ a ∧ a < 0x50000000 then
    let t := (a - 0x40000000) / 0x100000
    let inst := (a - 0x40000000) % 0x100000 / 0x4000
    let page := (a - 0x40000000) % 0x4000 / 0x1000
    match blockTypes.find? (fun b => b.ty % 256 == t) with
    | none => none
    | some b => if inst < b.insts ∧ page < b.npages then some ⟨b.ty, inst, page, b.npages, b.nirq, pageAddr b.ty inst 0⟩ else none
  else none

/-- BLK_ID of a page (Table 2.5): every page of this revision has version 0x01. -/
def blkId (p : PageInfo) : Nat := p.ty * 0x10000 + p.inst * 0x100 + 1

/-- BLK_CAPS of a page (Table 2.6): SPEC reads 0. -/
def blkCaps (p : PageInfo) : Nat := p.nirq * 0x100 + p.npages

/-- The address of the page with the live BLK_CTRL, BLK_PWR, IRQ_* and BLK_ERRINJ of the page at `a` (Table 2.4). -/
def page0 (a : Nat) : Nat :=
  match pageInfo a with
  | some p => p.base0
  | none => pageOf a

/-- Page 0 of port number `p`: 0-3 T1S, 4-5 100BASE-T1, 6-7 1000BASE-T1, 8-11 CAN, 12-13 RS-485, 14 service
(14 Table 14.1, Table 14.6). -/
def portPage (p : Nat) : Nat :=
  if p < 4 then 0x46000000 + p * 0x4000
  else if p < 6 then 0x46200000 + (p - 4) * 0x4000
  else if p < 8 then 0x46300000 + (p - 6) * 0x4000
  else if p < 12 then 0x46400000 + (p - 8) * 0x4000
  else if p < 14 then 0x46600000 + (p - 12) * 0x4000
  else 0x44A00000

/-- The port that a page of type 0xF060 to 0xF066 belongs to, by type and instance; an engine serves its port or the
first port of its pair (14 R431, 01 R14). -/
def portOfPage (ty inst : Nat) : Nat :=
  if ty = 0xF060 ∨ ty = 0xF061 then inst
  else if ty = 0xF062 then 4 + inst
  else if ty = 0xF063 then 6 + inst
  else if ty = 0xF064 then 8 + inst
  else if ty = 0xF065 then 8 + 2 * inst
  else 12 + inst

/-- A field of the PORT_CFG that port `p` took at the last restart (14 R408). -/
def Chip.portCfg (u : Chip) (p : Nat) (f : Nat → Fld) : Nat :=
  (u.ports.getD p {}).cfg / 2 ^ (f (portPage p)).lo % 2 ^ (f (portPage p)).width

/-- The class of a port: 0 SAFE, 1 DATA, 2 MGMT, 3 SERVICE; the service port always reads 3 (01 R13, R15, Table 14.7). -/
def Chip.portClass (u : Chip) (p : Nat) : Nat := if p = 14 then 3 else u.portCfg p Reg.PORT_CFG.CLASS

/-- Whether a page belongs to the control plane: type 0xC0xx, or a port or protocol engine of class SAFE (01 R13). -/
def Chip.controlPage (u : Chip) (p : PageInfo) : Bool :=
  if p.ty / 256 = 0xC0 then true
  else if p.ty / 256 = 0xF0 then u.portClass (portOfPage p.ty p.inst) == 0
  else false

/-- The event source of a block (16 Table 16.5; 05 R179 for the Weir pages). -/
def pageSource (p : PageInfo) : Nat :=
  if p.ty = 0xC0F0 then 0 else if p.ty = 0xC0F1 then 1 else if p.ty = 0xC0F2 then 2
  else if p.ty = 0xC0F3 then 3 else if p.ty = 0xC0F4 then 4
  else if p.ty = 0xC002 then 16 + p.inst
  else if p.ty = 0xC003 then 22 else if p.ty = 0xC004 then 23 else if p.ty = 0xC005 then 24
  else if p.ty = 0xC006 then 25 else if p.ty = 0xC007 then 26 else if p.ty = 0xC00A then 27
  else if p.ty = 0xC001 then 28 else if p.ty = 0xC00B then 29 + p.inst
  else if p.ty = 0xC008 then 32 else if p.ty = 0xC009 then 33
  else if p.ty = 0xD020 then 64 else if p.ty = 0xD021 then 65 + p.inst
  else if p.ty = 0xE040 then 96 else if p.ty = 0xE045 then 101 else if p.ty = 0xE047 then 102
  else if p.ty = 0xE046 then 103 else if p.ty = 0xE042 then 104 else if p.ty = 0xE043 then 105
  else if p.ty = 0xE044 then 106 else if p.ty = 0xE041 then 107 else if p.ty = 0xE048 then 108
  else if p.ty = 0xE049 then 109 + p.inst else if p.ty = 0xE04A then 111
  else if p.ty = 0xF060 then 128 + p.inst else if p.ty = 0xF061 then 132 + p.inst
  else if p.ty = 0xF062 then 136 + p.inst else if p.ty = 0xF063 then 138 + p.inst
  else if p.ty = 0xF064 then 140 + p.inst else if p.ty = 0xF065 then 144 + p.inst
  else 146 + p.inst

/-- The event source of port number `p` (16 Table 16.5). -/
def portSource (p : Nat) : Nat :=
  if p < 4 then 128 + p else if p < 6 then 136 + (p - 4) else if p < 8 then 138 + (p - 6)
  else if p < 12 then 140 + (p - 8) else if p < 14 then 146 + (p - 12) else 111

/-! ### Register parts at an address -/

/-- The parts of the register at an address: header registers, then the rows of the register tables. -/
def regPieces (a : Nat) : List Piece :=
  if a % 0x1000 < 0x40 then
    -- BLK_CTRL, IRQ_*, BLK_PWR and BLK_ERRINJ of further pages mirror page 0 (Table 2.4); so do the block-wide fields of BLK_STAT
    -- (DESIGN CHOICE: log 52)
    let pg := if a % 0x1000 = 0x20 ∨ a % 0x1000 = 0x24 ∨ a % 0x1000 = 0x2C then pageOf a else page0 a
    Reg.headerPieces pg (a % 0x1000)
  else
    match Reg.regRows.find? (fun r => (r.index? a).isSome) with
    | none => []
    | some r =>
      match r.index? a with
      | some i => r.pieces i
      | none => []

/-- The value that the parts of a register add up to. -/
def Chip.readPieces (u : Chip) (l : List Piece) : Nat :=
  l.foldl (fun v p => v + bits (u.get p.fld) (p.fldLo + p.width - 1) p.fldLo * 2 ^ p.regLo) 0

/-- Every port takes its PORT_CFG: at a restart, when the loader has written it (14 R408). -/
def Chip.takePortCfg (u : Chip) : Chip :=
  { u with ports := (u.ports.zipIdx).map (fun e => { e.1 with cfg := u.readPieces (regPieces (portPage e.2 + 0x40)) }) }

/-- Stores one part of a register: the field's other bits stay. -/
def Chip.putPiece (u : Chip) (p : Piece) (v : Nat) : Chip :=
  let old := u.get p.fld
  u.put p.fld (old - bits old (p.fldLo + p.width - 1) p.fldLo * 2 ^ p.fldLo + v % 2 ^ p.width * 2 ^ p.fldLo)

/-- What lies at an address of Table 2.1. -/
inductive Region where
  | bootRom | plic | sram | mgmtSram | carafe | mirror | pages | weir | nor | ddr | none
  deriving DecidableEq, Repr

/-- The region of an address (02 R34, Table 2.1); an unallocated page counts as unlisted (R53). -/
def regionOf (a : Nat) : Region :=
  if a < 0x10000 then .bootRom
  else if 0x0C000000 ≤ a ∧ a < 0x10000000 then .plic
  else if 0x10000000 ≤ a ∧ a < 0x10800000 then .sram
  else if 0x20000000 ≤ a ∧ a < 0x20800000 then .mgmtSram
  else if 0x30000000 ≤ a ∧ a < 0x30040000 then .carafe
  else if (0x31000000 ≤ a ∧ a < 0x31011000) ∨ (0x31020000 ≤ a ∧ a < 0x31031000) then .mirror
  else if 0x40000000 ≤ a ∧ a < 0x50000000 then (if (pageInfo a).isSome then .pages else .none)
  else if 0x50000000 ≤ a ∧ a < 0x51000000 then .weir
  else if 0x60000000 ≤ a ∧ a < 0x70000000 then .nor
  else if 0x100000000 ≤ a ∧ a < 0x300000000 then .ddr
  else .none

end Sys2Proof.Machine
end

