-- ==== Sys2Proof/Machine/Flags.lean ====
section
/-!
DEFINITION. Interrupt latches, interrupt controllers, events and error flags: what every block does to report
something.
-/
namespace Sys2Proof.Machine

/-! ### Channel interrupt controllers (02 R57, R58) -/

/-- Makes source `n` pending in the controller of channel `c`. -/
def Chip.chanIrq (u : Chip) (c n : Nat) : Chip :=
  { u with cic := u.cic.set c { u.cic.get c with pend := (u.cic.get c).pend ||| 2 ^ n } }

/-- Makes source `n` pending in all three channels. -/
def Chip.chanIrqAll (u : Chip) (n : Nat) : Chip := ((u.chanIrq 0 n).chanIrq 1 n).chanIrq 2 n

/-- The safe-state line is asserted: the two-rail code for 1 (05 Table 5.1). -/
def Chip.lineOn (u : Chip) : Bool := u.weir.line.get 0

/-! ### Two-rail signals of Weir (05 R135) -/

/-- Weir drives the enable of output `n`; WR_EN shows it. -/
def Chip.enable (u : Chip) (n : Nat) (b : Bool) : Chip :=
  { u.putBit Reg.WR_EN.EN n b with weir := { u.weir with en := u.weir.en.put n b } }

/-- Weir clears every enable. -/
def Chip.enablesClear (u : Chip) : Chip := { u.put Reg.WR_EN.EN 0 with weir := { u.weir with en := Rails.low 32 } }

/-- The result of a vote check; WR_VC.PASS shows it. -/
def Chip.checkResult (u : Chip) (b : Bool) : Chip :=
  { u.put Reg.WR_VC.PASS (lvl b) with weir := { u.weir with pass := u.weir.pass.put 0 b } }

/-- Weir withdraws every permission. -/
def Chip.permsClear (u : Chip) : Chip := { u with lat := { u.lat with perm := Rails.low 2048, sperm := Rails.low 2048 } }

/-- Whether a safety signal of Weir shows the illegal code (R136). -/
def Chip.railFault (u : Chip) : Bool :=
  u.weir.en.illegal 32 || u.weir.pass.illegal 1 || u.weir.takeOut.illegal 3 || u.weir.line.illegal 1 ||
  u.lat.perm.illegal 2048 || u.lat.sperm.illegal 2048

/-- The channel interrupt source that bit `b` of the page at `pg` drives: Confluence 16 up (04), safe inputs 32 up (09),
Sluice 48 up (10), ZST engine 64 up (12), Percolator engines 104 up in their own channel (18). -/
def Chip.driveChannels (u : Chip) (pg b : Nat) : Chip :=
  if pg = 0x40300000 then u.chanIrqAll (16 + b)
  else if pg = 0x40400000 then u.chanIrqAll (32 + b)
  else if pg = 0x40500000 then u.chanIrqAll (48 + b)
  else if pg = 0x40600000 then u.chanIrqAll (64 + b)
  else if pg = 0x40B00000 then u.chanIrq 0 (104 + b)
  else if pg = 0x40B04000 then u.chanIrq 1 (104 + b)
  else if pg = 0x40B08000 then u.chanIrq 2 (104 + b)
  else u

/-! ### Page interrupts and the management interrupt controller (02 R42, R43, R54) -/

/-- BLK_STAT.ERR_ANY of a page: OR of BLK_ERR (Table 2.8). -/
def Chip.errAny (u : Chip) (pg : Nat) : Bool :=
  u.on (Reg.BLK_ERR.INJ_DONE pg) || u.on (Reg.BLK_ERR.REGPAR pg) || u.on (Reg.BLK_ERR.CRC_DRIFT pg) ||
  u.on (Reg.BLK_ERR.PLANE pg) || u.on (Reg.BLK_ERR.ACCESS pg) || u.on (Reg.BLK_ERR.LOCK_VIOL pg)

/-- BLK_ERR of any page of the block whose page 0 is `pg`. -/
def Chip.errAnyBlock (u : Chip) (pg : Nat) : Bool :=
  match pageInfo pg with
  | some p => (List.range p.npages).any (fun k => u.errAny (pg + k * 0x1000))
  | none => u.errAny pg

/-- IRQ_RAW of a block: the latches, and bit 31 which follows ERR_ANY (R43). -/
def Chip.irqRaw (u : Chip) (pg : Nat) : Nat := u.get (Reg.IRQ.RAW pg) + lvl (u.errAnyBlock pg) * 2 ^ 31

/-- IRQ_PEND of a block: IRQ_RAW AND IRQ_MASK (R42). -/
def Chip.irqPend (u : Chip) (pg : Nat) : Nat := u.irqRaw pg &&& u.get (Reg.IRQ_MASK.MASK pg)

/-- Pages whose interrupt line is one management interrupt ID: the OR of IRQ_PEND (Table 2.14; 15; 22; log 7 for the
first ID of a port's pair, and for those of the I2C target, LPDDR4X, eMMC, xSPI and management SRAM). -/
def orLines : List (Nat × Nat) :=
  [(9, 0x44800000), (17, 0x44200000), (21, 0x44300000), (25, 0x44400000), (29, 0x44100000), (49, 0x42000000)] ++ (List.range 8).map (fun k => (50 + k, 0x42100000 + k * 0x4000)) ++
  (List.range 4).map (fun k => (73 + 2 * k, pageAddr 0xF060 k 0)) ++ (List.range 4).map (fun k => (81 + 2 * k, pageAddr 0xF061 k 0)) ++
  (List.range 2).map (fun k => (89 + 2 * k, pageAddr 0xF062 k 0)) ++ (List.range 2).map (fun k => (93 + 2 * k, pageAddr 0xF063 k 0)) ++
  (List.range 4).map (fun k => (97 + 2 * k, pageAddr 0xF064 k 0)) ++ (List.range 2).map (fun k => (105 + 2 * k, pageAddr 0xF065 k 0)) ++
  (List.range 2).map (fun k => (109 + 2 * k, pageAddr 0xF066 k 0)) ++
  [(121, 0x44900000), (122, 0x44904000), (123, 0x44A00000),
   (137, 0x40100000), (138, 0x40200000), (139, 0x40204000), (140, 0x40208000), (141, 0x40300000), (142, 0x40400000),
   (143, 0x40500000), (144, 0x40600000), (145, 0x40700000), (146, 0x40800000), (147, 0x40900000), (148, 0x40A00000),
   (149, 0x40B00000), (150, 0x40B04000), (151, 0x40B08000)]

/-- Pages whose IRQ_PEND bits are one management interrupt ID each: first ID, page, bits. -/
def bitLines : List (Nat × Nat × Nat) :=
  [(5, 0x44700000, 4), (33, 0x44500000, 7), (41, 0x44600000, 5), (169, 0x40A00000, 5), (177, 0x50000000, 8)]

/-- The level of the line of a management interrupt ID. -/
def Chip.mgmtLine (u : Chip) (id : Nat) : Bool :=
  match bitLines.find? (fun e => decide (e.1 ≤ id ∧ id < e.1 + e.2.2)) with
  | some e => (u.irqPend e.2.1).testBit (id - e.1)
  | none =>
    match orLines.find? (fun e => e.1 == id) with
    | some e => u.irqPend e.2 != 0
    | none => false

/-- The management interrupt IDs that a page drives. -/
def mgmtIds (pg : Nat) : List Nat :=
  (bitLines.filter (fun e => e.2.1 == pg)).flatMap (fun e => (List.range e.2.2).map (fun k => e.1 + k)) ++
  (orLines.filter (fun e => e.2 == pg)).map (·.1)

/-- The gateway of an ID forwards its line while no request of it is in service (02 R54, the PLIC specification). -/
def Chip.plicGate (u : Chip) (id : Nat) : Chip :=
  if u.mgmtLine id && !u.plic.busy.testBit id then { u with plic := { u.plic with pend := u.plic.pend ||| 2 ^ id } } else u

/-- Passes the interrupt lines of a page on to the management interrupt controller. -/
def Chip.refreshLines (u : Chip) (pg : Nat) : Chip := (mgmtIds pg).foldl Chip.plicGate u

/-- Latches interrupt cause `b` of the block whose page 0 is `pg` (R42), and drives its lines. -/
def Chip.irq (u : Chip) (pg b : Nat) : Chip :=
  ((u.setBit (Reg.IRQ.RAW pg) b).driveChannels pg b).refreshLines pg

/-! ### Weir time -/

/-- Weir time as 64 bits (05 R152). -/
def Chip.weirTime (u : Chip) : Nat := u.weir.time % 2 ^ 64

/-- ROLE as latched (05 Table 5.3). -/
def Chip.role (u : Chip) : Nat := bits (u.get Reg.WR_SEAL.LATCHED) 1 0

/-- `n` WDN ticks pass (05 R152, R154): each adds RATE to the accumulator, and Weir time advances by one tick more for each positive
overflow, by one less for each negative one. -/
def Chip.advance (u : Chip) (n : Nat) : Chip :=
  let a := u.weir.acc + n * signed 24 (u.get Reg.WR_RATE.RATE)
  { u with
    now := u.now + n
    weir := if u.weir.off then u.weir else { u.weir with time := (u.weir.time + n + a / 1000000000).toNat, acc := a % 1000000000 } }

/-- Moves on to the first tick at which Weir time reaches or passes `t`, if it is not past. -/
def Chip.untilWeir (u : Chip) (t : Nat) : Chip :=
  let d := 1000000000 * ((t : Int) - u.weir.time) - u.weir.acc
  let r := 1000000000 + signed 24 (u.get Reg.WR_RATE.RATE)
  if t ≤ u.weir.time ∨ u.weir.off then u else u.advance ((d + r - 1) / r).toNat

/-- Moves on to an elapsed instant, if it is not past (log 2). -/
def Chip.until (u : Chip) (t : Nat) : Chip := u.advance (t - u.now)

/-! ### Event intake (16 R480 to R483; 01 R20) -/

/-- Whether a source's staging register holds an event. -/
def Chip.staged (u : Chip) (src : Nat) : Bool := u.intake.staged.any (fun e => e.src == src)

/-- Sources of Table 16.5; every other source is never staged. -/
def sourceListed (s : Nat) : Bool :=
  decide (s ≤ 4 ∨ (16 ≤ s ∧ s ≤ 33) ∨ (64 ≤ s ∧ s ≤ 72) ∨ (96 ≤ s ∧ s ≤ 111) ∨ (128 ≤ s ∧ s ≤ 147))

/-- INT_STAT.FULL: staging registers full now, saturating. -/
def Chip.countStaged (u : Chip) : Chip := u.put Reg.INT_STAT.FULL (min u.intake.staged.length 255)

/-- Counts a lost event of a source (R483): INT_LOST, INT_LOSTSUM, the pending count and the stamp of its first loss;
latches event intake's LOST bit. -/
def Chip.eventLost (u : Chip) (src stamp : Nat) : Chip :=
  let u := (u.satInc (Reg.INT_LOST.COUNT src)).satInc Reg.INT_LOSTSUM.COUNT
  let l := u.intake.lost
  let l' := if l.any (fun p => p.src == src) then l.map (fun p => if p.src = src then { p with count := p.count + 1 } else p)
            else l ++ [⟨src, 1, stamp⟩]
  ({ u with intake := { u.intake with lost := l' } }).irq 0x40900000 0

/-- An event waits until the merge unit has taken the one before of its source. -/
def Chip.stageLater (u : Chip) (e : Ev) : Chip := { u with intake := { u.intake with later := u.intake.later ++ [e] } }

/-- Stages an event, or counts it as lost where the source's staging register is full (R20, R483). -/
def Chip.stage (u : Chip) (e : Ev) : Chip :=
  if !sourceListed e.src then u
  else if u.staged e.src then u.eventLost e.src e.stamp
  else ({ u with intake := { u.intake with staged := u.intake.staged ++ [e] } }).countStaged

/-- A hardware source raises an event at this instant (R480). -/
def Chip.raise (u : Chip) (src code : Nat) (data : List Nat) : Chip := u.stage { src := src, code := code, data := data, stamp := u.weirTime, inj := false }

/-- An event with the Weir time of a sample decided earlier (10 R337); like `raiseAfter` it may follow another of its source. -/
def Chip.raiseSince (u : Chip) (src code : Nat) (data : List Nat) (stamp : Nat) : Chip :=
  let e : Ev := { src := src, code := code, data := data, stamp := stamp, inj := false }
  if u.staged src && u.intake.stallSince.isNone then u.stageLater e else u.stage e

/-- An event that follows another of its source in one and the same command. The merge unit empties a staging register every FAB
cycle (R481), so the register is free again when the second event comes, unless the recorder refuses (R482): the event waits and
is not lost. DEDUCED: log 56. -/
def Chip.raiseAfter (u : Chip) (src code : Nat) (data : List Nat) : Chip :=
  u.raiseSince src code data u.weirTime

/-- Firmware raises an event (R480). Its accesses take longer than the merge unit needs for one event, so it raises an event
only once the one before has left staging, unless the recorder refuses (R482). DEDUCED: log 29. -/
def Chip.fwRaise (u : Chip) (src code : Nat) (data : List Nat) : Chip := u.raiseAfter src code data

/-- Raises an event that comes from an injected error (02 R52). -/
def Chip.raiseInj (u : Chip) (src code : Nat) (data : List Nat) : Chip := u.stage { src := src, code := code, data := data, stamp := u.weirTime, inj := true }

/-- Event `bit + 1` of a block that numbers its codes in IRQ_RAW order: latch and event together. -/
def Chip.irqRaise (u : Chip) (pg src bit : Nat) (data : List Nat) : Chip := (u.irq pg bit).raise src (bit + 1) data

/-- The same where an event of the source may have come before it in the command (log 56). -/
def Chip.irqAfter (u : Chip) (pg src bit : Nat) (data : List Nat) : Chip := (u.irq pg bit).raiseAfter src (bit + 1) data

/-! ### Register-level errors (02 Table 2.11) -/

/-- Error response to an access. -/
def Chip.refuse (u : Chip) : Chip := u.answer .error

/-- PLANE: a write rejected under R38, with PLANE_REFUSED (R639): page, requester, address. -/
def Chip.planeRefused (u : Chip) (req a : Nat) : Chip :=
  match pageInfo a with
  | some p => ((((u.put (Reg.BLK_ERR.PLANE (pageOf a)) 1).refreshLines p.base0).raise (pageSource p) 0xF2 [pageOf a, req, a])).refuse
  | none => (u.raise 4 0xF2 [pageOf a, req, a]).refuse

end Sys2Proof.Machine
end

