-- ==== Sys2Proof/Machine/Fault.lean ====
section
/-!
DEFINITION. Fault classes and codes (21 R577, R580), the counters and events of Table 21.8 and 21.9, and the fault capture
(R581).
-/
namespace Sys2Proof.Machine

/-- The value of the register at an address. -/
def Chip.regRead (u : Chip) (a : Nat) : Nat := u.readPieces (regPieces a)

/-- The event FAULT of every fault other than the first safe-state cause (Table 21.9). -/
def Chip.faultEvent (u : Chip) (fcode cls : Nat) : Chip :=
  (u.put Reg.FLT_STAT.LAST_CLASS cls).raiseAfter 26 0x05 [fcode, cls]

/-- A fault of class TRANSIENT_RECOVERED. -/
def Chip.transientFault (u : Chip) (fcode : Nat) : Chip := u.faultEvent fcode 0

/-- A fault of class CHANNEL_LOST: channel `c`, cause `k` of Table 3.9 (FCODE 0x2c0k). -/
def Chip.channelLostFault (u : Chip) (c k : Nat) : Chip :=
  (u.satInc Reg.FLT_CNT.CH_LOST).faultEvent (0x2000 + c * 0x100 + k) 1

/-- A fault of class NONSAFETY. -/
def Chip.nonsafetyFault (u : Chip) (fcode : Nat) : Chip := (u.satInc Reg.FLT_CNT.NONSAFETY).faultEvent fcode 3

/-- PFAIL and SUPPLY rank after every other cause of the same tick, which rank by FCODE (R581). -/
def faultRank (fcode : Nat) : Nat := if fcode = 0x1006 ∨ fcode = 0x1007 then fcode + 0x10000 else fcode

/-- A cause of the safe state: the first one is latched with the mirror cycle; one found in the same tick that ranks
before it takes its place; a later one is counted and recorded as an event (R581). -/
def Chip.captureCause (u : Chip) (fcode : Nat) : Chip :=
  let u := u.satInc Reg.FLT_CNT.UNIT_SAFE
  let latch := fun (u : Chip) =>
    ({ u with flt := { u.flt with firstAt := some u.weirTime } }.put Reg.FLT_FIRST.FCODE fcode).put Reg.FLT_CYCLE.VAL (u.get Reg.MIR_CYCLE.COUNT)
  match u.flt.firstAt with
  | none => (latch u).put Reg.FLT_STAT.LAST_CLASS 2
  | some t =>
    if t = u.weirTime ∧ faultRank fcode < faultRank (u.get Reg.FLT_FIRST.FCODE) then
      (latch u).faultEvent (u.get Reg.FLT_FIRST.FCODE) 2
    else u.faultEvent fcode 2

/-- The registers that FLT_CAP copies, in order (Table 21.7). -/
def capSources : List Nat := [0x50000040, 0x40300044, 0x40300054, 0x40200040, 0x40204040, 0x40208040,
  0x40200068, 0x40204068, 0x40208068, 0x50003040, 0x50004064, 0x4050004C]

/-- The tick of Weir's entry: FLT_FTIME and FLT_CAP, VALID and HELD set, CAPTURED cleared, UNIT_SAFE (R581). -/
def Chip.captureEntry (u : Chip) : Chip :=
  let copies := capSources.map u.regRead
  let u := foldUpTo 12 u (fun u k => u.put (Reg.FLT_CAP.VAL k) (copies.getD k 0))
  let u := (((u.put Reg.FLT_FTIME.VAL u.weirTime).put Reg.FLT_STAT.VALID 1).put Reg.FLT_STAT.HELD 1).put Reg.FLT_STAT.CAPTURED 0
  let u := { u with flt := { u.flt with entryAt := some u.weirTime } }
  u.raiseAfter 26 0x02 [u.get Reg.FLT_FIRST.FCODE, copies.getD 0 0, copies.getD 1 0, copies.getD 2 0, u.get Reg.FLT_CYCLE.VAL]

/-- CAPTURED is set when the FAULT flush completes (R581). -/
def Chip.captureFlushed (u : Chip) : Chip :=
  match u.flt.entryAt with
  | some _ => ({ u with flt := { u.flt with entryAt := none } }).put Reg.FLT_STAT.CAPTURED 1
  | none => u

/-- CAPTURE_TIMEOUT (R581): 1 s after entry CAPTURED is set, if the FAULT flush has not completed. -/
def execCaptureTimeout (s : State) : Host.Outcome State Fault Refusal :=
  match s.chip.flt.entryAt with
  | some t => s.become ((s.chip.untilWeir (t + sec 1)).captureFlushed)
  | none => s.become s.chip

end Sys2Proof.Machine
end

