-- ==== Sys2Proof/Machine/Fabric.lean ====
section
/-!
DEFINITION. The shared fabric (chapter 16): routing, outstanding limits, reserved slots, weighted round robin with aging,
hung targets.
-/
namespace Sys2Proof.Machine

/-- Page 0 of the shared fabric arbiter. -/
def arbPage : Nat := 0x40A00000

/-- Outstanding limit of a requester (Table 16.1). -/
def outLimit (req : Nat) : Nat := if 3 ≤ req ∧ req ≤ 6 then 20 else 8

/-- Queue depth Q of a target (Table 16.2). -/
def queueDepth (t : Nat) : Nat := if t = 0 then 16 else if t = 4 then 4 else 8

/-- The requesters that a target serves (Table 16.2). -/
def reaches (t req : Nat) : Bool :=
  if t = 0 ∨ t = 4 then decide (3 ≤ req ∧ req ≤ 7)
  else if t = 1 then decide (3 ≤ req ∧ req ≤ 8)
  else if t = 2 then decide (3 ≤ req ∧ req ≤ 6)
  else if t = 3 then decide (req ≤ 6)
  else if t = 5 then decide (req ≤ 7)
  else req == 9

/-- The number N_t of non-channel requesters of a target (Table 16.4). -/
def reachCount (t : Nat) : Nat := if t = 1 then 6 else if t = 2 ∨ t = 3 then 4 else if t = 6 then 1 else 5

/-- Whether an address lies in the STANDBY window (06 R217). -/
def standbyWindow (a : Nat) : Bool := decide (0x50400000 ≤ a ∧ a < 0x50800000)

/-- The target that serves an address (Table 16.2): none where the shared fabric does not carry it. -/
def fabricTarget (req a : Nat) : Option Nat :=
  match regionOf a with
  | .ddr => some 0
  | .weir => some 5
  | .mirror => some 4
  | .mgmtSram => if req = 9 then some 6 else none
  | .pages =>
    if pageOf a = 0x40901000 then some 3
    else match pageInfo a with
      | some p => if p.ty = 0xE043 then some 1 else if p.ty / 256 = 0xD0 then some 2 else none
      | none => none
  | _ => none

/-- What the arbiter holds for a target. -/
def Chip.target (u : Chip) (t : Nat) : FabTarget := u.fab.targets.getD t {}

/-- Changes what the arbiter holds for a target. -/
def Chip.modTarget (u : Chip) (t : Nat) (g : FabTarget → FabTarget) : Chip :=
  { u with fab := { u.fab with targets := modAt u.fab.targets t g } }

/-- Outstanding transactions of a requester. -/
def Chip.outOf (u : Chip) (req : Nat) : Nat := u.fab.out.getD req 0

/-- ARB_OUT follows the sum of the outstanding counts. -/
def Chip.countOut (u : Chip) : Chip :=
  let n := u.fab.out.foldl (· + ·) 0
  (u.put Reg.ARB_OUT.NOW n).highWater Reg.ARB_OUT.HWM n

/-- Changes the outstanding count of a requester. -/
def Chip.modOutstanding (u : Chip) (req : Nat) (g : Nat → Nat) : Chip :=
  ({ u with fab := { u.fab with out := modAt u.fab.out req g } }).countOut

/-- An error cause `b` of Table 16.9: ARB_ERR, address and information, interrupt, event, and for a channel its interrupt
source 112 + b (R478, Table 16.8). -/
def Chip.arbError (u : Chip) (b req tgt a : Nat) : Chip :=
  let u := ((((u.setBit Reg.ARB_ERR.CAUSE b).put Reg.ARB_ERR_ADDR.ADDR a).put Reg.ARB_ERR_INFO.TGT tgt).put
    Reg.ARB_ERR_INFO.CAUSE b).put Reg.ARB_ERR_INFO.REQ req
  let u := (u.irq arbPage b).raise 27 (b + 1) [req, tgt, a]
  if req < 3 then u.chanIrq req (112 + b) else u

/-- ARB_UNMAPPED with an error response (R34). -/
def Chip.unmapped (u : Chip) (req a : Nat) : Chip := (u.arbError 0 req 15 a).refuse

/-- ARB_DENIED with an error response (R34, R465). -/
def Chip.denied (u : Chip) (req tgt a : Nat) : Chip := (u.arbError 1 req tgt a).refuse

/-- Whether the columns of Table 2.1 let a requester use an address that the shared fabric does not carry. -/
def permitted (req a : Nat) (wr : Bool) : Bool :=
  let core := decide (3 ≤ req ∧ req ≤ 6)
  match regionOf a with
  | .bootRom => !wr && decide (req ≤ 6)
  | .plic => core
  | .sram => decide (req < 3)
  | .mgmtSram => core
  | .carafe => !wr && core
  | .mirror => !wr && core
  | .nor => !wr && core
  | .pages => decide (3 ≤ req)
  | _ => false

/-- Writes that event intake page 1 takes: INT_ASM and INT_RAISE from requesters 0 to 6 (R480). -/
def intakeWrite (req a : Nat) : Bool := decide (req ≤ 6 ∧ ((0x40901040 ≤ a ∧ a ≤ 0x40901068 ∧ a % 4 = 0) ∨ a = 0x40901070))

/-- Whether a write to a page of the control plane breaks 02 R38. -/
def pageBarred (u : Chip) (req a : Nat) : Bool :=
  match pageInfo a with
  | some p => u.controlPage p && req != 7
  | none => false

/-- FABRIC_REQUEST (R465, R466): requester, address, write. -/
def execFabricRequest (req a : Nat) (wr : Bool) (s : State) : Host.Outcome State Fault Refusal :=
  let u := s.chip
  if 9 < req ∨ outLimit req ≤ u.outOf req then s.become u
  else if regionOf a = .none then s.become (u.unmapped req a)
  else match fabricTarget req a with
    | none =>
      if wr ∧ pageBarred u req a = true then s.become (u.planeRefused req a)
      else if req < 3 then s.become (u.denied req 15 a)
      else s.become (if permitted req a wr then u.answer .ok else u.denied req 15 a)
    | some t =>
      if !reaches t req then s.become (u.denied req t a)
      else if t = 5 ∧ ((standbyWindow a ∨ wr) ∧ req ≠ 7) then s.become (u.planeRefused req a)
      else if t = 3 ∧ wr ∧ intakeWrite req a = false then s.become (u.planeRefused req a)
      else if t = 4 ∧ wr then s.become (u.denied req t a)
      else if (u.target t).hung then s.become (u.arbError 2 req t a).refuse
      else s.become ((u.modTarget t (fun g => { g with waiting := g.waiting ++ [⟨req, a, wr, 0, 0⟩] })).modOutstanding req (· + 1))

/-- The oldest waiting request of each requester: only those take part in a decision. -/
def FabTarget.heads (g : FabTarget) : List FabReq :=
  g.waiting.foldl (fun l r => if l.any (fun x => x.req == r.req) then l else l ++ [r]) []

/-- Removes the first waiting request of a requester. -/
def dropFirst (req : Nat) : List FabReq → List FabReq
  | [] => []
  | r :: t => if r.req = req then t else r :: dropFirst req t

/-- The channel whose reserved slot a slot number is (R468). -/
def slotChannel (t slot : Nat) : Option Nat :=
  if t = 3 ∨ t = 5 then (if slot = 0 then some 0 else if slot = 5 then some 1 else if slot = 10 then some 2 else none) else none

/-- Grants the first waiting request of a requester: it takes a queue entry. -/
def Chip.grant (u : Chip) (t req : Nat) : Chip :=
  u.modTarget t (fun g =>
    match g.waiting.find? (fun r => r.req == req) with
    | some r => { g with waiting := dropFirst req g.waiting, queue := g.queue ++ [{ r with granted := u.now }] }
    | none => g)

/-- The credits, weights and aging limit after a credit reload (R471, R474). -/
def Chip.reload (u : Chip) (t : Nat) (g : FabTarget) : FabTarget :=
  let w := (List.range 7).map (fun j => u.get (Reg.ARB_WT.W t j))
  { g with credits := w, weights := w, ageLim := u.get (Reg.ARB_TCFG.AGE_LIM t) }

/-- The non-channel requesters with a waiting request. -/
def FabTarget.pendingIds (g : FabTarget) : List Nat := (List.range 7).filter (fun j => g.waiting.any (fun r => r.req == j + 3))

/-- The candidate set of R471, by ID minus 3; empty where every credit has to be reloaded. -/
def FabTarget.candidates (g : FabTarget) : List Nat :=
  let aged := g.pendingIds.filter (fun j => decide (g.ageLim ≤ g.ages.getD j 0))
  if aged = [] then g.pendingIds.filter (fun j => decide (0 < g.credits.getD j 0)) else aged

/-- The first candidate at or after the pointer, wrapping from 9 to 3 (R471); a pointer below 3 starts at 3 (R472). -/
def firstFrom (pointer : Nat) (l : List Nat) : Option Nat :=
  match l.find? (fun j => decide (pointer ≤ j + 3)) with
  | some j => some j
  | none => l.head?

/-- One decision of the weighted round robin (R471). -/
def Chip.roundRobin (u : Chip) (t : Nat) : Chip :=
  let g0 := u.target t
  let g := if g0.candidates = [] then u.reload t g0 else g0
  match firstFrom g.pointer g.candidates with
  | none => u
  | some j =>
    let losers := g.pendingIds.filter (fun k => k != j)
    let g := { g with
      pointer := if j = 6 then 3 else j + 4
      credits := modAt g.credits j (· - 1)
      ages := losers.foldl (fun l k => modAt l k (fun a => min (a + 1) 1023)) (modAt g.ages j (fun _ => 0)) }
    let lost := g.heads.filter (fun r => decide (3 ≤ r.req) && r.req != j + 3)
    let waited := g.waiting.map (fun r => if lost.contains r then { r with waits := r.waits + 1 } else r)
    let starved := lost.filter (fun r => decide (r.waits + 1 = g.ageLim + reachCount t))
    let longest := lost.foldl (fun m r => max m (r.waits + 1)) 0
    let u := (u.modTarget t (fun _ => { g with waiting := waited })).highWater (Reg.ARB_LAT.MAX t) longest
    let u := starved.foldl (fun u r => (u.arbError 3 r.req t r.addr).nonsafetyFault 0x6005) u
    u.grant t (j + 3)

/-- ARBITRATION_DECISION (R468 to R472): one FAB cycle of a target, in slot 0 to 15 of its frame. A channel takes its
reserved slot and its own queue entry; otherwise a free entry of the queue goes to the weighted round robin. -/
def execArbitrationDecision (t slot : Nat) (s : State) : Host.Outcome State Fault Refusal :=
  let u := s.chip
  let g := u.target t
  if 6 < t ∨ g.hung then s.become u
  else
    let reserved := match slotChannel t slot with
      | some c => if g.waiting.any (fun r => r.req == c) && !g.queue.any (fun r => r.req == c) then some c else none
      | none => none
    match reserved with
    | some c => s.become (u.grant t c)
    | none =>
      if (g.queue.filter (fun r => decide (3 ≤ r.req))).length < queueDepth t ∧ g.pendingIds ≠ [] then s.become (u.roundRobin t)
      else s.become u

/-- FABRIC_RESPONSE (R475): a target returns the response of its oldest transaction; the queue entry and the outstanding
entry are free. -/
def execFabricResponse (t : Nat) (s : State) : Host.Outcome State Fault Refusal :=
  let u := s.chip
  match (u.target t).queue with
  | [] => s.become u
  | r :: rest => s.become (((u.modTarget t (fun g => { g with queue := rest })).modOutstanding r.req (· - 1)).answer .ok)

/-- ARB_HUNG (R477): 100 µs after a grant without a response the target is hung: an error response for each request that
it holds. A fault of class NONSAFETY where none of them is a channel's (Table 21.2). -/
def execArbHung (t : Nat) (s : State) : Host.Outcome State Fault Refusal :=
  let u := s.chip
  match (u.target t).queue with
  | [] => s.become u
  | r :: rest =>
    let held := r :: rest
    let u := u.until (r.granted + us 100)
    let u := u.modTarget t (fun g => { g with queue := [], hung := true })
    let u := held.foldl (fun u x => (u.modOutstanding x.req (· - 1))) u
    let u := (u.arbError 2 r.req t r.addr).refuse
    let u := (rest.filter (fun x => decide (x.req < 3))).foldl (fun u x => u.chanIrq x.req 114) u
    s.become (if held.any (fun x => decide (x.req < 3)) then u else u.nonsafetyFault 0x6004)

/-- Pointers, credits and ages after a reset or a SOFT_RESET of the arbiter page (R472). -/
def Chip.fabricRewind (u : Chip) : Chip :=
  foldUpTo 7 u (fun u t => u.modTarget t (fun g => { (u.reload t g) with ages := List.replicate 7 0, pointer := 0 }))

/-- Reset of the shared fabric: nothing outstanding (22 Table 22.3). -/
def Chip.fabricReset (u : Chip) : Chip := (({ u with fab := {} }).countOut).fabricRewind

/-- R485: an aging limit outside 16 to 1,023 or a weight 0. -/
def Chip.rejectsR485 (u : Chip) : Bool :=
  (List.range 7).any (fun t => decide (u.get (Reg.ARB_TCFG.AGE_LIM t) < 16) ||
    (List.range 7).any (fun j => u.get (Reg.ARB_WT.W t j) == 0))

end Sys2Proof.Machine
end

