-- ==== Sys2Proof/Machine/Recorder.lean ====
section
/-!
DEFINITION. The event recorder (chapter 17): the Carafe, flushes to Eddy and Headwater, freeze, Spillway, reading the log,
clearing Eddy.
-/
namespace Sys2Proof.Machine

/-- Page 0 of the recorder. -/
def evrPage : Nat := 0x44500000

/-- The recorder's state (Table 17.3). -/
def Chip.evrState (u : Chip) : Nat := u.get Reg.EVR_STAT.STATE

/-! ### Record layout (Table 17.1) -/

/-- The 40 DATA bytes of an event. -/
def Ev.dataBytes (e : Ev) : List Byte :=
  if e.raw then e.data.flatMap (leBytes 4) else (List.range 40).map (Config.dataByte e.src e.code e.data)

/-- Bytes 0x00 to 0x3B of a record; SEQ and PCC read 0 until a flush takes the record (R489). -/
def Rec.body (r : Rec) : List Byte :=
  leBytes 8 r.time ++ leBytes 4 (if r.taken then r.pcc else 0) ++ leBytes 1 r.ev.src ++
  leBytes 1 (r.tsrc * 64 + (if r.ev.inj then 32 else 0)) ++ leBytes 2 r.ev.code ++ r.ev.dataBytes ++
  leBytes 4 (if r.taken then r.seq else 0)

/-- The CRC field of a taken record. -/
def Rec.crc (r : Rec) : Nat := crcOf crc32c r.body

/-- The 64 bytes of a record. -/
def Rec.bytes (r : Rec) : List Byte := r.body ++ leBytes 4 (if r.taken then r.crc else 0)

/-- The bytes of a Carafe slot; a slot never written reads 0 (log 5). -/
def Chip.carafeSlot (u : Chip) (i : Nat) : List Byte :=
  match u.evr.carafe.find? (fun e => e.1 == i) with
  | some e => e.2.bytes
  | none => List.replicate 64 0

/-! ### Records enter the Carafe (R487, R491) -/

/-- A trigger of Table 17.2; `fault` where it is the safe-state line, whose flush sets CAPTURED (21 R581). It acts in RUN; during a flush, in FROZEN and in SPILL it is held (R492, R499). -/
def Chip.evrTrigger (u : Chip) (fault : Bool) : Chip :=
  if u.evrState = 2 ∨ u.evrState = 3 ∨ u.evrState = 4 then
    { u with evr := { u.evr with trig := true, trigFault := u.evr.trigFault || fault } }
  else u

/-- Puts an event into the next slot with its TIME; counts it, and notes PEND = 2,048. -/
def Chip.evrStore (u : Chip) (e : Ev) : Chip :=
  let head := u.get Reg.EVR_CF.HEAD
  let pend := u.get Reg.EVR_CF.PEND
  if 4096 ≤ pend then u.eventLost e.src e.stamp
  else
    let r : Rec := { ev := e, time := (e.stamp * 10 + u.get Reg.EVR_CALOFF.VAL) % 2 ^ 64, tsrc := u.get Reg.EVR_STAT.TSRC }
    let v := u.evr
    let sp := v.spill.map (fun p => if p.closed then p else { p with entered := p.entered + 1, closed := decide (4096 ≤ p.entered + 1) })
    let u := { u with evr := { v with carafe := assocPut v.carafe ((head + pend) % 4096) r, spill := sp, half := v.half || (pend + 1 == 2048) } }
    u.put Reg.EVR_CF.PEND (pend + 1)

/-- Whether a source triggers a FAULT flush (EVR_URG). -/
def Chip.evrUrgent (u : Chip) (src : Nat) : Bool := (u.get (Reg.EVR_URG.MASK (src / 32))).testBit (src % 32)

/-- An event takes a slot; an urgent source triggers a flush (Table 17.2). -/
def Chip.evrPlace (u : Chip) (e : Ev) : Chip := if u.evrUrgent e.src then (u.evrStore e).evrTrigger false else u.evrStore e

/-- The freeze lifts without a command (R500): reason 1 fill, 2 safe state, 3 Spillway. -/
def Chip.evrLift (u : Chip) (reason : Nat) : Chip :=
  if u.evrState = 3 then
    let d := (u.now - u.evr.frozenAt.getD u.now) / 100
    let u := ({ u with evr := { u.evr with frozenAt := none } }).put Reg.EVR_STAT.STATE 2
    let e : Ev := { src := 101, code := 0x04, data := [reason, d, u.get Reg.EVR_CF.PEND], stamp := u.weirTime, inj := false }
    (u.evrPlace e).irq evrPage 2
  else u

/-- Record entry with what follows from it: the freeze lifts at 3,687 pending records (R500). -/
def Chip.evrEnter (u : Chip) (e : Ev) : Chip :=
  let t := u.evrPlace e
  if u.get Reg.EVR_CF.PEND < 3687 ∧ t.get Reg.EVR_CF.PEND = 3687 then t.evrLift 1 else t

/-- A record of the recorder's own, source 101 (Table 17.6). -/
def Chip.evrOwn (u : Chip) (code : Nat) (data : List Nat) : Chip :=
  u.evrEnter { src := 101, code := code, data := data, stamp := u.weirTime, inj := false }

/-- The safe-state line is asserted (Table 17.2, R500). -/
def Chip.evrSafeLine (u : Chip) : Chip := (u.evrLift 2).evrTrigger true

/-- The write port refuses records (R491, R501). -/
def Chip.evrRefuses (u : Chip) : Bool :=
  decide (4096 ≤ u.get Reg.EVR_CF.PEND) || u.evr.macroHeld ||
  (match u.evr.spill with
   | some p => p.closed
   | none => false)

/-- RECORD_ENTRY (R491): the event at the write port enters the Carafe. -/
def execRecordEntry (s : State) : Host.Outcome State Fault Refusal :=
  let u := s.chip
  match u.evr.port with
  | some e => s.become (if u.evrRefuses then u else ({ u with evr := { u.evr with port := none } }).evrEnter e)
  | none => s.become u

/-! ### Calendar time (R487) -/

/-- TSRC for what the recorder has seen since POR. -/
def Chip.evrSource (u : Chip) : Nat := if u.evr.locked then 0 else if u.evr.everLocked then 1 else if u.evr.calSet then 2 else 3

/-- TSRC takes its value; a change writes TIME_SOURCE. -/
def Chip.evrUpdateSource (u : Chip) : Chip :=
  let old := u.get Reg.EVR_STAT.TSRC
  let new := u.evrSource
  if old = new then u else (u.put Reg.EVR_STAT.TSRC new).evrOwn 0x0A [old, new, u.get Reg.EVR_CALOFF.VAL]

/-- A time measurement with TM_STAT.LOCKED = 1: TM_OFF is copied into CALOFF. -/
def Chip.evrMeasured (u : Chip) : Chip :=
  let u := { u with evr := { u.evr with locked := true, everLocked := true } }
  (u.put Reg.EVR_CALOFF.VAL (u.get Reg.TM_OFF.OFF)).evrUpdateSource

/-- TM_STAT.LOCKED has cleared. -/
def Chip.evrUnlocked (u : Chip) : Chip := ({ u with evr := { u.evr with locked := false } }).evrUpdateSource

/-- EVR_CALSET has been written: with no lock since POR, CALOFF takes its value. -/
def Chip.evrCalSet (u : Chip) : Chip :=
  let u := { u with evr := { u.evr with calSet := true } }
  if u.evr.everLocked then u else (u.put Reg.EVR_CALOFF.VAL (u.get Reg.EVR_CALSET.VAL)).evrUpdateSource

/-! ### The log on eMMC (R495 to R497) -/

/-- The log region in use. -/
def Chip.log (u : Chip) : EmmcLog := assoc u.evr.logs u.evr.lba {}

/-- Changes the log region in use. -/
def Chip.modLog (u : Chip) (g : EmmcLog → EmmcLog) : Chip :=
  { u with evr := { u.evr with logs := assocPut u.evr.logs u.evr.lba (g u.log) } }

/-- The valid superblock with the higher GEN (R496). -/
def EmmcLog.best (l : EmmcLog) : Option Superblock :=
  match l.sb0, l.sb1 with
  | none, b => b
  | a, none => a
  | some a, some b => some (if a.gen < b.gen then b else a)

/-- Writes a superblock copy: the one with the lower GEN gets the higher GEN + 1; an invalid copy counts as lower. -/
def EmmcLog.writeSb (l : EmmcLog) (s : Superblock) : EmmcLog :=
  let g := match l.best with
    | some b => b.gen + 1
    | none => 1
  let over0 := match l.sb0, l.sb1 with
    | none, _ => true
    | some _, none => false
    | some a, some b => decide (a.gen ≤ b.gen)
  if over0 then { l with sb0 := some { s with gen := g } } else { l with sb1 := some { s with gen := g } }

/-- The superblock that the registers describe. -/
def Chip.evrSb (u : Chip) : Superblock :=
  ⟨u.get Reg.EVR_N.VAL, u.get Reg.EVR_M.VAL, u.get Reg.EVR_PCC.VAL, u.get Reg.EVR_BASE.VAL, 0⟩

/-- Writes one whole sector of 8 slots: slots below the first new record stay, slots after the last one are empty. -/
def writeSector (l : List (Nat × Rec)) (recs : List (Nat × Rec)) : List (Nat × Rec) :=
  match recs with
  | [] => l
  | (k, _) :: _ => recs.foldl (fun l e => assocPut l e.1 e.2) (l.filter (fun e => decide (e.1 / 8 ≠ k / 8 ∨ e.1 < k)))

/-- The leading records that share the sector of the first one. -/
def leadSector (slot : Rec → Nat) : List Rec → List Rec × List Rec
  | [] => ([], [])
  | r :: t => let n := (t.takeWhile (fun x => slot x / 8 == slot r / 8 && decide (slot r < slot x))).length
    (r :: t.take n, t.drop n)

/-- Eddy slot of a record (R497). -/
def Chip.eddySlot (u : Chip) (r : Rec) : Nat := ((r.seq + 2 ^ 32 - u.get Reg.EVR_BASE.VAL) % 2 ^ 32) % u.get Reg.EVR_M.VAL

/-- The log check value (R506). -/
def Chip.evrCheck (u : Chip) : Chip :=
  match u.evr.committed with
  | none => u
  | some r => u.put Reg.EVR_LOGCV.VAL (crcOf crc64 (leBytes 4 (u.get Reg.EVR_PCC.VAL) ++ leBytes 4 (u.get Reg.EVR_BASE.VAL) ++
      leBytes 4 r.seq ++ leBytes 4 r.crc ++ leBytes 4 (u.get Reg.EVR_HWFILL.VAL)))

/-- Records of a list that go to Headwater (R497). -/
def Chip.hwPart (u : Chip) (l : List Rec) : List Rec :=
  if u.on Reg.EVR_STAT.HW_FULL then [] else l.filter (fun r => decide (r.seq < u.get Reg.EVR_N.VAL))

/-! ### Flushing (R492, R493) -/

/-- The pending records, oldest first. -/
def Chip.pendingRecs (u : Chip) : List (Nat × Rec) :=
  (List.range (u.get Reg.EVR_CF.PEND)).filterMap (fun i =>
    let k := (u.get Reg.EVR_CF.HEAD + i) % 4096
    (u.evr.carafe.find? (fun e => e.1 == k)).map (fun e => (k, e.2)))

/-- FLUSH_START (R492): a held trigger takes every pending record and gives it SEQ and PCC (R489). -/
def Chip.evrFlushStart (u : Chip) : Chip :=
  let busyClear := match u.evr.clear with
    | some c => c.step2
    | none => false
  if !u.evr.trig || u.evr.flush.isSome || busyClear || !(u.evrState == 2 || (u.evrState == 4 && u.evr.recovered)) then u
  else
    let seq := u.get Reg.EVR_SEQ.VAL
    let pcc := u.get Reg.EVR_PCC.VAL
    let taken := u.pendingRecs.zipIdx.map (fun (e : (Nat × Rec) × Nat) => (e.1.1, { e.1.2 with seq := (seq + e.2) % 2 ^ 32, pcc := pcc, taken := true }))
    let recs := taken.map (·.2)
    let v := u.evr
    let spilling := decide (u.evrState = 4)
    let sp := v.spill.map (fun p => { p with hw := p.hw ++ u.hwPart recs })
    let f : Flush := { eddy := recs, hw := if spilling then [] else u.hwPart recs, fault := v.trigFault }
    let car := taken.foldl (fun c e => assocPut c e.1 e.2) v.carafe
    let cl := v.clear.map (fun c => { c with flushing := true })
    let v' := { v with trig := false, trigFault := false, flush := some f, lastFlush := u.now, tries := 0, spill := sp, carafe := car, clear := cl }
    let u := { u with evr := v' }
    u.put Reg.EVR_SEQ.VAL (seq + recs.length)

/-- The pending retained pages and the epoch record go to eMMC (07 R255; 13 R400). -/
def Chip.retFlush (u : Chip) : Chip :=
  { u with ret := { u.ret with emmc := u.ret.newest, dirty := [], epochEmmc := u.ret.epoch, epochDirty := false } }

/-- What follows in SPILL when no flush runs (R502): pending records, then Headwater, then SPILLWAY_DONE. -/
def Chip.spillNext (u : Chip) : Chip :=
  match u.evr.spill with
  | none => u
  | some p =>
    if u.evrState ≠ 4 ∨ u.evr.flush.isSome ∨ p.finished ∨ u.evr.recovered = false then u
    else if 0 < u.get Reg.EVR_CF.PEND then { u with evr := { u.evr with trig := true } }
    else if !p.closed then u
    else if p.hw ≠ [] then
      { u with evr := { u.evr with flush := some { eddy := [], hw := p.hw, fault := false }, spill := some { p with hw := [] } } }
    else
      let seq := u.get Reg.EVR_SEQ.VAL
      let ev : Ev := { src := 101, code := 0x03, data := [p.written, p.start], stamp := u.weirTime, inj := false }
      let t := (u.weirTime * 10 + u.get Reg.EVR_CALOFF.VAL) % 2 ^ 64
      let r : Rec := { ev := ev, time := t, tsrc := u.get Reg.EVR_STAT.TSRC, seq := seq, pcc := u.get Reg.EVR_PCC.VAL, taken := true }
      let f : Flush := { eddy := [], hw := [], fault := false, done := some r }
      let u := ({ u with evr := { u.evr with flush := some f, spill := some { p with finished := true } } }).retFlush
      u.put Reg.EVR_SEQ.VAL (seq + 1)

/-- A flush completes: FLUSH_DONE, CAPTURED after a FAULT flush, step 2 of a clear whose flush it was, the next part of the
Spillway. -/
def Chip.evrFlushEnd (u : Chip) (f : Flush) : Chip :=
  let u := ({ u with evr := { u.evr with flush := none } }).irq evrPage 0
  let u := if f.fault then u.captureFlushed else u
  match u.evr.clear with
  | some c =>
    if !c.flushing then u else
    let old := u.get Reg.EVR_BASE.VAL
    (({ u with evr := { u.evr with clear := some { c with step2 := true, oldBase := old } } }).put Reg.EVR_BASE.VAL (u.get Reg.EVR_SEQ.VAL)).evrCheck
  | none => u.spillNext

/-- Goes on with a flush, or completes it. -/
def Chip.evrProceed (u : Chip) (f : Flush) : Chip :=
  if f.eddy = [] ∧ f.hw = [] ∧ f.done = none then u.evrFlushEnd f else { u with evr := { u.evr with flush := some f } }

/-- FLUSH_START with an empty Carafe completes at once. -/
def execFlushStart (s : State) : Host.Outcome State Fault Refusal :=
  let u := s.chip.evrFlushStart
  match s.chip.evr.flush, u.evr.flush with
  | none, some f => s.become (u.evrProceed f)
  | _, _ => s.become u

/-- An Eddy sector with the records `recs` has been written: they are committed and their slots are free (R493). -/
def Chip.evrCommit (u : Chip) (recs : List Rec) : Chip :=
  let slots := recs.map (fun r => (u.eddySlot r, r))
  let u := u.modLog (fun l => { l with eddy := writeSector l.eddy slots })
  let n := recs.length
  let u := (u.put Reg.EVR_CF.HEAD ((u.get Reg.EVR_CF.HEAD + n) % 4096)).put Reg.EVR_CF.PEND (u.get Reg.EVR_CF.PEND - n)
  let sp := u.evr.spill.map (fun p => { p with written := p.written + n })
  ({ u with evr := { u.evr with committed := recs.getLast?, spill := sp } }).evrCheck

/-- A Headwater sector has been written; the record in the last slot causes HEADWATER_FULL (R497). -/
def Chip.evrHeadwater (u : Chip) (recs : List Rec) : Chip :=
  let u := u.modLog (fun l => { l with headwater := writeSector l.headwater (recs.map (fun r => (r.seq, r))) })
  let fill := max (u.get Reg.EVR_HWFILL.VAL) (recs.foldl (fun m r => max m (r.seq + 1)) 0)
  let u := (u.put Reg.EVR_HWFILL.VAL fill).evrCheck
  if fill = u.get Reg.EVR_N.VAL ∧ u.get Reg.EVR_STAT.HW_FULL = 0 then
    ((u.put Reg.EVR_STAT.HW_FULL 1).irq evrPage 6).evrOwn 0x06 [fill - 1]
  else u

/-- The record EDDY_CLEARED takes the place ahead of the records that wait (R508). -/
def Chip.evrFirst (u : Chip) (code : Nat) (data : List Nat) : Chip :=
  let head := (u.get Reg.EVR_CF.HEAD + 4095) % 4096
  let ev : Ev := { src := 101, code := code, data := data, stamp := u.weirTime, inj := false }
  let r : Rec := { ev := ev, time := (u.weirTime * 10 + u.get Reg.EVR_CALOFF.VAL) % 2 ^ 64, tsrc := u.get Reg.EVR_STAT.TSRC }
  let n := u.get Reg.EVR_CF.PEND
  if 4096 ≤ n then u.eventLost 101 u.weirTime
  else
    let u := { u with evr := { u.evr with carafe := assocPut u.evr.carafe head r, half := u.evr.half || (n + 1 == 2048) } }
    (u.put Reg.EVR_CF.HEAD head).put Reg.EVR_CF.PEND (n + 1)

/-- Step 2 of a clear is written: the new Eddy begins with EDDY_CLEARED (R508). -/
def Chip.evrCleared (u : Chip) (c : EddyClear) : Chip :=
  let gone := u.log.eddy.length
  let sb := u.evrSb
  let u := u.modLog (fun l => { (l.writeSb sb) with eddy := [] })
  let last := (u.get Reg.EVR_BASE.VAL + 2 ^ 32 - 1) % 2 ^ 32
  let u := (({ u with evr := { u.evr with clear := none } }).evrCheck).evrFirst 0x05 [c.oldBase, last, gone, c.quoted]
  (((u.put Reg.EVR_CLR_STAT.RESULT 1).irq evrPage 4).evrTrigger false).spillNext

/-- EMMC_WRITE_DONE (R493, R497, R502, R508): the sector write in progress completes. -/
def execEmmcWriteDone (s : State) : Host.Outcome State Fault Refusal :=
  let u := { s.chip with evr := { s.chip.evr with tries := 0 } }
  match u.evr.flush, u.evr.clear with
  | some f, _ =>
    if f.eddy ≠ [] then
      let p := leadSector u.eddySlot f.eddy
      s.become ((u.evrCommit p.1).evrProceed { f with eddy := p.2 })
    else if f.hw ≠ [] then
      let p := leadSector (fun r => r.seq) f.hw
      let u := u.evrHeadwater p.1
      s.become (u.evrProceed { f with hw := p.2 })
    else match f.done with
      | some r =>
        let u := u.modLog (fun l => { l with eddy := writeSector l.eddy [(u.eddySlot r, r)] })
        let u := ({ u with evr := { u.evr with committed := some r } }).evrCheck
        s.become ((u.irq evrPage 5).evrProceed { f with done := none })
      | none => s.become (u.evrFlushEnd f)
  | none, some c => s.become (if c.step2 then u.evrCleared c else s.chip)
  | none, none => s.become s.chip

/-- The sector that the write in progress addresses (R495). -/
def Chip.evrSector (u : Chip) : Nat :=
  let first := u.get Reg.EVR_LBA.LBA
  match u.evr.flush with
  | some f =>
    match f.eddy ++ f.done.toList, f.hw with
    | r :: _, _ => first + 2 + u.get Reg.EVR_N.VAL / 8 + u.eddySlot r / 8
    | [], r :: _ => first + 2 + r.seq / 8
    | [], [] => first
  | none => first

/-- EMMC_WRITE_FAIL (R494): an attempt fails with the device's status; the fourth one enters FAIL with STORE_FAIL. -/
def execEmmcWriteFail (status : Nat) (s : State) : Host.Outcome State Fault Refusal :=
  let u := s.chip
  let writing := u.evr.flush.isSome || (match u.evr.clear with
    | some c => c.step2
    | none => false)
  if !writing then s.become u
  else if u.evr.tries < 3 then s.become ({ u with evr := { u.evr with tries := u.evr.tries + 1 } })
  else
    let sector := u.evrSector
    let v := u.evr
    let u := { u with evr := { v with tries := 0, flush := none, clear := none, trig := false, trigFault := false, spill := none } }
    s.become ((((u.put Reg.EVR_STAT.STATE 5).evrOwn 0x07 [status, sector]).irq evrPage 3).nonsafetyFault 0x6001)

/-- FLUSH_HALF (R492): PEND has reached 2,048. -/
def execFlushHalf (s : State) : Host.Outcome State Fault Refusal :=
  let u := s.chip
  s.become (if u.evr.half then (({ u with evr := { u.evr with half := false } }).irq evrPage 1).evrTrigger false else u)

/-- FLUSH_TIMER (R492): 1 s has passed since the start of the previous flush, and records are pending. -/
def execFlushTimer (s : State) : Host.Outcome State Fault Refusal :=
  let u := s.chip
  s.become (if 0 < u.get Reg.EVR_CF.PEND then (u.until (u.evr.lastFlush + sec 1)).evrTrigger false else u)

/-! ### Recovery and commands (R498, R499) -/

/-- The records that a recovery finds. -/
def EmmcLog.found (l : EmmcLog) : List Rec := (l.eddy ++ l.headwater).map (·.2)

/-- The record with the highest SEQ. -/
def highestSeq (l : List Rec) : Option Rec :=
  l.foldl (fun b r => match b with
    | none => some r
    | some x => if x.seq < r.seq then some r else some x) none

/-- LOG_RECOVERY_DONE (R488, R498). With no record found, the highest SEQ in POWER_UP is not stated: a free value. -/
def execLogRecoveryDone (s : State) : Host.Outcome State Fault Refusal :=
  let u := s.chip
  if !(u.evrState == 0 || (u.evrState == 4 && !u.evr.recovered)) then s.become u
  else
    let u := { u with evr := { u.evr with lba := u.get Reg.EVR_LBA.LBA } }
    match u.log.best with
    | none => s.become (u.put Reg.EVR_STAT.STATE 1)
    | some sb =>
      let top := highestSeq u.log.found
      let next := match top with
        | some r => max sb.base (r.seq + 1)
        | none => sb.base
      let u := (((u.put Reg.EVR_N.VAL sb.n).put Reg.EVR_M.VAL sb.m).put Reg.EVR_BASE.VAL sb.base).put Reg.EVR_PCC.VAL (sb.pcc + 1)
      let fill := u.log.headwater.foldl (fun m e => max m (e.1 + 1)) 0
      let u := (u.put Reg.EVR_SEQ.VAL next).put Reg.EVR_HWFILL.VAL fill
      let u := u.put Reg.EVR_STAT.HW_FULL (lvl (decide (sb.n ≤ fill)))
      let u := u.modLog (fun l => l.writeSb u.evrSb)
      let u := ({ u with evr := { u.evr with recovered := true, committed := top } }).evrCheck
      let done := match top with
        | some r => lvl (r.ev.src == 101 && r.ev.code == 0x03)
        | none => 0
      let p : Nat × Chip := match top with
        | some r => (r.seq, u)
        | none => u.free
      let u := p.2.evrOwn 0x01 [u.get Reg.EVR_PCC.VAL, u.get Reg.WR_STAT.WPOR, done, p.1]
      s.become (if u.evrState = 0 then u.put Reg.EVR_STAT.STATE 2 else u.spillNext)

/-- A command that its state does not take is ignored with CMD_ERR (Table 17.9). -/
def Chip.evrIgnore (u : Chip) : Chip := u.put Reg.EVR_STAT.CMD_ERR 1

/-- FREEZE (R499). -/
def Chip.evrFreeze (u : Chip) : Chip :=
  if u.evrState = 2 then
    let u := ({ u with evr := { u.evr with frozenAt := some u.now } }).put Reg.EVR_STAT.STATE 3
    (u.put Reg.EVR_STAT.CMD_ERR 0).evrOwn 0x0B [1]
  else u.evrIgnore

/-- UNFREEZE (R499). -/
def Chip.evrUnfreeze (u : Chip) : Chip :=
  if u.evrState = 3 then
    let u := ({ u with evr := { u.evr with frozenAt := none } }).put Reg.EVR_STAT.STATE 2
    (u.put Reg.EVR_STAT.CMD_ERR 0).evrOwn 0x0B [0]
  else u.evrIgnore

/-- FLUSH (R492); in FROZEN the trigger is held. -/
def Chip.evrFlush (u : Chip) : Chip :=
  if u.evrState = 2 ∨ u.evrState = 3 then (u.put Reg.EVR_STAT.CMD_ERR 0).evrTrigger false else u.evrIgnore

/-- Whether EVR_FMT_N and EVR_FMT_M lie in the ranges of R495; the device sets the upper bound of M (log 87). -/
def Chip.evrGeometryOk (u : Chip) : Bool :=
  let n := u.get Reg.EVR_FMT_N.COUNT
  let m := u.get Reg.EVR_FMT_M.COUNT
  decide (n ≤ 1048576 ∧ 8192 ≤ m ∧ m - 8192 ≤ Config.emmcSpare ∧ n % 8 = 0 ∧ m % 8 = 0)

/-- FORMAT (R498). -/
def Chip.evrFormat (u : Chip) : Chip :=
  if u.evrState = 1 ∧ u.evrGeometryOk = true then
    let n := u.get Reg.EVR_FMT_N.COUNT
    let m := u.get Reg.EVR_FMT_M.COUNT
    let u := { u with evr := { u.evr with lba := u.get Reg.EVR_LBA.LBA, recovered := true, committed := none } }
    let u := (((u.put Reg.EVR_N.VAL n).put Reg.EVR_M.VAL m).put Reg.EVR_BASE.VAL 0).put Reg.EVR_SEQ.VAL 0
    let u := (u.put Reg.EVR_HWFILL.VAL 0).put Reg.EVR_STAT.HW_FULL (lvl (n == 0))
    let u := u.modLog (fun _ => ({} : EmmcLog).writeSb u.evrSb)
    ((u.put Reg.EVR_STAT.CMD_ERR 0).evrOwn 0x09 [n, m]).put Reg.EVR_STAT.STATE 2
  else u.evrIgnore

/-! ### Spillway (R501) -/

/-- SPILLWAY_START (R501): the power-fail flit arrives. A clear that has not reached step 2 is refused with reason 5. -/
def execSpillwayStart (s : State) : Host.Outcome State Fault Refusal :=
  let u := s.chip
  if u.link.resetDown.head? ≠ some 0 then s.become u
  else
    let u := { u with link := { u.link with resetDown := u.link.resetDown.drop 1 } }
    if u.evrState = 1 ∨ u.evrState = 5 ∨ u.evrState = 4 then s.become u
    else
      let u := u.evrOwn 0x02 [u.weir.pfailOrigin, u.get Reg.EVR_CF.PEND]
      let u := u.evrLift 3
      let early := match u.evr.clear with
        | some c => !c.step2
        | none => false
      let u := if early then (({ u with evr := { u.evr with clear := none } }).evrOwn 0x08 [5]).put Reg.EVR_CLR_STAT.RESULT 6 else u
      let v := u.evr
      let hw := match v.flush with
        | some f => f.hw
        | none => []
      let sp : Spill := ⟨u.weirTime, u.now, u.get Reg.EVR_CF.PEND, 0, decide (4096 ≤ u.get Reg.EVR_CF.PEND), false, hw⟩
      let fl := v.flush.map (fun f => { f with hw := [] })
      let u := { u with evr := { v with fetching := false, spill := some sp, flush := fl } }
      let u := u.put Reg.EVR_STAT.STATE 4
      s.become (match u.evr.flush with
        | some f => u.evrProceed f
        | none => u.spillNext)

/-- SPILLWAY_INTAKE_CLOSE (R501): 1.0 ms after the start the Carafe accepts no more records. -/
def execSpillwayIntakeClose (s : State) : Host.Outcome State Fault Refusal :=
  let u := s.chip
  match u.evr.spill with
  | none => s.become u
  | some p =>
    let u := if p.closed then u else u.until (p.startNow + ms 1)
    let sp := u.evr.spill.map (fun (p : Spill) => { p with closed := true })
    s.become (({ u with evr := { u.evr with spill := sp } }).spillNext)

/-- A reset ends SPILL and FAIL (Table 17.3). The recorder and the Carafe are not reset; a write in progress is rewritten
(22 R600). -/
def Chip.evrReset (u : Chip) : Chip :=
  if u.evrState = 4 ∨ u.evrState = 5 then
    let hw := match u.evr.spill with
      | some p => p.hw
      | none => []
    let fl := match u.evr.flush with
      | some f => some { f with hw := f.hw ++ hw }
      | none => if hw = [] then none else some { eddy := [], hw := hw, fault := false }
    let u := { u with evr := { u.evr with spill := none, flush := fl, trig := decide (0 < u.get Reg.EVR_CF.PEND) } }
    u.put Reg.EVR_STAT.STATE (if u.evr.recovered then 2 else 0)
  else u

/-! ### Reading the log (R504, R505) -/

/-- The record that the cursor selects, if it is present. -/
def Chip.evrSelected (u : Chip) : Option Rec :=
  let i := u.get Reg.EVR_CURSOR.INDEX
  if u.get Reg.EVR_CURCTL.AREA = 0 then
    u.log.eddy.findSome? (fun e => if e.2.seq = i then some e.2 else none)
  else u.log.headwater.findSome? (fun e => if e.1 = i then some e.2 else none)

/-- Starts a fetch of record `i`. -/
def Chip.evrFetch (u : Chip) (i : Nat) : Chip :=
  (((({ u with evr := { u.evr with fetching := true } }).put Reg.EVR_CURSOR.INDEX i).put Reg.EVR_STAT.WIN_READY 0).put Reg.EVR_STAT.GONE 0)

/-- WINDOW_FETCH_DONE (R504, R505): the window shows the record, or 0 with GONE. -/
def execWindowFetchDone (s : State) : Host.Outcome State Fault Refusal :=
  let u := s.chip
  if !u.evr.fetching then s.become u
  else
    let r := u.evrSelected
    let b := match r with
      | some r => r.bytes
      | none => List.replicate 64 0
    let u := foldUpTo 16 u (fun u k => u.put (Reg.EVR_WIN.DATA k) (leAt b (4 * k) 4))
    let u := { u with evr := { u.evr with fetching := false } }
    s.become ((u.put Reg.EVR_STAT.WIN_READY 1).put Reg.EVR_STAT.GONE (lvl r.isNone))

/-- A read of EVR_WIN[k] before WIN_READY: error response and BLK_ERR.ACCESS (R505). -/
def Chip.evrWinError (u : Chip) : Chip := ((u.put (Reg.BLK_ERR.ACCESS 0x44501000) 1).refreshLines evrPage).refuse

/-- A read of EVR_WIN[15] with WIN_READY: it starts the fetch of the next record. -/
def Chip.evrWin15 (u : Chip) : Chip :=
  if u.on Reg.EVR_STAT.WIN_READY then
    (u.evrFetch (u.get Reg.EVR_CURSOR.INDEX + 1)).answer (.data (u.get (Reg.EVR_WIN.DATA 15)))
  else u.evrWinError

/-! ### Clearing Eddy (R507, R508) -/

/-- The first refusal reason of a clear that a management core submits, in the order of Table 17.6; 0 for none. -/
def Chip.clearReason (u : Chip) : Nat :=
  if u.evrState = 4 then 5
  else if u.get Reg.EVR_CLR.CV ≠ u.get Reg.EVR_LOGCV.VAL then 1
  else if !u.on Reg.WR_STAT.MAINT then 2
  else if !u.svc.connected then 3
  else if u.evrState ≠ 2 ∧ u.evrState ≠ 3 then 4
  else 0

/-- A write of EVR_CLR_HI submits a clear. The reason that is recorded for a write by another requester than a management
core is not stated: a free value (log 12). -/
def Chip.evrClear (u : Chip) (req hi : Nat) : Chip :=
  let low := u.get Reg.EVR_CLR.CV % 2 ^ 32
  let u := u.put Reg.EVR_CLR.CV (low + hi % 2 ^ 32 * 2 ^ 32)
  let core := decide (3 ≤ req ∧ req ≤ 6)
  if !core then
    let p := u.free
    (p.2.evrOwn 0x08 [p.1]).put Reg.EVR_CLR_STAT.RESULT (p.1 + 1)
  else if u.clearReason ≠ 0 then (u.evrOwn 0x08 [u.clearReason]).put Reg.EVR_CLR_STAT.RESULT (u.clearReason + 1)
  else if u.evr.clear.isSome then u
  else
    let c : EddyClear := ⟨u.get Reg.EVR_CLR.CV, false, false, 0⟩
    let u := if u.evrState = 3 then ({ u with evr := { u.evr with frozenAt := none } }).put Reg.EVR_STAT.STATE 2 else u
    (({ u with evr := { u.evr with clear := some c } }).put Reg.EVR_CLR_STAT.RESULT 0).evrTrigger false

/-- The held condition in Eddy (21 R583): the last UNIT_SAFE record of source 26 that no LOCKOUT_RESET record follows;
its FCODE. -/
def Chip.evrHeld (u : Chip) : Option Nat :=
  let l := (u.log.eddy.map (·.2)).filter (fun r => r.ev.src == 26 && (r.ev.code == 0x02 || r.ev.code == 0x03))
  match highestSeq l with
  | some r => if r.ev.code = 0x02 then r.ev.data.head? else none
  | none => none

end Sys2Proof.Machine
end

