-- ==== Sys2Proof/Machine/SafeInputs.lean ====
section
/-!
DEFINITION. The safe input block (chapter 09): sampling, filter, pairs, test pulses, start-up test, lockout, unlock.
-/
namespace Sys2Proof.Machine

/-- Page 0 of the safe input block. -/
def sinPage : Nat := 0x40400000

/-- What the block holds of input `n`. -/
def Chip.sinIn (u : Chip) (n : Nat) : SinIn := u.sin.ins.getD n {}

/-- Changes what the block holds of input `n`. -/
def Chip.modSinIn (u : Chip) (n : Nat) (g : SinIn → SinIn) : Chip :=
  { u with sin := { u.sin with ins := modAt u.sin.ins n g } }

/-- What the block holds of test source `j`. -/
def Chip.tout (u : Chip) (j : Nat) : Tout := u.sin.touts.getD j {}

/-- Changes what the block holds of test source `j`. -/
def Chip.modTout (u : Chip) (j : Nat) (g : Tout → Tout) : Chip :=
  { u with sin := { u.sin with touts := modAt u.sin.touts j g } }

/-- Whether the unit is in RUN or IDLE, where the block samples and sources pulse (R298, R304; 19 R531). -/
def Chip.awake (u : Chip) : Bool := decide (u.get Reg.PWR_STAT.STATE ≤ 1)

/-- Whether an input is used (Table 9.8). -/
def Chip.sinUsed (u : Chip) (n : Nat) : Bool := u.on (Reg.SIN_CFG.USED n)

/-- The pairing of the pair that input `n` lies in: 0 single, 1 equivalent, 2 antivalent (R293). -/
def Chip.sinPair (u : Chip) (n : Nat) : Nat := u.get (Reg.SIN_CFG.PAIR (n / 2 * 2))

/-- The input whose FILT, OFF_FAST, STARTUP and ACK govern input `n` (R293). -/
def Chip.sinHead (u : Chip) (n : Nat) : Nat := if u.sinPair n = 0 then n else n / 2 * 2

/-- The inputs that share one state with input `n`. -/
def Chip.sinUnit (u : Chip) (n : Nat) : List Nat := if u.sinPair n = 0 then [n] else [n / 2 * 2, n / 2 * 2 + 1]

/-- The first sample instant at or after a Weir time (R285). -/
def sampleAt (t : Nat) : Nat := (t + 999) / 1000 * 1000

/-- The next sample instant after the last one: a multiple of 1,000 ticks that no sample has taken yet (R285). -/
def sampleNext (t : Nat) : Option Nat → Nat
  | none => sampleAt t
  | some p => max (sampleAt t) (p / 1000 * 1000 + 1000)

/-- The instant of the sample taken now: the multiple of 1,000 ticks that Weir time has reached, or passed over as it is steered (log 122). -/
def Chip.sampleTime (u : Chip) : Nat := u.weirTime / 1000 * 1000

/-- The Weir time of the next sample (R285). -/
def Chip.nextSample (u : Chip) : Nat := sampleNext u.weirTime u.sin.lastSample

/-! ### Logical values -/

/-- Gives input `n` a logical value; a change carries the given edge time (R292), and a rise after a fall in NORMAL
renews the proof (R302). -/
def Chip.sinLogical (u : Chip) (n : Nat) (v : Bool) (stamp : Nat) : Chip :=
  let old := (u.get Reg.SIN_LOG.VAL).testBit n
  if old = v then u
  else
    let renew := v && (u.sinIn n).fell
    let u := (u.putBit Reg.SIN_LOG.VAL n v).modSinIn n (fun i => { i with edge := stamp, fell := !v || i.fell })
    if renew then u.put (Reg.SIN_PROOF.PROOF n) stamp else u

/-- Puts an input into a state of Table 9.1 and sets its status bit (R290, R292). -/
def Chip.sinState (u : Chip) (n st : Nat) : Chip := (u.put (Reg.SIN_ST.STATE n) st).putBit Reg.SIN_NORM.VAL n (st == 2)

/-- Raw levels of a list of inputs, first input in bit 0. -/
def Chip.sinRaws (u : Chip) (l : List Nat) : Nat :=
  l.foldr (fun n v => u.get (Reg.SIN_ST.RAW n) + 2 * v) 0

/-- Entry of an input or pair to LOCKOUT (R305): cause, logical value 0 stamped with the deciding sample (R292),
counter, event. -/
def Chip.sinLockout (u : Chip) (n cause s info : Nat) : Chip :=
  let l := u.sinUnit n
  if u.get (Reg.SIN_ST.STATE (u.sinHead n)) = 3 then u
  else
    let u := l.foldl (fun u i => (((u.sinState i 3).put (Reg.SIN_ST.CAUSE i) cause).put (Reg.SIN_ST.GSTEP i) 0).sinLogical i false s) u
    ((u.satInc Reg.SIN_CNT.LOCKOUTS).irq sinPage 0).raiseAfter 23 0x01 [u.sinHead n, cause, u.sinRaws l, info]

/-- The state that STARTUP gives an input or pair: UNPROVEN at GSTEP 0, or NORMAL (Table 9.2). -/
def Chip.sinStart (u : Chip) (n : Nat) : Chip :=
  let st := if u.get (Reg.SIN_CFG.STARTUP (u.sinHead n)) = 1 then 1 else 2
  (u.sinUnit n).foldl (fun u i => ((u.sinState i st).put (Reg.SIN_ST.GSTEP i) 0).put (Reg.SIN_ST.CAUSE i) 0) u

/-- Every source is on and in no pulse or recovery window, and nothing is armed (R297, R298). -/
def Chip.toutIdle (u : Chip) : Chip :=
  ({ u with sin := { u.sin with
      ins := u.sin.ins.map (fun (i : SinIn) => { i with armed := false, lowInPulse := false })
      touts := u.sin.touts.map (fun (t : Tout) => { t with phase := .idle, high := true, waiting := false }) } }).put Reg.TOUT_STAT.ACTIVE 15

/-- Wake, reset release and configuration load at boot (R304, R295): filtered levels restart at 0 and with them the logical values, without
an edge that could renew a proof; discrepancy clocks are discarded, the next sample counts as the first (log 122). -/
def Chip.sinRestart (u : Chip) : Chip :=
  let now := u.weirTime
  let log := u.get Reg.SIN_LOG.VAL
  let u := foldUpTo 64 u (fun u n => ((u.put (Reg.SIN_ST.FILT n) 0).put (Reg.SIN_ST.DISC n) 0).put (Reg.SIN_ST.RAW n) 0)
  let u := u.put Reg.SIN_LOG.VAL 0
  ({ u with sin := { u.sin with
      ins := u.sin.ins.zipIdx.map (fun (e : SinIn × Nat) => { e.1 with
        change := none, changed := false, trans := 0, fell := false, filtStamp := now, edge := if log.testBit e.2 then now else e.1.edge })
      disc := List.replicate 32 none, first := true, lastSample := none, ackRise := none } }).toutIdle

/-- Configuration load at boot (Table 9.2): USED = 0 goes to DISABLED, USED = 1 to the state that STARTUP gives. The samples from here on
are the first of an input in use (log 122). -/
def Chip.sinLoad (u : Chip) : Chip :=
  foldUpTo 64 u.sinRestart (fun u n => if u.sinUsed n then u.sinStart n else (u.sinState n 0).sinLogical n false u.weirTime)

/-- SLEEP or deeper (R298, R303): no source pulses, so a pulse under way ends untested and its source is on again; the check value in force
is retained. -/
def Chip.sinSleep (u : Chip) : Chip :=
  let u := u.toutIdle
  { u with sin := { u.sin with retCv := some (u.get Reg.CFG_CV.CV) } }

/-- Enabled sources fall due at the next sample: ACTIVE entry at cold boot or warm restart, and wake (R298). -/
def Chip.toutArm (u : Chip) : Chip :=
  let d := u.nextSample
  foldUpTo 8 u.toutIdle (fun u j => u.modTout j (fun t => { t with due := if u.on (Reg.TOUT_CFG.EN j) then some d else none }))

/-! ### Test sources (R297 to R300) -/

/-- Armed inputs of source `j`. -/
def Chip.toutArmed (u : Chip) (j : Nat) : List Nat :=
  (List.range 64).filter (fun n => u.sinUsed n && (u.get (Reg.SIN_CFG.TSRC n) == j) && (u.sinIn n).armed)

/-- The Weir time at which the pulse of source `j` ends, and at which its recovery window ends. -/
def Chip.toutPulseEndAt (u : Chip) (j : Nat) : Nat := (u.tout j).start + u.get (Reg.TOUT_CFG.TP_W j) * 1000

/-- The end of the recovery window of source `j`. -/
def Chip.toutEndAt (u : Chip) (j : Nat) : Nat := u.toutPulseEndAt j + u.get (Reg.TOUT_CFG.TP_REC j) * 1000

/-- A source whose due instant has come waits for its pulse. -/
def Chip.toutFallDue (u : Chip) (j : Nat) : Chip :=
  match (u.tout j).due with
  | some d =>
    if d ≤ u.weirTime ∧ u.on (Reg.TOUT_CFG.EN j) ∧ u.awake then u.modTout j (fun t => { t with waiting := true }) else u
  | none => u

/-- Whether the pulse of source `j` may start now (R298): it waits, no source is in its pulse or recovery window, none
fell due earlier, no lower-numbered one at the same sample. -/
def Chip.toutMayStart (u : Chip) (j : Nat) : Bool :=
  let t := u.tout j
  let d := t.due.getD 0
  t.waiting && u.on (Reg.TOUT_CFG.EN j) && u.awake &&
  (List.range 8).all (fun k =>
    let o := u.tout k
    (o.phase == .idle) && (k == j || !o.waiting || decide (d < o.due.getD 0) || (o.due.getD 0 == d && decide (j < k))))

/-- The pulse of source `j` starts at this sample: inputs whose raw level is 1 are armed, the wait is recorded, and the
source falls due again TP_INT × 10 ms later. -/
def Chip.toutBegin (u : Chip) (j : Nat) : Chip :=
  if u.toutMayStart j then
    let s := u.sampleTime
    let u := u.highWater Reg.TOUT_WAIT.WAIT ((s - (u.tout j).due.getD s) / 1000)
    let u := foldUpTo 64 u (fun u n =>
      if u.sinUsed n && (u.get (Reg.SIN_CFG.TSRC n) == j) then
        u.modSinIn n (fun i => { i with armed := u.on (Reg.SIN_ST.RAW n), lowInPulse := false })
      else u)
    let next := s + u.get (Reg.TOUT_CFG.TP_INT j) * 1000000
    ((u.modTout j (fun t => { t with high := false, phase := .pulse, start := s, waiting := false, due := some next })).put
      Reg.TOUT_STAT.ACTIVE j).clearBit Reg.TOUT_STAT.FAIL j
  else u

/-- After TP_W the source returns high and the recovery window begins (R298). -/
def Chip.toutRelease (u : Chip) (j : Nat) : Chip :=
  if (u.tout j).phase = .pulse ∧ u.toutPulseEndAt j ≤ u.weirTime then
    u.modTout j (fun t => { t with high := true, phase := .recovery })
  else u

/-- Judges one armed input whose recovery window has ended (Table 9.5): it stayed 0, so the test is DISCARDED and the
filtered level falls, stamped with the pulse start. -/
def Chip.toutDiscard (u : Chip) (j n : Nat) : Chip :=
  let p := (u.tout j).start
  let was := u.on (Reg.SIN_ST.FILT n)
  ((u.put (Reg.SIN_ST.FILT n) 0).modSinIn n (fun i =>
    { i with armed := false, change := none, filtStamp := if was then p else i.filtStamp, changed := was })).satInc Reg.SIN_CNT.DISCARDED

/-- The end of the recovery window: inputs still armed are judged, and the source is idle. A test source whose pulse
gave a FAIL raises TOUT_FAIL when the input fails, not here. -/
def Chip.toutFinish (u : Chip) (j : Nat) : Chip :=
  if (u.tout j).phase = .recovery ∧ u.toutEndAt j ≤ u.weirTime then
    let u := (u.toutArmed j).foldl (fun u n =>
      if (u.sinIn n).lowInPulse && !u.on (Reg.SIN_ST.RAW n) then u.toutDiscard j n
      else u.modSinIn n (fun i => { i with armed := false })) u
    (u.modTout j (fun t => { t with phase := .idle })).put Reg.TOUT_STAT.ACTIVE 15
  else u

/-- Whether this sample is the last inside the pulse of source `j`: the one 10 µs before the source returns (DEDUCED, log 10). -/
def Chip.toutLast (u : Chip) (j : Nat) : Bool := ((u.tout j).phase == .pulse) && (u.sampleTime + 1000 == u.toutPulseEndAt j)

/-- What a sample shows of the armed inputs of source `j` (Table 9.5): a raw 0 at the last sample inside the pulse; in the recovery window
a raw 1 after it ends the hold as PASS. -/
def Chip.toutJudge (u : Chip) (j : Nat) : Chip :=
  if u.toutLast j then
    (u.toutArmed j).foldl (fun u n => if u.on (Reg.SIN_ST.RAW n) then u else u.modSinIn n (fun i => { i with lowInPulse := true })) u
  else if (u.tout j).phase = .recovery then
    (u.toutArmed j).foldl (fun u n =>
      if (u.sinIn n).lowInPulse && u.on (Reg.SIN_ST.RAW n) then u.modSinIn n (fun i => { i with armed := false }) else u) u
  else u

/-- A raw 1 at the last sample inside the pulse is a FAIL (Table 9.5), judged after the unlocks of the sample (Table 9.6). -/
def Chip.toutFail (u : Chip) (j : Nat) : Chip :=
  if u.toutLast j then
    let failing := (u.toutArmed j).filter (fun n => u.on (Reg.SIN_ST.RAW n))
    let s := u.sampleTime
    let u := failing.foldl (fun u n => (u.sinLockout n 2 s j).modSinIn n (fun i => { i with armed := false })) u
    if failing = [] then u
    else (((u.setBit Reg.TOUT_STAT.FAIL j).irq sinPage 2).raiseAfter 23 0x06 [j, maskOf failing])
  else u

/-! ### One sample (R285 to R308) -/

/-- Takes the raw level of input `n` at sample `s`: counts a glitch interval and stamps a change with its last transition
(R286). At the first sample after a reset or wake a raw 1 is a rising edge stamped with the sample (R304). -/
def Chip.sinRaw (u : Chip) (n s : Nat) : Chip :=
  let i := u.sinIn n
  let change := i.level != u.on (Reg.SIN_ST.RAW n)
  let u := if (if change then decide (3 ≤ i.trans) else decide (2 ≤ i.trans)) then u.satInc (Reg.SIN_ST.GLITCH n) else u
  let stamp := if u.sin.first then s else i.lastTrans
  (u.put (Reg.SIN_ST.RAW n) (lvl i.level)).modSinIn n (fun i =>
    { i with trans := 0, changed := false, change := if change && !i.armed then some stamp else i.change })

/-- The level that the filter of input `n` is fed: the pre-pulse 1 while the input is armed (R300), else the raw level. -/
def Chip.sinFeed (u : Chip) (n : Nat) : Bool := (u.sinIn n).armed || u.on (Reg.SIN_ST.RAW n)

/-- The filter of input `n` at sample `s` (R288, R289). -/
def Chip.sinFilter (u : Chip) (n s : Nat) : Chip :=
  let h := u.sinHead n
  let f := u.sinFeed n
  let i := u.sinIn n
  if f = u.on (Reg.SIN_ST.FILT n) then u.modSinIn n (fun i => { i with change := none })
  else
    let stamp := i.change.getD s
    if (!f && u.on (Reg.SIN_CFG.OFF_FAST h)) || decide (u.get (Reg.SIN_CFG.FILT h) * 1000 ≤ s - stamp) then
      (u.put (Reg.SIN_ST.FILT n) (lvl f)).modSinIn n (fun i => { i with change := none, filtStamp := stamp, changed := true })
    else u.modSinIn n (fun i => { i with change := some stamp })

/-- Whether the two inputs of pair `k` agree (R293). -/
def Chip.pairAgrees (u : Chip) (k : Nat) : Bool :=
  let same := u.on (Reg.SIN_ST.FILT (2 * k)) == u.on (Reg.SIN_ST.FILT (2 * k + 1))
  if u.get (Reg.SIN_CFG.PAIR (2 * k)) = 2 then !same else same

/-- The stamp of the filtered edge that changed the pair at this sample; the sample itself where it is the first or shows no edge. -/
def Chip.pairStamp (u : Chip) (k s : Nat) : Nat :=
  let a := u.sinIn (2 * k)
  let b := u.sinIn (2 * k + 1)
  if u.sin.first then s
  else if a.changed && b.changed then max a.filtStamp b.filtStamp
  else if a.changed then a.filtStamp
  else if b.changed then b.filtStamp
  else s

/-- Starts or stops the discrepancy clock of pair `k`. -/
def Chip.setDisc (u : Chip) (k : Nat) (d : Option Nat) : Chip :=
  let u := { u with sin := { u.sin with disc := modAt u.sin.disc k (fun _ => d) } }
  (u.put (Reg.SIN_ST.DISC (2 * k)) (lvl d.isSome)).put (Reg.SIN_ST.DISC (2 * k + 1)) (lvl d.isSome)

/-- T_DISC of a pair in ticks. -/
def Chip.tDisc (u : Chip) (k : Nat) : Nat := u.get (Reg.SIN_DISC.T_DISC k) * 1000

/-- The discrepancy clock of pair `k` at sample `s` (R294, R295). In LOCKOUT it keeps tracking and faults nothing; a pair that has locked
out starts it again only with an edge. -/
def Chip.sinDiscrepancy (u : Chip) (k s : Nat) : Chip :=
  let locked := u.get (Reg.SIN_ST.STATE (2 * k)) == 3
  let edge := u.sin.first || (u.sinIn (2 * k)).changed || (u.sinIn (2 * k + 1)).changed
  match u.sin.disc.getD k none with
  | some d =>
    if decide (u.tDisc k ≤ s - d) && !locked then (u.setDisc k none).sinLockout (2 * k) 1 s d
    else if u.pairAgrees k then u.setDisc k none
    else u
  | none => if u.pairAgrees k || (locked && !edge) then u else (u.setDisc k (some (u.pairStamp k s))).irq sinPage 1

/-- The value observed for an input or pair with head `h`: the filtered level, or the agreed pair value; none in
disagreement. -/
def Chip.sinObserved (u : Chip) (h : Nat) : Option Bool :=
  if u.sinPair h = 0 then some (u.on (Reg.SIN_ST.FILT h))
  else if u.pairAgrees (h / 2) then some (u.on (Reg.SIN_ST.FILT h)) else none

/-- The stamp of the edge that gave the observed value of head `h`. -/
def Chip.sinStamp (u : Chip) (h s : Nat) : Nat := if u.sinPair h = 0 then (u.sinIn h).filtStamp else u.pairStamp (h / 2) s

/-- Start-up steps and logical value of the input or pair with head `h` at sample `s` (R290, R293, R301, R302). -/
def Chip.sinLogic (u : Chip) (h s : Nat) : Chip :=
  let l := u.sinUnit h
  let st := u.get (Reg.SIN_ST.STATE h)
  let g := u.get (Reg.SIN_ST.GSTEP h)
  let stamp := u.sinStamp h s
  if st = 1 then
    match u.sinObserved h with
    | some true =>
      if g = 0 then l.foldl (fun u i => u.put (Reg.SIN_ST.GSTEP i) 1) u
      else if g = 2 then
        let u := l.foldl (fun u i =>
          (((u.sinState i 2).put (Reg.SIN_ST.GSTEP i) 0).sinLogical i true stamp).put (Reg.SIN_PROOF.PROOF i) stamp) u
        (u.irq sinPage 3).raiseAfter 23 0x04 [h, stamp]
      else u
    | some false => if g = 1 then l.foldl (fun u i => u.put (Reg.SIN_ST.GSTEP i) 2) u else u
    | none => u
  else if st = 2 then l.foldl (fun u i => u.sinLogical i ((u.sinObserved h).getD false) stamp) u
  else u

/-- Whether the input or pair with head `h` stands at its safe value, raw and filtered (R308). -/
def Chip.sinAtSafe (u : Chip) (h : Nat) : Bool :=
  let low := fun n => !u.on (Reg.SIN_ST.RAW n) && !u.on (Reg.SIN_ST.FILT n)
  if u.sinPair h = 0 then low h
  else if u.sinPair h = 1 then low h && low (h + 1)
  else low h && u.on (Reg.SIN_ST.RAW (h + 1)) && u.on (Reg.SIN_ST.FILT (h + 1))

/-- The heads of the inputs that a mask names and that are in LOCKOUT. -/
def Chip.unlockHeads (u : Chip) (mask : Nat) : List Nat :=
  (List.range 64).filter (fun n =>
    u.sinHead n == n && u.get (Reg.SIN_ST.STATE n) == 3 && (u.sinUnit n).any (fun i => mask.testBit i))

/-- An unlock request acts (R307, R308): inputs at their safe value leave LOCKOUT, the others are refused. -/
def Chip.sinUnlock (u : Chip) (mask path tag : Nat) : Chip :=
  let heads := u.unlockHeads mask
  let ok := heads.filter u.sinAtSafe
  let no := heads.filter (fun h => !u.sinAtSafe h)
  let okMask := maskOf (ok.flatMap u.sinUnit)
  let noMask := maskOf (no.flatMap u.sinUnit)
  let raws := maskOf ((no.flatMap u.sinUnit).filter (fun n => u.on (Reg.SIN_ST.RAW n)))
  let u := ok.foldl (fun u h => u.sinStart h) u
  let u := if ok = [] then u else (u.irq sinPage 4).raiseAfter 23 0x02 [okMask, path, tag]
  if no = [] then u else (u.irq sinPage 5).raiseAfter 23 0x03 [noMask, raws]

/-- The unlock requests that wait act at this sample (R306, R307). -/
def Chip.sinRequests (u : Chip) : Chip :=
  let mask := u.get Reg.SIN_UNLOCK.REQ
  let ack := u.sin.ackMask
  let u := if mask = 0 then u else (u.put Reg.SIN_UNLOCK.REQ 0).sinUnlock mask 1 u.sin.unlockTag
  if ack = 0 then u else ({ u with sin := { u.sin with ackMask := 0 } }).sinUnlock ack 2 0

/-- The acknowledgment input (R306): a logical 1 of 100 ms to 2 s requests an unlock of every ACK input, at the sample
that sees it fall, if the acknowledgment input is NORMAL. -/
def Chip.sinAck (u : Chip) (wasHigh : Bool) : Chip :=
  let a := u.get Reg.SIN_RST.ACK_IN
  let high := (u.get Reg.SIN_LOG.VAL).testBit a
  if !u.on Reg.SIN_RST.ACK_EN then u
  else if !wasHigh && high then { u with sin := { u.sin with ackRise := some (u.sinIn a).edge } }
  else if wasHigh && !high then
    match u.sin.ackRise with
    | some r =>
      let d := (u.sinIn a).edge - r
      let ok := decide (ms 100 ≤ d ∧ d ≤ sec 2) && (u.get (Reg.SIN_ST.STATE a) == 2)
      let mask := maskOf ((List.range 64).filter (fun n => u.on (Reg.SIN_CFG.ACK (u.sinHead n)) && u.sinUsed n))
      { u with sin := { u.sin with ackRise := none, ackMask := if ok then u.sin.ackMask ||| mask else u.sin.ackMask } }
    | none => u
  else u

/-- Heads of the used inputs and pairs. -/
def Chip.sinHeads (u : Chip) : List Nat := (List.range 64).filter (fun n => u.sinUsed n && u.sinHead n == n)

/-- The processing of one sample at the present Weir time, in the order of Table 9.6: pulses, raw levels, test
judgments, filter, unlocks, discrepancy clocks, start-up and logical values, acknowledgment, due sources. -/
def Chip.sinProcess (u : Chip) : Chip :=
  let s := u.sampleTime
  let wasHigh := (u.get Reg.SIN_LOG.VAL).testBit (u.get Reg.SIN_RST.ACK_IN)
  let u := foldUpTo 8 u Chip.toutRelease
  let u := foldUpTo 64 u (fun u n => u.sinRaw n s)
  let u := foldUpTo 8 u Chip.toutJudge
  let u := foldUpTo 8 u Chip.toutFinish
  let u := ((List.range 64).filter u.sinUsed).foldl (fun u n => u.sinFilter n s) u
  let u := u.sinRequests
  let u := foldUpTo 8 u Chip.toutFail
  let u := ((List.range 32).filter (fun k => u.sinUsed (2 * k) && u.sinPair (2 * k) != 0)).foldl (fun u k => u.sinDiscrepancy k s) u
  let u := u.sinHeads.foldl (fun u h => u.sinLogic h s) u
  let u := u.sinAck wasHigh
  let u := foldUpTo 8 u Chip.toutFallDue
  let u := foldUpTo 8 u Chip.toutBegin
  -- R287: the result of the sample taken at a snapshot instant is the one that the snapshot buffer carries
  let result : SinResult := if s % 25000 = 0
    then ⟨s, u.get Reg.SIN_LOG.VAL, u.get Reg.SIN_NORM.VAL, u.sin.ins.map (fun i => i.edge)⟩ else u.sin.result
  { u with sin := { u.sin with first := false, lastSample := some s, result := result } }

/-- Every sample that falls due up to and including the instant `t` is taken (R285). -/
def Chip.samplesTo (u : Chip) (t : Nat) : Chip :=
  if u.awake then foldUpTo ((t + 1000 - u.nextSample) / 1000) u (fun u _ => (u.untilWeir u.nextSample).sinProcess) else u

/-- SIN_SAMPLE (R285): the next sample is taken, in RUN and IDLE only (R304). -/
def execSinSample (s : State) : Host.Outcome State Fault Refusal :=
  s.become (if s.chip.awake then (s.chip.untilWeir s.chip.nextSample).sinProcess else s.chip)

/-- SIN_EDGE (R286): after `dt` ticks the comparator of input `n` goes to a level; the edge-capture stage counts the
transition and notes its Weir time. -/
def execSinEdge (n : Nat) (level : Bool) (dt : Nat) (s : State) : Host.Outcome State Fault Refusal :=
  let u := s.chip.advance dt
  s.become (u.modSinIn n (fun i =>
    if i.level = level then i else { i with level := level, trans := i.trans + 1, lastTrans := u.weirTime }))

/-- SIN_FILTER_EXPIRY (R288): samples are taken up to the first one at which the filter time of the pending change of input `n` has run;
the change becomes the filtered level there, unless it has reversed before. -/
def execSinFilterExpiry (n : Nat) (s : State) : Host.Outcome State Fault Refusal :=
  let u := s.chip
  match (u.sinIn n).change with
  | none => s.become u
  | some stamp => s.become (if u.sinUsed n then u.samplesTo (sampleAt (stamp + u.get (Reg.SIN_CFG.FILT (u.sinHead n)) * 1000)) else u)

/-- SIN_DISC_TIMEOUT (R294): samples are taken up to the first one at which the discrepancy clock of pair `k` has run T_DISC; the pair enters
LOCKOUT with cause DISC there, unless a sample has shown agreement before. -/
def execSinDiscTimeout (k : Nat) (s : State) : Host.Outcome State Fault Refusal :=
  let u := s.chip
  match u.sin.disc.getD k none with
  | none => s.become u
  | some d => s.become (u.samplesTo (sampleAt (d + u.tDisc k)))

/-- SIN_UNLOCK_WRITE (R306, R307, R311): the loader's write of a mask sets requests that act at the next sample; the page
refuses any other requester (02 R38). -/
def Chip.sinUnlockWrite (u : Chip) (req mask tag : Nat) : Chip :=
  if req = 7 then
    let u := u.put Reg.SIN_UNLOCK.REQ (u.get Reg.SIN_UNLOCK.REQ ||| mask)
    ({ u with sin := { u.sin with unlockTag := tag } }).answer .ok
  else u.planeRefused req 0x4040005C

/-- TOUT_DUE (R298): source `j` falls due at its due instant. -/
def execToutDue (j : Nat) (s : State) : Host.Outcome State Fault Refusal :=
  let u := s.chip
  match (u.tout j).due with
  | none => s.become s.chip
  | some d => s.become (if u.awake && u.on (Reg.TOUT_CFG.EN j) then (u.untilWeir d).toutFallDue j else u)

/-- TOUT_PULSE_START (R298): the next sample is taken, and the pulse of source `j` starts there if it is due and no other stands ahead. -/
def execToutPulseStart (j : Nat) (s : State) : Host.Outcome State Fault Refusal :=
  let u := s.chip
  s.become (if u.toutMayStart j then u.samplesTo u.nextSample else u)

/-- TOUT_PULSE_END (R300): samples are taken up to the one TP_W after the pulse start, at which the source returns high. -/
def execToutPulseEnd (j : Nat) (s : State) : Host.Outcome State Fault Refusal :=
  s.become (if (s.chip.tout j).phase = .pulse then s.chip.samplesTo (s.chip.toutPulseEndAt j) else s.chip)

/-- TOUT_RECOVERY_END (R300): samples are taken up to the one TP_REC after the return, at which the inputs still armed are judged. -/
def execToutRecoveryEnd (j : Nat) (s : State) : Host.Outcome State Fault Refusal :=
  s.become (if (s.chip.tout j).phase = .recovery then s.chip.samplesTo (s.chip.toutEndAt j) else s.chip)

/-- Comparator test of SELFTEST (R284): each failing input enters LOCKOUT with cause CMP. -/
def Chip.sinComparatorTest (u : Chip) (failing : Nat) : Chip :=
  ((List.range 64).filter (fun n => failing.testBit n && u.sinUsed n)).foldl (fun u n => u.sinLockout n 3 u.weirTime 0) u

/-- The wake check (R303, R304): with the retained-state CRC matching (`crcOk`), WPOR 0 and the check value of entry still
in force, a GUARD_CYCLE input in NORMAL whose proof age is below MAX_AGE keeps its proof; every other one restarts. -/
def Chip.sinWake (u : Chip) (crcOk full : Bool) : Chip :=
  let cvSame := u.sin.retCv == some (u.get Reg.CFG_CV.CV)
  let wpor := u.on Reg.WR_STAT.WPOR
  let pass := crcOk && cvSame && !wpor && full
  let keeps := fun n => pass && (u.get (Reg.SIN_ST.STATE n) == 2) &&
    decide (u.weirTime - u.get (Reg.SIN_PROOF.PROOF n) < sec (u.get Reg.SIN_AGE.MAX_AGE))
  let guards := (List.range 64).filter (fun n => u.sinUsed n && u.get (Reg.SIN_CFG.STARTUP (u.sinHead n)) == 1)
  let kept := guards.filter keeps
  let lost := guards.filter (fun n => !keeps n && u.get (Reg.SIN_ST.STATE n) != 3)
  let u := u.sinRestart
  let u := lost.foldl (fun u n => ((u.sinState n 1).put (Reg.SIN_ST.GSTEP n) 0).sinLogical n false u.weirTime) u
  let u := ((((u.put Reg.SIN_RET.PASS (lvl pass)).put Reg.SIN_RET.WPOR (lvl wpor)).put Reg.SIN_RET.CRC_FAIL (lvl !crcOk)).put
    Reg.SIN_RET.CV_CHANGED (lvl !cvSame)).put Reg.SIN_RET.KEPT kept.length
  let ret := u.readPieces (regPieces 0x40400068)
  let u := if pass then u else u.irq sinPage 6
  let u := { u with sin := { u.sin with kept := kept.map (fun n => (n, u.get (Reg.SIN_PROOF.PROOF n))) } }
  (u.raiseAfter 23 0x05 [ret, maskOf kept]).toutArm

/-! ### Load rejections -/

/-- R296: a used pair with T_DISC below FILT + 2. -/
def Chip.rejectsR296 (u : Chip) : Bool :=
  (List.range 32).any (fun k => u.sinUsed (2 * k) && u.sinPair (2 * k) != 0 &&
    decide (u.get (Reg.SIN_DISC.T_DISC k) < u.get (Reg.SIN_CFG.FILT (2 * k)) + 2))

/-- R299: an enabled source whose pulse or recovery window is too short for the front-end delay. -/
def Chip.rejectsR299 (u : Chip) : Bool :=
  (List.range 8).any (fun j => u.on (Reg.TOUT_CFG.EN j) &&
    (decide (u.get (Reg.TOUT_CFG.TP_W j) * 10 < u.get Reg.SIN_GCFG.FE_DLY + 20) ||
     decide (u.get (Reg.TOUT_CFG.TP_REC j) * 10 < u.get Reg.SIN_GCFG.FE_DLY + 10)))

/-- R309: the other rejections of a safe input configuration. -/
def Chip.rejectsR309 (u : Chip) : Bool :=
  let cfgBad := fun n =>
    let odd := n % 2 = 1
    let pairHere := u.get (Reg.SIN_CFG.PAIR n)
    let inPair := u.sinPair n != 0
    let t := u.get (Reg.SIN_CFG.TSRC n)
    let ackHead := u.sinHead (u.get Reg.SIN_RST.ACK_IN)
    decide (6550 < u.get (Reg.SIN_CFG.FILT n)) || pairHere == 3 || (decide odd && pairHere != 0) ||
    (decide odd && inPair && (u.get (Reg.SIN_CFG.FILT n) != 0 || u.on (Reg.SIN_CFG.OFF_FAST n) ||
      u.get (Reg.SIN_CFG.STARTUP n) != 0 || u.on (Reg.SIN_CFG.ACK n))) ||
    decide (2 ≤ u.get (Reg.SIN_CFG.STARTUP n)) ||
    decide (8 ≤ t ∧ t ≤ 14) || (decide (t < 8) && !u.on (Reg.TOUT_CFG.EN t)) ||
    (u.on Reg.SIN_RST.ACK_EN && u.sinHead n == ackHead && u.on (Reg.SIN_CFG.ACK ackHead)) ||
    (!(decide odd) && inPair && u.get (Reg.SIN_DISC.T_DISC (n / 2)) == 0)
  let srcBad := fun j => u.on (Reg.TOUT_CFG.EN j) &&
    (decide (u.get (Reg.TOUT_CFG.TP_INT j) < 1 ∨ 6000 < u.get (Reg.TOUT_CFG.TP_INT j)) ||
     decide (u.get (Reg.TOUT_CFG.TP_REC j) < 1 ∨ 50 < u.get (Reg.TOUT_CFG.TP_REC j)) ||
     decide (u.get (Reg.TOUT_CFG.TP_W j) < 5 ∨ 200 < u.get (Reg.TOUT_CFG.TP_W j)))
  decide (100 < u.get Reg.SIN_GCFG.FE_DLY) || decide (86400 < u.get Reg.SIN_AGE.MAX_AGE) ||
  ((List.range 64).filter u.sinUsed).any cfgBad || (List.range 8).any srcBad ||
  (List.range 32).any (fun k => u.sinPair (2 * k) != 0 && (u.sinUsed (2 * k) != u.sinUsed (2 * k + 1)))

end Sys2Proof.Machine
end

