-- ==== Sys2Proof/Machine/Power.lean ====
section
/-!
DEFINITION. The power controller (chapter 19): requests, notice, consent, rollback, entry, wake sources.
-/
namespace Sys2Proof.Machine

/-- Page 0 of the power controller. -/
def pwrPage : Nat := 0x44700000

/-- The power state (Table 19.1). -/
def Chip.pwrState (u : Chip) : Nat := u.get Reg.PWR_STAT.STATE

/-- PWR_AON: 48 bits at 32.768 kHz (Table 19.6). -/
def Chip.aonCount (u : Chip) : Nat := (u.now - u.pwr.aonBase) * 32768 / 100000000 % 2 ^ 48

/-- All page-0 addresses of a list of block types. -/
def blockPages (ok : Nat → Bool) : List Nat :=
  (blockTypes.filter (fun b => ok b.ty)).flatMap (fun b => (List.range b.insts).map (fun i => pageAddr b.ty i 0))

/-- The blocks in the order of asking (R537): data plane, ports, management plane, control plane, Weir. The power
controller and clock and reset generation are not asked. -/
def askOrder : List Nat :=
  blockPages (fun t => t / 256 == 0xD0) ++ blockPages (fun t => t / 256 == 0xF0) ++
  blockPages (fun t => t / 256 == 0xE0 && t != 0xE047) ++ blockPages (fun t => t / 256 == 0xC0 && t != 0xC001) ++ [0x50000000]

/-- Every used output is off (R21). -/
def Chip.allOff (u : Chip) : Bool :=
  (List.range 32).all (fun n => [0, 1, 6].contains (u.get (Reg.SOUT_ST.STATE n)))

/-- BLK_STAT.BUSY of the block whose page 0 is `pg`: it has work in progress (02 Table 2.8). Which work counts is stated only for the
bridge (15 Table 15.5); for the others it is what the model holds as under way (log 49). -/
def Chip.blkBusy (u : Chip) (pg : Nat) : Bool :=
  if pg = 0x42000000 then u.br.slots.any (fun x => x.st != .free) || u.br.writes != [] || u.br.egress.any (fun l => l != []) || u.br.inbound != []
  else if pg = 0x44500000 then u.evr.flush.isSome || u.evr.clear.isSome || u.evr.spill.isSome || u.evr.fetching
  else if pg = 0x44600000 then (u.perc.getD 3 {}).running != [] || (u.perc.getD 3 {}).fuse.isSome
  else if pg = 0x40B00000 ∨ pg = 0x40B04000 ∨ pg = 0x40B08000 then
    let p := u.perc.getD ((pg - 0x40B00000) / 0x4000) {}
    p.running != [] || p.fuse.isSome
  else if pg = 0x44900000 ∨ pg = 0x44904000 then u.on (Reg.IDB_STAT.BUSY ((pg - 0x44900000) / 0x4000))
  else if pg = 0x40300000 then u.conf.window.isSome || u.conf.releases != [] || u.conf.recon.isSome || u.get Reg.CF_MODE.RS_PHASE != 0
  else if pg = 0x40600000 then u.zst.txq.any (fun l => l != []) || u.zst.store != []
  else if pg = 0x40700000 then u.gate.queue != []
  else if pg = 0x40900000 then u.intake.staged != []
  else if pg = 0x40A00000 then u.fab.out.any (fun n => n != 0)
  else if pg = 0x50006000 then u.lat.pend.isSome || [1, 2, 4].contains (u.get Reg.LAT_STAT.SB_STATE)
  else false

/-- What a block of the control plane, or Weir, answers: R21 and R538. -/
def Chip.controlConsents (u : Chip) (pg : Nat) : Bool :=
  u.allOff && u.weir.withheld &&
  (if 0x40200000 ≤ pg ∧ pg < 0x4020C000 then
      [3, 5].contains (u.get (Reg.CH_STATE.STATE ((pg - 0x40200000) / 0x4000)))
    else if pg = 0x40300000 then u.get Reg.CF_MODE.RS_PHASE == 0
    else true)

/-- Whether an asked block consents (R50, R531, R538). `ready` is what stands outside the model: the management cores in
WFI, the management firmware with its work done, a DEFER block that finishes in time. -/
def Chip.consents (u : Chip) (pg : Nat) (ready : Bool) : Bool :=
  let mode := u.get (Reg.BLK_PWR.CONSENT pg)
  let own := if pg = 0x44500000 then u.get Reg.EVR_CF.PEND == 0 && u.evr.flush.isNone
    else if pg = 0x44000000 then ready && (u.get Reg.PWR_STAT.TARGET == 1 || (u.ret.dirty == [] && !u.ret.epochDirty))
    else true
  let control := pg == 0x50000000 || (match pageInfo pg with
    | some p => u.controlPage p
    | none => false)
  if control then u.controlConsents pg
  else own && (if mode = 2 then false else if mode = 1 then ready || !u.blkBusy pg else !u.blkBusy pg)

/-- A request starts (R532, R534). -/
def Chip.pwrStart (u : Chip) (st : Nat) : Chip :=
  let u := u.put Reg.PWR_STAT.TARGET st
  let u := foldUpTo 64 u (fun u k => ((u.put (Reg.PWR_CLOG.TYPE k) 0).put (Reg.PWR_CLOG.INST k) 0).put (Reg.PWR_CLOG.ANSWER k) 0)
  if st = 1 then
    ({ u with pwr := { u.pwr with startAt := u.now, asks := [0x44000000], stopped := [], asked := 0, askAt := u.now } }).put Reg.PWR_STAT.PHASE 2
  else ({ u with pwr := { u.pwr with startAt := u.now, notice := true, asks := [], stopped := [], asked := 0 } }).put Reg.PWR_STAT.PHASE 1

/-- The pending request starts when the unit reaches RUN (R533). -/
def Chip.pwrStartPending (u : Chip) : Chip :=
  let p := u.get Reg.PWR_STAT.PENDING
  if p = 7 then u else (u.put Reg.PWR_STAT.PENDING 7).pwrStart p

/-- Requests that end with INVALID (R532). -/
def Chip.pwrInvalid (u : Chip) (st : Nat) : Bool :=
  decide (5 ≤ st) || (st == 3 && u.get Reg.PWR_CFG.RETMODE == 0 && decide (8 < popCount (u.get Reg.PWR_RETBANK.MASK) 32))

/-- A write of PWR_REQ (R532, R533). A request for RUN with nothing in progress has no effect, on RESULT as well. -/
def Chip.pwrRequest (u : Chip) (req v : Nat) : Chip :=
  let st := v % 8
  if req < 3 ∨ 6 < req then u.refuse
  else
    let u := u.answer .ok
    if u.pwrInvalid st then u.put Reg.PWR_STAT.RESULT 6
    else if u.get Reg.PWR_STAT.PHASE = 0 ∧ u.pwrState = 0 ∧ st = 0 then u
    else if u.get Reg.PWR_STAT.PHASE = 0 ∧ st = u.pwrState then u.put Reg.PWR_STAT.RESULT 1
    else if u.get Reg.PWR_STAT.PHASE = 0 ∧ u.pwrState = 0 then u.pwrStart st
    else
      let old := u.get Reg.PWR_STAT.PENDING
      if st = 0 then (if old = 7 then u else (u.put Reg.PWR_STAT.PENDING 7).put Reg.PWR_STAT.RESULT 5)
      else if old = 7 then u.put Reg.PWR_STAT.PENDING st
      else (((u.put Reg.PWR_STAT.PENDING st).put Reg.PWR_STAT.RESULT 4).irq pwrPage 3).raiseAfter 102 0x04 [old, st]

/-- Every stopped block restarts in reverse order of asking (R539, R544); the management I2C target lets SCL go (R543). -/
def Chip.pwrRestart (u : Chip) : Chip :=
  let l := u.pwr.stopped
  let u := { u with pwr := { u.pwr with stopped := [], asks := [], notice := false, sclHeld := false } }
  l.foldl (fun u pg => u.put (Reg.BLK_STAT.PWR (pageOf pg)) 0) { u with weir := { u.weir with pfArmed := true } }

/-- The asks begin (R537). -/
def Chip.pwrAsk (u : Chip) : Chip :=
  ({ u with pwr := { u.pwr with asks := askOrder, askAt := u.now } }).put Reg.PWR_STAT.PHASE 2

/-- CONSENT_ASK_START (R537): every control-plane block signals that it would consent. -/
def execConsentAskStart (s : State) : Host.Outcome State Fault Refusal :=
  let u := s.chip
  let willing := (askOrder.filter (fun pg => decide (pg / 0x100000 < 0x410 ∨ pg = 0x50000000))).all (fun pg => u.consents pg true)
  s.become (if u.get Reg.PWR_STAT.PHASE = 1 ∧ willing = true then u.pwrAsk else u)

/-- NOTICE_TIMEOUT (R537): NOTICE_MS has passed. -/
def execNoticeTimeout (s : State) : Host.Outcome State Fault Refusal :=
  let u := s.chip
  s.become (if u.get Reg.PWR_STAT.PHASE = 1 then (u.until (u.pwr.startAt + ms (u.get Reg.PWR_CFG.NOTICE_MS))).pwrAsk else u)

/-- The unit wakes (R531, R542 to R545): from IDLE at once; from SLEEP and DEEP_SLEEP the wake phase starts. -/
def Chip.pwrWakeNow (u : Chip) (cause : Nat) : Chip :=
  let st := u.pwrState
  let u := u.put Reg.PWR_WAKE.CAUSE (u.get Reg.PWR_WAKE.CAUSE ||| cause)
  if st = 1 then
    let u := (u.pwrRestart).put Reg.PWR_STAT.STATE 0
    ((u.irq pwrPage 2).raiseAfter 102 0x03 [1, u.get Reg.PWR_WAKE.CAUSE, u.weirTime]).pwrStartPending
  else if st = 2 ∨ st = 3 then u.put Reg.PWR_STAT.PHASE 4
  else if st = 4 then { u with pwr := { u.pwr with hold := true } }
  else u

/-- A wake source (Table 19.3) by its bit: during an entry it is kept until the entry completes (R547). -/
def Chip.pwrWake (u : Chip) (b : Nat) : Chip :=
  let ph := u.get Reg.PWR_STAT.PHASE
  if ph = 1 ∨ ph = 2 then { u with pwr := { u.pwr with wakePend := u.pwr.wakePend ||| 2 ^ b } }
  else if u.pwrState = 0 ∨ (u.pwrState = 4 ∧ b ≠ 0) then u
  else u.pwrWakeNow (2 ^ b)

/-- Weir's part of an entry to SLEEP or deeper: every enable cleared, every permission withdrawn (05 Table 5.7). -/
def Chip.weirSleep (u : Chip) : Chip :=
  let u := u.enablesClear.permsClear
  { u with weir := { u.weir with lastSnap := none } }

/-- What DEEP_SLEEP does not retain (Table 19.1): the LPDDR4X without DDR_SR; with RETMODE = BANKS the Carafe and the macros of the
management SRAM that PWR_RETBANK does not name. The WARM reset at the wake resets the rest (R545). -/
def Chip.pwrForget (u : Chip) : Chip :=
  let u := if u.on Reg.PWR_CFG.DDR_SR then u else { u with ddr := [] }
  if u.on Reg.PWR_CFG.RETMODE then u
  else
    let kept := u.get Reg.PWR_RETBANK.MASK
    { u with msram := u.msram.filter (fun e => kept.testBit ((e.1 - 0x20000000) / 0x40000)), evr := { u.evr with carafe := [] } }

/-- The PLLs stop (R540), and Weir's PER check is suspended until the root PLL has locked again (05 Table 5.7). -/
def Chip.pllStop (u : Chip) : Chip :=
  let u := (((u.put Reg.CLK_STAT.ROOT_LOCK 0).put Reg.CLK_STAT.ON_PLL 0).put Reg.CLK_STAT.DDR_LOCK 0).put Reg.CLK_STAT.REF_OK 0
  (u.put Reg.CLK_CTL.PLL_EN 0).put Reg.CLK_CTL.SEL 0

/-- The PLLs run and are locked, the domains are on the root PLL (R544; 22 R593). -/
def Chip.pllStart (u : Chip) : Chip :=
  let u := (((u.put Reg.CLK_STAT.REF_OK 1).put Reg.CLK_STAT.ROOT_LOCK 1).put Reg.CLK_STAT.DDR_LOCK 1).put Reg.CLK_CTL.PLL_EN 1
  (u.put Reg.CLK_CTL.SEL 1).put Reg.CLK_STAT.ON_PLL 1

/-- Every block has consented: the state is entered (R540). A wake source that has come meanwhile wakes the unit at once. -/
def Chip.pwrEnter (u : Chip) : Chip :=
  let t := u.get Reg.PWR_STAT.TARGET
  let u := if t = 1 then u else u.weirSleep.pllStop.sinSleep
  let u := if t = 4 then { u with pwr := { u.pwr with hold := false }, weir := { u.weir with pfArmed := false, off := true } } else u
  let u := if t = 3 then u.pwrForget else u
  let u := (((u.put Reg.PWR_STAT.STATE t).put Reg.PWR_STAT.PHASE 0).put Reg.PWR_STAT.RESULT 1).satInc Reg.PWR_CNT.ENTRIES
  let u := (u.irq pwrPage 0).raiseAfter 102 0x01 [t, (u.now - u.pwr.startAt) / 100]
  let w := u.pwr.wakePend
  let u := { u with pwr := { u.pwr with wakePend := 0 } }
  if w = 0 then u else u.pwrWakeNow w

/-- A refusal or a missing answer: rollback to RUN (R539). -/
def Chip.pwrRollback (u : Chip) (pg why : Nat) : Chip :=
  let ty := match pageInfo pg with
    | some p => p.ty
    | none => 0
  let inst := match pageInfo pg with
    | some p => p.inst
    | none => 0
  let u := ((u.put Reg.PWR_REFUSER.TYPE ty).put Reg.PWR_REFUSER.INST inst).put Reg.PWR_REFUSER.WHY why
  let u := ((u.pwrRestart).put Reg.PWR_STAT.PHASE 0).put Reg.PWR_STAT.RESULT (why + 1)
  let u := (u.satInc Reg.PWR_CNT.REFUSALS).irq pwrPage 1
  let u := u.raiseAfter 102 0x02 [u.get Reg.PWR_STAT.TARGET, ty, inst, why]
  ({ u with pwr := { u.pwr with wakePend := 0 } }).pwrStartPending

/-- Notes the answer of the block asked (PWR_CLOG): 1 consent, 2 refusal, 3 no answer. -/
def Chip.pwrLog (u : Chip) (pg ans : Nat) : Chip :=
  let k := u.pwr.asked
  let u := match pageInfo pg with
    | some p => (u.put (Reg.PWR_CLOG.TYPE k) p.ty).put (Reg.PWR_CLOG.INST k) p.inst
    | none => u
  { (u.put (Reg.PWR_CLOG.ANSWER k) ans) with pwr := { u.pwr with asked := k + 1 } }

/-- CONSENT_ANSWER (R538, R539): the block asked answers; on consent it stops and the next one is asked. -/
def execConsentAnswer (ready : Bool) (s : State) : Host.Outcome State Fault Refusal :=
  let u := s.chip
  if u.get Reg.PWR_STAT.PHASE ≠ 2 then s.become u
  else match u.pwr.asks with
    | [] => s.become u
    | pg :: rest =>
      if u.consents pg ready then
        let u := (u.pwrLog pg 1).put (Reg.BLK_STAT.PWR (pageOf pg)) 3
        let u := { u with pwr := { u.pwr with asks := rest, stopped := pg :: u.pwr.stopped, askAt := u.now } }
        s.become (if rest = [] then u.pwrEnter else u)
      else s.become ((u.pwrLog pg 2).pwrRollback pg 1)

/-- CONSENT_TIMEOUT (R21, R539): no answer within 100 µs counts as a refusal. -/
def execConsentTimeout (s : State) : Host.Outcome State Fault Refusal :=
  let u := s.chip
  if u.get Reg.PWR_STAT.PHASE ≠ 2 then s.become u
  else match u.pwr.asks with
    | [] => s.become u
    | pg :: _ => s.become (((u.until (u.pwr.askAt + us 100)).pwrLog pg 3).pwrRollback pg 2)

/-- A power-fail trigger abandons an entry; the blocks restart, the event recorder first (Table 19.4, 05 R177). -/
def Chip.pwrAbandon (u : Chip) : Chip :=
  let ph := u.get Reg.PWR_STAT.PHASE
  if ph = 1 ∨ ph = 2 then
    let u := ((u.pwrRestart).put Reg.PWR_STAT.PHASE 0).put Reg.PWR_STAT.RESULT 7
    let u := { u with pwr := { u.pwr with wakePend := 0 } }
    (u.raiseAfter 102 0x05 [u.get Reg.PWR_STAT.TARGET, ph]).pwrStartPending
  else u.pwrWake 3

/-- IDLE_WAKE (R531): a pending management interrupt that a context enables. -/
def execIdleWake (s : State) : Host.Outcome State Fault Refusal :=
  let u := s.chip
  let waits := u.plic.enable.any (fun e => e &&& u.plic.pend != 0)
  s.become (if u.pwrState = 1 ∧ waits = true then u.pwrWake 4 else u)

/-- WAKE_N_LOW (R542, R546): WAKE_N is low for 1 µs. From OFF it raises PWR_HOLD. -/
def execWakeNLow (s : State) : Host.Outcome State Fault Refusal := s.become (s.chip.pwrWake 0)

/-- I2C_ADDRESS_MATCH (R543): the address byte on the management I2C target; SCL is held until the management core complex runs. -/
def execI2cAddressMatch (addr : Nat) (s : State) : Host.Outcome State Fault Refusal :=
  let u := s.chip
  if u.on Reg.PWR_CFG.I2C_EN && (u.get Reg.PWR_CFG.I2C_ADDR == addr) then
    let stopped := u.get (Reg.BLK_STAT.PWR 0x44000000) == 3
    s.become (({ u with pwr := { u.pwr with sclHeld := u.pwr.sclHeld || stopped } }).pwrWake 1)
  else s.become u

/-- AON_ALARM (R542): PWR_AON reaches PWR_ALARM with TIMER_EN. -/
def execAonAlarm (s : State) : Host.Outcome State Fault Refusal :=
  let u := s.chip
  if u.on Reg.PWR_CFG.TIMER_EN then
    let d := (u.get Reg.PWR_ALARM.COUNT + 2 ^ 48 - u.aonCount) % 2 ^ 48
    s.become ((u.advance ((d * 100000000 + 32767) / 32768)).pwrWake 2)
  else s.become u

end Sys2Proof.Machine
end

