-- ==== Sys2Proof/Machine/Sluice.lean ====
section
/-!
DEFINITION. Sluice (chapter 10): demand lines, output states, judgments, off-pulse tests, lockout and unlock; the apply
times of 07 R247; the clearing of an enable when its demand lines are low (05 R150).
-/
namespace Sys2Proof.Machine

/-- Page 0 of the Sluice controller. -/
def soutPage : Nat := 0x40500000

/-- What the controller holds of output `n`. -/
def Chip.out (u : Chip) (n : Nat) : SluiceOut := u.sout.outs.getD n {}

/-- Changes what the controller holds of output `n`. -/
def Chip.modOut (u : Chip) (n : Nat) (g : SluiceOut → SluiceOut) : Chip :=
  { u with sout := { u.sout with outs := modAt u.sout.outs n g } }

/-- State of output `n` (Table 10.1). -/
def Chip.outState (u : Chip) (n : Nat) : Nat := u.get (Reg.SOUT_ST.STATE n)

/-- Whether an output is used. -/
def Chip.outUsed (u : Chip) (n : Nat) : Bool := u.on (Reg.SOUT_CFG.USED n)

/-- A SOUT ball follows its demand only while the enable is set (01 R30); the gate reads a spacer or an illegal code as 0 (05 R137). -/
def Chip.soutHs (u : Chip) (n : Nat) : Bool := (u.get Reg.SOUT_DHS.VAL).testBit n && u.weir.en.get n

/-- The low-side ball of output `n`. -/
def Chip.soutLs (u : Chip) (n : Nat) : Bool := (u.get Reg.SOUT_DLS.VAL).testBit n && u.weir.en.get n

/-- Weir clears an enable whose output has both demand lines low and whose bit is 0 in the last checked image (05 R150). -/
def Chip.weirDemand (u : Chip) (n : Nat) : Chip :=
  if (u.get Reg.SOUT_DHS.VAL).testBit n || (u.get Reg.SOUT_DLS.VAL).testBit n || u.weir.lastV.testBit (u.get (Reg.WR_OMAP.BIT n)) then u
  else u.enable n false

/-- Drives the two demand lines of output `n` (R313). -/
def Chip.demand (u : Chip) (n : Nat) (hs ls : Bool) : Chip :=
  ((u.putBit Reg.SOUT_DHS.VAL n hs).putBit Reg.SOUT_DLS.VAL n ls).weirDemand n

/-- Cancels the tests and the waiting judgment of output `n` (R326). -/
def Chip.cancelTests (u : Chip) (n : Nat) : Chip :=
  u.modOut n (fun o => { o with hsDue := none, lsDue := none, judge := none, lowSeen := false, envSeen := none })

/-- Entry of output `n` to a state with both lines low (OFF, LOCKOUT) or both high (HELD). -/
def Chip.outEnter (u : Chip) (n st : Nat) (lines : Bool) : Chip :=
  ((((u.cancelTests n).modOut n (fun o => { o with entry := u.weirTime })).put (Reg.SOUT_ST.STATE n) st).demand n lines lines)

/-- Counts a DISCARDED test: reason 1 off-demand in pulse, 2 off-demand in recovery, 3 enable cleared (R331, Table 10.8); decided at
Weir time `at_` (R337). -/
def Chip.testDiscarded (u : Chip) (n reason at_ : Nat) : Chip :=
  ((u.satInc Reg.SOUT_CNT.DISCARDED).irq soutPage 2).raiseSince 24 0x04 [n, u.get (Reg.SOUT_ST.SIDE n), reason] at_

/-- Outputs of a group that are used. -/
def Chip.groupOuts (u : Chip) (g : Nat) : List Nat :=
  (List.range 32).filter (fun n => u.outUsed n && u.get (Reg.SOUT_CFG.GROUP n) == g)

/-- A failing judgment of output `n` puts its whole group in LOCKOUT (R332): readback `fb` and enable `env` at the judged sample, whose Weir
time is `at_` (R337). A group that is locked out already only records the cause of one more failing output. -/
def Chip.outLockout (u : Chip) (n cause : Nat) (fb env : Bool) (at_ : Nat) : Chip :=
  let g := u.get (Reg.SOUT_CFG.GROUP n)
  let side := u.get (Reg.SOUT_ST.SIDE n)
  if (u.get Reg.SOUT_LOCK.GRP).testBit g then u.put (Reg.SOUT_ST.CAUSE n) cause
  else
    let u := (u.groupOuts g).foldl (fun u m => (u.outEnter m 6 false).put (Reg.SOUT_ST.CAUSE m) 7) u
    let u := (u.put (Reg.SOUT_ST.CAUSE n) cause).setBit Reg.SOUT_LOCK.GRP g
    let u := if cause = 1 ∨ cause = 2 then u.irq soutPage 1 else u
    ((u.satInc Reg.SOUT_CNT.LOCKOUTS).irq soutPage 0).raiseSince 24 0x01 [n, g, cause, side, lvl fb, lvl env] at_

/-- ENV of output `n`, the controller's view of its enable (R317). -/
def Chip.envOf (u : Chip) (n : Nat) : Bool := (u.get Reg.SOUT_ENV.VAL).testBit n

/-- The commanded value of output `n` changes (R313, R322, R331). In the safe state no demand rises. -/
def Chip.outCommand (u : Chip) (n : Nat) (b : Bool) : Chip :=
  if !u.outUsed n || (u.out n).cmd == b || (b && u.on Reg.WR_STAT.SAFE) then u
  else
    let st := u.outState n
    let u := u.modOut n (fun o => { o with cmd := b })
    if st = 6 ∨ st = 0 then u
    else if b then (if st = 1 then u.outEnter n 2 true else u)
    else
      let u := u.outEnter n 1 false
      if st = 4 then u.testDiscarded n 1 u.weirTime else if st = 5 then u.testDiscarded n 2 u.weirTime else u

/-- Bits of image word `w`. -/
def imageWord (img w : Nat) : Nat := img / 2 ^ (32 * w) % 2 ^ 32

/-- The instant in [N − 2³¹, N + 2³¹) whose low 32 bits equal an apply word (07 R247). -/
def applyInstant (n word : Nat) : Nat :=
  let d := (word + 2 ^ 32 - n % 2 ^ 32) % 2 ^ 32
  if d < 2 ^ 31 then n + d else n + d - 2 ^ 32

/-- A released voted image reaches output `n` (R313; 07 R246, R247). A unit in witness role holds the output off
(00 R3). -/
def Chip.outImage (u : Chip) (img n : Nat) : Chip :=
  let bit := img.testBit (u.get (Reg.SOUT_CFG.BIT n)) && u.role != 3
  if !u.on (Reg.SOUT_CFG.TT n) then u.outCommand n bit
  else
    let word := imageWord img (u.get (Reg.SOUT_CFG.APPLY_WORD n))
    let o := u.out n
    let pending := match o.apply with
      | some p => p.bit == bit && p.word == word
      | none => false
    if pending || (o.lastBit == some bit && o.lastWord == word) then u
    else
      let t := applyInstant u.weirTime word
      let done := fun (u : Chip) => u.modOut n (fun o => { o with apply := none, lastBit := some bit, lastWord := word })
      if word = 0 then (done u).outCommand n bit
      else if t ≤ u.weirTime then
        if o.cmd = bit then done u
        else ((((done u).outCommand n bit).satInc Reg.SOUT_CNT.LATE).irq soutPage 5).raiseAfter 24 0x05 [n, word, u.weirTime]
      else u.modOut n (fun o => { o with apply := some ⟨bit, word, t⟩ })

/-- A released voted image changes the demand lines of every used output (R313). -/
def Chip.sluiceImage (u : Chip) (img : Nat) : Chip :=
  ((List.range 32).filter u.outUsed).foldl (fun u n => u.outImage img n) u

/-- The safe-state line (R331, 05 R173): every demand line falls, every test is abandoned without a result, every used
output outside LOCKOUT goes OFF, and pending time-triggered changes end. -/
def Chip.sluiceSafe (u : Chip) : Chip :=
  ((List.range 32).filter u.outUsed).foldl (fun u n =>
    let u := u.modOut n (fun o => { o with cmd := false, apply := none, lastBit := none })
    if u.outState n = 6 then u else if u.outState n = 1 then u.cancelTests n else u.outEnter n 1 false) u

/-- Any reset: used outputs go OFF, and LOCKOUT ends (Table 10.2); pending work ends. -/
def Chip.sluiceReset (u : Chip) : Chip :=
  { u with
    regs := (Reg.SOUT_LOCK.GRP).write ((Reg.SOUT_DLS.VAL).write ((Reg.SOUT_DHS.VAL).write u.regs 0) 0) 0
    sout := {} }

/-- Every used output is OFF and no group is locked out: any reset (Table 10.2). -/
def Chip.sluiceOff (u : Chip) : Chip :=
  ((List.range 32).filter u.outUsed).foldl (fun u n => (u.outEnter n 1 false).put (Reg.SOUT_ST.CAUSE n) 0) u

/-- Configuration load: UNUSED or OFF (Table 10.2). -/
def Chip.sluiceLoad (u : Chip) : Chip :=
  foldUpTo 32 u (fun u n => (u.put (Reg.SOUT_ST.STATE n) (if u.outUsed n then 1 else 0)).modOut n (fun o => { o with entry := u.weirTime }))

/-! ### Judgments -/

/-- SW_ON + FB_DLY + 10 µs in ticks. -/
def Chip.onSettle (u : Chip) : Nat := us (u.get Reg.SOUT_GCFG.SW_ON + u.get Reg.SOUT_GCFG.FB_DLY + 10)

/-- SW_OFF + FB_DLY + 10 µs in ticks. -/
def Chip.offSettle (u : Chip) : Nat := us (u.get Reg.SOUT_GCFG.SW_OFF + u.get Reg.SOUT_GCFG.FB_DLY + 10)

/-- Weir time at which the pulse of output `n` ends. -/
def Chip.pulseEndAt (u : Chip) (n : Nat) : Nat := (u.out n).pulseStart + u.get (Reg.SOUT_TCFG.PW n) * 1000

/-- Weir time at which the recovery window of output `n` ends. -/
def Chip.recoveryEndAt (u : Chip) (n : Nat) : Nat := u.pulseEndAt n + u.get (Reg.SOUT_TCFG.REC n) * 1000

/-- A judgment that depends on the enable waits for the first ENV read issued after its sample (R317). -/
def Chip.outAwaitEnv (u : Chip) (n : Nat) (j : OutJudge) : Chip :=
  if (u.out n).judge.isSome then u else u.modOut n (fun o => { o with judge := some j, judgeAt := u.weirTime })

/-- The judgment of Table 10.3 with the enable as read. -/
def Chip.outJudged (u : Chip) (n : Nat) (j : OutJudge) (env : Bool) : Chip :=
  let at_ := (u.out n).judgeAt
  let u := u.modOut n (fun o => { o with judge := none })
  match j, env with
  | .noRecover, false => (u.outEnter n 2 true).testDiscarded n 3 at_
  | .noRecover, true => u.outLockout n 2 false true at_
  | .dropout, false => u.outEnter n 2 true
  | .dropout, true => u.outLockout n 3 false true at_
  | .onFail, true => u.outLockout n 4 false true at_
  | .onFail, false => u.modOut n (fun o => { o with envSeen := none })

/-- The pulse width of output `n` has elapsed: RECOVER, or STUCK where no sample inside the pulse read low (Table 10.2). -/
def Chip.outPulseEnd (u : Chip) (n : Nat) : Chip :=
  if u.outState n = 4 ∧ u.pulseEndAt n ≤ u.weirTime then
    if (u.out n).lowSeen then ((u.put (Reg.SOUT_ST.STATE n) 5).demand n true true) else u.outLockout n 1 true (u.envOf n) u.weirTime
  else u

/-- One output at a sample (Tables 10.2 and 10.3). -/
def Chip.outSample (u : Chip) (n : Nat) : Chip :=
  let s := u.sampleTime
  let fb := (u.get Reg.SOUT_FBV.VAL).testBit n
  let o := u.out n
  let st := u.outState n
  if st = 1 then
    if fb && decide (o.entry + u.offSettle ≤ s) then
      let u := u.outLockout n 5 true (u.envOf n) s
      if u.on Reg.WR_STAT.SAFE then (u.irq soutPage 6).raiseAfter 24 0x06 [2 ^ n] else u
    else u
  else if st = 2 then
    if fb then
      (((u.cancelTests n).put (Reg.SOUT_ST.STATE n) 3).put (Reg.SOUT_ST.PASSES n) 0).modOut n (fun o =>
        { o with entry := s, hsDue := some (s + u.get (Reg.SOUT_TCFG.REC n) * 1000) })
    else
      match o.envSeen with
      | some e => if e + u.onSettle ≤ s then u.outAwaitEnv n .onFail else u
      | none => u
  else if st = 3 then (if fb then u else u.outAwaitEnv n .dropout)
  else if st = 4 then (if !fb && decide (o.pulseStart < s) then u.modOut n (fun o => { o with lowSeen := true }) else u)
  else if st = 5 then
    if o.judge.isSome then u
    else if fb then (u.put (Reg.SOUT_ST.STATE n) 3).satInc (Reg.SOUT_ST.PASSES n)
    else if u.recoveryEndAt n ≤ s then u.outAwaitEnv n .noRecover
    else u
  else u

/-! ### Unlock (R332 to R334) -/

/-- An unlock request acts on the groups of a mask that are in LOCKOUT. -/
def Chip.soutUnlock (u : Chip) (mask path tag : Nat) : Chip :=
  let groups := (List.range 16).filter (fun g => mask.testBit g && (u.get Reg.SOUT_LOCK.GRP).testBit g)
  let bad := fun g => (u.groupOuts g).filter (fun n => (u.out n).cmd || (u.get Reg.SOUT_FBV.VAL).testBit n)
  let ok := groups.filter (fun g => bad g == [])
  let no := groups.filter (fun g => bad g != [])
  let noOuts := maskOf (no.flatMap bad)
  let u := ok.foldl (fun u g =>
    ((u.groupOuts g).foldl (fun u n => (u.outEnter n 1 false).put (Reg.SOUT_ST.CAUSE n) 0) u).clearBit Reg.SOUT_LOCK.GRP g) u
  let u := if ok = [] then u else (u.irq soutPage 3).raiseAfter 24 0x02 [maskOf ok, path, tag]
  if no = [] then u else (u.irq soutPage 4).raiseAfter 24 0x03 [maskOf no, noOuts]

/-- Requests that wait act at this sample. -/
def Chip.soutRequests (u : Chip) : Chip :=
  let mask := u.get Reg.SOUT_UNLOCK.GRP
  let rst := u.sout.rstMask
  let u := if mask = 0 then u else (u.put Reg.SOUT_UNLOCK.GRP 0).soutUnlock mask 1 u.sout.unlockTag
  if rst = 0 then u else ({ u with sout := { u.sout with rstMask := 0 } }).soutUnlock rst 2 0

/-- The reset input as the safe input block passes it on (R333): a logical 1 of 100 ms to 2 s, accepted at the sample
that sees it fall while the input is NORMAL. -/
def Chip.soutReset (u : Chip) : Chip :=
  let i := u.get Reg.SOUT_RST.IN
  let high := (u.get Reg.SIN_LOG.VAL).testBit i
  let edge := (u.sinIn i).edge
  if !u.on Reg.SOUT_RST.IN_EN || u.sout.rstHigh == high then u
  else if high then { u with sout := { u.sout with rstHigh := true, rstRise := edge } }
  else
    let d := edge - u.sout.rstRise
    let ok := decide (ms 100 ≤ d ∧ d ≤ sec 2) && (u.get (Reg.SIN_ST.STATE i) == 2)
    let mask := if ok then u.sout.rstMask ||| u.get Reg.SOUT_RST.GRP_ACK else u.sout.rstMask
    { u with sout := { u.sout with rstHigh := false, rstMask := mask } }

/-- The Weir time of the controller's next sample. -/
def Chip.nextOutSample (u : Chip) : Nat := sampleNext u.weirTime u.sout.lastSample

/-- SOUT_SAMPLE (R316): the readbacks at the next sample instant, pulse ends, judgments, unlocks, the reset input. -/
def execSoutSample (fb : Nat) (s : State) : Host.Outcome State Fault Refusal :=
  let u := s.chip
  if !u.awake then s.become s.chip
  else
    let u := u.untilWeir u.nextOutSample
    let u := ((List.range 32).filter u.outUsed).foldl Chip.outPulseEnd u
    let u := u.put Reg.SOUT_FBV.VAL fb
    let u := u.soutRequests
    let u := ((List.range 32).filter u.outUsed).foldl Chip.outSample u
    let u := u.soutReset
    -- R316: the snapshot buffer carries the readback of the sample taken at the snapshot instant
    let sampled := if u.sampleTime % 25000 = 0 then (u.sampleTime, fb) else u.sout.sampled
    s.become ({ u with sout := { u.sout with lastSample := some u.sampleTime, sampled := sampled } })

/-- ENV_READ (R317): a read of WR_EN is issued, at once where a judgment waits for one, else at the next 100 µs. -/
def execEnvRead (s : State) : Host.Outcome State Fault Refusal :=
  let u := s.chip
  let lastIssue := u.sout.envReads.getLast?.getD 0
  let waits := u.sout.outs.any (fun o => o.judge.isSome && (u.sout.envReads == [] || decide (lastIssue < o.judgeAt)))
  let u := if waits then u else u.untilWeir u.sout.envDue
  let due := if waits then u.sout.envDue else u.weirTime + us 100
  s.become ({ u with sout := { u.sout with envReads := u.sout.envReads ++ [u.weirTime], envDue := due } })

/-- ENV takes the value of WR_EN; a HELD output notes the first read that shows its enable set. -/
def Chip.envUpdate (u : Chip) : Chip :=
  let en := u.get Reg.WR_EN.EN
  let u := u.put Reg.SOUT_ENV.VAL en
  ((List.range 32).filter (fun n => u.outState n == 2 && en.testBit n && (u.out n).envSeen.isNone)).foldl
    (fun u n => u.modOut n (fun o => { o with envSeen := some u.weirTime })) u

/-- ENV_READ_DONE (R317): the oldest read in flight returns, updates ENV and completes the judgments of samples taken
before it was issued. -/
def execEnvReadDone (s : State) : Host.Outcome State Fault Refusal :=
  let u := s.chip
  match u.sout.envReads with
  | [] => s.become s.chip
  | t :: rest =>
    let u := ({ u with sout := { u.sout with envReads := rest } }).envUpdate
    let en := u.get Reg.SOUT_ENV.VAL
    s.become ((List.range 32).foldl (fun u n =>
      match (u.out n).judge with
      | some j => if (u.out n).judgeAt ≤ t then u.outJudged n j (en.testBit n) else u
      | none => u) u)

/-! ### Off-pulse tests (R326 to R330) -/

/-- When the test of a side of output `n` falls due; only an output in ON is tested. -/
def Chip.testDue (u : Chip) (n : Nat) (ls : Bool) : Option Nat :=
  if u.outState n = 3 then (if ls then (u.out n).lsDue else (u.out n).hsDue) else none

/-- The order of due tests: due time, then output, then HS before LS (R328). -/
def testBefore (d n : Nat) (ls : Bool) (d' n' : Nat) (ls' : Bool) : Bool :=
  decide (d < d') || (d == d' && (decide (n < n') || (n == n' && !ls && ls')))

/-- Every test that is due at a Weir time. -/
def Chip.dueTests (u : Chip) (t : Nat) : List (Nat × Nat × Bool) :=
  (List.range 32).flatMap (fun n => [false, true].filterMap (fun ls =>
    match u.testDue n ls with
    | some d => if d ≤ t ∧ u.outUsed n then some (d, n, ls) else none
    | none => none))

/-- The 100 µs slots that a pulse of width `pw` × 10 µs from `start` occupies (R328). -/
def pulseSlots (start pw : Nat) : List Nat :=
  (List.range ((start + pw * 1000 - 1000) / 10000 + 1 - start / 10000)).map (fun k => start / 10000 + k)

/-- Pulses that occupy a slot. -/
def Chip.slotLoad (u : Chip) (slot : Nat) : Nat :=
  ((List.range 32).filter (fun n => u.outState n == 4 && (pulseSlots (u.out n).pulseStart (u.get (Reg.SOUT_TCFG.PW n))).contains slot)).length

/-- Whether a pulse of output `n` from Weir time `t` leaves every slot at no more than 4 pulses. -/
def Chip.slotFits (u : Chip) (n t : Nat) : Bool :=
  (pulseSlots t (u.get (Reg.SOUT_TCFG.PW n))).all (fun x => decide (u.slotLoad x < 4))

/-- The pulse of a due test starts now, at a slot boundary (R327, R328). -/
def Chip.pulseBegin (u : Chip) (n : Nat) (ls : Bool) : Chip :=
  let t := u.weirTime / 10000 * 10000
  match u.testDue n ls with
  | none => u
  | some d =>
    if decide (d ≤ t) && u.outUsed n && u.awake && u.slotFits n t &&
        (u.dueTests t).all (fun e => !testBefore e.1 e.2.1 e.2.2 d n ls) then
      let u := u.highWater Reg.SOUT_WAIT.WAIT ((t - d) / 1000)
      let int := u.get (Reg.SOUT_TCFG.INT n)
      let u := u.modOut n (fun o => { o with pulseStart := t, lowSeen := false, lsDue := if ls then none else some (t + int * 500000) })
      let u := if ls then u else u.modOut n (fun o => { o with hsDue := some (t + int * 1000000) })
      ((u.put (Reg.SOUT_ST.STATE n) 4).put (Reg.SOUT_ST.SIDE n) (lvl ls)).demand n ls (!ls)
    else u

/-- SOUT_TEST_DUE (R326): time reaches the due instant of a test of an output in ON. The due time is its place in the
order of R328; nothing else changes until a pulse starts. -/
def execSoutTestDue (n : Nat) (ls : Bool) (s : State) : Host.Outcome State Fault Refusal :=
  match s.chip.testDue n ls with
  | some d => s.become (s.chip.untilWeir d)
  | none => s.become s.chip

/-- SOUT_PULSE_START (R328): at the next slot boundary the due test starts, if it is first in due order and the slot
limit allows. -/
def execSoutPulseStart (n : Nat) (ls : Bool) (s : State) : Host.Outcome State Fault Refusal :=
  match s.chip.testDue n ls with
  | some d =>
    s.become ((s.chip.untilWeir ((max s.chip.weirTime d + 9999) / 10000 * 10000)).pulseBegin n ls)
  | none => s.become s.chip

/-- SOUT_PULSE_END (R322): the pulse width of output `n` elapses. -/
def execSoutPulseEnd (n : Nat) (s : State) : Host.Outcome State Fault Refusal :=
  s.become (if s.chip.outState n = 4 then (s.chip.untilWeir (s.chip.pulseEndAt n)).outPulseEnd n else s.chip)

/-- SOUT_RECOVERY_END (R322): the recovery window of output `n` ends with the readback low at its last sample, and the
output is judged with the next ENV read. -/
def execSoutRecoveryEnd (n : Nat) (s : State) : Host.Outcome State Fault Refusal :=
  let u := s.chip
  s.become (if u.outState n = 5 ∧ (u.get Reg.SOUT_FBV.VAL).testBit n = false then (u.untilWeir (u.recoveryEndAt n)).outAwaitEnv n .noRecover else u)

/-- SOUT_UNLOCK (R333, R336): the loader's mask requests unlocks at the next sample; other requesters are refused. -/
def Chip.soutUnlockWrite (u : Chip) (req mask tag : Nat) : Chip :=
  if req = 7 then
    (({ u with sout := { u.sout with unlockTag := tag } }).put Reg.SOUT_UNLOCK.GRP (u.get Reg.SOUT_UNLOCK.GRP ||| mask)).answer .ok
  else u.planeRefused req 0x40500048

/-- APPLY_TIME (07 R247): Weir time reaches the apply time of output `n`, and the demand takes the new bit. -/
def execApplyTime (n : Nat) (s : State) : Host.Outcome State Fault Refusal :=
  match (s.chip.out n).apply with
  | some p =>
    let u := s.chip.untilWeir p.time
    let u := u.modOut n (fun o => { o with apply := none, lastBit := some p.bit, lastWord := p.word })
    s.become (u.outCommand n p.bit)
  | none => s.become s.chip

/-- The start-up off test (R324): outputs whose readback read high lock out their group. -/
def Chip.sluiceOffTest (u : Chip) (fb : Nat) : Chip :=
  ((List.range 32).filter (fun n => u.outUsed n && fb.testBit n)).foldl (fun u n => u.outLockout n 5 true (u.envOf n) u.weirTime) (u.put Reg.SOUT_FBV.VAL fb)

/-- The readback comparator test of SELFTEST (R323). -/
def Chip.sluiceComparatorTest (u : Chip) (failing : Nat) : Chip :=
  ((List.range 32).filter (fun n => u.outUsed n && failing.testBit n)).foldl (fun u n => u.outLockout n 6 ((u.get Reg.SOUT_FBV.VAL).testBit n) (u.envOf n) u.weirTime) u

/-! ### Load rejections -/

/-- R315: a used output whose image bit differs from the one Weir maps. -/
def Chip.rejectsR315 (u : Chip) : Bool :=
  ((List.range 32).filter u.outUsed).any (fun n => u.get (Reg.SOUT_CFG.BIT n) != u.get (Reg.WR_OMAP.BIT n))

/-- R325: pulse width or recovery window too short, or test times out of range. -/
def Chip.rejectsR325 (u : Chip) : Bool :=
  ((List.range 32).filter u.outUsed).any (fun n =>
    let pw := u.get (Reg.SOUT_TCFG.PW n)
    let rec' := u.get (Reg.SOUT_TCFG.REC n)
    let int := u.get (Reg.SOUT_TCFG.INT n)
    decide (pw < 5 ∨ 100 < pw ∨ rec' < 1 ∨ 50 < rec' ∨ int < 2 ∨ 6000 < int) ||
    decide (pw * 10 < u.get Reg.SOUT_GCFG.SW_OFF + u.get Reg.SOUT_GCFG.FB_DLY + 20) ||
    decide (rec' * 10 < u.get Reg.SOUT_GCFG.SW_ON + u.get Reg.SOUT_GCFG.FB_DLY + 10))

/-- R335: apply words that are a lattice area, the steering word or a word with a used output bit; a reset input that is
unused; switch times out of range. The lattice areas are UPD_CNT words from UPD_BASE and REQ_CNT words from REQ_BASE
(06 R189). -/
def Chip.rejectsR335 (u : Chip) : Bool :=
  ((List.range 32).filter (fun n => u.outUsed n && u.on (Reg.SOUT_CFG.TT n))).any (fun n =>
    let w := u.get (Reg.SOUT_CFG.APPLY_WORD n)
    let inArea := fun base cnt => decide (base ≤ w ∧ w < base + cnt)
    inArea (u.get Reg.LAT_CFG.UPD_BASE) (u.get Reg.LAT_CFG.UPD_CNT) || inArea (u.get Reg.LAT_CFG.REQ_BASE) (u.get Reg.LAT_CFG.REQ_CNT) ||
    (u.on Reg.WR_CFG.STEER_EN && u.get Reg.WR_CFG.STEER_WORD == w) ||
    ((List.range 32).filter u.outUsed).any (fun m => u.get (Reg.SOUT_CFG.BIT m) / 32 == w)) ||
  (u.on Reg.SOUT_RST.IN_EN && !u.sinUsed (u.get Reg.SOUT_RST.IN)) ||
  decide (500 < u.get Reg.SOUT_GCFG.SW_ON ∨ 500 < u.get Reg.SOUT_GCFG.SW_OFF ∨ 100 < u.get Reg.SOUT_GCFG.FB_DLY)

end Sys2Proof.Machine
end

