-- ==== Sys2Proof/Machine/Operands.lean ====
section
/-!
DEFINITION. The operand forms that the spec lays out: ZST frames (12 Table 12.1), maintenance-gate commands (08 Table 8.1), loader
frames (Tables 8.10, 8.11), lattice request words (06 Table 6.7), register messages of the bridge (15 Table 15.4).
-/
namespace Sys2Proof.Machine

/-! ### ZST frames (12 Table 12.1) -/

/-- KIND of a frame. -/
def frKind (f : List Byte) : Nat := beAt f 0 1 % 16

/-- VER of a frame. -/
def frVer (f : List Byte) : Nat := beAt f 0 1 / 16

/-- FLAGS of a frame. -/
def frFlags (f : List Byte) : Nat := beAt f 1 1

/-- LEN of a frame. -/
def frLen (f : List Byte) : Nat := beAt f 2 2

/-- SRC of a frame. -/
def frSrc (f : List Byte) : Nat := beAt f 4 4

/-- DST of a frame. -/
def frDst (f : List Byte) : Nat := beAt f 8 4

/-- SEQ of a frame. -/
def frSeq (f : List Byte) : Nat := beAt f 12 4

/-- TS of a frame. -/
def frTs (f : List Byte) : Nat := beAt f 16 8

/-- CLAIM of a frame. -/
def frClaim (f : List Byte) : Nat := beAt f 24 4

/-- CID of a frame. -/
def frCid (f : List Byte) : Nat := beAt f 28 2

/-- The payload of a frame. -/
def frPayload (f : List Byte) : List Byte := (f.drop 32).take (frLen f)

/-- The safety code of a frame. -/
def frCode (f : List Byte) : Nat := beAt f (32 + frLen f) 8

/-! ### Gate commands and loader frames -/

/-- ARGS: 48 bytes. -/
def argBytes (l : List Byte) : List Byte := (l ++ List.replicate 48 0).take 48

/-- The entries of a loader frame's payload: address and value (Table 8.10). -/
def loaderEntries (p : List Byte) : List (Nat × Nat) :=
  (List.range (beAt p 1 1)).map (fun k => (beAt p (8 + 8 * k) 4, beAt p (12 + 8 * k) 4))

/-- The value of a directive in a frame. -/
def directive (l : List (Nat × Nat)) (d : Nat) : Option Nat := (l.find? (fun e => e.1 == d)).map (fun e => e.2)

/-! ### Request words, register messages -/

/-- A request word (06 Table 6.7). -/
def requestWord (op route : Nat) : Nat := 2 ^ 31 + op * 2 ^ 29 + route % 2048

/-- A register message (Table 15.4). -/
def brMessage (op c tag addr : Nat) (data : List Byte) : List Byte := beBytes 1 (op * 16 + c) ++ beBytes 1 tag ++ beBytes 4 addr ++ data

end Sys2Proof.Machine
end

