-- ==== Sys2Proof/Machine/Zst.lean ====
section
/-!
DEFINITION. The ZST protocol engine (chapter 12): frame fields, transmit queues and quotas, gating, receive filter and
store, channel reads.
-/
namespace Sys2Proof.Machine

/-- Page 0 of the ZST engine. -/
def zstPage : Nat := 0x40600000

/-! ### Frame layout (Table 12.1) -/

/-! ### Messages (04 R103) -/

/-- A message of the message area: descriptor fields and frame bytes. -/
structure Msg where
  lg : Bool
  conn : Nat
  bytes : List Byte
  deriving DecidableEq, Repr

/-- The messages of a message area. `fuel` bounds their number. Bytes lie in words lowest first (02 R35, log 13). -/
def splitMsgs : Nat → List Nat → List Msg
  | 0, _ => []
  | _, [] => []
  | fuel + 1, d :: ws =>
    let len := d % 2 ^ 16
    let n := (len + 3) / 4
    ⟨d.testBit 31, d / 2 ^ 16 % 2 ^ 9, ((ws.take n).flatMap (leBytes 4)).take len⟩ :: splitMsgs fuel (ws.drop n)

/-- The messages of a message area. -/
def messagesOf (ws : List Nat) : List Msg := splitMsgs ws.length ws

/-! ### Transmitting (R361, R362) -/

/-- Changes the transmit queue of a port. -/
def Chip.modTxq (u : Chip) (p : Nat) (g : List TxFrame → List TxFrame) : Chip :=
  { u with zst := { u.zst with txq := modAt u.zst.txq p g } }

/-- The ports of a connection. -/
def Chip.connPorts (u : Chip) (c : Nat) : List Nat :=
  [u.get (Reg.ZST_CONN.PORT_A c), u.get (Reg.ZST_CONN.PORT_B c)].filter (fun p => decide (p < 12))

/-- A frame beyond the quota is discarded, counted and reported (R362). -/
def Chip.txDrop (u : Chip) (p c reason : Nat) : Chip :=
  ((u.satInc (Reg.ZST_PSTAT.TXDROP p)).irq zstPage 4).raise 25 0x03 [p, c, reason]

/-- Admits a frame on a port within the quota of the base cycle, or discards it and every later one of the cycle. -/
def Chip.txAdmit (u : Chip) (p : Nat) (f : TxFrame) : Chip :=
  let q := u.zst.quota.getD p {}
  let reason := if q.exceeded ≠ 0 then q.exceeded
    else if u.get (Reg.ZST_PCFG.TXQ_FR p) < q.frames + 1 then 1
    else if u.get (Reg.ZST_PCFG.TXQ_B p) < q.bytes + f.bytes.length then 2
    else 0
  let q' := if reason = 0 then { q with frames := q.frames + 1, bytes := q.bytes + f.bytes.length } else { q with exceeded := reason }
  let u := { u with zst := { u.zst with quota := modAt u.zst.quota p (fun _ => q') } }
  if reason = 0 then u.modTxq p (fun l => l ++ [f]) else u.txDrop p f.conn reason

/-- A connection with CB_EN = 1 on both of its ports uses the 802.1CB functions (14 R418). -/
def Chip.cbConn (u : Chip) (c : Nat) : Bool :=
  (u.connPorts c).length == 2 && (u.connPorts c).all (fun p => decide (4 ≤ p ∧ p ≤ 7) && u.portCfg p Reg.PORT_CFG.CB_EN != 0)

/-- The next R-TAG sequence number of a message of a connection, one sequence per VID (14 R418). -/
def Chip.cbNext (u : Chip) (c : Nat) : Option Nat × Chip :=
  if u.cbConn c then
    let vid := u.portCfg (u.get (Reg.ZST_CONN.PORT_A c)) Reg.PORT_CFG.VID
    let n := assoc u.zst.cbSeq vid 0
    (some n, { u with zst := { u.zst with cbSeq := assocPut u.zst.cbSeq vid ((n + 1) % 65536) } })
  else (none, u)

/-- Queues one message of result `res`; `pos` is its place among the lattice-gated messages of the result. Gated messages
after the 64th are discarded (06 R210); a SELF connection is never transmitted; a unit in witness role sends no
lattice-gated message (00 R3). -/
def Chip.zstQueue (u : Chip) (res pos : Nat) (m : Msg) : Chip :=
  if u.on (Reg.ZST_CONN.SELF m.conn) || (m.lg && (decide (64 ≤ pos) || u.role == 3)) then u
  else
    let r := u.cbNext m.conn
    (r.2.connPorts m.conn).foldl (fun u p => u.txAdmit p (TxFrame.mk m.conn m.bytes (if m.lg then .waiting res pos else .none) r.1)) r.2

/-- The number of gated messages before each message. -/
def gatePos (l : List Msg) : List (Nat × Msg) :=
  (l.foldl (fun (a : Nat × List (Nat × Msg)) m => (if m.lg then a.1 + 1 else a.1, a.2 ++ [(a.1, m)])) (0, [])).2

/-- The messages of a released result enter the queues, and the engine sends Weir its gate query (R361, 06 R210). -/
def Chip.zstRelease (u : Chip) (msgs : List Msg) : Chip :=
  let res := u.zst.results
  let u := (gatePos msgs).foldl (fun u e => u.zstQueue res e.1 e.2) u
  let z := u.zst
  let q := (msgs.filter (fun m => m.lg)).map (fun m => m.conn)
  { u with zst := { z with results := res + 1, awaiting := z.awaiting ++ [res] }, link := { u.link with queries := u.link.queries ++ [q] } }

/-- The safe-state line and the start of a reset: every queued frame is discarded (R363). -/
def Chip.zstStop (u : Chip) : Chip :=
  { u with zst := { u.zst with txq := List.replicate 12 [], awaiting := [], beacons := [] } }

/-- The frame of a queue under the verdict of result `res`. -/
def applyVerdict (res : Nat) (go : List Bool) (l : List TxFrame) : List TxFrame :=
  l.filterMap (fun f => match f.gate with
    | .waiting r pos => if r = res then (if go.getD pos false then some { f with gate := .go } else none) else some f
    | _ => some f)

/-- VERDICT_RECEIVE (R361): the oldest verdict marks the GO frames and discards the DENY frames of its result. -/
def execVerdictReceive (s : State) : Host.Outcome State Fault Refusal :=
  let u := s.chip
  match u.link.verdicts, u.zst.awaiting with
  | v :: vs, res :: rest =>
    let z := u.zst
    s.become ({ u with link := { u.link with verdicts := vs }, zst := { z with awaiting := rest, txq := z.txq.map (applyVerdict res v) } })
  | _ :: vs, [] => s.become ({ u with link := { u.link with verdicts := vs } })
  | [], _ => s.become u

/-! ### Receiving (R364 to R366) -/

/-- RANK and WITNESS_EN as latched (05 Table 5.3). -/
def Chip.rankStrap (u : Chip) : Nat := bits (u.get Reg.WR_SEAL.LATCHED) 2 2
def Chip.witnessEn (u : Chip) : Bool := (u.get Reg.WR_SEAL.LATCHED).testBit 3

/-- The roles of 13 Table 13.1: a partner of a pair; a witness of one pair. -/
def Chip.isPartner (u : Chip) : Bool := u.witnessEn && (u.role == 0 || u.role == 2)
def Chip.isWitness (u : Chip) : Bool := u.witnessEn && (u.role == 1 || u.role == 3)

/-- The CID that a partner uses on a connection (13 R386), `cid` being the configured one: rank strap 1 exchanges those of
PR_PEER and of PR_MIR, and adds 1 on PR_HB.TX. -/
def Chip.pairCid (u : Chip) (cid : Nat → Nat) (c : Nat) : Nat :=
  if u.isPartner && u.rankStrap == 1 then
    let pt := u.get Reg.PR_PEER.TX
    let pr := u.get Reg.PR_PEER.RX
    let mt := u.get Reg.PR_MIR.TX
    let mr := u.get Reg.PR_MIR.RX
    if c = pt then cid pr else if c = pr then cid pt else if c = mt then cid mr else if c = mr then cid mt
    else if c = u.get Reg.PR_HB.TX then (cid c + 1) % 2 ^ 16 else cid c
  else cid c

/-- The CID by which the engine routes a connection (13 R386). -/
def Chip.routeCid (u : Chip) (c : Nat) : Nat := u.pairCid (fun k => u.get (Reg.ZST_CONN.CID k)) c

/-- The used RX connection of a frame on a port: same SRC and CID, routed to the port. -/
def Chip.rxConn (u : Chip) (port : Nat) (f : List Byte) : Option Nat :=
  (List.range 512).find? (fun c => u.on (Reg.ZST_CONN.USED c) && (u.get (Reg.ZST_CONN.DIR c) == 0) &&
    (u.get (Reg.ZST_PEER.PEER c) == frSrc f) && (u.routeCid c == frCid f) && (u.connPorts c).contains port)

/-- A stranger is counted; its event comes at most once per second and port (R364). -/
def Chip.zstStranger (u : Chip) (port : Nat) (f : List Byte) : Chip :=
  let s := u.zst.strangers.getD port {}
  let u := u.satInc (Reg.ZST_PSTAT.STRANGER port)
  let due := match s.last with
    | none => true
    | some t => decide (t + sec 1 ≤ u.now)
  let s' : Stranger := if due then { since := 0, last := some u.now } else { s with since := s.since + 1 }
  let u := { u with zst := { u.zst with strangers := modAt u.zst.strangers port (fun _ => s') } }
  if due then (u.irq zstPage 2).raise 25 0x01 [port, frSrc f, frCid f, s.since + 1] else u

/-- Frees the frames at the front of the store that every channel of the voting set has passed (R366). -/
def freeFront (mask : Nat) : List RxFrame → List RxFrame
  | [] => []
  | f :: t => if mask ≠ 0 ∧ (f.passed &&& mask) = mask then freeFront mask t else f :: t

/-- Frees passed frames; reading positions count every frame ever stored. -/
def Chip.zstFree (u : Chip) : Chip :=
  let l := freeFront (u.get Reg.CF_MODE.MASK) u.zst.store
  { u with zst := { u.zst with store := l, freed := u.zst.freed + (u.zst.store.length - l.length) } }

/-- Bytes in the receive store. -/
def Chip.storeFill (u : Chip) : Nat := u.zst.store.foldl (fun n f => n + f.bytes.length) 0

/-- The engine receives a frame on a port (R364, R365). -/
def Chip.zstReceive (u : Chip) (port : Nat) (f : List Byte) : Chip :=
  if 12 ≤ port ∨ frDst f ≠ u.get Reg.ZST_ID.ID ∨ f.length < 12 then u
  else if u.rxConn port f = none then u.zstStranger port f
  else
    let reason := if 0x40000 < u.storeFill + f.length then 1
      else if u.get Reg.ZST_GCFG.RX_FR * 16 ≤ u.zst.inBatch then 2 else 0
    if reason ≠ 0 then ((u.satInc Reg.ZST_RXCNT.DROP).irq zstPage 3).raise 25 0x02 [port, frSrc f, frCid f, reason]
    else
      let z := u.zst
      let u := { u with zst := { z with store := z.store ++ [RxFrame.mk port z.batch f 0], inBatch := z.inBatch + 1 } }
      (u.highWater Reg.ZST_RXCNT.STORE_HWM ((u.storeFill + 15) / 16)).irq zstPage 0

/-- ZST_FRAME_RX (R364, R365): arrival port and frame bytes. Only a port of class SAFE delivers frames to the engine (14 R409), and none
whose protocol engine has failed (14 R431). -/
def execZstFrameRx (port : Nat) (f : List Byte) (s : State) : Host.Outcome State Fault Refusal :=
  let u := s.chip
  s.become (if u.portClass port = 0 ∧ (u.ports.getD port {}).disabled = false then u.zstFree.zstReceive port f else u)

/-- The snapshot strobe closes the batch and opens the quota of the next base cycle (R362, R365). -/
def Chip.zstStrobe (u : Chip) : Chip :=
  ({ u with zst := { u.zst with batch := u.zst.batch + 1, inBatch := 0, quota := List.replicate 12 {} } }).irq zstPage 1

/-- A read of ZST_RX_HDR by channel `c` starts the next frame (Table 12.13); the frame before it has been passed. -/
def Chip.rxHdr (u : Chip) (c : Nat) : Chip :=
  let z := u.zst
  let r := z.reads.get c
  let mark := fun (l : List RxFrame) => (l.zipIdx).map (fun (e : RxFrame × Nat) =>
    if e.2 + z.freed < r.next then { e.1 with passed := e.1.passed ||| 2 ^ c } else e.1)
  let i := max r.next z.freed
  match z.store[i - z.freed]? with
  | none =>
    let u := { u with zst := { z with store := mark z.store, reads := z.reads.set c { next := i, rest := [] } } }
    u.zstFree.answer (.data 0)
  | some f =>
    let v := 2 ^ 31 + f.port * 2 ^ 27 + f.bytes.length % 2 ^ 11 * 2 ^ 16 + f.batch % 2 ^ 16
    let u := { u with zst := { z with store := mark z.store, reads := z.reads.set c { next := i + 1, rest := f.bytes } } }
    u.zstFree.answer (.data v)

/-- A read of ZST_RX_DAT by channel `c` returns the next four bytes, the first in bits [31:24]; 0 beyond the frame. -/
def Chip.rxDat (u : Chip) (c : Nat) : Chip :=
  let r := u.zst.reads.get c
  let b := r.rest.take 4
  let v := beNat (b ++ List.replicate (4 - b.length) 0)
  ({ u with zst := { u.zst with reads := u.zst.reads.set c { r with rest := r.rest.drop 4 } } }).answer (.data v)

end Sys2Proof.Machine
end

