-- ==== Sys2Proof/Machine/Safe.lean ====
section
/-!
DEFINITION. The safe state (21 R578, R579; 05 R173; 04 R110) and the output mirror (04 R133): what one entry to the safe
state does to every block.
-/
namespace Sys2Proof.Machine

/-! ### Output mirror (01 R17, 04 R133) -/

/-- Base address of a mirror buffer. -/
def mirrorBase (b : Nat) : Nat := 0x31000000 + b * 0x20000

/-- Writes a record into the buffer that readers are not directed to, then makes it current (R17, Table 4.8). -/
def Chip.mirrorPublish (u : Chip) (task minority mask mode seq : Nat) (img : Nat) (msgs : List Nat) : Chip :=
  let b := 1 - u.get Reg.MIR_STAT.CUR
  let cyc := (u.get Reg.MIR_CYCLE.COUNT + 1) % 2 ^ 32
  let flags := task % 8 * 2 ^ 13 + minority % 8 * 2 ^ 10 + mask % 8 * 2 ^ 4 + mode % 4
  let m := memClear u.conf.mirror (mirrorBase b) 0x11000
  let m := memWriteBytes m (mirrorBase b)
    (leBytes 4 cyc ++ leBytes 4 flags ++ leBytes 4 (seq % 2 ^ 24 * 256) ++ leBytes 4 (4 * msgs.length) ++ leBytes 8 u.weirTime)
  let m := memWriteBytes m (mirrorBase b + 0x40) (leBytes 512 img)
  let m := memWriteBytes m (mirrorBase b + 0x240) (msgs.flatMap (leBytes 4))
  (({ u with conf := { u.conf with mirror := m } }).put Reg.MIR_STAT.CUR b).put Reg.MIR_CYCLE.COUNT cyc

/-! ### Confluence in SAFE (04 R110) -/

/-- Page 0 of Confluence. -/
def cfPage : Nat := 0x40300000

/-- Old and new mode and voting set, the channel concerned and its cause (Table 4.15); 3 stands for no channel. -/
def Chip.modeChange (u : Chip) (mode mask c cause : Nat) : Chip :=
  let om := u.get Reg.CF_MODE.MODE
  let os := u.get Reg.CF_MODE.MASK
  let u := (u.put Reg.CF_MODE.MODE mode).put Reg.CF_MODE.MASK mask
  let u := foldUpTo 3 u (fun u n => u.put (Reg.CF_PSTAT.PSTATE n) (if mask.testBit n then 2 else
    if u.get (Reg.CF_PSTAT.PSTATE n) = 2 then 0 else u.get (Reg.CF_PSTAT.PSTATE n)))
  u.irqAfter cfPage 22 2 [om, os, mode, mask, c, cause]

/-- Confluence enters SAFE with a fault code: voted image zero, nothing more released, the resynchronisation abandoned, a
final mirror record. Its TASK and SEQ are not stated: a free value (log 14). -/
def Chip.confStop (u : Chip) (fcode : Nat) : Chip :=
  let u := u.irqAfter cfPage 22 4 [fcode]
  let u := u.modeChange 0 0 3 0
  let v := u.conf
  let ports : Per3 CfPort := ⟨{ v.ports.a with queue := [], wait := [] }, { v.ports.b with queue := [], wait := [] }, { v.ports.c with queue := [], wait := [] }⟩
  let v := { v with ports := ports, window := none, releases := [], recon := none, voted := 0, rs := {} }
  let u := ((({ u with conf := v }).put Reg.CF_MODE.RS_PHASE 0).put Reg.CF_RS.DIRTY 0).sluiceImage 0
  let u := foldUpTo 3 u (fun u n => (u.put (Reg.CF_PSTAT.SLOTS n) 0).put (Reg.CF_PSTAT.PSTATE n) 0)
  let f := u.free
  f.2.mirrorPublish (f.1 / 2 ^ 24) 0 0 0 f.1 0 []

/-- A logic-die condition puts Confluence into SAFE and asks Weir for the safe state (R110, 21 R579). -/
def Chip.confSafe (u : Chip) (fcode : Nat) : Chip :=
  let u := (u.captureCause fcode).confStop fcode
  { u with link := { u.link with safeReq := true } }

/-! ### Weir's safe state (05 R173) -/

/-- Page 0 of Weir's general block. -/
def weirPage : Nat := 0x50000000

/-- Order of causes found in one tick: by code, PFAIL and SUPPLY last (R173). -/
def causeRank (c : Nat) : Nat := if c = 6 ∨ c = 7 then c + 0x100 else c

/-- The rollbacks of a channel end when the safe-state line is asserted (03 R88): its twins stand until a reset (DESIGN CHOICE: log 104). -/
def Channel.abandonRollback (c : Channel) : Channel :=
  let stop := fun (t : Twin) => if t.rb.isSome then { t with rb := none, stopped := true } else t
  { c with logic := stop c.logic, link := stop c.link }

/-- Drives the safe-state line. -/
def Chip.modWeirLine (u : Chip) (b : Bool) : Chip := { u with weir := { u.weir with line := u.weir.line.put 0 b } }

/-- The safe-state line (R578, 10 R331, 12 R363, 17 Table 17.2, 19 Table 19.3, 05 R162). -/
def Chip.safeLine (u : Chip) (fcode : Nat) : Chip :=
  let u := (u.sluiceSafe).zstStop
  let u := if u.get Reg.CF_MODE.MODE = 0 then u else u.confStop fcode
  let u := foldUpTo 3 u (fun u c => (u.put (Reg.CH_STATE.RB_LT c) 0).put (Reg.CH_STATE.RB_LK c) 0)
  let h := u.chans
  let u := { u with chans := ⟨h.a.abandonRollback, h.b.abandonRollback, h.c.abandonRollback⟩ }
  (u.modWeirLine true).evrSafeLine.pwrWake 3

/-- Weir finds a cause of Table 5.6. In the safe state already, only the order of causes of one tick is judged; otherwise
(the boot hold included, 22 R601) Weir enters the safe state. Cause 0x09 was captured when Confluence entered SAFE. -/
def Chip.weirSafe (u : Chip) (cause : Nat) : Chip :=
  let u := if cause = 9 then u else u.captureCause (0x1000 + cause)
  let latched := u.on Reg.WR_STAT.SAFE && !u.weir.hold
  if latched then
    if u.weir.causeAt = u.weirTime ∧ causeRank cause < causeRank (u.get Reg.WR_STAT.CAUSE) then u.put Reg.WR_STAT.CAUSE cause else u
  else
    let u := (((u.enablesClear).put Reg.WR_STAT.SAFE 1).put Reg.WR_STAT.LOCKOUT 1).put Reg.WR_STAT.CAUSE cause
    let u := { u with
      weir := { u.weir with hold := false, causeAt := u.weirTime, openCheck := none }
      lat := { u.lat with pend := none, port := [], passed := [] } }
    let u := ((u.permsClear).put Reg.WR_VC.OPEN 0).captureEntry
    let u := u.irqAfter weirPage 0 0 [cause, u.weirTime, u.regRead 0x50000040]
    u.safeLine (u.get Reg.FLT_FIRST.FCODE)

/-- SAFE_REQUEST_FLIT (21 R579): Confluence's request reaches Weir. -/
def execSafeRequestFlit (s : State) : Host.Outcome State Fault Refusal :=
  let u := s.chip
  s.become (if u.link.safeReq then ({ u with link := { u.link with safeReq := false } }).weirSafe 9 else u)

/-- What Weir does of its own; without power, in OFF, it does nothing until its POR (05 R177). -/
def State.weirDoes (s : State) (u : Chip) : Host.Outcome State Fault Refusal := s.become (if s.chip.weir.off then s.chip else u)

end Sys2Proof.Machine
end

