-- ==== Sys2Proof/Machine/Access.lean ====
section
/-!
DEFINITION. What every register page does on its own: BLK_LOCK, BLK_CRC, error injection, the plane rule (02 R38, R44 to
R49, R52), self-gating (R50, R51).
-/
namespace Sys2Proof.Machine

/-! ### Errors of an access -/

/-- LOCK_VIOL (R46): error response. -/
def Chip.lockViol (u : Chip) (a : Nat) : Chip :=
  ((u.put (Reg.BLK_ERR.LOCK_VIOL (pageOf a)) 1).refreshLines (page0 a)).refuse

/-- ACCESS (R35, R41): error response. -/
def Chip.accessErr (u : Chip) (a : Nat) : Chip :=
  ((u.put (Reg.BLK_ERR.ACCESS (pageOf a)) 1).refreshLines (page0 a)).refuse

/-- Whether a requester's write to a page breaks R38: a control-plane page takes writes from the loader alone. Event intake
page 1 has its own rule (16 R480). -/
def Chip.planeBars (u : Chip) (req a : Nat) : Bool := pageBarred u req a

/-! ### BLK_CRC (R48, R49) -/

/-- The RWL fields of a register as it goes into BLK_CRC; none where the register has no RWL field. BLK_PWR of a control-plane
page ignores writes (R50). -/
def Chip.crcWord (u : Chip) (pg off : Nat) : Option Nat :=
  let own := decide (0x40 ≤ off) || page0 pg == pg
  let cp := match pageInfo pg with
    | some p => u.controlPage p && off == 0x1C
    | none => false
  let l := (regPieces (pg + off)).filter (fun p => p.fld.acc == .rwl)
  if own && !cp && !l.isEmpty then some (u.readPieces l) else none

/-- CRC-32C over the RWL registers of a page; 0 where it has none (R48). -/
def Chip.pageCrc (u : Chip) (pg : Nat) : Nat :=
  let l := (List.range 1024).filterMap (fun k => u.crcWord pg (4 * k))
  if l.isEmpty then 0 else crcOf crc32c (l.flatMap (leBytes 4))

/-- BLK_CRC as read: RWL registers change only under an open lock, so a closed page reads the CRC of its registers; an open
one the value from before (R47; log 25). -/
def Chip.blkCrc (u : Chip) (pg : Nat) : Nat := if u.on (Reg.BLK_LOCK.OPEN pg) then u.get (Reg.BLK_CRC.CRC pg) else u.pageCrc pg

/-- A fault that a logic-die page finds: the safe state by the Confluence path (21 R579), or a further cause in it. -/
def Chip.logicFault (u : Chip) (fcode : Nat) : Chip := if u.flt.firstAt.isSome then u.captureCause fcode else u.confSafe fcode

/-- CRC_DRIFT (`k` 1) or REGPAR (`k` 2) of a page as a fault (21 Table 21.2; log 26 for a SAFE port's page). -/
def Chip.pageFault (u : Chip) (pg k : Nat) : Chip :=
  match pageInfo pg with
  | some p => if p.ty / 256 = 0xC0 then u.logicFault (0x4000 + p.ty % 256 * 16 + k) else u.nonsafetyFault 0x6006
  | none => u

/-- The event source of the page at an address. -/
def srcOf (a : Nat) : Nat :=
  match pageInfo a with
  | some p => pageSource p
  | none => 4

/-- An event of a page, marked as injected or not (R52). -/
def Chip.pageEvent (u : Chip) (inj : Bool) (pg code : Nat) (data : List Nat) : Chip :=
  if inj then u.raiseInj (srcOf pg) code data else u.raise (srcOf pg) code data

/-- CRC_DRIFT (R49): the recomputed value is not stated, so it is free. -/
def Chip.crcDrift (u : Chip) (pg : Nat) (inj : Bool) : Chip :=
  let f := u.free
  let u := (f.2.put (Reg.BLK_STAT.CRC_OK (page0 pg)) 0).put (Reg.BLK_ERR.CRC_DRIFT pg) 1
  ((u.refreshLines (page0 pg)).pageEvent inj pg 0xF1 [pg, u.blkCrc pg, f.1 % 2 ^ 32]).pageFault pg 1

/-- REGPAR (Table 2.11): register offset `off`. -/
def Chip.regPar (u : Chip) (pg off : Nat) (inj : Bool) : Chip :=
  (((u.put (Reg.BLK_ERR.REGPAR pg) 1).refreshLines (page0 pg)).pageEvent inj pg 0xF3 [pg, off]).pageFault pg 2

/-- CRC_SCAN (R49): the page whose CRC is recomputed, and whether the register store still gives BLK_CRC (a fault of the store
comes from outside the model; log 6). -/
def execCrcScan (pg : Nat) (same : Bool) (s : State) : Host.Outcome State Fault Refusal :=
  let u := s.chip
  if (pageInfo pg).isNone || u.on (Reg.BLK_LOCK.OPEN (pageOf pg)) then s.become u
  else if !same then s.become (u.crcDrift (pageOf pg) false)
  else s.become (u.put (Reg.BLK_STAT.CRC_OK (page0 pg)) 1)

/-! ### BLK_LOCK (R44 to R47) -/

/-- The instant at which the lock of a page expires. -/
def Chip.lockDue (u : Chip) (pg : Nat) : Option Nat := (u.pages.locks.find? (fun l => l.page == pg)).map (fun l => l.due)

/-- Sets or removes the timer of a lock. -/
def Chip.lockTimer (u : Chip) (pg : Nat) (due : Option Nat) : Chip :=
  let rest := u.pages.locks.filter (fun l => l.page != pg)
  { u with pages := { u.pages with locks := match due with
      | some d => rest ++ [LockTimer.mk pg d]
      | none => rest } }

/-- Whether the lock of the page at an address is open for a requester; the tick of the expiry is too late (R46). -/
def Chip.lockOpen (u : Chip) (a req : Nat) : Bool :=
  let pg := pageOf a
  u.on (Reg.BLK_LOCK.OPEN pg) && u.get (Reg.BLK_LOCK.OWNER pg) == req &&
  (match u.lockDue pg with
    | some d => decide (u.now < d)
    | none => true)

/-- BLK_LOCK returns to closed and not armed; OWNER reads 0 then (DESIGN CHOICE: log 52). -/
def Chip.lockIdle (u : Chip) (pg : Nat) : Chip :=
  (((u.put (Reg.BLK_LOCK.OPEN pg) 0).put (Reg.BLK_LOCK.ARMED pg) 0).put (Reg.BLK_LOCK.OWNER pg) 0).lockTimer pg none

/-- The lock closes (R47): BLK_CRC recomputed, CONFIG_CHANGE. -/
def Chip.lockClose (u : Chip) (pg : Nat) : Chip :=
  let prev := u.get (Reg.BLK_CRC.CRC pg)
  let new := u.pageCrc pg
  let owner := u.get (Reg.BLK_LOCK.OWNER pg)
  ((u.put (Reg.BLK_CRC.CRC pg) new).lockIdle pg).raise (srcOf pg) 0xF0 [pg, prev, new, owner]

/-- The lock opens for a requester. -/
def Chip.lockOpens (u : Chip) (pg req : Nat) : Chip :=
  ((((u.put (Reg.BLK_CRC.CRC pg) (u.pageCrc pg)).put (Reg.BLK_LOCK.ARMED pg) 0).put (Reg.BLK_LOCK.OPEN pg) 1).put
    (Reg.BLK_LOCK.OWNER pg) req).lockTimer pg (some (u.now + ms 1))

/-- A key write (R44, R45). -/
def Chip.lockWrite (u : Chip) (req pg key : Nat) : Chip :=
  if u.on (Reg.BLK_LOCK.OPEN pg) then u.lockClose pg
  else if u.on (Reg.BLK_LOCK.ARMED pg) then
    if key % 2 ^ 32 = 0xC3E8 ∧ u.get (Reg.BLK_LOCK.OWNER pg) = req then u.lockOpens pg req else u.lockIdle pg
  else if key % 2 ^ 32 = 0x5A17 then
    ((u.put (Reg.BLK_LOCK.ARMED pg) 1).put (Reg.BLK_LOCK.OWNER pg) req).lockTimer pg (some (u.now + ms 1))
  else u

/-- LOCK_EXPIRY (R45): the page whose 1 ms ends. -/
def execLockExpiry (pg : Nat) (s : State) : Host.Outcome State Fault Refusal :=
  let u := s.chip
  match u.lockDue (pageOf pg) with
  | none => s.become u
  | some d =>
    let u := u.until d
    s.become (if u.on (Reg.BLK_LOCK.OPEN (pageOf pg)) then u.lockClose (pageOf pg) else u.lockIdle (pageOf pg))

/-- BLK_LOCK.REMAIN as read (Table 2.9): 10 µs units, 100 at opening, rounded up in between (DESIGN CHOICE: log 52). -/
def Chip.lockRemain (u : Chip) (pg : Nat) : Nat :=
  if u.on (Reg.BLK_LOCK.OPEN pg) then (match u.lockDue pg with
    | some d => min 100 ((d - u.now + 999) / 1000)
    | none => 0)
  else 0

/-! ### Error injection (R52) -/

/-- BLK_ERRINJ of the block of a page takes a value: ARM and SEL. -/
def Chip.errInj (u : Chip) (pg v : Nat) : Chip :=
  (u.put (Reg.BLK_ERRINJ.ARM (page0 pg)) (bits v 8 8)).put (Reg.BLK_ERRINJ.SEL (page0 pg)) (bits v 2 0)

/-- The access to an address of a page: an armed injection fires and clears itself (Table 2.12). With SEL 2 the access itself gets
the error; with 0 and 1 it takes its effect `k`, and the error bits that the hardware sets in the same cycle win over a W1C write
of them (R39). Other values of SEL are reserved and inject nothing. -/
def Chip.inject (u : Chip) (a : Nat) (k : Chip → Chip) : Chip :=
  let pg := pageOf a
  if u.on (Reg.BLK_ERRINJ.ARM (page0 a)) then
    let sel := u.get (Reg.BLK_ERRINJ.SEL (page0 a))
    let u := u.put (Reg.BLK_ERRINJ.ARM (page0 a)) 0
    if sel = 0 then ((k u).put (Reg.BLK_ERR.INJ_DONE pg) 1).regPar pg (a - pg) true
    else if sel = 1 then ((k u).put (Reg.BLK_ERR.INJ_DONE pg) 1).crcDrift pg true
    else if sel = 2 then (u.put (Reg.BLK_ERR.INJ_DONE pg) 1).accessErr a
    else k u
  else k u

/-! ### What every access meets (R41, R51, R52) -/

/-- The soft reset of the block of a page runs (R41). -/
def Chip.inReset (u : Chip) (a : Nat) : Bool := u.pages.resetting.any (fun r => r.1 == page0 a)

/-- A write during the soft reset: error response; ACCESS follows once the reset has completed (R41). -/
def Chip.lateWrite (u : Chip) (a : Nat) : Chip :=
  let l := u.pages.late
  ({ u with pages := { u.pages with late := if l.contains (pageOf a) then l else l ++ [pageOf a] } }).refuse

/-- The reset value of the register at an address (Tables 2.5 to 2.12 for the header). -/
def Chip.resetValue (u : Chip) (a : Nat) : Nat :=
  match pageInfo a, a % 0x1000 with
  | some p, 0x0 => blkId p
  | some p, 0x4 => blkCaps p
  | some p, 0x1C => if u.controlPage p then 0x80031000 else (({} : Chip)).readPieces (regPieces a)
  | _, _ => if a = 0x44A00040 then (({} : Chip)).readPieces (regPieces a) % 2 ^ 30 + 3 * 2 ^ 30 else (({} : Chip)).readPieces (regPieces a)

/-- A self-gated block ungates on an access (R51). -/
def Chip.ungate (u : Chip) (a : Nat) : Chip :=
  let f := Reg.BLK_STAT.PWR (page0 a)
  if u.get f = 1 ∨ u.get f = 2 then u.put f 0 else u

/-- An access to an address of a page that its requester reaches; `k` is what it does there. -/
def Chip.access (u : Chip) (a : Nat) (wr : Bool) (k : Chip → Chip) : Chip :=
  if (pageInfo a).isNone then k u
  else if u.inReset a then (if wr then u.lateWrite a else u.answer (.data (u.resetValue a)))
  else (u.ungate a).inject a k

/-- Whether a requester reaches a page: channels the control-plane pages, the bridge none, the others those that Tables 2.1 and 16.2
name for them (01 R23, 16 R465). -/
def Chip.pageReach (u : Chip) (req a : Nat) : Bool :=
  match fabricTarget req a with
  | some t => reaches t req
  | none =>
    match pageInfo a with
    | some p => if req < 3 then u.controlPage p else decide (req ≤ 7)
    | none => false

/-- What every access of a requester to an address of a page meets before its effect `k`: an unallocated page (R34, R53), a page that
the requester does not reach (R34, R465), R38 for a write, then the page itself. An access that reaches the page ungates its
block whatever becomes of it (R51). -/
def Chip.atPage (u : Chip) (req a : Nat) (wr : Bool) (k : Chip → Chip) : Chip :=
  if (pageInfo a).isNone then u.unmapped req a
  else if wr && u.planeBars req a then (u.ungate a).planeRefused req a
  else if !u.pageReach req a then u.denied req ((fabricTarget req a).getD 15) a
  else u.access a wr k

/-- Maintenance mode (00 Table 0.3): the maintenance-permit strap is fitted and the service port is connected. -/
def Chip.maintenance (u : Chip) : Bool := u.on Reg.WR_STAT.MAINT && u.svc.connected

/-! ### Self-gating (R50, R51) -/

/-- SELF_GATE_IDLE (R50): the block of a page has been idle for IDLE_DLY. A control-plane block never gates itself. -/
def execSelfGateIdle (pg : Nat) (s : State) : Host.Outcome State Fault Refusal :=
  let u := s.chip
  match pageInfo pg with
  | none => s.become u
  | some p =>
    let g := u.get (Reg.BLK_PWR.GATE p.base0)
    if u.controlPage p || u.get (Reg.BLK_STAT.PWR p.base0) != 0 || (g != 1 && g != 2) then s.become u
    else s.become ((u.advance (us (u.get (Reg.BLK_PWR.IDLE_DLY p.base0)))).put (Reg.BLK_STAT.PWR p.base0) g)

/-- SELF_UNGATE (R51): an access or a port request ungates the block; the access waits in the fabric meanwhile. -/
def execSelfUngate (pg : Nat) (s : State) : Host.Outcome State Fault Refusal :=
  let u := s.chip
  let b := page0 pg
  s.become (if u.get (Reg.BLK_STAT.PWR b) = 1 ∨ u.get (Reg.BLK_STAT.PWR b) = 2 then u.put (Reg.BLK_STAT.PWR b) 0 else u)

end Sys2Proof.Machine
end

