-- ==== Sys2Proof/Machine/Spares.lean ====
section
/-!
DEFINITION. Spare rows and columns of the tested macros (18 R512, R520, R523).
-/
namespace Sys2Proof.Machine

/-- Page of engine `e`: 0 to 2 the channels, 3 the scheduler (R528); its event source (R529). -/
def percPage (e : Nat) : Nat := if e < 3 then 0x40B00000 + e * 0x4000 else 0x44600000
def percSrc (e : Nat) : Nat := if e < 3 then 29 + e else 103

/-- What an engine holds beside its registers. -/
def Chip.percOf (u : Chip) (e : Nat) : Perc := u.perc.getD e {}

/-- Changes what an engine holds. -/
def Chip.modPerc (u : Chip) (e : Nat) (g : Perc → Perc) : Chip := { u with perc := modAt u.perc e g }

/-- The six spare entries of a macro: 0 to 3 rows, 4 and 5 columns. -/
def Perc.spareList (p : Perc) (m : Nat) : List Spare := assoc p.spares m (List.replicate 6 {})

/-- Row, mux position, lowest failing bit of a failing word (R512). -/
def wordRow (w : Nat) : Nat := w / 64
def wordMux (w : Nat) : Nat := w % 64
def lowestBit (diff : Nat) : Nat := ((List.range 72).find? (fun b => diff.testBit b)).getD 0

/-- Whether exactly one bit differs. -/
def oneBit (diff : Nat) : Bool := popCount diff 72 == 1

/-- The column of a single-bit failure. -/
def failColumn (w diff : Nat) : Nat := lowestBit diff * 64 + wordMux w

/-- The spare chosen for a failure, none where the macro is exhausted (R520). -/
def Perc.choose (p : Perc) (m w diff : Nat) : Option Nat :=
  let l := p.spareList m
  let free := fun (i : Nat) => !(l.getD i {}).used
  let rows := [0, 1, 2, 3].filter free
  let cols := [4, 5].filter free
  let column := oneBit diff && p.seen.any (fun h => h.1 == m && h.2.1 == failColumn w diff && h.2.2 != wordRow w)
  if column then (cols ++ rows).head? else (rows ++ cols).head?

/-- The ADDR of a spare entry that replaces the row, or the column, of a failure (Table 18.6). -/
def spareAddr (i w diff : Nat) : Nat := if i < 4 then wordRow w else lowestBit diff * 64 + wordMux w

/-- The column history takes a single-bit failure. -/
def Perc.remember (p : Perc) (m w diff : Nat) : Perc :=
  if oneBit diff then { p with seen := (m, failColumn w diff, wordRow w) :: p.seen.filter (fun h => h != (m, failColumn w diff, wordRow w)) } else p

/-- Whether the spare that replaces the row, or the column, of a failure covers a pending repair of its macro as well: it is done with it
(DEDUCED: log 89). -/
def PercPend.covered (x : PercPend) (i w diff : Nat) : Bool :=
  if i < 4 then wordRow x.word == wordRow w else oneBit x.diff && failColumn x.word x.diff == failColumn w diff

/-- A soft repair (R520): the remap is written into the spare entry; SOFT_REPAIR (Table 18.7). -/
def Chip.softRepair (u : Chip) (e m w diff i : Nat) : Chip :=
  let entry : Spare := ⟨true, false, spareAddr i w diff⟩
  let u := u.modPerc e (fun p => { p with
    spares := assocPut p.spares m (modAt (p.spareList m) i (fun _ => entry)),
    pending := p.pending.filter (fun x => !(x.macroNo == m && x.covered i w diff)) })
  let u := u.put (Reg.PERC_STAT.PENDING (percPage e)) (lvl (u.percOf e).pending.isEmpty.not)
  (u.irq (percPage e) 1).raiseAfter (percSrc e) 0x02 [m % 32, i, spareAddr i w diff]

/-- NO_SPARE (R522): macro and byte address of the word. -/
def Chip.noSpare (u : Chip) (e m a : Nat) : Chip := (u.irq (percPage e) 2).raiseAfter (percSrc e) 0x03 [m % 32, a]

/-- The byte address of a word of a macro (Table 18.1). The bridge's macro has no address of its own: 0 stands for its
base (log 27). -/
def macroWord (e m w : Nat) : Nat :=
  let base := if e < 3 then 0x10000000 + m % 32 * 0x40000
    else if m / 32 = 0 then 0x20000000 + m % 32 * 0x40000 else if m / 32 = 1 then 0x30000000 else 0
  base + w * 8

/-- The march of a SELFTEST (R524): each failing macro gets one soft repair; a second failure in a macro or an exhausted one
fails the test. -/
def Chip.marchRepair (u : Chip) (c : Nat) : List (Nat × Nat × Nat) → List Nat → Bool × Chip
  | [], _ => (true, u)
  | (m, w, d) :: t, done =>
    if done.contains m then (false, u)
    else
      let p := (u.percOf c).remember m w d
      match p.choose m w d with
      | none => (false, u.noSpare c m (macroWord c m w))
      | some i => ((u.modPerc c (fun _ => p)).softRepair c m w d i).marchRepair c t (m :: done)

/-- What a unit-wide reset leaves of a Percolator engine: the spares and what counts since POR (18 R523). -/
def Perc.reset (p : Perc) : Perc := { spares := p.spares, seen := p.seen, fuses := p.fuses }

/-- An engine in reset, at a CHANNEL reset or by SOFT_RESET: a slice in progress, a pending repair and a programming in progress end
without result (22 Table 22.3; log 48); the spares, their fuses and the column history stay (R523). -/
def Chip.percHeld (u : Chip) (e : Nat) : Chip :=
  let pg := percPage e
  let u := u.modPerc e Perc.reset
  let u := ((u.put (Reg.PERC_STAT.GROUP pg) 0).put (Reg.PERC_STAT.MACRO pg) 0).put (Reg.PERC_STAT.SLICE pg) 0
  let u := (u.put (Reg.PERC_STAT.ACTIVE pg) 0).put (Reg.PERC_STAT.PENDING pg) 0
  (u.put (Reg.PERC_FSTAT.BUSY pg) 0).put (Reg.PERC_FUSE.GO pg) 0

/-- POR (R523): entries that are not fused are cleared, then the fuse map is loaded. -/
def Perc.atPor (p : Perc) : Perc :=
  let put := fun (l : List (Nat × List Spare)) (f : Nat × Nat × Nat) =>
    assocPut l f.1 (modAt (assoc l f.1 (List.replicate 6 {})) f.2.1 (fun _ => Spare.mk true true f.2.2))
  { fuses := p.fuses, spares := p.fuses.foldl put [] }

end Sys2Proof.Machine
end

