-- ==== Sys2Proof/Machine/Loss.lean ====
section
/-!
DEFINITION. Channel states, loss of a channel and CHANNEL reset (03 R94 to R98; 22 R597, Table 22.3).
-/
namespace Sys2Proof.Machine

/-- Page 0 of channel `c`. -/
def chPage (c : Nat) : Nat := slot c 3 0x40200000 0x4000

/-- Event source of channel `c` (R640). -/
def chSrc (c : Nat) : Nat := 16 + c

/-- What channel `c` holds beside its registers. -/
def Chip.chan (u : Chip) (c : Nat) : Channel := u.chans.get c

/-- Changes what channel `c` holds. -/
def Chip.modChan (u : Chip) (c : Nat) (g : Channel → Channel) : Chip := { u with chans := u.chans.set c (g (u.chan c)) }

/-- The state of channel `c` (Table 3.7). -/
def Chip.chState (u : Chip) (c : Nat) : Nat := u.get (Reg.CH_STATE.STATE c)

/-- The lowest channel in SYNC, 3 where none is (Table 4.11). -/
def Chip.syncChannel (u : Chip) : Nat :=
  if u.chState 0 = 2 then 0 else if u.chState 1 = 2 then 1 else if u.chState 2 = 2 then 2 else 3

/-- Channel `c` enters a state: STATE_CHANGE (R640); CF_MODE.SYNC_CH shows the channel in SYNC. -/
def Chip.chEnter (u : Chip) (c new : Nat) : Chip :=
  let old := u.chState c
  if old = new then u
  else
    let u := u.put (Reg.CH_STATE.STATE c) new
    let u := u.put Reg.CF_MODE.SYNC_CH u.syncChannel
    u.irqAfter (chPage c) (chSrc c) 6 [old, new]

/-- The rank of a reset kind (RST_CAUSE.KIND): POR, SUPPLY, LOCKOUT_RESET, WARM; 5 stands for CHANNEL (22 R598). -/
def resetRank (kind : Nat) : Nat := if kind = 1 then 4 else if kind = 2 then 3 else if kind = 4 then 2 else if kind = 3 then 1 else 0

/-- Whether a request is discarded: a reset or a boot of equal or higher rank is under way. A boot that has stopped is over (R607), and
so is one whose boot hold has become a lockout: R582 and R609 let a reset follow it (DEDUCED: log 45). -/
def Chip.resetDiscards (u : Chip) (kind : Nat) : Bool :=
  match u.boot.reset with
  | some r => !u.boot.stopped && (u.boot.released.isNone || u.weir.hold) && decide (resetRank kind ≤ resetRank r.kind)
  | none => false

/-- The losses of the last 24 h of Weir time (R98). -/
def recentLosses (now : Nat) (l : List Nat) : List Nat := l.filter (fun t => decide (now < t + sec 86400))

/-- Counts a loss of channel `c` where its cause counts (R98). -/
def Chip.countLoss (u : Chip) (c k : Nat) : Chip :=
  let l := recentLosses u.weir.time (u.chan c).losses
  let l := if k = 9 ∨ k = 10 then l else l ++ [u.weir.time]
  (u.modChan c (fun h => { h with losses := l })).put (Reg.CH_REINT.LOSSES c) (min l.length 15)

/-- Both twins of channel `c` held in reset: rollbacks abandoned, every uncommitted store discarded (R88, R97). -/
def Chip.twinsReset (u : Chip) (c : Nat) : Chip :=
  ((u.modChan c (fun h => { h with logic := {}, link := {} })).put (Reg.CH_STATE.RB_LT c) 0).put (Reg.CH_STATE.RB_LK c) 0

/-- The resynchronisation of a target that leaves SYNC ends; where its enlarged set has been sent, the snapshot undoes it
(R128). -/
def Chip.resyncLost (u : Chip) (c : Nat) : Chip :=
  if u.conf.rs.target = some c then
    let rs : Resync := if u.conf.rs.sent then { target := none, sent := true, void := true } else {}
    let u := { u with conf := { u.conf with rs := rs } }
    let u := (u.put (Reg.CF_PSTAT.PSTATE c) 0).put Reg.CF_RS.DIRTY 0
    if rs.sent then u else u.put Reg.CF_MODE.RS_PHASE 0
  else u

/-- Channel `c` is lost with cause `k` of Table 3.9 (R96, R97): in LOST, then in BARRED where R98 applies; directly in BARRED where a
SELFTEST after a CHANNEL reset has failed (Table 3.8). Confluence learns of it separately. The order of its events, CHANNEL_LOST,
STATE_CHANGE, BARRED, STATE_CHANGE, is DESIGN CHOICE: log 127. -/
def Chip.chLose (u : Chip) (c k : Nat) : Chip :=
  let st := u.chState c
  if st = 1 ∨ st = 2 ∨ st = 3 then
    let u := u.countLoss c k
    let cyc := u.get Reg.MIR_CYCLE.COUNT % 2 ^ 24
    let u := (u.put (Reg.CH_LOSS.CAUSE c) k).put (Reg.CH_LOSS.CYCLE c) cyc
    let u := (u.twinsReset c).resyncLost c
    let u := u.modChan c (fun h => { h with lostAt := some u.now, passed := false })
    let u := u.irqAfter (chPage c) (chSrc c) 2 [k, cyc]
    let reached := k ≠ 9 ∧ k ≠ 10 ∧ u.get (Reg.CH_CFG.REINT_MAX c) ≤ u.get (Reg.CH_REINT.LOSSES c)
    let failed := st = 1 ∧ (u.chan c).afterReset = true
    let barred := fun (u : Chip) => (u.irqAfter (chPage c) (chSrc c) 7 [u.get (Reg.CH_REINT.LOSSES c), u.get (Reg.CH_CFG.REINT_MAX c)]).chEnter c 5
    let u := if failed then barred u else let u := u.chEnter c 4; if reached then barred u else u
    u.channelLostFault c k
  else u

/-- REINT_LOSS_AGE_OUT (R98): the oldest counted loss passes out of the last 24 h. -/
def execReintLossAgeOut (c : Nat) (s : State) : Host.Outcome State Fault Refusal :=
  let u := s.chip
  match (u.chan c).losses with
  | [] => s.become u
  | t :: _ =>
    let u := u.untilWeir (t + sec 86400)
    let l := recentLosses u.weir.time (u.chan c).losses
    s.become ((u.modChan c (fun h => { h with losses := l })).put (Reg.CH_REINT.LOSSES c) (min l.length 15))

/-- The fields of channel `c` that count since CHANNEL reset or show its state (R100). CH_RB.TWIN, CH_RB.LAST_NS, CH_BUF.RPL_HWM and
CH_BUF.SB_HWM go with the counts of their registers (DESIGN CHOICE: log 107). -/
def chResetFields (c : Nat) : List Fld := [
  Reg.CH_STATE.MM_CYC c, Reg.CH_STATE.RB_LK c, Reg.CH_STATE.RB_LT c, Reg.CH_WINCNT_LT.COUNT c, Reg.CH_WINCNT_LK.COUNT c,
  Reg.CH_INJ.BOOT_OK c, Reg.CH_INJ.LK_LAST_OK c, Reg.CH_INJ.LT_LAST_OK c, Reg.CH_INJ.LK_LANE c, Reg.CH_INJ.LT_LANE c,
  Reg.CH_RB.TOTAL c, Reg.CH_RB.TWIN c, Reg.CH_RB.LAST_NS c, Reg.CH_BUF.EARLY c, Reg.CH_BUF.RPL_HWM c,
  Reg.CH_BUF.SB_HWM c, Reg.CH_CSN.NOTICE c, Reg.CH_CSN.TARGET c, Reg.CH_CSN.READY c]

/-- Sets fields to their reset values. -/
def Chip.resetFields (u : Chip) (l : List Fld) : Chip := l.foldl (fun u f => u.put f f.rst) u

/-- A channel in reset: twins, store buffers, interrupt controller, Percolator engine, SRAM content (Table 22.3); its
runtime, and a slice in progress without result (18 Table 18.3). The routing of sources is configuration and stays. -/
def Chip.chHeld (u : Chip) (c : Nat) : Chip :=
  let u := (u.twinsReset c).resyncLost c
  let u := u.modChan c (fun h => { losses := h.losses })
  let u := { u with cic := u.cic.set c { route := (u.cic.get c).route }, rt := u.rt.set c {} }
  let u := u.percHeld c
  (u.chEnter c 0).resetFields (chResetFields c)

/-- CHANNEL reset (Table 3.8): RESET, then SELFTEST once it is released. -/
def Chip.chReset (u : Chip) (c : Nat) : Chip :=
  let u := u.chHeld c
  (u.modChan c (fun h => { h with afterReset := true })).chEnter c 1

end Sys2Proof.Machine
end

