-- ==== Sys2Proof/Machine/Confluence.lean ====
section
/-!
DEFINITION. Confluence (chapter 04): ports, vote window, vote, release, reconfiguration, resynchronisation.
-/
namespace Sys2Proof.Machine

/-! ### Ports (R101 to R106) -/

/-- Changes what Confluence holds. -/
def Chip.modConf (u : Chip) (g : Conf → Conf) : Chip := { u with conf := g u.conf }

/-- A port of Confluence. -/
def Chip.port (u : Chip) (c : Nat) : CfPort := u.conf.ports.get c

/-- Changes a port; CF_PSTAT.SLOTS follows its delivered results. -/
def Chip.modPort (u : Chip) (c : Nat) (g : CfPort → CfPort) : Chip :=
  let p := g (u.port c)
  (u.modConf (fun v => { v with ports := v.ports.set c p })).put (Reg.CF_PSTAT.SLOTS c) p.queue.length

/-- Whether channel `c` is in the voting set. -/
def Chip.voting (u : Chip) (c : Nat) : Bool := (u.get Reg.CF_MODE.MASK).testBit c

/-- An image with word `n` replaced. -/
def imgPut (img n v : Nat) : Nat := img - bits img (32 * n + 31) (32 * n) * 2 ^ (32 * n) + v % 2 ^ 32 * 2 ^ (32 * n)

/-- An image word reaches the filling slot (R101, R102): the slot holds IMG_WORDS words. -/
def Chip.cfImg (u : Chip) (c n v : Nat) : Chip :=
  if n < u.get Reg.CF_CFG.IMG_WORDS then u.modPort c (fun p => { p with fill := { p.fill with img := imgPut p.fill.img n v } }) else u

/-- A message word reaches the filling slot, or overflows it (R105). -/
def Chip.cfMsg (u : Chip) (c v : Nat) : Chip :=
  u.modPort c (fun p =>
    if 16384 ≤ p.fill.msgs.length then { p with fill := { p.fill with ovf := true } }
    else { p with fill := { p.fill with msgs := p.fill.msgs ++ [v % 2 ^ 32] } })

/-! ### Leaving the voting set (R109, R113, R118, R120, R124) -/

/-- Sends Weir a voting set and starts the wait for its acknowledgment (R120). -/
def Chip.startRecon (u : Chip) (t0 set : Nat) (shrink : Bool) : Chip :=
  { u with
    link := { u.link with sets := u.link.sets ++ [set] }
    conf := { u.conf with recon := some ⟨t0, set, shrink⟩ } }

/-- Channel `c` leaves the voting set at time zero `t0`. In 2oo3 the mode becomes 2oo2 and a reconfiguration starts; a
second departure before the acknowledgment ends in SAFE with 0x3001 (R124); in 2oo2 a departure ends in SAFE with 0x3004
(Table 4.5, R132). -/
def Chip.depart (u : Chip) (c cause t0 : Nat) : Chip :=
  if !u.voting c then u
  else
    let u := u.modPort c (fun _ => {})
    let mask := u.get Reg.CF_MODE.MASK - 2 ^ c
    if u.get Reg.CF_MODE.MODE = 3 then (u.modeChange 2 mask c cause).startRecon t0 mask true
    else u.confSafe (if u.conf.recon.any (fun r => r.shrink) then 0x3001 else 0x3004)

/-! ### The vote (R114 to R117) -/

/-- What a vote finds: the voted result, the minority, whether every position has a majority, the first differing item
(0 header, 1 image word, 2 message position; its number), unanimous or not. -/
structure VoteOut where
  res : Result
  minority : Nat
  majority : Bool
  item : Nat × Nat
  deriving DecidableEq, Repr

/-- Bitwise majority of three. -/
def maj3 (a b c : Nat) : Nat := (a &&& b) ||| (a &&& c) ||| (b &&& c)

/-- The lowest image word in which two images differ. -/
def firstWord (a b : Nat) : Option Nat := (List.range 128).find? (fun n => bits a (32 * n + 31) (32 * n) != bits b (32 * n + 31) (32 * n))

/-- The words of one message with its descriptor. -/
def msgWords : Nat → List Nat → List (List Nat)
  | 0, _ => []
  | _, [] => []
  | fuel + 1, d :: ws => let n := (d % 2 ^ 16 + 3) / 4; (d :: ws.take n) :: msgWords fuel (ws.drop n)

/-- The messages of a result as word lists: descriptor, frame, padding (R103). -/
def Result.parts (r : Result) : List (List Nat) := msgWords r.msgs.length r.msgs

/-- The lowest position at which two message lists differ. -/
def firstMsg (a b : List (List Nat)) : Option Nat := (List.range (max a.length b.length)).find? (fun n => a[n]? != b[n]?)

/-- The first item in which a result differs from the voted one. -/
def firstItem (v : Result) (r : Result) : Nat × Nat :=
  if r.hdr ≠ v.hdr then (0, 0)
  else match firstWord r.img v.img with
    | some n => (1, n)
    | none => match firstMsg r.parts v.parts with
      | some n => (2, n)
      | none => (0, 0)

/-- Whether a result counts as different from the voted one (R107, R116). -/
def Result.differs (r v : Result) : Bool := r.bad.isSome || r.hdr != v.hdr || r.img != v.img || r.parts != v.parts

/-- The value that two of three hold at a message position. -/
def maj3Msg (a b c : Option (List Nat)) : Option (Option (List Nat)) :=
  if a = b ∨ a = c then some a else if b = c then some b else none

/-- The vote of three results (R114 to R116). -/
def vote3 (a b c : Result) : VoteOut :=
  let n := max a.parts.length (max b.parts.length c.parts.length)
  let ms := (List.range n).map (fun k => maj3Msg a.parts[k]? b.parts[k]? c.parts[k]?)
  let v : Result := { hdr := maj3 a.hdr b.hdr c.hdr, img := maj3 a.img b.img c.img, msgs := ms.flatMap (fun m => (m.getD none).getD []) }
  let d := [a, b, c].map (fun r => r.differs v)
  let out := ([a, b, c].find? (fun r => r.differs v)).getD v
  ⟨v, maskOf ((List.range 3).filter (fun k => d.getD k false)), ms.all (fun m => m.isSome), firstItem v out⟩

/-- The first results of the voting ports, in channel order. -/
def Chip.present (u : Chip) : List (Nat × Result) :=
  (List.range 3).filterMap (fun c => if u.voting c then ((u.port c).queue.head?).map (fun r => (c, r)) else none)

/-- The number of channels in the voting set. -/
def Chip.votingCount (u : Chip) : Nat := popCount (u.get Reg.CF_MODE.MASK) 3

/-- First to last arrival, in ticks (Table 4.13). -/
def spread (l : List (Nat × Result)) : Nat :=
  let a := l.map (fun e => e.2.arr)
  a.foldl max 0 - a.foldl min (a.headD 0)

/-- Parity errors found while the slots are read (R107). -/
def Chip.portParity (u : Chip) (l : List (Nat × Result)) : Chip :=
  l.foldl (fun u e => match e.2.bad with
    | some w => (u.put (Reg.CF_PSTAT.PARITY e.1) 1).irqAfter cfPage 22 5 [e.1, w]
    | none => u) u

/-- CF_LAST, CF_VOTES, CF_PSTAT and the freed slots after a vote (Tables 4.9, 4.12, 4.13). -/
def Chip.voteDone (u : Chip) (l : List (Nat × Result)) (minority outcome : Nat) : Chip :=
  let u := (u.put Reg.CF_LAST.SPREAD (min (spread l) 0xFFFF)).put Reg.CF_LAST.OUTCOME outcome
  let u := (u.put Reg.CF_LAST.MINORITY minority).put Reg.CF_LAST.ARRIVED (maskOf (l.map (·.1)))
  let u := u.wrapInc Reg.CF_VOTES.COUNT
  let u := if minority = 0 then u else u.satInc Reg.CF_CNT.MINOR
  l.foldl (fun u e => (u.put (Reg.CF_PSTAT.LAST_SEQ e.1) (e.2.hdr / 256)).modPort e.1 (fun p => { p with queue := p.queue.drop 1 })) u

/-- A voted result waits for its release (R119). While a reconfiguration runs, Weir gets the voted image at closure so that
it can complete its check (Table 4.7, R145). -/
def Chip.hold (u : Chip) (r : Result) (close minority : Nat) : Chip :=
  if u.conf.recon.isSome then
    ({ u with link := { u.link with voted := u.link.voted ++ [r.img] } }).modConf (fun v => { v with releases := v.releases ++ [CfRelease.mk r close minority true] })
  else u.modConf (fun v => { v with releases := v.releases ++ [CfRelease.mk r close minority false] })

/-- A channel of the voting set is told that it leaves (R118), and leaves. -/
def Chip.voteOut (u : Chip) (c cause t0 : Nat) : Chip := (u.depart c cause t0).chLose c cause

/-- Taking the vote at closure (R114 to R117); `expired` for a closure by expiry. Where exactly two results are present and differ there is
no voted result: both channels count as the minority (DESIGN CHOICE: log 108). -/
def Chip.vote (u : Chip) (expired : Bool) : Chip :=
  let close := u.weir.time
  let l := u.present
  let u := u.modConf (fun v => { v with window := none })
  let u := u.portParity l
  let seq := (l.headD (0, {})).2.hdr / 256
  let u := if expired then (u.satInc Reg.CF_CNT.EXPIRED).irqAfter cfPage 22 1 [maskOf (l.map (·.1)), seq] else u
  match l with
  | [(0, a), (1, b), (2, c)] =>
    let o := vote3 a b c
    if o.minority = 0 then (u.voteDone l 0 0).hold o.res close 0
    else
      let u := u.irqAfter cfPage 22 0 [o.minority, o.res.hdr / 256, o.item.1, o.item.2]
      if popCount o.minority 3 ≤ 1 ∧ o.majority = true then
        let u := u.voteDone l o.minority 1
        let u := (setBits o.minority 3).foldl (fun u c => u.voteOut c 7 close) u
        u.hold o.res close o.minority
      else (u.voteDone l o.minority 3).confSafe 0x3005
  | [(c1, a), (c2, b)] =>
    let same := !a.differs b && !b.differs a
    if u.votingCount = 3 then
      if same then
        let u := u.voteDone l 0 2
        let u := u.voteOut (3 - c1 - c2) 8 close
        u.hold a close 0
      else
        let u := u.irqAfter cfPage 22 0 [2 ^ c1 + 2 ^ c2, seq, (firstItem a b).1, (firstItem a b).2]
        (u.voteDone l (2 ^ c1 + 2 ^ c2) 3).confSafe 0x3005
    else if same then (u.voteDone l 0 0).hold a close 0
    else
      let u := u.irqAfter cfPage 22 0 [2 ^ c1 + 2 ^ c2, seq, (firstItem a b).1, (firstItem a b).2]
      (u.voteDone l (2 ^ c1 + 2 ^ c2) 3).confSafe (if a.bad.isSome ∨ b.bad.isSome then 0x3004 else 0x3002)
  | _ => (u.voteDone l 0 3).confSafe (if u.votingCount = 3 then 0x3005 else 0x3003)

/-- Whether every port of a non-empty voting set holds a result. -/
def Chip.allPresent (u : Chip) : Bool := u.votingCount != 0 && u.present.length == u.votingCount

/-- Opens a window where a voting port holds a result, and closes it where all of them do (R111 to R113). An open window stays open where
the channel that opened it has left. `fuel` bounds the closures of one instant: two slots a port. -/
def Chip.windows : Nat → Chip → Chip
  | 0, u => u
  | fuel + 1, u =>
    if u.present = [] then u
    else
      let u := if u.conf.window.isSome then u else u.modConf (fun v => { v with window := some u.weir.time })
      if u.allPresent then Chip.windows fuel (u.vote false) else u

/-- The end of the open window in Weir time (R111). -/
def Chip.windowEnd (u : Chip) : Option Nat := u.conf.window.map (fun t => t + us (u.get Reg.CF_CFG.VOTE_WIN))

/-- The vote at the expiry of the window; a result that waits opens the next one (R112, R117). -/
def Chip.expire (u : Chip) : Chip := (u.vote true).windows 3

/-- Whether the window has expired before this tick: a delivery in the tick of expiry is in time (R113). -/
def Chip.overdue (u : Chip) : Bool :=
  match u.windowEnd with
  | some t => decide (t < u.weir.time)
  | none => false

/-- A store to CF_PORT_DELIVER; `bad` is a slot word with a parity error. The answer says whether the store completes: with
no free slot it stalls (R106). A port outside the voting set is ignored (R113); an overflowed result counts as not delivered
(R105). -/
def Chip.cfDeliver (u : Chip) (c v : Nat) (bad : Option Nat) : Bool × Chip :=
  let u := if u.overdue then u.expire else u
  let p := u.port c
  if !u.voting c then (true, u.modPort c (fun p => { p with fill := {} }))
  else if p.fill.ovf then (true, (u.put (Reg.CF_PSTAT.OVF c) 1).modPort c (fun p => { p with fill := {} }))
  else if 2 ≤ p.queue.length then (false, u)
  else
    let r : Result := { p.fill with hdr := v % 2 ^ 32, bad := bad, arr := u.weir.time }
    let u := (u.put (Reg.CF_PSTAT.OVF c) 0).modPort c (fun p => { p with fill := {}, queue := p.queue ++ [r] })
    (true, u.windows 3)

/-- A store to the port page by channel `c`; behind a stalled DELIVER every store waits (R80, R106). -/
def Chip.cfStore (u : Chip) (c : Nat) (s : PortStore) : Chip :=
  if (u.port c).wait ≠ [] then u.modPort c (fun p => { p with wait := p.wait ++ [s] })
  else match s with
    | .img n v => u.cfImg c n v
    | .msg v => u.cfMsg c v
    | .deliver v bad =>
      let d := u.cfDeliver c v bad
      if d.1 then d.2 else d.2.modPort c (fun p => { p with wait := [s] })

/-- Stalled stores go on once a slot of their port is free (R106). `fuel` bounds the deliveries of one instant. -/
def Chip.cfResume : Nat → Chip → Chip
  | 0, u => u
  | fuel + 1, u =>
    match [0, 1, 2].find? (fun c => (u.port c).wait != [] && ((u.port c).queue.length < 2 || !u.voting c)) with
    | none => u
    | some c =>
      let l := (u.port c).wait
      (l.foldl (fun u s => u.cfStore c s) (u.modPort c (fun p => { p with wait := [] }))).cfResume fuel

/-- A store to the port page, and what it lets go on. -/
def Chip.cfPut (u : Chip) (c : Nat) (s : PortStore) : Chip := (u.cfStore c s).cfResume 8

/-- A loss or take-out signal (R113): the port leaves at once, and the window closes if the rest has delivered; what waits for a slot goes
on. -/
def Chip.lossSignal (u : Chip) (c cause : Nat) : Chip := ((u.depart c cause u.weir.time).windows 3).cfResume 8

/-- A channel is lost with cause `k`, and its port leaves the voting set (R97, R113). -/
def Chip.chLost (u : Chip) (c k : Nat) : Chip := (u.chLose c k).lossSignal c k

/-- VOTE_EXPIRY (R111, R117): VOTE_WINDOW expires. -/
def execVoteExpiry (s : State) : Host.Outcome State Fault Refusal :=
  let u := s.chip
  match u.windowEnd with
  | some t => s.become (((u.untilWeir t).expire).cfResume 8)
  | none => s.become u

/-- CF_PORT_STAT of the port of channel `c` (Table 4.3). -/
def Chip.portStat (u : Chip) (c : Nat) : Nat :=
  let p := u.port c
  (2 - p.queue.length) + lvl (!u.voting c) * 4 + lvl p.fill.ovf * 8

/-! ### Release (R119, R121, R123) -/

/-- Releases a voted result to Sluice, the voted image port, the ZST engine and the mirror (R119). -/
def Chip.release (u : Chip) (r : CfRelease) : Chip :=
  let ns := (u.weir.time - r.close) * 10
  let u := (u.put Reg.CF_HOLD.LAST_NS (min ns 0xFFFF)).highWater Reg.CF_HOLD.MAX_NS ns
  let u := u.modConf (fun v => { v with voted := r.res.img })
  let u := if r.sent then u else { u with link := { u.link with voted := u.link.voted ++ [r.res.img] } }
  let u := (u.sluiceImage r.res.img).zstRelease (messagesOf r.res.msgs)
  u.mirrorPublish (r.res.hdr % 8) r.minority (u.get Reg.CF_MODE.MASK) (u.get Reg.CF_MODE.MODE) (r.res.hdr / 256) r.res.img r.res.msgs

/-- The instant at which the oldest voted result may be released (R119, R123). -/
def Chip.releaseAt (u : Chip) (r : CfRelease) : Nat := max (r.close + 10) (u.conf.ackAt + 10)

/-- VOTE_RELEASE (R119): 0.10 µs after closure the oldest voted result is released, unless a reconfiguration holds it. -/
def execVoteRelease (s : State) : Host.Outcome State Fault Refusal :=
  let u := s.chip
  match u.conf.releases with
  | r :: rest =>
    if u.conf.recon.isSome then s.become u
    else
      let u := u.untilWeir (u.releaseAt r)
      s.become ((u.modConf (fun v => { v with releases := rest })).release r)
  | [] => s.become u

/-- VOTING_SET_ACK (R120, R123, R128): the oldest acknowledgment arrives. That of a reconfiguration releases every result
that it held, 0.10 µs later; that of the enlarged set completes the final phase; any other one has no effect. -/
def execVotingSetAck (s : State) : Host.Outcome State Fault Refusal :=
  let u := s.chip
  match u.link.acks with
  | [] => s.become u
  | a :: rest =>
    let u := { u with link := { u.link with acks := rest } }
    match u.conf.recon with
    | some r =>
      if r.set = a then
        let u := u.modConf (fun v => { v with recon := none, ackAt := u.weir.time })
        if u.conf.releases = [] then s.become u
        else
          let held := u.conf.releases
          let u := (u.advance 10).modConf (fun v => { v with releases := [] })
          s.become (held.foldl Chip.release u)
      else s.become u
    | none =>
      s.become (if u.conf.rs.sent ∧ u.get Reg.CF_MODE.RS_PHASE = 2 ∧ a = 7 then u.modConf (fun v => { v with rs := { v.rs with acked := true } }) else u)

/-- VOTING_SET_ACK_TIMEOUT (R122): 11.9 µs after time zero without the acknowledgment. -/
def execVotingSetAckTimeout (s : State) : Host.Outcome State Fault Refusal :=
  let u := s.chip
  match u.conf.recon with
  | some r => s.become ((u.untilWeir (r.t0 + 1190)).confSafe 0x3006)
  | none => s.become u

/-! ### Resynchronisation (R125 to R132) -/

/-- Bytes and blocks of the copied range (R125). -/
def rsBase : Nat := 0x10000000
def rsBlocks : Nat := 28928

/-- The lowest two channels of the voting set, the sources of a resynchronisation. -/
def Chip.rsSources (u : Chip) : Nat × Nat := if u.voting 0 then (0, if u.voting 1 then 1 else 2) else (1, 2)

/-- The bytes of an address range. -/
def memSlice (m : List Host.Cell) (lo hi : Nat) : List Host.Cell := m.filter (fun e => decide (lo ≤ e.1 ∧ e.1 < hi))

/-- A memory with an address range taken from another one; both have rising addresses. -/
def memCopy (dst src : List Host.Cell) (lo hi : Nat) : List Host.Cell :=
  dst.filter (fun e => decide (e.1 < lo)) ++ memSlice src lo hi ++ dst.filter (fun e => decide (hi ≤ e.1))

/-- Adds a number to a list without repeats. -/
def addNew (n : Nat) (l : List Nat) : List Nat := if l.contains n then l else l ++ [n]

/-- The blocks of an address range in which two memories differ. -/
def diffBlocks (a b : List Host.Cell) (lo hi : Nat) : List Nat :=
  let xs := (memSlice a lo hi).filter (fun e => !(memRead b e.1 == e.2)) ++ (memSlice b lo hi).filter (fun e => !(memRead a e.1 == e.2))
  xs.foldl (fun l e => addNew ((e.1 - rsBase) / 256) l) []

/-- CF_RS.DIRTY follows the dirty map. -/
def Chip.putRs (u : Chip) (rs : Resync) : Chip := (u.modConf (fun v => { v with rs := rs })).put Reg.CF_RS.DIRTY rs.dirty.length

/-- The engine reads the blocks below `n` that it has not read: it copies them and marks those that differ (R127). -/
def Chip.rsRead (u : Chip) (n : Nat) : Chip :=
  match u.conf.rs.target with
  | none => u
  | some c =>
    let n := min n rsBlocks
    let rs := u.conf.rs
    if n ≤ rs.pos then u
    else
      let lo := rsBase + rs.pos * 256
      let hi := rsBase + n * 256
      let a := (u.chan u.rsSources.1).sram
      let d := diffBlocks a (u.chan u.rsSources.2).sram lo hi
      let u := u.modChan c (fun h => { h with sram := memCopy h.sram a lo hi })
      u.putRs { rs with pos := n, dirty := d.foldl (fun l b => addNew b l) rs.dirty }

/-- The bulk phase up to this instant: 0.064 µs a block (R126). -/
def Chip.rsCatchUp (u : Chip) : Chip :=
  if u.get Reg.CF_MODE.RS_PHASE = 1 then u.rsRead ((u.weir.time - u.conf.rs.start) * 10 / 64) else u

/-- A source channel writes to its SRAM: a block that has been read becomes dirty (R127, R128). -/
def Chip.rsWrite (u : Chip) (c a : Nat) : Chip :=
  let rs := u.conf.rs
  let b := (a - rsBase) / 256
  if rs.target.isSome ∧ u.voting c = true ∧ rsBase ≤ a ∧ b < rs.pos then
    u.putRs { rs with dirty := addNew b rs.dirty, written := addNew b rs.written }
  else u

/-- RESYNC_BULK_START (R125): in 2oo2 with a channel in SYNC and no resynchronisation running. -/
def execResyncBulkStart (s : State) : Host.Outcome State Fault Refusal :=
  let u := s.chip
  let c := u.syncChannel
  if u.get Reg.CF_MODE.MODE = 2 ∧ c ≠ 3 ∧ u.conf.rs.target = none ∧ u.conf.rs.void = false then
    let u := ((u.put Reg.CF_MODE.RS_PHASE 1).put (Reg.CF_PSTAT.PSTATE c) 1).put Reg.CF_RS.TRIES 0
    s.become (u.putRs { target := some c, start := u.weir.time })
  else s.become u

/-- RESYNC_BULK_DONE (R127): 1,851.392 µs after its start every block has been copied once. -/
def execResyncBulkDone (s : State) : Host.Outcome State Fault Refusal :=
  let u := s.chip
  if u.get Reg.CF_MODE.RS_PHASE = 1 ∧ u.conf.rs.target.isSome then
    let u := (u.untilWeir (u.conf.rs.start + 185140)).rsRead rsBlocks
    s.become ((u.put Reg.CF_MODE.RS_PHASE 0).putRs { u.conf.rs with copied := true })
  else s.become u

/-- RESYNC_FINAL_START (R128, R129): in an idle gap, that is with no vote window open, the dirty blocks are copied again, 0.064 µs each, and the enlarged set is sent. A
block that differs although neither source has written it since it was read ends in SAFE. -/
def execResyncFinalStart (s : State) : Host.Outcome State Fault Refusal :=
  let u := s.chip
  match u.conf.rs.target with
  | none => s.become u
  | some c =>
    if u.conf.rs.copied = true ∧ u.get Reg.CF_MODE.RS_PHASE = 0 ∧ u.get Reg.CF_MODE.MODE = 2 ∧ u.conf.recon = none ∧ u.conf.window = none then
      let rs := u.conf.rs
      let u := (u.put Reg.CF_MODE.RS_PHASE 2).advance ((rs.dirty.length * 64 + 9) / 10)
      let a := (u.chan u.rsSources.1).sram
      let b := (u.chan u.rsSources.2).sram
      let differ := rs.dirty.filter (fun k => diffBlocks a b (rsBase + k * 256) (rsBase + k * 256 + 256) != [])
      if differ.any (fun k => !rs.written.contains k) then s.become (u.confSafe 0x3007)
      else
        let sram := rs.dirty.foldl (fun m k => memCopy m a (rsBase + k * 256) (rsBase + k * 256 + 256)) (u.chan c).sram
        let u := u.modChan c (fun h => { h with sram := sram })
        let u := u.putRs { rs with dirty := differ, written := [], sent := true, acked := false }
        s.become { u with link := { u.link with sets := u.link.sets ++ [7] } }
    else s.become u

/-- Twins that begin to execute: the lead cores resume. -/
def Channel.start (h : Channel) : Channel := { h with logic := { h.logic with halted := false }, link := { h.link with halted := false } }

/-- Channel `c` enters ACTIVE. -/
def Chip.chActive (u : Chip) (c : Nat) : Chip := (u.chEnter c 3).modChan c Channel.start

/-- Whether a task of channel `c` holds work: it has been released and has not completed (07 R231). -/
def Chip.holdsWork (u : Chip) (c : Nat) : Bool := (u.rt.get c).tasks.any (fun x => x.release.isSome && !x.done)

/-- The snapshot ends a final phase (R128, R130, R131): the target joins, or the phase is undone and counted as failed. -/
def Chip.rsSnapshot (u : Chip) : Chip :=
  if u.get Reg.CF_MODE.RS_PHASE ≠ 2 ∨ u.get Reg.CF_MODE.MODE ≠ 2 then u
  else
    let rs := u.conf.rs
    let tries := u.get Reg.CF_RS.TRIES
    match rs.target with
    | some c =>
      if rs.dirty = [] ∧ rs.acked = true ∧ u.holdsWork u.rsSources.1 = false ∧ u.holdsWork u.rsSources.2 = false then
        let u := u.irqRaise cfPage 22 3 [c, tries + 1, 0]
        let u := ((u.put (Reg.CF_PSTAT.PARITY c) 0).modeChange 3 7 c 0).chActive c
        -- the runtime state lies in the SRAM that has been copied (07 R231)
        let u := { u with rt := u.rt.set c (u.rt.get u.rsSources.1) }
        -- 12 R366: the engine takes the returning channel on where the source reads (log 123)
        let src := u.rsSources.1
        let u := { u with zst := { u.zst with reads := u.zst.reads.set c (u.zst.reads.get src)
                                              store := u.zst.store.map (fun (f : RxFrame) =>
                                                if f.passed.testBit src then { f with passed := f.passed ||| 2 ^ c } else f) } }
        (u.put Reg.CF_MODE.RS_PHASE 0).putRs {}
      else
        let u := (u.startRecon u.weir.time (u.get Reg.CF_MODE.MASK) false).satInc Reg.CF_RS.TRIES
        let u := u.put Reg.CF_MODE.RS_PHASE 0
        if u.get Reg.CF_CFG.RS_TRY_MAX ≤ u.get Reg.CF_RS.TRIES then
          ((u.put (Reg.CF_PSTAT.PSTATE c) 0).putRs {}).chLose c 8
        else u.putRs { rs with sent := false, acked := false }
    | none => ((u.startRecon u.weir.time (u.get Reg.CF_MODE.MASK) false).put Reg.CF_MODE.RS_PHASE 0).putRs {}

/-- Confluence takes its mode from the channels that enter ACTIVE together (Table 4.5, 22 R602). -/
def Chip.confStart (u : Chip) (mask : Nat) : Chip :=
  if popCount mask 3 = 3 then u.modeChange 3 7 3 0
  else if popCount mask 3 = 2 then u.modeChange 2 mask 3 0
  else u.confSafe 0x3008

/-- Values of CF_CFG that the loader rejects (Table 4.10). -/
def Chip.rejectsConf (u : Chip) : Bool :=
  u.get Reg.CF_CFG.RS_TRY_MAX == 0 || decide (u.get Reg.CF_CFG.IMG_WORDS = 0 ∨ 128 < u.get Reg.CF_CFG.IMG_WORDS) ||
  decide (u.get Reg.CF_CFG.VOTE_WIN < 5 ∨ 100 < u.get Reg.CF_CFG.VOTE_WIN)

end Sys2Proof.Machine
end

