-- ==== Sys2Proof/Machine/Blocks.lean ====
section
/-!
DEFINITION. The standard and railway blocks of the runtime library (07 R249, R250, R637, Tables 7.6 and 7.13; 08 R276,
R277). Time is the SNAP of the release (R245).
-/
namespace Sys2Proof.Machine

/-- What one call of a block yields: its data, runtime events (code, data), request words, an object's new value. -/
structure BlkOut where
  blk : Blk
  events : List (Nat × List Nat) := []
  reqs : List Nat := []
  obj : Option (LObj × Nat) := none
  deriving DecidableEq, Repr

/-- 2^31 − 1 ms in ticks. -/
def ptMax : Nat := 2147483647 * 100000

/-- PT in ticks, brought into 0 to 2^31 − 1 ms (R249). -/
def ptTicks (pt : Int) : Nat := if pt < 0 then 0 else if (ptMax : Int) < pt then ptMax else pt.toNat

/-- Whether PT lies outside its range. -/
def ptBad (pt : Int) : Bool := decide (pt < 0 ∨ (ptMax : Int) < pt)

/-- PT_RANGE, with the PT presented in ticks (DESIGN CHOICE: log 118), at the first call of an instance with PT out of range, and again only after a call in range (R249). -/
def ptEvents (b : Blk) (pt : Int) : List (Nat × List Nat) := if ptBad pt && !b.badPt then [(0x11, [b.key, pattern 64 pt])] else []

/-- The first call of a timer after a swap takes a new PT into the deadline of one that runs (08 R276). One that restarted without
continuous Weir time starts anew at its first call: TON semantics go to timing, TOF and TP keep their state (Table 7.9). PT_ST is the PT
of the last call. -/
def retime (now : Nat) (b : Blk) (p : Nat) : Blk :=
  if b.fresh then { b with deadline := now + p, ptSt := p, fresh := false, st := if b.lib = 1 ∨ b.lib = 0x24 then 1 else b.st }
  else { b with deadline := if b.carried = true ∧ b.st = 1 ∧ p ≠ b.ptSt then b.deadline - b.ptSt + p else b.deadline, ptSt := p, carried := false }

/-- A rising edge against an edge memory: the first call reports none (R250). -/
def rises (m : Option Bool) (x : Bool) : Bool :=
  match m with
  | some false => x
  | _ => false

/-- A falling edge against an edge memory. -/
def falls (m : Option Bool) (x : Bool) : Bool :=
  match m with
  | some true => !x
  | _ => false

/-- TON (R249). -/
def blkTon (now : Nat) (b : Blk) (x : Bool) (pt : Int) : Blk :=
  let p := ptTicks pt
  let b := retime now b p
  let b := if !x then { b with st := 0 } else if b.st = 0 then { b with deadline := now + p, st := 1 } else b
  let b := if b.st = 1 ∧ b.deadline ≤ now then { b with st := 2 } else b
  { b with q := b.st == 2, et := if b.st = 0 then 0 else if b.st = 1 then now - (b.deadline - p) else p, badPt := ptBad pt }

/-- TOF (R249). -/
def blkTof (now : Nat) (b : Blk) (x : Bool) (pt : Int) : Blk :=
  let p := ptTicks pt
  let b := retime now b p
  let b := if x then { b with st := 2 } else if b.st = 2 then { b with deadline := now + p, st := 1 } else b
  let b := if b.st = 1 ∧ b.deadline ≤ now then { b with st := 0 } else b
  { b with q := b.st != 0, badPt := ptBad pt }

/-- TP (R249): `m1` is the input of the last call, 0 before the first one. -/
def blkTp (now : Nat) (b : Blk) (x : Bool) (pt : Int) : Blk :=
  let p := ptTicks pt
  let b := retime now b p
  let b := if b.st = 0 ∧ x = true ∧ b.m1.getD false = false then { b with deadline := now + p, st := 1 } else b
  let b := if b.st = 1 ∧ b.deadline ≤ now then { b with st := 0 } else b
  { b with q := b.st == 1, m1 := some x, badPt := ptBad pt }

/-- CTU (Table 7.6). -/
def blkCtu (b : Blk) (cu r : Bool) (pv : Int) : Blk :=
  let cv := if r then 0 else if rises b.m1 cu ∧ b.cv < 32767 then b.cv + 1 else b.cv
  { b with cv := cv, m1 := some cu, q := decide (pv ≤ cv) }

/-- CTD (Table 7.6). -/
def blkCtd (b : Blk) (cd ld : Bool) (pv : Int) : Blk :=
  let cv := if ld then pv else if rises b.m1 cd ∧ -32768 < b.cv then b.cv - 1 else b.cv
  { b with cv := cv, m1 := some cd, q := decide (cv ≤ 0) }

/-- ROUTE (Table 7.13): SET before RELEASE; QUEUED is `q`, which the task's queue decides; LOCKED, PERMITTED (`r`) and DENIED (`m3`) follow the permission
return of the input copy. A ROUTE restarted with LOCKED = 1 queues a SET in its first release (Table 7.9); one of a route that a swap has
CHANGED issues no request until a new SET_CMD (08 R277). -/
def blkRoute (p : PermReturn) (b : Blk) (n : Nat) (set rel : Bool) : BlkOut :=
  let sets := rises b.m1 set
  let mute := b.carried && !sets
  let reqs := (if sets || b.fresh then [requestWord 1 n] else []) ++ (if rises b.m2 rel && !mute then [requestWord 2 n] else [])
  { blk := { b with m1 := some set, m2 := some rel, locked := p.lock.testBit n, r := p.perm.testBit n, m3 := some (p.deniedRoutes.testBit n), value := n,
                    fresh := false, carried := mute }
    reqs := reqs }

/-- APPROACH_LOCK (Table 7.13): HOLD is `q`, REL is `r`. -/
def blkApproach (now : Nat) (b : Blk) (clear relDem cancel : Bool) (pt : Int) : Blk :=
  let p := ptTicks pt
  let b := retime now b p
  let rel := rises b.m1 relDem
  let stop := rises b.m2 cancel
  let b := { b with m1 := some relDem, m2 := some cancel, r := false, badPt := ptBad pt }
  if stop then { b with q := false, st := 0 }
  else
    let b := if rel && !b.q then (if clear then { b with r := true } else { b with q := true, deadline := now + p, st := 1 }) else b
    if b.q && (clear || decide (b.deadline ≤ (now : Int))) then { b with q := false, r := true, st := 2 } else b

/-- DOOR_UNIT (Table 7.13): CLOSED_LOCKED is `q`, FAULT is `r`. -/
def blkDoor (now : Nat) (b : Blk) (closed ok : Bool) (flt : Nat) : Blk :=
  let since := if ok then none else some (b.since.getD now)
  let fault := match since with
    | some t => decide (t + flt * 100000 < now)
    | none => false
  { b with q := closed && ok, r := fault, since := since }

/-- The newest payload of the receive entry of a connection, and VALID (12 Table 12.6). A snapshot without a new frame leaves no payload: its
bits read 0 (DESIGN CHOICE: log 117). -/
def SnapBuf.payload (x : SnapBuf) (conn : Nat) : List Byte × Bool :=
  let s : ConnSt := assoc x.rx conn {}
  (((s.slots.getLast?).map (fun (f : RxSlot) => f.payload)).getD [], s.st == 2)

/-- Bit `i` of a payload (12 R349). -/
def payloadBit (p : List Byte) (i : Nat) : Bool := (p.getD (i / 8) 0).toNat.testBit (i % 8)

/-- What a block reads from a source: the value, and the status bit or VALID (R637). -/
def SnapBuf.src (x : SnapBuf) (s : BlkSrc) : Bool × Bool :=
  match s with
  | .input n => (x.sinVal.testBit n, x.sinStat.testBit n)
  | .zst conn i => let p := x.payload conn; (payloadBit p.1 i, p.2)

/-- DETECTED of a POINT: 1 normal, 2 reverse, 0 otherwise (Table 7.13). -/
def SnapBuf.detected (x : SnapBuf) (s : PointSrc) : Nat :=
  match s with
  | .pair a b =>
    let n := x.src (.input a)
    let r := x.src (.input b)
    if n.2 && r.2 then (if n.1 && !r.1 then 1 else if r.1 && !n.1 then 2 else 0) else 0
  | .zst conn i =>
    let p := x.payload conn
    let v := lvl (payloadBit p.1 (i + 1)) * 2 + lvl (payloadBit p.1 i)
    if p.2 && v != 3 then v else 0

/-- One call of a block: `x` is its task's input copy, `door` whether a DOOR_UNIT instance shows CLOSED_LOCKED without FAULT. -/
def blkCall (now : Nat) (x : SnapBuf) (door : Nat → Bool) (b : Blk) : BlkIn → BlkOut
  | .ton x pt => { blk := blkTon now b x pt, events := ptEvents b pt }
  | .tof x pt => { blk := blkTof now b x pt, events := ptEvents b pt }
  | .tp x pt => { blk := blkTp now b x pt, events := ptEvents b pt }
  | .rTrig x => { blk := { b with q := rises b.m1 x, m1 := some x } }
  | .fTrig x => { blk := { b with q := falls b.m1 x, m1 := some x } }
  | .ctu cu r pv => { blk := blkCtu b cu r pv }
  | .ctd cd ld pv => { blk := blkCtd b cd ld pv }
  | .sr s1 r => { blk := { b with q := s1 || (!r && b.q) } }
  | .rs s r1 => { blk := { b with q := !r1 && (s || b.q) } }
  | .route n set rel => blkRoute x.perm b n set rel
  | .point n det pos drive =>
    let v := x.detected det
    let nrm := pos == 1 && v != 1
    let rev := pos == 2 && v != 2
    { blk := { b with value := v, q := nrm, r := rev, drives := drive.zip [nrm, rev] }, obj := some (⟨0, n⟩, v) }
  | .chainSection n s =>
    let v := x.src s
    let clear := v.1 && v.2
    { blk := { b with q := clear }, obj := some (⟨1, n⟩, lvl clear) }
  | .signal clear perm out =>
    let q := if !clear || !perm then false else b.q || rises b.m1 clear
    let b := { b with q := q, m1 := some clear }
    { blk := match out with
        | .bit n => { b with drives := [(n, q)], gate := none }
        | .zst conn => { b with drives := [], gate := some (conn, q) } }
  | .approachLock clear relDem cancel pt => { blk := blkApproach now b clear relDem cancel pt, events := ptEvents b pt }
  | .psdEdge n group doors =>
    let v := x.src group
    let ready := v.1 && v.2 && doors.all door
    { blk := { b with q := ready }, obj := some (⟨2, n⟩, lvl ready) }
  | .doorUnit s flt => let v := x.src s; { blk := blkDoor now b v.1 v.2 flt }

/-- The library code of a call (Tables 7.6, 7.7). -/
def blkLib : BlkIn → Nat
  | .ton _ _ => 0x01
  | .tof _ _ => 0x02
  | .tp _ _ => 0x03
  | .rTrig _ => 0x04
  | .fTrig _ => 0x05
  | .ctu _ _ _ => 0x06
  | .ctd _ _ _ => 0x07
  | .sr _ _ => 0x08
  | .rs _ _ => 0x09
  | .route _ _ _ => 0x20
  | .point _ _ _ _ => 0x21
  | .chainSection _ _ => 0x22
  | .signal _ _ _ => 0x23
  | .approachLock _ _ _ _ => 0x24
  | .psdEdge _ _ _ => 0x25
  | .doorUnit _ _ => 0x26

end Sys2Proof.Machine
end

