-- ==== Sys2Proof/Machine/Aes.lean ====
section
/-!
DEFINITION. AES-128 and AES-CMAC (12 R356; NIST SP 800-38B). A block is a list of 16 bytes, column by column.
-/
namespace Sys2Proof.Machine

/-- Multiplication by x in GF(2^8) modulo x^8 + x^4 + x^3 + x + 1. -/
def gfDouble (a : Nat) : Nat := if a.testBit 7 then (a * 2 % 256) ^^^ 0x1B else a * 2

/-- Multiplication in GF(2^8). -/
def gfMul (a b : Nat) : Nat :=
  ((List.range 8).foldl (fun (s : Nat × Nat) i => (gfDouble s.1, if b.testBit i then s.2 ^^^ s.1 else s.2)) (a, 0)).2

/-- The multiplicative inverse: the 254th power, 0 for 0. -/
def gfInv (a : Nat) : Nat :=
  let p2 := gfMul a a
  let p4 := gfMul p2 p2
  let p8 := gfMul p4 p4
  let p16 := gfMul p8 p8
  let p32 := gfMul p16 p16
  let p64 := gfMul p32 p32
  let p128 := gfMul p64 p64
  gfMul p2 (gfMul p4 (gfMul p8 (gfMul p16 (gfMul p32 (gfMul p64 p128)))))

/-- Rotation of a byte to the left. -/
def rotl8 (a n : Nat) : Nat := (a * 2 ^ n % 256) ||| (a / 2 ^ (8 - n))

/-- The S-box. -/
def aesSub (a : Nat) : Nat :=
  let i := gfInv a
  i ^^^ rotl8 i 1 ^^^ rotl8 i 2 ^^^ rotl8 i 3 ^^^ rotl8 i 4 ^^^ 0x63

/-- Bytewise exclusive or. -/
def xorBytes (a b : List Nat) : List Nat := List.zipWith (fun x y => x ^^^ y) a b

/-- The next round key: `rc` is the round constant. -/
def nextKey (k : List Nat) (rc : Nat) : List Nat :=
  let w := fun i => (k.drop (4 * i)).take 4
  let t := w 3
  let s := [aesSub (t.getD 1 0) ^^^ rc, aesSub (t.getD 2 0), aesSub (t.getD 3 0), aesSub (t.getD 0 0)]
  let a := xorBytes (w 0) s
  let b := xorBytes (w 1) a
  let c := xorBytes (w 2) b
  a ++ b ++ c ++ xorBytes (w 3) c

/-- SubBytes and ShiftRows. -/
def subShift (s : List Nat) : List Nat := (List.range 16).map (fun i => aesSub (s.getD ((i + 4 * (i % 4)) % 16) 0))

/-- MixColumns. -/
def mixColumns (s : List Nat) : List Nat :=
  (List.range 16).map (fun i =>
    let c := i / 4 * 4
    let b := fun j => s.getD (c + (i + j) % 4) 0
    gfDouble (b 0) ^^^ (gfDouble (b 1) ^^^ b 1) ^^^ b 2 ^^^ b 3)

/-- AES-128 encryption of one block. -/
def aesEncrypt (key block : List Nat) : List Nat :=
  let start := (key, xorBytes block key, 1)
  let mid := (List.range 9).foldl (fun (s : List Nat × List Nat × Nat) _ =>
    let k := nextKey s.1 s.2.2
    (k, xorBytes (mixColumns (subShift s.2.1)) k, gfDouble s.2.2)) start
  xorBytes (subShift mid.2.1) (nextKey mid.1 mid.2.2)

/-- A 128-bit number as 16 bytes, highest first. -/
def blockOf (v : Nat) : List Nat := (beBytes 16 v).map BitVec.toNat

/-- Doubling of a subkey in CMAC. -/
def cmacDouble (v : Nat) : Nat := if v.testBit 127 then (v * 2 % 2 ^ 128) ^^^ 0x87 else v * 2

/-- The chain over complete blocks, the last of which is given apart. -/
def cmacChain (key : List Nat) : Nat → List Nat → List Nat → List Nat
  | 0, c, _ => c
  | n + 1, c, l => cmacChain key n (aesEncrypt key (xorBytes c (l.take 16))) (l.drop 16)

/-- AES-CMAC of a message, 128 bits. -/
def aesCmac (key : List Byte) (msg : List Byte) : Nat :=
  let k := key.map BitVec.toNat
  let m := msg.map BitVec.toNat
  let l := (aesEncrypt k (List.replicate 16 0)).foldl (fun a b => a * 256 + b) 0
  let k1 := cmacDouble l
  let n := if m.length = 0 then 1 else (m.length + 15) / 16
  let last := m.drop (16 * (n - 1))
  let full := last.length == 16
  let tail := if full then xorBytes last (blockOf k1)
    else xorBytes (last ++ [0x80] ++ List.replicate (15 - last.length) 0) (blockOf (cmacDouble k1))
  let c := cmacChain k (n - 1) (List.replicate 16 0) m
  (aesEncrypt k (xorBytes c tail)).foldl (fun a b => a * 256 + b) 0

end Sys2Proof.Machine
end

