-- ==== Sys2Proof/Machine/App.lean ====
section
/-!
DEFINITION. The application image in channel SRAM (07 R228, R230, R232, R643): header, type, task and descriptor tables, output
ownership map, lattice object table; and the conditions under which it is rejected.
-/
namespace Sys2Proof.Machine

/-- A little-endian number of `n` bytes at an address of a memory. -/
def memNat (m : List Host.Cell) (a n : Nat) : Nat := leNat (memReadBytes m a n)

/-- Base address of code bank 0 (A) or 1 (B) (02 Table 2.2). -/
def bankBase (b : Nat) : Nat := 0x10000000 + b * 0x200000

/-- Base address of the instance store (02 Table 2.2). -/
def instBase : Nat := 0x10400000

/-- An application in a code bank (Table 7.1). -/
structure App where
  base : Nat
  magic : Nat
  format : Nat
  appId : Nat
  nType : Nat
  nInst : Nat
  nTask : Nat
  typeOff : Nat
  taskOff : Nat
  descOff : Nat
  ownOff : Nat
  retOff : Nat
  flags : Nat
  retPages : Nat
  lobjOff : Nat
  nLobj : Nat
  deriving DecidableEq, Repr

/-- The application header at the start of a code bank. -/
def appAt (m : List Host.Cell) (bank : Nat) : App :=
  let b := bankBase bank
  let w := fun o => memNat m (b + o) 4
  { base := b, magic := w 0, format := w 4, appId := memNat m (b + 8) 8, nType := w 0x10, nInst := w 0x14, nTask := w 0x18,
    typeOff := w 0x1C, taskOff := w 0x20, descOff := w 0x24, ownOff := w 0x28, retOff := w 0x2C, flags := w 0x30,
    retPages := w 0x34, lobjOff := w 0x38, nLobj := w 0x3C }

/-- Retained pages a task-0 delivery carries (Table 7.1). -/
def App.retRate (a : App) : Nat := bits a.flags 11 8

/-- WARM_EN. -/
def App.warmEn (a : App) : Bool := a.flags.testBit 0

/-- A type table entry (Table 7.2). -/
structure AppType where
  sig : Nat
  entry : Nat
  init : Nat
  lib : Nat
  deriving DecidableEq, Repr

/-- A task table entry (Table 7.2). -/
structure AppTask where
  period : Nat
  dl : Nat
  first : Nat
  count : Nat
  inOff : Nat
  inWords : Nat
  stack : Nat
  pubOff : Nat
  pubWords : Nat
  deriving DecidableEq, Repr

/-- A descriptor table entry (Table 7.2). -/
structure AppDesc where
  key : Nat
  sig : Nat
  off : Nat
  task : Nat
  retain : Bool
  rpage : Nat
  size : Nat
  deriving DecidableEq, Repr

/-- Type `i`. -/
def App.type (m : List Host.Cell) (a : App) (i : Nat) : AppType :=
  let w := fun o => memNat m (a.base + a.typeOff + 16 * i + o) 4
  ⟨w 0, w 4, w 8, bits (w 12) 31 16⟩

/-- Task `t`. -/
def App.task (m : List Host.Cell) (a : App) (t : Nat) : AppTask :=
  let w := fun o => memNat m (a.base + a.taskOff + 32 * t + o) 4
  ⟨bits (w 0) 31 20, bits (w 0) 19 0, bits (w 4) 31 16, bits (w 4) 15 0, w 8, bits (w 12) 31 16, bits (w 12) 15 0, w 16,
   bits (w 20) 31 16⟩

/-- Descriptor `i`. -/
def App.desc (m : List Host.Cell) (a : App) (i : Nat) : AppDesc :=
  let w := fun o => memNat m (a.base + a.descOff + 16 * i + o) 4
  let d := w 12
  ⟨w 0, w 4, w 8, bits d 31 29, d.testBit 28, bits d 27 22, bits d 15 0⟩

/-- Every type, task and descriptor, at most as many as Table 7.1 allows. -/
def App.types (m : List Host.Cell) (a : App) : List AppType := (List.range (min a.nType 1024)).map (App.type m a)
def App.tasks (m : List Host.Cell) (a : App) : List AppTask := (List.range (min a.nTask 8)).map (App.task m a)
def App.descs (m : List Host.Cell) (a : App) : List AppDesc := (List.range (min a.nInst 60000)).map (App.desc m a)

/-- The task that owns an image bit. -/
def App.owner (m : List Host.Cell) (a : App) (n : Nat) : Option Nat :=
  let e := bits (memRead m (a.base + a.ownOff + n / 2)).toNat (4 * (n % 2) + 3) (4 * (n % 2))
  if e.testBit 3 then some (e % 8) else none

/-- The image bits that a task owns, as an image. -/
def App.ownMask (m : List Host.Cell) (a : App) (t : Nat) : Nat := maskOf ((List.range 4096).filter (fun n => a.owner m n == some t))

/-- An entry of the lattice object table: task, object, its reserved bits (R643). -/
def App.lobj (m : List Host.Cell) (a : App) (i : Nat) : Nat × LObj × Nat :=
  let e := memNat m (a.base + a.lobjOff + 4 * i) 4
  (bits e 31 29, ⟨bits e 13 12, bits e 11 0⟩, bits e 28 14)

/-- The lattice objects of a task, in table order. -/
def App.lobjs (m : List Host.Cell) (a : App) (t : Nat) : List LObj :=
  (List.range (min a.nLobj 5248)).filterMap (fun i => let e := a.lobj m i; if e.1 = t then some e.2.1 else none)

/-- The areas of an application in the instance store: first offset and length (R230, R261). -/
def App.areas (m : List Host.Cell) (a : App) : List (Nat × Nat) :=
  (a.descs m).map (fun d => (d.off, d.size)) ++ (a.tasks m).map (fun t => (t.inOff, 4 * t.inWords)) ++
  (a.tasks m).map (fun t => (t.pubOff, 4 * t.pubWords)) ++ [(a.retOff, 1024 * a.retPages)]

/-- Whether two areas overlap. -/
def overlap (a b : Nat × Nat) : Bool := decide (a.2 ≠ 0 ∧ b.2 ≠ 0 ∧ a.1 < b.1 + b.2 ∧ b.1 < a.1 + a.2)

/-- Whether any two areas of a list overlap. -/
def anyOverlap : List (Nat × Nat) → Bool
  | [] => false
  | a :: t => t.any (overlap a) || anyOverlap t

/-- Whether a list names an element twice. -/
def anyTwice : List Nat → Bool
  | [] => false
  | a :: t => t.contains a || anyTwice t

/-- Whether an area of the instance store lies in the data area of Table 7.3. -/
def inDataArea (a : Nat × Nat) : Bool := decide (a.2 = 0 ∨ (0x1000 ≤ a.1 ∧ a.1 + a.2 ≤ 0x300000))

/-- The configuration that an application is judged against: WR_TDL as (PERIOD, DL), BASE, first bit and count of bits of the
lattice areas. -/
structure AppCtx where
  tdl : List (Nat × Nat)
  base : Nat
  areas : List (Nat × Nat)
  deriving DecidableEq, Repr

/-- FD(t) in µs (R232). -/
def finalDeadline (base : Nat) (t : AppTask) : Int := (t.dl : Int) - ((t.period : Int) - base) * 250

/-- R232: whether the task table is wrong. -/
def App.badTasks (m : List Host.Cell) (a : App) (x : AppCtx) : Bool :=
  let ts := a.tasks m
  let pair := fun t => (t.period, t.dl)
  (ts.map pair != x.tdl.take ts.length) || (x.tdl.drop ts.length).any (fun p => p.1 != 0) ||
  ((ts.head?.map (fun t => t.period)) != some x.base) ||
  (ts.zip (ts.drop 1)).any (fun e => e.1.period == 0 || e.2.period % e.1.period != 0 || decide (finalDeadline x.base e.2 < finalDeadline x.base e.1)) ||
  ts.any (fun t => decide (t.period = 0 ∨ 4000 < t.period ∨ (x.base : Int) * 250 - 20 < finalDeadline x.base t))

/-- The task ranges overlap or do not cover every descriptor. -/
def App.badRanges (m : List Host.Cell) (a : App) : Bool :=
  let rs := (a.tasks m).map (fun t => (t.first, t.count))
  anyOverlap rs || (List.range (min a.nInst 60000)).any (fun i => !rs.any (fun r => decide (r.1 ≤ i ∧ i < r.1 + r.2)))

/-- The lattice object table breaks R643 or R230. -/
def App.badLobjs (m : List Host.Cell) (a : App) : Bool :=
  let es := (List.range (min a.nLobj 5248)).map (a.lobj m)
  let rank := fun (e : Nat × LObj × Nat) => e.1 * 2 ^ 14 + e.2.1.kind * 2 ^ 12 + e.2.1.index
  let lim := fun (k : Nat) => if k = 0 then 1024 else if k = 1 then 4096 else 128
  decide (0x200000 < a.lobjOff + 4 * a.nLobj) || (es.zip (es.drop 1)).any (fun e => decide (rank e.2 ≤ rank e.1)) ||
  anyTwice (es.map (fun e => e.2.1.kind * 4096 + e.2.1.index)) ||
  es.any (fun e => decide (a.nTask ≤ e.1 ∨ 2 < e.2.1.kind ∨ e.2.2 ≠ 0 ∨ lim e.2.1.kind ≤ e.2.1.index))

/-- The first condition of R230 that an application fails, numbered from 1 in the order of its list. -/
def App.failing (m : List Host.Cell) (a : App) (x : AppCtx) : Option Nat :=
  let inBank := fun (o n : Nat) => decide (o + n ≤ 0x200000)
  let ds := a.descs m
  let sigs := (a.types m).map (fun t => t.sig)
  let checks : List Bool := [
    decide (a.magic ≠ 0x41460001 ∨ a.format ≠ 1 ∨ a.nType = 0 ∨ 1024 < a.nType ∨ a.nInst = 0 ∨ 60000 < a.nInst ∨ a.nTask = 0 ∨
      8 < a.nTask ∨ 64 < a.retPages ∨ 5248 < a.nLobj ∨ a.retRate = 0 ∨ 8 < a.retRate),
    !(inBank a.typeOff (16 * a.nType) && inBank a.taskOff (32 * a.nTask) && inBank a.descOff (16 * a.nInst) && inBank a.ownOff 2048 &&
      (a.types m).all (fun t => inBank t.entry 1 && inBank t.init 1)),
    (a.areas m).any (fun r => !inDataArea r) || anyOverlap (a.areas m),
    anyTwice (ds.map (fun d => d.key)) || ds.any (fun d => decide (d.key = 0 ∨ d.key = 0xFFFFFFFF)),
    ds.any (fun d => !sigs.contains d.sig),
    ds.any (fun d => decide (a.nTask ≤ d.task)),
    a.badRanges m,
    ds.any (fun d => d.retain && decide (a.retPages ≤ d.rpage)),
    x.areas.any (fun r => (List.range r.2).any (fun i => (a.owner m (r.1 + i)).isSome)),
    a.badLobjs m,
    a.badTasks m x]
  ((List.range checks.length).find? (fun i => checks.getD i false)).map (· + 1)

end Sys2Proof.Machine
end

