-- ==== Sys2Proof/Machine/Intake.lean ====
section
/-!
DEFINITION. Event intake (chapter 16): raising events, assembly buffers, the merge unit, LOST records.
-/
namespace Sys2Proof.Machine

/-- EVENT_RAISE (R20, R480): a hardware source raises an event. -/
def execEventRaise (src code : Nat) (data : List Nat) (s : State) : Host.Outcome State Fault Refusal :=
  s.become (s.chip.raise src code data)

/-- The source of a requester's fabric writes (Table 16.5). -/
def writerSource (req : Nat) : Nat := if req < 3 then 19 + req else 96 + (req - 3)

/-- INT_ASM_WRITE (R480): word `k` of the writing requester's assembly buffer. -/
def Chip.asmWrite (u : Chip) (req k v : Nat) : Chip :=
  if req ≤ 6 ∧ k ≤ 10 then
    ({ u with intake := { u.intake with asm := modAt u.intake.asm req (fun b => modAt b k (fun _ => v % 2 ^ 32)) } }).answer .ok
  else u.planeRefused req (0x40901040 + 4 * k)

/-- INT_RAISE (R480, R482): the assembly buffer moves into the source's staging register, stamped now. The response is the
same whether or not the event is staged. -/
def Chip.asmRaise (u : Chip) (req : Nat) : Chip :=
  if req ≤ 6 then
    let b := u.intake.asm.getD req []
    (u.stage { src := writerSource req, code := b.getD 0 0 % 2 ^ 16, data := b.drop 1, stamp := u.weirTime, inj := false, raw := true }).answer .ok
  else u.planeRefused req 0x40901070

/-- The staged event that the merge unit takes next: lowest stamp, then lowest source (R481). -/
def mergeNext (l : List Ev) : Option Ev :=
  l.foldl (fun b e => match b with
    | none => some e
    | some x => if e.stamp < x.stamp ∨ (e.stamp = x.stamp ∧ e.src < x.src) then some e else some x) none

/-- The next event that firmware raises from a source whose staging register has become free. -/
def Chip.restage (u : Chip) (src : Nat) : Chip :=
  match u.intake.later.find? (fun e => e.src == src) with
  | some e => ({ u with intake := { u.intake with later := u.intake.later.erase e } }).stage e
  | none => u

/-- LOST_RECORD_STAGE (R483, R501): a free staging register of a source with pending losses takes a LOST record. -/
def execLostRecordStage (src : Nat) (s : State) : Host.Outcome State Fault Refusal :=
  let u := s.chip
  let closed := match u.evr.spill with
    | some p => p.closed
    | none => false
  match u.intake.lost.find? (fun p => p.src == src) with
  | none => s.become u
  | some p =>
    if u.staged src || closed then s.become u
    else
      let u := { u with intake := { u.intake with lost := u.intake.lost.filter (fun x => x.src != src) } }
      s.become (u.raise src 0xFF [p.count, p.first])

end Sys2Proof.Machine
end

