-- ==== Sys2Proof/Machine/Rv.lean ====
section
/-!
DEFINITION. The instruction set of a channel core (03 Table 3.2): RV32IMC, Zicsr, Zifencei, Machine and User mode, PMP, exceptions.
The spec names the RISC-V specifications and does not repeat them: what stands here is taken from those (PRESUMED: log 102).
Words are numbers below 2^32. `arch` is the list of the 64 words of R82.
-/
namespace Sys2Proof.Machine

/-! ### Architectural words (R82) -/

/-- Register `x n`; x0 reads 0. -/
def rvReg (l : List Nat) (n : Nat) : Nat := if n = 0 then 0 else l.getD (n - 1) 0

/-- A word of the 64 set to a value. -/
def rvPut (l : List Nat) (i v : Nat) : List Nat := modAt l i (fun _ => v % 2 ^ 32)

/-- Register `x n` set; x0 discards writes. -/
def rvSet (l : List Nat) (n v : Nat) : List Nat := if n = 0 then l else rvPut l (n - 1) v

/-- The pc. -/
def rvPc (l : List Nat) : Nat := l.getD 31 0

/-- mstatus. -/
def rvStatus (l : List Nat) : Nat := l.getD 32 0

/-- mie. -/
def rvMie (l : List Nat) : Nat := l.getD 33 0

/-- A word read as a signed number. -/
def s32 (v : Nat) : Int := signed 32 v

/-- A signed number as a word. -/
def p32 (x : Int) : Nat := pattern 32 x

/-- A `w`-bit field, sign-extended to a word. -/
def sext (w v : Nat) : Nat := p32 (signed w v)

/-! ### What an instruction asks for -/

/-- An instruction, decoded against the registers that it reads. -/
inductive RvAct where
  /-- Write-back of a value; the next instruction follows. -/
  | alu (rd v : Nat)
  /-- Write-back of the return address where `rd` is not 0, and a jump. -/
  | jump (rd target : Nat)
  | load (rd a size : Nat) (sx : Bool)
  | store (a size v : Nat)
  /-- CSR access: destination, number, operation (1 write, 2 set, 3 clear), operand, whether it writes. -/
  | csr (rd num op v : Nat) (wr : Bool)
  | mret
  | wfi
  /-- An exception: cause and trap value. -/
  | trap (cause tval : Nat)
  deriving DecidableEq, Repr

/-! ### RV32I and M -/

/-- Register-register and register-immediate operations. -/
def rvAlu (f3 : Nat) (alt : Bool) (a b : Nat) : Nat :=
  match f3 with
  | 0 => if alt then (a + 2 ^ 32 - b) % 2 ^ 32 else (a + b) % 2 ^ 32
  | 1 => a * 2 ^ (b % 32) % 2 ^ 32
  | 2 => lvl (decide (s32 a < s32 b))
  | 3 => lvl (decide (a < b))
  | 4 => a ^^^ b
  | 5 => if alt then p32 (s32 a / 2 ^ (b % 32)) else a / 2 ^ (b % 32)
  | 6 => a ||| b
  | _ => a &&& b

/-- The M extension: division by 0 and overflow as the RISC-V specification states. -/
def rvMul (f3 a b : Nat) : Nat :=
  match f3 with
  | 0 => a * b % 2 ^ 32
  | 1 => p32 (s32 a * s32 b / 2 ^ 32)
  | 2 => p32 (s32 a * (b : Int) / 2 ^ 32)
  | 3 => a * b / 2 ^ 32
  | 4 => if b = 0 then 2 ^ 32 - 1 else p32 (Int.tdiv (s32 a) (s32 b))
  | 5 => if b = 0 then 2 ^ 32 - 1 else a / b
  | 6 => if b = 0 then a else p32 (Int.tmod (s32 a) (s32 b))
  | _ => if b = 0 then a else a % b

/-- Whether a branch is taken; none for a reserved condition. -/
def rvBranch (f3 a b : Nat) : Option Bool :=
  match f3 with
  | 0 => some (a == b)
  | 1 => some (a != b)
  | 4 => some (decide (s32 a < s32 b))
  | 5 => some (!decide (s32 a < s32 b))
  | 6 => some (decide (a < b))
  | 7 => some (!decide (a < b))
  | _ => none

/-- Immediate of a store. -/
def immS (w : Nat) : Nat := sext 12 (bits w 31 25 * 32 + bits w 11 7)

/-- Immediate of a branch. -/
def immB (w : Nat) : Nat := sext 13 (bits w 31 31 * 4096 + bits w 7 7 * 2048 + bits w 30 25 * 32 + bits w 11 8 * 2)

/-- Immediate of JAL. -/
def immJ (w : Nat) : Nat := sext 21 (bits w 31 31 * 2 ^ 20 + bits w 19 12 * 4096 + bits w 20 20 * 2048 + bits w 30 21 * 2)

/-- A 32-bit instruction at the pc of `l`. -/
def rvDecode (l : List Nat) (w : Nat) : RvAct :=
  let pc := rvPc l
  let rd := bits w 11 7
  let f3 := bits w 14 12
  let a := rvReg l (bits w 19 15)
  let b := rvReg l (bits w 24 20)
  let f7 := bits w 31 25
  let immI := sext 12 (bits w 31 20)
  let bad := RvAct.trap 2 w
  match bits w 6 0 with
  | 0x37 => .alu rd (bits w 31 12 * 4096)
  | 0x17 => .alu rd ((pc + bits w 31 12 * 4096) % 2 ^ 32)
  | 0x6F => .jump rd ((pc + immJ w) % 2 ^ 32)
  | 0x67 => if f3 = 0 then .jump rd ((a + immI) % 2 ^ 32 / 2 * 2) else bad
  | 0x63 =>
    match rvBranch f3 a b with
    | some t => if t then .jump 0 ((pc + immB w) % 2 ^ 32) else .alu 0 0
    | none => bad
  | 0x03 =>
    let x := (a + immI) % 2 ^ 32
    if f3 < 3 then .load rd x (2 ^ f3) true else if f3 = 4 ∨ f3 = 5 then .load rd x (2 ^ (f3 - 4)) false else bad
  | 0x23 => if f3 < 3 then .store ((a + immS w) % 2 ^ 32) (2 ^ f3) b else bad
  | 0x13 =>
    if f3 = 1 then (if f7 = 0 then .alu rd (rvAlu 1 false a (bits w 24 20)) else bad)
    else if f3 = 5 then (if f7 = 0 ∨ f7 = 0x20 then .alu rd (rvAlu 5 (f7 == 0x20) a (bits w 24 20)) else bad)
    else .alu rd (rvAlu f3 false a immI)
  | 0x33 =>
    if f7 = 1 then .alu rd (rvMul f3 a b)
    else if f7 = 0 then .alu rd (rvAlu f3 false a b)
    else if f7 = 0x20 ∧ (f3 = 0 ∨ f3 = 5) then .alu rd (rvAlu f3 true a b)
    else bad
  | 0x0F => if f3 = 0 ∨ f3 = 1 then .alu 0 0 else bad
  | 0x73 =>
    if f3 = 0 then
      (if w = 0x00000073 then .trap 11 0 else if w = 0x00100073 then .trap 3 pc
       else if w = 0x30200073 then .mret else if w = 0x10500073 then .wfi else bad)
    else if f3 = 4 then bad
    else
      let src := bits w 19 15
      .csr rd (bits w 31 20) (f3 % 4) (if f3 < 4 then a else src) (f3 % 4 == 1 || src != 0)
  | _ => bad

/-! ### RV32C: each 16-bit instruction stands for a 32-bit one -/

/-- I-type word. -/
def encI (op f3 rd rs imm : Nat) : Nat := imm % 4096 * 2 ^ 20 + rs * 2 ^ 15 + f3 * 2 ^ 12 + rd * 2 ^ 7 + op

/-- R-type word. -/
def encR (op f3 f7 rd rs1 rs2 : Nat) : Nat := f7 * 2 ^ 25 + rs2 * 2 ^ 20 + rs1 * 2 ^ 15 + f3 * 2 ^ 12 + rd * 2 ^ 7 + op

/-- SW. -/
def encSw (rs1 rs2 imm : Nat) : Nat := bits imm 11 5 * 2 ^ 25 + rs2 * 2 ^ 20 + rs1 * 2 ^ 15 + 2 * 2 ^ 12 + bits imm 4 0 * 2 ^ 7 + 0x23

/-- BEQ and BNE against x0. -/
def encBz (f3 rs imm : Nat) : Nat :=
  bits imm 12 12 * 2 ^ 31 + bits imm 10 5 * 2 ^ 25 + rs * 2 ^ 15 + f3 * 2 ^ 12 + bits imm 4 1 * 2 ^ 8 + bits imm 11 11 * 2 ^ 7 + 0x63

/-- JAL. -/
def encJal (rd imm : Nat) : Nat :=
  bits imm 20 20 * 2 ^ 31 + bits imm 10 1 * 2 ^ 21 + bits imm 11 11 * 2 ^ 20 + bits imm 19 12 * 2 ^ 12 + rd * 2 ^ 7 + 0x6F

/-- The immediate of C.J and C.JAL. -/
def immCj (h : Nat) : Nat :=
  sext 12 (bits h 12 12 * 2048 + bits h 11 11 * 16 + bits h 10 9 * 256 + bits h 8 8 * 1024 + bits h 7 7 * 64 + bits h 6 6 * 128 +
    bits h 5 3 * 2 + bits h 2 2 * 32)

/-- The 32-bit instruction that a 16-bit one stands for; none for a reserved or illegal one. -/
def rvExpand (h : Nat) : Option Nat :=
  let r1 := 8 + bits h 9 7
  let r2 := 8 + bits h 4 2
  let rd := bits h 11 7
  let rs2 := bits h 6 2
  let imm := sext 6 (bits h 12 12 * 32 + bits h 6 2)
  let cw := bits h 5 5 * 64 + bits h 12 10 * 8 + bits h 6 6 * 4
  match bits h 1 0, bits h 15 13 with
  | 0, 0 =>
    let n := bits h 10 7 * 64 + bits h 12 11 * 16 + bits h 5 5 * 8 + bits h 6 6 * 4
    if n = 0 then none else some (encI 0x13 0 r2 2 n)
  | 0, 2 => some (encI 0x03 2 r2 r1 cw)
  | 0, 6 => some (encSw r1 r2 cw)
  | 1, 0 => some (encI 0x13 0 rd rd imm)
  | 1, 1 => some (encJal 1 (immCj h))
  | 1, 2 => some (encI 0x13 0 rd 0 imm)
  | 1, 3 =>
    if rd = 2 then
      let n := bits h 12 12 * 512 + bits h 4 3 * 128 + bits h 5 5 * 64 + bits h 2 2 * 32 + bits h 6 6 * 16
      if n = 0 then none else some (encI 0x13 0 2 2 (sext 10 n))
    else if bits h 12 12 * 32 + bits h 6 2 = 0 then none
    else some (imm * 4096 % 2 ^ 32 + rd * 128 + 0x37)
  | 1, 4 =>
    match bits h 11 10 with
    | 0 => if bits h 12 12 = 1 then none else some (encR 0x13 5 0 r1 r1 rs2)
    | 1 => if bits h 12 12 = 1 then none else some (encR 0x13 5 0x20 r1 r1 rs2)
    | 2 => some (encI 0x13 7 r1 r1 imm)
    | _ =>
      if bits h 12 12 = 1 then none
      else match bits h 6 5 with
        | 0 => some (encR 0x33 0 0x20 r1 r1 r2)
        | 1 => some (encR 0x33 4 0 r1 r1 r2)
        | 2 => some (encR 0x33 6 0 r1 r1 r2)
        | _ => some (encR 0x33 7 0 r1 r1 r2)
  | 1, 5 => some (encJal 0 (immCj h))
  | 1, 6 => some (encBz 0 r1 (sext 9 (bits h 12 12 * 256 + bits h 6 5 * 64 + bits h 2 2 * 32 + bits h 11 10 * 8 + bits h 4 3 * 2)))
  | 1, 7 => some (encBz 1 r1 (sext 9 (bits h 12 12 * 256 + bits h 6 5 * 64 + bits h 2 2 * 32 + bits h 11 10 * 8 + bits h 4 3 * 2)))
  | 2, 0 => if bits h 12 12 = 1 then none else some (encR 0x13 1 0 rd rd rs2)
  | 2, 2 => if rd = 0 then none else some (encI 0x03 2 rd 2 (bits h 3 2 * 64 + bits h 12 12 * 32 + bits h 6 4 * 4))
  | 2, 4 =>
    if bits h 12 12 = 0 then
      (if rs2 = 0 then (if rd = 0 then none else some (encI 0x67 0 0 rd 0)) else some (encR 0x33 0 0 rd 0 rs2))
    else if rs2 = 0 then (if rd = 0 then some 0x00100073 else some (encI 0x67 0 1 rd 0))
    else some (encR 0x33 0 0 rd rd rs2)
  | 2, 6 => some (encSw 2 rs2 (bits h 8 7 * 64 + bits h 12 9 * 4))
  | _, _ => none

/-- The instruction whose 32 bits from the pc on are `w`: its length and what it asks for. -/
def rvInsn (l : List Nat) (w : Nat) : Nat × RvAct :=
  if w % 4 = 3 then (4, rvDecode l w)
  else match rvExpand (w % 2 ^ 16) with
    | some x => (2, rvDecode l x)
    | none => (2, .trap 2 (w % 2 ^ 16))

/-! ### Physical memory protection -/

/-- Byte `i` of pmpcfg0 to pmpcfg3. -/
def pmpCfg (l : List Nat) (i : Nat) : Nat := l.getD (39 + i / 4) 0 / 2 ^ (8 * (i % 4)) % 256

/-- pmpaddr `i`: an address in units of 4 bytes. -/
def pmpAddr (l : List Nat) (i : Nat) : Nat := l.getD (43 + i) 0

/-- The trailing ones of a pmpaddr, at most 32. -/
def trailingOnes (v : Nat) : Nat := ((List.range 33).find? (fun k => !v.testBit k)).getD 32

/-- The bytes that entry `i` covers: first, and first beyond; none where it is off. -/
def pmpRange (l : List Nat) (i : Nat) : Option (Nat × Nat) :=
  match bits (pmpCfg l i) 4 3 with
  | 0 => none
  | 1 => some (if i = 0 then 0 else pmpAddr l (i - 1) * 4, pmpAddr l i * 4)
  | 2 => some (pmpAddr l i * 4, pmpAddr l i * 4 + 4)
  | _ =>
    let n := trailingOnes (pmpAddr l i) + 3
    some (pmpAddr l i * 4 / 2 ^ n * 2 ^ n, pmpAddr l i * 4 / 2 ^ n * 2 ^ n + 2 ^ n)

/-- Whether the PMP lets an access of `n` bytes at `a` in privilege mode `priv` (3 Machine, 0 User) read (bit 0), write (1) or execute
(2): the lowest entry that matches any byte decides, and it must match all of them. -/
def pmpPermits (l : List Nat) (priv a n bit : Nat) : Bool :=
  match (List.range 16).find? (fun i => match pmpRange l i with
      | some (lo, hi) => decide (lo < a + n ∧ a < hi)
      | none => false) with
  | none => priv == 3
  | some i =>
    match pmpRange l i with
    | some (lo, hi) =>
      decide (lo ≤ a ∧ a + n ≤ hi) && ((priv == 3 && !(pmpCfg l i).testBit 7) || (pmpCfg l i).testBit bit)
    | none => false

/-- Whether entry `i` ignores writes of its address: locked, or the base of a locked TOR entry. -/
def pmpAddrLocked (l : List Nat) (i : Nat) : Bool :=
  (pmpCfg l i).testBit 7 || (decide (i < 15) && (pmpCfg l (i + 1)).testBit 7 && bits (pmpCfg l (i + 1)) 4 3 == 1)

/-- A write of pmpcfg `k`: locked bytes stay; the reserved pair of W without R is written without W; bits 6:5 read 0. -/
def pmpCfgWrite (l : List Nat) (k v : Nat) : List Nat :=
  let byte := fun j =>
    let old := pmpCfg l (4 * k + j)
    let x := bits v (8 * j + 7) (8 * j)
    let x := x - bits x 6 5 * 32
    let x := if x % 4 = 2 then x - 2 else x
    if old.testBit 7 then old else x
  rvPut l (39 + k) (byte 0 + byte 1 * 2 ^ 8 + byte 2 * 2 ^ 16 + byte 3 * 2 ^ 24)

/-! ### Control and status registers -/

/-- A CSR as read: a value, or one that is sampled once (Table 3.3): 0 time, 1 timeh, 2 mcycle, 3 mcycleh, 4 minstret, 5 minstreth,
6 mip. -/
inductive RvCsr where
  | val (v : Nat)
  | sampled (k : Nat)
  deriving DecidableEq, Repr

/-- Bits of mstatus that exist: MIE, MPIE, MPP, MPRV, TW. -/
def mstatusMask : Nat := 0x00221888

/-- The CSR with a number; none where there is none. mcounteren lets User mode read every counter (log 102). -/
def rvCsr (l : List Nat) (n : Nat) : Option RvCsr :=
  if n = 0x300 then some (.val (l.getD 32 0))
  else if n = 0x301 then some (.val 0x40101104)
  else if n = 0x304 then some (.val (l.getD 33 0))
  else if n = 0x305 then some (.val (l.getD 34 0))
  else if n = 0x306 then some (.val 7)
  else if n = 0x340 then some (.val (l.getD 35 0))
  else if n = 0x341 then some (.val (l.getD 36 0))
  else if n = 0x342 then some (.val (l.getD 37 0))
  else if n = 0x343 then some (.val (l.getD 38 0))
  else if n = 0x344 then some (.sampled 6)
  else if 0x3A0 ≤ n ∧ n < 0x3A4 then some (.val (l.getD (39 + (n - 0x3A0)) 0))
  else if 0x3B0 ≤ n ∧ n < 0x3C0 then some (.val (l.getD (43 + (n - 0x3B0)) 0))
  else if n = 0xC01 then some (.sampled 0)
  else if n = 0xC81 then some (.sampled 1)
  else if n = 0xB00 ∨ n = 0xC00 then some (.sampled 2)
  else if n = 0xB80 ∨ n = 0xC80 then some (.sampled 3)
  else if n = 0xB02 ∨ n = 0xC02 then some (.sampled 4)
  else if n = 0xB82 ∨ n = 0xC82 then some (.sampled 5)
  else if n = 0x310 ∨ n = 0x320 ∨ (0xF11 ≤ n ∧ n ≤ 0xF15) ∨ (0x323 ≤ n ∧ n < 0x340) ∨ (0xB03 ≤ n ∧ n < 0xB20) ∨ (0xB83 ≤ n ∧ n < 0xBA0) then some (.val 0)
  else none

/-- A write of a CSR among the words of R82; other CSRs have no writable bit. -/
def rvCsrWrite (l : List Nat) (n v : Nat) : List Nat :=
  if n = 0x300 then
    let mpp := if bits v 12 11 = 3 then 3 else if bits v 12 11 = 0 then 0 else bits (l.getD 32 0) 12 11
    rvPut l 32 ((v &&& (mstatusMask - 0x1800)) + mpp * 2048)
  else if n = 0x304 then rvPut l 33 (v &&& 0x800)
  else if n = 0x305 then rvPut l 34 (v - bits v 1 1 * 2)
  else if n = 0x340 then rvPut l 35 v
  else if n = 0x341 then rvPut l 36 (v / 2 * 2)
  else if n = 0x342 then rvPut l 37 v
  else if n = 0x343 then rvPut l 38 v
  else if 0x3A0 ≤ n ∧ n < 0x3A4 then pmpCfgWrite l (n - 0x3A0) v
  else if 0x3B0 ≤ n ∧ n < 0x3C0 then (if pmpAddrLocked l (n - 0x3B0) then l else rvPut l (43 + (n - 0x3B0)) v)
  else l

/-! ### Traps -/

/-- A trap is taken: mepc, mcause, mtval, the interrupt and privilege stack of mstatus, the pc at mtvec (an interrupt of cause 11 at
base + 44 in vectored mode). The core is then in Machine mode. -/
def rvTrap (l : List Nat) (priv cause tval : Nat) : List Nat :=
  let st := l.getD 32 0
  let tv := l.getD 34 0
  let mie := bits st 3 3
  let st := (st &&& (mstatusMask - 0x1888)) + mie * 128 + priv * 2048
  let base := tv / 4 * 4
  let pc := if cause.testBit 31 ∧ tv % 4 = 1 then base + 4 * (cause % 2 ^ 31) else base
  rvPut (rvPut (rvPut (rvPut (rvPut l 36 (rvPc l)) 37 cause) 38 tval) 32 st) 31 pc

/-- MRET: the pc returns to mepc, mstatus and the privilege mode to what they were before the trap. -/
def rvMret (l : List Nat) : List Nat × Nat :=
  let st := l.getD 32 0
  let mpp := bits st 12 11
  let mprv := if mpp = 3 then bits st 17 17 else 0
  let st := (st &&& (mstatusMask - 0x21888)) + bits st 7 7 * 8 + 128 + mprv * 2 ^ 17
  (rvPut (rvPut l 32 st) 31 (l.getD 36 0), mpp)

/-- The checks that turn an instruction into an exception: privilege, alignment (Table 3.2), PMP. `priv` is the privilege mode. -/
def rvCheck (l : List Nat) (priv w : Nat) (a : RvAct) : RvAct :=
  let st := l.getD 32 0
  let data := if st.testBit 17 then bits st 12 11 else priv
  match a with
  | .load rd x n sx => if x % n ≠ 0 then .trap 4 x else if pmpPermits l data x n 0 then .load rd x n sx else .trap 5 x
  | .store x n v => if x % n ≠ 0 then .trap 6 x else if pmpPermits l data x n 1 then .store x n v else .trap 7 x
  | .csr rd num op v wr =>
    if (rvCsr l num).isNone ∨ priv < bits num 9 8 ∨ (wr = true ∧ bits num 11 10 = 3) then .trap 2 w else .csr rd num op v wr
  | .mret => if priv = 3 then .mret else .trap 2 w
  | .wfi => if priv = 3 ∨ st.testBit 21 = false then .wfi else .trap 2 w
  | .trap 11 0 => .trap (if priv = 3 then 11 else 8) 0
  | x => x

/-- What an instruction does to its core. -/
structure RvOut where
  arch : List Nat
  priv : Nat
  /-- It retires: no exception. -/
  retires : Bool := true
  rd : Nat := 0
  wb : Nat := 0
  store : Option StoreOp := none
  halt : Bool := false
  deriving DecidableEq, Repr

/-- An exception of the instruction at the pc. -/
def rvFault (l : List Nat) (priv cause tval : Nat) : RvOut := { arch := rvTrap l priv cause tval, priv := 3, retires := false }

/-- Executes a checked instruction of length `len`; `val` is what its load or sampled CSR read returns, none for an access that gets an
error response. -/
def rvExec (l : List Nat) (priv len : Nat) (a : RvAct) (val : Option Nat) : RvOut :=
  let next := (rvPc l + len) % 2 ^ 32
  let done := fun (rd v : Nat) => ({ arch := rvPut (rvSet l rd v) 31 next, priv := priv, rd := rd, wb := if rd = 0 then 0 else v % 2 ^ 32 } : RvOut)
  match a with
  | .alu rd v => done rd v
  | .jump rd t => { arch := rvPut (rvSet l rd next) 31 t, priv := priv, rd := rd, wb := if rd = 0 then 0 else next }
  | .load rd x n sx =>
    match val with
    | some v => done rd (if sx then sext (8 * n) v else v % 2 ^ (8 * n))
    | none => rvFault l priv 5 x
  | .store x n v =>
    { done 0 0 with store := some ⟨x, v % 2 ^ (8 * n) * 2 ^ (8 * (x % 4)) % 2 ^ 32, (2 ^ n - 1) * 2 ^ (x % 4)⟩ }
  | .csr rd num op v wr =>
    let old := match rvCsr l num with
      | some (.val x) => x
      | _ => val.getD 0
    let new := if op = 1 then v else if op = 2 then old ||| v else old - (old &&& v)
    let o := done rd old
    { o with arch := if wr then rvCsrWrite o.arch num new else o.arch }
  | .mret => let r := rvMret l; { arch := r.1, priv := r.2 }
  | .wfi => { done 0 0 with halt := true }
  | .trap cause tval => rvFault l priv cause tval

end Sys2Proof.Machine
end

