-- ==== Sys2Proof/Machine/Channel.lean ====
section
/-!
DEFINITION. Safety channels and twin cores (chapter 03): once-sampled inputs, signature windows, store holding,
checkpoint and rollback, channel self-test.
-/
namespace Sys2Proof.Machine

/-! ### Twins -/

/-- A twin of channel `c`: 0 logic, otherwise link. -/
def Chip.twin (u : Chip) (c t : Nat) : Twin := if t = 0 then (u.chan c).logic else (u.chan c).link

/-- Changes a twin. -/
def Chip.modTwin (u : Chip) (c t : Nat) (g : Twin → Twin) : Chip :=
  u.modChan c (fun h => if t = 0 then { h with logic := g h.logic } else { h with link := g h.link })

/-- WIN_LEN of a twin (Table 3.12). -/
def Chip.winLen (u : Chip) (c t : Nat) : Nat := if t = 0 then u.get (Reg.CH_CFG.LT_WIN c) else u.get (Reg.CH_CFG.LK_WIN c)

/-- Initial MISR value of a window (R74). -/
def misrInit : Nat := 0xFFFFFFFFFFFFFFFF

/-- One shift of the MISR: multiplication by x modulo x^64 + x^4 + x^3 + x + 1. DEDUCED: log 16. -/
def misrShift (m : Nat) : Nat := if m.testBit 63 then (m * 2 % 2 ^ 64) ^^^ 0x1B else m * 2

/-- The MISR absorbs one 64-bit word. -/
def misrAbsorb (m w : Nat) : Nat := misrShift m ^^^ w

/-- The MISR absorbs a retired instruction (R74): pc, write-back data, store address and data; `r` holds the bits that a fault of the
core flips in them. -/
def misrRetire (m pc wb : Nat) (store : Option StoreOp) (r : Retired) : Nat :=
  let m := misrAbsorb m (((pc ^^^ r.pc) % 2 ^ 32) * 2 ^ 32 + (wb ^^^ r.wb) % 2 ^ 32)
  misrAbsorb m (match store with
    | some s => ((s.addr ^^^ r.addr) % 2 ^ 32) * 2 ^ 32 + (s.data ^^^ r.data) % 2 ^ 32
    | none => 0)

/-! ### Delay FIFO and replay log entries (R69) -/

/-- The 72 bits of an entry: the four parity bits, KIND, SOURCE, COUNT, VALUE. -/
def Sampled.word (e : Sampled) : Nat := e.par * 2 ^ 68 + e.kind * 2 ^ 64 + e.source * 2 ^ 56 + e.count * 2 ^ 32 + e.value

/-- The even parity of the four 17-bit groups of 68 bits. -/
def groupParity (w : Nat) : Nat := maskOf ((List.range 4).filter (fun g => popCount (bits w (17 * g + 16) (17 * g)) 17 % 2 == 1))

/-- An entry with its parity. -/
def Sampled.make (kind source count value : Nat) : Sampled :=
  let e : Sampled := ⟨kind % 16, source % 256, count % 2 ^ 24, value % 2 ^ 32, 0⟩
  { e with par := groupParity e.word }

/-- The entry that 72 bits spell. -/
def Sampled.ofWord (w : Nat) : Sampled := ⟨bits w 67 64, bits w 63 56, bits w 55 32, bits w 31 0, bits w 71 68⟩

/-- An entry as it is read, with some of its bits flipped. -/
def Sampled.flip (e : Sampled) (x : Nat) : Sampled := if x = 0 then e else Sampled.ofWord (e.word ^^^ x)

/-- Whether the parity of an entry is good (R71). -/
def Sampled.good (e : Sampled) : Bool := groupParity (e.word % 2 ^ 68) == e.par

/-! ### Store-buffer entries (R78) -/

/-- The even parity of what an entry holds. -/
def sbParity (a d m : Nat) : Bool := (popCount a 32 + popCount d 32 + popCount m 4) % 2 == 1

/-- An entry with its parity. -/
def SbEntry.make (win : Nat) (s : StoreOp) : SbEntry :=
  let a := s.addr % 2 ^ 32
  let d := s.data % 2 ^ 32
  ⟨win, a, d, s.mask % 16, sbParity a d (s.mask % 16)⟩

/-- Whether the parity of an entry is good (R79). -/
def SbEntry.good (e : SbEntry) : Bool := sbParity e.addr e.data e.mask == e.par

/-- The byte that a list of entries in program order holds for an address: that of the youngest. -/
def storedByte (l : List SbEntry) (a : Nat) : Option Byte :=
  l.foldl (fun b e => if e.addr / 4 = a / 4 ∧ e.mask.testBit (a % 4) then some (BitVec.ofNat 8 (e.data / 2 ^ (8 * (a % 4)))) else b) none

/-- Entries of the filling half: those of the present window. -/
def Core.filling (k : Core) : Nat := (k.fill.filter (fun e => e.win == k.win)).length

/-! ### Checkpoints (R82) -/

/-- A shadow word: 32 bits and their even parity. -/
def shadowWord (v : Nat) : Nat := v % 2 ^ 32 + popCount v 32 % 2 * 2 ^ 32

/-- Whether every word of a shadow set has good parity (R86). -/
def Shadow.good (s : Shadow) : Bool := s.words.all (fun w => w == shadowWord w)

/-- The shadow set that a core fills as it closes a window: the 64 words of R82, whose last five are the replay-log position, the
retired count, the window number, the FIFO read position and the position of the last interrupt. -/
def Core.shadow (k : Core) (pos : List Nat) (wfi : Bool) : Shadow :=
  { words := (k.arch.take 59 ++ pos).map shadowWord, priv := k.priv, instret := k.instret, wfi := wfi }

/-- A core closes its window: its state goes into the pending shadow set. -/
def Core.close (k : Core) (replay rd irq : Nat) (wfi : Bool) : Core :=
  let pos := [replay, k.count, k.win, rd, irq]
  { k with arch := k.arch.take 59 ++ pos, misr := misrInit, inWin := 0, win := k.win + 1, pending := some (k.win, k.shadow pos wfi) }

/-- A core restored from its committed shadow set. -/
def Core.restore (k : Core) : Core :=
  { k with arch := k.committed.words.map (fun w => w % 2 ^ 32), priv := k.committed.priv, instret := k.committed.instret }

/-! ### Windows (R73, R75) -/

/-- The position of the last interrupt in a replay log, one-based, 0 where there is none. -/
def lastIrq (l : List Sampled) : Nat := (List.range l.length).foldl (fun m i => if (l[i]?.map (fun e => e.kind)) = some 1 then i + 1 else m) 0

/-- A new sampled input: delay FIFO and replay log, both with the retired count (R69, R70). -/
def Twin.sample (t : Twin) (kind source value : Nat) : Twin :=
  let e := Sampled.make kind source t.lead.count value
  { t with fifo := t.fifo ++ [e], log := t.log ++ [e], replay := t.log.length + 1, sampled := t.sampled + 1 }

/-- The next entry of the replay log, where a re-execution has reached its count (R72, R83). -/
def Twin.logged (t : Twin) : Option Sampled :=
  match t.log[t.replay]? with
  | some e => if e.count = t.lead.count % 2 ^ 24 then some e else none
  | none => none

/-- The logged entry, as it is read, goes to the delay FIFO again (R83). -/
def Twin.reread (t : Twin) (e : Sampled) : Twin := { t with fifo := t.fifo ++ [e], replay := t.replay + 1, sampled := t.sampled + 1 }

/-- The next entry of the delay FIFO, where the trailing core has reached its count (R68). -/
def Twin.delayed (t : Twin) : Option Sampled :=
  match t.fifo with
  | e :: _ => if e.count = t.trail.count % 2 ^ 24 then some e else none
  | [] => none

/-- The delay FIFO without its oldest entry. -/
def Twin.pop (t : Twin) : Twin := { t with fifo := t.fifo.drop 1, rd := (t.rd + 1) % 16 }

/-- The twin as its lead core closes the window: where the other half of the store buffer still drains, both cores stall (R80). -/
def Twin.closeLead (t : Twin) (wfi : Bool) (task : List (Nat × Nat)) : Twin :=
  let k := t.lead
  let w : ClosedWin := ⟨k.win, k.count - k.inWin, k.count, k.misr, none, task⟩
  { t with lead := k.close t.replay t.rd (lastIrq t.log) wfi, closed := t.closed ++ [w], sampled := 0, limit := false,
           stallWin := if k.drain = [] then none else some k.win }

/-- The twin as its trailing core reaches the count at which the lead core closed a window (R75). -/
def Twin.closeTrail (t : Twin) : Twin :=
  match t.closed.find? (fun w => w.trail.isNone) with
  | some w =>
    if w.last = t.trail.count then
      let ws := t.closed.map (fun x => if x.no = w.no then { x with trail := some t.trail.misr } else x)
      let wfi := match t.lead.pending with
        | some p => p.2.wfi
        | none => false
      { t with trail := t.trail.close t.replay t.rd (lastIrq t.log) wfi, closed := ws }
    else t
  | none => t

/-- Whether the cores of a twin stand or stall: WFI, SYNC, the Percolator window, a rollback, a drain (R62, R80, R83). -/
def Twin.stands (t : Twin) : Bool := t.halted || t.held || t.stopped || t.rb.isSome || t.stallWin.isSome

/-- The twin stands for the Percolator slice: its window closes (Table 3.4). -/
def Twin.hold (t : Twin) : Twin :=
  let t := if t.lead.inWin = 0 then t else (t.closeLead t.halted []).closeTrail
  { t with held := true, asked := false }

/-- The strobe at a twin whose channel runs a slice (18 R515): it stands; one that rolls back or executes a window again, or whose
last window is not yet compared, once it has compared equal. -/
def Twin.strobe (t : Twin) : Twin := if t.rb.isSome || t.again.isSome || t.closed != [] then { t with asked := true } else t.hold

/-! ### Mismatch and rollback (R76, R83, R89) -/

/-- What page 1 records of a mismatch (Table 3.19). -/
structure MmInfo where
  win : Nat
  lead : Nat
  trail : Nat
  diff : Nat
  count : Nat
  ded : Bool
  parity : Bool
  inj : Bool
  deriving DecidableEq, Repr

/-- Step 2 of the rollback (Table 3.5): filling halves discarded, inputs rewound to the committed position. A task's delivery in a
discarded window is kept for its second execution. -/
def Twin.discard (t : Twin) (now win : Nat) : Twin :=
  let back := fun (k : Core) => { k with fill := [], pending := none, misr := misrInit, count := 0, inWin := 0, win := win }
  { t with lead := back t.lead, trail := back t.trail, fifo := [], rd := t.lead.committed.words.getD 62 0 % 16, replay := 0, sampled := 0,
           limit := false, closed := [], stallWin := none, rb := some now, again := some win, redo := t.redo ++ t.closed.flatMap (fun w => w.task),
           asked := t.asked || t.held, held := false }

/-- The capture of a mismatch on page 1 (Table 3.19). -/
def Chip.mmCapture (u : Chip) (c t : Nat) (m : MmInfo) : Chip :=
  let u := ((u.put (Reg.MM_SIG_LEAD.SIG c) m.lead).put (Reg.MM_SIG_TRAIL.SIG c) m.trail).put (Reg.MM_DIFF.LANES c) m.diff
  let u := ((u.put (Reg.MM_WIN.WIN c) m.win).put (Reg.MM_INFO.COUNT c) m.count).put (Reg.MM_INFO.DED c) (lvl m.ded)
  ((u.put (Reg.MM_INFO.PARITY c) (lvl m.parity)).put (Reg.MM_INFO.INJ c) (lvl m.inj)).put (Reg.MM_INFO.TWIN c) t

/-- A mismatch of a twin (R76, R89): captured, counted, rolled back; the third event of a cycle loses the channel. `same`:
found in the same CORE cycle as the previous one, one event. -/
def Chip.mismatch (u : Chip) (c t : Nat) (m : MmInfo) (same : Bool) : Chip :=
  let u := (u.mmCapture c t m).satInc (if t = 0 then Reg.CH_MMCNT.LT c else Reg.CH_MMCNT.LK c)
  let cyc := u.get (Reg.CH_STATE.MM_CYC c)
  let flags := lvl m.ded * 8 + lvl m.parity * 4 + lvl m.inj * 2 + t
  let raise := fun (u : Chip) => u.irqRaise (chPage c) (chSrc c) 0 [t, m.win, m.diff, flags]
  if !same && cyc == 2 then (u.chLost c 1).irqAfter (chPage c) (chSrc c) 0 [t, m.win, m.diff, flags]
  else
    let u := raise (if same then u else u.put (Reg.CH_STATE.MM_CYC c) (cyc + 1))
    let u := u.modTwin c t (fun x => x.discard u.now m.win)
    u.put (if t = 0 then Reg.CH_STATE.RB_LT c else Reg.CH_STATE.RB_LK c) 1

/-- The instructions that the lead core had retired in all at a count since the committed checkpoint (MM_INFO; DESIGN CHOICE: log 105). -/
def Twin.started (t : Twin) (n : Nat) : Nat := t.lead.committed.instret + n

/-- A mismatch that does not wait for the end of a window (R67, R71, R79): the signatures captured are the running ones
and no lane is flagged. DEDUCED: log 17. MM_INFO shows minstret at the window's start (DESIGN CHOICE: log 105). -/
def Chip.mismatchNow (u : Chip) (c t : Nat) (ded parity same : Bool) : Chip :=
  let x := u.twin c t
  match x.closed with
  | w :: _ => u.mismatch c t ⟨w.no, w.lead, w.trail.getD x.trail.misr, 0, x.started w.first, ded, parity, false⟩ same
  | [] => u.mismatch c t ⟨x.lead.win, x.lead.misr, x.trail.misr, 0, x.started (x.lead.count - x.lead.inWin), ded, parity, false⟩ same

/-- A corrected SRAM read (R66): counted, reported, its word waits for the write-back. -/
def Chip.eccCorr (u : Chip) (c a : Nat) : Chip :=
  let u := (u.satInc (Reg.CH_ECC.CORR c)).put (Reg.CH_ECC_ADDR.ADDR c) a
  (u.modChan c (fun h => { h with writeBack := addNew (a / 4 * 4) h.writeBack })).irqRaise (chPage c) (chSrc c) 4 [a]

/-- WINDOW_CYCLE_LIMIT (R75): 4 × WIN_LEN CORE cycles have elapsed; the window closes at the next retirement. -/
def execWindowCycleLimit (c twin : Nat) (s : State) : Host.Outcome State Fault Refusal :=
  let u := s.chip
  s.become (if u.chState c = 3 then u.modTwin c twin (fun t => { t with limit := true }) else u)

/-! ### Comparison (R76, R79, R82, R92, R93) -/

/-- A core whose window compared equal: its stores drain, its pending shadow set is committed, counts restart there. -/
def Core.commit (k : Core) (w : ClosedWin) : Core :=
  let mine := match k.pending with
    | some p => p.1 == w.no
    | none => false
  { k with
    drain := k.drain ++ k.fill.filter (fun e => e.win == w.no)
    fill := k.fill.filter (fun e => e.win != w.no)
    committed := (if mine then k.pending.map (fun p => p.2) else none).getD k.committed
    pending := if mine then none else k.pending
    count := k.count - w.last }

/-- The twin after its oldest closed window compared equal (R70, R73, R79, R82). A window executed again after a rollback is done, and
a twin that the strobe has asked to stand does so. -/
def Twin.commit (t : Twin) (w : ClosedWin) : Twin :=
  let rebase := fun (l : List Sampled) =>
    (l.filter (fun e => decide (w.last ≤ e.count))).map (fun e => Sampled.make e.kind e.source (e.count - w.last) e.value)
  let log := rebase t.log
  let t := { t with
    lead := t.lead.commit w
    trail := t.trail.commit w
    fifo := rebase t.fifo
    log := log
    replay := t.replay - (t.log.length - log.length)
    again := if t.again = some w.no then none else t.again
    closed := (t.closed.drop 1).map (fun x => { x with first := x.first - w.last, last := x.last - w.last }) }
  if t.asked && t.again.isNone && t.closed == [] then t.hold else t

/-- A window that compared equal: its interrupts count as claimed (R72), windows and the next injection lane are counted. -/
def Chip.windowEqual (u : Chip) (c t : Nat) (w : ClosedWin) : Chip :=
  let taken := ((u.twin c t).log.filter (fun e => decide (e.kind = 1 ∧ e.count < w.last))).map (fun e => e.source)
  let k := u.cic.get c
  let d := taken.foldl (fun d n => if d.testBit n then d - 2 ^ n else d) k.delivered
  let u := { u with cic := u.cic.set c { k with delivered := d } }
  let u := u.modTwin c t (fun x => x.commit w)
  let lane := ((w.no + 1 + 65535) / 65536) % 64
  if t = 0 then (u.wrapInc (Reg.CH_WINCNT_LT.COUNT c)).put (Reg.CH_INJ.LT_LANE c) lane
  else (u.wrapInc (Reg.CH_WINCNT_LK.COUNT c)).put (Reg.CH_INJ.LK_LANE c) lane

/-- The lane that the comparator inverts for a window number (R92). -/
def injectLane (no : Nat) : Option Nat := if no ≠ 0 ∧ no % 65536 = 0 then some (no / 65536 % 64) else none

/-- CH_INJ.LT_LAST_OK or LK_LAST_OK. -/
def injOk (c t : Nat) : Fld := if t = 0 then Reg.CH_INJ.LT_LAST_OK c else Reg.CH_INJ.LK_LAST_OK c

/-- The comparison of the oldest closed window, once both cores have closed it (R76, R92, R93). -/
def Chip.compareWindow (u : Chip) (c twin : Nat) (same : Bool) : Chip :=
  let x := u.twin c twin
  if u.chState c ≠ 3 ∨ x.rb.isSome then u
  else match x.closed with
    | [] => u
    | w :: _ =>
      match w.trail with
      | none => u
      | some sig =>
        let real := w.lead ^^^ sig
        let info : MmInfo := ⟨w.no, w.lead, sig, real, x.started w.first, false, false, (injectLane w.no).isSome⟩
        match injectLane w.no with
        | none => if real = 0 then u.windowEqual c twin w else u.mismatch c twin info same
        | some l =>
          let flagged := real ^^^ 2 ^ l
          if flagged = 2 ^ l then (u.put (injOk c twin) 1).windowEqual c twin w
          else if flagged = 0 then
            let u := (u.put (injOk c twin) 0).irqRaise (chPage c) (chSrc c) 3 [twin, w.no, l, flagged]
            u.chLost c 3
          else u.mismatch c twin info same

/-- WINDOW_COMPARE (R76, R92, R93). -/
def execWindowCompare (c twin : Nat) (same : Bool) (s : State) : Host.Outcome State Fault Refusal := s.become (s.chip.compareWindow c twin same)

/-! ### Deliveries of the task program (R81) -/

/-- A core executes word stores of the firmware. Its code is not in the spec: the MISR of both cores absorbs the same (log 106). -/
def Core.storeWords (k : Core) (l : List (Nat × Nat)) : Core :=
  { k with fill := k.fill ++ l.map (fun e => SbEntry.make k.win ⟨e.1, e.2, 15⟩), count := k.count + l.length, inWin := k.inWin + l.length,
           instret := k.instret + l.length }

/-- Both cores of a twin execute word stores and close the window. -/
def Twin.storeWords (t : Twin) (l : List (Nat × Nat)) : Twin :=
  ({ t with lead := t.lead.storeWords l, trail := t.trail.storeWords l }.closeLead false l).closeTrail

/-- Whether a twin's firmware can execute: ACTIVE, not rolling back, not standing for a slice or a drain, both cores at one count, no
window waiting for its comparison. -/
def Chip.twinReady (u : Chip) (c t : Nat) : Bool :=
  let x := u.twin c t
  u.chState c == 3 && x.rb.isNone && !x.held && !x.stopped && x.stallWin.isNone && x.closed == [] && x.lead.count == x.trail.count

/-- A task's delivery: its stores fill windows, 256 to a half (Table 3.4); every one but the last has compared before the lead core goes
on (R80); the last, which ends with DELIVER, waits for its comparison. After a mismatch the rest follows the rollback. -/
def Chip.taskStores : Nat → Chip → Nat → Nat → List (Nat × Nat) → Chip
  | 0, u, _, _, _ => u
  | n + 1, u, c, t, l =>
    let room := 256 - (u.twin c t).lead.filling
    let u := u.highWater (Reg.CH_BUF.SB_HWM c) (min 256 ((u.twin c t).lead.filling + l.length))
    if l.length ≤ room then u.modTwin c t (fun x => x.storeWords l)
    else
      let u := (u.satInc (Reg.CH_BUF.EARLY c)).modTwin c t (fun x => x.storeWords (l.take room))
      let u := u.compareWindow c t false
      let u := u.modTwin c t (fun x => { x with stallWin := none })
      if (u.twin c t).rb.isSome then u.modTwin c t (fun x => { x with redo := x.redo ++ l.drop room })
      else if u.chState c ≠ 3 then u
      else u.taskStores n c t (l.drop room)

/-! ### Store commit (R78 to R81) -/

/-- The bytes that an entry stores. -/
def SbEntry.store (e : SbEntry) (m : List Host.Cell) : List Host.Cell :=
  foldUpTo 4 m (fun m i => if e.mask.testBit i then memWrite m (e.addr / 4 * 4 + i) (BitVec.ofNat 8 (e.data / 2 ^ (8 * i))) else m)

/-- A store commits to channel SRAM: a write-back that waits for the word is abandoned (R66), the resync engine sees the
write (R127). -/
def Chip.commitSram (u : Chip) (c : Nat) (e : SbEntry) : Chip :=
  let u := u.rsCatchUp
  let u := u.modChan c (fun h => { h with sram := e.store h.sram, writeBack := h.writeBack.filter (fun a => a != e.addr / 4 * 4) })
  u.rsWrite c e.addr

/-! ### SRAM errors and interrupts (R66, R67, R72) -/

/-- SRAM_DED (R67): channel, twin, address, instruction fetch, same CORE cycle as the previous mismatch. -/
def execSramDed (c twin a : Nat) (fetch same : Bool) (s : State) : Host.Outcome State Fault Refusal :=
  let u := s.chip
  if u.chState c ≠ 3 ∨ (u.twin c twin).rb.isSome then s.become u
  else
    let u := (u.satInc (Reg.CH_ECC.DED c)).put (Reg.CH_ECC_ADDR.ADDR c) a
    let u := u.irqRaise (chPage c) (chSrc c) 5 [a, lvl fetch]
    s.become (u.mismatchNow c twin true false same)

/-- ECC_WRITEBACK (R66): the corrected word is written back; a commit to the word has removed it from the list. -/
def execEccWriteback (c a : Nat) (s : State) : Host.Outcome State Fault Refusal :=
  s.become (s.chip.modChan c (fun h => { h with writeBack := h.writeBack.filter (fun x => x != a / 4 * 4) }))

/-- The pending sources of a twin: source 2 follows the safe-state line, and comes once between two claims (05 R162); a halted channel
under NOTICE takes only source 0 (19 R535). -/
def Chip.cicMine (u : Chip) (c t : Nat) : List Nat :=
  let k := u.cic.get c
  let level := u.lineOn && !k.delivered.testBit 2
  (setBits (if level then k.pend ||| 4 else k.pend) 128).filter (fun n => (k.route.testBit n == (t != 0)) && (n == 0 || !u.on (Reg.CH_CSN.READY c)))

/-- Whether the lead core sees an interrupt pending: mie.MEIE is set (Table 3.2). -/
def Chip.irqPending (u : Chip) (c t : Nat) : Bool := (rvMie (u.twin c t).lead.arch).testBit 11 && u.cicMine c t != []

/-- A core takes the machine external interrupt of a source: a trap, then Machine mode. mtval holds the source (PRESUMED: log 102). -/
def Core.interrupt (k : Core) (n : Nat) : Core := { k with arch := rvTrap k.arch k.priv 0x8000000B n, priv := 3 }

/-- CHANNEL_INTERRUPT (R57, R72, Table 3.2): the lowest pending source wakes the lead core from WFI where mie enables it, and where the
core takes interrupts it is delivered, logged and taken before the next instruction; it is claimed when its window compares equal.
After a rollback the logged interrupts come first. -/
def execChannelInterrupt (c twin : Nat) (s : State) : Host.Outcome State Fault Refusal :=
  let u := s.chip
  let x := u.twin c twin
  if u.chState c ≠ 3 ∨ x.rb.isSome ∨ x.held ∨ x.stopped ∨ x.replay < x.log.length ∨ 16 ≤ x.fifo.length ∨ 128 ≤ x.log.length then s.become u
  else match u.cicMine c twin with
    | [] => s.become u
    | n :: _ =>
      if !(rvMie x.lead.arch).testBit 11 then s.become u
      else
        let u := u.modTwin c twin (fun t => { t with halted := false })
        if x.lead.priv = 3 ∧ (rvStatus x.lead.arch).testBit 3 = false then s.become u
        else
          let k := u.cic.get c
          let u := { u with cic := u.cic.set c { k with pend := if k.pend.testBit n then k.pend - 2 ^ n else k.pend, delivered := k.delivered ||| 2 ^ n } }
          s.become (u.modTwin c twin (fun t => let t := t.sample 1 n n; { t with lead := t.lead.interrupt n }))

/-! ### Rollback (R83 to R86) -/

/-- The twin after step 5 (Table 3.5): both cores restored; they stand in WFI where they stood at the checkpoint and no logged input
follows it. -/
def Twin.resume (t : Twin) : Twin :=
  { t with lead := t.lead.restore, trail := t.trail.restore, rb := none, redo := [], halted := t.lead.committed.wfi && t.log == [] && t.redo == [] }

/-- ROLLBACK_DONE (R83, R85, R86): channel, twin, duration, parity error in a committed shadow word. A task's delivery in the discarded
window is executed again. -/
def execRollbackDone (c twin ns : Nat) (bad : Bool) (s : State) : Host.Outcome State Fault Refusal :=
  let u := s.chip
  match (u.twin c twin).rb with
  | none => s.become u
  | some t0 =>
    if 4000 < ns then s.become ((u.until (t0 + 400)).chLost c 4)
    else
      let u := u.until (t0 + (ns + 9) / 10)
      let x := u.twin c twin
      if bad ∨ x.lead.committed.good = false ∨ x.trail.committed.good = false then s.become (u.chLost c 5)
      else
        let u := u.modTwin c twin Twin.resume
        let u := u.put (if twin = 0 then Reg.CH_STATE.RB_LT c else Reg.CH_STATE.RB_LK c) 0
        let u := ((u.put (Reg.CH_RB.LAST_NS c) ns).put (Reg.CH_RB.TWIN c) twin).satInc (Reg.CH_RB.TOTAL c)
        let u := u.irqRaise (chPage c) (chSrc c) 1 [twin, ns, u.get (Reg.CH_STATE.MM_CYC c)]
        let u := u.transientFault (0x5000 + c * 0x100 + twin + 1)
        s.become (if x.redo = [] then u else u.taskStores 128 c twin x.redo)

/-- RB_TIMEOUT (R85): 400 PER cycles after time zero the channel is lost. -/
def execRbTimeout (c twin : Nat) (s : State) : Host.Outcome State Fault Refusal :=
  let u := s.chip
  match (u.twin c twin).rb with
  | none => s.become u
  | some t0 => s.become ((u.until (t0 + 400)).chLost c 4)

/-! ### Restart (R91, R94, R95) -/

/-- CHANNEL_LOST_TIMEOUT (Table 3.8): 10 ms after entry to LOST, an automatic CHANNEL reset; it is discarded while a unit-wide reset or its
boot is under way (22 R598, Table 22.8). -/
def execChannelLostTimeout (c : Nat) (s : State) : Host.Outcome State Fault Refusal :=
  let u := s.chip
  match u.chState c, (u.chan c).lostAt with
  | 4, some t =>
    let u := u.until (t + ms 10)
    s.become (if u.resetDiscards 5 then u.modChan c (fun h => { h with lostAt := none }) else u.chReset c)
  | _, _ => s.become u

/-- The loader writes the channel firmware segment of the running image into a channel (22 R605, R606). -/
def Chip.loadFirmware (u : Chip) (c : Nat) : Chip :=
  let seg := (u.com.slots.getD (u.get Reg.BOOT_STAT.SLOT) {}).seg
  u.modChan c (fun h => { h with sram := memWriteBytes h.sram seg.1 seg.2 })

/-- CHANNEL_SELFTEST_DONE (R91, R606, Table 3.8): comparator and parity tests, march and firmware segment, failures that the march
found (18 R524). After a CHANNEL reset the channel enters SYNC; at a boot it waits for the common entry to ACTIVE. A failed march has no cause code of its
own: a free value. -/
def execChannelSelftestDone (c : Nat) (cmp march : Bool) (bad : List (Nat × Nat × Nat)) (s : State) : Host.Outcome State Fault Refusal :=
  let u := s.chip
  if u.chState c ≠ 1 then s.become u
  else
    let u := u.put (Reg.CH_INJ.BOOT_OK c) (lvl cmp)
    let r := u.marchRepair c bad []
    let u := r.2
    if !cmp then s.become (u.chLost c 2)
    else if !march || !r.1 then
      let f := u.free
      s.become (f.2.chLost c (f.1 % 16))
    else if (u.chan c).afterReset then s.become ((u.loadFirmware c).chEnter c 2)
    else s.become (u.modChan c (fun h => { h with passed := true }))

/-- Values of CH_CFG that the loader rejects (Table 3.12). -/
def Chip.rejectsChannels (u : Chip) : Bool :=
  (List.range 3).any (fun c => u.get (Reg.CH_CFG.REINT_MAX c) == 0 ||
    decide (u.get (Reg.CH_CFG.LT_WIN c) < 64 ∨ 1024 < u.get (Reg.CH_CFG.LT_WIN c)) ||
    decide (u.get (Reg.CH_CFG.LK_WIN c) < 64 ∨ 1024 < u.get (Reg.CH_CFG.LK_WIN c)))

end Sys2Proof.Machine
end

