-- ==== Sys2Proof/Machine/Conn.lean ====
section
/-!
DEFINITION. ZST in the link twins (chapter 12): connection records, key slots, safety codes, pre-checks, ordered checks,
connection states, identity service. Words of the tables in channel SRAM are little-endian (DEDUCED: log 13).
-/
namespace Sys2Proof.Machine

/-! ### The runtime state of a channel -/

/-- The runtime of channel `c`. -/
def Chip.run (u : Chip) (c : Nat) : Rt := u.rt.get c

/-- Changes the runtime of channel `c`. -/
def Chip.modRun (u : Chip) (c : Nat) (g : Rt → Rt) : Chip := { u with rt := u.rt.set c (g (u.run c)) }

/-- A channel's firmware raises an event (R381): sources 19 to 21. -/
def Chip.rtEvent (u : Chip) (c code : Nat) (data : List Nat) : Chip := u.fwRaise (19 + c) code data

/-- Raises a list of events. -/
def Chip.rtEvents (u : Chip) (c : Nat) (l : List (Nat × List Nat)) : Chip := l.foldl (fun u e => u.rtEvent c e.1 e.2) u

/-- The SRAM of channel `c`. -/
def Chip.sram (u : Chip) (c : Nat) : List Host.Cell := (u.chan c).sram

/-- A channel writes bytes to its SRAM; the resynchronisation sees each block that it touches (R127). -/
def Chip.sramWrite (u : Chip) (c a : Nat) (b : List Byte) : Chip :=
  let u := u.rsCatchUp.modChan c (fun h => { h with sram := memWriteBytes h.sram a b })
  if b = [] then u
  else (List.range ((a + b.length - 1) / 256 - a / 256 + 1)).foldl (fun u i => u.rsWrite c ((a / 256 + i) * 256)) u

/-- The aligned time of the last snapshot: its SNAP plus WR_STOFF (R360, R368). -/
def Chip.alignedTimeAt (u : Chip) : Nat := (u.get Reg.WR_SNAP.SNAP + u.get Reg.WR_STOFF.STOFF) % 2 ^ 64

/-! ### Connection records (Table 12.3) -/

/-- A connection record. -/
structure ConnRec where
  flags : Nat
  peer : Nat
  deadline : Nat
  ageMax : Nat
  maxLen : Nat
  rxOff : Nat
  modIdx : Nat
  key : Nat
  deriving DecidableEq, Repr

/-- The fields of FLAGS. -/
def ConnRec.used (r : ConnRec) : Bool := r.flags.testBit 31
def ConnRec.tx (r : ConnRec) : Bool := r.flags.testBit 30
def ConnRec.cmac (r : ConnRec) : Bool := r.flags.testBit 29
def ConnRec.idsvc (r : ConnRec) : Bool := r.flags.testBit 28
def ConnRec.self (r : ConnRec) : Bool := r.flags.testBit 27
def ConnRec.depth (r : ConnRec) : Nat := bits r.flags 26 24 + 1
def ConnRec.task (r : ConnRec) : Nat := bits r.flags 23 21
def ConnRec.cid (r : ConnRec) : Nat := r.flags % 2 ^ 16

/-- Base of the connection table and of the key table (R351). -/
def Chip.connBase (u : Chip) : Nat := instBase + u.get Reg.ZST_CTOFF.OFF
def Chip.keyBase (u : Chip) : Nat := instBase + u.get Reg.ZST_KTOFF.OFF

/-- The record of connection `n` in a memory. -/
def Chip.connIn (u : Chip) (m : List Host.Cell) (n : Nat) : ConnRec :=
  let a := u.connBase + 32 * n
  ⟨memNat m a 4, memNat m (a + 4) 4, memNat m (a + 8) 4, memNat m (a + 12) 4, memNat m (a + 16) 2, memNat m (a + 20) 4,
   memNat m (a + 24) 4, memNat m (a + 28) 2⟩

/-- The record of connection `n` in channel `c`. -/
def Chip.connRec (u : Chip) (c n : Nat) : ConnRec := u.connIn (u.sram c) n

/-- The CID that the link twin uses on connection `n` (R386). -/
def Chip.useCid (u : Chip) (c n : Nat) : Nat := u.pairCid (fun k => (u.connRec c k).cid) n

/-- The used connections of a direction, in order; `tx` for transmit. -/
def Chip.conns (u : Chip) (c : Nat) (tx : Bool) : List Nat :=
  (List.range 512).filter (fun n => (u.connRec c n).used && (u.connRec c n).tx == tx)

/-- The state record of connection `n`. -/
def Chip.connSt (u : Chip) (c n : Nat) : ConnSt := assoc (u.run c).conns n {}

/-- Changes a state record. -/
def Chip.modConn (u : Chip) (c n : Nat) (g : ConnSt → ConnSt) : Chip :=
  u.modRun c (fun r => { r with conns := assocPut r.conns n (g (assoc r.conns n {})) })

/-- The lowest-numbered used TX connection to a peer that is not SELF (R373, R375). -/
def Chip.txTo (u : Chip) (c peer : Nat) : Option Nat :=
  (u.conns c true).find? (fun n => (u.connRec c n).peer == peer && !(u.connRec c n).self)

/-! ### Keys (R357, R562) -/

/-- Address of a key and of its KCV in the key table. -/
def Chip.keyAt (u : Chip) (slot phase : Nat) : Nat := u.keyBase + 48 * slot + 16 * phase
def Chip.kcvAt (u : Chip) (slot phase : Nat) : Nat := u.keyBase + 48 * slot + 32 + 4 * phase

/-- The key and the KCV of a phase. -/
def Chip.keyOf (u : Chip) (c slot phase : Nat) : List Byte := memReadBytes (u.sram c) (u.keyAt slot phase) 16
def Chip.kcvOf (u : Chip) (c slot phase : Nat) : Nat := memNat (u.sram c) (u.kcvAt slot phase) 4 % 2 ^ 24

/-- The current phase of a slot: bit k of the phase map. -/
def Chip.keyPhase (u : Chip) (c slot : Nat) : Nat :=
  lvl ((memRead (u.sram c) (u.keyBase + 24576 + slot / 8)).toNat.testBit (slot % 8))

/-- The key check value of a key: the leftmost 24 bits of the AES-CMAC of 16 zero bytes. -/
def kcvOfKey (key : List Byte) : Nat := aesCmac key (List.replicate 16 0) / 2 ^ 104

/-! ### Safety codes (R354 to R356) -/

/-- The identity block of connection `n`. -/
def Chip.identBlock (u : Chip) (c n : Nat) : List Byte :=
  let r := u.connRec c n
  let id := u.get Reg.ZST_ID.ID
  let src := if r.tx then id else r.peer
  let dst := if r.tx then r.peer else id
  beBytes 4 src ++ beBytes 4 dst ++ beBytes 2 (u.useCid c n) ++ beBytes 2 (u.get Reg.ZST_GCFG.NET_ID)

/-- CODE by CRC-64 over the frame bytes before it. -/
def codeCrc (ident body : List Byte) : Nat := crcOf (crc64From (crcOf (crc64From 0xFFFFFFFFFFFFFFFF) ident)) body

/-- CODE by AES-CMAC: the leftmost 64 bits. -/
def codeCmac (key ident body : List Byte) : Nat := aesCmac key (ident ++ body) / 2 ^ 64

/-- The safety code of the frame bytes before it on connection `n`, under a key phase. -/
def Chip.codeOf (u : Chip) (c n phase : Nat) (body : List Byte) : Nat :=
  if (u.connRec c n).cmac then codeCmac (u.keyOf c (u.connRec c n).key phase) (u.identBlock c n) body
  else codeCrc (u.identBlock c n) body

/-! ### Pre-checks (R367, Table 12.4) -/

/-- Whether a frame passes the pre-checks of Table 12.4 on connection `n`. -/
def Chip.preOk (u : Chip) (c n : Nat) (f : List Byte) : Bool :=
  let r := u.connRec c n
  let kp := frFlags f / 64 % 2
  let shape := frVer f == 1 && decide (frKind f ≤ 5) && frFlags f % 64 == 0 && beAt f 30 2 == 0 &&
    40 + frLen f == f.length && decide (frLen f ≤ r.maxLen)
  shape && (!r.cmac || u.kcvOf c r.key kp != 0) && frCode f == u.codeOf c n kp (f.take (32 + frLen f)) && frClaim f / 256 != 0

/-- A CODE_ERR failure: counted, and reported at most once per second and connection (R367). -/
def Chip.codeErr (u : Chip) (c n : Nat) : Chip :=
  let s := u.connSt c n
  let due := match s.errAt with
    | none => true
    | some t => decide (t + sec 1 ≤ u.weir.time)
  let k := s.errSince + 1
  let u := u.modConn c n (fun x => { x with codeErr := min (x.codeErr + 1) 0xFFFF, errSince := if due then 0 else k,
                                            errAt := if due then some u.weir.time else x.errAt })
  if due then u.rtEvent c 0x30 [n, k] else u

/-- ZST_PRECHECK (R367): the link twin of channel `c` pre-checks the frame that it has read from the store. -/
def execZstPrecheck (c : Nat) (s : State) : Host.Outcome State Fault Refusal :=
  let u := s.chip
  let next := (u.zst.reads.get c).next
  let i := next - 1
  if next = 0 ∨ i < (u.run c).checked ∨ i < u.zst.freed ∨ u.chState c ≠ 3 then s.become u
  else match u.zst.store[i - u.zst.freed]? with
    | none => s.become u
    | some f =>
      let u := u.modRun c (fun r => { r with checked := next })
      s.become (match u.rxConn f.port f.bytes with
        | none => u
        | some n =>
          if u.preOk c n f.bytes then u.modRun c (fun r => { r with pre := r.pre ++ [PreFrame.mk f.batch n f.bytes] })
          else u.codeErr c n)

/-! ### Ordered checks (R368, R392, Table 12.5) -/

/-- Which row of Table 12.5 decides: accepted with a reset reference (row 4), accepted in sequence (row 6), discarded. -/
inductive Judged where
  | reset | inSeq (d : Nat) | repeats | age
  deriving DecidableEq, Repr

/-- The decision of Table 12.5 on a frame. `partner`: a frame of kinds 3 to 5 (R392). Times in ticks. -/
def judge (r : ConnRec) (st : ConnSt) (now tol : Nat) (partner : Bool) (f : List Byte) : Judged :=
  let claim := frClaim f
  let ts := frTs f
  let above := match st.high with
    | some h => decide (h < claim)
    | none => false
  let below := match st.high with
    | some h => decide (claim < h)
    | none => false
  let later := match st.ts with
    | some t => decide (t < ts)
    | none => true
  if below && !partner then .repeats
  else if now + tol * 100 < ts then .age
  else if r.ageMax * 100 < now - ts then .age
  else if (above && !partner) || st.st == 1 || st.st == 3 || (frFlags f).testBit 7 then (if later then .reset else .repeats)
  else
    let d := (frSeq f + 2 ^ 32 - st.seq) % 2 ^ 32
    if d = 0 ∨ 2 ^ 31 ≤ d ∨ ts < st.ts.getD 0 then .repeats
    else if d ≤ 65536 then .inSeq d
    else .repeats

/-- The state record after an accepted frame; a claim above the highest seen replaces it. -/
def ConnSt.accept (s : ConnSt) (f : List Byte) (gap : Nat) : ConnSt :=
  { s with seq := frSeq f, ts := some (frTs f), gaps := min (s.gaps + gap) 0xFFFF, newGaps := min (s.newGaps + gap) 255,
           high := some (max (frClaim f) (s.high.getD 0)) }

/-- CLAIM_ADOPTED, when row 4 accepts a frame above the highest claim seen (R368). -/
def Chip.claimAdopted (u : Chip) (c n : Nat) (old : Option Nat) (f : List Byte) (row4 : Bool) : Chip :=
  match old with
  | some h => if row4 && decide (h < frClaim f) then u.rtEvent c 0x33 [n, h, frClaim f] else u
  | none => u

/-- A connection enters LIVE (Table 12.7). -/
def Chip.connLive (u : Chip) (c n : Nat) : Chip :=
  let s := u.connSt c n
  if (s.st = 1 ∧ ((u.connRec c n).idsvc = false ∨ s.ident = true)) ∨ s.st = 3 then
    (u.modConn c n (fun x => { x with st := 2 })).rtEvent c 0x32 [n, s.seq, s.gaps]
  else u

/-! ### Identity service (R373 to R375; 20 R564 to R566) -/

/-- Whether an identity record is valid in itself: MAGIC, FORMAT, LEN and CRC. -/
def recordValid (b : List Byte) : Bool :=
  let cal := beAt b 28 2
  beAt b 0 4 == 0x41495231 && beAt b 4 1 == 1 && beAt b 6 2 == 40 + cal && decide (cal ≤ 976) && decide (40 + cal ≤ b.length) &&
  beAt b (32 + cal) 4 == crcOf crc32c (b.take (32 + cal))

/-- Whether a record matches a module list entry (R566). The list is little-endian (PRESUMED: log 33). -/
def recordMatches (entry b : List Byte) : Bool :=
  let flags := leAt entry 2 2
  let rev := beAt b 20 2
  recordValid b && beAt b 8 4 == leAt entry 4 4 && (flags.testBit 0 || beAt b 12 8 == leAt entry 8 8) &&
  decide (leAt entry 16 2 ≤ rev ∧ rev ≤ leAt entry 18 2) &&
  (!flags.testBit 2 || crcOf crc32c ((b.drop 32).take (beAt b 28 2)) == leAt entry 20 4)

/-- Entry `i` of the module list. -/
def Chip.module (u : Chip) (i : Nat) : List Byte := (u.com.modules.drop (32 * i)).take 32

/-- A frame waits for the next task-0 delivery. -/
def Chip.sendLater (u : Chip) (c n kind : Nat) (payload : List Byte) : Chip :=
  u.modRun c (fun r => { r with send := r.send ++ [SendItem.mk n kind payload] })

/-- An accepted ID_REQ is answered with the requested bytes of the own record (R375). -/
def Chip.idReq (u : Chip) (c n : Nat) (p : List Byte) : Chip :=
  let off := beAt p 0 2
  let cnt := beAt p 2 2
  match u.txTo c (u.connRec c n).peer with
  | some t =>
    if cnt = 0 ∨ 1016 < cnt then u
    else u.sendLater c t 2 (p.take 4 ++ (List.range cnt).map (fun i => Config.ownRecord (off + i)))
  | none => u

/-- An accepted ID_RSP: a match confirms identity, a mismatch bars the connection (R374). -/
def Chip.idRsp (u : Chip) (c n : Nat) (p : List Byte) : Chip :=
  let r := u.connRec c n
  if !r.idsvc then u
  else
    let b := List.replicate (beAt p 0 2) (0 : Byte) ++ (p.drop 4).take (beAt p 2 2)
    if recordMatches (u.module r.modIdx) b then u.modConn c n (fun x => { x with ident := true })
    else
      let s := u.connSt c n
      let u := (u.modConn c n (fun x => { x with st := 4 })).rtEvent c 0x34 [n, r.modIdx, beAt b 8 4, beAt b 12 8]
      if s.st = 2 then u.rtEvent c 0x31 [n, s.ts.getD 0] else u

/-- When the next ID_REQ of a connection is due (R373): once per second until identity is confirmed, then every 600 s. -/
def Chip.idDue (u : Chip) (c n : Nat) : Nat :=
  match (u.connSt c n).asked with
  | none => (u.run c).activeAt
  | some t => t + sec (if (u.connSt c n).ident then 600 else 1)

/-- ID_REQ_TIMER (R373): channel `c` sends an ID_REQ for connection `n`. -/
def execIdReqTimer (c n : Nat) (s : State) : Host.Outcome State Fault Refusal :=
  let u := s.chip
  let r := u.connRec c n
  if u.chState c ≠ 3 ∨ r.used = false ∨ r.tx = true ∨ r.idsvc = false then s.become u
  else
    let u := u.untilWeir (u.idDue c n)
    let u := u.modConn c n (fun x => { x with asked := some u.weir.time })
    s.become (match u.txTo c r.peer with
      | some t => u.sendLater c t 1 (beBytes 2 0 ++ beBytes 2 1016)
      | none => u)

/-! ### The batch at a snapshot (R368 to R370) -/

/-- A DATA payload enters the receive entry; the oldest leave where DEPTH is exceeded (R370). -/
def ConnSt.slot (s : ConnSt) (depth : Nat) (f : List Byte) : ConnSt :=
  let l := s.slots ++ [RxSlot.mk (frSeq f) (frTs f) (frPayload f)]
  { s with slots := l.drop (l.length - depth) }

/-- An accepted frame of kinds 0 to 2. -/
def Chip.accepted (u : Chip) (c n : Nat) (f : List Byte) : Chip :=
  match frKind f with
  | 0 => (u.modConn c n (fun x => x.slot (u.connRec c n).depth f)).connLive c n
  | 1 => u.idReq c n (frPayload f)
  | _ => u.idRsp c n (frPayload f)

/-- Judges one pre-checked frame at aligned time `now`: whether it is accepted, and the state record (R368, R392). -/
def Chip.judgeFrame (u : Chip) (c now : Nat) (p : PreFrame) : Bool × Chip :=
  let n := p.conn
  let r := u.connRec c n
  let s := u.connSt c n
  match judge r s now (u.get Reg.ZST_GCFG.TS_TOL) (decide (3 ≤ frKind p.bytes)) p.bytes with
  | .reset => (true, (u.modConn c n (fun x => x.accept p.bytes 0)).claimAdopted c n s.high p.bytes true)
  | .inSeq d => (true, u.modConn c n (fun x => x.accept p.bytes (d - 1)))
  | .repeats => (false, u.modConn c n (fun x => { x with repeats := min (x.repeats + 1) 0xFFFF }))
  | .age => (false, u.modConn c n (fun x => { x with ageRej := min (x.ageRej + 1) 0xFFFF }))

/-- A connection in LIVE whose last TS is older than its DEADLINE becomes STALE (R369). -/
def Chip.staleCheck (u : Chip) (c now n : Nat) : Chip :=
  let s := u.connSt c n
  let t := s.ts.getD 0
  if s.st = 2 ∧ (u.connRec c n).deadline * 100 < now - t then
    (u.modConn c n (fun x => { x with st := 3 })).rtEvent c 0x31 [n, t]
  else u

/-- The first word of a receive entry (Table 12.6). -/
def ConnSt.word (s : ConnSt) : Nat := lvl (s.st == 2) * 2 ^ 31 + s.st % 8 * 2 ^ 28 + s.slots.length % 16 * 2 ^ 24 + s.newGaps % 256

/-- The receive entry of a connection (Table 12.6). -/
def Chip.rxEntry (u : Chip) (c n : Nat) : List Byte :=
  let r := u.connRec c n
  let s := u.connSt c n
  let pad := (r.maxLen + 3) / 4 * 4
  let slot := fun (x : RxSlot) => leBytes 4 x.seq ++ leBytes 2 x.payload.length ++ leBytes 2 0 ++ leBytes 8 x.ts ++ x.payload ++
    List.replicate (pad - x.payload.length) 0
  leBytes 4 s.word ++ leBytes 4 s.seq ++ leBytes 8 (s.ts.getD 0) ++ s.slots.flatMap slot ++
    List.replicate ((r.depth - s.slots.length) * (16 + pad)) 0

end Sys2Proof.Machine
end

