-- ==== Sys2Proof/Machine/Partner.lean ====
section
/-!
DEFINITION. Partner units and the witness (chapter 13), as the link twin of a channel runs them: heartbeats, requests,
grants, partner states, mirrored data, witness decisions.
-/
namespace Sys2Proof.Machine

/-- Changes the partner logic of a channel. -/
def Chip.modPair (u : Chip) (c : Nat) (g : Partner → Partner) : Chip := u.modRun c (fun r => { r with pair := g r.pair })

/-- The partner logic of a channel. -/
def Chip.pair (u : Chip) (c : Nat) : Partner := (u.run c).pair

/-- The rank of a partner (R384); a witness has rank 0. -/
def Chip.rank (u : Chip) : Nat := if u.isPartner then 1 + u.rankStrap else 0

/-- ZST_CLAIM as a word. -/
def Chip.claim (u : Chip) : Nat := u.get Reg.ZST_CLAIM.EPOCH * 256 + u.get Reg.ZST_CLAIM.RANK

/-- A register write that the next task-0 delivery orders (08 R635). -/
def Chip.order (u : Chip) (c a v : Nat) : Chip := u.modRun c (fun r => { r with writes := r.writes ++ [(a, v % 2 ^ 32)] })

/-- Orders both halves of a 64-bit register. -/
def Chip.order64 (u : Chip) (c a v : Nat) : Chip := (u.order c a v).order c (a + 4) (v / 2 ^ 32)

/-- Highest claim seen on the RX connections but the witness's (R391, R393; DEDUCED: log 34). -/
def Chip.highClaim (u : Chip) (c : Nat) : Nat :=
  (u.run c).conns.foldl (fun m e => if u.isPartner && e.1 == u.get Reg.PR_HB.RX then m else max m (e.2.high.getD 0)) u.claim

/-- Mirror pages: data pages, then sequence pages of 250 TX connections each (R397). -/
def Chip.seqPages (u : Chip) (c : Nat) : Nat := ((u.conns c true).length + 249) / 250
def Chip.mirPages (u : Chip) (c : Nat) : Nat := u.get Reg.PR_CFG.MIR_PAGES + u.seqPages c

/-- State of a connection (Table 12.7): LIVE or STALE. -/
def Chip.connIs (u : Chip) (c n st : Nat) : Bool := (u.connSt c n).st == st

/-! ### States (Table 13.5) -/

/-- A transition, with its row of Table 13.5 as the cause (DESIGN CHOICE: log 35). SYNCING begins with no page applied. -/
def Chip.pairEnter (u : Chip) (c new cause : Nat) : Chip :=
  let old := (u.pair c).st
  if old = new then u
  else (u.modPair c (fun p => { p with st := new, synced := if new = 2 then [] else p.synced })).rtEvent c 0x35 [old, new, cause, u.claim]

/-- A request starts (R394). -/
def Chip.pairRequest (u : Chip) (c reason : Nat) : Chip :=
  if (u.pair c).request.isSome then u
  else (u.modPair c (fun p => { p with request := some reason, wait := 0 })).rtEvent c 0x36 [reason, u.rank]

/-- A heartbeat as Table 13.3 lays it out. -/
def beatOf (f : List Byte) : Beat :=
  let p := frPayload f
  let b := beAt p 0 1
  { wit := b.testBit 7, state := bits b 6 4, returning := b.testBit 3, synced := beAt p 2 2, cv := beAt p 4 8, claim := beAt p 12 4,
    frame := frClaim f, ts := frTs f }

/-- A heartbeat accepted from the partner (Table 13.5). -/
def Chip.partnerBeat (u : Chip) (c : Nat) (b : Beat) : Chip :=
  let known := (u.pair c).fromPtr.any (fun x => x.frame % 256 == b.frame % 256)
  let u := u.modPair c (fun p => { p with fromPtr := some b })
  -- equal ranks: once, at the first heartbeat that shows them (log 125)
  let u := if b.frame % 256 = u.rank ∧ known = false then u.rtEvent c 0x3C [u.rank, b.frame % 256] else u
  if (u.pair c).st = 1 then (if b.state = 4 then u.pairEnter c 2 2 else if b.state = 1 then u.pairRequest c 1 else u)
  else if (u.pair c).st = 4 ∧ u.claim < b.frame then (u.modPair c (fun p => { p with returning := false })).pairEnter c 2 8
  else u

/-- A grant or refusal accepted by a partner (R393, R394). -/
def Chip.pairAnswer (u : Chip) (c : Nat) (f : List Byte) : Chip :=
  let p := frPayload f
  let cl := beAt p 0 4
  let res := beAt p 4 1
  if cl % 256 ≠ u.rank then u
  else if res = 0 then
    if u.highClaim c / 256 < cl / 256 then
      (u.modPair c (fun x => { x with grant := some cl, request := none })).order c 0x40600048 cl
    else u
  else if (u.pair c).request.isSome then
    let u := (u.modPair c (fun x => { x with request := none, returning := false })).rtEvent c 0x38 [res, beAt p 5 1]
    if res = 2 ∧ (u.pair c).st = 1 then u.pairEnter c 2 4 else u
  else u

/-- An accepted frame of kinds 3 to 5 (R392), on connection `n`. -/
def Chip.pairFrame (u : Chip) (c n : Nat) (f : List Byte) : Chip :=
  let u := u.connLive c n
  let b := beatOf f
  if u.isPartner then
    if frKind f = 5 then (if n = u.get Reg.PR_HB.RX then u.pairAnswer c f else u)
    else if frKind f = 3 then
      if n = u.get Reg.PR_HB.RX then u.modPair c (fun p => { p with fromWit := some b })
      else if n = u.get Reg.PR_PEER.RX then u.partnerBeat c b else u
    else u
  else if u.isWitness then
    let rank := if n = u.get Reg.PR_HB.RX then 1 else if n = u.get Reg.PR_PEER.RX then 2 else 0
    if rank = 0 then u
    else if frKind f = 3 then u.modPair c (fun p => if rank = 1 then { p with beat1 := some b } else { p with beat2 := some b })
    else if frKind f = 4 then
      let q : EpochReq := ⟨rank, beAt (frPayload f) 0 1, beAt (frPayload f) 4 8⟩
      u.modPair c (fun p => { p with requests := p.requests.filter (fun x => x.rank != rank) ++ [q] })
    else u
  else u

/-- WITNESS_LOST, PARTNER_LOST and ISOLATED (R396). -/
def Chip.pairLost (u : Chip) (c : Nat) : Chip :=
  let wr := u.get Reg.PR_HB.RX
  let pr := u.get Reg.PR_PEER.RX
  let w := u.connIs c wr 3
  let p := u.connIs c pr 3
  let x := u.pair c
  let tw := (u.connSt c wr).ts.getD 0
  let tp := (u.connSt c pr).ts.getD 0
  let u := if w && !x.witLost then u.rtEvent c 0x3A [tw] else u
  let u := if p && !x.ptrLost then u.rtEvent c 0x39 [tp] else u
  let u := if w && p && !x.isolated then u.rtEvent c 0x3B [tw, tp] else u
  u.modPair c (fun y => { y with witLost := w, ptrLost := p, isolated := w && p })

/-! ### Mirrored data (R397 to R399) -/

/-- The blocks whose data are mirrored: ROUTE, APPROACH_LOCK, PSD_EDGE. -/
def mirrored (b : Blk) : Bool := b.lib == 0x20 || b.lib == 0x24 || b.lib == 0x25

/-- The mirror page of a block (log 30). -/
def Chip.mirrorOf (u : Chip) (b : Blk) : Nat := Config.mirrorPage b.key % max 1 (u.get Reg.PR_CFG.MIR_PAGES)

/-- The mirrored variables of the user types' instances, by byte of their data. -/
def Chip.mirUser (u : Chip) (c : Nat) : List Blk :=
  let m := u.sram c
  let a := appAt m (u.run c).bank
  ((a.descs m).filter (fun d => (a.types m).all (fun y => y.sig != d.sig || y.lib == 0) && Config.mirrorBytes d.sig != [])).map (fun d =>
    { key := d.key, lib := 0, bytes := (Config.mirrorBytes d.sig).map (fun o => (o, memRead m (instBase + d.off + o))) })

/-- The mirrored data of page `k` as the channel holds them. -/
def Chip.mirVals (u : Chip) (c k : Nat) : List Blk :=
  (u.run c).blocks.filter (fun b => mirrored b && u.mirrorOf b == k) ++ (u.mirUser c).filter (fun b => u.mirrorOf b == k)

/-- The data of a block as numbers. -/
def Blk.nums (b : Blk) : List Int :=
  [b.deadline, b.cv] ++ ([b.key, b.lib, b.st, b.ptSt, lvl b.q, lvl b.r, lvl b.locked, b.value] ++ b.bytes.flatMap (fun e => [e.1, e.2.toNat])).map Int.ofNat

/-- The data of page `k` (R397). -/
def Chip.mirData (u : Chip) (c k : Nat) : List Byte :=
  let d := u.get Reg.PR_CFG.MIR_PAGES
  if k < d then (List.range 1000).map (Config.pageByte 1 k ((u.mirVals c k).flatMap Blk.nums))
  else (List.range 250).flatMap (fun i => match (u.conns c true)[(k - d) * 250 + i]? with
    | some n => beBytes 4 (u.connSt c n).txSeq
    | none => beBytes 4 0)

/-- The pages that a task-0 delivery carries: changed ones first in ascending order, then the others in rotation (R398). -/
def Chip.mirPick (u : Chip) (c snap : Nat) : List PageOut × Nat :=
  let total := u.mirPages c
  let p := u.pair c
  let page := fun k => PageOut.mk k snap (u.mirData c k) (u.mirVals c k)
  let changed := (List.range total).filter (fun k => match p.out.find? (fun o => o.page == k) with
    | some o => o.vals != u.mirVals c k || (decide (u.get Reg.PR_CFG.MIR_PAGES ≤ k) && o.data != u.mirData c k)
    | none => true)
  let rate := u.get Reg.PR_CFG.MIR_RATE
  let first := changed.take rate
  let rest := ((List.range total).map (fun i => (p.rot + i) % total)).filter (fun k => !changed.contains k)
  let more := rest.take (rate - first.length)
  ((first ++ more).map page, match more.getLast? with
    | some k => (k + 1) % total
    | none => p.rot)

/-- The payload of a mirror frame (R397). -/
def mirPayload (p : PageOut) (cv : Nat) : List Byte :=
  beBytes 2 p.page ++ beBytes 2 0 ++ beBytes 8 p.gen ++ beBytes 8 cv ++ beBytes 4 0 ++ p.data

/-- A mirrored block takes its data from a page (R399); a timer deadline moves by the transit time. -/
def mirrorBlk (data : List Byte) (old now : Nat) (b : Blk) : Blk :=
  let v := fun k => Config.mirrorField data b.key k
  if b.lib = 0x20 then { b with locked := v 0 % 2 == 1 }
  else if b.lib = 0x24 then { b with st := v 0 % 3, q := v 1 % 2 == 1, ptSt := v 2, deadline := (v 3 : Int) - old + now }
  else { b with q := v 0 % 2 == 1 }

/-- Queues a request word of a task (R252). -/
def Rt.queueReq (r : Rt) (t w : Nat) : Rt :=
  { r with tasks := modAt r.tasks t (fun x => if x.queue.length < 64 then { x with queue := x.queue ++ [w] } else x) }

/-- The task of an instance key in the active application. -/
def Chip.taskOfKey (u : Chip) (c key : Nat) : Nat :=
  let m := u.sram c
  ((((appAt m (u.run c).bank).descs m).find? (fun d => d.key == key)).map (fun d => d.task)).getD 0

/-- A rise of the holder's LOCKED queues a SET (R399). -/
def Chip.mirrorRise (u : Chip) (c : Nat) (old new : Blk) : Chip :=
  if old.lib = 0x20 ∧ old.locked = false ∧ new.locked = true then
    let t := u.taskOfKey c old.key
    let u := u.modRun c (fun r => r.queueReq t (requestWord 1 old.value))
    u.modPair c (fun p => { p with asked := addNew old.value p.asked, refused := p.refused.filter (· != old.value) })
  else u

/-- A page gives the mirrored variables of a user type's instance their values (R399). -/
def Chip.mirrorBytes (u : Chip) (c : Nat) (data : List Byte) (b : Blk) : Chip :=
  match ((appAt (u.sram c) (u.run c).bank).descs (u.sram c)).find? (fun d => d.key == b.key) with
  | some d => b.bytes.foldl (fun u e => u.sramWrite c (instBase + d.off + e.1) [BitVec.ofNat 8 (Config.mirrorField data b.key e.1)]) u
  | none => u

/-- A data page is applied: the block data change, and rises against the page applied before queue their SETs. A LOCKED whose SET has been
denied stays 0 until the holder's value next rises. -/
def Chip.applyData (u : Chip) (c k old : Nat) (data : List Byte) : Chip :=
  let now := (u.run c).buf.snap
  let before := assoc (u.pair c).applied k []
  (u.mirVals c k).foldl (fun u b =>
    let was := if before = [] then { b with locked := false } else mirrorBlk before old now b
    let b' := mirrorBlk data old now b
    if b.lib = 0 then u.mirrorBytes c data b
    else
      let u := u.mirrorRise c was b'
      let b' := if b.lib = 0x20 ∧ (u.pair c).refused.contains b.value then { b' with locked := false } else b'
      u.modRun c (fun r => { r with blocks := r.blocks.map (fun x => if x.key = b.key then b' else x) })) u

/-- A sequence page is applied: each next SEQ is the page value plus the own frames since the page's release (R399). `hist` are
the own SEQs at that release. -/
def Chip.applySeq (u : Chip) (c k : Nat) (data : List Byte) (hist : List (Nat × Nat)) : Chip :=
  let ns := ((u.conns c true).drop ((k - u.get Reg.PR_CFG.MIR_PAGES) * 250)).take 250
  (ns.zipIdx).foldl (fun u e =>
    u.modConn c e.1 (fun s => { s with txSeq := (beAt data (4 * e.2) 4 + (s.txSeq + 2 ^ 32 - assoc hist e.1 0)) % 2 ^ 32 })) u

/-- One mirror page in SYNCING or STANDBY (R399). -/
def Chip.applyPage (u : Chip) (c ts : Nat) (p : List Byte) : Chip :=
  let k := beAt p 0 2
  let cv := beAt p 12 8
  let data := p.drop 24
  let done := fun (u : Chip) => u.modPair c (fun x => { x with synced := addNew k x.synced, applied := assocPut x.applied k data })
  if cv ≠ (u.run c).cv then
    let u := u.rtEvent c 0x3C [(u.run c).cv, cv]
    if (u.pair c).st = 3 then u.pairEnter c 2 9 else u
  else if k < u.get Reg.PR_CFG.MIR_PAGES then done (u.applyData c k (beAt p 4 8) data)
  else if k < u.mirPages c ∧ (u.pair c).st = 2 then
    match (u.pair c).seqHist.find? (fun e => e.1 == ts) with
    | some e => done (u.applySeq c k data e.2)
    | none => u
  else u

/-- The mirror pages of this snapshot, in page order (R399); a denied SET of the holder's lock is reported once. -/
def Chip.applyMirror (u : Chip) (c : Nat) : Chip :=
  let l := (u.pair c).inbox
  let sorted := (List.range (u.mirPages c)).flatMap (fun k => l.filter (fun e => beAt e.2 0 2 == k))
  let u := u.modPair c (fun p => { p with inbox := [] })
  let u := if (u.pair c).st = 2 ∨ (u.pair c).st = 3 then sorted.foldl (fun u e => u.applyPage c e.1 e.2) u else u
  let perm := (u.run c).buf.perm
  (u.pair c).asked.foldl (fun u n =>
    if perm.deniedRoutes.testBit n then
      let f := u.free
      let reason := if u.get Reg.LAT_DENY_LAST.NUM = n ∧ u.get Reg.LAT_DENY_LAST.GATE = 0 then u.get Reg.LAT_DENY_LAST.REASON else f.1
      let u := f.2.modPair c (fun p => { p with asked := p.asked.filter (· != n), refused := addNew n p.refused })
      let u := u.modRun c (fun r => { r with blocks := r.blocks.map (fun b => if b.lib = 0x20 ∧ b.value = n then { b with locked := false } else b) })
      u.rtEvent c 0x3D [n, reason]
    else if perm.lock.testBit n then u.modPair c (fun p => { p with asked := p.asked.filter (· != n) })
    else u) u

/-- What a partner does at a snapshot after its batch and its mirror pages (Table 13.5). -/
def Chip.partnerStep (u : Chip) (c : Nat) : Chip :=
  let u := u.pairLost c
  let mir := u.get Reg.PR_MIR.RX
  let p := u.pair c
  let u := match p.grant with
    | some cl => if u.claim = cl then
        let u := u.modPair c (fun x => { x with grant := none })
        if u.highClaim c ≤ cl then (u.modPair c (fun x => { x with returning := false, request := none })).pairEnter c 4 7 else u
      else u
    | none => u
  let st := (u.pair c).st
  if st = 1 ∧ p.joined = true ∧ p.fromPtr.isNone then u.pairRequest c 1
  else if st = 2 ∧ (List.range (u.mirPages c)).all (fun k => (u.pair c).synced.contains k) then
    let u := u.pairEnter c 3 5
    if (u.pair c).returning then u.pairRequest c 2 else u
  else if st = 3 then
    if u.connIs c mir 3 || (u.connSt c mir).newGaps != 0 then u.pairEnter c 2 9
    else if (u.pair c).returning then u.pairRequest c 2 else u
  else u

/-! ### The witness (R400, R401, Table 13.6) -/

/-- The heartbeat connection and the last heartbeat of a rank. -/
def Chip.rankConn (u : Chip) (rank : Nat) : Nat := if rank = 1 then u.get Reg.PR_HB.RX else u.get Reg.PR_PEER.RX
def Partner.beatOfRank (p : Partner) (rank : Nat) : Option Beat := if rank = 1 then p.beat1 else p.beat2

/-- An answer to a rank waits for the next task-0 delivery (Table 13.3). -/
def Chip.witAnswer (u : Chip) (c rank res reason : Nat) : Chip :=
  u.sendLater c (u.get Reg.PR_HB.TX) 5 (beBytes 4 ((u.pair c).epoch * 256 + rank) ++ beBytes 1 res ++ beBytes 1 reason ++ beBytes 2 0)

/-- E changes, and the next task-0 delivery carries it into ZST_CLAIM (R400). -/
def Chip.witEpoch (u : Chip) (c e : Nat) : Chip :=
  if (u.pair c).epoch = e then u else (u.modPair c (fun p => { p with epoch := e })).order c 0x40600048 (e * 256)

/-- A grant to a rank with an epoch (R401). -/
def Chip.witGrant (u : Chip) (c rank e reason : Nat) : Chip :=
  let u := (u.witEpoch c e).modPair c (fun p => { p with holder := rank })
  (u.witAnswer c rank 0 reason).rtEvent c 0x37 [rank, e, reason]

/-- One request by rows 3 to 10 of Table 13.6. -/
def Chip.witDecide (u : Chip) (c : Nat) (q : EpochReq) : Chip :=
  let p := u.pair c
  let live := fun rank => u.connIs c (u.rankConn rank) 2
  let own := p.beatOfRank q.rank
  let hold := p.beatOfRank p.holder
  let hEpoch := (own.map (fun b => b.frame / 256)).getD 0
  let e := p.epoch
  if e = 0xFFFFFF then u.witAnswer c q.rank 5 q.reason
  else if p.holder != 0 && live p.holder && hold.any (fun b => b.cv != q.cv) then u.witAnswer c q.rank 3 q.reason
  else if !live q.rank then u.witAnswer c q.rank 4 q.reason
  else if p.holder = q.rank ∧ hEpoch < e then u.witGrant c q.rank e q.reason
  else if p.holder = q.rank ∧ hEpoch = e then u.witAnswer c q.rank 1 q.reason
  else if q.reason = 1 ∧ p.holder = 3 - q.rank ∧ live (3 - q.rank) = true then u.witAnswer c q.rank 2 q.reason
  else if q.reason = 2 ∧ own.any (fun b => b.state == 3) = false then u.witAnswer c q.rank 4 q.reason
  else u.witGrant c q.rank (e + 1) q.reason

/-- The epochs that a witness finds in a heartbeat: its frame's claim and its highest-claim field. -/
def beatEpoch (b : Option Beat) : Nat := match b with
  | some b => max (b.frame / 256) (b.claim / 256)
  | none => 0

/-- The witness begins to decide once each partner has been heard or JOIN_WAIT has passed (R400). -/
def Chip.witStart (u : Chip) (c : Nat) : Chip :=
  let p := u.pair c
  if p.deciding || !((p.beat1.isSome && p.beat2.isSome) || p.joined) then u
  else
    let e := max (u.get Reg.ZST_CLAIM.EPOCH) (max (beatEpoch p.beat1) (beatEpoch p.beat2))
    let c1 : Nat := (p.beat1.map (fun x => x.frame)).getD 0
    let c2 : Nat := (p.beat2.map (fun x => x.frame)).getD 0
    let holder := if c1 = 0 ∧ c2 = 0 then 0 else if c2 < c1 then 1 else 2
    let u := u.modPair c (fun x => { x with deciding := true, holder := holder, epoch := u.get Reg.ZST_CLAIM.EPOCH })
    u.witEpoch c e

/-- What a witness does at a snapshot after its batch (R401). -/
def Chip.witnessStep (u : Chip) (c : Nat) : Chip :=
  let u := u.witStart c
  let p := u.pair c
  if !p.deciding then u
  else
    let other := 3 - p.holder
    let lost := p.holder ≠ 0 ∧ u.connIs c (u.rankConn p.holder) 3 = true ∧ u.connIs c (u.rankConn other) 2 = true ∧ p.epoch ≠ 0xFFFFFF
    let u := if lost then u.witGrant c other (p.epoch + 1) 0 else u
    let qs := p.requests.filter (fun q => q.rank == 2) ++ p.requests.filter (fun q => q.rank == 1)
    let u := u.modPair c (fun x => { x with requests := [] })
    -- row 2
    if u.connIs c (u.rankConn 1) 3 && u.connIs c (u.rankConn 2) 3 then u else qs.foldl (fun u q => u.witDecide c q) u

/-- E and the holder's rank as a word; before the witness decides, E is the epoch of its claim (R400). -/
def Chip.witWord (u : Chip) (c : Nat) : Nat :=
  let p := u.pair c
  (if p.deciding then p.epoch else u.get Reg.ZST_CLAIM.EPOCH) * 256 + p.holder

/-! ### PR_STAT and PR_HIGH (R405) -/

/-- PR_STAT as the logic stands (Table 13.10). -/
def Chip.prStat (u : Chip) (c : Nat) : Nat :=
  let p := u.pair c
  2 ^ 31 + p.st % 8 * 2 ^ 28 + lvl p.returning * 2 ^ 27 + lvl p.isolated * 2 ^ 26 + lvl (u.connIs c (u.get Reg.PR_HB.RX) 2) * 2 ^ 25 +
    lvl (u.connIs c (u.get Reg.PR_PEER.RX) 2) * 2 ^ 24 + min p.synced.length 64 * 2 ^ 8

/-- PR_HIGH as the logic stands. -/
def Chip.prHigh (u : Chip) (c : Nat) : Nat := if u.isWitness then u.witWord c else u.highClaim c

/-- Orders PR_STAT and PR_HIGH when they change (DEDUCED: log 36). -/
def Chip.prReport (u : Chip) (c : Nat) : Chip :=
  let put := fun (u : Chip) (a v : Nat) => if u.readPieces (regPieces a) = v then u else u.order c a v
  put (put u 0x40600068 (u.prStat c)) 0x4060006C (u.prHigh c)

/-- Partner and witness logic at a snapshot. -/
def Chip.pairSnapshot (u : Chip) (c : Nat) : Chip :=
  if u.isPartner then ((u.applyMirror c).partnerStep c).prReport c
  else if u.isWitness then (u.witnessStep c).prReport c
  else u

/-- JOIN_WAIT_EXPIRY (R395, R400): JOIN_WAIT has passed since entry to ACTIVE. -/
def execJoinWaitExpiry (c : Nat) (s : State) : Host.Outcome State Fault Refusal :=
  let u := s.chip
  if u.chState c ≠ 3 then s.become u
  else
    let u := u.untilWeir ((u.run c).activeAt + ms (u.get Reg.PR_CFG.JOIN_WAIT))
    let u := u.modPair c (fun p => { p with joined := true })
    s.become (if u.isPartner && (u.pair c).st == 1 && (u.pair c).fromPtr.isNone then u.pairRequest c 1 else u)

/-! ### Frames of a task-0 delivery (R391, R394) -/

/-- The heartbeat payload (Table 13.3). -/
def Chip.beatPayload (u : Chip) (c : Nat) : List Byte :=
  let p := u.pair c
  let b0 := if u.isWitness then 0x80 else p.st % 8 * 16 + lvl p.returning * 8 + lvl p.isolated * 4
  let cl := if u.isWitness then u.witWord c else u.highClaim c
  beBytes 1 b0 ++ beBytes 1 (u.get Reg.CF_MODE.MASK * 4 + u.get Reg.CF_MODE.MODE) ++ beBytes 2 p.synced.length ++ beBytes 8 (u.run c).cv ++
    beBytes 4 cl ++ beBytes 8 0

/-- Heartbeats, a request that is due, and mirror pages of a task-0 delivery. -/
def Chip.pairItems (u : Chip) (c snap : Nat) : List SendItem × Chip :=
  let hb := u.get Reg.PR_HB.TX
  if u.isWitness then ([SendItem.mk hb 3 (u.beatPayload c)], u)
  else if !u.isPartner then ([], u)
  else
    let p := u.pair c
    let beats := [SendItem.mk hb 3 (u.beatPayload c), SendItem.mk (u.get Reg.PR_PEER.TX) 3 (u.beatPayload c)]
    let req := match p.request with
      | some r => if p.wait = 0 then [SendItem.mk hb 4 (beBytes 1 r ++ beBytes 1 u.rank ++ beBytes 2 0 ++ beBytes 8 (u.run c).cv)] else []
      | none => []
    let pick := u.mirPick c snap
    let pages := pick.1.map (fun o => SendItem.mk (u.get Reg.PR_MIR.TX) 0 (mirPayload o (u.run c).cv))
    let u := u.modPair c (fun x => { x with
      wait := if x.wait = 0 then 9 else x.wait - 1, rot := pick.2
      out := x.out.filter (fun o => !pick.1.any (fun q => q.page == o.page)) ++ pick.1 })
    (beats ++ req ++ pages, u)

end Sys2Proof.Machine
end

