-- ==== Sys2Proof/Machine/Lattice.lean ====
section
/-!
DEFINITION. The conflict lattice (chapter 06): banks, update and request words, commit, sweep, gate verdicts, permission
return, STANDBY operations, bank swap.
-/
namespace Sys2Proof.Machine

/-- Lattice page 0. -/
def latPage : Nat := 0x50006000

/-! ### Bank contents (R184 to R187) -/

/-- A 256-bit word of a bank. -/
def bankWord (b : Bank) (i : Nat) : Nat := assoc b i 0

/-- The bank with word `i` set; a word 0 is not listed. The reserved area from 0x28_2000 on reads as 0 (R184). -/
def bankPut (b : Bank) (i v : Nat) : Bank :=
  if 82176 ≤ i then b else if v = 0 then b.filter (fun e => e.1 != i) else assocPut b i (v % 2 ^ 256)

/-- Bit `n` of the bitmap that starts at a byte offset (R185). -/
def bankBit (b : Bank) (off n : Nat) : Bool := (bankWord b (off / 32 + n / 256)).testBit (n % 256)

/-- `w` bits at a byte offset, inside one word. -/
def bankField (b : Bank) (off w : Nat) : Nat := bankWord b (off / 32) / 2 ^ (8 * (off % 32)) % 2 ^ w

/-- Word `k` of the record of route `r` (Table 6.4). -/
def routeWord (b : Bank) (r k : Nat) : Nat := bankWord b (r * 40 + k)

/-- Route USED bit. -/
def routeUsed (b : Bank) (r : Nat) : Bool := bankBit b 0x281800 r

/-- Signal USED bit. -/
def signalUsed (b : Bank) (s : Nat) : Bool := bankBit b 0x281900 s

/-- USED bit of a point (kind 0), section (1) or edge (2). -/
def objUsed (b : Bank) (kind n : Nat) : Bool :=
  if kind = 0 then bankBit b 0x281A00 n else if kind = 1 then bankBit b 0x281A80 n else bankBit b 0x281C80 n

/-- Number of objects of a kind (Table 6.1). -/
def objCount (kind : Nat) : Nat := if kind = 0 then 1024 else if kind = 1 then 4096 else 128

/-- Signal-map entry of a route (Table 6.5). -/
def signalEntry (b : Bank) (r : Nat) : Nat := bankField b (0x280000 + 2 * r) 16

/-- Gate-table entry of a connection (Table 6.5). -/
def gateEntry (b : Bank) (c : Nat) : Nat := bankField b (0x281000 + 4 * c) 32

/-- The ACTIVE bank. -/
def Chip.activeBank (u : Chip) : Bank := if u.get Reg.LAT_STAT.ACTIVE_ID = 0 then u.lat.bank0 else u.lat.bank1

/-- The STANDBY bank. -/
def Chip.standbyBank (u : Chip) : Bank := if u.get Reg.LAT_STAT.ACTIVE_ID = 0 then u.lat.bank1 else u.lat.bank0

/-- Words of ACTIVE with an uncorrectable error (R226). -/
def Chip.activeBad (u : Chip) : List Nat := if u.get Reg.LAT_STAT.ACTIVE_ID = 0 then u.lat.bad0 else u.lat.bad1

/-- Words of STANDBY with an uncorrectable error. -/
def Chip.standbyBad (u : Chip) : List Nat := if u.get Reg.LAT_STAT.ACTIVE_ID = 0 then u.lat.bad1 else u.lat.bad0

/-- Replaces the STANDBY bank. -/
def Chip.putStandby (u : Chip) (b : Bank) (bad : List Nat) : Chip :=
  if u.get Reg.LAT_STAT.ACTIVE_ID = 0 then { u with lat := { u.lat with bank1 := b, bad1 := bad } }
  else { u with lat := { u.lat with bank0 := b, bad0 := bad } }

/-! ### State vectors (R181) -/

/-- PDET, SCLR and EREADY together. -/
structure Field where
  pdet : Nat
  sclr : Nat
  eready : Nat
  deriving DecidableEq, Repr

/-- Bits `lo` up of width `w` replaced. -/
def setBitsAt (v lo w x : Nat) : Nat := v - v / 2 ^ lo % 2 ^ w * 2 ^ lo + x % 2 ^ w * 2 ^ lo

/-- An object takes a value. -/
def Field.put (f : Field) (kind n v : Nat) : Field :=
  if kind = 0 then { f with pdet := setBitsAt f.pdet (2 * n) 2 v }
  else if kind = 1 then { f with sclr := setBitsAt f.sclr n 1 v }
  else { f with eready := setBitsAt f.eready n 1 v }

/-- The committed field state. -/
def Chip.field (u : Chip) : Field := ⟨u.lat.pdet, u.lat.sclr, u.lat.eready⟩

/-- Every vector at its restrictive value (R182). -/
def Chip.latRestrict (u : Chip) : Chip :=
  { u with lat := { u.lat with lock := 0, perm := Rails.low 2048, sperm := Rails.low 2048, pdet := 0, sclr := 0, eready := 0 } }

/-! ### Update words (R190 to R192) -/

/-- A unit-wide reset of the lattice (R182, R226): vectors restrictive, nothing in progress, banks kept, STANDBY LOADED. -/
def Chip.latHold (u : Chip) : Chip :=
  let l := u.lat
  let l : Lattice := { bank0 := l.bank0, bank1 := l.bank1, bad0 := l.bad0, bad1 := l.bad1, cv0 := l.cv0, cv1 := l.cv1, passStart := u.now }
  ((({ u with lat := l }).put Reg.LAT_STAT.SB_STATE 3).put Reg.LAT_STAT.ROUTE 0).put Reg.LAT_STAT.PASS_REQ 0

/-- Whether an update word is ignored and counted (R192). -/
def updBad (b : Bank) (w : Nat) : Bool :=
  let form := bits w 31 30
  let kind := bits w 29 28
  if form = 0 then false
  else if form = 3 ∨ kind = 3 ∨ bits w 27 26 ≠ 0 ∨ objCount kind ≤ bits w 11 0 then true
  else if form = 1 then
    decide (bits w 23 12 ≠ 0 ∨ (kind ≠ 0 ∧ w.testBit 25 = true)) || !objUsed b kind (bits w 11 0)
  else decide (bits w 25 24 ≠ 0)

/-- The field state after an update word that is not ignored. -/
def updApply (w : Nat) (f : Field) : Field :=
  let kind := bits w 29 28
  let first := bits w 11 0
  if bits w 31 30 = 1 then f.put kind first (bits w 25 24)
  else if bits w 31 30 = 2 then
    (List.range (min (bits w 23 12 + 1) (objCount kind - first))).foldl (fun f i => f.put kind (first + i) 0) f
  else f

/-! ### Permission rules (R196, R201) -/

/-- The lowest bit that is set below `n`. -/
def lowBit (v n : Nat) : Option Nat := (List.range n).find? (fun i => v.testBit i)

/-- The lowest failing object of word `k` of route `r`: reason and object (Table 6.8). -/
def wordFails (b : Bank) (lock : Nat) (f : Field) (r k : Nat) : Option (Nat × Nat) :=
  let w := routeWord b r k
  if w = 0 then none
  else if k < 8 then
    let locked := lock / 2 ^ (256 * k) % 2 ^ 256
    let own := if r / 256 = k then 2 ^ (r % 256) else 0
    (lowBit ((w &&& locked) &&& (2 ^ 256 - 1 - own)) 256).map (fun i => (1, 256 * k + i))
  else if k < 16 then
    let p0 := 128 * (k - 8)
    ((List.range 128).find? (fun i =>
      let need := w / 2 ^ (2 * i) % 4
      need != 0 && (need == 3 || f.pdet / 2 ^ (2 * (p0 + i)) % 4 != need))).map (fun i => (2, p0 + i))
  else if k < 32 then
    let clear := f.sclr / 2 ^ (256 * (k - 16)) % 2 ^ 256
    (lowBit (w &&& (2 ^ 256 - 1 - clear)) 256).map (fun i => (3, 256 * (k - 16) + i))
  else (lowBit (w &&& (2 ^ 128 - 1 - f.eready % 2 ^ 128)) 128).map (fun i => (4, i))

/-- The evaluation of R196: none where every condition holds, otherwise reason and object of the first failing word. -/
def routeFails (b : Bank) (lock : Nat) (f : Field) (r : Nat) : Option (Nat × Nat) :=
  if !routeUsed b r then some (5, r) else (List.range 33).findSome? (wordFails b lock f r)

/-- The word of the record that decided an evaluation, from its reason and object (R201); word 0 for an unused route. -/
def failWord (e : Nat × Nat) : Nat :=
  if e.1 = 1 then e.2 / 256 else if e.1 = 2 then 8 + e.2 / 128 else if e.1 = 3 then 16 + e.2 / 256 else if e.1 = 4 then 32 else 0

/-- SPERM of a set of permissions (R200). -/
def spermOf (b : Bank) (perm : Nat) : Nat :=
  (setBits perm 2048).foldl (fun v r =>
    let e := signalEntry b r
    if e.testBit 15 && signalUsed b (e % 2048) then v ||| 2 ^ (e % 2048) else v) 0

/-- An enable of a signal output falls when its permission does (05 R150). -/
def Chip.signalEnables (u : Chip) : Chip :=
  foldUpTo 32 u (fun u n =>
    if u.on (Reg.WR_OMAP.USED n) && u.on (Reg.WR_OMAP.SIGNAL n) && !u.lat.sperm.get (u.get (Reg.WR_OMAP.SIGNO n)) then
      u.enable n false else u)

/-- SPERM follows PERM. -/
def Chip.latSignals (u : Chip) : Chip :=
  ({ u with lat := { u.lat with sperm := Rails.ofWord 2048 (spermOf u.activeBank u.lat.perm.word) } }).signalEnables

/-! ### Events (R213) -/

/-- LAT_DENY_LAST. -/
def Chip.denyLast (u : Chip) (reason obj : Nat) (gate : Bool) (num : Nat) : Chip :=
  (((u.put Reg.LAT_DENY_LAST.REASON reason).put Reg.LAT_DENY_LAST.OBJ obj).put Reg.LAT_DENY_LAST.GATE (lvl gate)).put
    Reg.LAT_DENY_LAST.NUM num

/-- DENIED: route or connection, reason, object, time of the deciding word. -/
def Chip.latDenied (u : Chip) (num reason obj : Nat) (gate : Bool) (t : Nat) : Chip :=
  ((((u.denyLast reason obj gate num).wrapInc Reg.LAT_DENIALS.COUNT)).irq latPage 0).raiseAfter 4 0x01 [num, reason, obj, 0, t]

/-- WITHDRAWN: route, reason, object, origin (1 sweep, 2 swap). -/
def Chip.latWithdrawn (u : Chip) (r reason obj origin : Nat) : Chip :=
  ((((u.denyLast reason obj false r).wrapInc Reg.LAT_WDRAW.COUNT)).irq latPage 1).raiseAfter 4 0x02 [r, reason, obj, origin, u.weirTime]

/-- A single-bit error corrected in word `w` of a bank (R226). -/
def Chip.latCorrected (u : Chip) (bank w : Nat) : Chip := ((u.satInc Reg.LAT_ECC.CORR).irq latPage 5).raiseAfter 4 0x06 [bank, w]

/-- An error in a word of ACTIVE that is read: corrected (1), or uncorrectable (2), which sends Weir to the safe state with
cause LATTICE (R226). -/
def Chip.activeEcc (u : Chip) (ecc w : Nat) : Chip :=
  if ecc = 1 then u.latCorrected (u.get Reg.LAT_STAT.ACTIVE_ID) w else if ecc = 2 then u.weirSafe 0x0E else u

/-! ### Latch and commit (R189, R193 to R198) -/

/-- The words of an image area. -/
def areaWords (img base cnt : Nat) : List Nat := (List.range cnt).map (fun i => imageWord img (base + i))

/-- A request word that is ignored and counted (R193). -/
def reqBad (w : Nat) : Bool := w.testBit 31 && decide (bits w 30 29 = 0 ∨ bits w 30 29 = 3 ∨ bits w 28 11 ≠ 0)

/-- LOCK and PERM after a processed request. -/
def LatReq.apply (q : LatReq) (s : Nat × Nat) : Nat × Nat :=
  if !q.set then (setBitsAt s.1 q.route 1 0, setBitsAt s.2 q.route 1 0)
  else if q.grant then (setBitsAt s.1 q.route 1 1, setBitsAt s.2 q.route 1 1)
  else (s.1, setBitsAt s.2 q.route 1 0)

/-- Processes one request word on the state with the overlay and the results of earlier words: an evaluation reads its 33 words, one in
a tick, and its stamp is that of the word that decides (R203, R213; DEDUCED: log 113). The 13th SET of a pass is denied with reason RATE
without evaluation (R205). -/
def Chip.latRequest (u : Chip) (f : Field) (done : List LatReq) (w : Nat) : Chip × List LatReq :=
  let r := bits w 10 0
  if bits w 30 29 = 2 then (u, done ++ [⟨false, r, false, 0, 0, u.weirTime⟩])
  else
    let lock := (done.foldl (fun s q => q.apply s) (u.lat.lock, u.lat.perm.word)).1
    let n := u.get Reg.LAT_STAT.PASS_REQ
    if 12 ≤ n then ((u.satInc Reg.LAT_ERRCNT.RATE), done ++ [⟨true, r, false, 6, r, u.weirTime⟩])
    else
      let u := u.put Reg.LAT_STAT.PASS_REQ (n + 1)
      match routeFails u.activeBank lock f r with
      | none => (u.advance 33, done ++ [⟨true, r, true, 0, 0, (u.advance 33).weirTime⟩])
      | some e => (u.advance 33, done ++ [⟨true, r, false, e.1, e.2, (u.advance (failWord e + 1)).weirTime⟩])

/-- A word of the record of route `r` in ACTIVE has an uncorrectable error. -/
def Chip.routeBad (u : Chip) (r : Nat) : Bool := (List.range 33).any (fun k => u.activeBad.contains (r * 40 + k))

/-- The routes that the request words of a V have evaluated. -/
def evaluated (reqs : List LatReq) : List Nat := (reqs.filter (fun q => q.set && q.reason != 6)).map (·.route)

/-- LATTICE_LATCH (R189, R194, R203): the oldest V at the port, once every earlier V has committed. The sweep word in progress comes before
the first evaluation. `ecc` and `w` report an error in a bank word that the evaluation reads. -/
def execLatticeLatch (ecc w : Nat) (s : State) : Host.Outcome State Fault Refusal :=
  let u := s.chip
  let safe := u.on Reg.WR_STAT.SAFE && !u.weir.hold
  match u.lat.port, u.lat.pend with
  | v :: rest, none =>
    if safe then s.become u
    else
      let upd := areaWords v (u.get Reg.LAT_CFG.UPD_BASE) (u.get Reg.LAT_CFG.UPD_CNT)
      let req := areaWords v (u.get Reg.LAT_CFG.REQ_BASE) (u.get Reg.LAT_CFG.REQ_CNT)
      let b := u.activeBank
      let bad := (upd.filter (updBad b)).length + (req.filter reqBad).length
      let f := (upd.filter (fun w => !updBad b w)).foldl (fun f w => updApply w f) u.field
      let u := u.put Reg.LAT_ERRCNT.UPD_BAD (min (u.get Reg.LAT_ERRCNT.UPD_BAD + bad) 0xFFFF)
      let words := req.filter (fun w => w.testBit 31 && !reqBad w)
      let u := if words.any (fun w => bits w 30 29 == 1) && decide (u.get Reg.LAT_STAT.PASS_REQ < 12) then u.advance 1 else u
      let p := words.foldl (fun (p : Chip × List LatReq) w => p.1.latRequest f p.2 w) (u, [])
      let u := p.1
      let u := { u with lat := { u.lat with port := rest, pend := some ⟨f.pdet, f.sclr, f.eready, p.2⟩ } }
      s.become (u.activeEcc (if (evaluated p.2).any u.routeBad then 2 else ecc) w)
  | _, _ => s.become u

/-- The enables of signal outputs rise in the tick in which V, whose check has passed, commits: its image bit is 1, the permission as
committed is granted, no check is open and Weir is not in the safe state (R149, R151, R195, 01 Table 1.7 steps 8 and 9; DEDUCED:
log 115). -/
def Chip.signalsUp (u : Chip) (v : Nat) : Chip :=
  if u.on Reg.WR_STAT.SAFE || u.weir.openCheck.isSome then u
  else foldUpTo 32 u (fun u n =>
    if u.on (Reg.WR_OMAP.USED n) && u.on (Reg.WR_OMAP.SIGNAL n) && v.testBit (u.get (Reg.WR_OMAP.BIT n)) &&
      u.lat.sperm.get (u.get (Reg.WR_OMAP.SIGNO n)) then u.enable n true else u)

/-- The reports of one processed request at commit (R197). -/
def Chip.latReport (u : Chip) (q : LatReq) : Chip :=
  if !q.set then u
  else if q.grant then u.wrapInc Reg.LAT_GRANTS.COUNT
  else
    let u := u.latDenied q.route q.reason q.obj false q.stamp
    { u with lat := { u.lat with deniedRoutes := u.lat.deniedRoutes ||| 2 ^ q.route } }

/-- LATTICE_COMMIT (R195): the vote check of V has passed and its requests are processed; overlay, LOCK, PERM and SPERM take
effect together. -/
def execLatticeCommit (s : State) : Host.Outcome State Fault Refusal :=
  let u := s.chip
  match u.lat.pend, u.lat.passed with
  | some p, v :: rest =>
      let l := u.lat
      let lp := p.reqs.foldl (fun s q => q.apply s) (l.lock, l.perm.word)
      let l' := { l with lock := lp.1, perm := Rails.ofWord 2048 lp.2, pdet := p.pdet, sclr := p.sclr, eready := p.eready, pend := none, passed := rest, committed := l.committed + 1 }
      let u := (({ u with lat := l' }).latSignals).signalsUp v
      s.become (p.reqs.foldl Chip.latReport u)
  | _, _ => s.become u

/-! ### Sweep (R199, R204, R207) -/

/-- The end of a pass: its length, and the next one starts (R204, R205). -/
def Chip.passEnd (u : Chip) : Chip :=
  let n := u.now - u.lat.passStart
  let u := (((u.put Reg.LAT_PASS.CYCLES n).highWater Reg.LAT_PASS_MAX.CYCLES n).wrapInc Reg.LAT_PASSCNT.COUNT)
  ({ u with lat := { u.lat with passStart := u.now } }).put Reg.LAT_STAT.PASS_REQ 0

/-- SWEEP_EVAL (R199, R204, R213): the next route, 33 words, on the state at its word 0; a failing one loses its permission in the tick of
the failing word, and SPERM follows (R200). -/
def execSweepEval (ecc w : Nat) (s : State) : Host.Outcome State Fault Refusal :=
  let u := s.chip
  let u := if u.on Reg.LAT_STAT.SWEEP then u else ({ u with lat := { u.lat with passStart := u.now } }).put Reg.LAT_STAT.SWEEP 1
  let r := u.get Reg.LAT_STAT.ROUTE
  let verdict := if u.lat.perm.get r then routeFails u.activeBank u.lat.lock u.field r else none
  let u := match verdict with
    | some e =>
      let u := u.advance (failWord e + 1)
      let u := { u with lat := { u.lat with perm := u.lat.perm.put r false } }
      ((u.latWithdrawn r e.1 e.2 1).advance (32 - failWord e)).latSignals
    | none => u.advance 33
  let bad := u.routeBad r
  let u := u.put Reg.LAT_STAT.ROUTE ((r + 1) % 2048)
  let u := if r = 2047 then u.passEnd else u
  s.weirDoes (u.activeEcc (if bad then 2 else ecc) w)

/-- SWEEP_PASS_TIMEOUT (R207): the pass has not ended 70,000 cycles after it began. -/
def execSweepPassTimeout (s : State) : Host.Outcome State Fault Refusal :=
  let u := s.chip
  s.weirDoes (if u.on Reg.LAT_STAT.SWEEP then (u.until (u.lat.passStart + 70000)).weirSafe 0x0E else u)

/-! ### Gate queries (R210 to R212) -/

/-- GATE_QUERY (R210): the oldest query arrives at Weir; more than 64 messages raise DENIED with reason LIMIT. -/
def execGateQuery (s : State) : Host.Outcome State Fault Refusal :=
  let u := s.chip
  match u.link.queries with
  | [] => s.become u
  | q :: rest =>
    let u := { u with link := { u.link with queries := rest }, lat := { u.lat with queries := u.lat.queries ++ [q.take 64] } }
    s.become (if 64 < q.length then u.latDenied 0 8 0 false u.weirTime else u)

/-- Whether a connection's messages are GO (R211). -/
def Chip.gateGo (u : Chip) (c : Nat) : Bool :=
  let e := gateEntry u.activeBank c
  let n := e % 2048
  e.testBit 31 && ((bits e 30 29 == 0 && u.lat.sperm.get n) || (bits e 30 29 == 1 && u.lat.perm.get n))

/-- One entry of a verdict; the first DENY after a GO or at the start raises DENIED with reason GATE (R212). -/
def Chip.gateEntryVerdict (u : Chip) (c : Nat) : Chip :=
  let l := u.lat
  if u.gateGo c then { u with lat := { l with lastDeny := setBitsAt l.lastDeny c 1 0 } }
  else if l.lastDeny.testBit c then u
  else
    let u := { u with lat := { l with lastDeny := l.lastDeny ||| 2 ^ c, deniedGates := l.deniedGates ||| 2 ^ c } }
    u.latDenied c 7 (gateEntry u.activeBank c % 2048) true u.weirTime

/-- GATE_VERDICT (R211): in the tick after V has committed, the oldest query is answered; none in the safe state. -/
def execGateVerdict (s : State) : Host.Outcome State Fault Refusal :=
  let u := s.chip
  match u.lat.queries with
  | [] => s.become u
  | q :: rest =>
    if u.lat.committed = 0 ∨ u.on Reg.WR_STAT.SAFE = true then s.become u
    else
      let v := q.map u.gateGo
      let u := q.foldl Chip.gateEntryVerdict u
      let l := u.lat
      s.become ({ u with lat := { l with queries := rest, committed := l.committed - 1 }, link := { u.link with verdicts := u.link.verdicts ++ [v] } })

/-! ### Permission return (R214) -/

/-- The vectors captured in the snapshot tick; the DENIED flags start anew. -/
def Chip.latCapture (u : Chip) (swapped : Bool) (result : Nat) : Chip :=
  let l := u.lat
  let r : PermReturn := {
    seq := u.get Reg.WR_SNAPCNT.COUNT, safe := u.on Reg.WR_STAT.SAFE, swapped := swapped, result := result
    sbState := u.get Reg.LAT_STAT.SB_STATE, cv := if u.get Reg.LAT_STAT.ACTIVE_ID = 0 then l.cv0 else l.cv1
    perm := l.perm.word, lock := l.lock, sperm := l.sperm.word, deniedRoutes := l.deniedRoutes, deniedGates := l.deniedGates }
  { u with lat := { l with capture := some r, deniedRoutes := 0, deniedGates := 0 } }

/-- PERMISSION_RETURN (R214): the return lands in the buffer at 0x5000_8000. -/
def execPermissionReturn (s : State) : Host.Outcome State Fault Refusal :=
  let u := s.chip
  match u.lat.capture with
  | none => s.become u
  | some r => s.become ({ u with lat := { u.lat with capture := none, buffer := r } })

/-- The bytes of the permission return buffer (Table 6.11). -/
def PermReturn.bytes (r : PermReturn) : List Byte :=
  leBytes 4 r.seq ++ leBytes 4 (lvl r.safe * 256 + lvl r.swapped * 128 + r.result % 8 * 16 + r.sbState % 8) ++ leBytes 8 r.cv ++
  leBytes 16 0 ++ leBytes 256 r.perm ++ leBytes 256 r.lock ++ leBytes 256 r.sperm ++ leBytes 256 r.deniedRoutes ++
  leBytes 64 r.deniedGates ++ leBytes 32 0

/-! ### STANDBY (R216 to R220) -/

/-- SB_STATE. -/
def Chip.sbState (u : Chip) : Nat := u.get Reg.LAT_STAT.SB_STATE

/-- A command in a state that does not name it is ignored with CMD_ERR (R216). -/
def Chip.sbCommand (u : Chip) (ok : List Nat) (st : Nat) : Chip :=
  if ok.contains u.sbState then (u.put Reg.LAT_STAT.SB_STATE st).put Reg.LAT_STAT.CMD_ERR 0 else u.put Reg.LAT_STAT.CMD_ERR 1

/-- SB_DONE: command, state reached, LAT_VERR. -/
def Chip.sbDone (u : Chip) (cmd : Nat) : Chip :=
  (u.irq latPage 2).raiseAfter 4 0x03 [cmd, u.sbState, u.regRead 0x50007058]

/-- Command LOAD_BEGIN. -/
def Chip.sbLoadBegin (u : Chip) : Chip := u.sbCommand [0, 3, 5, 6] 1

/-- Command LOAD_END. -/
def Chip.sbLoadEnd (u : Chip) : Chip := if u.sbState = 1 then (u.sbCommand [1] 3).sbDone 2 else u.sbCommand [1] 3

/-- Command COPY. -/
def Chip.sbCopy (u : Chip) : Chip :=
  if [0, 3, 5, 6].contains u.sbState then ({ u with lat := { u.lat with copyWaits := true } }).sbCommand [0, 3, 5, 6] 2
  else u.sbCommand [] 2

/-- Command VERIFY. -/
def Chip.sbVerify (u : Chip) : Chip := u.sbCommand [3, 6] 4

/-- A write of LAT_SB_CMD (Table 6.16). -/
def Chip.sbWrite (u : Chip) (cmd : Nat) : Chip :=
  if cmd = 1 then u.sbLoadBegin else if cmd = 2 then u.sbLoadEnd else if cmd = 3 then u.sbCopy else if cmd = 4 then u.sbVerify
  else u.put Reg.LAT_STAT.CMD_ERR 1

/-- COPY_CAPTURE_START (R219): at the start of a sweep pass the copy begins to capture. -/
def execCopyCaptureStart (s : State) : Host.Outcome State Fault Refusal :=
  let u := s.chip
  s.become (if u.sbState = 2 ∧ u.lat.copyWaits = true ∧ u.get Reg.LAT_STAT.ROUTE = 0 then { u with lat := { u.lat with copyWaits := false } } else u)

/-- The words that a COPY writes: words 0 to 32 of each record, the 256 words from 0x28_0000; words 33 to 39 as 0. -/
def copyWords (src dst : Bank) : Bank :=
  let keep := dst.filter (fun e => decide (82176 ≤ e.1))
  src.filter (fun e => decide (e.1 < 82176 ∧ (81920 ≤ e.1 ∨ e.1 % 40 < 33))) ++ keep

/-- COPY_DONE (R219): STANDBY is LOADED; an uncorrectable word goes across as a poisoned word (R226). -/
def execCopyDone (ecc w : Nat) (s : State) : Host.Outcome State Fault Refusal :=
  let u := s.chip
  if u.sbState = 2 ∧ u.lat.copyWaits = false then
    let bad := if ecc = 2 then w :: u.activeBad else u.activeBad
    let u := (u.putStandby (copyWords u.activeBank u.standbyBank) bad).put Reg.LAT_STAT.SB_STATE 3
    s.become ((u.sbDone 3).activeEcc ecc w)
  else s.become u

/-- The code of Table 6.14 that word `i` of a bank gives rise to, lowest code first; 0 for none. -/
def verifyWord (b : Bank) (i : Nat) : Nat :=
  let w := bankWord b i
  let used := fun (v : Nat) (n : Nat) (ok : Nat → Bool) => (setBits v n).all ok
  if i < 81920 then
    let r := i / 40
    let k := i % 40
    if 33 ≤ k then (if w = 0 then 0 else 2)
    else if k < 8 then
      if routeUsed b r && !used w 256 (fun n => routeUsed b (256 * k + n)) then 4
      else if r / 256 = k ∧ w.testBit (r % 256) = true then 5 else 0
    else if k < 16 then
      let codes := (List.range 128).map (fun n => (n, w / 2 ^ (2 * n) % 4))
      if codes.any (fun e => e.2 == 3) then 3
      else if routeUsed b r && !codes.all (fun e => e.2 == 0 || objUsed b 0 (128 * (k - 8) + e.1)) then 4 else 0
    else if k < 32 then (if routeUsed b r && !used w 256 (fun n => objUsed b 1 (256 * (k - 16) + n)) then 4 else 0)
    else if w / 2 ^ 128 ≠ 0 then 2
    else if routeUsed b r && !used w 128 (fun n => objUsed b 2 n) then 4 else 0
  else if i < 82048 then
    let es := (List.range 16).map (fun j => (16 * (i - 81920) + j, w / 2 ^ (16 * j) % 2 ^ 16))
    if es.any (fun e => bits e.2 14 11 != 0) then 2
    else if es.any (fun e => e.2.testBit 15 && (!routeUsed b e.1 || !signalUsed b (e.2 % 2048))) then 6 else 0
  else if i < 82112 then
    let es := (List.range 8).map (fun j => w / 2 ^ (32 * j) % 2 ^ 32)
    if es.any (fun e => bits e 28 11 != 0) then 2
    else if es.any (fun e => e.testBit 31 && (decide (2 ≤ bits e 30 29) || (bits e 30 29 == 0 && !signalUsed b (e % 2048)) ||
      (bits e 30 29 == 1 && !routeUsed b (e % 2048)))) then 7 else 0
  else if 82149 ≤ i then (if w = 0 then 0 else 2)
  else 0

/-- The first error of a scan in ascending order: word and code; a word that is 0 gives none. -/
def scanBank (b : Bank) (bad : List Nat) : Option (Nat × Nat) :=
  let structural := b.findSome? (fun e => if e.1 < 82176 ∧ verifyWord b e.1 ≠ 0 then some (e.1, verifyWord b e.1) else none)
  let poisoned := bad.foldl (fun m w => match m with
    | none => some w
    | some x => some (min x w)) none
  match structural, poisoned with
  | none, none => none
  | some e, none => some e
  | none, some w => some (w, 8)
  | some e, some w => if w < e.1 then some (w, 8) else some e

/-- The check value of a bank: CRC-64 over bytes 0x00_0000 to 0x28_1FFF in address order (R220). -/
def bankCheck (b : Bank) : Nat :=
  crcOut crc64 (foldUpTo 82176 crc64.init (fun r i => (leBytes 32 (bankWord b i)).foldl (crcByte crc64) r))

/-- Whether a route differs between two banks in words 0 to 32, signal-map entry or USED bit (R220). -/
def routeChanged (a b : Bank) (r : Nat) : Bool :=
  (List.range 33).any (fun k => routeWord a r k != routeWord b r k) || (signalEntry a r != signalEntry b r) || (routeUsed a r != routeUsed b r)

/-- The words of ACTIVE that the compare phase reads: words 0 to 32 of the records, the signal map, the route USED map (R220). -/
def comparedWord (w : Nat) : Bool := decide ((w < 81920 ∧ w % 40 < 33) ∨ (81920 ≤ w ∧ w < 82048) ∨ (82112 ≤ w ∧ w < 82120))

/-- The end of a VERIFY (R220, R226): both phases have run. `w` is the word with the error that `ecc` reports, in ACTIVE from 2^17 on. An error found in the scan comes before CV_MISMATCH, which the end of the
scan shows; its word is not stated: a free value (log 15). -/
def Chip.verifyDone (u : Chip) (ecc w : Nat) : Chip :=
  if u.sbState ≠ 4 then u
  else
    let a := u.activeBank
    let b := u.standbyBank
    let here := decide (w < 2 ^ 17)
    let bad := if ecc = 2 ∧ here = true then w :: u.standbyBad else u.standbyBad
    let u := if ecc = 1 ∧ here = true then u.latCorrected (1 - u.get Reg.LAT_STAT.ACTIVE_ID) w else u
    let cv := bankCheck b
    let u := (u.putStandby b bad).put Reg.LAT_CVC.CVC cv
    let u := if u.get Reg.LAT_STAT.ACTIVE_ID = 0 then { u with lat := { u.lat with cv1 := cv } } else { u with lat := { u.lat with cv0 := cv } }
    let changed := maskOf ((List.range 2048).filter (routeChanged a b))
    let u := ({ u with lat := { u.lat with changed := changed } }).put Reg.LAT_CHANGED.COUNT (popCount changed 2048)
    let f := u.free
    let mismatch := cv != u.get Reg.LAT_CV.CV
    let u := match scanBank b bad with
      | some e => (u.put Reg.LAT_VERR.ERR e.2).put Reg.LAT_VERR.WORD e.1
      | none => if mismatch then (f.2.put Reg.LAT_VERR.ERR 1).put Reg.LAT_VERR.WORD f.1
        else (u.put Reg.LAT_VERR.ERR 0).put Reg.LAT_VERR.WORD 0
    let u := (u.put Reg.LAT_STAT.SB_STATE (if u.get Reg.LAT_VERR.ERR = 0 then 5 else 6)).sbDone 4
    u.activeEcc (if u.activeBad.any comparedWord then 2 else if here then 0 else ecc) (w - 2 ^ 17)

/-- VERIFY_DONE (R220): what the word correction reports, and the word. -/
def execVerifyDone (ecc w : Nat) (s : State) : Host.Outcome State Fault Refusal := s.become (s.chip.verifyDone ecc w)

/-- Any access to the STANDBY window by another requester than the configuration loader (R217). -/
def Chip.standbyRefused (u : Chip) (req a : Nat) : Chip :=
  ((((u.put (Reg.BLK_ERR.PLANE latPage) 1).refreshLines latPage).raise 4 0xF2 [a, req, a])).refuse

/-- An access that the state of STANDBY or the access size does not allow: BLK_ERR.ACCESS (R217, 02 R35). -/
def Chip.standbyAccess (u : Chip) : Chip := ((u.put (Reg.BLK_ERR.ACCESS latPage) 1).refreshLines latPage).refuse

/-- STANDBY is open for the loader (R217). -/
def Chip.standbyOpen (u : Chip) : Bool := [1, 3, 5, 6].contains u.sbState

/-- A write to the STANDBY window: 4 or 32 aligned bytes from the loader (R217). -/
def Chip.standbyWrite (u : Chip) (req a : Nat) (b : List Byte) : Chip :=
  if req ≠ 7 then u.standbyRefused req a
  else if !u.standbyOpen || !((b.length == 4 && a % 4 == 0) || (b.length == 32 && a % 32 == 0)) then u.standbyAccess
  else
    let off := a - 0x50400000
    let i := off / 32
    let old := bankWord u.standbyBank i
    let v := setBitsAt old (8 * (off % 32)) (8 * b.length) (leNat b)
    let u := u.putStandby (bankPut u.standbyBank i v) (u.standbyBad.filter (fun x => x != i))
    (if u.sbState = 5 ∨ u.sbState = 6 then u.put Reg.LAT_STAT.SB_STATE 3 else u).answer .ok

/-- A read of the STANDBY window, under the rule of the writes: 4 or 32 aligned bytes for the loader (R217). -/
def Chip.standbyRead (u : Chip) (req a size : Nat) : Chip :=
  if req ≠ 7 then u.standbyRefused req a
  else if !u.standbyOpen || !((size == 4 || size == 32) && a % size == 0) then u.standbyAccess
  else u.answer (.data (bankField u.standbyBank (a - 0x50400000) (8 * size)))

/-! ### Swap (R221 to R223) -/

/-- A refused swap: RESULT, ARM cleared, SWAP_REFUSED. -/
def Chip.swapRefuse (u : Chip) (result : Nat) : Chip :=
  (((u.put Reg.LAT_SWAP.RESULT result).put Reg.LAT_SWAP.ARM 0).irq latPage 4).raiseAfter 4 0x05 [result, u.get Reg.LAT_SWAP_AT.AT]

/-- A write of LAT_SWAP.ARM (R221). -/
def Chip.swapArm (u : Chip) (arm : Bool) : Chip :=
  if !arm then u.put Reg.LAT_SWAP.ARM 0
  else
    let d := (u.get Reg.LAT_SWAP_AT.AT + 2 ^ 32 - u.get Reg.WR_SNAPCNT.COUNT) % 2 ^ 32
    if [1, 2, 4].contains u.sbState then u.swapRefuse 3
    else if u.sbState ≠ 5 then u.swapRefuse 2
    else if d = 0 ∨ 2 ^ 31 ≤ d then u.swapRefuse 6
    else u.put Reg.LAT_SWAP.ARM 1

/-- Field state of objects that a bank does not use goes to its restrictive value (R223). -/
def restrictUnused (b : Bank) (f : Field) : Field :=
  let f := { f with pdet := maskOf ((setBits f.pdet 2048).filter (fun i => objUsed b 0 (i / 2))) }
  let f := { f with sclr := maskOf ((setBits f.sclr 4096).filter (objUsed b 1)) }
  { f with eready := maskOf ((setBits f.eready 128).filter (objUsed b 2)) }

/-- The swap in the snapshot tick, in the order of R223. -/
def Chip.bankSwap (u : Chip) : Chip :=
  let u := (u.put Reg.LAT_STAT.ACTIVE_ID (1 - u.get Reg.LAT_STAT.ACTIVE_ID)).put Reg.LAT_STAT.SB_STATE 3
  let l := u.lat
  let hit := (setBits l.changed 2048).filter (fun r => l.lock.testBit r || l.perm.get r)
  let keep := fun v => maskOf ((setBits v 2048).filter (fun r => !l.changed.testBit r))
  let f := restrictUnused u.activeBank u.field
  let u := { u with lat := { l with lock := keep l.lock, perm := Rails.ofWord 2048 (keep l.perm.word), pdet := f.pdet, sclr := f.sclr, eready := f.eready } }
  let u := hit.foldl (fun u r => u.latWithdrawn r 9 r 2) u
  let u := (u.latSignals).put Reg.LAT_STAT.ROUTE 0
  let u := ({ u with lat := { u.lat with passStart := u.now } }).put Reg.LAT_STAT.PASS_REQ 0
  let u := (u.put Reg.LAT_SWAP.RESULT 1).put Reg.LAT_SWAP.ARM 0
  (u.irq latPage 3).raiseAfter 4 0x04 [u.get Reg.WR_SNAPCNT.COUNT, hit.length]

/-- The swap that is due at a snapshot, and the permission return captured in its tick (R214, R222, R224). -/
def Chip.latSnapshot (u : Chip) : Chip :=
  if u.on Reg.LAT_SWAP.ARM && (u.get Reg.LAT_SWAP_AT.AT == u.get Reg.WR_SNAPCNT.COUNT) then
    if u.on Reg.WR_STAT.SAFE then (u.swapRefuse 5).latCapture false 5
    else if u.sbState ≠ 5 then (u.swapRefuse 2).latCapture false 2
    else if u.lat.pend.isSome then (u.swapRefuse 4).latCapture false 4
    else (u.bankSwap).latCapture true 1
  else u.latCapture false 0

/-- R188 and Table 6.16: an area past word 127, overlapping areas, an area with the steering word or with the image bit of a
used output, too many update words. -/
def Chip.rejectsR188 (u : Chip) : Bool :=
  let ub := u.get Reg.LAT_CFG.UPD_BASE
  let uc := u.get Reg.LAT_CFG.UPD_CNT
  let rb := u.get Reg.LAT_CFG.REQ_BASE
  let rc := u.get Reg.LAT_CFG.REQ_CNT
  let inArea := fun w => decide ((ub ≤ w ∧ w < ub + uc) ∨ (rb ≤ w ∧ w < rb + rc))
  decide (96 < uc ∨ 128 < ub + uc ∨ 128 < rb + rc) || decide (0 < uc ∧ 0 < rc ∧ ub < rb + rc ∧ rb < ub + uc) ||
  (u.on Reg.WR_CFG.STEER_EN && inArea (u.get Reg.WR_CFG.STEER_WORD)) ||
  (List.range 32).any (fun n => u.on (Reg.WR_OMAP.USED n) && inArea (u.get (Reg.WR_OMAP.BIT n) / 32))

end Sys2Proof.Machine
end

