-- ==== Sys2Proof/Machine/Weir.lean ====
section
/-!
DEFINITION. Weir (chapter 05): vote check, output enables, watchdog, straps, rate checks, power-fail monitor, Weir POR.
-/
namespace Sys2Proof.Machine

/-- Changes what Weir holds. -/
def Chip.modWeir (u : Chip) (g : Weir → Weir) : Chip := { u with weir := g u.weir }

/-- Whether channel `c` is in Weir's voting set. -/
def Chip.inSet (u : Chip) (c : Nat) : Bool := (u.get Reg.WR_STAT.SET).testBit c

/-- The channels of Weir's voting set. -/
def Chip.setChannels (u : Chip) : List Nat := (List.range 3).filter u.inSet

/-! ### Enables and steering (R149, R150, R153, R154) -/

/-- The enable of output `n` at a passed check of V (R149, R150). That of a signal output rises once V has committed
(`Chip.signalsUp`). -/
def Chip.checkEnable (u : Chip) (v n : Nat) : Chip :=
  if !u.on (Reg.WR_OMAP.USED n) then u
  else if v.testBit (u.get (Reg.WR_OMAP.BIT n)) then
    if !u.on (Reg.WR_OMAP.SIGNAL n) && !u.on Reg.WR_STAT.SAFE then u.enable n true else u
  else u.weirDemand n

/-- RATE clamped to ±100,000 ppb (R154). -/
def clampRate (r : Int) : Int := if r < -100000 then -100000 else if 100000 < r then 100000 else r

/-- The steering word of a checked V (R153, R154); a word that is not VALID leaves the rate as it is. -/
def Chip.steer (u : Chip) (v : Nat) : Chip :=
  if !u.on Reg.WR_CFG.STEER_EN then u
  else
    let w := bits v (32 * u.get Reg.WR_CFG.STEER_WORD + 31) (32 * u.get Reg.WR_CFG.STEER_WORD)
    if !w.testBit 31 then u
    else
      let r := signed 24 w
      let a := clampRate r
      let u := (u.put Reg.WR_RATE.RATE (pattern 24 a)).put Reg.WR_RATE.CLAMP (lvl (a != r))
      if a ≠ r then (u.irq weirPage 7).raise 1 0x02 [pattern 24 r, pattern 24 a] else u

/-- One WDN tick (R152, R154). -/
def Chip.tick (u : Chip) : Chip := u.advance 1

/-! ### Vote check (R144 to R148) -/

/-- A passed check (R146): counted; enables, steering and the lattice follow. -/
def Chip.checkPass (u : Chip) (v d : Nat) : Chip :=
  let u := (((u.put Reg.WR_VC.DIFF d).put Reg.WR_VC.OPEN 0).checkResult true).wrapInc Reg.WR_VCCNT.PASSED
  let u := u.modWeir (fun w => { w with lastV := v, openCheck := none })
  let u := { u with lat := { u.lat with passed := u.lat.passed ++ [v] } }
  (foldUpTo 32 u (fun u n => u.checkEnable v n)).steer v

/-- The majority of the paired images (R146): of two, only where they are equal. -/
def imageMajority (l : List Nat) : Option Nat :=
  match l with
  | [a, b] => if a = b then some a else none
  | [a, b, c] => some (maj3 a b c)
  | _ => none

/-- The check of one voted image against the paired images. -/
def Chip.checkOne (u : Chip) (v : VotedV) (l : List (Nat × Nat)) : Chip :=
  let d := maskOf ((l.filter (fun e => e.2 != v.img)).map (·.1))
  if imageMajority (l.map (·.2)) = some v.img then
    if d = 0 then u.checkPass v.img 0
    else
      let u := ((u.put Reg.WR_VC.DIFF d).put Reg.WR_VC.OPEN 1).checkResult false
      let u := u.modWeir (fun w => { w with openCheck := some ⟨v.img, d, v.arr⟩ })
      (u.irq weirPage 2).raiseAfter 2 0x01 [d, v.arr]
  else ((u.put Reg.WR_VC.DIFF d).checkResult false).weirSafe 1

/-- Checks the voted images whose channel images are present, oldest first; none while a check is open (R144, R147) or while WR_STAT.SAFE
reads 1 (DESIGN CHOICE: log 110). `fuel`
bounds their number. -/
def Chip.runChecks : Nat → Chip → Chip
  | 0, u => u
  | fuel + 1, u =>
    if u.weir.openCheck.isSome || u.on Reg.WR_STAT.SAFE then u
    else match u.weir.voted with
      | [] => u
      | v :: rest =>
        let l := u.setChannels.filterMap (fun c => ((u.weir.images.get c).head?).map (fun i => (c, i)))
        if l.length ≠ u.setChannels.length ∨ l.length = 0 then u
        else
          let im := u.weir.images
          let im := l.foldl (fun im e => im.set e.1 ((im.get e.1).drop 1)) im
          let u := u.modWeir (fun w => { w with voted := rest, images := im })
          Chip.runChecks fuel (u.checkOne v l)

/-- Every check that can run now. -/
def Chip.checks (u : Chip) : Chip := Chip.runChecks (u.weir.voted.length + 1) u

/-- The CRC-64 of an image (R144): ECMA-182, initial value 0, no reflection, over its 512 bytes, that of the bits 7:0 first (DESIGN CHOICE:
log 109). -/
def imageCrc (img : Nat) : Nat := crcOf crc64 (leBytes 512 (img % 2 ^ 4096))

/-- An image with a good CRC has arrived: it waits to be checked unless Weir is safe, and its time is kept (R144, R160). -/
def Chip.imageTaken (u : Chip) (c img : Nat) : Chip :=
  let w := u.weir
  let w := { w with
    badImage := w.badImage.set c false
    images := if u.on Reg.WR_STAT.SAFE then w.images else w.images.set c (w.images.get c ++ [img % 2 ^ 4096])
    arrivals := w.arrivals.set c (w.arrivals.get c ++ [w.time]) }
  ({ u with weir := w }).checks

/-- An image whose CRC fails (R144): it counts as not delivered. -/
def Chip.imageBad (u : Chip) (c : Nat) : Chip := u.modWeir (fun w => { w with badImage := w.badImage.set c true })

/-- CHANNEL_IMAGE (R144, R160): channel, image, its CRC. A channel that is not ACTIVE does not drive its port (03 R97). -/
def execChannelImage (c img : Nat) (crc : Nat) (s : State) : Host.Outcome State Fault Refusal :=
  let u := s.chip
  s.become (if 2 < c ∨ u.chState c ≠ 3 ∨ u.inSet c = false then u
    else if crc ≠ imageCrc img then u.imageBad c
    else u.imageTaken c img)

/-- Acknowledgments that waited for the voted image of a held result leave (R145). -/
def Chip.flushAcks (u : Chip) : Chip :=
  if u.link.voted = [] then
    { u with link := { u.link with acks := u.link.acks ++ u.weir.ackWait }, weir := { u.weir with ackWait := [] } }
  else u

/-- VOTED_IMAGE (R144, R146): the oldest voted image arrives at Weir; the lattice sees it at its port (06 R189). While WR_STAT.SAFE
reads 1, in the boot hold as well, there is no check (DESIGN CHOICE: log 110). -/
def execVotedImage (s : State) : Host.Outcome State Fault Refusal :=
  let u := s.chip
  match u.link.voted with
  | [] => s.become u
  | v :: rest =>
    let u := ({ u with link := { u.link with voted := rest } }).flushAcks
    if u.on Reg.WR_STAT.SAFE then s.become u
    else
      let u := { u with
        weir := { u.weir with voted := u.weir.voted ++ [VotedV.mk v u.weir.time] }
        lat := { u.lat with port := u.lat.port ++ [v] } }
      s.become u.checks

/-- CHECK_OPEN_TIMEOUT (R146): 11.3 µs after V arrived the check is still open. -/
def execCheckOpenTimeout (s : State) : Host.Outcome State Fault Refusal :=
  let u := s.chip
  match u.weir.openCheck with
  | some k => s.weirDoes ((u.untilWeir (k.arr + 1130)).weirSafe 1)
  | none => s.become u

/-- Channel `c` leaves or enters Weir's voting set: its images and counts start anew (R160). -/
def Chip.setChange (u : Chip) (set : Nat) : Chip :=
  let old := u.get Reg.WR_STAT.SET
  let u := u.put Reg.WR_STAT.SET set
  foldUpTo 3 u (fun u c =>
    if old.testBit c = set.testBit c then u
    else u.modWeir (fun w => { w with
      images := w.images.set c []
      releases := w.releases.set c 0
      delivered := w.delivered.set c 0
      arrivals := w.arrivals.set c []
      takeOut := if set.testBit c then w.takeOut.put c false else w.takeOut
      badImage := w.badImage.set c false
      entered := w.entered.set c w.time }))

/-- VOTING_SET_FLIT (R145, R146, R147): the oldest voting set arrives; it closes an open check if it removes exactly the
channels that differ, in time, and it is acknowledged once the voted image of a held result has arrived. -/
def execVotingSetFlit (s : State) : Host.Outcome State Fault Refusal :=
  let u := s.chip
  match u.link.sets with
  | [] => s.become u
  | set :: rest =>
    let old := u.get Reg.WR_STAT.SET
    let u := ({ u with link := { u.link with sets := rest } }).setChange set
    let u := match u.weir.openCheck with
      | some k => if old - (old &&& set) = k.d ∧ u.weir.time ≤ k.arr + 1130 then u.checkPass k.img k.d else u
      | none => u
    let u := if u.on Reg.WR_STAT.SAFE then u else u.checks
    s.become (u.modWeir (fun w => { w with ackWait := w.ackWait ++ [set] })).flushAcks

/-! ### Dual rail, rate, time bus (R136, R138, R157, R158) -/

/-- DUAL_RAIL_FAULT (R136): a stage whose completion is late, or whose signals show the illegal code. The handshake lies within one WDN
tick, below what the model resolves (log 111). -/
def execDualRailFault (s : State) : Host.Outcome State Fault Refusal := s.weirDoes (s.chip.weirSafe 2)

/-- The test of one checker group: the next one follows in rotation (R138). -/
def Chip.checkerTest (u : Chip) (responds : Bool) : Chip :=
  let u := u.modWeir (fun w => { w with checker := (w.checker + 1) % 32 })
  if responds then u else u.weirSafe 2

/-- CHECKER_ROTATE_TIMER (R138): every 10 ms while no snapshots are issued. -/
def execCheckerRotateTimer (responds : Bool) (s : State) : Host.Outcome State Fault Refusal :=
  let u := s.chip.until s.chip.weir.idleDue
  s.weirDoes ((u.modWeir (fun w => { w with idleDue := u.now + ms 10 })).checkerTest responds)

/-- RATE_GATE_END (R158): PER and WRC counts of a gate of 1,000,000 WDN cycles. The PER check is suspended while the root PLL
has not reported lock. -/
def execRateGateEnd (per wrc : Nat) (s : State) : Host.Outcome State Fault Refusal :=
  let u := s.chip.until s.chip.weir.gateEnd
  let u := u.modWeir (fun w => { w with gateEnd := u.now + 1000000 })
  let locked := u.on Reg.CLK_STAT.ROOT_LOCK
  let dev := (per : Int) - 1000000
  let u := if locked then u.put Reg.WR_RCHK.PER_DEV (pattern 16 dev) else u
  let u := u.put Reg.WR_RCHK.WRC_DEV (pattern 16 ((wrc : Int) - 100000))
  let u := if locked ∧ 200 < dev.natAbs then (((u.irq weirPage 5).raise 1 0x01 [u.regRead 0x50002054])).weirSafe 3 else u
  s.weirDoes (if wrc < 90000 ∨ 110000 < wrc then u.weirSafe 4 else u)

/-- WDN_MISSING_EDGE (R158): every enable goes to the spacer code, cause WRC. -/
def execWdnMissingEdge (s : State) : Host.Outcome State Fault Refusal := s.weirDoes ((s.chip.weirSafe 4).modWeir (fun w => { w with en := {} }))

/-- TIME_PARITY (R157). -/
def execTimeParity (s : State) : Host.Outcome State Fault Refusal := s.weirDoes (s.chip.weirSafe 13)

/-! ### Deadline watchdog (R159 to R162) -/

/-- The earliest deadline that runs. -/
def nextDeadline (l : List Deadline) : Option Nat :=
  l.foldl (fun m d => match m with
    | none => some d.due
    | some x => some (min x d.due)) none

/-- R(c) at an instant (R160). -/
def Chip.releasesAt (u : Chip) (c d : Nat) : Nat :=
  u.weir.releases.get c + (u.weir.deadlines.filter (fun x => decide (x.due ≤ d ∧ u.weir.entered.get c ≤ x.snap))).length

/-- D(c) at an instant (R160): an image that arrives in its tick counts. -/
def Chip.imagesBy (u : Chip) (c d : Nat) : Nat :=
  u.weir.delivered.get c + ((u.weir.arrivals.get c).filter (fun t => decide (t ≤ d))).length

/-- Weir takes channel `c` out (R160): take-out line, voting set, WR_WD_STAT; the channel is lost with cause DEADLINE. -/
def Chip.takeOut (u : Chip) (c r d : Nat) : Chip :=
  let u := u.modWeir (fun w => { w with takeOut := w.takeOut.put c true })
  let crc := lvl (u.weir.badImage.get c)
  let u := ((u.satInc Reg.WR_WD_STAT.MISSES).put Reg.WR_WD_STAT.LAST_CH c).put Reg.WR_WD_STAT.CRC crc
  let u := (u.irq weirPage 1).raiseAfter 3 0x01 [c, r, d, crc]
  (u.setChange (u.get Reg.WR_STAT.SET - 2 ^ c)).chLost c 6

/-- DEADLINE_CHECK (R160, R161): at the earliest deadline instant every late channel of the voting set is taken out; in 2oo2,
or where fewer than two channels are left, Weir enters the safe state in the same tick. -/
def execDeadlineCheck (s : State) : Host.Outcome State Fault Refusal :=
  let u := s.chip
  match nextDeadline u.weir.deadlines with
  | none => s.weirDoes u
  | some d =>
    let u := u.untilWeir d
    let late := (u.setChannels.filter (fun c => decide (u.imagesBy c d < u.releasesAt c d))).map (fun c => (c, u.releasesAt c d, u.imagesBy c d))
    let size := u.setChannels.length
    let w := u.weir
    let w := { w with
      releases := ⟨u.releasesAt 0 d, u.releasesAt 1 d, u.releasesAt 2 d⟩
      delivered := ⟨u.imagesBy 0 d, u.imagesBy 1 d, u.imagesBy 2 d⟩
      arrivals :=
        let later := fun c => (w.arrivals.get c).filter (fun t => decide (d < t))
        ⟨later 0, later 1, later 2⟩
      deadlines := w.deadlines.filter (fun x => decide (d < x.due)) }
    let u := late.foldl (fun u e => u.takeOut e.1 e.2.1 e.2.2) { u with weir := w }
    let u := if late ≠ [] ∧ (size ≤ 2 ∨ size < late.length + 2) then u.weirSafe 10 else u
    s.weirDoes (if u.on Reg.WR_STAT.SAFE then u else u.checks)

/-- DEADLINE_WARN (R162): at d − WARN Weir raises channel source 1 in each channel that is still behind. -/
def execDeadlineWarn (s : State) : Host.Outcome State Fault Refusal :=
  let u := s.chip
  let warn := u.get Reg.WR_WD_CFG.WARN
  match nextDeadline (u.weir.deadlines.filter (fun x => !x.warned)) with
  | none => s.weirDoes u
  | some d =>
    if warn = 0 then s.weirDoes u
    else
      let u := u.untilWeir (d - us warn)
      let behind := u.setChannels.filter (fun c => decide (u.imagesBy c (d - us warn) < u.releasesAt c d))
      let u := u.modWeir (fun w => { w with deadlines := w.deadlines.map (fun x => if x.due = d then { x with warned := true } else x) })
      s.weirDoes (behind.foldl (fun u c => u.chanIrq c 1) u)

/-- The deadlines of the tasks released at snapshot `k` (R159, R160). -/
def Chip.startDeadlines (u : Chip) (k : Nat) : Chip :=
  let base := max (u.get Reg.WR_CFG.BASE) 1
  let rel := (List.range 8).filter (fun t => decide (u.get (Reg.WR_TDL.PERIOD t) ≠ 0 ∧ k % (max (u.get (Reg.WR_TDL.PERIOD t) / base) 1) = 0))
  let ds := rel.map (fun t => Deadline.mk t u.weir.time (u.weir.time + us (u.get (Reg.WR_TDL.DL t))) false)
  u.modWeir (fun w => { w with deadlines := w.deadlines ++ ds })

/-- R159: values that the loader rejects. -/
def Chip.rejectsR159 (u : Chip) : Bool :=
  let base := u.get Reg.WR_CFG.BASE
  decide (base = 0 ∨ 4000 < base) ||
  (List.range 8).any (fun t =>
    let p := u.get (Reg.WR_TDL.PERIOD t)
    p != 0 && decide (4000 < p ∨ p % base ≠ 0 ∨ p * 250 < u.get (Reg.WR_TDL.DL t) ∨ u.get (Reg.WR_TDL.DL t) = 0))

/-! ### Seal straps (R163 to R167) -/

/-- Straps that bear a fault: all but MAINT_PERMIT (R165, R166). -/
def faultStraps : Nat := 0xEF

/-- Reads the straps (R164): different reads mark a strap OPEN, whose value is kept at 0. -/
def Chip.strapRead (u : Chip) (pu pd : Nat) : Chip :=
  let openS := (pu ^^^ pd) % 256
  (u.put Reg.WR_SEAL.OPEN openS).put Reg.WR_SEAL.CURRENT (pu &&& pd)

/-- The judgment of a read in operation (R166, R167): a change or an OPEN read of a fault-bearing strap is a SEAL fault; a
read that differs from the one before raises STRAP, and so does every OPEN read of MAINT_PERMIT. -/
def Chip.strapJudge (u : Chip) (pu pd : Nat) : Chip :=
  let oldC := u.get Reg.WR_SEAL.CURRENT
  let oldO := u.get Reg.WR_SEAL.OPEN
  let u := u.strapRead pu pd
  let new := u.get Reg.WR_SEAL.CURRENT
  let openS := u.get Reg.WR_SEAL.OPEN
  let diff := (oldC ^^^ new) ||| (oldO ^^^ openS)
  let u := if diff ≠ 0 ∨ openS.testBit 4 then (u.irq weirPage 3).raise 0 0x02 [diff ||| openS, oldC, new] else u
  if ((u.get Reg.WR_SEAL.LATCHED ^^^ new) ||| openS) &&& faultStraps ≠ 0 then u.weirSafe 5 else u

/-- MAINT_PERMIT as read at a snapshot (R167). -/
def Chip.maintRead (u : Chip) : Chip := u.put Reg.WR_STAT.MAINT (bits (u.get Reg.WR_SEAL.CURRENT) 4 4)

/-- STRAP_READ_TIMER (R166): every 10 ms while no snapshots are issued. MAINT keeps the value of the last snapshot (R167). -/
def execStrapReadTimer (pu pd : Nat) (s : State) : Host.Outcome State Fault Refusal :=
  let u := s.chip.until s.chip.weir.strapDue
  s.weirDoes ((u.modWeir (fun w => { w with strapDue := u.now + ms 10 })).strapJudge pu pd)

/-! ### Resets of Weir (R170, R174, R176, 22 R597 to R601) -/

/-- Whether the field with a key belongs to a reset domain. -/
def keyIn (doms : List Dom) (k : Nat) : Bool :=
  match (regPieces (k / 32)).find? (fun p => p.fld.key == k) with
  | some p => doms.contains p.fld.dom
  | none => false

/-- Every field of the given domains at its reset value. -/
def Chip.resetDomains (u : Chip) (doms : List Dom) : Chip := { u with regs := u.regs.filter (fun e => !keyIn doms e.1) }

/-- The strap values of the last read are latched at a reset; an OPEN strap other than MAINT_PERMIT holds the safe state with cause SEAL
(R165). Only a Weir POR comes with reads of its own (DEDUCED: log 112). -/
def Chip.strapLatch (u : Chip) : Chip :=
  let u := u.put Reg.WR_SEAL.LATCHED (u.get Reg.WR_SEAL.CURRENT)
  if u.get Reg.WR_SEAL.OPEN &&& faultStraps ≠ 0 then u.weirSafe 5 else u

/-- The boot hold (22 R601): SAFE, LOCKOUT, no cause, every enable clear, every permission withdrawn; Weir's control state is
reset, and STANDBY is LOADED (06 R226). -/
def Chip.weirHold (u : Chip) : Chip :=
  let w := u.weir
  let kept : Weir := { off := w.off, time := w.time, acc := w.acc, checker := w.checker, idleDue := w.idleDue, strapDue := w.strapDue, violation := w.violation, gateEnd := w.gateEnd, stoffLo := none, supplyDue := w.supplyDue, causeAt := w.time }
  let u := ({ u with weir := kept }).resetDomains [.weirCtl]
  let u := (((u.put Reg.WR_STAT.READY 0).put Reg.WR_EN.EN 0).put Reg.WR_STAT.SAFE 1).put Reg.WR_STAT.LOCKOUT 1
  let u := ((u.put Reg.WR_STAT.CAUSE 0).put Reg.WR_STAT.SET 0).put Reg.WR_STAT.PFAIL 0
  (((u.put Reg.WR_SNAPCNT.COUNT 0xFFFFFFFF).latHold).put Reg.WR_VC.PASS 0).strapLatch

/-- Weir sends SUPPLY to the reset sequencer (22 R599): it enters the boot hold, which drops the latched cause, the trigger and the
lockout (R174; 22 R600, R601). A Weir that has just left its POR is in the hold already. -/
def Chip.sendSupply (u : Chip) : Chip :=
  let u := { u with link := { u.link with resetDown := u.link.resetDown ++ [0x0101] } }
  if u.weir.hold then u else u.weirHold

/-! ### Power-fail monitor (R168 to R172) -/

/-- PFAIL_TRIGGER (R168, R169, R172; 19 Table 19.4): a condition has held for 1.0 µs. The first trigger is latched, the
power-fail flit goes to the event recorder; a later one restarts the release window. -/
def execPfailTrigger (low : Bool) (uvov : Nat) (s : State) : Host.Outcome State Fault Refusal :=
  let u := s.chip
  let u := (u.put Reg.WR_SUP.PFAIL_LOW (lvl low)).put Reg.WR_SUP.UVOV uvov
  let u := u.modWeir (fun w => { w with violation := u.now })
  if (low = false ∧ uvov % 256 = 0) ∨ u.weir.pfArmed = false ∨ u.weir.pfailAt.isSome then s.weirDoes u
  else
    let origin := if low then 1 else 2
    let u := (u.put Reg.WR_STAT.PFAIL 1).modWeir (fun w => { w with pfailAt := some u.now, pfailOrigin := origin })
    let u := (u.irq weirPage 4).raise 0 0x03 [origin, u.regRead 0x5000004C]
    let u := u.pwrAbandon
    let u := { u with link := { u.link with resetDown := u.link.resetDown ++ [0] } }
    s.weirDoes (u.weirSafe (if low then 6 else 7))

/-- TRIGGER_CONDITION_CLEAR (R172): PFAIL_N is high and every supply within limits; the release window can start. -/
def execTriggerConditionClear (s : State) : Host.Outcome State Fault Refusal :=
  let u := s.chip
  let u := (u.put Reg.WR_SUP.PFAIL_LOW 0).put Reg.WR_SUP.UVOV 0
  s.weirDoes (u.modWeir (fun w => { w with violation := u.now }))

/-- PFAIL_RELEASE (R172): 50 ms after the later of trigger + 15 ms and the last violation, Weir issues a SUPPLY reset. -/
def execPfailRelease (s : State) : Host.Outcome State Fault Refusal :=
  let u := s.chip
  match u.weir.pfailAt with
  | some t =>
    if u.on Reg.WR_SUP.PFAIL_LOW ∨ u.on Reg.WR_SUP.UVOV then s.weirDoes u
    else
      let u := u.until (max (t + ms 15) u.weir.violation + ms 50)
      s.weirDoes u.sendSupply
  | none => s.weirDoes u

/-- WEIR_POR (R152, R155, R164, R165, R170; 22 R599): VDD_WEIR was below 0.95 V; everything on the Weir die is reset. -/
def execWeirPor (pu pd : Nat) (s : State) : Host.Outcome State Fault Refusal :=
  let u := s.chip
  let w : Weir := { supplyDue := !u.boot.por, idleDue := u.now + ms 10, strapDue := u.now + ms 10, gateEnd := u.now + 1000000, violation := u.now }
  let u := ({ u with weir := w, lat := {} }).resetDomains [.weir, .weirCtl]
  s.become (u.strapRead pu pd).strapLatch

/-- WEIR_SELFTEST_DONE (R176; 22 R599): READY, or the safe state with cause SELFTEST. A Weir that left its POR while the
logic die was not reset sends SUPPLY, unless a power-fail trigger is latched. -/
def execWeirSelftestDone (ok : Bool) (s : State) : Host.Outcome State Fault Refusal :=
  let u := s.chip
  if !ok then s.weirDoes (u.weirSafe 11)
  else
    let u := u.put Reg.WR_STAT.READY 1
    if u.weir.supplyDue ∧ u.weir.pfailAt = none then
      let u := u.modWeir (fun w => { w with supplyDue := false })
      s.weirDoes u.sendSupply
    else s.weirDoes u

/-! ### Link silence and time registers (R143, R155, R178) -/

/-- The inter-die link fails (R143): reason 1 resend limit, 2 silence. Weir enters the safe state with cause LINK; the logic
die takes the failure as a request for the safe state, before it where it is the logic die that finds it. -/
def Chip.linkFail (u : Chip) (reason : Nat) (atWeir : Bool) : Chip :=
  let u := (u.put Reg.WR_LINK.FAIL reason).put Reg.WR_STAT.LINK_UP 0
  let u := { u with link := { u.link with sets := [], acks := [], queries := [], verdicts := [] } }
  (if atWeir ∨ u.get Reg.CF_MODE.MODE = 0 then u else u.confSafe 0x1008).weirSafe 8

/-- LINK_SILENCE (R143): no valid flit for 2.0 µs. A link that has not been up has nothing to fail. -/
def execLinkSilence (atWeir : Bool) (s : State) : Host.Outcome State Fault Refusal :=
  s.become (if s.chip.on Reg.WR_STAT.LINK_UP && !s.chip.weir.off then s.chip.linkFail 2 atWeir else s.chip)

/-- A write of WR_STOFF_HI (R155): from the loader alone, once, after WR_STOFF_LO. -/
def Chip.stoffHi (u : Chip) (req v : Nat) : Chip :=
  if req ≠ 7 then u.planeRefused req 0x50002060
  else match u.weir.stoffLo with
    | some lo =>
      if u.on Reg.WR_STAT.STOFF_SET then u.answer .ok
      else (((u.put Reg.WR_STOFF.STOFF (lo + v % 2 ^ 32 * 2 ^ 32)).put Reg.WR_STAT.STOFF_SET 1).modWeir (fun w => { w with stoffLo := none })).answer .ok
    | none => u.answer .ok

/-- A write of WR_STOFF_LO (R155). -/
def Chip.stoffLo (u : Chip) (req v : Nat) : Chip :=
  if req ≠ 7 then u.planeRefused req 0x5000205C
  else if u.on Reg.WR_STAT.STOFF_SET then u.answer .ok
  else (u.modWeir (fun w => { w with stoffLo := some (v % 2 ^ 32) })).answer .ok

/-- A read of WR_TIME_LO (R178): the upper half is latched for the same requester. -/
def Chip.timeLo (u : Chip) (req : Nat) : Chip :=
  let t := u.weirTime
  (u.modWeir (fun w => { w with hiLatch := assocPut w.hiLatch req (t / 2 ^ 32) })).answer (.data (t % 2 ^ 32))

/-- Aligned time (R155): Weir time plus the station offset, as 64 bits. -/
def Chip.alignedTime (u : Chip) : Nat := (u.weir.time + u.get Reg.WR_STOFF.STOFF) % 2 ^ 64

end Sys2Proof.Machine
end

