-- ==== Sys2Proof/Machine/Ports.lean ====
section
/-!
DEFINITION. Field and backbone ports (chapter 14): delivery by class, encapsulation, PLCA, 802.1CB, gPTP and time beacons,
bus-off, the service link; and the loader's checks of the port registers.
-/
namespace Sys2Proof.Machine

/-- What port `p` holds beside its registers. -/
def Chip.pt (u : Chip) (p : Nat) : PortRt := u.ports.getD p {}

/-- Changes what port `p` holds. -/
def Chip.modPt (u : Chip) (p : Nat) (g : PortRt → PortRt) : Chip := { u with ports := modAt u.ports p g }

/-- The MAC address of a port: byte 0 highest (log 19). -/
def Chip.portMac (u : Chip) (p : Nat) : Nat :=
  u.get (Reg.PORT_MAC_HI.MAC (portPage p)) * 2 ^ 32 + u.get (Reg.PORT_MAC_LO.MAC (portPage p))

/-! ### Reception (R409, R416, R417, R426) -/

/-- CLASS_DROP (R409): counted; the event at most once per second per port. Traffic kinds are the rows of Table 14.2 from 0
(log 20). -/
def Chip.classDrop (u : Chip) (p kind : Nat) : Chip :=
  let u := u.satInc (Reg.PORT_STAT.CLASS_DROP (portPage p))
  let r := u.pt p
  let due := match r.dropAt with
    | none => true
    | some t => decide (t + sec 1 ≤ u.now)
  if due then (u.modPt p (fun r => { r with drops := 0, dropAt := some u.now })).raise (portSource p) 0x01 [p, kind, r.drops + 1]
  else u.modPt p (fun r => { r with drops := r.drops + 1 })

/-- Delivery to a receiver with the port's tag. What the receiver does with it is its own command. -/
def Chip.deliver (u : Chip) (p : Nat) (dest : Receiver) (b : List Byte) : Chip :=
  let d : Delivered := ⟨dest, u.portClass p, b⟩
  u.modPt p (fun r => { r with rx := some d })

/-- Delivers bridged or management traffic (kind 3) where the class takes it (Table 14.2). -/
def Chip.deliverOther (u : Chip) (p : Nat) (b : List Byte) : Chip :=
  let c := u.portClass p
  if c = 0 then u.classDrop p 3 else if c = 1 then u.deliver p .bridge b else u.deliver p .management b

/-- PORT_CNT.RXERR and PORT_CNT.FILT_DROP. -/
def Chip.rxErr (u : Chip) (p : Nat) : Chip := u.satInc (Reg.PORT_CNT.RXERR (portPage p))
def Chip.filtDrop (u : Chip) (p : Nat) : Chip := u.satInc (Reg.PORT_CNT.FILT_DROP (portPage p))

/-- A ZST frame without the zero padding of its encapsulation (R416, R426): 40 + LEN bytes, where nothing but zeros follows (log 124). -/
def zstTrim (b : List Byte) : List Byte :=
  let n := 40 + frLen b
  if (b.drop n).all (fun x => x == 0) then b.take n else b

/-- An Ethernet frame taken apart: destination, source, VID of the tag, R-TAG sequence number, EtherType, payload. -/
structure EthFrame where
  dst : Nat
  src : Nat
  vid : Option Nat
  rtag : Option Nat
  type : Nat
  payload : List Byte
  deriving DecidableEq, Repr

/-- The fields of an Ethernet frame (IEEE 802.3, 802.1Q, 802.1CB). -/
def ethParse (f : List Byte) : EthFrame :=
  let tagged := beAt f 12 2 == 0x8100
  let o := if tagged then 16 else 12
  let red := beAt f o 2 == 0xF1C1
  let t := if red then o + 6 else o
  ⟨beAt f 0 6, beAt f 6 6, if tagged then some (beAt f 14 2 % 4096) else none, if red then some (beAt f (o + 4) 2) else none,
   beAt f t 2, f.drop (t + 2)⟩

/-- The vector recovery algorithm of IEEE 802.1CB (R418): whether the frame passes, and the stream after it. -/
def CbStream.recover (s : CbStream) (hist n now : Nat) : Bool × CbStream :=
  if s.any then (true, { s with any := false, seq := n, hist := 1, last := now })
  else
    let d : Int := signed 16 ((n + 65536 - s.seq) % 65536)
    if (hist : Int) ≤ d ∨ d ≤ -(hist : Int) then (false, s)
    else if d ≤ 0 then
      if s.hist.testBit (-d).toNat then (false, s) else (true, { s with hist := s.hist + 2 ^ (-d).toNat, last := now })
    else (true, { s with seq := n, hist := (s.hist * 2 ^ d.toNat + 1) % 2 ^ hist, last := now })

/-- Sequence recovery of a frame with an R-TAG on a port with CB_EN = 1; a frame without one belongs to no stream. -/
def Chip.cbRecover (u : Chip) (p : Nat) (e : EthFrame) : Bool × Chip :=
  match e.rtag with
  | none => (true, u)
  | some n =>
    if u.portCfg p Reg.PORT_CFG.CB_EN = 0 then (true, u)
    else
      let key := e.src * 4096 + e.vid.getD 0
      let s := (u.cb.find? (fun x => x.key == key)).getD (CbStream.mk key true 0 0 u.now)
      let r := s.recover (u.get (Reg.CB_CFG.CB_HIST (portPage p))) n u.now
      (r.1, { u with cb := u.cb.filter (fun x => x.key != key) ++ [r.2] })

/-- A received Ethernet frame (R409, R415, R417). -/
def Chip.ethRx (u : Chip) (p : Nat) (f : List Byte) (ok : Bool) : Chip :=
  if !ok || decide (1518 < f.length) then u.rxErr p
  else
    let e := ethParse f
    let safe := u.portClass p == 0
    if e.type = 0x88B5 then
      if !safe then u.classDrop p 0
      else if e.vid = some (u.portCfg p Reg.PORT_CFG.VID) ∧ e.dst = 0x035A * 2 ^ 32 + u.get Reg.ZST_ID.ID then
        let r := u.cbRecover p e
        if r.1 then r.2.deliver p .zst (zstTrim e.payload) else r.2
      else u.filtDrop p
    else if e.type = 0x88F7 then (if safe then u.deliver p .time e.payload else u.classDrop p 1)
    -- a tunnel frame of a DATA port has VER 2 (15 R440)
    else if e.type = 0x88B6 ∧ ¬ (u.portClass p = 1 ∧ beAt e.payload 0 1 = 2) then (if safe then u.deliver p .time e.payload else u.classDrop p 2)
    else u.deliverOther p f

/-- Whether a CAN identifier matches CAN_ZRX under CAN_ZMSK. -/
def Chip.canZst (u : Chip) (p id : Nat) : Bool :=
  let m := u.get (Reg.CAN_ZMSK.ID (portPage p))
  (id &&& m) == (u.get (Reg.CAN_ZRX.ID (portPage p)) &&& m)

/-- A received CAN frame in Classical CAN or CAN FD (R426, Table 14.4). On a port of another class, a mask of 0 names no
ZST identifiers (log 21). -/
def Chip.canRx (u : Chip) (p id : Nat) (ext fd remote : Bool) (b : List Byte) (ok : Bool) : Chip :=
  if !ok then u.rxErr p
  else if remote then u
  else if u.portClass p = 0 then
    if ext && fd && (u.portCfg p Reg.PORT_CFG.MODE == 1) then
      if u.canZst p id then u.deliver p .zst (zstTrim b)
      else if id = u.get (Reg.CAN_BCN.ID (portPage p)) then u.deliver p .time b
      else u.filtDrop p
    else u.filtDrop p
  else if u.get (Reg.CAN_ZMSK.ID (portPage p)) ≠ 0 ∧ u.canZst p id = true then u.classDrop p 0
  else u.deliverOther p b

/-- A received CAN XL frame (R423, R426): time beacons carry the acceptance field 0xFFFF_FFFF. -/
def Chip.canXlRx (u : Chip) (p sdt af : Nat) (b : List Byte) (ok : Bool) : Chip :=
  if !ok then u.rxErr p
  else
    let z := u.get (Reg.CAN_ZCFG.SDT (portPage p))
    if u.portClass p = 0 then
      if sdt ≠ z then u.filtDrop p else if af = 0xFFFFFFFF then u.deliver p .time b else u.deliver p .zst b
    else if z ≠ 0 ∧ sdt = z then u.classDrop p (if af = 0xFFFFFFFF then 2 else 0)
    else u.deliverOther p b

/-- PORT_FRAME_RX (R409). A port whose engine has failed receives nothing (R431). -/
def execPortFrameRx (p : Nat) (f : PortRx) (s : State) : Host.Outcome State Fault Refusal :=
  let u := s.chip
  s.become (if 14 < p || (u.pt p).disabled then u else match f with
    | .eth b ok => u.ethRx p b ok
    | .can id ext fd remote b ok => u.canRx p id ext fd remote b ok
    | .canXl _ sdt af b ok => u.canXlRx p sdt af b ok
    | .uart b ok => if ok then u.deliverOther p b else u.rxErr p)

/-- PORT_TX_REFUSED (R411): a SAFE port transmits for the ZST engine and the time function, a DATA port for the bridge, MGMT
and SERVICE ports for the management cores. -/
def execPortTxRefused (p src : Nat) (s : State) : Host.Outcome State Fault Refusal :=
  let u := s.chip
  let c := u.portClass p
  let ok := if c = 0 then src = 0 ∨ src = 1 else if c = 1 then src = 2 else src = 3
  s.become (if ok then u.answer .ok
    else ((u.put (Reg.BLK_ERR.PLANE (portPage p)) 1).refreshLines (portPage p)).refuse)

/-! ### Transmission (R416, R423, R426) -/

/-- Zero padding up to the minimum Ethernet frame of 60 bytes before its FCS. -/
def ethPad (f : List Byte) : List Byte := f ++ List.replicate (60 - f.length) 0

/-- An Ethernet frame of a SAFE port: tag with VID and PCP, R-TAG where the connection has one, EtherType (R416). -/
def Chip.ethFrame (u : Chip) (p : Nat) (dst : List Byte) (rtag : Option Nat) (type : Nat) (b : List Byte) : List Byte :=
  let red := match rtag with
    | some n => beBytes 2 0xF1C1 ++ beBytes 2 0 ++ beBytes 2 n
    | none => []
  ethPad (dst ++ beBytes 6 (u.portMac p) ++ beBytes 2 0x8100 ++
    beBytes 2 (u.portCfg p Reg.PORT_CFG.PCP * 2 ^ 13 + u.portCfg p Reg.PORT_CFG.VID) ++ red ++ beBytes 2 type ++ b)

/-- The smallest permitted CAN FD data length that holds `n` bytes. -/
def canFdLen (n : Nat) : Nat := ([0, 1, 2, 3, 4, 5, 6, 7, 8, 12, 16, 20, 24, 32, 48, 64].find? (fun l => decide (n ≤ l))).getD 64

/-- A ZST frame in the encapsulation of port `p` (R416, R426). -/
def Chip.zstWire (u : Chip) (p : Nat) (f : TxFrame) : Wire :=
  let pg := portPage p
  let id := u.get (Reg.CAN_ZTX.TXID pg)
  if p < 8 then .eth (u.ethFrame p ([0x03, 0x5A] ++ (f.bytes.drop 8).take 4) f.rtag 0x88B5 f.bytes)
  else if u.portCfg p Reg.PORT_CFG.MODE = 1 then .can true true id (f.bytes ++ List.replicate (canFdLen f.bytes.length - f.bytes.length) 0)
  else .canXl (id % 2 ^ 11) (u.get (Reg.CAN_ZCFG.SDT pg)) 0 (frDst f.bytes) f.bytes

/-- A time beacon in the encapsulation of port `p` (R423). -/
def Chip.beaconWire (u : Chip) (p : Nat) (b : List Byte) : Wire :=
  let pg := portPage p
  let id := u.get (Reg.CAN_BCN.ID pg)
  if p < 8 then .eth (u.ethFrame p [0x03, 0x5A, 0xFF, 0xFF, 0xFF, 0xFF] none 0x88B6 b)
  else if u.portCfg p Reg.PORT_CFG.MODE = 1 then .can true true id b
  else .canXl (id % 2 ^ 11) (u.get (Reg.CAN_ZCFG.SDT pg)) 0 0xFFFFFFFF b

/-- Puts a frame on the medium. -/
def Chip.wired (u : Chip) (p : Nat) (w : List Wire) : Chip := u.modPt p (fun r => { r with wire := w })

/-- Whether a port can transmit: link up (a CAN port: no bus-off), engine good. -/
def Chip.portSends (u : Chip) (p : Nat) : Bool :=
  (if 8 ≤ p ∧ p < 12 then !u.on (Reg.PORT_STAT.BUS_OFF (portPage p)) else u.on (Reg.PORT_STAT.LINK (portPage p))) && !(u.pt p).disabled

/-- ZST_FRAME_TX (R377, R361, R423): the beacon first; a frame that waits for its verdict holds back every later one. -/
def execZstFrameTx (p : Nat) (s : State) : Host.Outcome State Fault Refusal :=
  let u := s.chip
  if 12 ≤ p || !u.portSends p then s.become u
  else
    match u.zst.beacons.find? (fun b => b.1 == p) with
    | some b =>
      let z := u.zst
      let u' := { u with zst := { z with beacons := z.beacons.filter (fun x => x.1 != p) } }
      s.become ((u'.wired p [u.beaconWire p b.2]).modPt p (fun r => { r with sentCap := u.alignedTime }))
    | none =>
      match u.zst.txq.getD p [] with
      | [] => s.become u
      | f :: t =>
        match f.gate with
        | .waiting _ _ => s.become u
        | _ =>
          let u' := u.modTxq p (fun _ => t)
          -- R377: on CAN FD one frame fits 64 data bytes (log 124)
          if 8 ≤ p ∧ u.portCfg p Reg.PORT_CFG.MODE = 1 ∧ 64 < f.bytes.length then s.become u'
          else s.become (u'.wired p [u.zstWire p f])

/-- The payload of a time beacon (Table 14.3). -/
def Chip.beaconBytes (u : Chip) (p : Nat) : List Byte :=
  beBytes 1 1 ++ beBytes 1 (u.get Reg.TM_STAT.LOCKED * 128) ++ beBytes 2 (u.get Reg.ZST_GCFG.NET_ID) ++ beBytes 4 (u.get Reg.ZST_ID.ID) ++
  beBytes 8 (u.pt p).sentCap ++ beBytes 8 0

/-- TIME_BEACON_SEND (R423): at the snapshot strobe every SAFE T1S or CAN port with BEACON_EN = 1 queues a beacon, which counts
as one frame and 64 bytes of its quota. -/
def Chip.queueBeacons (u : Chip) : Chip :=
  ([0, 1, 2, 3, 8, 9, 10, 11]).foldl (fun u p =>
    if u.portClass p = 0 ∧ u.portCfg p Reg.PORT_CFG.BEACON_EN = 1 ∧ u.get Reg.WR_STAT.SAFE = 0 then
      let z := u.zst
      let z := { z with beacons := z.beacons.filter (fun x => x.1 != p) ++ [(p, u.beaconBytes p)],
                        quota := modAt z.quota p (fun q => { q with frames := q.frames + 1, bytes := q.bytes + 64 }) }
      { u with zst := z }
    else u) u

/-! ### PLCA, bus-off, engines, links -/

/-- PLCA_BEACON_TIMEOUT (R414, R379): 1 ms without a BEACON. The coordinator never changes (Table 14.5). -/
def execPlcaBeaconTimeout (p : Nat) (s : State) : Host.Outcome State Fault Refusal :=
  let u := s.chip
  let pg := portPage p
  if p < 4 ∧ u.get (Reg.PORT_STAT.PLCA_ACTIVE pg) = 1 ∧ u.get (Reg.T1S_PLCA.NODE_ID pg) ≠ 0 then
    let u := (u.until ((u.pt p).plcaAt + ms 1)).put (Reg.PORT_STAT.PLCA_ACTIVE pg) 0
    let u := (u.satInc (Reg.T1S_STAT.BCN_MISS pg)).modPt p (fun r => { r with plcaLost := true })
    s.become ((u.irq zstPage 6).raise 25 0x04 [p])
  else s.become u

/-- PLCA_BEACON_RX (R414): the port is in PLCA; PLCA_BACK where it had been lost. -/
def execPlcaBeaconRx (p : Nat) (s : State) : Host.Outcome State Fault Refusal :=
  let u := s.chip
  let pg := portPage p
  if p < 4 ∧ u.portCfg p Reg.PORT_CFG.MODE = 0 ∧ (u.pt p).disabled = false then
    let back := (u.pt p).plcaLost
    let u := (u.put (Reg.PORT_STAT.PLCA_ACTIVE pg) 1).modPt p (fun r => { r with plcaAt := u.now, plcaLost := false })
    s.become (if back then u.raise (portSource p) 0x02 [p] else u)
  else s.become u

/-- BUS_OFF (R427): port, transmit error counter. Queued frames stay. -/
def execBusOff (p tec : Nat) (s : State) : Host.Outcome State Fault Refusal :=
  let u := s.chip
  let pg := portPage p
  if 8 ≤ p ∧ p < 12 ∧ u.get (Reg.PORT_STAT.BUS_OFF pg) = 0 then
    s.become ((((u.put (Reg.PORT_STAT.BUS_OFF pg) 1).put (Reg.PORT_STAT.LINK pg) 0).put (Reg.PORT_STAT.ERR_PASSIVE pg) 0).raise (portSource p) 0x03 [p, tec])
  else s.become u

/-- BUS_ON (R427): the port is error active again. -/
def execBusOn (p : Nat) (s : State) : Host.Outcome State Fault Refusal :=
  let u := s.chip
  let pg := portPage p
  if 8 ≤ p ∧ p < 12 ∧ u.get (Reg.PORT_STAT.BUS_OFF pg) = 1 then
    s.become (((u.put (Reg.PORT_STAT.BUS_OFF pg) 0).put (Reg.PORT_STAT.LINK pg) 1).raise (portSource p) 0x04 [p])
  else s.become u

/-- The ports of a protocol engine (Table 14.1). -/
def enginePorts (e : Nat) : List Nat := if e < 4 then [e] else if e = 4 then [8, 9] else if e = 5 then [10, 11] else []

/-- ENGINE_FAULT (R431): its ports are disabled; a fault of class NONSAFETY (21 Table 21.2). -/
def execEngineFault (e cause : Nat) (s : State) : Host.Outcome State Fault Refusal :=
  let u := s.chip
  if 6 ≤ e then s.become u
  else
    let u := (enginePorts e).foldl (fun u p => ((u.modPt p (fun r => { r with disabled := true })).put
      (Reg.PORT_STAT.LINK (portPage p)) 0).put (Reg.PORT_STAT.PLCA_ACTIVE (portPage p)) 0) u
    s.become ((u.raise (if e < 4 then 132 + e else 140 + e) 0x08 [e, cause]).nonsafetyFault 0x6003)

/-! ### gPTP (R419 to R421) -/

/-- Whether gPTP runs on a port (R419). -/
def Chip.gptpOn (u : Chip) (p : Nat) : Bool :=
  decide (4 ≤ p ∧ p < 8) && u.portClass p == 0 && u.portCfg p Reg.PORT_CFG.GPTP_EN == 1

/-- The best master clock algorithm (R419): the slave port is the enabled port with the best Announce; a change of grandmaster
identity raises GM_CHANGE (R421). -/
def Chip.gptpSelect (u : Chip) : Chip :=
  let best := ([4, 5, 6, 7]).foldl (fun (b : Option (Nat × Nat × Nat)) p =>
    match (u.pt p).announce with
    | some a =>
      if u.gptpOn p && u.on (Reg.PORT_STAT.LINK (portPage p)) then
        match b with
        | some x => if a.1 < x.1 then some (a.1, p, a.2) else b
        | none => some (a.1, p, a.2)
      else b
    | none => b) none
  let slave := best.map (fun b => b.2.1)
  let u := ([4, 5, 6, 7]).foldl (fun u p => u.put (Reg.PORT_STAT.GP_SLAVE (portPage p)) (lvl (slave == some p))) u
  let u := u.put Reg.TM_STAT.AS_CAPABLE (match slave with
    | some p => lvl (u.pt p).asCapable
    | none => 0)
  match best with
  | some b =>
    let old := u.tm.gm
    let u := { u with tm := { u.tm with gm := some b.2.2 } }
    match old with
    | some g => if g = b.2.2 then u else u.raise (portSource b.2.1) 0x07 [g, b.2.2]
    | none => u
  | none => u

/-- PORT_LINK_CHANGE (R432): the link of a T1 or T1S port. A frame cut short counts as a reception error. A coordinator runs
PLCA while its link is up. -/
def execPortLinkChange (p : Nat) (up cut : Bool) (s : State) : Host.Outcome State Fault Refusal :=
  let u := s.chip
  let pg := portPage p
  if 8 ≤ p then s.become u
  else
    let u := u.put (Reg.PORT_STAT.LINK pg) (lvl (up && !(u.pt p).disabled))
    let u := if !up && cut then u.rxErr p else u
    let coord := decide (p < 4) && u.portCfg p Reg.PORT_CFG.MODE == 0 && u.get (Reg.T1S_PLCA.NODE_ID pg) == 0
    let u := if p < 4 then (if coord || !up then u.put (Reg.PORT_STAT.PLCA_ACTIVE pg) (lvl (up && !(u.pt p).disabled)) else u) else u
    let u := if up then u else u.modPt p (fun r => { r with announce := none, asCapable := false })
    s.become u.gptpSelect

/-- A measurement of station time against Weir time (R420, R421): TM_OFF, TM_NRR where the rate is known, MEAS; LOCKED after
8 in a row within 1,000 ns. -/
def Chip.timeMeasured (u : Chip) (p off : Nat) (ppb : Option Nat) : Chip :=
  let u := u.put Reg.TM_OFF.OFF off
  let u := match ppb with
    | some r => u.put Reg.TM_NRR.PPB r
    | none => u
  let u := ((u.wrapInc Reg.TM_STAT.MEAS).put Reg.TM_STAT.PORT p).put Reg.TM_STAT.VALID 1
  let r := signed 64 off - 10 * signed 64 (u.get Reg.TM_STOFF.STOFF)
  let inside := decide (-1000 ≤ r ∧ r ≤ 1000)
  let run := if inside && u.on Reg.TM_STAT.STOFF then min (u.tm.run + 1) 8 else 0
  let u := { u with tm := { u.tm with run := run, last := some u.now } }
  let src := u.get Reg.TM_CFG.SRC
  if u.on Reg.TM_STAT.LOCKED then
    if inside then u.evrMeasured
    else ((u.put Reg.TM_STAT.LOCKED 0).evrUnlocked).raise (portSource p) 0x06 [src, u.get Reg.TM_OFF.OFF, 1]
  else if run = 8 then (((u.put Reg.TM_STAT.LOCKED 1).raise (portSource p) 0x05 [src, u.get Reg.TM_OFF.OFF])).evrMeasured
  else u

/-- GPTP_SYNC_RX (R420): a Sync on the slave port, while the unit follows gPTP (R424). -/
def execGptpSyncRx (p station stamp ppb : Nat) (s : State) : Host.Outcome State Fault Refusal :=
  let u := s.chip
  if u.gptpOn p && u.on (Reg.PORT_STAT.GP_SLAVE (portPage p)) && u.get Reg.TM_CFG.SRC == 0 then
    s.become (u.timeMeasured p (pattern 64 ((station : Int) - 10 * (stamp : Int))) (some ppb))
  else s.become u

/-- PDELAY_REQ_RX (R419, R420): Pdelay_Resp and Pdelay_Resp_Follow_Up, two-step. -/
def execPdelayReqRx (p t2 t3 : Nat) (s : State) : Host.Outcome State Fault Refusal :=
  let u := s.chip
  s.become (if u.gptpOn p && u.portSends p then u.wired p [.gptp 3 t2, .gptp 0xA t3] else u)

/-- PDELAY_INTERVAL (R419): every 1 s a Pdelay_Req. -/
def execPdelayInterval (p t1 : Nat) (s : State) : Host.Outcome State Fault Refusal :=
  let u := s.chip
  if u.gptpOn p && u.portSends p then
    let u := u.until ((u.pt p).asked + sec 1)
    s.become ((u.wired p [.gptp 2 t1]).modPt p (fun r => { r with asked := u.now }))
  else s.become u

/-- PDELAY_RESP_RX (R419): the neighbour delay; asCapable while it is at most 800 ns. -/
def execPdelayRespRx (p delay : Nat) (s : State) : Host.Outcome State Fault Refusal :=
  let u := s.chip
  if u.gptpOn p then
    let u := u.modPt p (fun r => { r with delay := delay, asCapable := decide (delay ≤ 800) })
    s.become (if u.on (Reg.PORT_STAT.GP_SLAVE (portPage p)) then u.put Reg.TM_STAT.AS_CAPABLE (lvl (decide (delay ≤ 800))) else u)
  else s.become u

/-- The priority vector of an Announce as one number: the lower one is better (IEEE 802.1AS; log 22). -/
def announceRank (m : AnnounceOp) (p : Nat) : Nat :=
  (((((m.priority1 * 2 ^ 32 + m.quality) * 2 ^ 8 + m.priority2) * 2 ^ 64 + m.gm) * 2 ^ 16 + m.steps) * 2 ^ 80 + m.sender) * 2 ^ 4 + p

/-- ANNOUNCE_RX (R419, R421). -/
def execAnnounceRx (p : Nat) (m : AnnounceOp) (s : State) : Host.Outcome State Fault Refusal :=
  let u := s.chip
  s.become (if u.gptpOn p then (u.modPt p (fun r => { r with announce := some (announceRank m p, m.gm) })).gptpSelect else u)

/-- TIME_SILENCE (R421): 1 s without a measurement. -/
def execTimeSilence (s : State) : Host.Outcome State Fault Refusal :=
  let u := s.chip
  match u.tm.last with
  | some t =>
    let u := u.until (t + sec 1)
    let u := { u with tm := { u.tm with run := 0 } }
    s.become (if u.on Reg.TM_STAT.LOCKED then
        ((u.put Reg.TM_STAT.LOCKED 0).evrUnlocked).raise (portSource (u.get Reg.TM_STAT.PORT)) 0x06 [u.get Reg.TM_CFG.SRC, u.get Reg.TM_OFF.OFF, 2]
      else u)
  | none => s.become u

/-- The port whose beacons TM_CFG.SRC names (Table 14.7). -/
def beaconPort (src : Nat) : Option Nat := if 1 ≤ src ∧ src ≤ 4 then some (src - 1) else if 8 ≤ src ∧ src ≤ 11 then some src else none

/-- TIME_BEACON_RX (R423, R424): the value of a beacon belongs to the capture of the beacon before it; the rate comes from two
pairs in a row. -/
def execTimeBeaconRx (p cap : Nat) (b : List Byte) (s : State) : Host.Outcome State Fault Refusal :=
  let u := s.chip
  if beaconPort (u.get Reg.TM_CFG.SRC) = some p ∧ u.portClass p = 0 ∧ beAt b 0 1 = 1 ∧ 128 ≤ beAt b 1 1 ∧ beAt b 2 2 = u.get Reg.ZST_GCFG.NET_ID then
    let r := u.pt p
    let v := beAt b 8 8
    let u := u.modPt p (fun r => { r with rxCap := some cap })
    match r.rxCap with
    | none => s.become u
    | some c =>
      if v = 0 then s.become u
      else
        let ppb := r.pair.bind (fun (q : Nat × Nat) =>
          if c ≤ q.2 then none
          else some (pattern 32 ((((v : Int) - (q.1 : Int)) - ((c : Int) - (q.2 : Int))) * 1000000000 / ((c : Int) - (q.2 : Int)))))
        let u := u.modPt p (fun r => { r with pair := some (v, c) })
        s.become (u.timeMeasured p (pattern 64 (10 * (v : Int) - 10 * (c : Int))) ppb)
  else s.become u

/-- CB_RESET_TIMER (R418): CB_RST without a frame of the stream; its history is reset. -/
def execCbResetTimer (key : Nat) (s : State) : Host.Outcome State Fault Refusal :=
  let u := s.chip
  match u.cb.find? (fun x => x.key == key) with
  | none => s.become u
  | some x =>
    let rst := (([4, 5, 6, 7]).find? (fun p => u.portCfg p Reg.PORT_CFG.CB_EN == 1)).map (fun p => u.get (Reg.CB_CFG.CB_RST (portPage p)))
    let u := u.until (x.last + ms (rst.getD 1))
    s.become { u with cb := u.cb.map (fun y => if y.key = key then { y with any := true, hist := 0 } else y) }

/-! ### Service port (R430) -/

/-- Every queued command that is not yet placed is discarded, and each discard recorded (R430, Table 21.9). -/
def Chip.gateDiscard (u : Chip) : Chip :=
  let l := u.gate.queue
  l.foldl (fun u e => u.fwRaise 26 0x06 [e.code, e.tag, 1]) { u with gate := { u.gate with queue := [] } }

/-- SERVICE_LINK_UP (R430): the 1 s starts. -/
def execServiceLinkUp (s : State) : Host.Outcome State Fault Refusal :=
  let u := s.chip.put (Reg.PORT_STAT.LINK (portPage 14)) 1
  s.become { u with svc := { u.svc with since := some (u.svc.since.getD u.now) } }

/-- SERVICE_CONNECTED (R430). -/
def execServiceConnected (s : State) : Host.Outcome State Fault Refusal :=
  let u := s.chip
  match u.svc.since with
  | some t => s.become (let u := u.until (t + sec 1); { u with svc := { u.svc with connected := true } })
  | none => s.become u

/-- SERVICE_LINK_LOSS (R430). -/
def execServiceLinkLoss (s : State) : Host.Outcome State Fault Refusal :=
  let u := s.chip.put (Reg.PORT_STAT.LINK (portPage 14)) 0
  s.become ({ u with svc := {} }).gateDiscard

/-! ### Loader checks -/

/-- R407, Table 14.1: a class that the port does not permit. -/
def Chip.rejectsR407 (u : Chip) : Bool :=
  (List.range 14).any (fun p =>
    let c := u.portClass p
    let m := u.portCfg p Reg.PORT_CFG.MODE
    c == 3 || (decide (12 ≤ p) && c == 0) || (decide (8 ≤ p ∧ p < 12) && c == 0 && m == 0))

/-- R413: a SAFE 10BASE-T1S port without PLCA. -/
def Chip.rejectsR413 (u : Chip) : Bool := (List.range 4).any (fun p => u.portClass p == 0 && u.portCfg p Reg.PORT_CFG.MODE != 0)

/-- R416: a group address in PORT_MAC; a SAFE Ethernet-type port with a VID outside 1 to 4094. -/
def Chip.rejectsR416 (u : Chip) : Bool :=
  ((List.range 8) ++ [14]).any (fun p => u.portMac p / 2 ^ 40 % 2 == 1) ||
  (List.range 8).any (fun p => u.portClass p == 0 && decide (u.portCfg p Reg.PORT_CFG.VID < 1 ∨ 4094 < u.portCfg p Reg.PORT_CFG.VID))

/-- R418: CB_EN = 1 on both ports of a connection needs two T1 ports with equal VID; the ranges of CB_CFG. -/
def Chip.rejectsR418 (u : Chip) : Bool :=
  (List.range 512).any (fun c => u.on (Reg.ZST_CONN.USED c) && (match u.connPorts c with
    | [a, b] => u.portCfg a Reg.PORT_CFG.CB_EN == 1 && u.portCfg b Reg.PORT_CFG.CB_EN == 1 &&
        !(decide (4 ≤ a ∧ a < 8 ∧ 4 ≤ b ∧ b < 8) && u.portCfg a Reg.PORT_CFG.VID == u.portCfg b Reg.PORT_CFG.VID)
    | _ => false)) ||
  ([4, 5, 6, 7]).any (fun p => let pg := portPage p
    decide (u.get (Reg.CB_CFG.CB_HIST pg) < 2 ∨ 32 < u.get (Reg.CB_CFG.CB_HIST pg) ∨ u.get (Reg.CB_CFG.CB_RST pg) < 1 ∨ 1000 < u.get (Reg.CB_CFG.CB_RST pg)))

/-- A bit time in ns: whole time quanta of (BRP + 1) × 10 ns. -/
def bitNs (brp t1 t2 : Nat) : Nat := (brp + 1) * 10 * (1 + (t1 + 1) + (t2 + 1))

/-- R425: bit timings outside Table 14.7 or Table 14.4. A register that is all zero belongs to an unused port (log 23). -/
def Chip.rejectsR425 (u : Chip) : Bool :=
  (List.range 4).any (fun k =>
    let pg := portPage (8 + k)
    let m := u.portCfg (8 + k) Reg.PORT_CFG.MODE
    let n := (u.get (Reg.CAN_NBT.BRP pg), u.get (Reg.CAN_NBT.TSEG1 pg), u.get (Reg.CAN_NBT.TSEG2 pg), u.get (Reg.CAN_NBT.SJW pg))
    let d := (u.get (Reg.CAN_DBT.BRP pg), u.get (Reg.CAN_DBT.TSEG1 pg), u.get (Reg.CAN_DBT.TSEG2 pg), u.get (Reg.CAN_DBT.SJW pg))
    let tn := bitNs n.1 n.2.1 n.2.2.1
    let td := bitNs d.1 d.2.1 d.2.2.1
    let badN := decide (31 < n.1 ∨ n.2.1 < 1 ∨ 127 < n.2.2.1 ∨ n.2.2.1 < n.2.2.2 ∨ tn < 1000 ∨ (if m = 0 then 100000 else 8000) < tn)
    let badD := decide (3 < d.1 ∨ d.2.1 < 1 ∨ 127 < d.2.2.1 ∨ d.2.2.1 < d.2.2.2 ∨ td < 100)
    decide (3 < m) || (n != (0, 0, 0, 0) && badN) || (m != 0 && d != (0, 0, 0, 0) && badD))

end Sys2Proof.Machine
end

