-- ==== Sys2Proof/Machine/Ledger.lean ====
section
/-!
DEFINITION. The reaction-time ledger (chapter 11), the transmit bound of a port (12 R378), and what the loader checks of
the application, the connection table and the chains (07 R230; 08 R635; 11 R346; 12 R352; 13 R385).
-/
namespace Sys2Proof.Machine

/-! ### Application context -/

/-- The configuration that an application is judged against (R230, R232). -/
def Chip.appCtx (u : Chip) : AppCtx :=
  { tdl := (List.range 8).map (fun t => (u.get (Reg.WR_TDL.PERIOD t), u.get (Reg.WR_TDL.DL t)))
    base := u.get Reg.WR_CFG.BASE
    areas := [(32 * u.get Reg.LAT_CFG.REQ_BASE, 32 * u.get Reg.LAT_CFG.REQ_CNT), (32 * u.get Reg.LAT_CFG.UPD_BASE, 32 * u.get Reg.LAT_CFG.UPD_CNT)] }

/-- The application in force in channel `c`. -/
def Chip.app (u : Chip) (c : Nat) : App := appAt (u.sram c) (u.run c).bank

/-! ### Transmit bound (R378, Table 12.10) -/

/-- Bytes of the largest frame that channel `c` sends on a port. -/
def Chip.portBytes (u : Chip) (c p : Nat) : Nat :=
  ((u.conns c true).filter (fun n => (u.connPorts n).contains p)).foldl (fun m n => max m (40 + (u.connRec c n).maxLen)) 0

/-- TX of a port in ns; its link speed follows its number (12 Table 12.12). -/
def Chip.txBound (u : Chip) (c p : Nat) : Nat :=
  let fr := u.get (Reg.ZST_PCFG.TXQ_FR p)
  let w := u.get (Reg.ZST_PCFG.TXQ_B p) + 44 * fr
  let pg := portPage p
  let oth := u.get (Reg.ZST_PCFG2.OTH p)
  let tn := bitNs (u.get (Reg.CAN_NBT.BRP pg)) (u.get (Reg.CAN_NBT.TSEG1 pg)) (u.get (Reg.CAN_NBT.TSEG2 pg))
  let td := bitNs (u.get (Reg.CAN_DBT.BRP pg)) (u.get (Reg.CAN_DBT.TSEG1 pg)) (u.get (Reg.CAN_DBT.TSEG2 pg))
  let b := u.portBytes c p
  if p = 6 ∨ p = 7 then 2000 + (128 + 2 * w) * 8
  else if p = 4 ∨ p = 5 then 2000 + (128 + 2 * w) * 80
  else if p < 4 then
    let burst := 1 + u.get (Reg.T1S_PLCA.BURST pg)
    2000 + 2 * ((fr + burst - 1) / burst) * (u.get (Reg.T1S_PLCA.NCNT pg) * 3200 + oth * 800) + 2 * w * 800
  else if u.portCfg p Reg.PORT_CFG.MODE = 1 then 2000 + oth * 1000 + 2 * fr * (80 * tn + (40 + 10 * canFdLen b) * td)
  else 2000 + oth * 1000 + 2 * fr * (80 * tn + (150 + 9 * b) * td)

/-- R378: a SAFE port in use whose bound exceeds the base period. -/
def Chip.rejectsR378 (u : Chip) : Bool :=
  (List.range 12).any (fun p => u.portClass p == 0 && u.get (Reg.ZST_PCFG.TXQ_FR p) != 0 &&
    decide (u.get Reg.WR_CFG.BASE * 250000 < u.txBound 0 p))

/-! ### Terms (R341, Table 11.2), in ns -/

/-- A chain: KIND, TASK, SRC_Z, SRC, END of LED_DEF[i]. -/
structure Chain where
  kind : Nat
  task : Nat
  srcZ : Bool
  src : Nat
  fin : Nat
  deriving DecidableEq, Repr

/-- Chain `i`. -/
def Chip.chain (u : Chip) (i : Nat) : Chain :=
  ⟨u.get (Reg.LED_DEF.KIND i), u.get (Reg.LED_DEF.TASK i), u.on (Reg.LED_DEF.SRC_Z i), u.get (Reg.LED_DEF.SRC i), u.get (Reg.LED_DEF.END i)⟩

/-- FE, FILT, SAMPLE and TEST of a safe-input source. -/
def Chip.ledInput (u : Chip) (n : Nat) : Nat :=
  let pair := u.get (Reg.SIN_CFG.PAIR (n / 2 * 2))
  let head := if pair = 0 then n else n / 2 * 2
  let members := if pair = 0 then [n] else [n / 2 * 2, n / 2 * 2 + 1]
  let filt := if u.on (Reg.SIN_CFG.OFF_FAST head) && pair != 2 then 0 else u.get (Reg.SIN_CFG.FILT head) * 10000
  let test := members.foldl (fun m k =>
    let j := u.get (Reg.SIN_CFG.TSRC k)
    if j < 8 then max m ((u.get (Reg.TOUT_CFG.TP_W j) + u.get (Reg.TOUT_CFG.TP_REC j)) * 10000) else m) 0
  u.get Reg.SIN_GCFG.FE_DLY * 1000 + filt + 11000 + test

/-- Entries of a task in the lattice object table (R643). -/
def App.objCount (m : List Host.Cell) (a : App) (t : Nat) : Nat := (a.lobjs m t).length

/-- The end of a chain: OUT and TT, GATE and TX, or LAT. -/
def Chip.ledEnd (u : Chip) (c : Nat) (x : Chain) : Nat :=
  let swOff := u.get Reg.SOUT_GCFG.SW_OFF * 1000
  if x.kind = 1 ∨ x.kind = 3 then 1010 + swOff + (if u.on (Reg.SOUT_CFG.TT x.fin) then 10737418240 else 0)
  else if x.kind = 2 then
    (if (gateEntry u.activeBank x.fin).testBit 31 then 3030 else 0) + (u.connPorts x.fin).foldl (fun m p => max m (u.txBound c p)) 0
  else 693890 + swOff

/-- BACKLOG; none where it has no bound. -/
def Chip.ledBacklog (u : Chip) (nObj period : Nat) : Option Nat :=
  let cnt := u.get Reg.LAT_CFG.UPD_CNT
  if nObj = 0 then some 0 else if cnt = 0 then none else some (((nObj + cnt - 1) / cnt - 1) * period * 250000)

/-- The result of a chain in µs (R340, R342). -/
def Chip.ledWc (u : Chip) (c : Nat) (m : List Host.Cell) (a : App) (x : Chain) : Nat :=
  let period := u.get (Reg.WR_TDL.PERIOD x.task)
  let src := if x.srcZ then (u.connIn m x.src).deadline * 1000 else u.ledInput x.src
  let mid := period * 250000 + u.get (Reg.WR_TDL.DL x.task) * 1000 + u.get Reg.CF_CFG.VOTE_WIN * 1000 + 12000
  let back := if x.kind = 4 then u.ledBacklog (a.objCount m x.task) period else some 0
  match back with
  | none => 0xFFFFFF
  | some b =>
    let wc := (src + mid + b + u.ledEnd c x + 999) / 1000
    if 16777214 < wc then 0xFFFFFF else wc

/-- Whether a chain exceeds its budget (R341, R342). -/
def Chip.ledOver (u : Chip) (i wc : Nat) : Bool := wc == 0xFFFFFF || decide (u.get (Reg.LED_BUDGET.PST i) < wc)

/-- The declared chains. -/
def Chip.ledChains (u : Chip) : List Nat := (List.range 240).filter (fun i => u.get (Reg.LED_DEF.KIND i) != 0)

/-- The results of an application in bank `bank` of channel `c`, in chain order. -/
def Chip.ledger (u : Chip) (c bank : Nat) : List Nat :=
  let m := u.sram c
  u.ledChains.map (fun i => u.ledWc c m (appAt m bank) (u.chain i))

/-- Orders LED_RESULT and LED_STAT (R343). -/
def Chip.ledOrder (u : Chip) (c : Nat) (l : List Nat) : Chip :=
  let cs := u.ledChains.zip l
  let u := cs.foldl (fun u e => u.order c (0x40700440 + 4 * e.1) (lvl (u.ledOver e.1 e.2) * 2 ^ 31 + e.2)) u
  let above := cs.filter (fun e => u.ledOver e.1 e.2)
  let first := (above.headD (0, 0)).1
  u.order c 0x40700400 (2 ^ 31 + lvl (above != []) * 2 ^ 30 + first * 2 ^ 16 + cs.length)

/-- LEDGER_OVER for each chain over its budget (R347). -/
def Chip.ledEvents (u : Chip) (c : Nat) (l : List Nat) : Chip :=
  (u.ledChains.zip l).foldl (fun u e => if u.ledOver e.1 e.2 then u.rtEvent c 0x10 [e.1, e.2, u.get (Reg.LED_BUDGET.PST e.1)] else u) u

/-- Whether TASK owns the image bit of an output. -/
def Chip.ownsOut (u : Chip) (m : List Host.Cell) (a : App) (t n : Nat) : Bool := a.owner m (u.get (Reg.SOUT_CFG.BIT n)) == some t

/-- The source or, for kinds 1 to 3, the end of a chain is not the task's (R344, R346). -/
def Chip.chainForeign (u : Chip) (m : List Host.Cell) (a : App) (x : Chain) : Bool :=
  let conn := fun (n : Nat) => !(u.connIn m n).used || (u.connIn m n).task != x.task
  (x.srcZ && conn x.src) || ((x.kind == 1 || x.kind == 3) && !u.ownsOut m a x.task x.fin) || (x.kind == 2 && conn x.fin)

/-- R344: a staged application fails the APP test by its ledger. -/
def Chip.ledFails (u : Chip) (c bank : Nat) : Bool :=
  let m := u.sram c
  let a := appAt m bank
  u.ledChains.any (fun i => u.chainForeign m a (u.chain i) || u.ledOver i (u.ledWc c m a (u.chain i)))

/-- R346: a chain that the loader rejects. -/
def Chip.chainBad (u : Chip) (m : List Host.Cell) (a : App) (i : Nat) : Bool :=
  let x := u.chain i
  let r := u.connIn m x.fin
  decide (4 < x.kind) || u.get (Reg.LED_BUDGET.PST i) == 0 || decide (a.nTask ≤ x.task) || u.chainForeign m a x ||
  (!x.srcZ && (decide (64 ≤ x.src) || !u.sinUsed x.src || (x.src % 2 == 1 && u.sinPair x.src != 0))) ||
  (x.kind != 2 && (decide (32 ≤ x.fin) || !u.outUsed x.fin)) || (x.kind == 4 && !u.on (Reg.WR_OMAP.SIGNAL x.fin)) ||
  (x.kind == 2 && (!r.used || !r.tx || r.self)) || (x.kind == 3 && !x.srcZ) || (decide (x.kind ≤ 2) && x.srcZ)

/-! ### What the loader rejects -/

/-- The channel whose SRAM the loader checks: all three hold the same images. -/
def Chip.loadMem (u : Chip) : List Host.Cell := u.sram 0

/-- R230, R232. -/
def Chip.rejectsR230 (u : Chip) : Bool := ((appAt u.loadMem 0).failing u.loadMem u.appCtx).isSome

/-- R346. -/
def Chip.rejectsR346 (u : Chip) : Bool := u.ledChains.any (u.chainBad u.loadMem (appAt u.loadMem 0))

/-- Bytes of a receive entry (R370). -/
def ConnRec.entry (r : ConnRec) : Nat := 16 + r.depth * (16 + (r.maxLen + 3) / 4 * 4)

/-- One used record breaks R352. -/
def Chip.connBad (u : Chip) (m : List Host.Cell) (a : App) (n : Nat) : Bool :=
  let r := u.connIn m n
  let tol := u.get Reg.ZST_GCFG.TS_TOL
  let cats := (u.connPorts n).map (fun p => u.get (Reg.ZST_PCFG.CAT p))
  let kcv := fun ph => memNat m (u.kcvAt r.key ph) 4 % 2 ^ 24
  decide (a.nTask ≤ r.task) ||
  (!r.tx && decide (r.ageMax < 2 * u.get Reg.WR_CFG.BASE * 250 + tol ∨ r.deadline < r.ageMax)) ||
  (r.cmac && cats.any (fun k => decide (k < 3)) && kcv 0 == 0 && kcv 1 == 0) || (!r.cmac && cats.contains 3) ||
  (r.tx && !r.self && u.connPorts n == [])

/-- ZST_CONN[n] or ZST_PEER[n] disagrees with the record (R352). -/
def Chip.connDiffers (u : Chip) (m : List Host.Cell) (n : Nat) : Bool :=
  let r := u.connIn m n
  (u.on (Reg.ZST_CONN.USED n) != r.used) ||
  (r.used && ((u.on (Reg.ZST_CONN.DIR n) != r.tx) || (u.on (Reg.ZST_CONN.SELF n) != r.self) ||
    (u.get (Reg.ZST_CONN.CID n) != r.cid) || (u.get (Reg.ZST_PEER.PEER n) != r.peer)))

/-- R635: ZST_SELF names a connection that is no SELF TX connection of task 0 to the unit itself, or one for both. -/
def Chip.rejectsR635 (u : Chip) : Bool :=
  let l := u.get Reg.ZST_SELF.LOADER
  let t := u.get Reg.ZST_SELF.RETAIN
  let bad := fun (n : Nat) => let r := u.connIn u.loadMem n
    !r.used || !r.tx || !r.self || r.task != 0 || r.peer != u.get Reg.ZST_ID.ID
  l == t || bad l || bad t

/-- R352. -/
def Chip.rejectsR352 (u : Chip) : Bool :=
  let m := u.loadMem
  let a := appAt m 0
  let used := (List.range 512).filter (fun n => (u.connIn m n).used)
  let key := fun (n : Nat) => let r := u.connIn m n; (lvl r.tx * 2 ^ 32 + r.peer) * 2 ^ 16 + r.cid
  let rx := used.filter (fun n => !(u.connIn m n).tx)
  let tables := [(u.get Reg.ZST_CTOFF.OFF, 32768), (u.get Reg.ZST_KTOFF.OFF, 24640)]
  let id := u.get Reg.ZST_ID.ID
  used.any (u.connBad m a) || anyTwice (used.map key) || (List.range 512).any (u.connDiffers m) ||
  rx.any (fun n => decide (64832 < (u.connIn m n).rxOff + (u.connIn m n).entry)) ||
  tables.any (fun t => !inDataArea t) || anyOverlap (a.areas m ++ tables) ||
  (used != [] && (id == 0 || id == 0xFFFFFFFF || u.get Reg.ZST_GCFG.RX_FR == 0 || u.get Reg.ZST_GCFG.TS_TOL == 0)) ||
  u.rejectsR635

/-- A connection named for a pair is unused, not of task 0 or of the wrong direction (R385). -/
def Chip.pairConnBad (u : Chip) (n : Nat) (tx : Bool) : Bool :=
  let r := u.connIn u.loadMem n
  !r.used || r.task != 0 || r.tx != tx

/-- A heartbeat connection has another DEADLINE or AGE_MAX (R385). -/
def Chip.beatConnBad (u : Chip) (n : Nat) : Bool :=
  let r := u.connIn u.loadMem n
  r.deadline != 3000 || decide (r.ageMax < 2000 + u.get Reg.ZST_GCFG.TS_TOL ∨ 3000 < r.ageMax)

/-- R385. -/
def Chip.rejectsR385 (u : Chip) : Bool :=
  if u.isPartner then
    let t0 := (appAt u.loadMem 0).task u.loadMem 0
    u.get Reg.WR_CFG.BASE != 4 || decide (780 < finalDeadline (u.get Reg.WR_CFG.BASE) t0) ||
    u.pairConnBad (u.get Reg.PR_HB.TX) true || u.pairConnBad (u.get Reg.PR_HB.RX) false || u.pairConnBad (u.get Reg.PR_PEER.TX) true ||
    u.pairConnBad (u.get Reg.PR_PEER.RX) false || u.pairConnBad (u.get Reg.PR_MIR.TX) true || u.pairConnBad (u.get Reg.PR_MIR.RX) false ||
    u.beatConnBad (u.get Reg.PR_HB.RX) || u.beatConnBad (u.get Reg.PR_PEER.RX) || decide (64 < u.mirPages 0) ||
    decide (u.get Reg.PR_CFG.MIR_RATE < 1 ∨ 8 < u.get Reg.PR_CFG.MIR_RATE) ||
    decide (u.get Reg.PR_CFG.JOIN_WAIT < 100 ∨ 10000 < u.get Reg.PR_CFG.JOIN_WAIT)
  else if u.isWitness then
    u.get Reg.WR_CFG.BASE != 4 || u.pairConnBad (u.get Reg.PR_HB.TX) true || u.pairConnBad (u.get Reg.PR_HB.RX) false ||
    u.pairConnBad (u.get Reg.PR_PEER.RX) false || u.beatConnBad (u.get Reg.PR_HB.RX) || u.beatConnBad (u.get Reg.PR_PEER.RX) ||
    decide (u.get Reg.PR_CFG.JOIN_WAIT < 100 ∨ 10000 < u.get Reg.PR_CFG.JOIN_WAIT)
  else false

end Sys2Proof.Machine
end

