-- ==== Sys2Proof/Machine/Params.lean ====
section
/-!
DEFINITION. Parameter sets and the configuration check value (20 R552 to R554): which registers and tables each set
holds, and the check value that a channel computes over them.
-/
namespace Sys2Proof.Machine

/-! ### Register sets (Table 20.1) -/

/-- The addresses of the RWL registers of a page that a register set holds, ascending. ZST_CLAIM and TM_STOFF, which the
loader writes by itself, are left out (12 R360, 13 R383, R387, 14 R422; DEDUCED: log 37). -/
def Chip.pageRegs (u : Chip) (pg : Nat) : List Nat :=
  ((List.range 1024).map (fun k => pg + 4 * k)).filter (fun a =>
    (u.crcWord pg (a - pg)).isSome && !([0x40600048, 0x40600084, 0x40600088] : List Nat).contains a)

/-- Register addresses at a stride. -/
def regRun (base stride n : Nat) : List Nat := (List.range n).map (fun i => base + stride * i)

/-- Every port in ascending page address: the service port first. -/
def portOrder : List Nat := 14 :: List.range 14

/-- The pages of a port and of its protocol engine. -/
def portPages (p : Nat) : List Nat := let pg := portPage p; [pg, pg + 0x1000]

/-- Whether an address is the PORT_CFG of a port. -/
def isPortCfg (a : Nat) : Bool := portOrder.any (fun p => portPage p + 0x40 == a)

/-- The registers of a register set in the order in which the package holds them; set 10 holds PORT_CFG of every port, then the
other RWL registers of SAFE ports (DEDUCED: log 37). -/
def Chip.setRegs (u : Chip) (k : Nat) : List Nat :=
  if k = 3 then regRun 0x40200044 0x4000 3 ++ [0x40300040] ++ regRun 0x40A01040 4 7 ++ regRun 0x40A01080 4 7 ++ regRun 0x40B00040 0x4000 3
  else if k = 4 then [0x50000044] ++ regRun 0x50003100 4 32 ++ regRun 0x50004040 4 8 ++ [0x50004060, 0x50006040, 0x5000604C, 0x50006050]
  else if k = 5 then (regRun 0x40400000 0x1000 4).flatMap u.pageRegs
  else if k = 6 then (regRun 0x40500000 0x1000 2).flatMap u.pageRegs
  else if k = 7 then (regRun 0x40600000 0x1000 4).flatMap u.pageRegs
  else if k = 10 then portOrder.map (fun p => portPage p + 0x40) ++
    ((portOrder.filter (fun p => u.portClass p == 0)).flatMap portPages).flatMap (fun pg => (u.pageRegs pg).filter (fun a => !isPortCfg a))
  else if k = 12 then regRun 0x40700800 4 480
  else []

/-- The value of the RWL fields of a register. -/
def Chip.rwlValue (u : Chip) (a : Nat) : Nat := u.readPieces ((regPieces a).filter (fun p => p.fld.acc == .rwl))

/-! ### The check value (R553, R554) -/

/-- The content of set `k` as channel `c` finds it, `len` bytes long: its own SRAM and the registers read back; key bytes count
as 0; sets 0 and 11 as the loader handed them over; set 3 with the routing of R57 where the package holds it (log 101). -/
def Chip.setContent (u : Chip) (c k len : Nat) : List Byte :=
  let m := u.sram c
  if k = 0 then u.com.set0.take len
  else if k = 1 then memReadBytes m (bankBase (u.run c).bank) len
  else if k = 2 then memReadBytes m instBase len
  else if k = 8 then memReadBytes m u.connBase len
  else if k = 9 then List.replicate len 0
  else if k = 11 then u.com.modules.take len
  else
    let b := (u.setRegs k).flatMap (fun a => leBytes 4 (u.rwlValue a))
    if k = 3 then b ++ (leBytes 16 (u.cic.get c).route).take (len - b.length) else b

/-- The configuration check value that channel `c` computes: CRC-64 over sets 0 to 12 with their headers. -/
def Chip.checkValue (u : Chip) (c : Nat) : Nat :=
  crcOf crc64 ((u.com.heads.filter (fun h => decide (h.1 ≤ 12))).flatMap (fun h =>
    leBytes 2 h.1 ++ leBytes 2 h.2.1 ++ leBytes 4 h.2.2 ++ u.setContent c h.1 h.2.2))

/-- A CRC-64 over listed sets with given content, as Mosum forms it (R553). -/
def packageCheck (sets : List (Nat × Nat × List Byte)) : Nat :=
  crcOf crc64 (sets.flatMap (fun s => leBytes 2 s.1 ++ leBytes 2 s.2.1 ++ leBytes 4 s.2.2.length ++
    (if s.1 = 9 then List.replicate s.2.2.length 0 else s.2.2)))

end Sys2Proof.Machine
end

