-- ==== Sys2Proof/Machine/Change.lean ====
section
/-!
DEFINITION. On-line change and forcing in the runtime of a channel (chapter 08), key and confirmation commands (20 R557 to
R563, R571) as the runtime processes them. A command answers a refusal status of CMD_REFUSED, or its effect.
-/
namespace Sys2Proof.Machine

/-- A little-endian argument of a command: `o` is its byte offset in the command (Table 8.1, Table 20.2). -/
def GateEntry.arg (e : GateEntry) (o n : Nat) : Nat := leAt e.args (o - 16) n

/-- The refusal of a command (Table 8.8). -/
abbrev CmdResult := Except Nat Chip

/-- The first status whose condition holds, in the order of the list; else the effect. -/
def firstRefusal (l : List (Bool × Nat)) (u : Chip) : CmdResult :=
  match l.find? (fun e => e.1) with
  | some e => .error e.2
  | none => .ok u

/-- Changes the staging of a channel. -/
def Chip.modStg (u : Chip) (c : Nat) (g : Staging → Staging) : Chip := u.modRun c (fun r => { r with stg := g r.stg })

/-- The staged application's bank: the idle one. -/
def Chip.idleBank (u : Chip) (c : Nat) : Nat := 1 - (u.run c).bank

/-! ### Staging (R263 to R268) -/

/-- OLC_BEGIN. -/
def Chip.olcBegin (u : Chip) (c : Nat) : CmdResult :=
  if (u.run c).stg.st = 3 then .error 2 else .ok (u.modStg c (fun _ => { st := 1 }))

/-- OLC_LOAD (R264). -/
def Chip.olcLoad (u : Chip) (c : Nat) (e : GateEntry) : CmdResult :=
  let m := u.sram c
  let target := e.arg 16 1
  let len := e.arg 17 1
  let off := e.arg 20 4
  let data := (e.args.drop 8).take len
  let old := (u.app c).areas m
  let range := if target = 0 then decide (0x200000 < off + len)
    else !inDataArea (off, len) || old.any (overlap (off, len))
  if (u.run c).stg.st ≠ 1 then .error 2
  else firstRefusal [(decide (1 < target ∨ len = 0 ∨ 40 < len) || range, 3)]
    (u.sramWrite c ((if target = 0 then bankBase (u.idleBank c) else instBase) + off) data)

/-- Instances that a change carries (R261): those of the old application whose KEY and TYPESIG the new one has. -/
def carriedIn (new : List AppDesc) (d : AppDesc) : Bool := new.any (fun n => n.key == d.key && n.sig == d.sig)

/-- The change table at an offset of the instance store (R266): FROM, TO, LEN. -/
def changeTable (m : List Host.Cell) (off n : Nat) : List (Nat × Nat × Nat) :=
  (List.range n).map (fun i => let a := instBase + off + 12 * i; (memNat m a 4, memNat m (a + 4) 4, memNat m (a + 8) 4))

/-- R261: a carried instance that moves its data, or another new area inside an old one. Of the shared views the change table shows the
parts that it copies: TO ranges in the new one, and in the old one those FROM ranges that lie in no other area (log 38). -/
def Chip.badLayout (u : Chip) (c : Nat) (tableOff n : Nat) : Bool :=
  let m := u.sram c
  let old := u.app c
  let new := appAt m (u.idleBank c)
  let od := old.descs m
  let moved := (new.descs m).any (fun n => od.any (fun d => d.key == n.key && d.sig == n.sig && (d.off != n.off || d.size != n.size)))
  let fresh := ((new.descs m).filter (fun n => !carriedIn od n)).map (fun n => (n.off, n.size))
  let others := (new.tasks m).map (fun t => (t.inOff, 4 * t.inWords)) ++ (new.tasks m).map (fun t => (t.pubOff, 4 * t.pubWords)) ++
    [(new.retOff, 1024 * new.retPages), (tableOff, 12 * n)]
  let table := changeTable m tableOff n
  let view := table.map (fun e => (e.2.1, e.2.2))
  let oldView := (table.map (fun e => (e.1, e.2.2))).filter (fun e => (old.areas m).all (fun a => !overlap e a))
  moved || (fresh ++ others ++ view).any (fun a => (old.areas m ++ oldView).any (overlap a))

/-- R266. The shared views have no place in any table of the application: FROM lies in an old publication buffer or outside every
other old area, TO outside every area of the new application (DEDUCED: log 38). -/
def Chip.badTable (u : Chip) (c : Nat) (t : List (Nat × Nat × Nat)) : Bool :=
  let m := u.sram c
  let old := u.app c
  let new := appAt m (u.idleBank c)
  let pubs := (old.tasks m).map (fun t => (t.pubOff, 4 * t.pubWords))
  let inside := fun (a b : Nat × Nat) => decide (b.1 ≤ a.1 ∧ a.1 + a.2 ≤ b.1 + b.2)
  t.any (fun e => e.2.2 % 4 != 0 || !inDataArea (e.1, e.2.2) || !inDataArea (e.2.1, e.2.2) ||
    !(pubs.any (inside (e.1, e.2.2)) || (old.areas m).all (fun a => !overlap (e.1, e.2.2) a)) ||
    (new.areas m).any (overlap (e.2.1, e.2.2))) ||
  decide (65536 < t.foldl (fun s e => s + e.2.2) 0 ∨ 256 < t.length)

/-- The content of set `k` after the staged change (R265): set 1 is the idle bank, set 4 holds the new LAT_CV, every other set is unchanged.
The initial values of the staged instance-store image are not all in SRAM, since carried instances keep theirs: free bytes (log 32). -/
def Chip.stagedContent (u : Chip) (c latCv k len : Nat) : List Byte :=
  if k = 1 then memReadBytes (u.sram c) (bankBase (u.idleBank c)) len
  else if k = 2 then (List.range len).map (Config.stagedByte (appAt (u.sram c) (u.idleBank c)).appId)
  else ((u.put Reg.LAT_CV.CV latCv).setContent c k len)

/-- The check value over the staged application, the unchanged sets and the new LAT_CV (R265): CRC-64 over the sets with the headers in force
(DESIGN CHOICE: log 32). -/
def Chip.stagedCheck (u : Chip) (c latCv : Nat) : Nat :=
  crcOf crc64 ((u.com.heads.filter (fun h => decide (h.1 ≤ 12))).flatMap (fun h =>
    leBytes 2 h.1 ++ leBytes 2 h.2.1 ++ leBytes 4 h.2.2 ++ u.stagedContent c latCv h.1 h.2.2))

/-- OLC_PREPARE (R265): APP, LAYOUT, TABLE, CHECK in this order. -/
def Chip.olcPrepare (u : Chip) (c : Nat) (e : GateEntry) : CmdResult :=
  let m := u.sram c
  let new := appAt m (u.idleBank c)
  let cv := e.arg 16 8
  let lat := e.arg 24 8
  let n := e.arg 44 4
  let t := changeTable m (e.arg 40 4) (min n 257)
  let got := u.stagedCheck c lat
  if (u.run c).stg.st ≠ 1 then .error 2
  else
    let ok := u.modStg c (fun s => { s with st := 2, tag := e.tag, cv := cv, latCv := lat, weirCv := e.arg 32 8, table := t,
                                            ledger := u.ledger c (u.idleBank c) })
    let ok := ((ok.order c 0xFFFF0001 (e.arg 32 4)).order c 0xFFFF0002 (e.arg 36 4)).order64 c 0x5000604C lat
    firstRefusal [((new.failing m u.appCtx).isSome || u.ledFails c (u.idleBank c), 4), (u.badLayout c (e.arg 40 4) (min n 257), 5),
      (u.badTable c t, 6), (got != cv, 1)] (ok.rtEvent c 0x09 [e.tag, new.appId, got])

/-- Snapshots between releases of every task (R267). -/
def Chip.hyper (u : Chip) (c : Nat) : Nat :=
  let m := u.sram c
  let a := u.app c
  max 1 ((a.task m (a.nTask - 1)).period / max 1 (u.get Reg.WR_CFG.BASE))

/-- Whether the staged change removes or retypes an instance. -/
def Chip.dropsKey (u : Chip) (c key : Nat) : Bool :=
  let m := u.sram c
  let new := (appAt m (u.idleBank c)).descs m
  ((u.app c).descs m).any (fun d => d.key == key && !carriedIn new d)

/-- OLC_SWAP (R267, R268). -/
def Chip.olcSwap (u : Chip) (c : Nat) (e : GateEntry) : CmdResult :=
  let r := u.run c
  let s := e.arg 24 4
  let lead := (s + 2 ^ 32 - r.buf.count % 2 ^ 32) % 2 ^ 32
  if r.stg.st ≠ 2 then .error 2
  else
    let ok := (u.modStg c (fun x => { x with st := 3, swapAt := s, tag := e.tag })).rtEvent c 0x0A [e.tag, s]
    let ok := (ok.order c 0x5000605C s).order c 0x50006060 1
    firstRefusal [(e.arg 16 8 != r.stg.cv, 1), (s % u.hyper c != 0, 7), (decide (lead < 20 ∨ 2 ^ 20 < lead), 8),
      (r.buf.perm.sbState != 5, 9), (r.forces.any (fun f => u.dropsKey c f.ikey), 10)] ok

/-- OLC_ABORT (Table 8.4, R268, Table 8.6): in STAGED the change is dropped; in ARMED the frame with ARM = 0 is sent. -/
def Chip.olcAbort (u : Chip) (c : Nat) : CmdResult :=
  match (u.run c).stg.st with
  | 2 => .ok (u.modStg c (fun _ => {}))
  | 3 => .ok (u.order c 0x50006060 0)
  | _ => .error 2

/-! ### Forcing (R278 to R281) -/

/-- Bytes that a force covers in the instance data. -/
def Force.bytes (f : Force) : Nat := if f.width = 1 then 1 else f.width / 8

/-- FORCE_SET (R278). -/
def Chip.forceSet (u : Chip) (c : Nat) (e : GateEntry) : CmdResult :=
  let r := u.run c
  let m := u.sram c
  let f : Force := ⟨e.arg 16 4, e.arg 20 4, e.arg 24 4, e.arg 28 2, e.arg 30 1, e.arg 31 1, e.arg 32 8, e.tag⟩
  let d := ((u.app c).descs m).find? (fun d => d.key == f.ikey && d.sig == f.sig)
  let size := (d.map (fun d => d.size)).getD 0
  let range := !([1, 8, 16, 32, 64] : List Nat).contains f.width || decide (size < f.offset + f.bytes) || f.offset % (max 1 f.bytes) != 0 ||
    (f.width == 1 && decide (7 < f.bit))
  let replaced := r.forces.any (fun x => x.vkey == f.vkey)
  let l := if replaced then r.forces.map (fun x => if x.vkey = f.vkey then f else x) else r.forces ++ [f]
  if r.buf.maint = false then .error 2
  else firstRefusal [(d.isNone, 12), (range, 3), (!replaced && decide (128 ≤ r.forces.length), 11), (r.stg.st == 3 && u.dropsKey c f.ikey, 10)]
    ((u.modRun c (fun r => { r with forces := l })).rtEvent c 0x0E [e.tag, f.vkey, f.ikey, f.value, lvl replaced])

/-- Forces end for a reason (R280): 1 clear, 2 clear all, 3 strap, 4 restart. -/
def Chip.endForces (u : Chip) (c : Nat) (p : Force → Bool) (tag : Option Nat) (reason : Nat) : Chip :=
  let gone := (u.run c).forces.filter p
  let u := u.modRun c (fun r => { r with forces := r.forces.filter (fun f => !p f) })
  gone.foldl (fun u f => u.rtEvent c 0x0F [tag.getD f.tag, f.vkey, reason]) u

/-! ### Keys, confirmation, activation (20 R558 to R563, R571) -/

/-- CFG_CONFIRM (R558, R559): refused while the ledger is not valid or over, or a connection is BARRED. -/
def Chip.cfgConfirm (u : Chip) (c : Nat) (e : GateEntry) : CmdResult :=
  let r := u.run c
  let barred := (u.conns c false).any (fun n => u.connIs c n 4)
  let ok := (u.modRun c (fun r => { r with confirmed := true })).rtEvent c 0x20 [e.tag, r.cv, r.buf.snap]
  let ok := ((ok.order64 c 0x40700104 r.cv).order c 0xFFFF0010 r.buf.snap).order c 0xFFFF0011 (r.buf.snap / 2 ^ 32)
  let ok := (ok.order c 0xFFFF0012 e.tag).order c 0x40700100 (2 ^ 31)
  firstRefusal [(!u.on Reg.LED_STAT.VALID || u.on Reg.LED_STAT.OVER, 13), (barred, 14)] ok

/-- KEY_LOAD (R562). -/
def Chip.keyLoad (u : Chip) (c : Nat) (e : GateEntry) : CmdResult :=
  let slot := e.arg 16 2
  let phase := e.arg 18 1
  let key := (e.args.drop 4).take 16
  let kcv := e.arg 36 4 % 2 ^ 24
  let ok := (u.sramWrite c (u.keyAt slot phase) key).sramWrite c (u.kcvAt slot phase) (leBytes 4 kcv)
  firstRefusal [(decide (511 < slot ∨ 1 < phase) || u.keyPhase c slot == phase || kcv != kcvOfKey key || kcv == 0, 15)]
    (ok.rtEvent c 0x22 [e.tag, slot, phase, kcv])

/-- A byte with one bit set or cleared. -/
def byteBit (b : Byte) (k v : Nat) : Byte := BitVec.ofNat 8 (setBitsAt b.toNat k 1 v)

/-- KEY_PHASE (R562): the current phase of slot k is bit k of the phase map. -/
def Chip.keyPhaseSet (u : Chip) (c : Nat) (e : GateEntry) : CmdResult :=
  let slot := e.arg 16 2
  let phase := e.arg 18 1
  let clear := e.arg 19 1
  let a := u.keyBase + 24576 + slot / 8
  let ok := u.sramWrite c a [byteBit (memRead (u.sram c) a) (slot % 8) phase]
  let ok := if clear = 1 then (ok.sramWrite c (u.keyAt slot (1 - phase)) (List.replicate 16 0)).sramWrite c (u.kcvAt slot (1 - phase)) (leBytes 4 0) else ok
  firstRefusal [(decide (511 < slot ∨ 1 < phase) || u.kcvOf c slot phase == 0, 15)] (ok.rtEvent c 0x23 [e.tag, slot, phase, clear])

/-- T_act in ticks (R571): ⌈(ACTIVATE_AT − TM_OFF) ÷ 10⌉. -/
def Chip.actTicks (u : Chip) (at' : Nat) : Int := -(((signed 64 (u.get Reg.TM_OFF.OFF)) - (at' : Int)) / 10)

/-- FW_ACTIVATE (R571). -/
def Chip.fwActivate (u : Chip) (c : Nat) (e : GateEntry) : CmdResult :=
  let at' := e.arg 24 8
  let t := u.actTicks at'
  let lead := t - ((u.run c).buf.snap : Int)
  let slot := e.arg 16 1
  let ok := (u.modRun c (fun r => { r with fwTag := e.tag })).rtEvent c 0x24 [e.tag, slot, at', t.toNat]
  let ok := (ok.order64 c 0x4070010C (t.toNat % 2 ^ 64)).order c 0x40700114 (2 ^ 31 + slot % 2)
  firstRefusal [(!u.on Reg.TM_STAT.LOCKED || decide (lead < (sec 2 : Nat) ∨ ((sec 2592000 : Nat) : Int) < lead), 16)] ok

/-- FW_CANCEL (R571). -/
def Chip.fwCancel (u : Chip) (c : Nat) (e : GateEntry) : Chip :=
  (u.order c 0x40700114 0).rtEvent c 0x25 [e.tag, 1]

/-! ### Processing (R262) -/

/-- The effect of one command, once its CV has been compared; the reset commands are ignored (01 R25). -/
def Chip.cmdEffect (u : Chip) (c : Nat) (e : GateEntry) : CmdResult :=
  let maint := (u.run c).buf.maint
  match e.code with
  | 0x0101 => u.olcBegin c
  | 0x0102 => u.olcLoad c e
  | 0x0103 => u.olcPrepare c e
  | 0x0104 => u.olcSwap c e
  | 0x0105 => u.olcAbort c
  | 0x0201 => u.forceSet c e
  | 0x0202 => .ok (u.endForces c (fun f => f.vkey == e.arg 16 4) (some e.tag) 1)
  | 0x0203 => .ok (u.endForces c (fun _ => true) (some e.tag) 2)
  | 0x0301 => .ok (u.order64 c 0x4040005C (e.arg 16 8))
  | 0x0302 => .ok (u.order c 0x40500048 (e.arg 16 2))
  | 0x0303 => .ok (u.order c (0x40B00100 + e.arg 16 1 * 0x4000) (2 ^ 31 + e.arg 18 1 % 8 * 2 ^ 8 + e.arg 17 1 % 32))
  | 0x0401 => u.cfgConfirm c e
  | 0x0402 => u.keyLoad c e
  | 0x0403 => u.keyPhaseSet c e
  | 0x0404 => u.fwActivate c e
  | 0x0405 => .ok (u.fwCancel c e)
  | 0x0601 => if maint then .ok (u.order c (e.arg 16 4 + 0x28) (e.arg 20 4)) else .error 2
  | _ => .ok u

/-- One command of the input image (R262): refused with CHECK where its CV differs from the check value in force. -/
def Chip.cmdProcess (u : Chip) (c : Nat) (e : GateEntry) : Chip :=
  let refuse := fun (st : Nat) => u.rtEvent c 0x08 [e.tag, e.code, st]
  if 0x0501 ≤ e.code ∧ e.code ≤ 0x0503 then u
  else if e.cv ≠ (u.run c).cv then refuse 1
  else match u.cmdEffect c e with
    | .ok v => v
    | .error st => refuse st

end Sys2Proof.Machine
end

