-- ==== Sys2Proof/Machine/Runtime.lean ====
section
/-!
DEFINITION. The function-block runtime of a channel (chapter 07): the snapshot handover, dispatch, delivery, the retained
store, and the swap of an on-line change (08 R270 to R277).
-/
namespace Sys2Proof.Machine

/-! ### Tasks -/

/-- A task of the runtime. -/
def Chip.task (u : Chip) (c t : Nat) : RTask := (u.run c).tasks.getD t {}

/-- Changes a task. -/
def Chip.modTask (u : Chip) (c t : Nat) (g : RTask → RTask) : Chip := u.modRun c (fun r => { r with tasks := modAt r.tasks t g })

/-- Number of tasks of the application in force. -/
def Chip.nTask (u : Chip) (c : Nat) : Nat := min (u.app c).nTask 8

/-- The period of a task in snapshots. -/
def Chip.taskCycles (u : Chip) (c t : Nat) : Nat :=
  max 1 (((u.app c).task (u.sram c) t).period / max 1 (u.get Reg.WR_CFG.BASE))

/-- The present base cycle is the final one of a running release (R234). -/
def Chip.finalCycle (u : Chip) (c t : Nat) : Bool :=
  match (u.task c t).release with
  | some k => k + u.taskCycles c t == (u.run c).buf.count + 1
  | none => false

/-- Whether the runtime of a channel dispatches and delivers: ACTIVE, no safe state, no trap (R240, R241). -/
def Chip.runs (u : Chip) (c : Nat) : Bool :=
  u.chState c == 3 && !u.on Reg.WR_STAT.SAFE && u.get Reg.CF_MODE.MODE != 0 && !(u.run c).trapped && (u.run c).begun

/-! ### Retained store (R254, R255, R636) -/

/-- The retained data of a library block (Table 7.14). -/
def retainData (b : Blk) : Option Blk :=
  if b.lib ≤ 3 then some { key := b.key, lib := b.lib, st := b.st, deadline := b.deadline, ptSt := b.ptSt }
  else if b.lib = 6 ∨ b.lib = 7 then some { key := b.key, lib := b.lib, cv := b.cv }
  else if b.lib = 8 ∨ b.lib = 9 then some { key := b.key, lib := b.lib, q := b.q }
  else if b.lib = 0x20 then some { key := b.key, lib := b.lib, locked := b.locked }
  else if b.lib = 0x24 then some { key := b.key, lib := b.lib, st := b.st, deadline := b.deadline, ptSt := b.ptSt, q := b.q }
  else none

/-- The library code of a type, 0 for a user type. -/
def Chip.libOf (u : Chip) (c sig : Nat) : Nat := ((((u.app c).types (u.sram c)).find? (fun y => y.sig == sig)).map (fun y => y.lib)).getD 0

/-- The RETAIN data of an instance now (R636): of a library block those of Table 7.14, of a user type the bytes of its RETAIN variables. -/
def Chip.retainOf (u : Chip) (c : Nat) (d : AppDesc) : Option Blk :=
  if u.libOf c d.sig = 0 then
    some { key := d.key, lib := 0, bytes := (Config.retainBytes d.sig).map (fun o => (o, memRead (u.sram c) (instBase + d.off + o))) }
  else ((u.run c).blocks.find? (fun b => b.key == d.key)).bind retainData

/-- The RETAIN data of task `t`'s instances go into the retained store (R237). -/
def Chip.retainCopy (u : Chip) (c t : Nat) : Chip :=
  let ds := ((u.app c).descs (u.sram c)).filter (fun d => d.retain && d.task == t)
  let new := ds.filterMap (u.retainOf c)
  u.modRun c (fun r => { r with saved := r.saved.filter (fun b => !ds.any (fun d => d.key == b.key)) ++ new })

/-- The retained data that page `k` holds: those of the instances that its descriptors place there, in their order. -/
def Chip.pageVals (u : Chip) (c k : Nat) : List Blk :=
  let ds := ((u.app c).descs (u.sram c)).filter (fun d => d.retain && d.rpage == k)
  ds.filterMap (fun d => (u.run c).saved.find? (fun b => b.key == d.key))

/-- Composes a page at a snapshot: header and data (R254), in the retained store of the instance store. The page that it replaces may
still be on its way to the management plane. -/
def Chip.composePage (u : Chip) (c k gen : Nat) : Chip :=
  let r := u.run c
  let vals := u.pageVals c k
  let data := beBytes 4 k ++ beBytes 4 gen ++ beBytes 8 r.cv ++ (List.range 1008).map (Config.pageByte 0 k (vals.flatMap Blk.nums))
  let u := u.sramWrite c (instBase + (u.app c).retOff + 1024 * k) data
  u.modRun c (fun r => { r with pages := r.pages.filter (fun p => p.page != k) ++ [PageOut.mk k gen data vals],
                                past := r.past ++ r.pages.filter (fun p => p.page == k)
                                changed := addNew k r.changed })

/-- The pages whose retained data have changed since they were composed are composed anew (R237). -/
def Chip.retainUpdate (u : Chip) (c gen : Nat) : Chip :=
  (List.range (min (u.app c).retPages 64)).foldl (fun u k =>
    match (u.run c).pages.find? (fun p => p.page == k) with
    | some p => if p.vals == u.pageVals c k then u else u.composePage c k gen
    | none => u.composePage c k gen) u

/-- The pages that a task-0 delivery sends: changed ones in ascending order, then the others in rotation (R255). -/
def Chip.retainPick (u : Chip) (c : Nat) : List Nat × Nat :=
  let r := u.run c
  let n := min (u.app c).retPages 64
  let changed := (List.range n).filter (fun k => r.changed.contains k)
  let first := changed.take (u.app c).retRate
  let rest := ((List.range n).map (fun i => (r.rot + i) % n)).filter (fun k => !changed.contains k)
  let more := rest.take ((u.app c).retRate - first.length)
  (first ++ more, match more.getLast? with
    | some k => (k + 1) % n
    | none => r.rot)

/-! ### Publication (R237) -/

/-- Publishes the tasks whose period has ended, in ascending order, and takes their retained variables. -/
def Chip.publish (u : Chip) (c count : Nat) : Chip :=
  let m := u.sram c
  let a := u.app c
  let u := (List.range (u.nTask c)).foldl (fun u t =>
    let x := u.task c t
    if x.done && x.release.isNone && count % u.taskCycles c t == 0 then
      let d := a.task m t
      ((u.modRun c (fun r => { r with shared := assocPut r.shared t (memReadBytes m (instBase + d.pubOff) (4 * d.pubWords)) })).modTask c t
        (fun x => { x with done := false })).retainCopy c t
    else u) u
  u.retainUpdate c count

/-! ### The snapshot buffer (Table 7.5) -/

/-- The snapshot buffer of this snapshot. Inputs and readback are those of the sample taken at the snapshot instant (09 R287, 10 R316);
where none has been taken, as they stand. -/
def Chip.snapBuf (u : Chip) (c : Nat) : SnapBuf :=
  let r := u.run c
  let snap := u.get Reg.WR_SNAP.SNAP
  let live : SinResult := ⟨snap, u.get Reg.SIN_LOG.VAL, u.get Reg.SIN_NORM.VAL, (List.range 64).map (fun n => (u.sinIn n).edge)⟩
  let at' := snap / 1000 * 1000
  let x := if u.sin.result.time = at' then u.sin.result else live
  let fb := if u.sout.sampled.1 = at' then u.sout.sampled.2 else u.get Reg.SOUT_FBV.VAL
  { snap := snap, count := u.get Reg.WR_SNAPCNT.COUNT, restart := if r.begun then 0 else r.restart
    maint := u.on Reg.WR_STAT.MAINT, swapped := u.lat.buffer.swapped, mask := u.get Reg.CF_MODE.MASK, mode := u.get Reg.CF_MODE.MODE
    sinVal := x.val, sinStat := x.stat, readback := fb
    lockout := maskOf ((List.range 32).filter (fun n => u.outState n == 6))
    edges := x.edges, perm := u.lat.buffer, cmds := u.gate.placed, rx := r.conns }

/-! ### The batch (R368, R369) -/

/-- Frames of the batch before the last one, in engine order, then the stale check of every RX connection. -/
def Chip.zstBatch (u : Chip) (c : Nat) : Chip :=
  let now := u.alignedTimeAt
  let r := u.run c
  let due := r.pre.filter (fun p => decide (p.batch + 2 ≤ u.zst.batch))
  let u := u.modRun c (fun r => { r with pre := r.pre.filter (fun p => !decide (p.batch + 2 ≤ u.zst.batch))
                                         conns := r.conns.map (fun e => (e.1, { e.2 with newGaps := 0, slots := [] })) })
  let u := due.foldl (fun u p =>
    let j := u.judgeFrame c now p
    if !j.1 then j.2
    else if 3 ≤ frKind p.bytes then j.2.pairFrame c p.conn p.bytes
    else
      let v := j.2.accepted c p.conn p.bytes
      if v.isPartner && p.conn == v.get Reg.PR_MIR.RX && frKind p.bytes == 0 && frLen p.bytes == 1024 then
        v.modPair c (fun x => { x with inbox := x.inbox ++ [(frTs p.bytes, frPayload p.bytes)] })
      else v) u
  (u.conns c false).foldl (fun u n => u.staleCheck c now n) u

/-! ### The first base cycle (R343; 20 R554, R560; 13 R400) -/

/-- What a channel computes in its first base cycle after entry to ACTIVE. -/
def Chip.firstCycle (u : Chip) (c : Nat) : Chip :=
  let cv := u.checkValue c
  let u := (u.modRun c (fun r => { r with cv := cv, begun := true })).order64 c 0x40700104 cv
  let why := if u.on Reg.CFG_STAT.DEFAULTS then 3 else match u.com.record with
    | none => 1
    | some x => if x.cv = cv then 0 else 2
  let u := if why = 0 then (u.modRun c (fun r => { r with confirmed := true })).order c 0x40700100 (2 ^ 31) else u.rtEvent c 0x21 [why]
  let l := u.ledger c (u.run c).bank
  let u := (u.ledOrder c l).ledEvents c l
  if u.isWitness && u.ret.epochEmmc == 0 then u.rtEvent c 0x3E [u.get Reg.ZST_CLAIM.EPOCH] else u

/-- STOFF at the first snapshot with a valid measurement (14 R422): TM_OFF in ticks, to the nearest multiple of the base
period. -/
def Chip.stoffForm (u : Chip) (c : Nat) : Chip :=
  if u.on Reg.WR_STAT.STOFF_SET || !u.on Reg.TM_STAT.VALID || (u.run c).writes.any (fun w => w.1 == 0x40600084) then u
  else
    let b := max 1 (u.get Reg.WR_CFG.BASE * 25000)
    let v := pattern 64 ((signed 64 (u.get Reg.TM_OFF.OFF) + 5 * b) / (10 * b) * b)
    (u.order64 c 0x5000205C v).order64 c 0x40600084 v

/-! ### Swap (08 R269 to R277, Table 8.5) -/

/-- Counts carried, new, removed and retyped instances (Table 8.7). -/
def swapCounts (old new : List AppDesc) : List Nat :=
  let carried := (old.filter (carriedIn new)).length
  let retyped := (old.filter (fun d => !carriedIn new d && new.any (fun n => n.key == d.key))).length
  [carried, new.length - carried - retyped, old.length - carried - retyped, retyped]

/-- The program swap of a channel at S: steps 4 and 5 of Table 8.5. The new shared view starts with the values that the change table copies
and, elsewhere, those of the data load (R277): they stand in the data area. -/
def Chip.swapProgram (u : Chip) (c : Nat) : Chip :=
  let m := u.sram c
  let r := u.run c
  let old := u.app c
  let new := appAt m (u.idleBank c)
  let od := old.descs m
  let nd := new.descs m
  let gone := od.filter (fun d => !carriedIn nd d)
  let removed := gone.map (fun d => (d.key, d.sig, nd.any (fun n => n.key == d.key)))
  let tasks := (r.tasks.zipIdx).map (fun e => { e.1 with image := e.1.image &&& old.ownMask m e.2 &&& new.ownMask m e.2 })
  -- 08 R276, R277: carried timers and carried ROUTEs of CHANGED routes
  let carry := fun (b : Blk) =>
    if b.lib = 0x20 then
      let hit := u.lat.changed.testBit b.value || (b.locked && !r.buf.perm.lock.testBit b.value)
      { b with locked := b.locked && !hit, carried := b.carried || hit }
    else { b with carried := true }
  let u := r.stg.table.foldl (fun u e => u.sramWrite c (instBase + e.2.1) (memReadBytes (u.sram c) (instBase + e.1) e.2.2)) u
  let u := u.modRun c (fun r => { r with
    bank := 1 - r.bank, stg := {}, cv := r.stg.cv, shared := [], tasks := tasks, removed := removed, pages := [], changed := [], past := r.past ++ r.pages
    swapNote := some ([r.buf.count, new.appId] ++ swapCounts od nd)
    saved := r.saved.filter (fun b => !gone.any (fun d => d.key == b.key))
    blocks := (r.blocks.filter (fun b => !gone.any (fun d => d.key == b.key))).map carry
    forces := r.forces.filter (fun f => !gone.any (fun d => d.key == f.ikey)) })
  (u.retainUpdate c r.buf.count).ledOrder c r.stg.ledger

/-- The staging at a snapshot: the swap where the return shows SWAPPED, back to STAGED where S has passed without it (R269). -/
def Chip.swapStep (u : Chip) (c : Nat) : Chip :=
  let r := u.run c
  if r.stg.st ≠ 3 then u
  else if r.buf.swapped then u.swapProgram c
  else if r.buf.count = r.stg.swapAt then (u.modStg c (fun s => { s with st := 2 })).rtEvent c 0x0C [r.buf.count, r.buf.perm.result]
  else u

/-- INST_REMOVED, at most 64 in a base cycle (R275). -/
def Chip.removedEvents (u : Chip) (c : Nat) : Chip :=
  let l := (u.run c).removed
  let u := u.modRun c (fun r => { r with removed := r.removed.drop 64 })
  (l.take 64).foldl (fun u e => u.rtEvent c 0x0D [e.1, e.2.1, lvl e.2.2]) u

/-- SWAP_DONE, after the gate commands of S (Table 8.5 steps 6 and 7). -/
def Chip.swapDone (u : Chip) (c : Nat) : Chip :=
  match (u.run c).swapNote with
  | some l => (u.modRun c (fun r => { r with swapNote := none })).rtEvent c 0x0B l
  | none => u

/-! ### Halting for sleep (19 R535) -/

/-- Whether the runtime halts at the end of this base cycle. -/
def Chip.haltsNow (u : Chip) (c : Nat) : Bool :=
  let r := u.run c
  let m := u.hyper c
  u.on (Reg.CH_CSN.NOTICE c) && r.buf.count % m == m - 1 && (r.stg.st == 0 || r.stg.st == 2) &&
  (List.range 32).all (fun n => !u.outUsed n ||
    (r.tasks.all (fun t => !t.image.testBit (u.get (Reg.SOUT_CFG.BIT n))) && (!r.buf.readback.testBit n || r.buf.lockout.testBit n)))

/-- The halt, once every delivery of the base cycle has been made: READY, and both twins in WFI. -/
def Chip.haltDone (u : Chip) (c : Nat) : Chip :=
  let r := u.run c
  if r.halting && (List.range (u.nTask c)).all (fun t => !u.finalCycle c t) then
    let u := u.modRun c (fun r => { r with halting := false })
    (u.put (Reg.CH_CSN.READY c) 1).modChan c (fun h => { h with logic := { h.logic with halted := true }, link := { h.link with halted := true } })
  else u

/-! ### SNAPSHOT_HANDOVER (R242) -/

/-- The releases of a snapshot (R233; 05 R159). A release that has not delivered keeps its task: Weir takes such a channel out (R233). -/
def Chip.releaseTasks (u : Chip) (c : Nat) : Chip :=
  let b := (u.run c).buf
  (List.range (u.nTask c)).foldl (fun u t =>
    if b.count % u.taskCycles c t = 0 ∧ (u.task c t).release = none then
      u.modTask c t (fun x => { x with release := some b.count, snap := b.snap, reached := none, done := false })
    else u) u

/-- What the logic twin does after the handover and before any dispatch (Table 7.4 step 3, Table 8.5). -/
def Chip.snapWork (u : Chip) (c : Nat) : Chip :=
  let u := u.publish c (u.run c).buf.count
  let u := u.swapStep c
  let u := if (u.run c).buf.maint then u else u.endForces c (fun _ => true) none 3
  let u := u.pairSnapshot c
  let u := (u.run c).buf.cmds.foldl (fun u e => u.cmdProcess c e) u
  (((u.stoffForm c).releaseTasks c).removedEvents c).swapDone c

/-- The own transmit SEQs at the last 8 snapshots (13 R399). -/
def Chip.seqRemember (u : Chip) (c : Nat) : Chip :=
  let now := u.alignedTimeAt
  let seqs := (u.conns c true).map (fun n => (n, (u.connSt c n).txSeq))
  u.modPair c (fun p => let l := p.seqHist ++ [(now, seqs)]; { p with seqHist := l.drop (l.length - 8) })

/-- Whether the link twin can hand over: its firmware executes, and every earlier store of it has committed (03 R61). -/
def Chip.linkReady (u : Chip) (c : Nat) : Bool :=
  u.twinReady c 1 && (u.chan c).link.lead.fill == [] && (u.chan c).link.lead.drain == []

/-- SNAPSHOT_HANDOVER (R242): the link twin of channel `c` completes the snapshot buffer, once per snapshot and once the permission
return of the snapshot has come (R214), and hands it over through the mailbox. -/
def Chip.handover (u : Chip) (c : Nat) : Chip :=
  let r := u.run c
  let k := u.get Reg.WR_SNAPCNT.COUNT
  if u.chState c ≠ 3 ∨ u.lat.buffer.seq ≠ k ∨ (r.begun = true ∧ r.buf.count = k) ∨ u.linkReady c = false then u
  else
    let u := (u.zstBatch c).seqRemember c
    let u := u.modRun c (fun r => { r with buf := u.snapBuf c, prev := r.buf })
    let u := (u.modChan c (fun h => { h with mailbox := some k })).chanIrq c 120
    let u := if r.begun then u else u.firstCycle c
    if !u.runs c then u
    else
      let u := u.snapWork c
      (u.modRun c (fun r => { r with halting := u.haltsNow c })).haltDone c

def execSnapshotHandover (c : Nat) (s : State) : Host.Outcome State Fault Refusal := s.become (s.chip.handover c)

/-! ### TASK_DISPATCH (R233, R236, R237) -/

/-- Whether the logic twin of a channel executes the runtime: after the handover of the present snapshot, its last store window compared
(R233, R239). -/
def Chip.logicReady (u : Chip) (c : Nat) : Bool := u.runs c && u.twinReady c 0 && (u.run c).buf.count == u.get Reg.WR_SNAPCNT.COUNT

/-- A task has work: instances to call, or a delivery in its final base cycle (R233, R234). -/
def Chip.hasWork (u : Chip) (c t : Nat) : Bool := (u.task c t).release.isSome && (!(u.task c t).done || u.finalCycle c t)

/-- The highest-priority task with work, where that is instances to call. -/
def Chip.nextTask (u : Chip) (c : Nat) : Option Nat :=
  match (List.range (u.nTask c)).find? (u.hasWork c) with
  | some t => if (u.task c t).done then none else some t
  | none => none

/-- The forced bits of a force are written into its instance's data (08 R279). -/
def Chip.applyForce (u : Chip) (c : Nat) (ds : List AppDesc) (f : Force) : Chip :=
  match ds.find? (fun d => d.key == f.ikey && d.sig == f.sig) with
  | some d =>
    let a := instBase + d.off + f.offset
    if f.width = 1 then u.sramWrite c a [byteBit (memRead (u.sram c) a) f.bit (f.value % 2)]
    else u.sramWrite c a (leBytes f.bytes f.value)
  | none => u

/-- A lattice object takes a new value (R253): restrictive and permissive changes wait for an update word. -/
def RTask.setObj (t : RTask) (o : LObj) (v : Nat) : RTask :=
  let old := ((t.objs.find? (fun (e : LObj × Nat) => e.1 == o)).map (fun e => e.2)).getD 0
  if v = old then t
  else
    let t := { t with objs := t.objs.filter (fun (e : LObj × Nat) => e.1 != o) ++ [(o, v)] }
    let r := t.restrictive.filter (fun x => x != o)
    let p := t.permissive.filter (fun (e : LObj × Nat) => e.1 != o)
    if v = 0 then { t with restrictive := r ++ [o], permissive := p } else { t with restrictive := r, permissive := p ++ [(o, v)] }

/-- A request word enters the queue of its task, or is dropped with REQ_QUEUE_FULL (R252). -/
def Chip.queueRequest (u : Chip) (c t w : Nat) : Chip :=
  if (u.task c t).queue.length < 64 then u.modTask c t (fun x => { x with queue := x.queue ++ [w] })
  else u.rtEvent c 0x04 [t, w % 2048]

/-- Whether a request for a route waits in a queue. -/
def routeWaits (q : List Nat) (n : Nat) : Bool := q.any (fun w => w % 2048 == n % 2048)

/-- QUEUED of a ROUTE instance (R637): `q` of its block. -/
def Chip.showQueued (u : Chip) (c key : Nat) (q : Bool) : Chip :=
  u.modRun c (fun r => { r with blocks := r.blocks.map (fun b => if b.key = key ∧ b.lib = 0x20 then { b with q := q } else b) })

/-- QUEUED falls at the delivery that carries the last request of a route (R637). -/
def Chip.dropQueued (u : Chip) (c : Nat) (sent rest : List Nat) : Chip :=
  u.modRun c (fun r => { r with blocks := r.blocks.map (fun b =>
    if b.lib = 0x20 ∧ routeWaits sent b.value = true ∧ routeWaits rest b.value = false then { b with q := false } else b) })

/-- One instance call of a release. -/
def Chip.callBlk (u : Chip) (c t : Nat) (k : BlkCall) : Chip :=
  let x := u.task c t
  let b := ((u.run c).blocks.find? (fun b => b.key == k.key && b.lib == blkLib k.inp)).getD { key := k.key, lib := blkLib k.inp }
  let door := fun key => (((u.run c).blocks.find? (fun y => y.key == key && y.lib == 0x26)).map (fun y => y.q && !y.r)).getD false
  let o := blkCall x.snap x.input door b k.inp
  let u := u.modRun c (fun r => { r with blocks := r.blocks.filter (fun y => y.key != k.key) ++ [o.blk] })
  let u := u.rtEvents c o.events
  let room := (u.task c t).queue.length + o.reqs.length
  let u := o.reqs.foldl (fun u w => u.queueRequest c t w) u
  let u := match k.inp with
    | .route n _ _ => u.showQueued c k.key (decide (room ≤ 64) && routeWaits (u.task c t).queue n)
    | _ => u
  match o.obj with
  | some e => u.modTask c t (fun x => x.setObj e.1 e.2)
  | none => u

/-- One descriptor of a release: the forces of its instance before and after the call (08 R279), and the call where it is a library block. -/
def Chip.callDesc (u : Chip) (c t : Nat) (calls : List BlkCall) (d : AppDesc) : Chip :=
  let fs := (u.task c t).forces.filter (fun f => f.ikey == d.key)
  let force := fun (u : Chip) => fs.foldl (fun u f => u.applyForce c [d] f) u
  let u := force u
  let u := match calls.find? (fun k => k.key == d.key && u.libOf c d.sig == blkLib k.inp) with
    | some k => u.callBlk c t k
    | none => u
  force u

/-- The four areas that a task may write (R236): its instances' data, its input copy, its publication buffer, its stack. -/
def Chip.taskAreas (u : Chip) (c t : Nat) : List (Nat × Nat) :=
  let m := u.sram c
  let a := u.app c
  let d := a.task m t
  let ds := (a.descs m).filter (fun d => d.task == t)
  let lo := ds.foldl (fun x d => min x d.off) 0x300000
  let hi := ds.foldl (fun x d => max x (d.off + d.size)) 0
  [(instBase + min lo hi, instBase + hi), (instBase + d.inOff, instBase + d.inOff + 4 * d.inWords),
   (instBase + d.pubOff, instBase + d.pubOff + 4 * d.pubWords), (0x10701000 + t * 0x1E00, 0x10701000 + (t + 1) * 0x1E00)]

/-- PMP words of a task (R236): TOR pairs 0 to 7 permit reads and writes of its areas, pair 8 and 9 reads and execution in the whole channel
SRAM; the data of its instances are taken as one range (DESIGN CHOICE: log 120). Words 39 to 58 of a core. -/
def pmpWords (l : List (Nat × Nat)) : List Nat :=
  let addrs := l.flatMap (fun e => [e.1 / 4, e.2 / 4]) ++ [0x10000000 / 4, 0x10800000 / 4]
  [0x0B000B00, 0x0B000B00, 0x00000D00, 0] ++ addrs ++ List.replicate (16 - addrs.length) 0

/-- A core with PMP words, now and at its checkpoint: the runtime sets them up again when it executes again. -/
def Core.pmp (k : Core) (w : List Nat) : Core :=
  let put := fun (g : Nat → Nat) (l : List Nat) => l.take 39 ++ w.map g ++ l.drop (39 + w.length)
  { k with arch := put id k.arch, committed := { k.committed with words := put shadowWord k.committed.words } }

/-- The PMP of the logic twin's cores at a dispatch. -/
def Chip.pmpProgram (u : Chip) (c t : Nat) : Chip :=
  let w := pmpWords (u.taskAreas c t)
  u.modTwin c 0 (fun x => { x with lead := x.lead.pmp w, trail := x.trail.pmp w })

/-- A release is dispatched (R236, R237, R242, R244): PMP, input copy from the snapshot buffer of the release with the receive entries of
its own connections, shared view, forces. -/
def Chip.begin (u : Chip) (c t k : Nat) : Chip :=
  let r := u.run c
  let ds := ((u.app c).descs (u.sram c)).filter (fun d => d.task == t)
  let fs := r.forces.filter (fun f => ds.any (fun d => d.key == f.ikey))
  let b := if (r.buf.count + k) % 2 = 0 then r.buf else r.prev
  let b := { b with rx := b.rx.filter (fun e => (u.connRec c e.1).task == t) }
  (u.pmpProgram c t).modTask c t (fun x => { x with input := b, view := r.shared, forces := fs, reached := some 0 })

/-- TASK_DISPATCH (R233): the highest-priority task with work is dispatched, or resumes after a preemption; its instances follow in
descriptor order, up to the end or to the last call before the next preemption. -/
def Chip.dispatch (u : Chip) (c : Nat) (d : DispatchOp) : Chip :=
  match if u.logicReady c then u.nextTask c else none with
  | none => u
  | some t =>
    let x := u.task c t
    let u := match x.release, x.reached with
      | some k, none => u.begin c t k
      | _, _ => u
    let from' := x.reached.getD 0
    let ds := (((u.app c).descs (u.sram c)).zipIdx).filter (fun e => e.1.task == t && decide (from' ≤ e.2))
    let called := ds.filter (fun e => d.calls.any (fun k => k.key == e.1.key))
    let stop := ((called.getLast?).map (fun e => e.2 + 1)).getD from'
    let run := if d.preempted then ds.filter (fun e => decide (e.2 < stop)) else ds
    let u := run.foldl (fun u e => u.callDesc c t d.calls e.1) u
    u.modTask c t (fun x => if d.preempted then { x with reached := some stop } else { x with done := true })

def execTaskDispatch (c : Nat) (d : DispatchOp) (s : State) : Host.Outcome State Fault Refusal := s.become (s.chip.dispatch c d)

/-- APP_TRAP (R240): an exception in application code stops dispatch and delivery in channel `c`. -/
def execAppTrap (c t mcause mepc key : Nat) (s : State) : Host.Outcome State Fault Refusal :=
  let u := s.chip
  s.become (if u.runs c then (u.modRun c (fun r => { r with trapped := true })).rtEvent c 0x06 [t, mcause, mepc, key] else u)

/-! ### Update and request words (R252, R253) -/

/-- Form-1 and form-2 update words (06 Table 6.6). -/
def updOne (o : LObj) (v : Nat) : Nat := 2 ^ 30 + o.kind * 2 ^ 28 + v % 4 * 2 ^ 24 + o.index % 4096
def updRange (o : LObj) (n : Nat) : Nat := if n = 1 then updOne o 0 else 2 ^ 31 + o.kind * 2 ^ 28 + (n - 1) * 2 ^ 12 + o.index % 4096

/-- Runs of consecutive indices of one kind: first object and count. -/
def updRuns : List LObj → List (LObj × Nat)
  | [] => []
  | o :: t => match updRuns t with
    | (p, n) :: rest => if p.kind = o.kind ∧ p.index = o.index + 1 then (o, n + 1) :: rest else (o, 1) :: (p, n) :: rest
    | [] => [(o, 1)]

/-- The objects of a run. -/
def runObjs (e : LObj × Nat) : List LObj := (List.range e.2).map (fun i => ⟨e.1.kind, e.1.index + i⟩)

/-- The update words of a delivery and the task after it: restrictive changes, permissive changes, refresh (R253). `all` are the
task's objects in table order. -/
def RTask.updates (t : RTask) (all : List LObj) (cnt : Nat) : List Nat × RTask :=
  let runs := (updRuns t.restrictive).take cnt
  let n1 := runs.length
  let perm := t.permissive.take (cnt - n1)
  let n2 := n1 + perm.length
  let sent := runs.flatMap runObjs ++ perm.map (fun e => e.1)
  let idx := (List.range all.length).map (fun i => (t.rot + i) % max 1 all.length)
  let ref := (idx.filter (fun i => match all[i]? with
    | some o => !sent.contains o
    | none => false)).take (cnt - n2)
  let val := fun (o : LObj) => ((t.objs.find? (fun (e : LObj × Nat) => e.1 == o)).map (fun e => e.2)).getD 0
  let words := runs.map (fun e => updRange e.1 e.2) ++ perm.map (fun e => updOne e.1 e.2) ++
    ref.filterMap (fun i => (all[i]?).map (fun o => updOne o (val o)))
  (words, { t with
    restrictive := t.restrictive.filter (fun o => !sent.contains o), permissive := t.permissive.drop perm.length
    rot := match ref.getLast? with
      | some i => (i + 1) % max 1 all.length
      | none => t.rot })

/-- An image with words put at consecutive places. -/
def imgWords (img base : Nat) (l : List Nat) : Nat := (l.zipIdx).foldl (fun v e => imgPut v (base + e.2) e.1) img

/-! ### Time-triggered outputs (R246) -/

/-- One output's apply time: its bit and apply word in the image, and whether it is rejected. `prev` is the task's image before. -/
def Chip.applyOutput (u : Chip) (snap prev img n time : Nat) : Nat × Bool :=
  let w := u.get (Reg.SOUT_CFG.APPLY_WORD n)
  let b := u.get (Reg.SOUT_CFG.BIT n)
  if time = 0 then (imgPut img w 0, false)
  else if time < snap ∨ snap + 2 ^ 30 ≤ time then
    (imgPut (setBitsAt img b 1 (lvl (prev.testBit b))) w (imageWord prev w), true)
  else (imgPut img w (if time % 2 ^ 32 = 0 then 1 else time % 2 ^ 32), false)

/-- The apply words of a delivery of task `t`, with TT_RANGE for each rejected time: every time-triggered output whose bit the task owns; one
for which the program gives no time changes at once. -/
def Chip.applyTimes (u : Chip) (c t snap prev : Nat) (l : List (Nat × Nat)) (img : Nat) : Nat × Chip :=
  let mine := fun n => u.outUsed n && u.on (Reg.SOUT_CFG.TT n) && (u.app c).owner (u.sram c) (u.get (Reg.SOUT_CFG.BIT n)) == some t
  ((List.range 32).filter mine).foldl (fun (a : Nat × Chip) n =>
    let time := assoc l n 0
    let r := a.2.applyOutput snap prev a.1 n time
    (r.1, if r.2 then a.2.rtEvent c 0x05 [n, time % 2 ^ 32] else a.2)) (img, u)

/-! ### Frames of a delivery (12 R359, R360) -/

/-- A frame without its code (Table 12.1). -/
def frameBody (kind flags len src dst seq ts claim cid : Nat) (p : List Byte) : List Byte :=
  beBytes 1 (16 + kind % 16) ++ beBytes 1 flags ++ beBytes 2 len ++ beBytes 4 src ++ beBytes 4 dst ++ beBytes 4 seq ++ beBytes 8 ts ++
    beBytes 4 claim ++ beBytes 2 cid ++ beBytes 2 0 ++ p

/-- The link twin builds and codes a frame on connection `n` (R360); the transmit SEQ advances. -/
def Chip.buildFrame (u : Chip) (c n kind : Nat) (p : List Byte) : List Byte × Chip :=
  let r := u.connRec c n
  let s := u.connSt c n
  let kp := if r.cmac then u.keyPhase c r.key else 0
  let body := frameBody kind (lvl (!s.begun) * 128 + kp * 64) p.length (u.get Reg.ZST_ID.ID) r.peer s.txSeq u.alignedTimeAt u.claim
    (u.useCid c n) p
  (body ++ beBytes 8 (u.codeOf c n kp body), u.modConn c n (fun x => { x with txSeq := (x.txSeq + 1) % 2 ^ 32, begun := true }))

/-- The message words of a frame: descriptor and bytes (04 R103; log 13). -/
def msgOf (lg : Bool) (n : Nat) (f : List Byte) : List Nat :=
  (lvl lg * 2 ^ 31 + n % 512 * 2 ^ 16 + f.length) :: (List.range ((f.length + 3) / 4)).map (fun i => leAt f (4 * i) 4)

/-- Whether an UNCONFIRMED unit sends a frame (20 R557). -/
def Chip.mayLeave (u : Chip) (c n kind : Nat) : Bool := (u.run c).confirmed || (u.connRec c n).self || kind == 1 || kind == 2

/-- Builds a frame and adds its message, unless the runtime leaves it out. -/
def Chip.addFrame (c : Nat) (a : List Nat × Chip) (n kind : Nat) (lg : Bool) (p : List Byte) : List Nat × Chip :=
  let f := a.2.buildFrame c n kind p
  (if a.2.mayLeave c n kind then a.1 ++ msgOf lg n f.1 else a.1, f.2)

/-- Loader frames of the ordered writes: at most 127 entries each (Table 8.10). `fuel` bounds their number. -/
def loaderFrames : Nat → List (Nat × Nat) → List (List Byte)
  | 0, _ => []
  | _, [] => []
  | fuel + 1, l =>
    let k := l.take 127
    (beBytes 1 1 ++ beBytes 1 k.length ++ beBytes 6 0 ++ k.flatMap (fun e => beBytes 4 e.1 ++ beBytes 4 e.2)) :: loaderFrames fuel (l.drop 127)

/-- What the runtime itself sends in a task-0 delivery: loader frames, retained pages, heartbeats, requests, mirror pages, and the
frames that wait. -/
def Chip.ownItems (u : Chip) (c snap : Nat) : List SendItem × Chip :=
  let r := u.run c
  let ld := (loaderFrames (r.writes.length + 1) r.writes).map (fun p => SendItem.mk (u.get Reg.ZST_SELF.LOADER) 0 p)
  let pick := u.retainPick c
  let pages := pick.1.filterMap (fun k => (r.pages.find? (fun p => p.page == k)).map (fun p => SendItem.mk (u.get Reg.ZST_SELF.RETAIN) 0 p.data))
  let u := u.modRun c (fun r => { r with writes := [], send := [], rot := pick.2, changed := r.changed.filter (fun k => !pick.1.contains k) })
  let pr := u.pairItems c snap
  (ld ++ pages ++ pr.1 ++ r.send, pr.2)

/-- The connections that carry the frames of the runtime itself, which repeat no payload. -/
def Chip.ownConn (u : Chip) (n : Nat) : Bool :=
  let pair := [u.get Reg.PR_HB.TX, u.get Reg.PR_PEER.TX, u.get Reg.PR_MIR.TX]
  (u.isPartner && pair.contains n) || (u.isWitness && n == u.get Reg.PR_HB.TX)

/-- Whether a message on connection `n` is lattice-gated: what its SIGNAL shows where one drives the connection (Table 7.13), else what the
program says. -/
def Chip.gated (u : Chip) (c n : Nat) (lg : Bool) : Bool :=
  (((u.run c).blocks.findSome? (fun b => b.gate.filter (fun e => e.1 == n))).map (fun e => e.2)).getD lg

/-- The application's frames of one connection: at most 8, or the last payload again (R359). -/
def Chip.appFrames (c t : Nat) (sends : List SendOp) (a : List Nat × Chip) (n : Nat) : List Nat × Chip :=
  let u := a.2
  let l := sends.filter (fun x => x.conn == n)
  let dropped := l.length - 8
  let u := if dropped = 0 then u else u.rtEvent c 0x12 [t, n, dropped]
  let k := l.take 8
  if k = [] then
    if u.ownConn n then (a.1, u)
    else Chip.addFrame c (a.1, u) n 0 (u.gated c n false) ((u.connSt c n).last.getD (List.replicate (u.connRec c n).maxLen 0))
  else
    let r := k.foldl (fun a x => Chip.addFrame c a n 0 (u.gated c n x.lg) x.payload) (a.1, u)
    (r.1, r.2.modConn c n (fun s => { s with last := (k.getLast?).map (fun x => x.payload) }))

/-- The messages of a delivery: by ascending connection the application's frames, then the runtime's (DESIGN CHOICE: log 40). -/
def Chip.messages (u : Chip) (c t : Nat) (sends : List SendOp) (own : List SendItem) : List Nat × Chip :=
  let ns := (u.conns c true).filter (fun n => (u.connRec c n).task == t && !(u.connRec c n).self)
  let a := ns.foldl (Chip.appFrames c t sends) ([], u)
  own.foldl (fun a i => if (a.2.connRec c i.conn).used then Chip.addFrame c a i.conn i.kind false i.payload else a) a

/-! ### TASK_DELIVERY (R234, R238) -/

/-- The task that delivers now: its release is finished, in its final base cycle, and no lower task still has to. -/
def Chip.dueTask (u : Chip) (c : Nat) : Option Nat :=
  match (List.range (u.nTask c)).find? (fun t => u.finalCycle c t) with
  | some t => if (u.task c t).done then some t else none
  | none => none

/-- The image bits that used outputs take their demand from, and the lattice's request area, cleared while UNCONFIRMED. -/
def Chip.muted (u : Chip) (c img : Nat) : Nat :=
  if (u.run c).confirmed then img
  else foldUpTo 32 img (fun v n => if u.outUsed n then setBitsAt v (u.get (Reg.SOUT_CFG.BIT n)) 1 0 else v)

/-- The steering word of a task-0 delivery (14 R421, 05 R153). -/
def Chip.steerWord (u : Chip) : Nat :=
  if u.on Reg.TM_STAT.VALID && u.on Reg.TM_STAT.STOFF then
    let res := pattern 64 (signed 64 (u.get Reg.TM_OFF.OFF) - 10 * signed 64 (u.get Reg.TM_STOFF.STOFF))
    2 ^ 31 + pattern 24 (clampRate (signed 24 (Config.steerRate res (u.get Reg.TM_NRR.PPB))))
  else 0

/-- The image bits that POINT and SIGNAL instances of the task drive (Table 7.13). -/
def Chip.driven (u : Chip) (c t img : Nat) : Nat :=
  let ds := ((u.app c).descs (u.sram c)).filter (fun d => d.task == t)
  let bs := (u.run c).blocks.filter (fun b => ds.any (fun d => d.key == b.key))
  (bs.flatMap (fun b => b.drives)).foldl (fun v e => setBitsAt v e.1 1 (lvl e.2)) img

/-- The image of a delivery of task `t`, and the task after it (R238, R246, R252, R253). -/
def Chip.deliveryImage (u : Chip) (c t : Nat) (d : DeliveryOp) : Nat × Chip :=
  let m := u.sram c
  let a := u.app c
  let x := u.task c t
  let tt := u.applyTimes c t x.snap x.image d.applies (u.driven c t d.img)
  let u := tt.2
  let own := tt.1 &&& a.ownMask m t
  let others := ((u.run c).tasks.zipIdx).foldl (fun v e => if e.2 = t then v else v ||| e.1.image) 0
  let reqs := x.queue.take (u.get Reg.LAT_CFG.REQ_CNT)
  let up := x.updates (a.lobjs m t) (u.get Reg.LAT_CFG.UPD_CNT)
  let img := u.muted c (own ||| others)
  let img := if (u.run c).confirmed then imgWords img (u.get Reg.LAT_CFG.REQ_BASE) reqs else img
  let img := imgWords img (u.get Reg.LAT_CFG.UPD_BASE) up.1
  let img := if t = 0 ∧ u.on Reg.WR_CFG.STEER_EN = true then imgPut img (u.get Reg.WR_CFG.STEER_WORD) u.steerWord else img
  (img, (u.modTask c t (fun y => { y with
    release := none, image := own, queue := y.queue.drop reqs.length
    restrictive := up.2.restrictive, permissive := up.2.permissive, rot := up.2.rot })).dropQueued c reqs (x.queue.drop reqs.length))

/-- The stores of a result to the channel's port of Confluence: image words, message words, header (R238; 04 R102). -/
def Composed.stores (o : Composed) : List (Nat × Nat) :=
  (List.range 128).map (fun n => (0x40301100 + 4 * n, imageWord o.img n)) ++ o.msgs.map (fun w => (0x40301044, w)) ++ [(0x40301048, o.hdr)]

/-- A task completes (R231): its stack is cleared. The layout of its task control block is not stated (log 116). -/
def Chip.complete (u : Chip) (c t : Nat) : Chip :=
  let a := 0x10701000 + t * 0x1E00
  let u := u.rsCatchUp.modChan c (fun h => { h with sram := memClear h.sram a 0x1E00 })
  (List.range 30).foldl (fun u i => u.rsWrite c (a + i * 256)) u

/-- TASK_DELIVERY (R234, R238, R239): the due task of channel `c` delivers: the stores of its result go through the store buffer of the
logic twin (03 R81), and the task completes. -/
def Chip.deliverTask (u : Chip) (c : Nat) (d : DeliveryOp) : Chip :=
  match if u.logicReady c then u.dueTask c else none with
  | none => u
  | some t =>
    let i := u.deliveryImage c t d
    let own := if t = 0 then i.2.ownItems c (i.2.run c).buf.snap else ([], i.2)
    let ms := own.2.messages c t d.sends own.1
    let seq := (ms.2.run c).seq
    let o : Composed := { hdr := seq % 2 ^ 24 * 2 ^ 8 + t, img := i.1, msgs := ms.1 }
    let u := ms.2.modRun c (fun r => { r with seq := seq + 1, out := some o })
    ((u.complete c t).taskStores 128 c 0 o.stores).haltDone c

def execTaskDelivery (c : Nat) (d : DeliveryOp) (s : State) : Host.Outcome State Fault Refusal := s.become (s.chip.deliverTask c d)

end Sys2Proof.Machine
end

