-- ==== Sys2Proof/Machine/Gatecmd.lean ====
section
/-!
DEFINITION. The maintenance gate (01 R24 to R26; 08 Table 8.1; 21 R584): its commands, their queue, and the reset commands that it
executes itself; requests for unit-wide resets (22 R597, R598).
-/
namespace Sys2Proof.Machine

/-! ### Requests for unit-wide resets (22 R598) -/

/-- A trial boot has not completed (20 R572): it uses up one boot; after the third the previous slot starts at the next one. The slot that
failed stays VALID as verified (DEDUCED: log 43). -/
def Chip.trialUsed (u : Chip) : Chip :=
  let left := u.com.trial - 1
  let u := { u with com := { u.com with trial := left }, boot := { u.boot with trialOver := true } }
  if left ≠ 0 then u
  else { u with com := { u.com with
    reverted := some (1 - u.com.run), slots := modAt u.com.slots (1 - u.com.run) (fun f => { f with state := 2 }) } }

/-- A reset that comes before a trial boot has completed ends it (20 R572). -/
def Chip.trialAborted (u : Chip) : Chip := if u.boot.trial && !u.boot.trialOver && u.com.trial != 0 then u.trialUsed else u

/-- A unit-wide reset is requested: KIND, ORIGIN, SLOT, and whether a cold restart is demanded. It is performed by RESET_ASSERT. -/
def Chip.resetRequest (u : Chip) (kind origin slot : Nat) (cold : Bool) : Chip :=
  if u.resetDiscards kind then u
  else
    let u := u.trialAborted
    { u with boot := { reset := some (ResetReq.mk kind origin slot u.now), por := false, cold := cold } }

/-! ### Acceptance (01 R24, R25) -/

/-- The command enters the queue; with 64 in it the gate refuses with status BUSY. -/
def Chip.gatePush (u : Chip) (e : GateEntry) : Chip :=
  if u.gate.queue.length < 64 then ({ u with gate := { u.gate with queue := u.gate.queue ++ [e] } }).answer .ok else u.answer .busy

/-- The first failed condition of R24: 1 not from the connected service port, 2 no maintenance permit. The chapters that demand the
check value have the runtime judge it (08 R262; 10 R333), and for the reset commands Table 21.3. -/
def Chip.gateFails (u : Chip) (svc : Bool) : Option Nat :=
  if !(svc && u.svc.connected) then some 1 else if !u.on Reg.WR_STAT.MAINT then some 2 else none

/-- A command comes to the gate: CMD_REJECTED, or into the queue. The recovery loader forwards none (20 R570). -/
def Chip.gateCmd (u : Chip) (svc : Bool) (code tag cv : Nat) (args : List Byte) : Chip :=
  if u.boot.recovery then u.refuse
  else match u.gateFails svc with
  | some k => (u.raiseAfter 26 0x01 [code, tag, k]).refuse
  | none => u.gatePush (GateEntry.mk code tag cv (argBytes args))

/-- Whether the gate accepts a command now. -/
def Chip.gateOpen (u : Chip) (svc : Bool) : Bool := (u.gateFails svc).isNone && decide (u.gate.queue.length < 64)

/-! ### On-line change and forcing (chapter 08) -/

/-- OLC_BEGIN (R263). -/
def execOlcBegin (svc : Bool) (tag cv : Nat) (s : State) : Host.Outcome State Fault Refusal :=
  s.become (s.chip.gateCmd svc 0x0101 tag cv [])

/-- OLC_LOAD (R264). -/
def execOlcLoad (svc : Bool) (tag cv target off : Nat) (data : List Byte) (s : State) : Host.Outcome State Fault Refusal :=
  s.become (s.chip.gateCmd svc 0x0102 tag cv (leBytes 1 target ++ leBytes 1 data.length ++ leBytes 2 0 ++ leBytes 4 off ++ data.take 40))

/-- OLC_PREPARE (R265). -/
def execOlcPrepare (svc : Bool) (tag cv newCv latCv weirCv off n : Nat) (s : State) : Host.Outcome State Fault Refusal :=
  s.become (s.chip.gateCmd svc 0x0103 tag cv (leBytes 8 newCv ++ leBytes 8 latCv ++ leBytes 8 weirCv ++ leBytes 4 off ++ leBytes 4 n))

/-- OLC_SWAP (R267). -/
def execOlcSwap (svc : Bool) (tag cv newCv n : Nat) (s : State) : Host.Outcome State Fault Refusal :=
  s.become (s.chip.gateCmd svc 0x0104 tag cv (leBytes 8 newCv ++ leBytes 4 n))

/-- OLC_ABORT (Table 8.4). -/
def execOlcAbort (svc : Bool) (tag cv : Nat) (s : State) : Host.Outcome State Fault Refusal :=
  s.become (s.chip.gateCmd svc 0x0105 tag cv [])

/-- FORCE_SET (R278). -/
def execForceSet (svc : Bool) (tag cv vkey ikey sig off width bit value : Nat) (s : State) : Host.Outcome State Fault Refusal :=
  s.become (s.chip.gateCmd svc 0x0201 tag cv
    (leBytes 4 vkey ++ leBytes 4 ikey ++ leBytes 4 sig ++ leBytes 2 off ++ leBytes 1 width ++ leBytes 1 bit ++ leBytes 8 value))

/-- FORCE_CLEAR (R280). -/
def execForceClear (svc : Bool) (tag cv vkey : Nat) (s : State) : Host.Outcome State Fault Refusal :=
  s.become (s.chip.gateCmd svc 0x0202 tag cv (leBytes 4 vkey))

/-- FORCE_CLEAR_ALL (R280). -/
def execForceClearAll (svc : Bool) (tag cv : Nat) (s : State) : Host.Outcome State Fault Refusal :=
  s.become (s.chip.gateCmd svc 0x0203 tag cv [])

/-- ERR_INJECT (02 R52). -/
def execErrInject (svc : Bool) (tag cv pg v : Nat) (s : State) : Host.Outcome State Fault Refusal :=
  s.become (s.chip.gateCmd svc 0x0601 tag cv (leBytes 4 pg ++ leBytes 4 v))

/-! ### Unlocks and fuses (09 R306; 10 R333; 18 R526) -/

/-- SIN_RESET (09 R306). -/
def execSinReset (svc : Bool) (tag cv mask : Nat) (s : State) : Host.Outcome State Fault Refusal :=
  let u := if s.chip.gateOpen svc then { s.chip with gate := { s.chip.gate with sinTag := tag } } else s.chip
  s.become (u.gateCmd svc 0x0301 tag cv (leBytes 8 mask))

/-- SOUT_RESET (10 R333). -/
def execSoutReset (svc : Bool) (tag cv mask : Nat) (s : State) : Host.Outcome State Fault Refusal :=
  let u := if s.chip.gateOpen svc then { s.chip with gate := { s.chip.gate with soutTag := tag } } else s.chip
  s.become (u.gateCmd svc 0x0302 tag cv (leBytes 2 mask))

/-- PERC_FUSE (18 R526). -/
def execPercFuseCmd (svc : Bool) (tag cv c m sp : Nat) (s : State) : Host.Outcome State Fault Refusal :=
  let u := if s.chip.gateOpen svc then { s.chip with gate := { s.chip.gate with fuseTag := tag } } else s.chip
  s.become (u.gateCmd svc 0x0303 tag cv (leBytes 1 c ++ leBytes 1 m ++ leBytes 1 sp))

/-! ### Confirmation, keys, activation (chapter 20) -/

/-- CFG_CONFIRM (R558): the management firmware refuses it with IDENT_LOCAL unless the last scan of both identity buses has
matched every REQUIRED entry. -/
def execCfgConfirm (svc : Bool) (tag cv : Nat) (s : State) : Host.Outcome State Fault Refusal :=
  s.become (if svc && !s.chip.com.identOk.all (fun b => b) then s.chip.refuse else s.chip.gateCmd svc 0x0401 tag cv [])

/-- KEY_LOAD (R562). -/
def execKeyLoad (svc : Bool) (tag cv slot phase : Nat) (key : List Byte) (kcv : Nat) (s : State) : Host.Outcome State Fault Refusal :=
  s.become (s.chip.gateCmd svc 0x0402 tag cv
    (leBytes 2 slot ++ leBytes 1 phase ++ leBytes 1 0 ++ (key ++ List.replicate 16 0).take 16 ++ leBytes 4 kcv))

/-- KEY_PHASE (R562). -/
def execKeyPhase (svc : Bool) (tag cv slot phase clear : Nat) (s : State) : Host.Outcome State Fault Refusal :=
  s.become (s.chip.gateCmd svc 0x0403 tag cv (leBytes 2 slot ++ leBytes 1 phase ++ leBytes 1 clear))

/-- FW_ACTIVATE (R571): forwarded only for a slot that is VALID and whose image has DIGEST; the running slot gets SLOT
(Table 20.7). -/
def execFwActivate (svc : Bool) (tag cv slot at' digest : Nat) (s : State) : Host.Outcome State Fault Refusal :=
  let u := s.chip
  let f := u.com.slots.getD slot {}
  if svc && (decide (1 < slot ∨ slot = u.com.run ∨ f.state ≠ 2 ∨ f.digest ≠ digest)) then s.become u.refuse
  else
    let u := if u.gateOpen svc then { u with com := { u.com with forwarded := some (slot, at') } } else u
    s.become (u.gateCmd svc 0x0404 tag cv (leBytes 8 slot ++ leBytes 8 at' ++ beBytes 8 digest))

/-- FW_CANCEL (R571). -/
def execFwCancel (svc : Bool) (tag cv : Nat) (s : State) : Host.Outcome State Fault Refusal :=
  s.become (s.chip.gateCmd svc 0x0405 tag cv [])

/-! ### The reset commands (21 R584) -/

/-- The check value that the gate compares with. -/
def Chip.gateCv (u : Chip) : Nat := if u.on Reg.CFG_STAT.CV_VALID then u.get Reg.CFG_CV.CV else u.get Reg.CFG_PKGCV.CV

/-- The first refusal status of Table 21.3 whose condition holds. -/
def resetStatus (l : List (Bool × Nat)) : Option Nat := (l.find? (fun e => e.1)).map (fun e => e.2)

/-- A reset command: rejected where it did not come from the service port, refused with a status, or executed; an accepted one is
placed in the input image as well. -/
def Chip.resetCmd (u : Chip) (svc : Bool) (code tag cv : Nat) (args : List Byte) (more : List (Bool × Nat)) (effect : Chip → Chip) : Chip :=
  if u.boot.recovery then u.refuse
  else if u.gateFails svc = some 1 then (u.raiseAfter 26 0x01 [code, tag, 1]).refuse
  else match resetStatus ([(cv != u.gateCv, 2), (!u.on Reg.WR_STAT.MAINT, 3)] ++ more) with
    | some st => ((u.put Reg.FLT_STAT.LAST_RST st).raiseAfter 26 0x04 [code, tag, st]).refuse
    | none =>
      if u.gate.queue.length < 64 then
        effect ((u.put Reg.FLT_STAT.LAST_RST 1).gatePush (GateEntry.mk code tag cv (argBytes args)))
      else u.answer .busy

/-- The unit is in the safe state; the boot hold is not. -/
def Chip.locked (u : Chip) : Bool := u.on Reg.WR_STAT.SAFE && !u.weir.hold

/-- LOCKOUT_RESET (R582 to R584). The restart kind is decided at the boot (07 R256, R257): a free value here. -/
def Chip.lockoutReset (u : Chip) (tag : Nat) : Chip :=
  let k := u.free
  let u := k.2.raiseAfter 26 0x03 [tag, u.get Reg.FLT_FIRST.FCODE, k.1]
  (u.put Reg.FLT_STAT.HELD 0).resetRequest 4 5 0 false

def execLockoutReset (svc : Bool) (tag cv : Nat) (s : State) : Host.Outcome State Fault Refusal :=
  let u := s.chip
  s.become (u.resetCmd svc 0x0501 tag cv [] [(!u.on Reg.WR_STAT.LOCKOUT, 4), (!u.on Reg.FLT_STAT.CAPTURED, 5)]
    (fun u => u.lockoutReset tag))

/-- A CHANNEL reset by command (03 Tables 3.8, 3.9; 22 R598): a channel that takes part is lost with cause CMD_RESET first. -/
def Chip.channelReset (u : Chip) (c : Nat) : Chip :=
  if 3 ≤ c ∨ u.resetDiscards 5 = true then u
  else (if 2 ≤ u.chState c ∧ u.chState c ≤ 3 then u.chLost c 10 else u).chReset c

def execChannelReset (svc : Bool) (tag cv c : Nat) (s : State) : Host.Outcome State Fault Refusal :=
  let u := s.chip
  s.become (u.resetCmd svc 0x0502 tag cv (leBytes 1 c) [(u.locked, 6)] (fun u => u.channelReset c))

/-- COLD_RESTART: a WARM reset whose restart is cold (07 Table 7.8). -/
def execColdRestart (svc : Bool) (tag cv : Nat) (s : State) : Host.Outcome State Fault Refusal :=
  let u := s.chip
  s.become (u.resetCmd svc 0x0503 tag cv [] [(u.locked, 6)] (fun u => u.resetRequest 3 2 0 true))

end Sys2Proof.Machine
end

