-- ==== Sys2Proof/Machine/Merge.lean ====
section
/-!
DEFINITION. The merge unit (16 R481, R482), and what the management plane does when it records an event of the channels (08 R274;
20 R561, R563).
-/
namespace Sys2Proof.Machine

/-- The check value that a stored package carries (20 R552): eight bytes before its CRC-32C. -/
def pkgCheck (p : List Byte) : Nat := leAt p (p.length - 12) 8

/-- The management plane records SWAP_DONE (08 R274; 20 R561): the PENDING package with the new check value becomes CURRENT, and a
confirmed unit's confirmation record is rewritten; its SNAP and TAG are not stated, so they are free. -/
def Chip.swapRecorded (u : Chip) (e : Ev) : Chip :=
  if e.code ≠ 0x0B ∨ e.src < 19 ∨ 21 < e.src then u
  else
    let cv := (u.rt.get (e.src - 19)).cv
    let k := u.com
    let k := match k.pending with
      | some p => if pkgCheck p = cv then { k with current := some p, pending := none } else k
      | none => k
    match k.record with
    | some r =>
      if r.cv = cv ∨ !u.on Reg.CFG_STAT.CONFIRMED ∨ k.recordDue.isSome then { u with com := k }
      else
        let a := u.free
        let b := a.2.free
        { b.2 with com := { k with recordDue := some (u.now + sec 1, { r with cv := cv, snap := a.1, tag := b.1 }) } }
    | none => { u with com := k }

/-- The management firmware keeps an accepted KEY_LOAD or KEY_PHASE in the key store (20 R563) when it records the channels' event. -/
def Chip.keyRecorded (u : Chip) (e : Ev) : Chip :=
  if e.src < 19 ∨ 21 < e.src ∨ e.raw then u
  else
    let c := e.src - 19
    let slot := e.data.getD 1 0
    let ph := e.data.getD 2 0
    let drop := fun (l : List KeyRec) (p : Nat) => l.filter (fun k => !(k.slot == slot && k.phase == p))
    let k := u.com
    if e.code = 0x22 then
      { u with com := { k with keys := drop k.keys ph ++ [KeyRec.mk slot ph (u.keyOf c slot ph) (u.kcvOf c slot ph)] } }
    else if e.code = 0x23 then
      let l := if e.data.getD 3 0 = 1 then drop k.keys (1 - ph) else k.keys
      { u with com := { k with keys := l, phases := setBitsAt k.phases slot 1 ph } }
    else u

/-- EVENT_MERGE (R481, R482): one FAB cycle of the merge unit. -/
def execEventMerge (s : State) : Host.Outcome State Fault Refusal :=
  let u := s.chip
  match mergeNext u.intake.staged with
  | none => s.become u
  | some e =>
    if u.evrRefuses then
      s.become (if u.intake.stallSince.isSome then u
        else (({ u with intake := { u.intake with stallSince := some u.now } }).put Reg.INT_STAT.STALL 1).irq 0x40900000 1)
    else if u.evr.port.isSome then s.become u
    else
      let k := u.intake
      let ended := k.stallSince
      let u := { u with
        intake := { k with staged := k.staged.filter (fun x => x.src != e.src), stallSince := none }
        evr := { u.evr with port := some e } }
      let u := (u.countStaged).put Reg.INT_STAT.STALL 0
      let u := ((u.restage e.src).swapRecorded e).keyRecorded e
      s.become (match ended with
        | some t => u.raiseAfter 33 0x01 [u.now - t]
        | none => u)

end Sys2Proof.Machine
end

