-- ==== Sys2Proof/Machine/Percolator.lean ====
section
/-!
DEFINITION. Percolator (chapter 18): slices, failures, repairs, fuses.
-/
namespace Sys2Proof.Machine

/-- t_slice in ticks (R513). -/
def Chip.sliceTicks (u : Chip) (e : Nat) : Nat := 20 + u.get (Reg.PERC_CFG.SLICE_WORDS (percPage e))

/-- PERC_STAT shows the position of a group. -/
def Chip.percShow (u : Chip) (e g : Nat) : Chip :=
  let q := (u.percOf e).pos.getD g (0, 0)
  ((u.put (Reg.PERC_STAT.GROUP (percPage e)) g).put (Reg.PERC_STAT.MACRO (percPage e)) q.1).put (Reg.PERC_STAT.SLICE (percPage e)) q.2

/-- A slice of a group starts; the first one of a pass starts its duration. -/
def Chip.sliceBegin (u : Chip) (e g : Nat) : Chip :=
  let first := (u.percOf e).pos.getD g (0, 0) == (0, 0)
  ((u.modPerc e (fun p => { p with
    running := p.running ++ [(g, u.now)], passAt := if first then modAt p.passAt g (fun _ => u.now) else p.passAt })).percShow e g).put (Reg.PERC_STAT.ACTIVE (percPage e)) 1

/-- A twin has halted for the slice (03 R62): it stands since the strobe, its trailing core has caught up, and every store has
committed. -/
def Twin.sliceReady (t : Twin) : Bool :=
  t.held && t.rb.isNone && t.closed == [] && t.lead.count == t.trail.count && t.lead.fill == [] && t.lead.drain == []

/-- PERC_SLICE_START (R515): engine of channel `c`; both twins stand. -/
def execPercSliceStart (c : Nat) (s : State) : Host.Outcome State Fault Refusal :=
  let u := s.chip
  if c < 3 && u.on (Reg.PERC_CFG.EN (percPage c)) && u.chState c == 3 && (u.chan c).logic.sliceReady && (u.chan c).link.sliceReady &&
      (u.percOf c).running.isEmpty then s.become (u.sliceBegin c 0)
  else s.become u

/-- SCHED_SLICE_TIMER (R517): every PERIOD ms a slice in each enabled group; a slice of the Carafe holds its macro (17 R491). -/
def execSchedSliceTimer (s : State) : Host.Outcome State Fault Refusal :=
  let u := s.chip
  let u := u.until ((u.percOf 3).due)
  let u := u.modPerc 3 (fun p => { p with due := u.now + ms (u.get (Reg.PERC_GRP.PERIOD 0x44600000)) })
  let en := u.on (Reg.PERC_CFG.EN 0x44600000)
  s.become (foldUpTo 3 u (fun u g =>
    if en && (u.get (Reg.PERC_GRP.GRP_EN 0x44600000)).testBit g && !(u.percOf 3).running.any (fun r => r.1 == g) then
      let u := u.sliceBegin 3 g
      if g = 1 then { u with evr := { u.evr with macroHeld := true } } else u
    else u))

/-- The number of macros of a group. -/
def groupMacros (e g : Nat) : Nat := if e < 3 ∨ g = 0 then 32 else 1

/-- The position moves on; after the last macro of a group PASS_DONE (R516). -/
def Chip.percAdvance (u : Chip) (e g : Nat) : Chip :=
  let q := (u.percOf e).pos.getD g (0, 0)
  let n := 32768 / max 1 (u.get (Reg.PERC_CFG.SLICE_WORDS (percPage e)))
  let put := fun (u : Chip) (x : Nat × Nat) => u.modPerc e (fun p => { p with pos := modAt p.pos g (fun _ => x) })
  if q.2 + 1 < n then put u (q.1, q.2 + 1)
  else if q.1 + 1 < groupMacros e g then put u (q.1 + 1, 0)
  else
    let u := (put u (0, 0)).satInc (Reg.PERC_CNT.PASSES (percPage e))
    let t := (u.percOf e).passAt.getD g 0
    (u.irq (percPage e) 3).raiseAfter (percSrc e) 0x07 [u.get (Reg.PERC_CNT.PASSES (percPage e)), (u.now - t) / sec 1]

/-- A slice ends: both twins go on from where they stood (R515), the Carafe macro is free. -/
def Chip.sliceOver (u : Chip) (e g : Nat) : Chip :=
  let u := u.modPerc e (fun p => { p with running := p.running.filter (fun r => r.1 != g) })
  let u := if (u.percOf e).running.isEmpty then u.put (Reg.PERC_STAT.ACTIVE (percPage e)) 0 else u
  if e < 3 then u.modChan e (fun h => { h with logic := { h.logic with held := false }, link := { h.link with held := false } })
  else if g = 1 then { u with evr := { u.evr with macroHeld := false } } else u

/-- CORR grows by the corrected words of a slice (R514). -/
def Chip.percCorr (u : Chip) (e n : Nat) : Chip :=
  u.put (Reg.PERC_CNT.CORR (percPage e)) (min 255 (u.get (Reg.PERC_CNT.CORR (percPage e)) + n))

/-- The result registers and PERC_FAIL (R518): address, ELEM, expected and observed 72-bit values. -/
def Chip.percRecord (u : Chip) (e g a elem exp obs : Nat) : Chip :=
  let pg := percPage e
  let u := ((u.put (Reg.PERC_FADDR.ADDR pg) a).put (Reg.PERC_FINFO.VALID pg) 1).put (Reg.PERC_FINFO.BIT pg) (lowestBit (exp ^^^ obs))
  let u := ((u.put (Reg.PERC_FINFO.ELEM pg) elem).put (Reg.PERC_FINFO.EXP_ECC pg) (bits exp 71 64)).put (Reg.PERC_FINFO.OBS_ECC pg) (bits obs 71 64)
  let u := ((u.put (Reg.PERC_FEXP.DATA pg) exp).put (Reg.PERC_FOBS.DATA pg) obs).satInc (Reg.PERC_CNT.FAILS pg)
  (u.irq pg 0).raiseAfter (percSrc e) 0x01 [if e < 3 then e else g, a, lowestBit (exp ^^^ obs), elem, exp, obs]

/-- A repair waits (R521): REPAIR_PENDING. -/
def Chip.percWaits (u : Chip) (c m w diff : Nat) : Chip :=
  let p : PercPend := ⟨m, w, diff⟩
  if (u.percOf c).pending.any (fun x => x.macroNo == m && x.word == w) then u
  else ((u.modPerc c (fun q => { q with pending := q.pending ++ [p] })).put (Reg.PERC_STAT.PENDING (percPage c)) 1).raiseAfter
    (percSrc c) 0x04 [m, macroWord c m w]

/-- A failure makes the channel leave with cause SOFT_REPAIR. -/
def Chip.percLeave (u : Chip) (c : Nat) : Chip := (u.modPerc c (fun p => { p with left := true })).chLost c 9

/-- What follows a recorded failure (R520 to R522, Table 18.3): in the safe state no repair; where another channel has left at this
snapshot, the repair waits. -/
def Chip.percRepair (u : Chip) (e m w diff : Nat) : Chip :=
  let p := (u.percOf e).remember m w diff
  let u := u.modPerc e (fun _ => p)
  let other := (List.range 3).any (fun c => c != e && (u.percOf c).left)
  match p.choose m w diff with
  | none => let u := u.noSpare e m (macroWord e m w); if e < 3 then u.percLeave e else u
  | some i =>
    if u.on Reg.WR_STAT.SAFE then u
    else if 3 ≤ e then u.softRepair e m w diff i
    else if other || (u.get Reg.CF_MODE.MODE = 2 && oneBit diff) then u.percWaits e m w diff
    else (u.softRepair e m w diff i).percLeave e

/-- Accesses of a march up to and with the read of word `k` of `n` in element `elem` (Table 18.2): one per CORE cycle. Element 5 may
take either order; ascending stands for it (DESIGN CHOICE: log 128). -/
def marchAccess (n elem k : Nat) : Nat :=
  if elem = 0 then k + 1
  else if elem = 1 ∨ elem = 2 then n + (elem - 1) * 2 * n + 2 * k + 1
  else if elem = 3 ∨ elem = 4 then n + (elem - 1) * 2 * n + 2 * (n - 1 - k) + 1
  else 9 * n + k + 1

/-- The instant at which a failing slice that began at `t` has its buffer values back (R513, R518, Table 18.4), in whole ticks. -/
def Chip.failTicks (u : Chip) (e elem k : Nat) : Nat :=
  let n := u.get (Reg.PERC_CFG.SLICE_WORDS (percPage e))
  20 + (marchAccess n elem k + n + 9) / 10

/-- PERC_SLICE_DONE (R513, R514, R518, R519): engine, group of the scheduler, end of the slice. -/
def execPercSliceDone (e g : Nat) (r : SliceEnd) (s : State) : Host.Outcome State Fault Refusal :=
  let u := s.chip
  match (u.percOf e).running.find? (fun x => x.1 == g) with
  | none => s.become u
  | some x =>
    let q := (u.percOf e).pos.getD g (0, 0)
    let m := g * 32 + q.1
    s.become (match r with
      | .pass corr =>
        let u := (((u.until (x.2 + u.sliceTicks e)).percCorr e corr).sliceOver e g).percAdvance e g
        -- 21 Table 21.2: a transient that Percolator has absorbed in a channel, one fault a word
        if e < 3 then foldUpTo (min corr 256) u (fun u _ => u.transientFault (0x5003 + e * 0x100)) else u
      | .fail corr elem word exp obs =>
        let w := q.2 * u.get (Reg.PERC_CFG.SLICE_WORDS (percPage e)) + word
        let u := u.until (x.2 + u.failTicks e elem word)
        let u := (((u.percCorr e corr).sliceOver e g).percRecord e g (macroWord e m w) elem exp obs).percAdvance e g
        u.percRepair e m w (exp ^^^ obs)
      | .parity =>
        let u := ((u.sliceOver e g).raiseAfter (percSrc e) 0x08 [q.1, q.2]).percAdvance e g
        if e < 3 then u.chLost e 9 else u)

/-- REPAIR_PENDING_APPLY (R521): at a snapshot in 2oo3 the lowest channel with a pending repair applies it and leaves. -/
def Chip.percSnapshot (u : Chip) : Chip :=
  let u := foldUpTo 3 u (fun u c => u.modPerc c (fun p => { p with left := false }))
  foldUpTo 3 u (fun u c =>
    let l := (u.percOf c).pending
    if u.get Reg.CF_MODE.MODE = 3 ∧ l ≠ [] ∧ u.chState c = 3 then
      let u := (u.modPerc c (fun p => { p with pending := [] })).put (Reg.PERC_STAT.PENDING (percPage c)) 0
      let u := l.foldl (fun u x => match (u.percOf c).choose x.macroNo x.word x.diff with
        | some i => u.softRepair c x.macroNo x.word x.diff i
        | none => u.noSpare c x.macroNo (macroWord c x.macroNo x.word)) u
      u.percLeave c
    else u)

/-! ### Fuses (R525, R526) -/

/-- A fuse command for spare `sp` of macro `m` of engine `e`, with its TAG; the refusals in the order of R525. -/
def Chip.fuseStart (u : Chip) (e m sp tag : Nat) : Chip :=
  let pg := percPage e
  let x := ((u.percOf e).spareList m).getD sp {}
  let st := if !x.used then 2 else if x.fused then 3 else if !(u.on Reg.WR_STAT.MAINT) then 4
    else if u.on (Reg.PERC_FSTAT.BUSY pg) then 5 else 0
  if st ≠ 0 then
    let u := (u.put (Reg.PERC_FSTAT.RESULT pg) st).put (Reg.PERC_FUSE.GO pg) (u.get (Reg.PERC_FSTAT.BUSY pg))
    u.raiseAfter (percSrc e) 0x06 [m % 32, sp, st]
  else
    let u := u.modPerc e (fun p => { p with fuse := some (FuseRun.mk (u.now + ms 2) m sp tag) })
    ((u.put (Reg.PERC_FSTAT.BUSY pg) 1).put (Reg.PERC_FUSE.GO pg) 1).put (Reg.PERC_FSTAT.RESULT pg) 0

/-- The admitted write of PERC_FUSE: GO, SPARE, GROUP, MACRO (Table 18.6). -/
def Chip.fuseWrite (u : Chip) (e v tag : Nat) : Chip :=
  let pg := percPage e
  let u := ((u.put (Reg.PERC_FUSE.SPARE pg) (bits v 10 8)).put (Reg.PERC_FUSE.GROUP pg) (bits v 7 5)).put (Reg.PERC_FUSE.MACRO pg) (bits v 4 0)
  if v.testBit 31 then u.fuseStart e (if e < 3 then bits v 4 0 else bits v 7 5 * 32 + bits v 4 0) (bits v 10 8) tag else u

/-- FUSE_DONE (R525): engine. -/
def execFuseDone (e : Nat) (s : State) : Host.Outcome State Fault Refusal :=
  let u := s.chip
  match (u.percOf e).fuse with
  | none => s.become u
  | some f =>
    let pg := percPage e
    let u := u.modPerc e (fun p =>
      let x := (p.spareList f.macroNo).getD f.spare {}
      { p with fuse := none,
               spares := assocPut p.spares f.macroNo (modAt (p.spareList f.macroNo) f.spare (fun x => { x with fused := true })),
               fuses := p.fuses ++ [(f.macroNo, f.spare, x.addr)] })
    let u := ((u.put (Reg.PERC_FSTAT.BUSY pg) 0).put (Reg.PERC_FSTAT.RESULT pg) 1).put (Reg.PERC_FUSE.GO pg) 0
    s.become ((u.irq pg 4).raise (percSrc e) 0x05 [f.macroNo % 32, f.spare, f.tag])

/-- SOFT_RESET of an engine's page: what a slice has stopped goes on. -/
def Chip.percSoftReset (u : Chip) (e : Nat) : Chip := ((u.percOf e).running.foldl (fun u r => u.sliceOver e r.1) u).percHeld e

/-! ### Register views and checks -/

/-- The group that PERC_SPSEL names; the field is the scheduler's only (Table 18.6). -/
def Chip.percSel (u : Chip) (e : Nat) : Nat := if e < 3 then 0 else u.get (Reg.PERC_SPSEL.GROUP (percPage e))

/-- PERC_SPR[s] of the macro that PERC_SPSEL shows (Table 18.6). -/
def Chip.percSpr (u : Chip) (e i : Nat) : Nat :=
  let m := u.percSel e * 32 + u.get (Reg.PERC_SPSEL.MACRO (percPage e))
  let x := ((u.percOf e).spareList m).getD i {}
  lvl x.used * 2 ^ 31 + lvl x.fused * 2 ^ 30 + x.addr

/-- PERC_MAP[m]; of the group that PERC_SPSEL names on the scheduler page (log 28). -/
def Chip.percMap (u : Chip) (e m : Nat) : Nat :=
  let k := u.percSel e * 32 + m
  let l := (u.percOf e).spareList k
  let rows := ((l.take 4).filter (fun x => x.used)).length
  let cols := ((l.drop 4).filter (fun x => x.used)).length
  rows * 32 + cols * 8 + lvl (rows == 4 && cols == 2) * 4 + lvl ((u.percOf e).pending.any (fun p => p.macroNo == k)) * 2 + lvl (l.any (fun x => x.fused))

/-- R516: parameters that the loader rejects. -/
def Chip.rejectsR516 (u : Chip) : Bool :=
  (List.range 3).any (fun e =>
    let w := u.get (Reg.PERC_CFG.SLICE_WORDS (percPage e))
    let b := u.get (Reg.PERC_CFG.BUDGET (percPage e))
    decide (w < 16 ∨ 256 < w ∨ w % 16 ≠ 0 ∨ b < 1 ∨ 20 < b ∨ us b < 20 + w))

end Sys2Proof.Machine
end

