-- ==== Sys2Proof/Machine/Loader.lean ====
section
/-!
DEFINITION. The configuration loader in operation (01 R27; 08 R635): loader frames of the output mirror, and what the management
plane keeps of voted results (07 R255; 13 R400; 20 R559).
-/
namespace Sys2Proof.Machine

/-- A register takes a value in all its parts, whatever their access type: a write of the block's own logic or of the loader. -/
def Chip.putReg (u : Chip) (a v : Nat) : Chip :=
  (regPieces a).foldl (fun u p => u.putPiece p (bits v (p.regLo + p.width - 1) p.regLo)) u

/-! ### The output mirror as its readers see it (04 Table 4.8) -/

/-- The messages of the current mirror record. -/
def Chip.mirrorMsgs (u : Chip) : List Msg :=
  let b := mirrorBase (u.get Reg.MIR_STAT.CUR)
  messagesOf ((List.range (memNat u.conf.mirror (b + 12) 4 / 4)).map (fun i => memNat u.conf.mirror (b + 0x240 + 4 * i) 4))

/-- The `k`-th message of the current record on a connection. -/
def Chip.mirrorMsg (u : Chip) (conn k : Nat) : Option (List Byte) :=
  ((u.mirrorMsgs.filter (fun m => m.conn == conn))[k]?).map (fun m => m.bytes)

/-! ### Loader frames (08 R635) -/

/-- Registers of Table 8.11 other than LED_RESULT, PERC_FUSE and BLK_ERRINJ. -/
def loaderRegs : List Nat :=
  [0x5000604C, 0x50006050, 0x5000605C, 0x50006060, 0x5000205C, 0x50002060, 0x40600084, 0x40600088, 0x40600048, 0x40600068,
   0x4060006C, 0x40700400, 0x40700104, 0x40700108, 0x40700100, 0x4070010C, 0x40700110, 0x40700114, 0x4040005C, 0x40400060,
   0x40500048]

/-- Directives of Table 8.11. -/
def loaderDirs : List Nat := [0xFFFF0001, 0xFFFF0002, 0xFFFF0010, 0xFFFF0011, 0xFFFF0012]

/-- The channel engine whose PERC_FUSE lies at an address. -/
def fuseEngine (a : Nat) : Option Nat := (List.range 3).find? (fun e => percPage e + 0x100 == a)

/-- The BLK_ERRINJ of a control-plane page lies at an address. -/
def Chip.injAddr (u : Chip) (a : Nat) : Bool :=
  a % 0x1000 == 0x28 && (match pageInfo a with
    | some p => u.controlPage p
    | none => false)

/-- Whether an entry's address is admitted (Table 8.11). -/
def Chip.loaderAdmits (u : Chip) (a : Nat) : Bool :=
  loaderRegs.contains a || loaderDirs.contains a || (decide (0x40700440 ≤ a ∧ a < 0x40700800) && a % 4 == 0) ||
  (fuseEngine a).isSome || u.injAddr a

/-- What is wrong with a loader frame on a connection (R635, Table 20.10): reason, and the first failing entry where an address is
not admitted. -/
def Chip.loaderBad (u : Chip) (conn : Nat) (f : List Byte) : Option (Nat × Option Nat) :=
  let p := frPayload f
  let n := beAt p 1 1
  let id := u.get Reg.ZST_ID.ID
  if beAt p 0 1 ≠ 1 then some (1, none)
  else if n = 0 ∨ frLen f ≠ 8 + 8 * n then some (2, none)
  else match (loaderEntries p).findIdx? (fun e => !u.loaderAdmits e.1) with
    | some k => some (3, some k)
    | none => if frSrc f ≠ id ∨ frDst f ≠ id ∨ frCid f ≠ u.get (Reg.ZST_CONN.CID conn) then some (4, none) else none

/-- The check value that Weir computes over its parameters as the loader has written them (R175; log 41). -/
def Chip.weirParams (u : Chip) : Nat := Config.weirCheck ((u.setRegs 4).map u.rwlValue)

/-- The check of R175 against the value that the loader supplied last. -/
def Chip.weirCfgCheck (u : Chip) : Chip :=
  if u.weirParams = u.weir.cfgCv then u.modWeir (fun w => { w with cfgOk := true })
  else (u.modWeir (fun w => { w with cfgOk := false })).weirSafe 12

/-- The check value that the package in force carries, 0 where none is loaded: CFG_PKGCV at boot, that of the package which became CURRENT
since (20 R554; 08 R274). -/
def Chip.pkgValue (u : Chip) : Nat :=
  match u.com.current with
  | some p => if u.get Reg.CFG_PKGCV.CV = 0 then 0 else pkgCheck p
  | none => u.get Reg.CFG_PKGCV.CV

/-- The voted check value has been written (20 R554). -/
def Chip.cfgCvWritten (u : Chip) : Chip :=
  let u := u.put Reg.CFG_STAT.CV_VALID 1
  let pkg := u.pkgValue
  let cv := u.get Reg.CFG_CV.CV
  if pkg = 0 then u
  else if pkg = cv then u.put Reg.CFG_STAT.MISMATCH 0
  else ((u.put Reg.CFG_STAT.MISMATCH 1).raiseAfter 100 0x03 [pkg, cv]).nonsafetyFault 0x6007

/-- ACT_CFG (20 R571): arm and slot, and the schedule that the management firmware keeps. -/
def Chip.actWritten (u : Chip) (v : Nat) : Chip :=
  let arm := v.testBit 31
  let at' := (signed 64 (u.get Reg.TM_OFF.OFF) + 10 * (u.get Reg.ACT_AT.AT : Int)).toNat
  let sch := if arm then (match u.com.forwarded with
      | some x => some x
      | none => some (v % 2, at')) else none
  { u with com := { u.com with schedule := sch } }

/-- ZST_CLAIM (13 R388, R400): the claim waits for the snapshot strobe; a witness's management plane keeps the epoch. -/
def Chip.claimWrite (u : Chip) (v : Nat) : Chip :=
  let u := { u with zst := { u.zst with claim := some v } }
  if u.isWitness then
    let e := v / 256
    { u with ret := { u.ret with epoch := e, epochDirty := decide (e ≠ u.ret.epochEmmc) } }
  else u

/-- One entry of a loader frame is written (Table 8.11). -/
def Chip.loaderWrite (u : Chip) (e : Nat × Nat) : Chip :=
  let a := e.1
  let v := e.2
  let g := u.gate
  match fuseEngine a with
  | some n => u.fuseWrite n v g.fuseTag
  | none =>
    if u.injAddr a then (if u.maintenance then u.errInj (pageOf a) v else u.planeRefused 7 a)
    else match a with
    | 0xFFFF0001 => u.modWeir (fun w => { w with cfgCv := w.cfgCv / 2 ^ 32 * 2 ^ 32 + v })
    | 0xFFFF0002 => u.modWeir (fun w => { w with cfgCv := w.cfgCv % 2 ^ 32 + v * 2 ^ 32 })
    | 0x50006050 => (u.putReg a v).weirCfgCheck
    | 0x50006060 => u.swapArm (v.testBit 0)
    | 0x5000205C => u.stoffLo 7 v
    | 0x50002060 => u.stoffHi 7 v
    | 0x40600088 => (u.putReg a v).put Reg.TM_STAT.STOFF 1
    | 0x40600048 => u.claimWrite v
    | 0x4040005C => u.sinUnlockWrite 7 v g.sinTag
    | 0x40400060 => u.sinUnlockWrite 7 (v * 2 ^ 32) g.sinTag
    | 0x40500048 => u.soutUnlockWrite 7 v g.soutTag
    | 0x40700108 => (u.putReg a v).cfgCvWritten
    | 0x40700100 => u.put Reg.CFG_STAT.CONFIRMED (bits v 31 31)
    | 0x40700114 => (u.putReg a v).actWritten v
    | _ => if loaderDirs.contains a then u else u.putReg a v

/-- The pages that received an RWL write of a frame, in entry order. -/
def loaderPages (l : List (Nat × Nat)) : List Nat :=
  l.foldl (fun ps e => if (regPieces e.1).any (fun p => p.fld.acc == .rwl) then addNew (pageOf e.1) ps else ps) []

/-- CONFIG_CHANGE of a page, as at a closing of its lock (02 R47): `prev` is its BLK_CRC before. -/
def Chip.configChange (u : Chip) (pg prev : Nat) : Chip :=
  u.raiseAfter (srcOf pg) 0xF0 [pg, prev, u.pageCrc pg, 7]

/-- The version of the running firmware. -/
def Chip.version (u : Chip) : Nat := (u.com.slots.getD u.com.run {}).version

/-- The management firmware takes SNAP and TAG for the confirmation record, which it writes within 1 s (20 R559). -/
def Chip.recordOrder (u : Chip) (l : List (Nat × Nat)) : Chip :=
  match directive l 0xFFFF0010 with
  | none => u
  | some lo =>
    let snap := lo + (directive l 0xFFFF0011).getD 0 * 2 ^ 32
    let r := ConfirmRec.mk (u.get Reg.CFG_CV.CV) snap ((directive l 0xFFFF0012).getD 0) u.version
    { u with com := { u.com with recordDue := some (u.now + sec 1, r) } }

/-- The loader takes one loader frame: refused whole, or written entry by entry. -/
def Chip.loaderFrame (u : Chip) (conn : Nat) (f : List Byte) : Chip :=
  match u.loaderBad conn f with
  | some (why, some k) => u.raiseAfter 100 0x09 [conn, why, k]
  | some (why, none) =>
    let x := u.free
    x.2.raiseAfter 100 0x09 [conn, why, x.1]
  | none =>
    let l := loaderEntries (frPayload f)
    let pgs := loaderPages l
    let prev := pgs.map u.pageCrc
    let v := l.foldl (fun u e => u.access e.1 true (fun u => u.loaderWrite e)) u
    ((pgs.zip prev).foldl (fun v e => v.configChange e.1 e.2) v).recordOrder l

/-- LOADER_FRAME (08 R635): the loader takes the next loader frame of the mirror record that is current. -/
def execLoaderFrame (s : State) : Host.Outcome State Fault Refusal :=
  let u := s.chip
  let cyc := u.get Reg.MIR_CYCLE.COUNT
  let k := if u.gate.ldCycle = cyc then u.gate.ldNext else 0
  let conn := u.get Reg.ZST_SELF.LOADER
  match u.mirrorMsg conn k with
  | none => s.become u
  | some f =>
    let u := { u with gate := { u.gate with ldCycle := cyc, ldNext := k + 1 } }
    s.become (u.loaderFrame conn f)

/-! ### Retained pages (07 R255) -/

/-- The retained data that a frame's page stands for: those of a channel that composed it. -/
def Chip.pageValsOf (u : Chip) (page gen : Nat) : List Blk :=
  (((List.range 3).flatMap (fun c => (u.run c).pages ++ (u.run c).past)).find? (fun p => p.page == page && p.gen == gen)).elim [] (fun p => p.vals)

/-- Replaced pages that no frame can bring any more: those of the page taken, composed before it. -/
def Chip.pastDrop (u : Chip) (page gen : Nat) : Chip :=
  foldUpTo 3 u (fun u c => u.modRun c (fun r => { r with past := r.past.filter (fun p => !(p.page == page && decide (p.gen < gen))) }))

/-- The newest frame of a page replaces the one before; a page whose data differ from those in eMMC waits to be written. -/
def Chip.retainTake (u : Chip) (f : List Byte) : Chip :=
  let p := frPayload f
  let page := beAt p 0 4
  let gen := beAt p 4 4
  let r := u.ret
  let same := match r.emmc.find? (fun e => e.1 == page) with
    | some e => frPayload e.2.data == p
    | none => false
  let dirty := if same then r.dirty.filter (fun k => k != page) else addNew page r.dirty
  u.pastDrop page gen |> fun v => { v with ret := { r with
      newest := assocPut r.newest page (PageOut.mk page gen f (u.pageValsOf page gen)), dirty := dirty
      dirtySince := if r.dirty = [] then u.now else r.dirtySince } }

/-- RETAIN_FRAME (07 R255): the management plane takes the next retain frame of the mirror record that is current. -/
def execRetainFrame (s : State) : Host.Outcome State Fault Refusal :=
  let u := s.chip
  let cyc := u.get Reg.MIR_CYCLE.COUNT
  let k := if u.ret.rdCycle = cyc then u.ret.rdNext else 0
  match u.mirrorMsg (u.get Reg.ZST_SELF.RETAIN) k with
  | none => s.become u
  | some f => s.become (({ u with ret := { u.ret with rdCycle := cyc, rdNext := k + 1 } }).retainTake f)

/-- RETAIN_WRITE_TIMER (07 R255): the changed pages are in eMMC at the latest 1 s after the first of them changed. -/
def execRetainWriteTimer (s : State) : Host.Outcome State Fault Refusal :=
  let u := s.chip
  let r := u.ret
  s.become (if r.dirty = [] then u
    else
      let put := r.newest.filter (fun e => r.dirty.contains e.1)
      ({ u with ret := { r with emmc := put.foldl (fun l (e : Nat × PageOut) => assocPut l e.1 e.2) r.emmc, dirty := [] } }).until (r.dirtySince + sec 1))

/-- EPOCH_RECORD_WRITE (13 R400): the witness's epoch record goes to eMMC. -/
def execEpochRecordWrite (s : State) : Host.Outcome State Fault Refusal :=
  let u := s.chip
  s.become (if u.ret.epochDirty then { u with ret := { u.ret with epochEmmc := u.ret.epoch, epochDirty := false } } else u)

/-- CONFIRM_RECORD_WRITE (20 R559, R561): the confirmation record is in the configuration store at its instant. -/
def execConfirmRecordWrite (s : State) : Host.Outcome State Fault Refusal :=
  let u := s.chip
  match u.com.recordDue with
  | none => s.become u
  | some (due, r) => s.become (({ u with com := { u.com with record := some r, recordDue := none } }).until due)

end Sys2Proof.Machine
end

