-- ==== Sys2Proof/Machine/Commission.lean ====
section
/-!
DEFINITION. Commissioning and update (chapter 20): configuration packages, firmware images, the identity buses, scheduled
activation and trial boots.
-/
namespace Sys2Proof.Machine

/-- A frame counts as from the service port: tagged SERVICE (14 R410). The recovery loader takes nothing but an image (R570). -/
def Chip.serviceFrame (u : Chip) (svc : Bool) : Bool := svc && u.svc.connected && !u.boot.recovery

/-! ### Configuration packages (R552, R555) -/

/-- A parameter set of a package: number, FORMAT, content. -/
abbrev ParamSet := Nat × Nat × List Byte

/-- The sets of a package body; none where a header does not fit. `fuel` bounds their number. -/
def setsOf : Nat → List Byte → Option (List ParamSet)
  | _, [] => some []
  | 0, _ => none
  | fuel + 1, b =>
    let len := leAt b 4 4
    if b.length < 8 + len then none
    else (setsOf fuel (b.drop (8 + len))).map (fun l => (leAt b 0 2, leAt b 2 2, (b.drop 8).take len) :: l)

/-- The parameter sets of a package, without its check value and CRC. -/
def pkgSets (p : List Byte) : Option (List ParamSet) := setsOf 32 (p.take (p.length - 12))

/-- The CRC-32C of a package is good, little-endian like its other fields (R552). -/
def pkgGood (p : List Byte) : Bool :=
  decide (12 ≤ p.length) && crcOf crc32c (p.take (p.length - 4)) == leAt p (p.length - 4) 4

/-- PACKAGE_STORE (R555): a package with a good CRC becomes PENDING. -/
def execPackageStore (svc : Bool) (pkg : List Byte) (s : State) : Host.Outcome State Fault Refusal :=
  let u := s.chip
  s.become (if u.serviceFrame svc && pkgGood pkg then
      ({ u with com := { u.com with pending := some pkg } }).raiseAfter 100 0x01 [pkgCheck pkg, ((pkgSets pkg).getD []).length]
    else u.refuse)

/-! ### Firmware images (R568 to R570) -/

/-- FW_STAT, FW_VER and FW_SVN show the firmware store. -/
def Chip.fwShow (u : Chip) : Chip :=
  let f := fun (i : Nat) => u.com.slots.getD i {}
  let u := ((u.put Reg.FW_STAT.STATE0 (f 0).state).put Reg.FW_STAT.STATE1 (f 1).state).put Reg.FW_STAT.TRIAL_LEFT u.com.trial
  let u := ((u.put (Reg.FW_VER.VERSION 0) (f 0).version).put (Reg.FW_VER.VERSION 1) (f 1).version).put Reg.FW_SVN.SVN u.com.svn
  (u.put Reg.FW_STAT.RUN_SLOT u.com.run).put Reg.FW_STAT.KEY_IDX (f u.com.run).keyIdx

/-- The channel firmware segment of an image: the segment whose load address lies in the firmware area (22 R605; widths of the segment table
DESIGN CHOICE: log 121). -/
def fwSegment (h : List Byte) : Nat × List Byte :=
  let segs := (List.range (min (leAt h 56 4) (h.length / 16))).map (fun k => (leAt h (64 + 16 * k + 4) 4, leAt h (64 + 16 * k + 8) 4, leAt h (64 + 16 * k + 12) 4))
  match segs.find? (fun x => decide (0x10780000 ≤ x.2.2 ∧ x.2.2 < 0x10800000)) with
  | some x => (x.2.2, ((h.drop x.1).take x.2.1).take (0x10800000 - x.2.2))
  | none => (0, [])

/-- The contents of a slot from an image header (Table 20.5), little-endian (PRESUMED: log 42). -/
def slotOf (h : List Byte) (state digest : Nat) : FwSlot :=
  { state := state, version := leAt h 8 4, svn := leAt h 12 4, keyIdx := leAt h 20 1 % 4, sets := ((h.drop 24).take 32).map (fun b => b.toNat),
    digest := digest, seg := fwSegment h }

/-- FW_IMAGE_STORE (R569, Table 20.7): only into a slot that does not run, on trial or otherwise, and that no armed activation names; VALID only
after read-back and a good signature. In the recovery loader no slot runs (R570). -/
def execFwImageStore (svc : Bool) (slot : Nat) (hdr : List Byte) (ok : Bool) (digest : Nat) (s : State) : Host.Outcome State Fault Refusal :=
  let u := s.chip
  let armed := u.on Reg.ACT_CFG.ARM && u.get Reg.ACT_CFG.SLOT == slot
  let runs := !u.boot.recovery && decide (slot = u.com.run ∨ slot = u.get Reg.BOOT_STAT.SLOT)
  s.become (if !(svc && u.svc.connected) || armed || runs || decide (1 < slot) then u.refuse
    else
      let good := ok && leAt hdr 0 4 == 0x5A465731 && leAt hdr 4 4 == 1
      let f := slotOf hdr (if good then 2 else 3) digest
      let u := ({ u with com := { u.com with slots := modAt u.com.slots slot (fun _ => f) } }).fwShow
      if good then u.raiseAfter 100 0x05 [slot, f.version, f.svn] else u)

/-- SVN_ADVANCE (R570): the fuse only advances. -/
def execSvnAdvance (svc : Bool) (svn : Nat) (s : State) : Host.Outcome State Fault Refusal :=
  let u := s.chip
  let n := svn % 2 ^ 32
  s.become (if u.serviceFrame svc && u.on Reg.WR_STAT.MAINT && decide (u.com.svn < n) then
      ({ u with com := { u.com with svn := n } }).fwShow
    else u.refuse)

/-! ### Identity buses (R565 to R567) -/

/-- The controller scans a segment. -/
def Chip.segOn (u : Chip) (i j : Nat) : Bool := (u.get (Reg.IDB_CFG.SEG_EN i)).testBit j

/-- The memories that a scan finds: in enabled segments, at addresses 0x50 to 0x57. -/
def Chip.idbFound (u : Chip) (i : Nat) (l : List (Nat × Nat × List Byte)) : List (Nat × Nat × List Byte) :=
  l.filter (fun e => decide (e.1 < 4 ∧ 0x50 ≤ e.2.1 ∧ e.2.1 ≤ 0x57) && u.segOn i e.1)

/-- Fails MAGIC, LEN or CRC (IDB_STAT.BADREC). -/
def idbBad (b : List Byte) : Bool :=
  let cal := beAt b 28 2
  beAt b 0 4 != 0x41495231 || beAt b 6 2 != 40 + cal || decide (b.length < 40 + cal ∨ 1016 < 40 + cal) ||
  crcOf crc32c (b.take (32 + cal)) != beAt b (32 + cal) 4

/-- The buffer of an enabled segment after a scan: each record at its place, 0 elsewhere. -/
def Chip.idbBuffer (u : Chip) (i : Nat) (l : List (Nat × Nat × List Byte)) : Chip :=
  let base := u.get (Reg.IDB_BUF.ADDR i)
  let m := foldUpTo 4 u.msram (fun m j => if u.segOn i j then memClear m (base + j * 8192) 8192 else m)
  { u with msram := l.foldl (fun m e => memWriteBytes m (base + e.1 * 8192 + (e.2.1 - 0x50) * 1024) (e.2.2.take 1024)) m }

/-- The identity-bus entries of the module list that a controller serves: REQUIRED, segment, address, entry. -/
def Chip.idbEntries (u : Chip) (i : Nat) : List (Bool × Nat × Nat × List Byte) :=
  ((List.range (min 256 (u.com.modules.length / 32))).map (fun k => u.module k)).filterMap (fun e =>
    let loc := leAt e 0 2
    let seg := bits loc 10 8
    if loc.testBit 15 ∨ seg / 4 ≠ i then none else some ((leAt e 2 2).testBit 1, seg, bits loc 6 0, e))

/-- The result of an entry: 0 matches, 1 absent, 2 bad record, 3 no match. -/
def idbResult (l : List (Nat × Nat × List Byte)) (seg addr : Nat) (entry : List Byte) : Nat :=
  match l.find? (fun e => e.1 == seg % 4 && e.2.1 == addr) with
  | none => 1
  | some e => if !recordValid e.2.2 then 2 else if recordMatches entry e.2.2 then 0 else 3

/-- IDB_SCAN (R567, R566): the scan of a controller ends. A mismatch after confirmation is reported; an entry that is not REQUIRED
may be absent. -/
def execIdbScan (i : Nat) (mems : List (Nat × Nat × List Byte)) (s : State) : Host.Outcome State Fault Refusal :=
  let u := s.chip
  if 2 ≤ i then s.become u
  else
    let l := u.idbFound i mems
    let u := u.idbBuffer i l
    let u := ((u.put (Reg.IDB_STAT.FOUND i) (min l.length 32)).put (Reg.IDB_STAT.BADREC i) (l.filter (fun e => idbBad e.2.2)).length).put
      (Reg.IDB_STAT.BUSY i) 0
    let u := u.put (Reg.IDB_SCAN.GO i) 0
    let rs := (u.idbEntries i).map (fun e => (e.1, e.2.1, e.2.2.1, idbResult l e.2.1 e.2.2.1 e.2.2.2))
    let bad := rs.filter (fun r => r.2.2.2 != 0 && (r.1 || r.2.2.2 != 1))
    let ok := rs.all (fun r => !r.1 || r.2.2.2 == 0)
    let u := { u with com := { u.com with identOk := modAt u.com.identOk i (fun _ => ok), scanAt := modAt u.com.scanAt i (fun _ => u.now) } }
    s.become (if u.on Reg.CFG_STAT.CONFIRMED then
      bad.foldl (fun u r => (u.fwRaise 100 0x04 [r.2.1, r.2.2.1, r.2.2.2]).nonsafetyFault 0x6002) u else u)

/-- IDB_SCAN_TIMER (R567): a scan starts 600 s after the last one. -/
def execIdbScanTimer (i : Nat) (s : State) : Host.Outcome State Fault Refusal :=
  let u := s.chip
  s.become (if 2 ≤ i then u else (u.until (u.com.scanAt.getD i 0 + sec 600)).put (Reg.IDB_STAT.BUSY i) 1)

/-! ### Scheduled activation (R572, R574) -/

/-- The first strobe instant at or after a Weir time. -/
def Chip.strobeAt (u : Chip) (t : Nat) : Nat :=
  let b := max 1 (u.get Reg.WR_CFG.BASE * 25000)
  (t + b - 1) / b * b

/-- An activation is due at a strobe (R572): armed, and the Weir time of the strobe has reached ACT_AT. -/
def Chip.actDue (u : Chip) : Bool := u.on Reg.ACT_CFG.ARM && decide (u.get Reg.ACT_AT.AT ≤ u.weir.time)

/-- The activation takes place (R572): a WARM reset, and the slot starts as a trial with three boots. In the safe state only the
schedule ends (Table 20.7). A trial boot that has not completed gives way to the new trial. A reset that is under way already clears ACT_CFG itself (22 Table 22.8). -/
def Chip.activate (u : Chip) : Chip :=
  let slot := u.get Reg.ACT_CFG.SLOT
  if u.resetDiscards 3 then u
  else if u.locked then
    let u := u.put Reg.ACT_CFG.ARM 0
    let u := { u with com := { u.com with schedule := none } }
    foldUpTo 3 u (fun u c => if u.chState c = 3 then u.rtEvent c 0x25 [(u.run c).fwTag, 2] else u)
  else
    let u := { u with com := { u.com with schedule := none, trial := 3, prev := u.com.run,
                                          slots := modAt u.com.slots slot (fun f => { f with state := 4 }) },
                      boot := { u.boot with trialOver := true } }
    u.fwShow.resetRequest 3 3 slot false

/-- ACTIVATION_STROBE (R572): the first strobe at or after ACT_AT, in place of the snapshot. -/
def execActivationStrobe (s : State) : Host.Outcome State Fault Refusal :=
  let u := s.chip
  if !u.on Reg.ACT_CFG.ARM then s.become u
  else
    let t := u.strobeAt (max u.weir.time (u.get Reg.ACT_AT.AT))
    s.become ((u.untilWeir t).activate)

/-- The slot on trial, while a trial is under way: not the running one. -/
def Chip.trialSlot (u : Chip) : Nat := 1 - u.com.run

/-- TRIAL_BOOT_TIMEOUT (R572): 2 s after reset release; a trial boot that has not completed uses up one boot. -/
def execTrialBootTimeout (s : State) : Host.Outcome State Fault Refusal :=
  let u := s.chip
  match u.boot.released with
  | none => s.become u
  | some t =>
    if u.com.trial = 0 ∨ u.boot.trial = false ∨ u.boot.trialOver = true then s.become u
    else s.become (u.until (t + sec 2)).trialUsed.fwShow

end Sys2Proof.Machine
end

