-- ==== Sys2Proof/Machine/Clocks.lean ====
section
/-!
DEFINITION. Clocks and the clock monitor (22 R590 to R596), the assertion and release of resets (22 R597 to R601, R624), wake
from sleep (19 R544, R545).
-/
namespace Sys2Proof.Machine

/-- Page 0 of clock and reset generation. -/
def clkPage : Nat := 0x40100000

/-! ### Clock monitor (R594, R595) -/

/-- The clock monitor runs: RUN or IDLE, out of reset. -/
def Chip.clkWatch (u : Chip) : Bool := decide (u.pwrState ≤ 1) && u.boot.released.isSome

/-- A boot that is under way stops with BOOT_STAT.FAIL (R607, R609). -/
def Chip.bootStop (u : Chip) : Chip :=
  if u.boot.reset.isSome then ({ u with boot := { u.boot with stopped := true } }).put Reg.BOOT_STAT.FAIL 1 else u

/-- A check of Table 22.2 fails (R595): demand lines low, the link silent, CLK_FAULT. The boot stops if step 3 is behind it. -/
def Chip.clockFault (u : Chip) (fcode dom : Nat) (data : List Nat) : Chip :=
  let u := u.sluiceSafe
  let u := { u with link := { u.link with silent := true } }
  let u := ((u.put Reg.CLK_FLT.VALID 1).put Reg.CLK_FLT.DOMAIN dom).put Reg.CLK_FLT.FCODE fcode
  let u := (u.irq clkPage 0).raiseAfter 28 0x01 ([fcode, dom] ++ data)
  if u.boot.done.contains 3 then u.bootStop else u

/-- A clock fault without a count of its own: the count of the event is free (R611). -/
def Chip.clockFaultFree (u : Chip) (fcode dom : Nat) : Chip :=
  let f := u.free
  f.2.clockFault fcode dom [f.1]

/-- CLK_LOCK_LOSS (R594): the root PLL has been in lock. -/
def execClkLockLoss (s : State) : Host.Outcome State Fault Refusal :=
  let u := s.chip
  s.become (if u.clkWatch && u.on Reg.CLK_STAT.ROOT_LOCK then (u.put Reg.CLK_STAT.ROOT_LOCK 0).clockFaultFree 0x7001 1 else u)

/-- REF_MISSING (R594). -/
def execRefMissing (s : State) : Host.Outcome State Fault Refusal :=
  let u := s.chip
  s.become (if u.clkWatch then (u.put Reg.CLK_STAT.REF_OK 0).clockFaultFree 0x7002 0 else u)

/-- The nominal count of a domain over 1,000 PER cycles (Table 22.2). -/
def divNominal (dom : Nat) : Option Nat :=
  if dom = 1 ∨ dom = 2 then some 10000 else if dom = 3 then some 5000 else if dom = 4 then some 1250 else none

/-- DIVIDER_WINDOW (R594): a count that differs by more than 1 from its nominal value. -/
def execDividerWindow (dom branch count : Nat) (s : State) : Host.Outcome State Fault Refusal :=
  let u := s.chip
  s.become (match divNominal dom with
    | some n =>
      if u.clkWatch && u.on Reg.CLK_STAT.ON_PLL && decide (count + 1 < n ∨ n + 1 < count) then
        u.clockFault 0x7003 dom ([count] ++ if dom = 1 then [branch] else [])
      else u
    | none => u)

/-- FRC_RANGE_WINDOW (R594): FRC_OK shows the last check. -/
def execFrcRangeWindow (count : Nat) (s : State) : Host.Outcome State Fault Refusal :=
  let u := s.chip
  let bad := decide (count < 1900 ∨ 2100 < count)
  s.become (if !u.clkWatch then u
    else
      let u := u.put Reg.CLK_STAT.FRC_OK (lvl !bad)
      if bad then u.clockFault 0x7004 7 [count] else u)

/-- BOOT_FAIL (R607, R611). -/
def Chip.bootFail (u : Chip) (fcode step : Nat) : Chip := (u.bootStop.irq clkPage 2).raiseAfter 28 0x04 [fcode, step]

/-- RESET_STEP_TIMEOUT (R594): a step of the boot that is under way takes longer than Table 22.6 or 22.7 allows. -/
def execResetStepTimeout (step : Nat) (s : State) : Host.Outcome State Fault Refusal :=
  let u := s.chip
  s.become (if u.boot.reset.isSome && u.boot.released.isSome && !u.boot.stopped && !u.boot.done.contains step then
      (u.clockFaultFree 0x7005 7).bootFail 0x7005 step
    else u)

/-- A write of CLK_CTL by the loader (R593): SEL = 1 is accepted only in lock. The root PLL locks once it runs from REF (within 100 µs;
DEDUCED: log 44). -/
def Chip.clkCtl (u : Chip) (v : Nat) : Chip :=
  if v.testBit 0 && !u.on Reg.CLK_STAT.ROOT_LOCK then
    ((u.put Reg.CLK_CTL.PLL_EN (bits v 1 1)).put Reg.CLK_STAT.ROOT_LOCK (bits v 1 1 * u.get Reg.CLK_STAT.REF_OK)).refuse
  else
    let u := (u.put Reg.CLK_CTL.PLL_EN (bits v 1 1)).put Reg.CLK_CTL.SEL (bits v 0 0)
    ((u.put Reg.CLK_STAT.ROOT_LOCK (bits v 1 1 * u.get Reg.CLK_STAT.REF_OK)).put Reg.CLK_STAT.ON_PLL (bits v 0 0)).answer .ok

/-! ### The logic die in reset (Table 22.3) -/

/-- What a runtime leaves to the restart that ends its forces: TAG and VKEY of each (08 R280). -/
def Rt.forceEnds (r : Rt) : Rt := { ended := r.ended ++ r.forces.map (fun f => (f.tag, f.vkey)) }

/-- What every unit-wide reset leaves of the commissioning store: what lies in eMMC, xSPI and fuses. -/
def Commission.reset (k : Commission) : Commission :=
  { current := k.current, pending := k.pending, record := k.record, keys := k.keys, phases := k.phases, slots := k.slots, run := k.run,
    prev := k.prev, trial := k.trial, svn := k.svn, reverted := k.reverted, schedule := k.schedule }

/-- The logic die in reset, `doms` being the register domains that it returns to their reset values; a POR resets the event
recorder, the spares that are not fused, the channels' loss history, the management SRAM and the LPDDR4X as well (log 51). A service
link that is up stays up. -/
def Chip.dieReset (u : Chip) (doms : List Dom) (por : Bool) : Chip :=
  let link := u.on (Reg.PORT_STAT.LINK (portPage 14))
  let keep := fun (h : Channel) => if por then ({} : Channel) else { losses := h.losses }
  let evr : Recorder := { logs := u.evr.logs }
  let u := (u.sluiceReset).resetDomains doms
  let u := if por then { u with evr := evr } else u.evrReset.evrUnlocked
  let u := { u with
    intake := {}, pages := {}, plic := {}, cic := ⟨{}, {}, {}⟩
    chans := ⟨keep u.chans.a, keep u.chans.b, keep u.chans.c⟩, conf := {}
    link := { silent := true, resetUp := u.link.resetUp }
    flt := { firstAt := none, entryAt := u.flt.entryAt }, gate := {}, rt := if por then ⟨{}, {}, {}⟩ else ⟨u.rt.a.forceEnds, u.rt.b.forceEnds, u.rt.c.forceEnds⟩
    sin := { kept := if por then [] else u.sin.kept, ins := u.sin.ins.map (fun (i : SinIn) => { level := i.level }) }, zst := {}, svc := {}
    ports := List.replicate 15 {}, cb := [], tm := {}, br := {}
    msram := if por then [] else u.msram, ddr := if por then [] else u.ddr
    perc := u.perc.map (fun (p : Perc) => if por then p.atPor else p.reset)
    ret := { newest := u.ret.emmc, emmc := u.ret.emmc, epoch := u.ret.epochEmmc, epochEmmc := u.ret.epochEmmc }
    pwr := { hold := u.pwr.hold, aonBase := u.pwr.aonBase }
    com := u.com.reset }
  let u := u.fabricReset
  if link then u.put (Reg.PORT_STAT.LINK (portPage 14)) 1 else u

/-! ### Assertion (R600, R624) -/

/-- POR_ASSERT (R597, R624; 19 R546): a supply of the logic die is below its POR threshold. Origin 6 after OFF. -/
def execPorAssert (aonLost : Bool) (s : State) : Host.Outcome State Fault Refusal :=
  let u := s.chip
  let origin := if u.pwrState = 4 then 6 else 0
  let u := u.trialAborted
  let u := u.dieReset (if aonLost then [.ctl, .por, .aon] else [.ctl, .por]) true
  let u := u.put Reg.RST_CAUSE.AON_LOST (lvl aonLost)
  let u := if aonLost then { u with pwr := { aonBase := u.now }, flt := {} } else { u with pwr := { hold := true, aonBase := u.pwr.aonBase } }
  s.become { u with boot := { reset := some (ResetReq.mk 1 origin 0 u.now), por := true, asserted := true } }

/-- RESET_ASSERT (R600, Table 22.4): steps 1 to 4 of a requested reset. WARM and LOCKOUT_RESET go to Weir in a reset flit; Weir itself
has sent SUPPLY. -/
def execResetAssert (s : State) : Host.Outcome State Fault Refusal :=
  let u := s.chip
  match u.boot.reset with
  | none => s.become u
  | some r =>
    if u.boot.asserted then s.become u
    else
      let u := u.until (r.since + 170)
      let flit := if r.kind = 3 then [0x0102] else if r.kind = 4 then [0x0103] else []
      let u := { u with link := { u.link with resetUp := u.link.resetUp ++ flit } }
      let u := (u.zstStop).dieReset [.ctl] false
      s.become { u with boot := { u.boot with asserted := true } }

/-- A reset flit reaches Weir (R599, R601): the boot hold. -/
def Chip.resetFlitUp (u : Chip) : Chip :=
  match u.link.resetUp with
  | [] => u
  | _ :: rest => ({ u with link := { u.link with resetUp := rest } }).weirHold

/-- RESET_FLIT (R599): the oldest reset flit arrives; SUPPLY is a request to the reset sequencer. The power-fail trigger has a
command of its own. -/
def execResetFlit (up : Bool) (s : State) : Host.Outcome State Fault Refusal :=
  let u := s.chip
  if up then s.become u.resetFlitUp
  else match u.link.resetDown with
    | 0x0101 :: rest => s.become (({ u with link := { u.link with resetDown := rest } }).resetRequest 2 1 0 false)
    | _ => s.become u

/-! ### Release (R597, R602) -/

/-- CAN ports are in operation after reset, and the port page shows it (log 24). -/
def Chip.canLinks (u : Chip) : Chip := (List.range 4).foldl (fun u k => u.put (Reg.PORT_STAT.LINK (portPage (8 + k))) 1) u

/-- The count of a reset kind (RST_CNT). -/
def rstCnt (kind : Nat) : Fld :=
  if kind = 1 then Reg.RST_CNT.POR else if kind = 2 then Reg.RST_CNT.SUPPLY else if kind = 3 then Reg.RST_CNT.WARM else Reg.RST_CNT.LOCKOUT

/-- The release of a reset, time zero of the boot: cause and counts, RESET, the service link's count, every channel into
SELFTEST. -/
def Chip.resetReleased (u : Chip) (r : ResetReq) : Chip :=
  let u := ((u.put Reg.RST_CAUSE.KIND r.kind).put Reg.RST_CAUSE.ORIGIN r.origin).put Reg.RST_CAUSE.SLOT r.slot
  let u := (u.satInc (rstCnt r.kind)).put Reg.BOOT_STAT.WARM (lvl (r.kind != 1))
  let u := u.raiseAfter 28 0x02 [r.kind, r.origin, r.slot]
  let u := { u with
    link := { u.link with silent := false }
    svc := { since := if u.on (Reg.PORT_STAT.LINK (portPage 14)) then some u.now else none }
    boot := { u.boot with por := false, asserted := true, released := some u.now, done := [], stopped := false, trial := u.com.trial != 0 } }
  let u := (u.put Reg.CLK_STAT.REF_OK 1).canLinks
  -- 05 R165: straps are latched at reset
  let u := u.strapLatch
  -- 09 R304, Table 23.2: the safe inputs start anew, the test sources come on
  let u := u.sinRestart
  foldUpTo 3 u (fun u c => u.chEnter c 1)

/-- POR_RELEASE (R597): the cold boot starts. The logic die has been reset, so that Weir owes it no SUPPLY (R599). -/
def execPorRelease (s : State) : Host.Outcome State Fault Refusal :=
  let u := s.chip
  match u.boot.por, u.boot.reset with
  | true, some r => s.become (({ u with weir := { u.weir with supplyDue := false } }).resetReleased r)
  | _, _ => s.become u

/-- RESET_RELEASE (R600, R602): 11.70 µs after acceptance; a reset flit has arrived by then. -/
def execResetRelease (s : State) : Host.Outcome State Fault Refusal :=
  let u := s.chip
  match u.boot.reset with
  | none => s.become u
  | some r =>
    if !u.boot.asserted || u.boot.released.isSome || u.boot.por then s.become u
    else s.become ((u.resetFlitUp.until (r.since + 1170)).resetReleased r)

/-! ### Wake from sleep (19 R544, R545) -/

/-- WAKE_RESTART (R544, R545; 09 R303, R304): the PLL has locked. From DEEP_SLEEP with RETMODE = BANKS a WARM reset follows; else every
stopped block restarts, and the withheld snapshot comes at the next multiple of the base period. -/
def execWakeRestart (crcOk : Bool) (s : State) : Host.Outcome State Fault Refusal :=
  let u := s.chip
  let st := u.pwrState
  if u.get Reg.PWR_STAT.PHASE ≠ 4 ∨ (st ≠ 2 ∧ st ≠ 3) then s.become u
  else
    let banks := st == 3 && u.get Reg.PWR_CFG.RETMODE == 0
    let u := ({ u with pwr := { u.pwr with sclHeld := false } }).pllStart
    let u := ((u.pwrRestart).put Reg.PWR_STAT.STATE 0).put Reg.PWR_STAT.PHASE 0
    let u := (u.irq pwrPage 2).raiseAfter 102 0x03 [st, u.get Reg.PWR_WAKE.CAUSE, u.weirTime]
    if banks then s.become (u.resetRequest 3 4 0 false)
    else
      let u := { u with weir := { u.weir with withheld := false } }
      s.become ((u.sinWake crcOk true).pwrStartPending)

end Sys2Proof.Machine
end

