-- ==== Sys2Proof/Machine/Boot.lean ====
section
/-!
DEFINITION. The boot (22 R602 to R608): steps of Table 22.5, the configuration package (20 R552 to R556, R573), the retained store
(07 R256 to R258), entry to ACTIVE.
-/
namespace Sys2Proof.Machine

/-! ### The package at boot (20 R555, R556, R573) -/

/-- The sets of the CURRENT package, where a valid one can be read. -/
def Chip.bootPackage (u : Chip) : Option (List ParamSet) :=
  if u.boot.emmcBad then none
  else match u.com.current with
    | some p => if pkgGood p then pkgSets p else none
    | none => none

/-- The running firmware's FORMATs. -/
def Chip.fwSets (u : Chip) : List Nat := (u.com.slots.getD (u.get Reg.BOOT_STAT.SLOT) {}).sets

/-- Sets of a package whose FORMAT differs from the firmware's (R573): set, stored FORMAT, firmware FORMAT. -/
def Chip.formatDiffers (u : Chip) (l : List ParamSet) : List (Nat × Nat × Nat) :=
  (l.filter (fun s => s.2.1 != u.fwSets.getD s.1 0)).map (fun s => (s.1, s.2.1, u.fwSets.getD s.1 0))

/-- Expected strap values of set 0 (R556): ROLE, RANK, WITNESS_EN and SITE as WR_SEAL shows them (PRESUMED: log 46). -/
def set0Straps (c : List Byte) : Nat := leAt c 0 1 &&& faultStraps

/-- The configuration is replaced by defaults: DEFAULTS, and CFG_DEFAULTS with its data. -/
def Chip.cfgDefaults (u : Chip) (data : List Nat) : Chip := (u.put Reg.CFG_STAT.DEFAULTS 1).fwRaise 100 0x02 data

/-- The package is promoted and checked against straps and FORMATs (step 8). -/
def Chip.bootCheck (u : Chip) : Chip :=
  let k := u.com
  let k := if u.boot.emmcBad then k else match k.pending with
    | some p => { k with current := some p, pending := none }
    | none => k
  let u := { u with com := k }
  match u.bootPackage with
  | none => (u.put Reg.CFG_PKGCV.CV 0).put Reg.CFG_STAT.DEFAULTS 1
  | some l =>
    let u := u.put Reg.CFG_PKGCV.CV (pkgCheck (k.current.getD []))
    let want := ((l.find? (fun (s : ParamSet) => s.1 == 0)).map (fun (s : ParamSet) => set0Straps s.2.2)).getD 0
    let got := u.get Reg.WR_SEAL.LATCHED &&& faultStraps
    if want ≠ got then u.cfgDefaults [0, 2, want, got]
    else
      let bad := u.formatDiffers l
      let u := if bad.any (fun e => decide (e.1 ≤ 13)) then u.put Reg.CFG_STAT.DEFAULTS 1 else u
      bad.foldl (fun u e => u.fwRaise 100 0x02 [e.1, 1, e.2.1, e.2.2]) u

/-- Step 8: package, the schedule that a restart has lost (Table 20.7), the scans of the identity buses (R567). -/
def Chip.bootStep8 (u : Chip) : Chip :=
  let u := u.bootCheck.fwShow
  let u := match u.com.schedule with
    | some e => ({ u with com := { u.com with schedule := none } }).fwRaise 100 0x08 [e.1, e.2]
    | none => u
  (u.put (Reg.IDB_STAT.BUSY 0) 1).put (Reg.IDB_STAT.BUSY 1) 1

/-! ### Loads (step 9) -/

/-- The loader writes the RWL fields of a register. -/
def Chip.putRwl (u : Chip) (a v : Nat) : Chip :=
  ((regPieces a).filter (fun p => p.fld.acc == .rwl)).foldl (fun u p => u.putPiece p (bits v (p.regLo + p.width - 1) p.regLo)) u

/-- The loader writes a list of registers from the bytes of a register set (R552). -/
def Chip.loadRegs (u : Chip) (l : List Nat) (b : List Byte) : Chip :=
  (l.zipIdx).foldl (fun u e => u.putRwl e.1 (leAt b (4 * e.2) 4)) u

/-- The routing of the channel interrupt sources (02 R57), in every channel's interrupt controller. -/
def Chip.loadRouting (u : Chip) (r : Nat) : Chip := foldUpTo 3 u (fun u c => { u with cic := u.cic.set c { u.cic.get c with route := r } })

/-- A register set is written. Set 10 holds PORT_CFG first, because the classes decide what follows (log 37); set 3 ends with the
routing of the channel interrupt sources, bit n for source n (02 R57; DESIGN CHOICE: log 101). -/
def Chip.loadSet (u : Chip) (k : Nat) (b : List Byte) : Chip :=
  if k = 10 then
    let u := (u.loadRegs (portOrder.map (fun p => portPage p + 0x40)) b).takePortCfg
    u.loadRegs (u.setRegs 10) b
  else if k = 3 then (u.loadRegs (u.setRegs 3) b).loadRouting (leAt b (4 * (u.setRegs 3).length) 16)
  else u.loadRegs (u.setRegs k) b

/-- Bytes written into the SRAM of every channel through the load port (22 R605). -/
def Chip.loadSram (u : Chip) (a : Nat) (b : List Byte) : Chip :=
  foldUpTo 3 u (fun u c => if u.chState c = 3 then u else u.modChan c (fun h => { h with sram := memWriteBytes h.sram a b }))

/-- The content of a set other than a register set is placed. -/
def Chip.loadContent (u : Chip) (k : Nat) (b : List Byte) : Chip :=
  let com := u.com
  if k = 0 then { u with com := { com with set0 := b } }
  else if k = 1 then u.loadSram (bankBase 0) b
  else if k = 2 then u.loadSram instBase b
  else if k = 8 then u.loadSram u.connBase b
  else if k = 11 then { u with com := { com with modules := b } }
  else u

/-- One set of the package. -/
def Chip.loadOne (u : Chip) (s : ParamSet) : Chip :=
  let u := if s.1 ≤ 12 then { u with com := { u.com with heads := u.com.heads ++ [(s.1, s.2.1, s.2.2.length)] } } else u
  if [3, 4, 5, 6, 7, 10, 12].contains s.1 then u.loadSet s.1 s.2.2 else u.loadContent s.1 s.2.2

/-- The key table and the phase map from the key store (R563). -/
def Chip.loadKeys (u : Chip) : Chip :=
  let u := u.com.keys.foldl (fun u k => (u.loadSram (u.keyAt k.slot k.phase) k.key).loadSram (u.kcvAt k.slot k.phase) (leBytes 4 k.kcv)) u
  u.loadSram (u.keyBase + 24576) (leBytes 64 u.com.phases)

/-- The claim that the loader writes at boot (13 R387, R400; 12 R360): it takes effect at the first strobe. -/
def Chip.loadClaim (u : Chip) : Chip :=
  let e := max 1 u.ret.epochEmmc
  let v := if u.isPartner then 256 + u.rank else if u.isWitness then 256 * e else 256
  { u with zst := { u.zst with claim := some v }, ret := { u.ret with epoch := e, epochDirty := u.isWitness && decide (u.ret.epochEmmc ≠ e) } }

/-- R14: the two CAN ports of a pair have different classes. -/
def Chip.rejectsR14 (u : Chip) : Bool := u.portClass 8 != u.portClass 9 || u.portClass 10 != u.portClass 11

/-- The rules under which the loader rejects a configuration: set that holds the item, label of the rule (log 47). -/
def Chip.rejections (u : Chip) : List (Nat × Nat × Bool) :=
  [(1, 230, u.rejectsR230), (3, 100, u.rejectsChannels), (3, 134, u.rejectsConf), (3, 485, u.rejectsR485), (3, 516, u.rejectsR516),
   (4, 159, u.rejectsR159), (4, 188, u.rejectsR188), (5, 296, u.rejectsR296), (5, 299, u.rejectsR299), (5, 309, u.rejectsR309),
   (6, 315, u.rejectsR315), (6, 325, u.rejectsR325), (6, 335, u.rejectsR335), (7, 385, u.rejectsR385), (8, 352, u.rejectsR352),
   (8, 635, u.rejectsR635), (10, 14, u.rejectsR14), (10, 378, u.rejectsR378), (10, 407, u.rejectsR407), (10, 413, u.rejectsR413),
   (10, 416, u.rejectsR416), (10, 418, u.rejectsR418), (10, 425, u.rejectsR425), (12, 346, u.rejectsR346)]

/-- The first rule that rejects the configuration. -/
def Chip.rejection (u : Chip) : Option (Nat × Nat) := (u.rejections.find? (fun e => e.2.2)).map (fun e => (e.1, e.2.1))

/-- The lattice image goes into STANDBY and is verified; the swap is armed for the first snapshot (06 R225). -/
def Chip.loadLattice (u : Chip) (b : List Byte) (ecc w : Nat) : Chip :=
  let bank := (List.range ((b.length + 31) / 32)).foldl (fun (l : Bank) i => bankPut l i (leAt b (32 * i) 32)) []
  let u := ((u.sbLoadBegin.putStandby bank []).sbLoadEnd.sbVerify).verifyDone ecc w
  if u.sbState = 5 then (u.put Reg.LAT_SWAP_AT.AT 0).swapArm true else u

/-- Registers of Weir return to their reset values when the package is not loaded (R573). -/
def Chip.weirDefaults (u : Chip) : Chip :=
  (u.setRegs 4).foldl (fun u a => ((regPieces a).filter (fun p => p.fld.acc == .rwl)).foldl (fun u p => u.put p.fld p.fld.rst) u) u

/-- What a rejected configuration leaves (R573): the registers, the channel SRAM and the stores that the loader has written are as they were
before the load. -/
def Chip.unload (u back : Chip) : Chip :=
  let u := { u with chans := back.chans, com := back.com, ports := back.ports, cic := back.cic, zst := back.zst, ret := back.ret }
  ([3, 4, 5, 6, 7, 10, 12].flatMap u.setRegs).foldl (fun u a => u.putRwl a (back.rwlValue a)) u

/-- The pages that the loader has written at boot, in ascending set order. -/
def Chip.loadedPages (u : Chip) : List Nat :=
  ([3, 4, 5, 6, 7, 10, 12].flatMap u.setRegs).foldl (fun l a => addNew (pageOf a) l) []

/-- CONFIG_CHANGE of each page that the loader has written, as its lock closes (02 R47). -/
def Chip.loadEvents (u old : Chip) : Chip :=
  u.loadedPages.foldl (fun u pg => u.fwRaise (srcOf pg) 0xF0 [pg, old.pageCrc pg, u.pageCrc pg, 7]) u

/-- The sets are loaded and judged; a rejected configuration leaves what stood before, with CFG_DEFAULTS reason 3 (R573), a rejected lattice
image no image in STANDBY, whose state and results stand (DESIGN CHOICE: log 114), and
APP_REJECTED from each channel where the application was at fault (07 Table 7.10). -/
def Chip.loadPackage (u : Chip) (l : List ParamSet) (ecc w : Nat) : Chip :=
  let v := ((l.foldl Chip.loadOne u).loadKeys).loadClaim
  let back := u.weirDefaults.loadClaim
  match v.rejection with
  | some e =>
    let d := (v.unload back).cfgDefaults [e.1, 3, e.2]
    if e.2 ≠ 230 then d
    else
      let cond := ((appAt v.loadMem 0).failing v.loadMem v.appCtx).getD 0
      foldUpTo 3 d (fun d c => if (d.chan c).passed then d.rtEvent c 0x07 [cond] else d)
  | none =>
    let v := v.loadEvents u
    match l.find? (fun (s : ParamSet) => s.1 == 13) with
    | none => v
    | some s =>
      let x := v.loadLattice s.2.2 ecc w
      if x.sbState = 5 then x
      else ((x.unload back).putStandby [] []).cfgDefaults [13, 3, 225]

/-- Inputs that kept their proof at a wake stay NORMAL through the warm restart that follows (09 R303). -/
def Chip.keepProofs (u : Chip) : Chip :=
  let l := u.sin.kept
  let u := { u with sin := { u.sin with kept := [] } }
  l.foldl (fun u e => if u.sinUsed e.1 ∧ u.get (Reg.SIN_ST.STATE e.1) = 1 then (u.sinState e.1 2).put (Reg.SIN_PROOF.PROOF e.1) e.2 else u) u

/-- The RWL fields of a register as a word holds them. -/
def rwlWord (a v : Nat) : Nat :=
  ((regPieces a).filter (fun p => p.fld.acc == .rwl)).foldl (fun n p => n + bits v (p.regLo + p.width - 1) p.regLo * 2 ^ p.regLo) 0

/-- The value that the loader supplies for the check of R175: that of set 4 as the package holds it, or of the reset values where no package
is loaded. -/
def Chip.suppliedCv (u : Chip) : Nat :=
  let set4 := match u.on Reg.CFG_STAT.DEFAULTS, u.bootPackage with
    | false, some l => (l.find? (fun (s : ParamSet) => s.1 == 4)).map (fun (s : ParamSet) => s.2.2)
    | _, _ => none
  match set4 with
  | some b => Config.weirCheck ((u.setRegs 4).zipIdx.map (fun e => rwlWord e.1 (leAt b (4 * e.2) 4)))
  | none => Config.weirCheck ((u.setRegs 4).map ({ u with regs := [] } : Chip).rwlValue)

/-- Step 9: WPOR is read and cleared (07 R258), the package is loaded unless defaults apply, Weir checks its parameters (05 R175). -/
def Chip.bootStep9 (u : Chip) (ecc w : Nat) : Chip :=
  let u := { u with boot := { u.boot with wpor := u.on Reg.WR_STAT.WPOR } }
  let u := u.put Reg.WR_STAT.WPOR 0
  -- R605: the load port writes every channel that is not ACTIVE
  let u := foldUpTo 3 u (fun u c => if u.chState c = 3 then u else u.loadFirmware c)
  let u := match u.on Reg.CFG_STAT.DEFAULTS, u.bootPackage with
    | false, some l => u.loadPackage l ecc w
    | _, _ => u.weirDefaults.loadClaim
  -- 14 R422: TM_STOFF is the copy of WR_STOFF
  let u := if u.on Reg.WR_STAT.STOFF_SET then (u.put Reg.TM_STOFF.STOFF (u.get Reg.WR_STOFF.STOFF)).put Reg.TM_STAT.STOFF 1 else u
  let u := (u.modWeir (fun x => { x with cfgCv := u.suppliedCv })).weirCfgCheck
  let u := ((u.sinLoad.sluiceLoad).sinComparatorTest u.boot.sinBad).sluiceComparatorTest u.boot.soutBad
  u.fabricRewind

/-! ### Restart (07 R256 to R258, Tables 7.8, 7.9) -/

/-- Why the retained store is not accepted (R256): reason of RETAIN_REJECTED and page. -/
def Chip.retainBad (u : Chip) (c : Nat) : Option (Nat × Nat) :=
  let n := u.get Reg.ZST_SELF.RETAIN
  let ks := List.range (min (u.app c).retPages 64)
  let page := fun (k : Nat) => u.ret.newest.find? (fun e => e.1 == k)
  let frame := fun (k : Nat) => ((page k).map (fun e => e.2.data)).getD []
  let id := u.get Reg.ZST_ID.ID
  let badFrame := fun (k : Nat) => let f := frame k
    !u.preOk c n f || frSrc f != id || frDst f != id || frCid f != u.useCid c n
  match ks.find? (fun k => (page k).isNone) with
  | some k => some (1, k)
  | none => match ks.find? badFrame with
    | some k => some (2, k)
    | none => (ks.find? (fun k => beAt (frPayload (frame k)) 8 8 != u.checkValue c)).map (fun k => (3, k))

/-- The restart of a channel: kind, cause as a row of Table 7.8, and why the retained store was rejected. -/
def Chip.restartKind (u : Chip) (c : Nat) (r : ResetReq) : Nat × Nat × Option (Nat × Nat) :=
  if r.kind = 1 then (1, 1, none)
  else if u.boot.cold then (1, 4, none)
  else if !(u.app c).warmEn then (1, 2, some (4, 0))
  else match u.retainBad c with
    | some e => (1, 2, some e)
    | none => (2, 2, none)

/-- The library-block data of the retained pages; timers start anew unless Weir time was continuous, and a locked ROUTE asks again
(Table 7.9). -/
def Chip.retainedBlks (u : Chip) (c : Nat) : List Blk :=
  let ks := List.range (min (u.app c).retPages 64)
  let vals := (u.ret.newest.filter (fun e => ks.contains e.1)).flatMap (fun e => e.2.vals)
  vals.map (fun b => { b with fresh := if b.lib = 0x20 then b.locked
    else u.boot.wpor && (if b.lib = 2 ∨ b.lib = 3 then b.st == 1 else b.st != 0) })

/-- The RETAIN variables of user types take their retained bytes (Table 7.9). -/
def Chip.retainedBytes (u : Chip) (c : Nat) (l : List Blk) : Chip :=
  let ds := (u.app c).descs (u.sram c)
  l.foldl (fun u b => match ds.find? (fun d => d.key == b.key) with
    | some d => b.bytes.foldl (fun u e => u.sramWrite c (instBase + d.off + e.1) [e.2]) u
    | none => u) u

/-- The runtime of a channel starts (Table 7.9; 12 R369; 13 Table 13.5). -/
def Chip.rtStart (u : Chip) (c : Nat) (r : ResetReq) : Chip :=
  let k := u.restartKind c r
  let rx := u.conns c false
  let warm := decide (k.1 = 2)
  let rt : Rt := { restart := k.1, cause := k.2.1, activeAt := u.weir.time, conns := rx.map (fun n => (n, { st := 1 })) }
  let kept := if warm then u.retainedBlks c else []
  let rt := { rt with blocks := kept.filter (fun b => b.lib != 0), saved := kept.map (fun b => { b with fresh := false }) }
  let ended := (u.run c).ended
  let u := ({ u with rt := u.rt.set c rt }).retainedBytes c kept
  let u := match k.2.2 with
    | some e => u.rtEvent c 0x03 [e.1, e.2]
    | none => u
  let u := if warm then u.rtEvent c 0x02 [lvl u.boot.wpor, min (u.app c).retPages 64] else u.rtEvent c 0x01 [k.2.1]
  -- 08 R280: a restart ends every force
  let u := ended.foldl (fun u e => u.rtEvent c 0x0F [e.1, e.2, 4]) u
  let u := { u with boot := { u.boot with restart := k.1 } }
  if u.isPartner then (u.modPair c (fun p => { p with returning := true })).pairEnter c 1 1 else u

/-! ### Entry to ACTIVE (step 11) -/

/-- The held condition with another cause than a power failure (21 R583). -/
def Chip.heldCause (u : Chip) : Bool :=
  let cause := if u.on Reg.FLT_STAT.HELD then some (u.get Reg.FLT_FIRST.FCODE) else u.evrHeld
  match cause with
  | some f => f != 0x1006 && f != 0x1007
  | none => false

/-- The firmware that has booted: a trial whose channels are all ACTIVE within 2 s makes its slot the running one (20 R572). -/
def Chip.fwBooted (u : Chip) (all : Bool) : Chip :=
  let slot := u.get Reg.BOOT_STAT.SLOT
  let left := u.com.trial
  let inTime := match u.boot.released with
    | some t => decide (u.now ≤ t + sec 2)
    | none => false
  let done := decide (left ≠ 0 ∧ slot = u.trialSlot) && all && inTime
  let slots := modAt (modAt u.com.slots (1 - slot) (fun f => { f with state := 2 })) slot (fun f => { f with state := 5 })
  let u := if done then { u with com := { u.com with run := slot, prev := u.com.run, trial := 0, slots := slots } } else u
  (u.fwShow).fwRaise 100 0x06 [slot, (u.com.slots.getD slot {}).version, left, u.get Reg.FW_STAT.ACT_BOOT]

/-- Step 11: the channels that have passed enter ACTIVE together; Confluence takes its mode, or SAFE with 0x9001 in a held lockout. -/
def Chip.bootActive (u : Chip) (r : ResetReq) : Chip :=
  let l := (List.range 3).filter (fun c => u.chState c == 1 && (u.chan c).passed)
  let held := u.heldCause
  let u := if held then u.confSafe 0x9001 else u
  let u := l.foldl (fun u c => (u.rtStart c r).chActive c) u
  let u := l.foldl (fun u c => u.modChan c (fun h => { h with passed := false })) u
  let u := if held then u else u.confStart (maskOf l)
  -- 05 R145: Weir's voting set is Confluence's at this moment
  let u := (u.setChange (u.get Reg.CF_MODE.MASK)).latRestrict.signalEnables
  let u := if u.boot.restart = 2 then u.keepProofs else u
  ((u.put Reg.TM_STAT.VALID 0).toutArm).fwBooted (l.length == 3)

/-! ### BOOT_STEP_DONE (R602, Tables 22.5 to 22.7) -/

/-- Steps that have to be behind a step. -/
def bootNeeds (cold : Bool) (step : Nat) : List Nat :=
  match step with
  | 3 => [1]
  | 4 => [3]
  | 5 => [3]
  | 6 => if cold then [3, 5] else [3]
  | 7 => [3]
  | 8 => [6, 7]
  | 9 => [2, 4, 8]
  | 10 => [9]
  | 11 => [10]
  | _ => []

/-- Step 3: PLL and clock monitor (R593, R596). -/
def Chip.bootStep3 (u : Chip) : Chip :=
  let u := ((u.put Reg.CLK_STAT.REF_OK 1).put Reg.CLK_STAT.ROOT_LOCK 1).put Reg.CLK_CTL.PLL_EN 1
  (u.put Reg.CLK_CTL.SEL 1).put Reg.CLK_STAT.ON_PLL 1

/-- Step 6: the slot that starts (20 R570, R572): the one on trial, else the running one; the other one where it fails; none where
neither passes. -/
def Chip.bootSlot (u : Chip) (ok ok2 : Bool) : Option (Nat × Bool) :=
  let first := if u.com.trial = 0 then u.com.run else u.trialSlot
  let fit := fun (n : Nat) (sig : Bool) => let f := u.com.slots.getD n {}; sig && decide (f.state ≠ 0 ∧ u.com.svn ≤ f.svn)
  if fit first ok then some (first, false) else if fit (1 - first) ok2 then some (1 - first, true) else none

/-- A slot is started; FW_REVERTED where the trial before it is used up (20 R572). A slot that failed its signature is INVALID. -/
def Chip.bootStep6 (u : Chip) (slot : Nat) (fallback : Bool) (act : Bool) : Chip :=
  let k := u.com
  let trial := decide (k.trial ≠ 0 ∧ slot = u.trialSlot)
  let slots := modAt k.slots slot (fun f => { f with state := if trial then 4 else 5 })
  let slots := if fallback then modAt slots (1 - slot) (fun f => { f with state := if f.state = 0 then 0 else 3 }) else slots
  let k := { k with slots := slots, run := if trial then k.run else slot, trial := if k.trial ≠ 0 ∧ trial = false then 0 else k.trial }
  let u := ({ u with com := { k with reverted := none }, boot := { u.boot with recovery := false } }).fwShow
  let u := match k.reverted with
    | some f => u.fwRaise 100 0x07 [f, slot]
    | none => u
  ((u.put Reg.BOOT_STAT.SLOT slot).put Reg.BOOT_STAT.FALLBACK (lvl fallback)).put Reg.FW_STAT.ACT_BOOT (lvl act)

/-- A step has completed. -/
def Chip.bootDone (u : Chip) (step : Nat) : Chip :=
  ({ u with boot := { u.boot with done := addNew step u.boot.done } }).put Reg.BOOT_STAT.STEP step

/-- The work of a step, and its failures. A warm boot has no step 5; the LPDDR4X leaves self-refresh (Table 22.7). -/
def Chip.bootStep (u : Chip) (r : ResetReq) (step : Nat) (ok ok2 : Bool) (m m2 : Nat) : Chip :=
  match step with
  | 1 => if ok then u.fwShow.bootDone 1 else u.bootFail 0x7101 1
  | 2 => if u.on Reg.WR_STAT.READY then u.bootDone 2 else u
  | 3 => if !ok then u.bootFail 0x7103 3
    else if !ok2 then (u.clockFaultFree 0x7006 7).bootFail 0x7006 3
    else (if r.kind = 1 then u.bootStep3 else u.bootStep3.put Reg.CLK_STAT.DDR_LOCK 1).bootDone 3
  | 4 =>
    if (List.range 3).all (fun c => u.chState c != 1 || (u.chan c).passed) then
      ({ u with boot := { u.boot with sinBad := m, soutBad := m2 } }).bootDone 4
    else u
  | 5 => if r.kind ≠ 1 then u else if ok = false then u.bootFail 0x7105 5 else (u.put Reg.CLK_STAT.DDR_LOCK 1).bootDone 5
  | 6 =>
    match u.bootSlot ok ok2 with
    | some e => (u.bootStep6 e.1 e.2 (r.kind == 3 && r.origin == 3)).bootDone 6
    | none => { u with boot := { u.boot with recovery := true } }
  | 7 => if ok then u.bootDone 7
    else (({ u with boot := { u.boot with emmcBad := true } }).put Reg.EVR_STAT.STATE 5).bootDone 7
  | 8 => u.bootStep8.bootDone 8
  | 9 => (u.bootStep9 m m2).bootDone 9
  | 10 => (u.sluiceOffTest m).bootDone 10
  | 11 => (u.bootActive r).bootDone 11
  | _ => u

/-- BOOT_STEP_DONE (R602): the step's predecessors are behind it and it has not been done; a boot that has stopped goes no further. -/
def execBootStepDone (step : Nat) (ok ok2 : Bool) (m m2 : Nat) (s : State) : Host.Outcome State Fault Refusal :=
  let u := s.chip
  match u.boot.reset, u.boot.released with
  | some r, some _ =>
    s.become (if u.boot.stopped || u.boot.done.contains step || !(bootNeeds (r.kind == 1) step).all (fun k => u.boot.done.contains k) then u
      else u.bootStep r step ok ok2 m m2)
  | _, _ => s.become u

end Sys2Proof.Machine
end

