-- ==== Sys2Proof/Machine/Bridge.lean ====
section
/-!
DEFINITION. The bridge and the check-value units (chapter 15).
-/
namespace Sys2Proof.Machine

/-- Page 0 of the bridge, the page of a check-value unit. -/
def brPage : Nat := 0x42000000
def cvuPage (i : Nat) : Nat := slot i 8 0x42100000 0x4000

/-! ### Check-value units (R459 to R462) -/

/-- The parameters of a unit; a WIDTH outside 8 to 64 is never stored (Table 15.9). -/
def Chip.cvuParam (u : Chip) (i : Nat) : CrcParam :=
  let w := u.get (Reg.CVU_CFG.WIDTH i)
  ⟨w, u.get (Reg.CVU_POLY.VAL i) % 2 ^ w, u.get (Reg.CVU_INIT.VAL i) % 2 ^ w, u.on (Reg.CVU_CFG.REFIN i), u.on (Reg.CVU_CFG.REFOUT i),
   u.get (Reg.CVU_XOR.VAL i) % 2 ^ w⟩

/-- CVU_RES follows CVU_VAL (R459). -/
def Chip.cvuSync (u : Chip) (i : Nat) : Chip :=
  let p := u.cvuParam i
  u.put (Reg.CVU_RES.VAL i) (crcOut p (u.get (Reg.CVU_VAL.VAL i) % 2 ^ p.width))

/-- The unit absorbs bytes. -/
def Chip.cvuAbsorb (u : Chip) (i : Nat) (b : List Byte) : Chip :=
  let p := u.cvuParam i
  (u.put (Reg.CVU_VAL.VAL i) (b.foldl (crcByte p) (u.get (Reg.CVU_VAL.VAL i) % 2 ^ p.width))).cvuSync i

/-- The unit computes over one frame payload, from INIT (R461). -/
def Chip.cvuFrame (u : Chip) (i : Nat) (b : List Byte) : Chip :=
  (u.put (Reg.CVU_VAL.VAL i) (u.cvuParam i).init).cvuAbsorb i b

/-- The bytes of the result: most significant first, least significant first where REFOUT = 1. -/
def Chip.cvuBytes (u : Chip) (i : Nat) : List Byte :=
  let p := u.cvuParam i
  let n := p.width / 8
  let v := u.get (Reg.CVU_RES.VAL i)
  if p.refOut then leBytes n v else beBytes n v

/-- Transmit append (R461). -/
def Chip.cvuAppend (u : Chip) (i : Nat) (b : List Byte) : List Byte × Chip :=
  let u := u.cvuFrame i b
  (b ++ u.cvuBytes i, u)

/-- A check failure of unit `i`, of entry or region `who`: CVU_CHECK_FAIL at most once per second (R461). -/
def Chip.cvuFail (u : Chip) (i who : Nat) : Chip :=
  let u := ((u.satInc (Reg.CVU_STAT.CHK_FAIL i)).put (Reg.CVU_STAT.LAST_OK i) 0).irq (cvuPage i) 0
  let s := u.br.fails.getD i {}
  let due := match s.last with
    | none => true
    | some t => decide (t + sec 1 ≤ u.now)
  let s' : Stranger := if due then { since := 0, last := some u.now } else { s with since := s.since + 1 }
  let u := { u with br := { u.br with fails := modAt u.br.fails i (fun _ => s') } }
  if due then u.raise (65 + i) 0x06 [i, who, s.since + 1] else u

/-- Receive check (R461): the payload without its check bytes, where they match. -/
def Chip.cvuCheck (u : Chip) (i who : Nat) (b : List Byte) : Option (List Byte) × Chip :=
  let n := (u.cvuParam i).width / 8
  let body := b.take (b.length - n)
  let u := u.cvuFrame i body
  if n ≤ b.length ∧ b.drop (b.length - n) = u.cvuBytes i then (some body, u.put (Reg.CVU_STAT.LAST_OK i) 1)
  else (none, u.cvuFail i who)

/-- Table 15.7: WIDTH, POLY, INIT, REFIN and REFOUT, XOR of a preset. -/
def cvuPresets : List (Nat × Nat × Nat × Nat × Nat) := [
  (8, 0x07, 0, 0, 0), (16, 0x1021, 0xFFFF, 0, 0), (16, 0x8005, 0xFFFF, 1, 0),
  (32, 0x04C11DB7, 0xFFFFFFFF, 1, 0xFFFFFFFF), (32, 0x1EDC6F41, 0xFFFFFFFF, 1, 0xFFFFFFFF),
  (64, 0x42F0E1EBA9EA3693, 0, 0, 0), (64, 0x42F0E1EBA9EA3693, 0xFFFFFFFFFFFFFFFF, 1, 0xFFFFFFFFFFFFFFFF)]

/-- A preset loads its parameters (R460); 8 to 15 name none. -/
def Chip.cvuPreset (u : Chip) (i n : Nat) : Chip :=
  match cvuPresets[n - 1]? with
  | some (w, p, x, r, o) =>
    if n = 0 then u
    else ((((((u.put (Reg.CVU_CFG.WIDTH i) w).put (Reg.CVU_POLY.VAL i) p).put (Reg.CVU_INIT.VAL i) x).put (Reg.CVU_CFG.REFIN i) r).put
      (Reg.CVU_CFG.REFOUT i) r).put (Reg.CVU_XOR.VAL i) o)
  | none => u

/-- The effect of an admitted write to CVU_CFG (R460, R462, Table 15.9): a non-zero PRESET loads the parameters in the same write;
otherwise REFIN, REFOUT and a WIDTH of 8 to 64 are taken and PRESET is 0. -/
def Chip.cvuCfg (u : Chip) (i v : Nat) : Chip :=
  let preset := bits v 31 28
  let u := u.put (Reg.CVU_CFG.MODE i) (bits v 27 26)
  let u := if preset ≠ 0 then (u.put (Reg.CVU_CFG.PRESET i) preset).cvuPreset i preset
    else
      let w := bits v 6 0
      let u := ((u.put (Reg.CVU_CFG.PRESET i) 0).put (Reg.CVU_CFG.REFIN i) (bits v 25 25)).put (Reg.CVU_CFG.REFOUT i) (bits v 24 24)
      if 8 ≤ w ∧ w ≤ 64 then u.put (Reg.CVU_CFG.WIDTH i) w else u
  u.cvuSync i

/-- CVU_VAL_WRITE (R462): unit, upper half or lower half, value. -/
def Chip.cvuVal (u : Chip) (i : Nat) (hi : Bool) (v : Nat) : Chip :=
  if u.on (Reg.CVU_STAT.BUSY i) then u.accessErr (cvuPage i + 0x60)
  else
    let old := u.get (Reg.CVU_VAL.VAL i)
    let new := if hi then v % 2 ^ 32 * 2 ^ 32 + old % 2 ^ 32 else old / 2 ^ 32 * 2 ^ 32 + v % 2 ^ 32
    ((u.put (Reg.CVU_VAL.VAL i) (new % 2 ^ (u.cvuParam i).width)).cvuSync i).answer .ok

/-- Bytes fed by software: absorbed in SOFTWARE mode (R461). -/
def Chip.cvuFeed (u : Chip) (i : Nat) (b : List Byte) : Chip :=
  (if u.get (Reg.CVU_CFG.MODE i) = 0 then u.cvuAbsorb i b else u).answer .ok

/-- RANGE_WRITE_ABSORB (R461): a completed management-fabric write; every unit in RANGE mode absorbs the bytes within its
range. -/
def execRangeWriteAbsorb (a : Nat) (b : List Byte) (s : State) : Host.Outcome State Fault Refusal :=
  s.become (foldUpTo 8 s.chip (fun u i =>
    if u.get (Reg.CVU_CFG.MODE i) = 2 then
      let lo := u.get (Reg.CVU_BASE.ADDR i)
      let hi := lo + u.get (Reg.CVU_LEN.LEN i)
      u.cvuAbsorb i ((b.zipIdx.filter (fun e => decide (lo ≤ a + e.2 ∧ a + e.2 < hi))).map (·.1))
    else u))

/-! ### Tables and regions (R443, R444, R457) -/

/-- The active and the shadow routing table. -/
def Chip.brActive (u : Chip) : List (Nat × List Nat) := if u.get Reg.BR_STAT.BANK = 0 then u.br.tbl0 else u.br.tbl1
def Chip.brShadow (u : Chip) : List (Nat × List Nat) := if u.get Reg.BR_STAT.BANK = 0 then u.br.tbl1 else u.br.tbl0

/-- The words of an entry; an entry never written reads 0. -/
def brEntry (t : List (Nat × List Nat)) (i : Nat) : List Nat := assoc t i [0, 0, 0, 0]

/-- Word `k` of an entry. -/
def brWord (e : List Nat) (k : Nat) : Nat := e.getD k 0

/-- The sort key of an entry (R444). -/
def brKey (e : List Nat) : Nat := bits (brWord e 1) 7 0 * 2 ^ 32 + brWord e 0

/-- Identifier kinds of a bridge port (Table 15.1). -/
def kindOk (q k : Nat) : Bool :=
  if q < 8 then k == 3 || k == 4 else if q < 12 then decide (k ≤ 2) else if q < 14 then k == 5 else false

/-- The unit that an entry names, and its CVU_OP. -/
def brCvu (e : List Nat) : Option (Nat × Nat) :=
  if (brWord e 3).testBit 21 then some (bits (brWord e 3) 20 18, bits (brWord e 3) 17 16) else none

/-- Whether an entry breaks R444 or R462. The answers of OUT = 14 go back on the arrival port; OUT = 15 sends nothing. -/
def Chip.brEntryBad (u : Chip) (e : List Nat) : Bool :=
  let inq := bits (brWord e 1) 7 4
  let kind := bits (brWord e 1) 3 0
  let out := bits (brWord e 3) 31 28
  let ok := bits (brWord e 3) 27 24
  let outBad := if out < 14 then !kindOk out ok else if out = 14 then !kindOk inq ok else false
  let cvuBad := match brCvu e with
    | some (i, op) => op == 3 || u.get (Reg.CVU_CFG.MODE i) != 1
    | none => false
  !kindOk inq kind || outBad || (ok == 3 && kind != 3) || cvuBad

/-- The first failing entry of a shadow table of `n` entries, with its STATUS. -/
def Chip.brTableBad (u : Chip) (t : List (Nat × List Nat)) (n : Nat) : Option (Nat × Nat) :=
  if 4096 < n then some (4096, 2)
  else (List.range n).findSome? (fun i =>
    if 0 < i ∧ brKey (brEntry t i) ≤ brKey (brEntry t (i - 1)) then some (i, 1)
    else if u.brEntryBad (brEntry t i) then some (i, 2) else none)

/-- CVU_STAT.OWNED: units that an active entry, an active region or an RS-485 port names (Table 15.9). -/
def Chip.cvuOwned (u : Chip) : Chip :=
  let ents := (List.range (u.get Reg.BR_TBL_STAT.COUNT)).filterMap (fun i => (brCvu (brEntry u.brActive i)).map (·.1))
  let regs := (u.br.regions.filter (fun r => r.ctl.testBit 31 && r.ctl.testBit 14)).map (fun r => bits r.ctl 13 11)
  let lines := ((List.range 2).filter (fun i => u.on (Reg.BR_UPORT.CVU_EN i))).map (fun i => u.get (Reg.BR_UPORT.CVU i))
  let l := ents ++ regs ++ lines
  foldUpTo 8 u (fun u i => u.put (Reg.CVU_STAT.OWNED i) (lvl (l.contains i)))

/-- COMMIT with COUNT = `n` (R444). -/
def Chip.tableCommit (u : Chip) (n : Nat) : Chip :=
  match u.brTableBad u.brShadow n with
  | some (i, st) => ((u.put Reg.BR_TBL_STAT.STATUS st).irqRaise brPage 64 3 [1, st, i]).answer .ok
  | none =>
    let u := (u.put Reg.BR_STAT.BANK (1 - u.get Reg.BR_STAT.BANK)).put Reg.BR_TBL_STAT.COUNT n
    let crc := crcOf crc32c ((List.range n).flatMap (fun i => (brEntry u.brActive i).flatMap (leBytes 4)))
    let u := ((u.put Reg.BR_TBL_STAT.STATUS 0).put Reg.BR_TBL_CRC.CRC crc).cvuOwned
    (u.irqRaise brPage 64 4 [n, crc]).answer .ok

/-- The admitted write of BR_TBL_W[3]: the entry at IDX is stored, IDX increments (R443). -/
def Chip.tblW3 (u : Chip) (v : Nat) : Chip :=
  let u := u.put (Reg.BR_TBL_W.W 3) v
  let i := u.get Reg.BR_TBL_IDX.IDX
  let e := (List.range 4).map (fun k => u.get (Reg.BR_TBL_W.W k))
  let b := u.br
  let u := { u with br := if u.get Reg.BR_STAT.BANK = 0 then { b with tbl1 := assocPut b.tbl1 i e } else { b with tbl0 := assocPut b.tbl0 i e } }
  u.wrapInc Reg.BR_TBL_IDX.IDX

/-- The shadow descriptor of a region: the values of its registers. -/
def Chip.brShadowRegion (u : Chip) (r : Nat) : BrRegion :=
  ⟨u.get (Reg.BR_RBASE.BASE r), u.regRead (0x42001044 + r * 16), u.get (Reg.BR_RID.ID r), u.get (Reg.BR_RRSP.ID r)⟩

/-- Fields of RCTL. -/
def brValid (g : BrRegion) : Bool := g.ctl.testBit 31
def brPrefetch (g : BrRegion) : Bool := g.ctl.testBit 29
def brWriteEn (g : BrRegion) : Bool := g.ctl.testBit 28
def brNative (g : BrRegion) : Bool := g.ctl.testBit 27
def brMaxSize (g : BrRegion) : Nat := bits g.ctl 26 24
def brPort (g : BrRegion) : Nat := bits g.ctl 23 20
def brSizeLog (g : BrRegion) : Nat := bits g.ctl 19 15
def brKind (g : BrRegion) : Nat := bits g.ctl 10 8

/-- The unit that a region names. -/
def brRegionCvu (g : BrRegion) : Option Nat := if g.ctl.testBit 14 then some (bits g.ctl 13 11) else none

/-- The STATUS with which a region commit is refused, and the region (R457, R462). -/
def Chip.brRegionsBad (u : Chip) (l : List BrRegion) : Option (Nat × Nat) :=
  let v := l.zipIdx.filter (fun e => brValid e.1)
  let first := fun (p : BrRegion → Bool) (st : Nat) => (v.find? (fun e => p e.1)).map (fun e => (st, e.2))
  let busy := u.br.slots.any (fun s => s.st != .free) || !u.br.writes.isEmpty
  let portBad := fun (g : BrRegion) => decide (13 < brPort g) || brKind g == 3 || !kindOk (brPort g) (brKind g) ||
    (match brRegionCvu g with
      | some i => u.get (Reg.CVU_CFG.MODE i) != 1
      | none => false)
  (first (fun g => brPrefetch g && g.ctl.testBit 30) 1).or
    ((first (fun g => decide (brSizeLog g < 12) || g.base % 2 ^ brSizeLog g != 0) 2).or
      ((if busy then some (3, 0) else none).or (first portBad 4)))

/-- COMMIT of the regions (R457). -/
def Chip.regionCommit (u : Chip) : Chip :=
  let l := (List.range 16).map u.brShadowRegion
  match u.brRegionsBad l with
  | some (st, r) => (((u.put Reg.BR_REG_STAT.STATUS st).put Reg.BR_REG_STAT.REGION r).irqRaise brPage 64 3 [2, st, r]).answer .ok
  | none =>
    let u := { u with br := { u.br with regions := l } }
    (((u.put Reg.BR_REG_STAT.STATUS 0).put Reg.BR_REG_STAT.REGION 0).cvuOwned).answer .ok

/-! ### Frames (R435 to R442) -/

/-- Whether a bridge port is of class DATA (R435). -/
def Chip.dataPort (u : Chip) (q : Nat) : Bool := decide (q < 14) && u.portClass q == 1

/-- BR_CNT0.MISS. -/
def Chip.brMiss (u : Chip) : Chip := u.satInc Reg.BR_CNT0.MISS

/-- A frame joins an egress queue of 8 (R442). -/
def Chip.brPush (u : Chip) (q : Nat) (f : EgrFrame) : Chip :=
  if 8 ≤ (u.br.egress.getD q []).length then u.satInc Reg.BR_CNT0.EGR_FULL
  else { u with br := { u.br with egress := modAt u.br.egress q (fun l => l ++ [f]) } }

/-- A received frame as the bridge sees it (Table 15.2, R440, R441): kind, identifier, payload, MAC addresses; and the check of
its RS-485 line. -/
def Chip.brParse (u : Chip) (q : Nat) : PortRx → Option EgrFrame × Chip
  | .eth b _ =>
    let e := ethParse b
    if e.type = 0x88B6 ∧ beAt e.payload 0 1 = 2 then
      (some ⟨4, beAt e.payload 4 4, (e.payload.drop 8).take (beAt e.payload 2 2), e.dst, e.src⟩, u)
    else (some ⟨3, e.vid.getD 0 * 65536 + e.type, e.payload, e.dst, e.src⟩, u)
  | .can id ext _ _ b _ => (some ⟨if ext then 1 else 0, id, b, 0, 0⟩, u)
  | .canXl prio sdt _ b _ => (some ⟨2, sdt * 2 ^ 11 + prio, b, 0, 0⟩, u)
  | .uart b _ =>
    let body := b.drop 2
    let i := q - 12
    if u.on (Reg.BR_UPORT.CVU_EN i) then
      let r := u.cvuCheck (u.get (Reg.BR_UPORT.CVU i)) i body
      (r.1.map (fun p => ⟨5, beAt b 0 1, p, 0, 0⟩), r.2)
    else (some ⟨5, beAt b 0 1, body.take (beAt b 1 1), 0, 0⟩, u)

/-- Reverses the bytes within units of `n` bytes (R438); `fuel` bounds the number of units. -/
def swapUnits (n : Nat) : Nat → List Byte → List Byte
  | 0, l => l
  | _, [] => []
  | fuel + 1, l => (l.take n).reverse ++ swapUnits n fuel (l.drop n)

/-- The payload limit of an output (R439). -/
def Chip.brLimit (u : Chip) (out kind : Nat) : Nat :=
  if kind ≤ 1 then (if u.portCfg out Reg.PORT_CFG.MODE = 0 then 8 else 64)
  else if kind = 2 then 2048 else if kind = 3 then 1500 else if kind = 4 then 1492 else 250

/-- The entry that a frame matches in the active table. -/
def Chip.brLookup (u : Chip) (q : Nat) (f : EgrFrame) : Option (Nat × List Nat) :=
  let k := (q * 16 + f.kind) * 2 ^ 32 + f.id
  ((List.range (u.get Reg.BR_TBL_STAT.COUNT)).map (fun i => (i, brEntry u.brActive i))).find? (fun e => brKey e.2 == k)

/-- A register message joins the inbound queue of 8 (R455). -/
def Chip.brInbound (u : Chip) (q kind id : Nat) (b : List Byte) : Chip :=
  if u.on Reg.BR_IN_CFG.EN && decide (u.br.inbound.length < 8) then
    { u with br := { u.br with inbound := u.br.inbound ++ [Inbound.mk q kind id b] } }
  else u.satInc Reg.BR_CNT2.IN_DROP

/-- Step 4 (R437): the payload with the check bytes of an entry that appends. -/
def Chip.brAppend (u : Chip) (e : List Nat) (b : List Byte) : List Byte × Chip :=
  match brCvu e with
  | some c => if c.2 = 1 then u.cvuAppend c.1 b else (b, u)
  | none => (b, u)

/-- Steps 3 to 5 for a frame after its byte-order conversion (R437). -/
def Chip.brForward (u : Chip) (q : Nat) (f : EgrFrame) (e : List Nat) : Chip :=
  let out := bits (brWord e 3) 31 28
  let kind := bits (brWord e 3) 27 24
  if out = 15 then u
  else if decide (out < 14) && decide (u.brLimit out kind < f.payload.length) then u.satInc Reg.BR_CNT1.TOO_BIG
  else
    let r := u.brAppend e f.payload
    if out = 14 then r.2.brInbound q kind (brWord e 2) r.1
    else r.2.brPush out (EgrFrame.mk kind (brWord e 2) r.1 f.dst f.src)

/-- The steps of R437 for a matched frame of entry `i`. -/
def Chip.brMatched (u : Chip) (q i : Nat) (f : EgrFrame) (e : List Nat) : Chip :=
  let r : Option (List Byte) × Chip := match brCvu e with
    | some (c, 2) => u.cvuCheck c i f.payload
    | some (c, 0) => (some f.payload, u.cvuFrame c f.payload)
    | _ => (some f.payload, u)
  match r.1 with
  | none => r.2
  | some p =>
    let n := 2 ^ bits (brWord e 3) 23 22
    if p.length % n ≠ 0 then r.2.satInc Reg.BR_CNT1.ALIGN
    else r.2.brForward q { f with payload := if n = 1 then p else swapUnits n p.length p } e

/-- The valid region whose response identifier a frame carries (R447). -/
def Chip.brResponse (u : Chip) (q : Nat) (f : EgrFrame) : Option (Nat × BrRegion) :=
  (u.br.regions.zipIdx.find? (fun e => brValid e.1 && brPort e.1 == q && brKind e.1 == f.kind && e.1.rsp == f.id)).map (fun e => (e.2, e.1))

/-- BRIDGE_FRAME (R435 to R437): a completed frame of bridge port `q`. A response of a region is no routed frame: READ_RESPONSE
and WRITE_ACK take it. -/
def execBridgeFrame (q : Nat) (f : PortRx) (s : State) : Host.Outcome State Fault Refusal :=
  let u := s.chip
  if !u.dataPort q then s.become u
  else
    let r := u.brParse q f
    let u := r.2
    match r.1 with
    | none => s.become u
    | some f =>
      if (u.brResponse q f).isSome then s.become s.chip
      else match u.brLookup q f with
        | none => s.become u.brMiss
        | some (i, e) =>
          let out := bits (brWord e 3) 31 28
          s.become (if out < 14 && !u.dataPort out then u.brMiss else u.brMatched q i f e)

/-- RS485_IDLE_DISCARD (R441): UART 0 or 1. -/
def execRs485IdleDiscard (i : Nat) (s : State) : Host.Outcome State Fault Refusal :=
  s.become (if i < 2 then s.chip.rxErr (12 + i) else s.chip)

/-- A frame in the encapsulation of its port (R439 to R441); an RS-485 line adds its own check. -/
def Chip.brWire (u : Chip) (q : Nat) (f : EgrFrame) : Wire × Chip :=
  if q < 8 then
    if f.kind = 4 then
      (.eth (u.ethFrame q ([0x03, 0x5A, 0xFE] ++ beBytes 3 f.id) none 0x88B6
        (beBytes 1 2 ++ beBytes 1 0 ++ beBytes 2 f.payload.length ++ beBytes 4 f.id ++ f.payload)), u)
    else (.eth (ethPad (beBytes 6 f.dst ++ beBytes 6 f.src ++ beBytes 2 0x8100 ++
      beBytes 2 (u.portCfg q Reg.PORT_CFG.PCP * 2 ^ 13 + bits f.id 27 16) ++ beBytes 2 f.id ++ f.payload)), u)
  else if q < 12 then
    if f.kind = 2 then (.canXl (bits f.id 10 0) (bits f.id 18 11) 0 0 f.payload, u)
    else
      let fd := u.portCfg q Reg.PORT_CFG.MODE != 0
      let n := if fd then canFdLen f.payload.length else f.payload.length
      (.can (f.kind == 1) fd f.id (f.payload ++ List.replicate (n - f.payload.length) 0), u)
  else
    let i := q - 12
    let r := if u.on (Reg.BR_UPORT.CVU_EN i) then u.cvuAppend (u.get (Reg.BR_UPORT.CVU i)) f.payload else (f.payload, u)
    (.uart (beBytes 1 f.id ++ beBytes 1 f.payload.length ++ r.1), r.2)

/-- BRIDGE_EGRESS_TX (R442): the port sends the next frame. -/
def execBridgeEgressTx (q : Nat) (s : State) : Host.Outcome State Fault Refusal :=
  let u := s.chip
  match u.br.egress.getD q [] with
  | [] => s.become u
  | f :: t =>
    if u.dataPort q && (decide (12 ≤ q) || u.portSends q) then
      let w := u.brWire q f
      let u := w.2
      s.become (({ u with br := { u.br with egress := modAt u.br.egress q (fun _ => t) } }).wired q [w.1])
    else s.become u

/-! ### Windows (R445 to R454) -/

/-- BR_STAT.SLOTS and PWQ. -/
def Chip.brCounts (u : Chip) : Chip :=
  (u.put Reg.BR_STAT.SLOTS (u.br.slots.filter (fun s => s.st != .free)).length).put Reg.BR_STAT.PWQ u.br.writes.length

/-- Changes a slot. -/
def Chip.modSlot (u : Chip) (n : Nat) (g : RdSlot → RdSlot) : Chip :=
  ({ u with br := { u.br with slots := modAt u.br.slots n g } }).brCounts

/-- The region and the remote address of an offset of window `w` (R445). -/
def Chip.winTarget (u : Chip) (w off : Nat) : Option (Nat × BrRegion × Nat) :=
  let r := u.get (Reg.BR_WSEL.REGION w)
  let g := u.br.regions.getD r {}
  let rel := u.get (Reg.BR_WSEL.WOFF w) * 64 + (off - 0x40)
  if w < 2 ∧ 0x40 ≤ off ∧ off < 0x1000 ∧ u.on (Reg.BR_WSEL.EN w) = true ∧ brValid g = true ∧ rel < 2 ^ brSizeLog g then some (r, g, g.base + rel) else none

/-- The SIZE code of an access of `n` bytes (Table 15.4). -/
def sizeCode (n : Nat) : Option Nat :=
  if n = 1 then some 0 else if n = 2 then some 1 else if n = 4 then some 2 else if n = 8 then some 3 else if n = 32 then some 4 else none

/-- The bytes of a SIZE code. -/
def sizeBytes (c : Nat) : Nat := if c = 4 then 32 else 2 ^ c

/-- R446: the SIZE code of an access that a window accepts. A line is a burst of 8-byte beats. -/
def winSize (g : BrRegion) (addr n : Nat) : Option Nat :=
  match sizeCode n with
  | none => none
  | some c =>
    if addr % n ≠ 0 then none
    else if c = 4 then (if brPrefetch g && decide (3 ≤ brMaxSize g) then some 4 else none)
    else if c ≤ brMaxSize g then some c else none

/-- Byte order between the fabric and network order (R448). -/
def brConvert (native : Bool) (c : Nat) (b : List Byte) : List Byte :=
  if native then b else if c = 4 then swapUnits 8 b.length b else b.reverse

/-- A register message leaves in one frame of its region (R447); a port of another class takes none (R435). -/
def Chip.brSend (u : Chip) (g : BrRegion) (b : List Byte) : Chip :=
  if !u.dataPort (brPort g) then u.brMiss
  else
    let r := match brRegionCvu g with
      | some i => u.cvuAppend i b
      | none => (b, u)
    r.2.brPush (brPort g) ⟨brKind g, g.id, r.1, 0, 0⟩

/-- The line that a prefetch slot holds. -/
def RdSlot.line (s : RdSlot) : Nat := s.addr / 32 * 32

/-- A prefetch slot is freed; it is counted if any byte of its line was never read (R454). -/
def Chip.pfFree (u : Chip) (n : Nat) : Chip :=
  let s := u.br.slots.getD n {}
  let u := if s.seen = 2 ^ 32 - 1 then u else u.satInc (Reg.BR_PFDISC.COUNT s.region)
  u.modSlot n (fun _ => {})

/-- The slots of a region with PREFETCH = 1. -/
def Chip.pfSlots (u : Chip) (p : RdSlot → Bool) : List Nat :=
  (u.br.slots.zipIdx.filter (fun e => e.1.st != .free && brPrefetch (u.br.regions.getD e.1.region {}) && p e.1)).map (·.2)

/-- A posted write to a line held in a prefetch slot: the line is discarded and counted (Table 15.5). -/
def Chip.pfDiscard (u : Chip) (r addr : Nat) : Chip :=
  (u.pfSlots (fun s => s.st == .ready && s.region == r && s.line == addr / 32 * 32)).foldl
    (fun u n => (u.satInc (Reg.BR_PFDISC.COUNT r)).modSlot n (fun _ => {})) u

/-- A write to a window (R445, R446, R449): bytes in ascending address order. -/
def Chip.winWrite (u : Chip) (req w off : Nat) (b : List Byte) : Chip :=
  match (if 3 ≤ req ∧ req ≤ 6 then u.winTarget w off else none) with
  | none => u.refuse
  | some (r, g, addr) =>
    match winSize g addr b.length with
    | none => u.refuse
    | some c =>
      if !brWriteEn g then u.refuse
      else
        match (List.range 32).find? (fun k => !u.br.writes.any (fun x => x.tag == 64 + k)) with
        | none => (u.answer .retry)
        | some k =>
          let u := u.pfDiscard r addr
          let u := u.brSend g (brMessage 1 c (64 + k) addr (brConvert (brNative g) c b))
          let u := { u with br := { u.br with writes := u.br.writes ++ [PostedWrite.mk (64 + k) r addr u.now] } }
          (u.brCounts.answer .ok)

/-- A read served from a READY line: its bytes count as read. -/
def Chip.pfServe (u : Chip) (n addr len : Nat) : Chip :=
  let s := u.br.slots.getD n {}
  let o := addr - s.line
  (u.modSlot n (fun s => { s with seen := s.seen ||| (2 ^ len - 1) * 2 ^ o })).answer (.data (leNat ((s.data.drop o).take len)))

/-- A new read (R450): RETRY beyond 16 slots of a requester; otherwise the lowest free slot is ISSUED and the READ goes out. -/
def Chip.rdAllocate (u : Chip) (req r : Nat) (g : BrRegion) (addr c : Nat) : Chip :=
  let held := (u.br.slots.filter (fun s => s.st != .free && s.req == req)).length
  match (List.range 64).find? (fun n => (u.br.slots.getD n {}).st == .free) with
  | none => u.answer .retry
  | some n =>
    if 16 ≤ held then u.answer .retry
    else
      let a := if brPrefetch g then addr / 32 * 32 else addr
      let c := if brPrefetch g then 4 else c
      let u := u.modSlot n (fun _ => { st := .issued, req := req, region := r, addr := a, size := c, since := u.now })
      (u.brSend g (brMessage 2 c n a [])).answer .retry

/-- The line of a requester is left at its first read outside it (R454). -/
def Chip.pfLeave (u : Chip) (req r addr : Nat) : Chip :=
  (u.pfSlots (fun s => s.st == .ready && s.req == req && !(s.region == r && s.line == addr / 32 * 32))).foldl Chip.pfFree u

/-- A slot that answers a reissued read (R451). -/
def Chip.rdAnswer (u : Chip) (n : Nat) : Chip :=
  let s := u.br.slots.getD n {}
  match s.st with
  | .ready => (u.modSlot n (fun _ => {})).answer (.data (leNat s.data))
  | .error => (u.modSlot n (fun _ => {})).refuse
  | _ => u.answer .retry

/-- A read of a window (R445, R446, R450, R451, R454). -/
def Chip.winRead (u : Chip) (req w off len : Nat) : Chip :=
  match (if 3 ≤ req ∧ req ≤ 6 then u.winTarget w off else none) with
  | none => u.refuse
  | some (r, g, addr) =>
    match winSize g addr len with
    | none => u.refuse
    | some c =>
      let u := u.pfLeave req r addr
      if brPrefetch g then
        match (u.pfSlots (fun s => s.req == req && s.region == r && s.line == addr / 32 * 32)).head? with
        | some n =>
          (if (u.br.slots.getD n {}).st == .ready then u.pfServe n addr len else u.rdAnswer n)
        | none => (u.rdAllocate req r g addr c)
      else
        match u.br.slots.zipIdx.find? (fun e => e.1.st != .free && e.1.req == req && e.1.region == r && e.1.addr == addr && e.1.size == c) with
        | some e => (u.rdAnswer e.2)
        | none => (u.rdAllocate req r g addr c)

/-- READ_FAIL (R452) and WRITE_FAIL (R449). -/
def Chip.readFail (u : Chip) (n reason : Nat) : Chip :=
  let s := u.br.slots.getD n {}
  (u.modSlot n (fun s => { s with st := .error })).irqAfter brPage 64 1 [n, s.region, s.addr, reason]
def Chip.writeFail (u : Chip) (x : PostedWrite) (reason : Nat) : Chip :=
  (({ u with br := { u.br with writes := u.br.writes.filter (fun y => y.tag != x.tag) } }).brCounts).irqAfter brPage 64 2 [x.region, x.addr, reason]

/-- A response frame after the checks of its line and its region: the region and the message. -/
def Chip.brAnswer (u : Chip) (q : Nat) (f : PortRx) : Option (Nat × BrRegion × List Byte) × Chip :=
  if !u.dataPort q then (none, u)
  else
    let p := u.brParse q f
    let u := p.2
    match p.1 with
    | none => (none, u)
    | some e =>
      match u.brResponse q e with
      | none => (none, u)
      | some (r, g) =>
        match brRegionCvu g with
        | none => (some (r, g, e.payload), u)
        | some i =>
          let k := u.cvuCheck i r e.payload
          (k.1.map (fun b => (r, g, b)), k.2)

/-- READ_RESPONSE (R452): a frame with the answer to a READ. -/
def execReadResponse (q : Nat) (f : PortRx) (s : State) : Host.Outcome State Fault Refusal :=
  let k := s.chip.brAnswer q f
  let u := k.2
  match k.1 with
  | none => s.become u
  | some (r, g, b) =>
    let op := beAt b 0 1 / 16
    let n := beAt b 1 1
    let sl := u.br.slots.getD n {}
    if (op ≠ 3 ∧ op ≠ 5) ∨ 64 ≤ n then s.become u
    else if sl.st ≠ .issued ∨ sl.region ≠ r then s.become (u.satInc Reg.BR_CNT2.LATE_RSP)
    else if op = 5 then s.become (u.readFail n 2)
    else if beAt b 0 1 % 16 = sl.size ∧ b.length = 6 + sizeBytes sl.size then
      s.become (u.modSlot n (fun x => { x with st := .ready, since := u.now, data := brConvert (brNative g) sl.size (b.drop 6) }))
    else s.become u

/-- WRITE_ACK (R449): a frame with the answer to a WRITE. -/
def execWriteAck (q : Nat) (f : PortRx) (s : State) : Host.Outcome State Fault Refusal :=
  let k := s.chip.brAnswer q f
  let u := k.2
  match k.1 with
  | none => s.become u
  | some (_, _, b) =>
    let op := beAt b 0 1 / 16
    match u.br.writes.find? (fun x => x.tag == beAt b 1 1) with
    | none => s.become u
    | some x =>
      s.become (if op = 4 then ({ u with br := { u.br with writes := u.br.writes.filter (fun y => y.tag != x.tag) } }).brCounts
        else if op = 5 then u.writeFail x 2 else u)

/-- RESPONSE_TIMEOUT (R449, R452): tag of a READ or of a WRITE. -/
def execResponseTimeout (tag : Nat) (s : State) : Host.Outcome State Fault Refusal :=
  let u := s.chip
  let lim := us (100 * u.get Reg.BR_DRCFG.RSP_TO)
  let sl := u.br.slots.getD tag {}
  if tag < 64 then s.become (if sl.st = .issued then (u.until (sl.since + lim)).readFail tag 1 else u)
  else match u.br.writes.find? (fun x => x.tag == tag) with
    | some x => s.become ((u.until (x.since + lim)).writeFail x 1)
    | none => s.become u

/-- The data of a slot go to the orphan registers (R453). -/
def Chip.orphan (u : Chip) (n : Nat) : Chip :=
  let s := u.br.slots.getD n {}
  let u := if u.on Reg.BR_ORPH_INFO.VALID then u.satInc Reg.BR_ORPH_INFO.LOST else u
  let u := (((u.put Reg.BR_ORPH_ADDR.VAL s.addr).put Reg.BR_ORPH_DATA.VAL (leNat s.data)).put Reg.BR_ORPH_INFO.VALID 1).put Reg.BR_ORPH_INFO.REGION s.region
  let u := ((u.put Reg.BR_ORPH_INFO.REQ (s.req - 3)).put Reg.BR_ORPH_INFO.SIZE s.size).modSlot n (fun _ => {})
  u.irqAfter brPage 64 0 [s.addr, s.region, s.req - 3, s.size, leNat s.data]

/-- DR_TIMEOUT (R453, R454): slot. -/
def execDrTimeout (n : Nat) (s : State) : Host.Outcome State Fault Refusal :=
  let u := s.chip
  let sl := u.br.slots.getD n {}
  if sl.st ≠ .ready then s.become u
  else
    let u := u.until (sl.since + us (u.get Reg.BR_DRCFG.DR_TIMEOUT))
    s.become (if brPrefetch (u.br.regions.getD sl.region {}) then u.pfFree n else u.orphan n)

/-- The SOFT_RESET of the bridge (Table 15.5). -/
def Chip.brSoftReset (u : Chip) : Chip :=
  let u := foldUpTo 64 u (fun u n =>
    let s := u.br.slots.getD n {}
    match s.st with
    | .free => u
    | .issued => (u.readFail n 3).modSlot n (fun _ => {})
    | .ready => if brPrefetch (u.br.regions.getD s.region {}) then u.modSlot n (fun _ => {}) else u.orphan n
    | .error => u.modSlot n (fun _ => {}))
  let u := u.br.writes.foldl (fun u x => u.writeFail x 3) u
  { u with br := { u.br with egress := List.replicate 14 [], inbound := [] } }

/-! ### Inbound register target (R455) -/

/-- INBOUND_MESSAGE (R455): the oldest inbound message is served, and its answer goes back on the arrival port. -/
def execInboundMessage (s : State) : Host.Outcome State Fault Refusal :=
  let u := s.chip
  match u.br.inbound with
  | [] => s.become u
  | m :: t =>
    let u := { u with br := { u.br with inbound := t } }
    let op := beAt m.payload 0 1 / 16
    let c := beAt m.payload 0 1 % 16
    let tag := beAt m.payload 1 1
    let a := beAt m.payload 2 4
    let n := sizeBytes c
    let lo := u.get Reg.BR_IN_BASE.BASE
    let inWin := decide (lo ≤ a ∧ a + n ≤ lo + u.get Reg.BR_IN_CFG.PAGES * 4096 ∧ 0x20000000 ≤ a ∧ a + n ≤ 0x20800000 ∧ c ≤ 3 ∧ a % n = 0)
    let w := op == 1 && inWin && u.on Reg.BR_IN_CFG.WR_EN && m.payload.length == 6 + n
    let r := op == 2 && inWin
    let u := if w then { u with msram := memWriteBytes u.msram a ((m.payload.drop 6).reverse) } else u
    let ans := if w then brMessage 4 c tag a [] else if r then brMessage 3 c tag a ((memReadBytes u.msram a n).reverse) else brMessage 5 c tag a []
    s.become (u.brPush m.port ⟨m.kind, m.id, ans, 0, 0⟩)

end Sys2Proof.Machine
end

