-- ==== Sys2Proof/Machine/Bus.lean ====
section
/-!
DEFINITION. Register accesses: the general read and write of a register page (02 R34 to R43), the accesses that have rows of
their own, SOFT_RESET, and the management interrupt controller (R54, R55).
-/
namespace Sys2Proof.Machine

/-! ### Who may reach a page (R34, R38) -/

/-- Whether a write to a page breaks R38 or a rule that follows it: PORT_CFG takes writes from the loader alone (14 R408); the
Confluence port page, the event intake buffers and CH_CSN take those of their writers (04 R102, 16 R480, 19 R550). -/
def Chip.writeBarred (u : Chip) (req a : Nat) : Bool :=
  match pageInfo a with
  | none => false
  | some p =>
    if pageOf a = 0x40301000 ∧ req < 3 then !(a == 0x40301044 || a == 0x40301048 || decide (0x40301100 ≤ a ∧ a < 0x40301300))
    else if pageOf a = 0x40901000 ∧ req ≤ 6 then !intakeWrite req a
    else if req < 3 ∧ a = 0x40201060 + req * 0x4000 then false
    else if p.ty / 256 = 0xF0 ∧ p.page = 0 ∧ a % 0x1000 = 0x40 ∧ p.ty ≠ 0xF061 ∧ p.ty ≠ 0xF065 then req != 7
    else u.planeBars req a

/-! ### SOFT_RESET (R41, Table 2.7) -/

/-- The keys of a block's fields of one access type: `off` is the lowest page offset that counts. -/
def accKey (base n : Nat) (acc : Acc) (off k : Nat) : Bool :=
  let a := k / 32
  decide (base ≤ a ∧ a < base + n * 0x1000 ∧ off ≤ a % 0x1000) && (regPieces a).any (fun p => p.fld.key == k && p.fld.acc == acc)

/-- The shared-fabric target that a block is, where it is one (16 Table 16.2). -/
def targetOf (ty : Nat) : Option Nat :=
  if ty = 0xE042 then some 0 else if ty = 0xE043 then some 1 else if ty = 0xD020 then some 2 else if ty = 0xC009 then some 3
  else if ty = 0xC008 then some 4 else if ty = 0xC0F0 then some 5 else if ty = 0xE040 then some 6 else none

/-- The power controller's sequence returns to reset: what it had stopped restarts. -/
def Chip.pwrSoftReset (u : Chip) : Chip :=
  let u := { u.pwrRestart with pwr := { hold := u.pwr.hold, aonBase := u.pwr.aonBase } }
  (((u.put Reg.PWR_STAT.STATE 0).put Reg.PWR_STAT.PHASE 0).put Reg.PWR_STAT.TARGET 0).put Reg.PWR_STAT.PENDING 7

/-- The status registers of a control-plane block whose registers show its state machines. -/
def Chip.statusReset (u : Chip) (p : PageInfo) : Chip :=
  { u with regs := u.regs.filter (fun e => !accKey p.base0 p.npages .ro 0x40 e.1) }

/-- A block's state machines return to reset (Table 2.7; 15 Table 15.5; 16 R472; 17 R494; log 48). -/
def Chip.machinesReset (u : Chip) (p : PageInfo) : Chip :=
  if p.ty = 0xC002 ∨ p.ty = 0xC003 then u
  else if p.ty = 0xC004 then u.sinRestart
  else if p.ty = 0xC005 then u.sluiceReset.sluiceOff
  else if p.ty = 0xC006 then { (u.statusReset p).evrUnlocked with zst := {} }
  else if p.ty = 0xC007 then { u with gate := {} }
  else if p.ty = 0xC009 then (({ u with intake := {} }).countStaged).put Reg.INT_STAT.STALL 0
  else if p.ty = 0xC00A then u.fabricRewind
  else if p.ty = 0xC00B then u.percSoftReset p.inst
  else if p.ty = 0xC0F4 then (u.latHold).signalEnables
  else if p.ty = 0xD020 then u.brSoftReset
  else if p.ty = 0xE045 then (if u.evrState = 5 then u.evrReset else u)
  else if p.ty = 0xE046 then u.percSoftReset 3
  else if p.ty = 0xE047 then u.pwrSoftReset
  else if p.ty = 0xF061 then u.modPt p.inst (fun x => { x with disabled := false })
  else if p.ty = 0xF065 then (u.modPt (8 + 2 * p.inst) (fun x => { x with disabled := false })).modPt (9 + 2 * p.inst) (fun x => { x with disabled := false })
  else if p.ty = 0xE04A then
    -- 14 R430: the 1 s counts from the release of the reset of this page
    { u with svc := { since := if u.on (Reg.PORT_STAT.LINK (portPage 14)) then some (u.now + us 1) else none } }
  else if p.ty / 256 = 0xF0 then u.modPt (portOfPage p.ty p.inst) (fun x => { cfg := x.cfg, disabled := x.disabled })
  else u

/-- A soft reset begins: RW registers and state machines return to reset, a hung target is free again (16 R477). RWL registers,
BLK_CRC and the lock stay. -/
def Chip.softReset (u : Chip) (p : PageInfo) : Chip :=
  let u := u.machinesReset p
  let u := { u with regs := u.regs.filter (fun e => !accKey p.base0 p.npages .rw 0 e.1) }
  -- CVU_RES follows CVU_VAL (15 R459)
  let u := if p.ty = 0xD021 then u.cvuSync p.inst else u
  let u := match targetOf p.ty with
    | some t => u.modTarget t (fun g => { g with hung := false })
    | none => u
  let u := { u with pages := { u.pages with resetting := u.pages.resetting ++ [(p.base0, u.now + us 1)] } }
  ((u.put (Reg.BLK_CTRL.SOFT_RESET p.base0) 1).put (Reg.BLK_STAT.RST_BUSY p.base0) 1).refreshLines p.base0

/-- A W1S write of BLK_CTRL.SOFT_RESET. -/
def Chip.softResetWrite (u : Chip) (a : Nat) : Chip :=
  match pageInfo a with
  | some p => (u.softReset p).answer .ok
  | none => u

/-- SOFT_RESET (R41): requester, page. -/
def execSoftReset (req pg : Nat) (s : State) : Host.Outcome State Fault Refusal :=
  let u := s.chip
  let a := pageOf pg + 8
  s.become (u.atPage req a true (fun u => u.softResetWrite a))

/-- SOFT_RESET_DONE (R41): within 1 µs the soft reset has completed, and the writes that it refused set ACCESS. -/
def execSoftResetDone (pg : Nat) (s : State) : Host.Outcome State Fault Refusal :=
  let u := s.chip
  match u.pages.resetting.find? (fun r => r.1 == page0 pg) with
  | none => s.become u
  | some (b, due) =>
    let u := u.until due
    let l := u.pages.late.filter (fun x => page0 x == b)
    let u := { u with pages := { u.pages with
      resetting := u.pages.resetting.filter (fun r => r.1 != b), late := u.pages.late.filter (fun x => page0 x != b) } }
    let u := l.foldl (fun u x => u.put (Reg.BLK_ERR.ACCESS (pageOf x)) 1) u
    s.become (((u.put (Reg.BLK_CTRL.SOFT_RESET b) 0).put (Reg.BLK_STAT.RST_BUSY b) 0).refreshLines b)

/-! ### Interrupt bits (R39, R42, R43) -/

/-- Writing 1 to IRQ_PEND bits clears the latches behind them; bit 31 follows ERR_ANY. -/
def Chip.pendClear (u : Chip) (pg v : Nat) : Chip :=
  (foldUpTo 31 u (fun u b => if v.testBit b then u.clearBit (Reg.IRQ.RAW pg) b else u)).answer .ok

/-- IRQ_PEND_CLEAR (R42): requester, page, value. -/
def execIrqPendClear (req pg v : Nat) (s : State) : Host.Outcome State Fault Refusal :=
  let u := s.chip
  let a := pageOf pg + 0x18
  s.become (u.atPage req a true (fun u => u.pendClear (page0 pg) v))

/-! ### Writes (R35 to R38, R46) -/

/-- One part of a register takes the bits written, by its access type (Table 2.3); `rwl` says whether RWL parts take them. -/
def Chip.writePiece (u : Chip) (rwl : Bool) (v : Nat) (p : Piece) : Chip :=
  let x := bits v (p.regLo + p.width - 1) p.regLo
  let old := bits (u.get p.fld) (p.fldLo + p.width - 1) p.fldLo
  match p.fld.acc with
  | .ro => u
  | .wo => u
  | .rw => u.putPiece p x
  | .rwl => if rwl then u.putPiece p x else u
  | .w1c => u.putPiece p (old - (old &&& x))
  | .w1s => u.putPiece p (old ||| x)

/-- A write to a register without behaviour of its own. RWL parts under a closed lock reject the write (R46). -/
def Chip.writePlain (u : Chip) (req a v : Nat) : Chip :=
  let ps := regPieces a
  let opened := u.lockOpen a req
  let u := ps.foldl (fun u p => u.writePiece opened v p) u
  if ps.any (fun p => p.fld.acc == .rwl) && !opened then u.lockViol a
  else (u.refreshLines (page0 a)).answer .ok

/-- BLK_PWR (R50, Table 2.10): a control-plane block ignores the write, and GATE = 3 is ignored. -/
def Chip.writePwr (u : Chip) (req a v : Nat) : Chip :=
  let cp := match pageInfo a with
    | some p => u.controlPage p
    | none => false
  if cp then u.answer .ok
  else if v % 4 = 3 then u.writePlain req a (v - 3 + u.get (Reg.BLK_PWR.GATE (page0 a)))
  else u.writePlain req a v

/-- A write to a header register (Table 2.4). -/
def Chip.writeHeader (u : Chip) (req a v : Nat) : Chip :=
  let off := a % 0x1000
  if off = 8 then
    let u := if v.testBit 1 then u.softResetWrite a else u
    if u.lockOpen a req then (u.put (Reg.BLK_CTRL.ENABLE (page0 a)) (bits v 0 0)).answer .ok else u.lockViol a
  else if off = 0x18 then u.pendClear (page0 a) v
  else if off = 0x1C then u.writePwr req a v
  else if off = 0x20 then (u.lockWrite req (pageOf a) v).answer .ok
  else if off = 0x28 then (if u.maintenance then (u.errInj a v).answer .ok else u.planeRefused req a)
  else u.writePlain req a v

/-- EVR_CMD (17 Table 17.9). -/
def Chip.evrCommand (u : Chip) (v : Nat) : Chip :=
  (match v % 8 with
  | 1 => u.evrFreeze
  | 2 => u.evrUnfreeze
  | 3 => u.evrFlush
  | 4 => u.evrFormat
  | _ => u.evrIgnore).answer .ok

/-- The check-value unit and offset of an address on pages 0x4210_0000 and up. -/
def cvuAt (a : Nat) : Option (Nat × Nat) :=
  if 0x42100000 ≤ a ∧ a < 0x42120000 ∧ a % 0x4000 < 0x1000 then some ((a - 0x42100000) / 0x4000, a % 0x4000) else none

/-- A write to a register of a check-value unit (15 R460 to R462). -/
def Chip.cvuWrite (u : Chip) (req a v i off : Nat) : Chip :=
  if off = 0x40 then
    (if u.on (Reg.CVU_STAT.BUSY i) then u.accessErr a else if u.lockOpen a req then (u.cvuCfg i v).answer .ok else u.lockViol a)
  else if off = 0x60 then u.cvuVal i false v
  else if off = 0x64 then u.cvuVal i true v
  else if off = 0x7C then u.cvuFeed i (leBytes 4 v)
  else if off = 0x80 then u.cvuFeed i (leBytes 1 v)
  else
    let w := u.writePlain req a v
    -- R460: a write of POLY, INIT or XOR leaves the preset
    let w := if u.lockOpen a req ∧ 0x48 ≤ off ∧ off ≤ 0x5C then w.put (Reg.CVU_CFG.PRESET i) 0 else w
    if u.lockOpen a req then (w.cvuSync i).answer w.resp else w

/-- A write to a register of an identity bus controller: GO starts a scan (20 R567). -/
def Chip.idbWrite (u : Chip) (req a v : Nat) : Chip :=
  let i := (a - 0x44900000) / 0x4000
  let u := u.writePlain req a v
  if a % 0x4000 = 0x48 ∧ v.testBit 0 = true ∧ i < 2 then u.put (Reg.IDB_STAT.BUSY i) 1 else u

/-- A write to a register of the Weir window from the loader. -/
def Chip.weirWrite (u : Chip) (req a v : Nat) : Chip :=
  if a = 0x50006048 then (u.sbWrite (v % 8)).answer .ok
  else if a = 0x50006060 then (if u.lockOpen a req then (u.swapArm (v.testBit 0)).answer .ok else u.lockViol a)
  else if a = 0x5000205C then (if u.lockOpen a req then u.stoffLo req v else u.lockViol a)
  else if a = 0x50002060 then (if u.lockOpen a req then u.stoffHi req v else u.lockViol a)
  else u.writePlain req a v

/-- A write to a control-plane page that R38 and its exceptions let through. -/
def Chip.controlWrite (u : Chip) (req a v : Nat) : Chip :=
  if pageOf a = 0x40301000 ∧ req < 3 then
    (u.cfPut req (if a = 0x40301044 then .msg v else if a = 0x40301048 then .deliver v none else .img ((a - 0x40301100) / 4) v)).answer .ok
  else if pageOf a = 0x40901000 ∧ req ≤ 6 then (if a = 0x40901070 then u.asmRaise req else u.asmWrite req ((a - 0x40901040) / 4) v)
  else if a = 0x40101040 then (if u.lockOpen a req then u.clkCtl v else u.lockViol a)
  else if a = 0x4040005C then u.sinUnlockWrite req v u.gate.sinTag
  else if a = 0x40400060 then u.sinUnlockWrite req (v * 2 ^ 32) u.gate.sinTag
  else if a = 0x40500048 then u.soutUnlockWrite req v u.gate.soutTag
  else if a = 0x40600048 then (if u.lockOpen a req then (u.claimWrite v).answer .ok else u.lockViol a)
  else match fuseEngine a with
    | some e => if u.lockOpen a req then (u.fuseWrite e v 0).answer .ok else u.lockViol a
    | none => u.writePlain req a v

/-- A write to a register of a data-plane or management-plane page with behaviour of its own. -/
def Chip.ownWrite (u : Chip) (req a v : Nat) : Chip :=
  match a with
  | 0x42000054 => if u.lockOpen a req then (u.tblW3 v).answer .ok else u.lockViol a
  | 0x42000058 => if v.testBit 31 then u.tableCommit (v % 2 ^ 13) else u.answer .ok
  | 0x42001148 => if v.testBit 31 then u.regionCommit else u.answer .ok
  | 0x4200008C => let w := u.writePlain req a v; (w.cvuOwned).answer w.resp
  | 0x42000090 => let w := u.writePlain req a v; (w.cvuOwned).answer w.resp
  | 0x4450004C => u.evrCommand v
  | 0x44500080 => let w := u.writePlain req a v; if u.lockOpen a req then w.evrCalSet.answer w.resp else w
  | 0x44500084 => let w := u.writePlain req a v; if u.lockOpen a req then w.evrCalSet.answer w.resp else w
  | 0x44501040 => (u.evrFetch v).answer .ok
  | 0x445010C0 => (u.put Reg.EVR_CLR.CV (u.get Reg.EVR_CLR.CV / 2 ^ 32 * 2 ^ 32 + v)).answer .ok
  | 0x445010C4 => (u.evrClear req v).answer .ok
  | 0x44600100 => if u.lockOpen a req then (u.fuseWrite 3 v 0).answer .ok else u.lockViol a
  | 0x44700040 => u.pwrRequest req v
  | 0x44A00040 => u.writePlain req a (v % 2 ^ 30 + u.get (Reg.PORT_CFG.CLASS 0x44A00000) * 2 ^ 30)
  | _ =>
    match cvuAt a with
    | some (i, off) => u.cvuWrite req a v i off
    | none =>
      if pageOf a / 0x100000 = 0x449 then u.idbWrite req a v
      else if isPortCfg a then
        -- R408: a port takes a new PORT_CFG only at a restart
        let w := u.writePlain req a v
        if u.boot.reset.isSome then w.takePortCfg else w
      else u.writePlain req a v

/-- An admitted 32-bit write to a register page. -/
def Chip.writeReg (u : Chip) (req a v : Nat) : Chip :=
  match pageInfo a with
  | none => u
  | some p =>
    if a % 0x1000 < 0x40 then u.writeHeader req a v
    else if p.ty / 16 = 0xC0F then u.weirWrite req a v
    else if p.ty / 256 = 0xC0 then u.controlWrite req a v
    else u.ownWrite req a v

/-- Window number of an address on bridge pages 2 and 3, which are no registers (15 R445). -/
def windowOf (a : Nat) : Option Nat :=
  if 0x42002040 ≤ a ∧ a < 0x42003000 then some 0 else if 0x42003040 ≤ a ∧ a < 0x42004000 then some 1 else none

/-! ### Management interrupt controller (R54, R55) -/

/-- Sets entry `k` of a context list. -/
def setCtx (l : List Nat) (k v : Nat) : List Nat := modAt l k (fun _ => v)

/-- Sources that a context may claim: pending, enabled, of a priority above 0. The threshold masks the interrupt, not the claim
(the PLIC specification). -/
def Chip.plicReady (u : Chip) (ctx : Nat) : List Nat :=
  (List.range 257).filter (fun i => i != 0 && u.plic.pend.testBit i && (u.plic.enable.getD ctx 0).testBit i && decide (0 < assoc u.plic.prio i 0))

/-- The source that a claim of a context returns: highest priority, then lowest ID (R55). -/
def Chip.plicBest (u : Chip) (ctx : Nat) : Option Nat :=
  (u.plicReady ctx).foldl (fun b i => match b with
    | none => some i
    | some j => if assoc u.plic.prio j 0 < assoc u.plic.prio i 0 then some i else some j) none

/-- The interrupt line of a context: a source above its threshold can be claimed. -/
def Chip.plicLine (u : Chip) (ctx : Nat) : Bool :=
  (u.plicReady ctx).any (fun i => decide (u.plic.threshold.getD ctx 0 < assoc u.plic.prio i 0))

/-- What a claim of a context gets when the contexts of `all` claim in one cycle: its best source, or 0 where a lower-numbered one of
them claims the same source (R55). -/
def Chip.plicWins (u : Chip) (all : List Nat) (ctx : Nat) : Nat :=
  match u.plicBest ctx with
  | none => 0
  | some i => if all.any (fun c => decide (c < ctx) && u.plicBest c == some i) then 0 else i

/-- The claims of the contexts of `all` in one cycle, answered to `ctx`: each source claimed is no longer pending and is in
service. -/
def Chip.plicClaimAll (u : Chip) (all : List Nat) (ctx : Nat) : Chip :=
  let got := all.map (fun c => (c, u.plicWins all c))
  let q := got.foldl (fun (q : Plic) e =>
    let q := { q with got := setCtx q.got e.1 e.2 }
    if e.2 = 0 then q else { q with pend := q.pend - 2 ^ e.2, busy := q.busy ||| 2 ^ e.2 }) u.plic
  ({ u with plic := q }).answer (.data (u.plicWins all ctx))

/-- A claim by one context. -/
def Chip.plicClaim (u : Chip) (ctx : Nat) : Chip := u.plicClaimAll [ctx] ctx

/-- A completion: it counts only for a source enabled in the context; the gateway then looks at the line again. -/
def Chip.plicDone (u : Chip) (ctx id : Nat) : Chip :=
  if u.plic.busy.testBit id && (u.plic.enable.getD ctx 0).testBit id then
    (({ u with plic := { u.plic with busy := u.plic.busy - 2 ^ id } }).plicGate id).answer .ok
  else u.answer .ok

/-- PLIC_CLAIM (R55): requester, its context, the other contexts that claim in the same cycle. Management cores reach the controller
(Table 2.1). -/
def execPlicClaim (req : Nat) (x : ClaimOp) (s : State) : Host.Outcome State Fault Refusal :=
  let u := s.chip
  s.become (if permitted req 0x0C200004 false && decide (x.ctx < 4) then
      u.plicClaimAll ((List.range 4).filter (fun c => c == x.ctx || x.same.contains c)) x.ctx
    else u.denied req 15 (0x0C200004 + x.ctx * 0x1000))

/-- PLIC_COMPLETE (R54): requester, context, ID. -/
def execPlicComplete (req ctx id : Nat) (s : State) : Host.Outcome State Fault Refusal :=
  let u := s.chip
  s.become (if permitted req 0x0C200004 true && decide (ctx < 4) then u.plicDone ctx id else u.denied req 15 (0x0C200004 + ctx * 0x1000))

/-- Bits of the 32 sources from 32·k that exist: 1 to 256. -/
def plicMask (k : Nat) : Nat := if k = 0 then 2 ^ 32 - 2 else if k < 8 then 2 ^ 32 - 1 else if k = 8 then 1 else 0

/-- A write in the controller's window, at the offsets of the PLIC specification. -/
def Chip.plicWrite (u : Chip) (off v : Nat) : Chip :=
  let q := u.plic
  if off < 0x1000 then
    (if 4 ≤ off ∧ off ≤ 0x400 then { u with plic := { q with prio := assocPut q.prio (off / 4) (v % 8) } } else u).answer .ok
  else if 0x2000 ≤ off ∧ off < 0x2200 then
    let c := (off - 0x2000) / 0x80
    let k := (off - 0x2000) % 0x80 / 4
    let e := q.enable.getD c 0
    let new := e - e / 2 ^ (32 * k) % 2 ^ 32 * 2 ^ (32 * k) + (v &&& plicMask k) * 2 ^ (32 * k)
    ({ u with plic := { q with enable := setCtx q.enable c new } }).answer .ok
  else if 0x200000 ≤ off ∧ off < 0x204000 ∧ off % 0x1000 = 0 then
    ({ u with plic := { q with threshold := setCtx q.threshold ((off - 0x200000) / 0x1000) (v % 8) } }).answer .ok
  else if 0x200000 ≤ off ∧ off < 0x204000 ∧ off % 0x1000 = 4 then u.plicDone ((off - 0x200000) / 0x1000) v
  else u.answer .ok

/-- A read in the controller's window. -/
def Chip.plicRead (u : Chip) (off : Nat) : Chip :=
  let q := u.plic
  if off < 0x1000 then u.answer (.data (assoc q.prio (off / 4) 0))
  else if 0x1000 ≤ off ∧ off < 0x1080 then u.answer (.data (q.pend / 2 ^ (8 * (off - 0x1000)) % 2 ^ 32))
  else if 0x2000 ≤ off ∧ off < 0x2200 then
    u.answer (.data (q.enable.getD ((off - 0x2000) / 0x80) 0 / 2 ^ (32 * ((off - 0x2000) % 0x80 / 4)) % 2 ^ 32))
  else if 0x200000 ≤ off ∧ off < 0x204000 ∧ off % 0x1000 = 0 then u.answer (.data (q.threshold.getD ((off - 0x200000) / 0x1000) 0))
  else if 0x200000 ≤ off ∧ off < 0x204000 ∧ off % 0x1000 = 4 then u.plicClaim ((off - 0x200000) / 0x1000)
  else u.answer (.data 0)

/-! ### The general write -/

/-- Whether an access is a naturally aligned 32-bit access (R35). -/
def wordAccess (a size : Nat) : Bool := size == 4 && a % 4 == 0

/-- A write outside the register pages: the Weir window beyond its pages, the interrupt controller, memory. -/
def Chip.writeElse (u : Chip) (req a size v : Nat) : Chip :=
  match regionOf a with
  | .none => u.unmapped req a
  | .weir => if standbyWindow a then u.standbyWrite req a (leBytes size v) else if req = 7 then u.answer .ok else u.planeRefused req a
  | .plic => if !permitted req a true then u.denied req 15 a else if wordAccess a size then u.plicWrite (a - 0x0C000000) v else u.refuse
  | .mgmtSram => if permitted req a true then ({ u with msram := memWriteBytes u.msram a (leBytes size v) }).answer .ok else u.denied req 15 a
  | .sram =>
    if req < 3 then (u.sramWrite req a (leBytes size v)).answer .ok else u.denied req 15 a
  | .ddr => if reaches 0 req then ({ u with ddr := memWriteBytes u.ddr a (leBytes size v) }).answer .ok else u.denied req 0 a
  | _ => u.denied req 15 a

/-- A write (R34 to R38, R46, R53): requester, address, size in bytes, value. A refused write sets the flag of every rule
that it breaks. -/
def Chip.busWrite (u : Chip) (req a size v : Nat) : Chip :=
  let v := v % 2 ^ (8 * size)
  if (pageInfo a).isNone then u.writeElse req a size v
  else match windowOf a with
    | some w => u.atPage req a true (fun u => u.winWrite req w (a % 0x1000) (leBytes size v))
    | none =>
      let bad := !wordAccess a size
      if u.writeBarred req a then (if bad then (u.ungate a).accessErr a else u.ungate a).planeRefused req a
      else if !u.pageReach req a then u.denied req ((fabricTarget req a).getD 15) a
      else if bad then (u.ungate a).accessErr a
      else u.access a true (fun u => u.writeReg req a v)

/-- REGISTER_WRITE (R34 to R38, R46, R53). -/
def execRegisterWrite (req a size v : Nat) (s : State) : Host.Outcome State Fault Refusal := s.become (s.chip.busWrite req a size v)

/-! ### Reads (R19, R35, R36, R40) -/

/-- BLK_STAT.READY: the block is out of reset and initialised (Table 2.8). -/
def Chip.blkReady (u : Chip) (p : PageInfo) : Bool :=
  if p.ty / 16 = 0xC0F then u.on Reg.WR_STAT.READY else u.boot.released.isSome && !u.boot.asserted && !u.inReset p.base0

/-- BLK_STAT (Table 2.8). Table 2.4 does not say what a further page shows: LOCK_OPEN is the page's own, everything else is that of the
block, so that IRQ_RAW[31] follows ERR_ANY on every page (R43). DESIGN CHOICE: log 52. -/
def Chip.blkStat (u : Chip) (p : PageInfo) (pg : Nat) : Nat :=
  u.get (Reg.BLK_STAT.PWR p.base0) * 256 + lvl (u.irqPend p.base0 != 0) * 64 + lvl (u.errAnyBlock p.base0) * 32 +
    u.get (Reg.BLK_STAT.CRC_OK p.base0) * 16 + u.get (Reg.BLK_LOCK.OPEN pg) * 8 + u.get (Reg.BLK_STAT.RST_BUSY p.base0) * 4 +
    lvl (u.blkBusy p.base0) * 2 + lvl (u.blkReady p)

/-- The value of a header register (Table 2.4). -/
def Chip.readHeader (u : Chip) (p : PageInfo) (a : Nat) : Nat :=
  let pg := pageOf a
  match a - pg with
  | 0x0 => blkId p
  | 0x4 => blkCaps p
  | 0xC => u.blkStat p pg
  | 0x10 => u.irqRaw p.base0
  | 0x18 => u.irqPend p.base0
  | 0x1C => if u.controlPage p then 0x80031000 else u.regRead a
  | 0x20 => u.lockRemain pg * 65536 + u.get (Reg.BLK_LOCK.OWNER pg) * 256 + u.get (Reg.BLK_LOCK.ARMED pg) * 2 + u.get (Reg.BLK_LOCK.OPEN pg)
  | 0x2C => u.blkCrc pg
  | _ => u.regRead a

/-- The value of a register as read: WO parts read 0 (Table 2.3). -/
def Chip.readPlain (u : Chip) (a : Nat) : Nat := u.readPieces ((regPieces a).filter (fun p => p.fld.acc != .wo))

/-- A register that a Percolator page computes: PERC_SPR and PERC_MAP. -/
def Chip.percView (u : Chip) (a : Nat) : Option Nat :=
  match (List.range 4).find? (fun e => percPage e == pageOf a) with
  | none => none
  | some e =>
    let off := a % 0x1000
    if 0x68 ≤ off ∧ off < 0x80 then some (u.percSpr e ((off - 0x68) / 4))
    else if 0x80 ≤ off ∧ off < 0x100 then some (u.percMap e ((off - 0x80) / 4))
    else none

/-- An admitted 32-bit read of a register page. -/
def Chip.readReg (u : Chip) (req a : Nat) : Chip :=
  match pageInfo a with
  | none => u
  | some p =>
    if a % 0x1000 < 0x40 then u.answer (.data (u.readHeader p a))
    else if a = 0x50002040 then u.timeLo req
    else if a = 0x50002044 then u.answer (.data (assoc u.weir.hiLatch req 0))
    else if a = 0x40601040 then (if req < 3 then u.rxHdr req else u.answer (.data 0))
    else if a = 0x40601044 then (if req < 3 then u.rxDat req else u.answer (.data 0))
    else if pageOf a = 0x40301000 then u.answer (.data (if a = 0x40301040 ∧ req < 3 then u.portStat req else 0))
    else if a = 0x445010BC then u.evrWin15
    else if 0x44501080 ≤ a ∧ a < 0x445010C0 then (if u.on Reg.EVR_STAT.WIN_READY then u.answer (.data (u.readPlain a)) else u.evrWinError)
    else if a = 0x44700058 then u.answer (.data (u.aonCount % 2 ^ 32))
    else if a = 0x4470005C then u.answer (.data (u.aonCount / 2 ^ 32))
    else if a = 0x44A00040 then u.answer (.data (u.readPlain a % 2 ^ 30 + 3 * 2 ^ 30))
    else if a = 0x40700200 then u.answer (.data (u.readPlain a % 2 ^ 31 + u.get Reg.WR_STAT.LOCKOUT * 2 ^ 31))
    else u.answer (.data ((u.percView a).getD (u.readPlain a)))

/-- The bytes of a Carafe slot, or of memory, that a read returns. -/
def Chip.readElse (u : Chip) (req a size : Nat) : Chip :=
  match regionOf a with
  | .none => u.unmapped req a
  | .weir =>
    if standbyWindow a then u.standbyRead req a size
    else if !reaches 5 req then u.denied req 5 a
    else if 0x50008000 ≤ a ∧ a < 0x50008480 then u.answer (.data (leAt u.lat.buffer.bytes (a - 0x50008000) size))
    else u.answer (.data 0)
  | .plic => if !permitted req a false then u.denied req 15 a else if wordAccess a size then u.plicRead (a - 0x0C000000) else u.refuse
  | .mgmtSram => if permitted req a false then u.answer (.data (memNat u.msram a size)) else u.denied req 15 a
  | .sram => if req < 3 then u.answer (.data (memNat (u.chans.get req).sram a size)) else u.denied req 15 a
  | .mirror => if reaches 4 req then u.answer (.data (memNat u.conf.mirror a size)) else u.denied req 4 a
  | .carafe =>
    if permitted req a false then u.answer (.data (leAt (u.carafeSlot ((a - 0x30000000) / 64)) (a % 64) size)) else u.denied req 15 a
  | .bootRom =>
    if permitted req a false then u.answer (.data (leNat ((List.range size).map (fun k => Config.romByte (a + k))))) else u.denied req 15 a
  | .nor =>
    if permitted req a false then
      let f := u.free
      f.2.answer (.data (f.1 % 2 ^ (8 * size)))
    else u.denied req 15 a
  | .ddr => if reaches 0 req then u.answer (.data (memNat u.ddr a size)) else u.denied req 0 a
  | .pages => u

/-- A read (R35, R52; 17 R505): requester, address, size in bytes. It gets an error for a wrong size or alignment
or for the event window before WIN_READY, and fires an armed injection; otherwise it gets the value. -/
def Chip.busRead (u : Chip) (req a size : Nat) : Chip :=
  if (pageInfo a).isNone then u.readElse req a size
  else match windowOf a with
    | some w => u.atPage req a false (fun u => u.winRead req w (a % 0x1000) size)
    | none =>
      if !u.pageReach req a then u.denied req ((fabricTarget req a).getD 15) a
      else if !wordAccess a size then (u.ungate a).accessErr a
      else u.access a false (fun u => u.readReg req a)

/-- REGISTER_READ_ERROR (R35, R52; 17 R505). -/
def execRegisterReadError (req a size : Nat) (s : State) : Host.Outcome State Fault Refusal := s.become (s.chip.busRead req a size)

/-! ### Accesses with rows of their own -/

/-- BLK_LOCK_WRITE (R44, R38): requester, page, key. -/
def execBlkLockWrite (req pg key : Nat) (s : State) : Host.Outcome State Fault Refusal :=
  let u := s.chip
  let a := pageOf pg + 0x20
  s.become (u.atPage req a true (fun u => (u.lockWrite req (pageOf pg) key).answer .ok))

/-- BLK_ERRINJ_WRITE (R52): a page outside the control plane takes it in maintenance mode; any other write is rejected as in R38. -/
def execBlkErrinjWrite (req pg v : Nat) (s : State) : Host.Outcome State Fault Refusal :=
  let u := s.chip
  let a := pageOf pg + 0x28
  s.become (u.atPage req a true (fun u => if u.maintenance then (u.errInj pg v).answer .ok else u.planeRefused req a))

/-- CF_PORT_IMG (04 R102): channel, word, value. -/
def execCfPortImg (c n v : Nat) (s : State) : Host.Outcome State Fault Refusal :=
  s.become (s.chip.access (0x40301100 + 4 * n) true (fun u => u.cfPut c (.img n v)))

/-- CF_PORT_MSG (04 R103, R105): channel, value. -/
def execCfPortMsg (c v : Nat) (s : State) : Host.Outcome State Fault Refusal :=
  s.become (s.chip.access 0x40301044 true (fun u => u.cfPut c (.msg v)))

/-- CF_PORT_DELIVER (04 R101, R106, R111, R114): channel, header, slot word with a parity error. -/
def execCfPortDeliver (c v : Nat) (bad : Option Nat) (s : State) : Host.Outcome State Fault Refusal :=
  s.become (s.chip.access 0x40301048 true (fun u => u.cfPut c (.deliver v bad)))

/-- SIN_UNLOCK_WRITE (09 R308): requester, mask, TAG. -/
def execSinUnlockWrite (req mask tag : Nat) (s : State) : Host.Outcome State Fault Refusal :=
  s.become (s.chip.atPage req 0x4040005C true (fun u => u.sinUnlockWrite req mask tag))

/-- SOUT_UNLOCK_WRITE (10 R334): requester, mask, TAG. -/
def execSoutUnlockWrite (req mask tag : Nat) (s : State) : Host.Outcome State Fault Refusal :=
  s.become (s.chip.atPage req 0x40500048 true (fun u => u.soutUnlockWrite req mask tag))

/-- ZST_RX_HDR_READ (12 R366, R380): every reader but a channel gets 0. -/
def execZstRxHdrRead (req : Nat) (s : State) : Host.Outcome State Fault Refusal :=
  s.become (s.chip.atPage req 0x40601040 false (fun u => if req < 3 then u.rxHdr req else u.answer (.data 0)))

/-- ZST_RX_DAT_READ (12 R366, R380). -/
def execZstRxDatRead (req : Nat) (s : State) : Host.Outcome State Fault Refusal :=
  s.become (s.chip.atPage req 0x40601044 false (fun u => if req < 3 then u.rxDat req else u.answer (.data 0)))

/-- WR_STOFF_HI_WRITE (05 R155): requester, value. The loader writes it from a loader frame, which does not use BLK_LOCK (08 R635). -/
def execWrStoffHiWrite (req v : Nat) (s : State) : Host.Outcome State Fault Refusal :=
  s.become (s.chip.atPage req 0x50002060 true (fun u => u.stoffHi req v))

/-- WR_TIME_LO_READ (05 R178). -/
def execWrTimeLoRead (req : Nat) (s : State) : Host.Outcome State Fault Refusal :=
  s.become (s.chip.atPage req 0x50002040 false (fun u => u.timeLo req))

/-- LOAD_BEGIN (06 R216). -/
def execLoadBegin (s : State) : Host.Outcome State Fault Refusal := s.become (s.chip.access 0x50006048 true (fun u => u.sbLoadBegin))

/-- LOAD_END (06 R216). -/
def execLoadEnd (s : State) : Host.Outcome State Fault Refusal := s.become (s.chip.access 0x50006048 true (fun u => u.sbLoadEnd))

/-- COPY (06 R219). -/
def execCopy (s : State) : Host.Outcome State Fault Refusal := s.become (s.chip.access 0x50006048 true (fun u => u.sbCopy))

/-- VERIFY (06 R220). -/
def execVerify (s : State) : Host.Outcome State Fault Refusal := s.become (s.chip.access 0x50006048 true (fun u => u.sbVerify))

/-- STANDBY_WRITE (06 R217): requester, address, bytes. -/
def execStandbyWrite (req a : Nat) (b : List Byte) (s : State) : Host.Outcome State Fault Refusal :=
  s.become (if standbyWindow a then s.chip.standbyWrite req a b else s.chip)

/-- LAT_SWAP_ARM (06 R221). -/
def execLatSwapArm (arm : Bool) (s : State) : Host.Outcome State Fault Refusal :=
  s.become (s.chip.access 0x50006060 true (fun u => u.swapArm arm))

/-- INT_ASM_WRITE (16 R480): requester, word, value. -/
def execIntAsmWrite (req k v : Nat) (s : State) : Host.Outcome State Fault Refusal :=
  s.become (s.chip.access (0x40901040 + 4 * k) true (fun u => u.asmWrite req k v))

/-- INT_RAISE (16 R480). -/
def execIntRaise (req : Nat) (s : State) : Host.Outcome State Fault Refusal :=
  s.become (s.chip.access 0x40901070 true (fun u => u.asmRaise req))

/-- CVU_PRESET_WRITE (15 R460, R462): requester, unit, value of CVU_CFG. -/
def execCvuPresetWrite (req i v : Nat) (s : State) : Host.Outcome State Fault Refusal :=
  let a := cvuPage i + 0x40
  s.become (if i < 8 then s.chip.atPage req a true (fun u => u.cvuWrite req a v i 0x40) else s.chip.unmapped req a)

/-- CVU_VAL_WRITE (15 R462): unit, upper half, value. -/
def execCvuValWrite (i : Nat) (hi : Bool) (v : Nat) (s : State) : Host.Outcome State Fault Refusal :=
  s.become (if i < 8 then s.chip.access (cvuPage i + 0x60) true (fun u => u.cvuVal i hi v) else s.chip)

/-- CVU_FEED_WRITE (15 R461): four bytes, byte 0 first. -/
def execCvuFeedWrite (i v : Nat) (s : State) : Host.Outcome State Fault Refusal :=
  s.become (if i < 8 then s.chip.access (cvuPage i + 0x7C) true (fun u => u.cvuFeed i (leBytes 4 v)) else s.chip)

/-- CVU_FEED_B_WRITE (15 R461). -/
def execCvuFeedBWrite (i v : Nat) (s : State) : Host.Outcome State Fault Refusal :=
  s.become (if i < 8 then s.chip.access (cvuPage i + 0x80) true (fun u => u.cvuFeed i (leBytes 1 v)) else s.chip)

/-- BR_TBL_W3_WRITE (15 R443, R463): requester, value. -/
def execBrTblW3Write (req v : Nat) (s : State) : Host.Outcome State Fault Refusal :=
  s.become (s.chip.atPage req 0x42000054 true (fun u => if u.lockOpen brPage req then (u.tblW3 v).answer .ok else u.lockViol (brPage + 0x54)))

/-- TABLE_COMMIT (15 R444): COUNT. BR_TBL_CMD needs no lock (R463). -/
def execTableCommit (n : Nat) (s : State) : Host.Outcome State Fault Refusal :=
  s.become (s.chip.access 0x42000058 true (fun u => u.tableCommit n))

/-- REGION_COMMIT (15 R457). BR_REG_CMD needs no lock (R463). -/
def execRegionCommit (s : State) : Host.Outcome State Fault Refusal :=
  s.become (s.chip.access 0x42001148 true (fun u => u.regionCommit))

/-- WINDOW_WRITE (15 R445, R446, R449): requester, window, offset in its page, bytes. -/
def execWindowWrite (req w off : Nat) (b : List Byte) (s : State) : Host.Outcome State Fault Refusal :=
  s.become (s.chip.atPage req (0x42002000 + w * 0x1000 + off) true (fun u => u.winWrite req w off b))

/-- WINDOW_READ (15 R445, R446, R450, R451, R454): requester, window, offset in its page, bytes. -/
def execWindowRead (req w off len : Nat) (s : State) : Host.Outcome State Fault Refusal :=
  s.become (s.chip.atPage req (0x42002000 + w * 0x1000 + off) false (fun u => u.winRead req w off len))

/-- EVR_CURSOR_WRITE (17 R504). -/
def execEvrCursorWrite (i : Nat) (s : State) : Host.Outcome State Fault Refusal :=
  s.become (s.chip.access 0x44501040 true (fun u => (u.evrFetch i).answer .ok))

/-- EVR_WIN15_READ (17 R505). -/
def execEvrWin15Read (s : State) : Host.Outcome State Fault Refusal := s.become (s.chip.access 0x445010BC false (fun u => u.evrWin15))

/-- EVR_CLR_HI_WRITE (17 R507). -/
def execEvrClrHiWrite (req hi : Nat) (s : State) : Host.Outcome State Fault Refusal :=
  s.become (s.chip.atPage req 0x445010C4 true (fun u => (u.evrClear req hi).answer .ok))

/-- FREEZE (17 R499). -/
def execFreeze (s : State) : Host.Outcome State Fault Refusal := s.become (s.chip.access 0x4450004C true (fun u => u.evrCommand 1))

/-- UNFREEZE (17 R499). -/
def execUnfreeze (s : State) : Host.Outcome State Fault Refusal := s.become (s.chip.access 0x4450004C true (fun u => u.evrCommand 2))

/-- FLUSH (17 R492). -/
def execFlush (s : State) : Host.Outcome State Fault Refusal := s.become (s.chip.access 0x4450004C true (fun u => u.evrCommand 3))

/-- FORMAT (17 R498). -/
def execFormat (s : State) : Host.Outcome State Fault Refusal := s.become (s.chip.access 0x4450004C true (fun u => u.evrCommand 4))

/-- PERC_FUSE_GO (18 R525, R528): requester, engine, value of PERC_FUSE. -/
def execPercFuseGo (req e v : Nat) (s : State) : Host.Outcome State Fault Refusal :=
  let u := s.chip
  let a := percPage e + 0x100
  s.become (if 4 ≤ e then u
    else u.atPage req a true (fun u => if u.lockOpen a req then (u.fuseWrite e v 0).answer .ok else u.lockViol a))

/-- PWR_REQ_WRITE (19 R532, R533): requester, value. -/
def execPwrReqWrite (req v : Nat) (s : State) : Host.Outcome State Fault Refusal :=
  s.become (s.chip.atPage req 0x44700040 true (fun u => u.pwrRequest req v))

/-- CLK_CTL_WRITE (22 R593): requester, value. -/
def execClkCtlWrite (req v : Nat) (s : State) : Host.Outcome State Fault Refusal :=
  s.become (s.chip.atPage req 0x40101040 true (fun u => if u.lockOpen 0x40101040 req then u.clkCtl v else u.lockViol 0x40101040))

end Sys2Proof.Machine
end

