-- ==== Sys2Proof/Machine/Link.lean ====
section
/-!
DEFINITION. The inter-die link (05 R139 to R143): lanes, replay buffers, NAK and ACK. What
the messages of the lanes mean is in the commands that receive them.
-/
namespace Sys2Proof.Machine

/-- The lanes of a direction. -/
def Chip.lanes (u : Chip) (up : Bool) : List Lane := if up then u.link.up else u.link.down

/-- Changes one lane of a direction. -/
def Chip.modLane (u : Chip) (up : Bool) (n : Nat) (g : Lane → Lane) : Chip :=
  { u with link := if up then { u.link with up := modAt u.link.up n g } else { u.link with down := modAt u.link.down n g } }

/-- A sequence number (Table 5.2). -/
def seqMod (n : Nat) : Nat := n % 1024

/-- Lane 3 of the other direction takes an acknowledgment (9) or a NAK (10); its payload names the lane and the SEQ expected there. -/
def Chip.control (u : Chip) (up : Bool) (kind lane seq : Nat) : Chip :=
  u.modLane (!up) 3 (fun l => { l with queue := l.queue ++ [Flit.mk kind 0 (lane * 1024 + seqMod seq)] })

/-- The CRC of a flit (R139): CRC-32C over its bits 319:32 as 36 bytes, that of the lowest bits first (DESIGN CHOICE: log 109). -/
def flitCrc (lane seq : Nat) (f : Flit) : Nat :=
  let w := f.kind % 16 * 2 ^ 284 + lane % 4 * 2 ^ 282 + seqMod seq * 2 ^ 272 + f.tag % 2 ^ 16 * 2 ^ 256 + f.payload % 2 ^ 256
  crcOf crc32c (leBytes 36 w)

/-- FLIT_RECEIVE (R139, R140): direction, lane, SEQ, KIND, TAG with payload and CRC. A receiver acknowledges after every 8 flits.
WR_LINK.CRCERR counts the flits that Weir receives. -/
def execFlitReceive (up : Bool) (lane seq kind : Nat) (x : FlitRest) (s : State) : Host.Outcome State Fault Refusal :=
  let u := s.chip
  match (u.lanes up)[lane]? with
  | none => s.become u
  | some l =>
    let crc := x.crc == flitCrc lane seq ⟨kind, x.tag, x.payload⟩
    if crc ∧ seqMod seq = l.expect then
      let u := if u.get Reg.WR_LINK.FAIL = 0 then u.put Reg.WR_STAT.LINK_UP 1 else u
      let full := decide (7 ≤ l.unacked)
      let u := u.modLane up lane (fun l => { l with expect := seqMod (l.expect + 1), unacked := if full then 0 else l.unacked + 1 })
      s.become (if full then u.control up 9 lane (l.expect + 1) else u)
    else
      let u := if !crc ∧ up then u.satInc Reg.WR_LINK.CRCERR else u
      s.become (u.control up 10 lane l.expect)

/-- FLIT_NAK (R140, R143): the sender resends from the expected flit; a fourth consecutive NAK of one flit fails the link.
WR_LINK.RETRY counts what Weir resends. -/
def execFlitNak (up : Bool) (lane seq : Nat) (s : State) : Host.Outcome State Fault Refusal :=
  let u := s.chip
  match (u.lanes up)[lane]? with
  | none => s.become u
  | some l =>
    let skip := seqMod (seq + 1024 - l.base)
    let naks := if l.naks ≠ 0 ∧ l.nakSeq = seqMod seq then l.naks + 1 else 1
    let u := u.modLane up lane (fun l => { l with resend := l.replay.length - skip, nakSeq := seqMod seq, naks := naks })
    let u := if up then u else u.satInc Reg.WR_LINK.RETRY
    let u := (u.irq weirPage 6).raise 0 0x04 [lane, seqMod seq, u.get Reg.WR_LINK.RETRY]
    s.become (if 4 ≤ naks then u.linkFail 1 true else u)

/-- FLIT_ACK (R140): the flits before the SEQ that the acknowledgment carries leave the replay buffer. -/
def execFlitAck (up : Bool) (lane seq : Nat) (s : State) : Host.Outcome State Fault Refusal :=
  let u := s.chip
  match (u.lanes up)[lane]? with
  | none => s.become u
  | some l =>
    let n := seqMod (seq + 1024 - l.base)
    if n ≤ l.replay.length then
      s.become (u.modLane up lane (fun l => { l with replay := l.replay.drop n, base := seqMod seq, resend := min l.resend (l.replay.length - n), naks := 0 }))
    else s.become u

/-- A lane that sends one flit: a resend first, then a new one while the replay buffer has room (R140). -/
def Lane.send (l : Lane) : Option Lane :=
  if 0 < l.resend then some { l with resend := l.resend - 1 }
  else match l.queue with
    | f :: t => if l.replay.length < 16 then some { l with queue := t, replay := l.replay ++ [f] } else none
    | [] => none

/-- FLIT_SEND (R140, R141): the first lane in the order 3, 0, 1, 2 with something to send; otherwise an acknowledgment of
what has been received, or an idle flit. A silent end sends nothing (22 R595). -/
def execFlitSend (up : Bool) (s : State) : Host.Outcome State Fault Refusal :=
  let u := s.chip
  if up ∧ u.link.silent then s.become u
  else
    match [3, 0, 1, 2].find? (fun n => ((u.lanes up).getD n {}).send.isSome) with
    | some n => s.become (u.modLane up n (fun l => l.send.getD l))
    | none =>
      match (List.range 4).find? (fun n => decide (((u.lanes (!up)).getD n {}).unacked ≠ 0)) with
      | some n =>
        let k := (u.lanes up).getD 3 {}
        if 16 ≤ k.replay.length then s.become u
        else
          let f : Flit := ⟨9, 0, n * 1024 + ((u.lanes (!up)).getD n {}).expect⟩
          s.become ((u.modLane (!up) n (fun l => { l with unacked := 0 })).modLane up 3 (fun l => { l with replay := l.replay ++ [f] }))
      | none => s.become u

end Sys2Proof.Machine
end

