-- ==== Sys2Proof/Machine/Retire.lean ====
section
/-!
DEFINITION. What the cores of a twin execute (03 R60, R64 to R75) and how their stores commit (R78 to R81).
-/
namespace Sys2Proof.Machine

/-! ### What a core reads (R65, 02 Table 2.1) -/

/-- Whether an address lies in the channel's SRAM. -/
def inSram (a : Nat) : Bool := decide (0x10000000 ≤ a ∧ a < 0x10800000)

/-- Whether an address lies in the boot ROM. -/
def inRom (a : Nat) : Bool := decide (a < 0x10000)

/-- A byte that a core of channel `c` reads from SRAM or boot ROM: its filling store-buffer half, then its draining half, then the
memory (R65). -/
def Chip.coreByte (u : Chip) (c : Nat) (k : Core) (a : Nat) : Byte :=
  if inRom a then Config.romByte a
  else ((storedByte k.fill a).orElse (fun _ => storedByte k.drain a)).getD (memRead (u.chan c).sram a)

/-- `n` bytes, lowest first. -/
def Chip.coreRead (u : Chip) (c : Nat) (k : Core) (a n : Nat) : Nat := leNat ((List.range n).map (fun i => u.coreByte c k (a + i)))

/-- What a load from SRAM or boot ROM returns; none for another instruction. -/
def Chip.coreLoad (u : Chip) (c : Nat) (k : Core) (a : RvAct) : Option Nat :=
  match a with
  | .load _ x n _ => some (u.coreRead c k x n)
  | _ => none

/-- A fetch unit of 16 bits lies in SRAM or boot ROM and its execution is permitted (R60). -/
def Core.fetches (k : Core) (a : Nat) : Bool := (inSram a || inRom a) && pmpPermits k.arch k.priv a 2 2

/-- The instruction at the pc: its length, and what it asks for after every check. -/
def Chip.coreFetch (u : Chip) (c : Nat) (k : Core) : Nat × RvAct :=
  let pc := rvPc k.arch
  if !k.fetches pc then (2, .trap 1 pc)
  else
    let w := u.coreRead c k pc 4
    let i := rvInsn k.arch w
    if i.1 = 4 then (if !k.fetches (pc + 2) then (4, .trap 1 (pc + 2)) else (4, rvCheck k.arch k.priv w i.2))
    else (2, rvCheck k.arch k.priv (w % 2 ^ 16) i.2)

/-! ### Once-sampled inputs (R68, Table 3.3) -/

/-- What an instruction samples once. -/
inductive Sample where
  | load (a size : Nat)
  | csr (num k : Nat)
  deriving DecidableEq, Repr

/-- The once-sampled input of an instruction. -/
def sampleOf (l : List Nat) (a : RvAct) : Option Sample :=
  match a with
  | .load _ x n _ => if inSram x || inRom x then none else some (.load x n)
  | .csr _ num _ _ _ =>
    match rvCsr l num with
    | some (.sampled k) => some (.csr num k)
    | _ => none
  | _ => none

/-- KIND and SOURCE of a sample (Table 3.3); the sources are DESIGN CHOICE: log 103. -/
def Sample.label (s : Sample) : Nat × Nat :=
  match s with
  | .load x _ =>
    (if x / 0x100000 = 0x404 ∨ x / 0x100000 = 0x406 then 2 else if pageOf x = 0x50002000 then 3 else 4, bits x 9 2)
  | .csr num k => (if k = 6 then 4 else 3, num % 256)

/-- KIND of a load that gets an error response: the code with bit 3 (DESIGN CHOICE: log 103). -/
def errKind : Nat := 8

/-- What the lead core of a twin samples: the value, none for an error response, and the hardware after the read. time and timeh are Weir
time; mcycle counts CORE cycles, which the model does not, so it is a free value (log 103). -/
def Chip.takeSample (u : Chip) (c t : Nat) (k : Core) (s : Sample) : Option Nat × Chip :=
  match s with
  | .load x n =>
    let v := u.busRead c x n
    match v.resp with
    | .data d => (some (d % 2 ^ 32), v)
    | _ => (none, v)
  | .csr _ n =>
    match n with
    | 0 => (some (u.weirTime % 2 ^ 32), u)
    | 1 => (some (u.weirTime / 2 ^ 32 % 2 ^ 32), u)
    | 4 => (some (k.instret % 2 ^ 32), u)
    | 5 => (some (k.instret / 2 ^ 32 % 2 ^ 32), u)
    | 6 => (some (if u.cicMine c t = [] then 0 else 0x800), u)
    | _ => let f := u.free; (some (f.1 % 2 ^ 32), f.2)

/-! ### One instruction -/

/-- minstret after an instruction: one more, or what a CSR write gives it. -/
def instretAfter (n : Nat) (a : RvAct) : Nat :=
  match a with
  | .csr _ 0xB02 op v true =>
    let old := n % 2 ^ 32
    n / 2 ^ 32 * 2 ^ 32 + (if op = 1 then v else if op = 2 then old ||| v else old - (old &&& v))
  | .csr _ 0xB82 op v true =>
    let old := n / 2 ^ 32
    (if op = 1 then v else if op = 2 then old ||| v else old - (old &&& v)) * 2 ^ 32 + n % 2 ^ 32
  | _ => (n + 1) % 2 ^ 64

/-- A core executes an instruction: an exception goes to its handler and does not retire; otherwise registers, store, MISR and counts
follow (R74, R78). `r` holds the flips of a faulty core. -/
def Core.execute (k : Core) (len : Nat) (a : RvAct) (val : Option Nat) (r : Retired) : Core :=
  let o := rvExec k.arch k.priv len a val
  let k' := { k with arch := o.arch, priv := o.priv }
  if !o.retires then k'
  else
    let fill := match o.store with
      | some s => k.fill ++ [SbEntry.make k.win s]
      | none => k.fill
    { k' with fill := fill, misr := misrRetire k.misr (rvPc k.arch) o.wb o.store r, count := k.count + 1, inWin := k.inWin + 1,
              instret := instretAfter k.instret a }

/-- What an instruction stores. -/
def storeOf (k : Core) (len : Nat) (a : RvAct) : Option StoreOp := (rvExec k.arch k.priv len a none).store

/-- Whether the retirement of an instruction closes the window (Table 3.4), and whether early. -/
def Twin.closes (t : Twin) (win len : Nat) (a : RvAct) (sampled : Bool) : Bool × Bool :=
  let st := storeOf t.lead len a
  let full := decide (256 ≤ t.lead.filling + lvl st.isSome)
  let early := full || decide (64 ≤ t.sampled + lvl sampled) || t.limit
  let whole := decide (win ≤ t.lead.inWin + 1)
  let deliver := match st with
    | some s => s.addr == 0x40301048
    | none => false
  (whole || early || deliver || a == .wfi, early && !whole)

/-- A logged interrupt of the lead core's count is taken again (R72). -/
def Twin.replayIrq (t : Twin) (e : Sampled) : Twin :=
  let t := t.reread e
  { t with lead := t.lead.interrupt e.source }

/-- The lead core executes an instruction whose sampled input, where it has one, is at hand; the window closes by Table 3.4. -/
def Chip.leadStep (u : Chip) (c t len : Nat) (a : RvAct) (val : Option Nat) (r : Retired) : Chip :=
  let x := u.twin c t
  let fin := x.closes (u.winLen c t) len a false
  let y := { x with lead := x.lead.execute len a val r }
  if y.lead.count = x.lead.count then u.modTwin c t (fun _ => y)
  else
    let u := (u.highWater (Reg.CH_BUF.SB_HWM c) y.lead.filling).highWater (Reg.CH_BUF.RPL_HWM c) y.sampled
    let u := if fin.2 then u.satInc (Reg.CH_BUF.EARLY c) else u
    let halt := a == .wfi && !u.irqPending c t
    let y := if fin.1 then y.closeLead halt [] else y
    u.modTwin c t (fun _ => if halt then { y with halted := true } else y)

/-- The lead core: a logged interrupt of its count first, then the instruction at its pc. It waits where the delay FIFO or the replay log
has no room for an input, and where the instruction closes a window while the pending shadow set still waits for the comparison of
the one before (log 103). A logged entry with bad parity is a mismatch (R71). -/
def Chip.retireLead (u : Chip) (c t : Nat) (r : Retired) : Chip :=
  let x := u.twin c t
  if x.stands then u
  else
    let due := match x.logged with
      | some e => if e.kind = 1 then some (e.flip r.entry) else none
      | none => none
    match due with
    | some e =>
      if !e.good then u.mismatchNow c t false true r.same
      else if 16 ≤ x.fifo.length then u
      else u.modTwin c t (fun y => y.replayIrq e)
    | none =>
      let i := u.coreFetch c x.lead
      let s := sampleOf x.lead.arch i.2
      if (x.closes (u.winLen c t) i.1 i.2 s.isSome).1 && x.closed != [] then u
      else match s with
        | none => u.leadStep c t i.1 i.2 (u.coreLoad c x.lead i.2) r
        | some s =>
          if 16 ≤ x.fifo.length then u
          else match x.logged with
            | some e =>
              let e := e.flip r.entry
              if !e.good then u.mismatchNow c t false true r.same
              else (u.modTwin c t (fun y => y.reread e)).leadStep c t i.1 i.2 (if e.kind < errKind then some e.value else none) r
            | none =>
              if 128 ≤ x.log.length then u
              else
                let v := u.takeSample c t x.lead s
                let kind := if v.1.isSome then s.label.1 else s.label.1 + errKind
                (v.2.modTwin c t (fun y => y.sample kind s.label.2 (v.1.getD 0))).leadStep c t i.1 i.2 v.1 r

/-- The trailing core executes an instruction; it closes the window at the count at which the lead core did. -/
def Chip.trailStep (u : Chip) (c t len : Nat) (a : RvAct) (val : Option Nat) (r : Retired) : Chip :=
  u.modTwin c t (fun y => { y with trail := y.trail.execute len a val r }.closeTrail)

/-- The trailing core: an interrupt of its count first, then the instruction at its pc, with the input that the lead core has sampled
at this count (R68). An entry with bad parity is a mismatch (R71); where the delay FIFO gives none, the value is free. -/
def Chip.retireTrail (u : Chip) (c t : Nat) (r : Retired) : Chip :=
  let x := u.twin c t
  if x.rb.isSome || x.stopped || x.stallWin.isSome || decide (x.lead.count ≤ x.trail.count) then u
  else
    match x.delayed.map (fun e => e.flip r.entry) with
    | none =>
      let i := u.coreFetch c x.trail
      if (sampleOf x.trail.arch i.2).isSome then
        let f := u.free
        f.2.trailStep c t i.1 i.2 (some (f.1 % 2 ^ 32)) r
      else u.trailStep c t i.1 i.2 (u.coreLoad c x.trail i.2) r
    | some e =>
      if !e.good then u.mismatchNow c t false true r.same
      else if e.kind = 1 then u.modTwin c t (fun y => let y := y.pop; { y with trail := y.trail.interrupt e.source })
      else
        let i := u.coreFetch c x.trail
        if (sampleOf x.trail.arch i.2).isSome then
          (u.modTwin c t Twin.pop).trailStep c t i.1 i.2 (if e.kind < errKind then some e.value else none) r
        else u.trailStep c t i.1 i.2 (u.coreLoad c x.trail i.2) r

/-- INSTRUCTION_RETIRE (R64 to R75): channel, twin, trailing core or lead core, what comes from outside the core. No core executes
during a Percolator slice (R62). -/
def execInstructionRetire (c twin : Nat) (trail : Bool) (r : Retired) (s : State) : Host.Outcome State Fault Refusal :=
  let u := s.chip
  if u.chState c ≠ 3 ∨ (u.percOf c).running ≠ [] then s.become u
  else
    let u := match r.corrected with
      | some a => u.eccCorr c a
      | none => u
    s.become (if trail then u.retireTrail c twin r else u.retireLead c twin r)

/-! ### Store commit (R78 to R81) -/

/-- An entry as an access: address, size, value. -/
def SbEntry.access (e : SbEntry) : Nat × Nat × Nat :=
  let lo := if e.mask.testBit 0 then 0 else if e.mask.testBit 1 then 1 else if e.mask.testBit 2 then 2 else 3
  (e.addr / 4 * 4 + lo, popCount e.mask 4, e.data / 2 ^ (8 * lo))

/-- One entry commits; the answer says whether it could (R80, R106). The channel image port has no address in the spec: its images arrive
by CHANNEL_IMAGE (log 18). -/
def Chip.commitEntry (u : Chip) (c : Nat) (e : SbEntry) : Bool × Chip :=
  if inSram e.addr then (true, u.commitSram c e)
  else
    let d := u.cfDeliver c e.data none
    if pageOf e.addr = 0x40301000 ∧ (u.port c).wait ≠ [] then (false, u)
    else if e.addr = 0x40301048 ∧ e.mask = 15 ∧ d.1 = false then d
    else (true, u.busWrite c e.access.1 e.access.2.1 e.access.2.2)

/-- Entries commit in program order until they are through or a store stalls. -/
def Chip.commitAll (u : Chip) (c : Nat) : List SbEntry → List SbEntry × Chip
  | [] => ([], u)
  | e :: t =>
    if !e.good then (e :: t, u)
    else
      let r := u.commitEntry c e
      if r.1 then r.2.commitAll c t else (e :: t, r.2)

/-- The draining halves after a commit that has left `rest`: the trailing half is released with the lead's last entry, and the stall of
R80 ends with the last entry of an older window. -/
def Twin.drained (t : Twin) (rest : List SbEntry) : Twin :=
  { t with
    lead := { t.lead with drain := rest }
    trail := { t.trail with drain := if rest = [] then [] else t.trail.drain }
    stallWin := match t.stallWin with
      | some w => if rest.any (fun e => e.win != w) then some w else none
      | none => none }

/-- An entry whose parity bit a fault has flipped. -/
def flipParity (l : List SbEntry) (k : Nat) : List SbEntry := modAt l k (fun e => { e with par := !e.par })

/-- STORE_COMMIT (R79, R80, R84): the draining half of the lead core commits; when it is empty the trailing core's half is
released. `bad` is an entry whose parity has failed: it and what follows do not commit, and the twin has a mismatch; the entry stays
as it is, so each further attempt finds it again (DESIGN CHOICE: log 103). Commits go on during a rollback; in a channel that has
left ACTIVE nothing is left to commit. -/
def execStoreCommit (c twin : Nat) (bad : Option BadEntry) (s : State) : Host.Outcome State Fault Refusal :=
  let u := s.chip
  let l := match bad with
    | some b => flipParity (u.twin c twin).lead.drain b.k
    | none => (u.twin c twin).lead.drain
  if u.chState c ≠ 3 then s.become u
  else
    let r := u.commitAll c l
    let u := r.2
    if u.chState c ≠ 3 then s.become u
    else
      let u := u.modTwin c twin (fun t => t.drained r.1)
      let hit := match r.1 with
        | e :: _ => !e.good
        | [] => false
      s.become (if hit && (u.twin c twin).rb.isNone then u.mismatchNow c twin false true ((bad.map (fun b => b.same)).getD false) else u)

end Sys2Proof.Machine
end

