-- ==== Sys2Proof/Machine/Snapshot.lean ====
section
/-!
DEFINITION. SNAPSHOT (05 R156) and everything that happens in its tick.
-/
namespace Sys2Proof.Machine

/-- The snapshot interval in ticks (R156). -/
def Chip.snapTicks (u : Chip) : Nat := max 1 (u.get Reg.WR_CFG.BASE) * 25000

/-- The Weir time of the next snapshot: the next multiple, or now where a multiple has been reached or passed since the last one. After a
stretch without snapshots (boot hold, sleep) it is the next multiple (19 R539, R544). -/
def Chip.snapAt (u : Chip) : Nat :=
  let p := u.snapTicks
  let t := u.weir.time
  match u.weir.lastSnap with
  | some l => if l / p < t / p then t else (t / p + 1) * p
  | none => if t % p = 0 then t else (t / p + 1) * p

/-- Whether Weir issues snapshots: from the first one after the channels enter ACTIVE, until the next boot hold (R159). -/
def Chip.snapsRun (u : Chip) : Bool :=
  u.on Reg.WR_STAT.READY && (u.get Reg.WR_SNAPCNT.COUNT != 0xFFFFFFFF || (List.range 3).any (fun c => u.chState c == 3))

/-- M of 08 R267 as Weir knows it: the longest task period over BASE. -/
def Chip.weirHyper (u : Chip) : Nat :=
  max 1 (((List.range 8).foldl (fun m t => max m (u.get (Reg.WR_TDL.PERIOD t))) 0) / max 1 (u.get Reg.WR_CFG.BASE))

/-- A channel is halted: READY = 1 and both twins in WFI (19 R535). -/
def Chip.chHalted (u : Chip) (c : Nat) : Bool := u.on (Reg.CH_CSN.READY c) && (u.chan c).logic.halted && (u.chan c).link.halted

/-- Whether Weir withholds the snapshot with a count; a withheld one comes only after a rollback or a wake (19 R536, R539, R544). -/
def Chip.withholds (u : Chip) (count : Nat) : Bool :=
  u.pwr.notice && (u.weir.withheld || (count % u.weirHyper == 0 && u.setChannels.all u.chHalted))

/-- Checker test and strap read of a snapshot (R138, R166, R167), and the illegal code on a signal (R136); the timers that replace them start anew. -/
def Chip.snapTests (u : Chip) (pu pd : Nat) (responds : Bool) : Chip :=
  let u := u.modWeir (fun w => { w with idleDue := u.now + ms 10, strapDue := u.now + ms 10 })
  let u := (u.checkerTest responds).strapJudge pu pd
  (if u.railFault then u.weirSafe 2 else u).maintRead

/-- The boot hold ends in this tick (22 R601): READY, no cause, the check of R175 passed, two channels in the voting set. The boot is
complete (R602): BOOT_DONE. -/
def Chip.holdEnd (u : Chip) : Chip :=
  if u.weir.hold && u.on Reg.WR_STAT.READY && u.get Reg.WR_STAT.CAUSE == 0 && u.weir.cfgOk && decide (2 ≤ u.setChannels.length) then
    let since := u.boot.released.getD u.now
    let u := ((u.modWeir (fun w => { w with hold := false })).put Reg.WR_STAT.SAFE 0).put Reg.WR_STAT.LOCKOUT 0
    let u := u.put Reg.BOOT_STAT.TIME ((u.now - since) / us 100)
    let restart := u.boot.restart
    let u := { u with boot := { u.boot with reset := none } }
    (u.irq clkPage 1).raiseAfter 28 0x03 [u.get Reg.BOOT_STAT.WARM, restart, u.get Reg.BOOT_STAT.TIME, u.get Reg.BOOT_STAT.SLOT, u.get Reg.BOOT_STAT.FALLBACK]
  else u

/-- The strobe at a channel: NOTICE is latched, READY cleared (19 R534), the mismatches of the cycle count from 0 (03 R89), a halted
channel resumes at source 0 (Table 19.4), and the twins stand for a slice (18 R515). -/
def Chip.strobeChannel (u : Chip) (c : Nat) : Chip :=
  let n := lvl u.pwr.notice
  let halted := u.on (Reg.CH_CSN.READY c)
  let u := ((u.put (Reg.CH_CSN.NOTICE c) n).put (Reg.CH_CSN.TARGET c) (n * u.get Reg.PWR_STAT.TARGET)).put (Reg.CH_CSN.READY c) 0
  let u := u.put (Reg.CH_STATE.MM_CYC c) 0
  let u := if halted && u.chState c == 3 then u.modChan c Channel.start else u
  if u.chState c == 3 && u.on (Reg.PERC_CFG.EN (percPage c)) then
    u.modChan c (fun h => { h with logic := h.logic.strobe, link := h.link.strobe })
  else u

/-- A pending ZST_CLAIM takes effect (13 R388). -/
def Chip.claimEffect (u : Chip) : Chip :=
  match u.zst.claim with
  | some v => (({ u with zst := { u.zst with claim := none } }).put Reg.ZST_CLAIM.EPOCH (v / 256)).put Reg.ZST_CLAIM.RANK (v % 256)
  | none => u

/-- The gate places up to 16 commands into the input image of the cycle that begins (01 R25). -/
def Chip.gatePlace (u : Chip) : Chip :=
  { u with gate := { u.gate with placed := u.gate.queue.take 16, queue := u.gate.queue.drop 16 } }

/-- The snapshot is issued. -/
def Chip.snapIssue (u : Chip) (pu pd : Nat) (responds : Bool) : Chip :=
  let u := (u.wrapInc Reg.WR_SNAPCNT.COUNT).put Reg.WR_SNAP.SNAP u.weir.time
  let u := ((u.modWeir (fun w => { w with withheld := false })).snapTests pu pd responds).holdEnd
  let u := (u.latSnapshot).rsSnapshot
  let u := foldUpTo 3 u Chip.strobeChannel
  let u := (u.startDeadlines (u.get Reg.WR_SNAPCNT.COUNT)).chanIrqAll 0
  let u := ((u.zstStrobe).claimEffect).queueBeacons
  (u.percSnapshot).gatePlace

/-- SNAPSHOT (R156): the two strap reads, and whether the checker under test responds. An activation that is due takes its place
(20 R572); in the safe state it only ends, and the snapshot is issued. -/
def execSnapshot (pu pd : Nat) (responds : Bool) (s : State) : Host.Outcome State Fault Refusal :=
  let u := s.chip
  if !u.snapsRun then s.become u
  else
    let u := u.untilWeir u.snapAt
    if u.actDue && !u.locked then s.become u.activate
    else
      let u := if u.actDue then u.activate else u
      let u := u.modWeir (fun w => { w with lastSnap := some w.time })
      s.become (if u.withholds ((u.get Reg.WR_SNAPCNT.COUNT + 1) % 2 ^ 32) then u.modWeir (fun w => { w with withheld := true })
        else u.snapIssue pu pd responds)

end Sys2Proof.Machine
end

