-- ==== Sys2Proof/Machine/Dispatch.lean ====
section
/-!
DEFINITION. One arm per command of Instr: a direct call of its meaning, or a refusal by name.
-/
namespace Sys2Proof.Machine

def exec (i : Instr) (s : State) : Host.Outcome State Fault Refusal :=
  match i with
  | .snapshot pu pd responds => Sys2Proof.Machine.execSnapshot pu pd responds s
  | .checkerRotateTimer responds => Sys2Proof.Machine.execCheckerRotateTimer responds s
  | .strapReadTimer pu pd => Sys2Proof.Machine.execStrapReadTimer pu pd s
  | .permissionReturn => Sys2Proof.Machine.execPermissionReturn s
  | .snapshotHandover c => Sys2Proof.Machine.execSnapshotHandover c s
  | .taskDispatch c d => Sys2Proof.Machine.execTaskDispatch c d s
  | .taskDelivery c d => Sys2Proof.Machine.execTaskDelivery c d s
  | .appTrap c t mcause mepc key => Sys2Proof.Machine.execAppTrap c t mcause mepc key s
  | .instructionRetire c twin trail r => Sys2Proof.Machine.execInstructionRetire c twin trail r s
  | .windowCycleLimit c twin => Sys2Proof.Machine.execWindowCycleLimit c twin s
  | .windowCompare c twin same => Sys2Proof.Machine.execWindowCompare c twin same s
  | .storeCommit c twin bad => Sys2Proof.Machine.execStoreCommit c twin bad s
  | .sramDed c twin a fetch same => Sys2Proof.Machine.execSramDed c twin a fetch same s
  | .eccWriteback c a => Sys2Proof.Machine.execEccWriteback c a s
  | .channelInterrupt c twin => Sys2Proof.Machine.execChannelInterrupt c twin s
  | .rollbackDone c twin ns bad => Sys2Proof.Machine.execRollbackDone c twin ns bad s
  | .rbTimeout c twin => Sys2Proof.Machine.execRbTimeout c twin s
  | .channelLostTimeout c => Sys2Proof.Machine.execChannelLostTimeout c s
  | .channelSelftestDone c cmp march bad => Sys2Proof.Machine.execChannelSelftestDone c cmp march bad s
  | .cfPortImg c n v => Sys2Proof.Machine.execCfPortImg c n v s
  | .cfPortMsg c v => Sys2Proof.Machine.execCfPortMsg c v s
  | .cfPortDeliver c v bad => Sys2Proof.Machine.execCfPortDeliver c v bad s
  | .voteExpiry => Sys2Proof.Machine.execVoteExpiry s
  | .voteRelease => Sys2Proof.Machine.execVoteRelease s
  | .votingSetAck => Sys2Proof.Machine.execVotingSetAck s
  | .votingSetAckTimeout => Sys2Proof.Machine.execVotingSetAckTimeout s
  | .resyncBulkStart => Sys2Proof.Machine.execResyncBulkStart s
  | .resyncBulkDone => Sys2Proof.Machine.execResyncBulkDone s
  | .resyncFinalStart => Sys2Proof.Machine.execResyncFinalStart s
  | .channelImage c img crc => Sys2Proof.Machine.execChannelImage c img crc s
  | .votedImage => Sys2Proof.Machine.execVotedImage s
  | .checkOpenTimeout => Sys2Proof.Machine.execCheckOpenTimeout s
  | .votingSetFlit => Sys2Proof.Machine.execVotingSetFlit s
  | .safeRequestFlit => Sys2Proof.Machine.execSafeRequestFlit s
  | .captureTimeout => Sys2Proof.Machine.execCaptureTimeout s
  | .dualRailFault => Sys2Proof.Machine.execDualRailFault s
  | .deadlineCheck => Sys2Proof.Machine.execDeadlineCheck s
  | .deadlineWarn => Sys2Proof.Machine.execDeadlineWarn s
  | .rateGateEnd per wrc => Sys2Proof.Machine.execRateGateEnd per wrc s
  | .wdnMissingEdge => Sys2Proof.Machine.execWdnMissingEdge s
  | .timeParity => Sys2Proof.Machine.execTimeParity s
  | .pfailTrigger low uvov => Sys2Proof.Machine.execPfailTrigger low uvov s
  | .pfailRelease => Sys2Proof.Machine.execPfailRelease s
  | .weirPor pu pd => Sys2Proof.Machine.execWeirPor pu pd s
  | .weirSelftestDone ok => Sys2Proof.Machine.execWeirSelftestDone ok s
  | .flitReceive up lane seq kind x => Sys2Proof.Machine.execFlitReceive up lane seq kind x s
  | .flitNak up lane seq => Sys2Proof.Machine.execFlitNak up lane seq s
  | .flitAck up lane seq => Sys2Proof.Machine.execFlitAck up lane seq s
  | .flitSend up => Sys2Proof.Machine.execFlitSend up s
  | .linkSilence atWeir => Sys2Proof.Machine.execLinkSilence atWeir s
  | .wrStoffHiWrite req v => Sys2Proof.Machine.execWrStoffHiWrite req v s
  | .wrTimeLoRead req => Sys2Proof.Machine.execWrTimeLoRead req s
  | .latticeLatch ecc w => Sys2Proof.Machine.execLatticeLatch ecc w s
  | .latticeCommit => Sys2Proof.Machine.execLatticeCommit s
  | .sweepEval ecc w => Sys2Proof.Machine.execSweepEval ecc w s
  | .sweepPassTimeout => Sys2Proof.Machine.execSweepPassTimeout s
  | .gateQuery => Sys2Proof.Machine.execGateQuery s
  | .gateVerdict => Sys2Proof.Machine.execGateVerdict s
  | .verdictReceive => Sys2Proof.Machine.execVerdictReceive s
  | .loadBegin => Sys2Proof.Machine.execLoadBegin s
  | .loadEnd => Sys2Proof.Machine.execLoadEnd s
  | .copy => Sys2Proof.Machine.execCopy s
  | .copyCaptureStart => Sys2Proof.Machine.execCopyCaptureStart s
  | .copyDone ecc w => Sys2Proof.Machine.execCopyDone ecc w s
  | .verify => Sys2Proof.Machine.execVerify s
  | .verifyDone ecc w => Sys2Proof.Machine.execVerifyDone ecc w s
  | .standbyWrite req a b => Sys2Proof.Machine.execStandbyWrite req a b s
  | .latSwapArm arm => Sys2Proof.Machine.execLatSwapArm arm s
  | .applyTime n => Sys2Proof.Machine.execApplyTime n s
  | .retainFrame => Sys2Proof.Machine.execRetainFrame s
  | .retainWriteTimer => Sys2Proof.Machine.execRetainWriteTimer s
  | .olcBegin svc tag cv => Sys2Proof.Machine.execOlcBegin svc tag cv s
  | .olcLoad svc tag cv target off data => Sys2Proof.Machine.execOlcLoad svc tag cv target off data s
  | .olcPrepare svc tag cv newCv latCv weirCv off n => Sys2Proof.Machine.execOlcPrepare svc tag cv newCv latCv weirCv off n s
  | .olcSwap svc tag cv newCv n => Sys2Proof.Machine.execOlcSwap svc tag cv newCv n s
  | .olcAbort svc tag cv => Sys2Proof.Machine.execOlcAbort svc tag cv s
  | .forceSet svc tag cv vkey ikey sig off width bit value => Sys2Proof.Machine.execForceSet svc tag cv vkey ikey sig off width bit value s
  | .forceClear svc tag cv vkey => Sys2Proof.Machine.execForceClear svc tag cv vkey s
  | .forceClearAll svc tag cv => Sys2Proof.Machine.execForceClearAll svc tag cv s
  | .errInject svc tag cv pg v => Sys2Proof.Machine.execErrInject svc tag cv pg v s
  | .sinReset svc tag cv mask => Sys2Proof.Machine.execSinReset svc tag cv mask s
  | .soutReset svc tag cv mask => Sys2Proof.Machine.execSoutReset svc tag cv mask s
  | .percFuseCmd svc tag cv c m sp => Sys2Proof.Machine.execPercFuseCmd svc tag cv c m sp s
  | .cfgConfirm svc tag cv => Sys2Proof.Machine.execCfgConfirm svc tag cv s
  | .keyLoad svc tag cv slot phase key kcv => Sys2Proof.Machine.execKeyLoad svc tag cv slot phase key kcv s
  | .keyPhase svc tag cv slot phase clear => Sys2Proof.Machine.execKeyPhase svc tag cv slot phase clear s
  | .fwActivate svc tag cv slot at' digest => Sys2Proof.Machine.execFwActivate svc tag cv slot at' digest s
  | .fwCancel svc tag cv => Sys2Proof.Machine.execFwCancel svc tag cv s
  | .lockoutReset svc tag cv => Sys2Proof.Machine.execLockoutReset svc tag cv s
  | .channelReset svc tag cv c => Sys2Proof.Machine.execChannelReset svc tag cv c s
  | .coldRestart svc tag cv => Sys2Proof.Machine.execColdRestart svc tag cv s
  | .loaderFrame => Sys2Proof.Machine.execLoaderFrame s
  | .serviceConnected => Sys2Proof.Machine.execServiceConnected s
  | .serviceLinkLoss => Sys2Proof.Machine.execServiceLinkLoss s
  | .sinSample => Sys2Proof.Machine.execSinSample s
  | .sinEdge n level dt => Sys2Proof.Machine.execSinEdge n level dt s
  | .sinFilterExpiry n => Sys2Proof.Machine.execSinFilterExpiry n s
  | .sinDiscTimeout k => Sys2Proof.Machine.execSinDiscTimeout k s
  | .sinUnlockWrite req mask tag => Sys2Proof.Machine.execSinUnlockWrite req mask tag s
  | .toutDue j => Sys2Proof.Machine.execToutDue j s
  | .toutPulseStart j => Sys2Proof.Machine.execToutPulseStart j s
  | .toutPulseEnd j => Sys2Proof.Machine.execToutPulseEnd j s
  | .toutRecoveryEnd j => Sys2Proof.Machine.execToutRecoveryEnd j s
  | .soutSample fb => Sys2Proof.Machine.execSoutSample fb s
  | .envRead => Sys2Proof.Machine.execEnvRead s
  | .envReadDone => Sys2Proof.Machine.execEnvReadDone s
  | .soutTestDue n ls => Sys2Proof.Machine.execSoutTestDue n ls s
  | .soutPulseStart n ls => Sys2Proof.Machine.execSoutPulseStart n ls s
  | .soutPulseEnd n => Sys2Proof.Machine.execSoutPulseEnd n s
  | .soutRecoveryEnd n => Sys2Proof.Machine.execSoutRecoveryEnd n s
  | .soutUnlockWrite req mask tag => Sys2Proof.Machine.execSoutUnlockWrite req mask tag s
  | .zstFrameTx p => Sys2Proof.Machine.execZstFrameTx p s
  | .zstFrameRx port f => Sys2Proof.Machine.execZstFrameRx port f s
  | .zstRxHdrRead req => Sys2Proof.Machine.execZstRxHdrRead req s
  | .zstRxDatRead req => Sys2Proof.Machine.execZstRxDatRead req s
  | .zstPrecheck c => Sys2Proof.Machine.execZstPrecheck c s
  | .idReqTimer c n => Sys2Proof.Machine.execIdReqTimer c n s
  | .joinWaitExpiry c => Sys2Proof.Machine.execJoinWaitExpiry c s
  | .epochRecordWrite => Sys2Proof.Machine.execEpochRecordWrite s
  | .portFrameRx p f => Sys2Proof.Machine.execPortFrameRx p f s
  | .portTxRefused p src => Sys2Proof.Machine.execPortTxRefused p src s
  | .plcaBeaconTimeout p => Sys2Proof.Machine.execPlcaBeaconTimeout p s
  | .plcaBeaconRx p => Sys2Proof.Machine.execPlcaBeaconRx p s
  | .gptpSyncRx p station stamp ppb => Sys2Proof.Machine.execGptpSyncRx p station stamp ppb s
  | .pdelayReqRx p t2 t3 => Sys2Proof.Machine.execPdelayReqRx p t2 t3 s
  | .timeSilence => Sys2Proof.Machine.execTimeSilence s
  | .timeBeaconRx p cap b => Sys2Proof.Machine.execTimeBeaconRx p cap b s
  | .busOff p tec => Sys2Proof.Machine.execBusOff p tec s
  | .busOn p => Sys2Proof.Machine.execBusOn p s
  | .engineFault e cause => Sys2Proof.Machine.execEngineFault e cause s
  | .rs485IdleDiscard ix => Sys2Proof.Machine.execRs485IdleDiscard ix s
  | .bridgeFrame q f => Sys2Proof.Machine.execBridgeFrame q f s
  | .brTblW3Write req v => Sys2Proof.Machine.execBrTblW3Write req v s
  | .tableCommit n => Sys2Proof.Machine.execTableCommit n s
  | .regionCommit => Sys2Proof.Machine.execRegionCommit s
  | .windowWrite req w off b => Sys2Proof.Machine.execWindowWrite req w off b s
  | .windowRead req w off len => Sys2Proof.Machine.execWindowRead req w off len s
  | .readResponse q f => Sys2Proof.Machine.execReadResponse q f s
  | .writeAck q f => Sys2Proof.Machine.execWriteAck q f s
  | .responseTimeout tag => Sys2Proof.Machine.execResponseTimeout tag s
  | .drTimeout n => Sys2Proof.Machine.execDrTimeout n s
  | .inboundMessage => Sys2Proof.Machine.execInboundMessage s
  | .cvuFeedWrite ix v => Sys2Proof.Machine.execCvuFeedWrite ix v s
  | .cvuFeedBWrite ix v => Sys2Proof.Machine.execCvuFeedBWrite ix v s
  | .cvuValWrite ix hi v => Sys2Proof.Machine.execCvuValWrite ix hi v s
  | .cvuPresetWrite req ix v => Sys2Proof.Machine.execCvuPresetWrite req ix v s
  | .fabricRequest req a wr => Sys2Proof.Machine.execFabricRequest req a wr s
  | .arbitrationDecision t slot => Sys2Proof.Machine.execArbitrationDecision t slot s
  | .arbHung t => Sys2Proof.Machine.execArbHung t s
  | .eventRaise src code data => Sys2Proof.Machine.execEventRaise src code data s
  | .intRaise req => Sys2Proof.Machine.execIntRaise req s
  | .intAsmWrite req k v => Sys2Proof.Machine.execIntAsmWrite req k v s
  | .eventMerge => Sys2Proof.Machine.execEventMerge s
  | .lostRecordStage src => Sys2Proof.Machine.execLostRecordStage src s
  | .recordEntry => Sys2Proof.Machine.execRecordEntry s
  | .flushHalf => Sys2Proof.Machine.execFlushHalf s
  | .flushTimer => Sys2Proof.Machine.execFlushTimer s
  | .flushStart => Sys2Proof.Machine.execFlushStart s
  | .emmcWriteDone => Sys2Proof.Machine.execEmmcWriteDone s
  | .emmcWriteFail status => Sys2Proof.Machine.execEmmcWriteFail status s
  | .logRecoveryDone => Sys2Proof.Machine.execLogRecoveryDone s
  | .freeze => Sys2Proof.Machine.execFreeze s
  | .unfreeze => Sys2Proof.Machine.execUnfreeze s
  | .flush => Sys2Proof.Machine.execFlush s
  | .format => Sys2Proof.Machine.execFormat s
  | .spillwayStart => Sys2Proof.Machine.execSpillwayStart s
  | .spillwayIntakeClose => Sys2Proof.Machine.execSpillwayIntakeClose s
  | .evrCursorWrite ix => Sys2Proof.Machine.execEvrCursorWrite ix s
  | .windowFetchDone => Sys2Proof.Machine.execWindowFetchDone s
  | .evrWin15Read => Sys2Proof.Machine.execEvrWin15Read s
  | .evrClrHiWrite req hi => Sys2Proof.Machine.execEvrClrHiWrite req hi s
  | .percSliceStart c => Sys2Proof.Machine.execPercSliceStart c s
  | .percSliceDone e g r => Sys2Proof.Machine.execPercSliceDone e g r s
  | .schedSliceTimer => Sys2Proof.Machine.execSchedSliceTimer s
  | .percFuseGo req e v => Sys2Proof.Machine.execPercFuseGo req e v s
  | .fuseDone e => Sys2Proof.Machine.execFuseDone e s
  | .pwrReqWrite req v => Sys2Proof.Machine.execPwrReqWrite req v s
  | .consentAskStart => Sys2Proof.Machine.execConsentAskStart s
  | .noticeTimeout => Sys2Proof.Machine.execNoticeTimeout s
  | .consentAnswer ready => Sys2Proof.Machine.execConsentAnswer ready s
  | .consentTimeout => Sys2Proof.Machine.execConsentTimeout s
  | .idleWake => Sys2Proof.Machine.execIdleWake s
  | .wakeNLow => Sys2Proof.Machine.execWakeNLow s
  | .i2cAddressMatch addr => Sys2Proof.Machine.execI2cAddressMatch addr s
  | .aonAlarm => Sys2Proof.Machine.execAonAlarm s
  | .wakeRestart crcOk => Sys2Proof.Machine.execWakeRestart crcOk s
  | .packageStore svc pkg => Sys2Proof.Machine.execPackageStore svc pkg s
  | .fwImageStore svc slot hdr ok digest => Sys2Proof.Machine.execFwImageStore svc slot hdr ok digest s
  | .svnAdvance svc svn => Sys2Proof.Machine.execSvnAdvance svc svn s
  | .idbScan ix mems => Sys2Proof.Machine.execIdbScan ix mems s
  | .idbScanTimer ix => Sys2Proof.Machine.execIdbScanTimer ix s
  | .confirmRecordWrite => Sys2Proof.Machine.execConfirmRecordWrite s
  | .activationStrobe => Sys2Proof.Machine.execActivationStrobe s
  | .trialBootTimeout => Sys2Proof.Machine.execTrialBootTimeout s
  | .clkLockLoss => Sys2Proof.Machine.execClkLockLoss s
  | .refMissing => Sys2Proof.Machine.execRefMissing s
  | .dividerWindow dom branch count => Sys2Proof.Machine.execDividerWindow dom branch count s
  | .frcRangeWindow count => Sys2Proof.Machine.execFrcRangeWindow count s
  | .resetStepTimeout step => Sys2Proof.Machine.execResetStepTimeout step s
  | .clkCtlWrite req v => Sys2Proof.Machine.execClkCtlWrite req v s
  | .porAssert aonLost => Sys2Proof.Machine.execPorAssert aonLost s
  | .porRelease => Sys2Proof.Machine.execPorRelease s
  | .resetFlit up => Sys2Proof.Machine.execResetFlit up s
  | .resetAssert => Sys2Proof.Machine.execResetAssert s
  | .resetRelease => Sys2Proof.Machine.execResetRelease s
  | .bootStepDone step ok ok2 m m2 => Sys2Proof.Machine.execBootStepDone step ok ok2 m m2 s
  | .blkLockWrite req pg key => Sys2Proof.Machine.execBlkLockWrite req pg key s
  | .lockExpiry pg => Sys2Proof.Machine.execLockExpiry pg s
  | .crcScan pg same => Sys2Proof.Machine.execCrcScan pg same s
  | .softReset req pg => Sys2Proof.Machine.execSoftReset req pg s
  | .softResetDone pg => Sys2Proof.Machine.execSoftResetDone pg s
  | .irqPendClear req pg v => Sys2Proof.Machine.execIrqPendClear req pg v s
  | .blkErrinjWrite req pg v => Sys2Proof.Machine.execBlkErrinjWrite req pg v s
  | .registerWrite req a size v => Sys2Proof.Machine.execRegisterWrite req a size v s
  | .selfGateIdle pg => Sys2Proof.Machine.execSelfGateIdle pg s
  | .selfUngate pg => Sys2Proof.Machine.execSelfUngate pg s
  | .plicClaim req ctx => Sys2Proof.Machine.execPlicClaim req ctx s
  | .plicComplete req ctx id => Sys2Proof.Machine.execPlicComplete req ctx id s
  | .reintLossAgeOut c => Sys2Proof.Machine.execReintLossAgeOut c s
  | .serviceLinkUp => Sys2Proof.Machine.execServiceLinkUp s
  | .portLinkChange p up cut => Sys2Proof.Machine.execPortLinkChange p up cut s
  | .triggerConditionClear => Sys2Proof.Machine.execTriggerConditionClear s
  | .pdelayInterval p t1 => Sys2Proof.Machine.execPdelayInterval p t1 s
  | .pdelayRespRx p delay => Sys2Proof.Machine.execPdelayRespRx p delay s
  | .announceRx p m => Sys2Proof.Machine.execAnnounceRx p m s
  | .cbResetTimer key => Sys2Proof.Machine.execCbResetTimer key s
  | .fabricResponse t => Sys2Proof.Machine.execFabricResponse t s
  | .bridgeEgressTx q => Sys2Proof.Machine.execBridgeEgressTx q s
  | .rangeWriteAbsorb a b => Sys2Proof.Machine.execRangeWriteAbsorb a b s
  | .registerReadError req a size => Sys2Proof.Machine.execRegisterReadError req a size s

end Sys2Proof.Machine
end

