-- ==== Sys2Proof/Safety.lean ====
section
/-!
DEFINITION. What claims call safe, and the words in which they speak of commands: outputs that cannot conduct, the safe state, memories in their canonical form, a command that completes, an event that is reported, a page that takes accesses, the parts of the hardware that a command leaves alone.
-/
namespace Sys2Proof.Machine

/-- Weir is in the safe state or in the boot hold: WR_STAT.SAFE (05 R173). -/
def Chip.safe (u : Chip) : Bool := u.on Reg.WR_STAT.SAFE

/-- No output may conduct: no enable of Weir shows the code for 1, and WR_EN reads 0 (05 R135, R149). -/
def Chip.enablesOff (u : Chip) : Bool := u.weir.en.word == 0 && u.get Reg.WR_EN.EN == 0

/-- Every permission is withdrawn: none shows the code for 1 (05 R135, 06 R182). -/
def Chip.noPermission (u : Chip) : Bool := u.lat.perm.word == 0 && u.lat.sperm.word == 0

/-- Byte memories that the spec gives the unit are in their canonical form: channel SRAM, output mirror, management SRAM,
LPDDR4X. -/
def Chip.memoriesOk (u : Chip) : Bool :=
  memWf u.chans.a.sram && memWf u.chans.b.sram && memWf u.chans.c.sram && memWf u.conf.mirror && memWf u.msram && memWf u.ddr

/-- What holds as long as Weir is safe: no output may conduct, every permission is withdrawn, and no voted image that could grant one
waits at the lattice, is evaluated or waits to commit (05 R173, 06 R182, R189). -/
def Chip.quietIfSafe (u : Chip) : Bool :=
  !u.safe || (u.enablesOff && u.noPermission && u.lat.pend.isNone && u.lat.port.isEmpty && u.lat.passed.isEmpty)

/-- Weir latches no safe state: it runs, or it is in the boot hold, which a cause turns into the safe state (22 R601). -/
def Chip.unlatched (u : Chip) : Bool := !u.on Reg.WR_STAT.SAFE || u.weir.hold

/-- The safe state as R173 and Table 5.6 describe it: every enable clear, every permission withdrawn, SAFE and LOCKOUT set, the
cause recorded, no check open, and Confluence in SAFE with a voted image of 0 (04 R110). -/
def Chip.safeWith (u : Chip) (cause : Nat) : Bool :=
  u.enablesOff && u.safe && u.on Reg.WR_STAT.LOCKOUT && u.get Reg.WR_STAT.CAUSE == cause && u.noPermission &&
  !u.on Reg.WR_VC.OPEN && u.weir.openCheck.isNone && !u.weir.hold && u.get Reg.CF_MODE.MODE == 0

/-- Weir's phase accumulator holds less than one tick (05 R154). -/
def Chip.clockOk (u : Chip) : Bool := decide (0 ≤ u.weir.acc ∧ u.weir.acc < 1000000000)

/-- Weir time has come to an instant, or where the steered time passes over it (05 R154) to the tick after it; it stands where the instant is
past. -/
def Chip.reaches (u : Chip) (t : Nat) (v : Chip) : Prop :=
  max u.weir.time t ≤ v.weir.time ∧ (u.clockOk = true → v.weir.time ≤ max u.weir.time t + (if u.get Reg.WR_RATE.RATE = 0 then 0 else 1))

/-- A command completes: exec answers a next state that keeps the queue, and the hardware then has the property `P`. -/
def Completes (c : Instr) (s : State) (P : Chip → Prop) : Prop := ∃ u, exec c s = .next { s with chip := u } ∧ P u

/-- An event of a source with this code and these values stands in the staging register or waits for it (16 R480; log 56). -/
def Chip.reports (u : Chip) (src code : Nat) (data : List Nat) : Bool :=
  (u.intake.staged ++ u.intake.later).any (fun e => e.src == src && e.code == code && e.data == data)

/-- The page of an address takes an access in the ordinary way: it exists, its block neither runs a soft reset nor is gated,
and no error injection is armed (02 R41, R51, R52). -/
def Chip.attends (u : Chip) (a : Nat) : Bool :=
  (pageInfo a).isSome && !u.inReset a && u.get (Reg.BLK_ERRINJ.ARM (page0 a)) == 0 && u.get (Reg.BLK_STAT.PWR (page0 a)) == 0

/-- The parts of the hardware that a claim can say a command leaves alone. -/
inductive Part where
  | intake | fab | pages | plic | cic | chans | conf | weir | link | lat | flt | gate | rt | sin | sout | zst | svc | ports | cb | tm | br
  | msram | ddr | evr | perc | ret | pwr | com | boot
  deriving DecidableEq, Repr

/-- A part is the same in both. -/
def Part.same : Part → Chip → Chip → Prop
  | .intake, u, t => t.intake = u.intake
  | .fab, u, t => t.fab = u.fab
  | .pages, u, t => t.pages = u.pages
  | .plic, u, t => t.plic = u.plic
  | .cic, u, t => t.cic = u.cic
  | .chans, u, t => t.chans = u.chans
  | .conf, u, t => t.conf = u.conf
  | .weir, u, t => t.weir = u.weir
  | .link, u, t => t.link = u.link
  | .lat, u, t => t.lat = u.lat
  | .flt, u, t => t.flt = u.flt
  | .gate, u, t => t.gate = u.gate
  | .rt, u, t => t.rt = u.rt
  | .sin, u, t => t.sin = u.sin
  | .sout, u, t => t.sout = u.sout
  | .zst, u, t => t.zst = u.zst
  | .svc, u, t => t.svc = u.svc
  | .ports, u, t => t.ports = u.ports
  | .cb, u, t => t.cb = u.cb
  | .tm, u, t => t.tm = u.tm
  | .br, u, t => t.br = u.br
  | .msram, u, t => t.msram = u.msram
  | .ddr, u, t => t.ddr = u.ddr
  | .evr, u, t => t.evr = u.evr
  | .perc, u, t => t.perc = u.perc
  | .ret, u, t => t.ret = u.ret
  | .pwr, u, t => t.pwr = u.pwr
  | .com, u, t => t.com = u.com
  | .boot, u, t => t.boot = u.boot

/-! ### Frames -/

/-- What an event, and the interrupt lines behind it, may change (16 R480, 02 R54, 03 R69). -/
def frLog : List Part := [.intake, .plic, .cic]

/-- What Confluence entering SAFE may change (04 R110, 21 R579). -/
def frConf : List Part := frLog ++ [.conf, .flt, .link, .sout]

/-- What Weir entering the safe state may change (05 R173, 21 R578). -/
def frSafe : List Part := frLog ++ [.chans, .conf, .evr, .flt, .lat, .pwr, .sout, .weir, .zst]

/-- The parts of the hardware that a command may change; it leaves all others alone. -/
def frameParts : Instr → List Part
  | .snapshot .. => frSafe ++ [.link, .gate, .rt, .perc, .com, .boot]
  | .checkerRotateTimer .. | .strapReadTimer .. | .channelImage .. | .checkOpenTimeout .. | .dualRailFault .. | .rateGateEnd .. | .wdnMissingEdge ..
    | .timeParity .. | .weirPor .. | .latticeLatch .. | .sweepEval .. | .sweepPassTimeout .. | .copyDone .. | .verifyDone .. => frSafe
  | .permissionReturn .. | .copyCaptureStart .. => [.lat]
  | .snapshotHandover .. | .taskDispatch .. => frLog ++ [.chans, .conf, .rt]
  | .taskDelivery .. => frConf ++ [.chans, .weir, .rt]
  | .appTrap .. | .zstPrecheck .. => frLog ++ [.rt]
  | .instructionRetire .. => frConf ++ [.pages, .chans, .weir, .zst, .br, .evr]
  | .windowCycleLimit .. | .eccWriteback .. => [.chans]
  | .windowCompare .. | .sramDed .. | .rollbackDone .. | .rbTimeout .. | .voteExpiry .. | .resyncFinalStart .. => frConf ++ [.chans, .weir]
  | .storeCommit .. | .registerWrite .. => frSafe ++ [.fab, .pages, .link, .gate, .sin, .svc, .ports, .br, .msram, .ddr, .perc, .ret]
  | .channelInterrupt .. => [.cic, .chans]
  | .channelLostTimeout .. => frLog ++ [.chans, .conf, .weir, .rt, .perc]
  | .channelSelftestDone .. => frConf ++ [.chans, .weir, .perc]
  | .cfPortImg .. | .cfPortMsg .. | .cfPortDeliver .. => frConf ++ [.pages, .chans, .weir]
  | .voteRelease .. | .votingSetAck .. => frLog ++ [.conf, .weir, .link, .sout, .zst]
  | .votingSetAckTimeout .. | .crcScan .. => frConf ++ [.weir]
  | .resyncBulkStart .. => [.conf]
  | .resyncBulkDone .. => [.chans, .conf, .weir]
  | .votedImage .. | .votingSetFlit .. | .safeRequestFlit .. | .deadlineCheck .. | .pfailTrigger .. | .pfailRelease .. | .weirSelftestDone ..
    | .flitNak .. | .linkSilence .. => frSafe ++ [.link]
  | .captureTimeout .. => [.weir, .flt]
  | .deadlineWarn .. => [.cic, .weir]
  | .flitReceive .. | .flitAck .. | .flitSend .. => [.link]
  | .wrStoffHiWrite .. | .wrTimeLoRead .. | .loadBegin .. | .loadEnd .. | .verify .. | .latSwapArm .. | .soutUnlockWrite .. | .tableCommit ..
    | .cvuFeedWrite .. | .cvuFeedBWrite .. | .cvuValWrite .. | .cvuPresetWrite .. | .intRaise .. | .intAsmWrite .. | .clkCtlWrite ..
    | .blkLockWrite .. | .irqPendClear .. | .blkErrinjWrite .. => frConf ++ [.pages, .weir]
  | .latticeCommit .. => frLog ++ [.weir, .lat]
  | .gateQuery .. | .gateVerdict .. => frLog ++ [.link, .lat]
  | .verdictReceive .. => [.link, .zst]
  | .copy .. => frConf ++ [.pages, .weir, .lat]
  | .standbyWrite .. => frLog ++ [.lat]
  | .applyTime .. | .soutSample .. | .envReadDone .. | .soutPulseEnd .. => frLog ++ [.weir, .sout]
  | .retainFrame .. => [.rt, .ret]
  | .retainWriteTimer .. => [.weir, .ret]
  | .olcBegin .. | .olcLoad .. | .olcPrepare .. | .olcSwap .. | .olcAbort .. | .forceSet .. | .forceClear .. | .forceClearAll .. | .errInject ..
    | .sinReset .. | .soutReset .. | .percFuseCmd .. | .cfgConfirm .. | .keyLoad .. | .keyPhase .. | .fwCancel .. => frLog ++ [.gate]
  | .fwActivate .. => frLog ++ [.gate, .com]
  | .lockoutReset .. | .coldRestart .. => frLog ++ [.gate, .com, .boot]
  | .channelReset .. => frConf ++ [.chans, .weir, .gate, .rt, .perc]
  | .loaderFrame .. => frSafe ++ [.pages, .link, .gate, .sin, .perc, .ret, .com]
  | .serviceConnected .. => [.weir, .svc]
  | .serviceLinkLoss .. => frLog ++ [.gate, .svc]
  | .sinSample .. | .sinFilterExpiry .. | .sinDiscTimeout .. | .toutPulseStart .. | .toutPulseEnd .. | .toutRecoveryEnd .. => frLog ++ [.weir, .sin]
  | .sinEdge .. | .toutDue .. => [.weir, .sin]
  | .sinUnlockWrite .. => frConf ++ [.pages, .weir, .sin]
  | .envRead .. | .soutPulseStart .. | .soutRecoveryEnd .. => [.weir, .sout]
  | .soutTestDue .. | .idbScanTimer .. | .selfGateIdle .. | .triggerConditionClear .. => [.weir]
  | .zstFrameTx .. => [.zst, .ports]
  | .zstFrameRx .. => frLog ++ [.zst]
  | .zstRxHdrRead .. | .zstRxDatRead .. => frConf ++ [.pages, .weir, .zst]
  | .idReqTimer .. => [.weir, .rt]
  | .joinWaitExpiry .. => frLog ++ [.weir, .rt]
  | .epochRecordWrite .. => [.ret]
  | .portFrameRx .. => frLog ++ [.ports, .cb]
  | .portTxRefused .. => [.plic]
  | .plcaBeaconTimeout .. => frLog ++ [.weir, .ports]
  | .plcaBeaconRx .. | .engineFault .. => frLog ++ [.ports]
  | .gptpSyncRx .. => frLog ++ [.tm, .evr]
  | .pdelayReqRx .. | .pdelayRespRx .. => [.ports]
  | .timeSilence .. => frLog ++ [.weir, .tm, .evr]
  | .timeBeaconRx .. => frLog ++ [.ports, .tm, .evr]
  | .busOff .. | .busOn .. | .eventRaise .. | .lostRecordStage .. | .plicClaim .. | .plicComplete .. => frLog
  | .rs485IdleDiscard .. | .selfUngate .. | .rangeWriteAbsorb .. => []
  | .bridgeFrame .. | .readResponse .. | .writeAck .. => frLog ++ [.br]
  | .brTblW3Write .. | .regionCommit .. | .windowWrite .. | .windowRead .. => frConf ++ [.pages, .weir, .br]
  | .responseTimeout .. | .drTimeout .. => frLog ++ [.weir, .br]
  | .inboundMessage .. => [.br, .msram]
  | .fabricRequest .. | .arbitrationDecision .. => frLog ++ [.fab]
  | .arbHung .. => frLog ++ [.fab, .weir]
  | .eventMerge .. => frLog ++ [.evr, .com]
  | .recordEntry .. | .emmcWriteFail .. => frLog ++ [.evr]
  | .flushHalf .. => [.plic, .cic, .evr]
  | .flushTimer .. => [.weir, .evr]
  | .flushStart .. => [.plic, .cic, .flt, .evr, .ret]
  | .emmcWriteDone .. => frLog ++ [.flt, .evr, .ret]
  | .logRecoveryDone .. => frLog ++ [.evr, .ret]
  | .freeze .. | .unfreeze .. | .flush .. | .format .. | .evrCursorWrite .. | .evrWin15Read .. | .evrClrHiWrite .. => frConf ++ [.pages, .weir, .evr]
  | .spillwayStart .. => frLog ++ [.link, .flt, .evr, .ret]
  | .spillwayIntakeClose .. => [.weir, .evr, .ret]
  | .windowFetchDone .. => [.evr]
  | .percSliceStart .. => [.perc]
  | .percSliceDone .. => frConf ++ [.chans, .weir, .evr, .perc]
  | .schedSliceTimer .. => [.weir, .evr, .perc]
  | .percFuseGo .. => frConf ++ [.pages, .weir, .perc]
  | .fuseDone .. => frLog ++ [.perc]
  | .pwrReqWrite .. => frConf ++ [.pages, .weir, .pwr]
  | .consentAskStart .. => [.pwr]
  | .noticeTimeout .. => [.weir, .pwr]
  | .consentAnswer .. => frLog ++ [.weir, .lat, .sin, .msram, .ddr, .evr, .pwr]
  | .consentTimeout .. | .idleWake .. | .wakeNLow .. | .i2cAddressMatch .. | .aonAlarm .. => frLog ++ [.weir, .pwr]
  | .wakeRestart .. => frLog ++ [.weir, .sin, .pwr, .com, .boot]
  | .packageStore .. | .fwImageStore .. => frLog ++ [.com]
  | .svnAdvance .. => [.com]
  | .idbScan .. => frLog ++ [.msram, .com]
  | .confirmRecordWrite .. => [.weir, .com]
  | .activationStrobe .. => frLog ++ [.weir, .com, .boot]
  | .trialBootTimeout .. => [.weir, .com, .boot]
  | .clkLockLoss .. | .refMissing .. | .dividerWindow .. | .frcRangeWindow .. | .resetStepTimeout .. => frLog ++ [.weir, .link, .sout, .boot]
  | .porAssert .. => frConf ++ [.fab, .pages, .chans, .gate, .rt, .sin, .zst, .svc, .ports, .cb, .tm, .br, .msram, .ddr, .evr, .perc, .ret, .pwr, .com, .boot]
  | .porRelease .. | .resetRelease .. => frSafe ++ [.link, .sin, .svc, .boot]
  | .resetFlit .. => frSafe ++ [.link, .com, .boot]
  | .resetAssert .. =>
    frConf ++ [.fab, .pages, .chans, .weir, .gate, .rt, .sin, .zst, .svc, .ports, .cb, .tm, .br, .msram, .ddr, .evr, .perc, .ret, .pwr, .com, .boot]
  | .bootStepDone .. => frSafe ++ [.fab, .link, .rt, .sin, .ports, .ret, .com, .boot]
  | .lockExpiry .. => frLog ++ [.pages, .weir]
  | .softReset .. => frSafe ++ [.fab, .pages, .link, .gate, .sin, .svc, .ports, .br, .perc]
  | .softResetDone .. => [.pages, .plic, .weir]
  | .reintLossAgeOut .. => [.chans, .weir]
  | .serviceLinkUp .. => [.svc]
  | .portLinkChange .. | .announceRx .. => frLog ++ [.ports, .tm]
  | .pdelayInterval .. => [.weir, .ports]
  | .cbResetTimer .. => [.weir, .cb]
  | .fabricResponse .. => [.fab]
  | .bridgeEgressTx .. => [.ports, .br]
  | .registerReadError .. => frConf ++ [.pages, .weir, .zst, .br, .evr]

/-- The 1 MB blocks of registers (address / 0x10_0000) that Confluence entering SAFE may change: its own, the safe outputs, the fault capture, the mirror, the event intake, Weir. -/
def blConf : List Nat := [0x403, 0x405, 0x407, 0x408, 0x409, 0x500]

/-- The same of Weir entering the safe state: the channels, the event recorder and the power controller as well. -/
def blSafe : List Nat := blConf ++ [0x402, 0x445, 0x447]

/-- The blocks of registers that a command may change, BLK_STAT apart; none where it is not bound to blocks: a write that the requester aims, a core's load or store, the loader, a reset, a boot step. -/
def frameBlocks : Instr → Option (List Nat)
  | .snapshot .. => some (blSafe ++ [0x401, 0x406, 0x40B, 0x444, 0x446])
  | .checkerRotateTimer .. | .strapReadTimer .. | .channelImage .. | .votedImage .. | .checkOpenTimeout .. | .votingSetFlit .. | .safeRequestFlit ..
    | .dualRailFault .. | .deadlineCheck .. | .rateGateEnd .. | .wdnMissingEdge .. | .timeParity .. | .pfailTrigger .. | .pfailRelease ..
    | .weirPor .. | .weirSelftestDone .. | .flitNak .. | .linkSilence .. | .latticeLatch .. | .sweepEval .. | .sweepPassTimeout .. | .copyDone ..
    | .verifyDone .. | .resetFlit .. => some blSafe
  | .permissionReturn .. | .windowCycleLimit .. | .eccWriteback .. | .channelInterrupt .. | .deadlineWarn .. | .flitAck .. | .flitSend ..
    | .verdictReceive .. | .copyCaptureStart .. | .retainFrame .. | .retainWriteTimer .. | .serviceConnected .. | .sinEdge .. | .toutDue ..
    | .envRead .. | .soutTestDue .. | .soutRecoveryEnd .. | .zstFrameTx .. | .idReqTimer .. | .epochRecordWrite .. | .pdelayReqRx .. | .flushTimer ..
    | .confirmRecordWrite .. | .selfGateIdle .. | .selfUngate .. | .pdelayInterval .. | .cbResetTimer .. => some []
  | .snapshotHandover .. => some [0x402, 0x403, 0x409]
  | .taskDispatch .. => some [0x403, 0x409]
  | .taskDelivery .. | .windowCompare .. | .sramDed .. | .rollbackDone .. | .rbTimeout .. | .cfPortImg .. | .cfPortMsg .. | .cfPortDeliver ..
    | .voteExpiry .. => some (blConf ++ [0x402])
  | .appTrap .. | .olcBegin .. | .olcLoad .. | .olcPrepare .. | .olcSwap .. | .olcAbort .. | .forceSet .. | .forceClear .. | .forceClearAll ..
    | .errInject .. | .sinReset .. | .soutReset .. | .percFuseCmd .. | .cfgConfirm .. | .keyLoad .. | .keyPhase .. | .fwActivate .. | .fwCancel ..
    | .zstPrecheck .. | .joinWaitExpiry .. | .eventRaise .. | .eventMerge .. | .lostRecordStage .. | .packageStore .. => some [0x409]
  | .instructionRetire .. | .storeCommit .. | .loaderFrame .. | .porAssert .. | .resetAssert .. | .bootStepDone .. | .softReset ..
    | .registerWrite .. => none
  | .channelLostTimeout .. => some [0x402, 0x403, 0x409, 0x40B, 0x446]
  | .channelSelftestDone .. | .channelReset .. | .percSliceDone .. => some (blConf ++ [0x402, 0x40B, 0x446])
  | .voteRelease .. | .votingSetAck .. => some [0x403, 0x405, 0x406, 0x408, 0x409, 0x500]
  | .votingSetAckTimeout .. | .resyncFinalStart .. | .loadBegin .. | .loadEnd .. | .copy .. | .verify .. | .latSwapArm .. | .intRaise ..
    | .intAsmWrite .. => some blConf
  | .resyncBulkStart .. | .resyncBulkDone .. => some [0x403]
  | .captureTimeout .. => some [0x407]
  | .flitReceive .. | .triggerConditionClear .. => some [0x500]
  | .wrStoffHiWrite .. | .wrTimeLoRead .. | .soutUnlockWrite .. => some (blConf ++ [0x40A])
  | .latticeCommit .. | .gateQuery .. | .gateVerdict .. | .standbyWrite .. => some [0x409, 0x500]
  | .applyTime .. | .soutSample .. | .envReadDone .. | .soutPulseEnd .. => some [0x405, 0x409, 0x500]
  | .lockoutReset .. | .coldRestart .. => some [0x407, 0x409]
  | .serviceLinkLoss .. | .portFrameRx .. | .plcaBeaconRx .. | .busOff .. | .busOn .. => some [0x409, 0x44A, 0x460, 0x462, 0x463, 0x464, 0x466]
  | .sinSample .. | .sinFilterExpiry .. | .sinDiscTimeout .. | .toutPulseStart .. | .toutPulseEnd .. | .toutRecoveryEnd .. => some [0x404, 0x409]
  | .sinUnlockWrite .. => some (blConf ++ [0x404, 0x40A])
  | .soutPulseStart .. => some [0x405, 0x500]
  | .zstFrameRx .. => some [0x406, 0x409]
  | .zstRxHdrRead .. | .zstRxDatRead .. => some (blConf ++ [0x406, 0x40A])
  | .portTxRefused .. | .rs485IdleDiscard .. | .serviceLinkUp .. => some [0x44A, 0x460, 0x462, 0x463, 0x464, 0x466]
  | .plcaBeaconTimeout .. | .portLinkChange .. | .announceRx .. => some [0x406, 0x409, 0x44A, 0x460, 0x462, 0x463, 0x464, 0x466]
  | .gptpSyncRx .. | .timeSilence .. | .timeBeaconRx .. => some [0x406, 0x409, 0x445]
  | .engineFault .. => some [0x407, 0x409, 0x44A, 0x460, 0x462, 0x463, 0x464, 0x466]
  | .bridgeFrame .. | .readResponse .. | .writeAck .. => some [0x409, 0x420, 0x421]
  | .brTblW3Write .. => some (blConf ++ [0x40A, 0x420])
  | .tableCommit .. | .regionCommit .. => some (blConf ++ [0x420, 0x421])
  | .windowWrite .. | .windowRead .. => some (blConf ++ [0x40A, 0x420, 0x421])
  | .responseTimeout .. | .drTimeout .. => some [0x409, 0x420]
  | .inboundMessage .. => some [0x420]
  | .cvuFeedWrite .. | .cvuFeedBWrite .. | .cvuValWrite .. => some (blConf ++ [0x421])
  | .cvuPresetWrite .. => some (blConf ++ [0x40A, 0x421])
  | .fabricRequest _ a _ => some [0x409, 0x40A, a / 0x100000]
  | .arbitrationDecision .. | .arbHung .. => some [0x407, 0x409, 0x40A]
  | .recordEntry .. | .logRecoveryDone .. => some [0x409, 0x445]
  | .flushHalf .. | .spillwayIntakeClose .. | .windowFetchDone .. => some [0x445]
  | .flushStart .. => some [0x407, 0x445]
  | .emmcWriteDone .. | .emmcWriteFail .. | .spillwayStart .. => some [0x407, 0x409, 0x445]
  | .freeze .. | .unfreeze .. | .flush .. | .format .. | .evrCursorWrite .. | .evrWin15Read .. => some (blConf ++ [0x445])
  | .evrClrHiWrite .. => some (blConf ++ [0x40A, 0x445])
  | .percSliceStart .. | .schedSliceTimer .. => some [0x40B, 0x446]
  | .percFuseGo .. => some (blConf ++ [0x40A, 0x40B, 0x446])
  | .fuseDone .. => some [0x409, 0x40B, 0x446]
  | .pwrReqWrite .. => some (blConf ++ [0x40A, 0x447])
  | .consentAskStart .. | .noticeTimeout .. => some [0x447]
  | .consentAnswer .. => some [0x401, 0x404, 0x409, 0x447, 0x500]
  | .consentTimeout .. | .idleWake .. | .wakeNLow .. | .i2cAddressMatch .. | .aonAlarm .. => some [0x409, 0x447]
  | .wakeRestart .. => some [0x401, 0x404, 0x409, 0x447]
  | .fwImageStore .. => some [0x409, 0x444]
  | .svnAdvance .. | .trialBootTimeout .. => some [0x444]
  | .idbScan .. => some [0x407, 0x409, 0x449]
  | .idbScanTimer .. => some [0x449]
  | .activationStrobe .. => some [0x407, 0x409, 0x444]
  | .clkLockLoss .. | .refMissing .. | .dividerWindow .. | .frcRangeWindow .. | .resetStepTimeout .. => some [0x401, 0x405, 0x409, 0x500]
  | .clkCtlWrite .. => some (blConf ++ [0x401, 0x40A])
  | .porRelease .. | .resetRelease .. => some (blSafe ++ [0x401, 0x404, 0x44A, 0x460, 0x462, 0x463, 0x464, 0x466])
  | .blkLockWrite _ pg _ | .irqPendClear _ pg _ | .blkErrinjWrite _ pg _ => some (blConf ++ [0x40A, pg / 0x100000])
  | .lockExpiry pg => some [0x409, pg / 0x100000]
  | .crcScan pg _ => some (blConf ++ [pg / 0x100000])
  | .softResetDone pg => some [pg / 0x100000]
  | .plicClaim .. | .plicComplete .. => some [0x409, 0x40A]
  | .reintLossAgeOut .. => some [0x402]
  | .pdelayRespRx .. => some [0x406]
  | .fabricResponse .. => some [0x40A]
  | .bridgeEgressTx .. | .rangeWriteAbsorb .. => some [0x421]
  | .registerReadError _ a _ => some (blConf ++ [0x40A, 0x420, 0x421, 0x445, a / 0x100000])

end Sys2Proof.Machine
end

