-- ==== Sys2Proof/WellFormed.lean ====
section
/-!
DEFINITION. Well-formed commands: operands within the ranges that the spec gives the numbers of channels, twins, inputs, outputs,
ports, requesters, and the widths of the registers that they stand for. A meaning is total: on other operands it changes nothing or
answers as the spec answers an access outside its ranges.
-/
namespace Sys2Proof

/-- Flips within the widths of what they flip: a 72-bit entry of the delay FIFO or of the replay log, 32-bit words (03 R69, R75). -/
def Retired.wf (r : Retired) : Bool :=
  decide (r.entry < 2 ^ 72 ∧ r.pc < 2 ^ 32 ∧ r.wb < 2 ^ 32 ∧ r.addr < 2 ^ 32 ∧ r.data < 2 ^ 32) && r.corrected.all (fun a => decide (a < 2 ^ 32))

/-- A half of a store buffer holds 256 entries (03 Table 3.4). -/
def BadEntry.wf (b : BadEntry) : Bool := decide (b.k < 256)

/-- The widths of TAG, PAYLOAD and CRC (05 Table 5.2). -/
def FlitRest.wf (x : FlitRest) : Bool := decide (x.tag < 2 ^ 16 ∧ x.payload < 2 ^ 256 ∧ x.crc < 2 ^ 32)

/-- Elements E0 to E5 (18 Table 18.2), words of 72 bits. -/
def SliceEnd.wf : SliceEnd → Bool
  | .fail _ elem _ exp obs => decide (elem < 6 ∧ exp < 2 ^ 72 ∧ obs < 2 ^ 72)
  | _ => true

/-- Whether the operands of a command lie within their ranges. -/
def Instr.wf : Instr → Bool
  | .snapshot pu pd _ => decide (pu < 2 ^ 8 ∧ pd < 2 ^ 8)
  | .checkerRotateTimer _ => true
  | .strapReadTimer pu pd => decide (pu < 2 ^ 8 ∧ pd < 2 ^ 8)
  | .permissionReturn => true
  | .snapshotHandover c => decide (c < 3)
  | .taskDispatch c _ => decide (c < 3)
  | .taskDelivery c _ => decide (c < 3)
  | .appTrap c t _ _ _ => decide (c < 3 ∧ t < 8)
  | .instructionRetire c twin _ r => decide (c < 3 ∧ twin < 2) && r.wf
  | .windowCycleLimit c twin => decide (c < 3 ∧ twin < 2)
  | .windowCompare c twin _ => decide (c < 3 ∧ twin < 2)
  | .storeCommit c twin bad => decide (c < 3 ∧ twin < 2) && bad.all BadEntry.wf
  | .sramDed c twin a _ _ => decide (c < 3 ∧ twin < 2 ∧ a < 2 ^ 32)
  | .eccWriteback c a => decide (c < 3 ∧ a < 2 ^ 32)
  | .channelInterrupt c twin => decide (c < 3 ∧ twin < 2)
  | .rollbackDone c twin _ _ => decide (c < 3 ∧ twin < 2)
  | .rbTimeout c twin => decide (c < 3 ∧ twin < 2)
  | .channelLostTimeout c => decide (c < 3)
  | .channelSelftestDone c _ _ _ => decide (c < 3)
  | .cfPortImg c n v => decide (c < 3 ∧ n < 128 ∧ v < 2 ^ 32)
  | .cfPortMsg c v => decide (c < 3 ∧ v < 2 ^ 32)
  | .cfPortDeliver c v _ => decide (c < 3 ∧ v < 2 ^ 32)
  | .voteExpiry => true
  | .voteRelease => true
  | .votingSetAck => true
  | .votingSetAckTimeout => true
  | .resyncBulkStart => true
  | .resyncBulkDone => true
  | .resyncFinalStart => true
  | .channelImage c img crc => decide (c < 3 ∧ img < 2 ^ 4096 ∧ crc < 2 ^ 64)
  | .votedImage => true
  | .checkOpenTimeout => true
  | .votingSetFlit => true
  | .safeRequestFlit => true
  | .captureTimeout => true
  | .dualRailFault => true
  | .deadlineCheck => true
  | .deadlineWarn => true
  | .rateGateEnd _ _ => true
  | .wdnMissingEdge => true
  | .timeParity => true
  | .pfailTrigger _ uvov => decide (uvov < 256)
  | .pfailRelease => true
  | .weirPor pu pd => decide (pu < 2 ^ 8 ∧ pd < 2 ^ 8)
  | .weirSelftestDone _ => true
  | .flitReceive _ lane seq kind x => decide (lane < 4 ∧ seq < 2 ^ 8 ∧ kind < 32) && x.wf
  | .flitNak _ lane seq => decide (lane < 4 ∧ seq < 2 ^ 8)
  | .flitAck _ lane seq => decide (lane < 4 ∧ seq < 2 ^ 8)
  | .flitSend _ => true
  | .linkSilence _ => true
  | .wrStoffHiWrite req v => decide (req < 10 ∧ v < 2 ^ 32)
  | .wrTimeLoRead req => decide (req < 10)
  | .latticeLatch ecc w => decide (ecc < 3 ∧ w < 2 ^ 17)
  | .latticeCommit => true
  | .sweepEval ecc w => decide (ecc < 3 ∧ w < 2 ^ 17)
  | .sweepPassTimeout => true
  | .gateQuery => true
  | .gateVerdict => true
  | .verdictReceive => true
  | .loadBegin => true
  | .loadEnd => true
  | .copy => true
  | .copyCaptureStart => true
  | .copyDone ecc w => decide (ecc < 3 ∧ w < 2 ^ 17)
  | .verify => true
  | .verifyDone ecc w => decide (ecc < 3 ∧ w < 2 ^ 18)
  | .standbyWrite req a b => decide (req < 10 ∧ 0x50400000 ≤ a ∧ a < 0x50800000) && (b.length == 4 || b.length == 32)
  | .latSwapArm _ => true
  | .applyTime n => decide (n < 32)
  | .retainFrame => true
  | .retainWriteTimer => true
  | .olcBegin _ tag cv => decide (tag < 2 ^ 32 ∧ cv < 2 ^ 64)
  | .olcLoad _ tag cv target off data => decide (tag < 2 ^ 32 ∧ cv < 2 ^ 64 ∧ target < 3 ∧ off < 2 ^ 32) && decide (data.length ≤ 40)
  | .olcPrepare _ tag cv newCv latCv weirCv off n => decide (tag < 2 ^ 32 ∧ cv < 2 ^ 64 ∧ newCv < 2 ^ 64 ∧ latCv < 2 ^ 64 ∧ weirCv < 2 ^ 64 ∧ off < 2 ^ 32 ∧ n < 2 ^ 32)
  | .olcSwap _ tag cv newCv n => decide (tag < 2 ^ 32 ∧ cv < 2 ^ 64 ∧ newCv < 2 ^ 64 ∧ n < 2 ^ 32)
  | .olcAbort _ tag cv => decide (tag < 2 ^ 32 ∧ cv < 2 ^ 64)
  | .forceSet _ tag cv vkey ikey sig off width bit value => decide (tag < 2 ^ 32 ∧ cv < 2 ^ 64 ∧ vkey < 2 ^ 32 ∧ ikey < 2 ^ 32 ∧ sig < 2 ^ 32 ∧ off < 2 ^ 16 ∧ width < 256 ∧ bit < 256 ∧ value < 2 ^ 64)
  | .forceClear _ tag cv vkey => decide (tag < 2 ^ 32 ∧ cv < 2 ^ 64 ∧ vkey < 2 ^ 32)
  | .forceClearAll _ tag cv => decide (tag < 2 ^ 32 ∧ cv < 2 ^ 64)
  | .errInject _ tag cv pg v => decide (tag < 2 ^ 32 ∧ cv < 2 ^ 64 ∧ pg < 2 ^ 31 ∧ v < 2 ^ 32)
  | .sinReset _ tag cv mask => decide (tag < 2 ^ 32 ∧ cv < 2 ^ 64 ∧ mask < 2 ^ 64)
  | .soutReset _ tag cv mask => decide (tag < 2 ^ 32 ∧ cv < 2 ^ 64 ∧ mask < 2 ^ 16)
  | .percFuseCmd _ tag cv c m sp => decide (tag < 2 ^ 32 ∧ cv < 2 ^ 64 ∧ c < 3 ∧ m < 32 ∧ sp < 6)
  | .cfgConfirm _ tag cv => decide (tag < 2 ^ 32 ∧ cv < 2 ^ 64)
  | .keyLoad _ tag cv slot phase key _ => decide (tag < 2 ^ 32 ∧ cv < 2 ^ 64 ∧ slot < 512 ∧ phase < 2) && key.length == 16
  | .keyPhase _ tag cv slot phase clear => decide (tag < 2 ^ 32 ∧ cv < 2 ^ 64 ∧ slot < 512 ∧ phase < 2 ∧ clear < 2)
  | .fwActivate _ tag cv slot at' digest => decide (tag < 2 ^ 32 ∧ cv < 2 ^ 64 ∧ slot < 2 ∧ at' < 2 ^ 64 ∧ digest < 2 ^ 64)
  | .fwCancel _ tag cv => decide (tag < 2 ^ 32 ∧ cv < 2 ^ 64)
  | .lockoutReset _ tag cv => decide (tag < 2 ^ 32 ∧ cv < 2 ^ 64)
  | .channelReset _ tag cv c => decide (tag < 2 ^ 32 ∧ cv < 2 ^ 64 ∧ c < 3)
  | .coldRestart _ tag cv => decide (tag < 2 ^ 32 ∧ cv < 2 ^ 64)
  | .loaderFrame => true
  | .serviceConnected => true
  | .serviceLinkLoss => true
  | .sinSample => true
  | .sinEdge n _ _ => decide (n < 64)
  | .sinFilterExpiry n => decide (n < 64)
  | .sinDiscTimeout k => decide (k < 32)
  | .sinUnlockWrite req mask tag => decide (req < 10 ∧ mask < 2 ^ 64 ∧ tag < 2 ^ 32)
  | .toutDue j => decide (j < 8)
  | .toutPulseStart j => decide (j < 8)
  | .toutPulseEnd j => decide (j < 8)
  | .toutRecoveryEnd j => decide (j < 8)
  | .soutSample fb => decide (fb < 2 ^ 32)
  | .envRead => true
  | .envReadDone => true
  | .soutTestDue n _ => decide (n < 32)
  | .soutPulseStart n _ => decide (n < 32)
  | .soutPulseEnd n => decide (n < 32)
  | .soutRecoveryEnd n => decide (n < 32)
  | .soutUnlockWrite req mask tag => decide (req < 10 ∧ mask < 2 ^ 16 ∧ tag < 2 ^ 32)
  | .zstFrameTx p => decide (p < 12)
  | .zstFrameRx port _ => decide (port < 12)
  | .zstRxHdrRead req => decide (req < 10)
  | .zstRxDatRead req => decide (req < 10)
  | .zstPrecheck c => decide (c < 3)
  | .idReqTimer c n => decide (c < 3 ∧ n < 512)
  | .joinWaitExpiry c => decide (c < 3)
  | .epochRecordWrite => true
  | .portFrameRx p _ => decide (p < 15)
  | .portTxRefused p _ => decide (p < 15)
  | .plcaBeaconTimeout p => decide (p < 4)
  | .plcaBeaconRx p => decide (p < 4)
  | .gptpSyncRx p _ _ _ => decide (p < 8)
  | .pdelayReqRx p _ _ => decide (p < 8)
  | .timeSilence => true
  | .timeBeaconRx p _ _ => decide (p < 12)
  | .busOff p tec => decide (p < 12 ∧ tec < 512)
  | .busOn p => decide (p < 12)
  | .engineFault e cause => decide (e < 6 ∧ cause < 3)
  | .rs485IdleDiscard i => decide (i < 2)
  | .bridgeFrame q _ => decide (q < 14)
  | .brTblW3Write req v => decide (req < 10 ∧ v < 2 ^ 32)
  | .tableCommit n => decide (n < 2 ^ 13)
  | .regionCommit => true
  | .windowWrite req w off b => decide (req < 10 ∧ w < 2 ∧ 0x40 ≤ off ∧ off < 0x1000) && decide (b.length ≤ 32)
  | .windowRead req w off _ => decide (req < 10 ∧ w < 2 ∧ 0x40 ≤ off ∧ off < 0x1000)
  | .readResponse q _ => decide (q < 14)
  | .writeAck q _ => decide (q < 14)
  | .responseTimeout tag => decide (tag < 96)
  | .drTimeout n => decide (n < 64)
  | .inboundMessage => true
  | .cvuFeedWrite i v => decide (i < 8 ∧ v < 2 ^ 32)
  | .cvuFeedBWrite i v => decide (i < 8 ∧ v < 256)
  | .cvuValWrite i _ v => decide (i < 8 ∧ v < 2 ^ 32)
  | .cvuPresetWrite req i v => decide (req < 10 ∧ i < 8 ∧ v < 2 ^ 32)
  | .fabricRequest req a _ => decide (req < 10 ∧ a < 2 ^ 34)
  | .arbitrationDecision t slot => decide (t < 7 ∧ slot < 16)
  | .arbHung t => decide (t < 7)
  | .eventRaise src code _ => decide (src < 256 ∧ code < 2 ^ 16)
  | .intRaise req => decide (req < 7)
  | .intAsmWrite req k v => decide (req < 7 ∧ k < 11 ∧ v < 2 ^ 32)
  | .eventMerge => true
  | .lostRecordStage src => decide (src < 256)
  | .recordEntry => true
  | .flushHalf => true
  | .flushTimer => true
  | .flushStart => true
  | .emmcWriteDone => true
  | .emmcWriteFail _ => true
  | .logRecoveryDone => true
  | .freeze => true
  | .unfreeze => true
  | .flush => true
  | .format => true
  | .spillwayStart => true
  | .spillwayIntakeClose => true
  | .evrCursorWrite i => decide (i < 2 ^ 32)
  | .windowFetchDone => true
  | .evrWin15Read => true
  | .evrClrHiWrite req hi => decide (req < 10 ∧ hi < 2 ^ 32)
  | .percSliceStart c => decide (c < 3)
  | .percSliceDone e g r => decide (e < 4 ∧ g < 3) && r.wf
  | .schedSliceTimer => true
  | .percFuseGo req e v => decide (req < 10 ∧ e < 4 ∧ v < 2 ^ 32)
  | .fuseDone e => decide (e < 4)
  | .pwrReqWrite req v => decide (req < 10 ∧ v < 2 ^ 32)
  | .consentAskStart => true
  | .noticeTimeout => true
  | .consentAnswer _ => true
  | .consentTimeout => true
  | .idleWake => true
  | .wakeNLow => true
  | .i2cAddressMatch addr => decide (addr < 128)
  | .aonAlarm => true
  | .wakeRestart _ => true
  | .packageStore _ _ => true
  | .fwImageStore _ slot _ _ digest => decide (slot < 2 ∧ digest < 2 ^ 64)
  | .svnAdvance _ _ => true
  | .idbScan i _ => decide (i < 2)
  | .idbScanTimer i => decide (i < 2)
  | .confirmRecordWrite => true
  | .activationStrobe => true
  | .trialBootTimeout => true
  | .clkLockLoss => true
  | .refMissing => true
  | .dividerWindow _ branch _ => decide (branch < 4)
  | .frcRangeWindow _ => true
  | .resetStepTimeout step => decide (step < 12)
  | .clkCtlWrite req v => decide (req < 10 ∧ v < 2 ^ 32)
  | .porAssert _ => true
  | .porRelease => true
  | .resetFlit _ => true
  | .resetAssert => true
  | .resetRelease => true
  | .bootStepDone step _ _ _ _ => decide (step < 12)
  | .blkLockWrite req pg _ => decide (req < 10 ∧ pg < 2 ^ 31)
  | .lockExpiry pg => decide (pg < 2 ^ 31)
  | .crcScan pg _ => decide (pg < 2 ^ 31)
  | .softReset req pg => decide (req < 10 ∧ pg < 2 ^ 31)
  | .softResetDone pg => decide (pg < 2 ^ 31)
  | .irqPendClear req pg v => decide (req < 10 ∧ pg < 2 ^ 31 ∧ v < 2 ^ 32)
  | .blkErrinjWrite req pg v => decide (req < 10 ∧ pg < 2 ^ 31 ∧ v < 2 ^ 32)
  | .registerWrite req a size v => decide (req < 10 ∧ a < 2 ^ 34 ∧ size < 9 ∧ v < 2 ^ 64)
  | .selfGateIdle pg => decide (pg < 2 ^ 31)
  | .selfUngate pg => decide (pg < 2 ^ 31)
  | .plicClaim req x => decide (req < 10 ∧ x.ctx < 4)
  | .plicComplete req ctx id => decide (req < 10 ∧ ctx < 4 ∧ id < 2 ^ 32)
  | .reintLossAgeOut c => decide (c < 3)
  | .serviceLinkUp => true
  | .portLinkChange p _ _ => decide (p < 8)
  | .triggerConditionClear => true
  | .pdelayInterval p _ => decide (p < 8)
  | .pdelayRespRx p _ => decide (p < 8)
  | .announceRx p _ => decide (p < 8)
  | .cbResetTimer _ => true
  | .fabricResponse t => decide (t < 7)
  | .bridgeEgressTx q => decide (q < 14)
  | .rangeWriteAbsorb a b => decide (a < 2 ^ 34) && decide (b.length ≤ 64)
  | .registerReadError req a size => decide (req < 10 ∧ a < 2 ^ 34 ∧ size < 9)

end Sys2Proof
end

