-- ==== Sys2Proof/Certificates/Slice0/Obligations.lean ====
section
/-!
DEFINITION. Statements for the provers: what the commands do, by the numbered rules of spec/.
-/
open Sys2Proof Sys2Proof.Machine

/-- A step runs the command at the front of the queue on the state with the queue's rest. -/
def Obligations.StepRunsFront : Prop :=
  ∀ (c : Instr) (rest : List Instr) (s : State), s.pending = c :: rest → step s = exec c { s with pending := rest }

/-- Every command answers a next state and keeps the queue; so a step never stops, and it consumes the front command. -/
def Obligations.EveryCommandCompletes : Prop :=
  (∀ (c : Instr) (s : State), ∃ u, exec c s = .next { s with chip := u }) ∧
  ∀ s : State, ∃ u, step s = .next { chip := u, pending := s.pending.tail }

/-- An empty queue lets one WDN tick pass (DESIGN CHOICE, log 2), with the phase accumulator of 05 R154. -/
def Obligations.IdleTick : Prop :=
  ∀ s : State, s.pending = [] → ∃ u, step s = .next { s with chip := u } ∧ u.now = s.chip.now + 1 ∧
    (if s.chip.weir.off then u.weir = s.chip.weir
     else
      let a := s.chip.weir.acc + signed 24 (s.chip.get Reg.WR_RATE.RATE)
      u.weir = { s.chip.weir with time := u.weir.time, acc := a % 1000000000 } ∧
      u.weir.time = ((s.chip.weir.time : Int) + 1 + a / 1000000000).toNat ∧
      (0 ≤ s.chip.weir.acc → s.chip.weir.acc < 1000000000 →
        u.weir.time = s.chip.weir.time + (if 1000000000 ≤ a then 2 else if a < 0 then 0 else 1))) ∧
    (∀ p : Part, p ≠ .weir → p.same s.chip u) ∧ ∀ f : Fld, u.get f = s.chip.get f

/-- BLK_LOCK opens by 0x5A17 then 0xC3E8 from one requester, and by nothing else (R44). -/
def Obligations.LockKeys : Prop :=
  ∀ (req pg key : Nat) (s : State), req < 10 → key < 2 ^ 32 → s.chip.attends pg = true → s.chip.planeBars req (pageOf pg + 0x20) = false →
    s.chip.pageReach req (pageOf pg + 0x20) = true → s.chip.on (Reg.BLK_LOCK.OPEN (pageOf pg)) = false →
    Completes (.blkLockWrite req pg key) s (fun t => t.resp = .ok ∧
      (if s.chip.on (Reg.BLK_LOCK.ARMED (pageOf pg)) then
        t.get (Reg.BLK_LOCK.ARMED (pageOf pg)) = 0 ∧
        (t.get (Reg.BLK_LOCK.OPEN (pageOf pg)) = 1 ↔ key = 0xC3E8 ∧ s.chip.get (Reg.BLK_LOCK.OWNER (pageOf pg)) = req) ∧
        (t.get (Reg.BLK_LOCK.OPEN (pageOf pg)) = 1 → t.get (Reg.BLK_LOCK.OWNER (pageOf pg)) = req)
      else
        t.get (Reg.BLK_LOCK.OPEN (pageOf pg)) = 0 ∧ (t.get (Reg.BLK_LOCK.ARMED (pageOf pg)) = 1 ↔ key = 0x5A17) ∧
        (t.get (Reg.BLK_LOCK.ARMED (pageOf pg)) = 1 → t.get (Reg.BLK_LOCK.OWNER (pageOf pg)) = req)))

/-- Closing of BLK_LOCK by a write and by expiry (R45, R47). -/
def Obligations.LockCloses : Prop :=
  (∀ (req pg key : Nat) (s : State), s.chip.attends pg = true → s.chip.planeBars req (pageOf pg + 0x20) = false →
    s.chip.pageReach req (pageOf pg + 0x20) = true → s.chip.on (Reg.BLK_LOCK.OPEN (pageOf pg)) = true → s.chip.staged (srcOf (pageOf pg)) = false →
    Completes (.blkLockWrite req pg key) s (fun t =>
      t.get (Reg.BLK_LOCK.OPEN (pageOf pg)) = 0 ∧ t.get (Reg.BLK_LOCK.ARMED (pageOf pg)) = 0 ∧
      t.get (Reg.BLK_CRC.CRC (pageOf pg)) = s.chip.pageCrc (pageOf pg) % 2 ^ 32 ∧
      t.reports (srcOf (pageOf pg)) 0xF0 [pageOf pg, s.chip.get (Reg.BLK_CRC.CRC (pageOf pg)), s.chip.pageCrc (pageOf pg),
        s.chip.get (Reg.BLK_LOCK.OWNER (pageOf pg))] = true)) ∧
  (∀ (pg d : Nat) (s : State), s.chip.lockDue (pageOf pg) = some d →
    Completes (.lockExpiry pg) s (fun t => t.now = max s.chip.now d ∧ t.get (Reg.BLK_LOCK.OPEN (pageOf pg)) = 0 ∧
      t.get (Reg.BLK_LOCK.ARMED (pageOf pg)) = 0 ∧ t.lockDue (pageOf pg) = none ∧
      (s.chip.on (Reg.BLK_LOCK.OPEN (pageOf pg)) = true → t.get (Reg.BLK_CRC.CRC (pageOf pg)) = s.chip.pageCrc (pageOf pg) % 2 ^ 32))) ∧
  (∀ (req pg : Nat) (s : State), req < 10 → s.chip.attends pg = true → s.chip.planeBars req (pageOf pg + 0x20) = false →
    s.chip.pageReach req (pageOf pg + 0x20) = true → s.chip.on (Reg.BLK_LOCK.OPEN (pageOf pg)) = false → s.chip.on (Reg.BLK_LOCK.ARMED (pageOf pg)) = false →
    Completes (.blkLockWrite req pg 0x5A17) s (fun t => t.lockDue (pageOf pg) = some (s.chip.now + 100000) ∧
      ∀ (k : Nat), k < 100000 → Completes (.blkLockWrite req pg 0xC3E8) { s with chip := { t with now := s.chip.now + k } }
        (fun v => v.lockDue (pageOf pg) = some (s.chip.now + k + 100000))))

/-- REGISTER_WRITE: the plane rule, size and alignment, RW, RWL with the lock closed and open, and no page at all. -/
def Obligations.RegisterWrites : Prop :=
  (∀ (req a v : Nat) (p : PageInfo) (s : State), pageInfo a = some p → s.chip.writeBarred req a = true → a % 4 = 0 → windowOf a = none →
    s.chip.staged (pageSource p) = false →
    Completes (.registerWrite req a 4 v) s (fun t => t.resp = .error ∧ t.get (Reg.BLK_ERR.PLANE (pageOf a)) = 1 ∧
      t.reports (pageSource p) 0xF2 [pageOf a, req, a] = true)) ∧
  (∀ (req a size v : Nat) (s : State), (pageInfo a).isSome = true → windowOf a = none → s.chip.writeBarred req a = false →
    s.chip.pageReach req a = true → wordAccess a size = false →
    Completes (.registerWrite req a size v) s (fun t => t.resp = .error ∧ t.get (Reg.BLK_ERR.ACCESS (pageOf a)) = 1)) ∧
  (∀ (req pg v : Nat) (s : State), pg % 0x1000 = 0 → v < 2 ^ 32 → s.chip.attends pg = true →
    s.chip.writeBarred req (pg + 0x14) = false → s.chip.pageReach req (pg + 0x14) = true →
    Completes (.registerWrite req (pg + 0x14) 4 v) s (fun t => t.resp = .ok ∧ t.get (Reg.IRQ_MASK.MASK (page0 pg)) = v)) ∧
  (∀ (req pg v : Nat) (s : State), pg % 0x1000 = 0 → v < 2 → s.chip.attends pg = true →
    s.chip.writeBarred req (pg + 8) = false → s.chip.pageReach req (pg + 8) = true →
    Completes (.registerWrite req (pg + 8) 4 v) s (fun t =>
      if s.chip.lockOpen pg req then t.resp = .ok ∧ t.get (Reg.BLK_CTRL.ENABLE (page0 pg)) = v
      else t.resp = .error ∧ t.get (Reg.BLK_ERR.LOCK_VIOL pg) = 1 ∧
        t.get (Reg.BLK_CTRL.ENABLE (page0 pg)) = s.chip.get (Reg.BLK_CTRL.ENABLE (page0 pg)))) ∧
  (∀ (req a size v : Nat) (s : State), regionOf a = .none → s.chip.staged 27 = false →
    Completes (.registerWrite req a size v) s (fun t => t.resp = .error ∧ t.get Reg.ARB_ERR_ADDR.ADDR = a % 2 ^ 32 ∧
      t.reports 27 1 [req, 15, a] = true))

/-- REGISTER_READ_ERROR: BLK_ID, IRQ_PEND, size and alignment, soft reset, reserved registers. -/
def Obligations.RegisterReads : Prop :=
  (∀ (req pg : Nat) (p : PageInfo) (s : State), pg % 0x1000 = 0 → pageInfo pg = some p → s.chip.attends pg = true →
    s.chip.pageReach req pg = true →
    Completes (.registerReadError req pg 4) s (fun t => t.resp = .data (p.ty * 2 ^ 16 + p.inst * 2 ^ 8 + 1))) ∧
  (∀ (req pg : Nat) (s : State), pg % 0x1000 = 0 → s.chip.attends pg = true → s.chip.pageReach req (pg + 0x18) = true →
    Completes (.registerReadError req (pg + 0x18) 4) s (fun t =>
      t.resp = .data (s.chip.irqRaw (page0 pg) &&& s.chip.get (Reg.IRQ_MASK.MASK (page0 pg))))) ∧
  (∀ (req a size : Nat) (s : State), (pageInfo a).isSome = true → windowOf a = none → s.chip.pageReach req a = true → wordAccess a size = false →
    Completes (.registerReadError req a size) s (fun t => t.resp = .error ∧ t.get (Reg.BLK_ERR.ACCESS (pageOf a)) = 1)) ∧
  (∀ (req a : Nat) (s : State), (pageInfo a).isSome = true → windowOf a = none → s.chip.pageReach req a = true → a % 4 = 0 → s.chip.inReset a = true →
    Completes (.registerReadError req a 4) s (fun t => t = s.chip.answer (.data (s.chip.resetValue a)))) ∧
  (∀ (req pg k : Nat) (s : State), pg % 0x1000 = 0 → k < 4 → s.chip.attends pg = true → s.chip.pageReach req (pg + 0x30 + 4 * k) = true →
    Completes (.registerReadError req (pg + 0x30 + 4 * k) 4) s (fun t => t.resp = .data 0))

/-- IRQ_RAW, IRQ_PEND, IRQ_MASK and the interrupt line (R42). -/
def Obligations.InterruptBits : Prop :=
  (∀ (pg b k : Nat) (u : Chip), b < 31 → k < 31 → ((u.irq pg b).get (Reg.IRQ.RAW pg)).testBit k = ((u.get (Reg.IRQ.RAW pg)).testBit k || b == k)) ∧
  (∀ (pg : Nat) (u : Chip), u.irqPend pg = u.irqRaw pg &&& u.get (Reg.IRQ_MASK.MASK pg)) ∧
  (∀ (req pg v k : Nat) (s : State), k < 31 → s.chip.attends pg = true → s.chip.planeBars req (pageOf pg + 0x18) = false → s.chip.pageReach req (pageOf pg + 0x18) = true →
    Completes (.irqPendClear req pg v) s (fun t => t.resp = .ok ∧
      (t.get (Reg.IRQ.RAW (page0 pg))).testBit k = ((s.chip.get (Reg.IRQ.RAW (page0 pg))).testBit k && !v.testBit k))) ∧
  (∀ pg, State.reset.chip.get (Reg.IRQ_MASK.MASK pg) = 0) ∧
  (∀ (e : Nat × Nat) (u : Chip), e ∈ orLines → (u.mgmtLine e.1 = true ↔ u.irqPend e.2 ≠ 0))

/-- PLIC_CLAIM and PLIC_COMPLETE (R54, R55). -/
def Obligations.InterruptController : Prop :=
  (∀ (req ctx i : Nat) (s : State), 3 ≤ req → req ≤ 6 → ctx < 4 → i ∈ s.chip.plicReady ctx →
    (∀ j ∈ s.chip.plicReady ctx, assoc s.chip.plic.prio j 0 < assoc s.chip.plic.prio i 0 ∨
      (assoc s.chip.plic.prio j 0 = assoc s.chip.plic.prio i 0 ∧ i ≤ j)) →
    Completes (.plicClaim req ⟨ctx, []⟩) s (fun t => t.resp = .data i ∧ t.plic.pend.testBit i = false ∧ t.plic.busy.testBit i = true)) ∧
  (∀ (req ctx : Nat) (s : State), 3 ≤ req → req ≤ 6 → ctx < 4 → s.chip.plicReady ctx = [] →
    Completes (.plicClaim req ⟨ctx, []⟩) s (fun t => t.resp = .data 0 ∧ t.plic.pend = s.chip.plic.pend ∧ t.plic.busy = s.chip.plic.busy)) ∧
  (∀ (req c d : Nat) (s : State), 3 ≤ req → req ≤ 6 → c < d → d < 4 → s.chip.plicBest c ≠ none → s.chip.plicBest d = s.chip.plicBest c →
    Completes (.plicClaim req ⟨d, [c]⟩) s (fun t => t.resp = .data 0) ∧
    Completes (.plicClaim req ⟨c, [d]⟩) s (fun t => t.resp = .data ((s.chip.plicBest c).getD 0))) ∧
  (∀ (req ctx id : Nat) (s : State), 3 ≤ req → req ≤ 6 → ctx < 4 → s.chip.plic.busy.testBit id = true →
    (s.chip.plic.enable.getD ctx 0).testBit id = true →
    Completes (.plicComplete req ctx id) s (fun t => t.resp = .ok ∧ t.plic.busy.testBit id = false ∧
      t.plic.pend.testBit id = (s.chip.plic.pend.testBit id || s.chip.mgmtLine id)))

/-- SOFT_RESET, SOFT_RESET_DONE, CRC_SCAN, BLK_ERRINJ_WRITE, SELF_GATE_IDLE, SELF_UNGATE. -/
def Obligations.PageServices : Prop :=
  (∀ (req pg : Nat) (s : State), s.chip.attends pg = true → s.chip.planeBars req (pageOf pg + 8) = false →
    s.chip.pageReach req (pageOf pg + 8) = true → Completes (.softReset req pg) s (fun t => t.resp = .ok ∧ t.get (Reg.BLK_STAT.RST_BUSY (page0 pg)) = 1 ∧ t.inReset pg = true ∧
      t.pages.locks = s.chip.pages.locks)) ∧
  (∀ (req a v : Nat) (s : State), (pageInfo a).isSome = true → windowOf a = none → s.chip.writeBarred req a = false → s.chip.pageReach req a = true →
    a % 4 = 0 → s.chip.inReset a = true →
    Completes (.registerWrite req a 4 v) s (fun t => t.resp = .error ∧ t.regs = s.chip.regs ∧ pageOf a ∈ t.pages.late)) ∧
  (∀ (pg : Nat) (s : State), s.chip.inReset pg = true →
    Completes (.softResetDone pg) s (fun t => t.get (Reg.BLK_CTRL.SOFT_RESET (page0 pg)) = 0 ∧ t.get (Reg.BLK_STAT.RST_BUSY (page0 pg)) = 0 ∧
      t.inReset pg = false ∧ ∀ x ∈ s.chip.pages.late, page0 x = page0 pg → t.get (Reg.BLK_ERR.ACCESS (pageOf x)) = 1)) ∧
  (∀ (pg : Nat) (s : State), (pageInfo pg).isSome = true → s.chip.on (Reg.BLK_LOCK.OPEN (pageOf pg)) = false →
    Completes (.crcScan pg true) s (fun t => t = s.chip.put (Reg.BLK_STAT.CRC_OK (page0 pg)) 1)) ∧
  (∀ (pg : Nat) (p : PageInfo) (s : State), pageInfo pg = some p → p.ty / 256 = 0xC0 → s.chip.on (Reg.BLK_LOCK.OPEN (pageOf pg)) = false →
    s.chip.flt.firstAt = none →
    Completes (.crcScan pg false) s (fun t => t.get (Reg.BLK_ERR.CRC_DRIFT (pageOf pg)) = 1 ∧ t.get (Reg.BLK_STAT.CRC_OK (page0 pg)) = 0 ∧
      t.get Reg.FLT_FIRST.FCODE = 0x4001 + p.ty % 256 * 16)) ∧
  (∀ (req pg v : Nat) (s : State), s.chip.attends pg = true → s.chip.planeBars req (pageOf pg + 0x28) = false →
    s.chip.pageReach req (pageOf pg + 0x28) = true → Completes (.blkErrinjWrite req pg v) s (fun t =>
      if s.chip.maintenance then t.resp = .ok ∧ t.get (Reg.BLK_ERRINJ.ARM (page0 pg)) = bits v 8 8 ∧ t.get (Reg.BLK_ERRINJ.SEL (page0 pg)) = bits v 2 0
      else t.resp = .error ∧ t.get (Reg.BLK_ERR.PLANE (pageOf pg)) = 1)) ∧
  (∀ (pg : Nat) (p : PageInfo) (s : State), pageInfo pg = some p → s.chip.get (Reg.BLK_STAT.PWR p.base0) = 0 →
    s.chip.get (Reg.BLK_PWR.GATE p.base0) < 4 → Completes (.selfGateIdle pg) s (fun t => t.get (Reg.BLK_STAT.PWR p.base0) =
      (if s.chip.controlPage p = true ∨ s.chip.get (Reg.BLK_PWR.GATE p.base0) = 3 then 0 else s.chip.get (Reg.BLK_PWR.GATE p.base0)))) ∧
  (∀ (pg : Nat) (s : State), s.chip.get (Reg.BLK_STAT.PWR (page0 pg)) < 3 →
    Completes (.selfUngate pg) s (fun t => t.get (Reg.BLK_STAT.PWR (page0 pg)) = 0))

/-- INSTRUCTION_RETIRE and WINDOW_CYCLE_LIMIT (R62 to R78). The instruction set itself is that of Rv.lean (PRESUMED: log 102). -/
def Obligations.TwinRetires : Prop :=
  (∀ (c tw : Nat) (r : Retired) (s : State), c < 3 → tw < 2 → s.chip.chState c = 3 → (s.chip.percOf c).running = [] → r.corrected = none →
    (let x := s.chip.twin c tw
     let i := s.chip.coreFetch c x.lead
     let o := rvExec x.lead.arch x.lead.priv i.1 i.2 (s.chip.coreLoad c x.lead i.2)
     let f := x.closes (s.chip.winLen c tw) i.1 i.2 false
     x.stands = false → x.logged = none → sampleOf x.lead.arch i.2 = none → f.1 = false ∨ x.closed = [] →
     Completes (.instructionRetire c tw false r) s (fun t => t.twin c (1 - tw) = s.chip.twin c (1 - tw) ∧ (t.twin c tw).trail = x.trail ∧
       (t.twin c tw).lead.arch.take 59 = o.arch.take 59 ∧ (t.twin c tw).lead.priv = o.priv ∧ (t.twin c tw).lead.drain = x.lead.drain ∧
       (if o.retires then
          (t.twin c tw).lead.count = x.lead.count + 1 ∧ (t.twin c tw).lead.instret = instretAfter x.lead.instret i.2 ∧
          (t.twin c tw).lead.fill = x.lead.fill ++ (o.store.map (SbEntry.make x.lead.win)).toList ∧
          (let misr := misrRetire x.lead.misr (rvPc x.lead.arch) o.wb o.store r
           if f.1 then
             (t.twin c tw).closed = [⟨x.lead.win, x.lead.count - x.lead.inWin, x.lead.count + 1, misr, none, []⟩] ∧
             (t.twin c tw).lead.misr = 0xFFFFFFFFFFFFFFFF ∧ (t.twin c tw).lead.win = x.lead.win + 1 ∧ (t.twin c tw).lead.inWin = 0
           else (t.twin c tw).closed = x.closed ∧ (t.twin c tw).lead.misr = misr ∧ (t.twin c tw).lead.inWin = x.lead.inWin + 1)
        else t.twin c tw = { x with lead := { x.lead with arch := o.arch, priv := o.priv } })))) ∧
  (∀ (c tw : Nat) (r : Retired) (p : Sample) (s : State), c < 3 → tw < 2 → s.chip.chState c = 3 → (s.chip.percOf c).running = [] → r.corrected = none →
    (let x := s.chip.twin c tw
     let i := s.chip.coreFetch c x.lead
     let v := s.chip.takeSample c tw x.lead p
     let e := Sampled.make (if v.1.isSome then p.label.1 else p.label.1 + errKind) p.label.2 x.lead.count (v.1.getD 0)
     x.stands = false → x.logged = none → sampleOf x.lead.arch i.2 = some p →
     (x.closes (s.chip.winLen c tw) i.1 i.2 true).1 = false ∨ x.closed = [] → x.fifo.length < 16 → x.log.length < 128 →
     Completes (.instructionRetire c tw false r) s (fun t => (t.twin c tw).fifo = x.fifo ++ [e] ∧ (t.twin c tw).log = x.log ++ [e] ∧
       (t.twin c tw).lead.arch.take 59 = (rvExec x.lead.arch x.lead.priv i.1 i.2 v.1).arch.take 59 ∧ (t.twin c tw).trail = x.trail))) ∧
  (∀ (c tw : Nat) (r : Retired) (s : State), c < 3 → tw < 2 → s.chip.chState c = 3 → (s.chip.percOf c).running = [] → r.corrected = none → r.entry = 0 →
    (let x := s.chip.twin c tw
     let i := s.chip.coreFetch c x.trail
     x.rb = none → x.stopped = false → x.stallWin = none → x.trail.count < x.lead.count →
     (x.delayed = none → sampleOf x.trail.arch i.2 = none → Completes (.instructionRetire c tw true r) s (fun t =>
        (t.twin c tw).lead = x.lead ∧ (t.twin c tw).fifo = x.fifo ∧ t.twin c (1 - tw) = s.chip.twin c (1 - tw) ∧
        (t.twin c tw).trail.arch.take 59 = (rvExec x.trail.arch x.trail.priv i.1 i.2 (s.chip.coreLoad c x.trail i.2)).arch.take 59)) ∧
     (∀ e, x.delayed = some e → e.good = true → e.kind ≠ 1 → e.kind < errKind → (sampleOf x.trail.arch i.2).isSome = true →
        Completes (.instructionRetire c tw true r) s (fun t =>
          (t.twin c tw).lead = x.lead ∧ (t.twin c tw).fifo = x.fifo.drop 1 ∧ t.twin c (1 - tw) = s.chip.twin c (1 - tw) ∧
          (t.twin c tw).trail.arch.take 59 = (rvExec x.trail.arch x.trail.priv i.1 i.2 (some e.value)).arch.take 59)) ∧
     (∀ e, x.delayed = some e → e.good = true → e.kind = 1 → Completes (.instructionRetire c tw true r) s (fun t =>
        (t.twin c tw).lead = x.lead ∧ (t.twin c tw).fifo = x.fifo.drop 1 ∧
        (t.twin c tw).trail.arch = rvTrap x.trail.arch x.trail.priv 0x8000000B e.source)))) ∧
  (∀ (c tw : Nat) (r : Retired) (s : State), r.corrected = none → (s.chip.twin c tw).stands = true →
    Completes (.instructionRetire c tw false r) s (fun t => t = s.chip)) ∧
  (∀ (c tw : Nat) (trail : Bool) (r : Retired) (s : State), s.chip.chState c ≠ 3 ∨ (s.chip.percOf c).running ≠ [] →
    Completes (.instructionRetire c tw trail r) s (fun t => t = s.chip)) ∧
  (∀ (c tw : Nat) (s : State), c < 3 → tw < 2 → s.chip.chState c = 3 →
    Completes (.windowCycleLimit c tw) s (fun t => t.twin c tw = { s.chip.twin c tw with limit := true } ∧ t.regs = s.chip.regs))

/-- WINDOW_COMPARE and SRAM_DED (R67, R76, R79, R82, R89, R92, R93). -/
def Obligations.WindowCompares : Prop :=
  (∀ (c tw sig : Nat) (same : Bool) (w : ClosedWin) (rest : List ClosedWin) (s : State), c < 3 → tw < 2 → s.chip.chState c = 3 →
    (s.chip.twin c tw).rb = none → (s.chip.twin c tw).closed = w :: rest → w.trail = some sig →
    (let real := w.lead ^^^ sig
     let x := s.chip.twin c tw
     let count := if tw = 0 then Reg.CH_WINCNT_LT.COUNT c else Reg.CH_WINCNT_LK.COUNT c
     let mm := s.chip.get (Reg.CH_STATE.MM_CYC c)
     let passes := fun (t : Chip) => t.get count = (s.chip.get count + 1) % 2 ^ 32 ∧ t.get (Reg.CH_STATE.MM_CYC c) = mm ∧
       (x.asked = false → (t.twin c tw).closed.length = rest.length) ∧
       (∀ sh, x.lead.pending = some (w.no, sh) → (t.twin c tw).lead.committed = sh) ∧
       (t.twin c tw).lead.drain = x.lead.drain ++ x.lead.fill.filter (fun e => e.win == w.no)
     let backs := fun (t : Chip) => t.get (Reg.MM_DIFF.LANES c) = real % 2 ^ 64 ∧ t.get (Reg.MM_WIN.WIN c) = w.no % 2 ^ 32 ∧
       (if !same && mm == 2 then t.get (Reg.CH_LOSS.CAUSE c) = 1 ∧ (t.chState c = 4 ∨ t.chState c = 5)
        else t.chState c = 3 ∧ t.get (Reg.CH_STATE.MM_CYC c) = (if same then mm else (mm + 1) % 4) ∧ (t.twin c tw).rb = some s.chip.now ∧
          (t.twin c tw).lead.fill = [] ∧ (t.twin c tw).trail.fill = [] ∧ (t.twin c tw).log = x.log ∧ (t.twin c tw).lead.drain = x.lead.drain ∧
          (t.twin c tw).lead.committed = x.lead.committed)
     Completes (.windowCompare c tw same) s (fun t =>
       match injectLane w.no with
       | none => if real = 0 then passes t else backs t
       | some l => if real = 0 then passes t ∧ t.get (injOk c tw) = 1
         else if real = 2 ^ l then t.get (Reg.CH_LOSS.CAUSE c) = 3 ∧ t.get (injOk c tw) = 0 ∧ (t.chState c = 4 ∨ t.chState c = 5)
         else backs t))) ∧
  (∀ (c tw a : Nat) (fetch : Bool) (s : State), c < 3 → tw < 2 → s.chip.chState c = 3 → (s.chip.twin c tw).rb = none →
    s.chip.get (Reg.CH_STATE.MM_CYC c) < 2 →
    Completes (.sramDed c tw a fetch false) s (fun t => t.get (Reg.CH_ECC.DED c) = min (s.chip.get (Reg.CH_ECC.DED c) + 1) 255 ∧
      t.get (Reg.CH_ECC_ADDR.ADDR c) = a % 2 ^ 32 ∧ t.get (Reg.MM_INFO.DED c) = 1 ∧ (t.twin c tw).rb = some s.chip.now ∧
      t.get (Reg.CH_STATE.MM_CYC c) = s.chip.get (Reg.CH_STATE.MM_CYC c) + 1)) ∧
  (∀ (c tw : Nat) (same : Bool) (s : State), s.chip.chState c ≠ 3 ∨ (s.chip.twin c tw).closed = [] →
    Completes (.windowCompare c tw same) s (fun t => t = s.chip))

/-- STORE_COMMIT and ECC_WRITEBACK (R65, R66, R79, R80). -/
def Obligations.StoresCommit : Prop :=
  (∀ (c tw : Nat) (e : SbEntry) (s : State), c < 3 → tw < 2 → s.chip.chState c = 3 →
    s.chip.conf.rs.target = none → (s.chip.twin c tw).lead.drain = [e] → e.good = true → 0x10000000 ≤ e.addr → e.addr < 0x10800000 →
    Completes (.storeCommit c tw none) s (fun t => (t.twin c tw).lead.drain = [] ∧ (t.twin c tw).trail.drain = [] ∧
      (t.twin c tw).stallWin = none ∧ t.regs = s.chip.regs ∧
      ∀ b, memRead (t.chan c).sram b =
        (if e.addr / 4 * 4 ≤ b ∧ b < e.addr / 4 * 4 + 4 ∧ e.mask.testBit (b - e.addr / 4 * 4) = true
         then BitVec.ofNat 8 (e.data / 2 ^ (8 * (b - e.addr / 4 * 4))) else memRead (s.chip.chan c).sram b))) ∧
  (∀ (c a : Nat) (k : Core) (e : SbEntry) (u : Chip), 0x10000 ≤ a → e.addr / 4 = a / 4 → e.mask.testBit (a % 4) = true →
    u.coreByte c { k with fill := k.fill ++ [e] } a = BitVec.ofNat 8 (e.data / 2 ^ (8 * (a % 4))) ∧
    (storedByte k.fill a = none → u.coreByte c { k with drain := k.drain ++ [e] } a = BitVec.ofNat 8 (e.data / 2 ^ (8 * (a % 4))))) ∧
  (∀ (c tw : Nat) (e : SbEntry) (l : List SbEntry) (s : State), c < 3 → tw < 2 → s.chip.chState c = 3 → (s.chip.twin c tw).lead.drain = e :: l →
    e.good = true → (s.chip.twin c tw).rb = none → s.chip.get (Reg.CH_STATE.MM_CYC c) < 2 →
    Completes (.storeCommit c tw (some ⟨0, false⟩)) s (fun t => (t.twin c tw).rb = some s.chip.now ∧ t.get (Reg.MM_INFO.PARITY c) = 1 ∧
      (t.chan c).sram = (s.chip.chan c).sram ∧ (t.twin c tw).lead.drain = { e with par := !e.par } :: l)) ∧
  (∀ (c a : Nat) (s : State), c < 3 →
    Completes (.eccWriteback c a) s (fun t => t.regs = s.chip.regs ∧ a / 4 * 4 ∉ (t.chan c).writeBack ∧ (t.chan c).sram = (s.chip.chan c).sram ∧
      t.twin c 0 = s.chip.twin c 0 ∧ t.twin c 1 = s.chip.twin c 1))

/-- CHANNEL_INTERRUPT (02 R57, R72). The trap is that of the RISC-V specification (PRESUMED: log 102). -/
def Obligations.ChannelInterrupts : Prop :=
  (∀ (c tw n : Nat) (s : State), c < 3 → tw < 2 → s.chip.chState c = 3 →
    (let x := s.chip.twin c tw
     x.rb = none → x.held = false → x.stopped = false → x.log.length ≤ x.replay → x.fifo.length < 16 → x.log.length < 128 →
     n ∈ s.chip.cicMine c tw → (∀ m ∈ s.chip.cicMine c tw, n ≤ m) → (rvMie x.lead.arch).testBit 11 = true →
     Completes (.channelInterrupt c tw) s (fun t => t.regs = s.chip.regs ∧ (t.twin c tw).halted = false ∧
       if x.lead.priv = 3 ∧ (rvStatus x.lead.arch).testBit 3 = false then t.cic = s.chip.cic ∧ (t.twin c tw).log = x.log
       else (t.cic.get c).pend.testBit n = false ∧ (t.cic.get c).delivered.testBit n = true ∧
         (∀ m, m ≠ n → (t.cic.get c).pend.testBit m = (s.chip.cic.get c).pend.testBit m) ∧
         (t.twin c tw).log = x.log ++ [Sampled.make 1 n x.lead.count n] ∧
         (t.twin c tw).lead.arch = rvTrap x.lead.arch x.lead.priv 0x8000000B n ∧ (t.twin c tw).lead.priv = 3))) ∧
  (∀ (c tw : Nat) (s : State), s.chip.cicMine c tw = [] ∨ (rvMie (s.chip.twin c tw).lead.arch).testBit 11 = false →
    Completes (.channelInterrupt c tw) s (fun t => t = s.chip))

/-- ROLLBACK_DONE, RB_TIMEOUT, CHANNEL_LOST_TIMEOUT, CHANNEL_SELFTEST_DONE, REINT_LOSS_AGE_OUT. -/
def Obligations.ChannelRestarts : Prop :=
  (∀ (c tw ns t0 : Nat) (s : State), c < 3 → tw < 2 → ns ≤ 4000 → (s.chip.twin c tw).rb = some t0 → (s.chip.twin c tw).redo = [] →
    (s.chip.twin c tw).lead.committed.good = true → (s.chip.twin c tw).trail.committed.good = true →
    Completes (.rollbackDone c tw ns false) s (fun t => (t.twin c tw).rb = none ∧
      (t.twin c tw).halted = ((s.chip.twin c tw).lead.committed.wfi && (s.chip.twin c tw).log == []) ∧
      (t.twin c tw).lead.arch = (s.chip.twin c tw).lead.committed.words.map (fun w => w % 2 ^ 32) ∧
      (t.twin c tw).trail.arch = (s.chip.twin c tw).trail.committed.words.map (fun w => w % 2 ^ 32) ∧
      t.get (Reg.CH_RB.LAST_NS c) = ns ∧ t.get (Reg.CH_RB.TWIN c) = tw ∧
      t.get (if tw = 0 then Reg.CH_STATE.RB_LT c else Reg.CH_STATE.RB_LK c) = 0 ∧ t.chState c = s.chip.chState c)) ∧
  (∀ (c tw ns t0 : Nat) (s : State), c < 3 → tw < 2 → s.chip.chState c = 3 → (s.chip.twin c tw).rb = some t0 →
    Completes (.rollbackDone c tw ns true) s (fun t => t.get (Reg.CH_LOSS.CAUSE c) = (if 4000 < ns then 4 else 5) ∧ (t.chState c = 4 ∨ t.chState c = 5) ∧
      (t.chan c).logic = {} ∧ (t.chan c).link = {})) ∧
  (∀ (c tw t0 : Nat) (s : State), c < 3 → tw < 2 → s.chip.chState c = 3 → (s.chip.twin c tw).rb = some t0 →
    Completes (.rbTimeout c tw) s (fun t => t.get (Reg.CH_LOSS.CAUSE c) = 4 ∧ (t.chan c).logic = {} ∧ (t.chan c).link = {} ∧
      t.get (Reg.CH_LOSS.CYCLE c) = s.chip.get Reg.MIR_CYCLE.COUNT % 2 ^ 24 ∧
      t.chState c = (if s.chip.get (Reg.CH_CFG.REINT_MAX c) ≤ t.get (Reg.CH_REINT.LOSSES c) then 5 else 4))) ∧
  (∀ (c t0 : Nat) (s : State), c < 3 → s.chip.chState c = 4 → (s.chip.chan c).lostAt = some t0 →
    Completes (.channelLostTimeout c) s (fun t => t.now = max s.chip.now (t0 + 1000000) ∧
      if s.chip.resetDiscards 5 then t.chState c = 4 ∧ (t.chan c).lostAt = none
      else t.chState c = 1 ∧ (t.chan c).afterReset = true ∧
        (t.chan c).sram = [] ∧ (t.chan c).losses = (s.chip.chan c).losses ∧ t.get (Reg.CH_RB.TOTAL c) = 0)) ∧
  (∀ (c : Nat) (s : State), c < 3 → s.chip.chState c = 1 →
    Completes (.channelSelftestDone c true true []) s (fun t => t.get (Reg.CH_INJ.BOOT_OK c) = 1 ∧
      if (s.chip.chan c).afterReset then t.chState c = 2 else t.chState c = 1 ∧ (t.chan c).passed = true)) ∧
  (∀ (c : Nat) (march : Bool) (s : State), c < 3 → s.chip.chState c = 1 →
    Completes (.channelSelftestDone c false march []) s (fun t => t.get (Reg.CH_INJ.BOOT_OK c) = 0 ∧ t.get (Reg.CH_LOSS.CAUSE c) = 2 ∧
      ((s.chip.chan c).afterReset = true → t.chState c = 5) ∧ (t.chState c = 4 ∨ t.chState c = 5))) ∧
  (∀ (c t0 : Nat) (rest : List Nat) (s : State), c < 3 → s.chip.weir.off = false → (s.chip.chan c).losses = t0 :: rest →
    Completes (.reintLossAgeOut c) s (fun t => t.get (Reg.CH_REINT.LOSSES c) = min (t.chan c).losses.length 15 ∧
      (∀ x ∈ (t.chan c).losses, x ∈ (s.chip.chan c).losses ∧ t.weir.time < x + 8640000000000) ∧ t0 ∉ (t.chan c).losses))

/-- CF_PORT_IMG, CF_PORT_MSG, CF_PORT_DELIVER (R101 to R106, R111, R113). -/
def Obligations.ConfluencePorts : Prop :=
  (∀ (c n v : Nat) (s : State), c < 3 → n < 128 → s.chip.attends 0x40301000 = true → (∀ d, d < 3 → (s.chip.port d).wait = []) →
    Completes (.cfPortImg c n v) s (fun t =>
      if n < s.chip.get Reg.CF_CFG.IMG_WORDS then
        bits (t.port c).fill.img (32 * n + 31) (32 * n) = v % 2 ^ 32 ∧
        (∀ m, m ≠ n → bits (t.port c).fill.img (32 * m + 31) (32 * m) = bits (s.chip.port c).fill.img (32 * m + 31) (32 * m)) ∧
        (t.port c).queue = (s.chip.port c).queue
      else t = s.chip)) ∧
  (∀ (c v : Nat) (s : State), c < 3 → s.chip.attends 0x40301000 = true → (∀ d, d < 3 → (s.chip.port d).wait = []) →
    Completes (.cfPortMsg c v) s (fun t =>
      if 65536 < 4 * (s.chip.port c).fill.msgs.length + 4 then
        (t.port c).fill.ovf = true ∧ (t.port c).fill.msgs = (s.chip.port c).fill.msgs
      else (t.port c).fill.msgs = (s.chip.port c).fill.msgs ++ [v % 2 ^ 32] ∧ (t.port c).fill.ovf = (s.chip.port c).fill.ovf)) ∧
  (∀ (c n v : Nat) (s : State), c < 3 → n < 128 → s.chip.attends 0x40301000 = true → (∀ d, d < 3 → d ≠ c → (s.chip.port d).wait = []) →
    (s.chip.port c).wait ≠ [] → s.chip.voting c = true → 2 ≤ (s.chip.port c).queue.length →
    Completes (.cfPortImg c n v) s (fun t => t.port c = { s.chip.port c with wait := (s.chip.port c).wait ++ [.img n v] }) ∧
    Completes (.cfPortMsg c v) s (fun t => t.port c = { s.chip.port c with wait := (s.chip.port c).wait ++ [.msg v] })) ∧
  (∀ (c v : Nat) (bad : Option Nat) (s : State), c < 3 → s.chip.attends 0x40301000 = true → s.chip.overdue = false →
    (∀ d, d < 3 → (s.chip.port d).wait = []) →
    Completes (.cfPortDeliver c v bad) s (fun t =>
      (s.chip.voting c = false → (t.port c).queue = (s.chip.port c).queue ∧ (t.port c).fill = {}) ∧
      (s.chip.voting c = true → (s.chip.port c).fill.ovf = true → (t.port c).queue = (s.chip.port c).queue ∧ t.get (Reg.CF_PSTAT.OVF c) = 1) ∧
      (s.chip.voting c = true → (s.chip.port c).fill.ovf = false → 2 ≤ (s.chip.port c).queue.length →
        t.port c = { s.chip.port c with wait := [.deliver v bad] } ∧ t.conf.window = s.chip.conf.window) ∧
      (s.chip.voting c = true → (s.chip.port c).fill.ovf = false → (s.chip.port c).queue.length < 2 →
        (∃ d, d < 3 ∧ d ≠ c ∧ s.chip.voting d = true ∧ (s.chip.port d).queue = []) →
        (t.port c).queue = (s.chip.port c).queue ++ [{ (s.chip.port c).fill with hdr := v % 2 ^ 32, bad := bad, arr := s.chip.weir.time }] ∧
        (t.port c).fill = {} ∧ t.conf.window.isSome = true)))

/-- The vote of three results (R107, R114 to R116). -/
def Obligations.TwoOutOfThree : Prop :=
  (∀ (a b c : Result) (k : Nat), (vote3 a b c).res.img.testBit k =
    ((a.img.testBit k && b.img.testBit k) || (a.img.testBit k && c.img.testBit k) || (b.img.testBit k && c.img.testBit k))) ∧
  (∀ (a b c : Result) (k : Nat), (vote3 a b c).res.hdr.testBit k =
    ((a.hdr.testBit k && b.hdr.testBit k) || (a.hdr.testBit k && c.hdr.testBit k) || (b.hdr.testBit k && c.hdr.testBit k))) ∧
  (∀ (a b c : Result) (k : Nat), k < 3 → ((vote3 a b c).minority.testBit k = true ↔ ([a, b, c].getD k {}).differs (vote3 a b c).res = true)) ∧
  (∀ (a b : Result), a.img = b.img → a.hdr = b.hdr → ∀ c : Result, (vote3 a b c).res.img = a.img ∧ (vote3 a b c).res.hdr = a.hdr)

/-- VOTE_EXPIRY (R111, R117). -/
def Obligations.VoteByExpiry : Prop :=
  (∀ (c1 c2 t0 : Nat) (a b : Result) (s : State), c1 < c2 → c2 < 3 → s.chip.conf.window = some t0 → s.chip.get Reg.CF_MODE.MODE = 3 →
    s.chip.get Reg.CF_MODE.MASK = 7 → (s.chip.port c1).queue = [a] → (s.chip.port c2).queue = [b] → (s.chip.port (3 - c1 - c2)).queue = [] →
    (s.chip.port c1).wait = [] → (s.chip.port c2).wait = [] →
    s.chip.chState (3 - c1 - c2) = 3 → s.chip.flt.firstAt = none → s.chip.get Reg.CF_CNT.EXPIRED < 0xFFFF →
    Completes .voteExpiry s (fun t => t.get Reg.CF_CNT.EXPIRED = s.chip.get Reg.CF_CNT.EXPIRED + 1 ∧
      if a.differs b = false ∧ b.differs a = false then
        t.get Reg.CF_MODE.MODE = 2 ∧ t.get Reg.CF_MODE.MASK = 7 - 2 ^ (3 - c1 - c2) ∧ t.get Reg.CF_LAST.OUTCOME = 2 ∧
        t.get (Reg.CH_LOSS.CAUSE (3 - c1 - c2)) = 8 ∧ t.link.sets = s.chip.link.sets ++ [7 - 2 ^ (3 - c1 - c2)] ∧
        t.conf.releases.getLast?.map (fun r => r.res) = some a
      else t.get Reg.CF_MODE.MODE = 0 ∧ t.get Reg.CF_MODE.MASK = 0 ∧ t.link.safeReq = true ∧ t.get Reg.FLT_FIRST.FCODE = 0x3005 ∧ t.conf.voted = 0)) ∧
  (∀ (t0 : Nat) (s : State), s.chip.conf.window = some t0 → s.chip.get Reg.CF_MODE.MODE = 3 → s.chip.get Reg.CF_MODE.MASK = 7 →
    s.chip.present.length ≤ 1 → s.chip.flt.firstAt = none →
    Completes .voteExpiry s (fun t => t.get Reg.CF_MODE.MODE = 0 ∧ t.link.safeReq = true ∧ t.get Reg.FLT_FIRST.FCODE = 0x3005 ∧ t.conf.releases = []))

/-- VOTE_RELEASE, VOTING_SET_ACK, VOTING_SET_ACK_TIMEOUT (R119 to R123, R133). -/
def Obligations.VoteReleases : Prop :=
  (∀ (r : CfRelease) (rest : List CfRelease) (s : State), s.chip.conf.releases = r :: rest → s.chip.conf.recon = none → s.chip.weir.off = false →
    Completes .voteRelease s (fun t => t.conf.voted = r.res.img ∧ t.conf.releases = rest ∧ r.close + 10 ≤ t.weir.time ∧ s.chip.conf.ackAt + 10 ≤ t.weir.time ∧
      t.get Reg.MIR_STAT.CUR = 1 - s.chip.get Reg.MIR_STAT.CUR ∧ t.get Reg.MIR_CYCLE.COUNT = (s.chip.get Reg.MIR_CYCLE.COUNT + 1) % 2 ^ 32 ∧
      (∀ k, k < 512 → (memRead t.conf.mirror (mirrorBase (t.get Reg.MIR_STAT.CUR) + 0x40 + k)).toNat = r.res.img / 256 ^ k % 256) ∧
      ∀ b, (b < mirrorBase (t.get Reg.MIR_STAT.CUR)) → memRead t.conf.mirror b = memRead s.chip.conf.mirror b)) ∧
  (∀ (a : Nat) (rest : List Nat) (r : Recon) (s : State), s.chip.link.acks = a :: rest → s.chip.conf.recon = some r → r.set = a →
    Completes .votingSetAck s (fun t => t.conf.recon = none ∧ t.conf.releases = [] ∧ t.link.acks = rest ∧
      ∀ x, s.chip.conf.releases.getLast? = some x → t.conf.voted = x.res.img)) ∧
  (∀ (rest : List Nat) (s : State), s.chip.link.acks = 7 :: rest → s.chip.conf.recon = none → s.chip.conf.rs.sent = true →
    s.chip.get Reg.CF_MODE.RS_PHASE = 2 → Completes .votingSetAck s (fun t => t.conf.rs.acked = true ∧ t.regs = s.chip.regs)) ∧
  (∀ (r : Recon) (s : State), s.chip.conf.recon = some r → s.chip.flt.firstAt = none → s.chip.weir.off = false →
    Completes .votingSetAckTimeout s (fun t => t.get Reg.CF_MODE.MODE = 0 ∧ t.link.safeReq = true ∧ t.get Reg.FLT_FIRST.FCODE = 0x3006 ∧
      r.t0 + 1190 ≤ t.weir.time ∧ t.conf.releases = []))

/-- RESYNC_BULK_START, RESYNC_BULK_DONE, RESYNC_FINAL_START (R125, R127 to R129). -/
def Obligations.Resynchronisation : Prop :=
  (∀ (s : State), s.chip.get Reg.CF_MODE.MODE = 2 → s.chip.syncChannel ≠ 3 → s.chip.conf.rs.target = none → s.chip.conf.rs.void = false →
    Completes .resyncBulkStart s (fun t => t.conf.rs.target = some s.chip.syncChannel ∧ t.get Reg.CF_MODE.RS_PHASE = 1 ∧
      t.get (Reg.CF_PSTAT.PSTATE s.chip.syncChannel) = 1 ∧ t.get Reg.CF_RS.TRIES = 0 ∧ t.get Reg.CF_RS.DIRTY = 0)) ∧
  (∀ (c : Nat) (s : State), c < 3 → s.chip.get Reg.CF_MODE.RS_PHASE = 1 → s.chip.conf.rs.target = some c → s.chip.conf.rs.pos < 28928 → s.chip.weir.off = false →
    Completes .resyncBulkDone s (fun t => t.conf.rs.copied = true ∧ t.get Reg.CF_MODE.RS_PHASE = 0 ∧ s.chip.conf.rs.start + 185140 ≤ t.weir.time ∧
      ∀ a, memRead (t.chan c).sram a =
        memRead (s.chip.chan (if 0x10000000 + 256 * s.chip.conf.rs.pos ≤ a ∧ a < 0x10710000 then s.chip.rsSources.1 else c)).sram a)) ∧
  (∀ (c : Nat) (s : State), s.chip.conf.rs.target = some c → s.chip.conf.rs.copied = true → s.chip.get Reg.CF_MODE.RS_PHASE = 0 →
    s.chip.get Reg.CF_MODE.MODE = 2 → s.chip.conf.recon = none → s.chip.conf.window = none → s.chip.conf.rs.dirty = [] →
    Completes .resyncFinalStart s (fun t => t.get Reg.CF_MODE.RS_PHASE = 2 ∧ t.link.sets = s.chip.link.sets ++ [7] ∧ t.conf.rs.sent = true ∧
      t.conf.rs.acked = false ∧ t.get Reg.CF_RS.DIRTY = 0 ∧ t.now = s.chip.now)) ∧
  (∀ (c k : Nat) (s : State), s.chip.conf.rs.target = some c → s.chip.conf.rs.copied = true → s.chip.get Reg.CF_MODE.RS_PHASE = 0 →
    s.chip.get Reg.CF_MODE.MODE = 2 → s.chip.conf.recon = none → s.chip.conf.window = none → k ∈ s.chip.conf.rs.dirty → k ∉ s.chip.conf.rs.written → s.chip.flt.firstAt = none →
    diffBlocks (s.chip.chan s.chip.rsSources.1).sram (s.chip.chan s.chip.rsSources.2).sram (0x10000000 + 256 * k) (0x10000000 + 256 * k + 256) ≠ [] →
    Completes .resyncFinalStart s (fun t => t.get Reg.CF_MODE.MODE = 0 ∧ t.link.safeReq = true ∧ t.get Reg.FLT_FIRST.FCODE = 0x3007))

/-- Entry to Weir's safe state (R173, Table 5.6). -/
def Obligations.SafeStateEntry : Prop :=
  (∀ s : State, s.chip.weir.off = false → s.chip.unlatched = true → s.chip.conf.voted = 0 ∨ s.chip.get Reg.CF_MODE.MODE ≠ 0 →
    Completes .dualRailFault s (fun t => t.safeWith 2 = true ∧ t.conf.voted = 0 ∧ t.now = s.chip.now) ∧
    Completes .wdnMissingEdge s (fun t => t.safeWith 4 = true ∧ t.conf.voted = 0) ∧
    Completes .timeParity s (fun t => t.safeWith 13 = true ∧ t.conf.voted = 0) ∧
    (s.chip.get Reg.WR_STAT.LINK_UP = 1 → Completes (.linkSilence true) s (fun t => t.safeWith 8 = true ∧ t.get Reg.WR_LINK.FAIL = 2 ∧ t.get Reg.WR_STAT.LINK_UP = 0 ∧
      t.link.sets = [] ∧ t.link.queries = [])) ∧
    Completes (.weirSelftestDone false) s (fun t => t.safeWith 11 = true) ∧
    (s.chip.link.safeReq = true → Completes .safeRequestFlit s (fun t => t.safeWith 9 = true ∧ t.link.safeReq = false)) ∧
    (∀ k, s.chip.weir.openCheck = some k → Completes .checkOpenTimeout s (fun t => t.safeWith 1 = true ∧ k.arr + 1130 ≤ t.weir.time)) ∧
    Completes (.checkerRotateTimer false) s (fun t => t.safeWith 2 = true ∧ t.weir.checker = (s.chip.weir.checker + 1) % 32) ∧
    (∀ per wrc, 90000 ≤ wrc → wrc ≤ 110000 → s.chip.get Reg.CLK_STAT.ROOT_LOCK = 1 → (per < 999800 ∨ 1000200 < per) →
      Completes (.rateGateEnd per wrc) s (fun t => t.safeWith 3 = true)) ∧
    ∀ per wrc, (wrc < 90000 ∨ 110000 < wrc) → (s.chip.get Reg.CLK_STAT.ROOT_LOCK = 0 ∨ (999800 ≤ per ∧ per ≤ 1000200)) →
      Completes (.rateGateEnd per wrc) s (fun t => t.safeWith 4 = true)) ∧
  (∀ s : State, s.chip.unlatched = false → s.chip.weir.causeAt ≠ s.chip.weirTime →
    Completes .dualRailFault s (fun t => t.get Reg.WR_STAT.CAUSE = s.chip.get Reg.WR_STAT.CAUSE) ∧
    Completes .timeParity s (fun t => t.get Reg.WR_STAT.CAUSE = s.chip.get Reg.WR_STAT.CAUSE) ∧
    Completes (.linkSilence true) s (fun t => t.get Reg.WR_STAT.CAUSE = s.chip.get Reg.WR_STAT.CAUSE)) ∧
  (∀ s : State, s.chip.weir.off = false → s.chip.unlatched = false → s.chip.weir.causeAt = s.chip.weirTime → (s.chip.get Reg.WR_STAT.CAUSE = 6 ∨ 2 < s.chip.get Reg.WR_STAT.CAUSE) →
    Completes .dualRailFault s (fun t => t.get Reg.WR_STAT.CAUSE = 2))

/-- CHANNEL_IMAGE, VOTED_IMAGE, VOTING_SET_FLIT (R144 to R147). -/
def Obligations.VoteCheck : Prop :=
  (∀ (c img : Nat) (s : State), c < 3 → s.chip.chState c = 3 → s.chip.inSet c = true → s.chip.safe = false → s.chip.weir.voted = [] →
    Completes (.channelImage c img (imageCrc img)) s (fun t => t.weir.images.get c = s.chip.weir.images.get c ++ [img % 2 ^ 4096] ∧
      t.weir.arrivals.get c = s.chip.weir.arrivals.get c ++ [s.chip.weir.time] ∧ t.regs = s.chip.regs) ∧
    ∀ crc, crc ≠ imageCrc img → Completes (.channelImage c img crc) s (fun t => t.weir.images = s.chip.weir.images ∧
      t.weir.arrivals = s.chip.weir.arrivals ∧ t.weir.badImage.get c = true ∧ t.regs = s.chip.regs)) ∧
  (∀ (c img crc : Nat) (s : State), s.chip.chState c ≠ 3 ∨ s.chip.inSet c = false → Completes (.channelImage c img crc) s (fun t => t = s.chip)) ∧
  (∀ (v a b c : Nat) (la lb lc rest : List Nat) (s : State), s.chip.link.voted = v :: rest → s.chip.safe = false → s.chip.weir.openCheck = none →
    s.chip.weir.voted = [] → s.chip.get Reg.WR_STAT.SET = 7 → s.chip.weir.images = ⟨a :: la, b :: lb, c :: lc⟩ →
    (let d := (if a = v then 0 else 1) + (if b = v then 0 else 2) + (if c = v then 0 else 4)
     Completes .votedImage s (fun t => t.weir.images = ⟨la, lb, lc⟩ ∧ t.weir.voted = [] ∧ t.get Reg.WR_VC.DIFF = d ∧ t.link.voted = rest ∧
      if d = 0 then t.get Reg.WR_VC.PASS = 1 ∧ t.get Reg.WR_VC.OPEN = 0 ∧ t.get Reg.WR_VCCNT.PASSED = (s.chip.get Reg.WR_VCCNT.PASSED + 1) % 2 ^ 32 ∧
        t.weir.lastV = v ∧ t.lat.passed = s.chip.lat.passed ++ [v]
      else if maj3 a b c = v then t.get Reg.WR_VC.PASS = 0 ∧ t.get Reg.WR_VC.OPEN = 1 ∧ t.weir.openCheck = some ⟨v, d, s.chip.weir.time⟩ ∧
        t.get Reg.WR_EN.EN = s.chip.get Reg.WR_EN.EN ∧ t.safe = false
      else t.get Reg.WR_VC.PASS = 0 ∧ t.safeWith 1 = true))) ∧
  (∀ (set : Nat) (k : OpenCheck) (rest : List Nat) (s : State), s.chip.link.sets = set :: rest → s.chip.weir.openCheck = some k → s.chip.safe = false →
    s.chip.weir.voted = [] → s.chip.link.voted = [] →
    Completes .votingSetFlit s (fun t => t.get Reg.WR_STAT.SET = set % 8 ∧ t.link.sets = rest ∧
      t.link.acks = s.chip.link.acks ++ s.chip.weir.ackWait ++ [set] ∧
      if s.chip.get Reg.WR_STAT.SET - (s.chip.get Reg.WR_STAT.SET &&& set) = k.d ∧ s.chip.weir.time ≤ k.arr + 1130 then
        t.weir.openCheck = none ∧ t.get Reg.WR_VC.PASS = 1 ∧ t.get Reg.WR_VC.OPEN = 0 ∧ t.get Reg.WR_VCCNT.PASSED = (s.chip.get Reg.WR_VCCNT.PASSED + 1) % 2 ^ 32
      else t.weir.openCheck = some k ∧ t.get Reg.WR_VC.PASS = s.chip.get Reg.WR_VC.PASS ∧ t.get Reg.WR_EN.EN = s.chip.get Reg.WR_EN.EN)) ∧
  (∀ (set c : Nat) (rest : List Nat) (s : State), s.chip.link.sets = set :: rest → s.chip.weir.openCheck = none → s.chip.weir.voted = [] →
    s.chip.link.voted = [] → c < 3 →
    Completes .votingSetFlit s (fun t => t.get Reg.WR_STAT.SET = set % 8 ∧ t.link.acks = s.chip.link.acks ++ s.chip.weir.ackWait ++ [set] ∧
      if s.chip.inSet c = set.testBit c then t.weir.images.get c = s.chip.weir.images.get c ∧ t.weir.delivered.get c = s.chip.weir.delivered.get c
      else t.weir.images.get c = [] ∧ t.weir.delivered.get c = 0 ∧ t.weir.arrivals.get c = [] ∧ t.weir.releases.get c = 0 ∧ t.weir.entered.get c = s.chip.weir.time))

/-- WR_TIME_LO_READ, WR_STOFF_HI_WRITE, RATE_GATE_END, CHECKER_ROTATE_TIMER, STRAP_READ_TIMER, and the steering word. -/
def Obligations.TimeAndStraps : Prop :=
  (∀ (u : Chip) (v : Nat), u.get Reg.WR_CFG.STEER_EN = 1 → v.testBit (32 * u.get Reg.WR_CFG.STEER_WORD + 31) = true →
    (let r := signed 24 (bits v (32 * u.get Reg.WR_CFG.STEER_WORD + 23) (32 * u.get Reg.WR_CFG.STEER_WORD))
     signed 24 ((u.steer v).get Reg.WR_RATE.RATE) = max (-100000) (min 100000 r) ∧
     ((u.steer v).get Reg.WR_RATE.CLAMP = 1 ↔ (r < -100000 ∨ 100000 < r)))) ∧
  (∀ (u : Chip) (v : Nat), u.get Reg.WR_CFG.STEER_EN = 0 ∨ v.testBit (32 * u.get Reg.WR_CFG.STEER_WORD + 31) = false → u.steer v = u) ∧
  (∀ (req : Nat) (s : State), req < 8 → s.chip.attends 0x50002000 = true →
    Completes (.wrTimeLoRead req) s (fun t => t.resp = .data (s.chip.weir.time % 2 ^ 32) ∧
      assoc t.weir.hiLatch req 0 = s.chip.weir.time / 2 ^ 32 % 2 ^ 32 ∧ t.regs = s.chip.regs ∧ t.weir.time = s.chip.weir.time)) ∧
  (∀ (lo v : Nat) (s : State), s.chip.attends 0x50002000 = true → s.chip.weir.stoffLo = some lo →
    Completes (.wrStoffHiWrite 7 v) s (fun t =>
      if s.chip.get Reg.WR_STAT.STOFF_SET = 1 then t.regs = s.chip.regs
      else t.get Reg.WR_STAT.STOFF_SET = 1 ∧ t.get Reg.WR_STOFF.STOFF = (lo + v % 2 ^ 32 * 2 ^ 32) % 2 ^ 64 ∧ t.weir.time = s.chip.weir.time ∧
        t.alignedTime = (s.chip.weir.time + t.get Reg.WR_STOFF.STOFF) % 2 ^ 64)) ∧
  (∀ (req v : Nat) (s : State), s.chip.attends 0x50002000 = true → req ≠ 7 →
    Completes (.wrStoffHiWrite req v) s (fun t => t.get Reg.WR_STOFF.STOFF = s.chip.get Reg.WR_STOFF.STOFF ∧
      t.get Reg.WR_STAT.STOFF_SET = s.chip.get Reg.WR_STAT.STOFF_SET)) ∧
  (∀ (per wrc : Nat) (s : State), s.chip.weir.off = false → 999800 ≤ per → per ≤ 1000200 → 90000 ≤ wrc → wrc ≤ 110000 → s.chip.get Reg.CLK_STAT.ROOT_LOCK = 1 →
    Completes (.rateGateEnd per wrc) s (fun t => signed 16 (t.get Reg.WR_RCHK.PER_DEV) = (per : Int) - 1000000 ∧
      signed 16 (t.get Reg.WR_RCHK.WRC_DEV) = (wrc : Int) - 100000 ∧ t.now = max s.chip.now s.chip.weir.gateEnd ∧
      t.weir.gateEnd = t.now + 1000000 ∧ t.safe = s.chip.safe)) ∧
  (∀ s : State, s.chip.weir.off = false → Completes (.checkerRotateTimer true) s (fun t => t.weir.checker = (s.chip.weir.checker + 1) % 32 ∧ t.now = max s.chip.now s.chip.weir.idleDue ∧
    t.weir.idleDue = t.now + 1000000 ∧ t.regs = s.chip.regs)) ∧
  (∀ (pu pd : Nat) (s : State), s.chip.weir.off = false → pu < 256 → pd < 256 →
    Completes (.strapReadTimer pu pd) s (fun t => t.get Reg.WR_SEAL.CURRENT = pu &&& pd ∧ t.get Reg.WR_SEAL.OPEN = pu ^^^ pd ∧
      t.get Reg.WR_STAT.MAINT = s.chip.get Reg.WR_STAT.MAINT ∧
      (((s.chip.get Reg.WR_SEAL.LATCHED ^^^ (pu &&& pd)) ||| (pu ^^^ pd)) &&& 0xEF = 0 → t.safe = s.chip.safe ∧ t.get Reg.WR_EN.EN = s.chip.get Reg.WR_EN.EN) ∧
      (((s.chip.get Reg.WR_SEAL.LATCHED ^^^ (pu &&& pd)) ||| (pu ^^^ pd)) &&& 0xEF ≠ 0 → s.chip.unlatched = true → t.safeWith 5 = true)))

/-- SNAPSHOT, DEADLINE_CHECK, DEADLINE_WARN (R156, R159 to R162). -/
def Obligations.Deadlines : Prop :=
  (∀ (pu pd : Nat) (s : State), s.chip.weir.off = false → s.chip.snapsRun = true → s.chip.pwr.notice = false → s.chip.get Reg.ACT_CFG.ARM = 0 → s.chip.weir.hold = false → pu < 256 → pd < 256 →
    Completes (.snapshot pu pd true) s (fun t => t.get Reg.WR_SNAPCNT.COUNT = (s.chip.get Reg.WR_SNAPCNT.COUNT + 1) % 2 ^ 32 ∧
      s.chip.weir.time ≤ t.weir.time ∧ t.get Reg.WR_SNAP.SNAP = t.weirTime ∧ t.weir.lastSnap = some t.weir.time ∧
      t.weir.checker = (s.chip.weir.checker + 1) % 32 ∧ t.get Reg.WR_STAT.MAINT = (if (pu &&& pd).testBit 4 then 1 else 0) ∧
      (∀ c, c < 3 → t.get (Reg.CH_STATE.MM_CYC c) = 0 ∧ (t.cic.get c).pend.testBit 0 = true) ∧
      (s.chip.weir.lastSnap = none → s.chip.clockOk = true →
        t.weir.time % (max 1 (s.chip.get Reg.WR_CFG.BASE) * 25000) ≤ (if s.chip.get Reg.WR_RATE.RATE = 0 then 0 else 1)) ∧
      (s.chip.railFault = true → s.chip.unlatched = true → t.safe = true ∧ t.enablesOff = true ∧ t.noPermission = true) ∧
      ∃ new, t.weir.deadlines = s.chip.weir.deadlines ++ new ∧
        ∀ task, task < 8 → ((∃ d ∈ new, d.task = task ∧ d.due = t.weir.time + 100 * s.chip.get (Reg.WR_TDL.DL task)) ↔
          s.chip.get (Reg.WR_TDL.PERIOD task) ≠ 0 ∧
          t.get Reg.WR_SNAPCNT.COUNT % max (s.chip.get (Reg.WR_TDL.PERIOD task) / max (s.chip.get Reg.WR_CFG.BASE) 1) 1 = 0))) ∧
  (∀ (pu pd : Nat) (r : Bool) (s : State), s.chip.get Reg.WR_STAT.READY = 0 → Completes (.snapshot pu pd r) s (fun t => t = s.chip)) ∧
  (∀ (d : Nat) (s : State), s.chip.weir.off = false → nextDeadline s.chip.weir.deadlines = some d → s.chip.weir.voted = [] → s.chip.weir.hold = false →
    (let late := s.chip.setChannels.filter (fun c => decide (s.chip.imagesBy c d < s.chip.releasesAt c d))
     Completes .deadlineCheck s (fun t => s.chip.reaches d t ∧ (∀ x ∈ t.weir.deadlines, d < x.due) ∧
      t.get Reg.WR_STAT.SET = s.chip.get Reg.WR_STAT.SET - (late.map (fun c => 2 ^ c)).sum ∧
      (∀ c ∈ late, s.chip.chState c = 3 → t.get (Reg.CH_LOSS.CAUSE c) = 6 ∧ t.chState c ≠ 3) ∧
      (late = [] → t.regs = s.chip.regs ∧ t.chans = s.chip.chans) ∧
      t.get Reg.WR_WD_STAT.MISSES = min (s.chip.get Reg.WR_WD_STAT.MISSES + late.length) 0xFFFF ∧
      (late ≠ [] → s.chip.safe = false → (s.chip.setChannels.length ≤ 2 ∨ s.chip.setChannels.length < late.length + 2) → t.safeWith 10 = true)))) ∧
  (∀ (d c : Nat) (s : State), s.chip.weir.off = false → c < 3 → s.chip.get Reg.WR_WD_CFG.WARN ≠ 0 → nextDeadline (s.chip.weir.deadlines.filter (fun x => !x.warned)) = some d →
    Completes .deadlineWarn s (fun t => t.regs = s.chip.regs ∧ s.chip.weir.time ≤ t.weir.time ∧
      (t.cic.get c).pend = (if s.chip.inSet c = true ∧ s.chip.imagesBy c (d - 100 * s.chip.get Reg.WR_WD_CFG.WARN) < s.chip.releasesAt c d then (s.chip.cic.get c).pend ||| 2 else (s.chip.cic.get c).pend)))

/-- PFAIL_TRIGGER, TRIGGER_CONDITION_CLEAR, PFAIL_RELEASE, WEIR_POR, WEIR_SELFTEST_DONE. -/
def Obligations.PowerFail : Prop :=
  (∀ (low : Bool) (uvov : Nat) (s : State), s.chip.weir.off = false → low = true ∨ uvov % 256 ≠ 0 → s.chip.weir.pfArmed = true → s.chip.weir.pfailAt = none → s.chip.unlatched = true →
    Completes (.pfailTrigger low uvov) s (fun t => t.safeWith (if low then 6 else 7) = true ∧ t.get Reg.WR_STAT.PFAIL = 1 ∧
      t.weir.pfailAt = some s.chip.now ∧ t.link.resetDown = s.chip.link.resetDown ++ [0] ∧
      t.get Reg.WR_SUP.PFAIL_LOW = (if low then 1 else 0) ∧ t.get Reg.WR_SUP.UVOV = uvov % 256)) ∧
  (∀ (low : Bool) (uvov t0 : Nat) (s : State), s.chip.weir.off = false → s.chip.weir.pfailAt = some t0 →
    Completes (.pfailTrigger low uvov) s (fun t => t.weir.violation = s.chip.now ∧ t.weir.pfailAt = some t0 ∧ t.link = s.chip.link ∧
      t.get Reg.WR_STAT.CAUSE = s.chip.get Reg.WR_STAT.CAUSE)) ∧
  (∀ s : State, s.chip.weir.off = false → Completes .triggerConditionClear s (fun t => t.get Reg.WR_SUP.PFAIL_LOW = 0 ∧ t.get Reg.WR_SUP.UVOV = 0 ∧ t.weir.violation = s.chip.now ∧
    t.weir.pfailAt = s.chip.weir.pfailAt ∧ t.get Reg.WR_STAT.PFAIL = s.chip.get Reg.WR_STAT.PFAIL)) ∧
  (∀ (t0 : Nat) (s : State), s.chip.weir.off = false → s.chip.weir.pfailAt = some t0 → s.chip.weir.hold = false →
    (s.chip.get Reg.WR_SUP.PFAIL_LOW = 0 → s.chip.get Reg.WR_SUP.UVOV = 0 →
      Completes .pfailRelease s (fun t => t0 + 6500000 ≤ t.now ∧ s.chip.weir.violation + 5000000 ≤ t.now ∧
        t.link.resetDown = s.chip.link.resetDown ++ [0x0101] ∧ t.weir.pfailAt = none ∧ t.weir.hold = decide (s.chip.get Reg.WR_SEAL.OPEN &&& 0xEF = 0) ∧
        t.get Reg.WR_STAT.CAUSE = (if s.chip.get Reg.WR_SEAL.OPEN &&& 0xEF = 0 then 0 else 5) ∧ t.get Reg.WR_SEAL.LATCHED = s.chip.get Reg.WR_SEAL.CURRENT ∧
        t.get Reg.WR_STAT.LOCKOUT = 1 ∧ t.safe = true ∧ t.enablesOff = true ∧ t.noPermission = true ∧ t.get Reg.WR_STAT.PFAIL = 0)) ∧
    (s.chip.get Reg.WR_SUP.PFAIL_LOW = 1 ∨ s.chip.get Reg.WR_SUP.UVOV ≠ 0 → Completes .pfailRelease s (fun t => t = s.chip))) ∧
  (∀ (pu pd : Nat) (s : State), pu < 256 → pd < 256 →
    Completes (.weirPor pu pd) s (fun t => t.weir.time = 0 ∧ t.get Reg.WR_STAT.WPOR = 1 ∧ t.get Reg.WR_STOFF.STOFF = 0 ∧ t.get Reg.WR_STAT.STOFF_SET = 0 ∧
      t.get Reg.WR_SEAL.LATCHED = pu &&& pd ∧ t.get Reg.WR_SEAL.OPEN = pu ^^^ pd ∧ t.safe = true ∧ t.enablesOff = true ∧ t.noPermission = true ∧
      t.get Reg.WR_SNAPCNT.COUNT = 0xFFFFFFFF ∧ t.now = s.chip.now ∧
      t.get Reg.WR_STAT.CAUSE = (if (pu ^^^ pd) &&& 0xEF = 0 then 0 else 5) ∧ t.weir.hold = decide ((pu ^^^ pd) &&& 0xEF = 0))) ∧
  (∀ s : State, s.chip.weir.off = false → Completes (.weirSelftestDone true) s (fun t => t.get Reg.WR_STAT.READY = (if s.chip.weir.supplyDue = true ∧ s.chip.weir.pfailAt = none ∧ s.chip.weir.hold = false then 0 else 1) ∧
    t.link.resetDown = (if s.chip.weir.supplyDue = true ∧ s.chip.weir.pfailAt = none then s.chip.link.resetDown ++ [0x0101] else s.chip.link.resetDown)))

/-- FLIT_RECEIVE, FLIT_NAK, FLIT_ACK, FLIT_SEND (R140, R141, R143). -/
def Obligations.LinkFlits : Prop :=
  (∀ (up : Bool) (n seq kind : Nat) (x : FlitRest) (l : Lane) (s : State), (s.chip.lanes up)[n]? = some l →
    Completes (.flitReceive up n seq kind x) s (fun t =>
      if x.crc = flitCrc n seq ⟨kind, x.tag, x.payload⟩ ∧ seq % 1024 = l.expect then
        ((t.lanes up).getD n {}).expect = (l.expect + 1) % 1024 ∧
        t.get Reg.WR_STAT.LINK_UP = (if s.chip.get Reg.WR_LINK.FAIL = 0 then 1 else s.chip.get Reg.WR_STAT.LINK_UP) ∧
        ∀ m, (s.chip.lanes (!up))[3]? = some m → ((t.lanes (!up)).getD 3 {}).queue =
          (if 7 ≤ l.unacked then m.queue ++ [Flit.mk 9 0 (n * 1024 + (l.expect + 1) % 1024)] else m.queue)
      else ((t.lanes up).getD n {}).expect = l.expect ∧
        t.get Reg.WR_LINK.CRCERR = (if up = true ∧ x.crc ≠ flitCrc n seq ⟨kind, x.tag, x.payload⟩ then
          min (s.chip.get Reg.WR_LINK.CRCERR + 1) (2 ^ Reg.WR_LINK.CRCERR.width - 1) else s.chip.get Reg.WR_LINK.CRCERR) ∧
        ∀ m, (s.chip.lanes (!up))[3]? = some m → ((t.lanes (!up)).getD 3 {}).queue = m.queue ++ [Flit.mk 10 0 (n * 1024 + l.expect % 1024)])) ∧
  (∀ (up : Bool) (n k : Nat) (l : Lane) (s : State), (s.chip.lanes up)[n]? = some l → l.base < 1024 → k < l.replay.length → l.replay.length ≤ 16 → l.naks = 0 →
    Completes (.flitNak up n (l.base + k)) s (fun t => ((t.lanes up).getD n {}).resend = l.replay.length - k ∧ ((t.lanes up).getD n {}).naks = 1 ∧
      t.safe = s.chip.safe ∧ t.get Reg.WR_LINK.FAIL = s.chip.get Reg.WR_LINK.FAIL ∧
      t.get Reg.WR_LINK.RETRY = (if up then s.chip.get Reg.WR_LINK.RETRY else min (s.chip.get Reg.WR_LINK.RETRY + 1) 255))) ∧
  (∀ (up : Bool) (n : Nat) (l : Lane) (s : State), (s.chip.lanes up)[n]? = some l → l.naks = 3 → l.nakSeq < 1024 → s.chip.unlatched = true →
    Completes (.flitNak up n l.nakSeq) s (fun t => t.safeWith 8 = true ∧ t.get Reg.WR_LINK.FAIL = 1 ∧ t.get Reg.WR_STAT.LINK_UP = 0)) ∧
  (∀ (up : Bool) (n k : Nat) (l : Lane) (s : State), (s.chip.lanes up)[n]? = some l → l.base < 1024 → k ≤ l.replay.length → l.replay.length ≤ 16 →
    Completes (.flitAck up n (l.base + k)) s (fun t => ((t.lanes up).getD n {}).replay = l.replay.drop k ∧ ((t.lanes up).getD n {}).base = (l.base + k) % 1024 ∧
      ((t.lanes up).getD n {}).naks = 0 ∧ t.regs = s.chip.regs)) ∧
  (∀ (up : Bool) (n : Nat) (k : Flit) (q : List Flit) (l : Lane) (s : State), (s.chip.lanes up)[n]? = some l → n < 4 → l.queue = k :: q → l.resend = 0 → l.replay.length < 16 →
    (up = true → s.chip.link.silent = false) → (n ≠ 3 → ∀ m ∈ [3, 0, 1, 2], (m = 3 ∨ m < n) → ((s.chip.lanes up).getD m {}).send = none) →
    Completes (.flitSend up) s (fun t => ((t.lanes up).getD n {}).queue = q ∧ ((t.lanes up).getD n {}).replay = l.replay ++ [k] ∧ t.regs = s.chip.regs ∧
      t.lanes (!up) = s.chip.lanes (!up)))

/-- The evaluation of R196 and the signal permissions of R200. -/
def Obligations.GrantRule : Prop :=
  (∀ (b : Bank) (lock : Nat) (f : Field) (r : Nat), r < 2048 →
    (routeFails b lock f r = none ↔
      (routeUsed b r = true ∧
       (∀ q, q < 2048 → q ≠ r → (routeWord b r (q / 256)).testBit (q % 256) = true → lock.testBit q = false) ∧
       (∀ p, p < 1024 → (let need := routeWord b r (8 + p / 128) / 2 ^ (2 * (p % 128)) % 4
          need ≠ 0 → need ≠ 3 ∧ f.pdet / 2 ^ (2 * p) % 4 = need)) ∧
       (∀ n, n < 4096 → (routeWord b r (16 + n / 256)).testBit (n % 256) = true → f.sclr.testBit n = true) ∧
       ∀ e, e < 128 → (routeWord b r 32).testBit e = true → f.eready.testBit e = true))) ∧
  (∀ (b : Bank) (perm sig : Nat), sig < 2048 → ((spermOf b perm).testBit sig = true ↔
    (signalUsed b sig = true ∧ ∃ r, r < 2048 ∧ perm.testBit r = true ∧ (signalEntry b r).testBit 15 = true ∧ signalEntry b r % 2048 = sig)))

/-- LATTICE_LATCH, LATTICE_COMMIT, SWEEP_EVAL, SWEEP_PASS_TIMEOUT (R189 to R207). -/
def Obligations.LatticeCommits : Prop :=
  (∀ (v w : Nat) (rest : List Nat) (s : State), s.chip.lat.port = v :: rest → s.chip.lat.pend = none → s.chip.safe = false → s.chip.activeBad = [] →
    Completes (.latticeLatch 0 w) s (fun t => t.lat.port = rest ∧ t.lat.pend.isSome = true ∧ t.lat.lock = s.chip.lat.lock ∧ t.lat.perm = s.chip.lat.perm ∧
      t.lat.sperm = s.chip.lat.sperm ∧ t.field = s.chip.field ∧ t.get Reg.WR_EN.EN = s.chip.get Reg.WR_EN.EN ∧
      (let q := imageWord v (s.chip.get Reg.LAT_CFG.REQ_BASE)
       s.chip.get Reg.LAT_CFG.REQ_CNT = 1 → s.chip.get Reg.LAT_CFG.UPD_CNT = 0 → q.testBit 31 = true → bits q 30 29 = 1 → bits q 28 11 = 0 →
        ∃ k, t.lat.pend = some ⟨s.chip.lat.pdet, s.chip.lat.sclr, s.chip.lat.eready, [k]⟩ ∧ k.set = true ∧ k.route = bits q 10 0 ∧
          (if s.chip.get Reg.LAT_STAT.PASS_REQ < 12 then
            (k.grant = true ↔ routeFails s.chip.activeBank s.chip.lat.lock s.chip.field k.route = none) ∧ t.get Reg.LAT_STAT.PASS_REQ = s.chip.get Reg.LAT_STAT.PASS_REQ + 1
           else k.grant = false ∧ k.reason = 6)))) ∧
  (∀ (p : LatPend) (k : LatReq) (v : Nat) (rest : List Nat) (s : State), s.chip.lat.pend = some p → s.chip.lat.passed = v :: rest → p.reqs = [k] → k.route < 2048 →
    Completes .latticeCommit s (fun t => t.lat.pend = none ∧ t.lat.passed = rest ∧ t.field = ⟨p.pdet, p.sclr, p.eready⟩ ∧
      t.lat.sperm = Rails.ofWord 2048 (spermOf s.chip.activeBank t.lat.perm.word) ∧
      (∀ r, r ≠ k.route → r < 2048 → t.lat.lock.testBit r = s.chip.lat.lock.testBit r ∧ t.lat.perm.get r = s.chip.lat.perm.get r) ∧
      t.lat.perm.get k.route = (k.set && k.grant) ∧
      t.lat.lock.testBit k.route = (if k.set = true ∧ k.grant = false then s.chip.lat.lock.testBit k.route else k.set) ∧
      t.lat.deniedRoutes.testBit k.route = (s.chip.lat.deniedRoutes.testBit k.route || (k.set && !k.grant)) ∧
      t.get Reg.LAT_GRANTS.COUNT = (s.chip.get Reg.LAT_GRANTS.COUNT + (if k.set = true ∧ k.grant = true then 1 else 0)) % 2 ^ 32 ∧
      t.get Reg.LAT_DENIALS.COUNT = (s.chip.get Reg.LAT_DENIALS.COUNT + (if k.set = true ∧ k.grant = false then 1 else 0)) % 2 ^ 32 ∧
      ∀ n, n < 32 → s.chip.on (Reg.WR_OMAP.USED n) = true → s.chip.on (Reg.WR_OMAP.SIGNAL n) = true →
        (t.lat.sperm.get (s.chip.get (Reg.WR_OMAP.SIGNO n)) = false → t.weir.en.get n = false) ∧
        (t.lat.sperm.get (s.chip.get (Reg.WR_OMAP.SIGNO n)) = true → v.testBit (s.chip.get (Reg.WR_OMAP.BIT n)) = true → s.chip.safe = false →
          s.chip.weir.openCheck = none → t.weir.en.get n = true))) ∧
  (∀ s : State, s.chip.lat.pend = none ∨ s.chip.lat.passed = [] → Completes .latticeCommit s (fun t => t = s.chip)) ∧
  (∀ (w : Nat) (s : State), s.chip.weir.off = false → s.chip.get Reg.LAT_STAT.SWEEP = 1 →
    (∀ k, k < 33 → (s.chip.get Reg.LAT_STAT.ROUTE * 40 + k) ∉ s.chip.activeBad) →
    (let r := s.chip.get Reg.LAT_STAT.ROUTE
     let fails := s.chip.lat.perm.get r = true ∧ routeFails s.chip.activeBank s.chip.lat.lock s.chip.field r ≠ none
     Completes (.sweepEval 0 w) s (fun t => t.now = s.chip.now + 33 ∧ t.get Reg.LAT_STAT.ROUTE = (r + 1) % 2048 ∧ t.lat.lock = s.chip.lat.lock ∧
      t.field = s.chip.field ∧ (∀ q, q ≠ r → t.lat.perm.get q = s.chip.lat.perm.get q) ∧
      (fails → t.lat.perm.get r = false ∧ t.lat.sperm = Rails.ofWord 2048 (spermOf s.chip.activeBank t.lat.perm.word) ∧
        t.get Reg.LAT_WDRAW.COUNT = (s.chip.get Reg.LAT_WDRAW.COUNT + 1) % 2 ^ 32) ∧
      (¬ fails → t.lat.perm = s.chip.lat.perm ∧ t.lat.sperm = s.chip.lat.sperm ∧ t.get Reg.WR_EN.EN = s.chip.get Reg.WR_EN.EN)))) ∧
  (∀ (w : Nat) (s : State), s.chip.weir.off = false → s.chip.unlatched = true → Completes (.sweepEval 2 w) s (fun t => t.safeWith 14 = true)) ∧
  (∀ s : State, s.chip.weir.off = false → s.chip.unlatched = true → s.chip.get Reg.LAT_STAT.SWEEP = 1 →
    Completes .sweepPassTimeout s (fun t => t.safeWith 14 = true ∧ s.chip.lat.passStart + 70000 ≤ t.now))

/-- GATE_QUERY, GATE_VERDICT, VERDICT_RECEIVE, PERMISSION_RETURN (R210 to R214; 12 R361). -/
def Obligations.LatticeGates : Prop :=
  (∀ (q : List Nat) (rest : List (List Nat)) (s : State), s.chip.link.queries = q :: rest →
    Completes .gateQuery s (fun t => t.link.queries = rest ∧ t.lat.queries = s.chip.lat.queries ++ [q.take 64] ∧
      t.get Reg.LAT_DENIALS.COUNT = (s.chip.get Reg.LAT_DENIALS.COUNT + (if 64 < q.length then 1 else 0)) % 2 ^ 32 ∧
      (64 < q.length → t.get Reg.LAT_DENY_LAST.REASON = 8))) ∧
  (∀ (q : List Nat) (rest : List (List Nat)) (s : State), s.chip.lat.queries = q :: rest → s.chip.lat.committed ≠ 0 → s.chip.safe = false →
    Completes .gateVerdict s (fun t => t.lat.queries = rest ∧ t.lat.committed + 1 = s.chip.lat.committed ∧
      ∃ v : List Bool, t.link.verdicts = s.chip.link.verdicts ++ [v] ∧ v.length = q.length ∧
        ∀ k c : Nat, q[k]? = some c → (v[k]? = some true ↔ ((gateEntry s.chip.activeBank c).testBit 31 = true ∧
          ((bits (gateEntry s.chip.activeBank c) 30 29 = 0 ∧ s.chip.lat.sperm.get (gateEntry s.chip.activeBank c % 2048) = true) ∨
           (bits (gateEntry s.chip.activeBank c) 30 29 = 1 ∧ s.chip.lat.perm.get (gateEntry s.chip.activeBank c % 2048) = true)))))) ∧
  (∀ (c : Nat) (rest : List (List Nat)) (s : State), s.chip.lat.queries = [c] :: rest → s.chip.lat.committed ≠ 0 → s.chip.safe = false →
    (let report := s.chip.gateGo c = false ∧ s.chip.lat.lastDeny.testBit c = false
     Completes .gateVerdict s (fun t => t.lat.lastDeny.testBit c = !s.chip.gateGo c ∧
      (report → t.lat.deniedGates.testBit c = true ∧ t.get Reg.LAT_DENIALS.COUNT = (s.chip.get Reg.LAT_DENIALS.COUNT + 1) % 2 ^ 32 ∧ t.get Reg.LAT_DENY_LAST.REASON = 7) ∧
      (¬ report → t.lat.deniedGates = s.chip.lat.deniedGates ∧ t.regs = s.chip.regs)))) ∧
  (∀ s : State, s.chip.safe = true ∨ s.chip.lat.queries = [] → Completes .gateVerdict s (fun t => t = s.chip)) ∧
  (∀ (v : List Bool) (vs : List (List Bool)) (res : Nat) (rest : List Nat) (s : State), s.chip.link.verdicts = v :: vs → s.chip.zst.awaiting = res :: rest →
    Completes .verdictReceive s (fun t => t.link.verdicts = vs ∧ t.zst.awaiting = rest ∧ t.zst.txq = s.chip.zst.txq.map (applyVerdict res v) ∧
      ∀ (f : TxFrame) (pos : Nat), f.gate = .waiting res pos → applyVerdict res v [f] = (if v.getD pos false = true then [{ f with gate := .go }] else []))) ∧
  (∀ (r : PermReturn) (s : State), s.chip.lat.capture = some r →
    Completes .permissionReturn s (fun t => t.lat.capture = none ∧ t.lat.buffer = r ∧ t.lat.buffer.bytes.length = 0x480 ∧
      leAt t.lat.buffer.bytes 0 4 = r.seq % 2 ^ 32 ∧ leAt t.lat.buffer.bytes 0x20 256 = r.perm % 2 ^ 2048 ∧
      leAt t.lat.buffer.bytes 0x120 256 = r.lock % 2 ^ 2048 ∧ leAt t.lat.buffer.bytes 0x220 256 = r.sperm % 2 ^ 2048 ∧
      leAt t.lat.buffer.bytes 0x320 256 = r.deniedRoutes % 2 ^ 2048 ∧ leAt t.lat.buffer.bytes 0x420 64 = r.deniedGates % 2 ^ 512 ∧ t.regs = s.chip.regs))

/-- LOAD_BEGIN, LOAD_END, COPY, COPY_CAPTURE_START, COPY_DONE, VERIFY, VERIFY_DONE, STANDBY_WRITE, LAT_SWAP_ARM. -/
def Obligations.StandbyBank : Prop :=
  (∀ (c : Instr) (ok : List Nat) (st : Nat), (c, ok, st) ∈ [(Instr.loadBegin, [0, 3, 5, 6], 1), (Instr.loadEnd, [1], 3), (Instr.copy, [0, 3, 5, 6], 2), (Instr.verify, [3, 6], 4)] →
    ∀ s : State, s.chip.attends 0x50006000 = true →
    Completes c s (fun t => t.standbyBank = s.chip.standbyBank ∧ t.activeBank = s.chip.activeBank ∧
      if s.chip.sbState ∈ ok then t.sbState = st ∧ t.get Reg.LAT_STAT.CMD_ERR = 0 else t.sbState = s.chip.sbState ∧ t.get Reg.LAT_STAT.CMD_ERR = 1)) ∧
  (∀ s : State, Completes .copyCaptureStart s (fun t => t.regs = s.chip.regs ∧
    (t.lat.copyWaits = true ↔ (s.chip.lat.copyWaits = true ∧ ¬ (s.chip.sbState = 2 ∧ s.chip.get Reg.LAT_STAT.ROUTE = 0))))) ∧
  (∀ (w : Nat) (s : State), s.chip.sbState = 2 → s.chip.lat.copyWaits = false →
    Completes (.copyDone 0 w) s (fun t => t.sbState = 3 ∧ t.activeBank = s.chip.activeBank ∧
      (∀ r k, r < 2048 → k < 40 → routeWord t.standbyBank r k = (if k < 33 then routeWord s.chip.activeBank r k else 0)) ∧
      (∀ i, 81920 ≤ i → i < 82176 → bankWord t.standbyBank i = bankWord s.chip.activeBank i) ∧
      ∀ i, 82176 ≤ i → bankWord t.standbyBank i = bankWord s.chip.standbyBank i)) ∧
  (∀ (w : Nat) (s : State), s.chip.sbState = 4 →
    Completes (.verifyDone 0 w) s (fun t => t.activeBank = s.chip.activeBank ∧ t.standbyBank = s.chip.standbyBank ∧ t.get Reg.LAT_CVC.CVC = bankCheck s.chip.standbyBank % 2 ^ 64 ∧
      t.sbState = (if scanBank s.chip.standbyBank s.chip.standbyBad = none ∧ bankCheck s.chip.standbyBank = s.chip.get Reg.LAT_CV.CV then 5 else 6) ∧
      ∀ r, t.lat.changed.testBit r = (decide (r < 2048) && routeChanged s.chip.activeBank s.chip.standbyBank r))) ∧
  (∀ (a : Nat) (b : List Byte) (s : State), 0x50400000 ≤ a → a < 0x50800000 → s.chip.standbyOpen = true → (b.length = 4 ∧ a % 4 = 0) ∨ (b.length = 32 ∧ a % 32 = 0) →
    Completes (.standbyWrite 7 a b) s (fun t => t.resp = .ok ∧
      (if a - 0x50400000 < 0x282000 then bankField t.standbyBank (a - 0x50400000) (8 * b.length) = leNat b else t.standbyBank = s.chip.standbyBank) ∧
      (∀ i, i ≠ (a - 0x50400000) / 32 → bankWord t.standbyBank i = bankWord s.chip.standbyBank i) ∧ t.activeBank = s.chip.activeBank ∧
      t.sbState = (if s.chip.sbState = 5 ∨ s.chip.sbState = 6 then 3 else s.chip.sbState))) ∧
  (∀ (req a : Nat) (b : List Byte) (s : State), 0x50400000 ≤ a → a < 0x50800000 → req ≠ 7 →
    Completes (.standbyWrite req a b) s (fun t => t.resp = .error ∧ t.get (Reg.BLK_ERR.PLANE 0x50006000) = 1 ∧ t.standbyBank = s.chip.standbyBank ∧ t.activeBank = s.chip.activeBank)) ∧
  (∀ (arm : Bool) (s : State), s.chip.attends 0x50006000 = true →
    (let late := s.chip.get Reg.LAT_SWAP_AT.AT = s.chip.get Reg.WR_SNAPCNT.COUNT ∨
        2 ^ 31 ≤ (s.chip.get Reg.LAT_SWAP_AT.AT + 2 ^ 32 - s.chip.get Reg.WR_SNAPCNT.COUNT) % 2 ^ 32
     Completes (.latSwapArm arm) s (fun t => t.sbState = s.chip.sbState ∧
      (arm = false → t.get Reg.LAT_SWAP.ARM = 0 ∧ t.get Reg.LAT_SWAP.RESULT = s.chip.get Reg.LAT_SWAP.RESULT) ∧
      (arm = true → s.chip.sbState = 5 → ¬ late → t.get Reg.LAT_SWAP.ARM = 1) ∧
      (arm = true → s.chip.sbState = 5 → late → t.get Reg.LAT_SWAP.ARM = 0 ∧ t.get Reg.LAT_SWAP.RESULT = 6) ∧
      (arm = true → s.chip.sbState ≠ 5 → t.get Reg.LAT_SWAP.ARM = 0 ∧ t.get Reg.LAT_SWAP.RESULT = (if s.chip.sbState ∈ [1, 2, 4] then 3 else 2)))))

/-- SNAPSHOT_HANDOVER, TASK_DISPATCH, APP_TRAP, TASK_DELIVERY (R233 to R244). -/
def Obligations.RuntimeCycle : Prop :=
  (∀ (c : Nat) (s : State), c < 3 → s.chip.chState c = 3 → s.chip.linkReady c = true → s.chip.lat.buffer.seq = s.chip.get Reg.WR_SNAPCNT.COUNT →
    ((s.chip.run c).begun = false ∨ (s.chip.run c).buf.count ≠ s.chip.get Reg.WR_SNAPCNT.COUNT) →
    Completes (.snapshotHandover c) s (fun t => (t.run c).buf.count = s.chip.get Reg.WR_SNAPCNT.COUNT ∧ (t.run c).buf.snap = s.chip.get Reg.WR_SNAP.SNAP ∧
      (t.run c).prev = (s.chip.run c).buf ∧
      (s.chip.sin.result.time = s.chip.get Reg.WR_SNAP.SNAP / 1000 * 1000 → (t.run c).buf.sinVal = s.chip.sin.result.val ∧ (t.run c).buf.sinStat = s.chip.sin.result.stat) ∧
      (s.chip.sout.sampled.1 = s.chip.get Reg.WR_SNAP.SNAP / 1000 * 1000 → (t.run c).buf.readback = s.chip.sout.sampled.2) ∧
      (t.run c).buf.perm = s.chip.lat.buffer ∧ (t.run c).buf.cmds = s.chip.gate.placed ∧
      (t.run c).begun = true ∧ (t.chan c).mailbox = some (s.chip.get Reg.WR_SNAPCNT.COUNT) ∧ (t.cic.get c).pend.testBit 120 = true)) ∧
  (∀ (c : Nat) (s : State), s.chip.chState c ≠ 3 ∨ s.chip.lat.buffer.seq ≠ s.chip.get Reg.WR_SNAPCNT.COUNT ∨ s.chip.linkReady c = false →
    Completes (.snapshotHandover c) s (fun t => t = s.chip)) ∧
  (∀ (c k n : Nat) (calls : List BlkCall) (s : State), c < 3 → s.chip.logicReady c = true → k < s.chip.nTask c → (s.chip.run c).tasks.length = 8 →
    (s.chip.task c k).release = some n → (s.chip.task c k).done = false → (s.chip.task c k).reached = none → (∀ j, j < k → s.chip.hasWork c j = false) →
    (let b := if ((s.chip.run c).buf.count + n) % 2 = 0 then (s.chip.run c).buf else (s.chip.run c).prev
     Completes (.taskDispatch c { calls := calls }) s (fun t => (t.task c k).done = true ∧
      (t.task c k).input = { b with rx := b.rx.filter (fun e => (s.chip.connRec c e.1).task == k) } ∧ (t.task c k).view = (s.chip.run c).shared ∧
      (t.task c k).release = some n ∧ (∀ j, j ≠ k → t.task c j = s.chip.task c j) ∧ (t.run c).seq = (s.chip.run c).seq) ∧
     Completes (.taskDispatch c { calls := calls, preempted := true }) s (fun t => (t.task c k).done = false ∧ (t.task c k).reached.isSome = true ∧
      (t.task c k).release = some n ∧ (∀ j, j ≠ k → t.task c j = s.chip.task c j) ∧ (t.run c).seq = (s.chip.run c).seq))) ∧
  (∀ (c : Nat) (o : DispatchOp) (d : DeliveryOp) (s : State), s.chip.runs c = false →
    Completes (.taskDispatch c o) s (fun t => t = s.chip) ∧ Completes (.taskDelivery c d) s (fun t => t = s.chip)) ∧
  (∀ (c k mcause mepc key : Nat) (s : State), c < 3 → s.chip.runs c = true →
    Completes (.appTrap c k mcause mepc key) s (fun t => t.runs c = false ∧ (t.run c).tasks = (s.chip.run c).tasks ∧ (t.run c).seq = (s.chip.run c).seq ∧
      ∀ d, d ≠ c → d < 3 → t.run d = s.chip.run d)) ∧
  (∀ (c k img : Nat) (sends : List SendOp) (s : State), c < 3 → s.chip.logicReady c = true → s.chip.dueTask c = some k → (s.chip.run c).tasks.length = 8 →
    (s.chip.run c).confirmed = true → s.chip.get Reg.LAT_CFG.REQ_CNT = 0 → s.chip.get Reg.LAT_CFG.UPD_CNT = 0 → s.chip.get Reg.WR_CFG.STEER_EN = 0 →
    (∀ n, n < 32 → s.chip.get (Reg.SOUT_CFG.TT n) = 0) →
    (let own := s.chip.driven c k img &&& (s.chip.app c).ownMask (s.chip.sram c) k
     Completes (.taskDelivery c { img := img, applies := [], sends := sends }) s (fun t => (t.run c).seq = (s.chip.run c).seq + 1 ∧ (t.task c k).release = none ∧
      (t.task c k).image = own ∧ ∃ o, (t.run c).out = some o ∧ o.hdr = (s.chip.run c).seq % 2 ^ 24 * 256 + k ∧
        ∀ n, o.img.testBit n = (own.testBit n || (List.range 8).any (fun j => j != k && (s.chip.task c j).image.testBit n)))))

/-- The library blocks that TASK_DISPATCH calls (R249 to R251, R637; 08 R276). -/
def Obligations.LibraryBlocks : Prop :=
  (∀ (now : Nat) (sb : SnapBuf) (dr : Nat → Bool) (b : Blk) (pt : Nat), 0 < pt → pt ≤ (2 ^ 31 - 1) * 100000 → b.fresh = false → b.carried = false →
    (let off := (blkCall now sb dr b (.ton false pt)).blk
     let on := (blkCall now sb dr b (.ton true pt)).blk
     off.st = 0 ∧ off.q = false ∧ off.et = 0 ∧
     (b.st = 0 → on.st = 1 ∧ on.q = false ∧ on.deadline = now + pt ∧ on.et = 0) ∧
     (b.st = 1 → (now : Int) < b.deadline → on.st = 1 ∧ on.q = false ∧ on.deadline = b.deadline ∧ on.et = now - (b.deadline - pt)) ∧
     (b.st = 1 → b.deadline ≤ now → on.st = 2 ∧ on.q = true ∧ on.et = pt) ∧
     (b.st = 2 → on.st = 2 ∧ on.q = true)) ∧
    (let on := (blkCall now sb dr b (.tof true pt)).blk
     let off := (blkCall now sb dr b (.tof false pt)).blk
     on.q = true ∧ on.st = 2 ∧ (b.st = 2 → off.st = 1 ∧ off.q = true ∧ off.deadline = now + pt) ∧
     (b.st = 1 → (off.q = true ↔ (now : Int) < b.deadline)) ∧ (b.st = 0 → off.q = false)) ∧
    (let x := fun (i : Bool) => (blkCall now sb dr b (.tp i pt)).blk
     (b.st = 0 → b.m1 = some false → (x true).q = true ∧ (x true).deadline = now + pt) ∧
     (b.st = 0 → b.m1 = some true → (x true).q = false) ∧ (∀ i, b.st = 1 → ((x i).q = true ↔ (now : Int) < b.deadline)) ∧ ∀ i, (x i).m1 = some i)) ∧
  (∀ (now : Nat) (sb : SnapBuf) (dr : Nat → Bool) (b : Blk) (pt : Int), (pt < 0 ∨ (2 ^ 31 - 1) * 100000 < pt) →
    (blkCall now sb dr b (.ton true pt)).events = (if b.badPt then [] else [(0x11, [b.key, pattern 64 pt])]) ∧ (blkCall now sb dr b (.ton true pt)).blk.badPt = true ∧
    ptTicks pt = (if pt < 0 then 0 else (2 ^ 31 - 1) * 100000)) ∧
  (∀ (now : Nat) (sb : SnapBuf) (dr : Nat → Bool) (b : Blk) (x : Bool),
    (blkCall now sb dr b (.rTrig x)).blk.q = (x && b.m1 == some false) ∧ (blkCall now sb dr b (.fTrig x)).blk.q = (!x && b.m1 == some true) ∧
    (blkCall now sb dr b (.rTrig x)).blk.m1 = some x ∧ (blkCall now sb dr b (.fTrig x)).blk.m1 = some x) ∧
  (∀ (now : Nat) (sb : SnapBuf) (dr : Nat → Bool) (b : Blk) (x : Bool) (pv : Int),
    (blkCall now sb dr b (.ctu x true pv)).blk.cv = 0 ∧
    (blkCall now sb dr b (.ctu x false pv)).blk.cv = (if x = true ∧ b.m1 = some false ∧ b.cv < 32767 then b.cv + 1 else b.cv) ∧
    ((blkCall now sb dr b (.ctu x false pv)).blk.q = true ↔ pv ≤ (blkCall now sb dr b (.ctu x false pv)).blk.cv) ∧
    (blkCall now sb dr b (.ctd x true pv)).blk.cv = pv ∧
    (blkCall now sb dr b (.ctd x false pv)).blk.cv = (if x = true ∧ b.m1 = some false ∧ -32768 < b.cv then b.cv - 1 else b.cv) ∧
    ((blkCall now sb dr b (.ctd x false pv)).blk.q = true ↔ (blkCall now sb dr b (.ctd x false pv)).blk.cv ≤ 0)) ∧
  (∀ (now : Nat) (sb : SnapBuf) (dr : Nat → Bool) (b : Blk) (x y : Bool) (o : SignalOut),
    (blkCall now sb dr b (.sr x y)).blk.q = (x || (!y && b.q)) ∧ (blkCall now sb dr b (.rs x y)).blk.q = (!y && (x || b.q)) ∧
    (let g := (blkCall now sb dr b (.signal x y o)).blk
     g.q = (x && y && (b.q || b.m1 == some false)) ∧ g.m1 = some x ∧ (∀ n, o = .bit n → g.drives = [(n, g.q)]) ∧ ∀ n, o = .zst n → g.gate = some (n, g.q))) ∧
  (∀ (now : Nat) (sb : SnapBuf) (dr : Nat → Bool) (b : Blk) (n pos i j : Nat) (dv : List Nat),
    (let o := blkCall now sb dr b (.point n (.pair i j) pos dv)
     let ok := sb.sinStat.testBit i && sb.sinStat.testBit j
     o.obj = some (⟨0, n⟩, if ok && sb.sinVal.testBit i && !sb.sinVal.testBit j then 1 else if ok && sb.sinVal.testBit j && !sb.sinVal.testBit i then 2 else 0) ∧
     (o.blk.q = true ↔ pos = 1 ∧ o.blk.value ≠ 1) ∧ (o.blk.r = true ↔ pos = 2 ∧ o.blk.value ≠ 2))) ∧
  (∀ (now conn i n pos flt : Nat) (sb : SnapBuf) (dr : Nat → Bool) (b : Blk) (dv ks : List Nat), (sb.payload conn).2 = false →
    (blkCall now sb dr b (.point n (.zst conn i) pos dv)).obj = some (⟨0, n⟩, 0) ∧ (blkCall now sb dr b (.chainSection n (.zst conn i))).obj = some (⟨1, n⟩, 0) ∧
    (blkCall now sb dr b (.psdEdge n (.zst conn i) ks)).obj = some (⟨2, n⟩, 0) ∧ (blkCall now sb dr b (.doorUnit (.zst conn i) flt)).blk.q = false) ∧
  (∀ (now n i : Nat) (sb : SnapBuf) (dr : Nat → Bool) (b : Blk) (ks : List Nat),
    (let ok := sb.sinVal.testBit i && sb.sinStat.testBit i
     (blkCall now sb dr b (.chainSection n (.input i))).obj = some (⟨1, n⟩, if ok then 1 else 0) ∧
     (blkCall now sb dr b (.psdEdge n (.input i) ks)).obj = some (⟨2, n⟩, if ok && ks.all dr then 1 else 0))) ∧
  (∀ (now : Nat) (sb : SnapBuf) (dr : Nat → Bool) (b : Blk) (n : Nat) (set rel : Bool), n < 2048 → b.fresh = false → b.carried = false → b.m1 = some false → b.m2 = some false →
    (let o := blkCall now sb dr b (.route n set rel)
     o.reqs = (if set then [2 ^ 31 + 2 ^ 29 + n] else []) ++ (if rel then [2 ^ 31 + 2 ^ 30 + n] else []) ∧
     o.blk.locked = sb.perm.lock.testBit n ∧ o.blk.r = sb.perm.perm.testBit n ∧ o.blk.m3 = some (sb.perm.deniedRoutes.testBit n))) ∧
  (∀ (now pt : Nat) (sb : SnapBuf) (dr : Nat → Bool) (b : Blk), pt ≤ (2 ^ 31 - 1) * 100000 → b.fresh = false → b.carried = true → b.st = 1 → b.ptSt ≠ pt →
    (now : Int) < b.deadline - b.ptSt + pt →
    (let o := (blkCall now sb dr b (.ton true pt)).blk
     o.deadline = b.deadline - b.ptSt + pt ∧ o.ptSt = pt ∧ o.et = now - (b.deadline - b.ptSt) ∧ o.carried = false))

/-- The commands that the gate queues for the runtime (01 R24, R25; Tables 8.1, 8.2, 20.2). -/
def Obligations.GateQueue : Prop :=
  (∀ (tag cv a b d e f w k : Nat) (data key : List Byte) (s : State), s.chip.boot.recovery = false → s.chip.svc.connected = true → s.chip.get Reg.WR_STAT.MAINT = 1 → s.chip.gate.queue.length < 64 →
    data.length ≤ 40 → key.length = 16 → s.chip.com.identOk.all (fun b => b) = true →
    ∀ c ∈ ([(.olcBegin true tag cv, 0x0101, fun _ => True),
      (.olcLoad true tag cv a b data, 0x0102, fun x => x.arg 16 1 = a % 256 ∧ x.arg 17 1 = data.length ∧ x.arg 20 4 = b % 2 ^ 32 ∧ (x.args.drop 8).take data.length = data),
      (.olcPrepare true tag cv a b d e f, 0x0103, fun x => x.arg 16 8 = a % 2 ^ 64 ∧ x.arg 24 8 = b % 2 ^ 64 ∧ x.arg 32 8 = d % 2 ^ 64 ∧ x.arg 40 4 = e % 2 ^ 32 ∧ x.arg 44 4 = f % 2 ^ 32),
      (.olcSwap true tag cv a b, 0x0104, fun x => x.arg 16 8 = a % 2 ^ 64 ∧ x.arg 24 4 = b % 2 ^ 32),
      (.olcAbort true tag cv, 0x0105, fun _ => True),
      (.forceSet true tag cv a b d e w k f, 0x0201, fun x => x.arg 16 4 = a % 2 ^ 32 ∧ x.arg 20 4 = b % 2 ^ 32 ∧ x.arg 24 4 = d % 2 ^ 32 ∧ x.arg 28 2 = e % 2 ^ 16 ∧
        x.arg 30 1 = w % 256 ∧ x.arg 31 1 = k % 256 ∧ x.arg 32 8 = f % 2 ^ 64),
      (.forceClear true tag cv a, 0x0202, fun x => x.arg 16 4 = a % 2 ^ 32),
      (.forceClearAll true tag cv, 0x0203, fun _ => True),
      (.errInject true tag cv a b, 0x0601, fun x => x.arg 16 4 = a % 2 ^ 32 ∧ x.arg 20 4 = b % 2 ^ 32),
      (.sinReset true tag cv a, 0x0301, fun x => x.arg 16 8 = a % 2 ^ 64),
      (.soutReset true tag cv a, 0x0302, fun x => x.arg 16 2 = a % 2 ^ 16),
      (.percFuseCmd true tag cv a b d, 0x0303, fun x => x.arg 16 1 = a % 256 ∧ x.arg 17 1 = b % 256 ∧ x.arg 18 1 = d % 256),
      (.cfgConfirm true tag cv, 0x0401, fun _ => True),
      (.keyLoad true tag cv a b key d, 0x0402, fun x => x.arg 16 2 = a % 2 ^ 16 ∧ x.arg 18 1 = b % 256 ∧ (x.args.drop 4).take 16 = key ∧ x.arg 36 4 = d % 2 ^ 32),
      (.keyPhase true tag cv a b d, 0x0403, fun x => x.arg 16 2 = a % 2 ^ 16 ∧ x.arg 18 1 = b % 256 ∧ x.arg 19 1 = d % 256),
      (.fwCancel true tag cv, 0x0405, fun _ => True)] : List (Instr × Nat × (GateEntry → Prop))),
    Completes c.1 s (fun t => t.resp = .ok ∧ t.regs = s.chip.regs ∧ ∃ x, t.gate.queue = s.chip.gate.queue ++ [x] ∧ x.code = c.2.1 ∧ x.tag = tag ∧ x.cv = cv ∧ c.2.2 x)) ∧
  (∀ (tag cv slot at' digest : Nat) (s : State), s.chip.boot.recovery = false → s.chip.svc.connected = true → s.chip.get Reg.WR_STAT.MAINT = 1 → s.chip.gate.queue.length < 64 →
    slot ≤ 1 → slot ≠ s.chip.com.run → (s.chip.com.slots.getD slot {}).state = 2 → (s.chip.com.slots.getD slot {}).digest = digest →
    Completes (.fwActivate true tag cv slot at' digest) s (fun t => t.resp = .ok ∧ ∃ x, t.gate.queue = s.chip.gate.queue ++ [x] ∧ x.code = 0x0404 ∧
      x.arg 16 1 = slot ∧ x.arg 24 8 = at' % 2 ^ 64)) ∧
  (∀ (tag cv : Nat) (svc : Bool) (s : State), svc = false ∨ s.chip.svc.connected = false ∨ s.chip.get Reg.WR_STAT.MAINT = 0 →
    (s.chip.boot.recovery = false → s.chip.staged 26 = false → Completes (.olcBegin svc tag cv) s (fun t => t.resp = .error ∧ t.gate = s.chip.gate ∧
      t.reports 26 1 [0x0101, tag, if svc = true ∧ s.chip.svc.connected = true then 2 else 1] = true)) ∧
    Completes (.forceClearAll svc tag cv) s (fun t => t.resp = .error ∧ t.gate = s.chip.gate)) ∧
  (∀ (tag cv : Nat) (s : State), s.chip.boot.recovery = false → s.chip.svc.connected = true → s.chip.get Reg.WR_STAT.MAINT = 1 → 64 ≤ s.chip.gate.queue.length →
    Completes (.olcAbort true tag cv) s (fun t => t.resp = .busy ∧ t.gate = s.chip.gate)) ∧
  (∀ (tag cv slot at' digest : Nat) (s : State),
    (s.chip.com.identOk.all (fun b => b) = false → Completes (.cfgConfirm true tag cv) s (fun t => t.resp = .error ∧ t.gate = s.chip.gate)) ∧
    (1 < slot ∨ slot = s.chip.com.run ∨ (s.chip.com.slots.getD slot {}).state ≠ 2 ∨ (s.chip.com.slots.getD slot {}).digest ≠ digest →
      Completes (.fwActivate true tag cv slot at' digest) s (fun t => t.resp = .error ∧ t.gate = s.chip.gate ∧ t.com = s.chip.com)))

/-- The staging and forcing commands (R262 to R268, R278 to R280). -/
def Obligations.RuntimeCommands : Prop :=
  (∀ (u : Chip) (c : Nat) (e : GateEntry), c < 3 → e.cv ≠ (u.run c).cv →
    (let t := u.cmdProcess c e
     t.rt = u.rt ∧ t.chans = u.chans)) ∧
  (∀ (u : Chip) (c : Nat) (e : GateEntry), c < 3 → e.cv = (u.run c).cv →
    (let t := u.cmdProcess c e
     let g := (u.run c).stg
     (e.code = 0x0101 → (t.run c).stg.st = (if g.st = 3 then 3 else 1) ∧ t.chans = u.chans) ∧
     (e.code = 0x0105 → (t.run c).stg.st = (if g.st = 2 then 0 else g.st)) ∧
     (e.code = 0x0102 → g.st ≠ 1 → t.rt = u.rt ∧ t.chans = u.chans) ∧
     (e.code = 0x0102 → g.st = 1 → e.arg 16 1 = 0 → 1 ≤ e.arg 17 1 → e.arg 17 1 ≤ 40 → e.args.length = 48 → e.arg 20 4 + e.arg 17 1 ≤ 0x200000 →
       (t.run c).stg = g ∧ ∀ a, memRead (t.sram c) a =
         (let base := bankBase (1 - (u.run c).bank) + e.arg 20 4
          if base ≤ a ∧ a < base + e.arg 17 1 then e.args.getD (8 + (a - base)) 0 else memRead (u.sram c) a)) ∧
     (e.code = 0x0102 → g.st = 1 → e.arg 16 1 = 0 → 0x200000 < e.arg 20 4 + e.arg 17 1 → t.rt = u.rt ∧ t.chans = u.chans) ∧
     (e.code = 0x0104 → g.st = 2 →
       (let ahead := (e.arg 24 4 + 2 ^ 32 - (u.run c).buf.count % 2 ^ 32) % 2 ^ 32
        if e.arg 16 8 = g.cv ∧ e.arg 24 4 % u.hyper c = 0 ∧ 20 ≤ ahead ∧ ahead ≤ 2 ^ 20 ∧ (u.run c).buf.perm.sbState = 5 ∧ (∀ f ∈ (u.run c).forces, u.dropsKey c f.ikey = false)
        then (t.run c).stg.st = 3 ∧ (t.run c).stg.swapAt = e.arg 24 4 ∧ (0x5000605C, e.arg 24 4) ∈ (t.run c).writes ∧ (0x50006060, 1) ∈ (t.run c).writes
        else t.rt = u.rt)) ∧
     (e.code = 0x0201 → (u.run c).buf.maint = false → t.rt = u.rt) ∧
     (e.code = 0x0202 → ∀ f, f ∈ (t.run c).forces ↔ (f ∈ (u.run c).forces ∧ f.vkey ≠ e.arg 16 4)) ∧
     (e.code = 0x0203 → (t.run c).forces = []))) ∧
  (∀ (u : Chip) (c : Nat) (e : GateEntry) (d : AppDesc), c < 3 → e.cv = (u.run c).cv → e.code = 0x0201 → (u.run c).buf.maint = true → (u.run c).stg.st ≠ 3 →
    ((u.app c).descs (u.sram c)).find? (fun x => x.key == e.arg 20 4 && x.sig == e.arg 24 4) = some d → e.arg 30 1 = 32 → e.arg 28 2 % 4 = 0 → e.arg 28 2 + 4 ≤ d.size →
    (let t := u.cmdProcess c e
     let f : Force := ⟨e.arg 16 4, e.arg 20 4, e.arg 24 4, e.arg 28 2, 32, e.arg 31 1, e.arg 32 8, e.tag⟩
     ((u.run c).forces.any (fun x => x.vkey == f.vkey) = true → f ∈ (t.run c).forces ∧ (t.run c).forces.length = (u.run c).forces.length) ∧
     ((u.run c).forces.any (fun x => x.vkey == f.vkey) = false → (u.run c).forces.length < 128 → (t.run c).forces = (u.run c).forces ++ [f]) ∧
     ((u.run c).forces.any (fun x => x.vkey == f.vkey) = false → 128 ≤ (u.run c).forces.length → t.rt = u.rt)))

/-- SIN_SAMPLE, SIN_EDGE, SIN_FILTER_EXPIRY, SIN_DISC_TIMEOUT, SIN_UNLOCK_WRITE (R285 to R311). -/
def Obligations.SafeInputSampling : Prop :=
  (∀ (time : Nat) (last : Option Nat),
    (let x := sampleNext time last
     x % 1000 = 0 ∧ time ≤ x ∧ (∀ p, last = some p → p < x) ∧ x < max time (match last with
      | some p => p + 1
      | none => 0) + 1000)) ∧
  (∀ (n : Nat) (s : State), n < 64 → s.chip.weir.off = false → s.chip.awake = true →
    s.chip.sinUsed n = true → s.chip.sinPair n = 0 → (s.chip.sinIn n).armed = false → s.chip.get (Reg.SIN_CFG.FILT n) = 0 →
    s.chip.get Reg.SIN_UNLOCK.REQ = 0 → s.chip.sin.ackMask = 0 →
    Completes .sinSample s (fun t => t.sin.lastSample = some t.sampleTime ∧ s.chip.reaches s.chip.nextSample t ∧
      (s.chip.clockOk = true → s.chip.weir.time < 2 ^ 62 → s.chip.nextSample < 2 ^ 62 → t.sampleTime = s.chip.nextSample) ∧
      t.on (Reg.SIN_ST.RAW n) = (s.chip.sinIn n).level ∧ t.on (Reg.SIN_ST.FILT n) = (s.chip.sinIn n).level ∧
      (s.chip.get (Reg.SIN_ST.STATE n) = 2 → t.get (Reg.SIN_ST.STATE n) = 2 ∧ (t.get Reg.SIN_LOG.VAL).testBit n = (s.chip.sinIn n).level) ∧
      (s.chip.get (Reg.SIN_ST.STATE n) = 3 → t.get (Reg.SIN_ST.STATE n) = 3 ∧ (t.get Reg.SIN_LOG.VAL).testBit n = (s.chip.get Reg.SIN_LOG.VAL).testBit n))) ∧
  (∀ s : State, s.chip.awake = false → Completes .sinSample s (fun t => t = s.chip)) ∧
  (∀ (n dt : Nat) (level : Bool) (s : State), n < s.chip.sin.ins.length →
    Completes (.sinEdge n level dt) s (fun t => t.now = s.chip.now + dt ∧ t.regs = s.chip.regs ∧ (t.sinIn n).level = level ∧
      (if (s.chip.sinIn n).level = level then t.sinIn n = s.chip.sinIn n
       else (t.sinIn n).trans = (s.chip.sinIn n).trans + 1 ∧ (t.sinIn n).lastTrans = t.weirTime) ∧ ∀ m : Nat, m ≠ n → t.sinIn m = s.chip.sinIn m)) ∧
  (∀ (c : Instr) (due : Nat) (s : State),
    (∃ n stamp, c = .sinFilterExpiry n ∧ (s.chip.sinIn n).change = some stamp ∧ s.chip.sinUsed n = true ∧
      due = sampleAt (stamp + s.chip.get (Reg.SIN_CFG.FILT (s.chip.sinHead n)) * 1000)) ∨
    (∃ k d, c = .sinDiscTimeout k ∧ s.chip.sin.disc.getD k none = some d ∧ due = sampleAt (d + s.chip.get (Reg.SIN_DISC.T_DISC k) * 1000)) →
    Completes c s (fun t => (s.chip.awake = false ∨ due < s.chip.nextSample → t = s.chip) ∧
      (s.chip.awake = true → s.chip.nextSample = due → exec .sinSample s = .next { s with chip := t }) ∧
      (s.chip.awake = true → s.chip.weir.off = false → s.chip.weir.time < 2 ^ 62 → due < 2 ^ 62 → s.chip.nextSample ≤ due → due ≤ t.weir.time))) ∧
  (∀ (n stamp : Nat) (s : State), n < 64 → s.chip.weir.off = false → s.chip.sinUsed n = true → s.chip.awake = true → (s.chip.sinIn n).change = some stamp →
    (s.chip.sinIn n).armed = false → s.chip.on (Reg.SIN_ST.RAW n) ≠ s.chip.on (Reg.SIN_ST.FILT n) →
    s.chip.clockOk = true → s.chip.weir.time < 2 ^ 62 → s.chip.nextSample < 2 ^ 62 →
    s.chip.nextSample = sampleAt (stamp + s.chip.get (Reg.SIN_CFG.FILT (s.chip.sinHead n)) * 1000) →
    Completes (.sinFilterExpiry n) s (fun t => (t.sinIn n).change = none ∧
      (if (s.chip.sinIn n).level = s.chip.on (Reg.SIN_ST.RAW n) then t.on (Reg.SIN_ST.FILT n) = (s.chip.sinIn n).level ∧ (t.sinIn n).filtStamp = stamp
       else t.on (Reg.SIN_ST.FILT n) = s.chip.on (Reg.SIN_ST.FILT n) ∧ (t.sinIn n).filtStamp = (s.chip.sinIn n).filtStamp))) ∧
  (∀ (n : Nat) (s : State), (s.chip.sinIn n).change = none ∨ s.chip.sinUsed n = false ∨ s.chip.awake = false →
    Completes (.sinFilterExpiry n) s (fun t => t = s.chip)) ∧
  (∀ (k e : Nat) (u : Chip), k < 32 → u.sinPair (2 * k) ≠ 0 → u.get (Reg.SIN_ST.STATE (2 * k)) = 2 →
    (∀ i, i ∈ [2 * k, 2 * k + 1] → ((u.sinLogic (2 * k) e).get Reg.SIN_LOG.VAL).testBit i =
      (if u.sinPair (2 * k) = 2 then u.on (Reg.SIN_ST.FILT (2 * k)) && !u.on (Reg.SIN_ST.FILT (2 * k + 1))
       else u.on (Reg.SIN_ST.FILT (2 * k)) && u.on (Reg.SIN_ST.FILT (2 * k + 1))))) ∧
  (∀ (k d : Nat) (s : State), k < 32 → s.chip.weir.off = false → s.chip.sinUsed (2 * k) = true → s.chip.sinPair (2 * k) ≠ 0 → s.chip.awake = true →
    s.chip.sin.disc.getD k none = some d → s.chip.get (Reg.SIN_ST.STATE (2 * k)) ≠ 3 → (∀ j, j < 8 → (s.chip.tout j).phase = .idle) →
    s.chip.clockOk = true → s.chip.weir.time < 2 ^ 62 → s.chip.nextSample < 2 ^ 62 →
    s.chip.nextSample = sampleAt (d + s.chip.get (Reg.SIN_DISC.T_DISC k) * 1000) →
    Completes (.sinDiscTimeout k) s (fun t =>
      (∀ i, i ∈ [2 * k, 2 * k + 1] → t.get (Reg.SIN_ST.STATE i) = 3 ∧ t.get (Reg.SIN_ST.CAUSE i) = 1 ∧ (t.get Reg.SIN_LOG.VAL).testBit i = false ∧
        (t.get Reg.SIN_NORM.VAL).testBit i = false ∧ t.get (Reg.SIN_ST.DISC i) = 0) ∧
      min (s.chip.get Reg.SIN_CNT.LOCKOUTS + 1) 65535 ≤ t.get Reg.SIN_CNT.LOCKOUTS ∧ t.sin.disc.getD k none = none)) ∧
  (∀ (k : Nat) (s : State), s.chip.sin.disc.getD k none = none ∨ s.chip.awake = false →
    Completes (.sinDiscTimeout k) s (fun t => t = s.chip)) ∧
  (∀ (n e : Nat) (u : Chip), n < 64 → u.sinPair n = 0 → u.get (Reg.SIN_ST.STATE n) = 1 → (u.get Reg.SIN_LOG.VAL).testBit n = false → u.get (Reg.SIN_ST.GSTEP n) < 3 →
    (let g := u.get (Reg.SIN_ST.GSTEP n)
     let v := u.on (Reg.SIN_ST.FILT n)
     let t := u.sinLogic n e
     if g = 2 ∧ v = true then t.get (Reg.SIN_ST.STATE n) = 2 ∧ (t.get Reg.SIN_LOG.VAL).testBit n = true ∧
        t.get (Reg.SIN_PROOF.PROOF n) = (u.sinIn n).filtStamp % 2 ^ 64 ∧ (t.get Reg.SIN_NORM.VAL).testBit n = true
     else t.get (Reg.SIN_ST.STATE n) = 1 ∧ (t.get Reg.SIN_LOG.VAL).testBit n = false ∧
        t.get (Reg.SIN_ST.GSTEP n) = (if g = 0 ∧ v = true then 1 else if g = 1 ∧ v = false then 2 else g))) ∧
  (∀ (mask tag : Nat) (s : State), s.chip.attends 0x40400000 = true → mask < 2 ^ 64 →
    Completes (.sinUnlockWrite 7 mask tag) s (fun t => t.resp = .ok ∧ t.get Reg.SIN_UNLOCK.REQ = s.chip.get Reg.SIN_UNLOCK.REQ ||| mask ∧
      ∀ n : Nat, t.get (Reg.SIN_ST.STATE n) = s.chip.get (Reg.SIN_ST.STATE n))) ∧
  (∀ (req mask tag : Nat) (s : State), s.chip.attends 0x40400000 = true → req ≠ 7 →
    Completes (.sinUnlockWrite req mask tag) s (fun t => t.resp = .error ∧ t.get Reg.SIN_UNLOCK.REQ = s.chip.get Reg.SIN_UNLOCK.REQ ∧
      t.get (Reg.BLK_ERR.PLANE 0x40400000) = 1)) ∧
  (∀ (n : Nat) (u : Chip), n < 64 → u.sinPair n = 0 → u.get (Reg.SIN_ST.STATE n) = 3 → u.get Reg.SIN_UNLOCK.REQ = 2 ^ n → u.sin.ackMask = 0 →
    u.sinRequests.get Reg.SIN_UNLOCK.REQ = 0 ∧ u.sinRequests.get (Reg.SIN_ST.STATE n) =
      (if u.get (Reg.SIN_ST.RAW n) = 0 ∧ u.get (Reg.SIN_ST.FILT n) = 0 then (if u.get (Reg.SIN_CFG.STARTUP n) = 1 then 1 else 2) else 3))

/-- TOUT_DUE, TOUT_PULSE_START, TOUT_PULSE_END, TOUT_RECOVERY_END (R297 to R300). -/
def Obligations.TestPulses : Prop :=
  (∀ (j d : Nat) (s : State), j < 8 → s.chip.weir.off = false → (s.chip.tout j).due = some d → s.chip.on (Reg.TOUT_CFG.EN j) = true → s.chip.awake = true →
    s.chip.clockOk = true → d < 2 ^ 62 → s.chip.weir.time < 2 ^ 62 →
    Completes (.toutDue j) s (fun t => s.chip.reaches d t ∧ (t.tout j).waiting = true ∧ (t.tout j).due = some d ∧
      t.regs = s.chip.regs ∧ t.sin.ins = s.chip.sin.ins)) ∧
  (∀ (j : Nat) (s : State), (s.chip.tout j).due = none ∨ s.chip.on (Reg.TOUT_CFG.EN j) = false ∨ s.chip.awake = false → Completes (.toutDue j) s (fun t => t = s.chip)) ∧
  (∀ (c : Instr) (due j : Nat) (s : State),
    ((c = .toutPulseStart j ∧ s.chip.toutMayStart j = true ∧ due = s.chip.nextSample) ∨
     (c = .toutPulseEnd j ∧ (s.chip.tout j).phase = .pulse ∧ due = (s.chip.tout j).start + s.chip.get (Reg.TOUT_CFG.TP_W j) * 1000) ∨
     (c = .toutRecoveryEnd j ∧ (s.chip.tout j).phase = .recovery ∧
      due = (s.chip.tout j).start + s.chip.get (Reg.TOUT_CFG.TP_W j) * 1000 + s.chip.get (Reg.TOUT_CFG.TP_REC j) * 1000)) →
    Completes c s (fun t => (s.chip.awake = false ∨ due < s.chip.nextSample → t = s.chip) ∧
      (s.chip.awake = true → s.chip.nextSample ≤ due → due < s.chip.nextSample + 1000 → exec .sinSample s = .next { s with chip := t }) ∧
      (s.chip.awake = true → s.chip.weir.off = false → s.chip.weir.time < 2 ^ 62 → due < 2 ^ 62 → s.chip.nextSample ≤ due → due < t.weir.time + 1000))) ∧
  (∀ (j d : Nat) (s : State), j < 8 → s.chip.weir.off = false → s.chip.toutMayStart j = true → (s.chip.tout j).due = some d →
    (∀ k, k < 8 → k ≠ j → (s.chip.tout k).waiting = false ∧ (s.chip.tout k).due = none) →
    Completes (.toutPulseStart j) s (fun t => (t.tout j).phase = .pulse ∧ (t.tout j).high = false ∧ (t.tout j).waiting = false ∧ (t.tout j).start = t.sampleTime ∧
      (t.tout j).due = some (t.sampleTime + s.chip.get (Reg.TOUT_CFG.TP_INT j) * 1000000) ∧ t.get Reg.TOUT_STAT.ACTIVE = j ∧
      (t.get Reg.TOUT_STAT.FAIL).testBit j = false ∧ t.get Reg.TOUT_WAIT.WAIT = min (max (s.chip.get Reg.TOUT_WAIT.WAIT) ((t.sampleTime - d) / 1000)) 65535 ∧
      ∀ n : Nat, n < 64 → n < s.chip.sin.ins.length → s.chip.sinUsed n = true → s.chip.get (Reg.SIN_CFG.TSRC n) = j → (t.sinIn n).armed = (s.chip.sinIn n).level)) ∧
  (∀ (j : Nat) (s : State), s.chip.toutMayStart j = false → Completes (.toutPulseStart j) s (fun t => t = s.chip)) ∧
  (∀ (j k : Nat) (u : Chip), u.toutMayStart j = true → k < 8 → (u.tout k).phase = .idle ∧ (k = j ∨ (u.tout k).waiting = false ∨
    (u.tout j).due.getD 0 < (u.tout k).due.getD 0 ∨ ((u.tout j).due.getD 0 = (u.tout k).due.getD 0 ∧ j < k))) ∧
  (∀ (j : Nat) (s : State), j < 8 → s.chip.weir.off = false → s.chip.awake = true → (s.chip.tout j).phase = .pulse → s.chip.get (Reg.TOUT_CFG.TP_REC j) ≠ 0 →
    s.chip.clockOk = true → s.chip.weir.time < 2 ^ 62 → s.chip.nextSample < 2 ^ 62 →
    s.chip.nextSample = (s.chip.tout j).start + s.chip.get (Reg.TOUT_CFG.TP_W j) * 1000 →
    Completes (.toutPulseEnd j) s (fun t => (t.tout j).high = true ∧ (t.tout j).phase = .recovery ∧ s.chip.nextSample ≤ t.weir.time)) ∧
  (∀ (j : Nat) (s : State), j < 8 → s.chip.weir.off = false → s.chip.awake = true → (s.chip.tout j).phase = .recovery →
    (∀ k, k < 8 → (s.chip.tout k).waiting = false ∧ ∀ d, (s.chip.tout k).due = some d → s.chip.nextSample + 1 < d) →
    s.chip.clockOk = true → s.chip.weir.time < 2 ^ 62 → s.chip.nextSample < 2 ^ 62 →
    s.chip.nextSample = (s.chip.tout j).start + s.chip.get (Reg.TOUT_CFG.TP_W j) * 1000 + s.chip.get (Reg.TOUT_CFG.TP_REC j) * 1000 →
    Completes (.toutRecoveryEnd j) s (fun t => (t.tout j).phase = .idle ∧ t.get Reg.TOUT_STAT.ACTIVE = 15 ∧
      ∀ n : Nat, n < 64 → n < s.chip.sin.ins.length → s.chip.sinUsed n = true → s.chip.get (Reg.SIN_CFG.TSRC n) = j → (t.sinIn n).armed = false ∧
        ((s.chip.sinIn n).armed = true → (s.chip.sinIn n).lowInPulse = true → s.chip.get (Reg.SIN_ST.FILT n) = 1 →
          (if (s.chip.sinIn n).level = true then t.get (Reg.SIN_ST.FILT n) = 1
           else t.get (Reg.SIN_ST.FILT n) = 0 ∧ (t.sinIn n).filtStamp = (s.chip.tout j).start)))) ∧
  (∀ (j : Nat) (s : State), (s.chip.tout j).phase = .idle → Completes (.toutPulseEnd j) s (fun t => t = s.chip) ∧ Completes (.toutRecoveryEnd j) s (fun t => t = s.chip))

/-- SOUT_SAMPLE, ENV_READ, ENV_READ_DONE, SOUT_UNLOCK_WRITE, APPLY_TIME, released images (R313 to R334). -/
def Obligations.OutputSamples : Prop :=
  (∀ (u : Chip) (img n : Nat), n < 32 → u.outUsed n = true → u.on (Reg.SOUT_CFG.TT n) = false → u.outState n < 6 → 0 < u.outState n →
    (let b := img.testBit (u.get (Reg.SOUT_CFG.BIT n))
     let t := u.outImage img n
     (b = true → u.outState n = 1 → (u.out n).cmd = false → u.safe = false → u.role ≠ 3 →
       t.outState n = 2 ∧ (t.get Reg.SOUT_DHS.VAL).testBit n = true ∧ (t.get Reg.SOUT_DLS.VAL).testBit n = true) ∧
     (b = false → (u.out n).cmd = true → t.outState n = 1 ∧ (t.get Reg.SOUT_DHS.VAL).testBit n = false ∧ (t.get Reg.SOUT_DLS.VAL).testBit n = false))) ∧
  (∀ (u : Chip) (img n m : Nat), n < 32 → m < 32 → u.safe = true ∨ u.role = 3 ∨ u.outState m = 6 → (u.outState m = 6 ∨ u.outState m = 1) →
    ((u.get Reg.SOUT_DHS.VAL).testBit m = false → ((u.outImage img n).get Reg.SOUT_DHS.VAL).testBit m = false) ∧
    ((u.get Reg.SOUT_DLS.VAL).testBit m = false → ((u.outImage img n).get Reg.SOUT_DLS.VAL).testBit m = false)) ∧
  (∀ (n fb : Nat) (s : State), n < 32 → fb < 2 ^ 32 → s.chip.weir.off = false → s.chip.awake = true → s.chip.outUsed n = true →
    s.chip.get Reg.SOUT_UNLOCK.GRP = 0 → s.chip.sout.rstMask = 0 → n < s.chip.sout.outs.length →
    (∀ m, m < 32 → m ≠ n → s.chip.outUsed m = true → s.chip.get (Reg.SOUT_CFG.GROUP m) ≠ s.chip.get (Reg.SOUT_CFG.GROUP n)) →
    Completes (.soutSample fb) s (fun t => t.get Reg.SOUT_FBV.VAL = fb ∧ t.sout.lastSample = some t.sampleTime ∧ s.chip.reaches s.chip.nextOutSample t ∧
      (let st := s.chip.outState n
       (st = 1 → (s.chip.get Reg.SOUT_LOCK.GRP).testBit (s.chip.get (Reg.SOUT_CFG.GROUP n)) = false → if fb.testBit n = true ∧ (s.chip.out n).entry + us (s.chip.get Reg.SOUT_GCFG.SW_OFF + s.chip.get Reg.SOUT_GCFG.FB_DLY + 10) ≤ t.sampleTime then
          t.outState n = 6 ∧ t.get (Reg.SOUT_ST.CAUSE n) = 5 ∧ (t.get Reg.SOUT_LOCK.GRP).testBit (s.chip.get (Reg.SOUT_CFG.GROUP n)) = true
        else t.outState n = 1) ∧
       (st = 2 → fb.testBit n = true → t.outState n = 3 ∧ (t.out n).hsDue = some (t.sampleTime + s.chip.get (Reg.SOUT_TCFG.REC n) * 1000) ∧ (t.out n).lsDue = none ∧
          t.get (Reg.SOUT_ST.PASSES n) = 0) ∧
       (st = 3 → t.outState n = 3 ∧ (fb.testBit n = false → (s.chip.out n).judge = none → (t.out n).judge = some .dropout ∧ (t.out n).judgeAt = t.weirTime) ∧
          (fb.testBit n = true → (t.out n).judge = (s.chip.out n).judge)) ∧
       (st = 5 → (s.chip.out n).judge = none → if fb.testBit n = true then t.outState n = 3 ∧
            t.get (Reg.SOUT_ST.PASSES n) = min (s.chip.get (Reg.SOUT_ST.PASSES n) + 1) 255
          else t.outState n = 5 ∧ ((t.out n).judge = some .noRecover ↔ s.chip.recoveryEndAt n ≤ t.sampleTime)) ∧
       (st = 6 → t.outState n = 6)))) ∧
  (∀ (u : Chip) (n m cause at' : Nat) (fb env : Bool), n < 32 → m < 32 → u.outUsed n = true → u.outUsed m = true →
    u.get (Reg.SOUT_CFG.GROUP m) = u.get (Reg.SOUT_CFG.GROUP n) → cause < 8 →
    (let t := u.outLockout n cause fb env at'
     if (u.get Reg.SOUT_LOCK.GRP).testBit (u.get (Reg.SOUT_CFG.GROUP n)) = true then t = u.put (Reg.SOUT_ST.CAUSE n) cause
     else t.outState m = 6 ∧ t.get (Reg.SOUT_ST.CAUSE n) = cause ∧ (m ≠ n → t.get (Reg.SOUT_ST.CAUSE m) = 7) ∧
      (t.get Reg.SOUT_DHS.VAL).testBit m = false ∧ (t.get Reg.SOUT_DLS.VAL).testBit m = false ∧
      (t.get Reg.SOUT_LOCK.GRP).testBit (u.get (Reg.SOUT_CFG.GROUP n)) = true ∧ t.get Reg.SOUT_CNT.LOCKOUTS = min (u.get Reg.SOUT_CNT.LOCKOUTS + 1) 255)) ∧
  (∀ s : State, s.chip.weir.off = false → (∀ o, o ∈ s.chip.sout.outs → o.judge = none) →
    Completes .envRead s (fun t => s.chip.reaches s.chip.sout.envDue t ∧ t.sout.envReads = s.chip.sout.envReads ++ [t.weirTime] ∧
      t.sout.envDue = t.weirTime + 10000 ∧ t.regs = s.chip.regs ∧ t.sout.outs = s.chip.sout.outs)) ∧
  (∀ (n : Nat) (s : State), (s.chip.out n).judge.isSome = true → s.chip.sout.envReads = [] →
    Completes .envRead s (fun t => t.weir.time = s.chip.weir.time ∧ t.sout.envReads = [s.chip.weirTime] ∧ t.sout.envDue = s.chip.sout.envDue)) ∧
  (∀ (n at0 : Nat) (rest : List Nat) (s : State), n < 32 → s.chip.sout.envReads = at0 :: rest → s.chip.outUsed n = true →
    (s.chip.get Reg.SOUT_LOCK.GRP).testBit (s.chip.get (Reg.SOUT_CFG.GROUP n)) = false →
    (∀ m, m < 32 → m ≠ n → s.chip.outUsed m = true → s.chip.get (Reg.SOUT_CFG.GROUP m) ≠ s.chip.get (Reg.SOUT_CFG.GROUP n)) →
    (∀ m, m < 32 → s.chip.outUsed m = false → (s.chip.out m).judge = none) →
    (let env := (s.chip.get Reg.WR_EN.EN).testBit n
     Completes .envReadDone s (fun t => t.sout.envReads = rest ∧ t.get Reg.SOUT_ENV.VAL = s.chip.get Reg.WR_EN.EN ∧
      (s.chip.outState n = 2 → env = true → (s.chip.out n).judge = none → (s.chip.out n).envSeen = none → n < s.chip.sout.outs.length → (t.out n).envSeen = some s.chip.weirTime) ∧
      ∀ j, (s.chip.out n).judge = some j →
        if at0 < (s.chip.out n).judgeAt then t.outState n = s.chip.outState n ∧ (t.out n).judge = some j
        else (t.out n).judge = none ∧
          (j = .noRecover → if env = true then t.outState n = 6 ∧ t.get (Reg.SOUT_ST.CAUSE n) = 2 else t.outState n = 2) ∧
          (j = .dropout → if env = true then t.outState n = 6 ∧ t.get (Reg.SOUT_ST.CAUSE n) = 3 else t.outState n = 2) ∧
          (j = .onFail → if env = true then t.outState n = 6 ∧ t.get (Reg.SOUT_ST.CAUSE n) = 4 else t.outState n = s.chip.outState n)))) ∧
  (∀ (u : Chip) (g n : Nat), g < 16 → n < 32 → u.get Reg.SOUT_UNLOCK.GRP = 2 ^ g → u.sout.rstMask = 0 → (u.get Reg.SOUT_LOCK.GRP).testBit g = true →
    u.outUsed n = true → u.get (Reg.SOUT_CFG.GROUP n) = g → u.outState n = 6 →
    (let bad := ∃ m : Nat, m < 32 ∧ u.outUsed m = true ∧ u.get (Reg.SOUT_CFG.GROUP m) = g ∧ ((u.out m).cmd = true ∨ (u.get Reg.SOUT_FBV.VAL).testBit m = true)
     u.soutRequests.get Reg.SOUT_UNLOCK.GRP = 0 ∧ (bad → u.soutRequests.outState n = 6 ∧ (u.soutRequests.get Reg.SOUT_LOCK.GRP).testBit g = true) ∧
     (¬ bad → u.soutRequests.outState n = 1 ∧ u.soutRequests.get (Reg.SOUT_ST.CAUSE n) = 0 ∧ (u.soutRequests.get Reg.SOUT_LOCK.GRP).testBit g = false))) ∧
  (∀ (mask tag : Nat) (s : State), s.chip.attends 0x40500000 = true → mask < 2 ^ 16 →
    Completes (.soutUnlockWrite 7 mask tag) s (fun t => t.resp = .ok ∧ t.get Reg.SOUT_UNLOCK.GRP = s.chip.get Reg.SOUT_UNLOCK.GRP ||| mask ∧
      t.get Reg.SOUT_LOCK.GRP = s.chip.get Reg.SOUT_LOCK.GRP)) ∧
  (∀ (req mask tag : Nat) (s : State), s.chip.attends 0x40500000 = true → req ≠ 7 →
    Completes (.soutUnlockWrite req mask tag) s (fun t => t.resp = .error ∧ t.get Reg.SOUT_UNLOCK.GRP = s.chip.get Reg.SOUT_UNLOCK.GRP ∧
      t.get (Reg.BLK_ERR.PLANE 0x40500000) = 1)) ∧
  (∀ (n : Nat) (p : ApplyPend) (s : State), n < 32 → (s.chip.out n).apply = some p → s.chip.weir.off = false → s.chip.outUsed n = true → s.chip.safe = false →
    s.chip.outState n = 1 → (s.chip.out n).cmd = false →
    Completes (.applyTime n) s (fun t => s.chip.reaches p.time t ∧ (t.out n).apply = none ∧ (t.out n).lastBit = some p.bit ∧ (t.out n).lastWord = p.word ∧
      (t.out n).cmd = p.bit ∧ t.outState n = (if p.bit = true then 2 else 1))) ∧
  (∀ (n : Nat) (s : State), (s.chip.out n).apply = none → Completes (.applyTime n) s (fun t => t = s.chip))

/-- SOUT_TEST_DUE, SOUT_PULSE_START, SOUT_PULSE_END, SOUT_RECOVERY_END (R322, R326 to R330). -/
def Obligations.OffPulseTests : Prop :=
  (∀ (n d : Nat) (ls : Bool) (s : State), s.chip.testDue n ls = some d → s.chip.weir.off = false →
    Completes (.soutTestDue n ls) s (fun t => s.chip.reaches d t ∧ t.regs = s.chip.regs ∧ t.sout = s.chip.sout)) ∧
  (∀ (n : Nat) (ls : Bool) (s : State), s.chip.testDue n ls = none →
    Completes (.soutTestDue n ls) s (fun t => t = s.chip) ∧ Completes (.soutPulseStart n ls) s (fun t => t = s.chip)) ∧
  (∀ (n d : Nat) (ls : Bool) (s : State), n < 32 → s.chip.testDue n ls = some d → d < 2 ^ 62 → s.chip.weir.time < 2 ^ 62 → s.chip.clockOk = true → s.chip.weir.off = false →
    s.chip.outUsed n = true → s.chip.awake = true →
    (let p := (max s.chip.weir.time d + 9999) / 10000 * 10000
     let runs := s.chip.slotFits n p = true ∧ ∀ e, e ∈ s.chip.dueTests p → testBefore e.1 e.2.1 e.2.2 d n ls = false
     let half := s.chip.get (Reg.SOUT_TCFG.INT n) * 500000
     Completes (.soutPulseStart n ls) s (fun t => s.chip.reaches p t ∧
      (runs → t.outState n = 4 ∧ t.get (Reg.SOUT_ST.SIDE n) = (if ls = true then 1 else 0) ∧ (t.out n).pulseStart = p ∧ (t.out n).lowSeen = false ∧
        (t.get Reg.SOUT_DHS.VAL).testBit n = ls ∧ (t.get Reg.SOUT_DLS.VAL).testBit n = !ls ∧ t.get Reg.WR_EN.EN = s.chip.get Reg.WR_EN.EN ∧
        (ls = false → (t.out n).hsDue = some (p + 2 * half) ∧ (t.out n).lsDue = some (p + half)) ∧ (ls = true → (t.out n).hsDue = (s.chip.out n).hsDue ∧ (t.out n).lsDue = none) ∧
        t.get Reg.SOUT_WAIT.WAIT = min (max (s.chip.get Reg.SOUT_WAIT.WAIT) ((p - d) / 1000)) 65535) ∧
      (¬ runs → t.outState n = 3 ∧ t.regs = s.chip.regs ∧ t.sout = s.chip.sout)))) ∧
  (∀ (n : Nat) (s : State), n < 32 → s.chip.outState n = 4 → s.chip.outUsed n = true → (s.chip.out n).pulseStart < 2 ^ 62 → s.chip.weir.time < 2 ^ 62 →
    s.chip.clockOk = true → s.chip.weir.off = false → (s.chip.get Reg.SOUT_LOCK.GRP).testBit (s.chip.get (Reg.SOUT_CFG.GROUP n)) = false →
    Completes (.soutPulseEnd n) s (fun t => s.chip.reaches ((s.chip.out n).pulseStart + s.chip.get (Reg.SOUT_TCFG.PW n) * 1000) t ∧
      if (s.chip.out n).lowSeen = true then t.outState n = 5 ∧ (t.get Reg.SOUT_DHS.VAL).testBit n = true ∧ (t.get Reg.SOUT_DLS.VAL).testBit n = true
      else t.outState n = 6 ∧ t.get (Reg.SOUT_ST.CAUSE n) = 1 ∧ (t.get Reg.SOUT_DHS.VAL).testBit n = false ∧ (t.get Reg.SOUT_DLS.VAL).testBit n = false)) ∧
  (∀ (n : Nat) (s : State), s.chip.outState n ≠ 4 → Completes (.soutPulseEnd n) s (fun t => t = s.chip)) ∧
  (∀ (n : Nat) (s : State), n < 32 → s.chip.outState n = 5 → (s.chip.get Reg.SOUT_FBV.VAL).testBit n = false → (s.chip.out n).judge = none → n < s.chip.sout.outs.length → s.chip.weir.off = false →
    Completes (.soutRecoveryEnd n) s (fun t => (t.out n).judge = some .noRecover ∧ (t.out n).judgeAt = t.weirTime ∧ t.regs = s.chip.regs ∧
      s.chip.reaches (s.chip.recoveryEndAt n) t)) ∧
  (∀ (n : Nat) (s : State), s.chip.outState n ≠ 5 ∨ (s.chip.get Reg.SOUT_FBV.VAL).testBit n = true → Completes (.soutRecoveryEnd n) s (fun t => t = s.chip))

/-- ZST_FRAME_TX, ZST_FRAME_RX, ZST_RX_HDR_READ, ZST_RX_DAT_READ (R361 to R366, R380). -/
def Obligations.ZstEngine : Prop :=
  (∀ (p : Nat) (f : TxFrame) (rest : List TxFrame) (s : State), p < 12 → s.chip.portSends p = true → s.chip.zst.beacons = [] → s.chip.zst.txq.getD p [] = f :: rest →
    (8 ≤ p → s.chip.portCfg p Reg.PORT_CFG.MODE = 1 → f.bytes.length ≤ 64) →
    (let held := ∃ r k, f.gate = .waiting r k
     (¬ held → p < s.chip.ports.length → Completes (.zstFrameTx p) s (fun t => t.zst.txq.getD p [] = rest ∧ (t.pt p).wire = [s.chip.zstWire p f] ∧ t.regs = s.chip.regs ∧
       ∀ q, q ≠ p → t.zst.txq.getD q [] = s.chip.zst.txq.getD q [])) ∧
     (held → Completes (.zstFrameTx p) s (fun t => t = s.chip)))) ∧
  (∀ (p : Nat) (f : TxFrame) (rest : List TxFrame) (s : State), 8 ≤ p → p < 12 → s.chip.portSends p = true → s.chip.zst.beacons = [] →
    s.chip.zst.txq.getD p [] = f :: rest → (f.gate = .none ∨ f.gate = .go) → s.chip.portCfg p Reg.PORT_CFG.MODE = 1 → 64 < f.bytes.length →
    Completes (.zstFrameTx p) s (fun t => t = s.chip.modTxq p (fun _ => rest))) ∧
  (∀ (p : Nat) (s : State), 12 ≤ p ∨ s.chip.portSends p = false → Completes (.zstFrameTx p) s (fun t => t = s.chip)) ∧
  (∀ (port : Nat) (f : List Byte) (s : State), port < 12 → s.chip.portClass port = 0 → (s.chip.pt port).disabled = false → 12 ≤ f.length →
    frDst f = s.chip.get Reg.ZST_ID.ID →
    (let z := s.chip.zstFree.zst
     let room := s.chip.zstFree.storeFill + f.length ≤ 0x40000 ∧ z.inBatch < 16 * s.chip.get Reg.ZST_GCFG.RX_FR
     Completes (.zstFrameRx port f) s (fun t => t.zst.txq = z.txq ∧ t.zst.batch = z.batch ∧
      (s.chip.rxConn port f = none → t.zst.store = z.store ∧ t.get (Reg.ZST_PSTAT.STRANGER port) = min (s.chip.get (Reg.ZST_PSTAT.STRANGER port) + 1) 65535 ∧
        t.get Reg.ZST_RXCNT.DROP = s.chip.get Reg.ZST_RXCNT.DROP) ∧
      (∀ n, s.chip.rxConn port f = some n → room → t.zst.store = z.store ++ [⟨port, z.batch, f, 0⟩] ∧ t.zst.inBatch = z.inBatch + 1 ∧
        t.get Reg.ZST_RXCNT.DROP = s.chip.get Reg.ZST_RXCNT.DROP ∧ t.get (Reg.ZST_PSTAT.STRANGER port) = s.chip.get (Reg.ZST_PSTAT.STRANGER port)) ∧
      (∀ n, s.chip.rxConn port f = some n → ¬ room → t.zst.store = z.store ∧ t.zst.inBatch = z.inBatch ∧
        t.get Reg.ZST_RXCNT.DROP = min (s.chip.get Reg.ZST_RXCNT.DROP + 1) 65535)))) ∧
  (∀ (port : Nat) (f : List Byte) (s : State), s.chip.portClass port = 0 → (s.chip.pt port).disabled = false → frDst f ≠ s.chip.get Reg.ZST_ID.ID →
    Completes (.zstFrameRx port f) s (fun t => t = s.chip.zstFree)) ∧
  (∀ (port : Nat) (f : List Byte) (s : State), s.chip.portClass port ≠ 0 ∨ (s.chip.pt port).disabled = true →
    Completes (.zstFrameRx port f) s (fun t => t = s.chip)) ∧
  (∀ (c k : Nat) (f : RxFrame) (s : State), c < 3 → s.chip.attends 0x40600000 = true → (s.chip.zst.reads.get c).next = s.chip.zst.freed + k → s.chip.zst.store[k]? = some f →
    Completes (.zstRxHdrRead c) s (fun t => t.resp = .data (2 ^ 31 + f.port * 2 ^ 27 + f.bytes.length % 2 ^ 11 * 2 ^ 16 + f.batch % 2 ^ 16) ∧
      t.zst.reads.get c = ⟨s.chip.zst.freed + k + 1, f.bytes⟩ ∧ t.zst.freed + t.zst.store.length = s.chip.zst.freed + s.chip.zst.store.length ∧
      (∀ d, d ≠ c → d < 3 → t.zst.reads.get d = s.chip.zst.reads.get d) ∧ t.regs = s.chip.regs ∧
      ∀ i, i ≤ k → (∀ g, s.chip.zst.store[i]? = some g → ¬ (s.chip.get Reg.CF_MODE.MASK ≠ 0 ∧ (g.passed ||| 2 ^ c) &&& s.chip.get Reg.CF_MODE.MASK = s.chip.get Reg.CF_MODE.MASK)) →
        t.zst.freed ≤ s.chip.zst.freed + i)) ∧
  (∀ (c : Nat) (s : State), c < 3 → s.chip.attends 0x40600000 = true → (s.chip.zst.reads.get c).next = s.chip.zst.freed + s.chip.zst.store.length →
    Completes (.zstRxHdrRead c) s (fun t => t.resp = .data 0 ∧ (t.zst.reads.get c).rest = [])) ∧
  (∀ (c : Nat) (b0 b1 b2 b3 : Byte) (rest : List Byte) (s : State), c < 3 → s.chip.attends 0x40600000 = true → (s.chip.zst.reads.get c).rest = b0 :: b1 :: b2 :: b3 :: rest →
    Completes (.zstRxDatRead c) s (fun t => t.resp = .data (b0.toNat * 2 ^ 24 + b1.toNat * 2 ^ 16 + b2.toNat * 2 ^ 8 + b3.toNat) ∧ (t.zst.reads.get c).rest = rest ∧
      (t.zst.reads.get c).next = (s.chip.zst.reads.get c).next ∧ t.zst.store = s.chip.zst.store)) ∧
  (∀ (req : Nat) (s : State), 3 ≤ req → req ≤ 7 → s.chip.attends 0x40600000 = true →
    Completes (.zstRxHdrRead req) s (fun t => t = s.chip.answer (.data 0)) ∧ Completes (.zstRxDatRead req) s (fun t => t = s.chip.answer (.data 0))) ∧
  (∀ (req : Nat) (s : State), 8 ≤ req →
    Completes (.zstRxHdrRead req) s (fun t => t = s.chip.denied req 15 0x40601040) ∧ Completes (.zstRxDatRead req) s (fun t => t = s.chip.denied req 15 0x40601044))

/-- ZST_PRECHECK, ID_REQ_TIMER, and the decision of Table 12.5 (R367, R368, R373, R392). -/
def Obligations.ZstChecks : Prop :=
  (∀ (c k n : Nat) (f : RxFrame) (s : State), c < 3 → s.chip.chState c = 3 → (s.chip.zst.reads.get c).next = s.chip.zst.freed + k + 1 → (s.chip.run c).checked ≤ s.chip.zst.freed + k →
    s.chip.zst.store[k]? = some f → s.chip.rxConn f.port f.bytes = some n →
    Completes (.zstPrecheck c) s (fun t => (t.run c).checked = s.chip.zst.freed + k + 1 ∧ t.zst = s.chip.zst ∧
      if s.chip.preOk c n f.bytes = true then (t.run c).pre = (s.chip.run c).pre ++ [⟨f.batch, n, f.bytes⟩] ∧ t.connSt c n = s.chip.connSt c n
      else (t.run c).pre = (s.chip.run c).pre ∧ (t.connSt c n).codeErr = min ((s.chip.connSt c n).codeErr + 1) 65535 ∧ (t.connSt c n).st = (s.chip.connSt c n).st)) ∧
  (∀ (c : Nat) (s : State), (s.chip.zst.reads.get c).next ≤ (s.chip.run c).checked ∨ s.chip.chState c ≠ 3 → Completes (.zstPrecheck c) s (fun t => t = s.chip)) ∧
  (∀ (u : Chip) (c n : Nat) (f : List Byte), u.preOk c n f = true →
    frVer f = 1 ∧ frKind f ≤ 5 ∧ f.length = 40 + frLen f ∧ frLen f ≤ (u.connRec c n).maxLen ∧ frFlags f % 64 = 0 ∧ frClaim f / 256 ≠ 0 ∧
    frCode f = (if (u.connRec c n).cmac = true then codeCmac (u.keyOf c (u.connRec c n).key (frFlags f / 64 % 2)) (u.identBlock c n) (f.take (32 + frLen f))
      else codeCrc (u.identBlock c n) (f.take (32 + frLen f)))) ∧
  (∀ (r : ConnRec) (st : ConnSt) (now tol h ts0 : Nat) (partner : Bool) (f : List Byte), st.high = some h → st.ts = some ts0 →
    (let claim := frClaim f
     let ts := frTs f
     let j := judge r st now tol partner f
     let inTime := ts ≤ now + tol * 100 ∧ now ≤ ts + r.ageMax * 100
     let d := (frSeq f + 2 ^ 32 - st.seq) % 2 ^ 32
     let restart := st.st = 1 ∨ st.st = 3 ∨ (frFlags f).testBit 7 = true
     (partner = false → claim < h → j = .repeats) ∧
     ((partner = true ∨ h ≤ claim) → ¬ inTime → j = .age) ∧
     ((partner = true ∨ h ≤ claim) → inTime → (restart ∨ (partner = false ∧ h < claim)) → j = (if ts0 < ts then .reset else .repeats)) ∧
     ((partner = true ∨ h = claim) → inTime → ¬ restart → j = (if 1 ≤ d ∧ d ≤ 65536 ∧ ts0 ≤ ts then .inSeq d else .repeats)))) ∧
  (∀ (c n : Nat) (s : State), c < 3 → s.chip.chState c = 3 → (s.chip.connRec c n).used = true → (s.chip.connRec c n).tx = false → (s.chip.connRec c n).idsvc = true →
    (let due := match (s.chip.connSt c n).asked with
       | none => (s.chip.run c).activeAt
       | some x => x + (if (s.chip.connSt c n).ident = true then 60000000000 else 100000000)
     Completes (.idReqTimer c n) s (fun t => (s.chip.weir.off = false → s.chip.reaches due t) ∧ (t.connSt c n).asked = some t.weir.time ∧ t.regs = s.chip.regs ∧
      (t.run c).send = (s.chip.run c).send ++ (match s.chip.txTo c (s.chip.connRec c n).peer with
        | some x => [⟨x, 1, [0, 0, 3, 0xF8]⟩]
        | none => [])))) ∧
  (∀ (c n : Nat) (s : State), s.chip.chState c ≠ 3 ∨ (s.chip.connRec c n).idsvc = false → Completes (.idReqTimer c n) s (fun t => t = s.chip))

/-- JOIN_WAIT_EXPIRY, EPOCH_RECORD_WRITE, grants, heartbeats, Table 13.6 (R393 to R401). -/
def Obligations.PairProtocol : Prop :=
  (∀ (c : Nat) (s : State), c < 3 → s.chip.chState c = 3 →
    Completes (.joinWaitExpiry c) s (fun t => (s.chip.weir.off = false → s.chip.reaches ((s.chip.run c).activeAt + s.chip.get Reg.PR_CFG.JOIN_WAIT * 100000) t) ∧
      (t.pair c).joined = true ∧ (t.pair c).st = (s.chip.pair c).st ∧
      (t.pair c).request = (if s.chip.isPartner = true ∧ (s.chip.pair c).st = 1 ∧ (s.chip.pair c).fromPtr = none ∧ (s.chip.pair c).request = none then some 1
        else (s.chip.pair c).request))) ∧
  (∀ (c : Nat) (s : State), s.chip.chState c ≠ 3 → Completes (.joinWaitExpiry c) s (fun t => t = s.chip)) ∧
  (∀ s : State, Completes .epochRecordWrite s (fun t => t.ret.epochDirty = false ∧ t.ret.epoch = s.chip.ret.epoch ∧ t.regs = s.chip.regs ∧
    t.ret.epochEmmc = (if s.chip.ret.epochDirty = true then s.chip.ret.epoch else s.chip.ret.epochEmmc))) ∧
  (∀ (u : Chip) (c : Nat) (f : List Byte), c < 3 →
    (let t := u.pairAnswer c f
     let cl := beAt (frPayload f) 0 4
     let res := beAt (frPayload f) 4 1
     (cl % 256 ≠ u.rank → t = u) ∧
     (cl % 256 = u.rank → res = 0 → cl / 256 ≤ u.highClaim c / 256 → t = u) ∧
     (cl % 256 = u.rank → res = 0 → u.highClaim c / 256 < cl / 256 → (t.pair c).grant = some cl ∧ (t.pair c).request = none ∧
       (t.run c).writes = (u.run c).writes ++ [(0x40600048, cl)]) ∧
     (cl % 256 = u.rank → res ≠ 0 → (u.pair c).request.isSome = true → (t.pair c).request = none ∧ (t.pair c).returning = false ∧
       (t.pair c).st = (if res = 2 ∧ (u.pair c).st = 1 then 2 else (u.pair c).st)))) ∧
  (∀ (u : Chip) (c : Nat) (b : Beat), c < 3 →
    (let t := u.partnerBeat c b
     (t.pair c).fromPtr = some b ∧
     ((u.pair c).st = 1 → b.state = 4 → (t.pair c).st = 2) ∧ ((u.pair c).st = 1 → b.state ≠ 4 → (t.pair c).st = 1) ∧
     ((u.pair c).st = 4 → u.claim < b.frame → (t.pair c).st = 2 ∧ (t.pair c).returning = false) ∧ ((u.pair c).st = 4 → b.frame ≤ u.claim → (t.pair c).st = 4))) ∧
  (∀ (u : Chip) (c e cv1 cv2 : Nat) (q : EpochReq), c < 3 → (q.rank = 1 ∨ q.rank = 2) → (q.reason = 1 ∨ q.reason = 2) → e < 2 ^ 24 → (u.pair c).epoch = e →
    (let p := u.pair c
     let live := fun r => u.connIs c (u.rankConn r) 2
     let own := p.beatOfRank q.rank
     let t := u.witDecide c q
     let answer := fun r => ∃ x, (t.run c).send = (u.run c).send ++ [x] ∧ x.kind = 5 ∧ x.conn = u.get Reg.PR_HB.TX ∧
       x.payload = beBytes 4 ((t.pair c).epoch * 256 + q.rank) ++ beBytes 1 r ++ beBytes 1 q.reason ++ beBytes 2 0
     let keeps := (t.pair c).epoch = e ∧ (t.pair c).holder = p.holder
     (e = 0xFFFFFF → answer 5 ∧ keeps) ∧
     (e ≠ 0xFFFFFF → p.holder ≠ 0 → live p.holder = true → (∃ b, p.beatOfRank p.holder = some b ∧ b.cv = cv1) → q.cv = cv2 → cv1 ≠ cv2 → answer 3 ∧ keeps) ∧
     (e ≠ 0xFFFFFF → p.holder = 0 → live q.rank = false → answer 4 ∧ keeps) ∧
     (e ≠ 0xFFFFFF → p.holder = 0 → live q.rank = true → q.reason = 1 → answer 0 ∧ (t.pair c).epoch = e + 1 ∧ (t.pair c).holder = q.rank) ∧
     (∀ b, e ≠ 0xFFFFFF → p.holder = q.rank → live q.rank = true → own = some b → b.cv = q.cv → b.frame / 256 < e → answer 0 ∧ keeps) ∧
     (∀ b, e ≠ 0xFFFFFF → p.holder = q.rank → live q.rank = true → own = some b → b.cv = q.cv → b.frame / 256 = e → answer 1 ∧ keeps) ∧
     (∀ b, e ≠ 0xFFFFFF → p.holder = 3 - q.rank → live p.holder = true → p.beatOfRank p.holder = some b → b.cv = q.cv → live q.rank = true → q.reason = 1 → answer 2 ∧ keeps) ∧
     (∀ b b', e ≠ 0xFFFFFF → p.holder = 3 - q.rank → p.beatOfRank p.holder = some b → b.cv = q.cv → live q.rank = true → q.reason = 2 → own = some b' → 
       if b'.state = 3 then answer 0 ∧ (t.pair c).epoch = e + 1 ∧ (t.pair c).holder = q.rank else answer 4 ∧ keeps)))

/-- PORT_FRAME_RX, PORT_TX_REFUSED, PLCA, BUS_OFF, BUS_ON, ENGINE_FAULT, links (R409 to R431). -/
def Obligations.FieldPorts : Prop :=
  (∀ (p : Nat) (f : List Byte) (s : State), p ≤ 14 → p < s.chip.ports.length → (s.chip.pt p).disabled = false → f.length ≤ 1518 →
    (let e := ethParse f
     let cls := s.chip.portClass p
     let mine := e.vid = some (s.chip.portCfg p Reg.PORT_CFG.VID) ∧ e.dst = 0x035A * 2 ^ 32 + s.chip.get Reg.ZST_ID.ID
     Completes (.portFrameRx p (.eth f true)) s (fun t =>
      let drops := fun (x : Fld) => t.get x = min (s.chip.get x + 1) 65535 ∧ (t.pt p).rx = (s.chip.pt p).rx
      let takes := fun (d : Receiver) (b : List Byte) => (t.pt p).rx = some ⟨d, cls, b⟩ ∧ t.regs = s.chip.regs
      (e.type = 0x88B5 → cls ≠ 0 → drops (Reg.PORT_STAT.CLASS_DROP (portPage p))) ∧
      (e.type = 0x88B5 → cls = 0 → ¬ mine → drops (Reg.PORT_CNT.FILT_DROP (portPage p))) ∧
      (e.type = 0x88B5 → cls = 0 → mine → e.rtag = none → takes .zst (zstTrim e.payload)) ∧
      (e.type = 0x88F7 → cls ≠ 0 → drops (Reg.PORT_STAT.CLASS_DROP (portPage p))) ∧ (e.type = 0x88F7 → cls = 0 → takes .time e.payload) ∧
      (e.type = 0x88B6 → cls = 0 → takes .time e.payload) ∧ (e.type = 0x88B6 → cls = 1 → beAt e.payload 0 1 = 2 → takes .bridge f) ∧
      (e.type = 0x88B6 → cls ≠ 0 → ¬ (cls = 1 ∧ beAt e.payload 0 1 = 2) → drops (Reg.PORT_STAT.CLASS_DROP (portPage p))) ∧
      (e.type ∉ [0x88B5, 0x88B6, 0x88F7] → cls = 0 → drops (Reg.PORT_STAT.CLASS_DROP (portPage p))) ∧
      (e.type ∉ [0x88B5, 0x88B6, 0x88F7] → cls = 1 → takes .bridge f) ∧ (e.type ∉ [0x88B5, 0x88B6, 0x88F7] → 2 ≤ cls → takes .management f)))) ∧
  (∀ (p : Nat) (f : List Byte) (ok : Bool) (s : State), p ≤ 14 → (s.chip.pt p).disabled = false → (ok = false ∨ 1518 < f.length) →
    Completes (.portFrameRx p (.eth f ok)) s (fun t => t.get (Reg.PORT_CNT.RXERR (portPage p)) = min (s.chip.get (Reg.PORT_CNT.RXERR (portPage p)) + 1) 65535 ∧ t.ports = s.chip.ports)) ∧
  (∀ (p id : Nat) (f : List Byte) (s : State), 8 ≤ p → p < 12 → p < s.chip.ports.length → (s.chip.pt p).disabled = false → s.chip.portClass p = 0 → s.chip.portCfg p Reg.PORT_CFG.MODE = 1 →
    (let m := s.chip.get (Reg.CAN_ZMSK.ID (portPage p))
     let zst := id &&& m = s.chip.get (Reg.CAN_ZRX.ID (portPage p)) &&& m
     let beacon := id = s.chip.get (Reg.CAN_BCN.ID (portPage p))
     Completes (.portFrameRx p (.can id true true false f true)) s (fun t =>
      (zst → (t.pt p).rx = some ⟨.zst, 0, zstTrim f⟩) ∧ (¬ zst → beacon → (t.pt p).rx = some ⟨.time, 0, f⟩) ∧
      (¬ zst → ¬ beacon → (t.pt p).rx = (s.chip.pt p).rx ∧ t.get (Reg.PORT_CNT.FILT_DROP (portPage p)) = min (s.chip.get (Reg.PORT_CNT.FILT_DROP (portPage p)) + 1) 65535)))) ∧
  (∀ (p : Nat) (f : PortRx) (s : State), (s.chip.pt p).disabled = true → Completes (.portFrameRx p f) s (fun t => t = s.chip)) ∧
  (∀ (p src : Nat) (s : State), p ≤ 14 →
    Completes (.portTxRefused p src) s (fun t =>
      if (s.chip.portClass p = 0 ∧ src < 2) ∨ (s.chip.portClass p = 1 ∧ src = 2) ∨ (2 ≤ s.chip.portClass p ∧ src = 3) then t = s.chip.answer .ok
      else t.resp = .error ∧ t.get (Reg.BLK_ERR.PLANE (portPage p)) = 1)) ∧
  (∀ (p : Nat) (s : State), p < 4 → p < s.chip.ports.length → s.chip.get (Reg.PORT_STAT.PLCA_ACTIVE (portPage p)) = 1 → s.chip.get (Reg.T1S_PLCA.NODE_ID (portPage p)) ≠ 0 →
    Completes (.plcaBeaconTimeout p) s (fun t => t.now = max s.chip.now ((s.chip.pt p).plcaAt + 100000) ∧ t.get (Reg.PORT_STAT.PLCA_ACTIVE (portPage p)) = 0 ∧
      t.get (Reg.T1S_STAT.BCN_MISS (portPage p)) = min (s.chip.get (Reg.T1S_STAT.BCN_MISS (portPage p)) + 1) 65535 ∧ (t.pt p).plcaLost = true ∧
      (s.chip.staged 25 = false → t.reports 25 4 [p] = true))) ∧
  (∀ (p : Nat) (s : State), s.chip.get (Reg.T1S_PLCA.NODE_ID (portPage p)) = 0 → Completes (.plcaBeaconTimeout p) s (fun t => t = s.chip)) ∧
  (∀ (p : Nat) (s : State), p < 4 → p < s.chip.ports.length → s.chip.portCfg p Reg.PORT_CFG.MODE = 0 → (s.chip.pt p).disabled = false →
    Completes (.plcaBeaconRx p) s (fun t => t.get (Reg.PORT_STAT.PLCA_ACTIVE (portPage p)) = 1 ∧ (t.pt p).plcaLost = false ∧ (t.pt p).plcaAt = s.chip.now ∧
      ((s.chip.pt p).plcaLost = true → s.chip.staged (128 + p) = false → t.reports (128 + p) 2 [p] = true))) ∧
  (∀ (p tec : Nat) (s : State), 8 ≤ p → p < 12 →
    Completes (.busOff p tec) s (fun t => t.get (Reg.PORT_STAT.BUS_OFF (portPage p)) = 1 ∧ t.zst = s.chip.zst ∧
      (s.chip.get (Reg.PORT_STAT.BUS_OFF (portPage p)) = 0 → t.get (Reg.PORT_STAT.LINK (portPage p)) = 0 ∧
        (s.chip.staged (132 + p) = false → t.reports (132 + p) 3 [p, tec] = true))) ∧
    Completes (.busOn p) s (fun t => t.get (Reg.PORT_STAT.BUS_OFF (portPage p)) = 0 ∧ t.zst = s.chip.zst ∧
      (s.chip.get (Reg.PORT_STAT.BUS_OFF (portPage p)) = 1 → t.get (Reg.PORT_STAT.LINK (portPage p)) = 1 ∧
        (s.chip.staged (132 + p) = false → t.reports (132 + p) 4 [p] = true)))) ∧
  (∀ (e cause : Nat) (s : State), e < 6 → s.chip.ports.length = 15 →
    Completes (.engineFault e cause) s (fun t => (∀ p, p < 15 → (t.pt p).disabled = ((s.chip.pt p).disabled || (enginePorts e).contains p)) ∧
      (∀ p, p ∈ enginePorts e → t.get (Reg.PORT_STAT.LINK (portPage p)) = 0 ∧ t.portSends p = false) ∧
      (∀ p, p < 15 → p ∉ enginePorts e → t.get (Reg.PORT_STAT.LINK (portPage p)) = s.chip.get (Reg.PORT_STAT.LINK (portPage p))))) ∧
  (∀ (p : Nat) (up cut : Bool) (s : State), p < 8 → p < s.chip.ports.length →
    Completes (.portLinkChange p up cut) s (fun t => t.on (Reg.PORT_STAT.LINK (portPage p)) = (up && !(s.chip.pt p).disabled) ∧
      t.get (Reg.PORT_CNT.RXERR (portPage p)) = (if up = false ∧ cut = true then min (s.chip.get (Reg.PORT_CNT.RXERR (portPage p)) + 1) 65535
        else s.chip.get (Reg.PORT_CNT.RXERR (portPage p))))) ∧
  (∀ s : State, Completes .serviceLinkUp s (fun t => t.get (Reg.PORT_STAT.LINK (portPage 14)) = 1 ∧ t.svc.since = some (s.chip.svc.since.getD s.chip.now) ∧
    t.svc.connected = s.chip.svc.connected)) ∧
  (∀ (x : Nat) (s : State), s.chip.svc.since = some x → Completes .serviceConnected s (fun t => t.svc.connected = true ∧ t.now = max s.chip.now (x + 100000000))) ∧
  (∀ s : State, s.chip.svc.since = none → Completes .serviceConnected s (fun t => t = s.chip)) ∧
  (∀ s : State, Completes .serviceLinkLoss s (fun t => t.get (Reg.PORT_STAT.LINK (portPage 14)) = 0 ∧ t.svc = {} ∧ t.gate.queue = [] ∧ t.gate.placed = s.chip.gate.placed ∧
    (∀ e rest, s.chip.gate.queue = e :: rest → s.chip.staged 26 = false → t.reports 26 6 [e.code, e.tag, 1] = true)))

/-- GPTP_SYNC_RX, PDELAY, ANNOUNCE_RX, TIME_SILENCE, TIME_BEACON_RX, CB_RESET_TIMER (R418 to R424). -/
def Obligations.PortTime : Prop :=
  (∀ (u : Chip) (p off : Nat) (ppb : Option Nat), p < 15 → off < 2 ^ 64 →
    (let t := u.timeMeasured p off ppb
     let r := signed 64 off - 10 * signed 64 (u.get Reg.TM_STOFF.STOFF)
     let inside := -1000 ≤ r ∧ r ≤ 1000
     t.get Reg.TM_OFF.OFF = off ∧ t.get Reg.TM_STAT.MEAS = (u.get Reg.TM_STAT.MEAS + 1) % 65536 ∧ t.get Reg.TM_STAT.PORT = p ∧ t.get Reg.TM_STAT.VALID = 1 ∧
     (u.get Reg.TM_STAT.LOCKED = 1 → (t.get Reg.TM_STAT.LOCKED = 1 ↔ inside)) ∧
     (u.get Reg.TM_STAT.LOCKED = 0 → (t.get Reg.TM_STAT.LOCKED = 1 ↔ inside ∧ u.get Reg.TM_STAT.STOFF = 1 ∧ 7 ≤ u.tm.run)) ∧
     (¬ inside ∨ u.get Reg.TM_STAT.STOFF = 0 → t.tm.run = 0) ∧ t.tm.last = some u.now ∧ (∀ x, ppb = some x → t.get Reg.TM_NRR.PPB = x % 2 ^ 32))) ∧
  (∀ (p station stamp ppb : Nat) (s : State),
    (let follows := s.chip.gptpOn p = true ∧ s.chip.get (Reg.PORT_STAT.GP_SLAVE (portPage p)) = 1 ∧ s.chip.get Reg.TM_CFG.SRC = 0
     Completes (.gptpSyncRx p station stamp ppb) s (fun t =>
      (follows → t = s.chip.timeMeasured p (pattern 64 ((station : Int) - 10 * (stamp : Int))) (some ppb)) ∧ (¬ follows → t = s.chip)))) ∧
  (∀ (p cap : Nat) (b : List Byte) (s : State), beaconPort (s.chip.get Reg.TM_CFG.SRC) = some p → p < s.chip.ports.length → s.chip.portClass p = 0 → beAt b 0 1 = 1 →
    beAt b 2 2 = s.chip.get Reg.ZST_GCFG.NET_ID →
    Completes (.timeBeaconRx p cap b) s (fun t =>
      (beAt b 1 1 < 128 → t = s.chip) ∧ (128 ≤ beAt b 1 1 → (t.pt p).rxCap = some cap ∧
       ((s.chip.pt p).rxCap = none → t.regs = s.chip.regs) ∧
       (∀ c, (s.chip.pt p).rxCap = some c → beAt b 8 8 ≠ 0 → t.get Reg.TM_OFF.OFF = pattern 64 (10 * (beAt b 8 8 : Int) - 10 * (c : Int)) ∧
         t.get Reg.TM_STAT.MEAS = (s.chip.get Reg.TM_STAT.MEAS + 1) % 65536 ∧ t.get Reg.TM_STAT.PORT = p ∧ (t.pt p).pair = some (beAt b 8 8, c))))) ∧
  (∀ (p : Nat) (s : State), beaconPort (s.chip.get Reg.TM_CFG.SRC) ≠ some p ∨ s.chip.portClass p ≠ 0 → ∀ (cap : Nat) (b : List Byte),
    Completes (.timeBeaconRx p cap b) s (fun t => t = s.chip)) ∧
  (∀ (x : Nat) (s : State), s.chip.tm.last = some x → Completes .timeSilence s (fun t => t.now = max s.chip.now (x + 100000000) ∧ t.tm.run = 0 ∧ t.get Reg.TM_STAT.LOCKED = 0)) ∧
  (∀ s : State, s.chip.tm.last = none → Completes .timeSilence s (fun t => t = s.chip)) ∧
  (∀ (p : Nat) (m : AnnounceOp) (s : State), p < s.chip.ports.length →
    Completes (.announceRx p m) s (fun t => (s.chip.gptpOn p = false → t = s.chip) ∧ (s.chip.gptpOn p = true → (t.pt p).announce = some (announceRank m p, m.gm) ∧
      (s.chip.get (Reg.PORT_STAT.LINK (portPage p)) = 1 → (∀ q, 4 ≤ q → q < 8 → q ≠ p → (s.chip.pt q).announce = none) →
        t.get (Reg.PORT_STAT.GP_SLAVE (portPage p)) = 1 ∧ t.tm.gm = some m.gm) ∧
      ∀ q, 4 ≤ q → q < 8 → t.get (Reg.PORT_STAT.GP_SLAVE (portPage q)) = 1 → t.gptpOn q = true ∧ t.get (Reg.PORT_STAT.LINK (portPage q)) = 1 ∧
        ∃ a, (t.pt q).announce = some a ∧ ∀ q' b, 4 ≤ q' → q' < 8 → t.gptpOn q' = true → t.get (Reg.PORT_STAT.LINK (portPage q')) = 1 → (t.pt q').announce = some b → a.1 ≤ b.1))) ∧
  (∀ (p t1 t2 t3 : Nat) (s : State), p < s.chip.ports.length → s.chip.gptpOn p = true → s.chip.portSends p = true →
    Completes (.pdelayReqRx p t2 t3) s (fun t => (t.pt p).wire = [.gptp 3 t2, .gptp 0xA t3] ∧ t.regs = s.chip.regs) ∧
    Completes (.pdelayInterval p t1) s (fun t => t.now = max s.chip.now ((s.chip.pt p).asked + 100000000) ∧ (t.pt p).wire = [.gptp 2 t1] ∧ (t.pt p).asked = t.now)) ∧
  (∀ (p delay : Nat) (s : State), p < s.chip.ports.length → s.chip.gptpOn p = true →
    Completes (.pdelayRespRx p delay) s (fun t => (t.pt p).delay = delay ∧ ((t.pt p).asCapable = true ↔ delay ≤ 800) ∧
      (s.chip.get (Reg.PORT_STAT.GP_SLAVE (portPage p)) = 1 → (t.get Reg.TM_STAT.AS_CAPABLE = 1 ↔ delay ≤ 800)))) ∧
  (∀ (p a b c : Nat) (s : State), s.chip.gptpOn p = false → Completes (.pdelayReqRx p a b) s (fun t => t = s.chip) ∧ Completes (.pdelayInterval p a) s (fun t => t = s.chip) ∧
    Completes (.pdelayRespRx p c) s (fun t => t = s.chip)) ∧
  (∀ (x : CbStream) (hist now : Nat), 2 ≤ hist → hist ≤ 32 → x.any = false → x.seq < 65536 → x.hist.testBit 0 = true →
    (x.recover hist x.seq now).1 = false ∧ (x.recover hist ((x.seq + 1) % 65536) now).1 = true ∧ (x.recover hist ((x.seq + 1) % 65536) now).2.seq = (x.seq + 1) % 65536 ∧
    (∀ k, k < hist → (x.recover hist ((x.seq + 65536 - k) % 65536) now).1 = !x.hist.testBit k) ∧
    (∀ k, hist ≤ k → k ≤ 65536 - hist → (x.recover hist ((x.seq + k) % 65536) now) = (false, x)) ∧
    ∀ n, ({ x with any := true } : CbStream).recover hist n now = (true, { x with any := false, seq := n, hist := 1, last := now })) ∧
  (∀ (key : Nat) (s : State), (∃ x ∈ s.chip.cb, x.key = key) → Completes (.cbResetTimer key) s (fun t =>
    (∀ x ∈ t.cb, x.key = key → x.any = true) ∧ t.cb.length = s.chip.cb.length ∧ (∀ x ∈ t.cb, x.key ≠ key → x ∈ s.chip.cb) ∧ t.regs = s.chip.regs ∧ s.chip.now ≤ t.now)) ∧
  (∀ (key : Nat) (s : State), (∀ x ∈ s.chip.cb, x.key ≠ key) → Completes (.cbResetTimer key) s (fun t => t = s.chip))

/-- BRIDGE_FRAME, BRIDGE_EGRESS_TX, RS485_IDLE_DISCARD, BR_TBL_W3_WRITE, TABLE_COMMIT, REGION_COMMIT, INBOUND_MESSAGE, and the check-value
units (R435 to R463). -/
def Obligations.BridgeFrames : Prop :=
  (∀ (q i id : Nat) (b : List Byte) (e : List Nat) (s : State), 8 ≤ q → q < 12 → s.chip.dataPort q = true → id < 2 ^ 29 → s.chip.brResponse q ⟨1, id, b, 0, 0⟩ = none →
    s.chip.brLookup q ⟨1, id, b, 0, 0⟩ = some (i, e) → brCvu e = none → s.chip.br.egress.length = 14 →
    (let out := bits (brWord e 3) 31 28
     let kind := bits (brWord e 3) 27 24
     let n := 2 ^ bits (brWord e 3) 23 22
     let old := s.chip.br.egress.getD out []
     Completes (.bridgeFrame q (.can id true false false b true)) s (fun t =>
      (out < 14 → s.chip.dataPort out = false → t.get Reg.BR_CNT0.MISS = min (s.chip.get Reg.BR_CNT0.MISS + 1) 65535 ∧ t.br = s.chip.br) ∧
      (out < 14 → s.chip.dataPort out = true →
        if b.length % n ≠ 0 then t.get Reg.BR_CNT1.ALIGN = min (s.chip.get Reg.BR_CNT1.ALIGN + 1) 65535 ∧ t.br = s.chip.br
        else if s.chip.brLimit out kind < b.length then t.get Reg.BR_CNT1.TOO_BIG = min (s.chip.get Reg.BR_CNT1.TOO_BIG + 1) 65535 ∧ t.br = s.chip.br
        else if 8 ≤ old.length then t.get Reg.BR_CNT0.EGR_FULL = min (s.chip.get Reg.BR_CNT0.EGR_FULL + 1) 65535 ∧ t.br = s.chip.br
        else t.br.egress.getD out [] = old ++ [⟨kind, brWord e 2, swapUnits n b.length b, 0, 0⟩] ∧ t.regs = s.chip.regs) ∧
      (out = 15 → b.length % n = 0 → t = s.chip)))) ∧
  (∀ (q id : Nat) (b : List Byte) (s : State), s.chip.dataPort q = true → s.chip.brResponse q ⟨1, id, b, 0, 0⟩ = none → s.chip.brLookup q ⟨1, id, b, 0, 0⟩ = none →
    Completes (.bridgeFrame q (.can id true false false b true)) s (fun t => t.get Reg.BR_CNT0.MISS = min (s.chip.get Reg.BR_CNT0.MISS + 1) 65535 ∧ t.br = s.chip.br)) ∧
  (∀ (q : Nat) (f : PortRx) (s : State), s.chip.dataPort q = false → Completes (.bridgeFrame q f) s (fun t => t = s.chip)) ∧
  (∀ (q : Nat) (f : EgrFrame) (rest : List EgrFrame) (s : State), q < s.chip.ports.length → s.chip.br.egress.getD q [] = f :: rest → s.chip.dataPort q = true →
    (q < 12 → s.chip.portSends q = true) → (12 ≤ q → s.chip.get (Reg.BR_UPORT.CVU_EN (q - 12)) = 0) →
    Completes (.bridgeEgressTx q) s (fun t => t.br.egress.getD q [] = rest ∧ (t.pt q).wire = [(s.chip.brWire q f).1] ∧ t.regs = s.chip.regs)) ∧
  (∀ (q : Nat) (s : State), s.chip.br.egress.getD q [] = [] → Completes (.bridgeEgressTx q) s (fun t => t = s.chip)) ∧
  (∀ (i : Nat) (s : State), i < 2 → Completes (.rs485IdleDiscard i) s (fun t =>
    t.get (Reg.PORT_CNT.RXERR (portPage (12 + i))) = min (s.chip.get (Reg.PORT_CNT.RXERR (portPage (12 + i))) + 1) 65535 ∧ t.br = s.chip.br)) ∧
  (∀ (req v : Nat) (s : State), v < 2 ^ 32 → s.chip.attends 0x42000000 = true → s.chip.pageReach req 0x42000054 = true →
    (let i := s.chip.get Reg.BR_TBL_IDX.IDX
     Completes (.brTblW3Write req v) s (fun t => t.brActive = s.chip.brActive ∧
      if s.chip.lockOpen 0x42000000 req then t.resp = .ok ∧ t.get Reg.BR_TBL_IDX.IDX = (i + 1) % 4096 ∧
        brEntry t.brShadow i = [s.chip.get (Reg.BR_TBL_W.W 0), s.chip.get (Reg.BR_TBL_W.W 1), s.chip.get (Reg.BR_TBL_W.W 2), v] ∧
        ∀ j, j ≠ i → brEntry t.brShadow j = brEntry s.chip.brShadow j
      else t.resp = .error ∧ t.get (Reg.BLK_ERR.LOCK_VIOL 0x42000000) = 1 ∧ t.brShadow = s.chip.brShadow))) ∧
  (∀ (n : Nat) (s : State), n ≤ 4096 → s.chip.attends 0x42000000 = true →
    (let t0 := s.chip.brShadow
     let sorted := ∀ i, i + 1 < n → brKey (brEntry t0 i) < brKey (brEntry t0 (i + 1))
     let allOk := ∀ i, i < n → s.chip.brEntryBad (brEntry t0 i) = false
     Completes (.tableCommit n) s (fun t =>
      (sorted ∧ allOk → t.brActive = s.chip.brShadow ∧ t.brShadow = s.chip.brActive ∧ t.get Reg.BR_TBL_STAT.COUNT = n ∧ t.get Reg.BR_TBL_STAT.STATUS = 0 ∧
        t.get Reg.BR_TBL_CRC.CRC = crcOf crc32c ((List.range n).flatMap (fun i => (brEntry t0 i).flatMap (leBytes 4))) % 2 ^ 32) ∧
      (¬ (sorted ∧ allOk) → t.brActive = s.chip.brActive ∧ t.brShadow = s.chip.brShadow ∧ t.get Reg.BR_TBL_STAT.COUNT = s.chip.get Reg.BR_TBL_STAT.COUNT ∧
        (t.get Reg.BR_TBL_STAT.STATUS = 1 ∨ t.get Reg.BR_TBL_STAT.STATUS = 2)) ∧
      (allOk → ¬ sorted → t.get Reg.BR_TBL_STAT.STATUS = 1) ∧ (sorted → ¬ allOk → t.get Reg.BR_TBL_STAT.STATUS = 2)))) ∧
  (∀ s : State, s.chip.attends 0x42000000 = true →
    (let l := (List.range 16).map s.chip.brShadowRegion
     Completes .regionCommit s (fun t => (s.chip.brRegionsBad l = none → t.br.regions = l ∧ t.get Reg.BR_REG_STAT.STATUS = 0) ∧
      (s.chip.brRegionsBad l ≠ none → t.br.regions = s.chip.br.regions ∧ t.get Reg.BR_REG_STAT.STATUS ≠ 0) ∧
      ((∃ x ∈ s.chip.br.slots, x.st ≠ .free) ∨ s.chip.br.writes ≠ [] → t.br.regions = s.chip.br.regions) ∧
      (∀ r, r < 16 → brValid (s.chip.brShadowRegion r) = true → brPrefetch (s.chip.brShadowRegion r) = true → (s.chip.brShadowRegion r).ctl.testBit 30 = true →
        t.get Reg.BR_REG_STAT.STATUS = 1)))) ∧
  (∀ (m : Inbound) (rest : List Inbound) (tag a c : Nat) (d : List Byte) (s : State), s.chip.br.inbound = m :: rest → s.chip.br.egress.length = 14 → m.port < 14 →
    (s.chip.br.egress.getD m.port []).length < 8 → tag < 256 → a < 2 ^ 32 → c ≤ 3 → d.length = 2 ^ c →
    (let lo := s.chip.get Reg.BR_IN_BASE.BASE
     let inside := lo ≤ a ∧ a + 2 ^ c ≤ lo + s.chip.get Reg.BR_IN_CFG.PAGES * 4096 ∧ 0x20000000 ≤ a ∧ a + 2 ^ c ≤ 0x20800000 ∧ a % 2 ^ c = 0
     let answer := fun (t : Chip) (b : List Byte) => t.br.egress.getD m.port [] = s.chip.br.egress.getD m.port [] ++ [⟨m.kind, m.id, b, 0, 0⟩]
     (m.payload = brMessage 1 c tag a d → Completes .inboundMessage s (fun t => t.br.inbound = rest ∧
       (inside → s.chip.get Reg.BR_IN_CFG.WR_EN = 1 → answer t (brMessage 4 c tag a []) ∧ ∀ x, memRead t.msram x = (if a ≤ x ∧ x < a + 2 ^ c then d.reverse.getD (x - a) 0 else memRead s.chip.msram x)) ∧
       (¬ inside ∨ s.chip.get Reg.BR_IN_CFG.WR_EN = 0 → answer t (brMessage 5 c tag a []) ∧ t.msram = s.chip.msram))) ∧
     (m.payload = brMessage 2 c tag a [] → Completes .inboundMessage s (fun t => t.br.inbound = rest ∧ t.msram = s.chip.msram ∧
       (inside → answer t (brMessage 3 c tag a (memReadBytes s.chip.msram a (2 ^ c)).reverse)) ∧ (¬ inside → answer t (brMessage 5 c tag a [])))))) ∧
  (∀ s : State, s.chip.br.inbound = [] → Completes .inboundMessage s (fun t => t = s.chip)) ∧
  (∀ (i v : Nat) (s : State), i < 8 → s.chip.attends (cvuPage i) = true → s.chip.get (Reg.CVU_CFG.MODE i) = 0 →
    (let p := s.chip.cvuParam i
     let feed := fun (b : List Byte) => b.foldl (crcByte p) (s.chip.get (Reg.CVU_VAL.VAL i) % 2 ^ p.width) % 2 ^ 64
     Completes (.cvuFeedWrite i v) s (fun t => t.resp = .ok ∧ t.get (Reg.CVU_VAL.VAL i) = feed (leBytes 4 v) ∧
       t.get (Reg.CVU_RES.VAL i) = crcOut p (feed (leBytes 4 v) % 2 ^ p.width) % 2 ^ 64) ∧
     Completes (.cvuFeedBWrite i v) s (fun t => t.resp = .ok ∧ t.get (Reg.CVU_VAL.VAL i) = feed (leBytes 1 v)))) ∧
  (∀ (i v : Nat) (hi : Bool) (s : State), i < 8 → v < 2 ^ 32 → s.chip.attends (cvuPage i) = true → s.chip.get (Reg.CVU_CFG.WIDTH i) = 64 → s.chip.get (Reg.CVU_STAT.BUSY i) = 0 →
    Completes (.cvuValWrite i hi v) s (fun t => t.resp = .ok ∧
      t.get (Reg.CVU_VAL.VAL i) / 2 ^ 32 = (if hi = true then v else s.chip.get (Reg.CVU_VAL.VAL i) / 2 ^ 32) ∧
      t.get (Reg.CVU_VAL.VAL i) % 2 ^ 32 = (if hi = true then s.chip.get (Reg.CVU_VAL.VAL i) % 2 ^ 32 else v))) ∧
  (∀ (req i n w p x r o : Nat) (s : State), i < 8 → 1 ≤ n → cvuPresets[n - 1]? = some (w, p, x, r, o) → s.chip.attends (cvuPage i) = true → s.chip.get (Reg.CVU_STAT.BUSY i) = 0 →
    s.chip.lockOpen (cvuPage i) req = true → s.chip.pageReach req (cvuPage i + 0x40) = true →
    Completes (.cvuPresetWrite req i (n * 2 ^ 28)) s (fun t => t.resp = .ok ∧ t.get (Reg.CVU_CFG.PRESET i) = n ∧ t.cvuParam i = ⟨w, p, x, r == 1, r == 1, o⟩ ∧
      t.get (Reg.CVU_VAL.VAL i) = s.chip.get (Reg.CVU_VAL.VAL i))) ∧
  (∀ (a i : Nat) (b : List Byte) (s : State), i < 8 →
    Completes (.rangeWriteAbsorb a b) s (fun t =>
      (s.chip.get (Reg.CVU_CFG.MODE i) ≠ 2 → t.get (Reg.CVU_VAL.VAL i) = s.chip.get (Reg.CVU_VAL.VAL i)) ∧
      (s.chip.get (Reg.CVU_CFG.MODE i) = 2 → s.chip.get (Reg.CVU_BASE.ADDR i) ≤ a → a + b.length ≤ s.chip.get (Reg.CVU_BASE.ADDR i) + s.chip.get (Reg.CVU_LEN.LEN i) →
        t.get (Reg.CVU_VAL.VAL i) = b.foldl (crcByte (s.chip.cvuParam i)) (s.chip.get (Reg.CVU_VAL.VAL i) % 2 ^ (s.chip.cvuParam i).width) % 2 ^ 64)))

/-- WINDOW_WRITE, WINDOW_READ, READ_RESPONSE, WRITE_ACK, RESPONSE_TIMEOUT, DR_TIMEOUT (R445 to R453). -/
def Obligations.BridgeWindows : Prop :=
  (∀ (req w off : Nat) (b : List Byte) (len : Nat) (s : State), w < 2 → s.chip.attends 0x42000000 = true → 0x40 ≤ off → off < 0x1000 →
    (let target := s.chip.winTarget w off
     let reach := s.chip.pageReach req (0x42002000 + w * 0x1000 + off)
     (reach = false → Completes (.windowWrite req w off b) s (fun t => t.resp = .error ∧ t.br = s.chip.br) ∧
       Completes (.windowRead req w off len) s (fun t => t.resp = .error ∧ t.br = s.chip.br)) ∧
     (reach = true → req < 3 ∨ 6 < req ∨ target = none ∨ (∃ r g a, target = some (r, g, a) ∧ winSize g a b.length = none) ∨ (∃ r g a, target = some (r, g, a) ∧ brWriteEn g = false) →
       Completes (.windowWrite req w off b) s (fun t => t.resp = .error ∧ t.br = s.chip.br ∧ t.regs = s.chip.regs)) ∧
     (reach = true → req < 3 ∨ 6 < req ∨ target = none ∨ (∃ r g a, target = some (r, g, a) ∧ winSize g a len = none) →
       Completes (.windowRead req w off len) s (fun t => t.resp = .error ∧ t.br = s.chip.br ∧ t.regs = s.chip.regs)))) ∧
  (∀ (w off r a : Nat) (g : BrRegion) (u : Chip), u.winTarget w off = some (r, g, a) → r = u.get (Reg.BR_WSEL.REGION w) ∧ g = u.br.regions.getD r {} ∧ brValid g = true ∧
    u.get (Reg.BR_WSEL.EN w) = 1 ∧ a = g.base + u.get (Reg.BR_WSEL.WOFF w) * 64 + (off - 0x40) ∧ a < g.base + 2 ^ brSizeLog g) ∧
  (∀ (g : BrRegion) (a n c : Nat), winSize g a n = some c → n ∈ [1, 2, 4, 8, 32] ∧ a % n = 0 ∧ (n = 32 → brPrefetch g = true) ∧ (n ≠ 32 → n = 2 ^ c ∧ c ≤ brMaxSize g)) ∧
  (∀ (req w off r a c : Nat) (g : BrRegion) (b : List Byte) (s : State), w < 2 → 0x40 ≤ off → off < 0x1000 → s.chip.attends 0x42000000 = true → 3 ≤ req → req ≤ 6 → s.chip.winTarget w off = some (r, g, a) →
    winSize g a b.length = some c → brWriteEn g = true → brPrefetch g = false →
    Completes (.windowWrite req w off b) s (fun t =>
      ((∃ k, k < 32 ∧ ∀ x ∈ s.chip.br.writes, x.tag ≠ 64 + k) → t.resp = .ok ∧ ∃ k, k < 32 ∧ (∀ x ∈ s.chip.br.writes, x.tag ≠ 64 + k) ∧
        t.br.writes = s.chip.br.writes ++ [⟨64 + k, r, a, s.chip.now⟩] ∧
        (s.chip.dataPort (brPort g) = true → brRegionCvu g = none → (s.chip.br.egress.getD (brPort g) []).length < 8 → brPort g < s.chip.br.egress.length →
          t.br.egress.getD (brPort g) [] = s.chip.br.egress.getD (brPort g) [] ++ [⟨brKind g, g.id, brMessage 1 c (64 + k) a (if brNative g = true then b else b.reverse), 0, 0⟩])) ∧
      ((∀ k, k < 32 → ∃ x ∈ s.chip.br.writes, x.tag = 64 + k) → t.resp = .retry ∧ t.br.writes = s.chip.br.writes))) ∧
  (∀ (req w off len r a c : Nat) (g : BrRegion) (s : State), w < 2 → 0x40 ≤ off → off < 0x1000 → s.chip.attends 0x42000000 = true → 3 ≤ req → req ≤ 6 → s.chip.winTarget w off = some (r, g, a) →
    winSize g a len = some c → brPrefetch g = false → (∀ x ∈ s.chip.br.slots, x.st ≠ .free → brPrefetch (s.chip.br.regions.getD x.region {}) = false) →
    (let mine := fun (x : RdSlot) => x.st ≠ .free ∧ x.req = req ∧ x.region = r ∧ x.addr = a ∧ x.size = c
     let held := (s.chip.br.slots.filter (fun x => x.st != .free && x.req == req)).length
     (∀ (n : Nat) (x : RdSlot), s.chip.br.slots[n]? = some x → mine x → (∀ k y, k < n → s.chip.br.slots[k]? = some y → ¬ mine y) →
       Completes (.windowRead req w off len) s (fun t =>
        (x.st = .issued → t.resp = .retry ∧ t.br.slots = s.chip.br.slots) ∧
        (x.st = .ready → t.resp = .data (leNat x.data) ∧ (t.br.slots.getD n {}).st = .free) ∧
        (x.st = .error → t.resp = .error ∧ (t.br.slots.getD n {}).st = .free))) ∧
     ((∀ x ∈ s.chip.br.slots, ¬ mine x) → 16 ≤ held → Completes (.windowRead req w off len) s (fun t => t.resp = .retry ∧ t.br.slots = s.chip.br.slots)) ∧
     ((∀ x ∈ s.chip.br.slots, ¬ mine x) → held < 16 → s.chip.br.slots.length = 64 → (∃ x ∈ s.chip.br.slots, x.st = .free) →
       Completes (.windowRead req w off len) s (fun t => t.resp = .retry ∧ ∃ n, n < 64 ∧ (s.chip.br.slots.getD n {}).st = .free ∧
        t.br.slots.getD n {} = { st := .issued, req := req, region := r, addr := a, size := c, since := s.chip.now } ∧
        ∀ k, k ≠ n → t.br.slots.getD k {} = s.chip.br.slots.getD k {})))) ∧
  (∀ (q n r c a id : Nat) (g : BrRegion) (d : List Byte) (s : State), 8 ≤ q → q < 12 → s.chip.dataPort q = true → n < 64 → n < s.chip.br.slots.length → brRegionCvu g = none →
    c ≤ 3 → a < 2 ^ 32 → d.length = 2 ^ c →
    (let x := s.chip.br.slots.getD n {}
     let rsp := fun (b : List Byte) => s.chip.brResponse q ⟨1, id, b, 0, 0⟩ = some (r, g)
     (rsp (brMessage 3 c n a d) → Completes (.readResponse q (.can id true false false (brMessage 3 c n a d) true)) s (fun t =>
       (x.st = .issued → x.region = r → x.size = c → t.br.slots.getD n {} = { x with st := .ready, since := s.chip.now, data := if brNative g = true then d else d.reverse }) ∧
       (x.st = .issued → x.region = r → x.size ≠ c → t = s.chip) ∧
       (x.st ≠ .issued ∨ x.region ≠ r → t.br = s.chip.br ∧ t.get Reg.BR_CNT2.LATE_RSP = min (s.chip.get Reg.BR_CNT2.LATE_RSP + 1) 65535))) ∧
     (rsp (brMessage 5 c n a []) → x.st = .issued → x.region = r →
       Completes (.readResponse q (.can id true false false (brMessage 5 c n a []) true)) s (fun t => t.br.slots.getD n {} = { x with st := .error } ∧
         (s.chip.staged 64 = false → t.reports 64 2 [n, r, x.addr, 2] = true))))) ∧
  (∀ (q r c a id : Nat) (g : BrRegion) (x : PostedWrite) (s : State), 8 ≤ q → q < 12 → s.chip.dataPort q = true → brRegionCvu g = none → c ≤ 4 → a < 2 ^ 32 → x.tag < 96 →
    s.chip.br.writes.find? (fun y => y.tag == x.tag) = some x →
    (let rsp := fun (b : List Byte) => s.chip.brResponse q ⟨1, id, b, 0, 0⟩ = some (r, g)
     (rsp (brMessage 4 c x.tag a []) → Completes (.writeAck q (.can id true false false (brMessage 4 c x.tag a []) true)) s (fun t =>
       t.br.writes = s.chip.br.writes.filter (fun y => y.tag != x.tag))) ∧
     (rsp (brMessage 5 c x.tag a []) → Completes (.writeAck q (.can id true false false (brMessage 5 c x.tag a []) true)) s (fun t =>
       t.br.writes = s.chip.br.writes.filter (fun y => y.tag != x.tag) ∧ (s.chip.staged 64 = false → t.reports 64 3 [x.region, x.addr, 2] = true))))) ∧
  (∀ (tag : Nat) (s : State), tag < 64 → (s.chip.br.slots.getD tag {}).st = .issued →
    Completes (.responseTimeout tag) s (fun t => t.now = max s.chip.now ((s.chip.br.slots.getD tag {}).since + s.chip.get Reg.BR_DRCFG.RSP_TO * 10000) ∧
      (t.br.slots.getD tag {}).st = .error ∧ (s.chip.staged 64 = false → t.reports 64 2 [tag, (s.chip.br.slots.getD tag {}).region, (s.chip.br.slots.getD tag {}).addr, 1] = true))) ∧
  (∀ (x : PostedWrite) (s : State), 64 ≤ x.tag → s.chip.br.writes.find? (fun y => y.tag == x.tag) = some x →
    Completes (.responseTimeout x.tag) s (fun t => t.now = max s.chip.now (x.since + s.chip.get Reg.BR_DRCFG.RSP_TO * 10000) ∧
      t.br.writes = s.chip.br.writes.filter (fun y => y.tag != x.tag) ∧ (s.chip.staged 64 = false → t.reports 64 3 [x.region, x.addr, 1] = true))) ∧
  (∀ (n : Nat) (s : State), n < 64 → (s.chip.br.slots.getD n {}).st = .ready →
    (let x := s.chip.br.slots.getD n {}
     Completes (.drTimeout n) s (fun t => t.now = max s.chip.now (x.since + s.chip.get Reg.BR_DRCFG.DR_TIMEOUT * 100) ∧ (t.br.slots.getD n {}).st = .free ∧
      if brPrefetch (s.chip.br.regions.getD x.region {}) = true then t.get Reg.BR_ORPH_ADDR.VAL = s.chip.get Reg.BR_ORPH_ADDR.VAL ∧
        (x.region < 16 → t.get (Reg.BR_PFDISC.COUNT x.region) = (if x.seen = 2 ^ 32 - 1 then s.chip.get (Reg.BR_PFDISC.COUNT x.region) else min (s.chip.get (Reg.BR_PFDISC.COUNT x.region) + 1) 65535))
      else t.get Reg.BR_ORPH_ADDR.VAL = x.addr % 2 ^ 32 ∧ t.get Reg.BR_ORPH_DATA.VAL = leNat x.data % 2 ^ 64 ∧ t.get Reg.BR_ORPH_INFO.VALID = 1 ∧ t.get Reg.BR_ORPH_INFO.SIZE = x.size % 8 ∧
        t.get Reg.BR_ORPH_INFO.REGION = x.region % 16 ∧ t.get Reg.BR_ORPH_INFO.REQ = (x.req - 3) % 4 ∧
        t.get Reg.BR_ORPH_INFO.LOST = (if s.chip.get Reg.BR_ORPH_INFO.VALID = 1 then min (s.chip.get Reg.BR_ORPH_INFO.LOST + 1) 255 else s.chip.get Reg.BR_ORPH_INFO.LOST)))) ∧
  (∀ (n : Nat) (s : State), (s.chip.br.slots.getD n {}).st ≠ .ready → Completes (.drTimeout n) s (fun t => t = s.chip))

/-- FABRIC_REQUEST, ARBITRATION_DECISION, FABRIC_RESPONSE, ARB_HUNG (R465 to R478). -/
def Obligations.FabricArbiter : Prop :=
  (∀ (req a : Nat) (wr : Bool) (s : State), 9 < req ∨ outLimit req ≤ s.chip.outOf req → Completes (.fabricRequest req a wr) s (fun t => t = s.chip)) ∧
  (∀ (req a : Nat) (wr : Bool) (s : State), req ≤ 9 → s.chip.outOf req < outLimit req → s.chip.staged 27 = false →
    (let failed := fun (t : Chip) (b tgt : Nat) => t.resp = .error ∧ t.fab = s.chip.fab ∧ t.reports 27 (b + 1) [req, tgt, a] = true ∧
       (t.get Reg.ARB_ERR.CAUSE).testBit b = true ∧ t.get Reg.ARB_ERR_ADDR.ADDR = a % 2 ^ 32 ∧ t.get Reg.ARB_ERR_INFO.TGT = tgt ∧ t.get Reg.ARB_ERR_INFO.CAUSE = b ∧
       t.get Reg.ARB_ERR_INFO.REQ = req ∧ (req < 3 → (t.cic.get req).pend.testBit (112 + b) = true) ∧ (3 ≤ req → t.cic = s.chip.cic)
     let takes := fun (g : Nat) => (g = 3 → wr = true → intakeWrite req a = true) ∧ (g = 4 → wr = false) ∧ (g = 5 → req = 7 ∨ (standbyWindow a = false ∧ wr = false))
     (regionOf a = .none → Completes (.fabricRequest req a wr) s (fun t => failed t 0 15)) ∧
     (regionOf a ≠ .none → fabricTarget req a = none → (wr = true → pageBarred s.chip req a = false) →
       (req < 3 ∨ permitted req a wr = false → Completes (.fabricRequest req a wr) s (fun t => failed t 1 15)) ∧
       (3 ≤ req → permitted req a wr = true → Completes (.fabricRequest req a wr) s (fun t => t = s.chip.answer .ok))) ∧
     (∀ g, regionOf a ≠ .none → fabricTarget req a = some g → reaches g req = false → Completes (.fabricRequest req a wr) s (fun t => failed t 1 g)) ∧
     (∀ g, regionOf a ≠ .none → fabricTarget req a = some g → reaches g req = true → takes g → (s.chip.target g).hung = true →
       Completes (.fabricRequest req a wr) s (fun t => failed t 2 g)) ∧
     (∀ g, regionOf a ≠ .none → fabricTarget req a = some g → reaches g req = true → takes g → (s.chip.target g).hung = false → s.chip.fab.targets.length = 7 → s.chip.fab.out.length = 10 →
       Completes (.fabricRequest req a wr) s (fun t => (t.target g).waiting = (s.chip.target g).waiting ++ [⟨req, a, wr, 0, 0⟩] ∧
         (t.target g).queue = (s.chip.target g).queue ∧ (∀ h, h ≠ g → t.target h = s.chip.target h) ∧ t.outOf req = s.chip.outOf req + 1 ∧
         (∀ q, q ≠ req → t.outOf q = s.chip.outOf q) ∧ t.intake = s.chip.intake)))) ∧
  (∀ (g slot : Nat) (s : State), 6 < g ∨ (s.chip.target g).hung = true ∨ (s.chip.target g).waiting = [] → Completes (.arbitrationDecision g slot) s (fun t => t = s.chip)) ∧
  (∀ (g c : Nat) (r : FabReq) (before rest : List FabReq) (s : State), g = 3 ∨ g = 5 → c < 3 → s.chip.fab.targets.length = 7 → (s.chip.target g).hung = false →
    (s.chip.target g).waiting = before ++ r :: rest → r.req = c → (∀ x ∈ before, x.req ≠ c) → (∀ x ∈ (s.chip.target g).queue, x.req ≠ c) →
    Completes (.arbitrationDecision g (5 * c)) s (fun t => t.target g = { s.chip.target g with waiting := before ++ rest, queue := (s.chip.target g).queue ++ [{ r with granted := s.chip.now }] } ∧
      t.regs = s.chip.regs)) ∧
  (∀ (g slot : Nat) (s : State), g < 7 → s.chip.fab.targets.length = 7 → (s.chip.target g).hung = false → (∀ c, slotChannel g slot = some c → ∀ x ∈ (s.chip.target g).waiting, x.req ≠ c) →
    ((s.chip.target g).queue.filter (fun r => decide (3 ≤ r.req))).length < queueDepth g → (s.chip.target g).credits.length = 7 → (s.chip.target g).ages.length = 7 →
    (let g0 := s.chip.target g
     let waits := fun (j : Nat) => j < 7 ∧ ∃ r ∈ g0.waiting, r.req = j + 3
     let cand := fun (k : FabTarget) (j : Nat) => waits j ∧ ((∃ i, waits i ∧ k.ageLim ≤ k.ages.getD i 0) → k.ageLim ≤ k.ages.getD j 0) ∧
       ((∀ i, waits i → k.ages.getD i 0 < k.ageLim) → 0 < k.credits.getD j 0)
     ∀ k : FabTarget, ((∃ j, cand g0 j) → k = g0) → ((∀ j, ¬ cand g0 j) → k = s.chip.reload g g0) →
      ∀ j, cand k j → (k.pointer ≤ j + 3 → ∀ i, cand k i → k.pointer ≤ i + 3 → j ≤ i) → (j + 3 < k.pointer → ∀ i, cand k i → j ≤ i ∧ i + 3 < k.pointer) →
      Completes (.arbitrationDecision g slot) s (fun t =>
        (t.target g).pointer = (if j = 6 then 3 else j + 4) ∧ (t.target g).credits.getD j 0 = k.credits.getD j 0 - 1 ∧ (t.target g).ages.getD j 0 = 0 ∧
        (∀ i, i ≠ j → (t.target g).credits.getD i 0 = k.credits.getD i 0) ∧
        (∀ i, i ≠ j → waits i → (t.target g).ages.getD i 0 = min (k.ages.getD i 0 + 1) 1023) ∧
        (t.target g).queue.length = g0.queue.length + 1 ∧ (t.target g).waiting.length + 1 = g0.waiting.length ∧
        (∃ r ∈ g0.waiting, r.req = j + 3 ∧ (t.target g).queue = g0.queue ++ [{ r with granted := s.chip.now }]) ∧
        (∀ (n : Nat) (r : FabReq), g0.waiting[n]? = some r → 3 ≤ r.req → r.req ≠ j + 3 → (∀ m x, m < n → g0.waiting[m]? = some x → x.req ≠ r.req) →
          r.waits + 1 = k.ageLim + reachCount g → (t.get Reg.ARB_ERR.CAUSE).testBit 3 = true)))) ∧
  (∀ (g : Nat) (s : State), (s.chip.target g).queue = [] → Completes (.fabricResponse g) s (fun t => t = s.chip) ∧ Completes (.arbHung g) s (fun t => t = s.chip)) ∧
  (∀ (g : Nat) (r : FabReq) (rest : List FabReq) (s : State), g < 7 → s.chip.fab.targets.length = 7 → s.chip.fab.out.length = 10 → r.req ≤ 9 → (s.chip.target g).queue = r :: rest →
    Completes (.fabricResponse g) s (fun t => t.target g = { s.chip.target g with queue := rest } ∧ t.outOf r.req = s.chip.outOf r.req - 1 ∧ t.resp = .ok ∧
      (∀ q, q ≠ r.req → t.outOf q = s.chip.outOf q))) ∧
  (∀ (g : Nat) (r : FabReq) (rest : List FabReq) (s : State), g < 7 → s.chip.fab.targets.length = 7 → s.chip.fab.out.length = 10 → (s.chip.target g).queue = r :: rest →
    (∀ x ∈ r :: rest, x.req ≤ 9) → s.chip.staged 27 = false →
    Completes (.arbHung g) s (fun t => (t.target g).hung = true ∧ (t.target g).queue = [] ∧ (t.target g).waiting = (s.chip.target g).waiting ∧ t.resp = .error ∧
      t.reports 27 3 [r.req, g, r.addr] = true ∧ (t.get Reg.ARB_ERR.CAUSE).testBit 2 = true ∧ r.granted + us 100 ≤ t.now ∧
      (∀ q, q ≤ 9 → t.outOf q = s.chip.outOf q - ((r :: rest).filter (fun x => x.req == q)).length) ∧
      (∀ x ∈ r :: rest, x.req < 3 → (t.cic.get x.req).pend.testBit 114 = true)))

/-- EVENT_RAISE, INT_ASM_WRITE, INT_RAISE, EVENT_MERGE, LOST_RECORD_STAGE (R20, R480 to R483). -/
def Obligations.EventIntake : Prop :=
  (∀ (src code : Nat) (d : List Nat) (s : State),
    (sourceListed src = true → s.chip.staged src = false → Completes (.eventRaise src code d) s (fun t =>
      t.intake = { s.chip.intake with staged := s.chip.intake.staged ++ [{ src := src, code := code, data := d, stamp := s.chip.weirTime, inj := false }] } ∧
      t.get Reg.INT_STAT.FULL = min (s.chip.intake.staged.length + 1) 255 ∧ t.get Reg.INT_LOSTSUM.COUNT = s.chip.get Reg.INT_LOSTSUM.COUNT)) ∧
    (sourceListed src = true → s.chip.staged src = true → Completes (.eventRaise src code d) s (fun t => t.intake.staged = s.chip.intake.staged ∧
      t.get (Reg.INT_LOST.COUNT src) = min (s.chip.get (Reg.INT_LOST.COUNT src) + 1) 65535 ∧ t.get Reg.INT_LOSTSUM.COUNT = min (s.chip.get Reg.INT_LOSTSUM.COUNT + 1) (2 ^ 32 - 1) ∧
      (t.get (Reg.IRQ.RAW 0x40900000)).testBit 0 = true ∧
      (∀ p ∈ s.chip.intake.lost, p.src = src → { p with count := p.count + 1 } ∈ t.intake.lost) ∧
      ((∀ p ∈ s.chip.intake.lost, p.src ≠ src) → LostPend.mk src 1 s.chip.weirTime ∈ t.intake.lost))) ∧
    (sourceListed src = false → Completes (.eventRaise src code d) s (fun t => t = s.chip))) ∧
  (∀ (req k v : Nat) (s : State), req ≤ 6 → k ≤ 10 → s.chip.attends (0x40901040 + 4 * k) = true → s.chip.intake.asm.length = 7 → (∀ b ∈ s.chip.intake.asm, b.length = 11) →
    Completes (.intAsmWrite req k v) s (fun t => t.resp = .ok ∧ (t.intake.asm.getD req []).getD k 0 = v % 2 ^ 32 ∧
      (∀ q j, q ≠ req ∨ j ≠ k → (t.intake.asm.getD q []).getD j 0 = (s.chip.intake.asm.getD q []).getD j 0) ∧ t.intake.staged = s.chip.intake.staged)) ∧
  (∀ (req k v : Nat) (s : State), 6 < req → k ≤ 10 → s.chip.attends (0x40901040 + 4 * k) = true → s.chip.attends 0x40901070 = true →
    Completes (.intAsmWrite req k v) s (fun t => t.resp = .error ∧ t.intake.asm = s.chip.intake.asm ∧ t.get (Reg.BLK_ERR.PLANE 0x40901000) = 1) ∧
    Completes (.intRaise req) s (fun t => t.resp = .error ∧ t.intake.asm = s.chip.intake.asm ∧ t.get (Reg.BLK_ERR.PLANE 0x40901000) = 1)) ∧
  (∀ (req : Nat) (s : State), req ≤ 6 → s.chip.attends 0x40901070 = true →
    (let src := if req < 3 then 19 + req else 93 + req
     let b := s.chip.intake.asm.getD req []
     Completes (.intRaise req) s (fun t => t.resp = .ok ∧ t.intake.asm = s.chip.intake.asm ∧
      (s.chip.staged src = false → t.intake.staged = s.chip.intake.staged ++ [{ src := src, code := b.getD 0 0 % 2 ^ 16, data := b.drop 1, stamp := s.chip.weirTime, inj := false, raw := true }]) ∧
      (s.chip.staged src = true → t.intake.staged = s.chip.intake.staged ∧ t.get Reg.INT_LOSTSUM.COUNT = min (s.chip.get Reg.INT_LOSTSUM.COUNT + 1) (2 ^ 32 - 1))))) ∧
  (∀ s : State, s.chip.intake.staged = [] → Completes .eventMerge s (fun t => t = s.chip)) ∧
  (∀ s : State, s.chip.intake.staged ≠ [] → s.chip.evrRefuses = true → Completes .eventMerge s (fun t => t.intake.staged = s.chip.intake.staged ∧ t.evr = s.chip.evr ∧
    t.intake.lost = s.chip.intake.lost ∧ t.intake.stallSince = some (s.chip.intake.stallSince.getD s.chip.now) ∧ (s.chip.intake.stallSince = none → t.get Reg.INT_STAT.STALL = 1))) ∧
  (∀ s : State, s.chip.intake.staged ≠ [] → s.chip.evrRefuses = false → s.chip.evr.port = none → s.chip.intake.later = [] → s.chip.intake.stallSince = none →
    Completes .eventMerge s (fun t => t.get Reg.INT_STAT.STALL = 0 ∧ ∃ e ∈ s.chip.intake.staged, t.evr.port = some e ∧ t.intake.staged = s.chip.intake.staged.filter (fun x => x.src != e.src) ∧
      ∀ x ∈ s.chip.intake.staged, e.stamp < x.stamp ∨ (e.stamp = x.stamp ∧ e.src ≤ x.src))) ∧
  (∀ (src : Nat) (p : LostPend) (s : State), s.chip.intake.lost.find? (fun x => x.src == src) = some p → sourceListed src = true → (∀ q, s.chip.evr.spill = some q → q.closed = false) →
    (s.chip.staged src = false → Completes (.lostRecordStage src) s (fun t => t.reports src 0xFF [p.count, p.first] = true ∧ t.intake.lost = s.chip.intake.lost.filter (fun x => x.src != src))) ∧
    (s.chip.staged src = true → Completes (.lostRecordStage src) s (fun t => t = s.chip)))

/-- RECORD_ENTRY, FLUSH_HALF, FLUSH_TIMER, FLUSH_START, EMMC_WRITE_DONE, EMMC_WRITE_FAIL, LOG_RECOVERY_DONE (R487 to R498). -/
def Obligations.RecorderFlush : Prop :=
  (∀ s : State, s.chip.evr.port = none ∨ s.chip.evrRefuses = true → Completes .recordEntry s (fun t => t = s.chip)) ∧
  (∀ (e : Ev) (s : State), s.chip.evr.port = some e → s.chip.evrRefuses = false →
    (let pend := s.chip.get Reg.EVR_CF.PEND
     let slot := (s.chip.get Reg.EVR_CF.HEAD + pend) % 4096
     let st := s.chip.get Reg.EVR_STAT.STATE
     Completes .recordEntry s (fun t => t.evr.port = none ∧ t.get Reg.EVR_CF.HEAD = s.chip.get Reg.EVR_CF.HEAD ∧
      (∃ r, t.evr.carafe.find? (fun x => x.1 == slot) = some (slot, r) ∧ r.ev = e ∧ r.time = (e.stamp * 10 + s.chip.get Reg.EVR_CALOFF.VAL) % 2 ^ 64 ∧
        r.tsrc = s.chip.get Reg.EVR_STAT.TSRC ∧ r.taken = false) ∧
      (st ≠ 3 ∨ pend ≠ 3686 → t.get Reg.EVR_CF.PEND = pend + 1 ∧ t.get Reg.EVR_STAT.STATE = st) ∧
      (st = 3 → pend = 3686 → t.get Reg.EVR_CF.PEND = 3688 ∧ t.get Reg.EVR_STAT.STATE = 2 ∧ (t.get (Reg.IRQ.RAW evrPage)).testBit 2 = true ∧
        ∃ r, t.evr.carafe.find? (fun x => x.1 == (slot + 1) % 4096) = some ((slot + 1) % 4096, r) ∧ r.ev.src = 101 ∧ r.ev.code = 4 ∧ r.ev.data.getD 0 0 = 1 ∧ r.ev.data.getD 2 0 = 3687) ∧
      (s.chip.evrUrgent e.src = true → 2 ≤ st → st ≤ 4 → t.evr.trig = true) ∧ t.evr.trigFault = s.chip.evr.trigFault))) ∧
  (∀ s : State, (s.chip.evr.half = false → Completes .flushHalf s (fun t => t = s.chip)) ∧
    (s.chip.evr.half = true → s.chip.get Reg.EVR_STAT.STATE = 2 → Completes .flushHalf s (fun t => t.evr.half = false ∧ t.evr.trig = true ∧ (t.get (Reg.IRQ.RAW evrPage)).testBit 1 = true)) ∧
    (s.chip.get Reg.EVR_CF.PEND = 0 → Completes .flushTimer s (fun t => t = s.chip)) ∧
    (0 < s.chip.get Reg.EVR_CF.PEND → s.chip.get Reg.EVR_STAT.STATE = 2 → Completes .flushTimer s (fun t => t.evr.trig = true ∧ t.now = max s.chip.now (s.chip.evr.lastFlush + sec 1)))) ∧
  (∀ s : State, s.chip.evr.trig = false ∨ s.chip.evr.flush.isSome ∨ (s.chip.get Reg.EVR_STAT.STATE ≠ 2 ∧ s.chip.get Reg.EVR_STAT.STATE ≠ 4) → Completes .flushStart s (fun t => t = s.chip)) ∧
  (∀ s : State, s.chip.evr.trig = true → s.chip.evr.flush = none → s.chip.get Reg.EVR_STAT.STATE = 2 → (∀ c, s.chip.evr.clear = some c → c.step2 = false) → 0 < s.chip.get Reg.EVR_CF.PEND →
    (∀ i, i < s.chip.get Reg.EVR_CF.PEND → (s.chip.evr.carafe.find? (fun e => e.1 == (s.chip.get Reg.EVR_CF.HEAD + i) % 4096)).isSome) →
    Completes .flushStart s (fun t => t.evr.trig = false ∧ t.evr.lastFlush = s.chip.now ∧ t.get Reg.EVR_SEQ.VAL = (s.chip.get Reg.EVR_SEQ.VAL + s.chip.get Reg.EVR_CF.PEND) % 2 ^ 32 ∧
      t.get Reg.EVR_CF.PEND = s.chip.get Reg.EVR_CF.PEND ∧
      ∃ f, t.evr.flush = some f ∧ f.fault = s.chip.evr.trigFault ∧ f.eddy.length = s.chip.get Reg.EVR_CF.PEND ∧
        (∀ (i : Nat) (r : Rec), f.eddy[i]? = some r → r.seq = (s.chip.get Reg.EVR_SEQ.VAL + i) % 2 ^ 32 ∧ r.pcc = s.chip.get Reg.EVR_PCC.VAL ∧ r.taken = true ∧
          ∃ q, s.chip.evr.carafe.find? (fun e => e.1 == (s.chip.get Reg.EVR_CF.HEAD + i) % 4096) = some q ∧ q.2.ev = r.ev ∧ q.2.time = r.time) ∧
        (∀ r, r ∈ f.hw ↔ r ∈ f.eddy ∧ s.chip.get Reg.EVR_STAT.HW_FULL = 0 ∧ r.seq < s.chip.get Reg.EVR_N.VAL))) ∧
  (∀ (f : Flush) (s : State), s.chip.evr.flush = some f → f.eddy ≠ [] →
    (let p := leadSector s.chip.eddySlot f.eddy
     p.1 ++ p.2 = f.eddy ∧ (∀ x ∈ p.1, ∀ y ∈ p.1, s.chip.eddySlot x / 8 = s.chip.eddySlot y / 8) ∧ ∃ last, p.1.getLast? = some last ∧
     (p.2 ≠ [] ∨ f.hw ≠ [] → Completes .emmcWriteDone s (fun t => t.evr.flush = some { f with eddy := p.2 } ∧ t.evr.tries = 0 ∧
      t.get Reg.EVR_CF.PEND = s.chip.get Reg.EVR_CF.PEND - p.1.length ∧ t.get Reg.EVR_CF.HEAD = (s.chip.get Reg.EVR_CF.HEAD + p.1.length) % 4096 ∧
      (∀ r ∈ p.1, (∀ x ∈ p.1, s.chip.eddySlot x = s.chip.eddySlot r → x = r) → t.log.eddy.find? (fun e => e.1 == s.chip.eddySlot r) = some (s.chip.eddySlot r, r)) ∧
      t.get Reg.EVR_LOGCV.VAL = crcOf crc64 (leBytes 4 (s.chip.get Reg.EVR_PCC.VAL) ++ leBytes 4 (s.chip.get Reg.EVR_BASE.VAL) ++ leBytes 4 last.seq ++ leBytes 4 last.crc ++
        leBytes 4 (s.chip.get Reg.EVR_HWFILL.VAL)) % 2 ^ 64)))) ∧
  (∀ (f : Flush) (s : State), s.chip.evr.flush = some f → f.eddy = [] → f.hw ≠ [] → (∀ r ∈ f.hw, r.seq < s.chip.get Reg.EVR_N.VAL) →
    (let p := leadSector (fun r => r.seq) f.hw
     let fill := p.1.foldl (fun m r => max m (r.seq + 1)) (s.chip.get Reg.EVR_HWFILL.VAL)
     Completes .emmcWriteDone s (fun t => t.get Reg.EVR_HWFILL.VAL = fill ∧ t.log.eddy = s.chip.log.eddy ∧
      (fill = s.chip.get Reg.EVR_N.VAL → s.chip.get Reg.EVR_STAT.HW_FULL = 0 → t.get Reg.EVR_STAT.HW_FULL = 1 ∧ (t.get (Reg.IRQ.RAW evrPage)).testBit 6 = true) ∧
      (fill ≠ s.chip.get Reg.EVR_N.VAL → t.get Reg.EVR_STAT.HW_FULL = s.chip.get Reg.EVR_STAT.HW_FULL)))) ∧
  (∀ (c : EddyClear) (s : State), s.chip.evr.flush = none → s.chip.evr.clear = some c → c.step2 = true → s.chip.get Reg.EVR_CF.PEND < 4096 →
    (let head := (s.chip.get Reg.EVR_CF.HEAD + 4095) % 4096
     Completes .emmcWriteDone s (fun t => t.log.eddy = [] ∧ t.log.headwater = s.chip.log.headwater ∧ t.log.best.map (·.base) = some (s.chip.get Reg.EVR_BASE.VAL) ∧
      t.get Reg.EVR_CLR_STAT.RESULT = 1 ∧ t.evr.clear = none ∧ (t.get (Reg.IRQ.RAW evrPage)).testBit 4 = true ∧ t.get Reg.EVR_CF.HEAD = head ∧
      ∃ r, t.evr.carafe.find? (fun x => x.1 == head) = some (head, r) ∧ r.ev.src = 101 ∧ r.ev.code = 5 ∧
        r.ev.data = [c.oldBase, (s.chip.get Reg.EVR_BASE.VAL + 2 ^ 32 - 1) % 2 ^ 32, s.chip.log.eddy.length, c.quoted]))) ∧
  (∀ s : State, s.chip.evr.flush = none → (∀ c, s.chip.evr.clear = some c → c.step2 = false) → Completes .emmcWriteDone s (fun t => t = s.chip) ∧
    ∀ status, Completes (.emmcWriteFail status) s (fun t => t = s.chip)) ∧
  (∀ (status : Nat) (s : State), s.chip.evr.flush.isSome →
    (s.chip.evr.tries < 3 → Completes (.emmcWriteFail status) s (fun t => t = { s.chip with evr := { s.chip.evr with tries := s.chip.evr.tries + 1 } })) ∧
    (3 ≤ s.chip.evr.tries → Completes (.emmcWriteFail status) s (fun t => t.get Reg.EVR_STAT.STATE = 5 ∧ t.evr.flush = none ∧ t.evr.trig = false ∧
      (t.get (Reg.IRQ.RAW evrPage)).testBit 3 = true ∧ t.log = s.chip.log ∧ t.get Reg.FLT_CNT.NONSAFETY = min (s.chip.get Reg.FLT_CNT.NONSAFETY + 1) (2 ^ Reg.FLT_CNT.NONSAFETY.width - 1)))) ∧
  (∀ s : State, s.chip.get Reg.EVR_STAT.STATE ≠ 0 → s.chip.get Reg.EVR_STAT.STATE ≠ 4 → Completes .logRecoveryDone s (fun t => t = s.chip)) ∧
  (∀ s : State, s.chip.get Reg.EVR_STAT.STATE = 0 →
    (let l : EmmcLog := assoc s.chip.evr.logs (s.chip.get Reg.EVR_LBA.LBA) {}
     (l.sb0 = none → l.sb1 = none → Completes .logRecoveryDone s (fun t => t.get Reg.EVR_STAT.STATE = 1)) ∧
     (∀ sb, l.sb0 = some sb ∨ l.sb1 = some sb → (∀ x, l.sb0 = some x ∨ l.sb1 = some x → x.gen < sb.gen ∨ x = sb) →
       Completes .logRecoveryDone s (fun t => t.get Reg.EVR_STAT.STATE = 2 ∧ t.get Reg.EVR_N.VAL = sb.n % 2 ^ 32 ∧ t.get Reg.EVR_M.VAL = sb.m % 2 ^ 32 ∧
        t.get Reg.EVR_BASE.VAL = sb.base % 2 ^ 32 ∧ t.get Reg.EVR_PCC.VAL = (sb.pcc + 1) % 2 ^ 32 ∧ t.log.best.map (·.pcc) = some ((sb.pcc + 1) % 2 ^ 32) ∧
        (∀ r ∈ l.found, (∀ x ∈ l.found, x.seq ≤ r.seq) → t.get Reg.EVR_SEQ.VAL = max sb.base (r.seq + 1) % 2 ^ 32) ∧
        (l.found = [] → t.get Reg.EVR_SEQ.VAL = sb.base % 2 ^ 32) ∧
        (s.chip.get Reg.EVR_CF.PEND < 4096 →
          (let slot := (s.chip.get Reg.EVR_CF.HEAD + s.chip.get Reg.EVR_CF.PEND) % 4096
           ∃ r, t.evr.carafe.find? (fun x => x.1 == slot) = some (slot, r) ∧ r.ev.src = 101 ∧ r.ev.code = 1 ∧ r.ev.data.getD 0 0 = (sb.pcc + 1) % 2 ^ 32))))))

/-- FREEZE, UNFREEZE, FLUSH, FORMAT, SPILLWAY_START, SPILLWAY_INTAKE_CLOSE, EVR_CURSOR_WRITE, WINDOW_FETCH_DONE, EVR_WIN15_READ,
EVR_CLR_HI_WRITE (R498 to R507). -/
def Obligations.RecorderCommands : Prop :=
  (∀ s : State, s.chip.attends 0x4450004C = true →
    (let st := s.chip.get Reg.EVR_STAT.STATE
     let own := fun (t : Chip) (code : Nat) (d : List Nat) => s.chip.get Reg.EVR_CF.PEND < 4096 →
       (let slot := (s.chip.get Reg.EVR_CF.HEAD + s.chip.get Reg.EVR_CF.PEND) % 4096
        ∃ r, t.evr.carafe.find? (fun x => x.1 == slot) = some (slot, r) ∧ r.ev.src = 101 ∧ r.ev.code = code ∧ r.ev.data = d)
     let ignored := fun (t : Chip) => t.resp = .ok ∧ t.get Reg.EVR_STAT.CMD_ERR = 1 ∧ t.get Reg.EVR_STAT.STATE = st ∧ t.evr = s.chip.evr
     let n := s.chip.get Reg.EVR_FMT_N.COUNT
     let m := s.chip.get Reg.EVR_FMT_M.COUNT
     let fits := n ≤ 1048576 ∧ 8192 ≤ m ∧ m - 8192 ≤ Config.emmcSpare ∧ n % 8 = 0 ∧ m % 8 = 0
     (st = 2 → s.chip.get Reg.EVR_CF.PEND ≠ 3686 → Completes .freeze s (fun t => t.resp = .ok ∧ t.get Reg.EVR_STAT.STATE = 3 ∧ t.get Reg.EVR_STAT.CMD_ERR = 0 ∧
       t.evr.frozenAt = some s.chip.now ∧ own t 0x0B [1])) ∧
     (st ≠ 2 → Completes .freeze s ignored) ∧
     (st = 3 → Completes .unfreeze s (fun t => t.resp = .ok ∧ t.get Reg.EVR_STAT.STATE = 2 ∧ t.get Reg.EVR_STAT.CMD_ERR = 0 ∧ t.evr.frozenAt = none ∧ own t 0x0B [0])) ∧
     (st ≠ 3 → Completes .unfreeze s ignored) ∧
     (st = 2 ∨ st = 3 → Completes .flush s (fun t => t.resp = .ok ∧ t.get Reg.EVR_STAT.CMD_ERR = 0 ∧ t.evr.trig = true ∧ t.get Reg.EVR_STAT.STATE = st)) ∧
     (st ≠ 2 → st ≠ 3 → Completes .flush s ignored) ∧
     (st = 1 → fits → Completes .format s (fun t => t.resp = .ok ∧ t.get Reg.EVR_STAT.STATE = 2 ∧ t.get Reg.EVR_STAT.CMD_ERR = 0 ∧ t.get Reg.EVR_N.VAL = n ∧ t.get Reg.EVR_M.VAL = m ∧
       t.get Reg.EVR_BASE.VAL = 0 ∧ t.get Reg.EVR_SEQ.VAL = 0 ∧ t.log.eddy = [] ∧ t.log.headwater = [] ∧ t.log.best.isSome ∧ own t 9 [n, m])) ∧
     (st ≠ 1 ∨ ¬ fits → Completes .format s ignored))) ∧
  (∀ s : State, s.chip.link.resetDown.head? ≠ some 0 → Completes .spillwayStart s (fun t => t = s.chip)) ∧
  (∀ (rest : List Nat) (s : State), s.chip.link.resetDown = 0 :: rest →
    (let st := s.chip.get Reg.EVR_STAT.STATE
     (st = 1 ∨ st = 4 ∨ st = 5 → Completes .spillwayStart s (fun t => t.evr = s.chip.evr ∧ t.regs = s.chip.regs ∧ t.link.resetDown = rest)) ∧
     (st = 0 ∨ st = 2 ∨ st = 3 → Completes .spillwayStart s (fun t => t.get Reg.EVR_STAT.STATE = 4 ∧ t.evr.fetching = false ∧ t.evr.spill.map (·.start) = some s.chip.weirTime ∧
       t.link.resetDown = rest ∧ (s.chip.get Reg.EVR_CF.PEND < 4096 →
        (let slot := (s.chip.get Reg.EVR_CF.HEAD + s.chip.get Reg.EVR_CF.PEND) % 4096
         ∃ r, t.evr.carafe.find? (fun x => x.1 == slot) = some (slot, r) ∧ r.ev.src = 101 ∧ r.ev.code = 2 ∧ r.ev.data = [s.chip.weir.pfailOrigin, s.chip.get Reg.EVR_CF.PEND])))))) ∧
  (∀ s : State, (s.chip.evr.spill = none → Completes .spillwayIntakeClose s (fun t => t = s.chip)) ∧
    (∀ p, s.chip.evr.spill = some p → Completes .spillwayIntakeClose s (fun t => t.evrRefuses = true ∧ (p.closed = false → t.now = max s.chip.now (p.startNow + ms 1))))) ∧
  (∀ (i : Nat) (s : State), s.chip.attends 0x44501040 = true → Completes (.evrCursorWrite i) s (fun t => t.resp = .ok ∧ t.get Reg.EVR_CURSOR.INDEX = i % 2 ^ 32 ∧
    t.get Reg.EVR_STAT.WIN_READY = 0 ∧ t.get Reg.EVR_STAT.GONE = 0 ∧ t.evr.fetching = true)) ∧
  (∀ s : State, (s.chip.evr.fetching = false → Completes .windowFetchDone s (fun t => t = s.chip)) ∧
    (s.chip.evr.fetching = true → Completes .windowFetchDone s (fun t => t.evr.fetching = false ∧ t.get Reg.EVR_STAT.WIN_READY = 1 ∧
      (∀ r, s.chip.evrSelected = some r → t.get Reg.EVR_STAT.GONE = 0 ∧ ∀ k, k < 16 → t.get (Reg.EVR_WIN.DATA k) = leAt r.bytes (4 * k) 4) ∧
      (s.chip.evrSelected = none → t.get Reg.EVR_STAT.GONE = 1 ∧ ∀ k, k < 16 → t.get (Reg.EVR_WIN.DATA k) = 0)))) ∧
  (∀ (u : Chip) (r : Rec), u.evrSelected = some r → (u.get Reg.EVR_CURCTL.AREA = 0 → r.seq = u.get Reg.EVR_CURSOR.INDEX ∧ ∃ k, (k, r) ∈ u.log.eddy) ∧
    (u.get Reg.EVR_CURCTL.AREA = 1 → (u.get Reg.EVR_CURSOR.INDEX, r) ∈ u.log.headwater)) ∧
  (∀ s : State, s.chip.attends 0x445010BC = true →
    (s.chip.get Reg.EVR_STAT.WIN_READY = 1 → Completes .evrWin15Read s (fun t => t.resp = .data (s.chip.get (Reg.EVR_WIN.DATA 15)) ∧
      t.get Reg.EVR_CURSOR.INDEX = (s.chip.get Reg.EVR_CURSOR.INDEX + 1) % 2 ^ 32 ∧ t.get Reg.EVR_STAT.WIN_READY = 0 ∧ t.evr.fetching = true)) ∧
    (s.chip.get Reg.EVR_STAT.WIN_READY = 0 → Completes .evrWin15Read s (fun t => t.resp = .error ∧ t.get (Reg.BLK_ERR.ACCESS 0x44501000) = 1 ∧ t.evr = s.chip.evr))) ∧
  (∀ (req hi : Nat) (s : State), s.chip.attends 0x445010C4 = true →
    (let st := s.chip.get Reg.EVR_STAT.STATE
     let q := s.chip.get Reg.EVR_CLR.CV % 2 ^ 32 + hi % 2 ^ 32 * 2 ^ 32
     let reason := if st = 4 then 5 else if q ≠ s.chip.get Reg.EVR_LOGCV.VAL then 1 else if s.chip.get Reg.WR_STAT.MAINT = 0 then 2
       else if s.chip.svc.connected = false then 3 else if st ≠ 2 ∧ st ≠ 3 then 4 else 0
     (req < 3 ∨ 7 < req → Completes (.evrClrHiWrite req hi) s (fun t => t.resp = .error ∧ t.evr = s.chip.evr)) ∧
     (req = 7 → Completes (.evrClrHiWrite req hi) s (fun t => t.resp = .ok ∧ t.evr.clear = s.chip.evr.clear ∧ t.get Reg.EVR_BASE.VAL = s.chip.get Reg.EVR_BASE.VAL)) ∧
     (3 ≤ req → req ≤ 6 → reason ≠ 0 → Completes (.evrClrHiWrite req hi) s (fun t => t.resp = .ok ∧ t.get Reg.EVR_CLR_STAT.RESULT = reason + 1 ∧ t.evr.clear = s.chip.evr.clear)) ∧
     (3 ≤ req → req ≤ 6 → reason = 0 → s.chip.evr.clear = none → Completes (.evrClrHiWrite req hi) s (fun t => t.resp = .ok ∧ t.get Reg.EVR_CLR_STAT.RESULT = 0 ∧
       t.evr.clear = some ⟨q, false, false, 0⟩ ∧ t.get Reg.EVR_STAT.STATE = 2 ∧ t.evr.trig = true))))

/-- PERC_SLICE_START, PERC_SLICE_DONE, SCHED_SLICE_TIMER, PERC_FUSE_GO, FUSE_DONE (R513 to R525). -/
def Obligations.Percolator : Prop :=
  (∀ (c : Nat) (s : State), s.chip.perc.length = 4 →
    (let runs := c < 3 ∧ s.chip.get (Reg.PERC_CFG.EN (percPage c)) = 1 ∧ s.chip.get (Reg.CH_STATE.STATE c) = 3 ∧ (s.chip.chan c).logic.sliceReady = true ∧
       (s.chip.chan c).link.sliceReady = true ∧ (s.chip.percOf c).running = []
     (runs → Completes (.percSliceStart c) s (fun t => (t.percOf c).running = [(0, s.chip.now)] ∧ (t.percOf c).pos = (s.chip.percOf c).pos ∧
       (t.percOf c).spares = (s.chip.percOf c).spares ∧ (t.percOf c).pending = (s.chip.percOf c).pending ∧ t.get (Reg.PERC_STAT.ACTIVE (percPage c)) = 1 ∧
       (∀ e, e ≠ c → t.percOf e = s.chip.percOf e) ∧ t.chans = s.chip.chans)) ∧
     (¬ runs → Completes (.percSliceStart c) s (fun t => t = s.chip)))) ∧
  (∀ s : State, s.chip.perc.length = 4 → s.chip.get (Reg.PERC_CFG.EN 0x44600000) = 1 →
    Completes .schedSliceTimer s (fun t => t.now = max s.chip.now (s.chip.percOf 3).due ∧ (t.percOf 3).due = t.now + ms (s.chip.get (Reg.PERC_GRP.PERIOD 0x44600000)) ∧
      (∀ g, g < 3 → (s.chip.get (Reg.PERC_GRP.GRP_EN 0x44600000)).testBit g = true → ∃ b, (g, b) ∈ (t.percOf 3).running) ∧
      (∀ x ∈ (s.chip.percOf 3).running, x ∈ (t.percOf 3).running) ∧
      ((s.chip.get (Reg.PERC_GRP.GRP_EN 0x44600000)).testBit 1 = true → (∀ x ∈ (s.chip.percOf 3).running, x.1 ≠ 1) → t.evrRefuses = true) ∧ t.chans = s.chip.chans)) ∧
  (∀ s : State, s.chip.get (Reg.PERC_CFG.EN 0x44600000) = 0 → Completes .schedSliceTimer s (fun t => (t.percOf 3).running = (s.chip.percOf 3).running ∧ t.evr = s.chip.evr)) ∧
  (∀ (e g : Nat) (r : SliceEnd) (s : State), (∀ x ∈ (s.chip.percOf e).running, x.1 ≠ g) → Completes (.percSliceDone e g r) s (fun t => t = s.chip)) ∧
  (∀ (e g corr b : Nat) (s : State), e < 4 → g < 3 → (e < 3 → g = 0) → s.chip.perc.length = 4 → (s.chip.percOf e).pos.length = 3 → (s.chip.percOf e).running = [(g, b)] →
    (let p := (s.chip.percOf e).pos.getD g (0, 0)
     let n := 32768 / max 1 (s.chip.get (Reg.PERC_CFG.SLICE_WORDS (percPage e)))
     let last := if e < 3 ∨ g = 0 then 31 else 0
     Completes (.percSliceDone e g (.pass corr)) s (fun t => (t.percOf e).running = [] ∧ t.get (Reg.PERC_STAT.ACTIVE (percPage e)) = 0 ∧
      t.get (Reg.PERC_CNT.CORR (percPage e)) = min 255 (s.chip.get (Reg.PERC_CNT.CORR (percPage e)) + corr) ∧ (t.percOf e).spares = (s.chip.percOf e).spares ∧
      t.now = max s.chip.now (b + 20 + s.chip.get (Reg.PERC_CFG.SLICE_WORDS (percPage e))) ∧
      (e < 3 → (t.chan e).logic.held = false ∧ (t.chan e).link.held = false) ∧
      (p.2 + 1 < n → (t.percOf e).pos.getD g (0, 0) = (p.1, p.2 + 1)) ∧
      (n ≤ p.2 + 1 → p.1 < last → (t.percOf e).pos.getD g (0, 0) = (p.1 + 1, 0)) ∧
      (n ≤ p.2 + 1 → last ≤ p.1 → (t.percOf e).pos.getD g (0, 0) = (0, 0) ∧ t.get (Reg.PERC_CNT.PASSES (percPage e)) = min (s.chip.get (Reg.PERC_CNT.PASSES (percPage e)) + 1) 65535 ∧
        (t.get (Reg.IRQ.RAW (percPage e))).testBit 3 = true)))) ∧
  (∀ (e g corr elem word expected seen b : Nat) (s : State), e < 4 → g < 3 → (e < 3 → g = 0) → s.chip.perc.length = 4 → elem < 8 → s.chip.staged (percSrc e) = false →
    (s.chip.percOf e).running = [(g, b)] → (s.chip.percOf e).pos.length = 3 →
    (e < 3 → s.chip.get (Reg.CH_STATE.STATE e) = 3) → (∃ k, k < 72 ∧ (expected ^^^ seen).testBit k = true) → expected < 2 ^ 72 → seen < 2 ^ 72 →
    (let q := (s.chip.percOf e).pos.getD g (0, 0)
     let m := g * 32 + q.1
     let w := q.2 * s.chip.get (Reg.PERC_CFG.SLICE_WORDS (percPage e)) + word
     let d := expected ^^^ seen
     let pick := ((s.chip.percOf e).remember m w d).choose m w d
     let left := ∃ c, c < 3 ∧ c ≠ e ∧ (s.chip.percOf c).left = true
     let failed := fun (t : Chip) => t.get (Reg.PERC_FADDR.ADDR (percPage e)) = macroWord e m w % 2 ^ 32 ∧ t.get (Reg.PERC_FINFO.VALID (percPage e)) = 1 ∧
       d.testBit (t.get (Reg.PERC_FINFO.BIT (percPage e))) = true ∧ (∀ k, k < t.get (Reg.PERC_FINFO.BIT (percPage e)) → d.testBit k = false) ∧
       t.get (Reg.PERC_FINFO.ELEM (percPage e)) = elem ∧ t.get (Reg.PERC_FEXP.DATA (percPage e)) = expected % 2 ^ 64 ∧ t.get (Reg.PERC_FOBS.DATA (percPage e)) = seen % 2 ^ 64 ∧
       t.get (Reg.PERC_CNT.FAILS (percPage e)) = min (s.chip.get (Reg.PERC_CNT.FAILS (percPage e)) + 1) 255 ∧ (t.get (Reg.IRQ.RAW (percPage e))).testBit 0 = true
     Completes (.percSliceDone e g (.fail corr elem word expected seen)) s (fun t => failed t ∧
      t.now = max s.chip.now (b + s.chip.failTicks e elem word) ∧
      (s.chip.get Reg.WR_STAT.SAFE = 1 → (t.percOf e).spares = (s.chip.percOf e).spares ∧ (e < 3 → pick ≠ none → t.get (Reg.CH_STATE.STATE e) = 3)) ∧
      (pick = none → (t.get (Reg.IRQ.RAW (percPage e))).testBit 2 = true ∧ (t.percOf e).spares = (s.chip.percOf e).spares) ∧
      (∀ i, s.chip.get Reg.WR_STAT.SAFE = 0 → pick = some i → 3 ≤ e ∨ (¬ left ∧ (s.chip.get Reg.CF_MODE.MODE ≠ 2 ∨ oneBit d = false)) → ((s.chip.percOf e).spareList m).length = 6 →
        ((t.percOf e).spareList m).getD i {} = ⟨true, false, spareAddr i w d⟩ ∧ ∀ j, j ≠ i → ((t.percOf e).spareList m).getD j {} = ((s.chip.percOf e).spareList m).getD j {}) ∧
      (e < 3 → pick = none ∨ (s.chip.get Reg.WR_STAT.SAFE = 0 ∧ ¬ left ∧ (s.chip.get Reg.CF_MODE.MODE ≠ 2 ∨ oneBit d = false)) →
        t.get (Reg.CH_STATE.STATE e) = 4 ∧ t.get (Reg.CH_LOSS.CAUSE e) = 9) ∧
      (∀ i, e < 3 → s.chip.get Reg.WR_STAT.SAFE = 0 → pick = some i → left ∨ (s.chip.get Reg.CF_MODE.MODE = 2 ∧ oneBit d = true) →
        (t.percOf e).spares = (s.chip.percOf e).spares ∧ PercPend.mk m w d ∈ (t.percOf e).pending.map (fun x => if x.macroNo = m ∧ x.word = w then PercPend.mk m w d else x) ∧
        t.get (Reg.CH_STATE.STATE e) = 3)))) ∧
  (∀ (m w d : Nat) (p : Perc),
    (let l := p.spareList m
     let unused := fun (i : Nat) => i < 6 ∧ (l.getD i {}).used = false
     let column := oneBit d = true ∧ ∃ h ∈ p.seen, h.1 = m ∧ h.2.1 = failColumn w d ∧ h.2.2 ≠ wordRow w
     (∀ i, p.choose m w d = some i → unused i ∧ (column → i < 4 → ∀ j, unused j → i ≤ j ∧ j < 4) ∧ (column → 4 ≤ i → ∀ j, unused j → 4 ≤ j → i ≤ j) ∧
       (¬ column → ∀ j, unused j → i ≤ j)) ∧
     (p.choose m w d = none → ∀ j, ¬ unused j))) ∧
  (∀ (req e v : Nat) (s : State), e < 4 → s.chip.perc.length = 4 → s.chip.attends (percPage e) = true → s.chip.staged (percSrc e) = false → s.chip.planeBars req (percPage e + 0x100) = false →
    s.chip.pageReach req (percPage e + 0x100) = true →
    (let m := if e < 3 then bits v 4 0 else bits v 7 5 * 32 + bits v 4 0
     let sp := bits v 10 8
     let x := ((s.chip.percOf e).spareList m).getD sp {}
     let st := if x.used = false then 2 else if x.fused = true then 3 else if s.chip.get Reg.WR_STAT.MAINT = 0 then 4 else if s.chip.get (Reg.PERC_FSTAT.BUSY (percPage e)) = 1 then 5 else 0
     (s.chip.lockOpen (percPage e + 0x100) req = false → Completes (.percFuseGo req e v) s (fun t => t.resp = .error ∧ t.perc = s.chip.perc ∧ t.get (Reg.BLK_ERR.LOCK_VIOL (percPage e)) = 1)) ∧
     (s.chip.lockOpen (percPage e + 0x100) req = true → v.testBit 31 = true → st ≠ 0 → Completes (.percFuseGo req e v) s (fun t => t.resp = .ok ∧ t.perc = s.chip.perc ∧
       t.get (Reg.PERC_FSTAT.RESULT (percPage e)) = st ∧ t.reports (percSrc e) 6 [m % 32, sp, st] = true)) ∧
     (s.chip.lockOpen (percPage e + 0x100) req = true → v.testBit 31 = true → st = 0 → Completes (.percFuseGo req e v) s (fun t => t.resp = .ok ∧
       (t.percOf e).fuse = some ⟨s.chip.now + ms 2, m, sp, 0⟩ ∧ t.get (Reg.PERC_FSTAT.BUSY (percPage e)) = 1 ∧ t.get (Reg.PERC_FUSE.GO (percPage e)) = 1 ∧
       (t.percOf e).spares = (s.chip.percOf e).spares)) ∧
     (s.chip.lockOpen (percPage e + 0x100) req = true → v.testBit 31 = false → Completes (.percFuseGo req e v) s (fun t => t.resp = .ok ∧ t.perc = s.chip.perc)))) ∧
  (∀ (req e v : Nat) (s : State), e < 4 → s.chip.planeBars req (percPage e + 0x100) = true → Completes (.percFuseGo req e v) s (fun t => t.resp = .error ∧ t.perc = s.chip.perc)) ∧
  (∀ (req e v : Nat) (s : State), 4 ≤ e → Completes (.percFuseGo req e v) s (fun t => t = s.chip)) ∧
  (∀ (e : Nat) (s : State), (s.chip.percOf e).fuse = none → Completes (.fuseDone e) s (fun t => t = s.chip)) ∧
  (∀ (e : Nat) (f : FuseRun) (s : State), e < 4 → s.chip.perc.length = 4 → (s.chip.percOf e).fuse = some f → s.chip.staged (percSrc e) = false → ((s.chip.percOf e).spareList f.macroNo).length = 6 → f.spare < 6 →
    (let x := ((s.chip.percOf e).spareList f.macroNo).getD f.spare {}
     Completes (.fuseDone e) s (fun t => (t.percOf e).fuse = none ∧ ((t.percOf e).spareList f.macroNo).getD f.spare {} = { x with fused := true } ∧
      (t.percOf e).fuses = (s.chip.percOf e).fuses ++ [(f.macroNo, f.spare, x.addr)] ∧ t.get (Reg.PERC_FSTAT.RESULT (percPage e)) = 1 ∧
      t.get (Reg.PERC_FSTAT.BUSY (percPage e)) = 0 ∧ t.get (Reg.PERC_FUSE.GO (percPage e)) = 0 ∧ t.reports (percSrc e) 5 [f.macroNo % 32, f.spare, f.tag] = true)))

/-- PWR_REQ_WRITE, CONSENT_ASK_START, NOTICE_TIMEOUT, CONSENT_ANSWER, CONSENT_TIMEOUT, IDLE_WAKE, WAKE_N_LOW, I2C_ADDRESS_MATCH, AON_ALARM,
WAKE_RESTART (R530 to R547). -/
def Obligations.PowerStates : Prop :=
  (∀ (req v : Nat) (s : State), s.chip.attends 0x44700040 = true →
    (let st := v % 8
     let ph := s.chip.get Reg.PWR_STAT.PHASE
     let now := s.chip.get Reg.PWR_STAT.STATE
     let old := s.chip.get Reg.PWR_STAT.PENDING
     let bad := 5 ≤ st ∨ (st = 3 ∧ s.chip.get Reg.PWR_CFG.RETMODE = 0 ∧ 8 < popCount (s.chip.get Reg.PWR_RETBANK.MASK) 32)
     let same := fun (t : Chip) => t.resp = .ok ∧ t.pwr = s.chip.pwr ∧ t.get Reg.PWR_STAT.PHASE = ph ∧ t.get Reg.PWR_STAT.STATE = now
     (req < 3 ∨ 6 < req → Completes (.pwrReqWrite req v) s (fun t => t.resp = .error ∧ t.pwr = s.chip.pwr ∧ t.get Reg.PWR_STAT.PHASE = ph ∧ (req = 7 → t.regs = s.chip.regs))) ∧
     (3 ≤ req → req ≤ 6 → bad → Completes (.pwrReqWrite req v) s (fun t => same t ∧ t.get Reg.PWR_STAT.RESULT = 6 ∧ t.get Reg.PWR_STAT.PENDING = old)) ∧
     (3 ≤ req → req ≤ 6 → ¬ bad → ph = 0 → now = 0 → st = 0 → Completes (.pwrReqWrite req v) s (fun t => t = s.chip.answer .ok)) ∧
     (3 ≤ req → req ≤ 6 → ¬ bad → ph = 0 → st = now → st ≠ 0 → Completes (.pwrReqWrite req v) s (fun t => same t ∧ t.get Reg.PWR_STAT.RESULT = 1 ∧ t.get Reg.PWR_STAT.PENDING = old)) ∧
     (3 ≤ req → req ≤ 6 → ¬ bad → ph = 0 → now = 0 → st = 1 → Completes (.pwrReqWrite req v) s (fun t => t.resp = .ok ∧ t.get Reg.PWR_STAT.PHASE = 2 ∧ t.get Reg.PWR_STAT.TARGET = 1 ∧
       t.pwr.asks = [0x44000000] ∧ t.pwr.stopped = [] ∧ t.pwr.startAt = s.chip.now)) ∧
     (3 ≤ req → req ≤ 6 → ¬ bad → ph = 0 → now = 0 → 2 ≤ st → Completes (.pwrReqWrite req v) s (fun t => t.resp = .ok ∧ t.get Reg.PWR_STAT.PHASE = 1 ∧ t.get Reg.PWR_STAT.TARGET = st ∧
       t.pwr.notice = true ∧ t.pwr.startAt = s.chip.now ∧ t.get Reg.PWR_STAT.STATE = 0)) ∧
     (3 ≤ req → req ≤ 6 → ¬ bad → ph ≠ 0 ∨ (now ≠ 0 ∧ st ≠ now) → s.chip.staged 102 = false →
       (st = 0 → old = 7 → Completes (.pwrReqWrite req v) s (fun t => same t ∧ t.regs = s.chip.regs)) ∧
       (st = 0 → old ≠ 7 → Completes (.pwrReqWrite req v) s (fun t => same t ∧ t.get Reg.PWR_STAT.PENDING = 7 ∧ t.get Reg.PWR_STAT.RESULT = 5)) ∧
       (st ≠ 0 → old = 7 → Completes (.pwrReqWrite req v) s (fun t => same t ∧ t.get Reg.PWR_STAT.PENDING = st ∧ t.get Reg.PWR_STAT.RESULT = s.chip.get Reg.PWR_STAT.RESULT)) ∧
       (st ≠ 0 → old ≠ 7 → Completes (.pwrReqWrite req v) s (fun t => same t ∧ t.get Reg.PWR_STAT.PENDING = st ∧ t.get Reg.PWR_STAT.RESULT = 4 ∧ t.reports 102 4 [old, st] = true ∧
         (t.get (Reg.IRQ.RAW pwrPage)).testBit 3 = true))))) ∧
  (∀ s : State,
    (s.chip.get Reg.PWR_STAT.PHASE ≠ 1 → Completes .consentAskStart s (fun t => t = s.chip) ∧ Completes .noticeTimeout s (fun t => t = s.chip)) ∧
    (s.chip.get Reg.PWR_STAT.PHASE = 1 →
      ((∀ pg ∈ askOrder, pg < 0x41000000 ∨ pg = 0x50000000 → s.chip.consents pg true = true) → Completes .consentAskStart s (fun t => t.get Reg.PWR_STAT.PHASE = 2 ∧ t.pwr.asks = askOrder)) ∧
      ((∃ pg ∈ askOrder, pg < 0x41000000 ∧ s.chip.consents pg true = false) → Completes .consentAskStart s (fun t => t = s.chip)) ∧
      Completes .noticeTimeout s (fun t => t.get Reg.PWR_STAT.PHASE = 2 ∧ t.pwr.asks = askOrder ∧ t.now = max s.chip.now (s.chip.pwr.startAt + ms (s.chip.get Reg.PWR_CFG.NOTICE_MS))))) ∧
  (askOrder.Nodup ∧ askOrder.getLast? = some 0x50000000 ∧ 0x44700000 ∉ askOrder ∧ 0x40100000 ∉ askOrder) ∧
  (∀ (ready : Bool) (s : State), s.chip.get Reg.PWR_STAT.PHASE ≠ 2 ∨ s.chip.pwr.asks = [] →
    Completes (.consentAnswer ready) s (fun t => t = s.chip) ∧ Completes .consentTimeout s (fun t => t = s.chip)) ∧
  (∀ (ready : Bool) (pg : Nat) (rest : List Nat) (s : State), s.chip.get Reg.PWR_STAT.PHASE = 2 → s.chip.pwr.asks = pg :: rest → pg ∈ askOrder → s.chip.get Reg.PWR_STAT.STATE = 0 →
    s.chip.get Reg.PWR_STAT.PENDING = 7 → s.chip.staged 102 = false → s.chip.pwr.asked < 64 → (∀ x ∈ s.chip.pwr.stopped, x ∈ askOrder) →
    (let p := (pageInfo pg).getD ⟨0, 0, 0, 0, 0, 0⟩
     let k := s.chip.pwr.asked
     let logged := fun (t : Chip) (a : Nat) => t.get (Reg.PWR_CLOG.TYPE k) = p.ty ∧ t.get (Reg.PWR_CLOG.INST k) = p.inst ∧ t.get (Reg.PWR_CLOG.ANSWER k) = a
     let back := fun (t : Chip) (why : Nat) => logged t (why + 1) ∧ t.get Reg.PWR_STAT.PHASE = 0 ∧ t.get Reg.PWR_STAT.STATE = 0 ∧ t.get Reg.PWR_STAT.RESULT = why + 1 ∧
       t.get Reg.PWR_REFUSER.TYPE = p.ty ∧ t.get Reg.PWR_REFUSER.INST = p.inst ∧ t.get Reg.PWR_REFUSER.WHY = why ∧ t.pwr.stopped = [] ∧ t.pwr.asks = [] ∧ t.pwr.notice = false ∧
       (∀ x ∈ s.chip.pwr.stopped, t.get (Reg.BLK_STAT.PWR (pageOf x)) = 0) ∧ t.get Reg.PWR_CNT.REFUSALS = min (s.chip.get Reg.PWR_CNT.REFUSALS + 1) 65535 ∧
       t.reports 102 2 [s.chip.get Reg.PWR_STAT.TARGET, p.ty, p.inst, why] = true ∧ (t.get (Reg.IRQ.RAW pwrPage)).testBit 1 = true
     (s.chip.consents pg ready = true → rest ≠ [] → Completes (.consentAnswer ready) s (fun t => logged t 1 ∧ t.get (Reg.BLK_STAT.PWR (pageOf pg)) = 3 ∧ t.pwr.asks = rest ∧
       t.pwr.stopped = pg :: s.chip.pwr.stopped ∧ t.get Reg.PWR_STAT.PHASE = 2)) ∧
     (s.chip.consents pg ready = true → rest = [] → s.chip.pwr.wakePend = 0 → s.chip.get Reg.PWR_STAT.TARGET ≤ 4 → Completes (.consentAnswer ready) s (fun t => logged t 1 ∧
       t.get (Reg.BLK_STAT.PWR (pageOf pg)) = 3 ∧ t.get Reg.PWR_STAT.STATE = s.chip.get Reg.PWR_STAT.TARGET ∧ t.get Reg.PWR_STAT.PHASE = 0 ∧ t.get Reg.PWR_STAT.RESULT = 1 ∧
       t.get Reg.PWR_CNT.ENTRIES = min (s.chip.get Reg.PWR_CNT.ENTRIES + 1) 65535 ∧ (t.get (Reg.IRQ.RAW pwrPage)).testBit 0 = true ∧
       (s.chip.get Reg.PWR_STAT.TARGET ≠ 1 → t.enablesOff = true ∧ t.noPermission = true) ∧ (s.chip.get Reg.PWR_STAT.TARGET = 4 → t.pwr.hold = false) ∧
       (s.chip.get Reg.PWR_STAT.TARGET = 3 → s.chip.get Reg.PWR_CFG.RETMODE = 1 → t.msram = s.chip.msram ∧ (s.chip.get Reg.PWR_CFG.DDR_SR = 1 → t.ddr = s.chip.ddr)) ∧
       (s.chip.get Reg.PWR_STAT.TARGET = 3 → s.chip.get Reg.PWR_CFG.RETMODE = 0 → ∀ x, x ∈ t.msram ↔ x ∈ s.chip.msram ∧
         (s.chip.get Reg.PWR_RETBANK.MASK).testBit ((x.1 - 0x20000000) / 0x40000) = true))) ∧
     (s.chip.consents pg ready = false → Completes (.consentAnswer ready) s (fun t => back t 1)) ∧
     Completes .consentTimeout s (fun t => back t 2 ∧ t.now = max s.chip.now (s.chip.pwr.askAt + us 100)))) ∧
  (∀ s : State, (s.chip.get Reg.PWR_STAT.STATE ≠ 1 ∨ (∀ e ∈ s.chip.plic.enable, e &&& s.chip.plic.pend = 0) → Completes .idleWake s (fun t => t = s.chip)) ∧
    (s.chip.get Reg.PWR_STAT.STATE = 1 → s.chip.get Reg.PWR_STAT.PHASE = 0 → s.chip.get Reg.PWR_STAT.PENDING = 7 → (∃ e ∈ s.chip.plic.enable, e &&& s.chip.plic.pend ≠ 0) →
      Completes .idleWake s (fun t => t.get Reg.PWR_STAT.STATE = 0 ∧ (t.get Reg.PWR_WAKE.CAUSE).testBit 4 = true ∧ t.pwr.stopped = [] ∧ (t.get (Reg.IRQ.RAW pwrPage)).testBit 2 = true))) ∧
  (∀ s : State,
    (let st := s.chip.get Reg.PWR_STAT.STATE
     let ph := s.chip.get Reg.PWR_STAT.PHASE
     (ph = 0 → st = 0 → Completes .wakeNLow s (fun t => t = s.chip)) ∧
     (ph = 1 ∨ ph = 2 → Completes .wakeNLow s (fun t => t.pwr.wakePend.testBit 0 = true ∧ t.regs = s.chip.regs)) ∧
     (ph = 0 ∨ ph = 4 → st = 2 ∨ st = 3 → Completes .wakeNLow s (fun t => t.get Reg.PWR_STAT.PHASE = 4 ∧ (t.get Reg.PWR_WAKE.CAUSE).testBit 0 = true ∧ t.get Reg.PWR_STAT.STATE = st)) ∧
     (ph = 0 → st = 4 → Completes .wakeNLow s (fun t => t.pwr.hold = true ∧ t.get Reg.PWR_STAT.STATE = 4)) ∧
     (∀ addr, s.chip.get Reg.PWR_CFG.I2C_EN = 0 ∨ s.chip.get Reg.PWR_CFG.I2C_ADDR ≠ addr → Completes (.i2cAddressMatch addr) s (fun t => t = s.chip)) ∧
     (s.chip.get Reg.PWR_CFG.I2C_EN = 1 → ph = 0 → st = 2 ∨ st = 3 → Completes (.i2cAddressMatch (s.chip.get Reg.PWR_CFG.I2C_ADDR)) s (fun t => t.get Reg.PWR_STAT.PHASE = 4 ∧
       (t.get Reg.PWR_WAKE.CAUSE).testBit 1 = true ∧ t.pwr.sclHeld = (s.chip.pwr.sclHeld || s.chip.get (Reg.BLK_STAT.PWR 0x44000000) == 3))) ∧
     (s.chip.get Reg.PWR_CFG.TIMER_EN = 0 → Completes .aonAlarm s (fun t => t = s.chip)) ∧
     (s.chip.get Reg.PWR_CFG.TIMER_EN = 1 → ph = 0 → st = 2 ∨ st = 3 → Completes .aonAlarm s (fun t => t.get Reg.PWR_STAT.PHASE = 4 ∧ (t.get Reg.PWR_WAKE.CAUSE).testBit 2 = true ∧ s.chip.now ≤ t.now)) ∧
     (∀ crcOk, ph ≠ 4 ∨ (st ≠ 2 ∧ st ≠ 3) → Completes (.wakeRestart crcOk) s (fun t => t = s.chip)) ∧
     (∀ crcOk, ph = 4 → st = 2 ∨ (st = 3 ∧ s.chip.get Reg.PWR_CFG.RETMODE = 1) → s.chip.get Reg.PWR_STAT.PENDING = 7 → Completes (.wakeRestart crcOk) s (fun t =>
       t.get Reg.PWR_STAT.STATE = 0 ∧ t.get Reg.PWR_STAT.PHASE = 0 ∧ t.pwr.stopped = [] ∧ t.pwr.sclHeld = false ∧ t.weir.withheld = false)) ∧
     (∀ crcOk, ph = 4 → st = 3 → s.chip.get Reg.PWR_CFG.RETMODE = 0 → s.chip.boot.reset = none → Completes (.wakeRestart crcOk) s (fun t => t.get Reg.PWR_STAT.STATE = 0 ∧
       t.boot.reset.map (fun r => (r.kind, r.origin)) = some (3, 4)))))

/-- PACKAGE_STORE, FW_IMAGE_STORE, SVN_ADVANCE, IDB_SCAN, IDB_SCAN_TIMER, CONFIRM_RECORD_WRITE, ACTIVATION_STROBE, TRIAL_BOOT_TIMEOUT
(R555 to R574). -/
def Obligations.Commissioning : Prop :=
  (∀ (svc : Bool) (b : List Byte) (s : State), s.chip.staged 100 = false →
    (svc = true → s.chip.svc.connected = true → s.chip.boot.recovery = false → pkgGood b = true → Completes (.packageStore svc b) s (fun t => t.com = { s.chip.com with pending := some b } ∧
      t.reports 100 1 [pkgCheck b, ((pkgSets b).getD []).length] = true)) ∧
    (svc = false ∨ s.chip.svc.connected = false ∨ s.chip.boot.recovery = true ∨ pkgGood b = false → Completes (.packageStore svc b) s (fun t => t.resp = .error ∧ t.com = s.chip.com ∧ t.intake = s.chip.intake))) ∧
  (∀ (svc ok : Bool) (slot dg : Nat) (h : List Byte) (s : State), s.chip.staged 100 = false → s.chip.com.slots.length = 2 →
    (let refused := svc = false ∨ s.chip.svc.connected = false ∨ 1 < slot ∨ (s.chip.boot.recovery = false ∧ (slot = s.chip.com.run ∨ slot = s.chip.get Reg.BOOT_STAT.SLOT)) ∨
       (s.chip.get Reg.ACT_CFG.ARM = 1 ∧ s.chip.get Reg.ACT_CFG.SLOT = slot)
     let good := ok = true ∧ leAt h 0 4 = 0x5A465731 ∧ leAt h 4 4 = 1
     (refused → Completes (.fwImageStore svc slot h ok dg) s (fun t => t.resp = .error ∧ t.com = s.chip.com ∧ t.regs = s.chip.regs)) ∧
     (¬ refused → good → Completes (.fwImageStore svc slot h ok dg) s (fun t => t.com.slots.getD slot {} = slotOf h 2 dg ∧ t.com.slots.getD (1 - slot) {} = s.chip.com.slots.getD (1 - slot) {} ∧
       t.get (Reg.FW_VER.VERSION slot) = leAt h 8 4 ∧ t.get (if slot = 0 then Reg.FW_STAT.STATE0 else Reg.FW_STAT.STATE1) = 2 ∧ t.reports 100 5 [slot, leAt h 8 4, leAt h 12 4] = true)) ∧
     (¬ refused → ¬ good → Completes (.fwImageStore svc slot h ok dg) s (fun t => (t.com.slots.getD slot {}).state = 3 ∧ t.com.slots.getD (1 - slot) {} = s.chip.com.slots.getD (1 - slot) {} ∧
       t.intake = s.chip.intake)))) ∧
  (∀ (svc : Bool) (n : Nat) (s : State), n < 2 ^ 32 →
    (svc = true → s.chip.svc.connected = true → s.chip.boot.recovery = false → s.chip.get Reg.WR_STAT.MAINT = 1 → s.chip.com.svn < n → Completes (.svnAdvance svc n) s (fun t => t.com = { s.chip.com with svn := n } ∧ t.get Reg.FW_SVN.SVN = n)) ∧
    (svc = false ∨ s.chip.svc.connected = false ∨ s.chip.boot.recovery = true ∨ s.chip.get Reg.WR_STAT.MAINT = 0 ∨ n ≤ s.chip.com.svn → Completes (.svnAdvance svc n) s (fun t => t.resp = .error ∧ t.com = s.chip.com))) ∧
  (∀ (i : Nat) (mems : List (Nat × Nat × List Byte)) (s : State), i < 2 → s.chip.com.scanAt.length = 2 →
    (let here := fun (e : Nat × Nat × List Byte) => decide (e.1 < 4 ∧ 0x50 ≤ e.2.1 ∧ e.2.1 ≤ 0x57) && (s.chip.get (Reg.IDB_CFG.SEG_EN i)).testBit e.1
     let base := s.chip.get (Reg.IDB_BUF.ADDR i)
     let place := fun (e : Nat × Nat × List Byte) => base + e.1 * 8192 + (e.2.1 - 0x50) * 1024
     Completes (.idbScan i mems) s (fun t => t.get (Reg.IDB_STAT.BUSY i) = 0 ∧ t.get (Reg.IDB_SCAN.GO i) = 0 ∧ t.com.scanAt.getD i 0 = s.chip.now ∧
      t.get (Reg.IDB_STAT.FOUND i) = min (mems.filter here).length 32 ∧
      (∀ e ∈ mems, here e = true → (∀ x ∈ mems, here x = true → x.1 = e.1 → x.2.1 = e.2.1 → x = e) → ∀ k, k < min 1024 e.2.2.length → memRead t.msram (place e + k) = e.2.2.getD k 0) ∧
      (∀ (j a k : Nat), j < 4 → (s.chip.get (Reg.IDB_CFG.SEG_EN i)).testBit j = true → a < 8 → k < 1024 → (∀ e ∈ mems, ¬ (e.1 = j ∧ e.2.1 = 0x50 + a)) →
        memRead t.msram (base + j * 8192 + a * 1024 + k) = 0) ∧
      (∀ x, x < base ∨ base + 32768 ≤ x → memRead t.msram x = memRead s.chip.msram x)))) ∧
  (∀ (i : Nat) (mems : List (Nat × Nat × List Byte)) (s : State), 2 ≤ i → Completes (.idbScan i mems) s (fun t => t = s.chip) ∧ Completes (.idbScanTimer i) s (fun t => t = s.chip)) ∧
  (∀ (i : Nat) (s : State), i < 2 → Completes (.idbScanTimer i) s (fun t => t.get (Reg.IDB_STAT.BUSY i) = 1 ∧ t.now = max s.chip.now (s.chip.com.scanAt.getD i 0 + sec 600))) ∧
  (∀ s : State, (s.chip.com.recordDue = none → Completes .confirmRecordWrite s (fun t => t = s.chip)) ∧
    (∀ due r, s.chip.com.recordDue = some (due, r) → Completes .confirmRecordWrite s (fun t => t.com.record = some r ∧ t.com.recordDue = none ∧ t.now = max s.chip.now due))) ∧
  (∀ s : State, s.chip.get Reg.ACT_CFG.ARM = 0 → Completes .activationStrobe s (fun t => t = s.chip)) ∧
  (∀ (pu pd : Nat) (r : Bool) (s : State), s.chip.get Reg.ACT_CFG.ARM = 1 → s.chip.boot.reset = none → s.chip.com.slots.length = 2 →
    (let from0 := s.chip.get Reg.ACT_AT.AT
     let slot := s.chip.get Reg.ACT_CFG.SLOT
     let resets := fun (t : Chip) => (s.chip.weir.off = false → from0 ≤ t.weir.time) ∧ s.chip.weir.time ≤ t.weir.time ∧ t.boot.reset.map (fun q => (q.kind, q.origin, q.slot)) = some (3, 3, slot) ∧ t.com.trial = 3 ∧
       t.com.schedule = none ∧ t.com.run = s.chip.com.run ∧ (t.com.slots.getD slot {}).state = 4 ∧ t.get Reg.WR_SNAPCNT.COUNT = s.chip.get Reg.WR_SNAPCNT.COUNT
     (s.chip.unlatched = true → Completes .activationStrobe s (fun t => resets t ∧ (s.chip.weir.off = false → s.chip.reaches (s.chip.strobeAt (max s.chip.weir.time from0)) t))) ∧
     (s.chip.unlatched = true → s.chip.snapsRun = true → from0 ≤ s.chip.weir.time → Completes (.snapshot pu pd r) s resets) ∧
     (s.chip.unlatched = false → Completes .activationStrobe s (fun t => t.get Reg.ACT_CFG.ARM = 0 ∧ t.boot.reset = none ∧ t.com.trial = s.chip.com.trial ∧ t.com.schedule = none ∧
       t.get Reg.WR_STAT.SAFE = 1)))) ∧
  (∀ s : State, (s.chip.boot.released = none ∨ s.chip.com.trial = 0 ∨ s.chip.boot.trial = false ∨ s.chip.boot.trialOver = true → Completes .trialBootTimeout s (fun t => t = s.chip)) ∧
    (∀ since, s.chip.boot.released = some since → s.chip.boot.trial = true → 1 ≤ s.chip.com.trial → s.chip.com.trial ≤ 3 → s.chip.boot.trialOver = false → s.chip.com.run ≤ 1 → s.chip.com.slots.length = 2 →
      Completes .trialBootTimeout s (fun t => t.com.trial = s.chip.com.trial - 1 ∧ t.boot.trialOver = true ∧ t.com.run = s.chip.com.run ∧ t.get Reg.FW_STAT.TRIAL_LEFT = s.chip.com.trial - 1 ∧
        t.now = max s.chip.now (since + sec 2) ∧
        (s.chip.com.trial = 1 → (t.com.slots.getD (1 - s.chip.com.run) {}).state = 2 ∧ t.com.reverted = some (1 - s.chip.com.run)))))

/-- CAPTURE_TIMEOUT, LOCKOUT_RESET, CHANNEL_RESET, COLD_RESTART, LOADER_FRAME, RETAIN_FRAME, RETAIN_WRITE_TIMER. -/
def Obligations.FaultsAndLoader : Prop :=
  (∀ s : State, (s.chip.flt.entryAt = none → Completes .captureTimeout s (fun t => t = s.chip)) ∧
    (∀ since, s.chip.flt.entryAt = some since → Completes .captureTimeout s (fun t => t.get Reg.FLT_STAT.CAPTURED = 1 ∧ t.flt.entryAt = none ∧ (s.chip.weir.off = false → s.chip.reaches (since + sec 1) t)))) ∧
  (∀ (svc : Bool) (tag cv c : Nat) (s : State), s.chip.staged 26 = false → s.chip.boot.recovery = false →
    (let here := svc = true ∧ s.chip.svc.connected = true
     let value := if s.chip.get Reg.CFG_STAT.CV_VALID = 1 then s.chip.get Reg.CFG_CV.CV else s.chip.get Reg.CFG_PKGCV.CV
     let first := if cv ≠ value then 2 else if s.chip.get Reg.WR_STAT.MAINT = 0 then 3 else 0
     let lock := if first ≠ 0 then first else if s.chip.get Reg.WR_STAT.LOCKOUT = 0 then 4 else if s.chip.get Reg.FLT_STAT.CAPTURED = 0 then 5 else 0
     let other := if first ≠ 0 then first else if s.chip.unlatched = false then 6 else 0
     let refused := fun (t : Chip) (code st : Nat) => t.resp = .error ∧ t.boot = s.chip.boot ∧ t.gate = s.chip.gate ∧ t.chans = s.chip.chans ∧ t.get Reg.FLT_STAT.HELD = s.chip.get Reg.FLT_STAT.HELD ∧
       t.get Reg.FLT_STAT.LAST_RST = st ∧ t.reports 26 4 [code, tag, st] = true
     let rejected := fun (t : Chip) (code : Nat) => t.resp = .error ∧ t.boot = s.chip.boot ∧ t.gate = s.chip.gate ∧ t.chans = s.chip.chans ∧ t.get Reg.FLT_STAT.LAST_RST = s.chip.get Reg.FLT_STAT.LAST_RST ∧ t.reports 26 1 [code, tag, 1] = true
     let taken := fun (t : Chip) (code : Nat) => t.get Reg.FLT_STAT.LAST_RST = 1 ∧ ∃ x, t.gate.queue = s.chip.gate.queue ++ [x] ∧ x.code = code ∧ x.tag = tag ∧ x.cv = cv
     (¬ here → Completes (.lockoutReset svc tag cv) s (fun t => rejected t 0x0501) ∧ Completes (.channelReset svc tag cv c) s (fun t => rejected t 0x0502) ∧
       Completes (.coldRestart svc tag cv) s (fun t => rejected t 0x0503)) ∧
     (here → lock ≠ 0 → Completes (.lockoutReset svc tag cv) s (fun t => refused t 0x0501 lock)) ∧
     (here → other ≠ 0 → Completes (.channelReset svc tag cv c) s (fun t => refused t 0x0502 other) ∧ Completes (.coldRestart svc tag cv) s (fun t => refused t 0x0503 other)) ∧
     (here → s.chip.gate.queue.length < 64 → s.chip.boot.reset = none →
       (lock = 0 → Completes (.lockoutReset svc tag cv) s (fun t => taken t 0x0501 ∧ t.get Reg.FLT_STAT.HELD = 0 ∧ t.boot.reset = some ⟨4, 5, 0, s.chip.now⟩ ∧ t.boot.cold = false)) ∧
       (other = 0 → Completes (.coldRestart svc tag cv) s (fun t => taken t 0x0503 ∧ t.boot.reset = some ⟨3, 2, 0, s.chip.now⟩ ∧ t.boot.cold = true)) ∧
       (other = 0 → c < 3 → Completes (.channelReset svc tag cv c) s (fun t => taken t 0x0502 ∧ t.get (Reg.CH_STATE.STATE c) = 1 ∧ (t.chan c).afterReset = true ∧ (t.chan c).sram = [] ∧ t.boot = s.chip.boot ∧
         (2 ≤ s.chip.get (Reg.CH_STATE.STATE c) → s.chip.get (Reg.CH_STATE.STATE c) ≤ 3 → t.get (Reg.CH_LOSS.CAUSE c) = 10)))))) ∧
  (∀ s : State,
    (let cyc := s.chip.get Reg.MIR_CYCLE.COUNT
     let lk := if s.chip.gate.ldCycle = cyc then s.chip.gate.ldNext else 0
     let conn := s.chip.get Reg.ZST_SELF.LOADER
     let rk := if s.chip.ret.rdCycle = cyc then s.chip.ret.rdNext else 0
     let page := s.chip.get Reg.ZST_SELF.RETAIN
     (s.chip.mirrorMsg conn lk = none → Completes .loaderFrame s (fun t => t = s.chip)) ∧
     (∀ f, s.chip.mirrorMsg conn lk = some f →
       (∀ why k, s.chip.loaderBad conn f = some (why, k) → Completes .loaderFrame s (fun t => t.get Reg.CFG_CV.CV = s.chip.get Reg.CFG_CV.CV ∧ t.brActive = s.chip.brActive ∧ t.gate.ldCycle = cyc ∧ t.gate.ldNext = lk + 1 ∧
         t.com = s.chip.com ∧ t.weir = s.chip.weir ∧ (s.chip.staged 100 = false → ∃ e ∈ t.intake.staged, e.src = 100 ∧ e.code = 9 ∧ e.data.getD 0 0 = conn ∧ e.data.getD 1 0 = why ∧
           (∀ n, k = some n → e.data.getD 2 0 = n)))) ∧
       (∀ lo hi, s.chip.loaderBad conn f = none → loaderEntries (frPayload f) = [(0x40700104, lo), (0x40700108, hi)] → lo < 2 ^ 32 → hi < 2 ^ 32 → s.chip.attends 0x40700104 = true →
         Completes .loaderFrame s (fun t => t.get Reg.CFG_CV.CV = hi * 2 ^ 32 + lo ∧ t.get Reg.CFG_STAT.CV_VALID = 1 ∧ t.gate.ldNext = lk + 1 ∧
          (s.chip.pkgValue ≠ 0 → s.chip.pkgValue ≠ hi * 2 ^ 32 + lo → t.get Reg.CFG_STAT.MISMATCH = 1) ∧
          (s.chip.pkgValue = hi * 2 ^ 32 + lo → s.chip.pkgValue ≠ 0 → t.get Reg.CFG_STAT.MISMATCH = 0))) ∧
       (∀ v, s.chip.loaderBad conn f = none → loaderEntries (frPayload f) = [(0x40700100, v)] → s.chip.attends 0x40700100 = true →
         Completes .loaderFrame s (fun t => t.get Reg.CFG_STAT.CONFIRMED = v / 2 ^ 31 % 2))) ∧
     (s.chip.mirrorMsg page rk = none → Completes .retainFrame s (fun t => t = s.chip)) ∧
     (∀ f, s.chip.mirrorMsg page rk = some f → Completes .retainFrame s (fun t => t.ret.rdNext = rk + 1 ∧ t.ret.emmc = s.chip.ret.emmc ∧
       (let k := beAt (frPayload f) 0 4
        (∃ e, t.ret.newest.find? (fun x => x.1 == k) = some (k, e) ∧ e.data = f) ∧ ((∀ e ∈ s.chip.ret.emmc, e.1 = k → frPayload e.2.data ≠ frPayload f) → k ∈ t.ret.dirty)))))) ∧
  (∀ s : State, (s.chip.ret.dirty = [] → Completes .retainWriteTimer s (fun t => t = s.chip)) ∧
    (s.chip.ret.dirty ≠ [] → Completes .retainWriteTimer s (fun t => t.ret.dirty = [] ∧ t.ret.newest = s.chip.ret.newest ∧ t.now = max s.chip.now (s.chip.ret.dirtySince + sec 1) ∧
      (∀ e ∈ s.chip.ret.newest, e.1 ∈ s.chip.ret.dirty → (∀ x ∈ s.chip.ret.newest, x.1 = e.1 → x = e) → t.ret.emmc.find? (fun x => x.1 == e.1) = some e))))

/-- CLK_LOCK_LOSS, REF_MISSING, DIVIDER_WINDOW, FRC_RANGE_WINDOW, RESET_STEP_TIMEOUT, CLK_CTL_WRITE, POR_ASSERT, POR_RELEASE, RESET_FLIT,
RESET_ASSERT, RESET_RELEASE (R593 to R601). -/
def Obligations.ClocksAndResets : Prop :=
  (∀ s : State,
    (let watch := s.chip.get Reg.PWR_STAT.STATE ≤ 1 ∧ s.chip.boot.released ≠ none
     let fault := fun (t : Chip) (fcode dom : Nat) => t.link.silent = true ∧ t.get Reg.CLK_FLT.VALID = 1 ∧ t.get Reg.CLK_FLT.DOMAIN = dom ∧ t.get Reg.CLK_FLT.FCODE = fcode ∧
       (t.get (Reg.IRQ.RAW clkPage)).testBit 0 = true ∧
       (∀ n, n < 32 → s.chip.outUsed n = true → s.chip.outState n ≠ 6 → (t.get Reg.SOUT_DHS.VAL).testBit n = false ∧ (t.get Reg.SOUT_DLS.VAL).testBit n = false)
     (¬ watch → Completes .clkLockLoss s (fun t => t = s.chip) ∧ Completes .refMissing s (fun t => t = s.chip) ∧ (∀ d b n, Completes (.dividerWindow d b n) s (fun t => t = s.chip)) ∧
       (∀ n, Completes (.frcRangeWindow n) s (fun t => t = s.chip))) ∧
     (s.chip.get Reg.CLK_STAT.ROOT_LOCK = 0 → Completes .clkLockLoss s (fun t => t = s.chip)) ∧
     (watch → s.chip.get Reg.CLK_STAT.ROOT_LOCK = 1 → Completes .clkLockLoss s (fun t => fault t 0x7001 1 ∧ t.get Reg.CLK_STAT.ROOT_LOCK = 0)) ∧
     (watch → Completes .refMissing s (fun t => fault t 0x7002 0 ∧ t.get Reg.CLK_STAT.REF_OK = 0)) ∧
     (watch → ∀ d b n m, (d, m) ∈ [(1, 10000), (2, 10000), (3, 5000), (4, 1250)] →
       (m ≤ n + 1 → n ≤ m + 1 → Completes (.dividerWindow d b n) s (fun t => t = s.chip)) ∧
       (n + 1 < m ∨ m + 1 < n → s.chip.get Reg.CLK_STAT.ON_PLL = 1 → Completes (.dividerWindow d b n) s (fun t => fault t 0x7003 d))) ∧
     (watch → ∀ n, 1900 ≤ n → n ≤ 2100 → Completes (.frcRangeWindow n) s (fun t => t.get Reg.CLK_STAT.FRC_OK = 1 ∧ t.link = s.chip.link ∧ t.sout = s.chip.sout)) ∧
     (watch → ∀ n, n < 1900 ∨ 2100 < n → Completes (.frcRangeWindow n) s (fun t => t.get Reg.CLK_STAT.FRC_OK = 0 ∧ fault t 0x7004 7)) ∧
     (∀ k, s.chip.boot.reset.isSome → s.chip.boot.released.isSome → s.chip.boot.stopped = false → k ∉ s.chip.boot.done → Completes (.resetStepTimeout k) s (fun t =>
       fault t 0x7005 7 ∧ t.boot.stopped = true ∧ t.get Reg.BOOT_STAT.FAIL = 1)) ∧
     (∀ k, s.chip.boot.reset = none ∨ s.chip.boot.released = none ∨ s.chip.boot.stopped = true ∨ k ∈ s.chip.boot.done → Completes (.resetStepTimeout k) s (fun t => t = s.chip)))) ∧
  (∀ (req v : Nat) (s : State),
    (req ≠ 7 → Completes (.clkCtlWrite req v) s (fun t => t.resp = .error ∧ t.get Reg.CLK_CTL.SEL = s.chip.get Reg.CLK_CTL.SEL ∧ t.get (Reg.BLK_ERR.PLANE 0x40101000) = 1)) ∧
    (req = 7 → s.chip.attends 0x40101040 = true → s.chip.lockOpen 0x40101040 req = false → Completes (.clkCtlWrite req v) s (fun t => t.resp = .error ∧
      t.get (Reg.BLK_ERR.LOCK_VIOL 0x40101000) = 1 ∧ t.get Reg.CLK_CTL.SEL = s.chip.get Reg.CLK_CTL.SEL ∧ t.get Reg.CLK_CTL.PLL_EN = s.chip.get Reg.CLK_CTL.PLL_EN)) ∧
    (req = 7 → s.chip.attends 0x40101040 = true → s.chip.lockOpen 0x40101040 req = true →
      (v.testBit 0 = true → s.chip.get Reg.CLK_STAT.ROOT_LOCK = 0 → Completes (.clkCtlWrite req v) s (fun t => t.resp = .error ∧ t.get Reg.CLK_CTL.SEL = s.chip.get Reg.CLK_CTL.SEL ∧
        t.get Reg.CLK_STAT.ON_PLL = s.chip.get Reg.CLK_STAT.ON_PLL)) ∧
      (v.testBit 0 = false ∨ s.chip.get Reg.CLK_STAT.ROOT_LOCK = 1 → Completes (.clkCtlWrite req v) s (fun t => t.resp = .ok ∧ t.get Reg.CLK_CTL.SEL = v % 2 ∧ t.get Reg.CLK_STAT.ON_PLL = v % 2 ∧
        t.get Reg.CLK_CTL.PLL_EN = v / 2 % 2)))) ∧
  (∀ (lost : Bool) (s : State), Completes (.porAssert lost) s (fun t => t.msram = [] ∧ t.ddr = [] ∧ t.evr.logs = s.chip.evr.logs ∧ t.evr.carafe = [] ∧ (∀ c, c < 3 → (t.chan c).sram = []) ∧
    t.com.current = s.chip.com.current ∧ t.com.svn = s.chip.com.svn ∧ (∀ e, e < 4 → (t.percOf e).fuses = (s.chip.percOf e).fuses ∧ (t.percOf e).pending = []) ∧
    t.get Reg.SOUT_DHS.VAL = 0 ∧ t.get Reg.SOUT_DLS.VAL = 0 ∧ t.link.silent = true ∧ t.weir = s.chip.weir ∧ t.get Reg.WR_EN.EN = s.chip.get Reg.WR_EN.EN ∧
    t.boot.asserted = true ∧ t.boot.por = true ∧ t.boot.released = none ∧ t.boot.reset = some ⟨1, if s.chip.get Reg.PWR_STAT.STATE = 4 then 6 else 0, 0, s.chip.now⟩ ∧
    t.get Reg.RST_CAUSE.AON_LOST = (if lost = true then 1 else 0) ∧
    (lost = false → t.get Reg.FLT_FIRST.FCODE = s.chip.get Reg.FLT_FIRST.FCODE ∧ t.get Reg.FLT_STAT.HELD = s.chip.get Reg.FLT_STAT.HELD ∧ t.get Reg.RST_CNT.POR = s.chip.get Reg.RST_CNT.POR) ∧
    (lost = true → t.get Reg.FLT_FIRST.FCODE = 0 ∧ t.get Reg.FLT_STAT.HELD = 0 ∧ t.get Reg.RST_CNT.POR = 0))) ∧
  (∀ s : State, s.chip.boot.reset = none ∨ s.chip.boot.asserted = true → Completes .resetAssert s (fun t => t = s.chip)) ∧
  (∀ (r : ResetReq) (s : State), s.chip.boot.reset = some r → s.chip.boot.asserted = false → 2 ≤ r.kind → r.kind ≤ 4 → s.chip.perc.length = 4 →
    Completes .resetAssert s (fun t => t.boot.asserted = true ∧ t.boot.reset = some r ∧ t.now = max s.chip.now (r.since + 170) ∧ t.link.silent = true ∧
      t.link.resetUp = s.chip.link.resetUp ++ (if r.kind = 3 then [0x0102] else if r.kind = 4 then [0x0103] else []) ∧
      t.get Reg.SOUT_DHS.VAL = 0 ∧ t.get Reg.SOUT_DLS.VAL = 0 ∧ t.evr.carafe = s.chip.evr.carafe ∧ t.ddr = s.chip.ddr ∧ (∀ c, c < 3 → (t.chan c).sram = [] ∧ (t.chan c).losses = (s.chip.chan c).losses) ∧
      (∀ e, e < 4 → (t.percOf e).spares = (s.chip.percOf e).spares ∧ (t.percOf e).running = []) ∧ t.get Reg.FLT_FIRST.FCODE = s.chip.get Reg.FLT_FIRST.FCODE ∧
      t.com.current = s.chip.com.current ∧ t.gate.queue = [])) ∧
  (∀ s : State, s.chip.link.resetUp = [] → Completes (.resetFlit true) s (fun t => t = s.chip)) ∧
  (∀ (x : Nat) (rest : List Nat) (s : State), s.chip.link.resetUp = x :: rest → s.chip.get Reg.WR_SEAL.OPEN &&& faultStraps = 0 → Completes (.resetFlit true) s (fun t => t.weir.hold = true ∧ t.enablesOff = true ∧ t.noPermission = true ∧ t.safe = true ∧
    t.get Reg.WR_STAT.LOCKOUT = 1 ∧ t.get Reg.WR_STAT.CAUSE = 0 ∧ t.get Reg.WR_STAT.READY = 0 ∧ t.weir.time = s.chip.weir.time ∧ t.link.resetUp = rest ∧
    t.get Reg.WR_SEAL.LATCHED = s.chip.get Reg.WR_SEAL.CURRENT)) ∧
  (∀ s : State, s.chip.link.resetDown.head? ≠ some 0x0101 → Completes (.resetFlit false) s (fun t => t = s.chip)) ∧
  (∀ (rest : List Nat) (s : State), s.chip.link.resetDown = 0x0101 :: rest → s.chip.boot.reset = none → Completes (.resetFlit false) s (fun t => t.link.resetDown = rest ∧ t.boot.reset = some ⟨2, 1, 0, s.chip.now⟩)) ∧
  (∀ s : State, (s.chip.boot.por = false ∨ s.chip.boot.reset = none → Completes .porRelease s (fun t => t = s.chip)) ∧
    (s.chip.boot.reset = none ∨ s.chip.boot.asserted = false ∨ s.chip.boot.released ≠ none ∨ s.chip.boot.por = true → Completes .resetRelease s (fun t => t = s.chip))) ∧
  (∀ (r : ResetReq) (s : State), s.chip.boot.reset = some r → 1 ≤ r.kind → r.kind ≤ 4 → r.origin < 16 → r.slot < 2 → s.chip.staged 28 = false →
    (let released := fun (t : Chip) => t.get Reg.RST_CAUSE.KIND = r.kind ∧ t.get Reg.RST_CAUSE.ORIGIN = r.origin ∧ t.get Reg.RST_CAUSE.SLOT = r.slot ∧
       t.get (rstCnt r.kind) = min (s.chip.get (rstCnt r.kind) + 1) 255 ∧ t.get Reg.BOOT_STAT.WARM = (if r.kind = 1 then 0 else 1) ∧ t.boot.released = some t.now ∧ t.boot.done = [] ∧
       t.boot.stopped = false ∧ t.link.silent = false ∧ (∀ c, c < 3 → t.get (Reg.CH_STATE.STATE c) = 1) ∧ t.reports 28 2 [r.kind, r.origin, r.slot] = true
     (s.chip.boot.por = true → Completes .porRelease s (fun t => released t ∧ t.now = s.chip.now)) ∧
     (s.chip.boot.por = false → s.chip.boot.asserted = true → s.chip.boot.released = none → s.chip.link.resetUp = [] →
       Completes .resetRelease s (fun t => released t ∧ t.now = max s.chip.now (r.since + 1170)))))

/-- BOOT_STEP_DONE (R602 to R607). -/
def Obligations.BootSteps : Prop :=
  (∀ (k m m2 : Nat) (ok ok2 : Bool) (s : State), s.chip.boot.reset = none ∨ s.chip.boot.released = none ∨ s.chip.boot.stopped = true ∨ k ∈ s.chip.boot.done →
    Completes (.bootStepDone k ok ok2 m m2) s (fun t => t = s.chip)) ∧
  (∀ (k m m2 : Nat) (ok ok2 : Bool) (r : ResetReq) (s : State), s.chip.boot.reset = some r → (∃ n ∈ bootNeeds (r.kind == 1) k, n ∉ s.chip.boot.done) →
    Completes (.bootStepDone k ok ok2 m m2) s (fun t => t = s.chip)) ∧
  (∀ (m m2 : Nat) (r : ResetReq) (s : State), s.chip.boot.reset = some r → s.chip.boot.released.isSome → s.chip.boot.stopped = false → s.chip.staged 28 = false → s.chip.staged 100 = false →
    (let u := s.chip
     let ready := fun (k : Nat) => k ∉ u.boot.done ∧ ∀ n ∈ bootNeeds (r.kind == 1) k, n ∈ u.boot.done
     let done := fun (t : Chip) (k : Nat) => k ∈ t.boot.done ∧ t.get Reg.BOOT_STAT.STEP = k ∧ t.boot.reset = some r
     let stops := fun (t : Chip) (fcode k : Nat) => t.boot.stopped = true ∧ t.get Reg.BOOT_STAT.FAIL = 1 ∧ k ∉ t.boot.done ∧ t.reports 28 4 [fcode, k] = true ∧
       (t.get (Reg.IRQ.RAW clkPage)).testBit 2 = true
     let fit := fun (n : Nat) (sig : Bool) => sig = true ∧ (u.com.slots.getD n {}).state ≠ 0 ∧ u.com.svn ≤ (u.com.slots.getD n {}).svn
     let first := if u.com.trial = 0 then u.com.run else 1 - u.com.run
     (ready 1 → Completes (.bootStepDone 1 true true m m2) s (fun t => done t 1 ∧ t.get Reg.FW_SVN.SVN = u.com.svn % 2 ^ 32) ∧ Completes (.bootStepDone 1 false true m m2) s (fun t => stops t 0x7101 1)) ∧
     (ready 2 → (u.get Reg.WR_STAT.READY = 1 → Completes (.bootStepDone 2 true true m m2) s (fun t => done t 2)) ∧ (u.get Reg.WR_STAT.READY = 0 → Completes (.bootStepDone 2 true true m m2) s (fun t => t = u))) ∧
     (ready 3 → Completes (.bootStepDone 3 true true m m2) s (fun t => done t 3 ∧ t.get Reg.CLK_STAT.ROOT_LOCK = 1 ∧ t.get Reg.CLK_STAT.ON_PLL = 1 ∧ t.get Reg.CLK_CTL.SEL = 1) ∧
       Completes (.bootStepDone 3 false true m m2) s (fun t => stops t 0x7103 3) ∧ Completes (.bootStepDone 3 true false m m2) s (fun t => t.boot.stopped = true ∧ t.link.silent = true ∧ t.get Reg.CLK_FLT.FCODE = 0x7006)) ∧
     (ready 4 → (∀ c, c < 3 → u.get (Reg.CH_STATE.STATE c) ≠ 1 ∨ (u.chan c).passed = true) → Completes (.bootStepDone 4 true true m m2) s (fun t => done t 4 ∧ t.boot.sinBad = m ∧ t.boot.soutBad = m2)) ∧
     (ready 4 → (∃ c, c < 3 ∧ u.get (Reg.CH_STATE.STATE c) = 1 ∧ (u.chan c).passed = false) → Completes (.bootStepDone 4 true true m m2) s (fun t => t = u)) ∧
     (ready 5 → (r.kind = 1 → Completes (.bootStepDone 5 true true m m2) s (fun t => done t 5 ∧ t.get Reg.CLK_STAT.DDR_LOCK = 1) ∧
       Completes (.bootStepDone 5 false true m m2) s (fun t => stops t 0x7105 5)) ∧
       (r.kind ≠ 1 → Completes (.bootStepDone 5 true true m m2) s (fun t => t = u))) ∧
     (ready 6 → u.com.run ≤ 1 → u.com.slots.length = 2 → ∀ ok ok2 : Bool,
       (fit first ok → Completes (.bootStepDone 6 ok ok2 m m2) s (fun t => done t 6 ∧ t.get Reg.BOOT_STAT.SLOT = first ∧ t.get Reg.BOOT_STAT.FALLBACK = 0 ∧
         (t.com.slots.getD first {}).state = (if u.com.trial = 0 then 5 else 4) ∧ t.com.run = u.com.run ∧
         t.boot.recovery = false ∧ (∀ f, u.com.reverted = some f → t.reports 100 7 [f, first] = true))) ∧
       (¬ fit first ok → fit (1 - first) ok2 → Completes (.bootStepDone 6 ok ok2 m m2) s (fun t => done t 6 ∧ t.get Reg.BOOT_STAT.SLOT = 1 - first ∧ t.get Reg.BOOT_STAT.FALLBACK = 1 ∧ t.com.trial = 0 ∧
         t.com.run = 1 - first)) ∧
       (¬ fit first ok → ¬ fit (1 - first) ok2 → Completes (.bootStepDone 6 ok ok2 m m2) s (fun t => t = { u with boot := { u.boot with recovery := true } }))) ∧
     (ready 7 → Completes (.bootStepDone 7 true true m m2) s (fun t => done t 7) ∧ Completes (.bootStepDone 7 false true m m2) s (fun t => done t 7 ∧ t.boot.emmcBad = true ∧ t.get Reg.EVR_STAT.STATE = 5)) ∧
     (ready 8 → Completes (.bootStepDone 8 true true m m2) s (fun t => done t 8 ∧ t.com.schedule = none ∧
       (u.boot.emmcBad = false → ∀ p, u.com.pending = some p → t.com.current = some p ∧ t.com.pending = none ∧ (pkgGood p = false → t.get Reg.CFG_STAT.DEFAULTS = 1 ∧ t.get Reg.CFG_PKGCV.CV = 0)) ∧
       (u.boot.emmcBad = true → t.com.pending = u.com.pending ∧ t.com.current = u.com.current ∧ t.get Reg.CFG_STAT.DEFAULTS = 1))) ∧
     (ready 9 → Completes (.bootStepDone 9 true true m m2) s (fun t => done t 9 ∧ t.get Reg.WR_STAT.WPOR = 0 ∧ t.boot.wpor = decide (u.get Reg.WR_STAT.WPOR = 1))) ∧
     (ready 10 → Completes (.bootStepDone 10 true true m m2) s (fun t => done t 10)) ∧
     (ready 11 → Completes (.bootStepDone 11 true true m m2) s (fun t => done t 11 ∧ (∀ c, c < 3 → t.get (Reg.CH_STATE.STATE c) =
       (if u.get (Reg.CH_STATE.STATE c) = 1 ∧ (u.chan c).passed = true then 3 else u.get (Reg.CH_STATE.STATE c)))))))

/-- The reset state (22 R597, R601, Table 22.3; 05 R173, Table 5.1). -/
def Obligations.ResetValues : Prop :=
  State.reset.pending = [] ∧ (∀ f : Fld, State.reset.chip.get f = f.rst % 2 ^ f.width) ∧
  (let u := State.reset.chip
   u.boot.por = true ∧ u.weir.hold = true ∧ u.safe = true ∧ u.get Reg.WR_STAT.LOCKOUT = 1 ∧ u.get Reg.WR_STAT.WPOR = 1 ∧ u.get Reg.WR_STAT.READY = 0 ∧ u.enablesOff = true ∧ u.noPermission = true ∧
   (∀ c, u.get (Reg.CH_STATE.STATE c) = 0) ∧ u.get Reg.CF_MODE.MODE = 0 ∧ u.get Reg.FLT_STAT.VALID = 0 ∧ u.get Reg.SOUT_DHS.VAL = 0 ∧ u.get Reg.SOUT_DLS.VAL = 0 ∧
   u.msram = [] ∧ u.ddr = [] ∧ (∀ c, (u.chan c).sram = []) ∧ u.memoriesOk = true ∧ u.clockOk = true ∧ u.quietIfSafe = true)

/-- An invariant of every step (05 R149 to R151, R173; 06 R182, R189): what SAFE promises. -/
def Obligations.SafeStateHolds : Prop :=
  (∀ s t : State, s.chip.quietIfSafe = true → step s = .next t → t.chip.quietIfSafe = true) ∧
  ∀ s t : State, s.chip.safe = true → step s = .next t → t.chip.safe = false → ∃ pu pd ok, s.pending.head? = some (.snapshot pu pd ok)

/-- An invariant of every step: canonical memories (02 R35 gives their bytes), rising time, rising count of free values. -/
def Obligations.MemoriesCanonical : Prop :=
  ∀ s t : State, step s = .next t → (s.chip.memoriesOk = true → t.chip.memoriesOk = true) ∧ (s.chip.clockOk = true → t.chip.clockOk = true) ∧ s.chip.now ≤ t.chip.now ∧ s.chip.freeCtr ≤ t.chip.freeCtr

/-- The frame of every command over the parts of State (frameParts, Safety.lean). -/
def Obligations.FramesOfCommands : Prop :=
  ∀ (c : Instr) (s t : State), exec c s = .next t → t.pending = s.pending ∧ ∀ p : Part, p ∉ frameParts c → p.same s.chip t.chip

/-- The frame of every command over the register fields (frameBlocks, Safety.lean); BLK_STAT of any page may change with the power state. -/
def Obligations.FramesOfRegisters : Prop :=
  ∀ (c : Instr) (bl : List Nat) (s t : State), c.wf = true → frameBlocks c = some bl → exec c s = .next t →
    ∀ f : Fld, f.lo < 32 → 0x40000000 ≤ f.addr → f.addr % 0x1000 ≠ 0xC → f.addr / 0x100000 ∉ bl → t.chip.get f = s.chip.get f
end

