-- ==== Sys2Proof/Laws/RegFile.lean ====
section
/-!
SUPPORT. The field file: a field reads what was written to it, modulo its width, and a write leaves every field of another key alone.
-/
namespace Sys2Proof.Machine

/-- Inside its array a register lies at the base plus its number of strides. -/
theorem slot_of_lt {i n : Nat} (base stride : Nat) (h : i < n) : slot i n base stride = base + i * stride := by
  simp [slot, h]

/-- Outside the array there is no register. -/
theorem slot_of_ge {i n : Nat} (base stride : Nat) (h : n ≤ i) : slot i n base stride = 0 := by
  simp [slot]; omega

theorem regLookup_erase_ne (l : Regs) (k j d : Nat) (h : k ≠ j) : regLookup (regErase l k) j d = regLookup l j d := by
  induction l with
  | nil => rfl
  | cons e t ih =>
    obtain ⟨a, v⟩ := e
    by_cases ha : a = k
    · subst ha; simp [regErase, regLookup, ih, h]
    · by_cases hj : a = j
      · subst hj; simp [regErase, regLookup, ha]
      · simp [regErase, regLookup, ha, hj, ih]

theorem regLookup_erase_same (l : Regs) (k d : Nat) : regLookup (regErase l k) k d = d := by
  induction l with
  | nil => rfl
  | cons e t ih =>
    obtain ⟨a, v⟩ := e
    by_cases ha : a = k <;> simp [regErase, regLookup, ha, ih]

theorem regLookup_insert_same (l : Regs) (k v d : Nat) (h : ∀ e ∈ l, e.1 ≠ k) : regLookup (regInsert l k v) k d = v := by
  induction l with
  | nil => simp [regInsert, regLookup]
  | cons e t ih =>
    obtain ⟨a, w⟩ := e
    have ha : a ≠ k := h (a, w) (by simp)
    have ht : ∀ e ∈ t, e.1 ≠ k := fun e he => h e (by simp [he])
    by_cases hk : k < a <;> simp [regInsert, regLookup, hk, ha, ih ht]

theorem regLookup_insert_ne (l : Regs) (k v j d : Nat) (h : k ≠ j) : regLookup (regInsert l k v) j d = regLookup l j d := by
  induction l with
  | nil => simp [regInsert, regLookup, h]
  | cons e t ih =>
    obtain ⟨a, w⟩ := e
    by_cases hk : k < a
    · simp [regInsert, regLookup, hk, h]
    · by_cases hj : a = j
      · subst hj; simp [regInsert, regLookup, hk]
      · simp [regInsert, regLookup, hk, hj, ih]

theorem mem_regErase (l : Regs) (k : Nat) : ∀ e ∈ regErase l k, e.1 ≠ k := by
  induction l with
  | nil => intro e he; simp [regErase] at he
  | cons x t ih =>
    obtain ⟨a, v⟩ := x
    intro e he
    by_cases ha : a = k
    · simp only [regErase, ha, if_true] at he; exact ih e he
    · simp only [regErase, ha, if_false, List.mem_cons] at he
      rcases he with rfl | he
      · exact ha
      · exact ih e he

/-- A field reads what was written, modulo its width. -/
@[simp] theorem Fld.read_write_same (f : Fld) (l : Regs) (v : Nat) : f.read (f.write l v) = v % 2 ^ f.width := by
  unfold Fld.read Fld.write regAssign
  split
  · next h => rw [regLookup_erase_same, ← h, Nat.mod_mod]
  · rw [regLookup_insert_same _ _ _ _ (mem_regErase _ _), Nat.mod_mod]

/-- A write leaves every field of another key alone. -/
theorem Fld.read_write_ne (f g : Fld) (l : Regs) (v : Nat) (h : f.key ≠ g.key) : g.read (f.write l v) = g.read l := by
  unfold Fld.read Fld.write regAssign
  split
  · rw [regLookup_erase_ne _ _ _ _ h]
  · rw [regLookup_insert_ne _ _ _ _ _ h, regLookup_erase_ne _ _ _ _ h]

/-- The same through the hardware. -/
@[simp] theorem Chip.get_put_same (u : Chip) (f : Fld) (v : Nat) : (u.put f v).get f = v % 2 ^ f.width := Fld.read_write_same f u.regs v

theorem Chip.get_put_ne (u : Chip) (f g : Fld) (v : Nat) (h : f.key ≠ g.key) : (u.put f v).get g = u.get g :=
  Fld.read_write_ne f g u.regs v h

/-- After reset every field reads the value of its Reset column. -/
@[simp] theorem get_reset (f : Fld) : State.reset.chip.get f = f.rst % 2 ^ f.width := rfl

/-- A field never reads more than its width holds. -/
theorem Chip.get_lt (u : Chip) (f : Fld) : u.get f < 2 ^ f.width := Nat.mod_lt _ (Nat.two_pow_pos _)

end Sys2Proof.Machine
end

