-- ==== Sys2Proof/Laws/State.lean ====
section
/-!
SUPPORT. What each named update of the hardware leaves alone: one lemma per field and update, so that no later proof unfolds a record update.
-/
namespace Sys2Proof.Machine

@[simp] theorem State.become_eq (s : State) (u : Chip) : s.become u = .next { s with chip := u } := rfl

/-! ### Chip.put: only the field file changes -/

@[simp] theorem Chip.put_now (u : Chip) (f : Fld) (v : Nat) : (u.put f v).now = u.now := rfl
@[simp] theorem Chip.put_resp (u : Chip) (f : Fld) (v : Nat) : (u.put f v).resp = u.resp := rfl
@[simp] theorem Chip.put_freeCtr (u : Chip) (f : Fld) (v : Nat) : (u.put f v).freeCtr = u.freeCtr := rfl
@[simp] theorem Chip.put_intake (u : Chip) (f : Fld) (v : Nat) : (u.put f v).intake = u.intake := rfl
@[simp] theorem Chip.put_fab (u : Chip) (f : Fld) (v : Nat) : (u.put f v).fab = u.fab := rfl
@[simp] theorem Chip.put_pages (u : Chip) (f : Fld) (v : Nat) : (u.put f v).pages = u.pages := rfl
@[simp] theorem Chip.put_plic (u : Chip) (f : Fld) (v : Nat) : (u.put f v).plic = u.plic := rfl
@[simp] theorem Chip.put_cic (u : Chip) (f : Fld) (v : Nat) : (u.put f v).cic = u.cic := rfl
@[simp] theorem Chip.put_chans (u : Chip) (f : Fld) (v : Nat) : (u.put f v).chans = u.chans := rfl
@[simp] theorem Chip.put_conf (u : Chip) (f : Fld) (v : Nat) : (u.put f v).conf = u.conf := rfl
@[simp] theorem Chip.put_weir (u : Chip) (f : Fld) (v : Nat) : (u.put f v).weir = u.weir := rfl
@[simp] theorem Chip.put_link (u : Chip) (f : Fld) (v : Nat) : (u.put f v).link = u.link := rfl
@[simp] theorem Chip.put_lat (u : Chip) (f : Fld) (v : Nat) : (u.put f v).lat = u.lat := rfl
@[simp] theorem Chip.put_flt (u : Chip) (f : Fld) (v : Nat) : (u.put f v).flt = u.flt := rfl
@[simp] theorem Chip.put_gate (u : Chip) (f : Fld) (v : Nat) : (u.put f v).gate = u.gate := rfl
@[simp] theorem Chip.put_rt (u : Chip) (f : Fld) (v : Nat) : (u.put f v).rt = u.rt := rfl
@[simp] theorem Chip.put_sin (u : Chip) (f : Fld) (v : Nat) : (u.put f v).sin = u.sin := rfl
@[simp] theorem Chip.put_sout (u : Chip) (f : Fld) (v : Nat) : (u.put f v).sout = u.sout := rfl
@[simp] theorem Chip.put_zst (u : Chip) (f : Fld) (v : Nat) : (u.put f v).zst = u.zst := rfl
@[simp] theorem Chip.put_svc (u : Chip) (f : Fld) (v : Nat) : (u.put f v).svc = u.svc := rfl
@[simp] theorem Chip.put_ports (u : Chip) (f : Fld) (v : Nat) : (u.put f v).ports = u.ports := rfl
@[simp] theorem Chip.put_cb (u : Chip) (f : Fld) (v : Nat) : (u.put f v).cb = u.cb := rfl
@[simp] theorem Chip.put_tm (u : Chip) (f : Fld) (v : Nat) : (u.put f v).tm = u.tm := rfl
@[simp] theorem Chip.put_br (u : Chip) (f : Fld) (v : Nat) : (u.put f v).br = u.br := rfl
@[simp] theorem Chip.put_msram (u : Chip) (f : Fld) (v : Nat) : (u.put f v).msram = u.msram := rfl
@[simp] theorem Chip.put_ddr (u : Chip) (f : Fld) (v : Nat) : (u.put f v).ddr = u.ddr := rfl
@[simp] theorem Chip.put_evr (u : Chip) (f : Fld) (v : Nat) : (u.put f v).evr = u.evr := rfl
@[simp] theorem Chip.put_perc (u : Chip) (f : Fld) (v : Nat) : (u.put f v).perc = u.perc := rfl
@[simp] theorem Chip.put_ret (u : Chip) (f : Fld) (v : Nat) : (u.put f v).ret = u.ret := rfl
@[simp] theorem Chip.put_pwr (u : Chip) (f : Fld) (v : Nat) : (u.put f v).pwr = u.pwr := rfl
@[simp] theorem Chip.put_com (u : Chip) (f : Fld) (v : Nat) : (u.put f v).com = u.com := rfl
@[simp] theorem Chip.put_boot (u : Chip) (f : Fld) (v : Nat) : (u.put f v).boot = u.boot := rfl
@[simp] theorem Chip.put_regs (u : Chip) (f : Fld) (v : Nat) : (u.put f v).regs = f.write u.regs v := rfl

/-! ### Chip.setBit: only the field file changes -/

@[simp] theorem Chip.setBit_now (u : Chip) (f : Fld) (n : Nat) : (u.setBit f n).now = u.now := rfl
@[simp] theorem Chip.setBit_resp (u : Chip) (f : Fld) (n : Nat) : (u.setBit f n).resp = u.resp := rfl
@[simp] theorem Chip.setBit_freeCtr (u : Chip) (f : Fld) (n : Nat) : (u.setBit f n).freeCtr = u.freeCtr := rfl
@[simp] theorem Chip.setBit_intake (u : Chip) (f : Fld) (n : Nat) : (u.setBit f n).intake = u.intake := rfl
@[simp] theorem Chip.setBit_fab (u : Chip) (f : Fld) (n : Nat) : (u.setBit f n).fab = u.fab := rfl
@[simp] theorem Chip.setBit_pages (u : Chip) (f : Fld) (n : Nat) : (u.setBit f n).pages = u.pages := rfl
@[simp] theorem Chip.setBit_plic (u : Chip) (f : Fld) (n : Nat) : (u.setBit f n).plic = u.plic := rfl
@[simp] theorem Chip.setBit_cic (u : Chip) (f : Fld) (n : Nat) : (u.setBit f n).cic = u.cic := rfl
@[simp] theorem Chip.setBit_chans (u : Chip) (f : Fld) (n : Nat) : (u.setBit f n).chans = u.chans := rfl
@[simp] theorem Chip.setBit_conf (u : Chip) (f : Fld) (n : Nat) : (u.setBit f n).conf = u.conf := rfl
@[simp] theorem Chip.setBit_weir (u : Chip) (f : Fld) (n : Nat) : (u.setBit f n).weir = u.weir := rfl
@[simp] theorem Chip.setBit_link (u : Chip) (f : Fld) (n : Nat) : (u.setBit f n).link = u.link := rfl
@[simp] theorem Chip.setBit_lat (u : Chip) (f : Fld) (n : Nat) : (u.setBit f n).lat = u.lat := rfl
@[simp] theorem Chip.setBit_flt (u : Chip) (f : Fld) (n : Nat) : (u.setBit f n).flt = u.flt := rfl
@[simp] theorem Chip.setBit_gate (u : Chip) (f : Fld) (n : Nat) : (u.setBit f n).gate = u.gate := rfl
@[simp] theorem Chip.setBit_rt (u : Chip) (f : Fld) (n : Nat) : (u.setBit f n).rt = u.rt := rfl
@[simp] theorem Chip.setBit_sin (u : Chip) (f : Fld) (n : Nat) : (u.setBit f n).sin = u.sin := rfl
@[simp] theorem Chip.setBit_sout (u : Chip) (f : Fld) (n : Nat) : (u.setBit f n).sout = u.sout := rfl
@[simp] theorem Chip.setBit_zst (u : Chip) (f : Fld) (n : Nat) : (u.setBit f n).zst = u.zst := rfl
@[simp] theorem Chip.setBit_svc (u : Chip) (f : Fld) (n : Nat) : (u.setBit f n).svc = u.svc := rfl
@[simp] theorem Chip.setBit_ports (u : Chip) (f : Fld) (n : Nat) : (u.setBit f n).ports = u.ports := rfl
@[simp] theorem Chip.setBit_cb (u : Chip) (f : Fld) (n : Nat) : (u.setBit f n).cb = u.cb := rfl
@[simp] theorem Chip.setBit_tm (u : Chip) (f : Fld) (n : Nat) : (u.setBit f n).tm = u.tm := rfl
@[simp] theorem Chip.setBit_br (u : Chip) (f : Fld) (n : Nat) : (u.setBit f n).br = u.br := rfl
@[simp] theorem Chip.setBit_msram (u : Chip) (f : Fld) (n : Nat) : (u.setBit f n).msram = u.msram := rfl
@[simp] theorem Chip.setBit_ddr (u : Chip) (f : Fld) (n : Nat) : (u.setBit f n).ddr = u.ddr := rfl
@[simp] theorem Chip.setBit_evr (u : Chip) (f : Fld) (n : Nat) : (u.setBit f n).evr = u.evr := rfl
@[simp] theorem Chip.setBit_perc (u : Chip) (f : Fld) (n : Nat) : (u.setBit f n).perc = u.perc := rfl
@[simp] theorem Chip.setBit_ret (u : Chip) (f : Fld) (n : Nat) : (u.setBit f n).ret = u.ret := rfl
@[simp] theorem Chip.setBit_pwr (u : Chip) (f : Fld) (n : Nat) : (u.setBit f n).pwr = u.pwr := rfl
@[simp] theorem Chip.setBit_com (u : Chip) (f : Fld) (n : Nat) : (u.setBit f n).com = u.com := rfl
@[simp] theorem Chip.setBit_boot (u : Chip) (f : Fld) (n : Nat) : (u.setBit f n).boot = u.boot := rfl

/-! ### Chip.clearBit: only the field file changes -/

@[simp] theorem Chip.clearBit_now (u : Chip) (f : Fld) (n : Nat) : (u.clearBit f n).now = u.now := by unfold Chip.clearBit; split <;> rfl
@[simp] theorem Chip.clearBit_resp (u : Chip) (f : Fld) (n : Nat) : (u.clearBit f n).resp = u.resp := by unfold Chip.clearBit; split <;> rfl
@[simp] theorem Chip.clearBit_freeCtr (u : Chip) (f : Fld) (n : Nat) : (u.clearBit f n).freeCtr = u.freeCtr := by unfold Chip.clearBit; split <;> rfl
@[simp] theorem Chip.clearBit_intake (u : Chip) (f : Fld) (n : Nat) : (u.clearBit f n).intake = u.intake := by unfold Chip.clearBit; split <;> rfl
@[simp] theorem Chip.clearBit_fab (u : Chip) (f : Fld) (n : Nat) : (u.clearBit f n).fab = u.fab := by unfold Chip.clearBit; split <;> rfl
@[simp] theorem Chip.clearBit_pages (u : Chip) (f : Fld) (n : Nat) : (u.clearBit f n).pages = u.pages := by unfold Chip.clearBit; split <;> rfl
@[simp] theorem Chip.clearBit_plic (u : Chip) (f : Fld) (n : Nat) : (u.clearBit f n).plic = u.plic := by unfold Chip.clearBit; split <;> rfl
@[simp] theorem Chip.clearBit_cic (u : Chip) (f : Fld) (n : Nat) : (u.clearBit f n).cic = u.cic := by unfold Chip.clearBit; split <;> rfl
@[simp] theorem Chip.clearBit_chans (u : Chip) (f : Fld) (n : Nat) : (u.clearBit f n).chans = u.chans := by unfold Chip.clearBit; split <;> rfl
@[simp] theorem Chip.clearBit_conf (u : Chip) (f : Fld) (n : Nat) : (u.clearBit f n).conf = u.conf := by unfold Chip.clearBit; split <;> rfl
@[simp] theorem Chip.clearBit_weir (u : Chip) (f : Fld) (n : Nat) : (u.clearBit f n).weir = u.weir := by unfold Chip.clearBit; split <;> rfl
@[simp] theorem Chip.clearBit_link (u : Chip) (f : Fld) (n : Nat) : (u.clearBit f n).link = u.link := by unfold Chip.clearBit; split <;> rfl
@[simp] theorem Chip.clearBit_lat (u : Chip) (f : Fld) (n : Nat) : (u.clearBit f n).lat = u.lat := by unfold Chip.clearBit; split <;> rfl
@[simp] theorem Chip.clearBit_flt (u : Chip) (f : Fld) (n : Nat) : (u.clearBit f n).flt = u.flt := by unfold Chip.clearBit; split <;> rfl
@[simp] theorem Chip.clearBit_gate (u : Chip) (f : Fld) (n : Nat) : (u.clearBit f n).gate = u.gate := by unfold Chip.clearBit; split <;> rfl
@[simp] theorem Chip.clearBit_rt (u : Chip) (f : Fld) (n : Nat) : (u.clearBit f n).rt = u.rt := by unfold Chip.clearBit; split <;> rfl
@[simp] theorem Chip.clearBit_sin (u : Chip) (f : Fld) (n : Nat) : (u.clearBit f n).sin = u.sin := by unfold Chip.clearBit; split <;> rfl
@[simp] theorem Chip.clearBit_sout (u : Chip) (f : Fld) (n : Nat) : (u.clearBit f n).sout = u.sout := by unfold Chip.clearBit; split <;> rfl
@[simp] theorem Chip.clearBit_zst (u : Chip) (f : Fld) (n : Nat) : (u.clearBit f n).zst = u.zst := by unfold Chip.clearBit; split <;> rfl
@[simp] theorem Chip.clearBit_svc (u : Chip) (f : Fld) (n : Nat) : (u.clearBit f n).svc = u.svc := by unfold Chip.clearBit; split <;> rfl
@[simp] theorem Chip.clearBit_ports (u : Chip) (f : Fld) (n : Nat) : (u.clearBit f n).ports = u.ports := by unfold Chip.clearBit; split <;> rfl
@[simp] theorem Chip.clearBit_cb (u : Chip) (f : Fld) (n : Nat) : (u.clearBit f n).cb = u.cb := by unfold Chip.clearBit; split <;> rfl
@[simp] theorem Chip.clearBit_tm (u : Chip) (f : Fld) (n : Nat) : (u.clearBit f n).tm = u.tm := by unfold Chip.clearBit; split <;> rfl
@[simp] theorem Chip.clearBit_br (u : Chip) (f : Fld) (n : Nat) : (u.clearBit f n).br = u.br := by unfold Chip.clearBit; split <;> rfl
@[simp] theorem Chip.clearBit_msram (u : Chip) (f : Fld) (n : Nat) : (u.clearBit f n).msram = u.msram := by unfold Chip.clearBit; split <;> rfl
@[simp] theorem Chip.clearBit_ddr (u : Chip) (f : Fld) (n : Nat) : (u.clearBit f n).ddr = u.ddr := by unfold Chip.clearBit; split <;> rfl
@[simp] theorem Chip.clearBit_evr (u : Chip) (f : Fld) (n : Nat) : (u.clearBit f n).evr = u.evr := by unfold Chip.clearBit; split <;> rfl
@[simp] theorem Chip.clearBit_perc (u : Chip) (f : Fld) (n : Nat) : (u.clearBit f n).perc = u.perc := by unfold Chip.clearBit; split <;> rfl
@[simp] theorem Chip.clearBit_ret (u : Chip) (f : Fld) (n : Nat) : (u.clearBit f n).ret = u.ret := by unfold Chip.clearBit; split <;> rfl
@[simp] theorem Chip.clearBit_pwr (u : Chip) (f : Fld) (n : Nat) : (u.clearBit f n).pwr = u.pwr := by unfold Chip.clearBit; split <;> rfl
@[simp] theorem Chip.clearBit_com (u : Chip) (f : Fld) (n : Nat) : (u.clearBit f n).com = u.com := by unfold Chip.clearBit; split <;> rfl
@[simp] theorem Chip.clearBit_boot (u : Chip) (f : Fld) (n : Nat) : (u.clearBit f n).boot = u.boot := by unfold Chip.clearBit; split <;> rfl

/-! ### Chip.answer: only the response changes -/

@[simp] theorem Chip.answer_regs (u : Chip) (r : BusResp) : (u.answer r).regs = u.regs := rfl
@[simp] theorem Chip.answer_now (u : Chip) (r : BusResp) : (u.answer r).now = u.now := rfl
@[simp] theorem Chip.answer_freeCtr (u : Chip) (r : BusResp) : (u.answer r).freeCtr = u.freeCtr := rfl
@[simp] theorem Chip.answer_intake (u : Chip) (r : BusResp) : (u.answer r).intake = u.intake := rfl
@[simp] theorem Chip.answer_fab (u : Chip) (r : BusResp) : (u.answer r).fab = u.fab := rfl
@[simp] theorem Chip.answer_pages (u : Chip) (r : BusResp) : (u.answer r).pages = u.pages := rfl
@[simp] theorem Chip.answer_plic (u : Chip) (r : BusResp) : (u.answer r).plic = u.plic := rfl
@[simp] theorem Chip.answer_cic (u : Chip) (r : BusResp) : (u.answer r).cic = u.cic := rfl
@[simp] theorem Chip.answer_chans (u : Chip) (r : BusResp) : (u.answer r).chans = u.chans := rfl
@[simp] theorem Chip.answer_conf (u : Chip) (r : BusResp) : (u.answer r).conf = u.conf := rfl
@[simp] theorem Chip.answer_weir (u : Chip) (r : BusResp) : (u.answer r).weir = u.weir := rfl
@[simp] theorem Chip.answer_link (u : Chip) (r : BusResp) : (u.answer r).link = u.link := rfl
@[simp] theorem Chip.answer_lat (u : Chip) (r : BusResp) : (u.answer r).lat = u.lat := rfl
@[simp] theorem Chip.answer_flt (u : Chip) (r : BusResp) : (u.answer r).flt = u.flt := rfl
@[simp] theorem Chip.answer_gate (u : Chip) (r : BusResp) : (u.answer r).gate = u.gate := rfl
@[simp] theorem Chip.answer_rt (u : Chip) (r : BusResp) : (u.answer r).rt = u.rt := rfl
@[simp] theorem Chip.answer_sin (u : Chip) (r : BusResp) : (u.answer r).sin = u.sin := rfl
@[simp] theorem Chip.answer_sout (u : Chip) (r : BusResp) : (u.answer r).sout = u.sout := rfl
@[simp] theorem Chip.answer_zst (u : Chip) (r : BusResp) : (u.answer r).zst = u.zst := rfl
@[simp] theorem Chip.answer_svc (u : Chip) (r : BusResp) : (u.answer r).svc = u.svc := rfl
@[simp] theorem Chip.answer_ports (u : Chip) (r : BusResp) : (u.answer r).ports = u.ports := rfl
@[simp] theorem Chip.answer_cb (u : Chip) (r : BusResp) : (u.answer r).cb = u.cb := rfl
@[simp] theorem Chip.answer_tm (u : Chip) (r : BusResp) : (u.answer r).tm = u.tm := rfl
@[simp] theorem Chip.answer_br (u : Chip) (r : BusResp) : (u.answer r).br = u.br := rfl
@[simp] theorem Chip.answer_msram (u : Chip) (r : BusResp) : (u.answer r).msram = u.msram := rfl
@[simp] theorem Chip.answer_ddr (u : Chip) (r : BusResp) : (u.answer r).ddr = u.ddr := rfl
@[simp] theorem Chip.answer_evr (u : Chip) (r : BusResp) : (u.answer r).evr = u.evr := rfl
@[simp] theorem Chip.answer_perc (u : Chip) (r : BusResp) : (u.answer r).perc = u.perc := rfl
@[simp] theorem Chip.answer_ret (u : Chip) (r : BusResp) : (u.answer r).ret = u.ret := rfl
@[simp] theorem Chip.answer_pwr (u : Chip) (r : BusResp) : (u.answer r).pwr = u.pwr := rfl
@[simp] theorem Chip.answer_com (u : Chip) (r : BusResp) : (u.answer r).com = u.com := rfl
@[simp] theorem Chip.answer_boot (u : Chip) (r : BusResp) : (u.answer r).boot = u.boot := rfl
@[simp] theorem Chip.answer_resp (u : Chip) (r : BusResp) : (u.answer r).resp = r := rfl

/-! ### Chip.free: only the counter of free values changes -/

@[simp] theorem Chip.free_regs (u : Chip) : u.free.2.regs = u.regs := rfl
@[simp] theorem Chip.free_now (u : Chip) : u.free.2.now = u.now := rfl
@[simp] theorem Chip.free_resp (u : Chip) : u.free.2.resp = u.resp := rfl
@[simp] theorem Chip.free_intake (u : Chip) : u.free.2.intake = u.intake := rfl
@[simp] theorem Chip.free_fab (u : Chip) : u.free.2.fab = u.fab := rfl
@[simp] theorem Chip.free_pages (u : Chip) : u.free.2.pages = u.pages := rfl
@[simp] theorem Chip.free_plic (u : Chip) : u.free.2.plic = u.plic := rfl
@[simp] theorem Chip.free_cic (u : Chip) : u.free.2.cic = u.cic := rfl
@[simp] theorem Chip.free_chans (u : Chip) : u.free.2.chans = u.chans := rfl
@[simp] theorem Chip.free_conf (u : Chip) : u.free.2.conf = u.conf := rfl
@[simp] theorem Chip.free_weir (u : Chip) : u.free.2.weir = u.weir := rfl
@[simp] theorem Chip.free_link (u : Chip) : u.free.2.link = u.link := rfl
@[simp] theorem Chip.free_lat (u : Chip) : u.free.2.lat = u.lat := rfl
@[simp] theorem Chip.free_flt (u : Chip) : u.free.2.flt = u.flt := rfl
@[simp] theorem Chip.free_gate (u : Chip) : u.free.2.gate = u.gate := rfl
@[simp] theorem Chip.free_rt (u : Chip) : u.free.2.rt = u.rt := rfl
@[simp] theorem Chip.free_sin (u : Chip) : u.free.2.sin = u.sin := rfl
@[simp] theorem Chip.free_sout (u : Chip) : u.free.2.sout = u.sout := rfl
@[simp] theorem Chip.free_zst (u : Chip) : u.free.2.zst = u.zst := rfl
@[simp] theorem Chip.free_svc (u : Chip) : u.free.2.svc = u.svc := rfl
@[simp] theorem Chip.free_ports (u : Chip) : u.free.2.ports = u.ports := rfl
@[simp] theorem Chip.free_cb (u : Chip) : u.free.2.cb = u.cb := rfl
@[simp] theorem Chip.free_tm (u : Chip) : u.free.2.tm = u.tm := rfl
@[simp] theorem Chip.free_br (u : Chip) : u.free.2.br = u.br := rfl
@[simp] theorem Chip.free_msram (u : Chip) : u.free.2.msram = u.msram := rfl
@[simp] theorem Chip.free_ddr (u : Chip) : u.free.2.ddr = u.ddr := rfl
@[simp] theorem Chip.free_evr (u : Chip) : u.free.2.evr = u.evr := rfl
@[simp] theorem Chip.free_perc (u : Chip) : u.free.2.perc = u.perc := rfl
@[simp] theorem Chip.free_ret (u : Chip) : u.free.2.ret = u.ret := rfl
@[simp] theorem Chip.free_pwr (u : Chip) : u.free.2.pwr = u.pwr := rfl
@[simp] theorem Chip.free_com (u : Chip) : u.free.2.com = u.com := rfl
@[simp] theorem Chip.free_boot (u : Chip) : u.free.2.boot = u.boot := rfl
@[simp] theorem Chip.free_freeCtr (u : Chip) : u.free.2.freeCtr = u.freeCtr + 1 := rfl

end Sys2Proof.Machine
end

