-- ==== Sys2Proof/Laws/Events.lean ====
section
/-!
SUPPORT. What the shared operations of the event path can do, once for each: interrupt lines, interrupt latches, events; elapsed
time; what every meaning that calls them leaves alone.
-/
namespace Sys2Proof.Machine

/-! ### Interrupt lines and latches -/

/-- An ID's gateway changes only the management interrupt controller. -/
theorem Chip.plicGate_eq (u : Chip) (id : Nat) : u.plicGate id = { u with plic := (u.plicGate id).plic } := by
  unfold Chip.plicGate; split <;> rfl

/-- Passing lines on changes only the management interrupt controller. -/
theorem Chip.refreshLines_eq (u : Chip) (pg : Nat) : u.refreshLines pg = { u with plic := (u.refreshLines pg).plic } := by
  unfold Chip.refreshLines
  generalize mgmtIds pg = l
  induction l generalizing u with
  | nil => rfl
  | cons i l ih =>
    simp only [List.foldl_cons]
    rw [ih (u.plicGate i), Chip.plicGate_eq u i]

/-- Driving channel sources changes only the channel interrupt controllers. -/
theorem Chip.driveChannels_eq (u : Chip) (pg b : Nat) : u.driveChannels pg b = { u with cic := (u.driveChannels pg b).cic } := by
  unfold Chip.driveChannels; repeat' split
  all_goals rfl

/-- A latched interrupt changes IRQ_RAW of its page, the channel interrupt controllers and the management interrupt controller. -/
theorem Chip.irq_eq (u : Chip) (pg b : Nat) :
    u.irq pg b = { u.setBit (Reg.IRQ.RAW pg) b with cic := (u.irq pg b).cic, plic := (u.irq pg b).plic } := by
  unfold Chip.irq
  rw [Chip.refreshLines_eq, Chip.driveChannels_eq]

/-! ### Lines: every other part -/

@[simp] theorem Chip.refreshLines_regs (u : Chip) (pg : Nat) : (u.refreshLines pg).regs = u.regs := by rw [Chip.refreshLines_eq]
@[simp] theorem Chip.refreshLines_now (u : Chip) (pg : Nat) : (u.refreshLines pg).now = u.now := by rw [Chip.refreshLines_eq]
@[simp] theorem Chip.refreshLines_resp (u : Chip) (pg : Nat) : (u.refreshLines pg).resp = u.resp := by rw [Chip.refreshLines_eq]
@[simp] theorem Chip.refreshLines_freeCtr (u : Chip) (pg : Nat) : (u.refreshLines pg).freeCtr = u.freeCtr := by rw [Chip.refreshLines_eq]
@[simp] theorem Chip.refreshLines_intake (u : Chip) (pg : Nat) : (u.refreshLines pg).intake = u.intake := by rw [Chip.refreshLines_eq]
@[simp] theorem Chip.refreshLines_fab (u : Chip) (pg : Nat) : (u.refreshLines pg).fab = u.fab := by rw [Chip.refreshLines_eq]
@[simp] theorem Chip.refreshLines_pages (u : Chip) (pg : Nat) : (u.refreshLines pg).pages = u.pages := by rw [Chip.refreshLines_eq]
@[simp] theorem Chip.refreshLines_cic (u : Chip) (pg : Nat) : (u.refreshLines pg).cic = u.cic := by rw [Chip.refreshLines_eq]
@[simp] theorem Chip.refreshLines_chans (u : Chip) (pg : Nat) : (u.refreshLines pg).chans = u.chans := by rw [Chip.refreshLines_eq]
@[simp] theorem Chip.refreshLines_conf (u : Chip) (pg : Nat) : (u.refreshLines pg).conf = u.conf := by rw [Chip.refreshLines_eq]
@[simp] theorem Chip.refreshLines_weir (u : Chip) (pg : Nat) : (u.refreshLines pg).weir = u.weir := by rw [Chip.refreshLines_eq]
@[simp] theorem Chip.refreshLines_link (u : Chip) (pg : Nat) : (u.refreshLines pg).link = u.link := by rw [Chip.refreshLines_eq]
@[simp] theorem Chip.refreshLines_lat (u : Chip) (pg : Nat) : (u.refreshLines pg).lat = u.lat := by rw [Chip.refreshLines_eq]
@[simp] theorem Chip.refreshLines_flt (u : Chip) (pg : Nat) : (u.refreshLines pg).flt = u.flt := by rw [Chip.refreshLines_eq]
@[simp] theorem Chip.refreshLines_gate (u : Chip) (pg : Nat) : (u.refreshLines pg).gate = u.gate := by rw [Chip.refreshLines_eq]
@[simp] theorem Chip.refreshLines_rt (u : Chip) (pg : Nat) : (u.refreshLines pg).rt = u.rt := by rw [Chip.refreshLines_eq]
@[simp] theorem Chip.refreshLines_sin (u : Chip) (pg : Nat) : (u.refreshLines pg).sin = u.sin := by rw [Chip.refreshLines_eq]
@[simp] theorem Chip.refreshLines_sout (u : Chip) (pg : Nat) : (u.refreshLines pg).sout = u.sout := by rw [Chip.refreshLines_eq]
@[simp] theorem Chip.refreshLines_zst (u : Chip) (pg : Nat) : (u.refreshLines pg).zst = u.zst := by rw [Chip.refreshLines_eq]
@[simp] theorem Chip.refreshLines_svc (u : Chip) (pg : Nat) : (u.refreshLines pg).svc = u.svc := by rw [Chip.refreshLines_eq]
@[simp] theorem Chip.refreshLines_ports (u : Chip) (pg : Nat) : (u.refreshLines pg).ports = u.ports := by rw [Chip.refreshLines_eq]
@[simp] theorem Chip.refreshLines_cb (u : Chip) (pg : Nat) : (u.refreshLines pg).cb = u.cb := by rw [Chip.refreshLines_eq]
@[simp] theorem Chip.refreshLines_tm (u : Chip) (pg : Nat) : (u.refreshLines pg).tm = u.tm := by rw [Chip.refreshLines_eq]
@[simp] theorem Chip.refreshLines_br (u : Chip) (pg : Nat) : (u.refreshLines pg).br = u.br := by rw [Chip.refreshLines_eq]
@[simp] theorem Chip.refreshLines_msram (u : Chip) (pg : Nat) : (u.refreshLines pg).msram = u.msram := by rw [Chip.refreshLines_eq]
@[simp] theorem Chip.refreshLines_ddr (u : Chip) (pg : Nat) : (u.refreshLines pg).ddr = u.ddr := by rw [Chip.refreshLines_eq]
@[simp] theorem Chip.refreshLines_evr (u : Chip) (pg : Nat) : (u.refreshLines pg).evr = u.evr := by rw [Chip.refreshLines_eq]
@[simp] theorem Chip.refreshLines_perc (u : Chip) (pg : Nat) : (u.refreshLines pg).perc = u.perc := by rw [Chip.refreshLines_eq]
@[simp] theorem Chip.refreshLines_ret (u : Chip) (pg : Nat) : (u.refreshLines pg).ret = u.ret := by rw [Chip.refreshLines_eq]
@[simp] theorem Chip.refreshLines_pwr (u : Chip) (pg : Nat) : (u.refreshLines pg).pwr = u.pwr := by rw [Chip.refreshLines_eq]
@[simp] theorem Chip.refreshLines_com (u : Chip) (pg : Nat) : (u.refreshLines pg).com = u.com := by rw [Chip.refreshLines_eq]
@[simp] theorem Chip.refreshLines_boot (u : Chip) (pg : Nat) : (u.refreshLines pg).boot = u.boot := by rw [Chip.refreshLines_eq]

/-! ### A latched interrupt: every other part -/

@[simp] theorem Chip.irq_now (u : Chip) (pg b : Nat) : (u.irq pg b).now = u.now := by rw [Chip.irq_eq]; rfl
@[simp] theorem Chip.irq_resp (u : Chip) (pg b : Nat) : (u.irq pg b).resp = u.resp := by rw [Chip.irq_eq]; rfl
@[simp] theorem Chip.irq_freeCtr (u : Chip) (pg b : Nat) : (u.irq pg b).freeCtr = u.freeCtr := by rw [Chip.irq_eq]; rfl
@[simp] theorem Chip.irq_intake (u : Chip) (pg b : Nat) : (u.irq pg b).intake = u.intake := by rw [Chip.irq_eq]; rfl
@[simp] theorem Chip.irq_fab (u : Chip) (pg b : Nat) : (u.irq pg b).fab = u.fab := by rw [Chip.irq_eq]; rfl
@[simp] theorem Chip.irq_pages (u : Chip) (pg b : Nat) : (u.irq pg b).pages = u.pages := by rw [Chip.irq_eq]; rfl
@[simp] theorem Chip.irq_chans (u : Chip) (pg b : Nat) : (u.irq pg b).chans = u.chans := by rw [Chip.irq_eq]; rfl
@[simp] theorem Chip.irq_conf (u : Chip) (pg b : Nat) : (u.irq pg b).conf = u.conf := by rw [Chip.irq_eq]; rfl
@[simp] theorem Chip.irq_weir (u : Chip) (pg b : Nat) : (u.irq pg b).weir = u.weir := by rw [Chip.irq_eq]; rfl
@[simp] theorem Chip.irq_link (u : Chip) (pg b : Nat) : (u.irq pg b).link = u.link := by rw [Chip.irq_eq]; rfl
@[simp] theorem Chip.irq_lat (u : Chip) (pg b : Nat) : (u.irq pg b).lat = u.lat := by rw [Chip.irq_eq]; rfl
@[simp] theorem Chip.irq_flt (u : Chip) (pg b : Nat) : (u.irq pg b).flt = u.flt := by rw [Chip.irq_eq]; rfl
@[simp] theorem Chip.irq_gate (u : Chip) (pg b : Nat) : (u.irq pg b).gate = u.gate := by rw [Chip.irq_eq]; rfl
@[simp] theorem Chip.irq_rt (u : Chip) (pg b : Nat) : (u.irq pg b).rt = u.rt := by rw [Chip.irq_eq]; rfl
@[simp] theorem Chip.irq_sin (u : Chip) (pg b : Nat) : (u.irq pg b).sin = u.sin := by rw [Chip.irq_eq]; rfl
@[simp] theorem Chip.irq_sout (u : Chip) (pg b : Nat) : (u.irq pg b).sout = u.sout := by rw [Chip.irq_eq]; rfl
@[simp] theorem Chip.irq_zst (u : Chip) (pg b : Nat) : (u.irq pg b).zst = u.zst := by rw [Chip.irq_eq]; rfl
@[simp] theorem Chip.irq_svc (u : Chip) (pg b : Nat) : (u.irq pg b).svc = u.svc := by rw [Chip.irq_eq]; rfl
@[simp] theorem Chip.irq_ports (u : Chip) (pg b : Nat) : (u.irq pg b).ports = u.ports := by rw [Chip.irq_eq]; rfl
@[simp] theorem Chip.irq_cb (u : Chip) (pg b : Nat) : (u.irq pg b).cb = u.cb := by rw [Chip.irq_eq]; rfl
@[simp] theorem Chip.irq_tm (u : Chip) (pg b : Nat) : (u.irq pg b).tm = u.tm := by rw [Chip.irq_eq]; rfl
@[simp] theorem Chip.irq_br (u : Chip) (pg b : Nat) : (u.irq pg b).br = u.br := by rw [Chip.irq_eq]; rfl
@[simp] theorem Chip.irq_msram (u : Chip) (pg b : Nat) : (u.irq pg b).msram = u.msram := by rw [Chip.irq_eq]; rfl
@[simp] theorem Chip.irq_ddr (u : Chip) (pg b : Nat) : (u.irq pg b).ddr = u.ddr := by rw [Chip.irq_eq]; rfl
@[simp] theorem Chip.irq_evr (u : Chip) (pg b : Nat) : (u.irq pg b).evr = u.evr := by rw [Chip.irq_eq]; rfl
@[simp] theorem Chip.irq_perc (u : Chip) (pg b : Nat) : (u.irq pg b).perc = u.perc := by rw [Chip.irq_eq]; rfl
@[simp] theorem Chip.irq_ret (u : Chip) (pg b : Nat) : (u.irq pg b).ret = u.ret := by rw [Chip.irq_eq]; rfl
@[simp] theorem Chip.irq_pwr (u : Chip) (pg b : Nat) : (u.irq pg b).pwr = u.pwr := by rw [Chip.irq_eq]; rfl
@[simp] theorem Chip.irq_com (u : Chip) (pg b : Nat) : (u.irq pg b).com = u.com := by rw [Chip.irq_eq]; rfl
@[simp] theorem Chip.irq_boot (u : Chip) (pg b : Nat) : (u.irq pg b).boot = u.boot := by rw [Chip.irq_eq]; rfl

/-! ### Events -/

/-- An event of a listed source whose staging register is free is staged with its code and values. -/
theorem Chip.raise_reports (u : Chip) (src code : Nat) (data : List Nat) (hl : sourceListed src = true) (hs : u.staged src = false) :
    (u.raise src code data).reports src code data = true := by
  simp [Chip.raise, Chip.stage, hl, hs, Chip.countStaged, Chip.reports]

/-! ### Register fields that the event path leaves alone -/

/-- A field at another address is another key. -/
theorem Fld.key_ne {f g : Fld} (hf : f.lo < 32) (hg : g.lo < 32) (h : f.addr ≠ g.addr) : f.key ≠ g.key := by
  unfold Fld.key; omega

/-- A latched interrupt leaves every field at another address alone. -/
theorem Chip.get_irq (u : Chip) (pg b : Nat) (f : Fld) (hl : f.lo < 32) (ha : f.addr ≠ (Reg.IRQ.RAW pg).addr) : (u.irq pg b).get f = u.get f := by
  rw [Chip.irq_eq]
  exact Chip.get_put_ne u _ f _ (Fld.key_ne (by simp [Reg.IRQ.RAW]) hl (Ne.symm ha))

/-- An event leaves every field outside event intake's block alone. -/
theorem Chip.get_stage (u : Chip) (e : Ev) (f : Fld) (hl : f.lo < 32) (h4 : 0x40000000 ≤ f.addr) (ha : f.addr / 0x100000 ≠ 0x409) :
    (u.stage e).get f = u.get f := by
  unfold Chip.stage
  split
  · rfl
  · split
    · unfold Chip.eventLost
      rw [Chip.get_irq _ _ _ _ hl (by simp [Reg.IRQ.RAW]; omega)]
      unfold Chip.satInc
      refine (Chip.get_put_ne (u.put _ _) _ f _ ?_).trans (Chip.get_put_ne u _ f _ ?_)
      · apply Fld.key_ne (by decide) hl; simp [Reg.INT_LOSTSUM.COUNT]; omega
      · apply Fld.key_ne _ hl
        · simp only [Reg.INT_LOST.COUNT, slot]; split <;> omega
        · simp only [Reg.INT_LOST.COUNT]; omega
    · unfold Chip.countStaged
      refine Chip.get_put_ne _ _ f _ (Fld.key_ne (by decide) hl ?_)
      simp [Reg.INT_STAT.FULL]; omega

/-- The same of an event that hardware raises. -/
theorem Chip.get_raise (u : Chip) (src code : Nat) (data : List Nat) (f : Fld) (hl : f.lo < 32) (h4 : 0x40000000 ≤ f.addr)
    (ha : f.addr / 0x100000 ≠ 0x409) : (u.raise src code data).get f = u.get f := Chip.get_stage u _ f hl h4 ha

/-! ### An event: every part but the intake and what its LOST latch drives -/

@[simp] theorem Chip.stage_now (u : Chip) (e : Ev) : (u.stage e).now = u.now := by
  unfold Chip.stage Chip.eventLost; split
  · rfl
  · split <;> simp [Chip.countStaged, Chip.satInc]
@[simp] theorem Chip.stage_resp (u : Chip) (e : Ev) : (u.stage e).resp = u.resp := by
  unfold Chip.stage Chip.eventLost; split
  · rfl
  · split <;> simp [Chip.countStaged, Chip.satInc]
@[simp] theorem Chip.stage_freeCtr (u : Chip) (e : Ev) : (u.stage e).freeCtr = u.freeCtr := by
  unfold Chip.stage Chip.eventLost; split
  · rfl
  · split <;> simp [Chip.countStaged, Chip.satInc]
@[simp] theorem Chip.stage_fab (u : Chip) (e : Ev) : (u.stage e).fab = u.fab := by
  unfold Chip.stage Chip.eventLost; split
  · rfl
  · split <;> simp [Chip.countStaged, Chip.satInc]
@[simp] theorem Chip.stage_pages (u : Chip) (e : Ev) : (u.stage e).pages = u.pages := by
  unfold Chip.stage Chip.eventLost; split
  · rfl
  · split <;> simp [Chip.countStaged, Chip.satInc]
@[simp] theorem Chip.stage_chans (u : Chip) (e : Ev) : (u.stage e).chans = u.chans := by
  unfold Chip.stage Chip.eventLost; split
  · rfl
  · split <;> simp [Chip.countStaged, Chip.satInc]
@[simp] theorem Chip.stage_conf (u : Chip) (e : Ev) : (u.stage e).conf = u.conf := by
  unfold Chip.stage Chip.eventLost; split
  · rfl
  · split <;> simp [Chip.countStaged, Chip.satInc]
@[simp] theorem Chip.stage_weir (u : Chip) (e : Ev) : (u.stage e).weir = u.weir := by
  unfold Chip.stage Chip.eventLost; split
  · rfl
  · split <;> simp [Chip.countStaged, Chip.satInc]
@[simp] theorem Chip.stage_link (u : Chip) (e : Ev) : (u.stage e).link = u.link := by
  unfold Chip.stage Chip.eventLost; split
  · rfl
  · split <;> simp [Chip.countStaged, Chip.satInc]
@[simp] theorem Chip.stage_lat (u : Chip) (e : Ev) : (u.stage e).lat = u.lat := by
  unfold Chip.stage Chip.eventLost; split
  · rfl
  · split <;> simp [Chip.countStaged, Chip.satInc]
@[simp] theorem Chip.stage_flt (u : Chip) (e : Ev) : (u.stage e).flt = u.flt := by
  unfold Chip.stage Chip.eventLost; split
  · rfl
  · split <;> simp [Chip.countStaged, Chip.satInc]
@[simp] theorem Chip.stage_gate (u : Chip) (e : Ev) : (u.stage e).gate = u.gate := by
  unfold Chip.stage Chip.eventLost; split
  · rfl
  · split <;> simp [Chip.countStaged, Chip.satInc]
@[simp] theorem Chip.stage_rt (u : Chip) (e : Ev) : (u.stage e).rt = u.rt := by
  unfold Chip.stage Chip.eventLost; split
  · rfl
  · split <;> simp [Chip.countStaged, Chip.satInc]
@[simp] theorem Chip.stage_sin (u : Chip) (e : Ev) : (u.stage e).sin = u.sin := by
  unfold Chip.stage Chip.eventLost; split
  · rfl
  · split <;> simp [Chip.countStaged, Chip.satInc]
@[simp] theorem Chip.stage_sout (u : Chip) (e : Ev) : (u.stage e).sout = u.sout := by
  unfold Chip.stage Chip.eventLost; split
  · rfl
  · split <;> simp [Chip.countStaged, Chip.satInc]
@[simp] theorem Chip.stage_zst (u : Chip) (e : Ev) : (u.stage e).zst = u.zst := by
  unfold Chip.stage Chip.eventLost; split
  · rfl
  · split <;> simp [Chip.countStaged, Chip.satInc]
@[simp] theorem Chip.stage_svc (u : Chip) (e : Ev) : (u.stage e).svc = u.svc := by
  unfold Chip.stage Chip.eventLost; split
  · rfl
  · split <;> simp [Chip.countStaged, Chip.satInc]
@[simp] theorem Chip.stage_ports (u : Chip) (e : Ev) : (u.stage e).ports = u.ports := by
  unfold Chip.stage Chip.eventLost; split
  · rfl
  · split <;> simp [Chip.countStaged, Chip.satInc]
@[simp] theorem Chip.stage_cb (u : Chip) (e : Ev) : (u.stage e).cb = u.cb := by
  unfold Chip.stage Chip.eventLost; split
  · rfl
  · split <;> simp [Chip.countStaged, Chip.satInc]
@[simp] theorem Chip.stage_tm (u : Chip) (e : Ev) : (u.stage e).tm = u.tm := by
  unfold Chip.stage Chip.eventLost; split
  · rfl
  · split <;> simp [Chip.countStaged, Chip.satInc]
@[simp] theorem Chip.stage_br (u : Chip) (e : Ev) : (u.stage e).br = u.br := by
  unfold Chip.stage Chip.eventLost; split
  · rfl
  · split <;> simp [Chip.countStaged, Chip.satInc]
@[simp] theorem Chip.stage_msram (u : Chip) (e : Ev) : (u.stage e).msram = u.msram := by
  unfold Chip.stage Chip.eventLost; split
  · rfl
  · split <;> simp [Chip.countStaged, Chip.satInc]
@[simp] theorem Chip.stage_ddr (u : Chip) (e : Ev) : (u.stage e).ddr = u.ddr := by
  unfold Chip.stage Chip.eventLost; split
  · rfl
  · split <;> simp [Chip.countStaged, Chip.satInc]
@[simp] theorem Chip.stage_evr (u : Chip) (e : Ev) : (u.stage e).evr = u.evr := by
  unfold Chip.stage Chip.eventLost; split
  · rfl
  · split <;> simp [Chip.countStaged, Chip.satInc]
@[simp] theorem Chip.stage_perc (u : Chip) (e : Ev) : (u.stage e).perc = u.perc := by
  unfold Chip.stage Chip.eventLost; split
  · rfl
  · split <;> simp [Chip.countStaged, Chip.satInc]
@[simp] theorem Chip.stage_ret (u : Chip) (e : Ev) : (u.stage e).ret = u.ret := by
  unfold Chip.stage Chip.eventLost; split
  · rfl
  · split <;> simp [Chip.countStaged, Chip.satInc]
@[simp] theorem Chip.stage_pwr (u : Chip) (e : Ev) : (u.stage e).pwr = u.pwr := by
  unfold Chip.stage Chip.eventLost; split
  · rfl
  · split <;> simp [Chip.countStaged, Chip.satInc]
@[simp] theorem Chip.stage_com (u : Chip) (e : Ev) : (u.stage e).com = u.com := by
  unfold Chip.stage Chip.eventLost; split
  · rfl
  · split <;> simp [Chip.countStaged, Chip.satInc]
@[simp] theorem Chip.stage_boot (u : Chip) (e : Ev) : (u.stage e).boot = u.boot := by
  unfold Chip.stage Chip.eventLost; split
  · rfl
  · split <;> simp [Chip.countStaged, Chip.satInc]

/-! ### An event that hardware raises -/

@[simp] theorem Chip.raise_now (u : Chip) (src code : Nat) (data : List Nat) : (u.raise src code data).now = u.now := Chip.stage_now u _
@[simp] theorem Chip.raise_resp (u : Chip) (src code : Nat) (data : List Nat) : (u.raise src code data).resp = u.resp := Chip.stage_resp u _
@[simp] theorem Chip.raise_freeCtr (u : Chip) (src code : Nat) (data : List Nat) : (u.raise src code data).freeCtr = u.freeCtr := Chip.stage_freeCtr u _
@[simp] theorem Chip.raise_fab (u : Chip) (src code : Nat) (data : List Nat) : (u.raise src code data).fab = u.fab := Chip.stage_fab u _
@[simp] theorem Chip.raise_pages (u : Chip) (src code : Nat) (data : List Nat) : (u.raise src code data).pages = u.pages := Chip.stage_pages u _
@[simp] theorem Chip.raise_chans (u : Chip) (src code : Nat) (data : List Nat) : (u.raise src code data).chans = u.chans := Chip.stage_chans u _
@[simp] theorem Chip.raise_conf (u : Chip) (src code : Nat) (data : List Nat) : (u.raise src code data).conf = u.conf := Chip.stage_conf u _
@[simp] theorem Chip.raise_weir (u : Chip) (src code : Nat) (data : List Nat) : (u.raise src code data).weir = u.weir := Chip.stage_weir u _
@[simp] theorem Chip.raise_link (u : Chip) (src code : Nat) (data : List Nat) : (u.raise src code data).link = u.link := Chip.stage_link u _
@[simp] theorem Chip.raise_lat (u : Chip) (src code : Nat) (data : List Nat) : (u.raise src code data).lat = u.lat := Chip.stage_lat u _
@[simp] theorem Chip.raise_flt (u : Chip) (src code : Nat) (data : List Nat) : (u.raise src code data).flt = u.flt := Chip.stage_flt u _
@[simp] theorem Chip.raise_gate (u : Chip) (src code : Nat) (data : List Nat) : (u.raise src code data).gate = u.gate := Chip.stage_gate u _
@[simp] theorem Chip.raise_rt (u : Chip) (src code : Nat) (data : List Nat) : (u.raise src code data).rt = u.rt := Chip.stage_rt u _
@[simp] theorem Chip.raise_sin (u : Chip) (src code : Nat) (data : List Nat) : (u.raise src code data).sin = u.sin := Chip.stage_sin u _
@[simp] theorem Chip.raise_sout (u : Chip) (src code : Nat) (data : List Nat) : (u.raise src code data).sout = u.sout := Chip.stage_sout u _
@[simp] theorem Chip.raise_zst (u : Chip) (src code : Nat) (data : List Nat) : (u.raise src code data).zst = u.zst := Chip.stage_zst u _
@[simp] theorem Chip.raise_svc (u : Chip) (src code : Nat) (data : List Nat) : (u.raise src code data).svc = u.svc := Chip.stage_svc u _
@[simp] theorem Chip.raise_ports (u : Chip) (src code : Nat) (data : List Nat) : (u.raise src code data).ports = u.ports := Chip.stage_ports u _
@[simp] theorem Chip.raise_cb (u : Chip) (src code : Nat) (data : List Nat) : (u.raise src code data).cb = u.cb := Chip.stage_cb u _
@[simp] theorem Chip.raise_tm (u : Chip) (src code : Nat) (data : List Nat) : (u.raise src code data).tm = u.tm := Chip.stage_tm u _
@[simp] theorem Chip.raise_br (u : Chip) (src code : Nat) (data : List Nat) : (u.raise src code data).br = u.br := Chip.stage_br u _
@[simp] theorem Chip.raise_msram (u : Chip) (src code : Nat) (data : List Nat) : (u.raise src code data).msram = u.msram := Chip.stage_msram u _
@[simp] theorem Chip.raise_ddr (u : Chip) (src code : Nat) (data : List Nat) : (u.raise src code data).ddr = u.ddr := Chip.stage_ddr u _
@[simp] theorem Chip.raise_evr (u : Chip) (src code : Nat) (data : List Nat) : (u.raise src code data).evr = u.evr := Chip.stage_evr u _
@[simp] theorem Chip.raise_perc (u : Chip) (src code : Nat) (data : List Nat) : (u.raise src code data).perc = u.perc := Chip.stage_perc u _
@[simp] theorem Chip.raise_ret (u : Chip) (src code : Nat) (data : List Nat) : (u.raise src code data).ret = u.ret := Chip.stage_ret u _
@[simp] theorem Chip.raise_pwr (u : Chip) (src code : Nat) (data : List Nat) : (u.raise src code data).pwr = u.pwr := Chip.stage_pwr u _
@[simp] theorem Chip.raise_com (u : Chip) (src code : Nat) (data : List Nat) : (u.raise src code data).com = u.com := Chip.stage_com u _
@[simp] theorem Chip.raise_boot (u : Chip) (src code : Nat) (data : List Nat) : (u.raise src code data).boot = u.boot := Chip.stage_boot u _

/-! ### An event that follows another of its source -/

@[simp] theorem Chip.raiseAfter_now (u : Chip) (src code : Nat) (data : List Nat) : (u.raiseAfter src code data).now = u.now := by unfold Chip.raiseAfter Chip.raiseSince; dsimp only; split; rfl; simp
@[simp] theorem Chip.raiseAfter_resp (u : Chip) (src code : Nat) (data : List Nat) : (u.raiseAfter src code data).resp = u.resp := by unfold Chip.raiseAfter Chip.raiseSince; dsimp only; split; rfl; simp
@[simp] theorem Chip.raiseAfter_freeCtr (u : Chip) (src code : Nat) (data : List Nat) : (u.raiseAfter src code data).freeCtr = u.freeCtr := by unfold Chip.raiseAfter Chip.raiseSince; dsimp only; split; rfl; simp
@[simp] theorem Chip.raiseAfter_fab (u : Chip) (src code : Nat) (data : List Nat) : (u.raiseAfter src code data).fab = u.fab := by unfold Chip.raiseAfter Chip.raiseSince; dsimp only; split; rfl; simp
@[simp] theorem Chip.raiseAfter_pages (u : Chip) (src code : Nat) (data : List Nat) : (u.raiseAfter src code data).pages = u.pages := by unfold Chip.raiseAfter Chip.raiseSince; dsimp only; split; rfl; simp
@[simp] theorem Chip.raiseAfter_chans (u : Chip) (src code : Nat) (data : List Nat) : (u.raiseAfter src code data).chans = u.chans := by unfold Chip.raiseAfter Chip.raiseSince; dsimp only; split; rfl; simp
@[simp] theorem Chip.raiseAfter_conf (u : Chip) (src code : Nat) (data : List Nat) : (u.raiseAfter src code data).conf = u.conf := by unfold Chip.raiseAfter Chip.raiseSince; dsimp only; split; rfl; simp
@[simp] theorem Chip.raiseAfter_weir (u : Chip) (src code : Nat) (data : List Nat) : (u.raiseAfter src code data).weir = u.weir := by unfold Chip.raiseAfter Chip.raiseSince; dsimp only; split; rfl; simp
@[simp] theorem Chip.raiseAfter_link (u : Chip) (src code : Nat) (data : List Nat) : (u.raiseAfter src code data).link = u.link := by unfold Chip.raiseAfter Chip.raiseSince; dsimp only; split; rfl; simp
@[simp] theorem Chip.raiseAfter_lat (u : Chip) (src code : Nat) (data : List Nat) : (u.raiseAfter src code data).lat = u.lat := by unfold Chip.raiseAfter Chip.raiseSince; dsimp only; split; rfl; simp
@[simp] theorem Chip.raiseAfter_flt (u : Chip) (src code : Nat) (data : List Nat) : (u.raiseAfter src code data).flt = u.flt := by unfold Chip.raiseAfter Chip.raiseSince; dsimp only; split; rfl; simp
@[simp] theorem Chip.raiseAfter_gate (u : Chip) (src code : Nat) (data : List Nat) : (u.raiseAfter src code data).gate = u.gate := by unfold Chip.raiseAfter Chip.raiseSince; dsimp only; split; rfl; simp
@[simp] theorem Chip.raiseAfter_rt (u : Chip) (src code : Nat) (data : List Nat) : (u.raiseAfter src code data).rt = u.rt := by unfold Chip.raiseAfter Chip.raiseSince; dsimp only; split; rfl; simp
@[simp] theorem Chip.raiseAfter_sin (u : Chip) (src code : Nat) (data : List Nat) : (u.raiseAfter src code data).sin = u.sin := by unfold Chip.raiseAfter Chip.raiseSince; dsimp only; split; rfl; simp
@[simp] theorem Chip.raiseAfter_sout (u : Chip) (src code : Nat) (data : List Nat) : (u.raiseAfter src code data).sout = u.sout := by unfold Chip.raiseAfter Chip.raiseSince; dsimp only; split; rfl; simp
@[simp] theorem Chip.raiseAfter_zst (u : Chip) (src code : Nat) (data : List Nat) : (u.raiseAfter src code data).zst = u.zst := by unfold Chip.raiseAfter Chip.raiseSince; dsimp only; split; rfl; simp
@[simp] theorem Chip.raiseAfter_svc (u : Chip) (src code : Nat) (data : List Nat) : (u.raiseAfter src code data).svc = u.svc := by unfold Chip.raiseAfter Chip.raiseSince; dsimp only; split; rfl; simp
@[simp] theorem Chip.raiseAfter_ports (u : Chip) (src code : Nat) (data : List Nat) : (u.raiseAfter src code data).ports = u.ports := by unfold Chip.raiseAfter Chip.raiseSince; dsimp only; split; rfl; simp
@[simp] theorem Chip.raiseAfter_cb (u : Chip) (src code : Nat) (data : List Nat) : (u.raiseAfter src code data).cb = u.cb := by unfold Chip.raiseAfter Chip.raiseSince; dsimp only; split; rfl; simp
@[simp] theorem Chip.raiseAfter_tm (u : Chip) (src code : Nat) (data : List Nat) : (u.raiseAfter src code data).tm = u.tm := by unfold Chip.raiseAfter Chip.raiseSince; dsimp only; split; rfl; simp
@[simp] theorem Chip.raiseAfter_br (u : Chip) (src code : Nat) (data : List Nat) : (u.raiseAfter src code data).br = u.br := by unfold Chip.raiseAfter Chip.raiseSince; dsimp only; split; rfl; simp
@[simp] theorem Chip.raiseAfter_msram (u : Chip) (src code : Nat) (data : List Nat) : (u.raiseAfter src code data).msram = u.msram := by unfold Chip.raiseAfter Chip.raiseSince; dsimp only; split; rfl; simp
@[simp] theorem Chip.raiseAfter_ddr (u : Chip) (src code : Nat) (data : List Nat) : (u.raiseAfter src code data).ddr = u.ddr := by unfold Chip.raiseAfter Chip.raiseSince; dsimp only; split; rfl; simp
@[simp] theorem Chip.raiseAfter_evr (u : Chip) (src code : Nat) (data : List Nat) : (u.raiseAfter src code data).evr = u.evr := by unfold Chip.raiseAfter Chip.raiseSince; dsimp only; split; rfl; simp
@[simp] theorem Chip.raiseAfter_perc (u : Chip) (src code : Nat) (data : List Nat) : (u.raiseAfter src code data).perc = u.perc := by unfold Chip.raiseAfter Chip.raiseSince; dsimp only; split; rfl; simp
@[simp] theorem Chip.raiseAfter_ret (u : Chip) (src code : Nat) (data : List Nat) : (u.raiseAfter src code data).ret = u.ret := by unfold Chip.raiseAfter Chip.raiseSince; dsimp only; split; rfl; simp
@[simp] theorem Chip.raiseAfter_pwr (u : Chip) (src code : Nat) (data : List Nat) : (u.raiseAfter src code data).pwr = u.pwr := by unfold Chip.raiseAfter Chip.raiseSince; dsimp only; split; rfl; simp
@[simp] theorem Chip.raiseAfter_com (u : Chip) (src code : Nat) (data : List Nat) : (u.raiseAfter src code data).com = u.com := by unfold Chip.raiseAfter Chip.raiseSince; dsimp only; split; rfl; simp
@[simp] theorem Chip.raiseAfter_boot (u : Chip) (src code : Nat) (data : List Nat) : (u.raiseAfter src code data).boot = u.boot := by unfold Chip.raiseAfter Chip.raiseSince; dsimp only; split; rfl; simp

/-! ### An event that firmware raises -/

@[simp] theorem Chip.fwRaise_now (u : Chip) (src code : Nat) (data : List Nat) : (u.fwRaise src code data).now = u.now := Chip.raiseAfter_now u src code data
@[simp] theorem Chip.fwRaise_resp (u : Chip) (src code : Nat) (data : List Nat) : (u.fwRaise src code data).resp = u.resp := Chip.raiseAfter_resp u src code data
@[simp] theorem Chip.fwRaise_freeCtr (u : Chip) (src code : Nat) (data : List Nat) : (u.fwRaise src code data).freeCtr = u.freeCtr := Chip.raiseAfter_freeCtr u src code data
@[simp] theorem Chip.fwRaise_fab (u : Chip) (src code : Nat) (data : List Nat) : (u.fwRaise src code data).fab = u.fab := Chip.raiseAfter_fab u src code data
@[simp] theorem Chip.fwRaise_pages (u : Chip) (src code : Nat) (data : List Nat) : (u.fwRaise src code data).pages = u.pages := Chip.raiseAfter_pages u src code data
@[simp] theorem Chip.fwRaise_chans (u : Chip) (src code : Nat) (data : List Nat) : (u.fwRaise src code data).chans = u.chans := Chip.raiseAfter_chans u src code data
@[simp] theorem Chip.fwRaise_conf (u : Chip) (src code : Nat) (data : List Nat) : (u.fwRaise src code data).conf = u.conf := Chip.raiseAfter_conf u src code data
@[simp] theorem Chip.fwRaise_weir (u : Chip) (src code : Nat) (data : List Nat) : (u.fwRaise src code data).weir = u.weir := Chip.raiseAfter_weir u src code data
@[simp] theorem Chip.fwRaise_link (u : Chip) (src code : Nat) (data : List Nat) : (u.fwRaise src code data).link = u.link := Chip.raiseAfter_link u src code data
@[simp] theorem Chip.fwRaise_lat (u : Chip) (src code : Nat) (data : List Nat) : (u.fwRaise src code data).lat = u.lat := Chip.raiseAfter_lat u src code data
@[simp] theorem Chip.fwRaise_flt (u : Chip) (src code : Nat) (data : List Nat) : (u.fwRaise src code data).flt = u.flt := Chip.raiseAfter_flt u src code data
@[simp] theorem Chip.fwRaise_gate (u : Chip) (src code : Nat) (data : List Nat) : (u.fwRaise src code data).gate = u.gate := Chip.raiseAfter_gate u src code data
@[simp] theorem Chip.fwRaise_rt (u : Chip) (src code : Nat) (data : List Nat) : (u.fwRaise src code data).rt = u.rt := Chip.raiseAfter_rt u src code data
@[simp] theorem Chip.fwRaise_sin (u : Chip) (src code : Nat) (data : List Nat) : (u.fwRaise src code data).sin = u.sin := Chip.raiseAfter_sin u src code data
@[simp] theorem Chip.fwRaise_sout (u : Chip) (src code : Nat) (data : List Nat) : (u.fwRaise src code data).sout = u.sout := Chip.raiseAfter_sout u src code data
@[simp] theorem Chip.fwRaise_zst (u : Chip) (src code : Nat) (data : List Nat) : (u.fwRaise src code data).zst = u.zst := Chip.raiseAfter_zst u src code data
@[simp] theorem Chip.fwRaise_svc (u : Chip) (src code : Nat) (data : List Nat) : (u.fwRaise src code data).svc = u.svc := Chip.raiseAfter_svc u src code data
@[simp] theorem Chip.fwRaise_ports (u : Chip) (src code : Nat) (data : List Nat) : (u.fwRaise src code data).ports = u.ports := Chip.raiseAfter_ports u src code data
@[simp] theorem Chip.fwRaise_cb (u : Chip) (src code : Nat) (data : List Nat) : (u.fwRaise src code data).cb = u.cb := Chip.raiseAfter_cb u src code data
@[simp] theorem Chip.fwRaise_tm (u : Chip) (src code : Nat) (data : List Nat) : (u.fwRaise src code data).tm = u.tm := Chip.raiseAfter_tm u src code data
@[simp] theorem Chip.fwRaise_br (u : Chip) (src code : Nat) (data : List Nat) : (u.fwRaise src code data).br = u.br := Chip.raiseAfter_br u src code data
@[simp] theorem Chip.fwRaise_msram (u : Chip) (src code : Nat) (data : List Nat) : (u.fwRaise src code data).msram = u.msram := Chip.raiseAfter_msram u src code data
@[simp] theorem Chip.fwRaise_ddr (u : Chip) (src code : Nat) (data : List Nat) : (u.fwRaise src code data).ddr = u.ddr := Chip.raiseAfter_ddr u src code data
@[simp] theorem Chip.fwRaise_evr (u : Chip) (src code : Nat) (data : List Nat) : (u.fwRaise src code data).evr = u.evr := Chip.raiseAfter_evr u src code data
@[simp] theorem Chip.fwRaise_perc (u : Chip) (src code : Nat) (data : List Nat) : (u.fwRaise src code data).perc = u.perc := Chip.raiseAfter_perc u src code data
@[simp] theorem Chip.fwRaise_ret (u : Chip) (src code : Nat) (data : List Nat) : (u.fwRaise src code data).ret = u.ret := Chip.raiseAfter_ret u src code data
@[simp] theorem Chip.fwRaise_pwr (u : Chip) (src code : Nat) (data : List Nat) : (u.fwRaise src code data).pwr = u.pwr := Chip.raiseAfter_pwr u src code data
@[simp] theorem Chip.fwRaise_com (u : Chip) (src code : Nat) (data : List Nat) : (u.fwRaise src code data).com = u.com := Chip.raiseAfter_com u src code data
@[simp] theorem Chip.fwRaise_boot (u : Chip) (src code : Nat) (data : List Nat) : (u.fwRaise src code data).boot = u.boot := Chip.raiseAfter_boot u src code data

/-! ### Latch and event together -/

@[simp] theorem Chip.irqRaise_now (u : Chip) (pg src bit : Nat) (data : List Nat) : (u.irqRaise pg src bit data).now = u.now := by simp [Chip.irqRaise]
@[simp] theorem Chip.irqRaise_resp (u : Chip) (pg src bit : Nat) (data : List Nat) : (u.irqRaise pg src bit data).resp = u.resp := by simp [Chip.irqRaise]
@[simp] theorem Chip.irqRaise_freeCtr (u : Chip) (pg src bit : Nat) (data : List Nat) : (u.irqRaise pg src bit data).freeCtr = u.freeCtr := by simp [Chip.irqRaise]
@[simp] theorem Chip.irqRaise_fab (u : Chip) (pg src bit : Nat) (data : List Nat) : (u.irqRaise pg src bit data).fab = u.fab := by simp [Chip.irqRaise]
@[simp] theorem Chip.irqRaise_pages (u : Chip) (pg src bit : Nat) (data : List Nat) : (u.irqRaise pg src bit data).pages = u.pages := by simp [Chip.irqRaise]
@[simp] theorem Chip.irqRaise_chans (u : Chip) (pg src bit : Nat) (data : List Nat) : (u.irqRaise pg src bit data).chans = u.chans := by simp [Chip.irqRaise]
@[simp] theorem Chip.irqRaise_conf (u : Chip) (pg src bit : Nat) (data : List Nat) : (u.irqRaise pg src bit data).conf = u.conf := by simp [Chip.irqRaise]
@[simp] theorem Chip.irqRaise_weir (u : Chip) (pg src bit : Nat) (data : List Nat) : (u.irqRaise pg src bit data).weir = u.weir := by simp [Chip.irqRaise]
@[simp] theorem Chip.irqRaise_link (u : Chip) (pg src bit : Nat) (data : List Nat) : (u.irqRaise pg src bit data).link = u.link := by simp [Chip.irqRaise]
@[simp] theorem Chip.irqRaise_lat (u : Chip) (pg src bit : Nat) (data : List Nat) : (u.irqRaise pg src bit data).lat = u.lat := by simp [Chip.irqRaise]
@[simp] theorem Chip.irqRaise_flt (u : Chip) (pg src bit : Nat) (data : List Nat) : (u.irqRaise pg src bit data).flt = u.flt := by simp [Chip.irqRaise]
@[simp] theorem Chip.irqRaise_gate (u : Chip) (pg src bit : Nat) (data : List Nat) : (u.irqRaise pg src bit data).gate = u.gate := by simp [Chip.irqRaise]
@[simp] theorem Chip.irqRaise_rt (u : Chip) (pg src bit : Nat) (data : List Nat) : (u.irqRaise pg src bit data).rt = u.rt := by simp [Chip.irqRaise]
@[simp] theorem Chip.irqRaise_sin (u : Chip) (pg src bit : Nat) (data : List Nat) : (u.irqRaise pg src bit data).sin = u.sin := by simp [Chip.irqRaise]
@[simp] theorem Chip.irqRaise_sout (u : Chip) (pg src bit : Nat) (data : List Nat) : (u.irqRaise pg src bit data).sout = u.sout := by simp [Chip.irqRaise]
@[simp] theorem Chip.irqRaise_zst (u : Chip) (pg src bit : Nat) (data : List Nat) : (u.irqRaise pg src bit data).zst = u.zst := by simp [Chip.irqRaise]
@[simp] theorem Chip.irqRaise_svc (u : Chip) (pg src bit : Nat) (data : List Nat) : (u.irqRaise pg src bit data).svc = u.svc := by simp [Chip.irqRaise]
@[simp] theorem Chip.irqRaise_ports (u : Chip) (pg src bit : Nat) (data : List Nat) : (u.irqRaise pg src bit data).ports = u.ports := by simp [Chip.irqRaise]
@[simp] theorem Chip.irqRaise_cb (u : Chip) (pg src bit : Nat) (data : List Nat) : (u.irqRaise pg src bit data).cb = u.cb := by simp [Chip.irqRaise]
@[simp] theorem Chip.irqRaise_tm (u : Chip) (pg src bit : Nat) (data : List Nat) : (u.irqRaise pg src bit data).tm = u.tm := by simp [Chip.irqRaise]
@[simp] theorem Chip.irqRaise_br (u : Chip) (pg src bit : Nat) (data : List Nat) : (u.irqRaise pg src bit data).br = u.br := by simp [Chip.irqRaise]
@[simp] theorem Chip.irqRaise_msram (u : Chip) (pg src bit : Nat) (data : List Nat) : (u.irqRaise pg src bit data).msram = u.msram := by simp [Chip.irqRaise]
@[simp] theorem Chip.irqRaise_ddr (u : Chip) (pg src bit : Nat) (data : List Nat) : (u.irqRaise pg src bit data).ddr = u.ddr := by simp [Chip.irqRaise]
@[simp] theorem Chip.irqRaise_evr (u : Chip) (pg src bit : Nat) (data : List Nat) : (u.irqRaise pg src bit data).evr = u.evr := by simp [Chip.irqRaise]
@[simp] theorem Chip.irqRaise_perc (u : Chip) (pg src bit : Nat) (data : List Nat) : (u.irqRaise pg src bit data).perc = u.perc := by simp [Chip.irqRaise]
@[simp] theorem Chip.irqRaise_ret (u : Chip) (pg src bit : Nat) (data : List Nat) : (u.irqRaise pg src bit data).ret = u.ret := by simp [Chip.irqRaise]
@[simp] theorem Chip.irqRaise_pwr (u : Chip) (pg src bit : Nat) (data : List Nat) : (u.irqRaise pg src bit data).pwr = u.pwr := by simp [Chip.irqRaise]
@[simp] theorem Chip.irqRaise_com (u : Chip) (pg src bit : Nat) (data : List Nat) : (u.irqRaise pg src bit data).com = u.com := by simp [Chip.irqRaise]
@[simp] theorem Chip.irqRaise_boot (u : Chip) (pg src bit : Nat) (data : List Nat) : (u.irqRaise pg src bit data).boot = u.boot := by simp [Chip.irqRaise]

/-! ### Time passes: every other part -/

@[simp] theorem Chip.advance_regs (u : Chip) (n : Nat) : (u.advance n).regs = u.regs := rfl
@[simp] theorem Chip.until_regs (u : Chip) (n : Nat) : (u.until n).regs = u.regs := rfl
@[simp] theorem Chip.advance_resp (u : Chip) (n : Nat) : (u.advance n).resp = u.resp := rfl
@[simp] theorem Chip.until_resp (u : Chip) (n : Nat) : (u.until n).resp = u.resp := rfl
@[simp] theorem Chip.advance_freeCtr (u : Chip) (n : Nat) : (u.advance n).freeCtr = u.freeCtr := rfl
@[simp] theorem Chip.until_freeCtr (u : Chip) (n : Nat) : (u.until n).freeCtr = u.freeCtr := rfl
@[simp] theorem Chip.advance_intake (u : Chip) (n : Nat) : (u.advance n).intake = u.intake := rfl
@[simp] theorem Chip.until_intake (u : Chip) (n : Nat) : (u.until n).intake = u.intake := rfl
@[simp] theorem Chip.advance_fab (u : Chip) (n : Nat) : (u.advance n).fab = u.fab := rfl
@[simp] theorem Chip.until_fab (u : Chip) (n : Nat) : (u.until n).fab = u.fab := rfl
@[simp] theorem Chip.advance_pages (u : Chip) (n : Nat) : (u.advance n).pages = u.pages := rfl
@[simp] theorem Chip.until_pages (u : Chip) (n : Nat) : (u.until n).pages = u.pages := rfl
@[simp] theorem Chip.advance_plic (u : Chip) (n : Nat) : (u.advance n).plic = u.plic := rfl
@[simp] theorem Chip.until_plic (u : Chip) (n : Nat) : (u.until n).plic = u.plic := rfl
@[simp] theorem Chip.advance_cic (u : Chip) (n : Nat) : (u.advance n).cic = u.cic := rfl
@[simp] theorem Chip.until_cic (u : Chip) (n : Nat) : (u.until n).cic = u.cic := rfl
@[simp] theorem Chip.advance_chans (u : Chip) (n : Nat) : (u.advance n).chans = u.chans := rfl
@[simp] theorem Chip.until_chans (u : Chip) (n : Nat) : (u.until n).chans = u.chans := rfl
@[simp] theorem Chip.advance_conf (u : Chip) (n : Nat) : (u.advance n).conf = u.conf := rfl
@[simp] theorem Chip.until_conf (u : Chip) (n : Nat) : (u.until n).conf = u.conf := rfl
@[simp] theorem Chip.advance_link (u : Chip) (n : Nat) : (u.advance n).link = u.link := rfl
@[simp] theorem Chip.until_link (u : Chip) (n : Nat) : (u.until n).link = u.link := rfl
@[simp] theorem Chip.advance_lat (u : Chip) (n : Nat) : (u.advance n).lat = u.lat := rfl
@[simp] theorem Chip.until_lat (u : Chip) (n : Nat) : (u.until n).lat = u.lat := rfl
@[simp] theorem Chip.advance_flt (u : Chip) (n : Nat) : (u.advance n).flt = u.flt := rfl
@[simp] theorem Chip.until_flt (u : Chip) (n : Nat) : (u.until n).flt = u.flt := rfl
@[simp] theorem Chip.advance_gate (u : Chip) (n : Nat) : (u.advance n).gate = u.gate := rfl
@[simp] theorem Chip.until_gate (u : Chip) (n : Nat) : (u.until n).gate = u.gate := rfl
@[simp] theorem Chip.advance_rt (u : Chip) (n : Nat) : (u.advance n).rt = u.rt := rfl
@[simp] theorem Chip.until_rt (u : Chip) (n : Nat) : (u.until n).rt = u.rt := rfl
@[simp] theorem Chip.advance_sin (u : Chip) (n : Nat) : (u.advance n).sin = u.sin := rfl
@[simp] theorem Chip.until_sin (u : Chip) (n : Nat) : (u.until n).sin = u.sin := rfl
@[simp] theorem Chip.advance_sout (u : Chip) (n : Nat) : (u.advance n).sout = u.sout := rfl
@[simp] theorem Chip.until_sout (u : Chip) (n : Nat) : (u.until n).sout = u.sout := rfl
@[simp] theorem Chip.advance_zst (u : Chip) (n : Nat) : (u.advance n).zst = u.zst := rfl
@[simp] theorem Chip.until_zst (u : Chip) (n : Nat) : (u.until n).zst = u.zst := rfl
@[simp] theorem Chip.advance_svc (u : Chip) (n : Nat) : (u.advance n).svc = u.svc := rfl
@[simp] theorem Chip.until_svc (u : Chip) (n : Nat) : (u.until n).svc = u.svc := rfl
@[simp] theorem Chip.advance_ports (u : Chip) (n : Nat) : (u.advance n).ports = u.ports := rfl
@[simp] theorem Chip.until_ports (u : Chip) (n : Nat) : (u.until n).ports = u.ports := rfl
@[simp] theorem Chip.advance_cb (u : Chip) (n : Nat) : (u.advance n).cb = u.cb := rfl
@[simp] theorem Chip.until_cb (u : Chip) (n : Nat) : (u.until n).cb = u.cb := rfl
@[simp] theorem Chip.advance_tm (u : Chip) (n : Nat) : (u.advance n).tm = u.tm := rfl
@[simp] theorem Chip.until_tm (u : Chip) (n : Nat) : (u.until n).tm = u.tm := rfl
@[simp] theorem Chip.advance_br (u : Chip) (n : Nat) : (u.advance n).br = u.br := rfl
@[simp] theorem Chip.until_br (u : Chip) (n : Nat) : (u.until n).br = u.br := rfl
@[simp] theorem Chip.advance_msram (u : Chip) (n : Nat) : (u.advance n).msram = u.msram := rfl
@[simp] theorem Chip.until_msram (u : Chip) (n : Nat) : (u.until n).msram = u.msram := rfl
@[simp] theorem Chip.advance_ddr (u : Chip) (n : Nat) : (u.advance n).ddr = u.ddr := rfl
@[simp] theorem Chip.until_ddr (u : Chip) (n : Nat) : (u.until n).ddr = u.ddr := rfl
@[simp] theorem Chip.advance_evr (u : Chip) (n : Nat) : (u.advance n).evr = u.evr := rfl
@[simp] theorem Chip.until_evr (u : Chip) (n : Nat) : (u.until n).evr = u.evr := rfl
@[simp] theorem Chip.advance_perc (u : Chip) (n : Nat) : (u.advance n).perc = u.perc := rfl
@[simp] theorem Chip.until_perc (u : Chip) (n : Nat) : (u.until n).perc = u.perc := rfl
@[simp] theorem Chip.advance_ret (u : Chip) (n : Nat) : (u.advance n).ret = u.ret := rfl
@[simp] theorem Chip.until_ret (u : Chip) (n : Nat) : (u.until n).ret = u.ret := rfl
@[simp] theorem Chip.advance_pwr (u : Chip) (n : Nat) : (u.advance n).pwr = u.pwr := rfl
@[simp] theorem Chip.until_pwr (u : Chip) (n : Nat) : (u.until n).pwr = u.pwr := rfl
@[simp] theorem Chip.advance_com (u : Chip) (n : Nat) : (u.advance n).com = u.com := rfl
@[simp] theorem Chip.until_com (u : Chip) (n : Nat) : (u.until n).com = u.com := rfl
@[simp] theorem Chip.advance_boot (u : Chip) (n : Nat) : (u.advance n).boot = u.boot := rfl
@[simp] theorem Chip.until_boot (u : Chip) (n : Nat) : (u.until n).boot = u.boot := rfl
@[simp] theorem Chip.advance_now (u : Chip) (n : Nat) : (u.advance n).now = u.now + n := rfl
@[simp] theorem Chip.until_now (u : Chip) (n : Nat) : (u.until n).now = max u.now n := by
  show u.now + (n - u.now) = max u.now n; omega

end Sys2Proof.Machine
end

