-- ==== Sys2Proof/Laws/Memory.lean ====
section
/-!
SUPPORT. Byte memories: a byte reads what was written, a write leaves the others alone, and every operation keeps the canonical form.
-/
namespace Sys2Proof.Machine

theorem memRead_erase (m : List Host.Cell) (k j : Nat) : memRead (memErase m k) j = if k = j then 0 else memRead m j := by
  induction m with
  | nil => simp [memErase, memRead]
  | cons e t ih =>
    obtain ⟨a, b⟩ := e
    by_cases ha : a = k
    · by_cases hj : k = j
      · subst ha; subst hj; simpa [memErase] using ih
      · subst ha; simp [memErase, memRead, ih, hj]
    · by_cases hj : k = j
      · subst hj; simp [memErase, memRead, ha, ih]
      · by_cases haj : a = j
        · subst haj; simp [memErase, memRead, ha, hj]
        · simp [memErase, memRead, ha, haj, hj, ih]

theorem memRead_insert (m : List Host.Cell) (k j : Nat) (v : Byte) (h : ∀ e ∈ m, e.1 ≠ k) :
    memRead (memInsert m k v) j = if k = j then v else memRead m j := by
  induction m with
  | nil => simp [memInsert, memRead]
  | cons e t ih =>
    obtain ⟨a, b⟩ := e
    have ha : a ≠ k := h (a, b) (by simp)
    have ht : ∀ e ∈ t, e.1 ≠ k := fun e he => h e (by simp [he])
    by_cases hk : k < a
    · simp [memInsert, memRead, hk]
    · by_cases hj : a = j
      · subst hj; simp [memInsert, memRead, hk, Ne.symm ha]
      · simp [memInsert, memRead, hk, hj, ih ht]

theorem mem_memErase (m : List Host.Cell) (k : Nat) : ∀ e ∈ memErase m k, e.1 ≠ k := by
  induction m with
  | nil => intro e he; simp [memErase] at he
  | cons x t ih =>
    obtain ⟨a, v⟩ := x
    intro e he
    by_cases ha : a = k
    · simp only [memErase, ha, if_true] at he; exact ih e he
    · simp only [memErase, ha, if_false, List.mem_cons] at he
      rcases he with rfl | he
      · exact ha
      · exact ih e he

/-- A byte reads what was written to it; every other byte reads as before. -/
theorem memRead_write (m : List Host.Cell) (k j : Nat) (v : Byte) : memRead (memWrite m k v) j = if k = j then v else memRead m j := by
  unfold memWrite
  split
  · next h => subst h; exact memRead_erase m k j
  · rw [memRead_insert _ _ _ _ (mem_memErase m k), memRead_erase]; split <;> rfl

theorem memWfFrom_weaken {lo lo' : Nat} (h : lo ≤ lo') : ∀ {m : List Host.Cell}, memWfFrom lo' m = true → memWfFrom lo m = true := by
  intro m hm
  cases m with
  | nil => rfl
  | cons e t => obtain ⟨a, b⟩ := e; simp only [memWfFrom, Bool.and_eq_true, decide_eq_true_eq] at hm ⊢; exact ⟨⟨by omega, hm.1.2⟩, hm.2⟩

theorem memErase_wf (k : Nat) : ∀ (m : List Host.Cell) (lo : Nat), memWfFrom lo m = true → memWfFrom lo (memErase m k) = true := by
  intro m
  induction m with
  | nil => intro lo _; rfl
  | cons e t ih =>
    obtain ⟨a, b⟩ := e
    intro lo h
    simp only [memWfFrom, Bool.and_eq_true, decide_eq_true_eq] at h
    by_cases ha : a = k
    · simp only [memErase, ha, if_true]; exact memWfFrom_weaken (by omega) (ih (a + 1) h.2)
    · simp only [memErase, ha, if_false, memWfFrom, Bool.and_eq_true, decide_eq_true_eq]; exact ⟨h.1, ih (a + 1) h.2⟩

theorem memInsert_wf (k : Nat) (v : Byte) (hv : v ≠ 0) : ∀ (m : List Host.Cell) (lo : Nat), (∀ e ∈ m, e.1 ≠ k) → lo ≤ k → memWfFrom lo m = true → memWfFrom lo (memInsert m k v) = true := by
  intro m
  induction m with
  | nil => intro lo _ hk _; simp [memInsert, memWfFrom, hk]; exact hv
  | cons e t ih =>
    obtain ⟨a, b⟩ := e
    intro lo hm hk h
    have ha : a ≠ k := hm (a, b) (by simp)
    have ht : ∀ e ∈ t, e.1 ≠ k := fun e he => hm e (by simp [he])
    simp only [memWfFrom, Bool.and_eq_true, decide_eq_true_eq] at h
    by_cases hka : k < a
    · simp only [memInsert, hka, if_true, memWfFrom, Bool.and_eq_true, decide_eq_true_eq]
      exact ⟨⟨hk, hv⟩, ⟨by omega, h.1.2⟩, h.2⟩
    · simp only [memInsert, hka, if_false, memWfFrom, Bool.and_eq_true, decide_eq_true_eq]
      exact ⟨h.1, ih (a + 1) ht (by omega) h.2⟩

/-- A write of one byte keeps the canonical form. -/
theorem memWrite_wf (m : List Host.Cell) (k : Nat) (v : Byte) (h : memWf m = true) : memWf (memWrite m k v) = true := by
  unfold memWf memWrite at *
  split
  · exact memErase_wf k m 0 h
  · next hv => exact memInsert_wf k v hv _ 0 (mem_memErase m k) (by omega) (memErase_wf k m 0 h)

/-- A write of several bytes keeps it. -/
theorem memWriteBytes_wf (b : List Byte) : ∀ (m : List Host.Cell) (k : Nat), memWf m = true → memWf (memWriteBytes m k b) = true := by
  induction b with
  | nil => intro m k h; exact h
  | cons x t ih => intro m k h; exact ih _ _ (memWrite_wf m k x h)

theorem memFilter_wf (p : Host.Cell → Bool) : ∀ (m : List Host.Cell) (lo : Nat), memWfFrom lo m = true → memWfFrom lo (m.filter p) = true := by
  intro m
  induction m with
  | nil => intro lo _; rfl
  | cons e t ih =>
    obtain ⟨a, b⟩ := e
    intro lo h
    simp only [memWfFrom, Bool.and_eq_true, decide_eq_true_eq] at h
    by_cases hp : p (a, b) = true
    · simp only [List.filter_cons, hp, if_true, memWfFrom, Bool.and_eq_true, decide_eq_true_eq]; exact ⟨h.1, ih (a + 1) h.2⟩
    · simp only [List.filter_cons, hp]; exact memWfFrom_weaken (by omega) (ih (a + 1) h.2)

/-- Clearing a range keeps it. -/
theorem memClear_wf (m : List Host.Cell) (lo n : Nat) (h : memWf m = true) : memWf (memClear m lo n) = true := memFilter_wf _ m 0 h

/-- A byte outside the bytes written reads as before. -/
theorem memRead_writeBytes_out (b : List Byte) : ∀ (m : List Host.Cell) (k j : Nat), (j < k ∨ k + b.length ≤ j) → memRead (memWriteBytes m k b) j = memRead m j := by
  induction b with
  | nil => intro m k j _; rfl
  | cons x t ih =>
    intro m k j h
    simp only [List.length_cons] at h
    rw [memWriteBytes, ih _ _ _ (by omega), memRead_write, if_neg (by omega)]

end Sys2Proof.Machine
end

