-- ==== Sys2Proof/Laws/Pages.lean ====
section
/-!
SUPPORT. Register pages: every address of a page finds the same page, a page that attends an access lets it through.
-/
namespace Sys2Proof.Machine

theorem pageOf_add (a k : Nat) (h : k < 0x1000) : pageOf (pageOf a + k) = pageOf a := by unfold pageOf; omega

@[simp] theorem pageOf_pageOf (a : Nat) : pageOf (pageOf a) = pageOf a := by unfold pageOf; omega

/-- Which page an address finds depends on its page alone. -/
theorem pageInfo_of_pageOf_eq (a b : Nat) (h : pageOf a = pageOf b) : pageInfo a = pageInfo b := by
  have h' : a / 0x1000 = b / 0x1000 := by unfold pageOf at h; omega
  have e1 : (0x50000000 ≤ a ∧ a < 0x51000000) ↔ (0x50000000 ≤ b ∧ b < 0x51000000) := by omega
  have e2 : (0x40000000 ≤ a ∧ a < 0x50000000) ↔ (0x40000000 ≤ b ∧ b < 0x50000000) := by omega
  unfold pageInfo
  by_cases c1 : 0x50000000 ≤ a ∧ a < 0x51000000
  · rw [if_pos c1, if_pos (e1.1 c1), h]
  · rw [if_neg c1, if_neg (fun x => c1 (e1.2 x))]
    by_cases c2 : 0x40000000 ≤ a ∧ a < 0x50000000
    · rw [if_pos c2, if_pos (e2.1 c2)]
      have t1 : (a - 0x40000000) / 0x100000 = (b - 0x40000000) / 0x100000 := by omega
      have t2 : (a - 0x40000000) % 0x100000 / 0x4000 = (b - 0x40000000) % 0x100000 / 0x4000 := by omega
      have t3 : (a - 0x40000000) % 0x4000 / 0x1000 = (b - 0x40000000) % 0x4000 / 0x1000 := by omega
      simp only [t1, t2, t3]
    · rw [if_neg c2, if_neg (fun x => c2 (e2.2 x))]

@[simp] theorem pageInfo_pageOf (a : Nat) : pageInfo (pageOf a) = pageInfo a := pageInfo_of_pageOf_eq _ _ (by simp)

theorem pageInfo_add (a k : Nat) (h : k < 0x1000) : pageInfo (pageOf a + k) = pageInfo a := pageInfo_of_pageOf_eq _ _ (pageOf_add a k h)

theorem page0_add (a k : Nat) (h : k < 0x1000) : page0 (pageOf a + k) = page0 a := by
  unfold page0; rw [pageInfo_add a k h, pageOf_add a k h]

@[simp] theorem page0_pageOf (a : Nat) : page0 (pageOf a) = page0 a := by unfold page0; simp

/-- A page that attends an access lets it through unchanged. -/
theorem Chip.access_attends (u : Chip) (a : Nat) (wr : Bool) (k : Chip → Chip) (h : u.attends a = true) : u.access a wr k = k u := by
  simp only [Chip.attends, Bool.and_eq_true, beq_iff_eq, Bool.not_eq_true'] at h
  obtain ⟨⟨⟨h1, h2⟩, h3⟩, h4⟩ := h
  simp only [Option.isSome_iff_ne_none, ne_eq] at h1
  simp [Chip.access, h1, h2, Chip.ungate, h4, Chip.inject, Chip.on, h3]

theorem Chip.attends_add (u : Chip) (a k : Nat) (h : k < 0x1000) : u.attends (pageOf a + k) = u.attends a := by
  unfold Chip.attends Chip.inReset; rw [pageInfo_add a k h, page0_add a k h]

end Sys2Proof.Machine
end

