-- ==== Sys2Proof/Laws/Weir.lean ====
section
/-!
SUPPORT. What the arrival of a channel image does, the check of its CRC taken as a fact, so that nobody has to compute it.
-/
namespace Sys2Proof.Machine

/-- A channel in operation and in the voting set sends an image with its CRC. -/
theorem execChannelImage_taken (c img : Nat) (s : State) (h : ¬ (2 < c ∨ s.chip.chState c ≠ 3 ∨ s.chip.inSet c = false)) :
    execChannelImage c img (imageCrc img) s = .next { s with chip := s.chip.imageTaken c img } := by
  simp only [execChannelImage]
  rw [if_neg h, if_neg (by simp)]
  rfl

/-- The same channel sends an image with another CRC. -/
theorem execChannelImage_bad (c img crc : Nat) (s : State) (h : ¬ (2 < c ∨ s.chip.chState c ≠ 3 ∨ s.chip.inSet c = false))
    (hc : crc ≠ imageCrc img) : execChannelImage c img crc s = .next { s with chip := s.chip.imageBad c } := by
  simp only [execChannelImage]
  rw [if_neg h, if_pos hc]
  rfl

end Sys2Proof.Machine
end

