-- ==== Sys2Proof/Tests/Slice0.lean ====
section
/-!
SUPPORT. Tests: expected results from the spec, and a witness for the hypotheses of each statement.
-/
namespace Sys2Proof.Tests
open Sys2Proof Sys2Proof.Machine
set_option Elab.async false

/-! ### Well-formed and ill-formed commands -/

/-- Commands within their ranges, one of each kind that has a range. -/
def wellFormed1 : List Instr := [
  .snapshot 0 0 true, .strapReadTimer 0 0, .snapshotHandover 0, .taskDispatch 0 {}, .taskDelivery 0 {}, .appTrap 0 0 0 0 0,
  .instructionRetire 0 0 true {}, .windowCycleLimit 0 0, .windowCompare 0 0 true, .storeCommit 0 0 none, .sramDed 0 0 0 true true, .eccWriteback 0 0,
  .channelInterrupt 0 0, .rollbackDone 0 0 0 true, .rbTimeout 0 0, .channelLostTimeout 0, .channelSelftestDone 0 true true [], .cfPortImg 0 0 0,
  .cfPortMsg 0 0, .cfPortDeliver 0 0 none, .channelImage 0 0 0, .pfailTrigger true 0, .weirPor 0 0, .flitReceive true 0 0 0 {}, .flitNak true 0 0,
  .flitAck true 0 0, .wrStoffHiWrite 0 0, .wrTimeLoRead 0, .latticeLatch 0 0, .sweepEval 0 0, .copyDone 0 0, .verifyDone 0 0,
  .standbyWrite 0 0x50400000 (List.replicate 4 0), .applyTime 0, .olcBegin true 0 0, .olcLoad true 0 0 0 0 [], .olcPrepare true 0 0 0 0 0 0 0,
  .olcSwap true 0 0 0 0, .olcAbort true 0 0, .forceSet true 0 0 0 0 0 0 0 0 0, .forceClear true 0 0 0, .forceClearAll true 0 0,
  .errInject true 0 0 0 0, .sinReset true 0 0 0, .soutReset true 0 0 0, .percFuseCmd true 0 0 0 0 0, .cfgConfirm true 0 0,
  .keyLoad true 0 0 0 0 (List.replicate 16 0) 0, .keyPhase true 0 0 0 0 0, .fwActivate true 0 0 0 0 0, .fwCancel true 0 0, .lockoutReset true 0 0,
  .channelReset true 0 0 0, .coldRestart true 0 0, .sinEdge 0 true 0, .sinFilterExpiry 0, .sinDiscTimeout 0, .sinUnlockWrite 0 0 0, .toutDue 0,
  .toutPulseStart 0]

theorem test_wellFormed1 : wellFormed1.all (fun i => i.wf) = true := by decide +kernel

/-- Commands within their ranges, one of each kind that has a range. -/
def wellFormed2 : List Instr := [
  .toutPulseEnd 0, .toutRecoveryEnd 0, .soutSample 0, .soutTestDue 0 true, .soutPulseStart 0 true, .soutPulseEnd 0, .soutRecoveryEnd 0,
  .soutUnlockWrite 0 0 0, .zstFrameTx 0, .zstFrameRx 0 [], .zstRxHdrRead 0, .zstRxDatRead 0, .zstPrecheck 0, .idReqTimer 0 0, .joinWaitExpiry 0,
  .portFrameRx 0 (.eth [] true), .portTxRefused 0 0, .plcaBeaconTimeout 0, .plcaBeaconRx 0, .gptpSyncRx 0 0 0 0, .pdelayReqRx 0 0 0,
  .timeBeaconRx 0 0 [], .busOff 0 0, .busOn 0, .engineFault 0 0, .rs485IdleDiscard 0, .bridgeFrame 0 (.eth [] true), .brTblW3Write 0 0,
  .tableCommit 0, .windowWrite 0 0 0x40 [], .windowRead 0 0 0x40 0, .readResponse 0 (.eth [] true), .writeAck 0 (.eth [] true), .responseTimeout 0,
  .drTimeout 0, .cvuFeedWrite 0 0, .cvuFeedBWrite 0 0, .cvuValWrite 0 true 0, .cvuPresetWrite 0 0 0, .fabricRequest 0 0 true,
  .arbitrationDecision 0 0, .arbHung 0, .eventRaise 0 0 [], .intRaise 0, .intAsmWrite 0 0 0, .lostRecordStage 0, .evrCursorWrite 0,
  .evrClrHiWrite 0 0, .percSliceStart 0, .percSliceDone 0 0 (.pass 0), .percFuseGo 0 0 0, .fuseDone 0, .pwrReqWrite 0 0, .i2cAddressMatch 0,
  .fwImageStore true 0 [] true 0, .idbScan 0 [], .idbScanTimer 0, .dividerWindow 0 0 0, .resetStepTimeout 0, .clkCtlWrite 0 0]

theorem test_wellFormed2 : wellFormed2.all (fun i => i.wf) = true := by decide +kernel

/-- Commands within their ranges, one of each kind that has a range. -/
def wellFormed3 : List Instr := [
  .bootStepDone 0 true true 0 0, .blkLockWrite 0 0 0, .lockExpiry 0, .crcScan 0 true, .softReset 0 0, .softResetDone 0, .irqPendClear 0 0 0,
  .blkErrinjWrite 0 0 0, .registerWrite 0 0 0 0, .selfGateIdle 0, .selfUngate 0, .plicClaim 0 ⟨0, []⟩, .plicComplete 0 0 0, .reintLossAgeOut 0,
  .portLinkChange 0 true true, .pdelayInterval 0 0, .pdelayRespRx 0 0, .announceRx 0 ⟨0, 0, 0, 0, 0, 0⟩, .fabricResponse 0, .bridgeEgressTx 0,
  .rangeWriteAbsorb 0 [], .registerReadError 0 0 0]

theorem test_wellFormed3 : wellFormed3.all (fun i => i.wf) = true := by decide +kernel

/-- The same commands, one operand outside its range. -/
def illFormed1 : List Instr := [
  .snapshot (2 ^ 8) 0 true, .snapshot 0 (2 ^ 8) true, .strapReadTimer (2 ^ 8) 0, .strapReadTimer 0 (2 ^ 8), .snapshotHandover 3, .taskDispatch 3 {},
  .taskDelivery 3 {}, .appTrap 3 0 0 0 0, .appTrap 0 8 0 0 0, .instructionRetire 3 0 true {}, .instructionRetire 0 2 true {},
  .instructionRetire 0 0 true { entry := 2 ^ 72 }, .instructionRetire 0 0 true { pc := 2 ^ 32 }, .instructionRetire 0 0 true { wb := 2 ^ 32 },
  .instructionRetire 0 0 true { addr := 2 ^ 32 }, .instructionRetire 0 0 true { data := 2 ^ 32 },
  .instructionRetire 0 0 true { corrected := some (2 ^ 32) }, .windowCycleLimit 3 0, .windowCycleLimit 0 2, .windowCompare 3 0 true,
  .windowCompare 0 2 true, .storeCommit 3 0 none, .storeCommit 0 2 none, .storeCommit 0 0 (some ⟨256, false⟩), .sramDed 3 0 0 true true,
  .sramDed 0 2 0 true true, .sramDed 0 0 (2 ^ 32) true true, .eccWriteback 3 0, .eccWriteback 0 (2 ^ 32), .channelInterrupt 3 0,
  .channelInterrupt 0 2, .rollbackDone 3 0 0 true, .rollbackDone 0 2 0 true, .rbTimeout 3 0, .rbTimeout 0 2, .channelLostTimeout 3,
  .channelSelftestDone 3 true true [], .cfPortImg 3 0 0, .cfPortImg 0 128 0, .cfPortImg 0 0 (2 ^ 32), .cfPortMsg 3 0, .cfPortMsg 0 (2 ^ 32),
  .cfPortDeliver 3 0 none, .cfPortDeliver 0 (2 ^ 32) none, .channelImage 3 0 0, .channelImage 0 (2 ^ 4096) 0, .channelImage 0 0 (2 ^ 64),
  .pfailTrigger true 256, .weirPor (2 ^ 8) 0, .weirPor 0 (2 ^ 8), .flitReceive true 4 0 0 {}, .flitReceive true 0 (2 ^ 8) 0 {},
  .flitReceive true 0 0 32 {}, .flitReceive true 0 0 0 { tag := 2 ^ 16 }, .flitReceive true 0 0 0 { payload := 2 ^ 256 },
  .flitReceive true 0 0 0 { crc := 2 ^ 32 }, .flitNak true 4 0, .flitNak true 0 (2 ^ 8), .flitAck true 4 0, .flitAck true 0 (2 ^ 8)]

theorem test_illFormed1 : illFormed1.all (fun i => !i.wf) = true := by decide +kernel

/-- The same commands, one operand outside its range. -/
def illFormed2 : List Instr := [
  .wrStoffHiWrite 10 0, .wrStoffHiWrite 0 (2 ^ 32), .wrTimeLoRead 10, .latticeLatch 3 0, .latticeLatch 0 (2 ^ 17), .sweepEval 3 0,
  .sweepEval 0 (2 ^ 17), .copyDone 3 0, .copyDone 0 (2 ^ 17), .verifyDone 3 0, .verifyDone 0 (2 ^ 18),
  .standbyWrite 10 0x50400000 (List.replicate 4 0), .standbyWrite 0 0x503fffff (List.replicate 4 0), .standbyWrite 0 0x50800000 (List.replicate 4 0),
  .standbyWrite 0 0x50400000 (List.replicate 5 0), .applyTime 32, .olcBegin true (2 ^ 32) 0, .olcBegin true 0 (2 ^ 64),
  .olcLoad true (2 ^ 32) 0 0 0 [], .olcLoad true 0 (2 ^ 64) 0 0 [], .olcLoad true 0 0 3 0 [], .olcLoad true 0 0 0 (2 ^ 32) [],
  .olcLoad true 0 0 0 0 (List.replicate 41 0), .olcPrepare true (2 ^ 32) 0 0 0 0 0 0, .olcPrepare true 0 (2 ^ 64) 0 0 0 0 0,
  .olcPrepare true 0 0 (2 ^ 64) 0 0 0 0, .olcPrepare true 0 0 0 (2 ^ 64) 0 0 0, .olcPrepare true 0 0 0 0 (2 ^ 64) 0 0,
  .olcPrepare true 0 0 0 0 0 (2 ^ 32) 0, .olcPrepare true 0 0 0 0 0 0 (2 ^ 32), .olcSwap true (2 ^ 32) 0 0 0, .olcSwap true 0 (2 ^ 64) 0 0,
  .olcSwap true 0 0 (2 ^ 64) 0, .olcSwap true 0 0 0 (2 ^ 32), .olcAbort true (2 ^ 32) 0, .olcAbort true 0 (2 ^ 64),
  .forceSet true (2 ^ 32) 0 0 0 0 0 0 0 0, .forceSet true 0 (2 ^ 64) 0 0 0 0 0 0 0, .forceSet true 0 0 (2 ^ 32) 0 0 0 0 0 0,
  .forceSet true 0 0 0 (2 ^ 32) 0 0 0 0 0, .forceSet true 0 0 0 0 (2 ^ 32) 0 0 0 0, .forceSet true 0 0 0 0 0 (2 ^ 16) 0 0 0,
  .forceSet true 0 0 0 0 0 0 256 0 0, .forceSet true 0 0 0 0 0 0 0 256 0, .forceSet true 0 0 0 0 0 0 0 0 (2 ^ 64), .forceClear true (2 ^ 32) 0 0,
  .forceClear true 0 (2 ^ 64) 0, .forceClear true 0 0 (2 ^ 32), .forceClearAll true (2 ^ 32) 0, .forceClearAll true 0 (2 ^ 64),
  .errInject true (2 ^ 32) 0 0 0, .errInject true 0 (2 ^ 64) 0 0, .errInject true 0 0 (2 ^ 31) 0, .errInject true 0 0 0 (2 ^ 32),
  .sinReset true (2 ^ 32) 0 0, .sinReset true 0 (2 ^ 64) 0, .sinReset true 0 0 (2 ^ 64), .soutReset true (2 ^ 32) 0 0, .soutReset true 0 (2 ^ 64) 0,
  .soutReset true 0 0 (2 ^ 16)]

theorem test_illFormed2 : illFormed2.all (fun i => !i.wf) = true := by decide +kernel

/-- The same commands, one operand outside its range. -/
def illFormed3 : List Instr := [
  .percFuseCmd true (2 ^ 32) 0 0 0 0, .percFuseCmd true 0 (2 ^ 64) 0 0 0, .percFuseCmd true 0 0 3 0 0, .percFuseCmd true 0 0 0 32 0,
  .percFuseCmd true 0 0 0 0 6, .cfgConfirm true (2 ^ 32) 0, .cfgConfirm true 0 (2 ^ 64), .keyLoad true (2 ^ 32) 0 0 0 (List.replicate 16 0) 0,
  .keyLoad true 0 (2 ^ 64) 0 0 (List.replicate 16 0) 0, .keyLoad true 0 0 512 0 (List.replicate 16 0) 0,
  .keyLoad true 0 0 0 2 (List.replicate 16 0) 0, .keyLoad true 0 0 0 0 (List.replicate 5 0) 0, .keyPhase true (2 ^ 32) 0 0 0 0,
  .keyPhase true 0 (2 ^ 64) 0 0 0, .keyPhase true 0 0 512 0 0, .keyPhase true 0 0 0 2 0, .keyPhase true 0 0 0 0 2, .fwActivate true (2 ^ 32) 0 0 0 0,
  .fwActivate true 0 (2 ^ 64) 0 0 0, .fwActivate true 0 0 2 0 0, .fwActivate true 0 0 0 (2 ^ 64) 0, .fwActivate true 0 0 0 0 (2 ^ 64),
  .fwCancel true (2 ^ 32) 0, .fwCancel true 0 (2 ^ 64), .lockoutReset true (2 ^ 32) 0, .lockoutReset true 0 (2 ^ 64),
  .channelReset true (2 ^ 32) 0 0, .channelReset true 0 (2 ^ 64) 0, .channelReset true 0 0 3, .coldRestart true (2 ^ 32) 0,
  .coldRestart true 0 (2 ^ 64), .sinEdge 64 true 0, .sinFilterExpiry 64, .sinDiscTimeout 32, .sinUnlockWrite 10 0 0, .sinUnlockWrite 0 (2 ^ 64) 0,
  .sinUnlockWrite 0 0 (2 ^ 32), .toutDue 8, .toutPulseStart 8, .toutPulseEnd 8, .toutRecoveryEnd 8, .soutSample (2 ^ 32), .soutTestDue 32 true,
  .soutPulseStart 32 true, .soutPulseEnd 32, .soutRecoveryEnd 32, .soutUnlockWrite 10 0 0, .soutUnlockWrite 0 (2 ^ 16) 0,
  .soutUnlockWrite 0 0 (2 ^ 32), .zstFrameTx 12, .zstFrameRx 12 [], .zstRxHdrRead 10, .zstRxDatRead 10, .zstPrecheck 3, .idReqTimer 3 0,
  .idReqTimer 0 512, .joinWaitExpiry 3, .portFrameRx 15 (.eth [] true), .portTxRefused 15 0, .plcaBeaconTimeout 4]

theorem test_illFormed3 : illFormed3.all (fun i => !i.wf) = true := by decide +kernel

/-- The same commands, one operand outside its range. -/
def illFormed4 : List Instr := [
  .plcaBeaconRx 4, .gptpSyncRx 8 0 0 0, .pdelayReqRx 8 0 0, .timeBeaconRx 12 0 [], .busOff 12 0, .busOff 0 512, .busOn 12, .engineFault 6 0,
  .engineFault 0 3, .rs485IdleDiscard 2, .bridgeFrame 14 (.eth [] true), .brTblW3Write 10 0, .brTblW3Write 0 (2 ^ 32), .tableCommit (2 ^ 13),
  .windowWrite 10 0 0x40 [], .windowWrite 0 2 0x40 [], .windowWrite 0 0 0x3f [], .windowWrite 0 0 0x1000 [],
  .windowWrite 0 0 0x40 (List.replicate 33 0), .windowRead 10 0 0x40 0, .windowRead 0 2 0x40 0, .windowRead 0 0 0x3f 0, .windowRead 0 0 0x1000 0,
  .readResponse 14 (.eth [] true), .writeAck 14 (.eth [] true), .responseTimeout 96, .drTimeout 64, .cvuFeedWrite 8 0, .cvuFeedWrite 0 (2 ^ 32),
  .cvuFeedBWrite 8 0, .cvuFeedBWrite 0 256, .cvuValWrite 8 true 0, .cvuValWrite 0 true (2 ^ 32), .cvuPresetWrite 10 0 0, .cvuPresetWrite 0 8 0,
  .cvuPresetWrite 0 0 (2 ^ 32), .fabricRequest 10 0 true, .fabricRequest 0 (2 ^ 34) true, .arbitrationDecision 7 0, .arbitrationDecision 0 16,
  .arbHung 7, .eventRaise 256 0 [], .eventRaise 0 (2 ^ 16) [], .intRaise 7, .intAsmWrite 7 0 0, .intAsmWrite 0 11 0, .intAsmWrite 0 0 (2 ^ 32),
  .lostRecordStage 256, .evrCursorWrite (2 ^ 32), .evrClrHiWrite 10 0, .evrClrHiWrite 0 (2 ^ 32), .percSliceStart 3, .percSliceDone 4 0 (.pass 0),
  .percSliceDone 0 3 (.pass 0), .percSliceDone 0 0 (.fail 0 6 0 0 0), .percSliceDone 0 0 (.fail 0 0 0 (2 ^ 72) 0),
  .percSliceDone 0 0 (.fail 0 0 0 0 (2 ^ 72)), .percFuseGo 10 0 0, .percFuseGo 0 4 0, .percFuseGo 0 0 (2 ^ 32)]

theorem test_illFormed4 : illFormed4.all (fun i => !i.wf) = true := by decide +kernel

/-- The same commands, one operand outside its range. -/
def illFormed5 : List Instr := [
  .fuseDone 4, .pwrReqWrite 10 0, .pwrReqWrite 0 (2 ^ 32), .i2cAddressMatch 128, .fwImageStore true 2 [] true 0,
  .fwImageStore true 0 [] true (2 ^ 64), .idbScan 2 [], .idbScanTimer 2, .dividerWindow 0 4 0, .resetStepTimeout 12, .clkCtlWrite 10 0,
  .clkCtlWrite 0 (2 ^ 32), .bootStepDone 12 true true 0 0, .blkLockWrite 10 0 0, .blkLockWrite 0 (2 ^ 31) 0, .lockExpiry (2 ^ 31),
  .crcScan (2 ^ 31) true, .softReset 10 0, .softReset 0 (2 ^ 31), .softResetDone (2 ^ 31), .irqPendClear 10 0 0, .irqPendClear 0 (2 ^ 31) 0,
  .irqPendClear 0 0 (2 ^ 32), .blkErrinjWrite 10 0 0, .blkErrinjWrite 0 (2 ^ 31) 0, .blkErrinjWrite 0 0 (2 ^ 32), .registerWrite 10 0 0 0,
  .registerWrite 0 (2 ^ 34) 0 0, .registerWrite 0 0 9 0, .registerWrite 0 0 0 (2 ^ 64), .selfGateIdle (2 ^ 31), .selfUngate (2 ^ 31),
  .plicClaim 10 ⟨0, []⟩, .plicClaim 0 ⟨4, []⟩, .plicComplete 10 0 0, .plicComplete 0 4 0, .plicComplete 0 0 (2 ^ 32), .reintLossAgeOut 3,
  .portLinkChange 8 true true, .pdelayInterval 8 0, .pdelayRespRx 8 0, .announceRx 8 ⟨0, 0, 0, 0, 0, 0⟩, .fabricResponse 7, .bridgeEgressTx 14,
  .rangeWriteAbsorb (2 ^ 34) [], .rangeWriteAbsorb 0 (List.replicate 65 0), .registerReadError 10 0 0, .registerReadError 0 (2 ^ 34) 0,
  .registerReadError 0 0 9]

theorem test_illFormed5 : illFormed5.all (fun i => !i.wf) = true := by decide +kernel

/-! ### Helpers -/

/-- The state after reset, and a state with given hardware. -/
def reset : State := State.reset

def u0 : Chip := State.reset.chip

def st (u : Chip) : State := { chip := u }

/-- Whether a command completes with the queue kept and the hardware has a property then. -/
def after (c : Instr) (s : State) (p : Chip → Bool) : Bool :=
  match exec c s with
  | .next t => p t.chip && t.pending == s.pending
  | _ => false

theorem after_of {c : Instr} {s t : State} {p : Chip → Bool} (h : exec c s = .next t) (hp : (p t.chip && t.pending == s.pending) = true) :
    after c s p = true := by
  unfold after; rw [h]; exact hp

/-! ### Machine -/

theorem test_step_front :
    (let s : State := { reset with pending := [.permissionReturn, .copyCaptureStart] }
     (match step s with
      | .next t => t.pending == [.copyCaptureStart]
      | _ => false)) = true := by decide

theorem test_idle_tick :
    (match step (st (u0.put Reg.WR_RATE.RATE 100)) with
      | .next t => t.chip.now == 1 && t.chip.weir.time == 1 && t.chip.weir.acc == 100
      | _ => false) = true := by decide

theorem test_idle_tick_negative :
    (match step (st (u0.put Reg.WR_RATE.RATE (2 ^ 24 - 100))) with
      | .next t => t.chip.now == 1 && t.chip.weir.time == 0 && t.chip.weir.acc == 999999900
      | _ => false) = true := by decide

/-! ### Chapter 02 -/

/-- Pages of Table 2.13: the bridge (data plane), CAN port 2 (R53), Confluence (control plane). -/
def pgData : Nat := 0x42000000

def pgCan2 : Nat := 0x46408000

def pgCtl : Nat := 0x40300000

/-- A DATA page whose lock requester 3 has armed, and opened. -/
def armed : Chip := u0.lockWrite 3 pgData 0x5A17

def opened : Chip := ((u0.put (Reg.BLK_LOCK.OPEN pgData) 1).put (Reg.BLK_LOCK.OWNER pgData) 3).lockTimer pgData (some 100000)

/-- The bridge page runs a soft reset. -/
def resetting : Chip := { u0 with pages := { u0.pages with resetting := [(pgData, 100)] } }

theorem test_lock_arm :
    (u0.attends pgData && !u0.planeBars 3 (pgData + 0x20) && u0.pageReach 3 (pgData + 0x20) && !u0.on (Reg.BLK_LOCK.OPEN pgData) &&
     after (.blkLockWrite 3 pgData 0x5A17) reset (fun t => t.resp == .ok && t.get (Reg.BLK_LOCK.ARMED pgData) == 1 &&
       t.get (Reg.BLK_LOCK.OWNER pgData) == 3 && t.lockDue pgData == some 100000)) = true := by decide

theorem test_lock_open :
    (armed.attends pgData && !armed.on (Reg.BLK_LOCK.OPEN pgData) && armed.on (Reg.BLK_LOCK.ARMED pgData) &&
     after (.blkLockWrite 4 pgData 0xC3E8) (st armed) (fun t => t.get (Reg.BLK_LOCK.OPEN pgData) == 0 && t.get (Reg.BLK_LOCK.ARMED pgData) == 0) &&
     opened.lockRemain pgData == 100) = true := by decide

theorem test_wit_lock_close :
    (opened.attends pgData && !opened.planeBars 3 (pgData + 0x20) && opened.pageReach 3 (pgData + 0x20) && opened.on (Reg.BLK_LOCK.OPEN pgData) && !opened.staged (srcOf pgData) &&
     opened.lockDue pgData == some 100000) = true := by decide

theorem test_lock_expiry :
    (armed.lockDue pgData == some 100000 &&
     after (.lockExpiry pgData) (st armed) (fun t => t.now == 100000 && t.get (Reg.BLK_LOCK.ARMED pgData) == 0 && t.lockDue pgData == none)) = true := by decide

theorem test_write_plane :
    ((pageInfo (pgCtl + 0x40)).isSome && u0.writeBarred 3 (pgCtl + 0x40) && windowOf (pgCtl + 0x40) == none && !u0.staged 22 &&
     after (.registerWrite 3 (pgCtl + 0x40) 4 5) reset (fun t => t.resp == .error && t.get (Reg.BLK_ERR.PLANE pgCtl) == 1 &&
       t.reports 22 0xF2 [pgCtl, 3, pgCtl + 0x40])) = true := by decide

theorem test_write_size :
    (!u0.writeBarred 3 (pgData + 0x14) && u0.pageReach 3 (pgData + 0x14) && !wordAccess (pgData + 0x14) 2 &&
     after (.registerWrite 3 (pgData + 0x14) 2 5) reset (fun t => t.resp == .error && t.get (Reg.BLK_ERR.ACCESS pgData) == 1)) = true := by decide

theorem test_write_mask :
    (u0.attends pgData && !u0.writeBarred 3 (pgData + 0x14) && u0.pageReach 3 (pgData + 0x14) &&
     after (.registerWrite 3 (pgData + 0x14) 4 0xFFFFFFFF) reset (fun t => t.resp == .ok && t.get (Reg.IRQ_MASK.MASK pgData) == 0xFFFFFFFF)) = true := by
  decide

theorem test_write_enable :
    (opened.attends pgData && opened.lockOpen pgData 3 && !opened.writeBarred 3 (pgData + 8) && opened.pageReach 3 (pgData + 8) &&
     after (.registerWrite 3 (pgData + 8) 4 1) (st opened) (fun t => t.resp == .ok && t.get (Reg.BLK_CTRL.ENABLE pgData) == 1) &&
     after (.registerWrite 3 (pgData + 8) 4 1) reset (fun t => t.resp == .error && t.get (Reg.BLK_ERR.LOCK_VIOL pgData) == 1 &&
       t.get (Reg.BLK_CTRL.ENABLE pgData) == 0)) = true := by decide

theorem test_write_unmapped :
    (regionOf 0x20800000 == .none && !u0.staged 27 &&
     after (.registerWrite 3 0x20800000 4 1) reset (fun t => t.resp == .error && t.get Reg.ARB_ERR_ADDR.ADDR == 0x20800000 &&
       t.reports 27 1 [3, 15, 0x20800000])) = true := by decide

/-- R53: the worked example. -/
theorem test_read_id :
    (pageInfo pgCan2 == some ⟨0xF064, 2, 0, 2, 1, pgCan2⟩ && u0.attends pgCan2 && u0.pageReach 3 pgCan2 &&
     after (.registerReadError 3 pgCan2 4) reset (fun t => t.resp == .data 0xF0640201)) = true := by decide

theorem test_read_pend :
    (let u := (u0.irq 0x40A00000 1).put (Reg.IRQ_MASK.MASK 0x40A00000) 3
     u.attends 0x40A00000 && u.pageReach 3 0x40A00018 && after (.registerReadError 3 0x40A00018 4) (st u) (fun t => t.resp == .data 2)) = true := by decide

theorem test_read_in_reset :
    (resetting.inReset (pgData + 0x14) && resetting.pageReach 3 (pgData + 0x14) && windowOf (pgData + 0x14) == none &&
     after (.registerReadError 3 (pgData + 0x14) 4) (st (resetting.put (Reg.IRQ_MASK.MASK pgData) 7)) (fun t => t.resp == .data 0) &&
     !resetting.writeBarred 3 (pgData + 0x14) &&
     after (.registerWrite 3 (pgData + 0x14) 4 1) (st resetting) (fun t => t.resp == .error && t.pages.late == [pgData])) = true := by decide

theorem test_read_reserved :
    (u0.attends 0x40100000 && u0.pageReach 3 0x40100030 && u0.pageReach 3 0x4010003C &&
     after (.registerReadError 3 0x40100030 4) reset (fun t => t.resp == .data 0) &&
     after (.registerReadError 3 0x4010003C 4) reset (fun t => t.resp == .data 0) &&
     after (.registerReadError 3 0x4010003D 4) reset (fun t => t.resp == .error && t.get (Reg.BLK_ERR.ACCESS 0x40100000) == 1)) = true := by decide

theorem test_pend_clear :
    (let u := (u0.irq pgData 1).irq pgData 2
     u.attends pgData && !u.planeBars 3 (pgData + 0x18) && (49, pgData) ∈ orLines &&
     after (.irqPendClear 3 pgData 2) (st u) (fun t => t.get (Reg.IRQ.RAW pgData) == 4)) = true := by decide

theorem test_plic_claim :
    (let u := { u0 with plic := { u0.plic with prio := [(33, 2), (34, 2)], pend := 2 ^ 33 + 2 ^ 34, enable := [2 ^ 33 + 2 ^ 34, 0, 0, 0] } }
     u.plicReady 0 == [33, 34] && u.plicReady 1 == [] &&
     after (.plicClaim 3 ⟨0, []⟩) (st u) (fun t => t.resp == .data 33 && t.plic.pend == 2 ^ 34 && t.plic.busy == 2 ^ 33) &&
     after (.plicClaim 4 ⟨1, []⟩) (st u) (fun t => t.resp == .data 0)) = true := by decide +kernel

theorem test_plic_complete :
    (let u := { u0 with plic := { u0.plic with busy := 2 ^ 33, enable := [2 ^ 33, 0, 0, 0] } }
     u.plic.busy.testBit 33 && (u.plic.enable.getD 0 0).testBit 33 &&
     after (.plicComplete 3 0 33) (st u) (fun t => t.resp == .ok && t.plic.busy == 0)) = true := by decide

theorem test_soft_reset :
    (let u := u0.put (Reg.IRQ_MASK.MASK pgData) 7
     u.attends pgData && !u.planeBars 3 (pgData + 8) &&
     after (.softReset 3 pgData) (st u) (fun t => t.resp == .ok && t.get (Reg.BLK_STAT.RST_BUSY pgData) == 1 && t.inReset pgData &&
       t.get (Reg.IRQ_MASK.MASK pgData) == 0)) = true := by decide +kernel

theorem test_soft_reset_done :
    (let u := { resetting with pages := { resetting.pages with late := [pgData] } }
     u.inReset pgData && page0 pgData == pgData &&
     after (.softResetDone pgData) (st u) (fun t => t.now == 100 && !t.inReset pgData && t.get (Reg.BLK_ERR.ACCESS pgData) == 1)) = true := by decide

theorem test_crc_scan :
    (!u0.on (Reg.BLK_LOCK.OPEN pgData) &&
     after (.crcScan pgData true) (st (u0.put (Reg.BLK_STAT.CRC_OK pgData) 0)) (fun t => t.get (Reg.BLK_STAT.CRC_OK pgData) == 1)) = true := by decide

theorem test_crc_drift :
    ((pageInfo pgCtl).isSome && !u0.on (Reg.BLK_LOCK.OPEN pgCtl) && u0.flt.firstAt == none &&
     after (.crcScan pgCtl false) reset (fun t => t.get (Reg.BLK_ERR.CRC_DRIFT pgCtl) == 1 && t.get (Reg.BLK_STAT.CRC_OK pgCtl) == 0 &&
       t.get Reg.FLT_FIRST.FCODE == 0x4031)) = true := by decide +kernel

theorem test_errinj :
    (let u := { u0.put Reg.WR_STAT.MAINT 1 with svc := { u0.svc with connected := true } }
     u.attends pgData && !u.planeBars 3 pgData && u.maintenance && u.pageReach 3 (pgData + 0x28) && !u0.maintenance && u0.attends pgData && !u0.planeBars 3 pgData &&
     after (.blkErrinjWrite 3 pgData 0x102) (st u) (fun t => t.resp == .ok && t.get (Reg.BLK_ERRINJ.ARM pgData) == 1 && t.get (Reg.BLK_ERRINJ.SEL pgData) == 2) &&
     after (.blkErrinjWrite 3 pgData 0x102) reset (fun t => t.resp == .error && t.get (Reg.BLK_ERR.PLANE pgData) == 1)) = true := by decide

theorem test_self_gate :
    (let u := u0.put (Reg.BLK_PWR.GATE pgData) 2
     u.get (Reg.BLK_STAT.PWR pgData) == 0 &&
     after (.selfGateIdle pgData) (st u) (fun t => t.get (Reg.BLK_STAT.PWR pgData) == 2 && t.now == 1600) &&
     after (.selfGateIdle pgCtl) (st (u0.put (Reg.BLK_PWR.GATE pgCtl) 1)) (fun t => t.get (Reg.BLK_STAT.PWR pgCtl) == 0) &&
     after (.selfUngate pgData) (st (u.put (Reg.BLK_STAT.PWR pgData) 2)) (fun t => t.get (Reg.BLK_STAT.PWR pgData) == 0)) = true := by decide

/-! ### Chapter 03 -/

/-- Words of a core at `pc`. -/
def archAt (pc : Nat) : List Nat := rvPut (List.replicate 64 0) 31 pc

/-- Channel A is ACTIVE; both cores of its logic twin stand at ADDI x1, x0, 7, which RDTIME x1 follows. -/
def act : Chip :=
  let at0 := fun (k : Core) => { k with arch := archAt 0x10000000 }
  let u := (u0.put (Reg.CH_STATE.STATE 0) 3).modTwin 0 0 (fun t => { t with halted := false, lead := at0 t.lead, trail := at0 t.trail })
  let bytes := [(0x10000000, 0x93), (0x10000002, 0x70), (0x10000004, 0xF3), (0x10000005, 0x20), (0x10000006, 0x10), (0x10000007, 0xC0)]
  u.modChan 0 (fun h => { h with sram := bytes })

/-- Changes the logic twin of channel A. -/
def lt (g : Twin → Twin) : Chip := act.modTwin 0 0 g

def w0 : ClosedWin := ⟨1, 0, 256, 10, some 10, []⟩

theorem test_retire_lead :
    (act.coreFetch 0 (act.twin 0 0).lead == (4, .alu 1 7) && !(act.twin 0 0).stands && (act.twin 0 0).logged == none &&
     (act.twin 0 0).closes (act.winLen 0 0) 4 (.alu 1 7) false == (false, false) && (act.percOf 0).running == [] &&
     after (.instructionRetire 0 0 false {}) (st act) (fun t => (t.twin 0 0).lead.count == 1 && rvReg (t.twin 0 0).lead.arch 1 == 7 &&
       rvPc (t.twin 0 0).lead.arch == 0x10000004 && (t.twin 0 0).trail.count == 0)) = true := by decide +kernel

theorem test_retire_closes :
    (let u := lt (fun t => { t with lead := { t.lead with inWin := 255, count := 255 } })
     u.winLen 0 0 == 256 &&
     after (.instructionRetire 0 0 false {}) (st u) (fun t => (t.twin 0 0).closed.map (fun w => (w.first, w.last)) == [(0, 256)] && (t.twin 0 0).lead.win == 1 &&
       (t.twin 0 0).lead.misr == 0xFFFFFFFFFFFFFFFF)) = true := by decide +kernel

theorem test_retire_sample :
    (let u := (lt (fun t => { t with lead := { t.lead with arch := archAt 0x10000004 } })).modWeir (fun w => { w with time := 5 })
     let e := Sampled.make 3 1 0 5
     sampleOf (u.twin 0 0).lead.arch (u.coreFetch 0 (u.twin 0 0).lead).2 == some (.csr 0xC01 0) &&
     after (.instructionRetire 0 0 false {}) (st u) (fun t => (t.twin 0 0).fifo == [e] && (t.twin 0 0).log == [e] && rvReg (t.twin 0 0).lead.arch 1 == 5)) = true := by
  decide +kernel

/-- The trailing core at RDTIME takes what the lead core has sampled; an interrupt comes first. -/
theorem test_retire_trail :
    (let u := lt (fun t => { t with lead := { t.lead with count := 4 } })
     let w := (lt (fun t => { t with lead := { t.lead with count := 4 }, trail := { t.trail with arch := archAt 0x10000004 }, fifo := [Sampled.make 3 1 0 5] }))
     let v := (lt (fun t => { t with lead := { t.lead with count := 4 }, fifo := [Sampled.make 1 17 0 17] }))
     (u.twin 0 0).delayed == none && after (.instructionRetire 0 0 true {}) (st u) (fun t => (t.twin 0 0).trail.count == 1) &&
     (w.twin 0 0).delayed == some (Sampled.make 3 1 0 5) && (Sampled.make 3 1 0 5).good &&
     after (.instructionRetire 0 0 true {}) (st w) (fun t => rvReg (t.twin 0 0).trail.arch 1 == 5 && (t.twin 0 0).fifo == []) &&
     (Sampled.make 1 17 0 17).good && after (.instructionRetire 0 0 true {}) (st v) (fun t => (t.twin 0 0).trail.arch.getD 37 0 == 0x8000000B) &&
     (u0.twin 0 0).stands && u0.chState 0 != 3) = true := by decide +kernel

theorem test_cycle_limit : after (.windowCycleLimit 0 1) (st act) (fun t => (t.twin 0 1).limit) = true := by decide

/-- R92: window 65,536 carries lane 1. -/
theorem test_compare :
    (let u := lt (fun t => { t with closed := [w0] })
     let v := lt (fun t => { t with closed := [{ w0 with no := 65536 }] })
     let d := lt (fun t => { t with closed := [{ w0 with no := 65536, trail := some 8 }] })
     after (.windowCompare 0 0 false) (st u) (fun t => t.get (Reg.CH_WINCNT_LT.COUNT 0) == 1 && (t.twin 0 0).closed == []) &&
     injectLane 65536 == some 1 && after (.windowCompare 0 0 false) (st v) (fun t => t.get (Reg.CH_INJ.LT_LAST_OK 0) == 1 && t.get (Reg.CH_WINCNT_LT.COUNT 0) == 1) &&
     after (.windowCompare 0 0 false) (st d) (fun t => t.get (Reg.CH_LOSS.CAUSE 0) == 3 && t.chState 0 == 4)) = true := by decide +kernel

/-- Table 3.20: lanes 5 and 40. -/
theorem test_mismatch :
    (let u := lt (fun t => { t with closed := [{ w0 with lead := 0, trail := some 0x10000000020 }] })
     let x := u.put (Reg.CH_STATE.MM_CYC 0) 2
     after (.windowCompare 0 0 false) (st u) (fun t => t.get (Reg.MM_DIFF.LANES 0) == 0x10000000020 && t.get (Reg.CH_STATE.MM_CYC 0) == 1 &&
       (t.twin 0 0).rb == some 0 && t.reports 16 1 [0, 1, 0x10000000020, 0]) &&
     after (.windowCompare 0 0 false) (st x) (fun t => t.get (Reg.CH_LOSS.CAUSE 0) == 1 && t.chState 0 == 4 && t.get (Reg.CH_REINT.LOSSES 0) == 1)) = true := by
  decide +kernel

theorem test_sram_ded :
    ((act.twin 0 0).rb == none && act.get (Reg.CH_STATE.MM_CYC 0) == 0 &&
     after (.sramDed 0 0 0x10000004 true false) (st act) (fun t => t.get (Reg.CH_ECC.DED 0) == 1 && t.get (Reg.CH_ECC_ADDR.ADDR 0) == 0x10000004 &&
       (t.twin 0 0).rb == some 0 && t.get (Reg.MM_INFO.DED 0) == 1)) = true := by decide +kernel

theorem test_store :
    (let u := lt (fun t => { t with lead := { t.lead with drain := [SbEntry.make 0 ⟨0x10000005, 0xAABBCCDD, 5⟩] } })
     u.conf.rs.target == none && (SbEntry.make 0 ⟨0x10000005, 0xAABBCCDD, 5⟩).good && after (.storeCommit 0 0 none) (st u) (fun t => (t.twin 0 0).lead.drain == [] &&
       memRead (t.chan 0).sram 0x10000004 == 0xDD && memRead (t.chan 0).sram 0x10000005 == 0x20 && memRead (t.chan 0).sram 0x10000006 == 0xBB)) = true := by decide

theorem test_store_parity :
    (let u := lt (fun t => { t with lead := { t.lead with drain := [SbEntry.make 0 ⟨0x10000004, 1, 15⟩] } })
     after (.storeCommit 0 0 (some ⟨0, false⟩)) (st u) (fun t => (t.chan 0).sram == (act.chan 0).sram && (t.twin 0 0).rb == some 0 && t.get (Reg.MM_INFO.PARITY 0) == 1)) = true := by
  decide +kernel

theorem test_writeback :
    after (.eccWriteback 0 0x10000006) (st (act.modChan 0 (fun h => { h with writeBack := [0x10000004] }))) (fun t => (t.chan 0).writeBack == []) = true := by decide

theorem test_interrupt :
    (let m := lt (fun t => { t with lead := { t.lead with arch := rvPut (rvPut (archAt 0x10000000) 33 0x800) 32 8 } })
     let u := (m.chanIrq 0 20).chanIrq 0 17
     let v := u.modTwin 0 0 (fun t => { t with halted := true, lead := { t.lead with arch := rvPut (archAt 0x10000000) 33 0x800 } })
     u.cicMine 0 0 == [17, 20] && (u.twin 0 0).log == [] &&
     after (.channelInterrupt 0 0) (st u) (fun t => (t.cic.get 0).pend == 2 ^ 20 && (t.cic.get 0).delivered == 2 ^ 17 && (t.twin 0 0).log == [Sampled.make 1 17 0 17]) &&
     after (.channelInterrupt 0 0) (st v) (fun t => !(t.twin 0 0).halted && t.cic == v.cic) && !(rvMie (act.twin 0 0).lead.arch).testBit 11 &&
     act.cicMine 0 0 == []) = true := by decide +kernel

theorem test_rollback_done :
    (let u := (lt (fun t => { t with rb := some 0, lead := { t.lead with committed := { words := [1 + 2 ^ 32] } } })).put (Reg.CH_STATE.RB_LT 0) 1
     after (.rollbackDone 0 0 3100 false) (st u) (fun t => t.get (Reg.CH_RB.LAST_NS 0) == 3100 && t.get (Reg.CH_STATE.RB_LT 0) == 0 &&
       (t.twin 0 0).lead.arch == [1] && (u.twin 0 0).lead.committed.good && (u.twin 0 0).trail.committed.good && (u.twin 0 0).redo == [] && t.now == 310) &&
     after (.rollbackDone 0 0 3100 true) (st u) (fun t => t.get (Reg.CH_LOSS.CAUSE 0) == 5)) = true := by decide +kernel

theorem test_rb_timeout :
    (let u := (lt (fun t => { t with rb := some 0 })).put (Reg.CH_CFG.REINT_MAX 0) 1
     after (.rbTimeout 0 0) (st u) (fun t => t.get (Reg.CH_LOSS.CAUSE 0) == 4 && t.chState 0 == 5 && t.now == 400)) = true := by decide +kernel

theorem test_lost_timeout :
    (let u := (u0.put (Reg.CH_STATE.STATE 2) 4).modChan 2 (fun h => { h with lostAt := some 0 })
     !{ u with boot := { u.boot with reset := none } }.resetDiscards 5 && u.resetDiscards 5 &&
     after (.channelLostTimeout 2) (st u) (fun t => t.chState 2 == 4 && (t.chan 2).lostAt == none) &&
     after (.channelLostTimeout 2) (st { u with boot := { u.boot with reset := none } }) (fun t => t.chState 2 == 1 && t.now == 1000000 && (t.chan 2).afterReset)) = true := by decide +kernel

theorem test_selftest :
    (let u := u0.put (Reg.CH_STATE.STATE 1) 1
     let v := u.modChan 1 (fun h => { h with afterReset := true })
     after (.channelSelftestDone 1 true true []) (st u) (fun t => (t.chan 1).passed && t.chState 1 == 1) &&
     after (.channelSelftestDone 1 true true []) (st v) (fun t => t.chState 1 == 2 && t.get (Reg.CH_INJ.BOOT_OK 1) == 1) &&
     after (.channelSelftestDone 1 false true []) (st v) (fun t => t.chState 1 == 5 && t.get (Reg.CH_LOSS.CAUSE 1) == 2)) = true := by decide +kernel

theorem test_age_out :
    after (.reintLossAgeOut 0) (st (u0.modChan 0 (fun h => { h with losses := [5, 10] }))) (fun t => t.get (Reg.CH_REINT.LOSSES 0) == 1 &&
      t.weir.time == 8640000000005) = true := by decide

/-! ### Chapter 04 -/

/-- 2oo3 with all channels ACTIVE. -/
def v3 : Chip := [0, 1, 2].foldl (fun u c => u.put (Reg.CH_STATE.STATE c) 3) ((u0.put Reg.CF_MODE.MODE 3).put Reg.CF_MODE.MASK 7)

/-- Results wait in the ports of A and B, and the window is open. -/
def v3ab (a b : Result) : Chip :=
  ((v3.modPort 0 (fun p => { p with queue := [a] })).modPort 1 (fun p => { p with queue := [b] })).modConf (fun v => { v with window := some 0 })

theorem test_port_img :
    (u0.attends 0x40301000 && after (.cfPortImg 0 127 0xFFFFFFFF) (st u0) (fun t => (t.port 0).fill.img == 0xFFFFFFFF * 2 ^ 4064) &&
     after (.cfPortImg 0 2 1) (st (u0.put Reg.CF_CFG.IMG_WORDS 2)) (fun t => (t.port 0).fill.img == 0) &&
     after (.cfPortImg 0 1 1) (st (u0.put Reg.CF_CFG.IMG_WORDS 2)) (fun t => (t.port 0).fill.img == 2 ^ 32)) = true := by decide +kernel

theorem test_port_msg :
    (after (.cfPortMsg 1 5) reset (fun t => (t.port 1).fill.msgs == [5] && !(t.port 1).fill.ovf)) = true := by decide

/-- Behind a stalled delivery a store waits. -/
theorem test_port_waits :
    (let u := v3.modPort 0 (fun p => { p with queue := [{}, {}], wait := [.deliver 1 none] })
     u.voting 0 && (u.port 1).wait == [] && (u.port 2).wait == [] &&
     after (.cfPortImg 0 1 2) (st u) (fun t => (t.port 0).wait == [.deliver 1 none, .img 1 2]) &&
     after (.cfPortMsg 0 2) (st u) (fun t => (t.port 0).wait == [.deliver 1 none, .msg 2])) = true := by decide

theorem test_port_deliver :
    (!v3.overdue && v3.voting 1 && (v3.port 1).queue == [] && v3.attends 0x40301000 &&
     after (.cfPortDeliver 0 0x102 none) (st v3) (fun t => (t.port 0).queue.map (fun r => r.hdr) == [0x102] && t.conf.window == some 0) &&
     after (.cfPortDeliver 0 0x102 none) (st u0) (fun t => (t.port 0).queue == [] && t.conf.window == none) &&
     after (.cfPortDeliver 0 0x102 none) (st (v3.modPort 0 (fun p => { p with fill := { p.fill with ovf := true } }))) (fun t =>
       (t.port 0).queue == [] && t.get (Reg.CF_PSTAT.OVF 0) == 1) &&
     after (.cfPortDeliver 0 0x102 none) (st (v3.modPort 0 (fun p => { p with queue := [{}, {}] }))) (fun t => t.port 0 == { v3.port 0 with queue := [{}, {}], wait := [.deliver 0x102 none] })) = true := by
  decide

/-- Table 4.14: C alone differs. -/
theorem test_vote3 :
    (let a : Result := { hdr := 0x102, img := 6 }
     let c : Result := { hdr := 0x102, img := 7 }
     (vote3 a a c).res.img == 6 && (vote3 a a c).minority == 4 && (vote3 a a c).majority && (vote3 a a c).item == (1, 0) &&
     (vote3 a c { hdr := 0x202, img := 6 }).minority == 6) = true := by decide +kernel

theorem test_expiry :
    (let a : Result := { hdr := 0x102, img := 1 }
     let u := v3ab a a
     u.chState 2 == 3 && u.flt.firstAt == none && u.get Reg.CF_CNT.EXPIRED == 0 && (u.port 2).queue == [] &&
     after .voteExpiry (st u) (fun t => t.get Reg.CF_MODE.MODE == 2 && t.get Reg.CF_MODE.MASK == 3 && t.get (Reg.CH_LOSS.CAUSE 2) == 8 && t.link.sets == [3] &&
       t.weir.time == 2000 && t.get Reg.CF_CNT.EXPIRED == 1)) = true := by decide +kernel

theorem test_wit_expiry_fails :
    (let u := v3ab { hdr := 0x102, img := 1 } { hdr := 0x102, img := 2 }
     let w := (v3.modPort 0 (fun p => { p with queue := [{}] })).modConf (fun v => { v with window := some 0 })
     ((u.port 0).queue.headD {}).differs ((u.port 1).queue.headD {}) && w.present.length == 1 && w.conf.window == some 0 && w.flt.firstAt == none) = true := by decide +kernel

theorem test_release :
    (let r : CfRelease := ⟨{ hdr := 0x102, img := 5 }, 0, 0, false⟩
     let u := v3.modConf (fun v => { v with releases := [r] })
     u.conf.recon == none &&
     after .voteRelease (st u) (fun t => t.conf.voted == 5 && t.weir.time == 10 && t.get Reg.MIR_STAT.CUR == 1 && t.get Reg.MIR_CYCLE.COUNT == 1 &&
       memRead t.conf.mirror 0x31020040 == 5 && t.get Reg.CF_HOLD.LAST_NS == 100 && t.link.voted == [5])) = true := by decide +kernel

theorem test_set_ack :
    (let r : CfRelease := ⟨{ hdr := 0x102, img := 5 }, 0, 0, true⟩
     let u := { v3.modConf (fun v => { v with releases := [r], recon := some ⟨0, 3, true⟩ }) with link := { u0.link with acks := [3] } }
     after .votingSetAck (st u) (fun t => t.conf.recon == none && t.conf.voted == 5 && t.link.voted == [])) = true := by decide +kernel

theorem test_set_ack_joins :
    (let u := { (v3.put Reg.CF_MODE.RS_PHASE 2).modConf (fun v => { v with rs := { v.rs with sent := true } }) with link := { u0.link with acks := [7] } }
     after .votingSetAck (st u) (fun t => t.conf.rs.acked) &&
     (v3.modConf (fun v => { v with recon := some ⟨0, 3, true⟩ })).flt.firstAt == none) = true := by decide

theorem test_bulk_start :
    (let u := ((v3.put Reg.CF_MODE.MODE 2).put Reg.CF_MODE.MASK 3).put (Reg.CH_STATE.STATE 2) 2
     u.syncChannel == 2 && u.conf.rs.target == none && !u.conf.rs.void &&
     after .resyncBulkStart (st u) (fun t => t.conf.rs.target == some 2 && t.get Reg.CF_MODE.RS_PHASE == 1)) = true := by decide

/-- 2oo2 of A and B; C receives. -/
def rs2 (rs : Resync) : Chip :=
  (((v3.put Reg.CF_MODE.MODE 2).put Reg.CF_MODE.MASK 3).modConf (fun v => { v with rs := rs })).modChan 0 (fun h => { h with sram := [(0x10000000, 1)] })

theorem test_bulk_done :
    (let u := (rs2 { target := some 2 }).put Reg.CF_MODE.RS_PHASE 1
     u.conf.rs.pos == 0 &&
     after .resyncBulkDone (st u) (fun t => (t.chan 2).sram == [(0x10000000, 1)] && t.weir.time == 185140 && t.conf.rs.copied && t.conf.rs.dirty == [0])) = true := by
  decide +kernel

theorem test_final_start :
    (let u := rs2 { target := some 2, copied := true }
     let d := rs2 { target := some 2, copied := true, dirty := [0] }
     u.get Reg.CF_MODE.RS_PHASE == 0 && after .resyncFinalStart (st u) (fun t => t.link.sets == [7] && t.get Reg.CF_MODE.RS_PHASE == 2) &&
     diffBlocks (d.chan d.rsSources.1).sram (d.chan d.rsSources.2).sram 0x10000000 0x10000100 == [0] && d.flt.firstAt == none) = true := by decide +kernel

/-! ### Chapter 05 -/

/-- Weir out of the boot hold: no safe state, ready. -/
def wRun : Chip := ((u0.modWeir (fun w => { w with hold := false })).put Reg.WR_STAT.SAFE 0).put Reg.WR_STAT.READY 1

/-- The same, with three ACTIVE channels in the voting set, 2oo3 and enable 3 set. -/
def wSet : Chip := [0, 1, 2].foldl (fun u c => u.put (Reg.CH_STATE.STATE c) 3)
  ((((wRun.put Reg.WR_STAT.SET 7).put Reg.CF_MODE.MODE 3).put Reg.CF_MODE.MASK 7).enable 3 true)

theorem test_safe_causes :
    (wSet.unlatched &&
     after .dualRailFault (st wSet) (fun t => t.safeWith 2 && t.conf.voted == 0) &&
     after .wdnMissingEdge (st wSet) (fun t => t.safeWith 4) &&
     after .timeParity (st wSet) (fun t => t.safeWith 13) &&
     after (.weirSelftestDone false) (st u0) (fun t => t.safeWith 11) &&
     after (.checkerRotateTimer false) (st wSet) (fun t => t.safeWith 2 && t.weir.checker == 1)) = true := by decide +kernel

theorem test_link_silence :
    (after (.linkSilence true) (st ((({ wSet with link := { wSet.link with sets := [1] } }) : Chip).put Reg.WR_STAT.LINK_UP 1)) (fun t => t.safeWith 8 && t.get Reg.WR_LINK.FAIL == 2 && t.link.sets == []) &&
     after (.linkSilence false) (st (wSet.put Reg.WR_STAT.LINK_UP 1)) (fun t => t.get Reg.CF_MODE.MODE == 0 && t.link.safeReq)) = true := by decide +kernel

theorem test_safe_request :
    (after .safeRequestFlit (st { wSet with link := { wSet.link with safeReq := true } }) (fun t => t.safeWith 9 && !t.link.safeReq) &&
     after .checkOpenTimeout (st (wSet.modWeir (fun w => { w with openCheck := some ⟨0, 1, 5⟩ }))) (fun t => t.safeWith 1 && t.weir.time == 1135)) = true := by
  decide +kernel

theorem test_rate_gate :
    (let u := wSet.put Reg.CLK_STAT.ROOT_LOCK 1
     after (.rateGateEnd 999799 100000) (st u) (fun t => t.safeWith 3) && after (.rateGateEnd 999930 89999) (st u) (fun t => t.safeWith 4) &&
     after (.rateGateEnd 999930 110000) (st u) (fun t => !t.safe && t.get Reg.WR_RCHK.PER_DEV == 65536 - 70 && t.get Reg.WR_RCHK.WRC_DEV == 10000 &&
       t.now == 1000000 && t.weir.gateEnd == 2000000)) = true := by decide +kernel

theorem test_first_cause :
    (let u := (wSet.put Reg.WR_STAT.SAFE 1).put Reg.WR_STAT.CAUSE 6
     !u.unlatched && after .dualRailFault (st u) (fun t => t.get Reg.WR_STAT.CAUSE == 2) &&
     after .dualRailFault (st (u.advance 1)) (fun t => t.get Reg.WR_STAT.CAUSE == 6)) = true := by decide +kernel

/-- One image of each channel has arrived and a voted one is on its way. -/
def wVote (v a b c : Nat) : Chip :=
  { wSet.modWeir (fun w => { w with images := ⟨[a], [b], [c]⟩ }) with link := { wSet.link with voted := [v] } }

theorem test_channel_image_drives : ¬ (2 < 1 ∨ (st wSet).chip.chState 1 ≠ 3 ∨ (st wSet).chip.inSet 1 = false) := by decide +kernel

theorem other_number (n : Nat) : n + 1 ≠ n := by omega

theorem test_channel_image_taken :
    after (.channelImage 1 5 (imageCrc 5)) (st wSet) (fun t => t.weir.images.get 1 == [5] && t.weir.arrivals.get 1 == [0]) = true :=
  after_of (execChannelImage_taken 1 5 (st wSet) test_channel_image_drives) (by decide +kernel)

theorem test_channel_image_bad :
    after (.channelImage 1 5 (imageCrc 5 + 1)) (st wSet) (fun t => t.weir.images.get 1 == [] && t.weir.badImage.get 1) = true :=
  after_of (execChannelImage_bad 1 5 _ (st wSet) test_channel_image_drives (other_number _)) (by decide +kernel)

theorem test_channel_image_outside : after (.channelImage 1 5 0) reset (fun t => t == u0) = true := by decide +kernel

theorem test_vote_pass :
    (after .votedImage (st (wVote 5 5 5 5)) (fun t => t.get Reg.WR_VC.PASS == 1 && t.get Reg.WR_VCCNT.PASSED == 1 && t.weir.images == ⟨[], [], []⟩ && t.lat.passed == [5] &&
       t.lat.port == [5])) = true := by decide +kernel

theorem test_vote_open :
    (after .votedImage (st (wVote 5 5 4 5)) (fun t => t.get Reg.WR_VC.PASS == 0 && t.get Reg.WR_VC.OPEN == 1 && t.get Reg.WR_VC.DIFF == 2 &&
       t.weir.openCheck == some ⟨5, 2, 0⟩ && t.get Reg.WR_EN.EN == 8 && t.regRead 0x50000040 / 2 % 2 == 1) &&
     after .votedImage (st (wVote 5 4 4 5)) (fun t => t.safeWith 1 && t.get Reg.WR_VC.DIFF == 3)) = true := by decide +kernel

theorem test_voting_set :
    (let u := { wSet.modWeir (fun w => { w with openCheck := some ⟨5, 2, 0⟩, images := ⟨[1], [2], [3]⟩ }) with link := { wSet.link with sets := [5] } }
     after .votingSetFlit (st u) (fun t => t.get Reg.WR_STAT.SET == 5 && t.weir.openCheck == none && t.get Reg.WR_VC.PASS == 1 && t.link.acks == [5] &&
       t.weir.images == ⟨[1], [], [3]⟩) &&
     after .votingSetFlit (st (u.advance 1131)) (fun t => t.weir.openCheck == some ⟨5, 2, 0⟩ && t.get Reg.WR_STAT.SET == 5)) = true := by decide +kernel

/-- 05 R154: 150,000 ppb is clamped. -/
theorem test_steer :
    (let u := (wSet.put Reg.WR_CFG.STEER_EN 1).put Reg.WR_CFG.STEER_WORD 1
     (u.steer ((2 ^ 31 + 150000) * 2 ^ 32)).get Reg.WR_RATE.RATE == 100000 && (u.steer ((2 ^ 31 + 150000) * 2 ^ 32)).get Reg.WR_RATE.CLAMP == 1 &&
     (u.steer ((2 ^ 31 + 2 ^ 24 - 80000) * 2 ^ 32)).get Reg.WR_RATE.RATE == 2 ^ 24 - 80000 && (u.steer (150000 * 2 ^ 32)).get Reg.WR_RATE.RATE == 0) = true := by
  decide +kernel

theorem test_time_lo :
    (let u := wSet.advance (3 * 2 ^ 32 + 9)
     u.attends 0x50002000 && after (.wrTimeLoRead 3) (st u) (fun t => t.resp == .data 9 && assoc t.weir.hiLatch 3 0 == 3)) = true := by decide +kernel

theorem test_stoff :
    (let u := wSet.modWeir (fun w => { w with stoffLo := some 7 })
     after (.wrStoffHiWrite 7 1) (st u) (fun t => t.get Reg.WR_STOFF.STOFF == 2 ^ 32 + 7 && t.get Reg.WR_STAT.STOFF_SET == 1 && t.alignedTime == 2 ^ 32 + 7) &&
     after (.wrStoffHiWrite 3 1) (st u) (fun t => t.get Reg.WR_STOFF.STOFF == 0 && t.get Reg.WR_STAT.STOFF_SET == 0) &&
     after (.wrStoffHiWrite 7 1) (st (u.put Reg.WR_STAT.STOFF_SET 1)) (fun t => t.get Reg.WR_STOFF.STOFF == 0)) = true := by decide +kernel

theorem test_straps :
    (after (.strapReadTimer 0x10 0x10) (st wSet) (fun t => !t.safe && t.get Reg.WR_SEAL.CURRENT == 0x10 && t.get Reg.WR_STAT.MAINT == 0 && t.get Reg.WR_EN.EN == 8) &&
     after (.strapReadTimer 0x80 0x80) (st wSet) (fun t => t.safeWith 5) && after (.strapReadTimer 4 0) (st wSet) (fun t => t.safeWith 5 && t.get Reg.WR_SEAL.OPEN == 4) &&
     after (.checkerRotateTimer true) (st wSet) (fun t => t.now == 1000000)) = true := by decide +kernel

theorem test_snapshot :
    (let u := ((wSet.advance 3).put (Reg.WR_TDL.PERIOD 2) 8).put (Reg.WR_TDL.DL 2) 900
     u.snapsRun && u.weir.lastSnap == none &&
     after (.snapshot 0x10 0x10 true) (st u) (fun t => t.get Reg.WR_SNAPCNT.COUNT == 0 && t.weir.time == 100000 && t.get Reg.WR_SNAP.SNAP == 100000 && t.get Reg.WR_STAT.MAINT == 1 &&
       t.weir.deadlines == [⟨2, 100000, 190000, false⟩] && (t.cic.get 0).pend.testBit 0) &&
     after (.snapshot 0 0 true) (st (u.put Reg.WR_SNAPCNT.COUNT 0)) (fun t => t.weir.deadlines == [])) = true := by decide +kernel

/-- Channel C is one delivery behind. -/
def wLate : Chip := wSet.modWeir (fun w => { w with deadlines := [⟨0, 0, 50, false⟩], delivered := ⟨1, 1, 0⟩ })

theorem test_deadline :
    (after .deadlineCheck (st wLate) (fun t => t.weir.time == 50 && t.get Reg.WR_STAT.SET == 3 && t.get (Reg.CH_LOSS.CAUSE 2) == 6 && t.chState 2 != 3 &&
       t.get Reg.WR_WD_STAT.MISSES == 1 && t.get Reg.WR_WD_STAT.LAST_CH == 2 && !t.safe) &&
     after .deadlineCheck (st (wLate.put Reg.WR_STAT.SET 6)) (fun t => t.safeWith 10 && t.get Reg.WR_STAT.SET == 2) &&
     after .deadlineCheck (st (wLate.put Reg.WR_STAT.SET 3)) (fun t => !t.safe && t.get Reg.WR_STAT.SET == 3)) = true := by decide +kernel

theorem test_deadline_warn :
    (let u := (wLate.modWeir (fun w => { w with deadlines := [⟨0, 0, 5000, false⟩] })).put Reg.WR_WD_CFG.WARN 20
     after .deadlineWarn (st u) (fun t => t.weir.time == 3000 && (t.cic.get 2).pend == 2 && (t.cic.get 0).pend == 0)) = true := by decide +kernel

theorem test_pfail :
    (wSet.weir.pfArmed && after (.pfailTrigger true 0) (st wSet) (fun t => t.safeWith 6 && t.get Reg.WR_STAT.PFAIL == 1 && t.weir.pfailAt == some 0 && t.link.resetDown == [0]) &&
     after (.pfailTrigger false 4) (st wSet) (fun t => t.safeWith 7 && t.get Reg.WR_SUP.UVOV == 4) &&
     after .triggerConditionClear (st (wSet.put Reg.WR_SUP.UVOV 4)) (fun t => t.get Reg.WR_SUP.UVOV == 0)) = true := by decide +kernel

theorem test_pfail_release :
    (let u := wSet.modWeir (fun w => { w with pfailAt := some 100, violation := 2000000 })
     after (.pfailTrigger true 0) (st u) (fun t => t.weir.violation == 0 && t.link == u.link) &&
     after .pfailRelease (st u) (fun t => t.now == 7000000 && t.link.resetDown == [0x0101] && t.weir.pfailAt == none && t.weir.hold && t.get Reg.WR_STAT.CAUSE == 0 &&
       t.safe && t.enablesOff && t.noPermission && t.get Reg.WR_STAT.LOCKOUT == 1) &&
     after .pfailRelease (st (u.put Reg.WR_SUP.PFAIL_LOW 1)) (fun t => t.now == 0)) = true := by decide +kernel

theorem test_weir_por :
    (let u := ((wSet.advance 5).put Reg.WR_STOFF.STOFF (2 ^ 40)).put Reg.WR_STAT.STOFF_SET 1
     after (.weirPor 0x25 0x25) (st u) (fun t => t.weir.time == 0 && t.get Reg.WR_STOFF.STOFF == 0 && t.get Reg.WR_STAT.STOFF_SET == 0 && t.get Reg.WR_SEAL.LATCHED == 0x25 &&
       t.safe && t.enablesOff && t.get Reg.WR_SNAPCNT.COUNT == 0xFFFFFFFF && t.weir.hold && t.get Reg.WR_STAT.CAUSE == 0 && t.now == 5) &&
     after (.weirPor 0x25 0x24) (st u) (fun t => t.get Reg.WR_STAT.CAUSE == 5 && !t.weir.hold && t.get Reg.WR_SEAL.OPEN == 1) &&
     after (.weirPor 0x10 0) (st u) (fun t => t.get Reg.WR_STAT.CAUSE == 0 && t.get Reg.WR_SEAL.LATCHED == 0)) = true := by decide +kernel

theorem test_weir_selftest :
    (after (.weirSelftestDone true) reset (fun t => t.get Reg.WR_STAT.READY == 1 && t.link.resetDown == []) &&
     after (.weirSelftestDone true) (st (wSet.modWeir (fun w => { w with supplyDue := true }))) (fun t => t.link.resetDown == [0x0101] && t.get Reg.WR_STAT.READY == 0)) = true := by
  decide +kernel

/-- Lane 1 of the upward direction holds two sent flits and one waiting. -/
def wLane : Chip := wSet.modLane true 1 (fun l => { l with queue := [⟨1, 0, 7⟩], replay := [⟨5, 0, 1⟩, ⟨2, 0, 9⟩], base := 1023, expect := 1023, unacked := 7 })

theorem test_flit_receive :
    (after (.flitReceive true 1 1023 5 ⟨0, 3, flitCrc 1 1023 ⟨5, 0, 3⟩⟩) (st wLane) (fun t => ((t.lanes true).getD 1 {}).expect == 0 &&
       ((t.lanes false).getD 3 {}).queue == [⟨9, 0, 1024⟩] && t.get Reg.WR_STAT.LINK_UP == 1) &&
     after (.flitReceive true 1 1023 5 ⟨0, 4, flitCrc 1 1023 ⟨5, 0, 3⟩⟩) (st wLane) (fun t => ((t.lanes true).getD 1 {}).expect == 1023 && ((t.lanes false).getD 3 {}).queue == [⟨10, 0, 2047⟩] &&
       t.get Reg.WR_LINK.CRCERR == 1)) = true := by decide +kernel

theorem test_flit_nak :
    (after (.flitNak true 1 1024) (st wLane) (fun t => ((t.lanes true).getD 1 {}).resend == 1 && ((t.lanes true).getD 1 {}).naks == 1 && t.get Reg.WR_LINK.RETRY == 0) &&
     after (.flitNak true 1 0) (st (wLane.modLane true 1 (fun l => { l with naks := 3 }))) (fun t => t.safeWith 8 && t.get Reg.WR_LINK.FAIL == 1)) = true := by decide +kernel

theorem test_flit_ack_send :
    (after (.flitAck true 1 1024) (st wLane) (fun t => ((t.lanes true).getD 1 {}).replay == [⟨2, 0, 9⟩] && ((t.lanes true).getD 1 {}).base == 0) &&
     after (.flitSend true) (st wLane) (fun t => ((t.lanes true).getD 1 {}).replay == [⟨5, 0, 1⟩, ⟨2, 0, 9⟩, ⟨1, 0, 7⟩] && ((t.lanes true).getD 1 {}).queue == [])) = true := by decide +kernel

theorem test_rail_fault :
    (let u := wSet.modWeir (fun w => { w with en := ⟨3, 1⟩ })
     u.railFault && u.unlatched && u.snapsRun && after (.snapshot 0 0 true) (st u) (fun t => t.safeWith 2) &&
     !({ wSet with lat := { wSet.lat with perm := ⟨5, 4⟩ } } : Chip).noPermission && wSet.weir.en.word == 8) = true := by decide +kernel

/-! ### Chapter 06 -/

/-- Route 5 needs route 7 unlocked, point 1 reverse, section 3 clear and edge 2 ready, and clears signal 9. -/
def geo : Bank := [(200, 2 ^ 7), (208, 8), (216, 8), (232, 4), (81920, (2 ^ 15 + 9) * 2 ^ 80), (82048, 2 ^ 31 + 9), (82112, 2 ^ 5), (82120, 2 ^ 9)]

theorem test_grant_rule :
    (routeFails geo 0 ⟨8, 8, 4⟩ 5 == none && routeFails geo 128 ⟨8, 8, 4⟩ 5 == some (1, 7) && routeFails geo 0 ⟨4, 8, 4⟩ 5 == some (2, 1) &&
     routeFails geo 0 ⟨8, 0, 4⟩ 5 == some (3, 3) && routeFails geo 0 ⟨8, 8, 0⟩ 5 == some (4, 2) && routeFails geo 0 ⟨8, 8, 4⟩ 6 == some (5, 6) &&
     spermOf geo (2 ^ 5) == 2 ^ 9 && spermOf geo (2 ^ 6) == 0) = true := by decide +kernel

/-- The lattice with this geometry, one request word, and the field state that it needs. -/
def wLat : Chip := { (wSet.put Reg.LAT_CFG.REQ_CNT 1).put Reg.LAT_STAT.SWEEP 1 with lat := { u0.lat with bank0 := geo, pdet := 8, sclr := 8, eready := 4 } }

/-- A voted image with a SET for route 5 in word 0 has arrived. -/
def wReq : Chip := { wLat with lat := { wLat.lat with port := [0xA0000005] } }

theorem test_latch :
    (after (.latticeLatch 0 0) (st wReq) (fun t => t.lat.pend == some ⟨8, 8, 4, [⟨true, 5, true, 0, 0, 34⟩]⟩ && t.lat.perm.word == 0 && t.lat.port == [] &&
       t.get Reg.LAT_STAT.PASS_REQ == 1) &&
     after (.latticeLatch 0 0) (st (wReq.put Reg.LAT_STAT.PASS_REQ 12)) (fun t => t.lat.pend.any (fun p => p.reqs.map (fun k => (k.grant, k.reason)) == [(false, 6)]) &&
       t.get Reg.LAT_ERRCNT.RATE == 1)) = true := by decide +kernel

theorem test_commit :
    (let q : LatPend := ⟨8, 8, 4, [⟨true, 5, true, 0, 0, 0⟩]⟩
     let u := { wLat with lat := { wLat.lat with pend := some q, passed := [0] } }
     let d := { wLat with lat := { wLat.lat with pend := some { q with reqs := [⟨true, 5, false, 3, 3, 0⟩] }, passed := [0], lock := 32, perm := Rails.ofWord 2048 32 } }
     after .latticeCommit (st u) (fun t => t.lat.lock == 32 && t.lat.perm.word == 32 && t.lat.sperm.word == 512 && t.get Reg.LAT_GRANTS.COUNT == 1 && t.lat.committed == 1) &&
     after .latticeCommit (st d) (fun t => t.lat.lock == 32 && t.lat.perm.word == 0 && t.lat.deniedRoutes == 32 && t.get Reg.LAT_DENIALS.COUNT == 1 && t.get Reg.LAT_DENY_LAST.REASON == 3) &&
     after .latticeCommit (st { u with lat := { u.lat with passed := [] } }) (fun t => t.lat.perm.word == 0)) = true := by decide +kernel

/-- Table 6.10: the sweep withdraws the route whose edge is no longer ready. -/
theorem test_sweep :
    (let u := ({ wLat with lat := { wLat.lat with lock := 32, perm := Rails.ofWord 2048 32, sperm := Rails.ofWord 2048 512, eready := 0 } }).put Reg.LAT_STAT.ROUTE 5
     after (.sweepEval 0 0) (st u) (fun t => t.lat.perm.word == 0 && t.lat.lock == 32 && t.lat.sperm.word == 0 && t.get Reg.LAT_WDRAW.COUNT == 1 && t.get Reg.LAT_DENY_LAST.REASON == 4 &&
       t.now == 33 && t.get Reg.LAT_STAT.ROUTE == 6) &&
     after (.sweepEval 0 0) (st { u with lat := { u.lat with eready := 4 } }) (fun t => t.lat.perm.word == 32) &&
     after (.sweepEval 2 0) (st u) (fun t => t.safeWith 14) && after .sweepPassTimeout (st u) (fun t => t.safeWith 14 && t.now == 70000)) = true := by decide +kernel

theorem test_gate_query :
    (after .gateQuery (st { wLat with link := { wLat.link with queries := [List.replicate 65 1] } }) (fun t => t.lat.queries == [List.replicate 64 1] &&
       t.get Reg.LAT_DENIALS.COUNT == 1 && t.get Reg.LAT_DENY_LAST.REASON == 8)) = true := by decide +kernel

theorem test_gate_verdict :
    (let u := { wLat with lat := { wLat.lat with queries := [[0], [1]], committed := 1, sperm := Rails.ofWord 2048 512 } }
     after .gateVerdict (st u) (fun t => t.link.verdicts == [[true]] && t.lat.queries == [[1]] && t.lat.committed == 0) &&
     after .gateVerdict (st { u with lat := { u.lat with sperm := Rails.low 2048 } }) (fun t => t.link.verdicts == [[false]] && t.lat.deniedGates == 1 && t.get Reg.LAT_DENIALS.COUNT == 1)) = true := by
  decide +kernel

theorem test_verdict_receive :
    (let f : TxFrame := ⟨0, [], .waiting 4 1, none⟩
     let u := { wLat with link := { wLat.link with verdicts := [[false, true]] }, zst := { wLat.zst with awaiting := [4], txq := [[{ f with gate := .waiting 4 0 }, f]] } }
     after .verdictReceive (st u) (fun t => t.zst.txq == [[{ f with gate := .go }]])) = true := by decide +kernel

theorem test_permission_return :
    (let r : PermReturn := { seq := 7, perm := 2 ^ 2047, swapped := true, sbState := 3 }
     after .permissionReturn (st { wLat with lat := { wLat.lat with capture := some r } }) (fun t => t.lat.buffer.bytes.length == 0x480 && (t.lat.buffer.bytes.getD 0x11F 0) == 0x80 &&
       (t.lat.buffer.bytes.getD 4 0) == 0x83)) = true := by decide +kernel

theorem test_standby :
    (u0.attends 0x50006000 && after .loadBegin reset (fun t => t.sbState == 1) && after .loadEnd reset (fun t => t.sbState == 0 && t.get Reg.LAT_STAT.CMD_ERR == 1) &&
     after .verify (st (u0.put Reg.LAT_STAT.SB_STATE 3)) (fun t => t.sbState == 4) && after .copy reset (fun t => t.sbState == 2 && t.lat.copyWaits) &&
     after .copyCaptureStart (st { u0.put Reg.LAT_STAT.SB_STATE 2 with lat := { u0.lat with copyWaits := true } }) (fun t => !t.lat.copyWaits)) = true := by decide +kernel

theorem test_copy_done :
    (let u := { wLat.put Reg.LAT_STAT.SB_STATE 2 with lat := { wLat.lat with bank0 := (36, 9) :: geo, bank1 := [(3, 3), (90000, 1)] } }
     after (.copyDone 0 0) (st u) (fun t => t.standbyBank == geo ++ [(90000, 1)] && t.sbState == 3)) = true := by decide +kernel

theorem test_standby_write :
    (let u := u0.put Reg.LAT_STAT.SB_STATE 5
     after (.standbyWrite 7 0x50400024 [1, 2, 3, 4]) (st u) (fun t => t.standbyBank == [(1, 0x04030201 * 2 ^ 32)] && t.sbState == 3) &&
     after (.standbyWrite 3 0x50400024 [1, 2, 3, 4]) (st u) (fun t => t.standbyBank == [] && t.sbState == 5 && t.resp == .error)) = true := by decide +kernel

theorem test_swap_arm :
    (let u := (u0.put Reg.LAT_STAT.SB_STATE 5).put Reg.LAT_SWAP_AT.AT 0
     after (.latSwapArm true) (st u) (fun t => t.get Reg.LAT_SWAP.ARM == 1) && after (.latSwapArm true) (st (u.put Reg.WR_SNAPCNT.COUNT 0)) (fun t => t.get Reg.LAT_SWAP.RESULT == 6) &&
     after (.latSwapArm true) (st (u.put Reg.LAT_STAT.SB_STATE 6)) (fun t => t.get Reg.LAT_SWAP.RESULT == 2) &&
     after (.latSwapArm true) (st (u.put Reg.LAT_STAT.SB_STATE 4)) (fun t => t.get Reg.LAT_SWAP.RESULT == 3 && t.get Reg.LAT_SWAP.ARM == 0)) = true := by decide +kernel

theorem test_signal_enable :
    (let q : LatPend := ⟨8, 8, 4, [⟨true, 5, true, 0, 0, 0⟩]⟩
     let l := { wLat with lat := { wLat.lat with pend := some q, passed := [1] } }
     let u := ((l.put (Reg.WR_OMAP.USED 4) 1).put (Reg.WR_OMAP.SIGNAL 4) 1).put (Reg.WR_OMAP.SIGNO 4) 9
     after .latticeCommit (st u) (fun t => t.weir.en.get 4 && t.get Reg.WR_EN.EN == 24) &&
     after .latticeCommit (st ((u.put (Reg.WR_OMAP.SIGNO 4) 8).enable 4 true)) (fun t => !t.weir.en.get 4 && t.get Reg.WR_EN.EN == 8)) = true := by decide +kernel

/-! ### Chapter 07 -/

/-- Channel A runs an application of two tasks; task 0 is released every snapshot, task 1 every fourth. -/
def rtMem : List Host.Cell :=
  memWriteBytes [] (bankBase 0) (leBytes 4 0x41460001 ++ leBytes 4 1 ++ leBytes 8 77 ++ leBytes 4 1 ++ leBytes 4 1 ++ leBytes 4 2 ++ leBytes 4 0x40 ++ leBytes 4 0x50 ++
    leBytes 4 0x90 ++ leBytes 4 0xA0 ++ leBytes 4 0x2000 ++ leBytes 4 0x100 ++ leBytes 4 0 ++ leBytes 4 0 ++ leBytes 4 0 ++
    leBytes 4 9 ++ leBytes 4 0 ++ leBytes 4 0 ++ leBytes 4 0 ++
    (leBytes 4 (4 * 2 ^ 20 + 900) ++ leBytes 4 1 ++ List.replicate 24 0) ++ (leBytes 4 (16 * 2 ^ 20 + 3000) ++ leBytes 4 (2 ^ 16) ++ List.replicate 24 0) ++
    (leBytes 4 5 ++ leBytes 4 9 ++ leBytes 4 0x1000 ++ leBytes 4 16) ++ [0x98])

def rtU : Chip :=
  let u := (wSet.modChan 0 (fun h => { h with sram := rtMem })).put Reg.WR_SNAPCNT.COUNT 8
  { u with rt := u.rt.set 0 { u.rt.get 0 with begun := true, confirmed := true, seq := 3, tasks := [{ release := some 8, image := 0 }, { release := some 8, image := 2 }] ++ List.replicate 6 {},
                                              buf := { count := 8 } } }

theorem test_app : (let a := rtU.app 0
    a.nTask == 2 && rtU.runs 0 && rtU.taskCycles 0 0 == 1 && rtU.taskCycles 0 1 == 4 && a.owner (rtU.sram 0) 0 == some 0 && a.owner (rtU.sram 0) 1 == some 1) = true := by decide +kernel

theorem test_handover :
    (let u := ({ rtU.put Reg.WR_SNAPCNT.COUNT 9 with lat := { rtU.lat with buffer := { seq := 9 } } } : Chip).modTask 0 0 (fun x => { x with release := none })
     u.chState 0 == 3 && u.linkReady 0 && after (.snapshotHandover 0) (st u) (fun t => (t.run 0).buf.count == 9 && (t.task 0 0).release == some 9 && (t.task 0 1).release == some 8 &&
       (t.cic.get 0).pend.testBit 120) &&
     after (.snapshotHandover 0) (st rtU) (fun t => (t.run 0).buf.count == 8 && (t.cic.get 0).pend == 0)) = true := by decide +kernel

theorem test_dispatch :
    (rtU.logicReady 0 && after (.taskDispatch 0 { calls := [⟨5, .ton true 3⟩] }) (st rtU) (fun t => (t.task 0 0).done && (t.task 0 0).input.count == 8 && !(t.task 0 1).done) &&
     after (.taskDispatch 0 { preempted := true }) (st rtU) (fun t => !(t.task 0 0).done && (t.task 0 0).reached == some 0) &&
     after (.taskDispatch 0 {}) (st (rtU.modTask 0 0 (fun x => { x with release := none }))) (fun t => (t.task 0 1).done) &&
     after (.taskDispatch 0 {}) (st (rtU.modRun 0 (fun r => { r with trapped := true }))) (fun t => !(t.task 0 0).done) &&
     after (.appTrap 0 0 2 0x100 5) (st rtU) (fun t => !t.runs 0)) = true := by decide +kernel

/-- A ROUTE of task 0 has queued a request (R637). -/
def rtQ : Chip := (rtU.modRun 0 (fun r => { r with blocks := [{ key := 5, lib := 0x20, m1 := some false }] })).callBlk 0 0 ⟨5, .route 7 true false⟩

/-- R234, R238, R252: task 0 delivers its bits beside those of task 1, and its request. -/
theorem test_delivery :
    (let u := (rtQ.modTask 0 0 (fun x => { x with done := true })).put Reg.LAT_CFG.REQ_CNT 1
     u.dueTask 0 == some 0 && (u.driven 0 0 5 == 5) && (rtQ.run 0).blocks.any (fun b => b.q) && (rtQ.task 0 0).queue == [0xA0000007] &&
     after (.taskDelivery 0 { img := 2 ^ 33 + 1 }) (st u) (fun t => (t.run 0).seq == 4 && (t.task 0 0).release == none &&
       (t.run 0).out.any (fun o => o.hdr == 0x300 && o.img == 0xA0000007) && !(t.run 0).blocks.any (fun b => b.q) && (t.task 0 0).queue == [])) = true := by decide +kernel

theorem test_delivery_waits :
    (after (.taskDelivery 0 {}) (st rtU) (fun t => (t.run 0).seq == 3)) = true := by decide +kernel

/-- 07 R249: the example of the TON with PT 2,500.5 ms. -/
theorem test_ton :
    (let b : Blk := { key := 1, lib := 1, ptSt := 250050000 }
     let f := fun (now : Nat) (b : Blk) => (blkCall now {} (fun _ => false) b (.ton true 250050000)).blk
     let o := f 734000000 b
     o.st == 1 && !o.q && (f 984050000 o).q && !(f 984049999 o).q) = true := by decide

/-- One call at Weir time 0 with no input set. -/
def call0 (x : SnapBuf) (b : Blk) (i : BlkIn) : BlkOut := blkCall 0 x (fun _ => true) b i

theorem test_blocks :
    (let x : SnapBuf := { perm := { lock := 8 }, sinVal := 5, sinStat := 7, rx := [(9, { st := 1 })] }
     let b : Blk := { key := 1, lib := 0x20, m1 := some false, m2 := some false }
     (call0 x b (.route 3 true true)).reqs == [0xA0000003, 0xC0000003] && (call0 x b (.route 3 true true)).blk.locked &&
     (call0 x { b with cv := 32767 } (.ctu true false 5)).blk.cv == 32767 && (call0 x { b with m1 := none } (.rTrig true)).blk.q == false &&
     (call0 x b (.point 4 (.pair 0 1) 2 [])).obj == some (⟨0, 4⟩, 1) && (call0 x b (.point 4 (.pair 0 2) 2 [])).obj == some (⟨0, 4⟩, 0) &&
     !(x.payload 9).2 && (call0 x b (.chainSection 4 (.zst 9 0))).obj == some (⟨1, 4⟩, 0) && (call0 x b (.chainSection 4 (.input 2))).obj == some (⟨1, 4⟩, 1) &&
     (call0 x b (.tof true 5)).blk.q && (call0 x b (.tp true 5)).blk.q && (call0 x b (.psdEdge 3 (.input 0) [6])).obj == some (⟨2, 3⟩, 1) &&
     (call0 x b (.ton true (-1))).events == [(0x11, [1, 2 ^ 64 - 1])] && (call0 x b (.signal true true (.bit 6))).blk.drives == [(6, true)] &&
     (call0 x { b with st := 1, deadline := 90, ptSt := 50, carried := true } (.ton true 100)).blk.deadline == 140 &&
     (call0 x { b with st := 1, deadline := 90, ptSt := 50 } (.ton true 100)).blk.deadline == 90) = true := by decide

/-! ### Chapter 08 -/

/-- A unit whose service port is connected, with the maintenance permit. -/
def gU : Chip := { (rtU.put Reg.WR_STAT.MAINT 1) with svc := { u0.svc with connected := true } }

theorem test_gate :
    (after (.olcLoad true 9 4 1 0x2000 [1, 2]) (st gU) (fun t => t.gate.queue.any (fun e => e.code == 0x0102 && e.tag == 9 && e.cv == 4 && e.arg 16 1 == 1 && e.arg 17 1 == 2 &&
       e.arg 20 4 == 0x2000 && e.arg 24 2 == 0x0201) && t.resp == .ok) &&
     after (.forceSet true 9 4 1 2 3 4 32 0 5) (st gU) (fun t => t.gate.queue.any (fun e => e.arg 16 4 == 1 && e.arg 30 1 == 32 && e.arg 32 8 == 5)) &&
     after (.keyLoad true 9 4 7 1 (List.replicate 16 8) 6) (st { gU with com := { gU.com with identOk := [] } }) (fun t => t.gate.queue.any (fun e => e.arg 36 4 == 6 && e.arg 18 1 == 1))) = true := by
  decide +kernel

theorem test_gate_reject :
    (!gU.staged 26 && after (.olcBegin false 9 4) (st gU) (fun t => t.resp == .error && t.gate == gU.gate && t.reports 26 1 [0x0101, 9, 1]) &&
     after (.olcBegin true 9 4) (st (gU.put Reg.WR_STAT.MAINT 0)) (fun t => t.reports 26 1 [0x0101, 9, 2]) &&
     after (.olcAbort true 9 4) (st { gU with gate := { gU.gate with queue := List.replicate 64 ⟨0, 0, 0, []⟩ } }) (fun t => t.resp == .busy)) = true := by decide +kernel

theorem test_fw_activate :
    (let u := { gU with com := { gU.com with run := 0, slots := [{}, { state := 2, digest := 11 }] } }
     after (.fwActivate true 9 4 1 77 11) (st u) (fun t => t.gate.queue.any (fun e => e.code == 0x0404 && e.arg 24 8 == 77)) &&
     after (.cfgConfirm true 9 4) (st { gU with com := { gU.com with identOk := [true, false] } }) (fun t => t.gate.queue == [] && t.resp == .error) &&
     after (.fwActivate true 9 4 1 77 12) (st u) (fun t => t.gate.queue == [] && t.resp == .error)) = true := by decide +kernel

/-- A command as the gate queues it. -/
def gcmd (code : Nat) (args : List Byte) : GateEntry := ⟨code, 9, 0, argBytes args⟩

theorem test_staging :
    (let v := gU.cmdProcess 0 (gcmd 0x0101 [])
     let w := v.cmdProcess 0 (gcmd 0x0102 ([0, 2, 0, 0] ++ leBytes 4 0x10 ++ [7, 8]))
     (v.run 0).stg.st == 1 && memRead (w.sram 0) 0x10200011 == 8 && (w.run 0).stg.st == 1 && (v.cmdProcess 0 (gcmd 0x0102 ([0, 2, 0, 0] ++ leBytes 4 0x1FFFFF ++ [7, 8]))).chans == v.chans &&
     (gU.cmdProcess 0 { gcmd 0x0101 [] with cv := 1 }).rt == gU.rt && (gU.cmdProcess 0 (gcmd 0x0105 [])).rt == gU.rt) = true := by decide +kernel

theorem test_olc_swap :
    (let u := gU.modRun 0 (fun r => { r with stg := { st := 2, cv := 6 }, buf := { r.buf with perm := { sbState := 5 } } })
     let k := fun (n cv : Nat) => u.cmdProcess 0 (gcmd 0x0104 (leBytes 8 cv ++ leBytes 4 n))
     u.hyper 0 == 4 && ((k 28 6).run 0).stg.st == 3 && ((k 28 6).run 0).writes.contains (0x5000605C, 28) && ((k 27 6).run 0).stg.st == 2 && ((k 24 6).run 0).stg.st == 2 &&
     ((k 28 5).run 0).stg.st == 2) = true := by decide +kernel

theorem test_force :
    (let u := gU.modRun 0 (fun r => { r with buf := { r.buf with maint := true } })
     let f := gcmd 0x0201 (leBytes 4 1 ++ leBytes 4 5 ++ leBytes 4 9 ++ leBytes 2 12 ++ [32, 0] ++ leBytes 8 99)
     ((u.app 0).descs (u.sram 0)).find? (fun x => x.key == 5 && x.sig == 9) == some ⟨5, 9, 0x1000, 0, false, 0, 16⟩ &&
     ((u.cmdProcess 0 f).run 0).forces.map (fun x => (x.vkey, x.value)) == [(1, 99)] && ((gU.cmdProcess 0 f).run 0).forces == [] &&
     (((u.cmdProcess 0 f).cmdProcess 0 (gcmd 0x0202 (leBytes 4 1))).run 0).forces == []) = true := by decide +kernel

/-! ### Chapter 09 -/

/-- Inputs 0 and 3 used and single, input 0 on test source 2 which is enabled. -/
def inU : Chip :=
  let u := ((u0.put (Reg.SIN_CFG.USED 0) 1).put (Reg.SIN_CFG.TSRC 0) 2).put (Reg.SIN_CFG.USED 3) 1
  ((u.put (Reg.TOUT_CFG.EN 2) 1).put (Reg.TOUT_CFG.TP_W 2) 10).put (Reg.TOUT_CFG.TP_INT 2) 3

theorem test_sin_sample :
    (let u := ({ inU with sin := { inU.sin with lastSample := some 0, first := false } }.put (Reg.SIN_ST.STATE 3) 2).modSinIn 3 (fun i => { i with level := true, trans := 1, lastTrans := 4 })
     after .sinSample (st u) (fun t => t.weirTime == 1000 && t.now == 1000 && t.get Reg.SIN_LOG.VAL == 8 && (t.sinIn 3).edge == 4 && t.on (Reg.SIN_ST.RAW 3)) &&
     after .sinSample (st (u.put (Reg.SIN_CFG.FILT 3) 2)) (fun t => t.get Reg.SIN_LOG.VAL == 0 && (t.sinIn 3).change == some 4) &&
     after .sinSample (st (u.put (Reg.SIN_ST.STATE 3) 3)) (fun t => t.get Reg.SIN_LOG.VAL == 0 && t.on (Reg.SIN_ST.FILT 3)) &&
     after (.sinEdge 3 false 7) (st u) (fun t => (t.sinIn 3).trans == 2 && (t.sinIn 3).lastTrans == 7)) = true := by decide +kernel

theorem test_sin_filter :
    (let u := ((inU.put (Reg.SIN_CFG.FILT 3) 2).put (Reg.SIN_ST.RAW 3) 1).modSinIn 3 (fun i => { i with change := some 4 })
     let v := { u with weir := { u.weir with time := 2500 } }
     v.nextSample == 3000 && after (.sinFilterExpiry 3) (st (v.modSinIn 3 (fun i => { i with level := true })))
       (fun t => t.weirTime == 3000 && t.on (Reg.SIN_ST.FILT 3) && (t.sinIn 3).filtStamp == 4) &&
     after (.sinFilterExpiry 3) (st inU) (fun t => t.now == 0)) = true := by decide +kernel

/-- R288: a change that has reversed is dropped. -/
theorem test_sin_filter_reversed :
    (let u := ((inU.put (Reg.SIN_CFG.FILT 3) 2).put (Reg.SIN_ST.RAW 3) 1).modSinIn 3 (fun i => { i with change := some 4 })
     after (.sinFilterExpiry 3) (st { u with weir := { u.weir with time := 2500 } }) (fun t => t.get (Reg.SIN_ST.FILT 3) == 0 && (t.sinIn 3).change == none)) = true := by decide +kernel

theorem test_sin_disc :
    (let u := ((((inU.put (Reg.SIN_CFG.USED 1) 1).put (Reg.SIN_CFG.PAIR 0) 2).put (Reg.SIN_DISC.T_DISC 0) 5).put (Reg.SIN_ST.STATE 0) 2).put (Reg.SIN_ST.STATE 1) 2
     let d := ({ u with weir := { u.weir with time := 6100 }, sin := { u.sin with disc := some 1234 :: u.sin.disc.tail, first := false } } : Chip).put Reg.SIN_LOG.VAL 3
     d.nextSample == 7000 && after (.sinDiscTimeout 0) (st d) (fun t => t.weirTime == 7000 && t.get (Reg.SIN_ST.STATE 1) == 3 && t.get Reg.SIN_LOG.VAL == 0 && t.get Reg.SIN_CNT.LOCKOUTS == 1) &&
     after (.sinDiscTimeout 0) (st u) (fun t => t.now == 0) &&
     ((u.put (Reg.SIN_ST.FILT 0) 1).sinLogic 0 9).get Reg.SIN_LOG.VAL == 3 && (((u.put (Reg.SIN_ST.FILT 0) 1).put (Reg.SIN_ST.FILT 1) 1).sinLogic 0 9).get Reg.SIN_LOG.VAL == 0) = true := by decide +kernel

theorem test_sin_proof :
    (let u := ((inU.put (Reg.SIN_ST.STATE 3) 1).put (Reg.SIN_ST.GSTEP 3) 2).put (Reg.SIN_ST.FILT 3) 1
     (u.sinLogic 3 9).get (Reg.SIN_ST.STATE 3) == 2 && ((u.put (Reg.SIN_ST.GSTEP 3) 1).sinLogic 3 9).get (Reg.SIN_ST.GSTEP 3) == 1) = true := by decide +kernel

theorem test_sin_unlock :
    (let u := inU.put (Reg.SIN_ST.STATE 3) 3
     u0.attends 0x40400000 && after (.sinUnlockWrite 7 8 55) (st u) (fun t => t.get Reg.SIN_UNLOCK.REQ == 8 && t.get (Reg.SIN_ST.STATE 3) == 3) &&
     after (.sinUnlockWrite 3 8 55) (st u) (fun t => t.get Reg.SIN_UNLOCK.REQ == 0 && t.resp == .error) &&
     (u.put Reg.SIN_UNLOCK.REQ 8).sinRequests.get (Reg.SIN_ST.STATE 3) == 2 &&
     ((u.put Reg.SIN_UNLOCK.REQ 8).put (Reg.SIN_ST.RAW 3) 1).sinRequests.get (Reg.SIN_ST.STATE 3) == 3) = true := by decide +kernel

theorem test_tout_start :
    (let u := inU.modTout 2 (fun t => { t with due := some 500 })
     let w := u.modTout 2 (fun t => { t with waiting := true })
     let x := ({ w with weir := { w.weir with time := 1500 } } : Chip).modSinIn 0 (fun i => { i with level := true })
     after (.toutDue 2) (st u) (fun t => t.weirTime == 500 && (t.tout 2).waiting) && w.toutMayStart 2 &&
     after (.toutPulseStart 2) (st x) (fun t => (t.tout 2).start == 2000 && (t.tout 2).due == some 3002000 && !(t.tout 2).high && (t.sinIn 0).armed && !(t.sinIn 3).armed &&
       t.get Reg.TOUT_STAT.ACTIVE == 2 && t.get Reg.TOUT_WAIT.WAIT == 1) &&
     after (.toutPulseStart 2) (st u) (fun t => (t.tout 2).phase == .idle)) = true := by decide +kernel

/-- Source 2 is in its pulse since Weir time 2,000; its input has read 0. -/
def outP (time : Nat) (phase : ToutPhase) (level : Bool) : Chip :=
  let u := (inU.modTout 2 (fun t => { t with phase := phase, high := false, start := 2000 })).put (Reg.TOUT_CFG.TP_REC 2) 5
  ({ u with weir := { u.weir with time := time } }.put (Reg.SIN_ST.FILT 0) 1).modSinIn 0 (fun i => { i with armed := true, lowInPulse := true, level := level })

theorem test_tout_end :
    (after (.toutPulseEnd 2) (st (outP 11500 .pulse false)) (fun t => t.weirTime == 12000 && (t.tout 2).high && (t.tout 2).phase == .recovery) &&
     after (.toutPulseEnd 2) (st inU) (fun t => t.now == 0)) = true := by decide +kernel

theorem test_tout_recovery :
    (after (.toutRecoveryEnd 2) (st (outP 16500 .recovery false)) (fun t => t.weirTime == 17000 && t.get (Reg.SIN_ST.FILT 0) == 0 && (t.sinIn 0).filtStamp == 2000 && !(t.sinIn 0).armed &&
       t.get Reg.TOUT_STAT.ACTIVE == 15) &&
     after (.toutRecoveryEnd 2) (st (outP 16500 .recovery true)) (fun t => t.get (Reg.SIN_ST.FILT 0) == 1 && !(t.sinIn 0).armed)) = true := by decide +kernel

/-! ### Chapter 10 -/

/-- Outputs 1 and 2 used, in groups 4 and 5, in OFF. -/
def outU : Chip :=
  let u := ((u0.put (Reg.SOUT_CFG.USED 1) 1).put (Reg.SOUT_CFG.GROUP 1) 4).put (Reg.SOUT_CFG.USED 2) 1
  let u := (((u.put (Reg.SOUT_CFG.GROUP 2) 5).put (Reg.SOUT_CFG.BIT 1) 70).put (Reg.SOUT_ST.STATE 1) 1).put (Reg.SOUT_ST.STATE 2) 1
  let u := (((u.put (Reg.SOUT_TCFG.PW 1) 10).put (Reg.SOUT_TCFG.REC 1) 7).put (Reg.SOUT_TCFG.INT 1) 2).put Reg.WR_STAT.SAFE 0
  { u with sout := { u.sout with lastSample := some 0, envDue := 300 } }

def outOn (k : Nat) : Chip := (((outU.put (Reg.SOUT_ST.STATE 1) k).put Reg.SOUT_DHS.VAL 2).put Reg.SOUT_DLS.VAL 2).modOut 1 (fun o => { o with cmd := true })

theorem test_out_image :
    (let u := outU.outImage (2 ^ 70) 1
     let r := (outU.put Reg.WR_SEAL.LATCHED 3).outImage (2 ^ 70) 1
     let d := (outOn 3).outImage 0 1
     u.outState 1 == 2 && u.get Reg.SOUT_DHS.VAL == 2 && u.get Reg.SOUT_DLS.VAL == 2 && r.outState 1 == 1 && r.get Reg.SOUT_DHS.VAL == 0 && d.outState 1 == 1 && d.get Reg.SOUT_DHS.VAL == 0 &&
     ((outU.put Reg.WR_STAT.SAFE 1).outImage (2 ^ 70) 1).get Reg.SOUT_DLS.VAL == 0) = true := by decide +kernel

theorem test_sout_sample :
    (after (.soutSample 2) (st outU) (fun t => t.get Reg.SOUT_FBV.VAL == 2 && t.weirTime == 1000 && t.outState 1 == 6 && t.get (Reg.SOUT_ST.CAUSE 1) == 5 && t.get Reg.SOUT_LOCK.GRP == 16 && t.outState 2 == 1) &&
     after (.soutSample 2) (st (outOn 2)) (fun t => t.outState 1 == 3 && (t.out 1).hsDue == some 8000) &&
     after (.soutSample 0) (st (outOn 3)) (fun t => t.outState 1 == 3 && (t.out 1).judge == some .dropout && (t.out 1).judgeAt == 1000) &&
     after (.soutSample 2) (st (outOn 5)) (fun t => t.outState 1 == 3 && t.get (Reg.SOUT_ST.PASSES 1) == 1) &&
     after (.soutSample 0) (st (outOn 6)) (fun t => t.outState 1 == 6)) = true := by decide +kernel

theorem test_out_lockout :
    (let u := ((outOn 3).put (Reg.SOUT_CFG.GROUP 2) 4).outLockout 1 3 false true 9
     u.outState 2 == 6 && u.get (Reg.SOUT_ST.CAUSE 2) == 7 && u.get (Reg.SOUT_ST.CAUSE 1) == 3 && u.get Reg.SOUT_DHS.VAL == 0 && u.get Reg.SOUT_CNT.LOCKOUTS == 1) = true := by decide +kernel

theorem test_env :
    (let j := (outOn 3).modOut 1 (fun o => { o with judge := some .dropout, judgeAt := 50 })
     let r := { j with sout := { j.sout with envReads := [60] } }
     let e := { j with sout := { j.sout with envReads := [40] } }
     after .envRead (st outU) (fun t => t.weirTime == 300 && t.sout.envReads == [300] && t.sout.envDue == 10300) &&
     after .envRead (st j) (fun t => t.weirTime == 0 && t.sout.envReads == [0]) &&
     after .envReadDone (st r) (fun t => t.outState 1 == 2 && (t.out 1).judge == none) &&
     after .envReadDone (st (r.put Reg.WR_EN.EN 2)) (fun t => t.outState 1 == 6 && t.get (Reg.SOUT_ST.CAUSE 1) == 3 && t.get Reg.SOUT_ENV.VAL == 2) &&
     after .envReadDone (st e) (fun t => t.outState 1 == 3 && (t.out 1).judge == some .dropout)) = true := by decide +kernel

theorem test_out_unlock :
    (let u := ((outU.put (Reg.SOUT_ST.STATE 1) 6).put Reg.SOUT_LOCK.GRP 16).put Reg.SOUT_UNLOCK.GRP 16
     u0.attends 0x40500000 && u.soutRequests.outState 1 == 1 && u.soutRequests.get Reg.SOUT_LOCK.GRP == 0 && (u.put Reg.SOUT_FBV.VAL 2).soutRequests.outState 1 == 6 &&
     after (.soutUnlockWrite 7 16 3) (st outU) (fun t => t.get Reg.SOUT_UNLOCK.GRP == 16) &&
     after (.soutUnlockWrite 2 16 3) (st outU) (fun t => t.get Reg.SOUT_UNLOCK.GRP == 0 && t.resp == .error)) = true := by decide +kernel

theorem test_apply_time :
    (let u := outU.modOut 1 (fun o => { o with apply := some ⟨true, 77, 500⟩ })
     after (.applyTime 1) (st u) (fun t => t.weirTime == 500 && t.outState 1 == 2 && (t.out 1).lastWord == 77) &&
     after (.applyTime 1) (st outU) (fun t => t.now == 0)) = true := by decide +kernel

theorem test_pulse_start :
    (let u := ((outOn 3).put Reg.WR_EN.EN 2).modOut 1 (fun o => { o with hsDue := some 12345 })
     after (.soutTestDue 1 false) (st u) (fun t => t.weirTime == 12345) &&
     after (.soutPulseStart 1 false) (st u) (fun t => t.weirTime == 20000 && t.outState 1 == 4 && t.get Reg.SOUT_DHS.VAL == 0 && t.get Reg.SOUT_DLS.VAL == 2 && (t.out 1).lsDue == some 1020000 &&
       (t.out 1).hsDue == some 2020000 && t.get Reg.SOUT_WAIT.WAIT == 7 && t.get Reg.WR_EN.EN == 2) &&
     after (.soutPulseStart 1 false) (st (((u.put (Reg.SOUT_ST.STATE 2) 3).modOut 2 (fun o => { o with hsDue := some 4 })))) (fun t => t.weirTime == 20000 && t.outState 1 == 3) &&
     after (.soutPulseStart 1 true) (st u) (fun t => t.now == 0)) = true := by decide +kernel

theorem test_pulse_end :
    (let u := (outOn 4).modOut 1 (fun o => { o with pulseStart := 20000 })
     after (.soutPulseEnd 1) (st (u.modOut 1 (fun o => { o with lowSeen := true }))) (fun t => t.weirTime == 30000 && t.outState 1 == 5 && t.get Reg.SOUT_DHS.VAL == 2) &&
     after (.soutPulseEnd 1) (st u) (fun t => t.outState 1 == 6 && t.get (Reg.SOUT_ST.CAUSE 1) == 1 && t.get Reg.SOUT_DHS.VAL == 0) &&
     after (.soutRecoveryEnd 1) (st (u.put (Reg.SOUT_ST.STATE 1) 5)) (fun t => t.weirTime == 37000 && (t.out 1).judge == some .noRecover) &&
     after (.soutRecoveryEnd 1) (st u) (fun t => t.now == 0) && after (.soutPulseEnd 1) (st outU) (fun t => t.now == 0)) = true := by decide +kernel


/-! ### Chapters 12 and 13 -/

/-- Own ID 7; RX connection 5 from ID 9 with CID 3 on port 6, in the engine and in channel 1's table. -/
def zU : Chip :=
  let u := (((u0.put Reg.ZST_ID.ID 7).put Reg.ZST_GCFG.RX_FR 1).put (Reg.ZST_CONN.USED 5) 1).put (Reg.ZST_CONN.PORT_A 5) 6
  let u := ((u.put (Reg.ZST_CONN.CID 5) 3).put (Reg.ZST_PEER.PEER 5) 9).put (Reg.CH_STATE.STATE 1) 3
  let u := (u.modPt 5 (fun r => { r with cfg := 0 })).modPt 6 (fun r => { r with cfg := 0 })
  u.modChan 1 (fun h => { h with sram := memWriteBytes [] (instBase + 160) (leBytes 4 0x90000003 ++ leBytes 4 9 ++ leBytes 4 3000 ++ leBytes 4 3000 ++ leBytes 4 8) })

/-- A frame of kind 0 with no payload from 9 to 7, CID 3, claim epoch 1, all but its code. -/
def zBody : List Byte := frameBody 0 0 0 9 7 100 5000 0x100 3 []

def zFrame : List Byte := zBody ++ beBytes 8 (codeCrc (zU.identBlock 1 5) zBody)

theorem test_zst_tx :
    (let f : TxFrame := ⟨5, zFrame, .none, none⟩
     let u := { (zU.put (Reg.PORT_STAT.LINK (portPage 6)) 1) with zst := { zU.zst with txq := modAt zU.zst.txq 6 (fun _ => [f, f]) } }
     let w := { u with zst := { u.zst with txq := modAt u.zst.txq 6 (fun _ => [{ f with gate := .waiting 0 0 }]) } }
     after (.zstFrameTx 6) (st u) (fun t => t.zst.txq.getD 6 [] == [f] && (t.pt 6).wire == [u.zstWire 6 f]) &&
     after (.zstFrameTx 6) (st w) (fun t => t.zst.txq == w.zst.txq) && after (.zstFrameTx 4) (st u) (fun t => t.zst.txq == u.zst.txq)) = true := by decide +kernel

theorem test_zst_rx :
    (after (.zstFrameRx 6 zFrame) (st zU) (fun t => t.zst.store == [⟨6, 0, zFrame, 0⟩] && t.zst.inBatch == 1) &&
     after (.zstFrameRx 5 zFrame) (st zU) (fun t => t.zst.store == [] && t.get (Reg.ZST_PSTAT.STRANGER 5) == 1) &&
     after (.zstFrameRx 6 zFrame) (st { zU with zst := { zU.zst with inBatch := 16 } }) (fun t => t.zst.store == [] && t.get Reg.ZST_RXCNT.DROP == 1) &&
     after (.zstFrameRx 6 zFrame) (st (zU.put Reg.ZST_ID.ID 8)) (fun t => t.zst.store == [] && t.get (Reg.ZST_PSTAT.STRANGER 6) == 0) &&
     after (.zstFrameRx 4 zFrame) (st zU) (fun t => t.zst.store == [] && t.get (Reg.ZST_PSTAT.STRANGER 4) == 0)) = true := by decide +kernel

/-- The frame is in the store, and channel 1 has started to read it. -/
def zRead : Chip := { zU with zst := { zU.zst with store := [⟨6, 2, zFrame, 0⟩], reads := zU.zst.reads.set 1 ⟨1, zFrame⟩ } }

theorem test_zst_read :
    (let u := { zU with zst := { zU.zst with store := [⟨6, 2, zFrame, 0⟩] } }
     u0.attends 0x40600000 && after (.zstRxHdrRead 1) (st u) (fun t => t.resp == .data 0xB0280002 && (t.zst.reads.get 1).rest == zFrame && t.zst.freed == 0) &&
     after (.zstRxHdrRead 1) (st (zRead.put Reg.CF_MODE.MASK 2)) (fun t => t.resp == .data 0 && t.zst.freed == 1 && t.zst.store == []) &&
     after (.zstRxDatRead 1) (st zRead) (fun t => t.resp == .data 0x10000000 && (t.zst.reads.get 1).rest == zFrame.drop 4) &&
     after (.zstRxDatRead 4) (st zRead) (fun t => t.resp == .data 0) && after (.zstRxHdrRead 9) (st zRead) (fun t => t.resp == .error && t.reports 27 2 [9, 15, 0x40601040])) = true := by decide +kernel

theorem test_zst_precheck :
    (zU.preOk 1 5 zFrame && after (.zstPrecheck 1) (st zRead) (fun t => (t.run 1).pre == [⟨2, 5, zFrame⟩] && (t.run 1).checked == 1) &&
     after (.zstPrecheck 1) (st (zRead.put Reg.ZST_GCFG.NET_ID 1)) (fun t => (t.run 1).pre == [] && (t.connSt 1 5).codeErr == 1) &&
     after (.zstPrecheck 0) (st zRead) (fun t => (t.run 0).pre == [])) = true := by decide +kernel

theorem test_zst_judge :
    (let r : ConnRec := ⟨0, 0, 3000, 3000, 0, 0, 0, 0⟩
     let s : ConnSt := { st := 2, high := some 0x100, ts := some 4000, seq := 99 }
     judge r s 200000 50 false zBody == .inSeq 1 && judge r { s with high := some 0x101 } 200000 50 false zBody == .repeats && judge r s 400000 50 false zBody == .age &&
     judge r { s with st := 3, seq := 7 } 200000 50 false zBody == .reset && judge r { s with seq := 100 } 200000 50 false zBody == .repeats &&
     judge r { s with high := some 0x101 } 200000 50 true zBody == .inSeq 1) = true := by decide +kernel

theorem test_id_req :
    (let u := zU.modConn 1 5 (fun x => { x with asked := some 70 })
     after (.idReqTimer 1 5) (st u) (fun t => t.weir.time == 100000070 && (t.connSt 1 5).asked == some 100000070 && (t.run 1).send == []) &&
     after (.idReqTimer 1 6) (st u) (fun t => t.weir.time == 0)) = true := by decide +kernel

/-- A partner of rank 2 in JOINING. -/
def pU : Chip := ((u0.put Reg.WR_SEAL.LATCHED 12).put (Reg.CH_STATE.STATE 1) 3).modPair 1 (fun p => { p with st := 1, returning := true })

theorem test_join_wait :
    (after (.joinWaitExpiry 1) (st (pU.put Reg.PR_CFG.JOIN_WAIT 2)) (fun t => t.weir.time == 200000 && (t.pair 1).request == some 1 && (t.pair 1).joined) &&
     after (.joinWaitExpiry 0) (st pU) (fun t => t.weir.time == 0) &&
     after .epochRecordWrite (st { u0 with ret := { u0.ret with epoch := 5, epochDirty := true } }) (fun t => t.ret.epochEmmc == 5 && !t.ret.epochDirty)) = true := by decide +kernel

theorem test_pair_answer :
    (let grant := frameBody 5 0 8 1 2 0 0 0x100 0 (beBytes 4 0x202 ++ beBytes 4 0)
     let refusal := frameBody 5 0 8 1 2 0 0 0x100 0 (beBytes 4 0x202 ++ beBytes 4 0x02010000)
     let other := frameBody 5 0 8 1 2 0 0 0x100 0 (beBytes 4 0x201 ++ beBytes 4 0)
     let q := pU.modPair 1 (fun p => { p with request := some 1 })
     let g := pU.pairAnswer 1 (grant ++ beBytes 8 0)
     let r := q.pairAnswer 1 (refusal ++ beBytes 8 0)
     (g.pair 1).grant == some 0x202 && (g.run 1).writes == [(0x40600048, 0x202)] && (r.pair 1).request == none && !(r.pair 1).returning && (r.pair 1).st == 2 &&
     (pU.pairAnswer 1 (other ++ beBytes 8 0)).pair 1 == pU.pair 1) = true := by decide +kernel

theorem test_witness :
    (let w := (u0.put Reg.PR_PEER.RX 4).put Reg.PR_HB.TX 9
     let b : Beat := { wit := false, state := 3, returning := true, synced := 1, cv := 8, claim := 0x2801, frame := 0x2801, ts := 0 }
     let u := (((w.modConn 1 4 (fun x => { x with st := 2 })).modConn 1 0 (fun x => { x with st := 2 })).modPair 1 (fun p =>
       { p with epoch := 41, holder := 2, beat1 := some b, beat2 := some { b with state := 4, frame := 0x2902 } }))
     let a := fun (t : Chip) => ((t.run 1).send.map (fun x => x.payload), (t.pair 1).epoch, (t.pair 1).holder)
     a (u.witDecide 1 ⟨1, 2, 8⟩) == ([beBytes 4 0x2A01 ++ beBytes 4 0x00020000], 42, 1) && a (u.witDecide 1 ⟨1, 1, 8⟩) == ([beBytes 4 0x2901 ++ beBytes 4 0x02010000], 41, 2) &&
     a (u.witDecide 1 ⟨1, 2, 9⟩) == ([beBytes 4 0x2901 ++ beBytes 4 0x03020000], 41, 2) && a (u.witDecide 1 ⟨2, 1, 8⟩) == ([beBytes 4 0x2902 ++ beBytes 4 0x01010000], 41, 2) &&
     a ((u.modPair 1 (fun p => { p with epoch := 0xFFFFFF })).witDecide 1 ⟨1, 2, 8⟩) == ([beBytes 4 0xFFFFFF01 ++ beBytes 4 0x05020000], 0xFFFFFF, 2) &&
     a ((u.modPair 1 (fun p => { p with holder := 0, beat1 := none })).witDecide 1 ⟨1, 1, 9⟩) == ([beBytes 4 0x2A01 ++ beBytes 4 0x00010000], 42, 1) &&
     ((pU.partnerBeat 1 { b with state := 4 }).pair 1).st == 2) = true := by decide +kernel


/-! ### Chapter 14 -/

/-- Port 6 SAFE with VID 100 and gPTP, port 0 DATA, port 9 SAFE in CAN FD, own ID 7. -/
def fU : Chip :=
  let u := (u0.modPt 6 (fun r => { r with cfg := 2 ^ 25 + 100 })).modPt 9 (fun r => { r with cfg := 2 ^ 26 })
  let u := u.put (Reg.CAN_ZMSK.ID (portPage 9)) 0x1FFFFFFF
  ((u.put (Reg.CAN_ZRX.ID (portPage 9)) 5).put (Reg.CAN_BCN.ID (portPage 9)) 6).put Reg.ZST_ID.ID 7

def zEth (vid : Nat) : List Byte := beBytes 2 0x035A ++ beBytes 4 7 ++ beBytes 6 1 ++ beBytes 2 0x8100 ++ beBytes 2 (6 * 2 ^ 13 + vid) ++ beBytes 2 0x88B5 ++ beBytes 4 0xAABBCCDD

def ipEth : List Byte := beBytes 6 9 ++ beBytes 6 1 ++ beBytes 2 0x0800 ++ [1, 2, 3]

theorem test_port_rx :
    (after (.portFrameRx 6 (.eth (zEth 100) true)) (st fU) (fun t => (t.pt 6).rx == some ⟨.zst, 0, beBytes 4 0xAABBCCDD⟩) &&
     after (.portFrameRx 6 (.eth (zEth 101) true)) (st fU) (fun t => (t.pt 6).rx == none && t.get (Reg.PORT_CNT.FILT_DROP (portPage 6)) == 1) &&
     after (.portFrameRx 0 (.eth (zEth 100) true)) (st fU) (fun t => (t.pt 0).rx == none && t.get (Reg.PORT_STAT.CLASS_DROP (portPage 0)) == 1) &&
     after (.portFrameRx 0 (.eth ipEth true)) (st fU) (fun t => (t.pt 0).rx == some ⟨.bridge, 1, ipEth⟩) &&
     after (.portFrameRx 14 (.eth ipEth true)) (st fU) (fun t => (t.pt 14).rx == some ⟨.management, 3, ipEth⟩) &&
     after (.portFrameRx 6 (.eth ipEth true)) (st fU) (fun t => t.get (Reg.PORT_STAT.CLASS_DROP (portPage 6)) == 1) &&
     after (.portFrameRx 6 (.eth ipEth false)) (st fU) (fun t => t.get (Reg.PORT_CNT.RXERR (portPage 6)) == 1)) = true := by decide +kernel

theorem test_can_rx :
    (after (.portFrameRx 9 (.can 5 true true false [1] true)) (st fU) (fun t => (t.pt 9).rx == some ⟨.zst, 0, [1]⟩) &&
     after (.portFrameRx 9 (.can 6 true true false [1] true)) (st fU) (fun t => (t.pt 9).rx == some ⟨.time, 0, [1]⟩) &&
     after (.portFrameRx 9 (.can 4 true true false [1] true)) (st fU) (fun t => t.get (Reg.PORT_CNT.FILT_DROP (portPage 9)) == 1) &&
     after (.portTxRefused 6 2) (st fU) (fun t => t.resp == .error && t.get (Reg.BLK_ERR.PLANE (portPage 6)) == 1) &&
     after (.portTxRefused 0 2) (st fU) (fun t => t.resp == .ok)) = true := by decide +kernel

theorem test_plca :
    (let u := (u0.put (Reg.PORT_STAT.PLCA_ACTIVE (portPage 2)) 1).put (Reg.T1S_PLCA.NODE_ID (portPage 2)) 3
     after (.plcaBeaconTimeout 2) (st u) (fun t => t.now == 100000 && t.get (Reg.PORT_STAT.PLCA_ACTIVE (portPage 2)) == 0 && t.get (Reg.T1S_STAT.BCN_MISS (portPage 2)) == 1) &&
     after (.plcaBeaconTimeout 1) (st u) (fun t => t.now == 0) &&
     after (.plcaBeaconRx 2) (st (u0.modPt 2 (fun r => { r with plcaLost := true }))) (fun t => t.get (Reg.PORT_STAT.PLCA_ACTIVE (portPage 2)) == 1 && t.reports 130 2 [2])) = true := by decide +kernel

theorem test_bus_engine :
    (after (.busOff 9 256) (st fU) (fun t => t.get (Reg.PORT_STAT.BUS_OFF (portPage 9)) == 1 && t.get (Reg.PORT_STAT.LINK (portPage 9)) == 0 && t.reports 141 3 [9, 256]) &&
     after (.busOn 9) (st (fU.put (Reg.PORT_STAT.BUS_OFF (portPage 9)) 1)) (fun t => t.get (Reg.PORT_STAT.BUS_OFF (portPage 9)) == 0 && t.get (Reg.PORT_STAT.LINK (portPage 9)) == 1) &&
     after (.engineFault 4 2) (st fU) (fun t => (List.range 15).all (fun p => (t.pt p).disabled == (p == 8 || p == 9)) && !t.portSends 9) &&
     after (.portLinkChange 6 true false) (st fU) (fun t => t.on (Reg.PORT_STAT.LINK (portPage 6))) &&
     after (.portLinkChange 6 false true) (st fU) (fun t => t.get (Reg.PORT_CNT.RXERR (portPage 6)) == 1) &&
     after (.portFrameRx 9 (.can 5 true true false [1] true)) (st (fU.modPt 9 (fun r => { r with disabled := true }))) (fun t => (t.pt 9).rx == none)) = true := by decide +kernel

theorem test_service :
    (let g : GateEntry := ⟨0x101, 5, 0, []⟩
     after .serviceLinkUp (st { u0 with now := 9 }) (fun t => t.svc.since == some 9) && after .serviceConnected (st { u0 with svc := ⟨false, some 9⟩ }) (fun t => t.svc.connected && t.now == 100000009) &&
     after .serviceConnected reset (fun t => t.now == 0) &&
     after .serviceLinkLoss (st { u0 with svc := ⟨true, some 9⟩, gate := { u0.gate with queue := [g], placed := [g] } }) (fun t => !t.svc.connected && t.gate.queue == [] && t.gate.placed == [g] &&
       t.reports 26 6 [0x101, 5, 1])) = true := by decide +kernel

theorem test_time_measured :
    (let u := { ((fU.put (Reg.PORT_STAT.GP_SLAVE (portPage 6)) 1).put Reg.TM_STAT.STOFF 1) with tm := { u0.tm with run := 7 } }
     after (.gptpSyncRx 6 10900 1000 77) (st u) (fun t => t.get Reg.TM_OFF.OFF == 900 && t.get Reg.TM_STAT.LOCKED == 1 && t.get Reg.TM_STAT.PORT == 6 && t.get Reg.TM_NRR.PPB == 77) &&
     after (.gptpSyncRx 6 8000 1000 77) (st (u.put Reg.TM_STAT.LOCKED 1)) (fun t => t.get Reg.TM_OFF.OFF == 2 ^ 64 - 2000 && t.get Reg.TM_STAT.LOCKED == 0 && t.tm.run == 0) &&
     after (.gptpSyncRx 6 8000 1000 77) (st fU) (fun t => t.get Reg.TM_STAT.MEAS == 0) &&
     after .timeSilence (st (({ u with tm := { u.tm with last := some 5 } }).put Reg.TM_STAT.LOCKED 1)) (fun t => t.get Reg.TM_STAT.LOCKED == 0 && t.now == 100000005) &&
     after .timeSilence reset (fun t => t.now == 0)) = true := by decide +kernel

theorem test_time_beacon :
    (let u := (fU.put Reg.TM_CFG.SRC 9).modPt 9 (fun r => { r with rxCap := some 400 })
     let b := fun (l : Nat) => beBytes 2 (0x100 + l) ++ beBytes 2 0 ++ beBytes 4 3 ++ beBytes 8 500 ++ beBytes 8 0
     after (.timeBeaconRx 9 1000 (b 128)) (st u) (fun t => t.get Reg.TM_OFF.OFF == 1000 && (t.pt 9).rxCap == some 1000 && t.get Reg.TM_STAT.PORT == 9) &&
     after (.timeBeaconRx 9 1000 (b 0)) (st u) (fun t => t.get Reg.TM_STAT.MEAS == 0) && after (.timeBeaconRx 8 1000 (b 128)) (st u) (fun t => t.get Reg.TM_STAT.MEAS == 0) &&
     after (.timeBeaconRx 9 1000 (b 128)) (st (fU.put Reg.TM_CFG.SRC 9)) (fun t => t.get Reg.TM_STAT.MEAS == 0 && (t.pt 9).rxCap == some 1000)) = true := by decide +kernel

theorem test_gptp :
    (let l := fU.put (Reg.PORT_STAT.LINK (portPage 6)) 1
     after (.announceRx 6 ⟨128, 1, 2, 77, 1, 9⟩) (st l) (fun t => t.get (Reg.PORT_STAT.GP_SLAVE (portPage 6)) == 1 && t.tm.gm == some 77) &&
     after (.announceRx 5 ⟨128, 1, 2, 77, 1, 9⟩) (st l) (fun t => t.tm.gm == none) &&
     after (.pdelayReqRx 6 11 12) (st l) (fun t => (t.pt 6).wire == [.gptp 3 11, .gptp 10 12]) && after (.pdelayInterval 6 4) (st l) (fun t => t.now == 100000000 && (t.pt 6).wire == [.gptp 2 4]) &&
     after (.pdelayRespRx 6 801) (st (l.put (Reg.PORT_STAT.GP_SLAVE (portPage 6)) 1)) (fun t => t.get Reg.TM_STAT.AS_CAPABLE == 0) &&
     after (.pdelayRespRx 6 800) (st (l.put (Reg.PORT_STAT.GP_SLAVE (portPage 6)) 1)) (fun t => t.get Reg.TM_STAT.AS_CAPABLE == 1 && (t.pt 6).asCapable) &&
     after (.pdelayReqRx 4 11 12) (st l) (fun t => (t.pt 4).wire == [])) = true := by decide +kernel

theorem test_cb :
    (let x : CbStream := ⟨5, false, 65535, 0b101, 0⟩
     (x.recover 3 65535 9).1 == false && (x.recover 3 0 9).1 && (x.recover 3 65534 9).1 && !(x.recover 3 65533 9).1 && (x.recover 3 2 9) == (false, x) && (({ x with any := true } : CbStream).recover 3 7 9).1 &&
     after (.cbResetTimer 5) (st { u0 with cb := [x] }) (fun t => t.cb == [{ x with any := true, hist := 0 }] && t.now == 100000) &&
     after (.cbResetTimer 4) (st { u0 with cb := [x] }) (fun t => t.cb == [x])) = true := by decide +kernel


/-! ### Chapter 15 -/

/-- Entry 0 of the active table: extended CAN identifier 5 of port 8 to CAN port 9, base identifier 6, bytes swapped in pairs. -/
def brE : List Nat := [5, 0x81, 6, 9 * 2 ^ 28 + 2 ^ 22]

def brU : Chip := let u := u0.put Reg.BR_TBL_STAT.COUNT 1; { u with br := { u.br with tbl0 := [(0, brE)] } }

def brFr (n : Nat) : PortRx := .can 5 true false false (List.replicate n 1 ++ [2]) true

theorem test_bridge_frame :
    (brU.dataPort 8 && brU.brLookup 8 ⟨1, 5, [1, 2], 0, 0⟩ == some (0, brE) &&
     after (.bridgeFrame 8 (brFr 1)) (st brU) (fun t => t.br.egress.getD 9 [] == [⟨0, 6, [2, 1], 0, 0⟩]) &&
     after (.bridgeFrame 8 (brFr 2)) (st brU) (fun t => t.br == brU.br && t.get Reg.BR_CNT1.ALIGN == 1) &&
     after (.bridgeFrame 8 (brFr 9)) (st brU) (fun t => t.br == brU.br && t.get Reg.BR_CNT1.TOO_BIG == 1) &&
     after (.bridgeFrame 9 (brFr 1)) (st brU) (fun t => t.br == brU.br && t.get Reg.BR_CNT0.MISS == 1) &&
     after (.bridgeFrame 8 (brFr 1)) (st (brU.modPt 9 (fun r => { r with cfg := 2 ^ 31 }))) (fun t => t.br == brU.br && t.get Reg.BR_CNT0.MISS == 1) &&
     after (.bridgeFrame 8 (brFr 1)) (st (brU.modPt 8 (fun r => { r with cfg := 0 }))) (fun t => t.get Reg.BR_CNT0.MISS == 0)) = true := by decide +kernel

theorem test_bridge_tx :
    (let u := { brU with br := { brU.br with egress := modAt brU.br.egress 9 (fun _ => [⟨0, 6, [2, 1], 0, 0⟩]) } }
     after (.bridgeEgressTx 9) (st u) (fun t => t.br.egress.getD 9 [] == [] && (t.pt 9).wire == [.can false false 6 [2, 1]]) &&
     after (.bridgeEgressTx 8) (st u) (fun t => t.br == u.br) && after (.rs485IdleDiscard 1) (st u) (fun t => t.get (Reg.PORT_CNT.RXERR (portPage 13)) == 1)) = true := by decide +kernel

/-- The lock of the bridge is open for core 3. -/
def brOpen : Chip := ((brU.put (Reg.BLK_LOCK.OPEN 0x42000000) 1).put (Reg.BLK_LOCK.OWNER 0x42000000) 3).put Reg.BR_TBL_IDX.IDX 4095

theorem test_table_w3 :
    (u0.attends 0x42000000 && brOpen.lockOpen 0x42000000 3 &&
     after (.brTblW3Write 3 77) (st (brOpen.put (Reg.BR_TBL_W.W 1) 9)) (fun t => t.resp == .ok && t.get Reg.BR_TBL_IDX.IDX == 0 && brEntry t.brShadow 4095 == [0, 9, 0, 77] && t.br.tbl0 == brU.br.tbl0) &&
     after (.brTblW3Write 4 77) (st brOpen) (fun t => t.resp == .error && t.br == brU.br)) = true := by decide +kernel

theorem test_table_commit :
    (let w := fun (l : List (Nat × List Nat)) => st { brU with br := { brU.br with tbl1 := l } }
     after (.tableCommit 2) (w [(0, brE), (1, [6, 0x81, 6, 15 * 2 ^ 28])]) (fun t => t.get Reg.BR_STAT.BANK == 1 && t.get Reg.BR_TBL_STAT.COUNT == 2 && t.get Reg.BR_TBL_STAT.STATUS == 0) &&
     after (.tableCommit 2) (w [(1, brE), (0, [6, 0x81, 6, 15 * 2 ^ 28])]) (fun t => t.get Reg.BR_STAT.BANK == 0 && t.get Reg.BR_TBL_STAT.COUNT == 1 && t.get Reg.BR_TBL_STAT.STATUS == 1) &&
     after (.tableCommit 1) (w [(0, [5, 0x84, 6, 15 * 2 ^ 28])]) (fun t => t.get Reg.BR_STAT.BANK == 0 && t.get Reg.BR_TBL_STAT.STATUS == 2)) = true := by decide +kernel

/-- Region 3 of CAN port 8: base 0x10000, 4 KB, up to 4 bytes, writes permitted; window 0 shows it from 0x200 on. -/
def brG : BrRegion := ⟨0x10000, 2 ^ 31 + 2 ^ 28 + 2 * 2 ^ 24 + 8 * 2 ^ 20 + 12 * 2 ^ 15 + 2 ^ 8, 0x17, 0x17⟩

def winU : Chip :=
  let u := ((brU.put (Reg.BR_WSEL.REGION 0) 3).put (Reg.BR_WSEL.EN 0) 1).put (Reg.BR_WSEL.WOFF 0) 8
  { u with br := { u.br with regions := modAt u.br.regions 3 (fun _ => brG) } }

def winSlot (x : SlotSt) : Chip :=
  { winU with br := { winU.br with slots := modAt winU.br.slots 0 (fun _ => { st := x, req := 4, region := 3, addr := 0x10260, size := 2, data := [0xCD, 0xAB, 0x34, 0x12] }) } }

/-- Table 15.6: offset 0x0A0 maps to 0x0001_0260. -/
theorem test_window_read :
    (winU.winTarget 0 0xA0 == some (3, brG, 0x10260) && winU.winTarget 0 0x3F == none && winSize brG 0x10260 4 == some 2 && winSize brG 0x10262 4 == none && winSize brG 0x10260 8 == none &&
     after (.windowRead 4 0 0xA0 4) (st winU) (fun t => t.resp == .retry && (t.br.slots.getD 0 {}).addr == 0x10260 && (t.br.slots.getD 0 {}).st == .issued && t.get Reg.BR_STAT.SLOTS == 1 &&
       t.br.egress.getD 8 [] == [⟨1, 0x17, brMessage 2 2 0 0x10260 [], 0, 0⟩]) &&
     after (.windowRead 4 0 0xA0 4) (st (winSlot .issued)) (fun t => t.resp == .retry && t.br == (winSlot .issued).br) &&
     after (.windowRead 4 0 0xA0 4) (st (winSlot .ready)) (fun t => t.resp == .data 0x1234ABCD && (t.br.slots.getD 0 {}).st == .free) &&
     after (.windowRead 4 0 0xA0 4) (st (winSlot .error)) (fun t => t.resp == .error && (t.br.slots.getD 0 {}).st == .free) &&
     after (.windowRead 7 0 0xA0 4) (st (winSlot .ready)) (fun t => t.resp == .error && t.br == (winSlot .ready).br)) = true := by decide +kernel

theorem test_window_limits :
    (let full := { winU with br := { winU.br with slots := (List.range 64).map (fun k => if k < 16 then { st := .issued, req := 4, region := 2 } else {}) } }
     let q := { winU with br := { winU.br with writes := (List.range 32).map (fun k => ⟨64 + k, 3, 0, 0⟩) } }
     after (.windowRead 4 0 0xA0 4) (st full) (fun t => t.resp == .retry && t.br.slots == full.br.slots) &&
     after (.windowWrite 4 0 0xA0 [1, 2, 3, 4]) (st winU) (fun t => t.resp == .ok && t.br.writes == [⟨64, 3, 0x10260, 0⟩] &&
       t.br.egress.getD 8 [] == [⟨1, 0x17, brMessage 1 2 64 0x10260 [4, 3, 2, 1], 0, 0⟩]) &&
     after (.windowWrite 4 0 0xA0 [1, 2, 3, 4]) (st q) (fun t => t.resp == .retry && t.br.writes == q.br.writes) &&
     after (.windowWrite 4 0 0xA0 [1, 2, 3]) (st winU) (fun t => t.resp == .error && t.br == winU.br)) = true := by decide +kernel

def brRsp (b : List Byte) : PortRx := .can 0x17 true false false b true

theorem test_read_response :
    (after (.readResponse 8 (brRsp (brMessage 3 2 0 0x10260 [0x12, 0x34, 0xAB, 0xCD]))) (st (winSlot .issued)) (fun t => (t.br.slots.getD 0 {}).st == .ready &&
       (t.br.slots.getD 0 {}).data == [0xCD, 0xAB, 0x34, 0x12]) &&
     after (.readResponse 8 (brRsp (brMessage 3 1 0 0x10260 [0x12, 0x34]))) (st (winSlot .issued)) (fun t => t.br == (winSlot .issued).br) &&
     after (.readResponse 8 (brRsp (brMessage 3 2 0 0x10260 [0x12, 0x34, 0xAB, 0xCD]))) (st (winSlot .error)) (fun t => t.br == (winSlot .error).br && t.get Reg.BR_CNT2.LATE_RSP == 1) &&
     after (.readResponse 8 (brRsp (brMessage 5 2 0 0x10260 []))) (st (winSlot .issued)) (fun t => (t.br.slots.getD 0 {}).st == .error && t.reports 64 2 [0, 3, 0x10260, 2])) = true := by decide +kernel

theorem test_write_answer :
    (let u := { winU with br := { winU.br with writes := [⟨70, 3, 0x10260, 5⟩] } }
     after (.writeAck 8 (brRsp (brMessage 4 2 70 0x10260 []))) (st u) (fun t => t.br.writes == [] && t.intake.staged == []) &&
     after (.writeAck 8 (brRsp (brMessage 5 2 70 0x10260 []))) (st u) (fun t => t.br.writes == [] && t.reports 64 3 [3, 0x10260, 2]) &&
     after (.responseTimeout 70) (st u) (fun t => t.br.writes == [] && t.now == 100005 && t.reports 64 3 [3, 0x10260, 1]) &&
     after (.responseTimeout 0) (st (winSlot .issued)) (fun t => (t.br.slots.getD 0 {}).st == .error && t.now == 100000)) = true := by decide +kernel

theorem test_dr_timeout :
    (after (.drTimeout 0) (st (winSlot .ready)) (fun t => t.now == 100000 && t.get Reg.BR_ORPH_ADDR.VAL == 0x10260 && t.get Reg.BR_ORPH_DATA.VAL == 0x1234ABCD && t.get Reg.BR_ORPH_INFO.REGION == 3 &&
       t.get Reg.BR_ORPH_INFO.REQ == 1 && t.get Reg.BR_ORPH_INFO.SIZE == 2 && t.get Reg.BR_ORPH_INFO.VALID == 1) &&
     after (.drTimeout 0) (st ((winSlot .ready).put Reg.BR_ORPH_INFO.VALID 1)) (fun t => t.get Reg.BR_ORPH_INFO.LOST == 1) &&
     after (.drTimeout 1) (st (winSlot .ready)) (fun t => t.now == 0) &&
     after (.drTimeout 0) (st (let u := winSlot .ready; { u with br := { u.br with regions := modAt u.br.regions 3 (fun g => { g with ctl := g.ctl + 2 ^ 29 }) } })) (fun t =>
       t.get (Reg.BR_PFDISC.COUNT 3) == 1 && t.get Reg.BR_ORPH_INFO.VALID == 0)) = true := by decide +kernel

theorem test_region_commit :
    (after .regionCommit (st winU) (fun t => t.br.regions == List.replicate 16 ⟨0, 2 * 2 ^ 24 + 12 * 2 ^ 15, 0, 0⟩ && t.get Reg.BR_REG_STAT.STATUS == 0) &&
     after .regionCommit (st (winSlot .ready)) (fun t => t.br == (winSlot .ready).br && t.get Reg.BR_REG_STAT.STATUS == 3) &&
     after .regionCommit (st (((winU.put (Reg.BR_RCTL.VALID 2) 1).put (Reg.BR_RCTL.SIDE 2) 1).put (Reg.BR_RCTL.PREFETCH 2) 1)) (fun t => t.br == winU.br && t.get Reg.BR_REG_STAT.STATUS == 1 &&
       t.get Reg.BR_REG_STAT.REGION == 2)) = true := by decide +kernel

theorem test_inbound :
    (let m := fun (b : List Byte) => st { (brU.put Reg.BR_IN_CFG.WR_EN 1) with br := { brU.br with inbound := [⟨9, 0, 6, b⟩] } }
     after .inboundMessage (m (brMessage 1 1 7 0x20000010 [0x12, 0x34])) (fun t => t.msram == [(0x20000010, 0x34), (0x20000011, 0x12)] && t.br.inbound == [] &&
       t.br.egress.getD 9 [] == [⟨0, 6, brMessage 4 1 7 0x20000010 [], 0, 0⟩]) &&
     after .inboundMessage (m (brMessage 1 1 7 0x20001000 [0x12, 0x34])) (fun t => t.msram == [] && t.br.egress.getD 9 [] == [⟨0, 6, brMessage 5 1 7 0x20001000 [], 0, 0⟩]) &&
     after .inboundMessage (m (brMessage 2 1 7 0x20000010 [])) (fun t => t.br.egress.getD 9 [] == [⟨0, 6, brMessage 3 1 7 0x20000010 [0, 0], 0, 0⟩])) = true := by decide +kernel

/-- Table 15.7: the check values of presets 3 and 5. -/
theorem test_cvu_presets :
    (let d : List Byte := [0x31, 0x32, 0x33, 0x34, 0x35, 0x36, 0x37, 0x38, 0x39]
     let w := fun (i : Nat) => (((u0.put (Reg.BLK_LOCK.OPEN (cvuPage i)) 1).put (Reg.BLK_LOCK.OWNER (cvuPage i)) 3))
     u0.attends (cvuPage 7) && ((u0.cvuPreset 1 3).cvuFrame 1 d).get (Reg.CVU_RES.VAL 1) == 0x4B37 && ((u0.cvuPreset 1 5).cvuFrame 1 d).get (Reg.CVU_RES.VAL 1) == 0xE3069283 &&
     after (.cvuPresetWrite 3 7 (3 * 2 ^ 28)) (st (w 7)) (fun t => t.cvuParam 7 == ⟨16, 0x8005, 0xFFFF, true, true, 0⟩ && t.get (Reg.CVU_CFG.PRESET 7) == 3)) = true := by decide +kernel

theorem test_cvu_feed :
    (let u := (u0.cvuPreset 1 5).put (Reg.CVU_VAL.VAL 1) 0xFFFFFFFF
     let w := ((u0.cvuPreset 2 5).put (Reg.CVU_CFG.MODE 2) 2).put (Reg.CVU_LEN.LEN 2) 2
     after (.cvuFeedWrite 1 0x34333231) (st u) (fun t => t.get (Reg.CVU_VAL.VAL 1) == (u.cvuFrame 1 [0x31, 0x32, 0x33, 0x34]).get (Reg.CVU_VAL.VAL 1)) &&
     after (.cvuFeedBWrite 1 0x31) (st u) (fun t => t.get (Reg.CVU_VAL.VAL 1) == (u.cvuFrame 1 [0x31]).get (Reg.CVU_VAL.VAL 1)) &&
     after (.cvuValWrite 3 true 5) (st ((u0.put (Reg.CVU_CFG.WIDTH 3) 64).put (Reg.CVU_VAL.VAL 3) 7)) (fun t => t.get (Reg.CVU_VAL.VAL 3) == 5 * 2 ^ 32 + 7) &&
     after (.rangeWriteAbsorb 0 [1, 2]) (st w) (fun t => t.get (Reg.CVU_VAL.VAL 2) == (w.cvuAbsorb 2 [1, 2]).get (Reg.CVU_VAL.VAL 2) && t.get (Reg.CVU_VAL.VAL 1) == 0)) = true := by decide +kernel


/-! ### Shared fabric and event intake (chapter 16) -/

/-- One target of the fabric with given requests waiting and queued. -/
def fabT (t : Nat) (w q : List FabReq) : Chip := u0.modTarget t (fun g => { g with waiting := w, queue := q })

theorem test_fabric_request :
    (after (.fabricRequest 3 0x100000000 false) (st u0) (fun t => (t.target 0).waiting == [⟨3, 0x100000000, false, 0, 0⟩] && t.outOf 3 == 1 && t.get Reg.ARB_OUT.NOW == 1) &&
     after (.fabricRequest 0 0x100000000 false) (st u0) (fun t => t.reports 27 2 [0, 0, 0x100000000] && t.get Reg.ARB_ERR.CAUSE == 2 && (t.cic.get 0).pend == 2 ^ 113 && t.resp == .error) &&
     after (.fabricRequest 3 0 false) (st { u0 with fab := { u0.fab with out := modAt u0.fab.out 3 (fun _ => 20) } }) (fun t => t.fab.out.getD 3 0 == 20 && (t.target 0).waiting == [])) = true := by decide +kernel

theorem test_fabric_denied :
    (after (.fabricRequest 9 0x70000000 false) (st u0) (fun t => t.reports 27 1 [9, 15, 0x70000000] && t.get Reg.ARB_ERR_INFO.TGT == 15 && regionOf 0x70000000 == .none) &&
     after (.fabricRequest 3 0x100000000 false) (st (u0.modTarget 0 (fun g => { g with hung := true }))) (fun t => t.get Reg.ARB_ERR.CAUSE == 4 && t.resp == .error && (t.target 0).waiting == [])) = true := by decide +kernel

/-- Table 16.7: ID 3 first, then 4; the last credit reloads them all. -/
theorem test_round_robin :
    (let w : List FabReq := [⟨3, 0, false, 0, 0⟩, ⟨4, 0, false, 0, 0⟩, ⟨7, 0, false, 0, 0⟩]
     after (.arbitrationDecision 0 1) (st (fabT 0 w [])) (fun t => (t.target 0).queue == [⟨3, 0, false, 0, 0⟩] && (t.target 0).pointer == 4 && (t.target 0).credits == [3, 4, 4, 4, 4, 4, 4] &&
       (t.target 0).ages == [0, 1, 0, 0, 1, 0, 0] && t.get (Reg.ARB_LAT.MAX 0) == 1) &&
     after (.arbitrationDecision 0 1) (st ((fabT 0 w []).modTarget 0 (fun g => { g with pointer := 5, ages := [0, 64, 0, 0, 2, 0, 0] }))) (fun t => (t.target 0).queue.map (·.req) == [4] && (t.target 0).pointer == 5) &&
     after (.arbitrationDecision 0 1) (st ((fabT 0 w []).modTarget 0 (fun g => { g with credits := [0, 0, 0, 0, 0, 0, 0], pointer := 8 }))) (fun t => (t.target 0).queue.map (·.req) == [3] &&
       (t.target 0).credits == [3, 4, 4, 4, 4, 4, 4])) = true := by decide +kernel

theorem test_reserved_slot :
    (after (.arbitrationDecision 5 5) (st (fabT 5 [⟨3, 0, false, 0, 0⟩, ⟨1, 8, false, 0, 0⟩] [])) (fun t => (t.target 5).queue == [⟨1, 8, false, 0, 0⟩] && (t.target 5).ages == List.replicate 7 0) &&
     after (.arbitrationDecision 5 5) (st (fabT 5 [⟨3, 0, false, 0, 0⟩] [])) (fun t => (t.target 5).queue == [⟨3, 0, false, 0, 0⟩]) &&
     after (.arbitrationDecision 0 1) (st (fabT 0 [⟨3, 0, false, 0, 0⟩, ⟨4, 0, false, 68, 0⟩] [])) (fun t => t.get Reg.ARB_ERR.CAUSE == 8)) = true := by decide +kernel

theorem test_fabric_response :
    (after (.fabricResponse 1) (st (fabT 1 [] [⟨3, 0, false, 0, 0⟩, ⟨4, 0, false, 0, 0⟩])) (fun t => (t.target 1).queue == [⟨4, 0, false, 0, 0⟩]) &&
     after (.arbHung 1) (st (fabT 1 [] [⟨3, 0x40, false, 0, 7⟩])) (fun t => (t.target 1).hung && (t.target 1).queue == [] && t.reports 27 3 [3, 1, 0x40] && t.now == 10007) &&
     after (.arbHung 5) (st (fabT 5 [] [⟨3, 0x40, false, 0, 7⟩, ⟨2, 0, false, 0, 7⟩])) (fun t => (t.cic.get 2).pend == 2 ^ 114)) = true := by decide +kernel

/-- The source of a channel's firmware, with an event of it staged. -/
def evU : Chip := u0.raise 19 7 [1]

theorem test_event_raise :
    (after (.eventRaise 27 1 [3]) (st u0) (fun t => t.reports 27 1 [3] && t.get Reg.INT_STAT.FULL == 1) &&
     after (.eventRaise 19 8 [2]) (st evU) (fun t => t.intake.staged.length == 1 && t.get (Reg.INT_LOST.COUNT 19) == 1 && t.intake.lost == [⟨19, 1, 0⟩]) &&
     after (.eventRaise 5 1 []) (st u0) (fun t => t == u0)) = true := by decide +kernel

theorem test_int_asm :
    (u0.attends 0x40901040 && u0.attends 0x40901070 &&
     after (.intAsmWrite 4 2 0x1234) (st u0) (fun t => (t.intake.asm.getD 4 []).getD 2 0 == 0x1234 && t.resp == .ok) &&
     after (.intRaise 4) (st ((u0.asmWrite 4 0 0x70022).asmWrite 4 1 9)) (fun t => t.intake.staged == [{ src := 97, code := 0x22, data := 9 :: List.replicate 9 0, stamp := 0, inj := false, raw := true }]) &&
     after (.intRaise 0) (st evU) (fun t => t.get Reg.INT_LOSTSUM.COUNT == 1 && t.resp == .ok) &&
     after (.intRaise 9) (st u0) (fun t => t.get (Reg.BLK_ERR.PLANE 0x40901000) == 1)) = true := by decide +kernel

theorem test_event_merge :
    (let l := fun (p : Nat) => { evU with intake := { evU.intake with staged := [⟨27, 1, [], 5, false, false⟩, ⟨22, 1, [], 5, false, false⟩, ⟨4, 1, [], 6, false, false⟩] } }.put Reg.EVR_CF.PEND p
     after .eventMerge (st (l 0)) (fun t => (t.evr.port.map (·.src)) == some 22 && t.intake.staged.map (·.src) == [27, 4]) &&
     after .eventMerge (st (l 4096)) (fun t => t.evr.port == none && t.get Reg.INT_STAT.STALL == 1 && t.intake.staged.length == 3)) = true := by decide +kernel

theorem test_lost_record :
    (let u := evU.raise 19 8 []
     after (.lostRecordStage 19) (st u) (fun t => t == u) &&
     after (.lostRecordStage 19) (st { u with intake := { u.intake with staged := [] } }) (fun t => t.reports 19 0xFF [1, 0] && t.intake.lost == [])) = true := by decide +kernel

/-! ### Event recorder (chapter 17) -/

/-- The recorder in RUN with a formatted log of 8 Headwater and 8,192 Eddy slots, and `n` records of source 22 pending. -/
def evrU (n : Nat) : Chip :=
  foldUpTo n ((((u0.put Reg.EVR_STAT.STATE 1).put Reg.EVR_FMT_N.COUNT 8).put Reg.EVR_FMT_M.COUNT 8192).evrFormat.put Reg.EVR_CF.PEND 0)
    (fun u k => u.evrStore ⟨22, 1, [k], k, false, true⟩)

/-- A flush of the first two of them runs. -/
def evrFl : Chip := ({ evrU 2 with evr := { (evrU 2).evr with trig := true } }).evrFlushStart

/-- With an event at the write port and a given PEND. -/
def evrPort (src st pend : Nat) : Chip := (({ evrU 0 with evr := { (evrU 0).evr with port := some ⟨src, 3, [], 7, false, false⟩ } }).put Reg.EVR_STAT.STATE st).put Reg.EVR_CF.PEND pend

theorem test_record_entry :
    (after .recordEntry (st (evrPort 22 2 5)) (fun t => t.evr.port == none && t.get Reg.EVR_CF.PEND == 6 && (t.evr.carafe.find? (fun e => e.1 == 5)).map (fun e => (e.2.ev.src, e.2.time)) == some (22, 70)) &&
     after .recordEntry (st (evrPort 22 3 3686)) (fun t => t.get Reg.EVR_CF.PEND == 3688 && t.evrState == 2) &&
     after .recordEntry (st (evrPort 16 3 5)) (fun t => t.evr.trig && !t.evr.trigFault && t.evrState == 3) &&
     after .recordEntry (st (evrPort 16 2 4096)) (fun t => t.evr.port != none)) = true := by decide +kernel

theorem test_flush_triggers :
    (after .flushTimer (st (evrU 1)) (fun t => t.evr.trig && t.now == 100000000) && after .flushTimer (st u0) (fun t => t == u0) &&
     after .flushHalf (st { evrU 1 with evr := { (evrU 1).evr with half := true } }) (fun t => t.evr.trig && t.get (Reg.IRQ.RAW evrPage) == 2) &&
     after .flush (st (evrU 1)) (fun t => t.evr.trig && t.resp == .ok) && (evrU 1).attends 0x4450004C) = true := by decide +kernel

theorem test_flush :
    (after .flushStart (st { evrU 2 with evr := { (evrU 2).evr with trig := true } }) (fun t => (t.evr.flush.map (fun f => f.eddy.map (fun r => (r.seq, r.ev.data)))) == some [(0, [0]), (1, [1])] &&
       t.get Reg.EVR_SEQ.VAL == 2) &&
     after .emmcWriteDone (st evrFl) (fun t => t.get Reg.EVR_CF.PEND == 0 && t.get Reg.EVR_CF.HEAD == 2 && t.log.eddy.map (·.1) == [0, 1] && (t.evr.flush.map (·.eddy)) == some []) &&
     after .emmcWriteDone (st { evrFl with evr := { evrFl.evr with flush := evrFl.evr.flush.map (fun f => { f with eddy := [], hw := f.hw.map (fun r => { r with seq := 7 }) }) } }) (fun t =>
       t.get Reg.EVR_HWFILL.VAL == 8 && t.get Reg.EVR_STAT.HW_FULL == 1)) = true := by decide +kernel

theorem test_emmc_fail :
    (after (.emmcWriteFail 3) (st evrFl) (fun t => t.evr.tries == 1 && t.evrState == 2) &&
     after (.emmcWriteFail 3) (st { evrFl with evr := { evrFl.evr with tries := 3 } }) (fun t => t.evrState == 5 && t.get Reg.FLT_CNT.NONSAFETY == 1 && t.evr.flush == none)) = true := by decide +kernel

/-- A log on eMMC: PCC 6, BASE 3 and one record with SEQ 11. -/
def evrLog : Chip := { u0 with evr := { u0.evr with logs := [(0, { sb0 := some ⟨8, 8192, 6, 3, 4⟩, sb1 := some ⟨8, 8192, 5, 3, 3⟩, eddy := [(8, { ev := ⟨22, 1, List.replicate 10 0, 0, false, true⟩, time := 0, tsrc := 3, seq := 11, pcc := 6, taken := true })] })] } }

theorem test_log_recovery :
    (after .logRecoveryDone (st u0) (fun t => t.evrState == 1) &&
     after .logRecoveryDone (st evrLog) (fun t => t.evrState == 2 && t.get Reg.EVR_PCC.VAL == 7 && t.get Reg.EVR_SEQ.VAL == 12 && t.get Reg.EVR_BASE.VAL == 3 &&
       t.log.best.map (fun b => (b.pcc, b.gen)) == some (7, 5) && t.evr.carafe.map (fun e => (e.1, e.2.ev.data)) == [(0, [7, 1, 0, 11])])) = true := by decide +kernel

theorem test_freeze_format :
    (after .freeze (st (evrU 0)) (fun t => t.evrState == 3 && t.get Reg.EVR_STAT.CMD_ERR == 0) && after .unfreeze (st (evrU 0)) (fun t => t.evrState == 2 && t.get Reg.EVR_STAT.CMD_ERR == 1) &&
     after .unfreeze (st (evrPort 22 3 0)) (fun t => t.evrState == 2 && t.get Reg.EVR_CF.PEND == 1) && after .format (st u0) (fun t => t.evrState == 0 && t.get Reg.EVR_STAT.CMD_ERR == 1) &&
     after .format (st (((u0.put Reg.EVR_STAT.STATE 1).put Reg.EVR_FMT_N.COUNT 8).put Reg.EVR_FMT_M.COUNT 8192)) (fun t => t.evrState == 2 && t.get Reg.EVR_M.VAL == 8192 && t.log.best == some ⟨8, 8192, 0, 0, 1⟩)) = true := by decide +kernel

theorem test_spillway :
    (let u := fun (v : Chip) => st { v with link := { v.link with resetDown := [0] } }
     after .spillwayStart (u (evrU 1)) (fun t => t.evrState == 4 && t.get Reg.EVR_CF.PEND == 2 && t.link.resetDown == [] && t.evr.trig) &&
     after .spillwayStart (u (u0.put Reg.EVR_STAT.STATE 1)) (fun t => t.evrState == 1) &&
     after .spillwayIntakeClose (st { evrU 0 with evr := { (evrU 0).evr with spill := some ⟨0, 5, 0, 0, false, false, []⟩ } }) (fun t => t.evrRefuses && t.now == 100005)) = true := by decide +kernel

theorem test_window :
    (let u := evrLog.put Reg.EVR_CURSOR.INDEX 11
     let f := fun (v : Chip) => st { v with evr := { v.evr with fetching := true } }
     u0.attends 0x44501040 && u0.attends 0x445010BC && after (.evrCursorWrite 11) (st u0) (fun t => t.get Reg.EVR_CURSOR.INDEX == 11 && t.evr.fetching) &&
     after .windowFetchDone (f u) (fun t => t.get (Reg.EVR_WIN.DATA 14) == 11 && t.get Reg.EVR_STAT.GONE == 0) && after .windowFetchDone (f evrLog) (fun t => t.get Reg.EVR_STAT.GONE == 1 && t.get Reg.EVR_STAT.WIN_READY == 1) &&
     after .evrWin15Read (st (u.put Reg.EVR_STAT.WIN_READY 1)) (fun t => t.get Reg.EVR_CURSOR.INDEX == 12 && t.evr.fetching) &&
     after .evrWin15Read (st u) (fun t => t.resp == .error && t.get (Reg.BLK_ERR.ACCESS 0x44501000) == 1)) = true := by decide +kernel

theorem test_eddy_clear :
    (let u := ((evrU 0).put Reg.EVR_LOGCV.VAL 0x700000005).put Reg.EVR_CLR.CV 5
     let v := { u.put Reg.WR_STAT.MAINT 1 with svc := { u.svc with connected := true } }
     u0.attends 0x445010C4 && after (.evrClrHiWrite 3 6) (st u) (fun t => t.get Reg.EVR_CLR_STAT.RESULT == 2) && after (.evrClrHiWrite 3 7) (st u) (fun t => t.get Reg.EVR_CLR_STAT.RESULT == 3) &&
     after (.evrClrHiWrite 3 7) (st v) (fun t => t.evr.clear == some ⟨0x700000005, false, false, 0⟩ && t.evr.trig) && after (.evrClrHiWrite 0 7) (st v) (fun t => t.evr.clear == none && t.resp == .error) && after (.evrClrHiWrite 7 7) (st v) (fun t => t.evr.clear == none && t.resp == .ok) &&
     after .emmcWriteDone (st { evrLog.put Reg.EVR_BASE.VAL 12 with evr := { evrLog.evr with clear := some ⟨9, true, true, 3⟩ } }) (fun t => t.log.eddy == [] && t.get Reg.EVR_CLR_STAT.RESULT == 1 &&
       t.evr.carafe.map (fun e => (e.1, e.2.ev.data)) == [(4095, [3, 11, 1, 9])])) = true := by decide +kernel

/-! ### Percolator (chapter 18) -/

/-- Channel A in ACTIVE with both twins halted, Confluence in a given mode, and engine A running a slice at a position. -/
def pcU (mode : Nat) : Chip :=
  (((u0.put (Reg.CH_STATE.STATE 0) 3).modChan 0 (fun h => { h with logic := { h.logic with held := true }, link := { h.link with held := true } })).put Reg.CF_MODE.MODE mode).put (Reg.PERC_CFG.EN 0x40B00000) 1

def pcRun (mode : Nat) (p : Nat × Nat) : Chip :=
  (((pcU mode).sliceBegin 0 0).modPerc 0 (fun q => { q with pos := [p, (0, 0), (0, 0)] })).put Reg.WR_STAT.SAFE 0

/-- An entry in use. -/
def pcSpare : Chip := (u0.modPerc 1 (fun p => { p with spares := [(9, Spare.mk true false 45 :: List.replicate 5 {})] })).put (Reg.BLK_LOCK.OPEN 0x40B04000) 1

theorem test_slice_start :
    (after (.percSliceStart 0) (st (pcU 3)) (fun t => (t.percOf 0).running == [(0, 0)]) && after (.percSliceStart 1) (st (pcU 3)) (fun t => t == pcU 3) &&
     after .schedSliceTimer (st ((u0.put (Reg.PERC_CFG.EN 0x44600000) 1).put (Reg.PERC_GRP.GRP_EN 0x44600000) 6)) (fun t => (t.percOf 3).running == [(1, 0), (2, 0)] && t.evrRefuses)) = true := by decide +kernel

theorem test_slice_pass :
    (after (.percSliceDone 0 0 (.pass 2)) (st (pcRun 3 (31, 127))) (fun t => (t.percOf 0).pos.getD 0 (5, 5) == (0, 0) && t.get (Reg.PERC_CNT.PASSES 0x40B00000) == 1 && t.get (Reg.PERC_CNT.CORR 0x40B00000) == 2 &&
       t.now == 276 && !(t.chan 0).link.held) &&
     after (.percSliceDone 0 0 (.pass 0)) (st (pcRun 3 (3, 126))) (fun t => (t.percOf 0).pos.getD 0 (5, 5) == (3, 127)) && after (.percSliceDone 0 0 .parity) (st (pcU 3)) (fun t => t == pcU 3)) = true := by decide +kernel

/-- Table 18.4: word 0x5BC0 of macro 9, bit 37: spare row 0 replaces row 45. -/
theorem test_slice_fail :
    (let r := SliceEnd.fail 0 2 120 (2 ^ 37) 0
     let f := fun (t : Chip) => t.get (Reg.PERC_FADDR.ADDR 0x40B00000) == 0x10245BC0 && t.get (Reg.PERC_FINFO.BIT 0x40B00000) == 37 && t.get (Reg.PERC_CNT.FAILS 0x40B00000) == 1
     after (.percSliceDone 0 0 r) (st (pcRun 3 (9, 11))) (fun t => f t && ((t.percOf 0).spareList 9).head? == some ⟨true, false, 45⟩ && t.chState 0 == 4 && t.get (Reg.CH_LOSS.CAUSE 0) == 9) &&
     after (.percSliceDone 0 0 r) (st (pcRun 2 (9, 11))) (fun t => f t && t.chState 0 == 3 && (t.percOf 0).spares == [] && (t.percOf 0).pending == [⟨9, 2936, 2 ^ 37⟩]) &&
     after (.percSliceDone 0 0 r) (st ((pcRun 3 (9, 11)).put Reg.WR_STAT.SAFE 1)) (fun t => f t && t.chState 0 == 3 && (t.percOf 0).spares == [])) = true := by decide +kernel

theorem test_spare_choice :
    (let u : Spare := ⟨true, false, 0⟩
     let z : Spare := {}
     let p : Perc := { seen := [(9, 37 * 64 + 56, 3)], spares := [(2, [u, u, u, u, z, u]), (3, List.replicate 6 u)] }
     p.choose 9 2936 (2 ^ 37) == some 4 && p.choose 9 2936 3 == some 0 && p.choose 2 0 1 == some 4 && p.choose 3 0 1 == none) = true := by decide +kernel

theorem test_fuse :
    (let u := pcSpare.put (Reg.BLK_LOCK.OWNER 0x40B04000) 7
     let v := u.put Reg.WR_STAT.MAINT 1
     pcSpare.attends 0x40B04000 && after (.percFuseGo 7 1 (2 ^ 31 + 9)) (st u) (fun t => t.get (Reg.PERC_FSTAT.RESULT 0x40B04000) == 4) &&
     after (.percFuseGo 7 1 (2 ^ 31 + 9)) (st v) (fun t => (t.percOf 1).fuse == some ⟨200000, 9, 0, 0⟩ && t.resp == .ok) &&
     after (.percFuseGo 7 1 (2 ^ 31 + 8)) (st v) (fun t => t.get (Reg.PERC_FSTAT.RESULT 0x40B04000) == 2) && after (.percFuseGo 3 1 0) (st v) (fun t => t.resp == .error) &&
     after (.fuseDone 1) (st (v.fuseWrite 1 (2 ^ 31 + 9) 5)) (fun t => (t.percOf 1).fuses == [(9, 0, 45)] && ((t.percOf 1).spareList 9).head? == some ⟨true, true, 45⟩ && t.reports 30 5 [9, 0, 5])) = true := by decide +kernel

/-! ### Power controller (chapter 19) -/

/-- A given state and phase of the power controller. -/
def pwU (state phase : Nat) : Chip := (u0.put Reg.PWR_STAT.STATE state).put Reg.PWR_STAT.PHASE phase

/-- An entry to `target` with the given blocks still to be asked. -/
def pwAsk (target : Nat) (l : List Nat) : Chip :=
  { (pwU 0 2).put Reg.PWR_STAT.TARGET target with pwr := { u0.pwr with asks := l, stopped := [0x44500000] }, weir := { u0.weir with withheld := true } }.put (Reg.BLK_STAT.PWR 0x44500000) 3

theorem test_pwr_request :
    (after (.pwrReqWrite 3 2) (st (pwU 0 0)) (fun t => t.get Reg.PWR_STAT.PHASE == 1 && t.get Reg.PWR_STAT.TARGET == 2 && t.pwr.notice) && u0.attends 0x44700040 &&
     after (.pwrReqWrite 3 1) (st (pwU 0 0)) (fun t => t.get Reg.PWR_STAT.PHASE == 2 && t.pwr.asks == [0x44000000]) && after (.pwrReqWrite 3 6) (st (pwU 0 0)) (fun t => t.get Reg.PWR_STAT.RESULT == 6) &&
     after (.pwrReqWrite 3 0) (st (pwU 0 0)) (fun t => t == (pwU 0 0).answer .ok) && after (.pwrReqWrite 3 2) (st (pwU 2 0)) (fun t => t.get Reg.PWR_STAT.RESULT == 1) && after (.pwrReqWrite 0 2) (st (pwU 0 0)) (fun t => t.resp == .error)) = true := by decide +kernel

theorem test_pwr_pending :
    (after (.pwrReqWrite 4 2) (st (pwU 0 1)) (fun t => t.get Reg.PWR_STAT.PENDING == 2) && after (.pwrReqWrite 4 0) (st (pwU 0 1)) (fun t => t == (pwU 0 1).answer .ok) &&
     after (.pwrReqWrite 4 4) (st ((pwU 0 1).put Reg.PWR_STAT.PENDING 2)) (fun t => t.get Reg.PWR_STAT.PENDING == 4 && t.get Reg.PWR_STAT.RESULT == 4 && t.reports 102 4 [2, 4]) &&
     after (.pwrReqWrite 4 0) (st ((pwU 0 1).put Reg.PWR_STAT.PENDING 2)) (fun t => t.get Reg.PWR_STAT.PENDING == 7 && t.get Reg.PWR_STAT.RESULT == 5)) = true := by decide +kernel

theorem test_notice :
    (after .noticeTimeout (st (pwU 0 1)) (fun t => t.get Reg.PWR_STAT.PHASE == 2 && t.pwr.asks == askOrder && t.now == 200000000) && after .consentAskStart (st (pwU 0 1)) (fun t => t == pwU 0 1) &&
     after .consentAskStart (st (foldUpTo 3 { pwU 0 1 with weir := { u0.weir with withheld := true } } (fun u c => u.put (Reg.CH_STATE.STATE c) 3))) (fun t => t.get Reg.PWR_STAT.PHASE == 2 && t.pwr.asks.length == 55)) = true := by decide +kernel

theorem test_consent :
    (after (.consentAnswer true) (st (pwAsk 2 [0x44000000, 0x50000000])) (fun t => t.get (Reg.BLK_STAT.PWR 0x44000000) == 3 && t.pwr.stopped == [0x44000000, 0x44500000] && t.get (Reg.PWR_CLOG.TYPE 0) == 0xE040 && t.get (Reg.PWR_CLOG.ANSWER 0) == 1) &&
     after (.consentAnswer true) (st ((pwAsk 2 [0x50000000]).put Reg.WR_EN.EN 7)) (fun t => t.get Reg.PWR_STAT.STATE == 2 && t.enablesOff && t.noPermission && t.get Reg.PWR_CNT.ENTRIES == 1) &&
     after (.consentAnswer true) (st { pwAsk 3 [0x50000000] with msram := [(0x20000000, 1), (0x20040000, 2)] }) (fun t => t.get Reg.PWR_STAT.STATE == 3 && t.msram == []) &&
     after (.consentAnswer false) (st (pwAsk 2 [0x44000000])) (fun t => t.get Reg.PWR_STAT.RESULT == 2 && t.get (Reg.BLK_STAT.PWR 0x44500000) == 0 && t.reports 102 2 [2, 0xE040, 0, 1] && t.get Reg.PWR_STAT.PHASE == 0) &&
     after .consentTimeout (st (pwAsk 2 [0x44000000])) (fun t => t.get Reg.PWR_STAT.RESULT == 3 && t.get Reg.PWR_REFUSER.WHY == 2 && t.now == 10000)) = true := by decide +kernel

theorem test_wakes :
    (after .idleWake (st { pwU 1 0 with plic := { u0.plic with enable := u0.plic.enable.map (fun _ => 2 ^ 9), pend := 2 ^ 9 } }) (fun t => t.get Reg.PWR_STAT.STATE == 0 && t.get Reg.PWR_WAKE.CAUSE == 16) &&
     after .idleWake (st (pwU 1 0)) (fun t => t == pwU 1 0) && after .wakeNLow (st (pwU 2 0)) (fun t => t.get Reg.PWR_STAT.PHASE == 4 && t.get Reg.PWR_WAKE.CAUSE == 1) &&
     after .wakeNLow (st { pwU 4 0 with pwr := { u0.pwr with hold := false } }) (fun t => t.pwr.hold) && after .wakeNLow (st (pwU 0 1)) (fun t => t.pwr.wakePend == 1) &&
     after (.i2cAddressMatch 0x51) (st ((((pwU 3 0).put Reg.PWR_CFG.I2C_EN 1).put Reg.PWR_CFG.I2C_ADDR 0x51).put (Reg.BLK_STAT.PWR 0x44000000) 3)) (fun t => t.pwr.sclHeld && t.get Reg.PWR_WAKE.CAUSE == 2) &&
     after (.i2cAddressMatch 0x52) (st (pwU 3 0)) (fun t => t == pwU 3 0) &&
     after .aonAlarm (st (((pwU 2 0).put Reg.PWR_CFG.TIMER_EN 1).put Reg.PWR_ALARM.COUNT 32768)) (fun t => t.get Reg.PWR_STAT.PHASE == 4 && t.now == 100000000 && t.aonCount == 32768)) = true := by decide +kernel

theorem test_wake_restart :
    (after (.wakeRestart true) (st ((pwAsk 2 []).put Reg.PWR_STAT.PHASE 4)) (fun t => t.get Reg.PWR_STAT.PHASE == 4) &&
     after (.wakeRestart true) (st (((pwAsk 2 []).put Reg.PWR_STAT.PHASE 4).put Reg.PWR_STAT.STATE 2)) (fun t => t.get Reg.PWR_STAT.STATE == 0 && !t.weir.withheld && t.get (Reg.BLK_STAT.PWR 0x44500000) == 0 && t.pwr.stopped == []) &&
     after (.wakeRestart true) (st (({ pwAsk 3 [] with boot := { u0.boot with reset := none } }.put Reg.PWR_STAT.PHASE 4).put Reg.PWR_STAT.STATE 3)) (fun t => t.boot.reset == some ⟨3, 4, 0, 0⟩ && t.get Reg.PWR_STAT.STATE == 0)) = true := by decide +kernel

/-! ### Commissioning and update (chapter 20) -/

/-- The service port connected. -/
def cmU : Chip := { u0 with svc := { u0.svc with connected := true } }

/-- A package with one empty set 0 and check value 5. -/
def cmPkg : List Byte := let b := leBytes 8 0 ++ leBytes 8 5; b ++ leBytes 4 (crcOf crc32c b)

/-- An image header with version 7 and SVN 3. -/
def cmHdr : List Byte := leBytes 4 0x5A465731 ++ leBytes 4 1 ++ leBytes 4 7 ++ leBytes 4 3

/-- A slot 1 that an armed activation names, at Weir time 200,000 with BASE = 4. -/
def cmAct : Chip :=
  { ((((cmU.put Reg.ACT_CFG.ARM 1).put Reg.ACT_CFG.SLOT 1).put Reg.ACT_AT.AT 150000).put Reg.WR_CFG.BASE 4).put Reg.WR_STAT.SAFE 0 with
    boot := { u0.boot with reset := none, released := some 0 }, weir := { u0.weir with time := 120000, hold := false } }

theorem test_package_store :
    (after (.packageStore true cmPkg) (st cmU) (fun t => t.com.pending == some cmPkg && t.com.current == none && t.reports 100 1 [5, 1]) &&
     after (.packageStore false cmPkg) (st cmU) (fun t => t.com.pending == none && t.resp == .error) &&
     after (.packageStore true (cmPkg ++ [0])) (st cmU) (fun t => t.com.pending == none)) = true := by decide +kernel

theorem test_image_store :
    (after (.fwImageStore true 1 cmHdr true 9) (st cmU) (fun t => t.com.slots.getD 1 {} == slotOf cmHdr 2 9 && t.get (Reg.FW_VER.VERSION 1) == 7 && t.reports 100 5 [1, 7, 3]) &&
     after (.fwImageStore true 1 cmHdr false 9) (st cmU) (fun t => (t.com.slots.getD 1 {}).state == 3) && after (.fwImageStore true 0 cmHdr true 9) (st cmU) (fun t => t.resp == .error) &&
     after (.fwImageStore true 1 cmHdr true 9) (st cmAct) (fun t => t.resp == .error) && after (.svnAdvance true 4) (st (cmU.put Reg.WR_STAT.MAINT 1)) (fun t => t.com.svn == 4 && t.get Reg.FW_SVN.SVN == 4) &&
     after (.svnAdvance true 4) (st cmU) (fun t => t.com.svn == 0 && t.resp == .error)) = true := by decide +kernel

theorem test_idb_scan :
    (after (.idbScan 0 [(1, 0x52, [7, 8]), (2, 0x50, [9]), (1, 0x60, [3])]) (st { u0.put (Reg.IDB_CFG.SEG_EN 0) 2 with msram := [(0x20002001, 5), (0x20009000, 6)] }) (fun t =>
       t.msram == [(0x20002800, 7), (0x20002801, 8), (0x20009000, 6)] && t.get (Reg.IDB_STAT.FOUND 0) == 1 && t.get (Reg.IDB_STAT.BADREC 0) == 1) &&
     after (.idbScanTimer 1) (st u0) (fun t => t.now == 60000000000 && t.get (Reg.IDB_STAT.BUSY 1) == 1) && after (.idbScan 2 []) (st u0) (fun t => t == u0) &&
     after .confirmRecordWrite (st { u0 with com := { u0.com with recordDue := some (9, ⟨1, 2, 3, 4⟩) } }) (fun t => t.com.record == some ⟨1, 2, 3, 4⟩ && t.now == 9)) = true := by decide +kernel

theorem test_activation :
    (after .activationStrobe (st cmAct) (fun t => t.weir.time == 200000 && t.boot.reset == some ⟨3, 3, 1, 80000⟩ && t.com.trial == 3 && (t.com.slots.getD 1 {}).state == 4) &&
     after .activationStrobe (st (cmAct.put Reg.WR_STAT.SAFE 1)) (fun t => t.get Reg.ACT_CFG.ARM == 0 && t.boot.reset == none) &&
     after (.snapshot 0 0 true) (st ((cmAct.put Reg.WR_STAT.READY 1).put (Reg.CH_STATE.STATE 0) 3)) (fun t => t.boot.reset == some ⟨3, 3, 1, 80000⟩) && cmAct.unlatched) = true := by decide +kernel

theorem test_trial :
    (let u := fun (n : Nat) => { cmAct with com := { u0.com with trial := n }, boot := { cmAct.boot with trial := true } }
     after .trialBootTimeout (st (u 2)) (fun t => t.com.trial == 1 && t.boot.trialOver && t.now == 200000000) &&
     after .trialBootTimeout (st (u 1)) (fun t => t.com.trial == 0 && (t.com.slots.getD 1 {}).state == 2 && t.com.reverted == some 1) && after .trialBootTimeout (st (u 0)) (fun t => t == u 0)) = true := by decide +kernel

/-! ### Faults, loader, retained pages (chapters 21, 08, 07) -/

theorem test_capture_timeout :
    (after .captureTimeout (st { u0 with flt := { u0.flt with entryAt := some 7 } }) (fun t => t.get Reg.FLT_STAT.CAPTURED == 1 && t.flt.entryAt == none && t.weir.time == 100000007) &&
     after .captureTimeout (st u0) (fun t => t == u0)) = true := by decide +kernel

/-- A unit in operation with the service port connected and a maintenance permit; in lockout with its capture complete. -/
def fltU : Chip := { (u0.put Reg.WR_STAT.MAINT 1).put Reg.WR_STAT.SAFE 0 with svc := { u0.svc with connected := true }, boot := { u0.boot with reset := none, por := false, released := some 0 }, weir := { u0.weir with hold := false } }

def fltLock : Chip := (((fltU.put Reg.WR_STAT.SAFE 1).put Reg.WR_STAT.LOCKOUT 1).put Reg.FLT_STAT.CAPTURED 1).put Reg.FLT_STAT.HELD 1

theorem test_lockout_reset :
    (after (.lockoutReset true 9 0) (st fltLock) (fun t => t.get Reg.FLT_STAT.HELD == 0 && t.boot.reset == some ⟨4, 5, 0, 0⟩ && t.get Reg.FLT_STAT.LAST_RST == 1 && t.gate.queue.map (fun x => (x.code, x.tag)) == [(0x0501, 9)]) &&
     after (.lockoutReset true 9 0) (st (fltLock.put Reg.FLT_STAT.CAPTURED 0)) (fun t => t.resp == .error && t.reports 26 4 [0x0501, 9, 5] && t.get Reg.FLT_STAT.HELD == 1 && t.gate == fltLock.gate) &&
     after (.lockoutReset true 9 1) (st fltLock) (fun t => t.get Reg.FLT_STAT.LAST_RST == 2) && after (.lockoutReset false 9 0) (st fltLock) (fun t => t.reports 26 1 [0x0501, 9, 1])) = true := by decide +kernel

theorem test_reset_commands :
    (after (.coldRestart true 9 0) (st fltU) (fun t => t.boot.reset == some ⟨3, 2, 0, 0⟩ && t.boot.cold && t.get Reg.FLT_STAT.LAST_RST == 1) && after (.coldRestart true 9 0) (st fltLock) (fun t => t.reports 26 4 [0x0503, 9, 6]) &&
     after (.channelReset true 9 0 1) (st (fltU.put (Reg.CH_STATE.STATE 1) 3)) (fun t => t.get (Reg.CH_STATE.STATE 1) == 1 && t.get (Reg.CH_LOSS.CAUSE 1) == 10 && (t.chan 1).afterReset) &&
     after (.channelReset true 9 0 1) (st (fltU.put Reg.WR_STAT.MAINT 0)) (fun t => t.reports 26 4 [0x0502, 9, 3])) = true := by decide +kernel

/-- A mirror record with one message on connection 0 holding a frame with the given payload. -/
def ldU (p : List Byte) : Chip :=
  let f := beBytes 2 0 ++ beBytes 2 p.length ++ List.replicate 28 0 ++ p
  { u0 with conf := { u0.conf with mirror := memWriteBytes (memWriteBytes [] (mirrorBase 0 + 12) (leBytes 4 (4 + (f.length + 3) / 4 * 4))) (mirrorBase 0 + 0x240) (leBytes 4 f.length ++ f) } }

/-- One entry of a loader frame after its head. -/
def ldOne (a v : Nat) : List Byte := beBytes 1 1 ++ beBytes 1 1 ++ beBytes 6 0 ++ beBytes 4 a ++ beBytes 4 v

/-- Connection 0 as loader connection; a payload of kind 1 with two entries. -/
def ldTwo (a v b w : Nat) : List Byte := beBytes 1 1 ++ beBytes 1 2 ++ beBytes 6 0 ++ beBytes 4 a ++ beBytes 4 v ++ beBytes 4 b ++ beBytes 4 w

theorem test_loader_frame :
    (after .loaderFrame (st ((ldU (ldTwo 0x40700104 7 0x40700108 8)).put Reg.ZST_SELF.LOADER 0)) (fun t => t.get Reg.CFG_CV.CV == 8 * 2 ^ 32 + 7 && t.get Reg.CFG_STAT.CV_VALID == 1 && t.gate.ldNext == 1) &&
     after .loaderFrame (st (((ldU (ldTwo 0x40700104 7 0x40700108 8)).put Reg.ZST_SELF.LOADER 0).put Reg.CFG_PKGCV.CV 5)) (fun t => t.get Reg.CFG_STAT.MISMATCH == 1)) = true := by decide +kernel

theorem test_loader_refused :
    (after .loaderFrame (st ((ldU (ldOne 0x40300000 7)).put Reg.ZST_SELF.LOADER 0)) (fun t => t.gate.ldNext == 1 && t.reports 100 9 [0, 3, 0]) &&
     after .loaderFrame (st ((ldU (ldOne 0x40700100 0x80000000)).put Reg.ZST_SELF.LOADER 0)) (fun t => t.get Reg.CFG_STAT.CONFIRMED == 1) && u0.attends 0x40700104 && u0.attends 0x40700100) = true := by decide +kernel

theorem test_retain :
    (after .retainFrame (st ((ldU (beBytes 4 3 ++ beBytes 4 1)).put Reg.ZST_SELF.RETAIN 0)) (fun t => t.ret.dirty == [3] && t.ret.newest.map (fun e => (e.1, frPayload e.2.data)) == [(3, beBytes 4 3 ++ beBytes 4 1)] && t.ret.rdNext == 1) &&
     after .retainWriteTimer (st { u0 with ret := { u0.ret with dirty := [3], dirtySince := 5, newest := [(3, ⟨3, 1, [7], []⟩)] } }) (fun t => t.ret.emmc == [(3, ⟨3, 1, [7], []⟩)] && t.ret.dirty == [] && t.now == 100000005)) = true := by decide +kernel

/-! ### Clocks, resets, boot (chapter 22) -/

/-- A unit in RUN, out of reset, output 3 used and driven. -/
def clU : Chip := { (((((u0.put Reg.PWR_STAT.STATE 0).put Reg.CLK_STAT.ROOT_LOCK 1).put Reg.CLK_STAT.ON_PLL 1).put (Reg.SOUT_CFG.USED 3) 1).put Reg.SOUT_DHS.VAL 8).put Reg.SOUT_DLS.VAL 8 with boot := { u0.boot with reset := none, por := false, released := some 0 } }

/-- A clock fault as R595 describes it. -/
def clFault (t : Chip) (f d : Nat) : Bool :=
  t.link.silent && t.get Reg.CLK_FLT.VALID == 1 && t.get Reg.CLK_FLT.DOMAIN == d && t.get Reg.CLK_FLT.FCODE == f && (t.get (Reg.IRQ.RAW clkPage)).testBit 0 && t.get Reg.SOUT_DHS.VAL == 0 && t.get Reg.SOUT_DLS.VAL == 0

theorem test_clock_monitor :
    (after .clkLockLoss (st clU) (fun t => clFault t 0x7001 1 && t.get Reg.CLK_STAT.ROOT_LOCK == 0) && after .refMissing (st clU) (fun t => clFault t 0x7002 0) && clU.outUsed 3 &&
     after (.dividerWindow 4 0 1251) (st clU) (fun t => t == clU) && after (.dividerWindow 4 0 1252) (st clU) (fun t => clFault t 0x7003 4) && after (.dividerWindow 1 2 9998) (st clU) (fun t => clFault t 0x7003 1) &&
     after (.frcRangeWindow 1900) (st clU) (fun t => t.get Reg.CLK_STAT.FRC_OK == 1 && t.sout == clU.sout) && after (.frcRangeWindow 2101) (st clU) (fun t => clFault t 0x7004 7) &&
     after .refMissing (st (clU.put Reg.PWR_STAT.STATE 2)) (fun t => t == clU.put Reg.PWR_STAT.STATE 2) && after .clkLockLoss (st (clU.put Reg.CLK_STAT.ROOT_LOCK 0)) (fun t => !t.link.silent)) = true := by decide +kernel

/-- Its clock page's lock open for the loader. -/
def clkOpen : Chip := (clU.put (Reg.BLK_LOCK.OPEN 0x40101000) 1).put (Reg.BLK_LOCK.OWNER 0x40101000) 7

theorem test_clk_ctl :
    (after (.clkCtlWrite 7 3) (st (clkOpen.put Reg.CLK_STAT.ROOT_LOCK 0)) (fun t => t.resp == .error && t.get Reg.CLK_CTL.SEL == 0) && after (.clkCtlWrite 7 3) (st clU) (fun t => t.resp == .error && t.get (Reg.BLK_ERR.LOCK_VIOL 0x40101000) == 1) && after (.clkCtlWrite 7 3) (st clkOpen) (fun t => t.resp == .ok && t.get Reg.CLK_CTL.SEL == 1 && t.get Reg.CLK_CTL.PLL_EN == 1) &&
     after (.clkCtlWrite 1 3) (st clU) (fun t => t.resp == .error && t.get (Reg.BLK_ERR.PLANE 0x40101000) == 1) && clU.attends 0x40101040) = true := by decide +kernel

/-- Something to lose, and something to keep. -/
def rsU : Chip := { ((((clU.put Reg.FLT_FIRST.FCODE 0x1234).put Reg.FLT_STAT.HELD 1).put Reg.RST_CNT.POR 3).put Reg.WR_EN.EN 5).put Reg.WR_STAT.SAFE 0 with
  msram := [(0x20000000, 7)], ddr := [(0x80000000, 7)], chans := ⟨{ losses := [5] }, {}, {}⟩, weir := { u0.weir with time := 77, hold := false }, lat := { u0.lat with perm := Rails.ofWord 2048 3, sperm := Rails.ofWord 32 1 } }

theorem test_por_assert :
    (after (.porAssert false) (st rsU) (fun t => t.msram == [] && t.ddr == [] && t.weir == rsU.weir && t.get Reg.WR_EN.EN == 5 && t.get Reg.FLT_FIRST.FCODE == 0x1234 && t.get Reg.FLT_STAT.HELD == 1 && t.get Reg.RST_CNT.POR == 3 &&
       t.get Reg.SOUT_DHS.VAL == 0 && t.boot.reset == some ⟨1, 0, 0, 0⟩ && t.link.silent && t.get Reg.RST_CAUSE.AON_LOST == 0 && (t.chan 0).losses == []) &&
     after (.porAssert true) (st (rsU.put Reg.PWR_STAT.STATE 4)) (fun t => t.get Reg.FLT_FIRST.FCODE == 0 && t.get Reg.FLT_STAT.HELD == 0 && t.get Reg.RST_CNT.POR == 0 && t.boot.reset == some ⟨1, 6, 0, 0⟩ && t.get Reg.RST_CAUSE.AON_LOST == 1)) = true := by decide +kernel

theorem test_reset_assert :
    (let u := { rsU with boot := { rsU.boot with reset := some ⟨3, 2, 0, 10⟩ }, link := { rsU.link with resetUp := [4] } }
     u.perc.length == 4 && after .resetAssert (st u) (fun t => t.boot.asserted && t.now == 180 && t.link.resetUp == [4, 0x0102] && t.ddr == rsU.ddr && (t.chan 0).losses == [5] && t.get Reg.FLT_FIRST.FCODE == 0x1234 && t.link.silent) &&
     after .resetAssert (st rsU) (fun t => t == rsU)) = true := by decide +kernel

theorem test_reset_flit :
    (let u := { (rsU.put Reg.WR_SEAL.LATCHED 9).put Reg.WR_SEAL.CURRENT 6 with link := { rsU.link with resetUp := [0x0102, 4], resetDown := [0x0101, 6] } }
     after (.resetFlit true) (st u) (fun t => t.weir.hold && t.enablesOff && t.noPermission && t.safe && t.get Reg.WR_STAT.LOCKOUT == 1 && t.get Reg.WR_STAT.CAUSE == 0 && t.weir.time == 77 && t.link.resetUp == [4] && t.get Reg.WR_SEAL.LATCHED == 6) &&
     after (.resetFlit false) (st u) (fun t => t.link.resetDown == [6] && t.boot.reset == some ⟨2, 1, 0, 0⟩) && after (.resetFlit false) (st rsU) (fun t => t == rsU) && after (.resetFlit true) (st rsU) (fun t => t == rsU)) = true := by decide +kernel

/-- A release as R602 describes it. -/
def rsDone (t : Chip) (k o n : Nat) : Bool :=
  t.get Reg.RST_CAUSE.KIND == k && t.get Reg.RST_CAUSE.ORIGIN == o && t.get (rstCnt k) == n && t.get Reg.BOOT_STAT.WARM == (if k = 1 then 0 else 1) && t.boot.released == some t.now && t.boot.done == [] && !t.link.silent &&
  t.get (Reg.CH_STATE.STATE 0) == 1 && t.get (Reg.CH_STATE.STATE 1) == 1 && t.get (Reg.CH_STATE.STATE 2) == 1 && t.reports 28 2 [k, o, 0]

theorem test_reset_release :
    (after .porRelease (st { rsU with boot := { reset := some ⟨1, 0, 0, 0⟩, por := true, asserted := true } }) (fun t => rsDone t 1 0 4) &&
     after .resetRelease (st { (rsU.put Reg.RST_CNT.LOCKOUT 255).put (Reg.CH_STATE.STATE 2) 5 with boot := { reset := some ⟨4, 5, 0, 3⟩, por := false, asserted := true } }) (fun t => rsDone t 4 5 255 && t.now == 1173) &&
     after .resetRelease (st rsU) (fun t => t == rsU) && after .porRelease (st rsU) (fun t => t == rsU) && !rsU.staged 28) = true := by decide +kernel

/-- A boot of the given kind under way with the given steps behind it. -/
def btU (k : Nat) (l : List Nat) : Chip :=
  { rsU.put Reg.WR_STAT.READY 1 with boot := { reset := some ⟨k, 0, 0, 0⟩, por := false, asserted := true, released := some 0, done := l }, chans := ⟨{ passed := true }, { passed := true }, { passed := true }⟩ }

theorem test_boot_early :
    (after (.bootStepDone 1 true true 0 0) (st (btU 1 [])) (fun t => t.boot.done == [1] && t.get Reg.BOOT_STAT.STEP == 1) && after (.bootStepDone 1 false true 0 0) (st (btU 1 [])) (fun t => t.boot.stopped && t.reports 28 4 [0x7101, 1] && t.get Reg.BOOT_STAT.FAIL == 1) &&
     after (.bootStepDone 2 true true 0 0) (st (btU 1 [])) (fun t => t.boot.done == [2]) && after (.bootStepDone 2 true true 0 0) (st ((btU 1 []).put Reg.WR_STAT.READY 0)) (fun t => t.boot.done == []) &&
     after (.bootStepDone 3 true true 0 0) (st (btU 1 [1])) (fun t => t.get Reg.CLK_STAT.ON_PLL == 1 && t.get Reg.CLK_CTL.SEL == 1 && t.get Reg.BOOT_STAT.STEP == 3) && after (.bootStepDone 3 true false 0 0) (st (btU 1 [1])) (fun t => t.boot.stopped && clFault t 0x7006 7) &&
     after (.bootStepDone 3 true true 0 0) (st (btU 1 [])) (fun t => t == btU 1 [])) = true := by decide +kernel

theorem test_boot_middle :
    (after (.bootStepDone 4 true true 6 9) (st ((btU 1 [1, 3]).put (Reg.CH_STATE.STATE 0) 1)) (fun t => t.boot.sinBad == 6 && t.boot.soutBad == 9 && t.get Reg.BOOT_STAT.STEP == 4) &&
     after (.bootStepDone 4 true true 6 9) (st { (btU 1 [1, 3]).put (Reg.CH_STATE.STATE 0) 1 with chans := ⟨{}, {}, {}⟩ }) (fun t => t.boot.done == [1, 3]) && after (.bootStepDone 5 false true 0 0) (st (btU 1 [1, 3])) (fun t => t.boot.stopped && t.reports 28 4 [0x7105, 5]) &&
     after (.bootStepDone 5 true true 0 0) (st (btU 3 [1, 3])) (fun t => t == btU 3 [1, 3]) && after (.bootStepDone 5 true true 0 0) (st (btU 1 [1, 3])) (fun t => t.get Reg.CLK_STAT.DDR_LOCK == 1) && after (.bootStepDone 7 false true 0 0) (st (btU 3 [1, 3])) (fun t => t.boot.emmcBad && t.get Reg.EVR_STAT.STATE == 5 && t.get Reg.BOOT_STAT.STEP == 7)) = true := by decide +kernel

theorem test_boot_slot :
    (let u := fun (run trial : Nat) => { btU 3 [1, 3] with com := { u0.com with run := run, trial := trial, svn := 2, slots := [{ state := 2, svn := 2 }, { state := 2, svn := 3 }] } }
     after (.bootStepDone 6 true true 0 0) (st (u 0 0)) (fun t => t.get Reg.BOOT_STAT.SLOT == 0 && (t.com.slots.getD 0 {}).state == 5 && t.get Reg.BOOT_STAT.FALLBACK == 0) &&
     after (.bootStepDone 6 true true 0 0) (st (u 0 3)) (fun t => t.get Reg.BOOT_STAT.SLOT == 1 && (t.com.slots.getD 1 {}).state == 4 && t.com.run == 0) &&
     after (.bootStepDone 6 false true 0 0) (st (u 0 3)) (fun t => t.get Reg.BOOT_STAT.SLOT == 0 && t.get Reg.BOOT_STAT.FALLBACK == 1 && t.com.trial == 0) &&
     after (.bootStepDone 6 false false 0 0) (st (u 0 3)) (fun t => t.boot.recovery && t.com == (u 0 3).com) && after (.bootStepDone 6 true true 0 0) (st { u 0 0 with com := { (u 0 0).com with reverted := some 1 } }) (fun t => t.reports 100 7 [1, 0])) = true := by decide +kernel

theorem test_boot_package :
    (let b := leBytes 8 0 ++ leBytes 8 5
     let p := b ++ leBytes 4 (crcOf crc32c b)
     let u := { btU 3 [1, 3, 6, 7] with com := { u0.com with pending := some p, schedule := some (1, 9) } }
     after (.bootStepDone 8 true true 0 0) (st u) (fun t => t.com.current == some p && t.com.pending == none && t.com.schedule == none && t.get Reg.BOOT_STAT.STEP == 8) &&
     after (.bootStepDone 8 true true 0 0) (st { u with com := { u.com with pending := some [3] } }) (fun t => t.get Reg.CFG_STAT.DEFAULTS == 1 && t.get Reg.CFG_PKGCV.CV == 0 && t.com.current == some [3]) &&
     after (.bootStepDone 8 true true 0 0) (st { u with boot := { u.boot with emmcBad := true } }) (fun t => t.com.pending == some p && t.get Reg.CFG_STAT.DEFAULTS == 1)) = true := by decide +kernel

/-- Step 9 rests on Weir's opaque check value: its premises only. -/
theorem test_boot_load :
    (after (.bootStepDone 10 true true 0 0) (st (btU 3 [9])) (fun t => t.get Reg.BOOT_STAT.STEP == 10) &&
     (let u := btU 3 [1, 3, 6, 7, 8, 2, 4]; (bootNeeds false 9).all (fun n => u.boot.done.contains n) && !u.boot.done.contains 9 && !u.boot.stopped && !u.staged 28 && !u.staged 100)) = true := by decide +kernel

theorem test_boot_active :
    (let u := ((btU 3 [10]).put (Reg.CH_STATE.STATE 0) 1).put (Reg.CH_STATE.STATE 1) 1
     after (.bootStepDone 11 true true 0 0) (st u) (fun t => t.get (Reg.CH_STATE.STATE 0) == 3 && t.get (Reg.CH_STATE.STATE 1) == 3 && t.get (Reg.CH_STATE.STATE 2) == 0 && t.get Reg.BOOT_STAT.STEP == 11 && t.boot.reset == some ⟨3, 0, 0, 0⟩) &&
     after (.bootStepDone 11 true true 0 0) (st { (u.put Reg.FLT_STAT.HELD 0) with chans := ⟨{ passed := true }, {}, {}⟩ }) (fun t => t.get (Reg.CH_STATE.STATE 0) == 3 && t.get (Reg.CH_STATE.STATE 1) == 1)) = true := by decide +kernel

/-! ### Invariants and frames -/

theorem test_invariant_states :
    (u0.quietIfSafe && u0.memoriesOk && u0.safe && rsU.quietIfSafe && !rsU.safe && rsU.memoriesOk && rsU.msram != [] && !({ u0 with lat := { u0.lat with perm := Rails.ofWord 2048 4 } }).quietIfSafe &&
     !(u0.put Reg.WR_EN.EN 1).quietIfSafe && !({ u0 with msram := [(5, 0)] }).memoriesOk) = true := by decide +kernel

theorem test_frames :
    ((Instr.busOn 9).wf && frameBlocks (.busOn 9) == some [0x409, 0x44A, 0x460, 0x462, 0x463, 0x464, 0x466] && !(frameParts (.busOn 9)).contains .weir && !(frameParts .latticeCommit).contains .chans &&
     !(frameParts (.zstFrameRx 5 [])).contains .rt && (frameParts .inboundMessage).contains .msram) = true := by decide +kernel

end Sys2Proof.Tests
end

section
/-!
PROOFS. The register pages' own registers (02): the two keys of BLK_LOCK (R44) and the interrupt latches (R42). First what an access that
reaches a page that attends it does, then one lemma per operation on the lock and on the latches, then the statements.
-/
namespace Sys2Proof.Machine

/-! ### An access that a page attends -/

/-- An access that reaches a page that attends it, and that the plane rule lets through, takes its effect there and nothing else. -/
theorem Chip.atPage_attends (u : Chip) (req pg off : Nat) (wr : Bool) (k : Chip → Chip) (hoff : off < 0x1000) (hatt : u.attends pg = true)
    (hplane : u.planeBars req (pageOf pg + off) = false) (hreach : u.pageReach req (pageOf pg + off) = true) :
    u.atPage req (pageOf pg + off) wr k = k u := by
  have hat : u.attends (pageOf pg + off) = true := by rw [Chip.attends_add u pg off hoff, hatt]
  have hpage : (pageInfo (pageOf pg + off)).isNone = false := by
    simp only [Chip.attends, Bool.and_eq_true] at hat
    obtain ⟨⟨⟨hsome, -⟩, -⟩, -⟩ := hat
    simpa [← Option.not_isSome] using hsome
  simp [Chip.atPage, hpage, hplane, hreach, Chip.access_attends u _ wr k hat]

theorem exec_blkLockWrite (req pg key : Nat) (s : State) :
    exec (.blkLockWrite req pg key) s =
      s.become (s.chip.atPage req (pageOf pg + 0x20) true (fun u => (u.lockWrite req (pageOf pg) key).answer .ok)) := rfl

theorem exec_irqPendClear (req pg v : Nat) (s : State) :
    exec (.irqPendClear req pg v) s =
      s.become (s.chip.atPage req (pageOf pg + 0x18) true (fun u => u.pendClear (page0 pg) v)) := rfl

/-- A key write that a page attends completes with the lock's answer to the key. -/
theorem completes_blkLockWrite (req pg key : Nat) (s : State) (P : Chip → Prop) (hatt : s.chip.attends pg = true)
    (hplane : s.chip.planeBars req (pageOf pg + 0x20) = false) (hreach : s.chip.pageReach req (pageOf pg + 0x20) = true)
    (hP : P ((s.chip.lockWrite req (pageOf pg) key).answer .ok)) : Completes (.blkLockWrite req pg key) s P := by
  refine ⟨_, ?_, hP⟩
  rw [exec_blkLockWrite, Chip.atPage_attends s.chip req pg 0x20 true _ (by decide) hatt hplane hreach, State.become_eq]

/-- A write to IRQ_PEND that a page attends completes with the latches cleared. -/
theorem completes_irqPendClear (req pg v : Nat) (s : State) (P : Chip → Prop) (hatt : s.chip.attends pg = true)
    (hplane : s.chip.planeBars req (pageOf pg + 0x18) = false) (hreach : s.chip.pageReach req (pageOf pg + 0x18) = true)
    (hP : P (s.chip.pendClear (page0 pg) v)) : Completes (.irqPendClear req pg v) s P := by
  refine ⟨_, ?_, hP⟩
  rw [exec_irqPendClear, Chip.atPage_attends s.chip req pg 0x18 true _ (by decide) hatt hplane hreach, State.become_eq]

/-! ### Reading fields after a response, after a lock timer -/

@[simp] theorem Chip.answer_get (u : Chip) (r : BusResp) (f : Fld) : (u.answer r).get f = u.get f := rfl

@[simp] theorem Chip.lockTimer_get (u : Chip) (pg : Nat) (due : Option Nat) (f : Fld) : (u.lockTimer pg due).get f = u.get f := rfl

theorem Chip.on_eq_false (u : Chip) (f : Fld) : u.on f = false ↔ u.get f = 0 := by simp [Chip.on]

/-! ### The states of BLK_LOCK (R44) -/

/-- The fields of BLK_LOCK have different keys. -/
theorem BLK_LOCK_keys_ne (pg : Nat) :
    (Reg.BLK_LOCK.ARMED pg).key ≠ (Reg.BLK_LOCK.OPEN pg).key ∧ (Reg.BLK_LOCK.OWNER pg).key ≠ (Reg.BLK_LOCK.OPEN pg).key ∧
    (Reg.BLK_LOCK.OWNER pg).key ≠ (Reg.BLK_LOCK.ARMED pg).key := by
  simp [Fld.key, Reg.BLK_LOCK.OPEN, Reg.BLK_LOCK.ARMED, Reg.BLK_LOCK.OWNER]

/-- OPEN and ARMED are one bit each, OWNER is a byte. -/
theorem BLK_LOCK_widths (pg : Nat) :
    (Reg.BLK_LOCK.OPEN pg).width = 1 ∧ (Reg.BLK_LOCK.ARMED pg).width = 1 ∧ (Reg.BLK_LOCK.OWNER pg).width = 8 := ⟨rfl, rfl, rfl⟩

/-- BLK_LOCK shows whether it is open, whether it is armed, and the requester that armed or opened it. -/
def Chip.lockShows (u : Chip) (pg opened armed owner : Nat) : Prop :=
  u.get (Reg.BLK_LOCK.OPEN pg) = opened ∧ u.get (Reg.BLK_LOCK.ARMED pg) = armed ∧ u.get (Reg.BLK_LOCK.OWNER pg) = owner

/-- A lock that is reset shows closed, not armed and no owner. -/
theorem Chip.lockIdle_shows (u : Chip) (pg : Nat) : (u.lockIdle pg).lockShows pg 0 0 0 := by
  obtain ⟨hAO, hWO, hWA⟩ := BLK_LOCK_keys_ne pg
  simp [Chip.lockShows, Chip.lockIdle, Chip.get_put_ne, hAO, hWO, hWA]

/-- A lock that opens shows open, no longer armed, and its requester. -/
theorem Chip.lockOpens_shows (u : Chip) (pg req : Nat) (h : req < 10) : (u.lockOpens pg req).lockShows pg 1 0 req := by
  obtain ⟨hAO, hWO, hWA⟩ := BLK_LOCK_keys_ne pg
  obtain ⟨hopen1, -, howner8⟩ := BLK_LOCK_widths pg
  have hfits : req % 2 ^ 8 = req := Nat.mod_eq_of_lt (by omega)
  simpa [Chip.lockShows, Chip.lockOpens, Chip.get_put_ne, hAO.symm, hWO, hWA, hopen1, howner8] using hfits

/-- The first key to a closed, unarmed lock arms it for its requester. -/
theorem Chip.lockWrite_arms (u : Chip) (req pg : Nat) (h : req < 10) (hopen : u.on (Reg.BLK_LOCK.OPEN pg) = false)
    (harmed : u.on (Reg.BLK_LOCK.ARMED pg) = false) : (u.lockWrite req pg 0x5A17).lockShows pg 0 1 req := by
  obtain ⟨hAO, hWO, hWA⟩ := BLK_LOCK_keys_ne pg
  have hget := (u.on_eq_false _).1 hopen
  obtain ⟨-, harmed1, howner8⟩ := BLK_LOCK_widths pg
  have hfits : req % 2 ^ 8 = req := Nat.mod_eq_of_lt (by omega)
  simpa [Chip.lockShows, Chip.lockWrite, hopen, harmed, Chip.get_put_ne, hAO, hWO, hWA, harmed1, howner8, hget] using hfits

/-- A closed, unarmed lock ignores any other value. -/
theorem Chip.lockWrite_ignored (u : Chip) (req pg key : Nat) (hopen : u.on (Reg.BLK_LOCK.OPEN pg) = false)
    (harmed : u.on (Reg.BLK_LOCK.ARMED pg) = false) (hkey : key % 2 ^ 32 ≠ 0x5A17) : u.lockWrite req pg key = u := by
  simp only [Chip.lockWrite, hopen, harmed, if_neg hkey, Bool.false_eq_true, if_false]

/-- The second key from the requester that armed the lock opens it. -/
theorem Chip.lockWrite_opens (u : Chip) (req pg : Nat) (hopen : u.on (Reg.BLK_LOCK.OPEN pg) = false)
    (harmed : u.on (Reg.BLK_LOCK.ARMED pg) = true) (howner : u.get (Reg.BLK_LOCK.OWNER pg) = req) :
    u.lockWrite req pg 0xC3E8 = u.lockOpens pg req := by
  simp [Chip.lockWrite, hopen, harmed, howner]

/-- Any other next write disarms the lock. -/
theorem Chip.lockWrite_disarms (u : Chip) (req pg key : Nat) (hopen : u.on (Reg.BLK_LOCK.OPEN pg) = false)
    (harmed : u.on (Reg.BLK_LOCK.ARMED pg) = true) (hkey : ¬ (key % 2 ^ 32 = 0xC3E8 ∧ u.get (Reg.BLK_LOCK.OWNER pg) = req)) :
    u.lockWrite req pg key = u.lockIdle pg := by
  simp only [Chip.lockWrite, hopen, harmed, if_true, if_neg hkey, Bool.false_eq_true, if_false]

/-- Settles O4: the four cases of a key write to a closed lock, each by what BLK_LOCK shows after it. -/
theorem lockKeys : Obligations.LockKeys := by
  intro req pg key s hreq hkey hatt hplane hreach hopen
  refine completes_blkLockWrite req pg key s _ hatt hplane hreach ⟨rfl, ?_⟩
  have hmod : key % 2 ^ 32 = key := Nat.mod_eq_of_lt hkey
  simp only [Chip.answer_get]
  by_cases harmed : s.chip.on (Reg.BLK_LOCK.ARMED (pageOf pg)) = true
  · rw [if_pos harmed]
    by_cases hsecond : key = 0xC3E8 ∧ s.chip.get (Reg.BLK_LOCK.OWNER (pageOf pg)) = req
    · obtain ⟨rfl, howner⟩ := hsecond
      rw [Chip.lockWrite_opens s.chip req _ hopen harmed howner]
      obtain ⟨hOpen, hArmed, hOwner⟩ := Chip.lockOpens_shows s.chip (pageOf pg) req hreq
      simp [hOpen, hArmed, hOwner, howner]
    · rw [Chip.lockWrite_disarms s.chip req _ key hopen harmed (by rwa [hmod])]
      obtain ⟨hOpen, hArmed, -⟩ := Chip.lockIdle_shows s.chip (pageOf pg)
      simp [hOpen, hArmed, hsecond]
  · rw [if_neg harmed]
    rw [Bool.not_eq_true] at harmed
    by_cases hfirst : key = 0x5A17
    · subst hfirst
      obtain ⟨hOpen, hArmed, hOwner⟩ := Chip.lockWrite_arms s.chip req (pageOf pg) hreq hopen harmed
      simp [hOpen, hArmed, hOwner]
    · rw [Chip.lockWrite_ignored s.chip req _ key hopen harmed (by rwa [hmod])]
      simp [(s.chip.on_eq_false _).1 hopen, (s.chip.on_eq_false _).1 harmed, hfirst]

/-! ### Bits of a field used as a bit vector -/

/-- A set bit taken away from a number clears that bit and no other. -/
theorem testBit_sub_two_pow (n : Nat) : ∀ (x k : Nat), x.testBit n = true → (x - 2 ^ n).testBit k = (x.testBit k && n != k) := by
  induction n with
  | zero =>
    intro x k hx
    have hodd : x % 2 = 1 := by simpa using hx
    cases k with
    | zero => simp; omega
    | succ k =>
      have hhalf : (x - 1) / 2 = x / 2 := by omega
      simp [Nat.testBit_succ, hhalf]
  | succ n ih =>
    intro x k hx
    cases k with
    | zero =>
      have hle := Nat.ge_two_pow_of_testBit hx
      simp; omega
    | succ k =>
      have hhalf : (x - 2 ^ (n + 1)) / 2 = x / 2 - 2 ^ n := by omega
      have hbit := ih (x / 2) k (by rwa [← Nat.testBit_succ])
      simp [Nat.testBit_succ, hhalf, hbit]

/-- Setting bit `n` of a field sets that bit and no other. -/
theorem Chip.testBit_setBit (u : Chip) (f : Fld) (n k : Nat) (hk : k < f.width) :
    ((u.setBit f n).get f).testBit k = ((u.get f).testBit k || n == k) := by
  simp [Chip.setBit, hk, Nat.testBit_two_pow, Bool.beq_eq_decide_eq]

/-- Clearing bit `n` of a field clears that bit and no other. -/
theorem Chip.testBit_clearBit (u : Chip) (f : Fld) (n k : Nat) :
    ((u.clearBit f n).get f).testBit k = ((u.get f).testBit k && n != k) := by
  unfold Chip.clearBit
  split
  case isTrue hset =>
    have hlt : u.get f - 2 ^ n < 2 ^ f.width := (Nat.sub_le _ _).trans_lt (u.get_lt f)
    rw [Chip.get_put_same, Nat.mod_eq_of_lt hlt, testBit_sub_two_pow n _ k hset]
  case isFalse hclear =>
    by_cases hk : n = k
    · subst hk; simpa using hclear
    · simp [hk]

theorem foldUpTo_succ {β : Type} (n : Nat) (b : β) (g : β → Nat → β) : foldUpTo (n + 1) b g = g (foldUpTo n b g) n := by
  simp [foldUpTo, List.range_succ]

/-- Of the bits of a field below `n`, those that `v` marks are cleared, lowest first. -/
def Chip.clearMarked (u : Chip) (f : Fld) (v n : Nat) : Chip := foldUpTo n u (fun u b => if v.testBit b then u.clearBit f b else u)

/-- Of the bits below `n` exactly those that `v` marks are cleared. -/
theorem Chip.testBit_clearMarked (u : Chip) (f : Fld) (v n k : Nat) :
    ((u.clearMarked f v n).get f).testBit k = ((u.get f).testBit k && !(decide (k < n) && v.testBit k)) := by
  induction n with
  | zero => simp [Chip.clearMarked, foldUpTo]
  | succ n ih =>
    have hstep : u.clearMarked f v (n + 1) = if v.testBit n then (u.clearMarked f v n).clearBit f n else u.clearMarked f v n :=
      foldUpTo_succ n u _
    have hbelow : (decide (k < n + 1) && v.testBit k) = ((decide (k < n) && v.testBit k) || (n == k && v.testBit n)) := by
      by_cases hk : n = k
      · subst hk; simp
      · have hlt : k < n + 1 ↔ k < n := by omega
        simp [hk, hlt]
    rw [hstep, hbelow]
    split
    case isTrue hmark => rw [Chip.testBit_clearBit, ih, hmark, Bool.and_true, Bool.not_or, Bool.and_assoc, bne]
    case isFalse hkeep => rw [ih, Bool.eq_false_iff.2 hkeep, Bool.and_false, Bool.or_false]

/-! ### Interrupt latches and lines (R42) -/

/-- A latched cause sets its bit of IRQ_RAW and no other. -/
theorem Chip.testBit_irq (u : Chip) (pg b k : Nat) (hk : k < 31) :
    ((u.irq pg b).get (Reg.IRQ.RAW pg)).testBit k = ((u.get (Reg.IRQ.RAW pg)).testBit k || b == k) := by
  have hget : (u.irq pg b).get (Reg.IRQ.RAW pg) = (u.setBit (Reg.IRQ.RAW pg) b).get (Reg.IRQ.RAW pg) := by rw [Chip.irq_eq]; rfl
  rw [hget, Chip.testBit_setBit u _ b k hk]

/-- A write to IRQ_PEND clears the marked latches and answers. -/
theorem Chip.pendClear_eq (u : Chip) (pg v : Nat) : u.pendClear pg v = (u.clearMarked (Reg.IRQ.RAW pg) v 31).answer .ok := rfl

/-- The ID of a block that is one management interrupt ID is no bit's ID, and no other block's (Table 2.14). -/
theorem orLines_ids : ∀ e ∈ orLines, bitLines.find? (fun b => decide (b.1 ≤ e.1 ∧ e.1 < b.1 + b.2.2)) = none ∧
    orLines.find? (fun o => o.1 == e.1) = some e := by decide

/-- The line of such a block is the OR of its IRQ_PEND. -/
theorem Chip.mgmtLine_orLines (u : Chip) (e : Nat × Nat) (he : e ∈ orLines) : u.mgmtLine e.1 = (u.irqPend e.2 != 0) := by
  obtain ⟨hbit, hor⟩ := orLines_ids e he
  simp only [Chip.mgmtLine, hbit, hor]

/-- Settles O8: one conjunct each for the latch, for IRQ_PEND as read, for IRQ_PEND as written, for IRQ_MASK after reset and for the line. -/
theorem interruptBits : Obligations.InterruptBits := by
  refine ⟨fun pg b k u _ hk => u.testBit_irq pg b k hk, fun _ _ => rfl, ?_, fun _ => get_reset _, fun e u he => ?_⟩
  · intro req pg v k s hk hatt hplane hreach
    refine completes_irqPendClear req pg v s _ hatt hplane hreach ⟨rfl, ?_⟩
    rw [Chip.pendClear_eq, Chip.answer_get, Chip.testBit_clearMarked, decide_eq_true hk, Bool.true_and]
  · rw [u.mgmtLine_orLines e he, bne_iff_ne]

end Sys2Proof.Machine
end

section
/-!
PROOFS. The step itself: the front command, the empty queue, the machine right after reset; and how a refutation evaluates the model.
-/
namespace Sys2Proof.Machine

theorem step_cons {c : Instr} {rest : List Instr} {s : State} (h : s.pending = c :: rest) : step s = exec c { s with pending := rest } := by
  unfold step
  rw [h]

theorem step_nil {s : State} (h : s.pending = []) : step s = s.become s.chip.tick := by
  unfold step
  rw [h]

/-- Settles O1: `step` looks at the front of the queue. -/
theorem stepRunsFront : Obligations.StepRunsFront := by
  unfold Obligations.StepRunsFront
  exact fun _ _ _ => step_cons

/-! ### One WDN tick -/

theorem Chip.signed_rate_bounds (u : Chip) :
    -1000000000 < signed 24 (u.get Reg.WR_RATE.RATE) ∧ signed 24 (u.get Reg.WR_RATE.RATE) < 1000000000 := by
  have hlt : u.get Reg.WR_RATE.RATE < 2 ^ 24 := u.get_lt Reg.WR_RATE.RATE
  unfold signed
  split <;> omega

/-- Weir time of one tick, by the carry of the phase accumulator (05 R154): none, two or one. -/
theorem weirTime_tick (time : Nat) (acc rate : Int) (h0 : 0 ≤ acc) (h1 : acc < 1000000000) (hr : -1000000000 < rate ∧ rate < 1000000000) :
    ((time : Int) + 1 + (acc + rate) / 1000000000).toNat =
      time + (if 1000000000 ≤ acc + rate then 2 else if acc + rate < 0 then 0 else 1) := by
  split
  · omega
  · split <;> omega

/-- Settles O3: a step with an empty queue is `Chip.tick`, which advances by one. -/
theorem idleTick : Obligations.IdleTick := by
  unfold Obligations.IdleTick
  intro s hpend
  refine ⟨s.chip.tick, step_nil hpend, rfl, ?_, fun p hp => ?_, fun f => rfl⟩
  · unfold Chip.tick Chip.advance
    by_cases hoff : s.chip.weir.off = true
    · simp [hoff]
    · simp only [hoff, if_false, Nat.cast_one, one_mul, Bool.false_eq_true, true_and]
      exact fun h0 h1 => weirTime_tick _ _ _ h0 h1 s.chip.signed_rate_bounds
  · cases p with
    | weir => exact absurd rfl hp
    | _ => rfl

/-! ### Right after reset -/

/-- Settles O56: the fields of the initial state, each by its default value. -/
theorem resetValues : Obligations.ResetValues := by
  unfold Obligations.ResetValues
  refine ⟨rfl, get_reset, rfl, rfl, ?_, ?_, ?_, ?_, ?_, ?_, fun c => get_reset _, get_reset _, get_reset _, get_reset _, get_reset _, rfl, rfl,
    fun c => ?_, ?_, ?_, ?_⟩
  case refine_7 =>
    unfold Chip.chan Per3.get
    split
    · rfl
    · split <;> rfl
  all_goals decide +kernel

/-! ### Concrete states -/

/-- The hardware after a command. -/
def chipAfter (c : Instr) (s : State) : Chip :=
  match exec c s with
  | .next t => t.chip
  | _ => s.chip

/-- What holds of the hardware when a command completes holds of the hardware after it. -/
theorem Completes.chipAfter {c : Instr} {s : State} {P : Chip → Prop} (h : Completes c s P) : P (chipAfter c s) := by
  obtain ⟨u, hexec, hP⟩ := h
  simpa [Machine.chipAfter, hexec] using hP

/-- A step that runs a command which completes leads to the hardware after that command. -/
theorem Completes.step {c : Instr} {s : State} {P : Chip → Prop} (h : Completes c s P) (rest : List Instr) (hrest : s.pending = rest) :
    Machine.step { s with pending := c :: rest } = .next { s with chip := Machine.chipAfter c s } := by
  subst hrest
  obtain ⟨u, hexec, -⟩ := h
  rw [step_cons rfl, hexec, Machine.chipAfter, hexec]

/-! ### The safe state of Weir (05 R146, R173): a state that O57 admits and from which one step breaks its promise -/

/-- The unit right after reset, in which a check is open and a voting set that removes no channel waits at Weir. -/
def openCheckInHold : State :=
  let u := State.reset.chip
  { chip := { u with weir := { u.weir with openCheck := some ⟨0, 0, 0⟩ }, link := { u.link with sets := [0] } } }

/-- Weir is safe and quiet there: no enable, no permission, no voted image that waits. -/
theorem openCheckInHold_quiet : openCheckInHold.chip.quietIfSafe = true := by decide +kernel

theorem completes_votingSetFlit (s : State) : Completes .votingSetFlit s (fun _ => True) := by
  change ∃ u, execVotingSetFlit s = s.become u ∧ True
  unfold execVotingSetFlit
  dsimp only
  split
  · exact ⟨_, rfl, trivial⟩
  · exact ⟨_, rfl, trivial⟩

/-- The set closes the open check as passed although Weir is safe: the image then waits to commit at the lattice. -/
theorem openCheckInHold_passes : (chipAfter .votingSetFlit openCheckInHold).quietIfSafe = false := by decide +kernel

/-- What the statement promises of every step it promises of every command that completes. -/
theorem quiet_chipAfter {c : Instr} {s : State} {P : Chip → Prop} (h : Completes c s P)
    (hkept : ∀ s t : State, s.chip.quietIfSafe = true → step s = .next t → t.chip.quietIfSafe = true) (hs : s.chip.quietIfSafe = true) :
    (chipAfter c s).quietIfSafe = true :=
  hkept { s with pending := c :: s.pending } _ hs (h.step s.pending rfl)

/-- Refutes O57: the statement lets a check be open while Weir is safe, and VOTING_SET_FLIT passes an open check without asking whether
Weir is safe, so that a voted image waits to commit afterwards. -/
theorem not_safeStateHolds : ¬ Obligations.SafeStateHolds := by
  rintro ⟨hkept, -⟩
  have hquiet := quiet_chipAfter (completes_votingSetFlit openCheckInHold) hkept openCheckInHold_quiet
  rw [openCheckInHold_passes] at hquiet
  exact Bool.false_ne_true hquiet

end Sys2Proof.Machine
end

section
/-!
PROOFS. What an operation may change: the parts of the hardware and the 1 MB blocks of registers that it reaches. Every operation of the
model has one lemma `…_within` that says so, and with it that elapsed time and the count of free values do not fall, that the byte memories
stay canonical and that Weir's phase accumulator stays within one tick. The lemmas compose along the operations' own definitions.
-/
namespace Sys2Proof.Machine

/-! ### Scopes -/

/-- Parts of the hardware, and blocks of registers (address / 0x10_0000); no list of blocks stands for every block. -/
structure Scope where
  parts : List Part
  blocks : Option (List Nat)

/-- A block of registers lies in a scope. -/
def Scope.covers (a : Scope) (b : Nat) : Bool :=
  match a.blocks with
  | none => true
  | some l => l.contains b

/-- A scope lies within another. -/
def Scope.sub (a b : Scope) : Bool :=
  a.parts.all b.parts.contains &&
  (match a.blocks with
   | none => b.blocks.isNone
   | some l => l.all b.covers)

/-- Two scopes together. -/
def Scope.union (a b : Scope) : Scope :=
  ⟨a.parts ++ b.parts, match a.blocks, b.blocks with
    | some l, some m => some (l ++ m)
    | _, _ => none⟩

/-- Both clocks of a transition: neither elapsed time nor the count of free values falls, and canonical forms are kept. -/
structure Chip.Sound (u t : Chip) : Prop where
  now_le : u.now ≤ t.now
  free_le : u.freeCtr ≤ t.freeCtr
  clock : u.clockOk = true → t.clockOk = true
  memories : u.memoriesOk = true → t.memoriesOk = true

/-- From `u` to `t` nothing outside the scope changes. BLK_STAT of a page lies in every scope, an address below the register pages in none. -/
structure Chip.Within (a : Scope) (u t : Chip) : Prop where
  same : ∀ p, p ∉ a.parts → p.same u t
  regs : ∀ f : Fld, f.lo < 32 → 0x40000000 ≤ f.addr → f.addr % 0x1000 ≠ 0xC → a.covers (f.addr / 0x100000) = false → t.get f = u.get f
  sound : Chip.Sound u t

theorem Part.same_refl (p : Part) (u : Chip) : p.same u u := by cases p <;> rfl

theorem Part.same_trans {p : Part} {u t v : Chip} (h : p.same u t) (k : p.same t v) : p.same u v := by
  cases p <;> exact Eq.trans k h

theorem Chip.Sound.rfl {u : Chip} : Chip.Sound u u := ⟨le_rfl, le_rfl, id, id⟩

theorem Chip.Sound.trans {u t v : Chip} (h : Chip.Sound u t) (k : Chip.Sound t v) : Chip.Sound u v :=
  ⟨h.now_le.trans k.now_le, h.free_le.trans k.free_le, k.clock ∘ h.clock, k.memories ∘ h.memories⟩

theorem Scope.sub_parts {a b : Scope} (h : a.sub b = true) {p : Part} (hp : p ∈ a.parts) : p ∈ b.parts := by
  simp only [Scope.sub, Bool.and_eq_true, List.all_eq_true] at h
  simpa using h.1 p hp

theorem Scope.sub_covers {a b : Scope} (h : a.sub b = true) {k : Nat} (hk : b.covers k = false) : a.covers k = false := by
  obtain ⟨ap, ab⟩ := a
  obtain ⟨bp, bb⟩ := b
  simp only [Scope.sub, Bool.and_eq_true] at h
  cases ab with
  | none => cases bb <;> simp_all [Scope.covers]
  | some l =>
    rw [Bool.eq_false_iff]
    intro hin
    simp only [Scope.covers, List.contains_iff_mem] at hin
    have := List.all_eq_true.1 h.2 k hin
    simp_all

theorem Scope.union_covers {a b : Scope} {k : Nat} (h : (a.union b).covers k = false) : a.covers k = false ∧ b.covers k = false := by
  obtain ⟨ap, ab⟩ := a
  obtain ⟨bp, bb⟩ := b
  cases ab <;> cases bb <;> simp_all [Scope.covers, Scope.union]

theorem Scope.sub_left {a b : Scope} : a.sub (a.union b) = true := by
  obtain ⟨ap, ab⟩ := a
  obtain ⟨bp, bb⟩ := b
  cases ab <;> cases bb <;> simp +contextual [Scope.sub, Scope.union, Scope.covers]

theorem Scope.sub_right {a b : Scope} : b.sub (a.union b) = true := by
  obtain ⟨ap, ab⟩ := a
  obtain ⟨bp, bb⟩ := b
  cases ab <;> cases bb <;> simp +contextual [Scope.sub, Scope.union, Scope.covers]

namespace Chip.Within
variable {a b : Scope} {u t v : Chip}

theorem rfl : Chip.Within a u u := ⟨fun p _ => p.same_refl u, fun _ _ _ _ _ => Eq.refl _, .rfl⟩

theorem unchanged : Chip.Within ⟨[], some []⟩ u u := .rfl

theorem le (h : Chip.Within a u t) (hab : a.sub b = true) : Chip.Within b u t :=
  ⟨fun p hp => h.same p (fun hin => hp (Scope.sub_parts hab hin)),
   fun f hl h4 hs hb => h.regs f hl h4 hs (Scope.sub_covers hab hb), h.sound⟩

theorem trans (h : Chip.Within a u t) (k : Chip.Within b t v) : Chip.Within (a.union b) u v :=
  ⟨fun p hp => by
     simp only [Scope.union, List.mem_append, not_or] at hp
     exact Part.same_trans (h.same p hp.1) (k.same p hp.2),
   fun f hl h4 hs hb => by
     obtain ⟨ha, hb⟩ := Scope.union_covers hb
     rw [k.regs f hl h4 hs hb, h.regs f hl h4 hs ha],
   h.sound.trans k.sound⟩

theorem left (h : Chip.Within a u t) : Chip.Within (a.union b) u t := h.le Scope.sub_left

theorem right (h : Chip.Within b u t) : Chip.Within (a.union b) u t := h.le Scope.sub_right

/-- A last operation within the scope of the whole. -/
theorem chain (k : Chip.Within a t v) (hab : a.sub b = true) (h : Chip.Within b u t) : Chip.Within b u v :=
  ⟨fun p hp => Part.same_trans (h.same p hp) ((k.le hab).same p hp),
   fun f hl h4 hs hb => by rw [(k.le hab).regs f hl h4 hs hb, h.regs f hl h4 hs hb],
   h.sound.trans k.sound⟩

theorem ite {c : Prop} [Decidable c] {x y : Chip} (h : Chip.Within a u x) (k : Chip.Within b u y) :
    Chip.Within (a.union b) u (if c then x else y) := by
  have hx : Chip.Within (a.union b) u x := h.trans .rfl
  have hy : Chip.Within (a.union b) u y := Chip.Within.trans .rfl k
  split
  · exact hx
  · exact hy

/-- Two steps within one scope. -/
theorem step (h : Chip.Within a u t) (k : Chip.Within a t v) : Chip.Within a u v :=
  ⟨fun p hp => Part.same_trans (h.same p hp) (k.same p hp),
   fun f hl h4 hs hb => by rw [k.regs f hl h4 hs hb, h.regs f hl h4 hs hb], h.sound.trans k.sound⟩

theorem foldl {α : Type} {g : Chip → α → Chip} (h : ∀ t x, Chip.Within a t (g t x)) {l : List α} {u : Chip} :
    Chip.Within a u (l.foldl g u) := by
  induction l generalizing u with
  | nil => exact .rfl
  | cons x l ih => exact (h u x).step ih

theorem foldl_mem {α : Type} {g : Chip → α → Chip} {l : List α} {u : Chip} (h : ∀ t, ∀ x ∈ l, Chip.Within a t (g t x)) :
    Chip.Within a u (l.foldl g u) := by
  induction l generalizing u with
  | nil => exact .rfl
  | cons x l ih => exact (h u x List.mem_cons_self).step (ih fun t y hy => h t y (List.mem_cons_of_mem x hy))

theorem foldUpTo {n : Nat} {g : Chip → Nat → Chip} (h : ∀ t x, Chip.Within a t (g t x)) : Chip.Within a u (Machine.foldUpTo n u g) := foldl h

theorem foldlOf (a : Scope) {α : Type} {g : Chip → α → Chip} (h : ∀ t x, Chip.Within a t (g t x)) {l : List α} :
    Chip.Within a u (l.foldl g u) := foldl h

theorem foldUpToOf (a : Scope) {n : Nat} {g : Chip → Nat → Chip} (h : ∀ t x, Chip.Within a t (g t x)) :
    Chip.Within a u (Machine.foldUpTo n u g) := foldl h

theorem foldl_snd {α β : Type} {g : β × Chip → α → β × Chip} (h : ∀ t x, Chip.Within a t.2 (g t x).2) {l : List α} {p : β × Chip} :
    Chip.Within a p.2 (l.foldl g p).2 := by
  induction l generalizing p with
  | nil => exact .rfl
  | cons x l ih => exact (h p x).step ih

theorem foldl_fst {α β : Type} {g : Chip × β → α → Chip × β} (h : ∀ t x, Chip.Within a t.1 (g t x).1) {l : List α} {p : Chip × β} :
    Chip.Within a p.1 (l.foldl g p).1 := by
  induction l generalizing p with
  | nil => exact .rfl
  | cons x l ih => exact (h p x).step ih

theorem foldl_sndOf (a : Scope) {α β : Type} {g : β × Chip → α → β × Chip} (h : ∀ t x, Chip.Within a t.2 (g t x).2) {l : List α} {p : β × Chip} :
    Chip.Within a p.2 (l.foldl g p).2 := foldl_snd h

theorem foldl_fstOf (a : Scope) {α β : Type} {g : Chip × β → α → Chip × β} (h : ∀ t x, Chip.Within a t.1 (g t x).1) {l : List α} {p : Chip × β} :
    Chip.Within a p.1 (l.foldl g p).1 := foldl_fst h

end Chip.Within

/-! ### Register fields -/

/-- A field lies in one of the blocks of registers, or in none: an address below the register pages, or BLK_STAT. -/
def Fld.InBlocks (f : Fld) (l : List Nat) : Prop :=
  f.lo < 32 ∧ (f.addr < 0x40000000 ∨ f.addr / 0x100000 ∈ l ∨ f.addr % 0x1000 = 0xC)

theorem Fld.inBlocks_self {f : Fld} (hlo : f.lo.ble 31 = true) : f.InBlocks [f.addr / 0x100000] := ⟨Nat.lt_succ_of_le (Nat.le_of_ble_eq_true hlo), .inr (.inl (List.mem_singleton.2 rfl))⟩

/-- Registers of an array lie in one block where its first and its last register do. -/
theorem Fld.inBlocks_slot {f : Fld} {i n base stride b : Nat} (off : Nat) (hf : f.addr = slot i n base stride + off) (hlo : f.lo.ble 31 = true)
    (hb : off < 0x40000000 ∧ (base + off) / 0x100000 = b ∧ (base + (n - 1) * stride + off) / 0x100000 = b) : f.InBlocks [b] := by
  obtain ⟨hoff, hlow, hhigh⟩ := hb
  refine ⟨Nat.lt_succ_of_le (Nat.le_of_ble_eq_true hlo), ?_⟩
  rw [List.mem_singleton]
  by_cases hi : i < n
  · rw [slot_of_lt _ _ hi] at hf
    have hle : i * stride ≤ (n - 1) * stride := Nat.mul_le_mul_right _ (by omega)
    have h1 : (base + off) / 0x100000 ≤ f.addr / 0x100000 := Nat.div_le_div_right (by omega)
    have h2 : f.addr / 0x100000 ≤ (base + (n - 1) * stride + off) / 0x100000 := Nat.div_le_div_right (by omega)
    omega
  · rw [slot_of_ge _ _ (by omega)] at hf
    omega

/-- A page of registers lies in one of the blocks, or below the register pages. -/
def PageIn (pg : Nat) (l : List Nat) : Prop := pg % 0x1000 = 0 ∧ (pg < 0x40000000 ∨ pg / 0x100000 ∈ l)

theorem PageIn.self {pg : Nat} (h : pg % 0x1000 = 0) : PageIn pg [pg / 0x100000] := ⟨h, .inr (List.mem_singleton.2 rfl)⟩

/-- A register of a page lies in the page's block. -/
theorem PageIn.field {pg : Nat} {l : List Nat} (h : PageIn pg l) {f : Fld} (off : Nat) (hf : f.addr = pg + off) (hlo : f.lo.ble 31 = true)
    (hoff : off < 0x1000) : f.InBlocks l := by
  obtain ⟨halign, hin⟩ := h
  refine ⟨Nat.lt_succ_of_le (Nat.le_of_ble_eq_true hlo), ?_⟩
  rw [hf]
  rcases hin with hlow | hin
  · left; omega
  · right; left
    rwa [show (pg + off) / 0x100000 = pg / 0x100000 by omega]

/-! ### Pages -/

theorem pageOf_mod {a : Nat} : pageOf a % 0x1000 = 0 := by unfold pageOf; omega

theorem pageOf_block (a : Nat) : pageOf a / 0x100000 = a / 0x100000 := by unfold pageOf; omega

theorem weirPages_base0 : ∀ e ∈ weirPages, e.2.base0 % 0x1000 = 0 ∧ e.2.base0 / 0x100000 = e.1 / 0x100000 := by decide

/-- Page 0 of an allocated page is aligned and lies in the same block. -/
theorem base0_of_pageInfo {a : Nat} {p : PageInfo} (h : pageInfo a = some p) : p.base0 % 0x1000 = 0 ∧ p.base0 / 0x100000 = a / 0x100000 := by
  unfold pageInfo at h
  split at h
  · obtain ⟨e, hfind, rfl⟩ := Option.map_eq_some_iff.1 h
    have hkey : e.1 = pageOf a := by simpa using List.find?_some hfind
    rw [← pageOf_block a, ← hkey]
    exact weirPages_base0 e (List.mem_of_find?_eq_some hfind)
  · split at h
    · simp only at h
      split at h
      · exact absurd h (by simp)
      · rename_i b hfind
        have hty := List.find?_some hfind
        simp only [beq_iff_eq] at hty
        split at h
        · cases h
          simp only [pageAddr]
          omega
        · exact absurd h (by simp)
    · exact absurd h (by simp)

theorem page0_mod {a : Nat} : page0 a % 0x1000 = 0 := by
  unfold page0
  split
  · rename_i hp
    exact (base0_of_pageInfo hp).1
  · exact pageOf_mod

theorem page0_block (a : Nat) : page0 a / 0x100000 = a / 0x100000 := by
  unfold page0
  split
  · rename_i hp
    exact (base0_of_pageInfo hp).2
  · exact pageOf_block a

/-- An address lies in one of the blocks of registers, or below the register pages. -/
def AddrIn (a : Nat) (l : List Nat) : Prop := a < 0x40000000 ∨ a / 0x100000 ∈ l

theorem AddrIn.self {a : Nat} : AddrIn a [a / 0x100000] := .inr (List.mem_singleton.2 rfl)

theorem AddrIn.of_block {a b : Nat} {l : List Nat} (h : AddrIn a l) (hb : b / 0x100000 = a / 0x100000) : AddrIn b l := by
  rcases h with h | h
  · left; omega
  · right; rwa [hb]

theorem AddrIn.page0 {a : Nat} {l : List Nat} (h : AddrIn a l) : PageIn (Machine.page0 a) l := ⟨page0_mod, h.of_block (page0_block a)⟩

theorem AddrIn.pageOf {a : Nat} {l : List Nat} (h : AddrIn a l) : PageIn (Machine.pageOf a) l := ⟨pageOf_mod, h.of_block (pageOf_block a)⟩

theorem AddrIn.offset {a : Nat} {l : List Nat} (off : Nat) (hoff : off < 0x1000) (h : AddrIn a l) : AddrIn (Machine.pageOf a + off) l :=
  h.of_block (by unfold Machine.pageOf; omega)

theorem PageIn.addr {pg : Nat} {l : List Nat} (h : PageIn pg l) : AddrIn pg l := h.2

theorem PageIn.off {pg : Nat} {l : List Nat} (h : PageIn pg l) (off : Nat) (hoff : off < 0x1000) : AddrIn (pg + off) l := by
  obtain ⟨halign, hin⟩ := h
  exact AddrIn.of_block hin (by omega)

theorem Fld.inBlocks_stat {f : Fld} {pg : Nat} (hf : f.addr = pg + 0xC) (hlo : f.lo.ble 31 = true) (hpg : pg % 0x1000 = 0) : f.InBlocks [] :=
  ⟨Nat.lt_succ_of_le (Nat.le_of_ble_eq_true hlo), .inr (.inr (by omega))⟩

theorem Fld.InBlocks.ite {c : Prop} [Decidable c] {f g : Fld} {l : List Nat} (hf : f.InBlocks l) (hg : g.InBlocks l) : (if c then f else g).InBlocks l := by
  split
  · exact hf
  · exact hg

theorem chPage_in {c : Nat} : PageIn (chPage c) [0x402] := by
  unfold chPage PageIn
  rw [List.mem_singleton]
  by_cases h : c < 3
  · rw [slot_of_lt _ _ h]; omega
  · rw [slot_of_ge _ _ (by omega)]; decide

theorem cvuPage_in {i : Nat} : PageIn (cvuPage i) [0x421] := by
  unfold cvuPage PageIn
  rw [List.mem_singleton]
  by_cases h : i < 8
  · rw [slot_of_lt _ _ h]; omega
  · rw [slot_of_ge _ _ (by omega)]; decide

theorem portPage_in {p : Nat} : PageIn (portPage p) [0x44A, 0x460, 0x462, 0x463, 0x464, 0x466] := by
  unfold portPage PageIn
  simp only [List.mem_cons]
  repeat' split
  all_goals omega

theorem percPage_in {e : Nat} : PageIn (percPage e) [0x40B, 0x446] := by
  unfold percPage PageIn
  simp only [List.mem_cons]
  split <;> omega

/-- A register of a port's second page lies in the port's block. -/
theorem portPage_field2 {p : Nat} {f : Fld} (off : Nat) (hf : f.addr = portPage p + off) (hlo : f.lo.ble 31 = true) (hoff : off < 0x4000) :
    f.InBlocks [0x44A, 0x460, 0x462, 0x463, 0x464, 0x466] := by
  refine ⟨Nat.lt_succ_of_le (Nat.le_of_ble_eq_true hlo), ?_⟩
  rw [hf]
  unfold portPage
  simp only [List.mem_cons]
  repeat' split
  all_goals omega

/-- A change of one field, within its blocks. -/
theorem Chip.put_within {u : Chip} {f : Fld} {v : Nat} {l : List Nat} (hf : f.InBlocks l) : Within ⟨[], some l⟩ u (u.put f v) :=
  ⟨fun p _ => by cases p <;> rfl,
   fun g hl h4 hs hb => by
     refine Chip.get_put_ne u f g v (fun hkey => ?_)
     have hne : g.addr / 0x100000 ∉ l := by simpa [Scope.covers] using hb
     obtain ⟨hlo, hf⟩ := hf
     have haddr : f.addr = g.addr := by unfold Fld.key at hkey; omega
     rw [haddr] at hf
     rcases hf with hf | hf | hf
     · omega
     · exact hne hf
     · exact hs hf,
   ⟨le_rfl, le_rfl, id, id⟩⟩

theorem Chip.setBit_within {u : Chip} {f : Fld} {n} {l : List Nat} (hf : f.InBlocks l) : Within ⟨[], some l⟩ u (u.setBit f n) := put_within hf

theorem Chip.satInc_within {u : Chip} {f : Fld} {l : List Nat} (hf : f.InBlocks l) : Within ⟨[], some l⟩ u (u.satInc f) := put_within hf

theorem Chip.wrapInc_within {u : Chip} {f : Fld} {l : List Nat} (hf : f.InBlocks l) : Within ⟨[], some l⟩ u (u.wrapInc f) := put_within hf

theorem Chip.highWater_within {u : Chip} {f : Fld} {v} {l : List Nat} (hf : f.InBlocks l) : Within ⟨[], some l⟩ u (u.highWater f v) := put_within hf

theorem Chip.clearBit_within {u : Chip} {f : Fld} {n} {l : List Nat} (hf : f.InBlocks l) : Within ⟨[], some l⟩ u (u.clearBit f n) := by
  unfold Chip.clearBit
  split
  · exact put_within hf
  · exact .rfl

theorem Chip.putBit_within {u : Chip} {f : Fld} {n : Nat} {x : Bool} {l : List Nat} (hf : f.InBlocks l) : Within ⟨[], some l⟩ u (u.putBit f n x) := by
  unfold Chip.putBit
  split
  · exact setBit_within hf
  · exact clearBit_within hf

/-! ### Whole parts -/

theorem Chip.answer_within {u : Chip} {r : BusResp} : Within ⟨[], some []⟩ u (u.answer r) :=
  ⟨fun p _ => by cases p <;> rfl, fun _ _ _ _ _ => rfl, ⟨le_rfl, le_rfl, id, id⟩⟩

theorem Chip.free_within {u : Chip} : Within ⟨[], some []⟩ u u.free.2 :=
  ⟨fun p _ => by cases p <;> rfl, fun _ _ _ _ _ => rfl, ⟨le_rfl, Nat.le_succ _, id, id⟩⟩

/-- A change of one part alone, with the clocks and the memories as they are. -/
theorem Chip.Within.part {u t : Chip} {p : Part} (hsame : ∀ q, q ≠ p → q.same u t) (hregs : t.regs = u.regs) (hsound : Sound u t) :
    Within ⟨[p], some []⟩ u t :=
  ⟨fun q hq => hsame q (by simpa using hq), fun f _ _ _ _ => by unfold Chip.get; rw [hregs], hsound⟩

/-- The same of several parts. -/
theorem Chip.Within.parts {u t : Chip} (l : List Part) (hsame : ∀ q, q ∈ l ∨ q.same u t) (hregs : t.regs = u.regs) (hsound : Sound u t) :
    Within ⟨l, some []⟩ u t :=
  ⟨fun q hq => (hsame q).resolve_left hq, fun f _ _ _ _ => by unfold Chip.get; rw [hregs], hsound⟩

theorem Chip.intake_within {u : Chip} {x : Intake} : Within ⟨[.intake], some []⟩ u { u with intake := x } :=
  .part (fun q hq => by cases q <;> simp_all [Part.same]) rfl ⟨le_rfl, le_rfl, id, id⟩

theorem Chip.fab_within {u : Chip} {x : Fabric} : Within ⟨[.fab], some []⟩ u { u with fab := x } :=
  .part (fun q hq => by cases q <;> simp_all [Part.same]) rfl ⟨le_rfl, le_rfl, id, id⟩

theorem Chip.pages_within {u : Chip} {x : Pages} : Within ⟨[.pages], some []⟩ u { u with pages := x } :=
  .part (fun q hq => by cases q <;> simp_all [Part.same]) rfl ⟨le_rfl, le_rfl, id, id⟩

theorem Chip.plic_within {u : Chip} {x : Plic} : Within ⟨[.plic], some []⟩ u { u with plic := x } :=
  .part (fun q hq => by cases q <;> simp_all [Part.same]) rfl ⟨le_rfl, le_rfl, id, id⟩

theorem Chip.cic_within {u : Chip} {x : Per3 Cic} : Within ⟨[.cic], some []⟩ u { u with cic := x } :=
  .part (fun q hq => by cases q <;> simp_all [Part.same]) rfl ⟨le_rfl, le_rfl, id, id⟩

theorem Chip.link_within {u : Chip} {x : Link} : Within ⟨[.link], some []⟩ u { u with link := x } :=
  .part (fun q hq => by cases q <;> simp_all [Part.same]) rfl ⟨le_rfl, le_rfl, id, id⟩

theorem Chip.lat_within {u : Chip} {x : Lattice} : Within ⟨[.lat], some []⟩ u { u with lat := x } :=
  .part (fun q hq => by cases q <;> simp_all [Part.same]) rfl ⟨le_rfl, le_rfl, id, id⟩

theorem Chip.flt_within {u : Chip} {x : FaultUnit} : Within ⟨[.flt], some []⟩ u { u with flt := x } :=
  .part (fun q hq => by cases q <;> simp_all [Part.same]) rfl ⟨le_rfl, le_rfl, id, id⟩

theorem Chip.gate_within {u : Chip} {x : Gate} : Within ⟨[.gate], some []⟩ u { u with gate := x } :=
  .part (fun q hq => by cases q <;> simp_all [Part.same]) rfl ⟨le_rfl, le_rfl, id, id⟩

theorem Chip.rt_within {u : Chip} {x : Per3 Rt} : Within ⟨[.rt], some []⟩ u { u with rt := x } :=
  .part (fun q hq => by cases q <;> simp_all [Part.same]) rfl ⟨le_rfl, le_rfl, id, id⟩

theorem Chip.sin_within {u : Chip} {x : Sin} : Within ⟨[.sin], some []⟩ u { u with sin := x } :=
  .part (fun q hq => by cases q <;> simp_all [Part.same]) rfl ⟨le_rfl, le_rfl, id, id⟩

theorem Chip.sout_within {u : Chip} {x : Sluice} : Within ⟨[.sout], some []⟩ u { u with sout := x } :=
  .part (fun q hq => by cases q <;> simp_all [Part.same]) rfl ⟨le_rfl, le_rfl, id, id⟩

theorem Chip.zst_within {u : Chip} {x : Zst} : Within ⟨[.zst], some []⟩ u { u with zst := x } :=
  .part (fun q hq => by cases q <;> simp_all [Part.same]) rfl ⟨le_rfl, le_rfl, id, id⟩

theorem Chip.svc_within {u : Chip} {x : Service} : Within ⟨[.svc], some []⟩ u { u with svc := x } :=
  .part (fun q hq => by cases q <;> simp_all [Part.same]) rfl ⟨le_rfl, le_rfl, id, id⟩

theorem Chip.ports_within {u : Chip} {x : List PortRt} : Within ⟨[.ports], some []⟩ u { u with ports := x } :=
  .part (fun q hq => by cases q <;> simp_all [Part.same]) rfl ⟨le_rfl, le_rfl, id, id⟩

theorem Chip.cb_within {u : Chip} {x : List CbStream} : Within ⟨[.cb], some []⟩ u { u with cb := x } :=
  .part (fun q hq => by cases q <;> simp_all [Part.same]) rfl ⟨le_rfl, le_rfl, id, id⟩

theorem Chip.tm_within {u : Chip} {x : TimeFn} : Within ⟨[.tm], some []⟩ u { u with tm := x } :=
  .part (fun q hq => by cases q <;> simp_all [Part.same]) rfl ⟨le_rfl, le_rfl, id, id⟩

theorem Chip.br_within {u : Chip} {x : Bridge} : Within ⟨[.br], some []⟩ u { u with br := x } :=
  .part (fun q hq => by cases q <;> simp_all [Part.same]) rfl ⟨le_rfl, le_rfl, id, id⟩

theorem Chip.evr_within {u : Chip} {x : Recorder} : Within ⟨[.evr], some []⟩ u { u with evr := x } :=
  .part (fun q hq => by cases q <;> simp_all [Part.same]) rfl ⟨le_rfl, le_rfl, id, id⟩

theorem Chip.perc_within {u : Chip} {x : List Perc} : Within ⟨[.perc], some []⟩ u { u with perc := x } :=
  .part (fun q hq => by cases q <;> simp_all [Part.same]) rfl ⟨le_rfl, le_rfl, id, id⟩

theorem Chip.ret_within {u : Chip} {x : Retain} : Within ⟨[.ret], some []⟩ u { u with ret := x } :=
  .part (fun q hq => by cases q <;> simp_all [Part.same]) rfl ⟨le_rfl, le_rfl, id, id⟩

theorem Chip.pwr_within {u : Chip} {x : Power} : Within ⟨[.pwr], some []⟩ u { u with pwr := x } :=
  .part (fun q hq => by cases q <;> simp_all [Part.same]) rfl ⟨le_rfl, le_rfl, id, id⟩

theorem Chip.com_within {u : Chip} {x : Commission} : Within ⟨[.com], some []⟩ u { u with com := x } :=
  .part (fun q hq => by cases q <;> simp_all [Part.same]) rfl ⟨le_rfl, le_rfl, id, id⟩

theorem Chip.boot_within {u : Chip} {x : Boot} : Within ⟨[.boot], some []⟩ u { u with boot := x } :=
  .part (fun q hq => by cases q <;> simp_all [Part.same]) rfl ⟨le_rfl, le_rfl, id, id⟩

theorem Chip.conf_within {u : Chip} {x : Conf} (hm : x.mirror = u.conf.mirror) : Within ⟨[.conf], some []⟩ u { u with conf := x } :=
  .part (fun q hq => by cases q <;> simp_all [Part.same]) rfl ⟨le_rfl, le_rfl, id, fun h => by simpa [memoriesOk, hm] using h⟩

theorem Chip.conf_mirror_within {u : Chip} {x : Conf} (hm : u.memoriesOk = true → memWf x.mirror = true) :
    Within ⟨[.conf], some []⟩ u { u with conf := x } := by
  refine .part (fun q hq => by cases q <;> simp_all [Part.same]) rfl ⟨le_rfl, le_rfl, id, fun h => ?_⟩
  have hx := hm h
  simp_all [memoriesOk]

theorem Chip.modConf_within {u : Chip} {g : Conf → Conf} (hg : ∀ v, (g v).mirror = v.mirror) : Within ⟨[.conf], some []⟩ u (u.modConf g) :=
  conf_within (hg _)

/-- Weir's state with the phase accumulator as it is. -/
theorem Chip.weir_within {u : Chip} {x : Weir} (hacc : x.acc = u.weir.acc) : Within ⟨[.weir], some []⟩ u { u with weir := x } :=
  .part (fun q hq => by cases q <;> simp_all [Part.same]) rfl ⟨le_rfl, le_rfl, fun h => by simpa [clockOk, hacc] using h, id⟩

theorem Chip.modWeir_within {u : Chip} {g : Weir → Weir} (hg : ∀ w, (g w).acc = w.acc) : Within ⟨[.weir], some []⟩ u (u.modWeir g) :=
  weir_within (hg _)

/-- Weir with a phase accumulator of 0, and the lattice. -/
theorem Chip.weirReset_within {u : Chip} {x : Weir} {y : Lattice} (hacc : x.acc = 0) :
    Within ⟨[.weir, .lat], some []⟩ u { u with weir := x, lat := y } :=
  .parts _ (fun q => by cases q <;> simp [Part.same]) rfl ⟨le_rfl, le_rfl, fun _ => by simp [clockOk, hacc], id⟩

/-- The memories are canonical exactly if each of the six is. -/
theorem Chip.memoriesOk_iff (u : Chip) : u.memoriesOk = true ↔ memWf u.chans.a.sram = true ∧ memWf u.chans.b.sram = true ∧
    memWf u.chans.c.sram = true ∧ memWf u.conf.mirror = true ∧ memWf u.msram = true ∧ memWf u.ddr = true := by
  simp [Chip.memoriesOk, and_assoc]

/-- A channel's SRAM of a unit whose memories are canonical. -/
theorem Chip.memoriesOk_chan {u : Chip} (h : u.memoriesOk = true) (c : Nat) : memWf (u.chan c).sram = true := by
  obtain ⟨ha, hb, hc, -, -, -⟩ := u.memoriesOk_iff.1 h
  unfold Chip.chan Per3.get
  split
  · exact ha
  · split
    · exact hb
    · exact hc

/-- The canonical form: addresses rise and no byte 0 is listed. -/
theorem memWfFrom_iff {lo : Nat} {m : List Host.Cell} :
    memWfFrom lo m = true ↔ (m.Pairwise (fun a b => a.1 < b.1) ∧ ∀ e ∈ m, e.2 ≠ 0) ∧ ∀ e ∈ m, lo ≤ e.1 := by
  induction m generalizing lo with
  | nil => simp [memWfFrom]
  | cons e m ih =>
    obtain ⟨a, b⟩ := e
    simp only [memWfFrom, Bool.and_eq_true, decide_eq_true_eq, ih, List.pairwise_cons, List.forall_mem_cons]
    constructor
    · rintro ⟨⟨hlo, hb⟩, ⟨hp, hv⟩, ha⟩
      exact ⟨⟨⟨ha, hp⟩, hb, hv⟩, hlo, fun e he => le_trans hlo (le_trans (Nat.le_succ a) (ha e he))⟩
    · rintro ⟨⟨⟨ha, hp⟩, hb, hv⟩, hlo, -⟩
      exact ⟨⟨hlo, hb⟩, ⟨hp, hv⟩, ha⟩

theorem memWf_iff {m : List Host.Cell} : memWf m = true ↔ m.Pairwise (fun a b => a.1 < b.1) ∧ ∀ e ∈ m, e.2 ≠ 0 := by
  unfold memWf
  rw [memWfFrom_iff]
  exact and_iff_left (fun _ _ => Nat.zero_le _)

/-- A range of one canonical memory put in place of the same range of another. -/
theorem memCopy_wf {dst src : List Host.Cell} {lo hi : Nat} (hle : lo ≤ hi) (hd : memWf dst = true) (hs : memWf src = true) :
    memWf (memCopy dst src lo hi) = true := by
  rw [memWf_iff] at hd hs ⊢
  obtain ⟨hd, hdv⟩ := hd
  obtain ⟨hs, hsv⟩ := hs
  unfold memCopy memSlice
  simp only [List.pairwise_append, List.mem_append, List.mem_filter, decide_eq_true_eq]
  refine ⟨⟨⟨hd.filter _, hs.filter _, ?_⟩, hd.filter _, ?_⟩, ?_⟩
  · rintro a ⟨-, ha⟩ b ⟨-, hb⟩
    omega
  · rintro a (⟨-, ha⟩ | ⟨-, ha⟩) b ⟨-, hb⟩ <;> omega
  · rintro e ((⟨he, -⟩ | ⟨he, -⟩) | ⟨he, -⟩)
    · exact hdv e he
    · exact hsv e he
    · exact hdv e he

/-- What a fold over canonical memories keeps. -/
theorem memFoldl_wf {α : Type} {g : List Host.Cell → α → List Host.Cell} (h : ∀ m x, memWf m = true → memWf (g m x) = true) {l : List α}
    {m : List Host.Cell} (hm : memWf m = true) : memWf (l.foldl g m) = true := by
  induction l generalizing m with
  | nil => exact hm
  | cons x l ih => exact ih (h m x hm)

theorem SbEntry.store_wf (e : SbEntry) {m : List Host.Cell} (hm : memWf m = true) : memWf (e.store m) = true := by
  refine memFoldl_wf (fun m i hm => ?_) hm
  split
  · exact memWrite_wf m _ _ hm
  · exact hm

/-- A channel's state with its SRAM canonical. -/
theorem Chip.modChan_sram_within {u : Chip} {c : Nat} {g : Channel → Channel}
    (hg : u.memoriesOk = true → memWf (g (u.chan c)).sram = true) : Within ⟨[.chans], some []⟩ u (u.modChan c g) := by
  refine .part (fun q hq => by cases q <;> simp_all [Part.same, Chip.modChan]) rfl ⟨le_rfl, le_rfl, id, fun h => ?_⟩
  have hc := hg h
  obtain ⟨ha, hb, hc', hm⟩ := u.memoriesOk_iff.1 h
  rw [Chip.memoriesOk_iff]
  unfold Chip.modChan Per3.set
  split
  · exact ⟨hc, hb, hc', hm⟩
  · split
    · exact ⟨ha, hc, hc', hm⟩
    · split
      · exact ⟨ha, hb, hc, hm⟩
      · exact ⟨ha, hb, hc', hm⟩

theorem Chip.modChan_within {u : Chip} {c : Nat} {g : Channel → Channel} (hg : ∀ h, (g h).sram = h.sram) :
    Within ⟨[.chans], some []⟩ u (u.modChan c g) :=
  modChan_sram_within (fun h => by rw [hg]; exact u.memoriesOk_chan h c)

theorem Chip.msram_within {u : Chip} {x : List Host.Cell} (hx : memWf u.msram = true → memWf x = true) :
    Within ⟨[.msram], some []⟩ u { u with msram := x } := by
  refine .part (fun q hq => by cases q <;> simp_all [Part.same]) rfl ⟨le_rfl, le_rfl, id, fun h => ?_⟩
  obtain ⟨ha, hb, hc, hm, hs, hd⟩ := u.memoriesOk_iff.1 h
  exact (Chip.memoriesOk_iff _).2 ⟨ha, hb, hc, hm, hx hs, hd⟩

theorem Chip.ddr_within {u : Chip} {x : List Host.Cell} (hx : memWf u.ddr = true → memWf x = true) :
    Within ⟨[.ddr], some []⟩ u { u with ddr := x } := by
  refine .part (fun q hq => by cases q <;> simp_all [Part.same]) rfl ⟨le_rfl, le_rfl, id, fun h => ?_⟩
  obtain ⟨ha, hb, hc, hm, hs, hd⟩ := u.memoriesOk_iff.1 h
  exact (Chip.memoriesOk_iff _).2 ⟨ha, hb, hc, hm, hs, hx hd⟩

/-! ### Two parts together -/

theorem Chip.com_boot_within {u : Chip} {x : Commission} {y : Boot} :
    Within ⟨[.com, .boot], some []⟩ u { u with com := x, boot := y } :=
  .parts _ (fun q => by cases q <;> simp [Part.same]) rfl ⟨le_rfl, le_rfl, id, id⟩

theorem Chip.intake_evr_within {u : Chip} {x : Intake} {y : Recorder} :
    Within ⟨[.intake, .evr], some []⟩ u { u with intake := x, evr := y } :=
  .parts _ (fun q => by cases q <;> simp [Part.same]) rfl ⟨le_rfl, le_rfl, id, id⟩

theorem Chip.link_lat_within {u : Chip} {x : Link} {y : Lattice} :
    Within ⟨[.link, .lat], some []⟩ u { u with link := x, lat := y } :=
  .parts _ (fun q => by cases q <;> simp [Part.same]) rfl ⟨le_rfl, le_rfl, id, id⟩

theorem Chip.link_zst_within {u : Chip} {x : Link} {y : Zst} :
    Within ⟨[.link, .zst], some []⟩ u { u with link := x, zst := y } :=
  .parts _ (fun q => by cases q <;> simp [Part.same]) rfl ⟨le_rfl, le_rfl, id, id⟩

theorem Chip.zst_ret_within {u : Chip} {x : Zst} {y : Retain} :
    Within ⟨[.zst, .ret], some []⟩ u { u with zst := x, ret := y } :=
  .parts _ (fun q => by cases q <;> simp [Part.same]) rfl ⟨le_rfl, le_rfl, id, id⟩

theorem Chip.conf_link_within {u : Chip} {x : Conf} {y : Link} (hm : x.mirror = u.conf.mirror) :
    Within ⟨[.conf, .link], some []⟩ u { u with conf := x, link := y } :=
  .parts _ (fun q => by cases q <;> simp [Part.same]) rfl ⟨le_rfl, le_rfl, id, fun h => by simpa [memoriesOk, hm] using h⟩

theorem Chip.weir_lat_within {u : Chip} {x : Weir} {y : Lattice} (hacc : x.acc = u.weir.acc) :
    Within ⟨[.weir, .lat], some []⟩ u { u with weir := x, lat := y } :=
  .parts _ (fun q => by cases q <;> simp [Part.same]) rfl ⟨le_rfl, le_rfl, fun h => by simpa [clockOk, hacc] using h, id⟩

theorem Chip.weir_link_within {u : Chip} {x : Weir} {y : Link} (hacc : x.acc = u.weir.acc) :
    Within ⟨[.weir, .link], some []⟩ u { u with weir := x, link := y } :=
  .parts _ (fun q => by cases q <;> simp [Part.same]) rfl ⟨le_rfl, le_rfl, fun h => by simpa [clockOk, hacc] using h, id⟩

theorem Chip.weir_pwr_within {u : Chip} {x : Weir} {y : Power} (hacc : x.acc = u.weir.acc) :
    Within ⟨[.weir, .pwr], some []⟩ u { u with weir := x, pwr := y } :=
  .parts _ (fun q => by cases q <;> simp [Part.same]) rfl ⟨le_rfl, le_rfl, fun h => by simpa [clockOk, hacc] using h, id⟩

theorem Chip.cic_rt_within {u : Chip} {x : Per3 Cic} {y : Per3 Rt} : Within ⟨[.cic, .rt], some []⟩ u { u with cic := x, rt := y } :=
  .parts _ (fun q => by cases q <;> simp [Part.same]) rfl ⟨le_rfl, le_rfl, id, id⟩

theorem Chip.flt_pwr_within {u : Chip} {x : FaultUnit} {y : Power} : Within ⟨[.flt, .pwr], some []⟩ u { u with flt := x, pwr := y } :=
  .parts _ (fun q => by cases q <;> simp [Part.same]) rfl ⟨le_rfl, le_rfl, id, id⟩

theorem Chip.link_svc_boot_within {u : Chip} {x : Link} {y : Service} {z : Boot} :
    Within ⟨[.link, .svc, .boot], some []⟩ u { u with link := x, svc := y, boot := z } :=
  .parts _ (fun q => by cases q <;> simp [Part.same]) rfl ⟨le_rfl, le_rfl, id, id⟩

/-- The state of all three channels, with their SRAM as it is. -/
theorem Chip.chans_within {u : Chip} {x : Per3 Channel} (ha : x.a.sram = u.chans.a.sram) (hb : x.b.sram = u.chans.b.sram)
    (hc : x.c.sram = u.chans.c.sram) : Within ⟨[.chans], some []⟩ u { u with chans := x } :=
  .part (fun q hq => by cases q <;> simp_all [Part.same]) rfl ⟨le_rfl, le_rfl, id, fun h => by simpa [memoriesOk, ha, hb, hc] using h⟩

/-! ### Time -/

theorem Chip.advance_within {u : Chip} {n : Nat} : Within ⟨[.weir], some []⟩ u (u.advance n) := by
  refine .part (fun q hq => by cases q <;> simp_all [Part.same]) rfl ⟨Nat.le_add_right _ _, le_rfl, fun h => ?_, id⟩
  unfold Chip.advance Chip.clockOk
  dsimp only
  split
  · exact h
  · have := Int.emod_nonneg (u.weir.acc + n * signed 24 (u.get Reg.WR_RATE.RATE)) (b := 1000000000) (by decide)
    have := Int.emod_lt_of_pos (u.weir.acc + n * signed 24 (u.get Reg.WR_RATE.RATE)) (b := 1000000000) (by decide)
    exact decide_eq_true ⟨by assumption, by assumption⟩

theorem Chip.until_within {u : Chip} {t : Nat} : Within ⟨[.weir], some []⟩ u (u.until t) := advance_within

theorem Chip.untilWeir_within {u : Chip} {t : Nat} : Within ⟨[.weir], some []⟩ u (u.untilWeir t) := by
  unfold Chip.untilWeir
  dsimp only
  split
  · exact .rfl
  · exact advance_within

/-! ### Registers that return to reset together -/

theorem regLookup_filter {p : Nat × Nat → Bool} {l : Regs} {k d : Nat} (h : ∀ v, p (k, v) = true) : regLookup (l.filter p) k d = regLookup l k d := by
  induction l with
  | nil => rfl
  | cons e l ih =>
    obtain ⟨a, v⟩ := e
    by_cases ha : a = k
    · subst ha
      simp [h v, regLookup]
    · by_cases hp : p (a, v) = true
      · simp [hp, regLookup, ha, ih]
      · simp [hp, regLookup, ha, ih]

/-- A part of a register holds no state of the Weir die, or lies in the Weir window. -/
def Piece.weirInWindow (p : Piece) : Bool := !(p.fld.dom == .weir || p.fld.dom == .weirCtl) || p.fld.key / 32 / 0x100000 == 0x500

theorem headerPieces_weirInWindow (pg off : Nat) : (Reg.headerPieces pg off).all Piece.weirInWindow = true := by
  unfold Reg.headerPieces
  repeat' split
  all_goals rfl

theorem regRows_weirInWindow : Reg.regRows.all (fun r => (List.range (max 1 r.count)).all (fun i => (r.pieces i).all Piece.weirInWindow)) = true := by
  decide +kernel

theorem RegRow.index?_lt {r : RegRow} {a i : Nat} (h : r.index? a = some i) : i < max 1 r.count := by
  unfold RegRow.index? at h
  split at h
  · exact absurd h (by simp)
  · split at h
    · split at h
      · cases h
        omega
      · exact absurd h (by simp)
    · split at h
      · cases h
        omega
      · exact absurd h (by simp)

theorem regPieces_weirInWindow (a : Nat) : (regPieces a).all Piece.weirInWindow = true := by
  unfold regPieces
  split
  · exact headerPieces_weirInWindow _ _
  · split
    · rfl
    · rename_i r hr
      split
      · rename_i i hi
        exact List.all_eq_true.1 (List.all_eq_true.1 regRows_weirInWindow r (List.mem_of_find?_eq_some hr)) i (List.mem_range.2 (RegRow.index?_lt hi))
      · rfl

/-- A loss of the Weir die's state changes the Weir window alone. -/
theorem Chip.resetDomains_weir_within {u : Chip} {doms : List Dom} (hd : ∀ d ∈ doms, d = .weir ∨ d = .weirCtl) :
    Within ⟨[], some [0x500]⟩ u (u.resetDomains doms) := by
  refine ⟨fun p _ => by cases p <;> rfl, fun f hl h4 hs hb => ?_, ⟨le_rfl, le_rfl, id, id⟩⟩
  have haddr : f.key / 32 = f.addr := by unfold Fld.key; omega
  have hwindow : f.addr / 0x100000 ≠ 0x500 := by simpa [Scope.covers] using hb
  have hkeep : keyIn doms f.key = false := by
    unfold keyIn
    split
    · rename_i p hp
      have hw := List.all_eq_true.1 (regPieces_weirInWindow _) p (List.mem_of_find?_eq_some hp)
      have hkey : p.fld.key = f.key := by simpa using List.find?_some hp
      rw [Piece.weirInWindow, hkey, haddr, beq_eq_false_iff_ne.2 hwindow, Bool.or_false] at hw
      rw [Bool.eq_false_iff, ne_eq, List.contains_iff_mem]
      intro hmem
      rcases hd _ hmem with h | h <;> simp [h] at hw
    · rfl
  exact congrArg (· % 2 ^ f.width) (regLookup_filter fun v => by simp [hkeep])

/-- Any change of registers, within every block. -/
theorem Chip.regs_within {u : Chip} {x : Regs} : Within ⟨[], none⟩ u { u with regs := x } :=
  ⟨fun p _ => by cases p <;> rfl, fun f _ _ _ hb => by simp [Scope.covers] at hb, ⟨le_rfl, le_rfl, id, id⟩⟩

theorem Chip.put_any_within {u : Chip} {f : Fld} {v : Nat} : Within ⟨[], none⟩ u (u.put f v) := regs_within

theorem Chip.resetDomains_within {u : Chip} {doms : List Dom} : Within ⟨[], none⟩ u (u.resetDomains doms) := regs_within

theorem Chip.resetFields_within {u : Chip} {l : List Fld} {b : List Nat} (hl : ∀ f ∈ l, f.InBlocks b) : Within ⟨[], some b⟩ u (u.resetFields l) := by
  unfold Chip.resetFields
  induction l generalizing u with
  | nil => exact .rfl
  | cons f l ih => exact (put_within (hl f List.mem_cons_self)).step (ih fun g hg => hl g (List.mem_cons_of_mem f hg))

/-! ### Outcomes -/

/-- A command answers a next state that keeps the queue, within a scope. -/
def Runs (a : Scope) (s : State) (r : Host.Outcome State Fault Refusal) : Prop := ∃ t, r = s.become t ∧ Chip.Within a s.chip t

theorem Runs.become {a : Scope} {s : State} {t : Chip} (h : Chip.Within a s.chip t) : Runs a s (s.become t) := ⟨t, rfl, h⟩

theorem Runs.weirDoes {a : Scope} {s : State} {t : Chip} (h : Chip.Within a s.chip t) : Runs a s (s.weirDoes t) := by
  refine .become ?_
  split
  · exact .rfl
  · exact h

end Sys2Proof.Machine
end

section
/-!
PROOFS. The scope of every operation of the model, callees before their callers, and of every command (`exec…_runs`); from them the frames
of all commands, the memories' canonical form and that every command completes.
-/
namespace Sys2Proof.Machine
open Chip

theorem Reg.ARB_LAT.MAX_in {i : Nat} : (Reg.ARB_LAT.MAX i).InBlocks [0x40A] := Fld.inBlocks_slot 0 rfl rfl (by decide)
theorem Reg.BR_PFDISC.COUNT_in {i : Nat} : (Reg.BR_PFDISC.COUNT i).InBlocks [0x420] := Fld.inBlocks_slot 0 rfl rfl (by decide)
theorem Reg.CF_PSTAT.LAST_SEQ_in {i : Nat} : (Reg.CF_PSTAT.LAST_SEQ i).InBlocks [0x403] := Fld.inBlocks_slot 0 rfl rfl (by decide)
theorem Reg.CF_PSTAT.OVF_in {i : Nat} : (Reg.CF_PSTAT.OVF i).InBlocks [0x403] := Fld.inBlocks_slot 0 rfl rfl (by decide)
theorem Reg.CF_PSTAT.PARITY_in {i : Nat} : (Reg.CF_PSTAT.PARITY i).InBlocks [0x403] := Fld.inBlocks_slot 0 rfl rfl (by decide)
theorem Reg.CF_PSTAT.PSTATE_in {i : Nat} : (Reg.CF_PSTAT.PSTATE i).InBlocks [0x403] := Fld.inBlocks_slot 0 rfl rfl (by decide)
theorem Reg.CF_PSTAT.SLOTS_in {i : Nat} : (Reg.CF_PSTAT.SLOTS i).InBlocks [0x403] := Fld.inBlocks_slot 0 rfl rfl (by decide)
theorem Reg.CH_BUF.EARLY_in {i : Nat} : (Reg.CH_BUF.EARLY i).InBlocks [0x402] := Fld.inBlocks_slot 0 rfl rfl (by decide)
theorem Reg.CH_BUF.RPL_HWM_in {i : Nat} : (Reg.CH_BUF.RPL_HWM i).InBlocks [0x402] := Fld.inBlocks_slot 0 rfl rfl (by decide)
theorem Reg.CH_BUF.SB_HWM_in {i : Nat} : (Reg.CH_BUF.SB_HWM i).InBlocks [0x402] := Fld.inBlocks_slot 0 rfl rfl (by decide)
theorem Reg.CH_CSN.NOTICE_in {i : Nat} : (Reg.CH_CSN.NOTICE i).InBlocks [0x402] := Fld.inBlocks_slot 0 rfl rfl (by decide)
theorem Reg.CH_CSN.READY_in {i : Nat} : (Reg.CH_CSN.READY i).InBlocks [0x402] := Fld.inBlocks_slot 0 rfl rfl (by decide)
theorem Reg.CH_CSN.TARGET_in {i : Nat} : (Reg.CH_CSN.TARGET i).InBlocks [0x402] := Fld.inBlocks_slot 0 rfl rfl (by decide)
theorem Reg.CH_ECC.CORR_in {i : Nat} : (Reg.CH_ECC.CORR i).InBlocks [0x402] := Fld.inBlocks_slot 0 rfl rfl (by decide)
theorem Reg.CH_ECC.DED_in {i : Nat} : (Reg.CH_ECC.DED i).InBlocks [0x402] := Fld.inBlocks_slot 0 rfl rfl (by decide)
theorem Reg.CH_ECC_ADDR.ADDR_in {i : Nat} : (Reg.CH_ECC_ADDR.ADDR i).InBlocks [0x402] := Fld.inBlocks_slot 0 rfl rfl (by decide)
theorem Reg.CH_INJ.BOOT_OK_in {i : Nat} : (Reg.CH_INJ.BOOT_OK i).InBlocks [0x402] := Fld.inBlocks_slot 0 rfl rfl (by decide)
theorem Reg.CH_INJ.LK_LANE_in {i : Nat} : (Reg.CH_INJ.LK_LANE i).InBlocks [0x402] := Fld.inBlocks_slot 0 rfl rfl (by decide)
theorem Reg.CH_INJ.LK_LAST_OK_in {i : Nat} : (Reg.CH_INJ.LK_LAST_OK i).InBlocks [0x402] := Fld.inBlocks_slot 0 rfl rfl (by decide)
theorem Reg.CH_INJ.LT_LANE_in {i : Nat} : (Reg.CH_INJ.LT_LANE i).InBlocks [0x402] := Fld.inBlocks_slot 0 rfl rfl (by decide)
theorem Reg.CH_INJ.LT_LAST_OK_in {i : Nat} : (Reg.CH_INJ.LT_LAST_OK i).InBlocks [0x402] := Fld.inBlocks_slot 0 rfl rfl (by decide)
theorem Reg.CH_LOSS.CAUSE_in {i : Nat} : (Reg.CH_LOSS.CAUSE i).InBlocks [0x402] := Fld.inBlocks_slot 0 rfl rfl (by decide)
theorem Reg.CH_LOSS.CYCLE_in {i : Nat} : (Reg.CH_LOSS.CYCLE i).InBlocks [0x402] := Fld.inBlocks_slot 0 rfl rfl (by decide)
theorem Reg.CH_MMCNT.LK_in {i : Nat} : (Reg.CH_MMCNT.LK i).InBlocks [0x402] := Fld.inBlocks_slot 0 rfl rfl (by decide)
theorem Reg.CH_MMCNT.LT_in {i : Nat} : (Reg.CH_MMCNT.LT i).InBlocks [0x402] := Fld.inBlocks_slot 0 rfl rfl (by decide)
theorem Reg.CH_RB.LAST_NS_in {i : Nat} : (Reg.CH_RB.LAST_NS i).InBlocks [0x402] := Fld.inBlocks_slot 0 rfl rfl (by decide)
theorem Reg.CH_RB.TOTAL_in {i : Nat} : (Reg.CH_RB.TOTAL i).InBlocks [0x402] := Fld.inBlocks_slot 0 rfl rfl (by decide)
theorem Reg.CH_RB.TWIN_in {i : Nat} : (Reg.CH_RB.TWIN i).InBlocks [0x402] := Fld.inBlocks_slot 0 rfl rfl (by decide)
theorem Reg.CH_REINT.LOSSES_in {i : Nat} : (Reg.CH_REINT.LOSSES i).InBlocks [0x402] := Fld.inBlocks_slot 0 rfl rfl (by decide)
theorem Reg.CH_STATE.MM_CYC_in {i : Nat} : (Reg.CH_STATE.MM_CYC i).InBlocks [0x402] := Fld.inBlocks_slot 0 rfl rfl (by decide)
theorem Reg.CH_STATE.RB_LK_in {i : Nat} : (Reg.CH_STATE.RB_LK i).InBlocks [0x402] := Fld.inBlocks_slot 0 rfl rfl (by decide)
theorem Reg.CH_STATE.RB_LT_in {i : Nat} : (Reg.CH_STATE.RB_LT i).InBlocks [0x402] := Fld.inBlocks_slot 0 rfl rfl (by decide)
theorem Reg.CH_STATE.STATE_in {i : Nat} : (Reg.CH_STATE.STATE i).InBlocks [0x402] := Fld.inBlocks_slot 0 rfl rfl (by decide)
theorem Reg.CH_WINCNT_LK.COUNT_in {i : Nat} : (Reg.CH_WINCNT_LK.COUNT i).InBlocks [0x402] := Fld.inBlocks_slot 0 rfl rfl (by decide)
theorem Reg.CH_WINCNT_LT.COUNT_in {i : Nat} : (Reg.CH_WINCNT_LT.COUNT i).InBlocks [0x402] := Fld.inBlocks_slot 0 rfl rfl (by decide)
theorem Reg.CVU_CFG.MODE_in {i : Nat} : (Reg.CVU_CFG.MODE i).InBlocks [0x421] := Fld.inBlocks_slot 0 rfl rfl (by decide)
theorem Reg.CVU_CFG.PRESET_in {i : Nat} : (Reg.CVU_CFG.PRESET i).InBlocks [0x421] := Fld.inBlocks_slot 0 rfl rfl (by decide)
theorem Reg.CVU_CFG.REFIN_in {i : Nat} : (Reg.CVU_CFG.REFIN i).InBlocks [0x421] := Fld.inBlocks_slot 0 rfl rfl (by decide)
theorem Reg.CVU_CFG.REFOUT_in {i : Nat} : (Reg.CVU_CFG.REFOUT i).InBlocks [0x421] := Fld.inBlocks_slot 0 rfl rfl (by decide)
theorem Reg.CVU_CFG.WIDTH_in {i : Nat} : (Reg.CVU_CFG.WIDTH i).InBlocks [0x421] := Fld.inBlocks_slot 0 rfl rfl (by decide)
theorem Reg.CVU_INIT.VAL_in {i : Nat} : (Reg.CVU_INIT.VAL i).InBlocks [0x421] := Fld.inBlocks_slot 0 rfl rfl (by decide)
theorem Reg.CVU_POLY.VAL_in {i : Nat} : (Reg.CVU_POLY.VAL i).InBlocks [0x421] := Fld.inBlocks_slot 0 rfl rfl (by decide)
theorem Reg.CVU_RES.VAL_in {i : Nat} : (Reg.CVU_RES.VAL i).InBlocks [0x421] := Fld.inBlocks_slot 0 rfl rfl (by decide)
theorem Reg.CVU_STAT.CHK_FAIL_in {i : Nat} : (Reg.CVU_STAT.CHK_FAIL i).InBlocks [0x421] := Fld.inBlocks_slot 0 rfl rfl (by decide)
theorem Reg.CVU_STAT.LAST_OK_in {i : Nat} : (Reg.CVU_STAT.LAST_OK i).InBlocks [0x421] := Fld.inBlocks_slot 0 rfl rfl (by decide)
theorem Reg.CVU_STAT.OWNED_in {i : Nat} : (Reg.CVU_STAT.OWNED i).InBlocks [0x421] := Fld.inBlocks_slot 0 rfl rfl (by decide)
theorem Reg.CVU_VAL.VAL_in {i : Nat} : (Reg.CVU_VAL.VAL i).InBlocks [0x421] := Fld.inBlocks_slot 0 rfl rfl (by decide)
theorem Reg.CVU_XOR.VAL_in {i : Nat} : (Reg.CVU_XOR.VAL i).InBlocks [0x421] := Fld.inBlocks_slot 0 rfl rfl (by decide)
theorem Reg.EVR_WIN.DATA_in {i : Nat} : (Reg.EVR_WIN.DATA i).InBlocks [0x445] := Fld.inBlocks_slot 0 rfl rfl (by decide)
theorem Reg.FLT_CAP.VAL_in {i : Nat} : (Reg.FLT_CAP.VAL i).InBlocks [0x407] := Fld.inBlocks_slot 0 rfl rfl (by decide)
theorem Reg.IDB_SCAN.GO_in {i : Nat} : (Reg.IDB_SCAN.GO i).InBlocks [0x449] := Fld.inBlocks_slot 0 rfl rfl (by decide)
theorem Reg.IDB_STAT.BADREC_in {i : Nat} : (Reg.IDB_STAT.BADREC i).InBlocks [0x449] := Fld.inBlocks_slot 0 rfl rfl (by decide)
theorem Reg.IDB_STAT.BUSY_in {i : Nat} : (Reg.IDB_STAT.BUSY i).InBlocks [0x449] := Fld.inBlocks_slot 0 rfl rfl (by decide)
theorem Reg.IDB_STAT.FOUND_in {i : Nat} : (Reg.IDB_STAT.FOUND i).InBlocks [0x449] := Fld.inBlocks_slot 0 rfl rfl (by decide)
theorem Reg.MM_DIFF.LANES_in {i : Nat} : (Reg.MM_DIFF.LANES i).InBlocks [0x402] := Fld.inBlocks_slot 0 rfl rfl (by decide)
theorem Reg.MM_INFO.COUNT_in {i : Nat} : (Reg.MM_INFO.COUNT i).InBlocks [0x402] := Fld.inBlocks_slot 0 rfl rfl (by decide)
theorem Reg.MM_INFO.DED_in {i : Nat} : (Reg.MM_INFO.DED i).InBlocks [0x402] := Fld.inBlocks_slot 0 rfl rfl (by decide)
theorem Reg.MM_INFO.INJ_in {i : Nat} : (Reg.MM_INFO.INJ i).InBlocks [0x402] := Fld.inBlocks_slot 0 rfl rfl (by decide)
theorem Reg.MM_INFO.PARITY_in {i : Nat} : (Reg.MM_INFO.PARITY i).InBlocks [0x402] := Fld.inBlocks_slot 0 rfl rfl (by decide)
theorem Reg.MM_INFO.TWIN_in {i : Nat} : (Reg.MM_INFO.TWIN i).InBlocks [0x402] := Fld.inBlocks_slot 0 rfl rfl (by decide)
theorem Reg.MM_SIG_LEAD.SIG_in {i : Nat} : (Reg.MM_SIG_LEAD.SIG i).InBlocks [0x402] := Fld.inBlocks_slot 0 rfl rfl (by decide)
theorem Reg.MM_SIG_TRAIL.SIG_in {i : Nat} : (Reg.MM_SIG_TRAIL.SIG i).InBlocks [0x402] := Fld.inBlocks_slot 0 rfl rfl (by decide)
theorem Reg.MM_WIN.WIN_in {i : Nat} : (Reg.MM_WIN.WIN i).InBlocks [0x402] := Fld.inBlocks_slot 0 rfl rfl (by decide)
theorem Reg.PWR_CLOG.ANSWER_in {i : Nat} : (Reg.PWR_CLOG.ANSWER i).InBlocks [0x447] := Fld.inBlocks_slot 0 rfl rfl (by decide)
theorem Reg.PWR_CLOG.INST_in {i : Nat} : (Reg.PWR_CLOG.INST i).InBlocks [0x447] := Fld.inBlocks_slot 0 rfl rfl (by decide)
theorem Reg.PWR_CLOG.TYPE_in {i : Nat} : (Reg.PWR_CLOG.TYPE i).InBlocks [0x447] := Fld.inBlocks_slot 0 rfl rfl (by decide)
theorem Reg.SIN_PROOF.PROOF_in {i : Nat} : (Reg.SIN_PROOF.PROOF i).InBlocks [0x404] := Fld.inBlocks_slot 0 rfl rfl (by decide)
theorem Reg.SIN_ST.CAUSE_in {i : Nat} : (Reg.SIN_ST.CAUSE i).InBlocks [0x404] := Fld.inBlocks_slot 0 rfl rfl (by decide)
theorem Reg.SIN_ST.DISC_in {i : Nat} : (Reg.SIN_ST.DISC i).InBlocks [0x404] := Fld.inBlocks_slot 0 rfl rfl (by decide)
theorem Reg.SIN_ST.FILT_in {i : Nat} : (Reg.SIN_ST.FILT i).InBlocks [0x404] := Fld.inBlocks_slot 0 rfl rfl (by decide)
theorem Reg.SIN_ST.GLITCH_in {i : Nat} : (Reg.SIN_ST.GLITCH i).InBlocks [0x404] := Fld.inBlocks_slot 0 rfl rfl (by decide)
theorem Reg.SIN_ST.GSTEP_in {i : Nat} : (Reg.SIN_ST.GSTEP i).InBlocks [0x404] := Fld.inBlocks_slot 0 rfl rfl (by decide)
theorem Reg.SIN_ST.RAW_in {i : Nat} : (Reg.SIN_ST.RAW i).InBlocks [0x404] := Fld.inBlocks_slot 0 rfl rfl (by decide)
theorem Reg.SIN_ST.STATE_in {i : Nat} : (Reg.SIN_ST.STATE i).InBlocks [0x404] := Fld.inBlocks_slot 0 rfl rfl (by decide)
theorem Reg.SOUT_ST.CAUSE_in {i : Nat} : (Reg.SOUT_ST.CAUSE i).InBlocks [0x405] := Fld.inBlocks_slot 0 rfl rfl (by decide)
theorem Reg.SOUT_ST.PASSES_in {i : Nat} : (Reg.SOUT_ST.PASSES i).InBlocks [0x405] := Fld.inBlocks_slot 0 rfl rfl (by decide)
theorem Reg.SOUT_ST.SIDE_in {i : Nat} : (Reg.SOUT_ST.SIDE i).InBlocks [0x405] := Fld.inBlocks_slot 0 rfl rfl (by decide)
theorem Reg.SOUT_ST.STATE_in {i : Nat} : (Reg.SOUT_ST.STATE i).InBlocks [0x405] := Fld.inBlocks_slot 0 rfl rfl (by decide)
theorem Reg.ZST_PSTAT.STRANGER_in {i : Nat} : (Reg.ZST_PSTAT.STRANGER i).InBlocks [0x406] := Fld.inBlocks_slot 0 rfl rfl (by decide)
theorem Reg.ZST_PSTAT.TXDROP_in {i : Nat} : (Reg.ZST_PSTAT.TXDROP i).InBlocks [0x406] := Fld.inBlocks_slot 0 rfl rfl (by decide)

theorem injOk_in {c t : Nat} : (injOk c t).InBlocks [0x402] := .ite Reg.CH_INJ.LT_LAST_OK_in Reg.CH_INJ.LK_LAST_OK_in

theorem rstCnt_in {kind : Nat} : (rstCnt kind).InBlocks [0x401] :=
  .ite (Fld.inBlocks_self (by rfl)) (.ite (Fld.inBlocks_self (by rfl)) (.ite (Fld.inBlocks_self (by rfl)) (Fld.inBlocks_self (by rfl))))

theorem Chip.stageLater_within {u : Chip} {e} : Within ⟨[.intake], some []⟩ u (u.stageLater e) := by
  unfold Chip.stageLater
  dsimp only
  exact intake_within.le (by decide)

theorem Chip.plicGate_within {u : Chip} {id : Nat} : Within ⟨[.plic], some []⟩ u (u.plicGate id) := by
  unfold Chip.plicGate
  split
  · exact plic_within
  · exact .rfl

theorem Chip.refreshLines_within {u : Chip} {pg : Nat} : Within ⟨[.plic], some []⟩ u (u.refreshLines pg) := .foldl fun _ _ => plicGate_within

theorem Chip.chanIrq_within {u : Chip} {c} {n} : Within ⟨[.cic], some []⟩ u (u.chanIrq c n) := by
  unfold Chip.chanIrq
  dsimp only
  exact cic_within.le (by decide)

theorem Chip.chanIrqAll_within {u : Chip} {n} : Within ⟨[.cic], some []⟩ u (u.chanIrqAll n) := by
  unfold Chip.chanIrqAll
  exact ((chanIrq_within.trans chanIrq_within).trans chanIrq_within).le (by decide)

theorem Chip.driveChannels_within {u : Chip} {pg} {b} : Within ⟨[.cic], some []⟩ u (u.driveChannels pg b) := by
  unfold Chip.driveChannels
  exact (Within.ite chanIrqAll_within (Within.ite chanIrqAll_within (Within.ite chanIrqAll_within (Within.ite chanIrqAll_within
    (Within.ite chanIrq_within (Within.ite chanIrq_within (Within.ite chanIrq_within Within.unchanged))))))).le (by decide)

theorem Chip.irq_within {u : Chip} {pg b : Nat} {l : List Nat} (hp : PageIn pg l) : Within ⟨[.plic, .cic], some l⟩ u (u.irq pg b) :=
  (((setBit_within (hp.field 0x10 rfl rfl (by decide))).trans driveChannels_within).trans
    refreshLines_within).le (by simp [Scope.sub, Scope.union, Scope.covers])

theorem Chip.eventLost_within {u : Chip} {src stamp : Nat} : Within ⟨frLog, some [0x409]⟩ u (u.eventLost src stamp) := by
  have hlo : (Reg.INT_LOST.COUNT src).lo.ble 31 = true := by
    rw [Nat.ble_eq]
    change 16 * (src % 2) ≤ 31
    omega
  have hcount : (Reg.INT_LOST.COUNT src).InBlocks [0x409] := Fld.inBlocks_slot 0 rfl hlo (by decide)
  unfold Chip.eventLost
  exact ((((satInc_within hcount).trans (satInc_within (Fld.inBlocks_self (by rfl)))).trans intake_within).trans
    (irq_within (.self (by rfl)))).le (by decide)

theorem Chip.countStaged_within {u : Chip} : Within ⟨[], some [0x409]⟩ u u.countStaged := by
  unfold Chip.countStaged
  exact (put_within (Fld.inBlocks_self (by rfl))).le (by decide)

theorem Chip.stage_within {u : Chip} {e} : Within ⟨frLog, some [0x409]⟩ u (u.stage e) := by
  unfold Chip.stage
  dsimp only
  exact (Within.ite Within.unchanged (Within.ite eventLost_within (intake_within.trans countStaged_within))).le (by decide)

theorem Chip.raiseSince_within {u : Chip} {src} {code} {data} {stamp} : Within ⟨frLog, some [0x409]⟩ u (u.raiseSince src code data stamp) := by
  unfold Chip.raiseSince
  dsimp only
  exact (Within.ite stageLater_within stage_within).le (by decide)

theorem Chip.raiseAfter_within {u : Chip} {src} {code} {data} : Within ⟨frLog, some [0x409]⟩ u (u.raiseAfter src code data) := by
  unfold Chip.raiseAfter
  exact raiseSince_within.le (by decide)

theorem Chip.fwRaise_within {u : Chip} {src} {code} {data} : Within ⟨frLog, some [0x409]⟩ u (u.fwRaise src code data) := by
  unfold Chip.fwRaise
  exact raiseAfter_within.le (by decide)

theorem Chip.rtEvent_within {u : Chip} {c} {code} {data} : Within ⟨frLog, some [0x409]⟩ u (u.rtEvent c code data) := by
  unfold Chip.rtEvent
  exact fwRaise_within.le (by decide)

theorem Chip.trialUsed_within {u : Chip} : Within ⟨[.com, .boot], some []⟩ u u.trialUsed := by
  have h : Within ⟨[.com, .boot], some []⟩ u { u with com := { u.com with trial := u.com.trial - 1 }, boot := { u.boot with trialOver := true } } :=
    Within.parts _ (fun q => by cases q <;> simp [Part.same]) rfl ⟨le_rfl, le_rfl, id, id⟩
  unfold Chip.trialUsed
  dsimp only
  split
  · exact h
  · exact h.step (com_within.le (by decide))

theorem Chip.trialAborted_within {u : Chip} : Within ⟨[.com, .boot], some []⟩ u u.trialAborted := by
  unfold Chip.trialAborted
  exact (Within.ite trialUsed_within Within.unchanged).le (by decide)

theorem Chip.resetRequest_within {u : Chip} {kind} {origin} {slot} {cold} : Within ⟨[.com, .boot], some []⟩ u
  (u.resetRequest kind origin slot cold) := by
  unfold Chip.resetRequest
  dsimp only
  exact (Within.ite Within.unchanged (trialAborted_within.trans boot_within)).le (by decide)

theorem Chip.fwShow_within {u : Chip} : Within ⟨[], some [0x444]⟩ u u.fwShow := by
  unfold Chip.fwShow
  dsimp only
  exact ((((((((put_within (Fld.inBlocks_self (by rfl))).trans (put_within (Fld.inBlocks_self (by rfl)))).trans
    (put_within (Fld.inBlocks_self (by rfl)))).trans (put_within (Fld.inBlocks_self (by rfl)))).trans (put_within (Fld.inBlocks_self (by rfl)))).trans
    (put_within (Fld.inBlocks_self (by rfl)))).trans (put_within (Fld.inBlocks_self (by rfl)))).trans
    (put_within (Fld.inBlocks_self (by rfl)))).le (by decide)

theorem Chip.activate_within {u : Chip} : Within ⟨frLog ++ [.com, .boot], some [0x407, 0x409, 0x444]⟩ u u.activate := by
  unfold Chip.activate
  dsimp only
  exact (Within.ite Within.unchanged (Within.ite (((put_within (Fld.inBlocks_self (by rfl))).trans com_within).trans
    (Within.foldUpTo fun _ _ => (Within.ite rtEvent_within Within.unchanged))) ((com_boot_within.trans fwShow_within).trans
    resetRequest_within))).le (by decide)

theorem Chip.holdEnd_within {u : Chip} : Within ⟨frLog ++ [.weir, .boot], some [0x401, 0x409, 0x500]⟩ u u.holdEnd := by
  unfold Chip.holdEnd
  dsimp only
  exact (Within.ite (((((((modWeir_within (fun _ => by rfl)).trans (put_within (Fld.inBlocks_self (by rfl)))).trans
    (put_within (Fld.inBlocks_self (by rfl)))).trans (put_within (Fld.inBlocks_self (by rfl)))).trans boot_within).trans
    (irq_within (.self (by rfl)))).trans raiseAfter_within) Within.unchanged).le (by decide)

theorem Chip.strapRead_within {u : Chip} {pu} {pd} : Within ⟨[], some [0x500]⟩ u (u.strapRead pu pd) := by
  unfold Chip.strapRead
  dsimp only
  exact ((put_within (Fld.inBlocks_self (by rfl))).trans (put_within (Fld.inBlocks_self (by rfl)))).le (by decide)

theorem Chip.raise_within {u : Chip} {src} {code} {data} : Within ⟨frLog, some [0x409]⟩ u (u.raise src code data) := by
  unfold Chip.raise
  exact stage_within.le (by decide)

theorem Chip.faultEvent_within {u : Chip} {fcode} {cls} : Within ⟨frLog, some [0x407, 0x409]⟩ u (u.faultEvent fcode cls) := by
  unfold Chip.faultEvent
  exact ((put_within (Fld.inBlocks_self (by rfl))).trans raiseAfter_within).le (by decide)

theorem Chip.captureCause_within {u : Chip} {fcode} : Within ⟨frLog ++ [.flt], some [0x407, 0x409]⟩ u (u.captureCause fcode) := by
  unfold Chip.captureCause
  dsimp only
  split
  · exact (((((satInc_within (Fld.inBlocks_self (by rfl))).trans flt_within).trans (put_within (Fld.inBlocks_self (by rfl)))).trans
      (put_within (Fld.inBlocks_self (by rfl)))).trans (put_within (Fld.inBlocks_self (by rfl)))).le (by decide)
  · exact (Within.ite (((((satInc_within (Fld.inBlocks_self (by rfl))).trans flt_within).trans (put_within (Fld.inBlocks_self (by rfl)))).trans
      (put_within (Fld.inBlocks_self (by rfl)))).trans faultEvent_within) ((satInc_within (Fld.inBlocks_self (by rfl))).trans
      faultEvent_within)).le (by decide)

theorem Chip.enablesClear_within {u : Chip} : Within ⟨[.weir], some [0x500]⟩ u u.enablesClear := by
  unfold Chip.enablesClear
  dsimp only
  exact ((put_within (Fld.inBlocks_self (by rfl))).trans (weir_within (by rfl))).le (by decide)

theorem Chip.captureEntry_within {u : Chip} : Within ⟨frLog ++ [.flt], some [0x407, 0x409]⟩ u u.captureEntry := by
  unfold Chip.captureEntry
  dsimp only
  exact (((((((Within.foldUpTo fun _ _ => (put_within (Reg.FLT_CAP.VAL_in))).trans (put_within (Fld.inBlocks_self (by rfl)))).trans
    (put_within (Fld.inBlocks_self (by rfl)))).trans (put_within (Fld.inBlocks_self (by rfl)))).trans (put_within (Fld.inBlocks_self (by rfl)))).trans
    flt_within).trans raiseAfter_within).le (by decide)

theorem Chip.permsClear_within {u : Chip} : Within ⟨[.lat], some []⟩ u u.permsClear := by
  unfold Chip.permsClear
  dsimp only
  exact lat_within.le (by decide)

theorem Chip.irqAfter_within {u : Chip} {pg} {src} {bit} {data} {l : List Nat} (hp : PageIn pg l) : Within ⟨frLog, some (l ++ [0x409])⟩ u
  (u.irqAfter pg src bit data) := by
  unfold Chip.irqAfter
  exact ((irq_within hp).trans raiseAfter_within).le (by simp +contextual [Scope.sub, Scope.union, Scope.covers, frLog])

theorem Chip.zstStop_within {u : Chip} : Within ⟨[.zst], some []⟩ u u.zstStop := by
  unfold Chip.zstStop
  dsimp only
  exact zst_within.le (by decide)

theorem Chip.modOut_within {u : Chip} {n} {g} : Within ⟨[.sout], some []⟩ u (u.modOut n g) := by
  unfold Chip.modOut
  dsimp only
  exact sout_within.le (by decide)

theorem Chip.cancelTests_within {u : Chip} {n} : Within ⟨[.sout], some []⟩ u (u.cancelTests n) := by
  unfold Chip.cancelTests
  exact modOut_within.le (by decide)

theorem Chip.enable_within {u : Chip} {n} {b} : Within ⟨[.weir], some [0x500]⟩ u (u.enable n b) := by
  have hacc : ∀ x : Rails, ({ u.weir with en := x } : Weir).acc = (u.putBit Reg.WR_EN.EN n b).weir.acc := fun x => by
    unfold Chip.putBit Chip.clearBit
    split
    · rfl
    · split <;> rfl
  exact ((putBit_within (Fld.inBlocks_self (by rfl))).trans (weir_within (hacc _))).le (by decide)

theorem Chip.weirDemand_within {u : Chip} {n} : Within ⟨[.weir], some [0x500]⟩ u (u.weirDemand n) := by
  unfold Chip.weirDemand
  exact (Within.ite Within.unchanged enable_within).le (by decide)

theorem Chip.demand_within {u : Chip} {n} {hs} {ls} : Within ⟨[.weir], some [0x405, 0x500]⟩ u (u.demand n hs ls) := by
  unfold Chip.demand
  exact (((putBit_within (Fld.inBlocks_self (by rfl))).trans (putBit_within (Fld.inBlocks_self (by rfl)))).trans weirDemand_within).le (by decide)

theorem Chip.outEnter_within {u : Chip} {n} {st} {lines} : Within ⟨[.weir, .sout], some [0x405, 0x500]⟩ u (u.outEnter n st lines) := by
  unfold Chip.outEnter
  exact (((cancelTests_within.trans modOut_within).trans (put_within (Reg.SOUT_ST.STATE_in))).trans demand_within).le (by decide)

theorem Chip.sluiceSafe_within {u : Chip} : Within ⟨[.weir, .sout], some [0x405, 0x500]⟩ u u.sluiceSafe := by
  unfold Chip.sluiceSafe
  dsimp only
  exact (Within.foldl fun _ _ => (Within.ite modOut_within (Within.ite (modOut_within.trans cancelTests_within) (modOut_within.trans
    outEnter_within)))).le (by decide)

theorem Chip.modeChange_within {u : Chip} {mode} {mask} {c} {cause} : Within ⟨frLog, some [0x403, 0x409]⟩ u (u.modeChange mode mask c cause) := by
  unfold Chip.modeChange
  dsimp only
  exact ((((put_within (Fld.inBlocks_self (by rfl))).trans (put_within (Fld.inBlocks_self (by rfl)))).trans
    (Within.foldUpTo fun _ _ => (put_within (Reg.CF_PSTAT.PSTATE_in)))).trans (irqAfter_within (.self (by rfl)))).le (by decide)

theorem Chip.testDiscarded_within {u : Chip} {n} {reason} {at_} : Within ⟨frLog, some [0x405, 0x409]⟩ u (u.testDiscarded n reason at_) := by
  unfold Chip.testDiscarded
  exact (((satInc_within (Fld.inBlocks_self (by rfl))).trans (irq_within (.self (by rfl)))).trans raiseSince_within).le (by decide)

theorem Chip.outCommand_within {u : Chip} {n} {b} : Within ⟨frLog ++ [.weir, .sout], some [0x405, 0x409, 0x500]⟩ u (u.outCommand n b) := by
  unfold Chip.outCommand
  dsimp only
  exact (Within.ite Within.unchanged (Within.ite modOut_within (Within.ite (Within.ite (modOut_within.trans
    outEnter_within) modOut_within) (Within.ite ((modOut_within.trans outEnter_within).trans testDiscarded_within) (Within.ite ((modOut_within.trans
    outEnter_within).trans testDiscarded_within) (modOut_within.trans outEnter_within)))))).le (by decide)

theorem Chip.outImage_within {u : Chip} {img} {n} : Within ⟨frLog ++ [.weir, .sout], some [0x405, 0x409, 0x500]⟩ u (u.outImage img n) := by
  unfold Chip.outImage
  dsimp only
  exact (Within.ite outCommand_within (Within.ite Within.unchanged (Within.ite (modOut_within.trans
    outCommand_within) (Within.ite (Within.ite modOut_within ((((modOut_within.trans outCommand_within).trans
    (satInc_within (Fld.inBlocks_self (by rfl)))).trans (irq_within (.self (by rfl)))).trans raiseAfter_within)) modOut_within)))).le (by decide)

theorem Chip.sluiceImage_within {u : Chip} {img} : Within ⟨frLog ++ [.weir, .sout], some [0x405, 0x409, 0x500]⟩ u (u.sluiceImage img) := by
  unfold Chip.sluiceImage
  exact (Within.foldl fun _ _ => outImage_within).le (by decide)

theorem Chip.mirrorPublish_within {u : Chip} {task minority mask mode seq img : Nat} {msgs : List Nat} :
    Within ⟨[.conf], some [0x408]⟩ u (u.mirrorPublish task minority mask mode seq img msgs) := by
  unfold Chip.mirrorPublish
  extract_lets b cyc flags m1 m2 m3 m4
  have hmirror : u.memoriesOk = true → memWf m4 = true := fun h => by
    obtain ⟨-, -, -, hm, -, -⟩ := u.memoriesOk_iff.1 h
    exact memWriteBytes_wf _ _ _ (memWriteBytes_wf _ _ _ (memWriteBytes_wf _ _ _ (memClear_wf _ _ _ hm)))
  exact (((conf_mirror_within hmirror).trans (put_within (Fld.inBlocks_self (by rfl)))).trans
    (put_within (Fld.inBlocks_self (by rfl)))).le (by decide)

theorem Chip.confCleared_within {u : Chip} : Within ⟨frLog ++ [.conf, .weir, .sout], some [0x403, 0x405, 0x408, 0x409, 0x500]⟩ u
    (let v := u.conf
     let ports : Per3 CfPort := ⟨{ v.ports.a with queue := [], wait := [] }, { v.ports.b with queue := [], wait := [] },
       { v.ports.c with queue := [], wait := [] }⟩
     let v := { v with ports := ports, window := none, releases := [], recon := none, voted := 0, rs := {} }
     ((({ u with conf := v }).put Reg.CF_MODE.RS_PHASE 0).put Reg.CF_RS.DIRTY 0).sluiceImage 0) :=
  ((((conf_within (by rfl)).trans (put_within (Fld.inBlocks_self (by rfl)))).trans (put_within (Fld.inBlocks_self (by rfl)))).trans
    sluiceImage_within).le (by decide)

theorem Chip.confStop_within {u : Chip} {fcode} : Within ⟨frLog ++ [.conf, .weir, .sout], some [0x403, 0x405, 0x408, 0x409, 0x500]⟩ u
  (u.confStop fcode) := by
  unfold Chip.confStop
  refine .chain (free_within.trans mirrorPublish_within) (by decide) ?_
  refine .chain (Within.foldUpTo fun _ _ => (put_within (Reg.CF_PSTAT.SLOTS_in)).trans (put_within (Reg.CF_PSTAT.PSTATE_in))) (by decide) ?_
  refine .chain confCleared_within (by decide) ?_
  exact ((irqAfter_within (.self (by rfl))).trans modeChange_within).le (by decide)

theorem Chip.pwrRestart_within {u : Chip} : Within ⟨[.weir, .pwr], some []⟩ u u.pwrRestart := by
  unfold Chip.pwrRestart
  extract_lets l _ v _
  have hidle : Within ⟨[.weir, .pwr], some []⟩ u v := pwr_within.le (by decide)
  have harmed : Within ⟨[.weir, .pwr], some []⟩ v { v with weir := { v.weir with pfArmed := true } } := (weir_within (by rfl)).le (by decide)
  exact .chain (Within.foldl fun _ _ => put_within (Fld.inBlocks_stat (by rfl) (by rfl) pageOf_mod)) (by decide) (hidle.step harmed)

theorem Chip.pwrStart_within {u : Chip} {st} : Within ⟨[.pwr], some [0x447]⟩ u (u.pwrStart st) := by
  unfold Chip.pwrStart
  dsimp only
  exact (Within.ite ((((put_within (Fld.inBlocks_self (by rfl))).trans (Within.foldUpTo fun _ _ => ((put_within (Reg.PWR_CLOG.TYPE_in)).trans
    (put_within (Reg.PWR_CLOG.INST_in))).trans (put_within (Reg.PWR_CLOG.ANSWER_in)))).trans pwr_within).trans
    (put_within (Fld.inBlocks_self (by rfl)))) ((((put_within (Fld.inBlocks_self (by rfl))).trans
    (Within.foldUpTo fun _ _ => ((put_within (Reg.PWR_CLOG.TYPE_in)).trans (put_within (Reg.PWR_CLOG.INST_in))).trans
    (put_within (Reg.PWR_CLOG.ANSWER_in)))).trans pwr_within).trans (put_within (Fld.inBlocks_self (by rfl))))).le (by decide)

theorem Chip.pwrStartPending_within {u : Chip} : Within ⟨[.pwr], some [0x447]⟩ u u.pwrStartPending := by
  unfold Chip.pwrStartPending
  dsimp only
  exact (Within.ite Within.unchanged ((put_within (Fld.inBlocks_self (by rfl))).trans pwrStart_within)).le (by decide)

theorem Chip.pwrWakeNow_within {u : Chip} {cause} : Within ⟨frLog ++ [.weir, .pwr], some [0x409, 0x447]⟩ u (u.pwrWakeNow cause) := by
  unfold Chip.pwrWakeNow
  dsimp only
  exact (Within.ite ((((((put_within (Fld.inBlocks_self (by rfl))).trans pwrRestart_within).trans (put_within (Fld.inBlocks_self (by rfl)))).trans
    (irq_within (.self (by rfl)))).trans raiseAfter_within).trans pwrStartPending_within) (Within.ite ((put_within (Fld.inBlocks_self (by rfl))).trans
    (put_within (Fld.inBlocks_self (by rfl)))) (Within.ite ((put_within (Fld.inBlocks_self (by rfl))).trans
    pwr_within) (put_within (Fld.inBlocks_self (by rfl)))))).le (by decide)

theorem Chip.pwrWake_within {u : Chip} {b} : Within ⟨frLog ++ [.weir, .pwr], some [0x409, 0x447]⟩ u (u.pwrWake b) := by
  unfold Chip.pwrWake
  dsimp only
  exact (Within.ite pwr_within (Within.ite Within.unchanged pwrWakeNow_within)).le (by decide)

theorem Chip.evrTrigger_within {u : Chip} {fault} : Within ⟨[.evr], some []⟩ u (u.evrTrigger fault) := by
  unfold Chip.evrTrigger
  dsimp only
  exact (Within.ite evr_within Within.unchanged).le (by decide)

theorem Chip.evrStore_within {u : Chip} {e} : Within ⟨frLog ++ [.evr], some [0x409, 0x445]⟩ u (u.evrStore e) := by
  unfold Chip.evrStore
  dsimp only
  exact (Within.ite eventLost_within (evr_within.trans (put_within (Fld.inBlocks_self (by rfl))))).le (by decide)

theorem Chip.evrPlace_within {u : Chip} {e} : Within ⟨frLog ++ [.evr], some [0x409, 0x445]⟩ u (u.evrPlace e) := by
  unfold Chip.evrPlace
  exact (Within.ite (evrStore_within.trans evrTrigger_within) evrStore_within).le (by decide)

theorem Chip.evrLift_within {u : Chip} {reason} : Within ⟨frLog ++ [.evr], some [0x409, 0x445]⟩ u (u.evrLift reason) := by
  unfold Chip.evrLift
  dsimp only
  exact (Within.ite (((evr_within.trans (put_within (Fld.inBlocks_self (by rfl)))).trans evrPlace_within).trans
    (irq_within (.self (by rfl)))) Within.unchanged).le (by decide)

theorem Chip.evrSafeLine_within {u : Chip} : Within ⟨frLog ++ [.evr], some [0x409, 0x445]⟩ u u.evrSafeLine := by
  unfold Chip.evrSafeLine
  exact (evrLift_within.trans evrTrigger_within).le (by decide)

theorem Chip.modWeirLine_within {u : Chip} {b} : Within ⟨[.weir], some []⟩ u (u.modWeirLine b) := by
  unfold Chip.modWeirLine
  dsimp only
  exact (weir_within (by rfl)).le (by decide)

theorem Chip.abandonRollbacks_within {u : Chip} :
    Within ⟨[.chans], some []⟩ u { u with chans := ⟨u.chans.a.abandonRollback, u.chans.b.abandonRollback, u.chans.c.abandonRollback⟩ } :=
  .part (fun q hq => by cases q <;> simp_all [Part.same]) rfl ⟨le_rfl, le_rfl, id, id⟩

theorem Chip.safeLine_within {u : Chip} {fcode} :
    Within ⟨frLog ++ [.chans, .conf, .weir, .sout, .zst, .evr, .pwr], some [0x402, 0x403, 0x405, 0x408, 0x409, 0x445, 0x447, 0x500]⟩ u
      (u.safeLine fcode) := by
  unfold Chip.safeLine
  dsimp only
  refine .chain (((abandonRollbacks_within.trans modWeirLine_within).trans evrSafeLine_within).trans pwrWake_within) (by decide) ?_
  refine .chain (Within.foldUpTo fun _ _ => (put_within (Reg.CH_STATE.RB_LT_in)).trans (put_within (Reg.CH_STATE.RB_LK_in))) (by decide) ?_
  split
  · exact (sluiceSafe_within.trans zstStop_within).le (by decide)
  · exact ((sluiceSafe_within.trans zstStop_within).trans confStop_within).le (by decide)

theorem Chip.weirSafe_within {u : Chip} {cause} : Within ⟨frSafe, some blSafe⟩ u (u.weirSafe cause) := by
  unfold Chip.weirSafe
  dsimp only
  exact (Within.ite (Within.ite ((Within.ite Within.unchanged captureCause_within).trans
    (put_within (Fld.inBlocks_self (by rfl)))) (Within.ite Within.unchanged captureCause_within))
    (((((((((((Within.ite Within.unchanged captureCause_within).trans enablesClear_within).trans (put_within (Fld.inBlocks_self (by rfl)))).trans
    (put_within (Fld.inBlocks_self (by rfl)))).trans (put_within (Fld.inBlocks_self (by rfl)))).trans (weir_lat_within (by rfl))).trans
    permsClear_within).trans (put_within (Fld.inBlocks_self (by rfl)))).trans captureEntry_within).trans (irqAfter_within (.self (by rfl)))).trans
    safeLine_within)).le (by decide)

theorem Chip.strapJudge_within {u : Chip} {pu} {pd} : Within ⟨frSafe, some blSafe⟩ u (u.strapJudge pu pd) := by
  unfold Chip.strapJudge
  dsimp only
  exact (Within.ite ((Within.ite ((strapRead_within.trans (irq_within (.self (by rfl)))).trans raise_within) strapRead_within).trans
    weirSafe_within) (Within.ite ((strapRead_within.trans (irq_within (.self (by rfl)))).trans raise_within) strapRead_within)).le (by decide)

theorem Chip.checkerTest_within {u : Chip} {responds} : Within ⟨frSafe, some blSafe⟩ u (u.checkerTest responds) := by
  unfold Chip.checkerTest
  dsimp only
  exact (Within.ite (modWeir_within (fun _ => by rfl)) ((modWeir_within (fun _ => by rfl)).trans weirSafe_within)).le (by decide)

theorem Chip.maintRead_within {u : Chip} : Within ⟨[], some [0x500]⟩ u u.maintRead := by
  unfold Chip.maintRead
  exact (put_within (Fld.inBlocks_self (by rfl))).le (by decide)

theorem Chip.snapTests_within {u : Chip} {pu} {pd} {responds} : Within ⟨frSafe, some blSafe⟩ u (u.snapTests pu pd responds) := by
  unfold Chip.snapTests
  dsimp only
  exact ((Within.ite ((((modWeir_within (fun _ => by rfl)).trans checkerTest_within).trans strapJudge_within).trans
    weirSafe_within) (((modWeir_within (fun _ => by rfl)).trans checkerTest_within).trans strapJudge_within)).trans maintRead_within).le (by decide)

theorem Chip.irqRaise_within {u : Chip} {pg} {src} {bit} {data} {l : List Nat} (hp : PageIn pg l) : Within ⟨frLog, some (l ++ [0x409])⟩ u
  (u.irqRaise pg src bit data) := by
  unfold Chip.irqRaise
  exact ((irq_within hp).trans raise_within).le (by simp +contextual [Scope.sub, Scope.union, Scope.covers, frLog])

theorem Chip.chEnter_within {u : Chip} {c} {new} : Within ⟨frLog, some [0x402, 0x403, 0x409]⟩ u (u.chEnter c new) := by
  unfold Chip.chEnter
  dsimp only
  exact (Within.ite Within.unchanged (((put_within (Reg.CH_STATE.STATE_in)).trans (put_within (Fld.inBlocks_self (by rfl)))).trans
    (irqAfter_within chPage_in))).le (by decide)

theorem Chip.chActive_within {u : Chip} {c} : Within ⟨frLog ++ [.chans], some [0x402, 0x403, 0x409]⟩ u (u.chActive c) := by
  unfold Chip.chActive
  exact (chEnter_within.trans (modChan_within (fun _ => by rfl))).le (by decide)

theorem Chip.putRs_within {u : Chip} {rs} : Within ⟨[.conf], some [0x403]⟩ u (u.putRs rs) := by
  unfold Chip.putRs
  exact ((modConf_within (fun _ => by rfl)).trans (put_within (Fld.inBlocks_self (by rfl)))).le (by decide)

theorem Chip.startRecon_within {u : Chip} {t0} {set} {shrink} : Within ⟨[.conf, .link], some []⟩ u (u.startRecon t0 set shrink) := by
  unfold Chip.startRecon
  dsimp only
  exact (conf_link_within (by rfl)).le (by decide)

theorem Chip.countLoss_within {u : Chip} {c} {k} : Within ⟨[.chans], some [0x402]⟩ u (u.countLoss c k) := by
  unfold Chip.countLoss
  dsimp only
  exact ((modChan_within (fun _ => by rfl)).trans (put_within (Reg.CH_REINT.LOSSES_in))).le (by decide)

theorem Chip.resyncLost_within {u : Chip} {c} : Within ⟨[.conf], some [0x403]⟩ u (u.resyncLost c) := by
  unfold Chip.resyncLost
  dsimp only
  exact (Within.ite (Within.ite (((conf_within (by rfl)).trans (put_within (Reg.CF_PSTAT.PSTATE_in))).trans
    (put_within (Fld.inBlocks_self (by rfl)))) ((((conf_within (by rfl)).trans (put_within (Reg.CF_PSTAT.PSTATE_in))).trans
    (put_within (Fld.inBlocks_self (by rfl)))).trans (put_within (Fld.inBlocks_self (by rfl))))) Within.unchanged).le (by decide)

theorem Chip.twinsReset_within {u : Chip} {c} : Within ⟨[.chans], some [0x402]⟩ u (u.twinsReset c) := by
  unfold Chip.twinsReset
  exact (((modChan_within (fun _ => by rfl)).trans (put_within (Reg.CH_STATE.RB_LT_in))).trans (put_within (Reg.CH_STATE.RB_LK_in))).le (by decide)

theorem Chip.channelLostFault_within {u : Chip} {c} {k} : Within ⟨frLog, some [0x407, 0x409]⟩ u (u.channelLostFault c k) := by
  unfold Chip.channelLostFault
  exact ((satInc_within (Fld.inBlocks_self (by rfl))).trans faultEvent_within).le (by decide)

theorem Chip.chLose_within {u : Chip} {c} {k} : Within ⟨frLog ++ [.chans, .conf], some [0x402, 0x403, 0x407, 0x409]⟩ u (u.chLose c k) := by
  unfold Chip.chLose
  dsimp only
  exact (Within.ite ((Within.ite ((((((((countLoss_within.trans (put_within (Reg.CH_LOSS.CAUSE_in))).trans (put_within (Reg.CH_LOSS.CYCLE_in))).trans
    twinsReset_within).trans resyncLost_within).trans (modChan_within (fun _ => by rfl))).trans (irqAfter_within chPage_in)).trans
    (irqAfter_within chPage_in)).trans chEnter_within) (Within.ite (((((((((countLoss_within.trans (put_within (Reg.CH_LOSS.CAUSE_in))).trans
    (put_within (Reg.CH_LOSS.CYCLE_in))).trans twinsReset_within).trans resyncLost_within).trans (modChan_within (fun _ => by rfl))).trans
    (irqAfter_within chPage_in)).trans chEnter_within).trans (irqAfter_within chPage_in)).trans chEnter_within) (((((((countLoss_within.trans
    (put_within (Reg.CH_LOSS.CAUSE_in))).trans (put_within (Reg.CH_LOSS.CYCLE_in))).trans twinsReset_within).trans resyncLost_within).trans
    (modChan_within (fun _ => by rfl))).trans (irqAfter_within chPage_in)).trans chEnter_within))).trans
    channelLostFault_within) Within.unchanged).le (by decide)

theorem Chip.rsSnapshot_within {u : Chip} : Within ⟨frLog ++ [.chans, .conf, .link, .rt, .zst], some [0x402, 0x403, 0x407, 0x409]⟩ u u.rsSnapshot :=
  by
  unfold Chip.rsSnapshot
  extract_lets rs tries v w
  have hw : Within ⟨frLog ++ [.chans, .conf, .link, .rt, .zst], some [0x402, 0x403, 0x407, 0x409]⟩ u w :=
    ((startRecon_within.trans (satInc_within (Fld.inBlocks_self (by rfl)))).trans (put_within (Fld.inBlocks_self (by rfl)))).le (by decide)
  split
  · exact .rfl
  · split
    · split
      · extract_lets u1 u2 u3 src _ u4
        have h2 : Within ⟨frLog ++ [.chans, .conf, .link, .rt, .zst], some [0x402, 0x403, 0x407, 0x409]⟩ u u2 :=
          ((((irqRaise_within (.self (by rfl))).trans (put_within (Reg.CF_PSTAT.PARITY_in))).trans modeChange_within).trans
            chActive_within).le (by decide)
        have h4 : Within ⟨frLog ++ [.chans, .conf, .link, .rt, .zst], some [0x402, 0x403, 0x407, 0x409]⟩ u2 u4 := (rt_within.trans
          zst_within).le (by decide)
        exact .chain ((put_within (Fld.inBlocks_self (by rfl))).trans putRs_within) (by decide) (h2.step h4)
      · split
        · exact .chain (((put_within (Reg.CF_PSTAT.PSTATE_in)).trans putRs_within).trans chLose_within) (by decide) hw
        · exact .chain putRs_within (by decide) hw
    · exact ((startRecon_within.trans (put_within (Fld.inBlocks_self (by rfl)))).trans putRs_within).le (by decide)

theorem Chip.latCapture_within {u : Chip} {swapped} {result} : Within ⟨[.lat], some []⟩ u (u.latCapture swapped result) := by
  unfold Chip.latCapture
  dsimp only
  exact lat_within.le (by decide)

theorem Chip.swapRefuse_within {u : Chip} {result} : Within ⟨frLog, some [0x409, 0x500]⟩ u (u.swapRefuse result) := by
  unfold Chip.swapRefuse
  exact ((((put_within (Fld.inBlocks_self (by rfl))).trans (put_within (Fld.inBlocks_self (by rfl)))).trans (irq_within (.self (by rfl)))).trans
    raiseAfter_within).le (by decide)

theorem Chip.denyLast_within {u : Chip} {reason} {obj} {gate} {num} : Within ⟨[], some [0x500]⟩ u (u.denyLast reason obj gate num) := by
  unfold Chip.denyLast
  exact ((((put_within (Fld.inBlocks_self (by rfl))).trans (put_within (Fld.inBlocks_self (by rfl)))).trans
    (put_within (Fld.inBlocks_self (by rfl)))).trans (put_within (Fld.inBlocks_self (by rfl)))).le (by decide)

theorem Chip.latWithdrawn_within {u : Chip} {r} {reason} {obj} {origin} : Within ⟨frLog, some [0x409, 0x500]⟩ u
  (u.latWithdrawn r reason obj origin) := by
  unfold Chip.latWithdrawn
  exact (((denyLast_within.trans (wrapInc_within (Fld.inBlocks_self (by rfl)))).trans (irq_within (.self (by rfl)))).trans
    raiseAfter_within).le (by decide)

theorem Chip.signalEnables_within {u : Chip} : Within ⟨[.weir], some [0x500]⟩ u u.signalEnables := by
  unfold Chip.signalEnables
  exact (Within.foldUpTo fun _ _ => (Within.ite enable_within Within.unchanged)).le (by decide)

theorem Chip.latSignals_within {u : Chip} : Within ⟨[.weir, .lat], some [0x500]⟩ u u.latSignals := by
  unfold Chip.latSignals
  dsimp only
  exact (lat_within.trans signalEnables_within).le (by decide)

theorem Chip.bankSwap_within {u : Chip} : Within ⟨frLog ++ [.weir, .lat], some [0x409, 0x500]⟩ u u.bankSwap := by
  unfold Chip.bankSwap
  dsimp only
  exact ((((((((((((put_within (Fld.inBlocks_self (by rfl))).trans (put_within (Fld.inBlocks_self (by rfl)))).trans lat_within).trans
    (Within.foldl fun _ _ => latWithdrawn_within)).trans latSignals_within).trans (put_within (Fld.inBlocks_self (by rfl)))).trans lat_within).trans
    (put_within (Fld.inBlocks_self (by rfl)))).trans (put_within (Fld.inBlocks_self (by rfl)))).trans (put_within (Fld.inBlocks_self (by rfl)))).trans
    (irq_within (.self (by rfl)))).trans raiseAfter_within).le (by decide)

theorem Chip.latSnapshot_within {u : Chip} : Within ⟨frLog ++ [.weir, .lat], some [0x409, 0x500]⟩ u u.latSnapshot := by
  unfold Chip.latSnapshot
  exact (Within.ite (Within.ite (swapRefuse_within.trans latCapture_within) (Within.ite (swapRefuse_within.trans
    latCapture_within) (Within.ite (swapRefuse_within.trans latCapture_within) (bankSwap_within.trans
    latCapture_within)))) latCapture_within).le (by decide)

theorem Chip.strobeChannel_within {u : Chip} {c} : Within ⟨[.chans], some [0x402]⟩ u (u.strobeChannel c) := by
  unfold Chip.strobeChannel
  dsimp only
  exact (Within.ite ((Within.ite (((((put_within (Reg.CH_CSN.NOTICE_in)).trans (put_within (Reg.CH_CSN.TARGET_in))).trans
    (put_within (Reg.CH_CSN.READY_in))).trans (put_within (Reg.CH_STATE.MM_CYC_in))).trans
    (modChan_within (fun _ => by rfl))) ((((put_within (Reg.CH_CSN.NOTICE_in)).trans (put_within (Reg.CH_CSN.TARGET_in))).trans
    (put_within (Reg.CH_CSN.READY_in))).trans (put_within (Reg.CH_STATE.MM_CYC_in)))).trans
    (modChan_within (fun _ => by rfl))) (Within.ite (((((put_within (Reg.CH_CSN.NOTICE_in)).trans (put_within (Reg.CH_CSN.TARGET_in))).trans
    (put_within (Reg.CH_CSN.READY_in))).trans (put_within (Reg.CH_STATE.MM_CYC_in))).trans
    (modChan_within (fun _ => by rfl))) ((((put_within (Reg.CH_CSN.NOTICE_in)).trans (put_within (Reg.CH_CSN.TARGET_in))).trans
    (put_within (Reg.CH_CSN.READY_in))).trans (put_within (Reg.CH_STATE.MM_CYC_in))))).le (by decide)

theorem Chip.startDeadlines_within {u : Chip} {k} : Within ⟨[.weir], some []⟩ u (u.startDeadlines k) := by
  unfold Chip.startDeadlines
  dsimp only
  exact (modWeir_within (fun _ => by rfl)).le (by decide)

theorem Chip.queueBeacons_within {u : Chip} : Within ⟨[.zst], some []⟩ u u.queueBeacons := by
  unfold Chip.queueBeacons
  dsimp only
  exact (Within.foldl fun _ _ => (Within.ite zst_within Within.unchanged)).le (by decide)

theorem Chip.claimEffect_within {u : Chip} : Within ⟨[.zst], some [0x406]⟩ u u.claimEffect := by
  unfold Chip.claimEffect
  dsimp only
  split
  · exact ((zst_within.trans (put_within (Fld.inBlocks_self (by rfl)))).trans (put_within (Fld.inBlocks_self (by rfl)))).le (by decide)
  · exact .rfl

theorem Chip.zstStrobe_within {u : Chip} : Within ⟨[.plic, .cic, .zst], some [0x406]⟩ u u.zstStrobe := by
  unfold Chip.zstStrobe
  dsimp only
  exact (zst_within.trans (irq_within (.self (by rfl)))).le (by decide)

theorem Chip.gatePlace_within {u : Chip} : Within ⟨[.gate], some []⟩ u u.gatePlace := by
  unfold Chip.gatePlace
  dsimp only
  exact gate_within.le (by decide)

theorem Chip.modPerc_within {u : Chip} {e} {g} : Within ⟨[.perc], some []⟩ u (u.modPerc e g) := by
  unfold Chip.modPerc
  exact perc_within.le (by decide)

theorem Chip.softRepair_within {u : Chip} {e} {m} {w} {diff} {i} : Within ⟨frLog ++ [.perc], some [0x409, 0x40B, 0x446]⟩ u
  (u.softRepair e m w diff i) := by
  unfold Chip.softRepair
  dsimp only
  exact (((modPerc_within.trans (put_within (percPage_in.field 0x44 (by rfl) (by rfl) (by decide)))).trans (irq_within percPage_in)).trans
    raiseAfter_within).le (by decide)

theorem Chip.noSpare_within {u : Chip} {e} {m} {a} : Within ⟨frLog, some [0x409, 0x40B, 0x446]⟩ u (u.noSpare e m a) := by
  unfold Chip.noSpare
  exact ((irq_within percPage_in).trans raiseAfter_within).le (by decide)

theorem Chip.modPort_within {u : Chip} {c} {g} : Within ⟨[.conf], some [0x403]⟩ u (u.modPort c g) := by
  unfold Chip.modPort
  dsimp only
  exact ((modConf_within (fun _ => by rfl)).trans (put_within (Reg.CF_PSTAT.SLOTS_in))).le (by decide)

theorem Chip.cfImg_within {u : Chip} {c} {n} {v} : Within ⟨[.conf], some [0x403]⟩ u (u.cfImg c n v) := by
  unfold Chip.cfImg
  dsimp only
  exact (Within.ite modPort_within Within.unchanged).le (by decide)

theorem Chip.cfMsg_within {u : Chip} {c} {v} : Within ⟨[.conf], some [0x403]⟩ u (u.cfMsg c v) := by
  unfold Chip.cfMsg
  dsimp only
  exact modPort_within.le (by decide)

theorem Chip.portParity_within {u : Chip} {l} : Within ⟨frLog, some [0x403, 0x409]⟩ u (u.portParity l) := by
  unfold Chip.portParity
  exact ((Within.foldlOf ⟨frLog, some [0x403, 0x409]⟩ fun t x => by
  split
  · exact ((put_within (Reg.CF_PSTAT.PARITY_in)).trans (irqAfter_within (.self (by rfl)))).le (by decide)
  · exact .rfl
)).le (by decide)

theorem Chip.hold_within {u : Chip} {r} {close} {minority} : Within ⟨[.conf, .link], some []⟩ u (u.hold r close minority) := by
  unfold Chip.hold
  dsimp only
  exact (Within.ite (link_within.trans (modConf_within (fun _ => by rfl))) (modConf_within (fun _ => by rfl))).le (by decide)

theorem Chip.voteDone_within {u : Chip} {l} {minority} {outcome} : Within ⟨[.conf], some [0x403]⟩ u (u.voteDone l minority outcome) := by
  unfold Chip.voteDone
  dsimp only
  exact ((Within.ite (((((put_within (Fld.inBlocks_self (by rfl))).trans (put_within (Fld.inBlocks_self (by rfl)))).trans
    (put_within (Fld.inBlocks_self (by rfl)))).trans (put_within (Fld.inBlocks_self (by rfl)))).trans
    (wrapInc_within (Fld.inBlocks_self (by rfl)))) ((((((put_within (Fld.inBlocks_self (by rfl))).trans
    (put_within (Fld.inBlocks_self (by rfl)))).trans (put_within (Fld.inBlocks_self (by rfl)))).trans (put_within (Fld.inBlocks_self (by rfl)))).trans
    (wrapInc_within (Fld.inBlocks_self (by rfl)))).trans (satInc_within (Fld.inBlocks_self (by rfl))))).trans
    (Within.foldl fun _ _ => (put_within (Reg.CF_PSTAT.LAST_SEQ_in)).trans modPort_within)).le (by decide)

theorem Chip.confSafe_within {u : Chip} {fcode} : Within ⟨frConf ++ [.weir], some blConf⟩ u (u.confSafe fcode) := by
  unfold Chip.confSafe
  dsimp only
  exact ((captureCause_within.trans confStop_within).trans link_within).le (by decide)

theorem Chip.depart_within {u : Chip} {c} {cause} {t0} : Within ⟨frConf ++ [.weir], some blConf⟩ u (u.depart c cause t0) := by
  unfold Chip.depart
  dsimp only
  exact (Within.ite Within.unchanged (Within.ite ((modPort_within.trans modeChange_within).trans startRecon_within) (modPort_within.trans
    confSafe_within))).le (by decide)

theorem Chip.voteOut_within {u : Chip} {c} {cause} {t0} : Within ⟨frConf ++ [.chans, .weir], some (blConf ++ [0x402])⟩ u (u.voteOut c cause t0) := by
  unfold Chip.voteOut
  exact (depart_within.trans chLose_within).le (by decide)

theorem Chip.vote_within {u : Chip} {expired} : Within ⟨frConf ++ [.chans, .weir], some (blConf ++ [0x402])⟩ u (u.vote expired) := by
  unfold Chip.vote
  dsimp only
  split
  · exact (Within.ite (((Within.ite ((((modConf_within (fun _ => by rfl)).trans portParity_within).trans
      (satInc_within (Fld.inBlocks_self (by rfl)))).trans (irqAfter_within (.self (by rfl)))) ((modConf_within (fun _ => by rfl)).trans
      portParity_within)).trans voteDone_within).trans hold_within) (Within.ite (((((Within.ite ((((modConf_within (fun _ => by rfl)).trans
      portParity_within).trans (satInc_within (Fld.inBlocks_self (by rfl)))).trans
      (irqAfter_within (.self (by rfl)))) ((modConf_within (fun _ => by rfl)).trans portParity_within)).trans
      (irqAfter_within (.self (by rfl)))).trans voteDone_within).trans (Within.foldl fun _ _ => voteOut_within)).trans
      hold_within) ((((Within.ite ((((modConf_within (fun _ => by rfl)).trans portParity_within).trans
      (satInc_within (Fld.inBlocks_self (by rfl)))).trans (irqAfter_within (.self (by rfl)))) ((modConf_within (fun _ => by rfl)).trans
      portParity_within)).trans (irqAfter_within (.self (by rfl)))).trans voteDone_within).trans confSafe_within))).le (by decide)
  · exact (Within.ite (Within.ite ((((Within.ite ((((modConf_within (fun _ => by rfl)).trans portParity_within).trans
      (satInc_within (Fld.inBlocks_self (by rfl)))).trans (irqAfter_within (.self (by rfl)))) ((modConf_within (fun _ => by rfl)).trans
      portParity_within)).trans voteDone_within).trans voteOut_within).trans hold_within) ((((Within.ite ((((modConf_within (fun _ => by rfl)).trans
      portParity_within).trans (satInc_within (Fld.inBlocks_self (by rfl)))).trans
      (irqAfter_within (.self (by rfl)))) ((modConf_within (fun _ => by rfl)).trans portParity_within)).trans
      (irqAfter_within (.self (by rfl)))).trans voteDone_within).trans
      confSafe_within)) (Within.ite (((Within.ite ((((modConf_within (fun _ => by rfl)).trans portParity_within).trans
      (satInc_within (Fld.inBlocks_self (by rfl)))).trans (irqAfter_within (.self (by rfl)))) ((modConf_within (fun _ => by rfl)).trans
      portParity_within)).trans voteDone_within).trans hold_within) ((((Within.ite ((((modConf_within (fun _ => by rfl)).trans
      portParity_within).trans (satInc_within (Fld.inBlocks_self (by rfl)))).trans
      (irqAfter_within (.self (by rfl)))) ((modConf_within (fun _ => by rfl)).trans portParity_within)).trans
      (irqAfter_within (.self (by rfl)))).trans voteDone_within).trans confSafe_within))).le (by decide)
  · exact (((Within.ite ((((modConf_within (fun _ => by rfl)).trans portParity_within).trans (satInc_within (Fld.inBlocks_self (by rfl)))).trans
      (irqAfter_within (.self (by rfl)))) ((modConf_within (fun _ => by rfl)).trans portParity_within)).trans voteDone_within).trans
      confSafe_within).le (by decide)

theorem Chip.windows_within {n : Nat} {u : Chip} : Within ⟨frConf ++ [.chans, .weir], some (blConf ++ [0x402])⟩ u (Chip.windows n u) := by
  induction n generalizing u with
  | zero => exact .rfl
  | succ n ih =>
    unfold Chip.windows
    extract_lets v
    have hopen : Within ⟨frConf ++ [.chans, .weir], some (blConf ++ [0x402])⟩ u v :=
      (Within.ite .unchanged (modConf_within (fun _ => by rfl))).le (by decide)
    split
    · exact .rfl
    · split
      · exact (hopen.step (vote_within.le (by decide))).step ih
      · exact hopen

theorem Chip.expire_within {u : Chip} : Within ⟨frConf ++ [.chans, .weir], some (blConf ++ [0x402])⟩ u u.expire := by
  unfold Chip.expire
  exact (vote_within.trans windows_within).le (by decide)

theorem Chip.cfDeliver_within {u : Chip} {c v} {bad} : Within ⟨frConf ++ [.chans, .weir], some (blConf ++ [0x402])⟩ u (u.cfDeliver c v bad).2 := by
  unfold Chip.cfDeliver
  extract_lets w p _ r x
  have hdue : Within ⟨frConf ++ [.chans, .weir], some (blConf ++ [0x402])⟩ u w := (Within.ite expire_within .unchanged).le (by decide)
  have hx : Within ⟨frConf ++ [.chans, .weir], some (blConf ++ [0x402])⟩ w x :=
    ((put_within (Reg.CF_PSTAT.OVF_in)).trans modPort_within).le (by decide)
  split
  · dsimp only
    exact .chain modPort_within (by decide) hdue
  · split
    · dsimp only
      exact .chain ((put_within (Reg.CF_PSTAT.OVF_in)).trans modPort_within) (by decide) hdue
    · split
      · exact hdue
      · dsimp only
        exact .chain windows_within (by decide) (hdue.step hx)

theorem Chip.cfStore_within {u : Chip} {c} {s} : Within ⟨frConf ++ [.chans, .weir], some (blConf ++ [0x402])⟩ u (u.cfStore c s) := by
  unfold Chip.cfStore
  dsimp only
  split
  · exact modPort_within.le (by decide)
  · split
    · exact cfImg_within.le (by decide)
    · exact cfMsg_within.le (by decide)
    · exact (Within.ite cfDeliver_within (cfDeliver_within.trans modPort_within)).le (by decide)

theorem Chip.cfResume_within {n : Nat} {u : Chip} : Within ⟨frConf ++ [.chans, .weir], some (blConf ++ [0x402])⟩ u (Chip.cfResume n u) := by
  induction n generalizing u with
  | zero => exact .rfl
  | succ n ih =>
    unfold Chip.cfResume
    split
    · exact .rfl
    · exact .step (.chain (Within.foldl fun _ _ => cfStore_within) (by decide) (modPort_within.le (by decide))) ih

theorem Chip.lossSignal_within {u : Chip} {c} {cause} : Within ⟨frConf ++ [.chans, .weir], some (blConf ++ [0x402])⟩ u (u.lossSignal c cause) := by
  unfold Chip.lossSignal
  exact ((depart_within.trans windows_within).trans cfResume_within).le (by decide)

theorem Chip.chLost_within {u : Chip} {c} {k} : Within ⟨frConf ++ [.chans, .weir], some (blConf ++ [0x402])⟩ u (u.chLost c k) := by
  unfold Chip.chLost
  exact (chLose_within.trans lossSignal_within).le (by decide)

theorem Chip.percLeave_within {u : Chip} {c} : Within ⟨frConf ++ [.chans, .weir, .perc], some (blConf ++ [0x402])⟩ u (u.percLeave c) := by
  unfold Chip.percLeave
  exact (modPerc_within.trans chLost_within).le (by decide)

theorem Chip.percSnapshot_within {u : Chip} : Within ⟨frConf ++ [.chans, .weir, .perc], some (blConf ++ [0x402, 0x40B, 0x446])⟩ u u.percSnapshot := by
  unfold Chip.percSnapshot
  dsimp only
  exact (((Within.foldUpTo fun _ _ => modPerc_within)).trans (Within.foldUpTo fun _ _ => (Within.ite ((((modPerc_within).trans
    (put_within (percPage_in.field 0x44 (by rfl) (by rfl) (by decide)))).trans
    (Within.foldlOf ⟨frLog ++ [.perc], some [0x409, 0x40B, 0x446]⟩ fun t x => by
  split
  · exact softRepair_within.le (by decide)
  · exact noSpare_within.le (by decide)
)).trans percLeave_within) Within.unchanged))).le (by decide)

theorem Chip.snapIssue_within {u : Chip} {pu} {pd} {responds} : Within ⟨frSafe ++ [.link, .gate, .rt, .perc, .boot], some
  (blSafe ++ [0x401, 0x406, 0x40B, 0x446])⟩ u (u.snapIssue pu pd responds) := by
  unfold Chip.snapIssue
  dsimp only
  exact (((((((((((((((wrapInc_within (Fld.inBlocks_self (by rfl))).trans (put_within (Fld.inBlocks_self (by rfl)))).trans
    (modWeir_within (fun _ => by rfl))).trans snapTests_within).trans holdEnd_within).trans latSnapshot_within).trans rsSnapshot_within).trans
    (Within.foldUpTo fun _ _ => strobeChannel_within)).trans startDeadlines_within).trans chanIrqAll_within).trans zstStrobe_within).trans
    claimEffect_within).trans queueBeacons_within).trans percSnapshot_within).trans gatePlace_within).le (by decide)

theorem execSnapshot_runs {pu} {pd} {responds} {s} : Runs ⟨frSafe ++ [.link, .gate, .rt, .perc, .com, .boot], some
  (blSafe ++ [0x401, 0x406, 0x40B, 0x444, 0x446])⟩ s (execSnapshot pu pd responds s) := by
  unfold execSnapshot
  dsimp only
  split
  · refine .become ?_
    exact .rfl
  · split
    · refine .become ?_
      exact (untilWeir_within.trans activate_within).le (by decide)
    · refine .become ?_
      exact (Within.ite (((Within.ite (untilWeir_within.trans activate_within) untilWeir_within).trans (modWeir_within (fun _ => by rfl))).trans
        (modWeir_within (fun _ => by rfl))) (((Within.ite (untilWeir_within.trans activate_within) untilWeir_within).trans
        (modWeir_within (fun _ => by rfl))).trans snapIssue_within)).le (by decide)

theorem execCheckerRotateTimer_runs {responds} {s} : Runs ⟨frSafe, some blSafe⟩ s (execCheckerRotateTimer responds s) := by
  unfold execCheckerRotateTimer
  dsimp only
  refine .weirDoes ?_
  exact ((until_within.trans (modWeir_within (fun _ => by rfl))).trans checkerTest_within).le (by decide)

theorem execStrapReadTimer_runs {pu} {pd} {s} : Runs ⟨frSafe, some blSafe⟩ s (execStrapReadTimer pu pd s) := by
  unfold execStrapReadTimer
  dsimp only
  refine .weirDoes ?_
  exact ((until_within.trans (modWeir_within (fun _ => by rfl))).trans strapJudge_within).le (by decide)

theorem execPermissionReturn_runs {s} : Runs ⟨[.lat], some []⟩ s (execPermissionReturn s) := by
  unfold execPermissionReturn
  dsimp only
  split
  · refine .become ?_
    exact .rfl
  · refine .become ?_
    exact lat_within.le (by decide)

theorem Chip.modRun_within {u : Chip} {c} {g} : Within ⟨[.rt], some []⟩ u (u.modRun c g) := by
  unfold Chip.modRun
  exact rt_within.le (by decide)

theorem Chip.modPair_within {u : Chip} {c} {g} : Within ⟨[.rt], some []⟩ u (u.modPair c g) := by
  unfold Chip.modPair
  exact modRun_within.le (by decide)

theorem Chip.seqRemember_within {u : Chip} {c} : Within ⟨[.rt], some []⟩ u (u.seqRemember c) := by
  unfold Chip.seqRemember
  dsimp only
  exact modPair_within.le (by decide)

theorem Chip.claimAdopted_within {u : Chip} {c} {n} {old} {f} {row4} : Within ⟨frLog, some [0x409]⟩ u (u.claimAdopted c n old f row4) := by
  unfold Chip.claimAdopted
  split
  · exact (Within.ite rtEvent_within Within.unchanged).le (by decide)
  · exact .rfl

theorem Chip.modConn_within {u : Chip} {c} {n} {g} : Within ⟨[.rt], some []⟩ u (u.modConn c n g) := by
  unfold Chip.modConn
  exact modRun_within.le (by decide)

theorem Chip.judgeFrame_within {u : Chip} {c now} {p} : Within ⟨frLog ++ [.rt], some [0x409]⟩ u (u.judgeFrame c now p).2 := by
  have hconn : ∀ g, Within ⟨frLog ++ [.rt], some [0x409]⟩ u (u.modConn c p.conn g) := fun g => modConn_within.le (by decide)
  unfold Chip.judgeFrame
  dsimp only
  split
  all_goals dsimp only
  · exact .chain claimAdopted_within (by decide) (hconn _)
  · exact hconn _
  · exact hconn _
  · exact hconn _

theorem Chip.connLive_within {u : Chip} {c} {n} : Within ⟨frLog ++ [.rt], some [0x409]⟩ u (u.connLive c n) := by
  unfold Chip.connLive
  dsimp only
  exact (Within.ite (modConn_within.trans rtEvent_within) Within.unchanged).le (by decide)

theorem Chip.order_within {u : Chip} {c} {a} {v} : Within ⟨[.rt], some []⟩ u (u.order c a v) := by
  unfold Chip.order
  exact modRun_within.le (by decide)

theorem Chip.pairEnter_within {u : Chip} {c} {new} {cause} : Within ⟨frLog ++ [.rt], some [0x409]⟩ u (u.pairEnter c new cause) := by
  unfold Chip.pairEnter
  dsimp only
  exact (Within.ite Within.unchanged (modPair_within.trans rtEvent_within)).le (by decide)

theorem Chip.pairAnswer_within {u : Chip} {c} {f} : Within ⟨frLog ++ [.rt], some [0x409]⟩ u (u.pairAnswer c f) := by
  unfold Chip.pairAnswer
  dsimp only
  exact (Within.ite Within.unchanged (Within.ite (Within.ite (modPair_within.trans
    order_within) Within.unchanged) (Within.ite (Within.ite ((modPair_within.trans rtEvent_within).trans pairEnter_within) (modPair_within.trans
    rtEvent_within)) Within.unchanged))).le (by decide)

theorem Chip.pairRequest_within {u : Chip} {c} {reason} : Within ⟨frLog ++ [.rt], some [0x409]⟩ u (u.pairRequest c reason) := by
  unfold Chip.pairRequest
  exact (Within.ite Within.unchanged (modPair_within.trans rtEvent_within)).le (by decide)

theorem Chip.partnerBeat_within {u : Chip} {c} {b} : Within ⟨frLog ++ [.rt], some [0x409]⟩ u (u.partnerBeat c b) := by
  unfold Chip.partnerBeat
  dsimp only
  exact (Within.ite (Within.ite ((Within.ite (modPair_within.trans rtEvent_within) modPair_within).trans
    pairEnter_within) (Within.ite ((Within.ite (modPair_within.trans rtEvent_within) modPair_within).trans
    pairRequest_within) (Within.ite (modPair_within.trans rtEvent_within) modPair_within))) (Within.ite (((Within.ite (modPair_within.trans
    rtEvent_within) modPair_within).trans modPair_within).trans pairEnter_within) (Within.ite (modPair_within.trans
    rtEvent_within) modPair_within))).le (by decide)

theorem Chip.pairFrame_within {u : Chip} {c} {n} {f} : Within ⟨frLog ++ [.rt], some [0x409]⟩ u (u.pairFrame c n f) := by
  unfold Chip.pairFrame
  dsimp only
  exact (Within.ite (Within.ite (Within.ite (connLive_within.trans pairAnswer_within) connLive_within) (Within.ite (Within.ite (connLive_within.trans
    modPair_within) (Within.ite (connLive_within.trans
    partnerBeat_within) connLive_within)) connLive_within)) (Within.ite (Within.ite connLive_within (Within.ite (connLive_within.trans
    modPair_within) (Within.ite (connLive_within.trans modPair_within) connLive_within))) connLive_within)).le (by decide)

theorem Chip.sendLater_within {u : Chip} {c} {n} {kind} {payload} : Within ⟨[.rt], some []⟩ u (u.sendLater c n kind payload) := by
  unfold Chip.sendLater
  exact modRun_within.le (by decide)

theorem Chip.idReq_within {u : Chip} {c} {n} {p} : Within ⟨[.rt], some []⟩ u (u.idReq c n p) := by
  unfold Chip.idReq
  dsimp only
  split
  · exact (Within.ite Within.unchanged sendLater_within).le (by decide)
  · exact .rfl

theorem Chip.idRsp_within {u : Chip} {c} {n} {p} : Within ⟨frLog ++ [.rt], some [0x409]⟩ u (u.idRsp c n p) := by
  unfold Chip.idRsp
  dsimp only
  exact (Within.ite Within.unchanged (Within.ite modConn_within (Within.ite ((modConn_within.trans rtEvent_within).trans
    rtEvent_within) (modConn_within.trans rtEvent_within)))).le (by decide)

theorem Chip.accepted_within {u : Chip} {c} {n} {f} : Within ⟨frLog ++ [.rt], some [0x409]⟩ u (u.accepted c n f) := by
  unfold Chip.accepted
  split
  · exact (modConn_within.trans connLive_within).le (by decide)
  · exact idReq_within.le (by decide)
  · exact idRsp_within.le (by decide)

theorem Chip.staleCheck_within {u : Chip} {c} {now} {n} : Within ⟨frLog ++ [.rt], some [0x409]⟩ u (u.staleCheck c now n) := by
  unfold Chip.staleCheck
  dsimp only
  exact (Within.ite (modConn_within.trans rtEvent_within) Within.unchanged).le (by decide)

theorem Chip.zstBatch_within {u : Chip} {c} : Within ⟨frLog ++ [.rt], some [0x409]⟩ u (u.zstBatch c) := by
  unfold Chip.zstBatch
  dsimp only
  exact ((modRun_within.trans (Within.foldl fun _ _ => (Within.ite judgeFrame_within (Within.ite (judgeFrame_within.trans
    pairFrame_within) (Within.ite ((judgeFrame_within.trans accepted_within).trans modPair_within) (judgeFrame_within.trans
    accepted_within)))))).trans (Within.foldl fun _ _ => staleCheck_within)).le (by decide)

theorem Chip.order64_within {u : Chip} {c} {a} {v} : Within ⟨[.rt], some []⟩ u (u.order64 c a v) := by
  unfold Chip.order64
  exact (order_within.trans order_within).le (by decide)

theorem Chip.ledEvents_within {u : Chip} {c} {l} : Within ⟨frLog, some [0x409]⟩ u (u.ledEvents c l) := by
  unfold Chip.ledEvents
  exact (Within.foldl fun _ _ => (Within.ite rtEvent_within Within.unchanged)).le (by decide)

theorem Chip.ledOrder_within {u : Chip} {c} {l} : Within ⟨[.rt], some []⟩ u (u.ledOrder c l) := by
  unfold Chip.ledOrder
  dsimp only
  exact ((Within.foldl fun _ _ => order_within).trans order_within).le (by decide)

theorem Chip.firstCycle_within {u : Chip} {c} : Within ⟨frLog ++ [.rt], some [0x409]⟩ u (u.firstCycle c) := by
  unfold Chip.firstCycle
  dsimp only
  exact (Within.ite ((((Within.ite (((modRun_within.trans order64_within).trans modRun_within).trans order_within) ((modRun_within.trans
    order64_within).trans rtEvent_within)).trans ledOrder_within).trans ledEvents_within).trans rtEvent_within) (((Within.ite (((modRun_within.trans
    order64_within).trans modRun_within).trans order_within) ((modRun_within.trans order64_within).trans rtEvent_within)).trans ledOrder_within).trans
    ledEvents_within)).le (by decide)

theorem Chip.retainCopy_within {u : Chip} {c} {t} : Within ⟨[.rt], some []⟩ u (u.retainCopy c t) := by
  unfold Chip.retainCopy
  dsimp only
  exact modRun_within.le (by decide)

theorem Chip.modTask_within {u : Chip} {c} {t} {g} : Within ⟨[.rt], some []⟩ u (u.modTask c t g) := by
  unfold Chip.modTask
  exact modRun_within.le (by decide)

theorem Chip.rsRead_within {u : Chip} {n : Nat} : Within ⟨[.chans, .conf], some [0x403]⟩ u (u.rsRead n) := by
  have hcopy : ∀ (c lo hi : Nat), lo ≤ hi →
      Within ⟨[.chans], some []⟩ u (u.modChan c (fun h => { h with sram := memCopy h.sram (u.chan u.rsSources.1).sram lo hi })) :=
    fun c lo hi hle => modChan_sram_within fun h => memCopy_wf hle (u.memoriesOk_chan h c) (u.memoriesOk_chan h _)
  unfold Chip.rsRead
  split
  · exact .rfl
  · dsimp only
    split
    · exact .rfl
    · exact ((hcopy _ _ _ (by omega)).trans putRs_within).le (by decide)

theorem Chip.rsCatchUp_within {u : Chip} : Within ⟨[.chans, .conf], some [0x403]⟩ u u.rsCatchUp := by
  unfold Chip.rsCatchUp
  exact (Within.ite rsRead_within Within.unchanged).le (by decide)

theorem Chip.rsWrite_within {u : Chip} {c} {a} : Within ⟨[.conf], some [0x403]⟩ u (u.rsWrite c a) := by
  unfold Chip.rsWrite
  dsimp only
  exact (Within.ite putRs_within Within.unchanged).le (by decide)

theorem Chip.sramWrite_within {u : Chip} {c a : Nat} {b : List Byte} : Within ⟨[.chans, .conf], some [0x403]⟩ u (u.sramWrite c a b) := by
  have hwrite : Within ⟨[.chans, .conf], some [0x403]⟩ u (u.rsCatchUp.modChan c (fun h => { h with sram := memWriteBytes h.sram a b })) :=
    .chain (modChan_sram_within fun h => memWriteBytes_wf _ _ _ (Chip.memoriesOk_chan h c)) (by decide) rsCatchUp_within
  unfold Chip.sramWrite
  dsimp only
  split
  · exact hwrite
  · exact .chain (Within.foldl fun _ _ => rsWrite_within) (by decide) hwrite

theorem Chip.composePage_within {u : Chip} {c} {k} {gen} : Within ⟨[.chans, .conf, .rt], some [0x403]⟩ u (u.composePage c k gen) := by
  unfold Chip.composePage
  dsimp only
  exact (sramWrite_within.trans modRun_within).le (by decide)

theorem Chip.retainUpdate_within {u : Chip} {c} {gen} : Within ⟨[.chans, .conf, .rt], some [0x403]⟩ u (u.retainUpdate c gen) := by
  unfold Chip.retainUpdate
  exact ((Within.foldlOf ⟨[.chans, .conf, .rt], some [0x403]⟩ fun t x => by
  split
  · exact (Within.ite Within.unchanged composePage_within).le (by decide)
  · exact composePage_within.le (by decide)
)).le (by decide)

theorem Chip.publish_within {u : Chip} {c} {count} : Within ⟨[.chans, .conf, .rt], some [0x403]⟩ u (u.publish c count) := by
  unfold Chip.publish
  dsimp only
  exact ((Within.foldl fun _ _ => (Within.ite ((modRun_within.trans modTask_within).trans retainCopy_within) Within.unchanged)).trans
    retainUpdate_within).le (by decide)

theorem Chip.swapProgram_within {u : Chip} {c} : Within ⟨[.chans, .conf, .rt], some [0x403]⟩ u (u.swapProgram c) := by
  unfold Chip.swapProgram
  dsimp only
  exact ((((Within.foldl fun _ _ => sramWrite_within).trans modRun_within).trans retainUpdate_within).trans ledOrder_within).le (by decide)

theorem Chip.modStg_within {u : Chip} {c} {g} : Within ⟨[.rt], some []⟩ u (u.modStg c g) := by
  unfold Chip.modStg
  exact modRun_within.le (by decide)

theorem Chip.swapStep_within {u : Chip} {c} : Within ⟨frLog ++ [.chans, .conf, .rt], some [0x403, 0x409]⟩ u (u.swapStep c) := by
  unfold Chip.swapStep
  dsimp only
  exact (Within.ite Within.unchanged (Within.ite swapProgram_within (Within.ite (modStg_within.trans
    rtEvent_within) Within.unchanged))).le (by decide)

theorem Chip.endForces_within {u : Chip} {c} {p} {tag} {reason} : Within ⟨frLog ++ [.rt], some [0x409]⟩ u (u.endForces c p tag reason) := by
  unfold Chip.endForces
  dsimp only
  exact (modRun_within.trans (Within.foldl fun _ _ => rtEvent_within)).le (by decide)

theorem Chip.prReport_within {u : Chip} {c} : Within ⟨[.rt], some []⟩ u (u.prReport c) := by
  unfold Chip.prReport
  dsimp only
  exact (Within.ite (Within.ite Within.unchanged order_within) ((Within.ite Within.unchanged order_within).trans order_within)).le (by decide)

theorem Chip.pairLost_within {u : Chip} {c} : Within ⟨frLog ++ [.rt], some [0x409]⟩ u (u.pairLost c) := by
  unfold Chip.pairLost
  dsimp only
  exact ((Within.ite ((Within.ite ((Within.ite rtEvent_within Within.unchanged).trans
    rtEvent_within) (Within.ite rtEvent_within Within.unchanged)).trans
    rtEvent_within) (Within.ite ((Within.ite rtEvent_within Within.unchanged).trans
    rtEvent_within) (Within.ite rtEvent_within Within.unchanged))).trans modPair_within).le (by decide)

theorem Chip.partnerStep_within {u : Chip} {c} : Within ⟨frLog ++ [.rt], some [0x409]⟩ u (u.partnerStep c) := by
  unfold Chip.partnerStep
  extract_lets v mir p y w st x
  have hlost : Within ⟨frLog ++ [.rt], some [0x409]⟩ u v := pairLost_within.le (by decide)
  have hy : Within ⟨frLog ++ [.rt], some [0x409]⟩ v y := modPair_within.le (by decide)
  have hgrant : Within ⟨frLog ++ [.rt], some [0x409]⟩ v w := by
    unfold w
    split
    · split
      · split
        · exact .chain (modPair_within.trans pairEnter_within) (by decide) hy
        · exact hy
      · exact .rfl
    · exact .rfl
  have hw := hlost.step hgrant
  have hx : Within ⟨frLog ++ [.rt], some [0x409]⟩ u x := .chain pairEnter_within (by decide) hw
  split
  · exact .chain pairRequest_within (by decide) hw
  · split
    · split
      · exact .chain pairRequest_within (by decide) hx
      · exact hx
    · split
      · split
        · exact .chain pairEnter_within (by decide) hw
        · split
          · exact .chain pairRequest_within (by decide) hw
          · exact hw
      · exact hw

theorem Chip.mirrorBytes_within {u : Chip} {c} {data} {b} : Within ⟨[.chans, .conf], some [0x403]⟩ u (u.mirrorBytes c data b) := by
  unfold Chip.mirrorBytes
  split
  · exact (Within.foldl fun _ _ => sramWrite_within).le (by decide)
  · exact .rfl

theorem Chip.mirrorRise_within {u : Chip} {c} {old} {new} : Within ⟨[.rt], some []⟩ u (u.mirrorRise c old new) := by
  unfold Chip.mirrorRise
  dsimp only
  exact (Within.ite (modRun_within.trans modPair_within) Within.unchanged).le (by decide)

theorem Chip.applyData_within {u : Chip} {c} {k} {old} {data} : Within ⟨[.chans, .conf, .rt], some [0x403]⟩ u (u.applyData c k old data) := by
  unfold Chip.applyData
  dsimp only
  exact (Within.foldl fun _ _ => (Within.ite mirrorBytes_within (mirrorRise_within.trans modRun_within))).le (by decide)

theorem Chip.applySeq_within {u : Chip} {c} {k} {data} {hist} : Within ⟨[.rt], some []⟩ u (u.applySeq c k data hist) := by
  unfold Chip.applySeq
  dsimp only
  exact (Within.foldl fun _ _ => modConn_within).le (by decide)

theorem Chip.applyPage_within {u : Chip} {c} {ts} {p} : Within ⟨frLog ++ [.chans, .conf, .rt], some [0x403, 0x409]⟩ u (u.applyPage c ts p) := by
  unfold Chip.applyPage
  dsimp only
  split
  · exact (Within.ite (rtEvent_within.trans pairEnter_within) rtEvent_within).le (by decide)
  · split
    · exact (applyData_within.trans modPair_within).le (by decide)
    · split
      · split
        · exact (applySeq_within.trans modPair_within).le (by decide)
        · exact .rfl
      · exact .rfl

theorem Chip.applyMirror_within {u : Chip} {c} : Within ⟨frLog ++ [.chans, .conf, .rt], some [0x403, 0x409]⟩ u (u.applyMirror c) := by
  unfold Chip.applyMirror
  dsimp only
  exact ((Within.ite (modPair_within.trans (Within.foldl fun _ _ => applyPage_within)) modPair_within).trans
    (Within.foldl fun _ _ => (Within.ite (((free_within.trans modPair_within).trans modRun_within).trans
    rtEvent_within) (Within.ite modPair_within Within.unchanged)))).le (by decide)

theorem Chip.witEpoch_within {u : Chip} {c} {e} : Within ⟨[.rt], some []⟩ u (u.witEpoch c e) := by
  unfold Chip.witEpoch
  exact (Within.ite Within.unchanged (modPair_within.trans order_within)).le (by decide)

theorem Chip.witStart_within {u : Chip} {c} : Within ⟨[.rt], some []⟩ u (u.witStart c) := by
  unfold Chip.witStart
  dsimp only
  exact (Within.ite Within.unchanged (modPair_within.trans witEpoch_within)).le (by decide)

theorem Chip.witAnswer_within {u : Chip} {c} {rank} {res} {reason} : Within ⟨[.rt], some []⟩ u (u.witAnswer c rank res reason) := by
  unfold Chip.witAnswer
  exact sendLater_within.le (by decide)

theorem Chip.witGrant_within {u : Chip} {c} {rank} {e} {reason} : Within ⟨frLog ++ [.rt], some [0x409]⟩ u (u.witGrant c rank e reason) := by
  unfold Chip.witGrant
  dsimp only
  exact (((witEpoch_within.trans modPair_within).trans witAnswer_within).trans rtEvent_within).le (by decide)

theorem Chip.witDecide_within {u : Chip} {c} {q} : Within ⟨frLog ++ [.rt], some [0x409]⟩ u (u.witDecide c q) := by
  unfold Chip.witDecide
  dsimp only
  exact (Within.ite witAnswer_within (Within.ite witAnswer_within (Within.ite witAnswer_within (Within.ite witGrant_within
    (Within.ite witAnswer_within (Within.ite witAnswer_within (Within.ite witAnswer_within witGrant_within))))))).le (by decide)

theorem Chip.witnessStep_within {u : Chip} {c} : Within ⟨frLog ++ [.rt], some [0x409]⟩ u (u.witnessStep c) := by
  unfold Chip.witnessStep
  dsimp only
  exact (Within.ite witStart_within (Within.ite ((Within.ite (witStart_within.trans witGrant_within) witStart_within).trans
    modPair_within) (((Within.ite (witStart_within.trans witGrant_within) witStart_within).trans modPair_within).trans
    (Within.foldl fun _ _ => witDecide_within)))).le (by decide)

theorem Chip.pairSnapshot_within {u : Chip} {c} : Within ⟨frLog ++ [.chans, .conf, .rt], some [0x403, 0x409]⟩ u (u.pairSnapshot c) := by
  unfold Chip.pairSnapshot
  exact (Within.ite ((applyMirror_within.trans partnerStep_within).trans prReport_within) (Within.ite (witnessStep_within.trans
    prReport_within) Within.unchanged)).le (by decide)

theorem Chip.fwCancel_within {u : Chip} {c} {e} : Within ⟨frLog ++ [.rt], some [0x409]⟩ u (u.fwCancel c e) := by
  unfold Chip.fwCancel
  exact (order_within.trans rtEvent_within).le (by decide)

/-- A queued command that is carried out stays within a scope. -/
def CmdWithin (a : Scope) (u : Chip) (r : CmdResult) : Prop := ∀ v, r = .ok v → Chip.Within a u v

theorem CmdWithin.ok {a b : Scope} {u v : Chip} (h : Chip.Within a u v) (hab : a.sub b = true) : CmdWithin b u (.ok v) := by
  rintro _ ⟨⟩
  exact h.le hab

theorem CmdWithin.error {a : Scope} {u : Chip} {st : Nat} : CmdWithin a u (.error st) := fun _ h => nomatch h

theorem CmdWithin.firstRefusal {a b : Scope} {u v : Chip} {l : List (Bool × Nat)} (h : Chip.Within a u v) (hab : a.sub b = true) :
    CmdWithin b u (Machine.firstRefusal l v) := by
  unfold Machine.firstRefusal
  split
  · exact .error
  · exact .ok h hab

theorem Chip.olcBegin_within {u : Chip} {c} : CmdWithin ⟨[.rt], some []⟩ u (u.olcBegin c) := by
  unfold Chip.olcBegin
  split
  · exact .error
  · exact .ok modStg_within (by decide)

theorem Chip.olcLoad_within {u : Chip} {c} {e} : CmdWithin ⟨[.chans, .conf], some [0x403]⟩ u (u.olcLoad c e) := by
  unfold Chip.olcLoad
  dsimp only
  split
  · exact .error
  · exact .firstRefusal sramWrite_within (by decide)

theorem Chip.olcPrepare_within {u : Chip} {c} {e} : CmdWithin ⟨frLog ++ [.rt], some [0x409]⟩ u (u.olcPrepare c e) := by
  unfold Chip.olcPrepare
  dsimp only
  split
  · exact .error
  · exact .firstRefusal ((((modStg_within.trans order_within).trans order_within).trans order64_within).trans rtEvent_within) (by decide)

theorem Chip.olcSwap_within {u : Chip} {c} {e} : CmdWithin ⟨frLog ++ [.rt], some [0x409]⟩ u (u.olcSwap c e) := by
  unfold Chip.olcSwap
  dsimp only
  split
  · exact .error
  · exact .firstRefusal (((modStg_within.trans rtEvent_within).trans order_within).trans order_within) (by decide)

theorem Chip.olcAbort_within {u : Chip} {c} : CmdWithin ⟨[.rt], some []⟩ u (u.olcAbort c) := by
  unfold Chip.olcAbort
  split
  · exact .ok modStg_within (by decide)
  · exact .ok order_within (by decide)
  · exact .error

theorem Chip.forceSet_within {u : Chip} {c} {e} : CmdWithin ⟨frLog ++ [.rt], some [0x409]⟩ u (u.forceSet c e) := by
  unfold Chip.forceSet
  dsimp only
  split
  · exact .error
  · exact .firstRefusal (modRun_within.trans rtEvent_within) (by decide)

theorem Chip.cfgConfirm_within {u : Chip} {c} {e} : CmdWithin ⟨frLog ++ [.rt], some [0x409]⟩ u (u.cfgConfirm c e) :=
  .firstRefusal ((((((modRun_within.trans rtEvent_within).trans order64_within).trans order_within).trans order_within).trans order_within).trans
    order_within)
    (by decide)

theorem Chip.keyLoad_within {u : Chip} {c} {e} : CmdWithin ⟨frLog ++ [.chans, .conf], some [0x403, 0x409]⟩ u (u.keyLoad c e) :=
  .firstRefusal ((sramWrite_within.trans sramWrite_within).trans rtEvent_within) (by decide)

theorem Chip.keyPhaseSet_within {u : Chip} {c} {e} : CmdWithin ⟨frLog ++ [.chans, .conf], some [0x403, 0x409]⟩ u (u.keyPhaseSet c e) :=
  .firstRefusal ((sramWrite_within.trans (Within.ite (sramWrite_within.trans sramWrite_within) .unchanged)).trans rtEvent_within) (by decide)

theorem Chip.fwActivate_within {u : Chip} {c} {e} : CmdWithin ⟨frLog ++ [.rt], some [0x409]⟩ u (u.fwActivate c e) :=
  .firstRefusal (((modRun_within.trans rtEvent_within).trans order64_within).trans order_within) (by decide)

theorem CmdWithin.le {a b : Scope} {u : Chip} {r : CmdResult} (h : CmdWithin a u r) (hab : a.sub b = true) : CmdWithin b u r :=
  fun v hv => (h v hv).le hab

theorem Chip.cmdEffect_within {u : Chip} {c} {e} : CmdWithin ⟨frLog ++ [.chans, .conf, .rt], some [0x403, 0x409]⟩ u (u.cmdEffect c e) := by
  unfold Chip.cmdEffect
  dsimp only
  split
  · exact olcBegin_within.le (by decide)
  · exact olcLoad_within.le (by decide)
  · exact olcPrepare_within.le (by decide)
  · exact olcSwap_within.le (by decide)
  · exact olcAbort_within.le (by decide)
  · exact forceSet_within.le (by decide)
  · exact .ok endForces_within (by decide)
  · exact .ok endForces_within (by decide)
  · exact .ok order64_within (by decide)
  · exact .ok order_within (by decide)
  · exact .ok order_within (by decide)
  · exact cfgConfirm_within.le (by decide)
  · exact keyLoad_within.le (by decide)
  · exact keyPhaseSet_within.le (by decide)
  · exact fwActivate_within.le (by decide)
  · exact .ok fwCancel_within (by decide)
  · split
    · exact .ok order_within (by decide)
    · exact .error
  · exact .ok .unchanged (by decide)

theorem Chip.cmdProcess_within {u : Chip} {c} {e} : Within ⟨frLog ++ [.chans, .conf, .rt], some [0x403, 0x409]⟩ u (u.cmdProcess c e) := by
  unfold Chip.cmdProcess
  dsimp only
  split
  · exact .rfl
  · split
    · exact rtEvent_within.le (by decide)
    · split
      · rename_i v hv
        exact cmdEffect_within v hv
      · exact rtEvent_within.le (by decide)

theorem Chip.swapDone_within {u : Chip} {c} : Within ⟨frLog ++ [.rt], some [0x409]⟩ u (u.swapDone c) := by
  unfold Chip.swapDone
  split
  · exact (modRun_within.trans rtEvent_within).le (by decide)
  · exact .rfl

theorem Chip.removedEvents_within {u : Chip} {c} : Within ⟨frLog ++ [.rt], some [0x409]⟩ u (u.removedEvents c) := by
  unfold Chip.removedEvents
  dsimp only
  exact (modRun_within.trans (Within.foldl fun _ _ => rtEvent_within)).le (by decide)

theorem Chip.releaseTasks_within {u : Chip} {c} : Within ⟨[.rt], some []⟩ u (u.releaseTasks c) := by
  unfold Chip.releaseTasks
  dsimp only
  exact (Within.foldl fun _ _ => (Within.ite modTask_within Within.unchanged)).le (by decide)

theorem Chip.stoffForm_within {u : Chip} {c} : Within ⟨[.rt], some []⟩ u (u.stoffForm c) := by
  unfold Chip.stoffForm
  dsimp only
  exact (Within.ite Within.unchanged (order64_within.trans order64_within)).le (by decide)

theorem Chip.snapWork_within {u : Chip} {c} : Within ⟨frLog ++ [.chans, .conf, .rt], some [0x403, 0x409]⟩ u (u.snapWork c) := by
  unfold Chip.snapWork
  dsimp only
  exact (((((((Within.ite (publish_within.trans swapStep_within) ((publish_within.trans swapStep_within).trans endForces_within)).trans
    pairSnapshot_within).trans (Within.foldl fun _ _ => cmdProcess_within)).trans stoffForm_within).trans releaseTasks_within).trans
    removedEvents_within).trans swapDone_within).le (by decide)

theorem Chip.haltDone_within {u : Chip} {c} : Within ⟨[.chans, .rt], some [0x402]⟩ u (u.haltDone c) := by
  unfold Chip.haltDone
  dsimp only
  exact (Within.ite ((modRun_within.trans (put_within (Reg.CH_CSN.READY_in))).trans
    (modChan_within (fun _ => by rfl))) Within.unchanged).le (by decide)

theorem Chip.handover_within {u : Chip} {c} : Within ⟨frLog ++ [.chans, .conf, .rt], some [0x402, 0x403, 0x409]⟩ u (u.handover c) := by
  unfold Chip.handover
  dsimp only
  exact (Within.ite Within.unchanged (Within.ite (Within.ite ((((zstBatch_within.trans seqRemember_within).trans modRun_within).trans
    (modChan_within (fun _ => by rfl))).trans chanIrq_within) (((((zstBatch_within.trans seqRemember_within).trans modRun_within).trans
    (modChan_within (fun _ => by rfl))).trans chanIrq_within).trans firstCycle_within)) ((((Within.ite ((((zstBatch_within.trans
    seqRemember_within).trans modRun_within).trans (modChan_within (fun _ => by rfl))).trans chanIrq_within) (((((zstBatch_within.trans
    seqRemember_within).trans modRun_within).trans (modChan_within (fun _ => by rfl))).trans chanIrq_within).trans firstCycle_within)).trans
    snapWork_within).trans modRun_within).trans haltDone_within))).le (by decide)

theorem execSnapshotHandover_runs {c} {s} : Runs ⟨frLog ++ [.chans, .conf, .rt], some [0x402, 0x403, 0x409]⟩ s (execSnapshotHandover c s) := by
  unfold execSnapshotHandover
  refine .become ?_
  exact handover_within.le (by decide)

theorem Chip.modTwin_within {u : Chip} {c t} {g : Twin → Twin} : Within ⟨[.chans], some []⟩ u (u.modTwin c t g) :=
  modChan_within fun h => by split <;> rfl

theorem Chip.pmpProgram_within {u : Chip} {c} {t} : Within ⟨[.chans], some []⟩ u (u.pmpProgram c t) := by
  unfold Chip.pmpProgram
  dsimp only
  exact modTwin_within.le (by decide)

theorem Chip.begin_within {u : Chip} {c} {t} {k} : Within ⟨[.chans, .rt], some []⟩ u (u.begin c t k) := by
  unfold Chip.begin
  dsimp only
  exact (pmpProgram_within.trans modTask_within).le (by decide)

theorem Chip.applyForce_within {u : Chip} {c} {ds} {f} : Within ⟨[.chans, .conf], some [0x403]⟩ u (u.applyForce c ds f) := by
  unfold Chip.applyForce
  dsimp only
  split
  · exact (Within.ite sramWrite_within sramWrite_within).le (by decide)
  · exact .rfl

theorem Chip.rtEvents_within {u : Chip} {c} {l} : Within ⟨frLog, some [0x409]⟩ u (u.rtEvents c l) := by
  unfold Chip.rtEvents
  exact (Within.foldl fun _ _ => rtEvent_within).le (by decide)

theorem Chip.queueRequest_within {u : Chip} {c} {t} {w} : Within ⟨frLog ++ [.rt], some [0x409]⟩ u (u.queueRequest c t w) := by
  unfold Chip.queueRequest
  exact (Within.ite modTask_within rtEvent_within).le (by decide)

theorem Chip.showQueued_within {u : Chip} {c} {key} {q} : Within ⟨[.rt], some []⟩ u (u.showQueued c key q) := by
  unfold Chip.showQueued
  exact modRun_within.le (by decide)

theorem Chip.callBlk_within {u : Chip} {c} {t} {k} : Within ⟨frLog ++ [.rt], some [0x409]⟩ u (u.callBlk c t k) := by
  unfold Chip.callBlk
  dsimp only
  split
  · refine .chain modTask_within (by decide) ?_
    split
    · exact (((modRun_within.trans rtEvents_within).trans (Within.foldl fun _ _ => queueRequest_within)).trans showQueued_within).le (by decide)
    · exact ((modRun_within.trans rtEvents_within).trans (Within.foldl fun _ _ => queueRequest_within)).le (by decide)
  · split
    · exact (((modRun_within.trans rtEvents_within).trans (Within.foldl fun _ _ => queueRequest_within)).trans showQueued_within).le (by decide)
    · exact ((modRun_within.trans rtEvents_within).trans (Within.foldl fun _ _ => queueRequest_within)).le (by decide)

theorem Chip.callDesc_within {u : Chip} {c} {t} {calls} {d} : Within ⟨frLog ++ [.chans, .conf, .rt], some [0x403, 0x409]⟩ u
  (u.callDesc c t calls d) := by
  unfold Chip.callDesc
  dsimp only
  refine .chain (Within.foldl fun _ _ => applyForce_within) (by decide) ?_
  split
  · exact ((Within.foldl fun _ _ => applyForce_within).trans callBlk_within).le (by decide)
  · exact (Within.foldl fun _ _ => applyForce_within).le (by decide)

theorem Chip.dispatch_within {u : Chip} {c} {d} : Within ⟨frLog ++ [.chans, .conf, .rt], some [0x403, 0x409]⟩ u (u.dispatch c d) := by
  unfold Chip.dispatch
  dsimp only
  split
  · exact .rfl
  · refine .chain ((Within.foldl fun _ _ => callDesc_within).trans modTask_within) (by decide) ?_
    split
    · exact begin_within.le (by decide)
    · exact .rfl

theorem execTaskDispatch_runs {c} {d} {s} : Runs ⟨frLog ++ [.chans, .conf, .rt], some [0x403, 0x409]⟩ s (execTaskDispatch c d s) := by
  unfold execTaskDispatch
  refine .become ?_
  exact dispatch_within.le (by decide)

theorem Chip.applyTimes_within {u : Chip} {c t snap prev} {l} {img} : Within ⟨frLog, some [0x409]⟩ u (u.applyTimes c t snap prev l img).2 := by
  unfold Chip.applyTimes
  refine Within.foldl_snd (p := (img, u)) fun a n => ?_
  dsimp only
  split
  · exact rtEvent_within
  · exact .rfl

theorem Chip.dropQueued_within {u : Chip} {c} {sent} {rest} : Within ⟨[.rt], some []⟩ u (u.dropQueued c sent rest) := by
  unfold Chip.dropQueued
  exact modRun_within.le (by decide)

theorem Chip.deliveryImage_within {u : Chip} {c} {t} {d} : Within ⟨frLog ++ [.rt], some [0x409]⟩ u (u.deliveryImage c t d).2 := by
  unfold Chip.deliveryImage
  dsimp only
  exact ((applyTimes_within.trans modTask_within).trans dropQueued_within).le (by decide)

theorem Chip.pairItems_within {u : Chip} {c snap} : Within ⟨[.rt], some []⟩ u (u.pairItems c snap).2 := by
  unfold Chip.pairItems
  extract_lets hb p beats
  split
  · exact .rfl
  · split
    · exact .rfl
    · dsimp only
      exact modPair_within

theorem Chip.ownItems_within {u : Chip} {c} {snap} : Within ⟨[.rt], some []⟩ u (u.ownItems c snap).2 := by
  unfold Chip.ownItems
  dsimp only
  exact (modRun_within.trans pairItems_within).le (by decide)

theorem Chip.buildFrame_within {u : Chip} {c} {n} {kind} {p} : Within ⟨[.rt], some []⟩ u (u.buildFrame c n kind p).2 := by
  unfold Chip.buildFrame
  dsimp only
  exact modConn_within.le (by decide)

theorem Chip.addFrame_within {c : Nat} {a : List Nat × Chip} {n kind} {lg} {p} : Chip.Within ⟨[.rt], some []⟩ a.2
  (Chip.addFrame c a n kind lg p).2 := by
  unfold Chip.addFrame
  dsimp only
  exact buildFrame_within

theorem Chip.appFrames_within {c t : Nat} {sends} {a : List Nat × Chip} {n} :
    Chip.Within ⟨frLog ++ [.rt], some [0x409]⟩ a.2 (Chip.appFrames c t sends a n).2 := by
  unfold Chip.appFrames
  extract_lets u l dropped v k r
  have hdropped : Within ⟨frLog ++ [.rt], some [0x409]⟩ a.2 v := (Within.ite .unchanged rtEvent_within).le (by decide)
  have hframes : Within ⟨frLog ++ [.rt], some [0x409]⟩ v r.2 := by
    refine Within.foldl_snd (p := (a.1, v)) fun _ _ => ?_
    exact addFrame_within.le (by decide)
  split
  · split
    · exact hdropped
    · exact hdropped.step ((addFrame_within (a := (a.1, v))).le (by decide))
  · dsimp only
    exact .chain modConn_within (by decide) (hdropped.step hframes)

theorem Chip.messages_within {u : Chip} {c t} {sends} {own} : Within ⟨frLog ++ [.rt], some [0x409]⟩ u (u.messages c t sends own).2 := by
  unfold Chip.messages
  extract_lets ns a
  have hsends : Within ⟨frLog ++ [.rt], some [0x409]⟩ u a.2 := Within.foldl_snd (p := ([], u)) fun _ _ => appFrames_within
  refine hsends.step (Within.foldl_snd fun b i => ?_)
  split
  · exact addFrame_within.le (by decide)
  · exact .rfl

theorem Chip.windowEqual_within {u : Chip} {c} {t} {w} : Within ⟨[.cic, .chans], some [0x402]⟩ u (u.windowEqual c t w) := by
  unfold Chip.windowEqual
  dsimp only
  exact (Within.ite (((cic_within.trans modTwin_within).trans (wrapInc_within (Reg.CH_WINCNT_LT.COUNT_in))).trans
    (put_within (Reg.CH_INJ.LT_LANE_in))) (((cic_within.trans modTwin_within).trans (wrapInc_within (Reg.CH_WINCNT_LK.COUNT_in))).trans
    (put_within (Reg.CH_INJ.LK_LANE_in)))).le (by decide)

theorem Chip.mmCapture_within {u : Chip} {c} {t} {m} : Within ⟨[], some [0x402]⟩ u (u.mmCapture c t m) := by
  unfold Chip.mmCapture
  dsimp only
  exact (((((((((put_within (Reg.MM_SIG_LEAD.SIG_in)).trans (put_within (Reg.MM_SIG_TRAIL.SIG_in))).trans (put_within (Reg.MM_DIFF.LANES_in))).trans
    (put_within (Reg.MM_WIN.WIN_in))).trans (put_within (Reg.MM_INFO.COUNT_in))).trans (put_within (Reg.MM_INFO.DED_in))).trans
    (put_within (Reg.MM_INFO.PARITY_in))).trans (put_within (Reg.MM_INFO.INJ_in))).trans (put_within (Reg.MM_INFO.TWIN_in))).le (by decide)

theorem Chip.mismatch_within {u : Chip} {c t} {m} {same} : Within ⟨frConf ++ [.chans, .weir], some (blConf ++ [0x402])⟩ u
  (u.mismatch c t m same) := by
  unfold Chip.mismatch
  extract_lets v cyc flags raise w x
  have hcount : Within ⟨frConf ++ [.chans, .weir], some (blConf ++ [0x402])⟩ u v :=
    .chain (satInc_within (.ite Reg.CH_MMCNT.LT_in Reg.CH_MMCNT.LK_in)) (by decide) (mmCapture_within.le (by decide))
  have hraise : Within ⟨frConf ++ [.chans, .weir], some (blConf ++ [0x402])⟩ v w :=
    ((Within.ite .unchanged (put_within Reg.CH_STATE.MM_CYC_in)).trans (irqRaise_within chPage_in)).le (by decide)
  have hx : Within ⟨frConf ++ [.chans, .weir], some (blConf ++ [0x402])⟩ w x := modTwin_within.le (by decide)
  split
  · exact .chain (chLost_within.trans (irqAfter_within chPage_in)) (by decide) hcount
  · exact .chain (put_within (.ite Reg.CH_STATE.RB_LT_in Reg.CH_STATE.RB_LK_in)) (by decide) ((hcount.step hraise).step hx)

theorem Chip.compareWindow_within {u : Chip} {c} {twin} {same} : Within ⟨frConf ++ [.chans, .weir], some (blConf ++ [0x402])⟩ u
  (u.compareWindow c twin same) := by
  unfold Chip.compareWindow
  dsimp only
  split
  · exact .rfl
  · split
    · exact .rfl
    · split
      · exact .rfl
      · split
        · exact (Within.ite windowEqual_within mismatch_within).le (by decide)
        · exact (Within.ite ((put_within injOk_in).trans windowEqual_within) (Within.ite (((put_within injOk_in).trans
            (irqRaise_within chPage_in)).trans chLost_within) mismatch_within)).le (by decide)

theorem Chip.taskStores_within {n : Nat} {u : Chip} {c t} {l} :
    Within ⟨frConf ++ [.chans, .weir], some (blConf ++ [0x402])⟩ u (Chip.taskStores n u c t l) := by
  induction n generalizing u l with
  | zero => exact .rfl
  | succ n ih =>
    have hroom : ∀ v : Nat, Within ⟨frConf ++ [.chans, .weir], some (blConf ++ [0x402])⟩ u (u.highWater (Reg.CH_BUF.SB_HWM c) v) :=
      fun v => (highWater_within Reg.CH_BUF.SB_HWM_in).le (by decide)
    unfold Chip.taskStores
    dsimp only
    split
    · exact .chain modTwin_within (by decide) (hroom _)
    · have hfull : ∀ (v : Nat) (g k : Twin → Twin), Within ⟨frConf ++ [.chans, .weir], some (blConf ++ [0x402])⟩ u
          (((((u.highWater (Reg.CH_BUF.SB_HWM c) v).satInc (Reg.CH_BUF.EARLY c)).modTwin c t g).compareWindow c t false).modTwin c t k) :=
        fun v g k => .chain ((((satInc_within Reg.CH_BUF.EARLY_in).trans modTwin_within).trans compareWindow_within).trans modTwin_within) (by decide)
          (hroom v)
      split
      · exact .chain modTwin_within (by decide) (hfull _ _ _)
      · split
        · exact hfull _ _ _
        · exact .step (hfull _ _ _) ih

theorem Chip.complete_within {u : Chip} {c t : Nat} : Within ⟨[.chans, .conf], some [0x403]⟩ u (u.complete c t) := by
  have hclear : ∀ (v : Chip) (a : Nat), Within ⟨[.chans], some []⟩ v (v.modChan c (fun h => { h with sram := memClear h.sram a 0x1E00 })) :=
    fun v a => modChan_sram_within fun h => memClear_wf _ _ _ (v.memoriesOk_chan h c)
  exact ((rsCatchUp_within.trans (hclear _ _)).trans (Within.foldl fun _ _ => rsWrite_within)).le (by decide)

theorem Chip.deliverTask_within {u : Chip} {c} {d} : Within ⟨frConf ++ [.chans, .weir, .rt], some (blConf ++ [0x402])⟩ u (u.deliverTask c d) := by
  unfold Chip.deliverTask
  dsimp only
  split
  · exact .rfl
  · refine .chain ((((messages_within.trans modRun_within).trans complete_within).trans taskStores_within).trans haltDone_within) (by decide) ?_
    split
    · exact (deliveryImage_within.trans ownItems_within).le (by decide)
    · exact deliveryImage_within.le (by decide)

theorem execTaskDelivery_runs {c} {d} {s} : Runs ⟨frConf ++ [.chans, .weir, .rt], some (blConf ++ [0x402])⟩ s (execTaskDelivery c d s) := by
  unfold execTaskDelivery
  refine .become ?_
  exact deliverTask_within.le (by decide)

theorem execAppTrap_runs {c} {t} {mcause} {mepc} {key} {s} : Runs ⟨frLog ++ [.rt], some [0x409]⟩ s (execAppTrap c t mcause mepc key s) := by
  unfold execAppTrap
  dsimp only
  refine .become ?_
  exact (Within.ite (modRun_within.trans rtEvent_within) Within.unchanged).le (by decide)

theorem Chip.eccCorr_within {u : Chip} {c} {a} : Within ⟨frLog ++ [.chans], some [0x402, 0x409]⟩ u (u.eccCorr c a) := by
  unfold Chip.eccCorr
  dsimp only
  exact ((((satInc_within (Reg.CH_ECC.CORR_in)).trans (put_within (Reg.CH_ECC_ADDR.ADDR_in))).trans (modChan_within (fun _ => by rfl))).trans
    (irqRaise_within chPage_in)).le (by decide)

theorem Chip.trailStep_within {u : Chip} {c} {t} {len} {a} {val} {r} : Within ⟨[.chans], some []⟩ u (u.trailStep c t len a val r) := by
  unfold Chip.trailStep
  exact modTwin_within.le (by decide)

theorem Chip.mismatchNow_within {u : Chip} {c} {t} {ded} {parity} {same} : Within ⟨frConf ++ [.chans, .weir], some (blConf ++ [0x402])⟩ u
  (u.mismatchNow c t ded parity same) := by
  unfold Chip.mismatchNow
  dsimp only
  split
  · exact mismatch_within.le (by decide)
  · exact mismatch_within.le (by decide)

theorem Chip.retireTrail_within {u : Chip} {c} {t} {r} : Within ⟨frConf ++ [.chans, .weir], some (blConf ++ [0x402])⟩ u (u.retireTrail c t r) := by
  unfold Chip.retireTrail
  dsimp only
  split
  · exact .rfl
  · split
    · exact (Within.ite (free_within.trans trailStep_within) trailStep_within).le (by decide)
    · exact (Within.ite mismatchNow_within (Within.ite modTwin_within (Within.ite (modTwin_within.trans
        trailStep_within) trailStep_within))).le (by decide)

theorem Chip.leadStep_within {u : Chip} {c} {t} {len} {a} {val} {r} : Within ⟨[.chans], some [0x402]⟩ u (u.leadStep c t len a val r) := by
  unfold Chip.leadStep
  dsimp only
  exact (Within.ite modTwin_within ((Within.ite (((highWater_within (Reg.CH_BUF.SB_HWM_in)).trans (highWater_within (Reg.CH_BUF.RPL_HWM_in))).trans
    (satInc_within (Reg.CH_BUF.EARLY_in))) ((highWater_within (Reg.CH_BUF.SB_HWM_in)).trans (highWater_within (Reg.CH_BUF.RPL_HWM_in)))).trans
    modTwin_within)).le (by decide)

theorem Chip.refuse_within {u : Chip} : Within ⟨[], some []⟩ u u.refuse := by
  unfold Chip.refuse
  exact answer_within.le (by decide)

theorem Chip.arbError_within {u : Chip} {b} {req} {tgt} {a} : Within ⟨frLog, some [0x409, 0x40A]⟩ u (u.arbError b req tgt a) := by
  unfold Chip.arbError
  dsimp only
  exact (Within.ite ((((((((setBit_within (Fld.inBlocks_self (by rfl))).trans (put_within (Fld.inBlocks_self (by rfl)))).trans
    (put_within (Fld.inBlocks_self (by rfl)))).trans (put_within (Fld.inBlocks_self (by rfl)))).trans (put_within (Fld.inBlocks_self (by rfl)))).trans
    (irq_within (.self (by rfl)))).trans raise_within).trans chanIrq_within) (((((((setBit_within (Fld.inBlocks_self (by rfl))).trans
    (put_within (Fld.inBlocks_self (by rfl)))).trans (put_within (Fld.inBlocks_self (by rfl)))).trans (put_within (Fld.inBlocks_self (by rfl)))).trans
    (put_within (Fld.inBlocks_self (by rfl)))).trans (irq_within (.self (by rfl)))).trans raise_within)).le (by decide)

theorem Chip.unmapped_within {u : Chip} {req} {a} : Within ⟨frLog, some [0x409, 0x40A]⟩ u (u.unmapped req a) := by
  unfold Chip.unmapped
  exact (arbError_within.trans refuse_within).le (by decide)

theorem Chip.standbyRefused_within {u : Chip} {req} {a} : Within ⟨frLog, some [0x409, 0x500]⟩ u (u.standbyRefused req a) := by
  unfold Chip.standbyRefused
  exact ((((put_within (Fld.inBlocks_self (by rfl))).trans refreshLines_within).trans raise_within).trans refuse_within).le (by decide)

theorem Chip.standbyAccess_within {u : Chip} : Within ⟨[.plic], some [0x500]⟩ u u.standbyAccess := by
  unfold Chip.standbyAccess
  exact (((put_within (Fld.inBlocks_self (by rfl))).trans refreshLines_within).trans refuse_within).le (by decide)

theorem Chip.standbyRead_within {u : Chip} {req} {a} {size} : Within ⟨frLog, some [0x409, 0x500]⟩ u (u.standbyRead req a size) := by
  unfold Chip.standbyRead
  exact (Within.ite standbyRefused_within (Within.ite standbyAccess_within answer_within)).le (by decide)

theorem Chip.denied_within {u : Chip} {req} {tgt} {a} : Within ⟨frLog, some [0x409, 0x40A]⟩ u (u.denied req tgt a) := by
  unfold Chip.denied
  exact (arbError_within.trans refuse_within).le (by decide)

theorem Chip.plicClaimAll_within {u : Chip} {all} {ctx} : Within ⟨[.plic], some []⟩ u (u.plicClaimAll all ctx) := by
  unfold Chip.plicClaimAll
  dsimp only
  exact (plic_within.trans answer_within).le (by decide)

theorem Chip.plicClaim_within {u : Chip} {ctx} : Within ⟨[.plic], some []⟩ u (u.plicClaim ctx) := by
  unfold Chip.plicClaim
  exact plicClaimAll_within.le (by decide)

theorem Chip.plicRead_within {u : Chip} {off} : Within ⟨[.plic], some []⟩ u (u.plicRead off) := by
  unfold Chip.plicRead
  dsimp only
  exact (Within.ite answer_within (Within.ite answer_within (Within.ite answer_within (Within.ite answer_within
    (Within.ite plicClaim_within answer_within))))).le (by decide)

theorem Chip.readElse_within {u : Chip} {req} {a} {size} : Within ⟨frLog, some [0x409, 0x40A, 0x500]⟩ u (u.readElse req a size) := by
  unfold Chip.readElse
  dsimp only
  split
  · exact unmapped_within.le (by decide)
  · exact (Within.ite standbyRead_within (Within.ite denied_within (Within.ite answer_within answer_within))).le (by decide)
  · exact (Within.ite denied_within (Within.ite plicRead_within refuse_within)).le (by decide)
  · exact (Within.ite answer_within denied_within).le (by decide)
  · exact (Within.ite answer_within denied_within).le (by decide)
  · exact (Within.ite answer_within denied_within).le (by decide)
  · exact (Within.ite answer_within denied_within).le (by decide)
  · exact (Within.ite answer_within denied_within).le (by decide)
  · exact (Within.ite (free_within.trans answer_within) denied_within).le (by decide)
  · exact (Within.ite answer_within denied_within).le (by decide)
  · exact .rfl

theorem Chip.planeRefused_within {u : Chip} {req} {a} {l : List Nat} (ha : AddrIn a l) : Within ⟨frLog, some (l ++ [0x409])⟩ u
  (u.planeRefused req a) := by
  unfold Chip.planeRefused
  split
  · exact ((((put_within (ha.pageOf.field 0x24 (by rfl) (by rfl) (by decide))).trans refreshLines_within).trans raise_within).trans
      refuse_within).le (by simp +contextual [Scope.sub, Scope.union, Scope.covers, frLog])
  · exact (raise_within.trans refuse_within).le (by simp +contextual [Scope.sub, Scope.union, Scope.covers, frLog])

theorem Chip.ungate_within {u : Chip} {a} : Within ⟨[], some []⟩ u (u.ungate a) := by
  unfold Chip.ungate
  dsimp only
  exact (Within.ite (put_within (Fld.inBlocks_stat (by rfl) (by rfl) page0_mod)) Within.unchanged).le (by decide)

theorem Chip.lateWrite_within {u : Chip} {a} : Within ⟨[.pages], some []⟩ u (u.lateWrite a) := by
  unfold Chip.lateWrite
  dsimp only
  exact (pages_within.trans refuse_within).le (by decide)

theorem Chip.logicFault_within {u : Chip} {fcode} : Within ⟨frConf ++ [.weir], some blConf⟩ u (u.logicFault fcode) := by
  unfold Chip.logicFault
  exact (Within.ite captureCause_within confSafe_within).le (by decide)

theorem Chip.nonsafetyFault_within {u : Chip} {fcode} : Within ⟨frLog, some [0x407, 0x409]⟩ u (u.nonsafetyFault fcode) := by
  unfold Chip.nonsafetyFault
  exact ((satInc_within (Fld.inBlocks_self (by rfl))).trans faultEvent_within).le (by decide)

theorem Chip.pageFault_within {u : Chip} {pg} {k} : Within ⟨frConf ++ [.weir], some blConf⟩ u (u.pageFault pg k) := by
  unfold Chip.pageFault
  split
  · exact (Within.ite logicFault_within nonsafetyFault_within).le (by decide)
  · exact .rfl

theorem Chip.raiseInj_within {u : Chip} {src} {code} {data} : Within ⟨frLog, some [0x409]⟩ u (u.raiseInj src code data) := by
  unfold Chip.raiseInj
  exact stage_within.le (by decide)

theorem Chip.pageEvent_within {u : Chip} {inj} {pg} {code} {data} : Within ⟨frLog, some [0x409]⟩ u (u.pageEvent inj pg code data) := by
  unfold Chip.pageEvent
  exact (Within.ite raiseInj_within raise_within).le (by decide)

theorem Chip.regPar_within {u : Chip} {pg} {off} {inj} {l : List Nat} (hp : PageIn pg l) : Within ⟨frConf ++ [.weir], some (l ++ blConf)⟩ u
  (u.regPar pg off inj) := by
  unfold Chip.regPar
  exact ((((put_within (hp.field 0x24 (by rfl) (by rfl) (by decide))).trans refreshLines_within).trans pageEvent_within).trans
    pageFault_within).le (by simp +contextual [Scope.sub, Scope.union, Scope.covers, frLog, frConf, blConf])

theorem Chip.crcDrift_within {u : Chip} {pg} {inj} {l : List Nat} (hp : PageIn pg l) : Within ⟨frConf ++ [.weir], some (l ++ blConf)⟩ u
  (u.crcDrift pg inj) := by
  unfold Chip.crcDrift
  dsimp only
  exact (((((free_within.trans (put_within (Fld.inBlocks_stat (by rfl) (by rfl) page0_mod))).trans
    (put_within (hp.field 0x24 (by rfl) (by rfl) (by decide)))).trans refreshLines_within).trans pageEvent_within).trans
    pageFault_within).le (by simp +contextual [Scope.sub, Scope.union, Scope.covers, frLog, frConf, blConf])

theorem Chip.accessErr_within {u : Chip} {a} {l : List Nat} (ha : AddrIn a l) : Within ⟨[.plic], some l⟩ u (u.accessErr a) := by
  unfold Chip.accessErr
  exact (((put_within (ha.pageOf.field 0x24 (by rfl) (by rfl) (by decide))).trans refreshLines_within).trans
    refuse_within).le (by simp +contextual [Scope.sub, Scope.union, Scope.covers])

theorem Chip.inject_within {a : Nat} {l : List Nat} (ha : AddrIn a l) {S : Scope} {u : Chip} {k : Chip → Chip} (hk : ∀ t, Within S t (k t)) :
    Within (Scope.union ⟨frConf ++ [.weir], some (blConf ++ l)⟩ S) u (u.inject a k) := by
  have harm : ∀ v : Chip, Within ⟨frConf ++ [.weir], some (blConf ++ l)⟩ v (v.put (Reg.BLK_ERRINJ.ARM (page0 a)) 0) :=
    fun v => (put_within (ha.page0.field 0x28 rfl rfl (by decide))).le (by simp +contextual [Scope.sub, Scope.covers, blConf])
  have hdone : ∀ v : Chip, Within ⟨frConf ++ [.weir], some (blConf ++ l)⟩ v (v.put (Reg.BLK_ERR.INJ_DONE (pageOf a)) 1) :=
    fun v => (put_within (ha.pageOf.field 0x24 rfl rfl (by decide))).le (by simp +contextual [Scope.sub, Scope.covers, blConf])
  have herr : ∀ v : Chip, Within ⟨frConf ++ [.weir], some (blConf ++ l)⟩ v (v.accessErr a) :=
    fun v => (accessErr_within ha).le (by simp +contextual [Scope.sub, Scope.covers, frConf, frLog, blConf])
  have hpar : ∀ (v : Chip) (off : Nat), Within ⟨frConf ++ [.weir], some (blConf ++ l)⟩ v (v.regPar (pageOf a) off true) :=
    fun v off => (regPar_within ha.pageOf).le (by simp +contextual [Scope.sub, Scope.covers, frConf, frLog, blConf])
  have hcrc : ∀ v : Chip, Within ⟨frConf ++ [.weir], some (blConf ++ l)⟩ v (v.crcDrift (pageOf a) true) :=
    fun v => (crcDrift_within ha.pageOf).le (by simp +contextual [Scope.sub, Scope.covers, frConf, frLog, blConf])
  unfold Chip.inject
  dsimp only
  split
  · split
    · exact (((harm u).left.step (hk _).right).step (hdone _).left).step (hpar _ _).left
    · split
      · exact (((harm u).left.step (hk _).right).step (hdone _).left).step (hcrc _).left
      · split
        · exact (((harm u).step (hdone _)).step (herr _)).left
        · exact (harm u).left.step (hk _).right
  · exact (hk u).right

theorem Chip.access_within {a : Nat} {l : List Nat} (ha : AddrIn a l) {S : Scope} {u : Chip} {wr : Bool} {k : Chip → Chip} (hk : ∀ t, Within S t
  (k t)) :
    Within (Scope.union ⟨frConf ++ [.weir, .pages], some (blConf ++ l)⟩ S) u (u.access a wr k) := by
  have hlate : Within ⟨frConf ++ [.weir, .pages], some (blConf ++ l)⟩ u (u.lateWrite a) :=
    lateWrite_within.le (by simp [Scope.sub])
  have hungate : Within ⟨frConf ++ [.weir, .pages], some (blConf ++ l)⟩ u (u.ungate a) :=
    ungate_within.le (by simp [Scope.sub])
  unfold Chip.access
  split
  · exact (hk u).right
  · split
    · split
      · exact hlate.left
      · exact (answer_within.le (b := ⟨frConf ++ [.weir, .pages], some (blConf ++ l)⟩) rfl).left
    · exact hungate.left.step ((inject_within ha hk).le (by
        obtain ⟨sp, sb⟩ := S
        cases sb <;> simp +contextual [Scope.sub, Scope.union, Scope.covers, frConf, frLog, blConf]))

theorem Chip.access_withinOf (S : Scope) {a : Nat} {l : List Nat} (ha : AddrIn a l) {u : Chip} {wr : Bool} {k : Chip → Chip} (hk : ∀ t, Within S t
  (k t)) :
    Within (Scope.union ⟨frConf ++ [.weir, .pages], some (blConf ++ l)⟩ S) u (u.access a wr k) := access_within ha hk

theorem Chip.atPage_within {a : Nat} {l : List Nat} (ha : AddrIn a l) {S : Scope} {u : Chip} {req : Nat} {wr : Bool} {k : Chip → Chip}
    (hk : ∀ t, Within S t (k t)) :
    Within (Scope.union ⟨frConf ++ [.weir, .pages], some (blConf ++ [0x40A] ++ l)⟩ S) u (u.atPage req a wr k) := by
  have hunmapped : Within ⟨frConf ++ [.weir, .pages], some (blConf ++ [0x40A] ++ l)⟩ u (u.unmapped req a) :=
    unmapped_within.le (by simp [Scope.sub, Scope.covers, frConf, frLog, blConf])
  have hplane : Within ⟨frConf ++ [.weir, .pages], some (blConf ++ [0x40A] ++ l)⟩ u ((u.ungate a).planeRefused req a) :=
    (ungate_within.trans (planeRefused_within ha)).le (by simp +contextual [Scope.sub, Scope.union, Scope.covers, frConf, frLog, blConf])
  have hdenied : Within ⟨frConf ++ [.weir, .pages], some (blConf ++ [0x40A] ++ l)⟩ u (u.denied req ((fabricTarget req a).getD 15) a) :=
    denied_within.le (by simp [Scope.sub, Scope.covers, frConf, frLog, blConf])
  unfold Chip.atPage
  split
  · exact hunmapped.left
  · split
    · exact hplane.left
    · split
      · exact hdenied.left
      · exact (access_within ha hk).le (by
          obtain ⟨sp, sb⟩ := S
          cases sb <;> simp +contextual [Scope.sub, Scope.union, Scope.covers, frConf, frLog, blConf])

theorem Chip.atPage_withinOf (S : Scope) {a : Nat} {l : List Nat} (ha : AddrIn a l) {u : Chip} {req : Nat} {wr : Bool} {k : Chip → Chip}
    (hk : ∀ t, Within S t (k t)) :
    Within (Scope.union ⟨frConf ++ [.weir, .pages], some (blConf ++ [0x40A] ++ l)⟩ S) u (u.atPage req a wr k) := atPage_within ha hk

theorem Chip.brCounts_within {u : Chip} : Within ⟨[], some [0x420]⟩ u u.brCounts := by
  unfold Chip.brCounts
  exact ((put_within (Fld.inBlocks_self (by rfl))).trans (put_within (Fld.inBlocks_self (by rfl)))).le (by decide)

theorem Chip.modSlot_within {u : Chip} {n} {g} : Within ⟨[.br], some [0x420]⟩ u (u.modSlot n g) := by
  unfold Chip.modSlot
  dsimp only
  exact (br_within.trans brCounts_within).le (by decide)

theorem Chip.pfFree_within {u : Chip} {n} : Within ⟨[.br], some [0x420]⟩ u (u.pfFree n) := by
  unfold Chip.pfFree
  dsimp only
  exact ((Within.ite Within.unchanged (satInc_within (Reg.BR_PFDISC.COUNT_in))).trans modSlot_within).le (by decide)

theorem Chip.pfLeave_within {u : Chip} {req} {r} {addr} : Within ⟨[.br], some [0x420]⟩ u (u.pfLeave req r addr) := by
  unfold Chip.pfLeave
  exact (Within.foldl fun _ _ => pfFree_within).le (by decide)

theorem Chip.pfServe_within {u : Chip} {n} {addr} {len} : Within ⟨[.br], some [0x420]⟩ u (u.pfServe n addr len) := by
  unfold Chip.pfServe
  dsimp only
  exact (modSlot_within.trans answer_within).le (by decide)

theorem Chip.rdAnswer_within {u : Chip} {n} : Within ⟨[.br], some [0x420]⟩ u (u.rdAnswer n) := by
  unfold Chip.rdAnswer
  dsimp only
  split
  · exact (modSlot_within.trans answer_within).le (by decide)
  · exact (modSlot_within.trans refuse_within).le (by decide)
  · exact answer_within.le (by decide)

theorem Chip.brMiss_within {u : Chip} : Within ⟨[], some [0x420]⟩ u u.brMiss := by
  unfold Chip.brMiss
  exact (satInc_within (Fld.inBlocks_self (by rfl))).le (by decide)

theorem Chip.cvuSync_within {u : Chip} {i} : Within ⟨[], some [0x421]⟩ u (u.cvuSync i) := by
  unfold Chip.cvuSync
  dsimp only
  exact (put_within (Reg.CVU_RES.VAL_in)).le (by decide)

theorem Chip.cvuAbsorb_within {u : Chip} {i} {b} : Within ⟨[], some [0x421]⟩ u (u.cvuAbsorb i b) := by
  unfold Chip.cvuAbsorb
  dsimp only
  exact ((put_within (Reg.CVU_VAL.VAL_in)).trans cvuSync_within).le (by decide)

theorem Chip.cvuFrame_within {u : Chip} {i} {b} : Within ⟨[], some [0x421]⟩ u (u.cvuFrame i b) := by
  unfold Chip.cvuFrame
  exact ((put_within (Reg.CVU_VAL.VAL_in)).trans cvuAbsorb_within).le (by decide)

theorem Chip.cvuAppend_within {u : Chip} {i} {b} : Within ⟨[], some [0x421]⟩ u (u.cvuAppend i b).2 := by
  unfold Chip.cvuAppend
  dsimp only
  exact cvuFrame_within.le (by decide)

theorem Chip.brPush_within {u : Chip} {q} {f} : Within ⟨[.br], some [0x420]⟩ u (u.brPush q f) := by
  unfold Chip.brPush
  dsimp only
  exact (Within.ite (satInc_within (Fld.inBlocks_self (by rfl))) br_within).le (by decide)

theorem Chip.brSend_within {u : Chip} {g} {b} : Within ⟨[.br], some [0x420, 0x421]⟩ u (u.brSend g b) := by
  unfold Chip.brSend
  dsimp only
  split
  · exact brMiss_within.le (by decide)
  · refine .chain brPush_within (by decide) ?_
    split
    · exact cvuAppend_within.le (by decide)
    · exact .rfl

theorem Chip.rdAllocate_within {u : Chip} {req} {r} {g} {addr} {c} : Within ⟨[.br], some [0x420, 0x421]⟩ u (u.rdAllocate req r g addr c) := by
  unfold Chip.rdAllocate
  dsimp only
  split
  · exact answer_within.le (by decide)
  · exact (Within.ite answer_within ((modSlot_within.trans brSend_within).trans answer_within)).le (by decide)

theorem Chip.winRead_within {u : Chip} {req} {w} {off} {len} : Within ⟨[.br], some [0x420, 0x421]⟩ u (u.winRead req w off len) := by
  unfold Chip.winRead
  dsimp only
  split
  · exact refuse_within.le (by decide)
  · split
    · exact refuse_within.le (by decide)
    · split
      · split
        · exact (Within.ite (pfLeave_within.trans pfServe_within) (pfLeave_within.trans rdAnswer_within)).le (by decide)
        · exact (pfLeave_within.trans rdAllocate_within).le (by decide)
      · split
        · exact (pfLeave_within.trans rdAnswer_within).le (by decide)
        · exact (pfLeave_within.trans rdAllocate_within).le (by decide)

theorem Chip.timeLo_within {u : Chip} {req} : Within ⟨[.weir], some []⟩ u (u.timeLo req) := by
  unfold Chip.timeLo
  dsimp only
  exact ((modWeir_within (fun _ => by rfl)).trans answer_within).le (by decide)

theorem Chip.zstFree_within {u : Chip} : Within ⟨[.zst], some []⟩ u u.zstFree := by
  unfold Chip.zstFree
  dsimp only
  exact zst_within.le (by decide)

theorem Chip.rxHdr_within {u : Chip} {c} : Within ⟨[.zst], some []⟩ u (u.rxHdr c) := by
  unfold Chip.rxHdr
  dsimp only
  split
  · exact ((zst_within.trans zstFree_within).trans answer_within).le (by decide)
  · exact ((zst_within.trans zstFree_within).trans answer_within).le (by decide)

theorem Chip.rxDat_within {u : Chip} {c} : Within ⟨[.zst], some []⟩ u (u.rxDat c) := by
  unfold Chip.rxDat
  dsimp only
  exact (zst_within.trans answer_within).le (by decide)

theorem Chip.evrFetch_within {u : Chip} {i} : Within ⟨[.evr], some [0x445]⟩ u (u.evrFetch i) := by
  unfold Chip.evrFetch
  dsimp only
  exact (((evr_within.trans (put_within (Fld.inBlocks_self (by rfl)))).trans (put_within (Fld.inBlocks_self (by rfl)))).trans
    (put_within (Fld.inBlocks_self (by rfl)))).le (by decide)

theorem Chip.evrWinError_within {u : Chip} : Within ⟨[.plic], some [0x445]⟩ u u.evrWinError := by
  unfold Chip.evrWinError
  exact (((put_within (Fld.inBlocks_self (by rfl))).trans refreshLines_within).trans refuse_within).le (by decide)

theorem Chip.evrWin15_within {u : Chip} : Within ⟨[.plic, .evr], some [0x445]⟩ u u.evrWin15 := by
  unfold Chip.evrWin15
  exact (Within.ite (evrFetch_within.trans answer_within) evrWinError_within).le (by decide)

theorem Chip.readReg_within {u : Chip} {req} {a} : Within ⟨[.plic, .weir, .zst, .evr], some [0x445]⟩ u (u.readReg req a) := by
  unfold Chip.readReg
  split
  · exact .rfl
  · exact (Within.ite answer_within (Within.ite timeLo_within (Within.ite answer_within (Within.ite (Within.ite rxHdr_within answer_within)
      (Within.ite (Within.ite rxDat_within answer_within) (Within.ite answer_within (Within.ite evrWin15_within (Within.ite
      (Within.ite answer_within evrWinError_within) (Within.ite answer_within (Within.ite answer_within (Within.ite answer_within
      (Within.ite answer_within answer_within)))))))))))).le (by decide)

theorem Chip.busRead_within {u : Chip} {req} {a} {size} {l : List Nat} (ha : AddrIn a l) : Within ⟨frConf ++ [.pages, .weir, .zst, .br, .evr], some
  (l ++ blConf ++ [0x40A, 0x420, 0x421, 0x445])⟩ u (u.busRead req a size) := by
  unfold Chip.busRead
  split
  · exact readElse_within.le (by simp +contextual [Scope.sub, Scope.covers, frLog, frConf, blConf])
  · split
    · exact (atPage_within ha fun _ => winRead_within).le (by simp +contextual [Scope.sub, Scope.union, Scope.covers, frLog, frConf, blConf])
    · exact (Within.ite denied_within (Within.ite (ungate_within.trans
        (accessErr_within ha)) (access_within ha fun _ => readReg_within))).le
        (by simp +contextual [Scope.sub, Scope.union, Scope.covers, frLog, frConf, blConf])

theorem Chip.takeSample_within {u : Chip} {c} {t} {k} {s} : Within ⟨frConf ++ [.pages, .weir, .zst, .br, .evr], none⟩ u (u.takeSample c t k s).2 := by
  unfold Chip.takeSample
  dsimp only
  split
  · split
    · exact (busRead_within .self).le (by rfl)
    · exact (busRead_within .self).le (by rfl)
  · split
    · exact .rfl
    · exact .rfl
    · exact .rfl
    · exact .rfl
    · exact .rfl
    · exact free_within.le (by rfl)

theorem Chip.retireLead_within {u : Chip} {c} {t} {r} : Within ⟨frConf ++ [.pages, .chans, .weir, .zst, .br, .evr], none⟩ u (u.retireLead c t r) := by
  unfold Chip.retireLead
  dsimp only
  split
  · exact .rfl
  · split
    · exact (Within.ite mismatchNow_within (Within.ite Within.unchanged modTwin_within)).le (by rfl)
    · split
      · exact .rfl
      · split
        · exact leadStep_within.le (by rfl)
        · split
          · exact .rfl
          · split
            · exact (Within.ite mismatchNow_within (modTwin_within.trans leadStep_within)).le (by rfl)
            · exact (Within.ite Within.unchanged ((takeSample_within.trans modTwin_within).trans leadStep_within)).le (by rfl)

theorem execInstructionRetire_runs {c} {twin} {trail} {r} {s} : Runs ⟨frConf ++ [.pages, .chans, .weir, .zst, .br, .evr], none⟩ s
  (execInstructionRetire c twin trail r s) := by
  unfold execInstructionRetire
  dsimp only
  split
  · refine .become ?_
    exact .rfl
  · refine .become ?_
    split
    · refine .chain retireTrail_within (by rfl) ?_
      split
      · exact eccCorr_within.le (by rfl)
      · exact .rfl
    · refine .chain retireLead_within (by rfl) ?_
      split
      · exact eccCorr_within.le (by rfl)
      · exact .rfl

theorem execWindowCycleLimit_runs {c} {twin} {s} : Runs ⟨[.chans], some []⟩ s (execWindowCycleLimit c twin s) := by
  unfold execWindowCycleLimit
  dsimp only
  refine .become ?_
  exact (Within.ite modTwin_within Within.unchanged).le (by decide)

theorem execWindowCompare_runs {c} {twin} {same} {s} : Runs ⟨frConf ++ [.chans, .weir], some (blConf ++ [0x402])⟩ s
  (execWindowCompare c twin same s) := by
  unfold execWindowCompare
  refine .become ?_
  exact compareWindow_within.le (by decide)

theorem Chip.commitSram_within {u : Chip} {c : Nat} {e : SbEntry} : Within ⟨[.chans, .conf], some [0x403]⟩ u (u.commitSram c e) := by
  have hwrite : ∀ v : Chip, Within ⟨[.chans], some []⟩ v
      (v.modChan c (fun h => { h with sram := e.store h.sram, writeBack := h.writeBack.filter (fun a => a != e.addr / 4 * 4) })) :=
    fun v => modChan_sram_within fun h => e.store_wf (v.memoriesOk_chan h c)
  exact ((rsCatchUp_within.trans (hwrite _)).trans rsWrite_within).le (by decide)

theorem Chip.putStandby_within {u : Chip} {b} {bad} : Within ⟨[.lat], some []⟩ u (u.putStandby b bad) := by
  unfold Chip.putStandby
  dsimp only
  exact (Within.ite lat_within lat_within).le (by decide)

theorem Chip.standbyWrite_within {u : Chip} {req} {a} {b} : Within ⟨frLog ++ [.lat], some [0x409, 0x500]⟩ u (u.standbyWrite req a b) := by
  unfold Chip.standbyWrite
  dsimp only
  exact (Within.ite standbyRefused_within (Within.ite standbyAccess_within ((Within.ite (putStandby_within.trans
    (put_within (Fld.inBlocks_self (by rfl)))) putStandby_within).trans answer_within))).le (by decide)

theorem Chip.plicDone_within {u : Chip} {ctx} {id} : Within ⟨[.plic], some []⟩ u (u.plicDone ctx id) := by
  unfold Chip.plicDone
  dsimp only
  exact (Within.ite ((plic_within.trans plicGate_within).trans answer_within) answer_within).le (by decide)

theorem Chip.plicWrite_within {u : Chip} {off} {v} : Within ⟨[.plic], some []⟩ u (u.plicWrite off v) := by
  unfold Chip.plicWrite
  dsimp only
  exact (Within.ite ((Within.ite plic_within Within.unchanged).trans answer_within) (Within.ite (plic_within.trans
    answer_within) (Within.ite (plic_within.trans answer_within) (Within.ite plicDone_within answer_within)))).le (by decide)

theorem Chip.writeElse_within {u : Chip} {req a size v : Nat} :
    Within ⟨frLog ++ [.chans, .conf, .lat, .msram, .ddr], none⟩ u (u.writeElse req a size v) := by
  have hdenied : ∀ t : Nat, Within ⟨frLog ++ [.chans, .conf, .lat, .msram, .ddr], none⟩ u (u.denied req t a) := fun t => denied_within.le (by decide)
  unfold Chip.writeElse
  split
  · exact unmapped_within.le (by decide)
  · split
    · exact standbyWrite_within.le (by decide)
    · split
      · exact answer_within.le (by decide)
      · exact (planeRefused_within .self).le (by rfl)
  · split
    · exact hdenied _
    · split
      · exact plicWrite_within.le (by decide)
      · exact refuse_within.le (by decide)
  · split
    · exact ((msram_within fun h => memWriteBytes_wf _ _ _ h).trans answer_within).le (by decide)
    · exact hdenied _
  · split
    · exact (sramWrite_within.trans answer_within).le (by decide)
    · exact hdenied _
  · split
    · exact ((ddr_within fun h => memWriteBytes_wf _ _ _ h).trans answer_within).le (by decide)
    · exact hdenied _
  · exact hdenied _

theorem Chip.pfDiscard_within {u : Chip} {r} {addr} : Within ⟨[.br], some [0x420]⟩ u (u.pfDiscard r addr) := by
  unfold Chip.pfDiscard
  exact (Within.foldl fun _ _ => (satInc_within (Reg.BR_PFDISC.COUNT_in)).trans modSlot_within).le (by decide)

theorem Chip.winWrite_within {u : Chip} {req} {w} {off} {b} : Within ⟨[.br], some [0x420, 0x421]⟩ u (u.winWrite req w off b) := by
  unfold Chip.winWrite
  dsimp only
  split
  · exact refuse_within.le (by decide)
  · split
    · exact refuse_within.le (by decide)
    · split
      · exact refuse_within.le (by decide)
      · split
        · exact answer_within.le (by decide)
        · exact ((((pfDiscard_within.trans brSend_within).trans br_within).trans brCounts_within).trans answer_within).le (by decide)

theorem Chip.toutIdle_within {u : Chip} : Within ⟨[.sin], some [0x404]⟩ u u.toutIdle := by
  unfold Chip.toutIdle
  dsimp only
  exact (sin_within.trans (put_within (Fld.inBlocks_self (by rfl)))).le (by decide)

theorem Chip.sinRestart_within {u : Chip} : Within ⟨[.sin], some [0x404]⟩ u u.sinRestart := by
  unfold Chip.sinRestart
  dsimp only
  exact ((((Within.foldUpTo fun _ _ => ((put_within (Reg.SIN_ST.FILT_in)).trans (put_within (Reg.SIN_ST.DISC_in))).trans
    (put_within (Reg.SIN_ST.RAW_in))).trans (put_within (Fld.inBlocks_self (by rfl)))).trans sin_within).trans toutIdle_within).le (by decide)

theorem Chip.sluiceOff_within {u : Chip} : Within ⟨[.weir, .sout], some [0x405, 0x500]⟩ u u.sluiceOff := by
  unfold Chip.sluiceOff
  exact (Within.foldl fun _ _ => outEnter_within.trans (put_within (Reg.SOUT_ST.CAUSE_in))).le (by decide)

theorem Chip.sluiceReset_within {u : Chip} : Within ⟨[.sout], some [0x405]⟩ u u.sluiceReset := by
  have hfields : Within ⟨[.sout], some [0x405]⟩ u (((u.put Reg.SOUT_DHS.VAL 0).put Reg.SOUT_DLS.VAL 0).put Reg.SOUT_LOCK.GRP 0) :=
    (((put_within (Fld.inBlocks_self (by rfl))).trans (put_within (Fld.inBlocks_self (by rfl)))).trans
      (put_within (Fld.inBlocks_self (by rfl)))).le (by decide)
  exact hfields.step (sout_within.le (by decide))

theorem Chip.evrEnter_within {u : Chip} {e} : Within ⟨frLog ++ [.evr], some [0x409, 0x445]⟩ u (u.evrEnter e) := by
  unfold Chip.evrEnter
  dsimp only
  exact (Within.ite (evrPlace_within.trans evrLift_within) evrPlace_within).le (by decide)

theorem Chip.evrOwn_within {u : Chip} {code} {data} : Within ⟨frLog ++ [.evr], some [0x409, 0x445]⟩ u (u.evrOwn code data) := by
  unfold Chip.evrOwn
  exact evrEnter_within.le (by decide)

theorem Chip.evrUpdateSource_within {u : Chip} : Within ⟨frLog ++ [.evr], some [0x409, 0x445]⟩ u u.evrUpdateSource := by
  unfold Chip.evrUpdateSource
  dsimp only
  exact (Within.ite Within.unchanged ((put_within (Fld.inBlocks_self (by rfl))).trans evrOwn_within)).le (by decide)

theorem Chip.evrUnlocked_within {u : Chip} : Within ⟨frLog ++ [.evr], some [0x409, 0x445]⟩ u u.evrUnlocked := by
  unfold Chip.evrUnlocked
  dsimp only
  exact (evr_within.trans evrUpdateSource_within).le (by decide)

theorem Chip.statusReset_within {u : Chip} {p} : Within ⟨[], none⟩ u (u.statusReset p) := by
  unfold Chip.statusReset
  exact regs_within.le (by rfl)

theorem Chip.modTarget_within {u : Chip} {t} {g} : Within ⟨[.fab], some []⟩ u (u.modTarget t g) := by
  unfold Chip.modTarget
  dsimp only
  exact fab_within.le (by decide)

theorem Chip.fabricRewind_within {u : Chip} : Within ⟨[.fab], some []⟩ u u.fabricRewind := by
  unfold Chip.fabricRewind
  dsimp only
  exact (Within.foldUpTo fun _ _ => modTarget_within).le (by decide)

theorem Chip.percHeld_within {u : Chip} {e} : Within ⟨[.perc], some [0x40B, 0x446]⟩ u (u.percHeld e) := by
  unfold Chip.percHeld
  dsimp only
  exact (((((((modPerc_within.trans (put_within (percPage_in.field 0x44 (by rfl) (by rfl) (by decide)))).trans
    (put_within (percPage_in.field 0x44 (by rfl) (by rfl) (by decide)))).trans
    (put_within (percPage_in.field 0x44 (by rfl) (by rfl) (by decide)))).trans
    (put_within (percPage_in.field 0x44 (by rfl) (by rfl) (by decide)))).trans
    (put_within (percPage_in.field 0x44 (by rfl) (by rfl) (by decide)))).trans
    (put_within (percPage_in.field 0x104 (by rfl) (by rfl) (by decide)))).trans
    (put_within (percPage_in.field 0x100 (by rfl) (by rfl) (by decide)))).le (by decide)

theorem Chip.sliceOver_within {u : Chip} {e} {g} : Within ⟨[.chans, .evr, .perc], some [0x40B, 0x446]⟩ u (u.sliceOver e g) := by
  unfold Chip.sliceOver
  dsimp only
  exact (Within.ite ((Within.ite (modPerc_within.trans (put_within (percPage_in.field 0x44 (by rfl) (by rfl) (by decide)))) modPerc_within).trans
    (modChan_within (fun _ => by rfl))) (Within.ite ((Within.ite (modPerc_within.trans
    (put_within (percPage_in.field 0x44 (by rfl) (by rfl) (by decide)))) modPerc_within).trans evr_within) (Within.ite (modPerc_within.trans
    (put_within (percPage_in.field 0x44 (by rfl) (by rfl) (by decide)))) modPerc_within))).le (by decide)

theorem Chip.percSoftReset_within {u : Chip} {e} : Within ⟨[.chans, .evr, .perc], some [0x40B, 0x446]⟩ u (u.percSoftReset e) := by
  unfold Chip.percSoftReset
  exact ((Within.foldl fun _ _ => sliceOver_within).trans percHeld_within).le (by decide)

theorem Chip.latHold_within {u : Chip} : Within ⟨[.lat], some [0x500]⟩ u u.latHold := by
  unfold Chip.latHold
  dsimp only
  exact (((lat_within.trans (put_within (Fld.inBlocks_self (by rfl)))).trans (put_within (Fld.inBlocks_self (by rfl)))).trans
    (put_within (Fld.inBlocks_self (by rfl)))).le (by decide)

theorem Chip.readFail_within {u : Chip} {n} {reason} : Within ⟨frLog ++ [.br], some [0x409, 0x420]⟩ u (u.readFail n reason) := by
  unfold Chip.readFail
  dsimp only
  exact (modSlot_within.trans (irqAfter_within (.self (by rfl)))).le (by decide)

theorem Chip.orphan_within {u : Chip} {n} : Within ⟨frLog ++ [.br], some [0x409, 0x420]⟩ u (u.orphan n) := by
  unfold Chip.orphan
  dsimp only
  exact (((((((((Within.ite (satInc_within (Fld.inBlocks_self (by rfl))) Within.unchanged).trans (put_within (Fld.inBlocks_self (by rfl)))).trans
    (put_within (Fld.inBlocks_self (by rfl)))).trans (put_within (Fld.inBlocks_self (by rfl)))).trans (put_within (Fld.inBlocks_self (by rfl)))).trans
    (put_within (Fld.inBlocks_self (by rfl)))).trans (put_within (Fld.inBlocks_self (by rfl)))).trans modSlot_within).trans
    (irqAfter_within (.self (by rfl)))).le (by decide)

theorem Chip.writeFail_within {u : Chip} {x} {reason} : Within ⟨frLog ++ [.br], some [0x409, 0x420]⟩ u (u.writeFail x reason) := by
  unfold Chip.writeFail
  dsimp only
  exact ((br_within.trans brCounts_within).trans (irqAfter_within (.self (by rfl)))).le (by decide)

theorem Chip.brSoftReset_within {u : Chip} : Within ⟨frLog ++ [.br], some [0x409, 0x420]⟩ u u.brSoftReset := by
  unfold Chip.brSoftReset
  dsimp only
  exact ((((Within.foldUpToOf ⟨frLog ++ [.br], some [0x409, 0x420]⟩ fun t x => by
  split
  · exact .rfl
  · exact (readFail_within.trans modSlot_within).le (by decide)
  · exact (Within.ite modSlot_within orphan_within).le (by decide)
  · exact modSlot_within.le (by decide)
)).trans (Within.foldl fun _ _ => writeFail_within)).trans br_within).le (by decide)

theorem Chip.evrReset_within {u : Chip} : Within ⟨[.evr], some [0x445]⟩ u u.evrReset := by
  unfold Chip.evrReset
  dsimp only
  exact (Within.ite (evr_within.trans (put_within (Fld.inBlocks_self (by rfl)))) Within.unchanged).le (by decide)

theorem Chip.pwrSoftReset_within {u : Chip} : Within ⟨[.weir, .pwr], some [0x447]⟩ u u.pwrSoftReset := by
  unfold Chip.pwrSoftReset
  dsimp only
  exact (((((pwrRestart_within.trans pwr_within).trans (put_within (Fld.inBlocks_self (by rfl)))).trans
    (put_within (Fld.inBlocks_self (by rfl)))).trans (put_within (Fld.inBlocks_self (by rfl)))).trans
    (put_within (Fld.inBlocks_self (by rfl)))).le (by decide)

theorem Chip.modPt_within {u : Chip} {p} {g} : Within ⟨[.ports], some []⟩ u (u.modPt p g) := by
  unfold Chip.modPt
  exact ports_within.le (by decide)

theorem Chip.machinesReset_within {u : Chip} {p} : Within ⟨frLog ++ [.fab, .chans, .weir, .lat, .gate, .sin, .sout, .zst, .svc, .ports, .br, .evr,
  .perc, .pwr], none⟩ u (u.machinesReset p) := by
  unfold Chip.machinesReset
  dsimp only
  exact (Within.ite Within.unchanged (Within.ite sinRestart_within (Within.ite (sluiceReset_within.trans
    sluiceOff_within) (Within.ite ((statusReset_within.trans evrUnlocked_within).trans
    zst_within) (Within.ite gate_within (Within.ite ((intake_within.trans countStaged_within).trans
    (put_within (Fld.inBlocks_self (by rfl)))) (Within.ite fabricRewind_within (Within.ite percSoftReset_within (Within.ite (latHold_within.trans
    signalEnables_within) (Within.ite brSoftReset_within (Within.ite (Within.ite evrReset_within Within.unchanged) (Within.ite percSoftReset_within
    (Within.ite pwrSoftReset_within (Within.ite modPt_within (Within.ite (modPt_within.trans
    modPt_within) (Within.ite svc_within (Within.ite modPt_within Within.unchanged))))))))))))))))).le (by rfl)

theorem Chip.softReset_within {u : Chip} {p} : Within ⟨frLog ++ [.fab, .pages, .chans, .weir, .lat, .gate, .sin, .sout, .zst, .svc, .ports, .br, .evr,
  .perc, .pwr], none⟩ u (u.softReset p) := by
  unfold Chip.softReset
  dsimp only
  refine .chain (((pages_within.trans put_any_within).trans put_any_within).trans refreshLines_within) (by rfl) ?_
  split
  · exact ((Within.ite ((machinesReset_within.trans regs_within).trans cvuSync_within) (machinesReset_within.trans regs_within)).trans
      modTarget_within).le (by rfl)
  · exact (Within.ite ((machinesReset_within.trans regs_within).trans cvuSync_within) (machinesReset_within.trans regs_within)).le (by rfl)

theorem Chip.softResetWrite_within {u : Chip} {a} : Within ⟨frLog ++ [.fab, .pages, .chans, .weir, .lat, .gate, .sin, .sout, .zst, .svc, .ports, .br,
  .evr, .perc, .pwr], none⟩ u (u.softResetWrite a) := by
  unfold Chip.softResetWrite
  split
  · exact (softReset_within.trans answer_within).le (by rfl)
  · exact .rfl

theorem Chip.lockViol_within {u : Chip} {a} {l : List Nat} (ha : AddrIn a l) : Within ⟨[.plic], some l⟩ u (u.lockViol a) := by
  unfold Chip.lockViol
  exact (((put_within (ha.pageOf.field 0x24 (by rfl) (by rfl) (by decide))).trans refreshLines_within).trans
    refuse_within).le (by simp +contextual [Scope.sub, Scope.union, Scope.covers])

theorem Chip.pendClear_within {u : Chip} {pg} {v} {l : List Nat} (hp : PageIn pg l) : Within ⟨[], some l⟩ u (u.pendClear pg v) := by
  unfold Chip.pendClear
  exact ((Within.foldUpTo fun _ _ => (Within.ite (clearBit_within (hp.field 0x10 (by rfl) (by rfl) (by decide))) Within.unchanged)).trans
    answer_within).le (by simp +contextual [Scope.sub, Scope.union, Scope.covers])

theorem Chip.putPiece_within {u : Chip} {p} {v} : Within ⟨[], none⟩ u (u.putPiece p v) := by
  unfold Chip.putPiece
  dsimp only
  exact put_any_within.le (by rfl)

theorem Chip.writePiece_within {u : Chip} {rwl} {v} {p} : Within ⟨[], none⟩ u (u.writePiece rwl v p) := by
  unfold Chip.writePiece
  dsimp only
  split
  · exact .rfl
  · exact .rfl
  · exact putPiece_within.le (by rfl)
  · exact (Within.ite putPiece_within Within.unchanged).le (by rfl)
  · exact putPiece_within.le (by rfl)
  · exact putPiece_within.le (by rfl)

theorem Chip.writePlain_within {u : Chip} {req} {a} {v} {l : List Nat} (ha : AddrIn a l) : Within ⟨[.plic], none⟩ u (u.writePlain req a v) := by
  unfold Chip.writePlain
  dsimp only
  exact (Within.ite ((Within.foldl fun _ _ => writePiece_within).trans (lockViol_within ha)) (((Within.foldl fun _ _ => writePiece_within).trans
    refreshLines_within).trans answer_within)).le (by simp +contextual [Scope.sub, Scope.union])

theorem Chip.writePwr_within {u : Chip} {req} {a} {v} {l : List Nat} (ha : AddrIn a l) : Within ⟨[.plic], none⟩ u (u.writePwr req a v) := by
  unfold Chip.writePwr
  dsimp only
  exact (Within.ite answer_within (Within.ite (writePlain_within ha) (writePlain_within ha))).le (by simp +contextual [Scope.sub, Scope.union])

theorem Chip.lockTimer_within {u : Chip} {pg} {due} : Within ⟨[.pages], some []⟩ u (u.lockTimer pg due) := by
  unfold Chip.lockTimer
  dsimp only
  exact pages_within.le (by decide)

theorem Chip.lockIdle_within {u : Chip} {pg} {l : List Nat} (hp : PageIn pg l) : Within ⟨[.pages], some l⟩ u (u.lockIdle pg) := by
  unfold Chip.lockIdle
  exact ((((put_within (hp.field 0x20 (by rfl) (by rfl) (by decide))).trans (put_within (hp.field 0x20 (by rfl) (by rfl) (by decide)))).trans
    (put_within (hp.field 0x20 (by rfl) (by rfl) (by decide)))).trans
    lockTimer_within).le (by simp +contextual [Scope.sub, Scope.union, Scope.covers])

theorem Chip.lockClose_within {u : Chip} {pg} {l : List Nat} (hp : PageIn pg l) : Within ⟨frLog ++ [.pages], some (l ++ [0x409])⟩ u
  (u.lockClose pg) := by
  unfold Chip.lockClose
  dsimp only
  exact (((put_within (hp.field 0x2C (by rfl) (by rfl) (by decide))).trans (lockIdle_within hp)).trans
    raise_within).le (by simp +contextual [Scope.sub, Scope.union, Scope.covers, frLog])

theorem Chip.lockOpens_within {u : Chip} {pg} {req} {l : List Nat} (hp : PageIn pg l) : Within ⟨[.pages], some l⟩ u (u.lockOpens pg req) := by
  unfold Chip.lockOpens
  exact (((((put_within (hp.field 0x2C (by rfl) (by rfl) (by decide))).trans (put_within (hp.field 0x20 (by rfl) (by rfl) (by decide)))).trans
    (put_within (hp.field 0x20 (by rfl) (by rfl) (by decide)))).trans (put_within (hp.field 0x20 (by rfl) (by rfl) (by decide)))).trans
    lockTimer_within).le (by simp +contextual [Scope.sub, Scope.union, Scope.covers])

theorem Chip.lockWrite_within {u : Chip} {req} {pg} {key} {l : List Nat} (hp : PageIn pg l) : Within ⟨frLog ++ [.pages], some (l ++ [0x409])⟩ u
  (u.lockWrite req pg key) := by
  unfold Chip.lockWrite
  exact (Within.ite (lockClose_within hp) (Within.ite (Within.ite (lockOpens_within hp) (lockIdle_within hp)) (Within.ite (((put_within (hp.field 0x20
    (by rfl) (by rfl) (by decide))).trans (put_within (hp.field 0x20 (by rfl) (by rfl) (by decide)))).trans
    lockTimer_within) Within.unchanged))).le (by simp +contextual [Scope.sub, Scope.union, Scope.covers, frLog])

theorem Chip.errInj_within {u : Chip} {pg v : Nat} {l : List Nat} (ha : AddrIn pg l) : Within ⟨[], some l⟩ u (u.errInj pg v) :=
  ((put_within (ha.page0.field 0x28 rfl rfl (by decide))).trans (put_within (ha.page0.field 0x28 rfl rfl (by decide)))).le
    (by simp +contextual [Scope.sub, Scope.union, Scope.covers])

theorem Chip.writeHeader_within {u : Chip} {req} {a} {v} {l : List Nat}
  (ha : AddrIn a l) : Within ⟨frLog ++ [.fab, .pages, .chans, .weir, .lat, .gate, .sin, .sout, .zst, .svc, .ports, .br, .evr, .perc, .pwr], none⟩ u
  (u.writeHeader req a v) := by
  unfold Chip.writeHeader
  dsimp only
  exact (Within.ite (Within.ite (((Within.ite softResetWrite_within Within.unchanged).trans
    (put_within (ha.page0.field 0x8 (by rfl) (by rfl) (by decide)))).trans answer_within) ((Within.ite softResetWrite_within Within.unchanged).trans
    (lockViol_within ha))) (Within.ite (pendClear_within ha.page0) (Within.ite (writePwr_within ha) (Within.ite ((lockWrite_within ha.pageOf).trans
    answer_within) (Within.ite (Within.ite ((errInj_within ha).trans
    answer_within) (planeRefused_within ha)) (writePlain_within ha)))))).le (by simp +contextual [Scope.sub, Scope.union, frLog])

theorem Chip.sbCommand_within {u : Chip} {ok} {st} : Within ⟨[], some [0x500]⟩ u (u.sbCommand ok st) := by
  unfold Chip.sbCommand
  exact (Within.ite ((put_within (Fld.inBlocks_self (by rfl))).trans
    (put_within (Fld.inBlocks_self (by rfl)))) (put_within (Fld.inBlocks_self (by rfl)))).le (by decide)

theorem Chip.sbLoadBegin_within {u : Chip} : Within ⟨[], some [0x500]⟩ u u.sbLoadBegin := by
  unfold Chip.sbLoadBegin
  exact sbCommand_within.le (by decide)

theorem Chip.sbDone_within {u : Chip} {cmd} : Within ⟨frLog, some [0x409, 0x500]⟩ u (u.sbDone cmd) := by
  unfold Chip.sbDone
  exact ((irq_within (.self (by rfl))).trans raiseAfter_within).le (by decide)

theorem Chip.sbLoadEnd_within {u : Chip} : Within ⟨frLog, some [0x409, 0x500]⟩ u u.sbLoadEnd := by
  unfold Chip.sbLoadEnd
  exact (Within.ite (sbCommand_within.trans sbDone_within) sbCommand_within).le (by decide)

theorem Chip.sbCopy_within {u : Chip} : Within ⟨[.lat], some [0x500]⟩ u u.sbCopy := by
  unfold Chip.sbCopy
  dsimp only
  exact (Within.ite (lat_within.trans sbCommand_within) sbCommand_within).le (by decide)

theorem Chip.sbVerify_within {u : Chip} : Within ⟨[], some [0x500]⟩ u u.sbVerify := by
  unfold Chip.sbVerify
  exact sbCommand_within.le (by decide)

theorem Chip.sbWrite_within {u : Chip} {cmd} : Within ⟨frLog ++ [.lat], some [0x409, 0x500]⟩ u (u.sbWrite cmd) := by
  unfold Chip.sbWrite
  exact (Within.ite sbLoadBegin_within (Within.ite sbLoadEnd_within (Within.ite sbCopy_within (Within.ite sbVerify_within (put_within
    (Fld.inBlocks_self (by rfl))))))).le (by decide)

theorem Chip.swapArm_within {u : Chip} {arm} : Within ⟨frLog, some [0x409, 0x500]⟩ u (u.swapArm arm) := by
  unfold Chip.swapArm
  dsimp only
  exact (Within.ite (put_within (Fld.inBlocks_self (by rfl))) (Within.ite swapRefuse_within (Within.ite swapRefuse_within
    (Within.ite swapRefuse_within (put_within (Fld.inBlocks_self (by rfl))))))).le (by decide)

theorem Chip.stoffLo_within {u : Chip} {req} {v} : Within ⟨frLog ++ [.weir], some [0x409, 0x500]⟩ u (u.stoffLo req v) := by
  unfold Chip.stoffLo
  exact (Within.ite (planeRefused_within (.self)) (Within.ite answer_within ((modWeir_within (fun _ => by rfl)).trans answer_within))).le (by decide)

theorem Chip.stoffHi_within {u : Chip} {req} {v} : Within ⟨frLog ++ [.weir], some [0x409, 0x500]⟩ u (u.stoffHi req v) := by
  unfold Chip.stoffHi
  split
  · exact (planeRefused_within (.self)).le (by decide)
  · split
    · exact (Within.ite answer_within ((((put_within (Fld.inBlocks_self (by rfl))).trans (put_within (Fld.inBlocks_self (by rfl)))).trans
        (modWeir_within (fun _ => by rfl))).trans answer_within)).le (by decide)
    · exact answer_within.le (by decide)

theorem Chip.weirWrite_within {u : Chip} {req} {a} {v} {l : List Nat} (ha : AddrIn a l) : Within ⟨frLog ++ [.weir, .lat], none⟩ u
  (u.weirWrite req a v) := by
  unfold Chip.weirWrite
  exact (Within.ite (sbWrite_within.trans answer_within) (Within.ite (Within.ite (swapArm_within.trans
    answer_within) (lockViol_within ha)) (Within.ite (Within.ite stoffLo_within (lockViol_within ha)) (Within.ite (Within.ite stoffHi_within
    (lockViol_within ha)) (writePlain_within ha))))).le (by simp +contextual [Scope.sub, Scope.union, frLog])

theorem Chip.cfPut_within {u : Chip} {c} {s} : Within ⟨frConf ++ [.chans, .weir], some (blConf ++ [0x402])⟩ u (u.cfPut c s) := by
  unfold Chip.cfPut
  exact (cfStore_within.trans cfResume_within).le (by decide)

theorem Chip.asmRaise_within {u : Chip} {req} : Within ⟨frLog, some [0x409]⟩ u (u.asmRaise req) := by
  unfold Chip.asmRaise
  dsimp only
  exact (Within.ite (stage_within.trans answer_within) (planeRefused_within (.self))).le (by decide)

theorem Chip.asmWrite_within {u : Chip} {req} {k} {v} : Within ⟨frLog, none⟩ u (u.asmWrite req k v) := by
  unfold Chip.asmWrite
  dsimp only
  exact (Within.ite (intake_within.trans answer_within) (planeRefused_within .self)).le (by rfl)

theorem Chip.clkCtl_within {u : Chip} {v} : Within ⟨[], some [0x401]⟩ u (u.clkCtl v) := by
  unfold Chip.clkCtl
  dsimp only
  exact (Within.ite (((put_within (Fld.inBlocks_self (by rfl))).trans (put_within (Fld.inBlocks_self (by rfl)))).trans
    refuse_within) (((((put_within (Fld.inBlocks_self (by rfl))).trans (put_within (Fld.inBlocks_self (by rfl)))).trans
    (put_within (Fld.inBlocks_self (by rfl)))).trans (put_within (Fld.inBlocks_self (by rfl)))).trans answer_within)).le (by decide)

theorem Chip.sinUnlockWrite_within {u : Chip} {req} {mask} {tag} : Within ⟨frLog ++ [.sin], some [0x404, 0x409]⟩ u
  (u.sinUnlockWrite req mask tag) := by
  unfold Chip.sinUnlockWrite
  dsimp only
  exact (Within.ite (((put_within (Fld.inBlocks_self (by rfl))).trans sin_within).trans answer_within) (planeRefused_within (.self))).le (by decide)

theorem Chip.soutUnlockWrite_within {u : Chip} {req} {mask} {tag} : Within ⟨frLog ++ [.sout], some [0x405, 0x409]⟩ u
  (u.soutUnlockWrite req mask tag) := by
  unfold Chip.soutUnlockWrite
  dsimp only
  exact (Within.ite ((sout_within.trans (put_within (Fld.inBlocks_self (by rfl)))).trans answer_within) (planeRefused_within (.self))).le (by decide)

theorem Chip.claimWrite_within {u : Chip} {v} : Within ⟨[.zst, .ret], some []⟩ u (u.claimWrite v) := by
  have hclaim : Within ⟨[.zst, .ret], some []⟩ u { u with zst := { u.zst with claim := some v } } := zst_within.le (by decide)
  unfold Chip.claimWrite
  dsimp only
  split
  · exact .chain ret_within (by decide) hclaim
  · exact hclaim

theorem Chip.fuseStart_within {u : Chip} {e} {m} {sp} {tag} : Within ⟨frLog ++ [.perc], some [0x409, 0x40B, 0x446]⟩ u (u.fuseStart e m sp tag) := by
  unfold Chip.fuseStart
  dsimp only
  exact (Within.ite (((put_within (percPage_in.field 0x104 (by rfl) (by rfl) (by decide))).trans
    (put_within (percPage_in.field 0x100 (by rfl) (by rfl) (by decide)))).trans raiseAfter_within) (((modPerc_within.trans
    (put_within (percPage_in.field 0x104 (by rfl) (by rfl) (by decide)))).trans
    (put_within (percPage_in.field 0x100 (by rfl) (by rfl) (by decide)))).trans
    (put_within (percPage_in.field 0x104 (by rfl) (by rfl) (by decide))))).le (by decide)

theorem Chip.fuseWrite_within {u : Chip} {e} {v} {tag} : Within ⟨frLog ++ [.perc], some [0x409, 0x40B, 0x446]⟩ u (u.fuseWrite e v tag) := by
  unfold Chip.fuseWrite
  dsimp only
  exact (Within.ite ((((put_within (percPage_in.field 0x100 (by rfl) (by rfl) (by decide))).trans
    (put_within (percPage_in.field 0x100 (by rfl) (by rfl) (by decide)))).trans
    (put_within (percPage_in.field 0x100 (by rfl) (by rfl) (by decide)))).trans
    fuseStart_within) (((put_within (percPage_in.field 0x100 (by rfl) (by rfl) (by decide))).trans
    (put_within (percPage_in.field 0x100 (by rfl) (by rfl) (by decide)))).trans
    (put_within (percPage_in.field 0x100 (by rfl) (by rfl) (by decide))))).le (by decide)

theorem Chip.controlWrite_within {u : Chip} {req} {a} {v} {l : List Nat}
  (ha : AddrIn a l) : Within ⟨frConf ++ [.chans, .weir, .sin, .zst, .perc, .ret], none⟩ u (u.controlWrite req a v) := by
  unfold Chip.controlWrite
  split
  · exact (cfPut_within.trans answer_within).le (by simp +contextual [Scope.sub, Scope.union, Scope.covers, frLog, frConf, blConf])
  · split
    · exact (Within.ite asmRaise_within asmWrite_within).le (by simp +contextual [Scope.sub, Scope.union, frLog, frConf])
    · split
      · exact (Within.ite clkCtl_within (lockViol_within ha)).le (by simp +contextual [Scope.sub, Scope.union, Scope.covers, frLog, frConf])
      · split
        · exact sinUnlockWrite_within.le (by simp +contextual [Scope.sub, Scope.covers, frLog, frConf])
        · split
          · exact sinUnlockWrite_within.le (by simp +contextual [Scope.sub, Scope.covers, frLog, frConf])
          · split
            · exact soutUnlockWrite_within.le (by simp +contextual [Scope.sub, Scope.covers, frLog, frConf])
            · split
              · exact (Within.ite (claimWrite_within.trans
                  answer_within) (lockViol_within ha)).le (by simp +contextual [Scope.sub, Scope.union, Scope.covers, frLog, frConf])
              · split
                · exact (Within.ite (fuseWrite_within.trans
                    answer_within) (lockViol_within ha)).le (by simp +contextual [Scope.sub, Scope.union, Scope.covers, frLog, frConf])
                · exact (writePlain_within ha).le (by simp +contextual [Scope.sub, frLog, frConf])

theorem Chip.tblW3_within {u : Chip} {v} : Within ⟨[.br], some [0x420]⟩ u (u.tblW3 v) := by
  unfold Chip.tblW3
  dsimp only
  exact (((put_within (Fld.inBlocks_self (by rfl))).trans br_within).trans (wrapInc_within (Fld.inBlocks_self (by rfl)))).le (by decide)

theorem Chip.cvuOwned_within {u : Chip} : Within ⟨[], some [0x421]⟩ u u.cvuOwned := by
  unfold Chip.cvuOwned
  dsimp only
  exact (Within.foldUpTo fun _ _ => (put_within (Reg.CVU_STAT.OWNED_in))).le (by decide)

theorem Chip.tableCommit_within {u : Chip} {n} : Within ⟨frLog, some [0x409, 0x420, 0x421]⟩ u (u.tableCommit n) := by
  unfold Chip.tableCommit
  dsimp only
  split
  · exact (((put_within (Fld.inBlocks_self (by rfl))).trans (irqRaise_within (.self (by rfl)))).trans answer_within).le (by decide)
  · exact (((((((put_within (Fld.inBlocks_self (by rfl))).trans (put_within (Fld.inBlocks_self (by rfl)))).trans
      (put_within (Fld.inBlocks_self (by rfl)))).trans (put_within (Fld.inBlocks_self (by rfl)))).trans cvuOwned_within).trans
      (irqRaise_within (.self (by rfl)))).trans answer_within).le (by decide)

theorem Chip.regionCommit_within {u : Chip} : Within ⟨frLog ++ [.br], some [0x409, 0x420, 0x421]⟩ u u.regionCommit := by
  generalize hdef : @Chip.regionCommit = f
  delta Chip.regionCommit at hdef
  generalize @Chip.brRegionsBad = bad at hdef
  subst hdef
  beta_reduce
  extract_lets -underBinder l
  split
  · exact ((((put_within (Fld.inBlocks_self (by rfl))).trans (put_within (Fld.inBlocks_self (by rfl)))).trans
      (irqRaise_within (.self (by rfl)))).trans
      answer_within).le (by decide)
  · exact ((((br_within.trans (put_within (Fld.inBlocks_self (by rfl)))).trans (put_within (Fld.inBlocks_self (by rfl)))).trans cvuOwned_within).trans
      answer_within).le (by decide)

theorem Chip.evrIgnore_within {u : Chip} : Within ⟨[], some [0x445]⟩ u u.evrIgnore := by
  unfold Chip.evrIgnore
  exact (put_within (Fld.inBlocks_self (by rfl))).le (by decide)

theorem Chip.evrFreeze_within {u : Chip} : Within ⟨frLog ++ [.evr], some [0x409, 0x445]⟩ u u.evrFreeze := by
  unfold Chip.evrFreeze
  dsimp only
  exact (Within.ite (((evr_within.trans (put_within (Fld.inBlocks_self (by rfl)))).trans (put_within (Fld.inBlocks_self (by rfl)))).trans
    evrOwn_within) evrIgnore_within).le (by decide)

theorem Chip.evrUnfreeze_within {u : Chip} : Within ⟨frLog ++ [.evr], some [0x409, 0x445]⟩ u u.evrUnfreeze := by
  unfold Chip.evrUnfreeze
  dsimp only
  exact (Within.ite (((evr_within.trans (put_within (Fld.inBlocks_self (by rfl)))).trans (put_within (Fld.inBlocks_self (by rfl)))).trans
    evrOwn_within) evrIgnore_within).le (by decide)

theorem Chip.evrFlush_within {u : Chip} : Within ⟨[.evr], some [0x445]⟩ u u.evrFlush := by
  unfold Chip.evrFlush
  exact (Within.ite ((put_within (Fld.inBlocks_self (by rfl))).trans evrTrigger_within) evrIgnore_within).le (by decide)

theorem Chip.modLog_within {u : Chip} {g} : Within ⟨[.evr], some []⟩ u (u.modLog g) := by
  unfold Chip.modLog
  dsimp only
  exact evr_within.le (by decide)

theorem Chip.evrFormat_within {u : Chip} : Within ⟨frLog ++ [.evr], some [0x409, 0x445]⟩ u u.evrFormat := by
  unfold Chip.evrFormat
  dsimp only
  exact (Within.ite ((((((((((evr_within.trans (put_within (Fld.inBlocks_self (by rfl)))).trans (put_within (Fld.inBlocks_self (by rfl)))).trans
    (put_within (Fld.inBlocks_self (by rfl)))).trans (put_within (Fld.inBlocks_self (by rfl)))).trans (put_within (Fld.inBlocks_self (by rfl)))).trans
    (put_within (Fld.inBlocks_self (by rfl)))).trans modLog_within).trans (put_within (Fld.inBlocks_self (by rfl)))).trans evrOwn_within).trans
    (put_within (Fld.inBlocks_self (by rfl)))) evrIgnore_within).le (by decide)

theorem Chip.evrCommand_within {u : Chip} {v} : Within ⟨frLog ++ [.evr], some [0x409, 0x445]⟩ u (u.evrCommand v) := by
  unfold Chip.evrCommand
  refine .chain answer_within (by decide) ?_
  split
  · exact evrFreeze_within.le (by decide)
  · exact evrUnfreeze_within.le (by decide)
  · exact evrFlush_within.le (by decide)
  · exact evrFormat_within.le (by decide)
  · exact evrIgnore_within.le (by decide)

theorem Chip.evrCalSet_within {u : Chip} : Within ⟨frLog ++ [.evr], some [0x409, 0x445]⟩ u u.evrCalSet := by
  unfold Chip.evrCalSet
  dsimp only
  exact (Within.ite evr_within ((evr_within.trans (put_within (Fld.inBlocks_self (by rfl)))).trans evrUpdateSource_within)).le (by decide)

theorem Chip.evrClear_within {u : Chip} {req} {hi} : Within ⟨frLog ++ [.evr], some [0x409, 0x445]⟩ u (u.evrClear req hi) := by
  unfold Chip.evrClear
  dsimp only
  exact (Within.ite ((((put_within (Fld.inBlocks_self (by rfl))).trans free_within).trans evrOwn_within).trans
    (put_within (Fld.inBlocks_self (by rfl)))) (Within.ite (((put_within (Fld.inBlocks_self (by rfl))).trans evrOwn_within).trans
    (put_within (Fld.inBlocks_self (by rfl)))) (Within.ite (put_within (Fld.inBlocks_self (by rfl))) ((((Within.ite (((put_within (Fld.inBlocks_self
    (by rfl))).trans evr_within).trans (put_within (Fld.inBlocks_self (by rfl)))) (put_within (Fld.inBlocks_self (by rfl)))).trans evr_within).trans
    (put_within (Fld.inBlocks_self (by rfl)))).trans evrTrigger_within)))).le (by decide)

theorem Chip.pwrRequest_within {u : Chip} {req} {v} : Within ⟨frLog ++ [.pwr], some [0x409, 0x447]⟩ u (u.pwrRequest req v) := by
  unfold Chip.pwrRequest
  dsimp only
  exact (Within.ite refuse_within (Within.ite (answer_within.trans
    (put_within (Fld.inBlocks_self (by rfl)))) (Within.ite answer_within (Within.ite (answer_within.trans
    (put_within (Fld.inBlocks_self (by rfl)))) (Within.ite (answer_within.trans
    pwrStart_within) (Within.ite (Within.ite answer_within ((answer_within.trans (put_within (Fld.inBlocks_self (by rfl)))).trans
    (put_within (Fld.inBlocks_self (by rfl))))) (Within.ite (answer_within.trans (put_within (Fld.inBlocks_self (by rfl)))) ((((answer_within.trans
    (put_within (Fld.inBlocks_self (by rfl)))).trans (put_within (Fld.inBlocks_self (by rfl)))).trans (irq_within (.self (by rfl)))).trans
    raiseAfter_within)))))))).le (by decide)

theorem Chip.cvuPreset_within {u : Chip} {i} {n} : Within ⟨[], some [0x421]⟩ u (u.cvuPreset i n) := by
  unfold Chip.cvuPreset
  split
  · exact (Within.ite Within.unchanged ((((((put_within (Reg.CVU_CFG.WIDTH_in)).trans (put_within (Reg.CVU_POLY.VAL_in))).trans
      (put_within (Reg.CVU_INIT.VAL_in))).trans (put_within (Reg.CVU_CFG.REFIN_in))).trans (put_within (Reg.CVU_CFG.REFOUT_in))).trans
      (put_within (Reg.CVU_XOR.VAL_in)))).le (by decide)
  · exact .rfl

theorem Chip.cvuCfg_within {u : Chip} {i} {v} : Within ⟨[], some [0x421]⟩ u (u.cvuCfg i v) := by
  unfold Chip.cvuCfg
  dsimp only
  exact ((Within.ite (((put_within (Reg.CVU_CFG.MODE_in)).trans (put_within (Reg.CVU_CFG.PRESET_in))).trans
    cvuPreset_within) (Within.ite (((((put_within (Reg.CVU_CFG.MODE_in)).trans (put_within (Reg.CVU_CFG.PRESET_in))).trans
    (put_within (Reg.CVU_CFG.REFIN_in))).trans (put_within (Reg.CVU_CFG.REFOUT_in))).trans
    (put_within (Reg.CVU_CFG.WIDTH_in))) ((((put_within (Reg.CVU_CFG.MODE_in)).trans (put_within (Reg.CVU_CFG.PRESET_in))).trans
    (put_within (Reg.CVU_CFG.REFIN_in))).trans (put_within (Reg.CVU_CFG.REFOUT_in))))).trans cvuSync_within).le (by decide)

theorem Chip.cvuVal_within {u : Chip} {i} {hi} {v} : Within ⟨[.plic], some [0x421]⟩ u (u.cvuVal i hi v) := by
  unfold Chip.cvuVal
  dsimp only
  exact (Within.ite (accessErr_within (cvuPage_in.off 96 (by decide))) (((put_within (Reg.CVU_VAL.VAL_in)).trans cvuSync_within).trans
    answer_within)).le (by decide)

theorem Chip.cvuFeed_within {u : Chip} {i} {b} : Within ⟨[], some [0x421]⟩ u (u.cvuFeed i b) := by
  unfold Chip.cvuFeed
  exact ((Within.ite cvuAbsorb_within Within.unchanged).trans answer_within).le (by decide)

theorem Chip.cvuWrite_within {u : Chip} {req} {a} {v} {i} {off} {l : List Nat} (ha : AddrIn a l) : Within ⟨[.plic], none⟩ u
  (u.cvuWrite req a v i off) := by
  unfold Chip.cvuWrite
  dsimp only
  exact (Within.ite (Within.ite (accessErr_within ha) (Within.ite (cvuCfg_within.trans
    answer_within) (lockViol_within ha))) (Within.ite cvuVal_within (Within.ite cvuVal_within (Within.ite cvuFeed_within (Within.ite cvuFeed_within
    (Within.ite (((Within.ite ((writePlain_within ha).trans (put_within (Reg.CVU_CFG.PRESET_in))) (writePlain_within ha)).trans cvuSync_within).trans
    answer_within) (Within.ite ((writePlain_within ha).trans
    (put_within (Reg.CVU_CFG.PRESET_in))) (writePlain_within ha)))))))).le (by simp +contextual [Scope.sub, Scope.union])

theorem Chip.idbWrite_within {u : Chip} {req} {a} {v} {l : List Nat} (ha : AddrIn a l) : Within ⟨[.plic], none⟩ u (u.idbWrite req a v) := by
  unfold Chip.idbWrite
  dsimp only
  exact (Within.ite ((writePlain_within ha).trans
    (put_within (Reg.IDB_STAT.BUSY_in))) (writePlain_within ha)).le (by simp +contextual [Scope.sub, Scope.union])

theorem Chip.takePortCfg_within {u : Chip} : Within ⟨[.ports], some []⟩ u u.takePortCfg := by
  unfold Chip.takePortCfg
  dsimp only
  exact ports_within.le (by decide)

theorem Chip.ownWrite_within {u : Chip} {req} {a} {v} {l : List Nat} (ha : AddrIn a l) : Within ⟨frLog ++ [.ports, .br, .evr, .perc, .pwr], none⟩ u
  (u.ownWrite req a v) := by
  unfold Chip.ownWrite
  dsimp only
  split
  · exact (Within.ite (tblW3_within.trans answer_within) (lockViol_within ha)).le (by simp +contextual [Scope.sub, Scope.union, Scope.covers, frLog])
  · exact (Within.ite tableCommit_within answer_within).le (by simp +contextual [Scope.sub, Scope.union, Scope.covers, frLog])
  · exact (Within.ite regionCommit_within answer_within).le (by simp +contextual [Scope.sub, Scope.union, Scope.covers, frLog])
  · exact (((writePlain_within ha).trans cvuOwned_within).trans answer_within).le (by simp +contextual [Scope.sub, Scope.union, frLog])
  · exact (((writePlain_within ha).trans cvuOwned_within).trans answer_within).le (by simp +contextual [Scope.sub, Scope.union, frLog])
  · exact evrCommand_within.le (by simp +contextual [Scope.sub, Scope.covers, frLog])
  · exact (Within.ite (((writePlain_within ha).trans evrCalSet_within).trans
      answer_within) (writePlain_within ha)).le (by simp +contextual [Scope.sub, Scope.union, frLog])
  · exact (Within.ite (((writePlain_within ha).trans evrCalSet_within).trans
      answer_within) (writePlain_within ha)).le (by simp +contextual [Scope.sub, Scope.union, frLog])
  · exact (evrFetch_within.trans answer_within).le (by simp +contextual [Scope.sub, Scope.union, Scope.covers, frLog])
  · exact ((put_within (Fld.inBlocks_self (by rfl))).trans answer_within).le (by simp +contextual [Scope.sub, Scope.union, Scope.covers, frLog])
  · exact (evrClear_within.trans answer_within).le (by simp +contextual [Scope.sub, Scope.union, Scope.covers, frLog])
  · exact (Within.ite (fuseWrite_within.trans
      answer_within) (lockViol_within ha)).le (by simp +contextual [Scope.sub, Scope.union, Scope.covers, frLog])
  · exact pwrRequest_within.le (by simp +contextual [Scope.sub, Scope.covers, frLog])
  · exact (writePlain_within ha).le (by simp +contextual [Scope.sub, frLog])
  · split
    · exact (cvuWrite_within ha).le (by simp +contextual [Scope.sub, frLog])
    · exact (Within.ite (idbWrite_within ha) (Within.ite (Within.ite ((writePlain_within ha).trans
        takePortCfg_within) (writePlain_within ha)) (writePlain_within ha))).le (by simp +contextual [Scope.sub, Scope.union, frLog])

theorem Chip.writeReg_within {u : Chip} {req} {a} {v} {l : List Nat}
  (ha : AddrIn a l) : Within ⟨frSafe ++ [.fab, .pages, .link, .gate, .sin, .svc, .ports, .br, .perc, .ret], none⟩ u (u.writeReg req a v) := by
  unfold Chip.writeReg
  split
  · exact .rfl
  · exact (Within.ite (writeHeader_within ha) (Within.ite (weirWrite_within ha) (Within.ite (controlWrite_within ha) (ownWrite_within ha)))).le
      (by simp +contextual [Scope.sub, Scope.union, frLog, frConf, frSafe])

theorem Chip.busWrite_within {u : Chip} {req} {a} {size} {v} {l : List Nat}
  (ha : AddrIn a l) : Within ⟨frSafe ++ [.fab, .pages, .link, .gate, .sin, .svc, .ports, .br, .msram, .ddr, .perc, .ret], none⟩ u
  (u.busWrite req a size v) := by
  unfold Chip.busWrite
  dsimp only
  split
  · exact writeElse_within.le (by simp +contextual [Scope.sub, frLog, frSafe])
  · split
    · exact (atPage_within ha fun _ => winWrite_within).le (by simp +contextual [Scope.sub, Scope.union, Scope.covers, frLog, frConf, frSafe, blConf])
    · exact (Within.ite ((Within.ite (ungate_within.trans (accessErr_within ha)) ungate_within).trans
        (planeRefused_within ha)) (Within.ite denied_within (Within.ite (ungate_within.trans
        (accessErr_within ha)) (access_within ha fun _ => (writeReg_within ha))))).le
        (by simp +contextual [Scope.sub, Scope.union, frLog, frConf, frSafe])

theorem Chip.commitEntry_within {u : Chip} {c} {e} : Within ⟨frSafe ++ [.fab, .pages, .link, .gate, .sin, .svc, .ports, .br, .msram, .ddr, .perc,
  .ret], none⟩ u (u.commitEntry c e).2 := by
  unfold Chip.commitEntry
  dsimp only
  split
  · exact commitSram_within.le (by rfl)
  · split
    · exact .rfl
    · split
      · exact cfDeliver_within.le (by rfl)
      · exact (busWrite_within .self).le (by rfl)

theorem Chip.commitAll_within {c : Nat} {l : List SbEntry} {u : Chip} :
    Within ⟨frSafe ++ [.fab, .pages, .link, .gate, .sin, .svc, .ports, .br, .msram, .ddr, .perc, .ret], none⟩ u (u.commitAll c l).2 := by
  induction l generalizing u with
  | nil => exact .rfl
  | cons e l ih =>
    unfold Chip.commitAll
    extract_lets r
    have hentry : Within ⟨frSafe ++ [.fab, .pages, .link, .gate, .sin, .svc, .ports, .br, .msram, .ddr, .perc, .ret], none⟩ u r.2 :=
      commitEntry_within.le (by decide)
    split
    · exact .rfl
    · split
      · exact hentry.step ih
      · exact hentry

theorem execStoreCommit_runs {s : State} {c twin : Nat} {bad : Option BadEntry} :
    Runs ⟨frSafe ++ [.fab, .pages, .link, .gate, .sin, .svc, .ports, .br, .msram, .ddr, .perc, .ret], none⟩ s (execStoreCommit c twin bad s) := by
  unfold execStoreCommit
  extract_lets u l r v w hit
  have hv : Within ⟨frSafe ++ [.fab, .pages, .link, .gate, .sin, .svc, .ports, .br, .msram, .ddr, .perc, .ret], none⟩ s.chip v := commitAll_within
  have hw : Within ⟨frSafe ++ [.fab, .pages, .link, .gate, .sin, .svc, .ports, .br, .msram, .ddr, .perc, .ret], none⟩ v w := modTwin_within.le
    (by decide)
  split
  · exact .become .rfl
  · split
    · exact .become hv
    · refine .become ?_
      split
      · exact .chain mismatchNow_within (by decide) (hv.step hw)
      · exact hv.step hw

theorem execSramDed_runs {c} {twin} {a} {fetch} {same} {s} : Runs ⟨frConf ++ [.chans, .weir], some (blConf ++ [0x402])⟩ s
  (execSramDed c twin a fetch same s) := by
  unfold execSramDed
  dsimp only
  split
  · refine .become ?_
    exact .rfl
  · refine .become ?_
    exact ((((satInc_within (Reg.CH_ECC.DED_in)).trans (put_within (Reg.CH_ECC_ADDR.ADDR_in))).trans (irqRaise_within chPage_in)).trans
      mismatchNow_within).le (by decide)

theorem execEccWriteback_runs {c} {a} {s} : Runs ⟨[.chans], some []⟩ s (execEccWriteback c a s) := by
  unfold execEccWriteback
  refine .become ?_
  exact (modChan_within (fun _ => by rfl)).le (by decide)

theorem execChannelInterrupt_runs {c} {twin} {s} : Runs ⟨[.cic, .chans], some []⟩ s (execChannelInterrupt c twin s) := by
  unfold execChannelInterrupt
  dsimp only
  split
  · refine .become ?_
    exact .rfl
  · split
    · refine .become ?_
      exact .rfl
    · split
      · refine .become ?_
        exact .rfl
      · split
        · refine .become ?_
          exact modTwin_within.le (by decide)
        · refine .become ?_
          exact ((modTwin_within.trans cic_within).trans modTwin_within).le (by decide)

theorem Chip.transientFault_within {u : Chip} {fcode} : Within ⟨frLog, some [0x407, 0x409]⟩ u (u.transientFault fcode) := by
  unfold Chip.transientFault
  exact faultEvent_within.le (by decide)

theorem execRollbackDone_runs {c} {twin} {ns} {bad} {s} : Runs ⟨frConf ++ [.chans, .weir], some (blConf ++ [0x402])⟩ s
  (execRollbackDone c twin ns bad s) := by
  unfold execRollbackDone
  dsimp only
  split
  · refine .become ?_
    exact .rfl
  · split
    · refine .become ?_
      exact (until_within.trans chLost_within).le (by decide)
    · split
      · refine .become ?_
        exact (until_within.trans chLost_within).le (by decide)
      · refine .become ?_
        exact (Within.ite (((((((until_within.trans modTwin_within).trans (put_within (.ite (Reg.CH_STATE.RB_LT_in) (Reg.CH_STATE.RB_LK_in)))).trans
          (put_within (Reg.CH_RB.LAST_NS_in))).trans (put_within (Reg.CH_RB.TWIN_in))).trans (satInc_within (Reg.CH_RB.TOTAL_in))).trans
          (irqRaise_within chPage_in)).trans transientFault_within) ((((((((until_within.trans modTwin_within).trans
          (put_within (.ite (Reg.CH_STATE.RB_LT_in) (Reg.CH_STATE.RB_LK_in)))).trans (put_within (Reg.CH_RB.LAST_NS_in))).trans
          (put_within (Reg.CH_RB.TWIN_in))).trans (satInc_within (Reg.CH_RB.TOTAL_in))).trans (irqRaise_within chPage_in)).trans
          transientFault_within).trans taskStores_within)).le (by decide)

theorem execRbTimeout_runs {c} {twin} {s} : Runs ⟨frConf ++ [.chans, .weir], some (blConf ++ [0x402])⟩ s (execRbTimeout c twin s) := by
  unfold execRbTimeout
  dsimp only
  split
  · refine .become ?_
    exact .rfl
  · refine .become ?_
    exact (until_within.trans chLost_within).le (by decide)


theorem chResetFields_in {c : Nat} : ∀ f ∈ chResetFields c, f.InBlocks [0x402] := by
  unfold chResetFields
  simp only [List.forall_mem_cons]
  exact ⟨Reg.CH_STATE.MM_CYC_in, Reg.CH_STATE.RB_LK_in, Reg.CH_STATE.RB_LT_in, Reg.CH_WINCNT_LT.COUNT_in, Reg.CH_WINCNT_LK.COUNT_in,
    Reg.CH_INJ.BOOT_OK_in, Reg.CH_INJ.LK_LAST_OK_in, Reg.CH_INJ.LT_LAST_OK_in, Reg.CH_INJ.LK_LANE_in, Reg.CH_INJ.LT_LANE_in,
    Reg.CH_RB.TOTAL_in, Reg.CH_RB.TWIN_in, Reg.CH_RB.LAST_NS_in, Reg.CH_BUF.EARLY_in, Reg.CH_BUF.RPL_HWM_in,
    Reg.CH_BUF.SB_HWM_in, Reg.CH_CSN.NOTICE_in, Reg.CH_CSN.TARGET_in, Reg.CH_CSN.READY_in, fun _ h => absurd h List.not_mem_nil⟩

theorem Chip.chHeld_within {u : Chip} {c : Nat} :
    Within ⟨frLog ++ [.chans, .conf, .rt, .perc], some [0x402, 0x403, 0x409, 0x40B, 0x446]⟩ u (u.chHeld c) := by
  unfold Chip.chHeld
  extract_lets u1 u2 u3 u4
  have h2 : Within ⟨frLog ++ [.chans, .conf, .rt, .perc], some [0x402, 0x403, 0x409, 0x40B, 0x446]⟩ u u2 :=
    ((twinsReset_within.trans resyncLost_within).trans (modChan_sram_within fun _ => by rfl)).le (by decide)
  have h4 : Within ⟨frLog ++ [.chans, .conf, .rt, .perc], some [0x402, 0x403, 0x409, 0x40B, 0x446]⟩ u2 u4 :=
    (cic_rt_within.trans percHeld_within).le (by decide)
  exact .chain (chEnter_within.trans (resetFields_within chResetFields_in)) (by decide) (h2.step h4)

theorem Chip.chReset_within {u : Chip} {c} : Within ⟨frLog ++ [.chans, .conf, .rt, .perc], some [0x402, 0x403, 0x409, 0x40B, 0x446]⟩ u
  (u.chReset c) := by
  unfold Chip.chReset
  dsimp only
  exact ((chHeld_within.trans (modChan_within (fun _ => by rfl))).trans chEnter_within).le (by decide)

theorem execChannelLostTimeout_runs {c} {s} : Runs ⟨frLog ++ [.chans, .conf, .weir, .rt, .perc], some [0x402, 0x403, 0x409, 0x40B, 0x446]⟩ s
  (execChannelLostTimeout c s) := by
  unfold execChannelLostTimeout
  dsimp only
  split
  · refine .become ?_
    exact (Within.ite (until_within.trans (modChan_within (fun _ => by rfl))) (until_within.trans chReset_within)).le (by decide)
  · refine .become ?_
    exact .rfl

theorem Chip.marchRepair_within {c : Nat} {l : List (Nat × Nat × Nat)} {done : List Nat} {u : Chip} :
    Within ⟨frLog ++ [.perc], some [0x409, 0x40B, 0x446]⟩ u (u.marchRepair c l done).2 := by
  induction l generalizing u done with
  | nil => exact .rfl
  | cons x l ih =>
    obtain ⟨m, w, d⟩ := x
    unfold Chip.marchRepair
    extract_lets p
    split
    · exact .rfl
    · split
      · exact noSpare_within.le (by decide)
      · exact .step (.chain softRepair_within (by decide) (modPerc_within.le (by decide))) ih

theorem Chip.loadFirmware_within {u : Chip} {c : Nat} : Within ⟨[.chans], some []⟩ u (u.loadFirmware c) :=
  modChan_sram_within (g := fun h => { h with sram := memWriteBytes h.sram _ _ }) fun h => memWriteBytes_wf _ _ _ (u.memoriesOk_chan h c)

theorem execChannelSelftestDone_runs {c} {cmp} {march} {bad} {s} : Runs ⟨frConf ++ [.chans, .weir, .perc], some (blConf ++ [0x402, 0x40B, 0x446])⟩ s
  (execChannelSelftestDone c cmp march bad s) := by
  unfold execChannelSelftestDone
  dsimp only
  split
  · refine .become ?_
    exact .rfl
  · split
    · refine .become ?_
      exact (((put_within (Reg.CH_INJ.BOOT_OK_in)).trans marchRepair_within).trans chLost_within).le (by decide)
    · split
      · refine .become ?_
        exact ((((put_within (Reg.CH_INJ.BOOT_OK_in)).trans marchRepair_within).trans free_within).trans chLost_within).le (by decide)
      · split
        · refine .become ?_
          exact ((((put_within (Reg.CH_INJ.BOOT_OK_in)).trans marchRepair_within).trans loadFirmware_within).trans chEnter_within).le (by decide)
        · refine .become ?_
          exact (((put_within (Reg.CH_INJ.BOOT_OK_in)).trans marchRepair_within).trans (modChan_within (fun _ => by rfl))).le (by decide)

theorem execCfPortImg_runs {c n v} {s} {l : List Nat} (ha : AddrIn (0x40301100 + 4 * n) l) :
    Runs ⟨frConf ++ [.pages, .chans, .weir], some (l ++ blConf ++ [0x402])⟩ s (execCfPortImg c n v s) := by
  unfold execCfPortImg
  refine .become ?_
  exact (access_within ha fun _ => cfPut_within).le (by simp +contextual [Scope.sub, Scope.union, Scope.covers, frLog, frConf, blConf])

theorem execCfPortMsg_runs {c} {v} {s} : Runs ⟨frConf ++ [.pages, .chans, .weir], some (blConf ++ [0x402])⟩ s (execCfPortMsg c v s) := by
  unfold execCfPortMsg
  refine .become ?_
  exact (access_within (.self) fun _ => cfPut_within).le (by decide)

theorem execCfPortDeliver_runs {c} {v} {bad} {s} : Runs ⟨frConf ++ [.pages, .chans, .weir], some (blConf ++ [0x402])⟩ s
  (execCfPortDeliver c v bad s) := by
  unfold execCfPortDeliver
  refine .become ?_
  exact (access_within (.self) fun _ => cfPut_within).le (by decide)

theorem execVoteExpiry_runs {s} : Runs ⟨frConf ++ [.chans, .weir], some (blConf ++ [0x402])⟩ s (execVoteExpiry s) := by
  unfold execVoteExpiry
  dsimp only
  split
  · refine .become ?_
    exact ((untilWeir_within.trans expire_within).trans cfResume_within).le (by decide)
  · refine .become ?_
    exact .rfl

theorem Chip.cbNext_within {u : Chip} {c} : Within ⟨[.zst], some []⟩ u (u.cbNext c).2 := by
  unfold Chip.cbNext
  dsimp only
  split
  · exact zst_within.le (by decide)
  · exact .rfl

theorem Chip.modTxq_within {u : Chip} {p} {g} : Within ⟨[.zst], some []⟩ u (u.modTxq p g) := by
  unfold Chip.modTxq
  dsimp only
  exact zst_within.le (by decide)

theorem Chip.txDrop_within {u : Chip} {p} {c} {reason} : Within ⟨frLog, some [0x406, 0x409]⟩ u (u.txDrop p c reason) := by
  unfold Chip.txDrop
  exact (((satInc_within (Reg.ZST_PSTAT.TXDROP_in)).trans (irq_within (.self (by rfl)))).trans raise_within).le (by decide)

theorem Chip.txAdmit_within {u : Chip} {p} {f} : Within ⟨frLog ++ [.zst], some [0x406, 0x409]⟩ u (u.txAdmit p f) := by
  unfold Chip.txAdmit
  dsimp only
  exact (Within.ite (zst_within.trans modTxq_within) (zst_within.trans txDrop_within)).le (by decide)

theorem Chip.zstQueue_within {u : Chip} {res} {pos} {m} : Within ⟨frLog ++ [.zst], some [0x406, 0x409]⟩ u (u.zstQueue res pos m) := by
  unfold Chip.zstQueue
  dsimp only
  exact (Within.ite Within.unchanged (cbNext_within.trans (Within.foldl fun _ _ => txAdmit_within))).le (by decide)

theorem Chip.zstRelease_within {u : Chip} {msgs} : Within ⟨frLog ++ [.link, .zst], some [0x406, 0x409]⟩ u (u.zstRelease msgs) := by
  unfold Chip.zstRelease
  dsimp only
  exact ((Within.foldl fun _ _ => zstQueue_within).trans link_zst_within).le (by decide)

theorem Chip.release_within {u : Chip} {r} : Within ⟨frLog ++ [.conf, .weir, .link, .sout, .zst], some [0x403, 0x405, 0x406, 0x408, 0x409, 0x500]⟩ u
  (u.release r) := by
  unfold Chip.release
  dsimp only
  exact ((((Within.ite (((put_within (Fld.inBlocks_self (by rfl))).trans (highWater_within (Fld.inBlocks_self (by rfl)))).trans
    (modConf_within (fun _ => by rfl))) ((((put_within (Fld.inBlocks_self (by rfl))).trans (highWater_within (Fld.inBlocks_self (by rfl)))).trans
    (modConf_within (fun _ => by rfl))).trans link_within)).trans sluiceImage_within).trans zstRelease_within).trans
    mirrorPublish_within).le (by decide)

theorem execVoteRelease_runs {s} : Runs ⟨frLog ++ [.conf, .weir, .link, .sout, .zst], some [0x403, 0x405, 0x406, 0x408, 0x409, 0x500]⟩ s
  (execVoteRelease s) := by
  unfold execVoteRelease
  dsimp only
  split
  · split
    · refine .become ?_
      exact .rfl
    · refine .become ?_
      exact ((untilWeir_within.trans (modConf_within (fun _ => by rfl))).trans release_within).le (by decide)
  · refine .become ?_
    exact .rfl

theorem execVotingSetAck_runs {s} : Runs ⟨frLog ++ [.conf, .weir, .link, .sout, .zst], some [0x403, 0x405, 0x406, 0x408, 0x409, 0x500]⟩ s
  (execVotingSetAck s) := by
  unfold execVotingSetAck
  dsimp only
  split
  · refine .become ?_
    exact .rfl
  · split
    · split
      · split
        · refine .become ?_
          exact (link_within.trans (modConf_within (fun _ => by rfl))).le (by decide)
        · refine .become ?_
          exact ((((link_within.trans (modConf_within (fun _ => by rfl))).trans advance_within).trans (modConf_within (fun _ => by rfl))).trans
            (Within.foldl fun _ _ => release_within)).le (by decide)
      · refine .become ?_
        exact link_within.le (by decide)
    · refine .become ?_
      exact (Within.ite (link_within.trans (modConf_within (fun _ => by rfl))) link_within).le (by decide)

theorem execVotingSetAckTimeout_runs {s} : Runs ⟨frConf ++ [.weir], some blConf⟩ s (execVotingSetAckTimeout s) := by
  unfold execVotingSetAckTimeout
  dsimp only
  split
  · refine .become ?_
    exact (untilWeir_within.trans confSafe_within).le (by decide)
  · refine .become ?_
    exact .rfl

theorem execResyncBulkStart_runs {s} : Runs ⟨[.conf], some [0x403]⟩ s (execResyncBulkStart s) := by
  unfold execResyncBulkStart
  dsimp only
  split
  · refine .become ?_
    exact ((((put_within (Fld.inBlocks_self (by rfl))).trans (put_within (Reg.CF_PSTAT.PSTATE_in))).trans
      (put_within (Fld.inBlocks_self (by rfl)))).trans putRs_within).le (by decide)
  · refine .become ?_
    exact .rfl

theorem execResyncBulkDone_runs {s} : Runs ⟨[.chans, .conf, .weir], some [0x403]⟩ s (execResyncBulkDone s) := by
  unfold execResyncBulkDone
  dsimp only
  split
  · refine .become ?_
    exact (((untilWeir_within.trans rsRead_within).trans (put_within (Fld.inBlocks_self (by rfl)))).trans putRs_within).le (by decide)
  · refine .become ?_
    exact .rfl

theorem execResyncFinalStart_runs {s : State} : Runs ⟨frConf ++ [.chans, .weir], some blConf⟩ s (execResyncFinalStart s) := by
  unfold execResyncFinalStart
  extract_lets u rs v a b differ
  have hfinal : Within ⟨frConf ++ [.chans, .weir], some blConf⟩ s.chip v := ((put_within (Fld.inBlocks_self (by rfl))).trans
    advance_within).le (by decide)
  split
  · exact .become .rfl
  · rename_i c _
    extract_lets sram w x
    have hcopied : v.memoriesOk = true → memWf sram = true := fun h =>
      memFoldl_wf (fun m k hm => memCopy_wf (by omega) hm (v.memoriesOk_chan h _)) (v.memoriesOk_chan h c)
    split
    · split
      · exact .become (.chain confSafe_within (by decide) hfinal)
      · exact .become (.chain (((modChan_sram_within hcopied).trans putRs_within).trans link_within) (by decide) hfinal)
    · exact .become .rfl

theorem Chip.imageBad_within {u : Chip} {c} : Within ⟨[.weir], some []⟩ u (u.imageBad c) := by
  unfold Chip.imageBad
  exact (modWeir_within (fun _ => by rfl)).le (by decide)

theorem Chip.checkResult_within {u : Chip} {b} : Within ⟨[.weir], some [0x500]⟩ u (u.checkResult b) := by
  unfold Chip.checkResult
  dsimp only
  exact ((put_within (Fld.inBlocks_self (by rfl))).trans (weir_within (by rfl))).le (by decide)

theorem Chip.steer_within {u : Chip} {v} : Within ⟨frLog, some [0x409, 0x500]⟩ u (u.steer v) := by
  unfold Chip.steer
  dsimp only
  exact (Within.ite Within.unchanged (Within.ite Within.unchanged (Within.ite ((((put_within (Fld.inBlocks_self (by rfl))).trans
    (put_within (Fld.inBlocks_self (by rfl)))).trans (irq_within (.self (by rfl)))).trans
    raise_within) ((put_within (Fld.inBlocks_self (by rfl))).trans (put_within (Fld.inBlocks_self (by rfl))))))).le (by decide)

theorem Chip.checkEnable_within {u : Chip} {v} {n} : Within ⟨[.weir], some [0x500]⟩ u (u.checkEnable v n) := by
  unfold Chip.checkEnable
  exact (Within.ite Within.unchanged (Within.ite (Within.ite enable_within Within.unchanged) weirDemand_within)).le (by decide)

theorem Chip.checkPass_within {u : Chip} {v} {d} : Within ⟨frLog ++ [.weir, .lat], some [0x409, 0x500]⟩ u (u.checkPass v d) := by
  unfold Chip.checkPass
  dsimp only
  exact ((((((((put_within (Fld.inBlocks_self (by rfl))).trans (put_within (Fld.inBlocks_self (by rfl)))).trans checkResult_within).trans
    (wrapInc_within (Fld.inBlocks_self (by rfl)))).trans (modWeir_within (fun _ => by rfl))).trans lat_within).trans
    (Within.foldUpTo fun _ _ => checkEnable_within)).trans steer_within).le (by decide)

theorem Chip.checkOne_within {u : Chip} {v} {l} : Within ⟨frSafe, some blSafe⟩ u (u.checkOne v l) := by
  unfold Chip.checkOne
  dsimp only
  exact (Within.ite (Within.ite checkPass_within ((((((put_within (Fld.inBlocks_self (by rfl))).trans (put_within (Fld.inBlocks_self (by rfl)))).trans
    checkResult_within).trans (modWeir_within (fun _ => by rfl))).trans (irq_within (.self (by rfl)))).trans
    raiseAfter_within)) (((put_within (Fld.inBlocks_self (by rfl))).trans checkResult_within).trans weirSafe_within)).le (by decide)

theorem Chip.runChecks_within {n : Nat} {u : Chip} : Within ⟨frSafe, some blSafe⟩ u (Chip.runChecks n u) := by
  induction n generalizing u with
  | zero => exact .rfl
  | succ n ih =>
    unfold Chip.runChecks
    split
    · exact .rfl
    · split
      · exact .rfl
      · extract_lets l im im' v
        have hv : Within ⟨frSafe, some blSafe⟩ u v := (modWeir_within fun _ => by rfl).le (by decide)
        split
        · exact .rfl
        · exact .step (.chain checkOne_within (by decide) hv) ih

theorem Chip.checks_within {u : Chip} : Within ⟨frSafe, some blSafe⟩ u u.checks := by
  unfold Chip.checks
  exact runChecks_within.le (by decide)

theorem Chip.imageTaken_within {u : Chip} {c} {img} : Within ⟨frSafe, some blSafe⟩ u (u.imageTaken c img) := by
  unfold Chip.imageTaken
  dsimp only
  exact ((weir_within (by rfl)).trans checks_within).le (by decide)

theorem execChannelImage_runs {c} {img} {crc} {s} : Runs ⟨frSafe, some blSafe⟩ s (execChannelImage c img crc s) := by
  unfold execChannelImage
  dsimp only
  refine .become ?_
  exact (Within.ite Within.unchanged (Within.ite imageBad_within imageTaken_within)).le (by decide)

theorem Chip.flushAcks_within {u : Chip} : Within ⟨[.weir, .link], some []⟩ u u.flushAcks := by
  unfold Chip.flushAcks
  dsimp only
  exact (Within.ite (weir_link_within (by rfl)) Within.unchanged).le (by decide)

theorem execVotedImage_runs {s} : Runs ⟨frSafe ++ [.link], some blSafe⟩ s (execVotedImage s) := by
  unfold execVotedImage
  dsimp only
  split
  · refine .become ?_
    exact .rfl
  · split
    · refine .become ?_
      exact (link_within.trans flushAcks_within).le (by decide)
    · refine .become ?_
      exact (((link_within.trans flushAcks_within).trans (weir_lat_within (by rfl))).trans checks_within).le (by decide)

theorem execCheckOpenTimeout_runs {s} : Runs ⟨frSafe, some blSafe⟩ s (execCheckOpenTimeout s) := by
  unfold execCheckOpenTimeout
  dsimp only
  split
  · refine .weirDoes ?_
    exact (untilWeir_within.trans weirSafe_within).le (by decide)
  · refine .become ?_
    exact .rfl

theorem Chip.setChange_within {u : Chip} {set} : Within ⟨[.weir], some [0x500]⟩ u (u.setChange set) := by
  unfold Chip.setChange
  dsimp only
  exact ((put_within (Fld.inBlocks_self (by rfl))).trans
    (Within.foldUpTo fun _ _ => (Within.ite Within.unchanged (modWeir_within (fun _ => by rfl))))).le (by decide)

theorem execVotingSetFlit_runs {s : State} : Runs ⟨frSafe ++ [.link], some blSafe⟩ s (execVotingSetFlit s) := by
  unfold execVotingSetFlit
  extract_lets u old _
  split
  · exact .become .rfl
  · extract_lets u1 u2 u3
    have h1 : Within ⟨frSafe ++ [.link], some blSafe⟩ s.chip u1 := (link_within.trans setChange_within).le (by decide)
    have h2 : Within ⟨frSafe ++ [.link], some blSafe⟩ u1 u2 := by
      unfold u2
      split
      · exact (Within.ite checkPass_within .unchanged).le (by decide)
      · exact .rfl
    have h3 : Within ⟨frSafe ++ [.link], some blSafe⟩ u2 u3 := (Within.ite .unchanged checks_within).le (by decide)
    exact .become (.chain ((modWeir_within fun _ => by rfl).trans flushAcks_within) (by decide) ((h1.step h2).step h3))

theorem execSafeRequestFlit_runs {s} : Runs ⟨frSafe ++ [.link], some blSafe⟩ s (execSafeRequestFlit s) := by
  unfold execSafeRequestFlit
  dsimp only
  refine .become ?_
  exact (Within.ite (link_within.trans weirSafe_within) Within.unchanged).le (by decide)

theorem Chip.captureFlushed_within {u : Chip} : Within ⟨[.flt], some [0x407]⟩ u u.captureFlushed := by
  unfold Chip.captureFlushed
  dsimp only
  split
  · exact (flt_within.trans (put_within (Fld.inBlocks_self (by rfl)))).le (by decide)
  · exact .rfl

theorem execCaptureTimeout_runs {s} : Runs ⟨[.weir, .flt], some [0x407]⟩ s (execCaptureTimeout s) := by
  unfold execCaptureTimeout
  split
  · refine .become ?_
    exact (untilWeir_within.trans captureFlushed_within).le (by decide)
  · refine .become ?_
    exact .rfl

theorem execDualRailFault_runs {s} : Runs ⟨frSafe, some blSafe⟩ s (execDualRailFault s) := by
  unfold execDualRailFault
  refine .weirDoes ?_
  exact weirSafe_within.le (by decide)

theorem Chip.takeOut_within {u : Chip} {c} {r} {d} : Within ⟨frConf ++ [.chans, .weir], some (blConf ++ [0x402])⟩ u (u.takeOut c r d) := by
  unfold Chip.takeOut
  dsimp only
  exact ((((((((modWeir_within (fun _ => by rfl)).trans (satInc_within (Fld.inBlocks_self (by rfl)))).trans
    (put_within (Fld.inBlocks_self (by rfl)))).trans (put_within (Fld.inBlocks_self (by rfl)))).trans (irq_within (.self (by rfl)))).trans
    raiseAfter_within).trans setChange_within).trans chLost_within).le (by decide)

theorem execDeadlineCheck_runs {s} : Runs ⟨frSafe ++ [.link], some blSafe⟩ s (execDeadlineCheck s) := by
  unfold execDeadlineCheck
  dsimp only
  split
  · refine .weirDoes ?_
    exact .rfl
  · refine .weirDoes ?_
    exact (Within.ite (Within.ite (((untilWeir_within.trans (weir_within (by rfl))).trans (Within.foldl fun _ _ => takeOut_within)).trans
      weirSafe_within) ((untilWeir_within.trans (weir_within (by rfl))).trans
      (Within.foldl fun _ _ => takeOut_within))) ((Within.ite (((untilWeir_within.trans (weir_within (by rfl))).trans
      (Within.foldl fun _ _ => takeOut_within)).trans weirSafe_within) ((untilWeir_within.trans (weir_within (by rfl))).trans
      (Within.foldl fun _ _ => takeOut_within))).trans checks_within)).le (by decide)

theorem execDeadlineWarn_runs {s} : Runs ⟨[.cic, .weir], some []⟩ s (execDeadlineWarn s) := by
  unfold execDeadlineWarn
  dsimp only
  split
  · refine .weirDoes ?_
    exact .rfl
  · split
    · refine .weirDoes ?_
      exact .rfl
    · refine .weirDoes ?_
      exact ((untilWeir_within.trans (modWeir_within (fun _ => by rfl))).trans (Within.foldl fun _ _ => chanIrq_within)).le (by decide)

theorem execRateGateEnd_runs {per} {wrc} {s} : Runs ⟨frSafe, some blSafe⟩ s (execRateGateEnd per wrc s) := by
  unfold execRateGateEnd
  dsimp only
  refine .weirDoes ?_
  exact (Within.ite ((Within.ite (((((Within.ite ((until_within.trans (modWeir_within (fun _ => by rfl))).trans
    (put_within (Fld.inBlocks_self (by rfl)))) (until_within.trans (modWeir_within (fun _ => by rfl)))).trans
    (put_within (Fld.inBlocks_self (by rfl)))).trans (irq_within (.self (by rfl)))).trans raise_within).trans
    weirSafe_within) ((Within.ite ((until_within.trans (modWeir_within (fun _ => by rfl))).trans
    (put_within (Fld.inBlocks_self (by rfl)))) (until_within.trans (modWeir_within (fun _ => by rfl)))).trans
    (put_within (Fld.inBlocks_self (by rfl))))).trans weirSafe_within) (Within.ite (((((Within.ite ((until_within.trans
    (modWeir_within (fun _ => by rfl))).trans (put_within (Fld.inBlocks_self (by rfl)))) (until_within.trans
    (modWeir_within (fun _ => by rfl)))).trans (put_within (Fld.inBlocks_self (by rfl)))).trans (irq_within (.self (by rfl)))).trans
    raise_within).trans weirSafe_within) ((Within.ite ((until_within.trans (modWeir_within (fun _ => by rfl))).trans
    (put_within (Fld.inBlocks_self (by rfl)))) (until_within.trans (modWeir_within (fun _ => by rfl)))).trans
    (put_within (Fld.inBlocks_self (by rfl)))))).le (by decide)

theorem execWdnMissingEdge_runs {s} : Runs ⟨frSafe, some blSafe⟩ s (execWdnMissingEdge s) := by
  unfold execWdnMissingEdge
  refine .weirDoes ?_
  exact (weirSafe_within.trans (modWeir_within (fun _ => by rfl))).le (by decide)

theorem execTimeParity_runs {s} : Runs ⟨frSafe, some blSafe⟩ s (execTimeParity s) := by
  unfold execTimeParity
  refine .weirDoes ?_
  exact weirSafe_within.le (by decide)

theorem Chip.pwrAbandon_within {u : Chip} : Within ⟨frLog ++ [.weir, .pwr], some [0x409, 0x447]⟩ u u.pwrAbandon := by
  unfold Chip.pwrAbandon
  dsimp only
  exact (Within.ite (((((pwrRestart_within.trans (put_within (Fld.inBlocks_self (by rfl)))).trans (put_within (Fld.inBlocks_self (by rfl)))).trans
    pwr_within).trans raiseAfter_within).trans pwrStartPending_within) pwrWake_within).le (by decide)

theorem execPfailTrigger_runs {low} {uvov} {s} : Runs ⟨frSafe ++ [.link], some blSafe⟩ s (execPfailTrigger low uvov s) := by
  unfold execPfailTrigger
  dsimp only
  split
  · refine .weirDoes ?_
    exact (((put_within (Fld.inBlocks_self (by rfl))).trans (put_within (Fld.inBlocks_self (by rfl)))).trans
      (modWeir_within (fun _ => by rfl))).le (by decide)
  · refine .weirDoes ?_
    exact ((((((((((put_within (Fld.inBlocks_self (by rfl))).trans (put_within (Fld.inBlocks_self (by rfl)))).trans
      (modWeir_within (fun _ => by rfl))).trans (put_within (Fld.inBlocks_self (by rfl)))).trans (modWeir_within (fun _ => by rfl))).trans
      (irq_within (.self (by rfl)))).trans raise_within).trans pwrAbandon_within).trans link_within).trans weirSafe_within).le (by decide)


theorem Chip.strapLatch_within {u : Chip} : Within ⟨frSafe, some blSafe⟩ u u.strapLatch := by
  unfold Chip.strapLatch
  dsimp only
  exact (Within.ite ((put_within (Fld.inBlocks_self (by rfl))).trans weirSafe_within) (put_within (Fld.inBlocks_self (by rfl)))).le (by decide)

theorem Chip.weirHold_within {u : Chip} : Within ⟨frSafe, some blSafe⟩ u u.weirHold := by
  unfold Chip.weirHold
  extract_lets w kept u1 u2 u3
  have h1 : Within ⟨frSafe, some blSafe⟩ u u1 := ((weir_within (by rfl)).trans
    (resetDomains_weir_within (doms := [.weirCtl]) (by decide))).le (by decide)
  have h2 : Within ⟨frSafe, some blSafe⟩ u1 u2 :=
    ((((put_within (Fld.inBlocks_self (by rfl))).trans (put_within (Fld.inBlocks_self (by rfl)))).trans
      (put_within (Fld.inBlocks_self (by rfl)))).trans (put_within (Fld.inBlocks_self (by rfl)))).le (by decide)
  have h3 : Within ⟨frSafe, some blSafe⟩ u2 u3 :=
    (((put_within (Fld.inBlocks_self (by rfl))).trans (put_within (Fld.inBlocks_self (by rfl)))).trans (put_within (Fld.inBlocks_self (by rfl)))).le
      (by decide)
  exact .chain ((((put_within (Fld.inBlocks_self (by rfl))).trans latHold_within).trans (put_within (Fld.inBlocks_self (by rfl)))).trans
    strapLatch_within) (by decide) ((h1.step h2).step h3)

theorem Chip.sendSupply_within {u : Chip} : Within ⟨frSafe ++ [.link], some blSafe⟩ u u.sendSupply := by
  unfold Chip.sendSupply
  dsimp only
  exact (Within.ite link_within (link_within.trans weirHold_within)).le (by decide)

theorem execPfailRelease_runs {s} : Runs ⟨frSafe ++ [.link], some blSafe⟩ s (execPfailRelease s) := by
  unfold execPfailRelease
  dsimp only
  split
  · split
    · refine .weirDoes ?_
      exact .rfl
    · refine .weirDoes ?_
      exact (until_within.trans sendSupply_within).le (by decide)
  · refine .weirDoes ?_
    exact .rfl

theorem execWeirPor_runs {s : State} {pu pd : Nat} : Runs ⟨frSafe, some blSafe⟩ s (execWeirPor pu pd s) := by
  unfold execWeirPor
  extract_lets u w v
  have hv : Within ⟨frSafe, some blSafe⟩ s.chip v := ((weirReset_within (by rfl)).trans
    (resetDomains_weir_within (doms := [.weir, .weirCtl]) (by decide))).le (by decide)
  exact .become (.chain (strapRead_within.trans strapLatch_within) (by decide) hv)

theorem execWeirSelftestDone_runs {ok} {s} : Runs ⟨frSafe ++ [.link], some blSafe⟩ s (execWeirSelftestDone ok s) := by
  unfold execWeirSelftestDone
  dsimp only
  split
  · refine .weirDoes ?_
    exact weirSafe_within.le (by decide)
  · split
    · refine .weirDoes ?_
      exact (((put_within (Fld.inBlocks_self (by rfl))).trans (modWeir_within (fun _ => by rfl))).trans sendSupply_within).le (by decide)
    · refine .weirDoes ?_
      exact (put_within (Fld.inBlocks_self (by rfl))).le (by decide)

theorem Chip.modLane_within {u : Chip} {up} {n} {g} : Within ⟨[.link], some []⟩ u (u.modLane up n g) := by
  unfold Chip.modLane
  dsimp only
  exact link_within.le (by decide)

theorem Chip.control_within {u : Chip} {up} {kind} {lane} {seq} : Within ⟨[.link], some []⟩ u (u.control up kind lane seq) := by
  unfold Chip.control
  exact modLane_within.le (by decide)

theorem execFlitReceive_runs {up} {lane} {seq} {kind} {x} {s} : Runs ⟨[.link], some [0x500]⟩ s (execFlitReceive up lane seq kind x s) := by
  unfold execFlitReceive
  dsimp only
  split
  · refine .become ?_
    exact .rfl
  · split
    · refine .become ?_
      exact (Within.ite (((Within.ite (put_within (Fld.inBlocks_self (by rfl))) Within.unchanged).trans modLane_within).trans
        control_within) ((Within.ite (put_within (Fld.inBlocks_self (by rfl))) Within.unchanged).trans modLane_within)).le (by decide)
    · refine .become ?_
      exact ((Within.ite (satInc_within (Fld.inBlocks_self (by rfl))) Within.unchanged).trans control_within).le (by decide)

theorem Chip.linkFail_within {u : Chip} {reason} {atWeir} : Within ⟨frSafe ++ [.link], some blSafe⟩ u (u.linkFail reason atWeir) := by
  unfold Chip.linkFail
  dsimp only
  exact ((Within.ite (((put_within (Fld.inBlocks_self (by rfl))).trans (put_within (Fld.inBlocks_self (by rfl)))).trans
    link_within) ((((put_within (Fld.inBlocks_self (by rfl))).trans (put_within (Fld.inBlocks_self (by rfl)))).trans link_within).trans
    confSafe_within)).trans weirSafe_within).le (by decide)

theorem execFlitNak_runs {up} {lane} {seq} {s} : Runs ⟨frSafe ++ [.link], some blSafe⟩ s (execFlitNak up lane seq s) := by
  unfold execFlitNak
  dsimp only
  split
  · refine .become ?_
    exact .rfl
  · refine .become ?_
    exact (Within.ite ((((Within.ite modLane_within (modLane_within.trans (satInc_within (Fld.inBlocks_self (by rfl))))).trans
      (irq_within (.self (by rfl)))).trans raise_within).trans linkFail_within) (((Within.ite modLane_within (modLane_within.trans
      (satInc_within (Fld.inBlocks_self (by rfl))))).trans (irq_within (.self (by rfl)))).trans raise_within)).le (by decide)

theorem execFlitAck_runs {up} {lane} {seq} {s} : Runs ⟨[.link], some []⟩ s (execFlitAck up lane seq s) := by
  unfold execFlitAck
  dsimp only
  split
  · refine .become ?_
    exact .rfl
  · split
    · refine .become ?_
      exact modLane_within.le (by decide)
    · refine .become ?_
      exact .rfl

theorem execFlitSend_runs {up} {s} : Runs ⟨[.link], some []⟩ s (execFlitSend up s) := by
  unfold execFlitSend
  dsimp only
  split
  · refine .become ?_
    exact .rfl
  · split
    · refine .become ?_
      exact modLane_within.le (by decide)
    · split
      · split
        · refine .become ?_
          exact .rfl
        · refine .become ?_
          exact (modLane_within.trans modLane_within).le (by decide)
      · refine .become ?_
        exact .rfl

theorem execLinkSilence_runs {atWeir} {s} : Runs ⟨frSafe ++ [.link], some blSafe⟩ s (execLinkSilence atWeir s) := by
  unfold execLinkSilence
  refine .become ?_
  exact (Within.ite linkFail_within Within.unchanged).le (by decide)

theorem execWrStoffHiWrite_runs {req} {v} {s} : Runs ⟨frConf ++ [.pages, .weir], some (blConf ++ [0x40A])⟩ s (execWrStoffHiWrite req v s) := by
  unfold execWrStoffHiWrite
  refine .become ?_
  exact (atPage_within (.self) fun _ => stoffHi_within).le (by decide)

theorem execWrTimeLoRead_runs {req} {s} : Runs ⟨frConf ++ [.pages, .weir], some (blConf ++ [0x40A])⟩ s (execWrTimeLoRead req s) := by
  unfold execWrTimeLoRead
  refine .become ?_
  exact (atPage_within (.self) fun _ => timeLo_within).le (by decide)

theorem Chip.latRequest_within {u : Chip} {f} {done} {w} : Within ⟨[.weir], some [0x500]⟩ u (u.latRequest f done w).1 := by
  unfold Chip.latRequest
  dsimp only
  split
  · exact .rfl
  · split
    · exact (satInc_within (Fld.inBlocks_self (by rfl))).le (by decide)
    · split
      · exact ((put_within (Fld.inBlocks_self (by rfl))).trans advance_within).le (by decide)
      · exact ((put_within (Fld.inBlocks_self (by rfl))).trans advance_within).le (by decide)

theorem Chip.latCorrected_within {u : Chip} {bank} {w} : Within ⟨frLog, some [0x409, 0x500]⟩ u (u.latCorrected bank w) := by
  unfold Chip.latCorrected
  exact (((satInc_within (Fld.inBlocks_self (by rfl))).trans (irq_within (.self (by rfl)))).trans raiseAfter_within).le (by decide)

theorem Chip.activeEcc_within {u : Chip} {ecc} {w} : Within ⟨frSafe, some blSafe⟩ u (u.activeEcc ecc w) := by
  unfold Chip.activeEcc
  exact (Within.ite latCorrected_within (Within.ite weirSafe_within Within.unchanged)).le (by decide)

theorem execLatticeLatch_runs {s : State} {ecc w : Nat} : Runs ⟨frSafe, some blSafe⟩ s (execLatticeLatch ecc w s) := by
  unfold execLatticeLatch
  extract_lets u safe b
  split
  · extract_lets upd req bad f u1 words u2 p u3 _ u4
    have h1 : Within ⟨frSafe, some blSafe⟩ s.chip u1 := (put_within (Fld.inBlocks_self (by rfl))).le (by decide)
    have h2 : Within ⟨frSafe, some blSafe⟩ u1 u2 := (Within.ite advance_within .unchanged).le (by decide)
    have h3 : Within ⟨frSafe, some blSafe⟩ u2 u3 := (Within.foldl_fst (p := (u2, [])) fun _ _ => latRequest_within).le (by decide)
    have h4 : Within ⟨frSafe, some blSafe⟩ u3 u4 := lat_within.le (by decide)
    split
    · exact .become .rfl
    · exact .become (.chain activeEcc_within (by decide) (((h1.step h2).step h3).step h4))
  · exact .become .rfl

theorem Chip.signalsUp_within {u : Chip} {v} : Within ⟨[.weir], some [0x500]⟩ u (u.signalsUp v) := by
  unfold Chip.signalsUp
  exact (Within.ite Within.unchanged (Within.foldUpTo fun _ _ => (Within.ite enable_within Within.unchanged))).le (by decide)

theorem Chip.latDenied_within {u : Chip} {num} {reason} {obj} {gate} {t} : Within ⟨frLog, some [0x409, 0x500]⟩ u
  (u.latDenied num reason obj gate t) := by
  unfold Chip.latDenied
  exact (((denyLast_within.trans (wrapInc_within (Fld.inBlocks_self (by rfl)))).trans (irq_within (.self (by rfl)))).trans
    raiseAfter_within).le (by decide)

theorem Chip.latReport_within {u : Chip} {q} : Within ⟨frLog ++ [.lat], some [0x409, 0x500]⟩ u (u.latReport q) := by
  unfold Chip.latReport
  dsimp only
  exact (Within.ite Within.unchanged (Within.ite (wrapInc_within (Fld.inBlocks_self (by rfl))) (latDenied_within.trans lat_within))).le (by decide)

theorem execLatticeCommit_runs {s} : Runs ⟨frLog ++ [.weir, .lat], some [0x409, 0x500]⟩ s (execLatticeCommit s) := by
  unfold execLatticeCommit
  dsimp only
  split
  · refine .become ?_
    exact (((lat_within.trans latSignals_within).trans signalsUp_within).trans (Within.foldl fun _ _ => latReport_within)).le (by decide)
  · refine .become ?_
    exact .rfl

theorem Chip.passEnd_within {u : Chip} : Within ⟨[.lat], some [0x500]⟩ u u.passEnd := by
  unfold Chip.passEnd
  dsimp only
  exact (((((put_within (Fld.inBlocks_self (by rfl))).trans (highWater_within (Fld.inBlocks_self (by rfl)))).trans
    (wrapInc_within (Fld.inBlocks_self (by rfl)))).trans lat_within).trans (put_within (Fld.inBlocks_self (by rfl)))).le (by decide)

theorem execSweepEval_runs {s : State} {ecc w : Nat} : Runs ⟨frSafe, some blSafe⟩ s (execSweepEval ecc w s) := by
  unfold execSweepEval
  extract_lets u0 _ u1 r verdict u2 bad u3 u4
  have h1 : Within ⟨frSafe, some blSafe⟩ s.chip u1 :=
    (Within.ite .unchanged (lat_within.trans (put_within (Fld.inBlocks_self (by rfl))))).le (by decide)
  have h2 : Within ⟨frSafe, some blSafe⟩ u1 u2 := by
    unfold u2
    clear_value verdict
    split
    · exact ((((advance_within.trans lat_within).trans latWithdrawn_within).trans advance_within).trans latSignals_within).le (by decide)
    · exact advance_within.le (by decide)
  have h4 : Within ⟨frSafe, some blSafe⟩ u2 u4 :=
    ((put_within (Fld.inBlocks_self (by rfl))).trans (Within.ite passEnd_within .unchanged)).le (by decide)
  exact .weirDoes (.chain activeEcc_within (by decide) ((h1.step h2).step h4))

theorem execSweepPassTimeout_runs {s} : Runs ⟨frSafe, some blSafe⟩ s (execSweepPassTimeout s) := by
  unfold execSweepPassTimeout
  dsimp only
  refine .weirDoes ?_
  exact (Within.ite (until_within.trans weirSafe_within) Within.unchanged).le (by decide)

theorem execGateQuery_runs {s} : Runs ⟨frLog ++ [.link, .lat], some [0x409, 0x500]⟩ s (execGateQuery s) := by
  unfold execGateQuery
  dsimp only
  split
  · refine .become ?_
    exact .rfl
  · refine .become ?_
    exact (Within.ite (link_lat_within.trans latDenied_within) link_lat_within).le (by decide)

theorem Chip.gateEntryVerdict_within {u : Chip} {c} : Within ⟨frLog ++ [.lat], some [0x409, 0x500]⟩ u (u.gateEntryVerdict c) := by
  unfold Chip.gateEntryVerdict
  dsimp only
  exact (Within.ite lat_within (Within.ite Within.unchanged (lat_within.trans latDenied_within))).le (by decide)

theorem execGateVerdict_runs {s} : Runs ⟨frLog ++ [.link, .lat], some [0x409, 0x500]⟩ s (execGateVerdict s) := by
  unfold execGateVerdict
  dsimp only
  split
  · refine .become ?_
    exact .rfl
  · split
    · refine .become ?_
      exact .rfl
    · refine .become ?_
      exact ((Within.foldl fun _ _ => gateEntryVerdict_within).trans link_lat_within).le (by decide)

theorem execVerdictReceive_runs {s} : Runs ⟨[.link, .zst], some []⟩ s (execVerdictReceive s) := by
  unfold execVerdictReceive
  dsimp only
  split
  · refine .become ?_
    exact link_zst_within.le (by decide)
  · refine .become ?_
    exact link_within.le (by decide)
  · refine .become ?_
    exact .rfl

theorem execLoadBegin_runs {s} : Runs ⟨frConf ++ [.pages, .weir], some blConf⟩ s (execLoadBegin s) := by
  unfold execLoadBegin
  refine .become ?_
  exact (access_within (.self) fun _ => sbLoadBegin_within).le (by decide)

theorem execLoadEnd_runs {s} : Runs ⟨frConf ++ [.pages, .weir], some blConf⟩ s (execLoadEnd s) := by
  unfold execLoadEnd
  refine .become ?_
  exact (access_within (.self) fun _ => sbLoadEnd_within).le (by decide)

theorem execCopy_runs {s} : Runs ⟨frConf ++ [.pages, .weir, .lat], some blConf⟩ s (execCopy s) := by
  unfold execCopy
  refine .become ?_
  exact (access_within (.self) fun _ => sbCopy_within).le (by decide)

theorem execCopyCaptureStart_runs {s} : Runs ⟨[.lat], some []⟩ s (execCopyCaptureStart s) := by
  unfold execCopyCaptureStart
  dsimp only
  refine .become ?_
  exact (Within.ite lat_within Within.unchanged).le (by decide)

theorem execCopyDone_runs {ecc} {w} {s} : Runs ⟨frSafe, some blSafe⟩ s (execCopyDone ecc w s) := by
  unfold execCopyDone
  dsimp only
  split
  · refine .become ?_
    exact (((putStandby_within.trans (put_within (Fld.inBlocks_self (by rfl)))).trans sbDone_within).trans activeEcc_within).le (by decide)
  · refine .become ?_
    exact .rfl

theorem execVerify_runs {s} : Runs ⟨frConf ++ [.pages, .weir], some blConf⟩ s (execVerify s) := by
  unfold execVerify
  refine .become ?_
  exact (access_within (.self) fun _ => sbVerify_within).le (by decide)

theorem Chip.verifyDone_within {u : Chip} {ecc} {w} : Within ⟨frSafe, some blSafe⟩ u (u.verifyDone ecc w) := by
  unfold Chip.verifyDone
  dsimp only
  split
  · exact .rfl
  · refine .chain (((put_within (Fld.inBlocks_self (by rfl))).trans sbDone_within).trans activeEcc_within) (by decide) ?_
    split
    · exact (((((Within.ite ((((Within.ite latCorrected_within Within.unchanged).trans putStandby_within).trans
        (put_within (Fld.inBlocks_self (by rfl)))).trans lat_within) ((((Within.ite latCorrected_within Within.unchanged).trans
        putStandby_within).trans (put_within (Fld.inBlocks_self (by rfl)))).trans lat_within)).trans lat_within).trans
        (put_within (Fld.inBlocks_self (by rfl)))).trans (put_within (Fld.inBlocks_self (by rfl)))).trans
        (put_within (Fld.inBlocks_self (by rfl)))).le (by decide)
    · exact (Within.ite ((((((Within.ite ((((Within.ite latCorrected_within Within.unchanged).trans putStandby_within).trans
        (put_within (Fld.inBlocks_self (by rfl)))).trans lat_within) ((((Within.ite latCorrected_within Within.unchanged).trans
        putStandby_within).trans (put_within (Fld.inBlocks_self (by rfl)))).trans lat_within)).trans lat_within).trans
        (put_within (Fld.inBlocks_self (by rfl)))).trans free_within).trans (put_within (Fld.inBlocks_self (by rfl)))).trans
        (put_within (Fld.inBlocks_self (by rfl)))) (((((Within.ite ((((Within.ite latCorrected_within Within.unchanged).trans putStandby_within).trans
        (put_within (Fld.inBlocks_self (by rfl)))).trans lat_within) ((((Within.ite latCorrected_within Within.unchanged).trans
        putStandby_within).trans (put_within (Fld.inBlocks_self (by rfl)))).trans lat_within)).trans lat_within).trans
        (put_within (Fld.inBlocks_self (by rfl)))).trans (put_within (Fld.inBlocks_self (by rfl)))).trans
        (put_within (Fld.inBlocks_self (by rfl))))).le (by decide)

theorem execVerifyDone_runs {ecc} {w} {s} : Runs ⟨frSafe, some blSafe⟩ s (execVerifyDone ecc w s) := by
  unfold execVerifyDone
  refine .become ?_
  exact verifyDone_within.le (by decide)

theorem execStandbyWrite_runs {req} {a} {b} {s} : Runs ⟨frLog ++ [.lat], some [0x409, 0x500]⟩ s (execStandbyWrite req a b s) := by
  unfold execStandbyWrite
  refine .become ?_
  exact (Within.ite standbyWrite_within Within.unchanged).le (by decide)

theorem execLatSwapArm_runs {arm} {s} : Runs ⟨frConf ++ [.pages, .weir], some blConf⟩ s (execLatSwapArm arm s) := by
  unfold execLatSwapArm
  refine .become ?_
  exact (access_within (.self) fun _ => swapArm_within).le (by decide)

theorem execApplyTime_runs {n} {s} : Runs ⟨frLog ++ [.weir, .sout], some [0x405, 0x409, 0x500]⟩ s (execApplyTime n s) := by
  unfold execApplyTime
  dsimp only
  split
  · refine .become ?_
    exact ((untilWeir_within.trans modOut_within).trans outCommand_within).le (by decide)
  · refine .become ?_
    exact .rfl

theorem Chip.pastDrop_within {u : Chip} {page} {gen} : Within ⟨[.rt], some []⟩ u (u.pastDrop page gen) := by
  unfold Chip.pastDrop
  exact (Within.foldUpTo fun _ _ => modRun_within).le (by decide)

theorem Chip.retainTake_within {u : Chip} {f} : Within ⟨[.rt, .ret], some []⟩ u (u.retainTake f) := by
  unfold Chip.retainTake
  dsimp only
  exact (pastDrop_within.trans ret_within).le (by decide)

theorem execRetainFrame_runs {s} : Runs ⟨[.rt, .ret], some []⟩ s (execRetainFrame s) := by
  unfold execRetainFrame
  dsimp only
  split
  · refine .become ?_
    exact .rfl
  · refine .become ?_
    exact (ret_within.trans retainTake_within).le (by decide)

theorem execRetainWriteTimer_runs {s} : Runs ⟨[.weir, .ret], some []⟩ s (execRetainWriteTimer s) := by
  unfold execRetainWriteTimer
  dsimp only
  refine .become ?_
  exact (Within.ite Within.unchanged (ret_within.trans until_within)).le (by decide)

theorem Chip.gatePush_within {u : Chip} {e} : Within ⟨[.gate], some []⟩ u (u.gatePush e) := by
  unfold Chip.gatePush
  dsimp only
  exact (Within.ite (gate_within.trans answer_within) answer_within).le (by decide)

theorem Chip.gateCmd_within {u : Chip} {svc} {code} {tag} {cv} {args} : Within ⟨frLog ++ [.gate], some [0x409]⟩ u
  (u.gateCmd svc code tag cv args) := by
  unfold Chip.gateCmd
  split
  · exact refuse_within.le (by decide)
  · split
    · exact (raiseAfter_within.trans refuse_within).le (by decide)
    · exact gatePush_within.le (by decide)

theorem execOlcBegin_runs {svc} {tag} {cv} {s} : Runs ⟨frLog ++ [.gate], some [0x409]⟩ s (execOlcBegin svc tag cv s) := by
  unfold execOlcBegin
  refine .become ?_
  exact gateCmd_within.le (by decide)

theorem execOlcLoad_runs {svc} {tag} {cv} {target} {off} {data} {s} : Runs ⟨frLog ++ [.gate], some [0x409]⟩ s
  (execOlcLoad svc tag cv target off data s) := by
  unfold execOlcLoad
  refine .become ?_
  exact gateCmd_within.le (by decide)

theorem execOlcPrepare_runs {svc} {tag} {cv} {newCv} {latCv} {weirCv} {off} {n} {s} : Runs ⟨frLog ++ [.gate], some [0x409]⟩ s
  (execOlcPrepare svc tag cv newCv latCv weirCv off n s) := by
  unfold execOlcPrepare
  refine .become ?_
  exact gateCmd_within.le (by decide)

theorem execOlcSwap_runs {svc} {tag} {cv} {newCv} {n} {s} : Runs ⟨frLog ++ [.gate], some [0x409]⟩ s (execOlcSwap svc tag cv newCv n s) := by
  unfold execOlcSwap
  refine .become ?_
  exact gateCmd_within.le (by decide)

theorem execOlcAbort_runs {svc} {tag} {cv} {s} : Runs ⟨frLog ++ [.gate], some [0x409]⟩ s (execOlcAbort svc tag cv s) := by
  unfold execOlcAbort
  refine .become ?_
  exact gateCmd_within.le (by decide)

theorem execForceSet_runs {svc} {tag} {cv} {vkey} {ikey} {sig} {off} {width} {bit} {value} {s} : Runs ⟨frLog ++ [.gate], some [0x409]⟩ s
  (execForceSet svc tag cv vkey ikey sig off width bit value s) := by
  unfold execForceSet
  refine .become ?_
  exact gateCmd_within.le (by decide)

theorem execForceClear_runs {svc} {tag} {cv} {vkey} {s} : Runs ⟨frLog ++ [.gate], some [0x409]⟩ s (execForceClear svc tag cv vkey s) := by
  unfold execForceClear
  refine .become ?_
  exact gateCmd_within.le (by decide)

theorem execForceClearAll_runs {svc} {tag} {cv} {s} : Runs ⟨frLog ++ [.gate], some [0x409]⟩ s (execForceClearAll svc tag cv s) := by
  unfold execForceClearAll
  refine .become ?_
  exact gateCmd_within.le (by decide)

theorem execErrInject_runs {svc} {tag} {cv} {pg} {v} {s} : Runs ⟨frLog ++ [.gate], some [0x409]⟩ s (execErrInject svc tag cv pg v s) := by
  unfold execErrInject
  refine .become ?_
  exact gateCmd_within.le (by decide)

theorem execSinReset_runs {svc} {tag} {cv} {mask} {s} : Runs ⟨frLog ++ [.gate], some [0x409]⟩ s (execSinReset svc tag cv mask s) := by
  unfold execSinReset
  dsimp only
  refine .become ?_
  exact ((Within.ite gate_within Within.unchanged).trans gateCmd_within).le (by decide)

theorem execSoutReset_runs {svc} {tag} {cv} {mask} {s} : Runs ⟨frLog ++ [.gate], some [0x409]⟩ s (execSoutReset svc tag cv mask s) := by
  unfold execSoutReset
  dsimp only
  refine .become ?_
  exact ((Within.ite gate_within Within.unchanged).trans gateCmd_within).le (by decide)

theorem execPercFuseCmd_runs {svc} {tag} {cv} {c} {m} {sp} {s} : Runs ⟨frLog ++ [.gate], some [0x409]⟩ s (execPercFuseCmd svc tag cv c m sp s) := by
  unfold execPercFuseCmd
  dsimp only
  refine .become ?_
  exact ((Within.ite gate_within Within.unchanged).trans gateCmd_within).le (by decide)

theorem execCfgConfirm_runs {svc} {tag} {cv} {s} : Runs ⟨frLog ++ [.gate], some [0x409]⟩ s (execCfgConfirm svc tag cv s) := by
  unfold execCfgConfirm
  refine .become ?_
  exact (Within.ite refuse_within gateCmd_within).le (by decide)

theorem execKeyLoad_runs {svc} {tag} {cv} {slot} {phase} {key} {kcv} {s} : Runs ⟨frLog ++ [.gate], some [0x409]⟩ s
  (execKeyLoad svc tag cv slot phase key kcv s) := by
  unfold execKeyLoad
  refine .become ?_
  exact gateCmd_within.le (by decide)

theorem execKeyPhase_runs {svc} {tag} {cv} {slot} {phase} {clear} {s} : Runs ⟨frLog ++ [.gate], some [0x409]⟩ s
  (execKeyPhase svc tag cv slot phase clear s) := by
  unfold execKeyPhase
  refine .become ?_
  exact gateCmd_within.le (by decide)

theorem execFwActivate_runs {svc} {tag} {cv} {slot} {at'} {digest} {s} : Runs ⟨frLog ++ [.gate, .com], some [0x409]⟩ s
  (execFwActivate svc tag cv slot at' digest s) := by
  unfold execFwActivate
  dsimp only
  split
  · refine .become ?_
    exact refuse_within.le (by decide)
  · refine .become ?_
    exact ((Within.ite com_within Within.unchanged).trans gateCmd_within).le (by decide)

theorem execFwCancel_runs {svc} {tag} {cv} {s} : Runs ⟨frLog ++ [.gate], some [0x409]⟩ s (execFwCancel svc tag cv s) := by
  unfold execFwCancel
  refine .become ?_
  exact gateCmd_within.le (by decide)

theorem Chip.resetCmd_within {u : Chip} {svc : Bool} {code tag cv : Nat} {args : List Byte} {more : List
  (Bool × Nat)} {effect : Chip → Chip} {S : Scope}
    (hbase : Scope.sub ⟨frLog ++ [.gate], some [0x407, 0x409]⟩ S = true) (heffect : ∀ t, Within S t (effect t)) :
    Within S u (u.resetCmd svc code tag cv args more effect) := by
  have hput : ∀ v : Nat, Within ⟨frLog ++ [.gate], some [0x407, 0x409]⟩ u (u.put Reg.FLT_STAT.LAST_RST v) :=
    fun v => (put_within (Fld.inBlocks_self (by rfl))).le (by decide)
  unfold Chip.resetCmd
  split
  · exact (refuse_within.le (b := ⟨frLog ++ [.gate], some [0x407, 0x409]⟩) (by decide)).le hbase
  · split
    · exact ((raiseAfter_within.trans refuse_within).le (b := ⟨frLog ++ [.gate], some [0x407, 0x409]⟩) (by decide)).le hbase
    · split
      · exact (Within.chain (raiseAfter_within.trans refuse_within) (by decide) (hput _)).le hbase
      · split
        · exact ((Within.chain gatePush_within (by decide) (hput _)).le hbase).step (heffect _)
        · exact (answer_within.le (b := ⟨frLog ++ [.gate], some [0x407, 0x409]⟩) (by decide)).le hbase

theorem Chip.lockoutReset_within {u : Chip} {tag} : Within ⟨frLog ++ [.com, .boot], some [0x407, 0x409]⟩ u (u.lockoutReset tag) := by
  unfold Chip.lockoutReset
  dsimp only
  exact (((free_within.trans raiseAfter_within).trans (put_within (Fld.inBlocks_self (by rfl)))).trans resetRequest_within).le (by decide)

theorem execLockoutReset_runs {s : State} {svc : Bool} {tag cv : Nat} :
    Runs ⟨frLog ++ [.gate, .com, .boot], some [0x407, 0x409]⟩ s (execLockoutReset svc tag cv s) :=
  .become (resetCmd_within (by decide) fun _ => lockoutReset_within.le (by decide))

theorem Chip.channelReset_within {u : Chip} {c} : Within ⟨frConf ++ [.chans, .weir, .rt, .perc], some (blConf ++ [0x402, 0x40B, 0x446])⟩ u
  (u.channelReset c) := by
  unfold Chip.channelReset
  exact (Within.ite Within.unchanged ((Within.ite chLost_within Within.unchanged).trans chReset_within)).le (by decide)

theorem execChannelReset_runs {s : State} {svc : Bool} {tag cv c : Nat} :
    Runs ⟨frConf ++ [.chans, .weir, .gate, .rt, .perc], some (blConf ++ [0x402, 0x40B, 0x446])⟩ s (execChannelReset svc tag cv c s) :=
  .become (resetCmd_within (by decide) fun _ => channelReset_within.le (by decide))

theorem execColdRestart_runs {s : State} {svc : Bool} {tag cv : Nat} :
    Runs ⟨frLog ++ [.gate, .com, .boot], some [0x407, 0x409]⟩ s (execColdRestart svc tag cv s) :=
  .become (resetCmd_within (by decide) fun _ => resetRequest_within.le (by decide))

theorem Chip.weirCfgCheck_within {u : Chip} : Within ⟨frSafe, some blSafe⟩ u u.weirCfgCheck := by
  unfold Chip.weirCfgCheck
  exact (Within.ite (modWeir_within (fun _ => by rfl)) ((modWeir_within (fun _ => by rfl)).trans weirSafe_within)).le (by decide)

theorem Chip.putReg_within {u : Chip} {a} {v} : Within ⟨[], none⟩ u (u.putReg a v) := by
  unfold Chip.putReg
  exact (Within.foldl fun _ _ => putPiece_within).le (by rfl)

theorem Chip.cfgCvWritten_within {u : Chip} : Within ⟨frLog, some [0x407, 0x409]⟩ u u.cfgCvWritten := by
  unfold Chip.cfgCvWritten
  dsimp only
  exact (Within.ite (put_within (Fld.inBlocks_self (by rfl))) (Within.ite ((put_within (Fld.inBlocks_self (by rfl))).trans
    (put_within (Fld.inBlocks_self (by rfl)))) ((((put_within (Fld.inBlocks_self (by rfl))).trans (put_within (Fld.inBlocks_self (by rfl)))).trans
    raiseAfter_within).trans nonsafetyFault_within))).le (by decide)

theorem Chip.actWritten_within {u : Chip} {v} : Within ⟨[.com], some []⟩ u (u.actWritten v) := by
  unfold Chip.actWritten
  dsimp only
  exact com_within.le (by decide)

theorem Chip.loaderWrite_within {u : Chip} {e} : Within ⟨frSafe ++ [.sin, .perc, .ret, .com], none⟩ u (u.loaderWrite e) := by
  unfold Chip.loaderWrite
  dsimp only
  split
  · exact fuseWrite_within.le (by rfl)
  · split
    · exact (Within.ite (errInj_within .self) (planeRefused_within .self)).le (by rfl)
    · split
      · exact (modWeir_within (fun _ => by rfl)).le (by rfl)
      · exact (modWeir_within (fun _ => by rfl)).le (by rfl)
      · exact (putReg_within.trans weirCfgCheck_within).le (by rfl)
      · exact swapArm_within.le (by rfl)
      · exact stoffLo_within.le (by rfl)
      · exact stoffHi_within.le (by rfl)
      · exact (putReg_within.trans (put_within (Fld.inBlocks_self (by rfl)))).le (by rfl)
      · exact claimWrite_within.le (by rfl)
      · exact sinUnlockWrite_within.le (by rfl)
      · exact sinUnlockWrite_within.le (by rfl)
      · exact soutUnlockWrite_within.le (by rfl)
      · exact (putReg_within.trans cfgCvWritten_within).le (by rfl)
      · exact (put_within (Fld.inBlocks_self (by rfl))).le (by rfl)
      · exact (putReg_within.trans actWritten_within).le (by rfl)
      · exact (Within.ite Within.unchanged putReg_within).le (by rfl)

theorem Chip.recordOrder_within {u : Chip} {l} : Within ⟨[.com], some []⟩ u (u.recordOrder l) := by
  unfold Chip.recordOrder
  dsimp only
  split
  · exact .rfl
  · exact com_within.le (by decide)

theorem Chip.configChange_within {u : Chip} {pg} {prev} : Within ⟨frLog, some [0x409]⟩ u (u.configChange pg prev) := by
  unfold Chip.configChange
  exact raiseAfter_within.le (by decide)

theorem Chip.loaderFrame_within {u : Chip} {conn} {f} : Within ⟨frSafe ++ [.pages, .link, .sin, .perc, .ret, .com], none⟩ u
  (u.loaderFrame conn f) := by
  unfold Chip.loaderFrame
  split
  · exact raiseAfter_within.le (by rfl)
  · exact (free_within.trans raiseAfter_within).le (by rfl)
  · extract_lets l pgs prev v
    have hv : Within ⟨frSafe ++ [.pages, .link, .sin, .perc, .ret, .com], none⟩ u v :=
      Within.foldl fun _ _ => (access_within .self fun _ => loaderWrite_within).le (by rfl)
    exact .chain ((Within.foldl fun _ _ => configChange_within).trans recordOrder_within) (by rfl) hv

theorem execLoaderFrame_runs {s} : Runs ⟨frSafe ++ [.pages, .link, .gate, .sin, .perc, .ret, .com], none⟩ s (execLoaderFrame s) := by
  unfold execLoaderFrame
  dsimp only
  split
  · refine .become ?_
    exact .rfl
  · refine .become ?_
    exact (gate_within.trans loaderFrame_within).le (by rfl)

theorem execServiceConnected_runs {s} : Runs ⟨[.weir, .svc], some []⟩ s (execServiceConnected s) := by
  unfold execServiceConnected
  dsimp only
  split
  · refine .become ?_
    exact (until_within.trans svc_within).le (by decide)
  · refine .become ?_
    exact .rfl

theorem Chip.gateDiscard_within {u : Chip} : Within ⟨frLog ++ [.gate], some [0x409]⟩ u u.gateDiscard := by
  unfold Chip.gateDiscard
  dsimp only
  exact (gate_within.trans (Within.foldl fun _ _ => fwRaise_within)).le (by decide)

theorem execServiceLinkLoss_runs {s} : Runs ⟨frLog ++ [.gate, .svc], some [0x409, 0x44A]⟩ s (execServiceLinkLoss s) := by
  unfold execServiceLinkLoss
  dsimp only
  refine .become ?_
  exact (((put_within (Fld.inBlocks_self (by rfl))).trans svc_within).trans gateDiscard_within).le (by decide)

theorem Chip.modTout_within {u : Chip} {j} {g} : Within ⟨[.sin], some []⟩ u (u.modTout j g) := by
  unfold Chip.modTout
  dsimp only
  exact sin_within.le (by decide)

theorem Chip.toutRelease_within {u : Chip} {j} : Within ⟨[.sin], some []⟩ u (u.toutRelease j) := by
  unfold Chip.toutRelease
  exact (Within.ite modTout_within Within.unchanged).le (by decide)

theorem Chip.modSinIn_within {u : Chip} {n} {g} : Within ⟨[.sin], some []⟩ u (u.modSinIn n g) := by
  unfold Chip.modSinIn
  dsimp only
  exact sin_within.le (by decide)

theorem Chip.sinRaw_within {u : Chip} {n} {s} : Within ⟨[.sin], some [0x404]⟩ u (u.sinRaw n s) := by
  unfold Chip.sinRaw
  dsimp only
  exact (((Within.ite (satInc_within (Reg.SIN_ST.GLITCH_in)) Within.unchanged).trans (put_within (Reg.SIN_ST.RAW_in))).trans
    modSinIn_within).le (by decide)

theorem Chip.toutJudge_within {u : Chip} {j} : Within ⟨[.sin], some []⟩ u (u.toutJudge j) := by
  unfold Chip.toutJudge
  exact (Within.ite (Within.foldl fun _ _ => (Within.ite Within.unchanged modSinIn_within)) (Within.ite (Within.foldl fun _ _ =>
    (Within.ite modSinIn_within Within.unchanged)) Within.unchanged)).le (by decide)

theorem Chip.toutDiscard_within {u : Chip} {j} {n} : Within ⟨[.sin], some [0x404]⟩ u (u.toutDiscard j n) := by
  unfold Chip.toutDiscard
  dsimp only
  exact (((put_within (Reg.SIN_ST.FILT_in)).trans modSinIn_within).trans (satInc_within (Fld.inBlocks_self (by rfl)))).le (by decide)

theorem Chip.toutFinish_within {u : Chip} {j} : Within ⟨[.sin], some [0x404]⟩ u (u.toutFinish j) := by
  unfold Chip.toutFinish
  dsimp only
  exact (Within.ite (((Within.foldl fun _ _ => (Within.ite toutDiscard_within modSinIn_within)).trans modTout_within).trans
    (put_within (Fld.inBlocks_self (by rfl)))) Within.unchanged).le (by decide)

theorem Chip.sinFilter_within {u : Chip} {n} {s} : Within ⟨[.sin], some [0x404]⟩ u (u.sinFilter n s) := by
  unfold Chip.sinFilter
  dsimp only
  exact (Within.ite modSinIn_within (Within.ite ((put_within (Reg.SIN_ST.FILT_in)).trans modSinIn_within) modSinIn_within)).le (by decide)

theorem Chip.sinState_within {u : Chip} {n} {st} : Within ⟨[], some [0x404]⟩ u (u.sinState n st) := by
  unfold Chip.sinState
  exact ((put_within (Reg.SIN_ST.STATE_in)).trans (putBit_within (Fld.inBlocks_self (by rfl)))).le (by decide)

theorem Chip.sinStart_within {u : Chip} {n} : Within ⟨[], some [0x404]⟩ u (u.sinStart n) := by
  unfold Chip.sinStart
  dsimp only
  exact (Within.foldl fun _ _ => (sinState_within.trans (put_within (Reg.SIN_ST.GSTEP_in))).trans (put_within (Reg.SIN_ST.CAUSE_in))).le (by decide)

theorem Chip.sinUnlock_within {u : Chip} {mask} {path} {tag} : Within ⟨frLog, some [0x404, 0x409]⟩ u (u.sinUnlock mask path tag) := by
  unfold Chip.sinUnlock
  dsimp only
  exact (Within.ite (Within.ite (Within.foldl fun _ _ => sinStart_within) (((Within.foldl fun _ _ => sinStart_within).trans
    (irq_within (.self (by rfl)))).trans
    raiseAfter_within)) (((Within.ite (Within.foldl fun _ _ => sinStart_within) (((Within.foldl fun _ _ => sinStart_within).trans
    (irq_within (.self (by rfl)))).trans raiseAfter_within)).trans (irq_within (.self (by rfl)))).trans raiseAfter_within)).le (by decide)

theorem Chip.sinRequests_within {u : Chip} : Within ⟨frLog ++ [.sin], some [0x404, 0x409]⟩ u u.sinRequests := by
  unfold Chip.sinRequests
  dsimp only
  exact (Within.ite (Within.ite Within.unchanged ((put_within (Fld.inBlocks_self (by rfl))).trans
    sinUnlock_within)) (((Within.ite Within.unchanged ((put_within (Fld.inBlocks_self (by rfl))).trans sinUnlock_within)).trans sin_within).trans
    sinUnlock_within)).le (by decide)

theorem Chip.sinLogical_within {u : Chip} {n} {v} {stamp} : Within ⟨[.sin], some [0x404]⟩ u (u.sinLogical n v stamp) := by
  unfold Chip.sinLogical
  dsimp only
  exact (Within.ite Within.unchanged (Within.ite (((putBit_within (Fld.inBlocks_self (by rfl))).trans modSinIn_within).trans
    (put_within (Reg.SIN_PROOF.PROOF_in))) ((putBit_within (Fld.inBlocks_self (by rfl))).trans modSinIn_within))).le (by decide)

theorem Chip.sinLockout_within {u : Chip} {n} {cause} {s} {info} : Within ⟨frLog ++ [.sin], some [0x404, 0x409]⟩ u (u.sinLockout n cause s info) := by
  unfold Chip.sinLockout
  dsimp only
  exact (Within.ite Within.unchanged ((((Within.foldl fun _ _ => ((sinState_within.trans (put_within (Reg.SIN_ST.CAUSE_in))).trans
    (put_within (Reg.SIN_ST.GSTEP_in))).trans sinLogical_within).trans (satInc_within (Fld.inBlocks_self (by rfl)))).trans
    (irq_within (.self (by rfl)))).trans raiseAfter_within)).le (by decide)

theorem Chip.toutFail_within {u : Chip} {j} : Within ⟨frLog ++ [.sin], some [0x404, 0x409]⟩ u (u.toutFail j) := by
  unfold Chip.toutFail
  dsimp only
  exact (Within.ite (Within.ite (Within.foldl fun _ _ => sinLockout_within.trans modSinIn_within) ((((Within.foldl fun _ _ => sinLockout_within.trans
    modSinIn_within).trans (setBit_within (Fld.inBlocks_self (by rfl)))).trans (irq_within (.self (by rfl)))).trans
    raiseAfter_within)) Within.unchanged).le (by decide)

theorem Chip.setDisc_within {u : Chip} {k} {d} : Within ⟨[.sin], some [0x404]⟩ u (u.setDisc k d) := by
  unfold Chip.setDisc
  dsimp only
  exact ((sin_within.trans (put_within (Reg.SIN_ST.DISC_in))).trans (put_within (Reg.SIN_ST.DISC_in))).le (by decide)

theorem Chip.sinDiscrepancy_within {u : Chip} {k} {s} : Within ⟨frLog ++ [.sin], some [0x404, 0x409]⟩ u (u.sinDiscrepancy k s) := by
  unfold Chip.sinDiscrepancy
  dsimp only
  split
  · exact (Within.ite (setDisc_within.trans sinLockout_within) (Within.ite setDisc_within Within.unchanged)).le (by decide)
  · exact (Within.ite Within.unchanged (setDisc_within.trans (irq_within (.self (by rfl))))).le (by decide)

theorem Chip.sinLogic_within {u : Chip} {h} {s} : Within ⟨frLog ++ [.sin], some [0x404, 0x409]⟩ u (u.sinLogic h s) := by
  unfold Chip.sinLogic
  dsimp only
  split
  · split
    · exact (Within.ite (Within.foldl fun _ _ => (put_within (Reg.SIN_ST.GSTEP_in))) (Within.ite (((Within.foldl fun _ _ => ((sinState_within.trans
        (put_within (Reg.SIN_ST.GSTEP_in))).trans sinLogical_within).trans (put_within (Reg.SIN_PROOF.PROOF_in))).trans
        (irq_within (.self (by rfl)))).trans raiseAfter_within) Within.unchanged)).le (by decide)
    · exact (Within.ite (Within.foldl fun _ _ => (put_within (Reg.SIN_ST.GSTEP_in))) Within.unchanged).le (by decide)
    · exact .rfl
  · exact (Within.ite (Within.foldl fun _ _ => sinLogical_within) Within.unchanged).le (by decide)

theorem Chip.sinAck_within {u : Chip} {wasHigh} : Within ⟨[.sin], some []⟩ u (u.sinAck wasHigh) := by
  unfold Chip.sinAck
  dsimp only
  split
  · exact .rfl
  · split
    · exact sin_within.le (by decide)
    · split
      · split
        · exact sin_within.le (by decide)
        · exact .rfl
      · exact .rfl

theorem Chip.toutFallDue_within {u : Chip} {j} : Within ⟨[.sin], some []⟩ u (u.toutFallDue j) := by
  unfold Chip.toutFallDue
  split
  · exact (Within.ite modTout_within Within.unchanged).le (by decide)
  · exact .rfl

theorem Chip.toutBegin_within {u : Chip} {j} : Within ⟨[.sin], some [0x404]⟩ u (u.toutBegin j) := by
  unfold Chip.toutBegin
  dsimp only
  exact (Within.ite (((((highWater_within (Fld.inBlocks_self (by rfl))).trans
    (Within.foldUpTo fun _ _ => (Within.ite modSinIn_within Within.unchanged))).trans modTout_within).trans
    (put_within (Fld.inBlocks_self (by rfl)))).trans (clearBit_within (Fld.inBlocks_self (by rfl)))) Within.unchanged).le (by decide)

theorem Chip.sinProcess_within {u : Chip} : Within ⟨frLog ++ [.sin], some [0x404, 0x409]⟩ u u.sinProcess := by
  unfold Chip.sinProcess
  dsimp only
  exact (((((((((((((Within.foldUpTo fun _ _ => toutRelease_within).trans (Within.foldUpTo fun _ _ => sinRaw_within)).trans
    (Within.foldUpTo fun _ _ => toutJudge_within)).trans (Within.foldUpTo fun _ _ => toutFinish_within)).trans
    (Within.foldl fun _ _ => sinFilter_within)).trans sinRequests_within).trans (Within.foldUpTo fun _ _ => toutFail_within)).trans
    (Within.foldl fun _ _ => sinDiscrepancy_within)).trans (Within.foldl fun _ _ => sinLogic_within)).trans sinAck_within).trans
    (Within.foldUpTo fun _ _ => toutFallDue_within)).trans (Within.foldUpTo fun _ _ => toutBegin_within)).trans sin_within).le (by decide)

theorem execSinSample_runs {s} : Runs ⟨frLog ++ [.weir, .sin], some [0x404, 0x409]⟩ s (execSinSample s) := by
  unfold execSinSample
  refine .become ?_
  exact (Within.ite (untilWeir_within.trans sinProcess_within) Within.unchanged).le (by decide)

theorem execSinEdge_runs {n} {level} {dt} {s} : Runs ⟨[.weir, .sin], some []⟩ s (execSinEdge n level dt s) := by
  unfold execSinEdge
  dsimp only
  refine .become ?_
  exact (advance_within.trans modSinIn_within).le (by decide)

theorem Chip.samplesTo_within {u : Chip} {t} : Within ⟨frLog ++ [.weir, .sin], some [0x404, 0x409]⟩ u (u.samplesTo t) := by
  unfold Chip.samplesTo
  exact (Within.ite (Within.foldUpTo fun _ _ => untilWeir_within.trans sinProcess_within) Within.unchanged).le (by decide)

theorem execSinFilterExpiry_runs {n} {s} : Runs ⟨frLog ++ [.weir, .sin], some [0x404, 0x409]⟩ s (execSinFilterExpiry n s) := by
  unfold execSinFilterExpiry
  dsimp only
  split
  · refine .become ?_
    exact .rfl
  · refine .become ?_
    exact (Within.ite samplesTo_within Within.unchanged).le (by decide)

theorem execSinDiscTimeout_runs {k} {s} : Runs ⟨frLog ++ [.weir, .sin], some [0x404, 0x409]⟩ s (execSinDiscTimeout k s) := by
  unfold execSinDiscTimeout
  dsimp only
  split
  · refine .become ?_
    exact .rfl
  · refine .become ?_
    exact samplesTo_within.le (by decide)

theorem execSinUnlockWrite_runs {req} {mask} {tag} {s} : Runs ⟨frConf ++ [.pages, .weir, .sin], some (blConf ++ [0x404, 0x40A])⟩ s
  (execSinUnlockWrite req mask tag s) := by
  unfold execSinUnlockWrite
  refine .become ?_
  exact (atPage_within (.self) fun _ => sinUnlockWrite_within).le (by decide)

theorem execToutDue_runs {j} {s} : Runs ⟨[.weir, .sin], some []⟩ s (execToutDue j s) := by
  unfold execToutDue
  dsimp only
  split
  · refine .become ?_
    exact .rfl
  · refine .become ?_
    exact (Within.ite (untilWeir_within.trans toutFallDue_within) Within.unchanged).le (by decide)

theorem execToutPulseStart_runs {j} {s} : Runs ⟨frLog ++ [.weir, .sin], some [0x404, 0x409]⟩ s (execToutPulseStart j s) := by
  unfold execToutPulseStart
  dsimp only
  refine .become ?_
  exact (Within.ite samplesTo_within Within.unchanged).le (by decide)

theorem execToutPulseEnd_runs {j} {s} : Runs ⟨frLog ++ [.weir, .sin], some [0x404, 0x409]⟩ s (execToutPulseEnd j s) := by
  unfold execToutPulseEnd
  refine .become ?_
  exact (Within.ite samplesTo_within Within.unchanged).le (by decide)

theorem execToutRecoveryEnd_runs {j} {s} : Runs ⟨frLog ++ [.weir, .sin], some [0x404, 0x409]⟩ s (execToutRecoveryEnd j s) := by
  unfold execToutRecoveryEnd
  refine .become ?_
  exact (Within.ite samplesTo_within Within.unchanged).le (by decide)

theorem Chip.outLockout_within {u : Chip} {n} {cause} {fb} {env} {at_} : Within ⟨frLog ++ [.weir, .sout], some [0x405, 0x409, 0x500]⟩ u
  (u.outLockout n cause fb env at_) := by
  unfold Chip.outLockout
  dsimp only
  exact (Within.ite (put_within (Reg.SOUT_ST.CAUSE_in)) ((((Within.ite ((((Within.foldl fun _ _ => outEnter_within.trans
    (put_within (Reg.SOUT_ST.CAUSE_in))).trans (put_within (Reg.SOUT_ST.CAUSE_in))).trans (setBit_within (Fld.inBlocks_self (by rfl)))).trans
    (irq_within (.self (by rfl)))) (((Within.foldl fun _ _ => outEnter_within.trans (put_within (Reg.SOUT_ST.CAUSE_in))).trans
    (put_within (Reg.SOUT_ST.CAUSE_in))).trans (setBit_within (Fld.inBlocks_self (by rfl))))).trans
    (satInc_within (Fld.inBlocks_self (by rfl)))).trans (irq_within (.self (by rfl)))).trans raiseSince_within)).le (by decide)

theorem Chip.outPulseEnd_within {u : Chip} {n} : Within ⟨frLog ++ [.weir, .sout], some [0x405, 0x409, 0x500]⟩ u (u.outPulseEnd n) := by
  unfold Chip.outPulseEnd
  exact (Within.ite (Within.ite ((put_within (Reg.SOUT_ST.STATE_in)).trans demand_within) outLockout_within) Within.unchanged).le (by decide)

theorem Chip.soutUnlock_within {u : Chip} {mask} {path} {tag} : Within ⟨frLog ++ [.weir, .sout], some [0x405, 0x409, 0x500]⟩ u
  (u.soutUnlock mask path tag) := by
  unfold Chip.soutUnlock
  dsimp only
  exact (Within.ite (Within.ite (Within.foldl fun _ _ => (Within.foldl fun _ _ => outEnter_within.trans (put_within (Reg.SOUT_ST.CAUSE_in))).trans
    (clearBit_within (Fld.inBlocks_self (by rfl)))) (((Within.foldl fun _ _ => (Within.foldl fun _ _ => outEnter_within.trans
    (put_within (Reg.SOUT_ST.CAUSE_in))).trans (clearBit_within (Fld.inBlocks_self (by rfl)))).trans (irq_within (.self (by rfl)))).trans
    raiseAfter_within)) (((Within.ite (Within.foldl fun _ _ => (Within.foldl fun _ _ => outEnter_within.trans
    (put_within (Reg.SOUT_ST.CAUSE_in))).trans
    (clearBit_within (Fld.inBlocks_self (by rfl)))) (((Within.foldl fun _ _ => (Within.foldl fun _ _ => outEnter_within.trans
    (put_within (Reg.SOUT_ST.CAUSE_in))).trans (clearBit_within (Fld.inBlocks_self (by rfl)))).trans (irq_within (.self (by rfl)))).trans
    raiseAfter_within)).trans (irq_within (.self (by rfl)))).trans raiseAfter_within)).le (by decide)

theorem Chip.soutRequests_within {u : Chip} : Within ⟨frLog ++ [.weir, .sout], some [0x405, 0x409, 0x500]⟩ u u.soutRequests := by
  unfold Chip.soutRequests
  dsimp only
  exact (Within.ite (Within.ite Within.unchanged ((put_within (Fld.inBlocks_self (by rfl))).trans
    soutUnlock_within)) (((Within.ite Within.unchanged ((put_within (Fld.inBlocks_self (by rfl))).trans soutUnlock_within)).trans sout_within).trans
    soutUnlock_within)).le (by decide)

theorem Chip.outAwaitEnv_within {u : Chip} {n} {j} : Within ⟨[.sout], some []⟩ u (u.outAwaitEnv n j) := by
  unfold Chip.outAwaitEnv
  exact (Within.ite Within.unchanged modOut_within).le (by decide)

theorem Chip.outSample_within {u : Chip} {n} : Within ⟨frLog ++ [.weir, .sout], some [0x405, 0x409, 0x500]⟩ u (u.outSample n) := by
  unfold Chip.outSample
  dsimp only
  split
  · exact (Within.ite (Within.ite ((outLockout_within.trans (irq_within (.self (by rfl)))).trans
      raiseAfter_within) outLockout_within) Within.unchanged).le (by decide)
  · split
    · split
      · exact (((cancelTests_within.trans (put_within (Reg.SOUT_ST.STATE_in))).trans (put_within (Reg.SOUT_ST.PASSES_in))).trans
          modOut_within).le (by decide)
      · split
        · exact (Within.ite outAwaitEnv_within Within.unchanged).le (by decide)
        · exact .rfl
    · exact (Within.ite (Within.ite Within.unchanged outAwaitEnv_within) (Within.ite (Within.ite modOut_within Within.unchanged) (Within.ite
        (Within.ite Within.unchanged (Within.ite ((put_within (Reg.SOUT_ST.STATE_in)).trans
        (satInc_within (Reg.SOUT_ST.PASSES_in))) (Within.ite outAwaitEnv_within Within.unchanged))) Within.unchanged))).le (by decide)

theorem Chip.soutReset_within {u : Chip} : Within ⟨[.sout], some []⟩ u u.soutReset := by
  unfold Chip.soutReset
  dsimp only
  exact (Within.ite Within.unchanged (Within.ite sout_within sout_within)).le (by decide)

theorem execSoutSample_runs {fb} {s} : Runs ⟨frLog ++ [.weir, .sout], some [0x405, 0x409, 0x500]⟩ s (execSoutSample fb s) := by
  unfold execSoutSample
  dsimp only
  split
  · refine .become ?_
    exact .rfl
  · refine .become ?_
    exact ((((((untilWeir_within.trans (Within.foldl fun _ _ => outPulseEnd_within)).trans (put_within (Fld.inBlocks_self (by rfl)))).trans
      soutRequests_within).trans (Within.foldl fun _ _ => outSample_within)).trans soutReset_within).trans sout_within).le (by decide)

theorem execEnvRead_runs {s} : Runs ⟨[.weir, .sout], some []⟩ s (execEnvRead s) := by
  unfold execEnvRead
  dsimp only
  refine .become ?_
  exact ((Within.ite Within.unchanged untilWeir_within).trans sout_within).le (by decide)

theorem Chip.envUpdate_within {u : Chip} : Within ⟨[.sout], some [0x405]⟩ u u.envUpdate := by
  unfold Chip.envUpdate
  dsimp only
  exact ((put_within (Fld.inBlocks_self (by rfl))).trans (Within.foldl fun _ _ => modOut_within)).le (by decide)

theorem Chip.outJudged_within {u : Chip} {n} {j} {env} : Within ⟨frLog ++ [.weir, .sout], some [0x405, 0x409, 0x500]⟩ u (u.outJudged n j env) := by
  unfold Chip.outJudged
  dsimp only
  split
  · exact ((modOut_within.trans outEnter_within).trans testDiscarded_within).le (by decide)
  · exact (modOut_within.trans outLockout_within).le (by decide)
  · exact (modOut_within.trans outEnter_within).le (by decide)
  · exact (modOut_within.trans outLockout_within).le (by decide)
  · exact (modOut_within.trans outLockout_within).le (by decide)
  · exact (modOut_within.trans modOut_within).le (by decide)

theorem execEnvReadDone_runs {s : State} : Runs ⟨frLog ++ [.weir, .sout], some [0x405, 0x409, 0x500]⟩ s (execEnvReadDone s) := by
  unfold execEnvReadDone
  extract_lets u
  split
  · exact .become .rfl
  · extract_lets v en
    have hread : Within ⟨frLog ++ [.weir, .sout], some [0x405, 0x409, 0x500]⟩ s.chip v := (sout_within.trans envUpdate_within).le (by decide)
    refine .become (hread.step (Within.foldl fun x n => ?_))
    split
    · split
      · exact outJudged_within.le (by decide)
      · exact .rfl
    · exact .rfl

theorem execSoutTestDue_runs {n} {ls} {s} : Runs ⟨[.weir], some []⟩ s (execSoutTestDue n ls s) := by
  unfold execSoutTestDue
  split
  · refine .become ?_
    exact untilWeir_within.le (by decide)
  · refine .become ?_
    exact .rfl

theorem Chip.pulseBegin_within {u : Chip} {n} {ls} : Within ⟨[.weir, .sout], some [0x405, 0x500]⟩ u (u.pulseBegin n ls) := by
  unfold Chip.pulseBegin
  dsimp only
  split
  · exact .rfl
  · exact (Within.ite ((((Within.ite ((highWater_within (Fld.inBlocks_self (by rfl))).trans
      modOut_within) (((highWater_within (Fld.inBlocks_self (by rfl))).trans modOut_within).trans modOut_within)).trans
      (put_within (Reg.SOUT_ST.STATE_in))).trans (put_within (Reg.SOUT_ST.SIDE_in))).trans demand_within) Within.unchanged).le (by decide)

theorem execSoutPulseStart_runs {n} {ls} {s} : Runs ⟨[.weir, .sout], some [0x405, 0x500]⟩ s (execSoutPulseStart n ls s) := by
  unfold execSoutPulseStart
  split
  · refine .become ?_
    exact (untilWeir_within.trans pulseBegin_within).le (by decide)
  · refine .become ?_
    exact .rfl

theorem execSoutPulseEnd_runs {n} {s} : Runs ⟨frLog ++ [.weir, .sout], some [0x405, 0x409, 0x500]⟩ s (execSoutPulseEnd n s) := by
  unfold execSoutPulseEnd
  refine .become ?_
  exact (Within.ite (untilWeir_within.trans outPulseEnd_within) Within.unchanged).le (by decide)

theorem execSoutRecoveryEnd_runs {n} {s} : Runs ⟨[.weir, .sout], some []⟩ s (execSoutRecoveryEnd n s) := by
  unfold execSoutRecoveryEnd
  dsimp only
  refine .become ?_
  exact (Within.ite (untilWeir_within.trans outAwaitEnv_within) Within.unchanged).le (by decide)

theorem execSoutUnlockWrite_runs {req} {mask} {tag} {s} : Runs ⟨frConf ++ [.pages, .weir], some (blConf ++ [0x40A])⟩ s
  (execSoutUnlockWrite req mask tag s) := by
  unfold execSoutUnlockWrite
  refine .become ?_
  exact (atPage_within (.self) fun _ => soutUnlockWrite_within).le (by decide)

theorem Chip.wired_within {u : Chip} {p} {w} : Within ⟨[.ports], some []⟩ u (u.wired p w) := by
  unfold Chip.wired
  exact modPt_within.le (by decide)

theorem execZstFrameTx_runs {p} {s} : Runs ⟨[.zst, .ports], some []⟩ s (execZstFrameTx p s) := by
  unfold execZstFrameTx
  dsimp only
  split
  · refine .become ?_
    exact .rfl
  · split
    · refine .become ?_
      exact ((zst_within.trans wired_within).trans modPt_within).le (by decide)
    · split
      · refine .become ?_
        exact .rfl
      · split
        · refine .become ?_
          exact .rfl
        · split
          · refine .become ?_
            exact modTxq_within.le (by decide)
          · refine .become ?_
            exact (modTxq_within.trans wired_within).le (by decide)

theorem Chip.zstStranger_within {u : Chip} {port} {f} : Within ⟨frLog ++ [.zst], some [0x406, 0x409]⟩ u (u.zstStranger port f) := by
  unfold Chip.zstStranger
  dsimp only
  exact (Within.ite ((((satInc_within (Reg.ZST_PSTAT.STRANGER_in)).trans zst_within).trans (irq_within (.self (by rfl)))).trans
    raise_within) ((satInc_within (Reg.ZST_PSTAT.STRANGER_in)).trans zst_within)).le (by decide)

theorem Chip.zstReceive_within {u : Chip} {port} {f} : Within ⟨frLog ++ [.zst], some [0x406, 0x409]⟩ u (u.zstReceive port f) := by
  unfold Chip.zstReceive
  dsimp only
  exact (Within.ite Within.unchanged (Within.ite zstStranger_within (Within.ite (((satInc_within (Fld.inBlocks_self (by rfl))).trans
    (irq_within (.self (by rfl)))).trans raise_within) ((zst_within.trans (highWater_within (Fld.inBlocks_self (by rfl)))).trans
    (irq_within (.self (by rfl))))))).le (by decide)

theorem execZstFrameRx_runs {port} {f} {s} : Runs ⟨frLog ++ [.zst], some [0x406, 0x409]⟩ s (execZstFrameRx port f s) := by
  unfold execZstFrameRx
  dsimp only
  refine .become ?_
  exact (Within.ite (zstFree_within.trans zstReceive_within) Within.unchanged).le (by decide)

theorem execZstRxHdrRead_runs {req} {s} : Runs ⟨frConf ++ [.pages, .weir, .zst], some (blConf ++ [0x406, 0x40A])⟩ s (execZstRxHdrRead req s) := by
  unfold execZstRxHdrRead
  refine .become ?_
  exact (atPage_within (.self) fun _ => (Within.ite rxHdr_within answer_within)).le (by decide)

theorem execZstRxDatRead_runs {req} {s} : Runs ⟨frConf ++ [.pages, .weir, .zst], some (blConf ++ [0x406, 0x40A])⟩ s (execZstRxDatRead req s) := by
  unfold execZstRxDatRead
  refine .become ?_
  exact (atPage_within (.self) fun _ => (Within.ite rxDat_within answer_within)).le (by decide)

theorem Chip.codeErr_within {u : Chip} {c} {n} : Within ⟨frLog ++ [.rt], some [0x409]⟩ u (u.codeErr c n) := by
  unfold Chip.codeErr
  dsimp only
  exact (Within.ite (modConn_within.trans rtEvent_within) modConn_within).le (by decide)

theorem execZstPrecheck_runs {c} {s} : Runs ⟨frLog ++ [.rt], some [0x409]⟩ s (execZstPrecheck c s) := by
  unfold execZstPrecheck
  dsimp only
  split
  · refine .become ?_
    exact .rfl
  · split
    · refine .become ?_
      exact .rfl
    · refine .become ?_
      split
      · exact modRun_within.le (by decide)
      · exact (Within.ite (modRun_within.trans modRun_within) (modRun_within.trans codeErr_within)).le (by decide)

theorem execIdReqTimer_runs {c} {n} {s} : Runs ⟨[.weir, .rt], some []⟩ s (execIdReqTimer c n s) := by
  unfold execIdReqTimer
  dsimp only
  split
  · refine .become ?_
    exact .rfl
  · refine .become ?_
    split
    · exact ((untilWeir_within.trans modConn_within).trans sendLater_within).le (by decide)
    · exact (untilWeir_within.trans modConn_within).le (by decide)

theorem execJoinWaitExpiry_runs {c} {s} : Runs ⟨frLog ++ [.weir, .rt], some [0x409]⟩ s (execJoinWaitExpiry c s) := by
  unfold execJoinWaitExpiry
  dsimp only
  split
  · refine .become ?_
    exact .rfl
  · refine .become ?_
    exact (Within.ite ((untilWeir_within.trans modPair_within).trans pairRequest_within) (untilWeir_within.trans modPair_within)).le (by decide)

theorem execEpochRecordWrite_runs {s} : Runs ⟨[.ret], some []⟩ s (execEpochRecordWrite s) := by
  unfold execEpochRecordWrite
  dsimp only
  refine .become ?_
  exact (Within.ite ret_within Within.unchanged).le (by decide)

theorem Chip.rxErr_within {u : Chip} {p} : Within ⟨[], some [0x44A, 0x460, 0x462, 0x463, 0x464, 0x466]⟩ u (u.rxErr p) := by
  unfold Chip.rxErr
  exact (satInc_within (portPage_in.field 0x48 (by rfl) (by rfl) (by decide))).le (by decide)

theorem Chip.classDrop_within {u : Chip} {p} {kind} : Within ⟨frLog ++ [.ports], some [0x409, 0x44A, 0x460, 0x462, 0x463, 0x464, 0x466]⟩ u
  (u.classDrop p kind) := by
  unfold Chip.classDrop
  dsimp only
  exact (Within.ite (((satInc_within (portPage_in.field 0x44 (by rfl) (by rfl) (by decide))).trans modPt_within).trans
    raise_within) ((satInc_within (portPage_in.field 0x44 (by rfl) (by rfl) (by decide))).trans modPt_within)).le (by decide)

theorem Chip.cbRecover_within {u : Chip} {p} {e} : Within ⟨[.cb], some []⟩ u (u.cbRecover p e).2 := by
  unfold Chip.cbRecover
  dsimp only
  split
  · exact .rfl
  · split
    · exact .rfl
    · exact cb_within.le (by decide)

theorem Chip.deliver_within {u : Chip} {p} {dest} {b} : Within ⟨[.ports], some []⟩ u (u.deliver p dest b) := by
  unfold Chip.deliver
  dsimp only
  exact modPt_within.le (by decide)

theorem Chip.filtDrop_within {u : Chip} {p} : Within ⟨[], some [0x44A, 0x460, 0x462, 0x463, 0x464, 0x466]⟩ u (u.filtDrop p) := by
  unfold Chip.filtDrop
  exact (satInc_within (portPage_in.field 0x48 (by rfl) (by rfl) (by decide))).le (by decide)

theorem Chip.deliverOther_within {u : Chip} {p} {b} : Within ⟨frLog ++ [.ports], some [0x409, 0x44A, 0x460, 0x462, 0x463, 0x464, 0x466]⟩ u
  (u.deliverOther p b) := by
  unfold Chip.deliverOther
  dsimp only
  exact (Within.ite classDrop_within (Within.ite deliver_within deliver_within)).le (by decide)

theorem Chip.ethRx_within {u : Chip} {p} {f} {ok} : Within ⟨frLog ++ [.ports, .cb], some [0x409, 0x44A, 0x460, 0x462, 0x463, 0x464, 0x466]⟩ u
  (u.ethRx p f ok) := by
  unfold Chip.ethRx
  dsimp only
  exact (Within.ite rxErr_within (Within.ite (Within.ite classDrop_within (Within.ite (Within.ite (cbRecover_within.trans
    deliver_within) cbRecover_within) filtDrop_within)) (Within.ite (Within.ite deliver_within classDrop_within) (Within.ite
    (Within.ite deliver_within classDrop_within) deliverOther_within)))).le (by decide)

theorem Chip.canRx_within {u : Chip} {p} {id} {ext} {fd} {remote} {b} {ok} : Within ⟨frLog ++ [.ports], some [0x409, 0x44A, 0x460, 0x462, 0x463,
  0x464, 0x466]⟩ u (u.canRx p id ext fd remote b ok) := by
  unfold Chip.canRx
  exact (Within.ite rxErr_within (Within.ite Within.unchanged (Within.ite (Within.ite (Within.ite deliver_within
    (Within.ite deliver_within filtDrop_within)) filtDrop_within) (Within.ite classDrop_within deliverOther_within)))).le (by decide)

theorem Chip.canXlRx_within {u : Chip} {p} {sdt} {af} {b} {ok} : Within ⟨frLog ++ [.ports], some [0x409, 0x44A, 0x460, 0x462, 0x463, 0x464, 0x466]⟩ u
  (u.canXlRx p sdt af b ok) := by
  unfold Chip.canXlRx
  dsimp only
  exact (Within.ite rxErr_within (Within.ite (Within.ite filtDrop_within (Within.ite deliver_within deliver_within))
    (Within.ite classDrop_within deliverOther_within))).le (by decide)

theorem execPortFrameRx_runs {p} {f} {s} : Runs ⟨frLog ++ [.ports, .cb], some [0x409, 0x44A, 0x460, 0x462, 0x463, 0x464, 0x466]⟩ s
  (execPortFrameRx p f s) := by
  unfold execPortFrameRx
  dsimp only
  refine .become ?_
  split
  · exact .rfl
  · split
    · exact ethRx_within.le (by decide)
    · exact canRx_within.le (by decide)
    · exact canXlRx_within.le (by decide)
    · exact (Within.ite deliverOther_within rxErr_within).le (by decide)

theorem execPortTxRefused_runs {p} {src} {s} : Runs ⟨[.plic], some [0x44A, 0x460, 0x462, 0x463, 0x464, 0x466]⟩ s (execPortTxRefused p src s) := by
  unfold execPortTxRefused
  dsimp only
  refine .become ?_
  exact (Within.ite answer_within (((put_within (portPage_in.field 0x24 (by rfl) (by rfl) (by decide))).trans refreshLines_within).trans
    refuse_within)).le (by decide)

theorem execPlcaBeaconTimeout_runs {p} {s} : Runs ⟨frLog ++ [.weir, .ports], some [0x406, 0x409, 0x44A, 0x460, 0x462, 0x463, 0x464, 0x466]⟩ s
  (execPlcaBeaconTimeout p s) := by
  unfold execPlcaBeaconTimeout
  dsimp only
  split
  · refine .become ?_
    exact (((((until_within.trans (put_within (portPage_in.field 0x44 (by rfl) (by rfl) (by decide)))).trans
      (satInc_within (portPage_field2 0x1044 (by rfl) (by rfl) (by decide)))).trans modPt_within).trans (irq_within (.self (by rfl)))).trans
      raise_within).le (by decide)
  · refine .become ?_
    exact .rfl

theorem execPlcaBeaconRx_runs {p} {s} : Runs ⟨frLog ++ [.ports], some [0x409, 0x44A, 0x460, 0x462, 0x463, 0x464, 0x466]⟩ s
  (execPlcaBeaconRx p s) := by
  unfold execPlcaBeaconRx
  dsimp only
  split
  · refine .become ?_
    exact (Within.ite (((put_within (portPage_in.field 0x44 (by rfl) (by rfl) (by decide))).trans modPt_within).trans
      raise_within) ((put_within (portPage_in.field 0x44 (by rfl) (by rfl) (by decide))).trans modPt_within)).le (by decide)
  · refine .become ?_
    exact .rfl

theorem Chip.evrMeasured_within {u : Chip} : Within ⟨frLog ++ [.evr], some [0x409, 0x445]⟩ u u.evrMeasured := by
  unfold Chip.evrMeasured
  dsimp only
  exact ((evr_within.trans (put_within (Fld.inBlocks_self (by rfl)))).trans evrUpdateSource_within).le (by decide)

theorem Chip.timeMeasured_within {u : Chip} {p off} {ppb} : Within ⟨frLog ++ [.tm, .evr], some [0x406, 0x409, 0x445]⟩ u
  (u.timeMeasured p off ppb) := by
  unfold Chip.timeMeasured
  extract_lets u1 u2 u3 r inside run _ u4 src
  have h1 : Within ⟨frLog ++ [.tm, .evr], some [0x406, 0x409, 0x445]⟩ u u1 := (put_within (Fld.inBlocks_self (by rfl))).le (by decide)
  have h2 : Within ⟨frLog ++ [.tm, .evr], some [0x406, 0x409, 0x445]⟩ u1 u2 := by
    unfold u2
    split
    · exact (put_within (Fld.inBlocks_self (by rfl))).le (by decide)
    · exact .rfl
  have h4 : Within ⟨frLog ++ [.tm, .evr], some [0x406, 0x409, 0x445]⟩ u2 u4 :=
    ((((wrapInc_within (Fld.inBlocks_self (by rfl))).trans (put_within (Fld.inBlocks_self (by rfl)))).trans
      (put_within (Fld.inBlocks_self (by rfl)))).trans tm_within).le (by decide)
  have hmeasured := (h1.step h2).step h4
  split
  · split
    · exact .chain evrMeasured_within (by decide) hmeasured
    · exact .chain (((put_within (Fld.inBlocks_self (by rfl))).trans evrUnlocked_within).trans raise_within) (by decide) hmeasured
  · split
    · exact .chain (((put_within (Fld.inBlocks_self (by rfl))).trans raise_within).trans evrMeasured_within) (by decide) hmeasured
    · exact hmeasured

theorem execGptpSyncRx_runs {p} {station} {stamp} {ppb} {s} : Runs ⟨frLog ++ [.tm, .evr], some [0x406, 0x409, 0x445]⟩ s
  (execGptpSyncRx p station stamp ppb s) := by
  unfold execGptpSyncRx
  dsimp only
  split
  · refine .become ?_
    exact timeMeasured_within.le (by decide)
  · refine .become ?_
    exact .rfl

theorem execPdelayReqRx_runs {p} {t2} {t3} {s} : Runs ⟨[.ports], some []⟩ s (execPdelayReqRx p t2 t3 s) := by
  unfold execPdelayReqRx
  dsimp only
  refine .become ?_
  exact (Within.ite wired_within Within.unchanged).le (by decide)

theorem execTimeSilence_runs {s} : Runs ⟨frLog ++ [.weir, .tm, .evr], some [0x406, 0x409, 0x445]⟩ s (execTimeSilence s) := by
  unfold execTimeSilence
  dsimp only
  split
  · refine .become ?_
    exact (Within.ite ((((until_within.trans tm_within).trans (put_within (Fld.inBlocks_self (by rfl)))).trans evrUnlocked_within).trans
      raise_within) (until_within.trans tm_within)).le (by decide)
  · refine .become ?_
    exact .rfl

theorem execTimeBeaconRx_runs {p} {cap} {b} {s} : Runs ⟨frLog ++ [.ports, .tm, .evr], some [0x406, 0x409, 0x445]⟩ s (execTimeBeaconRx p cap b s) := by
  unfold execTimeBeaconRx
  dsimp only
  split
  · split
    · refine .become ?_
      exact modPt_within.le (by decide)
    · split
      · refine .become ?_
        exact modPt_within.le (by decide)
      · refine .become ?_
        exact ((modPt_within.trans modPt_within).trans timeMeasured_within).le (by decide)
  · refine .become ?_
    exact .rfl

theorem execBusOff_runs {p} {tec} {s} : Runs ⟨frLog, some [0x409, 0x44A, 0x460, 0x462, 0x463, 0x464, 0x466]⟩ s (execBusOff p tec s) := by
  unfold execBusOff
  dsimp only
  split
  · refine .become ?_
    exact ((((put_within (portPage_in.field 0x44 (by rfl) (by rfl) (by decide))).trans
      (put_within (portPage_in.field 0x44 (by rfl) (by rfl) (by decide)))).trans
      (put_within (portPage_in.field 0x44 (by rfl) (by rfl) (by decide)))).trans raise_within).le (by decide)
  · refine .become ?_
    exact .rfl

theorem execBusOn_runs {p} {s} : Runs ⟨frLog, some [0x409, 0x44A, 0x460, 0x462, 0x463, 0x464, 0x466]⟩ s (execBusOn p s) := by
  unfold execBusOn
  dsimp only
  split
  · refine .become ?_
    exact (((put_within (portPage_in.field 0x44 (by rfl) (by rfl) (by decide))).trans
      (put_within (portPage_in.field 0x44 (by rfl) (by rfl) (by decide)))).trans raise_within).le (by decide)
  · refine .become ?_
    exact .rfl

theorem execEngineFault_runs {e} {cause} {s} : Runs ⟨frLog ++ [.ports], some [0x407, 0x409, 0x44A, 0x460, 0x462, 0x463, 0x464, 0x466]⟩ s
  (execEngineFault e cause s) := by
  unfold execEngineFault
  dsimp only
  split
  · refine .become ?_
    exact .rfl
  · refine .become ?_
    exact (((Within.foldl fun _ _ => (modPt_within.trans (put_within (portPage_in.field 0x44 (by rfl) (by rfl) (by decide)))).trans
      (put_within (portPage_in.field 0x44 (by rfl) (by rfl) (by decide)))).trans raise_within).trans nonsafetyFault_within).le (by decide)

theorem execRs485IdleDiscard_runs {i} {s} : Runs ⟨[], some [0x44A, 0x460, 0x462, 0x463, 0x464, 0x466]⟩ s (execRs485IdleDiscard i s) := by
  unfold execRs485IdleDiscard
  refine .become ?_
  exact (Within.ite rxErr_within Within.unchanged).le (by decide)

theorem Chip.cvuFail_within {u : Chip} {i} {who} : Within ⟨frLog ++ [.br], some [0x409, 0x421]⟩ u (u.cvuFail i who) := by
  unfold Chip.cvuFail
  dsimp only
  exact (Within.ite (((((satInc_within (Reg.CVU_STAT.CHK_FAIL_in)).trans (put_within (Reg.CVU_STAT.LAST_OK_in))).trans (irq_within cvuPage_in)).trans
    br_within).trans raise_within) ((((satInc_within (Reg.CVU_STAT.CHK_FAIL_in)).trans (put_within (Reg.CVU_STAT.LAST_OK_in))).trans
    (irq_within cvuPage_in)).trans br_within)).le (by decide)

theorem Chip.cvuCheck_within {u : Chip} {i} {who} {b} : Within ⟨frLog ++ [.br], some [0x409, 0x421]⟩ u (u.cvuCheck i who b).2 := by
  unfold Chip.cvuCheck
  dsimp only
  split
  · exact (cvuFrame_within.trans (put_within (Reg.CVU_STAT.LAST_OK_in))).le (by decide)
  · exact (cvuFrame_within.trans cvuFail_within).le (by decide)

theorem Chip.brParse_within {u : Chip} {q} {x2} : Within ⟨frLog ++ [.br], some [0x409, 0x421]⟩ u (u.brParse q x2).2 := by
  unfold Chip.brParse
  dsimp only
  split
  · split
    · exact .rfl
    · exact .rfl
  · exact .rfl
  · exact .rfl
  · split
    · exact cvuCheck_within.le (by decide)
    · exact .rfl

theorem Chip.brAppend_within {u : Chip} {e} {b} : Within ⟨[], some [0x421]⟩ u (u.brAppend e b).2 := by
  unfold Chip.brAppend
  split
  · split
    · exact cvuAppend_within.le (by decide)
    · exact .rfl
  · exact .rfl

theorem Chip.brInbound_within {u : Chip} {q} {kind} {id} {b} : Within ⟨[.br], some [0x420]⟩ u (u.brInbound q kind id b) := by
  unfold Chip.brInbound
  dsimp only
  exact (Within.ite br_within (satInc_within (Fld.inBlocks_self (by rfl)))).le (by decide)

theorem Chip.brForward_within {u : Chip} {q} {f} {e} : Within ⟨[.br], some [0x420, 0x421]⟩ u (u.brForward q f e) := by
  unfold Chip.brForward
  dsimp only
  exact (Within.ite Within.unchanged (Within.ite (satInc_within (Fld.inBlocks_self (by rfl))) (Within.ite (brAppend_within.trans
    brInbound_within) (brAppend_within.trans brPush_within)))).le (by decide)

theorem Chip.brMatched_within {u : Chip} {q} {i} {f} {e} : Within ⟨frLog ++ [.br], some [0x409, 0x420, 0x421]⟩ u (u.brMatched q i f e) := by
  unfold Chip.brMatched
  dsimp only
  split
  · split
    · exact cvuCheck_within.le (by decide)
    · exact cvuFrame_within.le (by decide)
    · exact .rfl
  · split
    · refine .chain (satInc_within (Fld.inBlocks_self (by rfl))) (by decide) ?_
      split
      · exact cvuCheck_within.le (by decide)
      · exact cvuFrame_within.le (by decide)
      · exact .rfl
    · refine .chain brForward_within (by decide) ?_
      split
      · exact cvuCheck_within.le (by decide)
      · exact cvuFrame_within.le (by decide)
      · exact .rfl

theorem execBridgeFrame_runs {q} {f} {s} : Runs ⟨frLog ++ [.br], some [0x409, 0x420, 0x421]⟩ s (execBridgeFrame q f s) := by
  unfold execBridgeFrame
  dsimp only
  split
  · refine .become ?_
    exact .rfl
  · split
    · refine .become ?_
      exact brParse_within.le (by decide)
    · split
      · refine .become ?_
        exact .rfl
      · split
        · refine .become ?_
          exact (brParse_within.trans brMiss_within).le (by decide)
        · refine .become ?_
          exact (Within.ite (brParse_within.trans brMiss_within) (brParse_within.trans brMatched_within)).le (by decide)

theorem execBrTblW3Write_runs {req} {v} {s} : Runs ⟨frConf ++ [.pages, .weir, .br], some (blConf ++ [0x40A, 0x420])⟩ s
  (execBrTblW3Write req v s) := by
  unfold execBrTblW3Write
  refine .become ?_
  exact (atPage_within (.self) fun _ => (Within.ite (tblW3_within.trans answer_within) (lockViol_within (.self)))).le (by decide)

theorem execTableCommit_runs {n} {s} : Runs ⟨frConf ++ [.pages, .weir], some (blConf ++ [0x420, 0x421])⟩ s (execTableCommit n s) := by
  unfold execTableCommit
  refine .become ?_
  exact (access_within (.self) fun _ => tableCommit_within).le (by decide)

theorem execRegionCommit_runs {s} : Runs ⟨frConf ++ [.pages, .weir, .br], some (blConf ++ [0x420, 0x421])⟩ s (execRegionCommit s) := by
  unfold execRegionCommit
  refine .become ?_
  exact (access_within (k := fun u => u.regionCommit) (.self) fun _ => regionCommit_within).le (by decide)

theorem execWindowWrite_runs {req w off b} {s} {l : List Nat} (ha : AddrIn (0x42002000 + w * 0x1000 + off) l) :
    Runs ⟨frConf ++ [.pages, .weir, .br], some (l ++ blConf ++ [0x40A, 0x420, 0x421])⟩ s (execWindowWrite req w off b s) := by
  unfold execWindowWrite
  refine .become ?_
  exact (atPage_within ha fun _ => winWrite_within).le (by simp +contextual [Scope.sub, Scope.union, Scope.covers, frLog, frConf, blConf])

theorem execWindowRead_runs {req w off len} {s} {l : List Nat} (ha : AddrIn (0x42002000 + w * 0x1000 + off) l) :
    Runs ⟨frConf ++ [.pages, .weir, .br], some (l ++ blConf ++ [0x40A, 0x420, 0x421])⟩ s (execWindowRead req w off len s) := by
  unfold execWindowRead
  refine .become ?_
  exact (atPage_within ha fun _ => winRead_within).le (by simp +contextual [Scope.sub, Scope.union, Scope.covers, frLog, frConf, blConf])

theorem Chip.brAnswer_within {u : Chip} {q} {f} : Within ⟨frLog ++ [.br], some [0x409, 0x421]⟩ u (u.brAnswer q f).2 := by
  unfold Chip.brAnswer
  dsimp only
  split
  · exact .rfl
  · split
    · exact brParse_within.le (by decide)
    · split
      · exact brParse_within.le (by decide)
      · split
        · exact brParse_within.le (by decide)
        · exact (brParse_within.trans cvuCheck_within).le (by decide)

theorem execReadResponse_runs {q} {f} {s} : Runs ⟨frLog ++ [.br], some [0x409, 0x420, 0x421]⟩ s (execReadResponse q f s) := by
  unfold execReadResponse
  dsimp only
  split
  · refine .become ?_
    exact brAnswer_within.le (by decide)
  · split
    · refine .become ?_
      exact brAnswer_within.le (by decide)
    · split
      · refine .become ?_
        exact (brAnswer_within.trans (satInc_within (Fld.inBlocks_self (by rfl)))).le (by decide)
      · split
        · refine .become ?_
          exact (brAnswer_within.trans readFail_within).le (by decide)
        · split
          · refine .become ?_
            exact (brAnswer_within.trans modSlot_within).le (by decide)
          · refine .become ?_
            exact brAnswer_within.le (by decide)

theorem execWriteAck_runs {q} {f} {s} : Runs ⟨frLog ++ [.br], some [0x409, 0x420, 0x421]⟩ s (execWriteAck q f s) := by
  unfold execWriteAck
  dsimp only
  split
  · refine .become ?_
    exact brAnswer_within.le (by decide)
  · split
    · refine .become ?_
      exact brAnswer_within.le (by decide)
    · refine .become ?_
      exact (Within.ite ((brAnswer_within.trans br_within).trans brCounts_within) (Within.ite (brAnswer_within.trans
        writeFail_within) brAnswer_within)).le (by decide)

theorem execResponseTimeout_runs {tag} {s} : Runs ⟨frLog ++ [.weir, .br], some [0x409, 0x420]⟩ s (execResponseTimeout tag s) := by
  unfold execResponseTimeout
  dsimp only
  split
  · refine .become ?_
    exact (Within.ite (until_within.trans readFail_within) Within.unchanged).le (by decide)
  · split
    · refine .become ?_
      exact (until_within.trans writeFail_within).le (by decide)
    · refine .become ?_
      exact .rfl

theorem execDrTimeout_runs {n} {s} : Runs ⟨frLog ++ [.weir, .br], some [0x409, 0x420]⟩ s (execDrTimeout n s) := by
  unfold execDrTimeout
  dsimp only
  split
  · refine .become ?_
    exact .rfl
  · refine .become ?_
    exact (Within.ite (until_within.trans pfFree_within) (until_within.trans orphan_within)).le (by decide)

theorem execInboundMessage_runs {s : State} : Runs ⟨[.br, .msram], some [0x420]⟩ s (execInboundMessage s) := by
  unfold execInboundMessage
  extract_lets u
  split
  · exact .become .rfl
  · extract_lets u1 op c tag a n lo inWin w r u2 ans
    have h1 : Within ⟨[.br, .msram], some [0x420]⟩ s.chip u1 := br_within.le (by decide)
    have h2 : Within ⟨[.br, .msram], some [0x420]⟩ u1 u2 :=
      (Within.ite (msram_within fun h => memWriteBytes_wf _ _ _ h) .unchanged).le (by decide)
    exact .become (.chain brPush_within (by decide) (h1.step h2))

theorem execCvuFeedWrite_runs {i} {v} {s} : Runs ⟨frConf ++ [.pages, .weir], some (blConf ++ [0x421])⟩ s (execCvuFeedWrite i v s) := by
  unfold execCvuFeedWrite
  refine .become ?_
  exact (Within.ite (access_within (cvuPage_in.off 124 (by decide)) fun _ => cvuFeed_within) Within.unchanged).le (by decide)

theorem execCvuFeedBWrite_runs {i} {v} {s} : Runs ⟨frConf ++ [.pages, .weir], some (blConf ++ [0x421])⟩ s (execCvuFeedBWrite i v s) := by
  unfold execCvuFeedBWrite
  refine .become ?_
  exact (Within.ite (access_within (cvuPage_in.off 128 (by decide)) fun _ => cvuFeed_within) Within.unchanged).le (by decide)

theorem execCvuValWrite_runs {i} {hi} {v} {s} : Runs ⟨frConf ++ [.pages, .weir], some (blConf ++ [0x421])⟩ s (execCvuValWrite i hi v s) := by
  unfold execCvuValWrite
  refine .become ?_
  exact (Within.ite (access_within (cvuPage_in.off 96 (by decide)) fun _ => cvuVal_within) Within.unchanged).le (by decide)

theorem execCvuPresetWrite_runs {s : State} {req i v : Nat} :
    Runs ⟨frConf ++ [.pages, .weir], some (blConf ++ [0x40A, 0x421])⟩ s (execCvuPresetWrite req i v s) := by
  have ha : AddrIn (cvuPage i + 0x40) [0x421] := cvuPage_in.off 0x40 (by decide)
  have hcfg : ∀ t : Chip, Within ⟨frLog, some [0x409, 0x421]⟩ t (t.cvuWrite req (cvuPage i + 0x40) v i 0x40) := fun t => by
    unfold Chip.cvuWrite
    rw [if_pos rfl]
    split
    · exact (accessErr_within ha).le (by decide)
    · split
      · exact (cvuCfg_within.trans answer_within).le (by decide)
      · exact (lockViol_within ha).le (by decide)
  unfold execCvuPresetWrite
  refine .become ?_
  split
  · exact (atPage_within ha hcfg).le (by decide)
  · exact unmapped_within.le (by decide)

theorem Chip.countOut_within {u : Chip} : Within ⟨[], some [0x40A]⟩ u u.countOut := by
  unfold Chip.countOut
  dsimp only
  exact ((put_within (Fld.inBlocks_self (by rfl))).trans (highWater_within (Fld.inBlocks_self (by rfl)))).le (by decide)

theorem Chip.modOutstanding_within {u : Chip} {req} {g} : Within ⟨[.fab], some [0x40A]⟩ u (u.modOutstanding req g) := by
  unfold Chip.modOutstanding
  dsimp only
  exact (fab_within.trans countOut_within).le (by decide)

theorem execFabricRequest_runs {req} {a} {wr} {s} {l : List Nat} (ha : AddrIn a l) : Runs ⟨frLog ++ [.fab], some (l ++ [0x409, 0x40A])⟩ s
  (execFabricRequest req a wr s) := by
  unfold execFabricRequest
  dsimp only
  split
  · refine .become ?_
    exact .rfl
  · split
    · refine .become ?_
      exact unmapped_within.le (by simp +contextual [Scope.sub, Scope.covers, frLog])
    · split
      · split
        · refine .become ?_
          exact (planeRefused_within ha).le (by simp +contextual [Scope.sub, Scope.covers, frLog])
        · split
          · refine .become ?_
            exact denied_within.le (by simp +contextual [Scope.sub, Scope.covers, frLog])
          · refine .become ?_
            exact (Within.ite answer_within denied_within).le (by simp +contextual [Scope.sub, Scope.union, Scope.covers, frLog])
      · split
        · refine .become ?_
          exact denied_within.le (by simp +contextual [Scope.sub, Scope.covers, frLog])
        · split
          · refine .become ?_
            exact (planeRefused_within ha).le (by simp +contextual [Scope.sub, Scope.covers, frLog])
          · split
            · refine .become ?_
              exact (planeRefused_within ha).le (by simp +contextual [Scope.sub, Scope.covers, frLog])
            · split
              · refine .become ?_
                exact denied_within.le (by simp +contextual [Scope.sub, Scope.covers, frLog])
              · split
                · refine .become ?_
                  exact (arbError_within.trans refuse_within).le (by simp +contextual [Scope.sub, Scope.union, Scope.covers, frLog])
                · refine .become ?_
                  exact (modTarget_within.trans modOutstanding_within).le (by simp +contextual [Scope.sub, Scope.union, Scope.covers, frLog])

theorem Chip.grant_within {u : Chip} {t} {req} : Within ⟨[.fab], some []⟩ u (u.grant t req) := by
  unfold Chip.grant
  exact modTarget_within.le (by decide)

theorem Chip.roundRobin_within {u : Chip} {t} : Within ⟨frLog ++ [.fab], some [0x407, 0x409, 0x40A]⟩ u (u.roundRobin t) := by
  unfold Chip.roundRobin
  dsimp only
  split
  · exact .rfl
  · exact (((modTarget_within.trans (highWater_within (Reg.ARB_LAT.MAX_in))).trans (Within.foldl fun _ _ => arbError_within.trans
      nonsafetyFault_within)).trans grant_within).le (by decide)

theorem execArbitrationDecision_runs {t} {slot} {s} : Runs ⟨frLog ++ [.fab], some [0x407, 0x409, 0x40A]⟩ s (execArbitrationDecision t slot s) := by
  unfold execArbitrationDecision
  dsimp only
  split
  · refine .become ?_
    exact .rfl
  · split
    · refine .become ?_
      exact grant_within.le (by decide)
    · split
      · refine .become ?_
        exact roundRobin_within.le (by decide)
      · refine .become ?_
        exact .rfl

theorem execArbHung_runs {t} {s} : Runs ⟨frLog ++ [.fab, .weir], some [0x407, 0x409, 0x40A]⟩ s (execArbHung t s) := by
  unfold execArbHung
  dsimp only
  split
  · refine .become ?_
    exact .rfl
  · refine .become ?_
    exact (Within.ite (((((until_within.trans modTarget_within).trans (Within.foldl fun _ _ => modOutstanding_within)).trans arbError_within).trans
      refuse_within).trans (Within.foldl fun _ _ => chanIrq_within)) ((((((until_within.trans modTarget_within).trans
      (Within.foldl fun _ _ => modOutstanding_within)).trans arbError_within).trans refuse_within).trans
      (Within.foldl fun _ _ => chanIrq_within)).trans nonsafetyFault_within)).le (by decide)

theorem execEventRaise_runs {src} {code} {data} {s} : Runs ⟨frLog, some [0x409]⟩ s (execEventRaise src code data s) := by
  unfold execEventRaise
  refine .become ?_
  exact raise_within.le (by decide)

theorem execIntRaise_runs {req} {s} : Runs ⟨frConf ++ [.pages, .weir], some blConf⟩ s (execIntRaise req s) := by
  unfold execIntRaise
  refine .become ?_
  exact (access_within (.self) fun _ => asmRaise_within).le (by decide)

theorem Chip.asmWrite_at_within {u : Chip} {req k v} {l : List Nat} (ha : AddrIn (0x40901040 + 4 * k) l) :
    Within ⟨frLog, some (l ++ [0x409])⟩ u (u.asmWrite req k v) := by
  unfold Chip.asmWrite
  exact (Within.ite (intake_within.trans
    answer_within) (planeRefused_within ha)).le (by simp +contextual [Scope.sub, Scope.union, Scope.covers, frLog])

theorem execIntAsmWrite_runs {req k v} {s} {l : List Nat} (ha : AddrIn (0x40901040 + 4 * k) l) :
    Runs ⟨frConf ++ [.pages, .weir], some (l ++ blConf)⟩ s (execIntAsmWrite req k v s) := by
  unfold execIntAsmWrite
  refine .become ?_
  exact (access_within ha fun _ => asmWrite_at_within ha).le (by simp +contextual [Scope.sub, Scope.union, Scope.covers, frLog, frConf, blConf])

theorem Chip.keyRecorded_within {u : Chip} {e} : Within ⟨[.com], some []⟩ u (u.keyRecorded e) := by
  unfold Chip.keyRecorded
  dsimp only
  exact (Within.ite Within.unchanged (Within.ite com_within (Within.ite com_within Within.unchanged))).le (by decide)

theorem Chip.swapRecorded_within {u : Chip} {e} : Within ⟨[.com], some []⟩ u (u.swapRecorded e) := by
  unfold Chip.swapRecorded
  dsimp only
  split
  · exact .rfl
  · split
    · exact (Within.ite com_within ((free_within.trans free_within).trans com_within)).le (by decide)
    · exact com_within.le (by decide)

theorem Chip.restage_within {u : Chip} {src} : Within ⟨frLog, some [0x409]⟩ u (u.restage src) := by
  unfold Chip.restage
  dsimp only
  split
  · exact (intake_within.trans stage_within).le (by decide)
  · exact .rfl

theorem execEventMerge_runs {s} : Runs ⟨frLog ++ [.evr, .com], some [0x409]⟩ s (execEventMerge s) := by
  unfold execEventMerge
  dsimp only
  split
  · refine .become ?_
    exact .rfl
  · split
    · refine .become ?_
      exact (Within.ite Within.unchanged ((intake_within.trans (put_within (Fld.inBlocks_self (by rfl)))).trans
        (irq_within (.self (by rfl))))).le (by decide)
    · split
      · refine .become ?_
        exact .rfl
      · refine .become ?_
        split
        · exact ((((((intake_evr_within.trans countStaged_within).trans (put_within (Fld.inBlocks_self (by rfl)))).trans restage_within).trans
            swapRecorded_within).trans keyRecorded_within).trans raiseAfter_within).le (by decide)
        · exact (((((intake_evr_within.trans countStaged_within).trans (put_within (Fld.inBlocks_self (by rfl)))).trans restage_within).trans
            swapRecorded_within).trans keyRecorded_within).le (by decide)

theorem execLostRecordStage_runs {s : State} {src : Nat} : Runs ⟨frLog, some [0x409]⟩ s (execLostRecordStage src s) := by
  unfold execLostRecordStage
  extract_lets u closed
  split
  · exact .become .rfl
  · split
    · exact .become .rfl
    · exact .become ((intake_within.trans raise_within).le (by decide))

theorem execRecordEntry_runs {s} : Runs ⟨frLog ++ [.evr], some [0x409, 0x445]⟩ s (execRecordEntry s) := by
  unfold execRecordEntry
  dsimp only
  split
  · refine .become ?_
    exact (Within.ite Within.unchanged (evr_within.trans evrEnter_within)).le (by decide)
  · refine .become ?_
    exact .rfl

theorem execFlushHalf_runs {s} : Runs ⟨[.plic, .cic, .evr], some [0x445]⟩ s (execFlushHalf s) := by
  unfold execFlushHalf
  dsimp only
  refine .become ?_
  exact (Within.ite ((evr_within.trans (irq_within (.self (by rfl)))).trans evrTrigger_within) Within.unchanged).le (by decide)

theorem execFlushTimer_runs {s} : Runs ⟨[.weir, .evr], some []⟩ s (execFlushTimer s) := by
  unfold execFlushTimer
  dsimp only
  refine .become ?_
  exact (Within.ite (until_within.trans evrTrigger_within) Within.unchanged).le (by decide)

theorem Chip.evrFlushStart_within {u : Chip} : Within ⟨[.evr], some [0x445]⟩ u u.evrFlushStart := by
  unfold Chip.evrFlushStart
  dsimp only
  exact (Within.ite Within.unchanged (evr_within.trans (put_within (Fld.inBlocks_self (by rfl))))).le (by decide)

theorem Chip.evrCheck_within {u : Chip} : Within ⟨[], some [0x445]⟩ u u.evrCheck := by
  unfold Chip.evrCheck
  split
  · exact .rfl
  · exact (put_within (Fld.inBlocks_self (by rfl))).le (by decide)

theorem Chip.retFlush_within {u : Chip} : Within ⟨[.ret], some []⟩ u u.retFlush := by
  unfold Chip.retFlush
  dsimp only
  exact ret_within.le (by decide)

theorem Chip.spillNext_within {u : Chip} : Within ⟨[.evr, .ret], some [0x445]⟩ u u.spillNext := by
  unfold Chip.spillNext
  dsimp only
  split
  · exact .rfl
  · exact (Within.ite Within.unchanged (Within.ite evr_within (Within.ite Within.unchanged (Within.ite evr_within ((evr_within.trans
      retFlush_within).trans (put_within (Fld.inBlocks_self (by rfl)))))))).le (by decide)

theorem Chip.evrFlushEnd_within {u : Chip} {f} : Within ⟨[.plic, .cic, .flt, .evr, .ret], some [0x407, 0x445]⟩ u (u.evrFlushEnd f) := by
  unfold Chip.evrFlushEnd
  dsimp only
  split
  · exact (Within.ite (Within.ite ((evr_within.trans (irq_within (.self (by rfl)))).trans captureFlushed_within) (evr_within.trans
      (irq_within (.self (by rfl))))) ((((Within.ite ((evr_within.trans (irq_within (.self (by rfl)))).trans captureFlushed_within) (evr_within.trans
      (irq_within (.self (by rfl))))).trans evr_within).trans (put_within (Fld.inBlocks_self (by rfl)))).trans evrCheck_within)).le (by decide)
  · exact ((Within.ite ((evr_within.trans (irq_within (.self (by rfl)))).trans captureFlushed_within) (evr_within.trans
      (irq_within (.self (by rfl))))).trans spillNext_within).le (by decide)

theorem Chip.evrProceed_within {u : Chip} {f} : Within ⟨[.plic, .cic, .flt, .evr, .ret], some [0x407, 0x445]⟩ u (u.evrProceed f) := by
  unfold Chip.evrProceed
  dsimp only
  exact (Within.ite evrFlushEnd_within evr_within).le (by decide)

theorem execFlushStart_runs {s} : Runs ⟨[.plic, .cic, .flt, .evr, .ret], some [0x407, 0x445]⟩ s (execFlushStart s) := by
  unfold execFlushStart
  dsimp only
  split
  · refine .become ?_
    exact (evrFlushStart_within.trans evrProceed_within).le (by decide)
  · refine .become ?_
    exact evrFlushStart_within.le (by decide)

theorem Chip.evrCommit_within {u : Chip} {recs} : Within ⟨[.evr], some [0x445]⟩ u (u.evrCommit recs) := by
  unfold Chip.evrCommit
  dsimp only
  exact ((((modLog_within.trans (put_within (Fld.inBlocks_self (by rfl)))).trans (put_within (Fld.inBlocks_self (by rfl)))).trans evr_within).trans
    evrCheck_within).le (by decide)

theorem Chip.evrHeadwater_within {u : Chip} {recs} : Within ⟨frLog ++ [.evr], some [0x409, 0x445]⟩ u (u.evrHeadwater recs) := by
  unfold Chip.evrHeadwater
  dsimp only
  exact (Within.ite (((((modLog_within.trans (put_within (Fld.inBlocks_self (by rfl)))).trans evrCheck_within).trans
    (put_within (Fld.inBlocks_self (by rfl)))).trans (irq_within (.self (by rfl)))).trans evrOwn_within) ((modLog_within.trans
    (put_within (Fld.inBlocks_self (by rfl)))).trans evrCheck_within)).le (by decide)

theorem Chip.evrFirst_within {u : Chip} {code} {data} : Within ⟨frLog ++ [.evr], some [0x409, 0x445]⟩ u (u.evrFirst code data) := by
  unfold Chip.evrFirst
  dsimp only
  exact (Within.ite eventLost_within ((evr_within.trans (put_within (Fld.inBlocks_self (by rfl)))).trans
    (put_within (Fld.inBlocks_self (by rfl))))).le (by decide)

theorem Chip.evrCleared_within {u : Chip} {c} : Within ⟨frLog ++ [.evr, .ret], some [0x409, 0x445]⟩ u (u.evrCleared c) := by
  unfold Chip.evrCleared
  dsimp only
  exact (((((((modLog_within.trans evr_within).trans evrCheck_within).trans evrFirst_within).trans (put_within (Fld.inBlocks_self (by rfl)))).trans
    (irq_within (.self (by rfl)))).trans evrTrigger_within).trans spillNext_within).le (by decide)

theorem execEmmcWriteDone_runs {s} : Runs ⟨frLog ++ [.flt, .evr, .ret], some [0x407, 0x409, 0x445]⟩ s (execEmmcWriteDone s) := by
  unfold execEmmcWriteDone
  dsimp only
  split
  · split
    · refine .become ?_
      exact ((evr_within.trans evrCommit_within).trans evrProceed_within).le (by decide)
    · split
      · refine .become ?_
        exact ((evr_within.trans evrHeadwater_within).trans evrProceed_within).le (by decide)
      · split
        · refine .become ?_
          exact (((((evr_within.trans modLog_within).trans evr_within).trans evrCheck_within).trans (irq_within (.self (by rfl)))).trans
            evrProceed_within).le (by decide)
        · refine .become ?_
          exact (evr_within.trans evrFlushEnd_within).le (by decide)
  · refine .become ?_
    exact (Within.ite (evr_within.trans evrCleared_within) Within.unchanged).le (by decide)
  · refine .become ?_
    exact .rfl

theorem execEmmcWriteFail_runs {s : State} {status : Nat} :
    Runs ⟨frLog ++ [.evr], some [0x407, 0x409, 0x445]⟩ s (execEmmcWriteFail status s) := by
  unfold execEmmcWriteFail
  extract_lets u writing
  split
  · exact .become .rfl
  · split
    · exact .become (evr_within.le (by decide))
    · exact .become (((((evr_within.trans (put_within (Fld.inBlocks_self (by rfl)))).trans evrOwn_within).trans (irq_within (.self (by rfl)))).trans
        nonsafetyFault_within).le (by decide))

theorem execLogRecoveryDone_runs {s : State} : Runs ⟨frLog ++ [.evr, .ret], some [0x409, 0x445]⟩ s (execLogRecoveryDone s) := by
  unfold execLogRecoveryDone
  extract_lets u _ u1 top done
  have h1 : Within ⟨frLog ++ [.evr, .ret], some [0x409, 0x445]⟩ s.chip u1 := evr_within.le (by decide)
  split
  · exact .become .rfl
  · split
    · exact .become (.chain (put_within (Fld.inBlocks_self (by rfl))) (by decide) h1)
    · extract_lets next u2 fill u3 u4 u5 _ u6 p u7
      have h2 : Within ⟨frLog ++ [.evr, .ret], some [0x409, 0x445]⟩ u1 u2 :=
        ((((put_within (Fld.inBlocks_self (by rfl))).trans (put_within (Fld.inBlocks_self (by rfl)))).trans
          (put_within (Fld.inBlocks_self (by rfl)))).trans (put_within (Fld.inBlocks_self (by rfl)))).le (by decide)
      have h4 : Within ⟨frLog ++ [.evr, .ret], some [0x409, 0x445]⟩ u2 u4 :=
        (((put_within (Fld.inBlocks_self (by rfl))).trans (put_within (Fld.inBlocks_self (by rfl)))).trans
          (put_within (Fld.inBlocks_self (by rfl)))).le (by decide)
      have h6 : Within ⟨frLog ++ [.evr, .ret], some [0x409, 0x445]⟩ u4 u6 := ((modLog_within.trans evr_within).trans evrCheck_within).le (by decide)
      have hp : Within ⟨frLog ++ [.evr, .ret], some [0x409, 0x445]⟩ u6 p.2 := by
        unfold p
        clear_value top
        split
        · exact .rfl
        · exact free_within.le (by decide)
      have h7 : Within ⟨frLog ++ [.evr, .ret], some [0x409, 0x445]⟩ p.2 u7 := evrOwn_within.le (by decide)
      have hown := ((((h1.step h2).step h4).step h6).step hp).step h7
      refine .become ?_
      split
      · exact .chain (put_within (Fld.inBlocks_self (by rfl))) (by decide) hown
      · exact .chain spillNext_within (by decide) hown

theorem execFreeze_runs {s} : Runs ⟨frConf ++ [.pages, .weir, .evr], some (blConf ++ [0x445])⟩ s (execFreeze s) := by
  unfold execFreeze
  refine .become ?_
  exact (access_within (.self) fun _ => evrCommand_within).le (by decide)

theorem execUnfreeze_runs {s} : Runs ⟨frConf ++ [.pages, .weir, .evr], some (blConf ++ [0x445])⟩ s (execUnfreeze s) := by
  unfold execUnfreeze
  refine .become ?_
  exact (access_within (.self) fun _ => evrCommand_within).le (by decide)

theorem execFlush_runs {s} : Runs ⟨frConf ++ [.pages, .weir, .evr], some (blConf ++ [0x445])⟩ s (execFlush s) := by
  unfold execFlush
  refine .become ?_
  exact (access_within (.self) fun _ => evrCommand_within).le (by decide)

theorem execFormat_runs {s} : Runs ⟨frConf ++ [.pages, .weir, .evr], some (blConf ++ [0x445])⟩ s (execFormat s) := by
  unfold execFormat
  refine .become ?_
  exact (access_within (.self) fun _ => evrCommand_within).le (by decide)

theorem execSpillwayStart_runs {s} : Runs ⟨frLog ++ [.link, .flt, .evr, .ret], some [0x407, 0x409, 0x445]⟩ s (execSpillwayStart s) := by
  unfold execSpillwayStart
  dsimp only
  split
  · refine .become ?_
    exact .rfl
  · split
    · refine .become ?_
      exact link_within.le (by decide)
    · refine .become ?_
      split
      · exact ((((Within.ite (((((link_within.trans evrOwn_within).trans evrLift_within).trans evr_within).trans evrOwn_within).trans
          (put_within (Fld.inBlocks_self (by rfl)))) ((link_within.trans evrOwn_within).trans evrLift_within)).trans evr_within).trans
          (put_within (Fld.inBlocks_self (by rfl)))).trans evrProceed_within).le (by decide)
      · exact ((((Within.ite (((((link_within.trans evrOwn_within).trans evrLift_within).trans evr_within).trans evrOwn_within).trans
          (put_within (Fld.inBlocks_self (by rfl)))) ((link_within.trans evrOwn_within).trans evrLift_within)).trans evr_within).trans
          (put_within (Fld.inBlocks_self (by rfl)))).trans spillNext_within).le (by decide)

theorem execSpillwayIntakeClose_runs {s} : Runs ⟨[.weir, .evr, .ret], some [0x445]⟩ s (execSpillwayIntakeClose s) := by
  unfold execSpillwayIntakeClose
  dsimp only
  split
  · refine .become ?_
    exact .rfl
  · refine .become ?_
    exact (((Within.ite Within.unchanged until_within).trans evr_within).trans spillNext_within).le (by decide)

theorem execEvrCursorWrite_runs {i} {s} : Runs ⟨frConf ++ [.pages, .weir, .evr], some (blConf ++ [0x445])⟩ s (execEvrCursorWrite i s) := by
  unfold execEvrCursorWrite
  refine .become ?_
  exact (access_within (.self) fun _ => evrFetch_within.trans answer_within).le (by decide)

theorem execWindowFetchDone_runs {s} : Runs ⟨[.evr], some [0x445]⟩ s (execWindowFetchDone s) := by
  unfold execWindowFetchDone
  dsimp only
  split
  · refine .become ?_
    exact .rfl
  · refine .become ?_
    exact ((((Within.foldUpTo fun _ _ => (put_within (Reg.EVR_WIN.DATA_in))).trans evr_within).trans (put_within (Fld.inBlocks_self (by rfl)))).trans
      (put_within (Fld.inBlocks_self (by rfl)))).le (by decide)

theorem execEvrWin15Read_runs {s} : Runs ⟨frConf ++ [.pages, .weir, .evr], some (blConf ++ [0x445])⟩ s (execEvrWin15Read s) := by
  unfold execEvrWin15Read
  refine .become ?_
  exact (access_within (.self) fun _ => evrWin15_within).le (by decide)

theorem execEvrClrHiWrite_runs {req} {hi} {s} : Runs ⟨frConf ++ [.pages, .weir, .evr], some (blConf ++ [0x40A, 0x445])⟩ s
  (execEvrClrHiWrite req hi s) := by
  unfold execEvrClrHiWrite
  refine .become ?_
  exact (atPage_within (.self) fun _ => evrClear_within.trans answer_within).le (by decide)

theorem Chip.percShow_within {u : Chip} {e} {g} : Within ⟨[], some [0x40B, 0x446]⟩ u (u.percShow e g) := by
  unfold Chip.percShow
  dsimp only
  exact (((put_within (percPage_in.field 0x44 (by rfl) (by rfl) (by decide))).trans
    (put_within (percPage_in.field 0x44 (by rfl) (by rfl) (by decide)))).trans
    (put_within (percPage_in.field 0x44 (by rfl) (by rfl) (by decide)))).le (by decide)

theorem Chip.sliceBegin_within {u : Chip} {e} {g} : Within ⟨[.perc], some [0x40B, 0x446]⟩ u (u.sliceBegin e g) := by
  unfold Chip.sliceBegin
  dsimp only
  exact ((modPerc_within.trans percShow_within).trans (put_within (percPage_in.field 0x44 (by rfl) (by rfl) (by decide)))).le (by decide)

theorem execPercSliceStart_runs {c} {s} : Runs ⟨[.perc], some [0x40B, 0x446]⟩ s (execPercSliceStart c s) := by
  unfold execPercSliceStart
  dsimp only
  split
  · refine .become ?_
    exact sliceBegin_within.le (by decide)
  · refine .become ?_
    exact .rfl

theorem Chip.percAdvance_within {u : Chip} {e} {g} : Within ⟨frLog ++ [.perc], some [0x409, 0x40B, 0x446]⟩ u (u.percAdvance e g) := by
  unfold Chip.percAdvance
  dsimp only
  exact (Within.ite modPerc_within (Within.ite modPerc_within (((modPerc_within.trans
    (satInc_within (percPage_in.field 0x60 (by rfl) (by rfl) (by decide)))).trans (irq_within percPage_in)).trans raiseAfter_within))).le (by decide)

theorem Chip.percCorr_within {u : Chip} {e} {n} : Within ⟨[], some [0x40B, 0x446]⟩ u (u.percCorr e n) := by
  unfold Chip.percCorr
  exact (put_within (percPage_in.field 0x60 (by rfl) (by rfl) (by decide))).le (by decide)

theorem Chip.percRecord_within {u : Chip} {e} {g} {a} {elem} {exp} {obs} : Within ⟨frLog, some [0x409, 0x40B, 0x446]⟩ u
  (u.percRecord e g a elem exp obs) := by
  unfold Chip.percRecord
  dsimp only
  exact (((((((((((put_within (percPage_in.field 0x48 (by rfl) (by rfl) (by decide))).trans
    (put_within (percPage_in.field 0x4C (by rfl) (by rfl) (by decide)))).trans
    (put_within (percPage_in.field 0x4C (by rfl) (by rfl) (by decide)))).trans
    (put_within (percPage_in.field 0x4C (by rfl) (by rfl) (by decide)))).trans
    (put_within (percPage_in.field 0x4C (by rfl) (by rfl) (by decide)))).trans
    (put_within (percPage_in.field 0x4C (by rfl) (by rfl) (by decide)))).trans
    (put_within (percPage_in.field 0x50 (by rfl) (by rfl) (by decide)))).trans
    (put_within (percPage_in.field 0x58 (by rfl) (by rfl) (by decide)))).trans
    (satInc_within (percPage_in.field 0x60 (by rfl) (by rfl) (by decide)))).trans (irq_within percPage_in)).trans raiseAfter_within).le (by decide)

theorem Chip.percWaits_within {u : Chip} {c} {m} {w} {diff} : Within ⟨frLog ++ [.perc], some [0x409, 0x40B, 0x446]⟩ u (u.percWaits c m w diff) := by
  unfold Chip.percWaits
  dsimp only
  exact (Within.ite Within.unchanged ((modPerc_within.trans (put_within (percPage_in.field 0x44 (by rfl) (by rfl) (by decide)))).trans
    raiseAfter_within)).le (by decide)

theorem Chip.percRepair_within {u : Chip} {e} {m} {w} {diff} : Within ⟨frConf ++ [.chans, .weir, .perc], some (blConf ++ [0x402, 0x40B, 0x446])⟩ u
  (u.percRepair e m w diff) := by
  unfold Chip.percRepair
  dsimp only
  split
  · exact (Within.ite ((modPerc_within.trans noSpare_within).trans percLeave_within) (modPerc_within.trans noSpare_within)).le (by decide)
  · exact (Within.ite modPerc_within (Within.ite (modPerc_within.trans softRepair_within) (Within.ite (modPerc_within.trans
      percWaits_within) ((modPerc_within.trans softRepair_within).trans percLeave_within)))).le (by decide)

theorem execPercSliceDone_runs {e} {g} {r} {s} : Runs ⟨frConf ++ [.chans, .weir, .evr, .perc], some (blConf ++ [0x402, 0x40B, 0x446])⟩ s
  (execPercSliceDone e g r s) := by
  unfold execPercSliceDone
  dsimp only
  split
  · refine .become ?_
    exact .rfl
  · refine .become ?_
    split
    · exact (Within.ite ((((until_within.trans percCorr_within).trans sliceOver_within).trans percAdvance_within).trans
        (Within.foldUpTo fun _ _ => transientFault_within)) (((until_within.trans percCorr_within).trans sliceOver_within).trans
        percAdvance_within)).le (by decide)
    · exact (((((until_within.trans percCorr_within).trans sliceOver_within).trans percRecord_within).trans percAdvance_within).trans
        percRepair_within).le (by decide)
    · exact (Within.ite (((sliceOver_within.trans raiseAfter_within).trans percAdvance_within).trans chLost_within) ((sliceOver_within.trans
        raiseAfter_within).trans percAdvance_within)).le (by decide)

theorem execSchedSliceTimer_runs {s} : Runs ⟨[.weir, .evr, .perc], some [0x40B, 0x446]⟩ s (execSchedSliceTimer s) := by
  unfold execSchedSliceTimer
  dsimp only
  refine .become ?_
  exact ((until_within.trans modPerc_within).trans (Within.foldUpTo fun _ _ => (Within.ite (Within.ite (sliceBegin_within.trans
    evr_within) sliceBegin_within) Within.unchanged))).le (by decide)

theorem execPercFuseGo_runs {req} {e} {v} {s} : Runs ⟨frConf ++ [.pages, .weir, .perc], some (blConf ++ [0x40A, 0x40B, 0x446])⟩ s
  (execPercFuseGo req e v s) := by
  unfold execPercFuseGo
  dsimp only
  refine .become ?_
  exact (Within.ite Within.unchanged (atPage_within (percPage_in.off 256 (by decide)) fun _ => (Within.ite (fuseWrite_within.trans
    answer_within) (lockViol_within (percPage_in.off 256 (by decide)))))).le (by decide)

theorem execFuseDone_runs {e} {s} : Runs ⟨frLog ++ [.perc], some [0x409, 0x40B, 0x446]⟩ s (execFuseDone e s) := by
  unfold execFuseDone
  dsimp only
  split
  · refine .become ?_
    exact .rfl
  · refine .become ?_
    exact (((((modPerc_within.trans (put_within (percPage_in.field 0x104 (by rfl) (by rfl) (by decide)))).trans
      (put_within (percPage_in.field 0x104 (by rfl) (by rfl) (by decide)))).trans
      (put_within (percPage_in.field 0x100 (by rfl) (by rfl) (by decide)))).trans (irq_within percPage_in)).trans raise_within).le (by decide)

theorem execPwrReqWrite_runs {req} {v} {s} : Runs ⟨frConf ++ [.pages, .weir, .pwr], some (blConf ++ [0x40A, 0x447])⟩ s (execPwrReqWrite req v s) := by
  unfold execPwrReqWrite
  refine .become ?_
  exact (atPage_within (.self) fun _ => pwrRequest_within).le (by decide)

theorem Chip.pwrAsk_within {u : Chip} : Within ⟨[.pwr], some [0x447]⟩ u u.pwrAsk := by
  unfold Chip.pwrAsk
  dsimp only
  exact (pwr_within.trans (put_within (Fld.inBlocks_self (by rfl)))).le (by decide)

theorem execConsentAskStart_runs {s} : Runs ⟨[.pwr], some [0x447]⟩ s (execConsentAskStart s) := by
  unfold execConsentAskStart
  dsimp only
  refine .become ?_
  exact (Within.ite pwrAsk_within Within.unchanged).le (by decide)

theorem execNoticeTimeout_runs {s} : Runs ⟨[.weir, .pwr], some [0x447]⟩ s (execNoticeTimeout s) := by
  unfold execNoticeTimeout
  dsimp only
  refine .become ?_
  exact (Within.ite (until_within.trans pwrAsk_within) Within.unchanged).le (by decide)

theorem Chip.pwrLog_within {u : Chip} {pg} {ans} : Within ⟨[.pwr], some [0x447]⟩ u (u.pwrLog pg ans) := by
  unfold Chip.pwrLog
  dsimp only
  refine .chain ((put_within (Reg.PWR_CLOG.ANSWER_in)).trans pwr_within) (by decide) ?_
  split
  · exact ((put_within (Reg.PWR_CLOG.TYPE_in)).trans (put_within (Reg.PWR_CLOG.INST_in))).le (by decide)
  · exact .rfl

theorem Chip.sinSleep_within {u : Chip} : Within ⟨[.sin], some [0x404]⟩ u u.sinSleep := by
  unfold Chip.sinSleep
  dsimp only
  exact (toutIdle_within.trans sin_within).le (by decide)

theorem Chip.pllStop_within {u : Chip} : Within ⟨[], some [0x401]⟩ u u.pllStop := by
  unfold Chip.pllStop
  dsimp only
  exact ((((((put_within (Fld.inBlocks_self (by rfl))).trans (put_within (Fld.inBlocks_self (by rfl)))).trans
    (put_within (Fld.inBlocks_self (by rfl)))).trans (put_within (Fld.inBlocks_self (by rfl)))).trans (put_within (Fld.inBlocks_self (by rfl)))).trans
    (put_within (Fld.inBlocks_self (by rfl)))).le (by decide)

theorem Chip.weirSleep_within {u : Chip} : Within ⟨[.weir, .lat], some [0x500]⟩ u u.weirSleep := by
  unfold Chip.weirSleep
  dsimp only
  exact ((enablesClear_within.trans permsClear_within).trans (weir_within (by rfl))).le (by decide)

theorem Chip.pwrForget_within {u : Chip} : Within ⟨[.msram, .ddr, .evr], some []⟩ u u.pwrForget := by
  unfold Chip.pwrForget
  extract_lets v kept
  have hv : Within ⟨[.msram, .ddr, .evr], some []⟩ u v := (Within.ite .unchanged (ddr_within fun _ => by rfl)).le (by decide)
  split
  · exact hv
  · have hmsram : Within ⟨[.msram], some []⟩ v { v with msram := v.msram.filter (fun e => kept.testBit ((e.1 - 0x20000000) / 0x40000)) } :=
      msram_within fun h => memFilter_wf _ _ 0 h
    exact .chain (hmsram.trans evr_within) (by decide) hv

theorem Chip.pwrEnter_within {u : Chip} : Within ⟨frLog ++ [.weir, .lat, .sin, .msram, .ddr, .evr, .pwr], some [0x401, 0x404, 0x409, 0x447, 0x500]⟩ u
  u.pwrEnter := by
  unfold Chip.pwrEnter
  dsimp only
  exact (Within.ite ((((((((Within.ite ((Within.ite ((Within.ite Within.unchanged ((weirSleep_within.trans pllStop_within).trans
    sinSleep_within)).trans (weir_pwr_within (by rfl))) (Within.ite Within.unchanged ((weirSleep_within.trans pllStop_within).trans
    sinSleep_within))).trans pwrForget_within) (Within.ite ((Within.ite Within.unchanged ((weirSleep_within.trans pllStop_within).trans
    sinSleep_within)).trans (weir_pwr_within (by rfl))) (Within.ite Within.unchanged ((weirSleep_within.trans pllStop_within).trans
    sinSleep_within)))).trans (put_within (Fld.inBlocks_self (by rfl)))).trans (put_within (Fld.inBlocks_self (by rfl)))).trans
    (put_within (Fld.inBlocks_self (by rfl)))).trans (satInc_within (Fld.inBlocks_self (by rfl)))).trans (irq_within (.self (by rfl)))).trans
    raiseAfter_within).trans pwr_within) (((((((((Within.ite ((Within.ite ((Within.ite Within.unchanged ((weirSleep_within.trans pllStop_within).trans
    sinSleep_within)).trans (weir_pwr_within (by rfl))) (Within.ite Within.unchanged ((weirSleep_within.trans pllStop_within).trans
    sinSleep_within))).trans pwrForget_within) (Within.ite ((Within.ite Within.unchanged ((weirSleep_within.trans pllStop_within).trans
    sinSleep_within)).trans (weir_pwr_within (by rfl))) (Within.ite Within.unchanged ((weirSleep_within.trans pllStop_within).trans
    sinSleep_within)))).trans (put_within (Fld.inBlocks_self (by rfl)))).trans (put_within (Fld.inBlocks_self (by rfl)))).trans
    (put_within (Fld.inBlocks_self (by rfl)))).trans (satInc_within (Fld.inBlocks_self (by rfl)))).trans (irq_within (.self (by rfl)))).trans
    raiseAfter_within).trans pwr_within).trans pwrWakeNow_within)).le (by decide)

theorem Chip.pwrRollback_within {u : Chip} {pg} {why} : Within ⟨frLog ++ [.weir, .pwr], some [0x409, 0x447]⟩ u (u.pwrRollback pg why) := by
  unfold Chip.pwrRollback
  dsimp only
  exact (((((((((((put_within (Fld.inBlocks_self (by rfl))).trans (put_within (Fld.inBlocks_self (by rfl)))).trans
    (put_within (Fld.inBlocks_self (by rfl)))).trans pwrRestart_within).trans (put_within (Fld.inBlocks_self (by rfl)))).trans
    (put_within (Fld.inBlocks_self (by rfl)))).trans (satInc_within (Fld.inBlocks_self (by rfl)))).trans (irq_within (.self (by rfl)))).trans
    raiseAfter_within).trans pwr_within).trans pwrStartPending_within).le (by decide)

theorem execConsentAnswer_runs {ready} {s} : Runs ⟨frLog ++ [.weir, .lat, .sin, .msram, .ddr, .evr, .pwr], some [0x401, 0x404, 0x409, 0x447, 0x500]⟩ s
  (execConsentAnswer ready s) := by
  unfold execConsentAnswer
  dsimp only
  split
  · refine .become ?_
    exact .rfl
  · split
    · refine .become ?_
      exact .rfl
    · split
      · refine .become ?_
        exact (Within.ite (((pwrLog_within.trans (put_within (Fld.inBlocks_stat (by rfl) (by rfl) pageOf_mod))).trans pwr_within).trans
          pwrEnter_within) ((pwrLog_within.trans (put_within (Fld.inBlocks_stat (by rfl) (by rfl) pageOf_mod))).trans pwr_within)).le (by decide)
      · refine .become ?_
        exact (pwrLog_within.trans pwrRollback_within).le (by decide)

theorem execConsentTimeout_runs {s} : Runs ⟨frLog ++ [.weir, .pwr], some [0x409, 0x447]⟩ s (execConsentTimeout s) := by
  unfold execConsentTimeout
  dsimp only
  split
  · refine .become ?_
    exact .rfl
  · split
    · refine .become ?_
      exact .rfl
    · refine .become ?_
      exact ((until_within.trans pwrLog_within).trans pwrRollback_within).le (by decide)

theorem execIdleWake_runs {s} : Runs ⟨frLog ++ [.weir, .pwr], some [0x409, 0x447]⟩ s (execIdleWake s) := by
  unfold execIdleWake
  dsimp only
  refine .become ?_
  exact (Within.ite pwrWake_within Within.unchanged).le (by decide)

theorem execWakeNLow_runs {s} : Runs ⟨frLog ++ [.weir, .pwr], some [0x409, 0x447]⟩ s (execWakeNLow s) := by
  unfold execWakeNLow
  refine .become ?_
  exact pwrWake_within.le (by decide)

theorem execI2cAddressMatch_runs {addr} {s} : Runs ⟨frLog ++ [.weir, .pwr], some [0x409, 0x447]⟩ s (execI2cAddressMatch addr s) := by
  unfold execI2cAddressMatch
  dsimp only
  split
  · refine .become ?_
    exact (pwr_within.trans pwrWake_within).le (by decide)
  · refine .become ?_
    exact .rfl

theorem execAonAlarm_runs {s} : Runs ⟨frLog ++ [.weir, .pwr], some [0x409, 0x447]⟩ s (execAonAlarm s) := by
  unfold execAonAlarm
  dsimp only
  split
  · refine .become ?_
    exact (advance_within.trans pwrWake_within).le (by decide)
  · refine .become ?_
    exact .rfl

theorem Chip.pllStart_within {u : Chip} : Within ⟨[], some [0x401]⟩ u u.pllStart := by
  unfold Chip.pllStart
  dsimp only
  exact ((((((put_within (Fld.inBlocks_self (by rfl))).trans (put_within (Fld.inBlocks_self (by rfl)))).trans
    (put_within (Fld.inBlocks_self (by rfl)))).trans (put_within (Fld.inBlocks_self (by rfl)))).trans (put_within (Fld.inBlocks_self (by rfl)))).trans
    (put_within (Fld.inBlocks_self (by rfl)))).le (by decide)

theorem Chip.toutArm_within {u : Chip} : Within ⟨[.sin], some [0x404]⟩ u u.toutArm := by
  unfold Chip.toutArm
  dsimp only
  exact (toutIdle_within.trans (Within.foldUpTo fun _ _ => modTout_within)).le (by decide)

theorem Chip.sinWake_within {u : Chip} {crcOk} {full} : Within ⟨frLog ++ [.sin], some [0x404, 0x409]⟩ u (u.sinWake crcOk full) := by
  unfold Chip.sinWake
  dsimp only
  exact ((((Within.ite ((((((sinRestart_within.trans (Within.foldl fun _ _ => (sinState_within.trans (put_within (Reg.SIN_ST.GSTEP_in))).trans
    sinLogical_within)).trans (put_within (Fld.inBlocks_self (by rfl)))).trans (put_within (Fld.inBlocks_self (by rfl)))).trans
    (put_within (Fld.inBlocks_self (by rfl)))).trans (put_within (Fld.inBlocks_self (by rfl)))).trans
    (put_within (Fld.inBlocks_self (by rfl)))) (((((((sinRestart_within.trans (Within.foldl fun _ _ => (sinState_within.trans
    (put_within (Reg.SIN_ST.GSTEP_in))).trans sinLogical_within)).trans (put_within (Fld.inBlocks_self (by rfl)))).trans
    (put_within (Fld.inBlocks_self (by rfl)))).trans (put_within (Fld.inBlocks_self (by rfl)))).trans (put_within (Fld.inBlocks_self (by rfl)))).trans
    (put_within (Fld.inBlocks_self (by rfl)))).trans (irq_within (.self (by rfl))))).trans sin_within).trans raiseAfter_within).trans
    toutArm_within).le (by decide)

theorem Chip.awake_within {u : Chip} {l : List Nat} : Within ⟨frLog ++ [.weir, .pwr], some [0x401, 0x409, 0x447]⟩ u
    (((((({ u with pwr := { u.pwr with sclHeld := false } } : Chip).pllStart).pwrRestart.put Reg.PWR_STAT.STATE 0).put Reg.PWR_STAT.PHASE 0).irq
      pwrPage 2).raiseAfter 102 0x03 l) :=
  ((((((pwr_within.trans pllStart_within).trans pwrRestart_within).trans (put_within (Fld.inBlocks_self (by rfl)))).trans
    (put_within (Fld.inBlocks_self (by rfl)))).trans (irq_within (.self (by rfl)))).trans raiseAfter_within).le (by decide)

theorem Chip.weirReleased_within {u : Chip} : Within ⟨[.weir], some []⟩ u { u with weir := { u.weir with withheld := false } } :=
  weir_within (by rfl)

theorem restarted_runs {s : State} {u : Chip} {banks crcOk : Bool}
    (h : Within ⟨frLog ++ [.weir, .sin, .pwr, .com, .boot], some [0x401, 0x404, 0x409, 0x447]⟩ s.chip u) :
    Runs ⟨frLog ++ [.weir, .sin, .pwr, .com, .boot], some [0x401, 0x404, 0x409, 0x447]⟩ s
      (if banks then s.become (u.resetRequest 3 4 0 false)
       else s.become ((({ u with weir := { u.weir with withheld := false } } : Chip).sinWake crcOk true).pwrStartPending)) := by
  split
  · exact .become (.chain resetRequest_within (by decide) h)
  · exact .become (.chain ((weirReleased_within.trans sinWake_within).trans pwrStartPending_within) (by decide) h)

theorem execWakeRestart_runs {s : State} {crcOk : Bool} :
    Runs ⟨frLog ++ [.weir, .sin, .pwr, .com, .boot], some [0x401, 0x404, 0x409, 0x447]⟩ s (execWakeRestart crcOk s) := by
  unfold execWakeRestart
  extract_lets +onlyGivenNames u st banks
  split
  · exact .become .rfl
  · exact restarted_runs ((awake_within (u := s.chip)).le (by decide))

theorem execPackageStore_runs {svc} {pkg} {s} : Runs ⟨frLog ++ [.com], some [0x409]⟩ s (execPackageStore svc pkg s) := by
  unfold execPackageStore
  dsimp only
  refine .become ?_
  exact (Within.ite (com_within.trans raiseAfter_within) refuse_within).le (by decide)

theorem execFwImageStore_runs {svc} {slot} {hdr} {ok} {digest} {s} : Runs ⟨frLog ++ [.com], some [0x409, 0x444]⟩ s
  (execFwImageStore svc slot hdr ok digest s) := by
  unfold execFwImageStore
  dsimp only
  refine .become ?_
  exact (Within.ite refuse_within (Within.ite ((com_within.trans fwShow_within).trans raiseAfter_within) (com_within.trans
    fwShow_within))).le (by decide)

theorem execSvnAdvance_runs {svc} {svn} {s} : Runs ⟨[.com], some [0x444]⟩ s (execSvnAdvance svc svn s) := by
  unfold execSvnAdvance
  dsimp only
  refine .become ?_
  exact (Within.ite (com_within.trans fwShow_within) refuse_within).le (by decide)

theorem Chip.idbBuffer_within {u : Chip} {i : Nat} {l : List (Nat × Nat × List Byte)} : Within ⟨[.msram], some []⟩ u (u.idbBuffer i l) := by
  unfold Chip.idbBuffer
  refine msram_within fun h => memFoldl_wf (fun _ _ hm => memWriteBytes_wf _ _ _ hm) (memFoldl_wf (fun m j hm => ?_) h)
  split
  · exact memClear_wf _ _ _ hm
  · exact hm

theorem execIdbScan_runs {i} {mems} {s} : Runs ⟨frLog ++ [.msram, .com], some [0x407, 0x409, 0x449]⟩ s (execIdbScan i mems s) := by
  unfold execIdbScan
  dsimp only
  split
  · refine .become ?_
    exact .rfl
  · refine .become ?_
    exact (Within.ite ((((((idbBuffer_within.trans (put_within (Reg.IDB_STAT.FOUND_in))).trans (put_within (Reg.IDB_STAT.BADREC_in))).trans
      (put_within (Reg.IDB_STAT.BUSY_in))).trans (put_within (Reg.IDB_SCAN.GO_in))).trans com_within).trans
      (Within.foldl fun _ _ => fwRaise_within.trans nonsafetyFault_within)) (((((idbBuffer_within.trans (put_within (Reg.IDB_STAT.FOUND_in))).trans
      (put_within (Reg.IDB_STAT.BADREC_in))).trans (put_within (Reg.IDB_STAT.BUSY_in))).trans (put_within (Reg.IDB_SCAN.GO_in))).trans
      com_within)).le (by decide)

theorem execIdbScanTimer_runs {i} {s} : Runs ⟨[.weir], some [0x449]⟩ s (execIdbScanTimer i s) := by
  unfold execIdbScanTimer
  dsimp only
  refine .become ?_
  exact (Within.ite Within.unchanged (until_within.trans (put_within (Reg.IDB_STAT.BUSY_in)))).le (by decide)

theorem execConfirmRecordWrite_runs {s} : Runs ⟨[.weir, .com], some []⟩ s (execConfirmRecordWrite s) := by
  unfold execConfirmRecordWrite
  dsimp only
  split
  · refine .become ?_
    exact .rfl
  · refine .become ?_
    exact (com_within.trans until_within).le (by decide)

theorem execActivationStrobe_runs {s} : Runs ⟨frLog ++ [.weir, .com, .boot], some [0x407, 0x409, 0x444]⟩ s (execActivationStrobe s) := by
  unfold execActivationStrobe
  dsimp only
  split
  · refine .become ?_
    exact .rfl
  · refine .become ?_
    exact (untilWeir_within.trans activate_within).le (by decide)

theorem execTrialBootTimeout_runs {s} : Runs ⟨[.weir, .com, .boot], some [0x444]⟩ s (execTrialBootTimeout s) := by
  unfold execTrialBootTimeout
  dsimp only
  split
  · refine .become ?_
    exact .rfl
  · split
    · refine .become ?_
      exact .rfl
    · refine .become ?_
      exact ((until_within.trans trialUsed_within).trans fwShow_within).le (by decide)

theorem Chip.bootStop_within {u : Chip} : Within ⟨[.boot], some [0x401]⟩ u u.bootStop := by
  unfold Chip.bootStop
  dsimp only
  exact (Within.ite (boot_within.trans (put_within (Fld.inBlocks_self (by rfl)))) Within.unchanged).le (by decide)

theorem Chip.clockFault_within {u : Chip} {fcode} {dom} {data} : Within ⟨frLog ++ [.weir, .link, .sout, .boot], some [0x401, 0x405, 0x409, 0x500]⟩ u
  (u.clockFault fcode dom data) := by
  unfold Chip.clockFault
  dsimp only
  exact (Within.ite (((((((sluiceSafe_within.trans link_within).trans (put_within (Fld.inBlocks_self (by rfl)))).trans
    (put_within (Fld.inBlocks_self (by rfl)))).trans (put_within (Fld.inBlocks_self (by rfl)))).trans (irq_within (.self (by rfl)))).trans
    raiseAfter_within).trans bootStop_within) ((((((sluiceSafe_within.trans link_within).trans (put_within (Fld.inBlocks_self (by rfl)))).trans
    (put_within (Fld.inBlocks_self (by rfl)))).trans (put_within (Fld.inBlocks_self (by rfl)))).trans (irq_within (.self (by rfl)))).trans
    raiseAfter_within)).le (by decide)

theorem Chip.clockFaultFree_within {u : Chip} {fcode} {dom} : Within ⟨frLog ++ [.weir, .link, .sout, .boot], some [0x401, 0x405, 0x409, 0x500]⟩ u
  (u.clockFaultFree fcode dom) := by
  unfold Chip.clockFaultFree
  dsimp only
  exact (free_within.trans clockFault_within).le (by decide)

theorem execClkLockLoss_runs {s} : Runs ⟨frLog ++ [.weir, .link, .sout, .boot], some [0x401, 0x405, 0x409, 0x500]⟩ s (execClkLockLoss s) := by
  unfold execClkLockLoss
  dsimp only
  refine .become ?_
  exact (Within.ite ((put_within (Fld.inBlocks_self (by rfl))).trans clockFaultFree_within) Within.unchanged).le (by decide)

theorem execRefMissing_runs {s} : Runs ⟨frLog ++ [.weir, .link, .sout, .boot], some [0x401, 0x405, 0x409, 0x500]⟩ s (execRefMissing s) := by
  unfold execRefMissing
  dsimp only
  refine .become ?_
  exact (Within.ite ((put_within (Fld.inBlocks_self (by rfl))).trans clockFaultFree_within) Within.unchanged).le (by decide)

theorem execDividerWindow_runs {dom} {branch} {count} {s} : Runs ⟨frLog ++ [.weir, .link, .sout, .boot], some [0x401, 0x405, 0x409, 0x500]⟩ s
  (execDividerWindow dom branch count s) := by
  unfold execDividerWindow
  dsimp only
  refine .become ?_
  split
  · exact (Within.ite clockFault_within Within.unchanged).le (by decide)
  · exact .rfl

theorem execFrcRangeWindow_runs {count} {s} : Runs ⟨frLog ++ [.weir, .link, .sout, .boot], some [0x401, 0x405, 0x409, 0x500]⟩ s
  (execFrcRangeWindow count s) := by
  unfold execFrcRangeWindow
  dsimp only
  refine .become ?_
  exact (Within.ite Within.unchanged (Within.ite ((put_within (Fld.inBlocks_self (by rfl))).trans
    clockFault_within) (put_within (Fld.inBlocks_self (by rfl))))).le (by decide)

theorem Chip.bootFail_within {u : Chip} {fcode} {step} : Within ⟨frLog ++ [.boot], some [0x401, 0x409]⟩ u (u.bootFail fcode step) := by
  unfold Chip.bootFail
  exact ((bootStop_within.trans (irq_within (.self (by rfl)))).trans raiseAfter_within).le (by decide)

theorem execResetStepTimeout_runs {step} {s} : Runs ⟨frLog ++ [.weir, .link, .sout, .boot], some [0x401, 0x405, 0x409, 0x500]⟩ s
  (execResetStepTimeout step s) := by
  unfold execResetStepTimeout
  dsimp only
  refine .become ?_
  exact (Within.ite (clockFaultFree_within.trans bootFail_within) Within.unchanged).le (by decide)

theorem execClkCtlWrite_runs {req} {v} {s} : Runs ⟨frConf ++ [.pages, .weir], some (blConf ++ [0x401, 0x40A])⟩ s (execClkCtlWrite req v s) := by
  unfold execClkCtlWrite
  refine .become ?_
  exact (atPage_within (.self) fun _ => (Within.ite clkCtl_within (lockViol_within (.self)))).le (by decide)

theorem Chip.fabricReset_within {u : Chip} : Within ⟨[.fab], some [0x40A]⟩ u u.fabricReset := by
  unfold Chip.fabricReset
  exact ((fab_within.trans countOut_within).trans fabricRewind_within).le (by decide)

theorem Chip.dieReset_within {u : Chip} {doms : List Dom} {por : Bool} :
    Within ⟨frConf ++ [.fab, .pages, .chans, .gate, .rt, .sin, .zst, .svc, .ports, .cb, .tm, .br, .msram, .ddr, .evr, .perc, .ret, .pwr, .com], none⟩
      u (u.dieReset doms por) := by
  unfold Chip.dieReset
  extract_lets link keep evr u1 u2 u3 u4
  have hkeep : ∀ h : Channel, (keep h).sram = [] := fun h => by cases por <;> rfl
  have h1 : Within ⟨frConf ++ [.fab, .pages, .chans, .gate, .rt, .sin, .zst, .svc, .ports, .cb, .tm, .br, .msram, .ddr, .evr, .perc, .ret, .pwr,
    .com], none⟩
      u u1 := (sluiceReset_within.trans resetDomains_within).le (by decide)
  have h2 : Within ⟨frConf ++ [.fab, .pages, .chans, .gate, .rt, .sin, .zst, .svc, .ports, .cb, .tm, .br, .msram, .ddr, .evr, .perc, .ret, .pwr,
    .com], none⟩
      u1 u2 := (Within.ite evr_within (evrReset_within.trans evrUnlocked_within)).le (by decide)
  have h3 : Within ⟨frConf ++ [.fab, .pages, .chans, .gate, .rt, .sin, .zst, .svc, .ports, .cb, .tm, .br, .msram, .ddr, .evr, .perc, .ret, .pwr,
    .com], none⟩
      u2 u3 := by
    refine (Within.parts (u := u2) (t := u3) [.intake, .pages, .plic, .cic, .chans, .conf, .link, .flt, .gate, .rt, .sin, .zst, .svc, .ports, .cb,
      .tm, .br, .msram, .ddr, .perc, .ret, .pwr, .com] (fun q => by cases q <;> simp [Part.same, u3]) rfl ⟨le_rfl, le_rfl, id, fun h => ?_⟩).le
        (by decide)
    obtain ⟨-, -, -, -, hs, hd⟩ := u2.memoriesOk_iff.1 h
    refine (memoriesOk_iff _).2 ⟨by rw [hkeep]; rfl, by rw [hkeep]; rfl, by rw [hkeep]; rfl, rfl, ?_, ?_⟩
    · cases por
      · exact hs
      · rfl
    · cases por
      · exact hd
      · rfl
  exact .chain (fabricReset_within.trans (Within.ite (put_within (portPage_in.field 0x44 (by rfl) (by rfl) (by decide))) .unchanged)) (by decide)
    ((h1.step h2).step h3)

theorem execPorAssert_runs {aonLost} {s} : Runs ⟨frConf ++ [.fab, .pages, .chans, .gate, .rt, .sin, .zst, .svc, .ports, .cb, .tm, .br, .msram, .ddr,
  .evr, .perc, .ret, .pwr, .com, .boot], none⟩ s (execPorAssert aonLost s) := by
  unfold execPorAssert
  dsimp only
  refine .become ?_
  exact ((Within.ite (((trialAborted_within.trans dieReset_within).trans (put_within (Fld.inBlocks_self (by rfl)))).trans
    flt_pwr_within) (((trialAborted_within.trans dieReset_within).trans (put_within (Fld.inBlocks_self (by rfl)))).trans pwr_within)).trans
    boot_within).le (by rfl)

theorem Chip.canLinks_within {u : Chip} : Within ⟨[], some [0x44A, 0x460, 0x462, 0x463, 0x464, 0x466]⟩ u u.canLinks := by
  unfold Chip.canLinks
  exact (Within.foldl fun _ _ => (put_within (portPage_in.field 0x44 (by rfl) (by rfl) (by decide)))).le (by decide)

theorem Chip.resetReleased_within {u : Chip} {r} : Within ⟨frSafe ++ [.link, .sin, .svc, .boot], some
  (blSafe ++ [0x401, 0x404, 0x44A, 0x460, 0x462, 0x463, 0x464, 0x466])⟩ u (u.resetReleased r) := by
  unfold Chip.resetReleased
  dsimp only
  exact ((((((((((((put_within (Fld.inBlocks_self (by rfl))).trans (put_within (Fld.inBlocks_self (by rfl)))).trans
    (put_within (Fld.inBlocks_self (by rfl)))).trans (satInc_within rstCnt_in)).trans (put_within (Fld.inBlocks_self (by rfl)))).trans
    raiseAfter_within).trans link_svc_boot_within).trans (put_within (Fld.inBlocks_self (by rfl)))).trans canLinks_within).trans
    strapLatch_within).trans sinRestart_within).trans (Within.foldUpTo fun _ _ => chEnter_within)).le (by decide)

theorem execPorRelease_runs {s} : Runs ⟨frSafe ++ [.link, .sin, .svc, .boot], some
  (blSafe ++ [0x401, 0x404, 0x44A, 0x460, 0x462, 0x463, 0x464, 0x466])⟩ s (execPorRelease s) := by
  unfold execPorRelease
  dsimp only
  split
  · refine .become ?_
    exact ((weir_within (by rfl)).trans resetReleased_within).le (by decide)
  · refine .become ?_
    exact .rfl

theorem Chip.resetFlitUp_within {u : Chip} : Within ⟨frSafe ++ [.link], some blSafe⟩ u u.resetFlitUp := by
  unfold Chip.resetFlitUp
  dsimp only
  split
  · exact .rfl
  · exact (link_within.trans weirHold_within).le (by decide)

theorem execResetFlit_runs {up} {s} : Runs ⟨frSafe ++ [.link, .com, .boot], some blSafe⟩ s (execResetFlit up s) := by
  unfold execResetFlit
  dsimp only
  split
  · refine .become ?_
    exact resetFlitUp_within.le (by decide)
  · split
    · refine .become ?_
      exact (link_within.trans resetRequest_within).le (by decide)
    · refine .become ?_
      exact .rfl

theorem execResetAssert_runs {s} : Runs ⟨frConf ++ [.fab, .pages, .chans, .weir, .gate, .rt, .sin, .zst, .svc, .ports, .cb, .tm, .br, .msram, .ddr,
  .evr, .perc, .ret, .pwr, .com, .boot], none⟩ s (execResetAssert s) := by
  unfold execResetAssert
  dsimp only
  split
  · refine .become ?_
    exact .rfl
  · split
    · refine .become ?_
      exact .rfl
    · refine .become ?_
      exact ((((until_within.trans link_within).trans zstStop_within).trans dieReset_within).trans boot_within).le (by rfl)

theorem execResetRelease_runs {s} : Runs ⟨frSafe ++ [.link, .sin, .svc, .boot], some
  (blSafe ++ [0x401, 0x404, 0x44A, 0x460, 0x462, 0x463, 0x464, 0x466])⟩ s (execResetRelease s) := by
  unfold execResetRelease
  dsimp only
  split
  · refine .become ?_
    exact .rfl
  · split
    · refine .become ?_
      exact .rfl
    · refine .become ?_
      exact ((resetFlitUp_within.trans until_within).trans resetReleased_within).le (by decide)

theorem Chip.bootDone_within {u : Chip} {step} : Within ⟨[.boot], some [0x401]⟩ u (u.bootDone step) := by
  unfold Chip.bootDone
  dsimp only
  exact (boot_within.trans (put_within (Fld.inBlocks_self (by rfl)))).le (by decide)

theorem Chip.bootStep3_within {u : Chip} : Within ⟨[], some [0x401]⟩ u u.bootStep3 := by
  unfold Chip.bootStep3
  dsimp only
  exact (((((put_within (Fld.inBlocks_self (by rfl))).trans (put_within (Fld.inBlocks_self (by rfl)))).trans
    (put_within (Fld.inBlocks_self (by rfl)))).trans (put_within (Fld.inBlocks_self (by rfl)))).trans
    (put_within (Fld.inBlocks_self (by rfl)))).le (by decide)

theorem Chip.bootStep6_within {u : Chip} {slot} {fallback} {act} : Within ⟨frLog ++ [.com, .boot], some [0x401, 0x409, 0x444]⟩ u
  (u.bootStep6 slot fallback act) := by
  unfold Chip.bootStep6
  dsimp only
  refine .chain (((put_within (Fld.inBlocks_self (by rfl))).trans (put_within (Fld.inBlocks_self (by rfl)))).trans
    (put_within (Fld.inBlocks_self (by rfl)))) (by decide) ?_
  split
  · exact ((com_boot_within.trans fwShow_within).trans fwRaise_within).le (by decide)
  · exact (com_boot_within.trans fwShow_within).le (by decide)

theorem Chip.cfgDefaults_within {u : Chip} {data} : Within ⟨frLog, some [0x407, 0x409]⟩ u (u.cfgDefaults data) := by
  unfold Chip.cfgDefaults
  exact ((put_within (Fld.inBlocks_self (by rfl))).trans fwRaise_within).le (by decide)

theorem Chip.bootCheck_within {u : Chip} : Within ⟨frLog ++ [.com], some [0x407, 0x409]⟩ u u.bootCheck := by
  unfold Chip.bootCheck
  dsimp only
  split
  · exact ((com_within.trans (put_within (Fld.inBlocks_self (by rfl)))).trans (put_within (Fld.inBlocks_self (by rfl)))).le (by decide)
  · exact (Within.ite ((com_within.trans (put_within (Fld.inBlocks_self (by rfl)))).trans cfgDefaults_within) ((Within.ite ((com_within.trans
      (put_within (Fld.inBlocks_self (by rfl)))).trans (put_within (Fld.inBlocks_self (by rfl)))) (com_within.trans
      (put_within (Fld.inBlocks_self (by rfl))))).trans (Within.foldl fun _ _ => fwRaise_within))).le (by decide)

theorem Chip.bootStep8_within {u : Chip} : Within ⟨frLog ++ [.com], some [0x407, 0x409, 0x444, 0x449]⟩ u u.bootStep8 := by
  unfold Chip.bootStep8
  dsimp only
  refine .chain ((put_within (Fld.inBlocks_self (by rfl))).trans (put_within (Fld.inBlocks_self (by rfl)))) (by decide) ?_
  split
  · exact (((bootCheck_within.trans fwShow_within).trans com_within).trans fwRaise_within).le (by decide)
  · exact (bootCheck_within.trans fwShow_within).le (by decide)

theorem Chip.loadClaim_within {u : Chip} : Within ⟨[.zst, .ret], some []⟩ u u.loadClaim := by
  unfold Chip.loadClaim
  dsimp only
  exact zst_ret_within.le (by decide)

theorem Chip.loadSram_within {u : Chip} {a : Nat} {b : List Byte} : Within ⟨[.chans], some []⟩ u (u.loadSram a b) := by
  refine Within.foldUpTo fun v c => ?_
  split
  · exact .rfl
  · exact modChan_sram_within fun h => memWriteBytes_wf _ _ _ (v.memoriesOk_chan h c)

theorem Chip.loadKeys_within {u : Chip} : Within ⟨[.chans], some []⟩ u u.loadKeys := by
  unfold Chip.loadKeys
  dsimp only
  exact ((Within.foldl fun _ _ => loadSram_within.trans loadSram_within).trans loadSram_within).le (by decide)

theorem Chip.putRwl_within {u : Chip} {a} {v} : Within ⟨[], none⟩ u (u.putRwl a v) := by
  unfold Chip.putRwl
  exact (Within.foldl fun _ _ => putPiece_within).le (by rfl)

theorem Chip.loadRegs_within {u : Chip} {l} {b} : Within ⟨[], none⟩ u (u.loadRegs l b) := by
  unfold Chip.loadRegs
  exact (Within.foldl fun _ _ => putRwl_within).le (by rfl)

theorem Chip.loadRouting_within {u : Chip} {r} : Within ⟨[.cic], some []⟩ u (u.loadRouting r) := by
  unfold Chip.loadRouting
  dsimp only
  exact (Within.foldUpTo fun _ _ => cic_within).le (by decide)

theorem Chip.loadSet_within {u : Chip} {k} {b} : Within ⟨[.cic, .ports], none⟩ u (u.loadSet k b) := by
  unfold Chip.loadSet
  dsimp only
  exact (Within.ite ((loadRegs_within.trans takePortCfg_within).trans loadRegs_within) (Within.ite (loadRegs_within.trans
    loadRouting_within) loadRegs_within)).le (by rfl)

theorem Chip.loadContent_within {u : Chip} {k} {b} : Within ⟨[.chans, .com], some []⟩ u (u.loadContent k b) := by
  unfold Chip.loadContent
  dsimp only
  exact (Within.ite com_within (Within.ite loadSram_within (Within.ite loadSram_within (Within.ite loadSram_within
    (Within.ite com_within Within.unchanged))))).le (by decide)

theorem Chip.loadOne_within {u : Chip} {s} : Within ⟨[.cic, .chans, .ports, .com], none⟩ u (u.loadOne s) := by
  unfold Chip.loadOne
  dsimp only
  exact (Within.ite ((Within.ite com_within Within.unchanged).trans loadSet_within) ((Within.ite com_within Within.unchanged).trans
    loadContent_within)).le (by rfl)

theorem Chip.weirDefaults_within {u : Chip} : Within ⟨[], none⟩ u u.weirDefaults := by
  unfold Chip.weirDefaults
  exact (Within.foldl fun _ _ => (Within.foldl fun _ _ => put_any_within)).le (by rfl)

/-- What a package has loaded is taken back: parts of `back` in place of those of `v`, both reached from `u`. -/
theorem Chip.unload_within {u v back : Chip} {l : List Part} (hv : Within ⟨l, none⟩ u v)
    (hl : ∀ p ∈ [Part.chans, .com, .ports, .cic, .zst, .ret], p ∈ l) (hb : u.memoriesOk = true → back.memoriesOk = true) :
    Within ⟨l, none⟩ u (v.unload back) := by
  unfold Chip.unload
  extract_lets w
  have hw : Within ⟨l, none⟩ u w := by
    refine ⟨fun p hp => Part.same_trans (hv.same p hp) ?_, fun f _ _ _ hb => by simp [Scope.covers] at hb,
      hv.sound.now_le, hv.sound.free_le, hv.sound.clock, fun h => ?_⟩
    · have hne : p ∉ [Part.chans, .com, .ports, .cic, .zst, .ret] := fun h => hp (hl p h)
      cases p <;> simp_all [Part.same, w]
    · obtain ⟨ha, hb, hc, -, -, -⟩ := back.memoriesOk_iff.1 (hb h)
      obtain ⟨-, -, -, hm⟩ := v.memoriesOk_iff.1 (hv.sound.memories h)
      exact (memoriesOk_iff _).2 ⟨ha, hb, hc, hm⟩
  exact .chain (Within.foldl fun _ _ => putRwl_within) (by rfl) hw

theorem Chip.loadEvents_within {u : Chip} {old} : Within ⟨frLog, some [0x409]⟩ u (u.loadEvents old) := by
  unfold Chip.loadEvents
  exact (Within.foldl fun _ _ => fwRaise_within).le (by decide)

theorem Chip.loadLattice_within {u : Chip} {b} {ecc} {w} : Within ⟨frSafe, some blSafe⟩ u (u.loadLattice b ecc w) := by
  unfold Chip.loadLattice
  dsimp only
  exact (Within.ite ((((((sbLoadBegin_within.trans putStandby_within).trans sbLoadEnd_within).trans sbVerify_within).trans verifyDone_within).trans
    (put_within (Fld.inBlocks_self (by rfl)))).trans swapArm_within) ((((sbLoadBegin_within.trans putStandby_within).trans sbLoadEnd_within).trans
    sbVerify_within).trans verifyDone_within)).le (by decide)

theorem Chip.loadPackage_within {u : Chip} {l : List ParamSet} {ecc w : Nat} :
    Within ⟨frSafe ++ [.com, .ports, .ret], none⟩ u (u.loadPackage l ecc w) := by
  unfold Chip.loadPackage
  extract_lets -underBinder v back
  have hv : Within ⟨frSafe ++ [.com, .ports, .ret], none⟩ u v :=
    (((Within.foldl fun _ _ => loadOne_within).trans loadKeys_within).trans loadClaim_within).le (by rfl)
  have hback : u.memoriesOk = true → back.memoriesOk = true := (weirDefaults_within.trans loadClaim_within).sound.memories
  clear_value v back
  split
  next e _ =>
    extract_lets d cond
    have hd : Within ⟨frSafe ++ [.com, .ports, .ret], none⟩ u d :=
      .chain cfgDefaults_within (by rfl) (unload_within hv (by decide) hback)
    split
    · exact hd
    · refine .chain (Within.foldUpTo (a := ⟨frLog, some [0x409]⟩) fun t c => ?_) (by rfl) hd
      exact (Within.ite rtEvent_within .unchanged).le (by decide)
  next =>
    extract_lets v'
    have hv' : Within ⟨frSafe ++ [.com, .ports, .ret], none⟩ u v' := .chain loadEvents_within (by rfl) hv
    split
    · exact hv'
    next s _ =>
      extract_lets x
      have hx : Within ⟨frSafe ++ [.com, .ports, .ret], none⟩ u x := .chain loadLattice_within (by rfl) hv'
      split
      · exact hx
      · exact .chain (putStandby_within.trans cfgDefaults_within) (by rfl) (unload_within hx (by decide) hback)

theorem Chip.sluiceComparatorTest_within {u : Chip} {failing} : Within ⟨frLog ++ [.weir, .sout], some [0x405, 0x409, 0x500]⟩ u
  (u.sluiceComparatorTest failing) := by
  unfold Chip.sluiceComparatorTest
  exact (Within.foldl fun _ _ => outLockout_within).le (by decide)

theorem Chip.sinComparatorTest_within {u : Chip} {failing} : Within ⟨frLog ++ [.sin], some [0x404, 0x409]⟩ u (u.sinComparatorTest failing) := by
  unfold Chip.sinComparatorTest
  exact (Within.foldl fun _ _ => sinLockout_within).le (by decide)

theorem Chip.sluiceLoad_within {u : Chip} : Within ⟨[.sout], some [0x405]⟩ u u.sluiceLoad := by
  unfold Chip.sluiceLoad
  exact (Within.foldUpTo fun _ _ => (put_within (Reg.SOUT_ST.STATE_in)).trans modOut_within).le (by decide)

theorem Chip.sinLoad_within {u : Chip} : Within ⟨[.sin], some [0x404]⟩ u u.sinLoad := by
  unfold Chip.sinLoad
  exact (sinRestart_within.trans (Within.foldUpTo fun _ _ => (Within.ite sinStart_within (sinState_within.trans sinLogical_within)))).le (by decide)

theorem Chip.loadPort_within {u : Chip} {b : Bool} : Within ⟨[.chans, .weir, .boot], some [0x500]⟩ u
    (foldUpTo 3 (({ u with boot := { u.boot with wpor := b } } : Chip).put Reg.WR_STAT.WPOR 0)
      (fun u c => if u.chState c = 3 then u else u.loadFirmware c)) :=
  ((boot_within.trans (put_within (Fld.inBlocks_self (by rfl)))).trans
    (Within.foldUpTo (a := ⟨[.chans], some []⟩) fun _ _ => (Within.ite .unchanged loadFirmware_within).le (by decide))).le (by decide)

theorem Chip.timeCopy_within {u : Chip} : Within ⟨[], some [0x406]⟩ u
    (if u.on Reg.WR_STAT.STOFF_SET then (u.put Reg.TM_STOFF.STOFF (u.get Reg.WR_STOFF.STOFF)).put Reg.TM_STAT.STOFF 1 else u) :=
  (Within.ite ((put_within (Fld.inBlocks_self (by rfl))).trans (put_within (Fld.inBlocks_self (by rfl)))) .unchanged).le (by decide)

theorem Chip.bootStep9_within {u : Chip} {ecc w : Nat} :
    Within ⟨frSafe ++ [.fab, .link, .rt, .sin, .ports, .ret, .com, .boot], none⟩ u (u.bootStep9 ecc w) := by
  unfold Chip.bootStep9
  refine .chain ((((((modWeir_within fun _ => by rfl).trans weirCfgCheck_within).trans sinLoad_within).trans sluiceLoad_within).trans
    sinComparatorTest_within).trans sluiceComparatorTest_within |>.trans fabricRewind_within) (by rfl) ?_
  refine .chain timeCopy_within (by rfl) ?_
  split
  · exact .chain loadPackage_within (by rfl) (loadPort_within.le (by rfl))
  · exact .chain (weirDefaults_within.trans loadClaim_within) (by rfl) (loadPort_within.le (by rfl))

theorem Chip.sluiceOffTest_within {u : Chip} {fb} : Within ⟨frLog ++ [.weir, .sout], some [0x405, 0x409, 0x500]⟩ u (u.sluiceOffTest fb) := by
  unfold Chip.sluiceOffTest
  exact ((put_within (Fld.inBlocks_self (by rfl))).trans (Within.foldl fun _ _ => outLockout_within)).le (by decide)

theorem Chip.retainedBytes_within {u : Chip} {c} {l} : Within ⟨[.chans, .conf], some [0x403]⟩ u (u.retainedBytes c l) := by
  unfold Chip.retainedBytes
  dsimp only
  exact ((Within.foldlOf ⟨[.chans, .conf], some [0x403]⟩ fun t x => by
  split
  · exact (Within.foldl fun _ _ => sramWrite_within).le (by decide)
  · exact .rfl
)).le (by decide)

theorem Chip.rtStart_within {u : Chip} {c} {r} : Within ⟨frLog ++ [.chans, .conf, .rt, .boot], some [0x403, 0x409]⟩ u (u.rtStart c r) := by
  unfold Chip.rtStart
  extract_lets k rx warm rt kept rt' ended u1 u2 u3 u4 _ u5
  have h1 : Within ⟨frLog ++ [.chans, .conf, .rt, .boot], some [0x403, 0x409]⟩ u u1 := (rt_within.trans retainedBytes_within).le (by decide)
  have h2 : Within ⟨frLog ++ [.chans, .conf, .rt, .boot], some [0x403, 0x409]⟩ u1 u2 := by
    unfold u2
    split
    · exact rtEvent_within.le (by decide)
    · exact .rfl
  have h3 : Within ⟨frLog ++ [.chans, .conf, .rt, .boot], some [0x403, 0x409]⟩ u2 u3 := (Within.ite rtEvent_within rtEvent_within).le (by decide)
  have h5 : Within ⟨frLog ++ [.chans, .conf, .rt, .boot], some [0x403, 0x409]⟩ u3 u5 :=
    ((Within.foldl fun _ _ => rtEvent_within).trans boot_within).le (by decide)
  have hstarted := ((h1.step h2).step h3).step h5
  split
  · exact .chain (modPair_within.trans pairEnter_within) (by decide) hstarted
  · exact hstarted

theorem Chip.confStart_within {u : Chip} {mask} : Within ⟨frConf ++ [.weir], some blConf⟩ u (u.confStart mask) := by
  unfold Chip.confStart
  exact (Within.ite modeChange_within (Within.ite modeChange_within confSafe_within)).le (by decide)

theorem Chip.latRestrict_within {u : Chip} : Within ⟨[.lat], some []⟩ u u.latRestrict := by
  unfold Chip.latRestrict
  dsimp only
  exact lat_within.le (by decide)

theorem Chip.keepProofs_within {u : Chip} : Within ⟨[.sin], some [0x404]⟩ u u.keepProofs := by
  unfold Chip.keepProofs
  dsimp only
  exact (sin_within.trans (Within.foldl fun _ _ => (Within.ite (sinState_within.trans
    (put_within (Reg.SIN_PROOF.PROOF_in))) Within.unchanged))).le (by decide)

theorem Chip.fwBooted_within {u : Chip} {all} : Within ⟨frLog ++ [.com], some [0x409, 0x444]⟩ u (u.fwBooted all) := by
  unfold Chip.fwBooted
  dsimp only
  exact (((Within.ite com_within Within.unchanged).trans fwShow_within).trans fwRaise_within).le (by decide)

theorem Chip.bootActive_within {u : Chip} {r} : Within ⟨frConf ++ [.chans, .weir, .lat, .rt, .sin, .com, .boot], some
  (blConf ++ [0x402, 0x404, 0x406, 0x444])⟩ u (u.bootActive r) := by
  unfold Chip.bootActive
  dsimp only
  exact ((((Within.ite (((((Within.ite (((Within.ite confSafe_within Within.unchanged).trans (Within.foldl fun _ _ => rtStart_within.trans
    chActive_within)).trans (Within.foldl fun _ _ => (modChan_within (fun _ => by rfl)))) ((((Within.ite confSafe_within Within.unchanged).trans
    (Within.foldl fun _ _ => rtStart_within.trans chActive_within)).trans (Within.foldl fun _ _ => (modChan_within (fun _ => by rfl)))).trans
    confStart_within)).trans setChange_within).trans latRestrict_within).trans signalEnables_within).trans
    keepProofs_within) ((((Within.ite (((Within.ite confSafe_within Within.unchanged).trans (Within.foldl fun _ _ => rtStart_within.trans
    chActive_within)).trans (Within.foldl fun _ _ => (modChan_within (fun _ => by rfl)))) ((((Within.ite confSafe_within Within.unchanged).trans
    (Within.foldl fun _ _ => rtStart_within.trans chActive_within)).trans (Within.foldl fun _ _ => (modChan_within (fun _ => by rfl)))).trans
    confStart_within)).trans setChange_within).trans latRestrict_within).trans signalEnables_within)).trans
    (put_within (Fld.inBlocks_self (by rfl)))).trans toutArm_within).trans fwBooted_within).le (by decide)

theorem Chip.bootStep_within {u : Chip} {r} {step} {ok} {ok2} {m} {m2} : Within ⟨frSafe ++ [.fab, .link, .rt, .sin, .ports, .ret, .com, .boot], none⟩
  u (u.bootStep r step ok ok2 m m2) := by
  unfold Chip.bootStep
  dsimp only
  split
  · exact (Within.ite (fwShow_within.trans bootDone_within) bootFail_within).le (by rfl)
  · exact (Within.ite bootDone_within Within.unchanged).le (by rfl)
  · exact (Within.ite bootFail_within (Within.ite (clockFaultFree_within.trans bootFail_within) ((Within.ite bootStep3_within (bootStep3_within.trans
      (put_within (Fld.inBlocks_self (by rfl))))).trans bootDone_within))).le (by rfl)
  · exact (Within.ite (boot_within.trans bootDone_within) Within.unchanged).le (by rfl)
  · exact (Within.ite Within.unchanged (Within.ite bootFail_within ((put_within (Fld.inBlocks_self (by rfl))).trans bootDone_within))).le (by rfl)
  · split
    · exact (bootStep6_within.trans bootDone_within).le (by rfl)
    · exact boot_within.le (by rfl)
  · exact (Within.ite bootDone_within ((boot_within.trans (put_within (Fld.inBlocks_self (by rfl)))).trans bootDone_within)).le (by rfl)
  · exact (bootStep8_within.trans bootDone_within).le (by rfl)
  · exact (bootStep9_within.trans bootDone_within).le (by rfl)
  · exact (sluiceOffTest_within.trans bootDone_within).le (by rfl)
  · exact (bootActive_within.trans bootDone_within).le (by rfl)
  · exact .rfl

theorem execBootStepDone_runs {step} {ok} {ok2} {m} {m2} {s} : Runs ⟨frSafe ++ [.fab, .link, .rt, .sin, .ports, .ret, .com, .boot], none⟩ s
  (execBootStepDone step ok ok2 m m2 s) := by
  unfold execBootStepDone
  dsimp only
  split
  · refine .become ?_
    exact (Within.ite Within.unchanged bootStep_within).le (by rfl)
  · refine .become ?_
    exact .rfl

theorem execBlkLockWrite_runs {req} {pg} {key} {s} {l : List Nat} (ha : AddrIn pg l) : Runs ⟨frConf ++ [.pages, .weir], some
  (l ++ blConf ++ [0x40A])⟩ s (execBlkLockWrite req pg key s) := by
  unfold execBlkLockWrite
  dsimp only
  refine .become ?_
  exact (atPage_within (ha.pageOf.off 32 (by decide)) fun _ => (lockWrite_within ha.pageOf).trans
    answer_within).le (by simp +contextual [Scope.sub, Scope.union, Scope.covers, frLog, frConf, blConf])

theorem execLockExpiry_runs {pg} {s} {l : List Nat} (ha : AddrIn pg l) : Runs ⟨frLog ++ [.pages, .weir], some (l ++ [0x409])⟩ s
  (execLockExpiry pg s) := by
  unfold execLockExpiry
  dsimp only
  split
  · refine .become ?_
    exact .rfl
  · refine .become ?_
    exact (Within.ite (until_within.trans (lockClose_within ha.pageOf)) (until_within.trans
      (lockIdle_within ha.pageOf))).le (by simp +contextual [Scope.sub, Scope.union, Scope.covers, frLog])

theorem execCrcScan_runs {pg} {same} {s} {l : List Nat} (ha : AddrIn pg l) : Runs ⟨frConf ++ [.weir], some (l ++ blConf)⟩ s
  (execCrcScan pg same s) := by
  unfold execCrcScan
  dsimp only
  split
  · refine .become ?_
    exact .rfl
  · split
    · refine .become ?_
      exact (crcDrift_within ha.pageOf).le (by simp +contextual [Scope.sub, Scope.covers, frLog, frConf, blConf])
    · refine .become ?_
      exact (put_within (Fld.inBlocks_stat (by rfl) (by rfl) page0_mod)).le (by simp +contextual [Scope.sub, frLog, frConf, blConf])

theorem execSoftReset_runs {req} {pg} {s} {l : List Nat}
  (ha : AddrIn pg l) : Runs ⟨frSafe ++ [.fab, .pages, .link, .gate, .sin, .svc, .ports, .br, .perc], none⟩ s (execSoftReset req pg s) := by
  unfold execSoftReset
  dsimp only
  refine .become ?_
  exact (atPage_within (ha.pageOf.off 8 (by decide)) fun _ => softResetWrite_within).le
    (by simp +contextual [Scope.sub, Scope.union, frLog, frConf, frSafe])

theorem execSoftResetDone_runs {s : State} {pg : Nat} {l : List Nat} (ha : AddrIn pg l) :
    Runs ⟨[.pages, .plic, .weir], some l⟩ s (execSoftResetDone pg s) := by
  unfold execSoftResetDone
  extract_lets u
  split
  · exact .become .rfl
  · rename_i b due hfind
    have hb : b = page0 pg := by simpa using List.find?_some hfind
    have hp : PageIn b l := hb ▸ ha.page0
    extract_lets u1 late _ u2 u3
    have h2 : Within ⟨[.pages, .plic, .weir], some l⟩ s.chip u2 := (until_within.trans pages_within).le (by simp [Scope.sub, Scope.union])
    have h3 : Within ⟨[.pages, .plic, .weir], some l⟩ u2 u3 := by
      refine Within.foldl_mem fun t x hx => ?_
      have hx0 : page0 x = page0 pg := by
        have := (List.mem_filter.1 hx).2
        simpa [hb] using this
      have hxa : AddrIn x l := ha.of_block (by rw [← page0_block x, hx0, page0_block])
      exact (put_within (hxa.pageOf.field 0x24 rfl rfl (by decide))).le (by simp [Scope.sub, Scope.covers])
    exact .become (.chain (((put_within (hp.field 8 rfl rfl (by decide))).trans
      (put_within (Fld.inBlocks_stat (by rfl) (by rfl) hp.1))).trans refreshLines_within)
      (by simp +contextual [Scope.sub, Scope.union, Scope.covers]) (h2.step h3))

theorem execIrqPendClear_runs {req} {pg} {v} {s} {l : List Nat} (ha : AddrIn pg l) : Runs ⟨frConf ++ [.pages, .weir], some (l ++ blConf ++ [0x40A])⟩ s
  (execIrqPendClear req pg v s) := by
  unfold execIrqPendClear
  dsimp only
  refine .become ?_
  exact (atPage_within (ha.pageOf.off 24 (by decide)) fun _ => (pendClear_within ha.page0)).le
    (by simp +contextual [Scope.sub, Scope.union, Scope.covers, frLog, frConf, blConf])

theorem execBlkErrinjWrite_runs {req} {pg} {v} {s} {l : List Nat} (ha : AddrIn pg l) : Runs ⟨frConf ++ [.pages, .weir], some
  (l ++ blConf ++ [0x40A])⟩ s (execBlkErrinjWrite req pg v s) := by
  unfold execBlkErrinjWrite
  dsimp only
  refine .become ?_
  exact (atPage_within (ha.pageOf.off 40 (by decide)) fun _ => (Within.ite ((errInj_within ha).trans
    answer_within) (planeRefused_within (ha.pageOf.off 40 (by decide))))).le
    (by simp +contextual [Scope.sub, Scope.union, Scope.covers, frLog, frConf, blConf])

theorem execRegisterWrite_runs {req} {a} {size} {v} {s} {l : List Nat}
  (ha : AddrIn a l) : Runs ⟨frSafe ++ [.fab, .pages, .link, .gate, .sin, .svc, .ports, .br, .msram, .ddr, .perc, .ret], none⟩ s
  (execRegisterWrite req a size v s) := by
  unfold execRegisterWrite
  refine .become ?_
  exact (busWrite_within ha).le (by simp +contextual [Scope.sub, frLog, frSafe])

theorem execSelfGateIdle_runs {s : State} {pg : Nat} : Runs ⟨[.weir], some []⟩ s (execSelfGateIdle pg s) := by
  unfold execSelfGateIdle
  extract_lets u
  split
  · exact .become .rfl
  · rename_i p hp
    extract_lets g
    split
    · exact .become .rfl
    · exact .become ((advance_within.trans (put_within (Fld.inBlocks_stat (by rfl) (by rfl) (base0_of_pageInfo hp).1))).le (by decide))

theorem execSelfUngate_runs {pg} {s} : Runs ⟨[], some []⟩ s (execSelfUngate pg s) := by
  unfold execSelfUngate
  dsimp only
  refine .become ?_
  exact (Within.ite (put_within (Fld.inBlocks_stat (by rfl) (by rfl) page0_mod)) Within.unchanged).le (by decide)

theorem execPlicClaim_runs {req} {x} {s} : Runs ⟨frLog, some [0x409, 0x40A]⟩ s (execPlicClaim req x s) := by
  unfold execPlicClaim
  dsimp only
  refine .become ?_
  exact (Within.ite plicClaimAll_within denied_within).le (by decide)

theorem execPlicComplete_runs {req} {ctx} {id} {s} : Runs ⟨frLog, some [0x409, 0x40A]⟩ s (execPlicComplete req ctx id s) := by
  unfold execPlicComplete
  dsimp only
  refine .become ?_
  exact (Within.ite plicDone_within denied_within).le (by decide)

theorem execReintLossAgeOut_runs {c} {s} : Runs ⟨[.chans, .weir], some [0x402]⟩ s (execReintLossAgeOut c s) := by
  unfold execReintLossAgeOut
  dsimp only
  split
  · refine .become ?_
    exact .rfl
  · refine .become ?_
    exact ((untilWeir_within.trans (modChan_within (fun _ => by rfl))).trans (put_within (Reg.CH_REINT.LOSSES_in))).le (by decide)

theorem execServiceLinkUp_runs {s} : Runs ⟨[.svc], some [0x44A]⟩ s (execServiceLinkUp s) := by
  unfold execServiceLinkUp
  dsimp only
  refine .become ?_
  exact ((put_within (Fld.inBlocks_self (by rfl))).trans svc_within).le (by decide)

theorem Chip.gptpSelect_within {u : Chip} : Within ⟨frLog ++ [.tm], some [0x406, 0x409, 0x44A, 0x460, 0x462, 0x463, 0x464, 0x466]⟩ u u.gptpSelect :=
  by
  unfold Chip.gptpSelect
  dsimp only
  split
  · split
    · exact (Within.ite (((Within.foldl fun _ _ => (put_within (portPage_in.field 0x44 (by rfl) (by rfl) (by decide)))).trans
        (put_within (Fld.inBlocks_self (by rfl)))).trans
        tm_within) ((((Within.foldl fun _ _ => (put_within (portPage_in.field 0x44 (by rfl) (by rfl) (by decide)))).trans
        (put_within (Fld.inBlocks_self (by rfl)))).trans tm_within).trans raise_within)).le (by decide)
    · exact (((Within.foldl fun _ _ => (put_within (portPage_in.field 0x44 (by rfl) (by rfl) (by decide)))).trans
        (put_within (Fld.inBlocks_self (by rfl)))).trans tm_within).le (by decide)
  · exact ((Within.foldl fun _ _ => (put_within (portPage_in.field 0x44 (by rfl) (by rfl) (by decide)))).trans
      (put_within (Fld.inBlocks_self (by rfl)))).le (by decide)

theorem execPortLinkChange_runs {p} {up} {cut} {s} : Runs ⟨frLog ++ [.ports, .tm], some [0x406, 0x409, 0x44A, 0x460, 0x462, 0x463, 0x464, 0x466]⟩ s
  (execPortLinkChange p up cut s) := by
  unfold execPortLinkChange
  dsimp only
  split
  · refine .become ?_
    exact .rfl
  · refine .become ?_
    exact ((Within.ite (Within.ite (Within.ite ((Within.ite ((put_within (portPage_in.field 0x44 (by rfl) (by rfl) (by decide))).trans
      rxErr_within) (put_within (portPage_in.field 0x44 (by rfl) (by rfl) (by decide)))).trans
      (put_within (portPage_in.field 0x44 (by rfl) (by rfl) (by decide)))) (Within.ite ((put_within (portPage_in.field 0x44 (by rfl) (by rfl)
      (by decide))).trans
      rxErr_within) (put_within (portPage_in.field 0x44 (by rfl) (by rfl) (by decide))))) (Within.ite ((put_within (portPage_in.field 0x44 (by rfl)
      (by rfl) (by decide))).trans
      rxErr_within) (put_within (portPage_in.field 0x44 (by rfl) (by rfl) (by decide))))) ((Within.ite (Within.ite ((Within.ite ((put_within
      (portPage_in.field 0x44 (by rfl) (by rfl) (by decide))).trans
      rxErr_within) (put_within (portPage_in.field 0x44 (by rfl) (by rfl) (by decide)))).trans
      (put_within (portPage_in.field 0x44 (by rfl) (by rfl) (by decide)))) (Within.ite ((put_within (portPage_in.field 0x44 (by rfl) (by rfl)
      (by decide))).trans
      rxErr_within) (put_within (portPage_in.field 0x44 (by rfl) (by rfl) (by decide))))) (Within.ite ((put_within (portPage_in.field 0x44 (by rfl)
      (by rfl) (by decide))).trans rxErr_within) (put_within (portPage_in.field 0x44 (by rfl) (by rfl) (by decide))))).trans modPt_within)).trans
      gptpSelect_within).le (by decide)

theorem execTriggerConditionClear_runs {s} : Runs ⟨[.weir], some [0x500]⟩ s (execTriggerConditionClear s) := by
  unfold execTriggerConditionClear
  dsimp only
  refine .weirDoes ?_
  exact (((put_within (Fld.inBlocks_self (by rfl))).trans (put_within (Fld.inBlocks_self (by rfl)))).trans
    (modWeir_within (fun _ => by rfl))).le (by decide)

theorem execPdelayInterval_runs {p} {t1} {s} : Runs ⟨[.weir, .ports], some []⟩ s (execPdelayInterval p t1 s) := by
  unfold execPdelayInterval
  dsimp only
  split
  · refine .become ?_
    exact ((until_within.trans wired_within).trans modPt_within).le (by decide)
  · refine .become ?_
    exact .rfl

theorem execPdelayRespRx_runs {p} {delay} {s} : Runs ⟨[.ports], some [0x406]⟩ s (execPdelayRespRx p delay s) := by
  unfold execPdelayRespRx
  dsimp only
  split
  · refine .become ?_
    exact (Within.ite (modPt_within.trans (put_within (Fld.inBlocks_self (by rfl)))) modPt_within).le (by decide)
  · refine .become ?_
    exact .rfl

theorem execAnnounceRx_runs {p} {m} {s} : Runs ⟨frLog ++ [.ports, .tm], some [0x406, 0x409, 0x44A, 0x460, 0x462, 0x463, 0x464, 0x466]⟩ s
  (execAnnounceRx p m s) := by
  unfold execAnnounceRx
  dsimp only
  refine .become ?_
  exact (Within.ite (modPt_within.trans gptpSelect_within) Within.unchanged).le (by decide)

theorem execCbResetTimer_runs {key} {s} : Runs ⟨[.weir, .cb], some []⟩ s (execCbResetTimer key s) := by
  unfold execCbResetTimer
  dsimp only
  split
  · refine .become ?_
    exact .rfl
  · refine .become ?_
    exact (until_within.trans cb_within).le (by decide)

theorem execFabricResponse_runs {t} {s} : Runs ⟨[.fab], some [0x40A]⟩ s (execFabricResponse t s) := by
  unfold execFabricResponse
  dsimp only
  split
  · refine .become ?_
    exact .rfl
  · refine .become ?_
    exact ((modTarget_within.trans modOutstanding_within).trans answer_within).le (by decide)

theorem Chip.brWire_within {u : Chip} {q} {f} : Within ⟨[], some [0x421]⟩ u (u.brWire q f).2 := by
  unfold Chip.brWire
  dsimp only
  split
  · split
    · exact .rfl
    · exact .rfl
  · split
    · split
      · exact .rfl
      · exact .rfl
    · split
      · exact cvuAppend_within.le (by decide)
      · exact .rfl

theorem execBridgeEgressTx_runs {q} {s} : Runs ⟨[.ports, .br], some [0x421]⟩ s (execBridgeEgressTx q s) := by
  unfold execBridgeEgressTx
  dsimp only
  split
  · refine .become ?_
    exact .rfl
  · split
    · refine .become ?_
      exact ((brWire_within.trans br_within).trans wired_within).le (by decide)
    · refine .become ?_
      exact .rfl

theorem execRangeWriteAbsorb_runs {a} {b} {s} : Runs ⟨[], some [0x421]⟩ s (execRangeWriteAbsorb a b s) := by
  unfold execRangeWriteAbsorb
  dsimp only
  refine .become ?_
  exact (Within.foldUpTo fun _ _ => (Within.ite cvuAbsorb_within Within.unchanged)).le (by decide)

theorem execRegisterReadError_runs {req} {a} {size} {s} {l : List Nat} (ha : AddrIn a l) : Runs ⟨frConf ++ [.pages, .weir, .zst, .br, .evr], some
  (l ++ blConf ++ [0x40A, 0x420, 0x421, 0x445])⟩ s (execRegisterReadError req a size s) := by
  unfold execRegisterReadError
  refine .become ?_
  exact (busRead_within ha).le (by simp +contextual [Scope.sub, Scope.covers, frLog, frConf, blConf])

theorem Chip.tick_within {u : Chip} : Within ⟨[.weir], some []⟩ u u.tick := by
  unfold Chip.tick
  exact advance_within.le (by decide)

/-- A command that stays in a scope stays in every larger one. -/
theorem Runs.le {a b : Scope} {s : State} {r : Host.Outcome State Fault Refusal} (h : Runs a s r) (hab : a.sub b = true) : Runs b s r := by
  obtain ⟨t, rfl, ht⟩ := h
  exact .become (ht.le hab)

/-- The blocks that a command reaches: those of `frameBlocks`, and where its operands make the address that it writes, also the block of
this address, which lies among them if the operands are in range. -/
def runBlocks : Instr → Option (List Nat)
  | .cfPortImg _ n _ => some ((0x40301100 + 4 * n) / 0x100000 :: (blConf ++ [0x402]))
  | .windowWrite _ w off _ => some ((0x42002000 + w * 0x1000 + off) / 0x100000 :: (blConf ++ [0x40A, 0x420, 0x421]))
  | .windowRead _ w off _ => some ((0x42002000 + w * 0x1000 + off) / 0x100000 :: (blConf ++ [0x40A, 0x420, 0x421]))
  | .intAsmWrite _ k _ => some ((0x40901040 + 4 * k) / 0x100000 :: blConf)
  | c => frameBlocks c

theorem runBlocks_sub {c : Instr} {bl : List Nat} (hwf : c.wf = true) (hbl : frameBlocks c = some bl) :
    ∃ l, runBlocks c = some l ∧ l ⊆ bl := by
  unfold runBlocks
  split
  case h_5 => exact ⟨bl, hbl, List.Subset.refl _⟩
  all_goals
    simp only [Instr.wf, decide_eq_true_eq, Bool.and_eq_true] at hwf
    obtain rfl := Option.some.inj hbl
    refine ⟨_, rfl, List.cons_subset.2 ⟨?_, List.Subset.refl _⟩⟩
  case h_1 n _ =>
    have hn : (0x40301100 + 4 * n) / 0x100000 = 0x403 := by omega
    rw [hn]
    decide
  case h_2 w off _ =>
    have hw : (0x42002000 + w * 0x1000 + off) / 0x100000 = 0x420 := by omega
    rw [hw]
    decide
  case h_3 w off _ =>
    have hw : (0x42002000 + w * 0x1000 + off) / 0x100000 = 0x420 := by omega
    rw [hw]
    decide
  case h_4 k _ =>
    have hk : (0x40901040 + 4 * k) / 0x100000 = 0x409 := by omega
    rw [hk]
    decide

/-- Every command stays in the scope that `frameParts` and `runBlocks` name for it. -/
theorem exec_runs (c : Instr) (s : State) : Runs ⟨frameParts c, runBlocks c⟩ s (exec c s) := by
  cases c with
  | snapshot => exact execSnapshot_runs.le (by rfl)
  | checkerRotateTimer => exact execCheckerRotateTimer_runs.le (by rfl)
  | strapReadTimer => exact execStrapReadTimer_runs.le (by rfl)
  | permissionReturn => exact execPermissionReturn_runs.le (by rfl)
  | snapshotHandover => exact execSnapshotHandover_runs.le (by rfl)
  | taskDispatch => exact execTaskDispatch_runs.le (by rfl)
  | taskDelivery => exact execTaskDelivery_runs.le (by rfl)
  | appTrap => exact execAppTrap_runs.le (by rfl)
  | instructionRetire => exact execInstructionRetire_runs.le (by rfl)
  | windowCycleLimit => exact execWindowCycleLimit_runs.le (by rfl)
  | windowCompare => exact execWindowCompare_runs.le (by rfl)
  | storeCommit => exact execStoreCommit_runs.le (by rfl)
  | sramDed => exact execSramDed_runs.le (by rfl)
  | eccWriteback => exact execEccWriteback_runs.le (by rfl)
  | channelInterrupt => exact execChannelInterrupt_runs.le (by rfl)
  | rollbackDone => exact execRollbackDone_runs.le (by rfl)
  | rbTimeout => exact execRbTimeout_runs.le (by rfl)
  | channelLostTimeout => exact execChannelLostTimeout_runs.le (by rfl)
  | channelSelftestDone => exact execChannelSelftestDone_runs.le (by rfl)
  | cfPortImg => exact (execCfPortImg_runs .self).le (by simp +contextual [Scope.sub, Scope.covers, runBlocks, frameParts, frLog, frConf, blConf])
  | cfPortMsg => exact execCfPortMsg_runs.le (by rfl)
  | cfPortDeliver => exact execCfPortDeliver_runs.le (by rfl)
  | voteExpiry => exact execVoteExpiry_runs.le (by rfl)
  | voteRelease => exact execVoteRelease_runs.le (by rfl)
  | votingSetAck => exact execVotingSetAck_runs.le (by rfl)
  | votingSetAckTimeout => exact execVotingSetAckTimeout_runs.le (by rfl)
  | resyncBulkStart => exact execResyncBulkStart_runs.le (by rfl)
  | resyncBulkDone => exact execResyncBulkDone_runs.le (by rfl)
  | resyncFinalStart => exact execResyncFinalStart_runs.le (by rfl)
  | channelImage => exact execChannelImage_runs.le (by rfl)
  | votedImage => exact execVotedImage_runs.le (by rfl)
  | checkOpenTimeout => exact execCheckOpenTimeout_runs.le (by rfl)
  | votingSetFlit => exact execVotingSetFlit_runs.le (by rfl)
  | safeRequestFlit => exact execSafeRequestFlit_runs.le (by rfl)
  | captureTimeout => exact execCaptureTimeout_runs.le (by rfl)
  | dualRailFault => exact execDualRailFault_runs.le (by rfl)
  | deadlineCheck => exact execDeadlineCheck_runs.le (by rfl)
  | deadlineWarn => exact execDeadlineWarn_runs.le (by rfl)
  | rateGateEnd => exact execRateGateEnd_runs.le (by rfl)
  | wdnMissingEdge => exact execWdnMissingEdge_runs.le (by rfl)
  | timeParity => exact execTimeParity_runs.le (by rfl)
  | pfailTrigger => exact execPfailTrigger_runs.le (by rfl)
  | pfailRelease => exact execPfailRelease_runs.le (by rfl)
  | weirPor => exact execWeirPor_runs.le (by rfl)
  | weirSelftestDone => exact execWeirSelftestDone_runs.le (by rfl)
  | flitReceive => exact execFlitReceive_runs.le (by rfl)
  | flitNak => exact execFlitNak_runs.le (by rfl)
  | flitAck => exact execFlitAck_runs.le (by rfl)
  | flitSend => exact execFlitSend_runs.le (by rfl)
  | linkSilence => exact execLinkSilence_runs.le (by rfl)
  | wrStoffHiWrite => exact execWrStoffHiWrite_runs.le (by rfl)
  | wrTimeLoRead => exact execWrTimeLoRead_runs.le (by rfl)
  | latticeLatch => exact execLatticeLatch_runs.le (by rfl)
  | latticeCommit => exact execLatticeCommit_runs.le (by rfl)
  | sweepEval => exact execSweepEval_runs.le (by rfl)
  | sweepPassTimeout => exact execSweepPassTimeout_runs.le (by rfl)
  | gateQuery => exact execGateQuery_runs.le (by rfl)
  | gateVerdict => exact execGateVerdict_runs.le (by rfl)
  | verdictReceive => exact execVerdictReceive_runs.le (by rfl)
  | loadBegin => exact execLoadBegin_runs.le (by rfl)
  | loadEnd => exact execLoadEnd_runs.le (by rfl)
  | copy => exact execCopy_runs.le (by rfl)
  | copyCaptureStart => exact execCopyCaptureStart_runs.le (by rfl)
  | copyDone => exact execCopyDone_runs.le (by rfl)
  | verify => exact execVerify_runs.le (by rfl)
  | verifyDone => exact execVerifyDone_runs.le (by rfl)
  | standbyWrite => exact execStandbyWrite_runs.le (by rfl)
  | latSwapArm => exact execLatSwapArm_runs.le (by rfl)
  | applyTime => exact execApplyTime_runs.le (by rfl)
  | retainFrame => exact execRetainFrame_runs.le (by rfl)
  | retainWriteTimer => exact execRetainWriteTimer_runs.le (by rfl)
  | olcBegin => exact execOlcBegin_runs.le (by rfl)
  | olcLoad => exact execOlcLoad_runs.le (by rfl)
  | olcPrepare => exact execOlcPrepare_runs.le (by rfl)
  | olcSwap => exact execOlcSwap_runs.le (by rfl)
  | olcAbort => exact execOlcAbort_runs.le (by rfl)
  | forceSet => exact execForceSet_runs.le (by rfl)
  | forceClear => exact execForceClear_runs.le (by rfl)
  | forceClearAll => exact execForceClearAll_runs.le (by rfl)
  | errInject => exact execErrInject_runs.le (by rfl)
  | sinReset => exact execSinReset_runs.le (by rfl)
  | soutReset => exact execSoutReset_runs.le (by rfl)
  | percFuseCmd => exact execPercFuseCmd_runs.le (by rfl)
  | cfgConfirm => exact execCfgConfirm_runs.le (by rfl)
  | keyLoad => exact execKeyLoad_runs.le (by rfl)
  | keyPhase => exact execKeyPhase_runs.le (by rfl)
  | fwActivate => exact execFwActivate_runs.le (by rfl)
  | fwCancel => exact execFwCancel_runs.le (by rfl)
  | lockoutReset => exact execLockoutReset_runs.le (by rfl)
  | channelReset => exact execChannelReset_runs.le (by rfl)
  | coldRestart => exact execColdRestart_runs.le (by rfl)
  | loaderFrame => exact execLoaderFrame_runs.le (by rfl)
  | serviceConnected => exact execServiceConnected_runs.le (by rfl)
  | serviceLinkLoss => exact execServiceLinkLoss_runs.le (by rfl)
  | sinSample => exact execSinSample_runs.le (by rfl)
  | sinEdge => exact execSinEdge_runs.le (by rfl)
  | sinFilterExpiry => exact execSinFilterExpiry_runs.le (by rfl)
  | sinDiscTimeout => exact execSinDiscTimeout_runs.le (by rfl)
  | sinUnlockWrite => exact execSinUnlockWrite_runs.le (by rfl)
  | toutDue => exact execToutDue_runs.le (by rfl)
  | toutPulseStart => exact execToutPulseStart_runs.le (by rfl)
  | toutPulseEnd => exact execToutPulseEnd_runs.le (by rfl)
  | toutRecoveryEnd => exact execToutRecoveryEnd_runs.le (by rfl)
  | soutSample => exact execSoutSample_runs.le (by rfl)
  | envRead => exact execEnvRead_runs.le (by rfl)
  | envReadDone => exact execEnvReadDone_runs.le (by rfl)
  | soutTestDue => exact execSoutTestDue_runs.le (by rfl)
  | soutPulseStart => exact execSoutPulseStart_runs.le (by rfl)
  | soutPulseEnd => exact execSoutPulseEnd_runs.le (by rfl)
  | soutRecoveryEnd => exact execSoutRecoveryEnd_runs.le (by rfl)
  | soutUnlockWrite => exact execSoutUnlockWrite_runs.le (by rfl)
  | zstFrameTx => exact execZstFrameTx_runs.le (by rfl)
  | zstFrameRx => exact execZstFrameRx_runs.le (by rfl)
  | zstRxHdrRead => exact execZstRxHdrRead_runs.le (by rfl)
  | zstRxDatRead => exact execZstRxDatRead_runs.le (by rfl)
  | zstPrecheck => exact execZstPrecheck_runs.le (by rfl)
  | idReqTimer => exact execIdReqTimer_runs.le (by rfl)
  | joinWaitExpiry => exact execJoinWaitExpiry_runs.le (by rfl)
  | epochRecordWrite => exact execEpochRecordWrite_runs.le (by rfl)
  | portFrameRx => exact execPortFrameRx_runs.le (by rfl)
  | portTxRefused => exact execPortTxRefused_runs.le (by rfl)
  | plcaBeaconTimeout => exact execPlcaBeaconTimeout_runs.le (by rfl)
  | plcaBeaconRx => exact execPlcaBeaconRx_runs.le (by rfl)
  | gptpSyncRx => exact execGptpSyncRx_runs.le (by rfl)
  | pdelayReqRx => exact execPdelayReqRx_runs.le (by rfl)
  | timeSilence => exact execTimeSilence_runs.le (by rfl)
  | timeBeaconRx => exact execTimeBeaconRx_runs.le (by rfl)
  | busOff => exact execBusOff_runs.le (by rfl)
  | busOn => exact execBusOn_runs.le (by rfl)
  | engineFault => exact execEngineFault_runs.le (by rfl)
  | rs485IdleDiscard => exact execRs485IdleDiscard_runs.le (by rfl)
  | bridgeFrame => exact execBridgeFrame_runs.le (by rfl)
  | brTblW3Write => exact execBrTblW3Write_runs.le (by rfl)
  | tableCommit => exact execTableCommit_runs.le (by rfl)
  | regionCommit => exact execRegionCommit_runs.le (by rfl)
  | windowWrite => exact (execWindowWrite_runs .self).le (by simp +contextual [Scope.sub, Scope.covers, runBlocks, frameParts, frLog, frConf, blConf])
  | windowRead => exact (execWindowRead_runs .self).le (by simp +contextual [Scope.sub, Scope.covers, runBlocks, frameParts, frLog, frConf, blConf])
  | readResponse => exact execReadResponse_runs.le (by rfl)
  | writeAck => exact execWriteAck_runs.le (by rfl)
  | responseTimeout => exact execResponseTimeout_runs.le (by rfl)
  | drTimeout => exact execDrTimeout_runs.le (by rfl)
  | inboundMessage => exact execInboundMessage_runs.le (by rfl)
  | cvuFeedWrite => exact execCvuFeedWrite_runs.le (by rfl)
  | cvuFeedBWrite => exact execCvuFeedBWrite_runs.le (by rfl)
  | cvuValWrite => exact execCvuValWrite_runs.le (by rfl)
  | cvuPresetWrite => exact execCvuPresetWrite_runs.le (by rfl)
  | fabricRequest =>
    exact (execFabricRequest_runs .self).le
      (by simp +contextual [Scope.sub, Scope.covers, runBlocks, frameBlocks, frameParts, frLog])
  | arbitrationDecision => exact execArbitrationDecision_runs.le (by rfl)
  | arbHung => exact execArbHung_runs.le (by rfl)
  | eventRaise => exact execEventRaise_runs.le (by rfl)
  | intRaise => exact execIntRaise_runs.le (by rfl)
  | intAsmWrite => exact (execIntAsmWrite_runs .self).le (by simp +contextual [Scope.sub, Scope.covers, runBlocks, frameParts, frLog, frConf, blConf])
  | eventMerge => exact execEventMerge_runs.le (by rfl)
  | lostRecordStage => exact execLostRecordStage_runs.le (by rfl)
  | recordEntry => exact execRecordEntry_runs.le (by rfl)
  | flushHalf => exact execFlushHalf_runs.le (by rfl)
  | flushTimer => exact execFlushTimer_runs.le (by rfl)
  | flushStart => exact execFlushStart_runs.le (by rfl)
  | emmcWriteDone => exact execEmmcWriteDone_runs.le (by rfl)
  | emmcWriteFail => exact execEmmcWriteFail_runs.le (by rfl)
  | logRecoveryDone => exact execLogRecoveryDone_runs.le (by rfl)
  | freeze => exact execFreeze_runs.le (by rfl)
  | unfreeze => exact execUnfreeze_runs.le (by rfl)
  | flush => exact execFlush_runs.le (by rfl)
  | format => exact execFormat_runs.le (by rfl)
  | spillwayStart => exact execSpillwayStart_runs.le (by rfl)
  | spillwayIntakeClose => exact execSpillwayIntakeClose_runs.le (by rfl)
  | evrCursorWrite => exact execEvrCursorWrite_runs.le (by rfl)
  | windowFetchDone => exact execWindowFetchDone_runs.le (by rfl)
  | evrWin15Read => exact execEvrWin15Read_runs.le (by rfl)
  | evrClrHiWrite => exact execEvrClrHiWrite_runs.le (by rfl)
  | percSliceStart => exact execPercSliceStart_runs.le (by rfl)
  | percSliceDone => exact execPercSliceDone_runs.le (by rfl)
  | schedSliceTimer => exact execSchedSliceTimer_runs.le (by rfl)
  | percFuseGo => exact execPercFuseGo_runs.le (by rfl)
  | fuseDone => exact execFuseDone_runs.le (by rfl)
  | pwrReqWrite => exact execPwrReqWrite_runs.le (by rfl)
  | consentAskStart => exact execConsentAskStart_runs.le (by rfl)
  | noticeTimeout => exact execNoticeTimeout_runs.le (by rfl)
  | consentAnswer => exact execConsentAnswer_runs.le (by rfl)
  | consentTimeout => exact execConsentTimeout_runs.le (by rfl)
  | idleWake => exact execIdleWake_runs.le (by rfl)
  | wakeNLow => exact execWakeNLow_runs.le (by rfl)
  | i2cAddressMatch => exact execI2cAddressMatch_runs.le (by rfl)
  | aonAlarm => exact execAonAlarm_runs.le (by rfl)
  | wakeRestart => exact execWakeRestart_runs.le (by rfl)
  | packageStore => exact execPackageStore_runs.le (by rfl)
  | fwImageStore => exact execFwImageStore_runs.le (by rfl)
  | svnAdvance => exact execSvnAdvance_runs.le (by rfl)
  | idbScan => exact execIdbScan_runs.le (by rfl)
  | idbScanTimer => exact execIdbScanTimer_runs.le (by rfl)
  | confirmRecordWrite => exact execConfirmRecordWrite_runs.le (by rfl)
  | activationStrobe => exact execActivationStrobe_runs.le (by rfl)
  | trialBootTimeout => exact execTrialBootTimeout_runs.le (by rfl)
  | clkLockLoss => exact execClkLockLoss_runs.le (by rfl)
  | refMissing => exact execRefMissing_runs.le (by rfl)
  | dividerWindow => exact execDividerWindow_runs.le (by rfl)
  | frcRangeWindow => exact execFrcRangeWindow_runs.le (by rfl)
  | resetStepTimeout => exact execResetStepTimeout_runs.le (by rfl)
  | clkCtlWrite => exact execClkCtlWrite_runs.le (by rfl)
  | porAssert => exact execPorAssert_runs.le (by rfl)
  | porRelease => exact execPorRelease_runs.le (by rfl)
  | resetFlit => exact execResetFlit_runs.le (by rfl)
  | resetAssert => exact execResetAssert_runs.le (by rfl)
  | resetRelease => exact execResetRelease_runs.le (by rfl)
  | bootStepDone => exact execBootStepDone_runs.le (by rfl)
  | blkLockWrite =>
    exact (execBlkLockWrite_runs .self).le
      (by simp +contextual [Scope.sub, Scope.covers, runBlocks, frameBlocks, frameParts, frLog, frConf, blConf])
  | lockExpiry => exact (execLockExpiry_runs .self).le (by simp +contextual [Scope.sub, Scope.covers, runBlocks, frameBlocks, frameParts, frLog])
  | crcScan =>
    exact (execCrcScan_runs .self).le
      (by simp +contextual [Scope.sub, Scope.covers, runBlocks, frameBlocks, frameParts, frLog, frConf, blConf])
  | softReset => exact (execSoftReset_runs .self).le (by simp +contextual [Scope.sub, runBlocks, frameBlocks, frameParts, frLog, frSafe])
  | softResetDone => exact (execSoftResetDone_runs .self).le (by simp +contextual [Scope.sub, Scope.covers, runBlocks, frameBlocks, frameParts])
  | irqPendClear =>
    exact (execIrqPendClear_runs .self).le
      (by simp +contextual [Scope.sub, Scope.covers, runBlocks, frameBlocks, frameParts, frLog, frConf, blConf])
  | blkErrinjWrite =>
    exact (execBlkErrinjWrite_runs .self).le
      (by simp +contextual [Scope.sub, Scope.covers, runBlocks, frameBlocks, frameParts, frLog, frConf, blConf])
  | registerWrite => exact (execRegisterWrite_runs .self).le (by simp +contextual [Scope.sub, runBlocks, frameBlocks, frameParts, frLog, frSafe])
  | selfGateIdle => exact execSelfGateIdle_runs.le (by rfl)
  | selfUngate => exact execSelfUngate_runs.le (by rfl)
  | plicClaim => exact execPlicClaim_runs.le (by rfl)
  | plicComplete => exact execPlicComplete_runs.le (by rfl)
  | reintLossAgeOut => exact execReintLossAgeOut_runs.le (by rfl)
  | serviceLinkUp => exact execServiceLinkUp_runs.le (by rfl)
  | portLinkChange => exact execPortLinkChange_runs.le (by rfl)
  | triggerConditionClear => exact execTriggerConditionClear_runs.le (by rfl)
  | pdelayInterval => exact execPdelayInterval_runs.le (by rfl)
  | pdelayRespRx => exact execPdelayRespRx_runs.le (by rfl)
  | announceRx => exact execAnnounceRx_runs.le (by rfl)
  | cbResetTimer => exact execCbResetTimer_runs.le (by rfl)
  | fabricResponse => exact execFabricResponse_runs.le (by rfl)
  | bridgeEgressTx => exact execBridgeEgressTx_runs.le (by rfl)
  | rangeWriteAbsorb => exact execRangeWriteAbsorb_runs.le (by rfl)
  | registerReadError =>
    exact (execRegisterReadError_runs .self).le
      (by simp +contextual [Scope.sub, Scope.covers, runBlocks, frameBlocks, frameParts, frLog, frConf, blConf])

/-- What a step leads to is sound, whether a command runs or a tick passes. -/
theorem step_sound (s : State) : ∃ u, step s = .next { chip := u, pending := s.pending.tail } ∧ Chip.Sound s.chip u := by
  cases hp : s.pending with
  | nil => exact ⟨_, by rw [step_nil hp]; simp [State.become, hp], tick_within.sound⟩
  | cons c rest =>
    obtain ⟨u, hu, hwithin⟩ := exec_runs c { s with pending := rest }
    exact ⟨u, by rw [step_cons hp, hu]; rfl, hwithin.sound⟩

/-- Settles O2: every command and a tick answer by `State.become`. -/
theorem everyCommandCompletes : Obligations.EveryCommandCompletes := by
  unfold Obligations.EveryCommandCompletes
  refine ⟨fun c s => ?_, fun s => ?_⟩
  · obtain ⟨u, hu, -⟩ := exec_runs c s
    exact ⟨u, hu⟩
  · obtain ⟨u, hu, -⟩ := step_sound s
    exact ⟨u, hu⟩

/-- Settles O58: every operation is sound for the clocks and the memories. -/
theorem memoriesCanonical : Obligations.MemoriesCanonical := by
  unfold Obligations.MemoriesCanonical
  intro s t ht
  obtain ⟨u, hu, hsound⟩ := step_sound s
  obtain rfl := Host.Outcome.next.inj (hu.symm.trans ht)
  exact ⟨hsound.memories, hsound.clock, hsound.now_le, hsound.free_le⟩

/-- Settles O59: the scope of each command over the parts of the hardware. -/
theorem framesOfCommands : Obligations.FramesOfCommands := by
  unfold Obligations.FramesOfCommands
  intro c s t ht
  obtain ⟨u, hu, hwithin⟩ := exec_runs c s
  obtain rfl := Host.Outcome.next.inj (hu.symm.trans ht)
  exact ⟨rfl, hwithin.same⟩

/-- Settles O60: the scope of each command over the registers, with the operands in range. -/
theorem framesOfRegisters : Obligations.FramesOfRegisters := by
  unfold Obligations.FramesOfRegisters
  intro c bl s t hwf hbl ht f hlo hpage hstat hblock
  obtain ⟨l, hl, hsub⟩ := runBlocks_sub hwf hbl
  obtain ⟨u, hu, hwithin⟩ := exec_runs c s
  obtain rfl := Host.Outcome.next.inj (hu.symm.trans ht)
  have hout : Scope.covers ⟨frameParts c, runBlocks c⟩ (f.addr / 0x100000) = false := by
    simpa [Scope.covers, hl] using fun hin => hblock (hsub hin)
  exact hwithin.regs f hlo hpage hstat hout

end Sys2Proof.Machine
end

section
/-!
PROOFS. The vote of three results, and sets of bit numbers as words.
-/
namespace Sys2Proof.Machine

/-- A number is in the word of a list exactly if it is in the list. -/
theorem testBit_maskOf (l : List Nat) (k : Nat) : (maskOf l).testBit k = true ↔ k ∈ l := by
  have hfold : ∀ m : Nat, (l.foldl (fun m b => m ||| 2 ^ b) m).testBit k = true ↔ m.testBit k = true ∨ k ∈ l := by
    induction l with
    | nil => simp
    | cons b l ih =>
      intro m
      rw [List.foldl_cons, ih, Nat.testBit_or, Nat.testBit_two_pow, Bool.or_eq_true, decide_eq_true_eq, List.mem_cons, or_assoc, eq_comm (a := k)]
  simpa [maskOf] using hfold 0

/-! ### O17 -/

theorem testBit_maj3 (a b c k : Nat) :
    (maj3 a b c).testBit k = ((a.testBit k && b.testBit k) || (a.testBit k && c.testBit k) || (b.testBit k && c.testBit k)) := by
  simp only [maj3, Nat.testBit_or, Nat.testBit_and]

/-- Two equal words outvote the third. -/
theorem maj3_self (a c : Nat) : maj3 a a c = a := by
  refine Nat.eq_of_testBit_eq fun k => ?_
  rw [testBit_maj3]
  cases a.testBit k <;> simp

/-- Settles O17: the vote bit by bit. -/
theorem twoOutOfThree : Obligations.TwoOutOfThree := by
  unfold Obligations.TwoOutOfThree
  refine ⟨fun a b c k => testBit_maj3 .., fun a b c k => testBit_maj3 .., fun a b c k hk => ?_, fun a b himg hhdr c => ⟨?_, ?_⟩⟩
  · have hminority : (vote3 a b c).minority.testBit k = true ↔
        k ∈ (List.range 3).filter (fun k => ([a, b, c].map (fun r => r.differs (vote3 a b c).res)).getD k false) := testBit_maskOf _ k
    rw [hminority, List.mem_filter, List.mem_range]
    interval_cases k <;> simp
  · exact (congrArg (maj3 a.img · c.img) himg.symm).trans (maj3_self ..)
  · exact (congrArg (maj3 a.hdr · c.hdr) hhdr.symm).trans (maj3_self ..)

end Sys2Proof.Machine
end

section
/-!
PROOFS. The grant rule: the evaluation of a route's record word by word, and the signal permissions.
-/
namespace Sys2Proof.Machine

/-- No bit of a word is set below `n`. -/
theorem lowBit_eq_none {v n : Nat} : lowBit v n = none ↔ ∀ i, i < n → v.testBit i = false := by
  simp [lowBit, List.find?_eq_none]

/-- A slice of a word has the word's bits. -/
theorem testBit_slice (v o w i : Nat) (hi : i < w) : (v / 2 ^ o % 2 ^ w).testBit i = v.testBit (o + i) := by
  rw [Nat.testBit_mod_two_pow, Nat.testBit_div_two_pow, Nat.add_comm]
  simp [hi]

/-- The complement of a word within a width. -/
theorem testBit_complement {v w : Nat} (i : Nat) (hv : v < 2 ^ w) (hi : i < w) : (2 ^ w - 1 - v).testBit i = !v.testBit i := by
  have hsub : 2 ^ w - 1 - v = 2 ^ w - (v + 1) := by omega
  rw [hsub, Nat.testBit_two_pow_sub_succ hv]
  simp [hi]

/-! ### The words of a record -/

/-- The routes of word `k` that conflict: none is locked but the route itself. -/
theorem wordFails_conflict {b : Bank} {lock : Nat} {f : Field} {r k : Nat} (hk : k < 8) :
    wordFails b lock f r k = none ↔ ∀ i, i < 256 → 256 * k + i ≠ r → (routeWord b r k).testBit i = true → lock.testBit (256 * k + i) = false := by
  have hown : (if r / 256 = k then 2 ^ (r % 256) else 0) < 2 ^ 256 := by
    split
    · exact Nat.pow_lt_pow_right (by decide) (Nat.mod_lt _ (by decide))
    · decide
  have hbit : ∀ i, i < 256 → ((if r / 256 = k then 2 ^ (r % 256) else 0).testBit i = true ↔ 256 * k + i = r) := fun i hi => by
    split
    · rw [Nat.testBit_two_pow, decide_eq_true_eq]; omega
    · simp only [Nat.zero_testBit, Bool.false_eq_true, false_iff]; omega
  have hword : wordFails b lock f r k = none ↔ ∀ i, i < 256 →
      ((routeWord b r k &&& lock / 2 ^ (256 * k) % 2 ^ 256) &&& (2 ^ 256 - 1 - if r / 256 = k then 2 ^ (r % 256) else 0)).testBit i = false := by
    by_cases h0 : routeWord b r k = 0
    · simp [wordFails, h0]
    · simp only [wordFails, h0, hk, if_true, if_false, Option.map_eq_none_iff, lowBit_eq_none]
  rw [hword]
  refine forall₂_congr fun i hi => ?_
  rw [Nat.testBit_and, Nat.testBit_and, testBit_slice _ _ _ _ hi, testBit_complement i hown hi]
  have := hbit i hi
  cases hw : (routeWord b r k).testBit i <;> cases hl : lock.testBit (256 * k + i) <;>
    cases ho : (if r / 256 = k then 2 ^ (r % 256) else 0).testBit i <;> simp_all

/-- The points of word `k`: every one that is needed stands in its position; a need coded 11 is never met. -/
theorem wordFails_points {b : Bank} {lock : Nat} {f : Field} {r k : Nat} (h8 : 8 ≤ k) (h16 : k < 16) :
    wordFails b lock f r k = none ↔ ∀ i, i < 128 → routeWord b r k / 2 ^ (2 * i) % 4 ≠ 0 →
      routeWord b r k / 2 ^ (2 * i) % 4 ≠ 3 ∧ f.pdet / 2 ^ (2 * (128 * (k - 8) + i)) % 4 = routeWord b r k / 2 ^ (2 * i) % 4 := by
  by_cases h0 : routeWord b r k = 0
  · simp [wordFails, h0]
  · have hn : ¬ k < 8 := by omega
    simp only [wordFails, h0, hn, h16, if_true, if_false, Option.map_eq_none_iff, List.find?_eq_none, List.mem_range]
    refine forall₂_congr fun i _ => ?_
    simp only [Bool.and_eq_true, bne_iff_ne, Bool.or_eq_true, beq_iff_eq, not_and, not_or, not_not, ne_eq]

/-- The sections of word `k`: every one that is needed is clear. -/
theorem wordFails_sections {b : Bank} {lock : Nat} {f : Field} {r k : Nat} (h16 : 16 ≤ k) (h32 : k < 32) :
    wordFails b lock f r k = none ↔ ∀ i, i < 256 → (routeWord b r k).testBit i = true → f.sclr.testBit (256 * (k - 16) + i) = true := by
  by_cases h0 : routeWord b r k = 0
  · simp [wordFails, h0]
  · have hn : ¬ k < 8 := by omega
    have hm : ¬ k < 16 := by omega
    simp only [wordFails, h0, hn, hm, h32, if_true, if_false, Option.map_eq_none_iff, lowBit_eq_none]
    refine forall₂_congr fun i hi => ?_
    rw [Nat.testBit_and, testBit_complement i (Nat.mod_lt _ (Nat.two_pow_pos _)) hi, testBit_slice _ _ _ _ hi]
    cases (routeWord b r k).testBit i <;> simp

/-- The edges of word 32: every one that is needed is ready. -/
theorem wordFails_edges {b : Bank} {lock : Nat} {f : Field} {r : Nat} :
    wordFails b lock f r 32 = none ↔ ∀ e, e < 128 → (routeWord b r 32).testBit e = true → f.eready.testBit e = true := by
  by_cases h0 : routeWord b r 32 = 0
  · simp [wordFails, h0]
  · simp only [wordFails, h0, Nat.reduceLT, if_false, Option.map_eq_none_iff, lowBit_eq_none]
    refine forall₂_congr fun i hi => ?_
    rw [Nat.testBit_and, testBit_complement i (Nat.mod_lt _ (Nat.two_pow_pos _)) hi, Nat.testBit_mod_two_pow]
    cases (routeWord b r 32).testBit i <;> simp [hi]

/-- A route passes exactly if it is in use and none of its 33 words fails. -/
theorem routeFails_eq_none {b : Bank} {lock : Nat} {f : Field} {r : Nat} :
    routeFails b lock f r = none ↔ routeUsed b r = true ∧ ∀ k, k < 33 → wordFails b lock f r k = none := by
  unfold routeFails
  cases routeUsed b r <;> simp [List.findSome?_eq_none_iff]

/-! ### Signal permissions -/

theorem mem_setBits {v n i : Nat} : i ∈ setBits v n ↔ i < n ∧ v.testBit i = true := by simp [setBits]

theorem testBit_spermOf (b : Bank) (perm sig : Nat) : (spermOf b perm).testBit sig = true ↔
    ∃ r ∈ setBits perm 2048, ((signalEntry b r).testBit 15 && signalUsed b (signalEntry b r % 2048)) = true ∧ signalEntry b r % 2048 = sig := by
  unfold spermOf
  have hfold : ∀ (l : List Nat) (v : Nat), (l.foldl (fun v r =>
      let e := signalEntry b r
      if e.testBit 15 && signalUsed b (e % 2048) then v ||| 2 ^ (e % 2048) else v) v).testBit sig = true ↔ v.testBit sig = true ∨
        ∃ r ∈ l, ((signalEntry b r).testBit 15 && signalUsed b (signalEntry b r % 2048)) = true ∧ signalEntry b r % 2048 = sig := by
    intro l
    induction l with
    | nil => simp
    | cons r l ih =>
      intro v
      rw [List.foldl_cons, ih, List.exists_mem_cons_iff, ← or_assoc]
      refine or_congr_left ?_
      dsimp only
      split
      · rename_i hc
        rw [Nat.testBit_or, Nat.testBit_two_pow, Bool.or_eq_true, decide_eq_true_eq]
        simp only [hc, true_and]
      · rename_i hc
        simp [hc]
  simpa using hfold (setBits perm 2048) 0

/-- Settles O27: the record's words are its conflict row, points, sections and edges. -/
theorem grantRule : Obligations.GrantRule := by
  unfold Obligations.GrantRule
  refine ⟨fun b lock f r _ => ?_, fun b perm sig _ => ?_⟩
  · rw [routeFails_eq_none]
    refine and_congr_right fun _ => ⟨fun h => ⟨fun q hq hne hw => ?_, fun p hp => ?_, fun n hn hw => ?_, fun e he hw => ?_⟩, ?_⟩
    · have := (wordFails_conflict (by omega)).1 (h (q / 256) (by omega)) (q % 256) (by omega) (by omega) hw
      rwa [Nat.div_add_mod] at this
    · have := (wordFails_points (by omega) (by omega)).1 (h (8 + p / 128) (by omega)) (p % 128) (by omega)
      rwa [Nat.add_sub_cancel_left, Nat.div_add_mod] at this
    · have := (wordFails_sections (by omega) (by omega)).1 (h (16 + n / 256) (by omega)) (n % 256) (by omega) hw
      rwa [Nat.add_sub_cancel_left, Nat.div_add_mod] at this
    · exact wordFails_edges.1 (h 32 (by omega)) e he hw
    · rintro ⟨hconflict, hpoints, hsections, hedges⟩ k hk
      rcases Nat.lt_or_ge k 8 with h8 | h8
      · refine (wordFails_conflict h8).2 fun i hi hne hw => hconflict _ (by omega) hne ?_
        rwa [show (256 * k + i) / 256 = k by omega, show (256 * k + i) % 256 = i by omega]
      rcases Nat.lt_or_ge k 16 with h16 | h16
      · refine (wordFails_points h8 h16).2 fun i hi => ?_
        have := hpoints (128 * (k - 8) + i) (by omega)
        rwa [show 8 + (128 * (k - 8) + i) / 128 = k by omega, show (128 * (k - 8) + i) % 128 = i by omega] at this
      rcases Nat.lt_or_ge k 32 with h32 | h32
      · refine (wordFails_sections h16 h32).2 fun i hi hw => hsections (256 * (k - 16) + i) (by omega) ?_
        rwa [show 16 + (256 * (k - 16) + i) / 256 = k by omega, show (256 * (k - 16) + i) % 256 = i by omega]
      · obtain rfl : k = 32 := by omega
        exact wordFails_edges.2 hedges
  · rw [testBit_spermOf]
    simp only [mem_setBits, Bool.and_eq_true]
    constructor
    · rintro ⟨r, ⟨hr, hperm⟩, ⟨hvalid, hused⟩, rfl⟩
      exact ⟨hused, r, hr, hperm, hvalid, rfl⟩
    · rintro ⟨hused, r, hr, hperm, hvalid, rfl⟩
      exact ⟨r, ⟨hr, hperm⟩, ⟨hvalid, hused⟩, rfl⟩

end Sys2Proof.Machine
end

section
/-!
PROOFS. The management interrupt controller (02 R54, R55): which source a claim returns, and what claim and completion do to its latches.
-/
namespace Sys2Proof.Machine

/-! ### The best source -/

/-- The choice between the best source so far and the next one. -/
def plicBetter (prio : List (Nat × Nat)) (b : Option Nat) (i : Nat) : Option Nat :=
  match b with
  | none => some i
  | some j => if assoc prio j 0 < assoc prio i 0 then some i else some j

theorem plicBetter_foldl_keep {prio : List (Nat × Nat)} {i : Nat} {l : List Nat} (h : ∀ j ∈ l, assoc prio j 0 ≤ assoc prio i 0) :
    l.foldl (plicBetter prio) (some i) = some i := by
  induction l with
  | nil => rfl
  | cons j l ih =>
    rw [List.forall_mem_cons] at h
    rw [List.foldl_cons, plicBetter, if_neg (by omega), ih h.2]

/-- Over sources in rising order the choice ends with the first one of highest priority. -/
theorem plicBetter_foldl {prio : List (Nat × Nat)} {i : Nat} {l : List Nat} (hl : l.Pairwise (· < ·)) (hi : i ∈ l)
    (h : ∀ j ∈ l, assoc prio j 0 < assoc prio i 0 ∨ (assoc prio j 0 = assoc prio i 0 ∧ i ≤ j)) (b : Option Nat)
    (hb : ∀ j ∈ b, assoc prio j 0 < assoc prio i 0) : l.foldl (plicBetter prio) b = some i := by
  induction l generalizing b with
  | nil => cases hi
  | cons j l ih =>
    rw [List.pairwise_cons] at hl
    rw [List.forall_mem_cons] at h
    rw [List.foldl_cons]
    rcases eq_or_ne i j with rfl | hne
    · have hstep : plicBetter prio b i = some i := by
        cases b with
        | none => rfl
        | some k => exact if_pos (hb k rfl)
      rw [hstep]
      exact plicBetter_foldl_keep fun k hk => by have := h.2 k hk; omega
    · have hil : i ∈ l := (List.mem_cons.1 hi).resolve_left hne
      have hlow : assoc prio j 0 < assoc prio i 0 := by have := hl.1 i hil; have := h.1; omega
      refine ih hl.2 hil h.2 _ fun k hk => ?_
      cases b with
      | none => obtain rfl := Option.some.inj hk; exact hlow
      | some m =>
        have hm := hb m rfl
        simp only [plicBetter] at hk
        split at hk
        · obtain rfl := Option.some.inj hk; exact hlow
        · obtain rfl := Option.some.inj hk; exact hm

/-- A claim returns the source of highest priority, of those the lowest ID (R55). -/
theorem Chip.plicBest_eq {u : Chip} {ctx i : Nat} (hi : i ∈ u.plicReady ctx)
    (h : ∀ j ∈ u.plicReady ctx, assoc u.plic.prio j 0 < assoc u.plic.prio i 0 ∨ (assoc u.plic.prio j 0 = assoc u.plic.prio i 0 ∧ i ≤ j)) :
    u.plicBest ctx = some i :=
  plicBetter_foldl (List.pairwise_lt_range.filter _) hi h none (by simp)

theorem Chip.plicBest_none {u : Chip} {ctx : Nat} (h : u.plicReady ctx = []) : u.plicBest ctx = none := by
  unfold Chip.plicBest
  rw [h]
  rfl

/-! ### Claims and completions -/

/-- A management core reaches the controller. -/
theorem permitted_plic {req : Nat} (h3 : 3 ≤ req) (h6 : req ≤ 6) (wr : Bool) : permitted req 0x0C200004 wr = true := by
  simp [permitted, show regionOf 0x0C200004 = .plic from rfl, h3, h6]

/-- A claim completes with the claims of all contexts that claim in its cycle. -/
theorem completes_plicClaim {req : Nat} {x : ClaimOp} {s : State} {P : Chip → Prop} (h3 : 3 ≤ req) (h6 : req ≤ 6) (hctx : x.ctx < 4)
    (hP : P (s.chip.plicClaimAll ((List.range 4).filter (fun c => c == x.ctx || x.same.contains c)) x.ctx)) : Completes (.plicClaim req x) s P := by
  have hexec : exec (.plicClaim req x) s = execPlicClaim req x s := rfl
  refine ⟨_, ?_, hP⟩
  rw [hexec, execPlicClaim]
  simp [permitted_plic h3 h6, hctx]

/-- The contexts of one cycle, for a claim alone. -/
theorem range_filter_single {ctx : Nat} (h : ctx < 4) : (List.range 4).filter (fun c => c == ctx || ([] : List Nat).contains c) = [ctx] := by
  interval_cases ctx <;> rfl

/-- A source that a context may claim is pending and is not source 0. -/
theorem Chip.mem_plicReady {u : Chip} {ctx i : Nat} (h : i ∈ u.plicReady ctx) : i ≠ 0 ∧ u.plic.pend.testBit i = true := by
  simp only [Chip.plicReady, List.mem_filter, Bool.and_eq_true, bne_iff_ne] at h
  obtain ⟨-, ⟨⟨hne, hpend⟩, -⟩, -⟩ := h
  exact ⟨hne, hpend⟩

theorem Chip.plicWins_alone (u : Chip) (ctx : Nat) : u.plicWins [ctx] ctx = (u.plicBest ctx).getD 0 := by
  unfold Chip.plicWins
  cases u.plicBest ctx <;> simp

/-- Of contexts that would claim one source in one cycle the lowest gets it. -/
theorem Chip.plicWins_of_lower {u : Chip} {all : List Nat} {c d : Nat} (hc : c ∈ all) (hcd : c < d) (hbest : u.plicBest d = u.plicBest c) :
    u.plicWins all d = 0 := by
  unfold Chip.plicWins
  rw [hbest]
  split
  · rfl
  · rename_i i hi
    exact if_pos (List.any_eq_true.2 ⟨c, hc, by simp [hcd, hi]⟩)

theorem Chip.plicWins_of_lowest {u : Chip} {all : List Nat} {c : Nat} (h : ∀ d ∈ all, c ≤ d) : u.plicWins all c = (u.plicBest c).getD 0 := by
  unfold Chip.plicWins
  cases u.plicBest c with
  | none => rfl
  | some i =>
    refine if_neg fun hany => ?_
    obtain ⟨d, hd, hlt⟩ := List.any_eq_true.1 hany
    have := h d hd
    simp only [Bool.and_eq_true, decide_eq_true_eq] at hlt
    omega

/-- A completion by a context that has the source enabled completes with the service's end. -/
theorem completes_plicComplete {req ctx id : Nat} {s : State} {P : Chip → Prop} (h3 : 3 ≤ req) (h6 : req ≤ 6) (hctx : ctx < 4)
    (hP : P (s.chip.plicDone ctx id)) : Completes (.plicComplete req ctx id) s P := by
  have hexec : exec (.plicComplete req ctx id) s = execPlicComplete req ctx id s := rfl
  refine ⟨_, ?_, hP⟩
  rw [hexec, execPlicComplete]
  simp [permitted_plic h3 h6, hctx]

/-- The gateway looks at the line of a source that is not in service. -/
theorem Chip.plicGate_idle {u : Chip} {id : Nat} (hbusy : u.plic.busy.testBit id = false) :
    (u.plicGate id).plic.busy = u.plic.busy ∧ (u.plicGate id).plic.pend.testBit id = (u.plic.pend.testBit id || u.mgmtLine id) := by
  unfold Chip.plicGate
  cases hline : u.mgmtLine id <;> simp [hbusy, Nat.testBit_or]

/-- Settles O9. -/
theorem interruptController : Obligations.InterruptController := by
  unfold Obligations.InterruptController
  refine ⟨fun req ctx i s h3 h6 hctx hi hbest => ?_, fun req ctx s h3 h6 hctx hnone => ?_, fun req c d s h3 h6 hcd hd hsome hsame => ⟨?_, ?_⟩,
    fun req ctx id s h3 h6 hctx hbusy hen => ?_⟩
  · refine completes_plicClaim h3 h6 hctx ?_
    obtain ⟨hne, hpend⟩ := Chip.mem_plicReady hi
    have hwins : s.chip.plicWins [ctx] ctx = i := by rw [Chip.plicWins_alone, Chip.plicBest_eq hi hbest]; rfl
    rw [range_filter_single hctx]
    simp [Chip.plicClaimAll, Chip.answer, hwins, hne, testBit_sub_two_pow _ _ _ hpend, Nat.testBit_or]
  · refine completes_plicClaim h3 h6 hctx ?_
    have hwins : s.chip.plicWins [ctx] ctx = 0 := by rw [Chip.plicWins_alone, Chip.plicBest_none hnone]; rfl
    rw [range_filter_single hctx]
    simp [Chip.plicClaimAll, Chip.answer, hwins]
  · refine completes_plicClaim h3 h6 hd ?_
    exact congrArg BusResp.data (Chip.plicWins_of_lower (by simp; omega) hcd hsame)
  · refine completes_plicClaim h3 h6 (by dsimp only; omega) ?_
    refine congrArg BusResp.data (Chip.plicWins_of_lowest fun e he => ?_)
    simp only [List.mem_filter, Bool.or_eq_true, beq_iff_eq, List.contains_cons, List.contains_nil, Bool.or_false] at he
    rcases he.2 with rfl | rfl <;> dsimp only <;> omega
  · refine completes_plicComplete h3 h6 hctx ?_
    have hfree : (s.chip.plic.busy - 2 ^ id).testBit id = false := by simp [testBit_sub_two_pow _ _ _ hbusy]
    obtain ⟨hkeep, hpend⟩ := Chip.plicGate_idle (u := { s.chip with plic := { s.chip.plic with busy := s.chip.plic.busy - 2 ^ id } }) hfree
    unfold Chip.plicDone
    rw [hbusy, hen]
    exact ⟨rfl, (congrArg (·.testBit id) hkeep).trans hfree, hpend⟩

end Sys2Proof.Machine
end

section
/-!
PROOFS. The safe state of Weir (05 R173, Table 5.6). After Weir has latched its cause no operation of the entry gives an enable back or touches
what SAFE shows: `Chip.Falls`. So an entry from a state that latches none ends as `Chip.safeWith` says.
-/
namespace Sys2Proof.Machine
open Chip

/-- A register of Weir apart from WR_EN, IRQ_RAW and BLK_STAT. -/
def Fld.weirShown (f : Fld) : Bool :=
  decide (f.lo < 32 ∧ f.addr / 0x100000 = 0x500 ∧ f.addr ≠ Reg.WR_EN.EN.addr ∧ f.addr ≠ (Reg.IRQ.RAW weirPage).addr ∧ f.addr % 0x1000 ≠ 0xC)

/-- From `u` to `t` no enable rises, and Weir shows and holds what it did. -/
structure Chip.Falls (u t : Chip) : Prop where
  rails : ∀ n, t.weir.en.t.testBit n = true → u.weir.en.t.testBit n = true
  en : ∀ n, (t.get Reg.WR_EN.EN).testBit n = true → (u.get Reg.WR_EN.EN).testBit n = true
  hold : t.weir.hold = u.weir.hold
  openCheck : t.weir.openCheck = u.weir.openCheck
  lat : t.lat = u.lat
  shown : ∀ f : Fld, f.weirShown = true → t.get f = u.get f

namespace Chip.Falls

theorem rfl {u : Chip} : Chip.Falls u u := ⟨fun _ => id, fun _ => id, .refl _, .refl _, .refl _, fun _ _ => .refl _⟩

theorem trans {u t v : Chip} (h : Chip.Falls u t) (k : Chip.Falls t v) : Chip.Falls u v :=
  ⟨fun n => h.rails n ∘ k.rails n, fun n => h.en n ∘ k.en n, k.hold.trans h.hold, k.openCheck.trans h.openCheck, k.lat.trans h.lat,
   fun f hf => (k.shown f hf).trans (h.shown f hf)⟩

theorem foldl {α : Type} {g : Chip → α → Chip} (h : ∀ t x, Chip.Falls t (g t x)) {l : List α} {u : Chip} : Chip.Falls u (l.foldl g u) := by
  induction l generalizing u with
  | nil => exact .rfl
  | cons x l ih => exact (h u x).trans ih

theorem ite {c : Prop} [Decidable c] {u x y : Chip} (h : Chip.Falls u x) (k : Chip.Falls u y) : Chip.Falls u (if c then x else y) := by
  split
  · exact h
  · exact k

/-- An operation outside Weir's registers and the lattice that leaves Weir's rails alone. -/
theorem of_weir {S : Scope} {u t : Chip} (h : Within S u t) (hscope : (!S.parts.contains .lat && !S.covers 0x500) = true)
    (hen : t.weir.en = u.weir.en) (hhold : t.weir.hold = u.weir.hold) (hcheck : t.weir.openCheck = u.weir.openCheck) : Chip.Falls u t := by
  simp only [Bool.and_eq_true, Bool.not_eq_true', List.contains_eq_mem, decide_eq_false_iff_not] at hscope
  have hreg : ∀ f : Fld, f.lo < 32 → f.addr / 0x100000 = 0x500 → f.addr % 0x1000 ≠ 0xC → t.get f = u.get f := fun f hlo hb hc =>
    h.regs f hlo (by omega) hc (by rw [hb]; exact hscope.2)
  refine ⟨fun n => by rw [hen]; exact id, fun n => by rw [hreg Reg.WR_EN.EN (by decide) (by decide) (by decide)]; exact id, hhold, hcheck,
    h.same .lat hscope.1, fun f hf => ?_⟩
  obtain ⟨hlo, hb, -, -, hc⟩ := of_decide_eq_true hf
  exact hreg f hlo hb hc

/-- An operation outside Weir and the lattice. -/
theorem of_within {S : Scope} {u t : Chip} (h : Within S u t)
    (hscope : (!S.parts.contains .weir && !S.parts.contains .lat && !S.covers 0x500) = true) : Chip.Falls u t := by
  simp only [Bool.and_eq_true, Bool.not_eq_true', List.contains_eq_mem, decide_eq_false_iff_not] at hscope
  obtain ⟨⟨hweir, hlat⟩, hb⟩ := hscope
  have hsame : t.weir = u.weir := h.same .weir hweir
  exact of_weir h (by simp [hlat, hb]) (by rw [hsame]) (by rw [hsame]) (by rw [hsame])

end Chip.Falls

/-! ### The operations of an entry -/

theorem Rails.put_false_t (r : Rails) (m n : Nat) (h : (r.put m false).t.testBit n = true) : r.t.testBit n = true := by
  simp only [Rails.put, Bool.false_eq_true, if_false] at h
  split at h
  · rename_i hm
    rw [testBit_sub_two_pow _ _ _ hm] at h
    exact (Bool.and_eq_true _ _ ▸ h).1
  · exact h

theorem Chip.clearBit_testBit (u : Chip) (f : Fld) (m n : Nat) (h : ((u.clearBit f m).get f).testBit n = true) : (u.get f).testBit n = true := by
  unfold Chip.clearBit at h
  split at h
  · rename_i hm
    rw [get_put_same, Nat.testBit_mod_two_pow, testBit_sub_two_pow _ _ _ hm] at h
    simp_all
  · exact h

theorem Fld.key_ne_of_weirShown {f : Fld} (hf : f.weirShown = true) : Reg.WR_EN.EN.key ≠ f.key := by
  obtain ⟨hlo, -, hne, -⟩ := of_decide_eq_true hf
  exact Fld.key_ne (by decide) hlo hne.symm

theorem Chip.enable_falls {u : Chip} {n : Nat} : Falls u (u.enable n false) := by
  refine ⟨fun m => Rails.put_false_t _ _ _, fun m => clearBit_testBit u _ _ _, .refl _, .refl _, clearBit_lat .., fun f hf => ?_⟩
  change (u.clearBit Reg.WR_EN.EN n).get f = u.get f
  unfold Chip.clearBit
  split
  · exact get_put_ne _ _ _ _ (Fld.key_ne_of_weirShown hf)
  · rfl

theorem Chip.weirDemand_falls {u : Chip} {n : Nat} : Falls u (u.weirDemand n) := .ite .rfl enable_falls

theorem Chip.putBit_falls {u : Chip} {f : Fld} {n : Nat} {b : Bool} {l : List Nat} (h : f.InBlocks l)
    (hl : (Scope.mk [] (some l)).covers 0x500 = false) : Falls u (u.putBit f n b) :=
  .of_within (putBit_within h) (by rw [hl]; rfl)

theorem Chip.demand_falls {u : Chip} {n : Nat} {hs ls : Bool} : Falls u (u.demand n hs ls) :=
  ((putBit_falls (Fld.inBlocks_self (by rfl)) (by rfl)).trans (putBit_falls (Fld.inBlocks_self (by rfl)) (by rfl))).trans weirDemand_falls

theorem Chip.outEnter_falls {u : Chip} {n st : Nat} {lines : Bool} : Falls u (u.outEnter n st lines) :=
  (Falls.of_within ((cancelTests_within.trans modOut_within).trans (put_within Reg.SOUT_ST.STATE_in)) (by rfl)).trans demand_falls

theorem Chip.sluiceSafe_falls {u : Chip} : Falls u u.sluiceSafe :=
  .foldl fun _ _ => (Falls.of_within modOut_within (by rfl)).trans (.ite .rfl (.ite (.of_within cancelTests_within (by rfl)) outEnter_falls))

theorem Chip.testDiscarded_falls {u : Chip} {n reason t : Nat} : Falls u (u.testDiscarded n reason t) := .of_within testDiscarded_within (by rfl)

theorem Chip.outCommand_falls {u : Chip} {n : Nat} {b : Bool} : Falls u (u.outCommand n b) := by
  unfold Chip.outCommand
  split
  · exact .rfl
  · extract_lets st u1 u2
    have h1 : Falls u u1 := .of_within modOut_within (by rfl)
    have h2 : Falls u1 u2 := outEnter_falls
    split
    · exact h1
    · split
      · exact h1.trans (.ite outEnter_falls .rfl)
      · exact (h1.trans h2).trans (.ite testDiscarded_falls (.ite testDiscarded_falls .rfl))

theorem Chip.outImage_falls {u : Chip} {img n : Nat} : Falls u (u.outImage img n) := by
  have hout : ∀ (x : Chip) (g : SluiceOut → SluiceOut), Falls x (x.modOut n g) := fun x g => .of_within modOut_within (by rfl)
  unfold Chip.outImage
  extract_lets bit word o pending t done
  have hdone : Falls u (done u) := hout u _
  refine .ite outCommand_falls (.ite .rfl (.ite (hdone.trans outCommand_falls) (.ite (.ite hdone ?_) (hout u _))))
  exact (hdone.trans outCommand_falls).trans
    (.of_within (((satInc_within (Fld.inBlocks_self (by rfl))).trans (irq_within (.self (by rfl)))).trans raiseAfter_within) (by rfl))

theorem Chip.sluiceImage_falls {u : Chip} {img : Nat} : Falls u (u.sluiceImage img) := .foldl fun _ _ => outImage_falls

theorem Chip.confStop_falls {u : Chip} {fcode : Nat} : Falls u (u.confStop fcode) := by
  have hstart : Falls u ((u.irqAfter cfPage 22 4 [fcode]).modeChange 0 0 3 0) :=
    .of_within ((irqAfter_within (.self (by rfl))).trans modeChange_within) (by rfl)
  have hend : ∀ x : Chip, Falls x (let y := foldUpTo 3 x (fun u n => (u.put (Reg.CF_PSTAT.SLOTS n) 0).put (Reg.CF_PSTAT.PSTATE n) 0)
      y.free.2.mirrorPublish (y.free.1 / 2 ^ 24) 0 0 0 y.free.1 0 []) := fun x =>
    .of_within (((Within.foldUpTo fun _ _ => (put_within Reg.CF_PSTAT.SLOTS_in).trans (put_within Reg.CF_PSTAT.PSTATE_in)).trans free_within).trans
      mirrorPublish_within) (by rfl)
  have hconf : ∀ (x : Chip) (v : Conf), Falls x (((({ x with conf := v } : Chip).put Reg.CF_MODE.RS_PHASE 0).put Reg.CF_RS.DIRTY 0).sluiceImage 0) :=
    fun x v => ((show Falls x { x with conf := v } from ⟨fun _ => id, fun _ => id, rfl, rfl, rfl, fun _ _ => rfl⟩).trans
      (.of_within ((put_within (Fld.inBlocks_self (by rfl))).trans (put_within (Fld.inBlocks_self (by rfl)))) (by rfl))).trans sluiceImage_falls
  exact (hstart.trans (hconf _ _)).trans (hend _)

/-- What no step of a fold changes, the fold does not change. -/
theorem foldl_keeps {α β γ : Type} (p : γ → β) {g : γ → α → γ} (h : ∀ t x, p (g t x) = p t) (l : List α) (u : γ) : p (l.foldl g u) = p u := by
  induction l generalizing u with
  | nil => rfl
  | cons x l ih => exact (ih _).trans (h u x)

theorem Chip.pwrRestart_weir (u : Chip) : u.pwrRestart.weir = { u.weir with pfArmed := true } :=
  foldl_keeps Chip.weir (fun _ _ => put_weir ..) _ _

theorem Chip.pwrRestart_falls {u : Chip} : Falls u u.pwrRestart :=
  .of_weir pwrRestart_within (by rfl) (by rw [pwrRestart_weir]) (by rw [pwrRestart_weir]) (by rw [pwrRestart_weir])

theorem Chip.pwrWakeNow_falls {u : Chip} {cause : Nat} : Falls u (u.pwrWakeNow cause) := by
  unfold Chip.pwrWakeNow
  extract_lets st u1 u2 _
  have h1 : Falls u u1 := .of_within (put_within (Fld.inBlocks_self (by rfl))) (by rfl)
  have h2 : Falls u1 u2 := pwrRestart_falls.trans (.of_within (put_within (Fld.inBlocks_self (by rfl))) (by rfl))
  refine .ite ((h1.trans h2).trans (.of_within (((irq_within (.self (by rfl))).trans raiseAfter_within).trans pwrStartPending_within) (by rfl)))
    (.ite (h1.trans (.of_within (put_within (Fld.inBlocks_self (by rfl))) (by rfl))) (.ite (h1.trans (.of_within pwr_within (by rfl))) h1))

theorem Chip.pwrWake_falls {u : Chip} {b : Nat} : Falls u (u.pwrWake b) :=
  .ite (.of_within pwr_within (by rfl)) (.ite .rfl pwrWakeNow_falls)

theorem Chip.chans_falls {u : Chip} {h : Per3 Channel} : Falls u { u with chans := h } :=
  ⟨fun _ => id, fun _ => id, rfl, rfl, rfl, fun _ _ => rfl⟩

/-- Once Weir drives the safe-state line, no enable comes back and what Weir shows stays. -/
theorem Chip.safeLine_falls {u : Chip} {fcode : Nat} : Falls u (u.safeLine fcode) := by
  have hline : ∀ x : Chip, Falls x (x.modWeirLine true) := fun x => ⟨fun _ => id, fun _ => id, rfl, rfl, rfl, fun _ _ => rfl⟩
  unfold Chip.safeLine
  extract_lets u1 u2 u3 h u4
  have h1 : Falls u u1 := sluiceSafe_falls.trans (.of_within zstStop_within (by rfl))
  have h2 : Falls u1 u2 := .ite .rfl confStop_falls
  have h3 : Falls u2 u3 := .of_within (Within.foldUpTo fun _ _ => (put_within Reg.CH_STATE.RB_LT_in).trans (put_within Reg.CH_STATE.RB_LK_in)) (by rfl)
  have h4 : Falls u3 u4 := chans_falls
  have h5 : Falls u1 (u4.modWeirLine true) := ((h2.trans h3).trans h4).trans (hline u4)
  clear_value u1 u4
  exact ((h1.trans h5).trans (.of_within evrSafeLine_within (by rfl))).trans pwrWake_falls

/-! ### Confluence stands in SAFE afterwards -/

/-- The registers of an array lie between the first and the last. -/
theorem slot_ne {i n base stride a : Nat} (h0 : a ≠ 0) (h : a < base ∨ base + (n - 1) * stride < a) : slot i n base stride ≠ a := by
  by_cases hi : i < n
  · rw [slot_of_lt _ _ hi]
    have hle : i * stride ≤ (n - 1) * stride := Nat.mul_le_mul_right _ (by omega)
    omega
  · rw [slot_of_ge _ _ (by omega)]
    exact h0.symm

theorem Chip.get_raiseAfter (u : Chip) (src code : Nat) (data : List Nat) (f : Fld) (hl : f.lo < 32) (h4 : 0x40000000 ≤ f.addr)
    (hc : f.addr % 0x1000 ≠ 0xC) (ha : f.addr / 0x100000 ≠ 0x409) : (u.raiseAfter src code data).get f = u.get f :=
  raiseAfter_within.regs f hl h4 hc (by simpa [Scope.covers] using ha)

theorem Chip.put_pstate_mode (u : Chip) (n v : Nat) : (u.put (Reg.CF_PSTAT.PSTATE n) v).get Reg.CF_MODE.MODE = u.get Reg.CF_MODE.MODE :=
  get_put_ne _ _ _ _ (Fld.key_ne (f := Reg.CF_PSTAT.PSTATE n) (show 0 < 32 by decide) (by decide) (slot_ne (by decide) (by decide)))

theorem Chip.put_slots_mode (u : Chip) (n v : Nat) : (u.put (Reg.CF_PSTAT.SLOTS n) v).get Reg.CF_MODE.MODE = u.get Reg.CF_MODE.MODE :=
  get_put_ne _ _ _ _ (Fld.key_ne (f := Reg.CF_PSTAT.SLOTS n) (show 2 < 32 by decide) (by decide) (slot_ne (by decide) (by decide)))

theorem Chip.modeChange_mode (u : Chip) (mode mask c cause : Nat) (hm : mode < 4) : (u.modeChange mode mask c cause).get Reg.CF_MODE.MODE = mode := by
  unfold Chip.modeChange
  extract_lets om os u1 u2
  have hend : (u2.irqAfter cfPage 22 2 [om, os, mode, mask, c, cause]).get Reg.CF_MODE.MODE = u2.get Reg.CF_MODE.MODE := by
    unfold Chip.irqAfter
    rw [get_raiseAfter _ _ _ _ _ (by decide) (by decide) (by decide) (by decide), get_irq _ _ _ _ (by decide) (by decide)]
  have hports : u2.get Reg.CF_MODE.MODE = u1.get Reg.CF_MODE.MODE :=
    foldl_keeps (fun t : Chip => t.get Reg.CF_MODE.MODE) (fun t n => put_pstate_mode t n _) (List.range 3) u1
  rw [hend, hports]
  change ((u.put Reg.CF_MODE.MODE mode).put Reg.CF_MODE.MASK mask).get Reg.CF_MODE.MODE = mode
  rw [get_put_ne _ _ _ _ (by decide), get_put_same]
  exact Nat.mod_eq_of_lt hm

/-- Confluence that stops is in SAFE. -/
theorem Chip.confStop_mode (u : Chip) (fcode : Nat) : (u.confStop fcode).get Reg.CF_MODE.MODE = 0 := by
  have hports : ∀ x : Chip, (foldUpTo 3 x fun u n => (u.put (Reg.CF_PSTAT.SLOTS n) 0).put (Reg.CF_PSTAT.PSTATE n) 0).get Reg.CF_MODE.MODE =
      x.get Reg.CF_MODE.MODE := fun x =>
    foldl_keeps (fun t : Chip => t.get Reg.CF_MODE.MODE) (fun t n => (put_pstate_mode _ n _).trans (put_slots_mode t n _)) (List.range 3) x
  have hend : ∀ y : Chip, (y.free.2.mirrorPublish (y.free.1 / 2 ^ 24) 0 0 0 y.free.1 0 []).get Reg.CF_MODE.MODE = y.get Reg.CF_MODE.MODE := fun y =>
    (free_within.trans mirrorPublish_within).regs _ (by decide) (by decide) (by decide) (by decide)
  have hconf : ∀ (x : Chip) (v : Conf), (((({ x with conf := v } : Chip).put Reg.CF_MODE.RS_PHASE 0).put Reg.CF_RS.DIRTY 0).sluiceImage 0).get
      Reg.CF_MODE.MODE = x.get Reg.CF_MODE.MODE := fun x v => by
    refine (sluiceImage_within.regs _ (by decide) (by decide) (by decide) (by decide)).trans ?_
    rw [get_put_ne _ _ _ _ (by decide), get_put_ne _ _ _ _ (by decide)]
    rfl
  exact (hend _).trans ((hports _).trans ((hconf _ _).trans (modeChange_mode _ _ _ _ _ (by decide))))

theorem Chip.safeLine_mode (u : Chip) (fcode : Nat) : (u.safeLine fcode).get Reg.CF_MODE.MODE = 0 := by
  unfold Chip.safeLine
  extract_lets u1 u2 u3 h u4
  have h2 : u2.get Reg.CF_MODE.MODE = 0 := by
    unfold u2
    split
    · assumption
    · exact confStop_mode _ _
  have h3 : u3.get Reg.CF_MODE.MODE = u2.get Reg.CF_MODE.MODE :=
    (Within.foldUpTo fun _ _ => (put_within Reg.CH_STATE.RB_LT_in).trans (put_within Reg.CH_STATE.RB_LK_in)).regs _ (by decide) (by decide) (by decide)
      (by decide)
  have hend : ((u4.modWeirLine true).evrSafeLine.pwrWake 3).get Reg.CF_MODE.MODE = u4.get Reg.CF_MODE.MODE :=
    ((modWeirLine_within.trans evrSafeLine_within).trans pwrWake_within).regs _ (by decide) (by decide) (by decide) (by decide)
  exact (hend.trans h3).trans h2

/-! ### The entry -/

/-- Weir latches a cause: every enable and permission falls, SAFE, LOCKOUT and the cause show, no check is open (R173). -/
def Chip.latches (u : Chip) (cause : Nat) : Prop :=
  u.weir.en.t = 0 ∧ u.get Reg.WR_EN.EN = 0 ∧ u.get Reg.WR_STAT.SAFE = 1 ∧ u.get Reg.WR_STAT.LOCKOUT = 1 ∧ u.get Reg.WR_STAT.CAUSE = cause ∧
  u.noPermission = true ∧ u.get Reg.WR_VC.OPEN = 0 ∧ u.weir.openCheck = none ∧ u.weir.hold = false

theorem Chip.irq_falls {u : Chip} {b : Nat} : Falls u (u.irq weirPage b) := by
  refine ⟨fun n => by rw [irq_weir]; exact id, fun n => by rw [get_irq _ _ _ _ (by decide) (by decide)]; exact id, by rw [irq_weir], by rw [irq_weir],
    irq_lat .., fun f hf => ?_⟩
  obtain ⟨hlo, -, -, hraw, -⟩ := of_decide_eq_true hf
  exact get_irq _ _ _ _ hlo hraw

/-- What Weir has latched stays until the entry is complete. -/
theorem Chip.Falls.latches {u t : Chip} {cause : Nat} (h : Falls u t) (hu : u.latches cause) : t.latches cause := by
  obtain ⟨hrails, hen, hsafe, hlockout, hcause, hperm, hopen, hcheck, hhold⟩ := hu
  have hnone : ∀ {v w : Nat}, v = 0 → (∀ n, w.testBit n = true → v.testBit n = true) → w = 0 := fun hv hle =>
    Nat.eq_of_testBit_eq fun n => by
      subst hv
      simpa using mt (hle n)
  exact ⟨hnone hrails h.rails, hnone hen h.en, (h.shown _ (by decide)).trans hsafe, (h.shown _ (by decide)).trans hlockout,
    (h.shown _ (by decide)).trans hcause, by unfold noPermission; rw [h.lat]; exact hperm, (h.shown _ (by decide)).trans hopen,
    h.openCheck.trans hcheck, h.hold.trans hhold⟩

/-- A latched cause with Confluence in SAFE is the safe state of `Chip.safeWith`. -/
theorem Chip.latches.safeWith {u : Chip} {cause : Nat} (h : u.latches cause) (hmode : u.get Reg.CF_MODE.MODE = 0) : u.safeWith cause = true := by
  obtain ⟨hrails, hen, hsafe, hlockout, hcause, hperm, hopen, hcheck, hhold⟩ := h
  simp [Chip.safeWith, Chip.enablesOff, Rails.word, Chip.safe, Chip.on, *]

theorem Rails.low_word (n : Nat) : (Rails.low n).word = 0 := by simp [Rails.word, Rails.low]

/-- Weir latches the cause. -/
theorem Chip.enters_latches {x : Chip} {cause t : Nat} (hc : cause < 256) :
    Chip.latches (let u := (((x.enablesClear).put Reg.WR_STAT.SAFE 1).put Reg.WR_STAT.LOCKOUT 1).put Reg.WR_STAT.CAUSE cause
      let u := { u with
        weir := { u.weir with hold := false, causeAt := t, openCheck := none }
        lat := { u.lat with pend := none, port := [], passed := [] } }
      (u.permsClear).put Reg.WR_VC.OPEN 0) cause := by
  extract_lets y _ _ z
  have hget : ∀ f : Fld, Reg.WR_VC.OPEN.key ≠ f.key → (z.permsClear.put Reg.WR_VC.OPEN 0).get f = y.get f := fun f hf => get_put_ne z.permsClear _ f 0 hf
  refine ⟨rfl, ?_, ?_, ?_, ?_, by simp [noPermission, permsClear, Rails.low_word], get_put_same .., rfl, rfl⟩
  · rw [hget _ (by decide), get_put_ne _ _ _ _ (by decide), get_put_ne _ _ _ _ (by decide), get_put_ne _ _ _ _ (by decide)]
    exact get_put_same x Reg.WR_EN.EN 0
  · rw [hget _ (by decide), get_put_ne _ _ _ _ (by decide), get_put_ne _ _ _ _ (by decide), get_put_same]
    rfl
  · rw [hget _ (by decide), get_put_ne _ _ _ _ (by decide), get_put_same]
    rfl
  · rw [hget _ (by decide), get_put_same]
    exact Nat.mod_eq_of_lt hc

/-- A state that latches no cause enters the safe state (R173). -/
theorem Chip.weirSafe_safeWith {u : Chip} {cause : Nat} (hu : u.unlatched = true) (hc : cause < 256) : (u.weirSafe cause).safeWith cause = true := by
  have hcapture : ((if cause = 9 then u else u.captureCause (0x1000 + cause)).on Reg.WR_STAT.SAFE &&
      !(if cause = 9 then u else u.captureCause (0x1000 + cause)).weir.hold) = false := by
    have hwithin : Within ⟨frLog ++ [.flt], some [0x407, 0x409]⟩ u (if cause = 9 then u else u.captureCause (0x1000 + cause)) :=
      (Within.ite .unchanged captureCause_within).le (by decide)
    rw [Chip.on, hwithin.regs _ (by decide) (by decide) (by decide) (by decide), show _ = u.weir from hwithin.same .weir (by decide)]
    simpa [Chip.unlatched, Chip.on, or_iff_not_imp_left] using hu
  have hend : ∀ (x : Chip) (l : List Nat) (n : Nat), Falls x ((x.captureEntry.irqAfter weirPage 0 0 l).safeLine n) := fun x l n =>
    (((Falls.of_within captureEntry_within (by rfl)).trans irq_falls).trans (.of_within raiseAfter_within (by rfl))).trans safeLine_falls
  unfold Chip.weirSafe
  extract_lets +onlyGivenNames u1 latched
  rw [if_neg (by rw [show latched = false from hcapture]; exact Bool.false_ne_true)]
  exact ((hend _ _ _).latches (enters_latches hc)).safeWith (safeLine_mode _ _)

/-- An entry, or another cause in the safe state, changes of what Weir shows only SAFE, LOCKOUT, CAUSE and the open check. -/
theorem Chip.weirSafe_shown (u : Chip) (cause : Nat) (f : Fld) (hf : f.weirShown = true)
    (hk : f.key ∉ [Reg.WR_STAT.SAFE.key, Reg.WR_STAT.LOCKOUT.key, Reg.WR_STAT.CAUSE.key, Reg.WR_VC.OPEN.key]) :
    (u.weirSafe cause).get f = u.get f := by
  simp only [List.mem_cons, List.not_mem_nil, or_false, not_or] at hk
  obtain ⟨hsafe, hlockout, hcause, hopen⟩ := hk
  have hfirst : Falls u (if cause = 9 then u else u.captureCause (0x1000 + cause)) := .ite .rfl (.of_within captureCause_within (by rfl))
  have hend : ∀ (x : Chip) (l : List Nat) (n : Nat), Falls x ((x.captureEntry.irqAfter weirPage 0 0 l).safeLine n) := fun x l n =>
    (((Falls.of_within captureEntry_within (by rfl)).trans irq_falls).trans (.of_within raiseAfter_within (by rfl))).trans safeLine_falls
  unfold Chip.weirSafe
  extract_lets +onlyGivenNames u1 latched
  refine Eq.trans ?_ (hfirst.shown f hf)
  split
  · split
    · exact get_put_ne _ _ _ _ (Ne.symm hcause)
    · rfl
  · refine ((hend _ _ _).shown f hf).trans ?_
    refine (get_put_ne _ _ _ _ (Ne.symm hopen)).trans ?_
    refine (get_put_ne _ _ _ _ (Ne.symm hcause)).trans ((get_put_ne _ _ _ _ (Ne.symm hlockout)).trans ((get_put_ne _ _ _ _ (Ne.symm hsafe)).trans ?_))
    exact get_put_ne u1 _ _ 0 (Fld.key_ne_of_weirShown hf)

end Sys2Proof.Machine
end

section
/-!
PROOFS. The lanes of the inter-die link (05 R140 to R143).
-/
namespace Sys2Proof.Machine
open Chip

/-! ### Lanes -/

theorem modAt_getElem?_self {α : Type} (g : α → α) {l : List α} {n : Nat} {x : α} (h : l[n]? = some x) : (modAt l n g)[n]? = some (g x) := by
  induction l generalizing n with
  | nil => simp at h
  | cons y l ih =>
    cases n with
    | zero => simp only [List.getElem?_cons_zero, Option.some.injEq] at h; simp [modAt, h]
    | succ n => simpa [modAt] using ih (by simpa using h)

theorem Chip.lanes_modLane_same (u : Chip) (up : Bool) (n : Nat) (g : Lane → Lane) : (u.modLane up n g).lanes up = modAt (u.lanes up) n g := by
  cases up <;> rfl

theorem Chip.lanes_modLane_other (u : Chip) (up : Bool) (n : Nat) (g : Lane → Lane) : (u.modLane (!up) n g).lanes up = u.lanes up := by
  cases up <;> rfl

theorem Chip.lanes_modLane_not (u : Chip) (up : Bool) (n : Nat) (g : Lane → Lane) : (u.modLane up n g).lanes (!up) = u.lanes (!up) := by
  cases up <;> rfl

/-- A lane after it is changed. -/
theorem Chip.lane_modLane {u : Chip} {up : Bool} {n : Nat} {l : Lane} (g : Lane → Lane) (h : (u.lanes up)[n]? = some l) :
    ((u.modLane up n g).lanes up).getD n {} = g l := by
  rw [lanes_modLane_same, List.getD_eq_getElem?_getD, modAt_getElem?_self g h]
  rfl

theorem Chip.modLane_get (u : Chip) (up : Bool) (n : Nat) (g : Lane → Lane) (f : Fld) : (u.modLane up n g).get f = u.get f := rfl

/-- Registers do not reach the lanes. -/
theorem Chip.lanes_of_link {u t : Chip} (h : t.link = u.link) (up : Bool) : t.lanes up = u.lanes up := by unfold Chip.lanes; rw [h]

theorem Chip.get_satInc_same (u : Chip) (f : Fld) : (u.satInc f).get f = min (u.get f + 1) (2 ^ f.width - 1) := by
  have hpos := Nat.two_pow_pos f.width
  rw [Chip.satInc, get_put_same, Nat.mod_eq_of_lt (by omega)]

theorem Chip.get_satInc_ne (u : Chip) (f g : Fld) (h : f.key ≠ g.key) : (u.satInc f).get g = u.get g := get_put_ne _ _ _ _ h

/-! ### FLIT_RECEIVE -/

theorem Chip.control_lanes (u : Chip) (up : Bool) (kind lane seq : Nat) : (u.control up kind lane seq).lanes up = u.lanes up :=
  lanes_modLane_other ..

/-- The other direction's lane 3 queues an acknowledgment or a NAK. -/
theorem Chip.control_queue {u : Chip} {up : Bool} {m : Lane} (kind lane seq : Nat) (h : (u.lanes (!up))[3]? = some m) :
    (((u.control up kind lane seq).lanes (!up)).getD 3 {}).queue = m.queue ++ [Flit.mk kind 0 (lane * 1024 + seq % 1024)] := by
  unfold Chip.control
  rw [lane_modLane _ h]
  rfl

/-- A flit with a good CRC and the expected SEQ is accepted; the eighth one is acknowledged (R140). -/
theorem completes_flitReceive (up : Bool) (n seq kind : Nat) (x : FlitRest) (l : Lane) (s : State) (hl : (s.chip.lanes up)[n]? = some l) :
    Completes (.flitReceive up n seq kind x) s (fun t =>
      if x.crc = flitCrc n seq ⟨kind, x.tag, x.payload⟩ ∧ seq % 1024 = l.expect then
        ((t.lanes up).getD n {}).expect = (l.expect + 1) % 1024 ∧
        t.get Reg.WR_STAT.LINK_UP = (if s.chip.get Reg.WR_LINK.FAIL = 0 then 1 else s.chip.get Reg.WR_STAT.LINK_UP) ∧
        ∀ m, (s.chip.lanes (!up))[3]? = some m → ((t.lanes (!up)).getD 3 {}).queue =
          (if 7 ≤ l.unacked then m.queue ++ [Flit.mk 9 0 (n * 1024 + (l.expect + 1) % 1024)] else m.queue)
      else ((t.lanes up).getD n {}).expect = l.expect ∧
        t.get Reg.WR_LINK.CRCERR = (if up = true ∧ x.crc ≠ flitCrc n seq ⟨kind, x.tag, x.payload⟩ then
          min (s.chip.get Reg.WR_LINK.CRCERR + 1) (2 ^ Reg.WR_LINK.CRCERR.width - 1) else s.chip.get Reg.WR_LINK.CRCERR) ∧
        ∀ m, (s.chip.lanes (!up))[3]? = some m → ((t.lanes (!up)).getD 3 {}).queue = m.queue ++ [Flit.mk 10 0 (n * 1024 + l.expect % 1024)]) := by
  change ∃ t, execFlitReceive up n seq kind x s = s.become t ∧ _
  unfold execFlitReceive
  dsimp only
  rw [hl]
  simp only [beq_iff_eq, seqMod]
  by_cases hok : x.crc = flitCrc n seq ⟨kind, x.tag, x.payload⟩ ∧ seq % 1024 = l.expect
  · rw [if_pos hok]
    refine ⟨_, rfl, ?_⟩
    rw [if_pos hok]
    generalize hv : (if s.chip.get Reg.WR_LINK.FAIL = 0 then s.chip.put Reg.WR_STAT.LINK_UP 1 else s.chip) = v
    have hlink : v.link = s.chip.link := by rw [← hv]; split <;> rfl
    have hup : v.get Reg.WR_STAT.LINK_UP = (if s.chip.get Reg.WR_LINK.FAIL = 0 then 1 else s.chip.get Reg.WR_STAT.LINK_UP) := by
      rw [← hv]
      split
      · exact get_put_same ..
      · rfl
    have hlane := (lanes_of_link hlink up).symm ▸ hl
    by_cases hfull : 7 ≤ l.unacked
    · simp only [hfull, decide_true, if_true]
      refine ⟨by rw [control_lanes, lane_modLane _ hlane], hup, fun m hm => ?_⟩
      rw [control_queue (m := m) _ _ _ (by rw [lanes_modLane_not, lanes_of_link hlink]; exact hm)]
    · simp only [hfull, decide_false, Bool.false_eq_true, if_false]
      refine ⟨by rw [lane_modLane _ hlane], hup, fun m hm => ?_⟩
      rw [lanes_modLane_not, lanes_of_link hlink, List.getD_eq_getElem?_getD, hm]
      rfl
  · rw [if_neg hok]
    refine ⟨_, rfl, ?_⟩
    rw [if_neg hok]
    generalize hv : (if (!x.crc == flitCrc n seq ⟨kind, x.tag, x.payload⟩) = true ∧ up = true then s.chip.satInc Reg.WR_LINK.CRCERR else s.chip) = v
    have hlink : v.link = s.chip.link := by rw [← hv]; split <;> rfl
    have hcrc : v.get Reg.WR_LINK.CRCERR = (if up = true ∧ x.crc ≠ flitCrc n seq ⟨kind, x.tag, x.payload⟩ then
          min (s.chip.get Reg.WR_LINK.CRCERR + 1) (2 ^ Reg.WR_LINK.CRCERR.width - 1) else s.chip.get Reg.WR_LINK.CRCERR) := by
      rw [← hv]
      by_cases hc : up = true ∧ x.crc ≠ flitCrc n seq ⟨kind, x.tag, x.payload⟩
      · rw [if_pos hc, if_pos ⟨by simpa using hc.2, hc.1⟩, get_satInc_same]
      · rw [if_neg hc, if_neg fun h => hc ⟨h.2, by simpa using h.1⟩]
    refine ⟨?_, hcrc, fun m hm => control_queue _ _ _ (by rw [lanes_of_link hlink]; exact hm)⟩
    rw [control_lanes, lanes_of_link hlink, List.getD_eq_getElem?_getD, hl]
    rfl

/-! ### FLIT_NAK -/

/-- The link fails at Weir: the reason shows, the link is down, and Weir enters the safe state. -/
theorem Chip.linkFail_safeWith {u : Chip} (reason : Nat) (hr : reason < 4) (hu : u.unlatched = true) :
    (u.linkFail reason true).safeWith 8 = true ∧ (u.linkFail reason true).get Reg.WR_LINK.FAIL = reason ∧
      (u.linkFail reason true).get Reg.WR_STAT.LINK_UP = 0 := by
  unfold Chip.linkFail
  extract_lets v _ w
  have hget : ∀ f : Fld, w.get f = v.get f := fun _ => rfl
  rw [if_pos (.inl rfl)]
  refine ⟨weirSafe_safeWith ?_ (by decide), ?_, ?_⟩
  · have hhold : w.weir.hold = u.weir.hold := rfl
    have hsafe : v.get Reg.WR_STAT.SAFE = u.get Reg.WR_STAT.SAFE := by
      rw [get_put_ne _ _ _ _ (by decide), get_put_ne _ _ _ _ (by decide)]
    simpa [Chip.unlatched, Chip.on, hget, hsafe, hhold] using hu
  · rw [weirSafe_shown _ _ _ (by decide) (by decide), hget, get_put_ne _ _ _ _ (by decide), get_put_same]
    exact Nat.mod_eq_of_lt hr
  · rw [weirSafe_shown _ _ _ (by decide) (by decide), hget, get_put_same]
    rfl

/-- The report of a NAK changes no register of Weir but IRQ_RAW, and no lane. -/
theorem Chip.nakReport_falls (u : Chip) (data : List Nat) : Falls u ((u.irq weirPage 6).raise 0 0x04 data) :=
  irq_falls.trans (.of_within raise_within (by rfl))

theorem Chip.nakReport_link (u : Chip) (data : List Nat) : ((u.irq weirPage 6).raise 0 0x04 data).link = u.link := by
  rw [raise_link, irq_link]

/-- The resent flits are counted at the sender in Weir's direction. -/
def Chip.countRetry (u : Chip) (up : Bool) : Chip := if up = true then u else u.satInc Reg.WR_LINK.RETRY

theorem Chip.countRetry_link (u : Chip) (up : Bool) : (u.countRetry up).link = u.link := by cases up <;> rfl

theorem Chip.countRetry_hold (u : Chip) (up : Bool) : (u.countRetry up).weir.hold = u.weir.hold := by cases up <;> rfl

theorem Chip.countRetry_get_ne (u : Chip) (up : Bool) (f : Fld) (hf : Reg.WR_LINK.RETRY.key ≠ f.key) : (u.countRetry up).get f = u.get f := by
  cases up
  · exact get_satInc_ne _ _ _ hf
  · rfl

theorem Chip.countRetry_get (u : Chip) (up : Bool) :
    (u.countRetry up).get Reg.WR_LINK.RETRY = if up then u.get Reg.WR_LINK.RETRY else min (u.get Reg.WR_LINK.RETRY + 1) 255 := by
  cases up
  · exact get_satInc_same ..
  · rfl

/-- A sender that takes a NAK: the lane resends, the resend is counted and reported. -/
def Chip.takeNak (u : Chip) (up : Bool) (n seq : Nat) (l : Lane) (naks : Nat) : Chip :=
  let v := (u.modLane up n (fun m => { m with resend := m.replay.length - seqMod (seq + 1024 - l.base), nakSeq := seqMod seq, naks := naks })).countRetry up
  (v.irq weirPage 6).raise 0 0x04 [n, seqMod seq, v.get Reg.WR_LINK.RETRY]

theorem execFlitNak_of_lane {up : Bool} {n seq naks : Nat} {l : Lane} {s : State} (hl : (s.chip.lanes up)[n]? = some l)
    (hnaks : (if l.naks ≠ 0 ∧ l.nakSeq = seqMod seq then l.naks + 1 else 1) = naks) :
    execFlitNak up n seq s = s.become (if 4 ≤ naks then (s.chip.takeNak up n seq l naks).linkFail 1 true else s.chip.takeNak up n seq l naks) := by
  unfold execFlitNak
  dsimp only
  rw [hl]
  dsimp only
  rw [hnaks]
  rfl

theorem Chip.takeNak_get_ne (u : Chip) (up : Bool) (n seq : Nat) (l : Lane) (naks : Nat) (f : Fld) (hf : Reg.WR_LINK.RETRY.key ≠ f.key)
    (hshown : f.weirShown = true) : (u.takeNak up n seq l naks).get f = u.get f :=
  ((nakReport_falls _ _).shown f hshown).trans (countRetry_get_ne _ up f hf)

theorem Chip.takeNak_retry (u : Chip) (up : Bool) (n seq : Nat) (l : Lane) (naks : Nat) :
    (u.takeNak up n seq l naks).get Reg.WR_LINK.RETRY = if up then u.get Reg.WR_LINK.RETRY else min (u.get Reg.WR_LINK.RETRY + 1) 255 :=
  ((nakReport_falls _ _).shown _ (by decide)).trans (countRetry_get _ up)

theorem Chip.takeNak_hold (u : Chip) (up : Bool) (n seq : Nat) (l : Lane) (naks : Nat) : (u.takeNak up n seq l naks).weir.hold = u.weir.hold := by
  rw [takeNak, (nakReport_falls _ _).hold, countRetry_hold]
  cases up <;> rfl

theorem Chip.takeNak_lane {u : Chip} {up : Bool} {n : Nat} {m : Lane} (seq : Nat) (l : Lane) (naks : Nat) (hm : (u.lanes up)[n]? = some m) :
    ((u.takeNak up n seq l naks).lanes up).getD n {} =
      { m with resend := m.replay.length - seqMod (seq + 1024 - l.base), nakSeq := seqMod seq, naks := naks } := by
  rw [takeNak, lanes_of_link (nakReport_link _ _), lanes_of_link (countRetry_link _ _), lane_modLane _ hm]

/-- A NAK for the k-th flit of the replay buffer makes the sender resend from there. -/
theorem completes_flitNak (up : Bool) (n k : Nat) (l : Lane) (s : State) (hl : (s.chip.lanes up)[n]? = some l) (_hbase : l.base < 1024)
    (hk : k < l.replay.length) (hlen : l.replay.length ≤ 16) (hnaks : l.naks = 0) :
    Completes (.flitNak up n (l.base + k)) s (fun t => ((t.lanes up).getD n {}).resend = l.replay.length - k ∧ ((t.lanes up).getD n {}).naks = 1 ∧
      t.safe = s.chip.safe ∧ t.get Reg.WR_LINK.FAIL = s.chip.get Reg.WR_LINK.FAIL ∧
      t.get Reg.WR_LINK.RETRY = (if up then s.chip.get Reg.WR_LINK.RETRY else min (s.chip.get Reg.WR_LINK.RETRY + 1) 255)) := by
  have hskip : seqMod (l.base + k + 1024 - l.base) = k := by unfold seqMod; omega
  refine ⟨_, execFlitNak_of_lane hl (if_neg (fun h => h.1 hnaks)), ?_⟩
  rw [if_neg (show ¬ 4 ≤ 1 by decide)]
  dsimp only
  rw [takeNak_lane _ _ _ hl, hskip]
  refine ⟨rfl, rfl, ?_, takeNak_get_ne _ _ _ _ _ _ _ (by decide) (by decide), takeNak_retry ..⟩
  unfold Chip.safe Chip.on
  rw [takeNak_get_ne _ _ _ _ _ _ _ (by decide) (by decide)]

/-- The fourth consecutive NAK of one flit fails the link (R143). -/
theorem completes_flitNak_fourth (up : Bool) (n : Nat) (l : Lane) (s : State) (hl : (s.chip.lanes up)[n]? = some l) (hnaks : l.naks = 3)
    (hseq : l.nakSeq < 1024) (hu : s.chip.unlatched = true) :
    Completes (.flitNak up n l.nakSeq) s (fun t => t.safeWith 8 = true ∧ t.get Reg.WR_LINK.FAIL = 1 ∧ t.get Reg.WR_STAT.LINK_UP = 0) := by
  have hsame : l.nakSeq = seqMod l.nakSeq := (Nat.mod_eq_of_lt hseq).symm
  refine ⟨_, execFlitNak_of_lane hl (if_pos ⟨by omega, hsame⟩), ?_⟩
  rw [if_pos (by omega)]
  refine linkFail_safeWith 1 (by decide) ?_
  unfold Chip.unlatched Chip.on at hu ⊢
  rw [takeNak_hold, takeNak_get_ne _ _ _ _ _ _ _ (by decide) (by decide)]
  exact hu

/-! ### FLIT_ACK -/

theorem completes_flitAck (up : Bool) (n k : Nat) (l : Lane) (s : State) (hl : (s.chip.lanes up)[n]? = some l) (_hbase : l.base < 1024)
    (hk : k ≤ l.replay.length) (hlen : l.replay.length ≤ 16) :
    Completes (.flitAck up n (l.base + k)) s (fun t => ((t.lanes up).getD n {}).replay = l.replay.drop k ∧ ((t.lanes up).getD n {}).base = (l.base + k) % 1024 ∧
      ((t.lanes up).getD n {}).naks = 0 ∧ t.regs = s.chip.regs) := by
  have hskip : seqMod (l.base + k + 1024 - l.base) = k := by unfold seqMod; omega
  change ∃ t, execFlitAck up n (l.base + k) s = s.become t ∧ _
  unfold execFlitAck
  dsimp only
  rw [hl]
  dsimp only
  rw [hskip, if_pos hk]
  refine ⟨_, rfl, ?_⟩
  rw [lane_modLane _ hl]
  exact ⟨rfl, rfl, rfl, by cases up <;> rfl⟩

/-! ### FLIT_SEND -/

theorem completes_flitSend (up : Bool) (n : Nat) (k : Flit) (q : List Flit) (l : Lane) (s : State) (hl : (s.chip.lanes up)[n]? = some l) (hn : n < 4)
    (hq : l.queue = k :: q) (hresend : l.resend = 0) (hroom : l.replay.length < 16) (hsilent : up = true → s.chip.link.silent = false)
    (hfirst : n ≠ 3 → ∀ m ∈ [3, 0, 1, 2], (m = 3 ∨ m < n) → ((s.chip.lanes up).getD m {}).send = none) :
    Completes (.flitSend up) s (fun t => ((t.lanes up).getD n {}).queue = q ∧ ((t.lanes up).getD n {}).replay = l.replay ++ [k] ∧ t.regs = s.chip.regs ∧
      t.lanes (!up) = s.chip.lanes (!up)) := by
  have hsend : l.send = some { l with queue := q, replay := l.replay ++ [k] } := by simp [Lane.send, hresend, hq, hroom]
  have hgetD : (s.chip.lanes up).getD n {} = l := by rw [List.getD_eq_getElem?_getD, hl]; rfl
  have hfind : [3, 0, 1, 2].find? (fun n => ((s.chip.lanes up).getD n {}).send.isSome) = some n := by
    have hself : ((s.chip.lanes up).getD n {}).send.isSome = true := by rw [hgetD, hsend]; rfl
    rcases (show n = 3 ∨ n = 0 ∨ n = 1 ∨ n = 2 by omega) with rfl | rfl | rfl | rfl
    · simp only [List.find?_cons, hself]
    · simp [hself, hfirst, -List.getD_eq_getElem?_getD]
    · simp [hself, hfirst, -List.getD_eq_getElem?_getD]
    · simp [hself, hfirst, -List.getD_eq_getElem?_getD]
  change ∃ t, execFlitSend up s = s.become t ∧ _
  unfold execFlitSend
  dsimp only
  rw [if_neg (fun h => by simp [hsilent h.1] at h), hfind]
  refine ⟨_, rfl, ?_⟩
  rw [lane_modLane _ hl, hsend]
  exact ⟨rfl, rfl, by cases up <;> rfl, lanes_modLane_not ..⟩

/-- Settles O26. -/
theorem linkFlits : Obligations.LinkFlits := by
  unfold Obligations.LinkFlits
  exact ⟨completes_flitReceive, completes_flitNak, completes_flitNak_fourth, completes_flitAck, completes_flitSend⟩

end Sys2Proof.Machine
end

section
/-!
PROOFS. Register accesses over the bus (02 R35 to R42, R53): what a read answers, what a write does and what refuses it.
-/
namespace Sys2Proof.Machine
open Chip

/-! ### Pages and addresses -/

/-- An aligned address is its own page. -/
theorem pageOf_of_aligned {pg : Nat} (h : pg % 0x1000 = 0) : pageOf pg = pg := by unfold pageOf; omega

theorem pageOf_aligned_add {pg off : Nat} (h : pg % 0x1000 = 0) (hoff : off < 0x1000) : pageOf (pg + off) = pg := by unfold pageOf; omega

theorem page0_aligned_add {pg off : Nat} (h : pg % 0x1000 = 0) (hoff : off < 0x1000) : page0 (pg + off) = page0 pg := by
  have := page0_add pg off hoff
  rwa [pageOf_of_aligned h] at this

theorem pageInfo_aligned_add {pg off : Nat} (h : pg % 0x1000 = 0) (hoff : off < 0x1000) : pageInfo (pg + off) = pageInfo pg := by
  have := pageInfo_add pg off hoff
  rwa [pageOf_of_aligned h] at this

theorem page0_of_pageInfo {a : Nat} {p : PageInfo} (h : pageInfo a = some p) : page0 a = p.base0 := by unfold page0; rw [h]

/-- The header of no page lies in a window. -/
theorem windowOf_header {pg off : Nat} (h : pg % 0x1000 = 0) (hoff : off < 0x40) : windowOf (pg + off) = none := by
  unfold windowOf
  rw [if_neg (by omega), if_neg (by omega)]

theorem wordAccess_header {pg off : Nat} (h : pg % 0x1000 = 0) (hoff : off % 4 = 0) : wordAccess (pg + off) 4 = true := by
  simp only [wordAccess, beq_self_eq_true, Bool.true_and, beq_iff_eq]
  omega

theorem Chip.attends_pageInfo {u : Chip} {a : Nat} (h : u.attends a = true) : ∃ p, pageInfo a = some p := by
  simp only [Chip.attends, Bool.and_eq_true] at h
  obtain ⟨⟨⟨hsome, -⟩, -⟩, -⟩ := h
  exact Option.isSome_iff_exists.1 hsome

theorem Chip.attends_header {u : Chip} {pg off : Nat} (h : pg % 0x1000 = 0) (hoff : off < 0x1000) (hatt : u.attends pg = true) :
    u.attends (pg + off) = true := by
  have := u.attends_add pg off hoff
  rw [pageOf_of_aligned h] at this
  rwa [this]

/-! ### What a refused access leaves -/

@[simp] theorem Chip.refreshLines_get (u : Chip) (pg : Nat) (f : Fld) : (u.refreshLines pg).get f = u.get f :=
  congrArg f.read (u.refreshLines_regs pg)

theorem Chip.accessErr_error (u : Chip) (a : Nat) : (u.accessErr a).resp = .error ∧ (u.accessErr a).get (Reg.BLK_ERR.ACCESS (pageOf a)) = 1 :=
  ⟨rfl, (refreshLines_get ..).trans (get_put_same ..)⟩

/-! ### Reads -/

/-- A read of a header register of a page that attends it answers what the header holds. -/
theorem Chip.busRead_header {u : Chip} {req pg off : Nat} {p : PageInfo} (h : pg % 0x1000 = 0) (hoff : off < 0x40) (hword : off % 4 = 0)
    (hp : pageInfo pg = some p) (hatt : u.attends pg = true) (hreach : u.pageReach req (pg + off) = true) :
    u.busRead req (pg + off) 4 = u.answer (.data (u.readHeader p (pg + off))) := by
  have hp' : pageInfo (pg + off) = some p := (pageInfo_aligned_add h (by omega)).trans hp
  have hlow : (pg + off) % 0x1000 < 0x40 := by omega
  unfold Chip.busRead
  rw [hp', windowOf_header h hoff]
  simp only [Option.isNone_some, Bool.false_eq_true, if_false, hreach, wordAccess_header h hword, Bool.not_true]
  rw [access_attends u _ _ _ (attends_header h (by omega) hatt)]
  unfold Chip.readReg
  rw [hp']
  simp only [hlow, if_true]

/-- The offsets 0x030 to 0x03C of a header are reserved. -/
theorem Chip.regRead_reserved {u : Chip} {a : Nat} (hlo : 0x30 ≤ a % 0x1000) (hhi : a % 0x1000 < 0x40) : u.regRead a = 0 := by
  have hpieces : ∀ pg, Reg.headerPieces pg (a % 0x1000) = [] := fun pg => by
    unfold Reg.headerPieces
    simp only [show ∀ k, k < 0x30 → a % 0x1000 ≠ k from fun k hk => by omega, if_false, Nat.reduceLT]
  unfold Chip.regRead regPieces
  rw [if_pos hhi]
  simp only [hpieces]
  rfl

theorem Chip.readHeader_reserved {u : Chip} {p : PageInfo} {pg off : Nat} (h : pg % 0x1000 = 0) (hlo : 0x30 ≤ off) (hhi : off < 0x40) :
    u.readHeader p (pg + off) = 0 := by
  have hread : u.regRead (pg + off) = 0 := regRead_reserved (by omega) (by omega)
  unfold Chip.readHeader
  dsimp only
  rw [pageOf_aligned_add h (by omega), Nat.add_sub_cancel_left]
  split <;> omega

theorem Chip.readHeader_id {u : Chip} {p : PageInfo} {pg : Nat} (h : pg % 0x1000 = 0) : u.readHeader p pg = blkId p := by
  have hoff : pg - pageOf pg = 0 := by rw [pageOf_of_aligned h, Nat.sub_self]
  unfold Chip.readHeader
  simp only [hoff]

theorem Chip.readHeader_pend {u : Chip} {p : PageInfo} {pg : Nat} (h : pg % 0x1000 = 0) : u.readHeader p (pg + 0x18) = u.irqPend p.base0 := by
  have hoff : pg + 0x18 - pageOf (pg + 0x18) = 0x18 := by rw [pageOf_aligned_add h (by decide), Nat.add_sub_cancel_left]
  unfold Chip.readHeader
  simp only [hoff]

/-- A read of a register that is no word, or not aligned, is an access error. -/
theorem Chip.busRead_unaligned {u : Chip} {req a size : Nat} (hp : (pageInfo a).isSome = true) (hw : windowOf a = none)
    (hreach : u.pageReach req a = true) (hword : wordAccess a size = false) : u.busRead req a size = (u.ungate a).accessErr a := by
  unfold Chip.busRead
  rw [hw]
  simp only [Option.isNone_eq_false_iff.2 hp, hreach, hword, Bool.not_true, Bool.not_false, Bool.false_eq_true, if_false, if_true]

/-- A block in soft reset answers its reset values. -/
theorem Chip.busRead_inReset {u : Chip} {req a : Nat} (hp : (pageInfo a).isSome = true) (hw : windowOf a = none) (hreach : u.pageReach req a = true)
    (halign : a % 4 = 0) (hreset : u.inReset a = true) : u.busRead req a 4 = u.answer (.data (u.resetValue a)) := by
  have hword : wordAccess a 4 = true := by simp [wordAccess, halign]
  unfold Chip.busRead
  rw [hw]
  simp only [Option.isNone_eq_false_iff.2 hp, hreach, hword, Bool.not_true, Bool.false_eq_true, if_false, Chip.access, hreset, if_true]

theorem completes_registerReadError {req a size : Nat} {s : State} {P : Chip → Prop} {u : Chip} (h : s.chip.busRead req a size = u) (hP : P u) :
    Completes (.registerReadError req a size) s P := ⟨_, rfl, h ▸ hP⟩

/-- Settles O7. -/
theorem registerReads : Obligations.RegisterReads := by
  unfold Obligations.RegisterReads
  refine ⟨fun req pg p s h hp hatt hreach => ?_, fun req pg s h hatt hreach => ?_, fun req a size s hp hw hreach hword => ?_,
    fun req a s hp hw hreach halign hreset => ?_, fun req pg k s h hk hatt hreach => ?_⟩
  · refine completes_registerReadError (busRead_header (off := 0) h (by decide) (by decide) hp hatt hreach) ?_
    exact congrArg BusResp.data (readHeader_id h)
  · obtain ⟨p, hp⟩ := attends_pageInfo hatt
    refine completes_registerReadError (busRead_header h (by decide) (by decide) hp hatt hreach) (congrArg BusResp.data ?_)
    rw [readHeader_pend h, page0_of_pageInfo hp]
    rfl
  · exact completes_registerReadError (busRead_unaligned hp hw hreach hword) (accessErr_error ..)
  · exact completes_registerReadError (busRead_inReset hp hw hreach halign hreset) rfl
  · obtain ⟨p, hp⟩ := attends_pageInfo hatt
    rw [Nat.add_assoc] at hreach ⊢
    exact completes_registerReadError (busRead_header h (by omega) (by omega) hp hatt hreach)
      (congrArg BusResp.data (readHeader_reserved h (by omega) (by omega)))

/-! ### Writes -/

/-- Every block of Table 2.1 has an event source. -/
theorem blockTypes_sourceListed : ∀ b ∈ blockTypes, ∀ i < b.insts, sourceListed (pageSource ⟨b.ty, i, 0, 0, 0, 0⟩) = true := by decide

theorem weirPages_sourceListed : ∀ e ∈ weirPages, sourceListed (pageSource e.2) = true := by decide

/-- The event source of a page depends on its block. -/
theorem pageSource_block (p : PageInfo) : pageSource p = pageSource ⟨p.ty, p.inst, 0, 0, 0, 0⟩ := rfl

theorem pageInfo_sourceListed {a : Nat} {p : PageInfo} (h : pageInfo a = some p) : sourceListed (pageSource p) = true := by
  unfold pageInfo at h
  split at h
  · obtain ⟨e, hfind, rfl⟩ := Option.map_eq_some_iff.1 h
    exact weirPages_sourceListed e (List.mem_of_find?_eq_some hfind)
  · split at h
    · simp only at h
      split at h
      · exact absurd h (by simp)
      · rename_i b hfind
        split at h
        · rename_i hin
          cases h
          rw [pageSource_block]
          exact blockTypes_sourceListed b (List.mem_of_find?_eq_some hfind) _ hin.1
        · exact absurd h (by simp)
    · exact absurd h (by simp)

/-- An event that finds its staging register free changes INT_STAT.FULL alone. -/
theorem Chip.get_raise_free {u : Chip} {src : Nat} (code : Nat) (data : List Nat) {f : Fld} (hs : u.staged src = false)
    (hf : Reg.INT_STAT.FULL.key ≠ f.key) : (u.raise src code data).get f = u.get f := by
  unfold Chip.raise Chip.stage
  dsimp only
  split
  · rfl
  · rw [hs]
    exact get_put_ne _ _ _ _ hf

theorem Chip.ungate_staged (u : Chip) (a src : Nat) : (u.ungate a).staged src = u.staged src := by
  unfold Chip.ungate
  dsimp only
  split <;> rfl

/-- A write that the plane rule bars leaves PLANE and its report. -/
theorem Chip.planeRefused_error {u : Chip} {req a : Nat} {p : PageInfo} (hp : pageInfo a = some p) (hs : u.staged (pageSource p) = false) :
    (u.planeRefused req a).resp = .error ∧ (u.planeRefused req a).get (Reg.BLK_ERR.PLANE (pageOf a)) = 1 ∧
      (u.planeRefused req a).reports (pageSource p) 0xF2 [pageOf a, req, a] = true := by
  unfold Chip.planeRefused
  rw [hp]
  dsimp only
  set v := (u.put (Reg.BLK_ERR.PLANE (pageOf a)) 1).refreshLines p.base0 with hv
  have hsv : v.staged (pageSource p) = false := by
    unfold Chip.staged
    rw [hv, refreshLines_intake]
    exact hs
  refine ⟨rfl, ?_, raise_reports v _ _ _ (pageInfo_sourceListed hp) hsv⟩
  have hkey : Reg.INT_STAT.FULL.key ≠ (Reg.BLK_ERR.PLANE (pageOf a)).key := by
    apply Fld.key_ne (by decide) (Nat.le_of_ble_eq_true rfl)
    simp only [Reg.INT_STAT.FULL, Reg.BLK_ERR.PLANE, pageOf]
    omega
  exact (get_raise_free _ _ hsv hkey).trans ((refreshLines_get ..).trans (get_put_same ..))

/-- A write to a header register of a page that attends it acts on the header. -/
theorem Chip.busWrite_header {u : Chip} {req pg off v : Nat} (h : pg % 0x1000 = 0) (hoff : off < 0x40) (hword : off % 4 = 0) (hv : v < 2 ^ 32)
    (hatt : u.attends pg = true) (hbar : u.writeBarred req (pg + off) = false) (hreach : u.pageReach req (pg + off) = true) :
    u.busWrite req (pg + off) 4 v = u.writeHeader req (pg + off) v := by
  obtain ⟨p, hp⟩ := attends_pageInfo hatt
  have hp' : pageInfo (pg + off) = some p := (pageInfo_aligned_add h (by omega)).trans hp
  have hlow : (pg + off) % 0x1000 < 0x40 := by omega
  have hfits : v % 2 ^ (8 * 4) = v := Nat.mod_eq_of_lt hv
  unfold Chip.busWrite
  rw [hp', windowOf_header h hoff, hfits]
  simp only [Option.isNone_some, Bool.false_eq_true, if_false, hreach, hbar, wordAccess_header h hword, Bool.not_true]
  rw [access_attends u _ _ _ (attends_header h (by omega) hatt)]
  unfold Chip.writeReg
  rw [hp']
  simp only [hlow, if_true]

/-- IRQ_MASK of any page is the block's one mask. -/
theorem regPieces_irqMask {pg : Nat} (h : pg % 0x1000 = 0) : regPieces (pg + 0x14) = [⟨Reg.IRQ_MASK.MASK (page0 pg), 0, 32, 0⟩] := by
  unfold regPieces
  have hoff : (pg + 0x14) % 0x1000 = 0x14 := by omega
  rw [hoff, page0_aligned_add h (by decide)]
  rfl

theorem Chip.writeHeader_irqMask {u : Chip} {req pg v : Nat} (h : pg % 0x1000 = 0) (hv : v < 2 ^ 32) :
    (u.writeHeader req (pg + 0x14) v).resp = .ok ∧ (u.writeHeader req (pg + 0x14) v).get (Reg.IRQ_MASK.MASK (page0 pg)) = v := by
  have hoff : (pg + 0x14) % 0x1000 = 0x14 := by omega
  have hplain : u.writeHeader req (pg + 0x14) v = u.writePlain req (pg + 0x14) v := by
    unfold Chip.writeHeader
    rw [hoff]
    rfl
  rw [hplain, Chip.writePlain, regPieces_irqMask h]
  refine ⟨rfl, (refreshLines_get ..).trans ((get_put_same ..).trans ?_)⟩
  have hlt := u.get_lt (Reg.IRQ_MASK.MASK (page0 pg))
  change (u.get _ - bits (u.get _) 31 0 * 2 ^ 0 + bits v 31 0 % 2 ^ 32 * 2 ^ 0) % 2 ^ 32 = v
  change u.get _ < 2 ^ 32 at hlt
  simp only [bits]
  omega

/-- A write to BLK_CTRL without SOFT_RESET. -/
theorem Chip.writeHeader_ctrl {u : Chip} {req pg v : Nat} (h : pg % 0x1000 = 0) (hv : v < 2) :
    u.writeHeader req (pg + 8) v =
      if u.lockOpen pg req then (u.put (Reg.BLK_CTRL.ENABLE (page0 pg)) v).answer .ok else u.lockViol (pg + 8) := by
  have hoff : (pg + 8) % 0x1000 = 8 := by omega
  have hbit : v.testBit 1 = false := Nat.testBit_lt_two_pow (by omega)
  have hlock : u.lockOpen (pg + 8) req = u.lockOpen pg req := by
    unfold Chip.lockOpen
    rw [pageOf_aligned_add h (by decide), pageOf_of_aligned h]
  have hval : bits v 0 0 = v := by simp only [bits]; omega
  unfold Chip.writeHeader
  simp only [hoff, if_true, hbit, Bool.false_eq_true, if_false, hlock, page0_aligned_add h (show 8 < 0x1000 by decide), hval]

theorem pageInfo_of_regionOf_none {a : Nat} (h : regionOf a = .none) : pageInfo a = none := by
  unfold pageInfo
  split
  · rename_i hw
    have : regionOf a = .weir := by
      unfold regionOf
      simp (disch := omega) only [if_neg, if_pos]
    rw [this] at h
    cases h
  · rename_i hw
    split
    · rename_i hp
      have hsome : (pageInfo a).isSome = false := by
        rw [Bool.eq_false_iff]
        intro hs
        unfold regionOf at h
        simp (disch := omega) only [if_neg, if_pos, hs] at h
        cases h
      have hnone : pageInfo a = none := by simpa using hsome
      unfold pageInfo at hnone
      rwa [if_neg hw, if_pos hp] at hnone
    · rfl

/-- An unmapped access is recorded and reported (R53). -/
theorem Chip.unmapped_error {u : Chip} {req a : Nat} (hs : u.staged 27 = false) :
    (u.unmapped req a).resp = .error ∧ (u.unmapped req a).get Reg.ARB_ERR_ADDR.ADDR = a % 2 ^ 32 ∧ (u.unmapped req a).reports 27 1 [req, 15, a] = true := by
  have hchan : ∀ v : Chip, (if req < 3 then v.chanIrq req (112 + 0) else v).regs = v.regs ∧ (if req < 3 then v.chanIrq req (112 + 0) else v).intake = v.intake :=
    fun v => by split <;> exact ⟨rfl, rfl⟩
  refine ⟨rfl, ?_, ?_⟩
  · refine (congrArg Reg.ARB_ERR_ADDR.ADDR.read (hchan _).1).trans ?_
    refine (get_raise _ _ _ _ _ (by decide) (by decide) (by decide)).trans ((get_irq _ _ _ _ (by decide) (by decide)).trans ?_)
    rw [get_put_ne _ _ _ _ (by decide), get_put_ne _ _ _ _ (by decide), get_put_ne _ _ _ _ (by decide), get_put_same]
    rfl
  · have hreports : ∀ v w : Chip, w.intake = v.intake → w.reports 27 1 [req, 15, a] = v.reports 27 1 [req, 15, a] := fun v w h => by
      unfold Chip.reports
      rw [h]
    refine (hreports _ _ (hchan _).2).trans (raise_reports _ _ _ _ (by decide) ?_)
    unfold Chip.staged
    rw [irq_intake]
    exact hs

/-- Settles O6. -/
theorem registerWrites : Obligations.RegisterWrites := by
  unfold Obligations.RegisterWrites
  refine ⟨fun req a v p s hp hbar halign hw hs => ?_, fun req a size v s hp hw hbar hreach hword => ?_, fun req pg v s h hv hatt hbar hreach => ?_,
    fun req pg v s h hv hatt hbar hreach => ?_, fun req a size v s hr hs => ?_⟩
  · refine ⟨_, rfl, ?_⟩
    have hword : wordAccess a 4 = true := by simp [wordAccess, halign]
    have hbus : s.chip.busWrite req a 4 v = (s.chip.ungate a).planeRefused req a := by
      unfold Chip.busWrite
      rw [hw]
      simp only [hp, Option.isNone_some, hbar, hword, Bool.not_true, Bool.false_eq_true, if_false, if_true]
    rw [hbus]
    exact planeRefused_error hp (by rw [ungate_staged, hs])
  · refine ⟨_, rfl, ?_⟩
    unfold Chip.busWrite
    rw [hw]
    have hnone := Option.isNone_eq_false_iff.2 hp
    simp only [hnone, hbar, hreach, hword, Bool.not_true, Bool.not_false, Bool.false_eq_true, if_false, if_true]
    exact accessErr_error ..
  · refine ⟨_, rfl, ?_⟩
    rw [busWrite_header h (by decide) (by decide) hv hatt hbar hreach]
    exact writeHeader_irqMask h hv
  · refine ⟨_, rfl, ?_⟩
    rw [busWrite_header h (by decide) (by decide) (by omega) hatt hbar hreach, writeHeader_ctrl h hv]
    by_cases hopen : s.chip.lockOpen pg req = true
    · rw [if_pos hopen]
      dsimp only
      rw [if_pos hopen]
      exact ⟨rfl, (get_put_same ..).trans (Nat.mod_eq_of_lt hv)⟩
    · rw [if_neg hopen]
      dsimp only
      rw [if_neg hopen, Chip.lockViol, pageOf_aligned_add h (by decide)]
      refine ⟨rfl, (refreshLines_get ..).trans (get_put_same ..), (refreshLines_get ..).trans (get_put_ne _ _ _ _ ?_)⟩
      apply Fld.key_ne (Nat.le_of_ble_eq_true rfl) (Nat.le_of_ble_eq_true rfl)
      have := page0_mod (a := pg)
      simp only [Reg.BLK_ERR.LOCK_VIOL, Reg.BLK_CTRL.ENABLE]
      omega
  · refine ⟨_, rfl, ?_⟩
    have hbus : s.chip.busWrite req a size v = s.chip.unmapped req a := by
      unfold Chip.busWrite Chip.writeElse
      rw [pageInfo_of_regionOf_none hr, hr]
      rfl
    rw [hbus]
    exact unmapped_error hs

end Sys2Proof.Machine
end

section
/-!
PROOFS. The services of a page (02 R41, R49 to R52): soft reset, the CRC scan, error injection and self-gating. A fault that a scan finds may
stop Confluence: `Chip.StatusKept` says that this leaves BLK_STAT and BLK_ERR of every page alone.
-/
namespace Sys2Proof.Machine
open Chip

/-! ### Operations that leave BLK_STAT and BLK_ERR of every page alone -/

/-- No BLK_STAT and no BLK_ERR changes from `u` to `t`. -/
def Chip.StatusKept (u t : Chip) : Prop := ∀ f : Fld, f.lo < 32 → f.addr % 0x1000 = 0x24 ∨ f.addr % 0x1000 = 0xC → t.get f = u.get f

/-- A field outside every BLK_STAT and BLK_ERR. -/
def Fld.NotStatus (f : Fld) : Prop := f.lo < 32 ∧ f.addr % 0x1000 ≠ 0x24 ∧ f.addr % 0x1000 ≠ 0xC

theorem Fld.notStatus_self {f : Fld} (h : (f.lo.blt 32 && (f.addr % 0x1000 != 0x24) && (f.addr % 0x1000 != 0xC)) = true) : f.NotStatus := by
  simp only [Bool.and_eq_true, bne_iff_ne] at h
  obtain ⟨⟨hlo, herr⟩, hstat⟩ := h
  exact ⟨Nat.le_of_ble_eq_true hlo, herr, hstat⟩

/-- An array that lies in one page behind the header. -/
theorem Fld.notStatus_slot {f : Fld} (i n base stride : Nat) (hf : f.addr = slot i n base stride) (hlo : f.lo < 32)
    (h : (base / 0x1000 = (base + (n - 1) * stride) / 0x1000 ∧ 0x24 < base % 0x1000)) : f.NotStatus := by
  refine ⟨hlo, ?_⟩
  rw [hf]
  by_cases hi : i < n
  · rw [slot_of_lt _ _ hi]
    have hle : i * stride ≤ (n - 1) * stride := Nat.mul_le_mul_right _ (by omega)
    omega
  · rw [slot_of_ge _ _ (by omega)]
    decide

theorem Reg.INT_LOST.COUNT_notStatus (s : Nat) : (Reg.INT_LOST.COUNT s).NotStatus :=
  Fld.notStatus_slot (s / 2) 128 0x40901100 4 rfl (by simp only [Reg.INT_LOST.COUNT]; omega) (by decide)

theorem Reg.CF_PSTAT.PSTATE_notStatus (n : Nat) : (Reg.CF_PSTAT.PSTATE n).NotStatus := Fld.notStatus_slot n 3 0x40300048 4 rfl (show 0 < 32 by decide) (by decide)

theorem Reg.CF_PSTAT.SLOTS_notStatus (n : Nat) : (Reg.CF_PSTAT.SLOTS n).NotStatus := Fld.notStatus_slot n 3 0x40300048 4 rfl (show 2 < 32 by decide) (by decide)

theorem Reg.SOUT_ST.STATE_notStatus (n : Nat) : (Reg.SOUT_ST.STATE n).NotStatus := Fld.notStatus_slot n 32 0x40501140 4 rfl (show 0 < 32 by decide) (by decide)

namespace Chip.StatusKept

theorem rfl {u : Chip} : Chip.StatusKept u u := fun _ _ _ => .refl _

theorem trans {u t v : Chip} (h : Chip.StatusKept u t) (k : Chip.StatusKept t v) : Chip.StatusKept u v := fun f hl hf => (k f hl hf).trans (h f hl hf)

theorem of_regs {u t : Chip} (h : t.regs = u.regs) : Chip.StatusKept u t := fun f _ _ => congrArg f.read h

theorem ite {c : Prop} [Decidable c] {u x y : Chip} (h : Chip.StatusKept u x) (k : Chip.StatusKept u y) : Chip.StatusKept u (if c then x else y) := by
  split
  · exact h
  · exact k

theorem foldl {α : Type} {g : Chip → α → Chip} (h : ∀ t x, Chip.StatusKept t (g t x)) {l : List α} {u : Chip} : Chip.StatusKept u (l.foldl g u) := by
  induction l generalizing u with
  | nil => exact .rfl
  | cons x l ih => exact (h u x).trans ih

theorem put {u : Chip} {g : Fld} {v : Nat} (h : g.NotStatus) : Chip.StatusKept u (u.put g v) := fun f hl hf => by
  obtain ⟨hlo, herr, hstat⟩ := h
  exact get_put_ne _ _ _ _ (Fld.key_ne hlo hl (by omega))

theorem satInc {u : Chip} {g : Fld} (h : g.NotStatus) : Chip.StatusKept u (u.satInc g) := put h

theorem putBit {u : Chip} {g : Fld} {n : Nat} {b : Bool} (h : g.NotStatus) : Chip.StatusKept u (u.putBit g n b) := by
  unfold Chip.putBit Chip.setBit Chip.clearBit
  exact .ite (put h) (.ite (put h) .rfl)

theorem irq {u : Chip} {pg b : Nat} (h : pg % 0x1000 = 0) : Chip.StatusKept u (u.irq pg b) := fun f hl hf => by
  refine get_irq _ _ _ _ hl ?_
  simp only [Reg.IRQ.RAW]
  omega

theorem stage {u : Chip} {e : Ev} : Chip.StatusKept u (u.stage e) := by
  refine .ite .rfl (.ite ?_ ?_)
  · exact ((satInc (Reg.INT_LOST.COUNT_notStatus _)).trans (satInc (g := Reg.INT_LOSTSUM.COUNT) (Fld.notStatus_self (by rfl)))).trans ((of_regs (by rfl)).trans (irq (by rfl)))
  · exact (of_regs (by rfl)).trans (put (Fld.notStatus_self (by rfl)))

theorem raise {u : Chip} {src code : Nat} {data : List Nat} : Chip.StatusKept u (u.raise src code data) := stage

theorem raiseSince {u : Chip} {src code t : Nat} {data : List Nat} : Chip.StatusKept u (u.raiseSince src code data t) := .ite (of_regs (by rfl)) stage

theorem irqAfter {u : Chip} {pg src b : Nat} {data : List Nat} (h : pg % 0x1000 = 0) : Chip.StatusKept u (u.irqAfter pg src b data) :=
  (irq h).trans raiseSince

theorem faultEvent {u : Chip} {fcode cls : Nat} : Chip.StatusKept u (u.faultEvent fcode cls) := (put (Fld.notStatus_self (by rfl))).trans raiseSince

theorem captureCause {u : Chip} {fcode : Nat} : Chip.StatusKept u (u.captureCause fcode) := by
  have hlatch : ∀ x : Chip, Chip.StatusKept x ((({ x with flt := { x.flt with firstAt := some x.weirTime } } : Chip).put Reg.FLT_FIRST.FCODE fcode).put
      Reg.FLT_CYCLE.VAL (x.get Reg.MIR_CYCLE.COUNT)) := fun x =>
    ((of_regs (t := { x with flt := { x.flt with firstAt := some x.weirTime } }) (by rfl)).trans (put (Fld.notStatus_self (by rfl)))).trans
      (put (Fld.notStatus_self (by rfl)))
  have hcount : Chip.StatusKept u (u.satInc Reg.FLT_CNT.UNIT_SAFE) := satInc (Fld.notStatus_self (by rfl))
  unfold Chip.captureCause
  extract_lets v _
  refine hcount.trans ?_
  split
  · exact (hlatch v).trans (put (Fld.notStatus_self (by rfl)))
  · exact .ite ((hlatch v).trans faultEvent) faultEvent

theorem modeChange {u : Chip} {mode mask c cause : Nat} : Chip.StatusKept u (u.modeChange mode mask c cause) :=
  (((put (Fld.notStatus_self (by rfl))).trans (put (Fld.notStatus_self (by rfl)))).trans
    (foldl fun _ _ => put (Reg.CF_PSTAT.PSTATE_notStatus _))).trans (irqAfter (by rfl))

theorem enable {u : Chip} {n : Nat} {b : Bool} : Chip.StatusKept u (u.enable n b) := putBit (u := u) (Fld.notStatus_self (by rfl))

theorem demand {u : Chip} {n : Nat} {hs ls : Bool} : Chip.StatusKept u (u.demand n hs ls) :=
  ((putBit (Fld.notStatus_self (by rfl))).trans (putBit (Fld.notStatus_self (by rfl)))).trans (.ite .rfl enable)

theorem outEnter {u : Chip} {n st : Nat} {lines : Bool} : Chip.StatusKept u (u.outEnter n st lines) :=
  ((of_regs (by rfl)).trans (put (Reg.SOUT_ST.STATE_notStatus _))).trans demand

theorem testDiscarded {u : Chip} {n reason t : Nat} : Chip.StatusKept u (u.testDiscarded n reason t) :=
  ((satInc (Fld.notStatus_self (by rfl))).trans (irq (by rfl))).trans raiseSince

theorem outCommand {u : Chip} {n : Nat} {b : Bool} : Chip.StatusKept u (u.outCommand n b) := by
  unfold Chip.outCommand
  split
  · exact .rfl
  · extract_lets st u1 u2
    have h1 : Chip.StatusKept u u1 := of_regs (by rfl)
    have h2 : Chip.StatusKept u1 u2 := outEnter
    exact .ite h1 (.ite (h1.trans (.ite outEnter .rfl)) ((h1.trans h2).trans (.ite testDiscarded (.ite testDiscarded .rfl))))

theorem outImage {u : Chip} {img n : Nat} : Chip.StatusKept u (u.outImage img n) := by
  have hout : ∀ (x : Chip) (g : SluiceOut → SluiceOut), Chip.StatusKept x (x.modOut n g) := fun x g => of_regs (by rfl)
  unfold Chip.outImage
  extract_lets bit word o pending t done
  have hdone : Chip.StatusKept u (done u) := hout u _
  refine .ite outCommand (.ite .rfl (.ite (hdone.trans outCommand) (.ite (.ite hdone ?_) (hout u _))))
  exact (hdone.trans outCommand).trans (((satInc (Fld.notStatus_self (by rfl))).trans (irq (by rfl))).trans raiseSince)

theorem mirrorPublish {u : Chip} {task minority mask mode seq img : Nat} {msgs : List Nat} :
    Chip.StatusKept u (u.mirrorPublish task minority mask mode seq img msgs) := by
  have hshow : ∀ (x : Conf) (b cyc : Nat), Chip.StatusKept u ((({ u with conf := x } : Chip).put Reg.MIR_STAT.CUR b).put Reg.MIR_CYCLE.COUNT cyc) := fun x b cyc =>
    ((of_regs (t := { u with conf := x }) (by rfl)).trans (put (Fld.notStatus_self (by rfl)))).trans (put (Fld.notStatus_self (by rfl)))
  exact hshow _ _ _

theorem confStop {u : Chip} {fcode : Nat} : Chip.StatusKept u (u.confStop fcode) := by
  have hstart : Chip.StatusKept u ((u.irqAfter cfPage 22 4 [fcode]).modeChange 0 0 3 0) := (irqAfter (by rfl)).trans modeChange
  have hconf : ∀ (x : Chip) (v : Conf), Chip.StatusKept x (((({ x with conf := v } : Chip).put Reg.CF_MODE.RS_PHASE 0).put Reg.CF_RS.DIRTY 0).sluiceImage 0) :=
    fun x v => (((of_regs (t := { x with conf := v }) (by rfl)).trans (put (Fld.notStatus_self (by rfl)))).trans (put (Fld.notStatus_self (by rfl)))).trans
      (foldl fun _ _ => outImage)
  have hports : ∀ x : Chip, Chip.StatusKept x (foldUpTo 3 x fun u n => (u.put (Reg.CF_PSTAT.SLOTS n) 0).put (Reg.CF_PSTAT.PSTATE n) 0) := fun x =>
    foldl fun _ n => (put (Reg.CF_PSTAT.SLOTS_notStatus n)).trans (put (Reg.CF_PSTAT.PSTATE_notStatus n))
  have hend : ∀ y : Chip, Chip.StatusKept y (y.free.2.mirrorPublish (y.free.1 / 2 ^ 24) 0 0 0 y.free.1 0 []) := fun y =>
    (of_regs (t := y.free.2) (by rfl)).trans mirrorPublish
  exact ((hstart.trans (hconf _ _)).trans (hports _)).trans (hend _)

theorem logicFault {u : Chip} {fcode : Nat} : Chip.StatusKept u (u.logicFault fcode) := by
  have hreq : ∀ x : Chip, Chip.StatusKept x { x with link := { x.link with safeReq := true } } := fun x => of_regs (by rfl)
  exact .ite captureCause ((captureCause.trans confStop).trans (hreq _))

theorem pageFault {u : Chip} {pg k : Nat} : Chip.StatusKept u (u.pageFault pg k) := by
  unfold Chip.pageFault
  split
  · exact .ite logicFault ((satInc (Fld.notStatus_self (by rfl))).trans faultEvent)
  · exact .rfl

end Chip.StatusKept

/-! ### SOFT_RESET -/

/-- A soft reset counts on the page's release and leaves the locks alone. -/
theorem Chip.softReset_pages (u : Chip) (p : PageInfo) :
    ∃ due, (u.softReset p).pages = { u.pages with resetting := u.pages.resetting ++ [(p.base0, due)] } := by
  have hmach : (u.machinesReset p).pages = u.pages := machinesReset_within.same .pages (by decide)
  have hcvu : ∀ x : Chip, (if p.ty = 0xD021 then x.cvuSync p.inst else x).pages = x.pages := fun x => by split <;> rfl
  have htarget : ∀ x : Chip, (match targetOf p.ty with
      | some t => x.modTarget t (fun g => { g with hung := false })
      | none => x).pages = x.pages := fun x => by split <;> rfl
  unfold Chip.softReset
  extract_lets v w x y
  have hy : y.pages = u.pages := (htarget x).trans ((hcvu w).trans hmach)
  rw [refreshLines_pages, put_pages, put_pages]
  refine ⟨y.now + us 1, ?_⟩
  change { y.pages with resetting := y.pages.resetting ++ [(p.base0, y.now + us 1)] } = _
  rw [hy]

theorem Chip.softReset_busy (u : Chip) (p : PageInfo) : (u.softReset p).get (Reg.BLK_STAT.RST_BUSY p.base0) = 1 :=
  (refreshLines_get ..).trans (get_put_same ..)

/-- A page that attends a write to BLK_CTRL. -/
theorem Chip.softResetWrite_of_page {u : Chip} {pg : Nat} {p : PageInfo} (hp : pageInfo pg = some p) :
    u.softResetWrite (pageOf pg + 8) = (u.softReset p).answer .ok := by
  unfold Chip.softResetWrite
  rw [pageInfo_add pg 8 (by decide), hp]

theorem completes_softReset (req pg : Nat) (s : State) (hatt : s.chip.attends pg = true) (hplane : s.chip.planeBars req (pageOf pg + 8) = false)
    (hreach : s.chip.pageReach req (pageOf pg + 8) = true) :
    Completes (.softReset req pg) s (fun t => t.resp = .ok ∧ t.get (Reg.BLK_STAT.RST_BUSY (page0 pg)) = 1 ∧ t.inReset pg = true ∧
      t.pages.locks = s.chip.pages.locks) := by
  obtain ⟨p, hp⟩ := attends_pageInfo hatt
  refine ⟨_, congrArg s.become (atPage_attends s.chip req pg 8 true _ (by decide) hatt hplane hreach), ?_⟩
  obtain ⟨due, hpages⟩ := s.chip.softReset_pages p
  rw [softResetWrite_of_page hp, page0_of_pageInfo hp]
  refine ⟨rfl, softReset_busy .., ?_, (congrArg Pages.locks hpages).trans rfl⟩
  change (s.chip.softReset p).pages.resetting.any (fun r => r.1 == page0 pg) = true
  rw [hpages, page0_of_pageInfo hp]
  simp

/-! ### A write while the reset runs, and its end -/

/-- A write that finds the block in reset gets an error and is kept for the end of the reset. -/
theorem Chip.busWrite_inReset {u : Chip} {req a v : Nat} (hp : (pageInfo a).isSome = true) (hw : windowOf a = none) (hbar : u.writeBarred req a = false)
    (hreach : u.pageReach req a = true) (halign : a % 4 = 0) (hreset : u.inReset a = true) : u.busWrite req a 4 v = u.lateWrite a := by
  have hword : wordAccess a 4 = true := by simp [wordAccess, halign]
  unfold Chip.busWrite
  rw [hw]
  simp only [Option.isNone_eq_false_iff.2 hp, hbar, hreach, hword, Bool.not_true, Bool.false_eq_true, if_false, Chip.access, hreset, if_true]

theorem Chip.lateWrite_mem (u : Chip) (a : Nat) : pageOf a ∈ (u.lateWrite a).pages.late := by
  unfold Chip.lateWrite Chip.refuse Chip.answer
  dsimp only
  split
  · rename_i h
    exact List.contains_iff_mem.1 h
  · exact List.mem_append_right _ (List.mem_singleton.2 rfl)

/-- ACCESS of every page of a list is set. -/
theorem Chip.accessMarks_get {l : List Nat} {x : Nat} (hx : x ∈ l) (u : Chip) :
    (l.foldl (fun u x => u.put (Reg.BLK_ERR.ACCESS (pageOf x)) 1) u).get (Reg.BLK_ERR.ACCESS (pageOf x)) = 1 := by
  have hkeep : ∀ (l : List Nat) (u : Chip), u.get (Reg.BLK_ERR.ACCESS (pageOf x)) = 1 →
      (l.foldl (fun u x => u.put (Reg.BLK_ERR.ACCESS (pageOf x)) 1) u).get (Reg.BLK_ERR.ACCESS (pageOf x)) = 1 := fun l => by
    induction l with
    | nil => exact fun _ h => h
    | cons y l ih =>
      refine fun u h => ih _ ?_
      by_cases hkey : (Reg.BLK_ERR.ACCESS (pageOf y)).key = (Reg.BLK_ERR.ACCESS (pageOf x)).key
      · have hpage : pageOf y = pageOf x := by simp only [Fld.key, Reg.BLK_ERR.ACCESS] at hkey; omega
        dsimp only
        rw [hpage]
        exact get_put_same ..
      · rwa [get_put_ne _ _ _ _ hkey]
  induction l generalizing u with
  | nil => cases hx
  | cons y l ih =>
    rcases List.mem_cons.1 hx with rfl | hin
    · exact hkeep l _ (get_put_same ..)
    · exact ih hin _

theorem completes_softResetDone (pg : Nat) (s : State) (hreset : s.chip.inReset pg = true) :
    Completes (.softResetDone pg) s (fun t => t.get (Reg.BLK_CTRL.SOFT_RESET (page0 pg)) = 0 ∧ t.get (Reg.BLK_STAT.RST_BUSY (page0 pg)) = 0 ∧
      t.inReset pg = false ∧ ∀ x ∈ s.chip.pages.late, page0 x = page0 pg → t.get (Reg.BLK_ERR.ACCESS (pageOf x)) = 1) := by
  obtain ⟨r, hr⟩ := Option.isSome_iff_exists.1 (List.find?_isSome.2 (List.any_eq_true.1 hreset))
  have hkey : r.1 = page0 pg := by simpa using List.find?_some hr
  obtain ⟨b, due⟩ := r
  subst hkey
  change ∃ t, execSoftResetDone pg s = s.become t ∧ _
  unfold execSoftResetDone
  dsimp only
  rw [hr]
  refine ⟨_, rfl, ?_⟩
  have hpages : ∀ (l : List Nat) (x : Chip), (l.foldl (fun u x => u.put (Reg.BLK_ERR.ACCESS (pageOf x)) 1) x).pages = x.pages := fun l x =>
    foldl_keeps Chip.pages (fun _ _ => put_pages ..) l x
  simp only [refreshLines_get, refreshLines_pages, put_pages, hpages, Chip.inReset]
  refine ⟨?_, get_put_same .., by simp, fun x hx hpage => ?_⟩
  · rw [get_put_ne _ _ _ _ (Fld.key_ne (show 2 < 32 by decide) (show 1 < 32 by decide) (by simp only [Reg.BLK_STAT.RST_BUSY, Reg.BLK_CTRL.SOFT_RESET]; omega))]
    exact get_put_same ..
  · have h0 := page0_mod (a := pg)
    have hx0 := pageOf_mod (a := x)
    rw [get_put_ne _ _ _ _ (Fld.key_ne (show 2 < 32 by decide) (show 1 < 32 by decide) (by simp only [Reg.BLK_STAT.RST_BUSY, Reg.BLK_ERR.ACCESS]; omega)),
      get_put_ne _ _ _ _ (Fld.key_ne (show 1 < 32 by decide) (show 1 < 32 by decide) (by simp only [Reg.BLK_CTRL.SOFT_RESET, Reg.BLK_ERR.ACCESS]; omega))]
    exact accessMarks_get (List.mem_filter.2 ⟨hx, by simpa using hpage⟩) _

/-! ### CRC_SCAN -/

theorem Chip.captureCause_first {u : Chip} {fcode : Nat} (h : u.flt.firstAt = none) (hf : fcode < 2 ^ 16) :
    (u.captureCause fcode).get Reg.FLT_FIRST.FCODE = fcode := by
  unfold Chip.captureCause
  extract_lets v _
  have hv : v.flt.firstAt = none := h
  rw [hv]
  dsimp only
  rw [get_put_ne _ _ _ _ (by decide), get_put_ne _ _ _ _ (by decide), get_put_same]
  exact Nat.mod_eq_of_lt hf

/-- The first fault of the control plane is recorded. -/
theorem Chip.logicFault_first {u : Chip} {fcode : Nat} (h : u.flt.firstAt = none) (hf : fcode < 2 ^ 16) :
    (u.logicFault fcode).get Reg.FLT_FIRST.FCODE = fcode := by
  have hreq : ∀ x : Chip, ({ x with link := { x.link with safeReq := true } } : Chip).get Reg.FLT_FIRST.FCODE = x.get Reg.FLT_FIRST.FCODE := fun _ => rfl
  have hnew : ¬ u.flt.firstAt.isSome = true := by rw [h]; decide
  rw [Chip.logicFault, if_neg hnew, Chip.confSafe]
  exact (hreq _).trans ((confStop_within.regs _ (by decide) (by decide) (by decide) (by decide)).trans (captureCause_first h hf))

theorem completes_crcScan_drift (pg : Nat) (p : PageInfo) (s : State) (hp : pageInfo pg = some p) (hctl : p.ty / 256 = 0xC0)
    (hlock : s.chip.on (Reg.BLK_LOCK.OPEN (pageOf pg)) = false) (hfirst : s.chip.flt.firstAt = none) :
    Completes (.crcScan pg false) s (fun t => t.get (Reg.BLK_ERR.CRC_DRIFT (pageOf pg)) = 1 ∧ t.get (Reg.BLK_STAT.CRC_OK (page0 pg)) = 0 ∧
      t.get Reg.FLT_FIRST.FCODE = 0x4001 + p.ty % 256 * 16) := by
  have hscan : exec (.crcScan pg false) s = s.become (s.chip.crcDrift (pageOf pg) false) := by
    change execCrcScan pg false s = _
    unfold execCrcScan
    rw [hp]
    simp only [hlock, Option.isNone_some, Bool.or_self, Bool.false_eq_true, if_false, Bool.not_false, if_true]
  refine ⟨_, hscan, ?_⟩
  have h0 := page0_mod (a := pg)
  have hpg := pageOf_mod (a := pg)
  unfold Chip.crcDrift
  extract_lets f v
  have hok : (Reg.BLK_STAT.CRC_OK (page0 pg)).key ≠ (Reg.BLK_ERR.CRC_DRIFT (pageOf pg)).key :=
    Fld.key_ne (show 4 < 32 by decide) (show 3 < 32 by decide) (by simp only [Reg.BLK_STAT.CRC_OK, Reg.BLK_ERR.CRC_DRIFT]; omega)
  have hend : ∀ data, StatusKept v (((v.refreshLines (page0 (pageOf pg))).pageEvent false (pageOf pg) 0xF1 data).pageFault (pageOf pg) 1) := fun data =>
    ((StatusKept.of_regs (refreshLines_regs ..)).trans StatusKept.raise).trans .pageFault
  refine ⟨(hend _ _ (show 3 < 32 by decide) (.inl ?_)).trans (get_put_same ..), (hend _ _ (show 4 < 32 by decide) (.inr ?_)).trans ?_, ?_⟩
  · simp only [Reg.BLK_ERR.CRC_DRIFT]; omega
  · simp only [Reg.BLK_STAT.CRC_OK]; omega
  · rw [get_put_ne _ _ _ _ hok.symm, page0_pageOf]
    exact get_put_same ..
  · have hfault : ∀ x : Chip, x.pageFault (pageOf pg) 1 = x.logicFault (0x4000 + p.ty % 256 * 16 + 1) := fun x => by
      unfold Chip.pageFault
      rw [pageInfo_pageOf, hp]
      exact if_pos hctl
    rw [hfault, logicFault_first ?_ (by omega)]
    · omega
    · have hflt : ∀ data, (((v.refreshLines (page0 (pageOf pg))).pageEvent false (pageOf pg) 0xF1 data)).flt = s.chip.flt := fun data =>
        (raise_within.same .flt (by decide)).trans (refreshLines_flt ..)
      rw [hflt, hfirst]

/-! ### BLK_ERRINJ and self-gating -/

theorem Chip.planeRefused_plane {u : Chip} {req a : Nat} {p : PageInfo} (hp : pageInfo a = some p) :
    (u.planeRefused req a).resp = .error ∧ (u.planeRefused req a).get (Reg.BLK_ERR.PLANE (pageOf a)) = 1 := by
  unfold Chip.planeRefused
  rw [hp]
  have hpg := pageOf_mod (a := a)
  refine ⟨rfl, (StatusKept.raise _ (show 2 < 32 by decide) (.inl ?_)).trans ((refreshLines_get ..).trans (get_put_same ..))⟩
  simp only [Reg.BLK_ERR.PLANE]
  omega

/-- Settles O10. -/
theorem pageServices : Obligations.PageServices := by
  unfold Obligations.PageServices
  refine ⟨completes_softReset, fun req a v s hp hw hbar hreach halign hreset => ?_, completes_softResetDone, fun pg s hp hlock => ?_,
    completes_crcScan_drift, fun req pg v s hatt hplane hreach => ?_, fun pg p s hp hpwr hgate => ?_, fun pg s hpwr => ?_⟩
  · refine ⟨_, rfl, ?_⟩
    rw [busWrite_inReset hp hw hbar hreach halign hreset]
    exact ⟨rfl, rfl, lateWrite_mem ..⟩
  · refine ⟨_, ?_, rfl⟩
    change execCrcScan pg true s = _
    unfold execCrcScan
    simp only [Option.isNone_eq_false_iff.2 hp, hlock, Bool.or_self, Bool.false_eq_true, if_false, Bool.not_true]
    rfl
  · obtain ⟨p, hp⟩ := attends_pageInfo hatt
    refine ⟨_, congrArg s.become (atPage_attends s.chip req pg 0x28 true _ (by decide) hatt hplane hreach), ?_⟩
    have hp' : pageInfo (pageOf pg + 0x28) = some p := (pageInfo_add pg 0x28 (by decide)).trans hp
    by_cases hm : s.chip.maintenance = true
    · simp only [hm, if_true]
      refine ⟨rfl, ?_, (get_put_same ..).trans (Nat.mod_eq_of_lt ?_)⟩
      · change (s.chip.errInj pg v).get _ = _
        rw [Chip.errInj, get_put_ne _ _ _ _ (by simp [Fld.key, Reg.BLK_ERRINJ.ARM, Reg.BLK_ERRINJ.SEL]), get_put_same]
        exact Nat.mod_eq_of_lt (Nat.mod_lt _ (by decide))
      · exact Nat.mod_lt _ (by decide)
    · simp only [hm, Bool.false_eq_true, if_false]
      have := planeRefused_plane (u := s.chip) (req := req) hp'
      rwa [pageOf_add pg 0x28 (by decide)] at this
  · change ∃ t, execSelfGateIdle pg s = s.become t ∧ _
    unfold execSelfGateIdle
    rw [hp]
    simp only [hpwr, bne_self_eq_false, Bool.or_false, Bool.or_eq_true, Bool.and_eq_true, bne_iff_ne]
    generalize hg : s.chip.get (Reg.BLK_PWR.GATE p.base0) = g at hgate ⊢
    by_cases hstay : s.chip.controlPage p = true ∨ g ≠ 1 ∧ g ≠ 2
    · rw [if_pos hstay]
      refine ⟨_, rfl, hpwr.trans ?_⟩
      rcases hstay with hctl | hother
      · rw [if_pos (.inl hctl)]
      · split <;> omega
    · rw [if_neg hstay, if_neg (fun h => hstay (h.imp id fun h => by omega))]
      exact ⟨_, rfl, (get_put_same ..).trans (Nat.mod_eq_of_lt hgate)⟩
  · refine ⟨_, rfl, ?_⟩
    split
    · exact get_put_same ..
    · omega

end Sys2Proof.Machine
end

section
/-!
PROOFS. Loss of a channel (03 R89, R95): of the operations that follow one only the loss of a further channel touches a channel, and a channel that
does not run any more stays as it is (`Chip.ChKept`).
-/
namespace Sys2Proof.Machine
open Chip

/-! ### What follows a loss -/

/-- A relation that the operations of Confluence after a loss keep: those outside the channels, and the loss of a further channel. -/
structure Chip.Spreads (R : Chip → Chip → Prop) : Prop where
  refl : ∀ u, R u u
  trans : ∀ {u t v}, R u t → R t v → R u v
  conf : ∀ {u t}, Within ⟨frConf ++ [.weir], some blConf⟩ u t → R u t
  lose : ∀ u c k, R u (u.chLose c k)

namespace Chip.Spreads
variable {R : Chip → Chip → Prop} (h : Chip.Spreads R)
include h

omit h in
theorem ite {c : Prop} [Decidable c] {u x y : Chip} (hx : R u x) (hy : R u y) : R u (if c then x else y) := by
  split
  · exact hx
  · exact hy

theorem foldl {α : Type} {g : Chip → α → Chip} (hg : ∀ t x, R t (g t x)) (l : List α) (u : Chip) : R u (l.foldl g u) := by
  induction l generalizing u with
  | nil => exact h.refl u
  | cons x l ih => exact h.trans (hg u x) (ih _)

theorem depart (u : Chip) (c cause t0 : Nat) : R u (u.depart c cause t0) := h.conf (depart_within.le (by decide))

theorem voteOut (u : Chip) (c cause t0 : Nat) : R u (u.voteOut c cause t0) := h.trans (h.depart u c cause t0) (h.lose ..)

theorem hold (u : Chip) (r : Result) (close minority : Nat) : R u (u.hold r close minority) := h.conf (hold_within.le (by decide))

theorem voteDone (u : Chip) (l : List (Nat × Result)) (minority outcome : Nat) : R u (u.voteDone l minority outcome) :=
  h.conf (voteDone_within.le (by decide))

theorem confSafe (u : Chip) (fcode : Nat) : R u (u.confSafe fcode) := h.conf (confSafe_within.le (by decide))

theorem cfEvent (u : Chip) (src b : Nat) (data : List Nat) : R u (u.irqAfter cfPage src b data) := h.conf ((irqAfter_within (.self (by rfl))).le (by decide))

theorem voteStart (u : Chip) (l : List (Nat × Result)) : R u ((u.modConf (fun v => { v with window := none })).portParity l) :=
  h.conf (((modConf_within (fun _ => by rfl)).trans portParity_within).le (by decide))

theorem vote (u : Chip) (expired : Bool) : R u (u.vote expired) := by
  unfold Chip.vote
  extract_lets +onlyGivenNames close l u1 u2 seq u3
  have h3 : R u u3 := by
    refine h.trans (h.voteStart u l) (ite ?_ (h.refl _))
    exact h.trans (h.conf ((satInc_within (Fld.inBlocks_self (by rfl))).le (by decide))) (h.cfEvent ..)
  clear_value u3 seq u2 u1 l
  refine h.trans h3 ?_
  dsimp only
  split
  · refine ite (h.trans (h.voteDone ..) (h.hold ..)) (ite ?_ ?_)
    · exact h.trans (h.trans (h.trans (h.cfEvent ..) (h.voteDone ..)) (h.foldl (fun t x => h.voteOut t x 7 close) _ _)) (h.hold ..)
    · exact h.trans (h.trans (h.cfEvent ..) (h.voteDone ..)) (h.confSafe ..)
  · refine ite (ite ?_ ?_) (ite (h.trans (h.voteDone ..) (h.hold ..)) ?_)
    · exact h.trans (h.trans (h.voteDone ..) (h.voteOut ..)) (h.hold ..)
    · exact h.trans (h.trans (h.cfEvent ..) (h.voteDone ..)) (h.confSafe ..)
    · exact h.trans (h.trans (h.cfEvent ..) (h.voteDone ..)) (h.confSafe ..)
  · exact h.trans (h.voteDone ..) (h.confSafe ..)

theorem windows (n : Nat) (u : Chip) : R u (Chip.windows n u) := by
  induction n generalizing u with
  | zero => exact h.refl u
  | succ n ih =>
    unfold Chip.windows
    extract_lets v
    have hopen : R u v := h.conf ((Within.ite .unchanged (modConf_within (fun _ => by rfl))).le (by decide))
    exact ite (h.refl u) (ite (h.trans (h.trans hopen (h.vote v false)) (ih _)) hopen)

theorem expire (u : Chip) : R u u.expire := h.trans (h.vote ..) (h.windows ..)

theorem modPort (u : Chip) (c : Nat) (g : CfPort → CfPort) : R u (u.modPort c g) := h.conf (modPort_within.le (by decide))

theorem cfDeliver (u : Chip) (c v : Nat) (bad : Option Nat) : R u (u.cfDeliver c v bad).2 := by
  unfold Chip.cfDeliver
  extract_lets w p _ r x
  have hdue : R u w := ite (h.expire u) (h.refl u)
  have hovf : ∀ (y : Chip) (n : Nat), R y (y.put (Reg.CF_PSTAT.OVF c) n) := fun y n => h.conf ((put_within (Reg.CF_PSTAT.OVF_in)).le (by decide))
  have hx : R w x := h.trans (hovf w 0) (h.modPort ..)
  split
  · dsimp only
    exact h.trans hdue (h.modPort ..)
  · split
    · dsimp only
      exact h.trans (h.trans hdue (hovf w 1)) (h.modPort ..)
    · split
      · exact hdue
      · dsimp only
        exact h.trans (h.trans hdue hx) (h.windows ..)

theorem cfStore (u : Chip) (c : Nat) (s : PortStore) : R u (u.cfStore c s) := by
  unfold Chip.cfStore
  refine ite (h.modPort ..) ?_
  split
  · exact h.conf (cfImg_within.le (by decide))
  · exact h.conf (cfMsg_within.le (by decide))
  · exact ite (h.cfDeliver ..) (h.trans (h.cfDeliver ..) (h.modPort ..))

theorem cfResume (n : Nat) (u : Chip) : R u (Chip.cfResume n u) := by
  induction n generalizing u with
  | zero => exact h.refl u
  | succ n ih =>
    unfold Chip.cfResume
    split
    · exact h.refl u
    · rename_i c _
      exact h.trans (h.trans (h.modPort ..) (h.foldl (fun t x => h.cfStore t c x) _ _)) (ih _)

/-- A loss and all that follows from it. -/
theorem lossSignal (u : Chip) (c cause : Nat) : R u (u.lossSignal c cause) := h.trans (h.trans (h.depart ..) (h.windows ..)) (h.cfResume ..)

theorem chLost (u : Chip) (c k : Nat) : R u (u.chLost c k) := h.trans (h.lose ..) (h.lossSignal ..)

end Chip.Spreads

/-! ### A channel that does not run -/

/-- A register of channel `c` apart from IRQ_RAW and BLK_STAT. -/
def Fld.OfChan (c : Nat) (f : Fld) : Prop := f.lo < 32 ∧ f.addr / 0x4000 = 0x10080 + c ∧ f.addr % 0x1000 ≠ 0x10 ∧ f.addr % 0x1000 ≠ 0xC

/-- Whether a channel is in SELFTEST, SYNC or ACTIVE. -/
def Chip.chRuns (u : Chip) (c : Nat) : Prop := u.chState c = 1 ∨ u.chState c = 2 ∨ u.chState c = 3

/-- If channel `c` does not run in `u`, its registers and its cores are in `t` as in `u`. -/
def Chip.ChKept (c : Nat) (u t : Chip) : Prop := ¬ u.chRuns c → t.chan c = u.chan c ∧ ∀ f : Fld, f.OfChan c → t.get f = u.get f

theorem Reg.CH_STATE.STATE_ofChan {c : Nat} (hc : c < 3) : (Reg.CH_STATE.STATE c).OfChan c := by
  have := (show ∀ c < 3, (Reg.CH_STATE.STATE c).addr = 0x40200040 + c * 0x4000 by decide) c hc
  refine ⟨show 0 < 32 by decide, ?_, ?_, ?_⟩ <;> omega

theorem Chip.ChKept.of_same {c : Nat} {u t : Chip} (hchan : t.chan c = u.chan c) (h : ∀ f : Fld, f.OfChan c → t.get f = u.get f) : ChKept c u t :=
  fun _ => ⟨hchan, h⟩

theorem Chip.ChKept.trans {c : Nat} {u t v : Chip} (hc : c < 3) (h : ChKept c u t) (k : ChKept c t v) : ChKept c u v := fun hu => by
  obtain ⟨hchan, hreg⟩ := h hu
  have hstate : t.chState c = u.chState c := hreg _ (Reg.CH_STATE.STATE_ofChan hc)
  obtain ⟨hchan', hreg'⟩ := k (by unfold Chip.chRuns at hu ⊢; rwa [hstate])
  exact ⟨hchan'.trans hchan, fun f hf => (hreg' f hf).trans (hreg f hf)⟩

/-- An operation outside the channels. -/
theorem Chip.ChKept.of_within {S : Scope} {c : Nat} {u t : Chip} (hc : c < 3) (h : Within S u t)
    (hscope : (!S.parts.contains .chans && !S.covers 0x402) = true) : ChKept c u t := by
  simp only [Bool.and_eq_true, Bool.not_eq_true', List.contains_eq_mem, decide_eq_false_iff_not] at hscope
  refine .of_same (congrArg (fun p => Per3.get p c) (h.same .chans hscope.1)) fun f hf => ?_
  obtain ⟨hlo, haddr, -, hstat⟩ := hf
  exact h.regs f hlo (by omega) hstat (by rw [show f.addr / 0x100000 = 0x402 by omega]; exact hscope.2)

theorem Per3.get_set_ne {α : Type} {p : Per3 α} {j c : Nat} {v : α} (hc : c < 3) (hj : j ≠ c) : (p.set j v).get c = p.get c := by
  unfold Per3.set Per3.get
  split_ifs <;> first | rfl | omega

theorem Chip.chan_modChan_ne {u : Chip} {j c : Nat} (g : Channel → Channel) (hc : c < 3) (hj : j ≠ c) : (u.modChan j g).chan c = u.chan c :=
  Per3.get_set_ne hc hj

/-- A register of another channel. -/
theorem Chip.ChKept.put_other {u : Chip} {c j v : Nat} {f : Fld} (base : Nat) (hf : f.addr = slot j 3 base 0x4000) (hlo : f.lo < 32)
    (hb : base / 0x4000 = 0x10080) (hj : j ≠ c) : ChKept c u (u.put f v) := by
  refine .of_same rfl fun g hg => get_put_ne _ _ _ _ (Fld.key_ne hlo hg.1 ?_)
  have haddr := hg.2.1
  rw [hf]
  by_cases hlt : j < 3
  · rw [slot_of_lt _ _ hlt]; omega
  · rw [slot_of_ge _ _ (by omega)]; omega

theorem Chip.ChKept.modChan_other {u : Chip} {c j : Nat} (g : Channel → Channel) (hc : c < 3) (hj : j ≠ c) : ChKept c u (u.modChan j g) :=
  .of_same (chan_modChan_ne g hc hj) fun _ _ => rfl

theorem Chip.ChKept.irqAfter_other {u : Chip} {c j src b : Nat} {data : List Nat} (hc : c < 3) : ChKept c u (u.irqAfter (chPage j) src b data) := by
  have hirq : ChKept c u (u.irq (chPage j) b) := by
    refine .of_same (congrArg (fun p => Per3.get p c) (irq_chans ..)) fun f hf => get_irq _ _ _ _ hf.1 ?_
    have hpg := (chPage_in (c := j)).1
    have hraw := hf.2.2.1
    simp only [Reg.IRQ.RAW]
    omega
  exact hirq.trans hc (.of_within hc raiseAfter_within (by rfl))

theorem Chip.ChKept.ite {p : Prop} [Decidable p] {c : Nat} {u x y : Chip} (hx : ChKept c u x) (hy : ChKept c u y) : ChKept c u (if p then x else y) := by
  split
  · exact hx
  · exact hy

section
variable {c j : Nat} (hc : c < 3) (hj : j ≠ c)
include hc hj

theorem Chip.ChKept.chEnter_other (u : Chip) (new : Nat) : ChKept c u (u.chEnter j new) := by
  unfold Chip.chEnter
  extract_lets _ v w
  have hv : ChKept c u v := .put_other 0x40200040 rfl (show 0 < 32 by decide) rfl hj
  have hw : ChKept c v w := .of_within hc (put_within (Fld.inBlocks_self (by rfl))) (by rfl)
  exact .ite (.of_same rfl fun _ _ => rfl) ((hv.trans hc hw).trans hc (.irqAfter_other hc))

theorem Chip.ChKept.twinsReset_other (u : Chip) : ChKept c u (u.twinsReset j) :=
  ((Chip.ChKept.modChan_other _ hc hj).trans hc (.put_other 0x40200040 rfl (show 3 < 32 by decide) rfl hj)).trans hc
    (.put_other 0x40200040 rfl (show 4 < 32 by decide) rfl hj)

/-- The loss of another channel. -/
theorem Chip.ChKept.chLose_other (u : Chip) (k : Nat) : ChKept c u (u.chLose j k) := by
  unfold Chip.chLose
  extract_lets +onlyGivenNames st u1 cyc u2 u3 u4 u5 reached failed barred u6
  have h1 : ChKept c u u1 := (Chip.ChKept.modChan_other _ hc hj).trans hc (.put_other 0x4020006C rfl (show 0 < 32 by decide) rfl hj)
  have h2 : ChKept c u1 u2 :=
    (Chip.ChKept.put_other 0x40200068 rfl (show 0 < 32 by decide) rfl hj).trans hc (.put_other 0x40200068 rfl (show 8 < 32 by decide) rfl hj)
  have h3 : ChKept c u2 u3 := (Chip.ChKept.twinsReset_other hc hj u2).trans hc (.of_within hc resyncLost_within (by rfl))
  have h4 : ChKept c u3 u4 := .modChan_other _ hc hj
  have h5 : ChKept c u4 u5 := .irqAfter_other hc
  have hbarred : ∀ x, ChKept c x (barred x) := fun x => (Chip.ChKept.irqAfter_other hc).trans hc (.chEnter_other hc hj _ _)
  have h6 : ChKept c u5 u6 := .chEnter_other hc hj _ _
  have h7 : ChKept c u5 (if failed then barred u5 else if reached then barred u6 else u6) := .ite (hbarred u5) (.ite (h6.trans hc (hbarred u6)) h6)
  have h8 : ChKept c u u5 := (((h1.trans hc h2).trans hc h3).trans hc h4).trans hc h5
  exact .ite ((h8.trans hc h7).trans hc (.of_within hc channelLostFault_within (by rfl))) (.of_same rfl fun _ _ => rfl)

end

theorem Chip.chLose_of_not_runs {u : Chip} {c : Nat} (k : Nat) (h : ¬ u.chRuns c) : u.chLose c k = u := if_neg h

/-- A channel that does not run is kept by every loss and what follows. -/
theorem Chip.chKept_spreads {c : Nat} (hc : c < 3) : Spreads (ChKept c) where
  refl _ := .of_same rfl fun _ _ => rfl
  trans h k := h.trans hc k
  conf h := .of_within hc h (by rfl)
  lose u j k := by
    by_cases hj : j = c
    · subst hj
      intro hu
      rw [chLose_of_not_runs k hu]
      exact ⟨rfl, fun _ _ => rfl⟩
    · exact .chLose_other hc hj u k

/-! ### The loss itself -/

/-- Of channel `c`'s registers only those with a key in `l` change. -/
def Chip.ChRegs (c : Nat) (l : List Nat) (u t : Chip) : Prop := ∀ f : Fld, f.OfChan c → f.key ∉ l → t.get f = u.get f

theorem Chip.ChRegs.trans {c : Nat} {l : List Nat} {u t v : Chip} (h : ChRegs c l u t) (k : ChRegs c l t v) : ChRegs c l u v :=
  fun f hf hl => (k f hf hl).trans (h f hf hl)

theorem Chip.ChRegs.ite {p : Prop} [Decidable p] {c : Nat} {l : List Nat} {u x y : Chip} (hx : ChRegs c l u x) (hy : ChRegs c l u y) :
    ChRegs c l u (if p then x else y) := by
  split
  · exact hx
  · exact hy

theorem Chip.ChRegs.put {c : Nat} {l : List Nat} {u : Chip} {f : Fld} {v : Nat} (h : f.key ∈ l) : ChRegs c l u (u.put f v) :=
  fun _ _ hg => get_put_ne _ _ _ _ fun hkey => hg (hkey ▸ h)

theorem Chip.ChRegs.of_regs {c : Nat} {l : List Nat} {u t : Chip} (h : t.regs = u.regs) : ChRegs c l u t := fun f _ _ => congrArg f.read h

theorem Chip.ChRegs.of_within {S : Scope} {c : Nat} {l : List Nat} {u t : Chip} (hc : c < 3) (h : Within S u t) (hscope : (!S.covers 0x402) = true) :
    ChRegs c l u t := fun f hf _ => by
  obtain ⟨hlo, haddr, -, hstat⟩ := hf
  exact h.regs f hlo (by omega) hstat (by rw [show f.addr / 0x100000 = 0x402 by omega]; simpa using hscope)

theorem Chip.ChRegs.irqAfter {c j src b : Nat} {l data : List Nat} {u : Chip} (hc : c < 3) : ChRegs c l u (u.irqAfter (chPage j) src b data) := by
  refine .trans (fun f hf _ => get_irq _ _ _ _ hf.1 ?_) (.of_within hc raiseAfter_within (by rfl))
  have hpg := (chPage_in (c := j)).1
  have hraw := hf.2.2.1
  simp only [Reg.IRQ.RAW]
  omega

theorem Chip.ChRegs.chEnter {c j new : Nat} {l : List Nat} {u : Chip} (hc : c < 3) (h : (Reg.CH_STATE.STATE j).key ∈ l) :
    ChRegs c l u (u.chEnter j new) := by
  unfold Chip.chEnter
  extract_lets _ v w
  have hv : ChRegs c l u v := .put h
  have hw : ChRegs c l v w := .of_within hc (put_within (Fld.inBlocks_self (by rfl))) (by rfl)
  exact .ite (.of_regs rfl) ((hv.trans hw).trans (.irqAfter hc))

theorem Chip.chEnter_chState {u : Chip} {c new : Nat} (hc : c < 3) (hnew : new < 8) : (u.chEnter c new).chState c = new := by
  unfold Chip.chEnter
  extract_lets _ v w
  have hw : w.chState c = new := by
    refine (get_put_ne _ _ _ _ ?_).trans ((get_put_same ..).trans (Nat.mod_eq_of_lt hnew))
    exact (show ∀ c < 3, Reg.CF_MODE.SYNC_CH.key ≠ (Reg.CH_STATE.STATE c).key by decide) c hc
  split
  · assumption
  · exact (ChRegs.irqAfter (l := []) hc _ (Reg.CH_STATE.STATE_ofChan hc) List.not_mem_nil).trans hw

/-- What a loss writes of the channel's registers. -/
def lossKeys (c : Nat) : List Nat :=
  [(Reg.CH_STATE.STATE c).key, (Reg.CH_LOSS.CAUSE c).key, (Reg.CH_LOSS.CYCLE c).key, (Reg.CH_REINT.LOSSES c).key, (Reg.CH_STATE.RB_LT c).key,
   (Reg.CH_STATE.RB_LK c).key]

theorem Fld.ofChan_slot {f : Fld} {c : Nat} (base : Nat) (hc : c < 3) (hf : f.addr = slot c 3 base 0x4000) (hlo : f.lo < 32)
    (hb : base / 0x4000 = 0x10080 ∧ base % 0x1000 ≠ 0x10 ∧ base % 0x1000 ≠ 0xC) : f.OfChan c := by
  rw [slot_of_lt _ _ hc] at hf
  refine ⟨hlo, ?_, ?_, ?_⟩ <;> omega

theorem Per3.get_set_same {α : Type} {p : Per3 α} {c : Nat} {v : α} (hc : c < 3) : (p.set c v).get c = v := by
  unfold Per3.set Per3.get
  split_ifs <;> first | rfl | omega

theorem Chip.chan_modChan_same {u : Chip} {c : Nat} (g : Channel → Channel) (hc : c < 3) : (u.modChan c g).chan c = g (u.chan c) := Per3.get_set_same hc

/-- Channel `c` of `u` is lost with cause `k` in `t`: its cores are in reset, and CH_LOSS shows the cause and the cycle (R89, R95). -/
structure Chip.Lost (c k : Nat) (u t : Chip) : Prop where
  cause : t.get (Reg.CH_LOSS.CAUSE c) = k % 16
  cycle : t.get (Reg.CH_LOSS.CYCLE c) = u.get Reg.MIR_CYCLE.COUNT % 2 ^ 24
  logic : (t.chan c).logic = {}
  link : (t.chan c).link = {}
  state : t.chState c = if (u.chState c = 1 ∧ (u.chan c).afterReset = true) ∨
    (k ≠ 9 ∧ k ≠ 10 ∧ u.get (Reg.CH_CFG.REINT_MAX c) ≤ t.get (Reg.CH_REINT.LOSSES c)) then 5 else 4
  regs : ChRegs c (lossKeys c) u t

/-- A channel that was lost stays so. -/
theorem Chip.Lost.kept {c k : Nat} {u t v : Chip} (hc : c < 3) (h : Lost c k u t) (hkept : ChKept c t v) : Lost c k u v := by
  have hstands : ¬ t.chRuns c := by
    have := h.state
    unfold Chip.chRuns
    split at this <;> omega
  obtain ⟨hchan, hreg⟩ := hkept hstands
  have hcause := hreg (Reg.CH_LOSS.CAUSE c) (Fld.ofChan_slot 0x40200068 hc rfl (show 0 < 32 by decide) (by decide))
  have hcycle := hreg (Reg.CH_LOSS.CYCLE c) (Fld.ofChan_slot 0x40200068 hc rfl (show 8 < 32 by decide) (by decide))
  have hlosses := hreg (Reg.CH_REINT.LOSSES c) (Fld.ofChan_slot 0x4020006C hc rfl (show 0 < 32 by decide) (by decide))
  have hstate : v.chState c = t.chState c := hreg _ (Reg.CH_STATE.STATE_ofChan hc)
  exact ⟨hcause.trans h.cause, hcycle.trans h.cycle, hchan ▸ h.logic, hchan ▸ h.link, by rw [hstate, hlosses]; exact h.state,
    fun f hf hl => (hreg f hf).trans (h.regs f hf hl)⟩

/-- The first part of a loss, up to its event. -/
def Chip.lossEntry (u : Chip) (c k : Nat) : Chip :=
  let u := u.countLoss c k
  let cyc := u.get Reg.MIR_CYCLE.COUNT % 2 ^ 24
  let u := (((u.put (Reg.CH_LOSS.CAUSE c) k).put (Reg.CH_LOSS.CYCLE c) cyc).twinsReset c).resyncLost c
  (u.modChan c (fun h => { h with lostAt := some u.now, passed := false })).irqAfter (chPage c) (chSrc c) 2 [k, cyc]

/-- The channel is barred, with its event. -/
def Chip.bar (u : Chip) (c : Nat) : Chip :=
  (u.irqAfter (chPage c) (chSrc c) 7 [u.get (Reg.CH_REINT.LOSSES c), u.get (Reg.CH_CFG.REINT_MAX c)]).chEnter c 5

/-- The second part of a loss: LOST, or BARRED after a failed SELFTEST of an automatic reset or too many losses. -/
def Chip.lossEnd (u : Chip) (c : Nat) (failed reached : Prop) [Decidable failed] [Decidable reached] : Chip :=
  if failed then u.bar c else if reached then (u.chEnter c 4).bar c else u.chEnter c 4

theorem Chip.chLose_of_runs {u : Chip} {c : Nat} (k : Nat) (h : u.chRuns c) :
    u.chLose c k = ((u.lossEntry c k).lossEnd c (u.chState c = 1 ∧ ((u.lossEntry c k).chan c).afterReset = true)
      (k ≠ 9 ∧ k ≠ 10 ∧ (u.lossEntry c k).get (Reg.CH_CFG.REINT_MAX c) ≤ (u.lossEntry c k).get (Reg.CH_REINT.LOSSES c))).channelLostFault c k :=
  if_pos h

theorem Chip.bar_regs {u : Chip} {c : Nat} (hc : c < 3) : ChRegs c [(Reg.CH_STATE.STATE c).key] u (u.bar c) :=
  .trans (.irqAfter hc) (.chEnter hc (List.mem_singleton.2 rfl))

theorem Chip.chEnter_chans (u : Chip) (c new : Nat) : (u.chEnter c new).chans = u.chans := chEnter_within.same .chans (by decide)

theorem Chip.bar_chans (u : Chip) (c : Nat) : (u.bar c).chans = u.chans :=
  (chEnter_chans ..).trans ((irqAfter_within chPage_in).same .chans (by decide))

theorem Chip.lossEnd_regs {u : Chip} {c : Nat} {failed reached : Prop} [Decidable failed] [Decidable reached] (hc : c < 3) :
    ChRegs c [(Reg.CH_STATE.STATE c).key] u (u.lossEnd c failed reached) := by
  have henter : ChRegs c [(Reg.CH_STATE.STATE c).key] u (u.chEnter c 4) := .chEnter hc (List.mem_singleton.2 rfl)
  exact .ite (bar_regs hc) (.ite (henter.trans (bar_regs hc)) henter)

theorem Chip.lossEnd_chans {u : Chip} {c : Nat} {failed reached : Prop} [Decidable failed] [Decidable reached] :
    (u.lossEnd c failed reached).chans = u.chans := by
  unfold Chip.lossEnd
  split_ifs
  · exact bar_chans ..
  · exact (bar_chans ..).trans (chEnter_chans ..)
  · exact chEnter_chans ..

theorem Chip.lossEnd_chState {u : Chip} {c : Nat} {failed reached : Prop} [Decidable failed] [Decidable reached] (hc : c < 3) :
    (u.lossEnd c failed reached).chState c = if failed ∨ reached then 5 else 4 := by
  unfold Chip.lossEnd
  by_cases hf : failed
  · rw [if_pos hf, if_pos (.inl hf)]
    exact chEnter_chState hc (by decide)
  · by_cases hr : reached
    · rw [if_neg hf, if_pos hr, if_pos (.inr hr)]
      exact chEnter_chState hc (by decide)
    · rw [if_neg hf, if_neg hr, if_neg (not_or.2 ⟨hf, hr⟩)]
      exact chEnter_chState hc (by decide)

theorem Chip.lossEntry_regs {u : Chip} {c : Nat} (k : Nat) (hc : c < 3) :
    ChRegs c [(Reg.CH_LOSS.CAUSE c).key, (Reg.CH_LOSS.CYCLE c).key, (Reg.CH_REINT.LOSSES c).key, (Reg.CH_STATE.RB_LT c).key,
      (Reg.CH_STATE.RB_LK c).key] u (u.lossEntry c k) := by
  unfold Chip.lossEntry
  extract_lets u1 cyc u2
  have h1 : ChRegs c [(Reg.CH_LOSS.CAUSE c).key, (Reg.CH_LOSS.CYCLE c).key, (Reg.CH_REINT.LOSSES c).key, (Reg.CH_STATE.RB_LT c).key,
      (Reg.CH_STATE.RB_LK c).key] u u1 := .put (u := u.modChan c _) (by simp)
  have h2 : ChRegs c [(Reg.CH_LOSS.CAUSE c).key, (Reg.CH_LOSS.CYCLE c).key, (Reg.CH_REINT.LOSSES c).key, (Reg.CH_STATE.RB_LT c).key,
      (Reg.CH_STATE.RB_LK c).key] u1 u2 :=
    .trans (.trans (.trans (.put (by simp)) (.put (by simp))) (.trans (.put (u := Chip.modChan _ c _) (by simp)) (.put (by simp))))
      (.of_within hc resyncLost_within (by rfl))
  exact (h1.trans h2).trans (.trans (.of_regs rfl) (.irqAfter hc))

/-- What the registers and the cores of the channel are after the first part of a loss. -/
theorem Chip.lossEntry_shows {u : Chip} {c : Nat} (k : Nat) (hc : c < 3) :
    (u.lossEntry c k).get (Reg.CH_LOSS.CAUSE c) = k % 16 ∧ (u.lossEntry c k).get (Reg.CH_LOSS.CYCLE c) = u.get Reg.MIR_CYCLE.COUNT % 2 ^ 24 ∧
      ((u.lossEntry c k).chan c).logic = {} ∧ ((u.lossEntry c k).chan c).link = {} ∧
      ((u.lossEntry c k).chan c).afterReset = (u.chan c).afterReset := by
  have hend : ∀ (v : Chip) (g : Channel → Channel) (data : List Nat), ((v.modChan c g).irqAfter (chPage c) (chSrc c) 2 data).chan c = g (v.chan c) ∧
      ChRegs c [] v ((v.modChan c g).irqAfter (chPage c) (chSrc c) 2 data) := fun v g data =>
    ⟨(congrArg (fun p => Per3.get p c) ((irqAfter_within chPage_in).same .chans (by decide))).trans (chan_modChan_same g hc),
      .trans (.of_regs rfl) (.irqAfter hc)⟩
  have hreset : ∀ v : Chip, ((v.twinsReset c).resyncLost c).chan c = { v.chan c with logic := {}, link := {} } ∧
      ChRegs c [(Reg.CH_STATE.RB_LT c).key, (Reg.CH_STATE.RB_LK c).key] v ((v.twinsReset c).resyncLost c) := fun v =>
    ⟨(congrArg (fun p => Per3.get p c) (resyncLost_within.same .chans (by decide))).trans (chan_modChan_same (u := v) (fun h => { h with logic := {}, link := {} }) hc),
      .trans (.trans (.put (u := v.modChan c _) (by simp)) (.put (by simp))) (.of_within hc resyncLost_within (by rfl))⟩
  have hCAUSE : (Reg.CH_LOSS.CAUSE c).OfChan c := Fld.ofChan_slot 0x40200068 hc rfl (show 0 < 32 by decide) (by decide)
  have hCYCLE : (Reg.CH_LOSS.CYCLE c).OfChan c := Fld.ofChan_slot 0x40200068 hc rfl (show 8 < 32 by decide) (by decide)
  have hkeys := (show ∀ c < 3, (Reg.CH_LOSS.CYCLE c).key ≠ (Reg.CH_LOSS.CAUSE c).key ∧
    (Reg.CH_LOSS.CAUSE c).key ∉ [(Reg.CH_STATE.RB_LT c).key, (Reg.CH_STATE.RB_LK c).key] ∧
    (Reg.CH_LOSS.CYCLE c).key ∉ [(Reg.CH_STATE.RB_LT c).key, (Reg.CH_STATE.RB_LK c).key] by decide) c hc
  obtain ⟨hne, hcauseNot, hcycleNot⟩ := hkeys
  have hcount : (u.countLoss c k).get Reg.MIR_CYCLE.COUNT = u.get Reg.MIR_CYCLE.COUNT :=
    countLoss_within.regs _ (by decide) (by decide) (by decide) (by decide)
  have hafter : ((u.countLoss c k).chan c).afterReset = (u.chan c).afterReset := by
    unfold Chip.countLoss
    extract_lets l m
    have hreset := congrArg Channel.afterReset (chan_modChan_same (u := u) (fun h => { h with losses := m }) hc)
    exact hreset
  unfold Chip.lossEntry
  extract_lets u1 cyc u2
  obtain ⟨hchan2, hreg2⟩ := hreset ((u1.put (Reg.CH_LOSS.CAUSE c) k).put (Reg.CH_LOSS.CYCLE c) cyc)
  obtain ⟨hchan3, hreg3⟩ := hend u2 (fun h => { h with lostAt := some u2.now, passed := false }) [k, cyc]
  refine ⟨?_, ?_, by rw [hchan3, hchan2], by rw [hchan3, hchan2], ?_⟩
  · rw [hreg3 _ hCAUSE List.not_mem_nil, hreg2 _ hCAUSE hcauseNot, get_put_ne _ _ _ _ hne]
    exact get_put_same ..
  · rw [hreg3 _ hCYCLE List.not_mem_nil, hreg2 _ hCYCLE hcycleNot]
    exact (get_put_same ..).trans ((Nat.mod_mod _ _).trans (congrArg (· % 2 ^ 24) hcount))
  · rw [hchan3, hchan2]
    exact hafter

theorem Chip.chLose_lost {u : Chip} {c k : Nat} (hc : c < 3) (hu : u.chRuns c) : Lost c k u (u.chLose c k) := by
  rw [chLose_of_runs k hu]
  obtain ⟨hcause, hcycle, hlogic, hlink, hafter⟩ := u.lossEntry_shows k hc
  have hentry := u.lossEntry_regs k hc
  generalize u.lossEntry c k = v at hcause hcycle hlogic hlink hafter hentry ⊢
  rw [hafter]
  have hstate := lossEnd_chState (u := v) (failed := u.chState c = 1 ∧ (u.chan c).afterReset = true)
    (reached := k ≠ 9 ∧ k ≠ 10 ∧ v.get (Reg.CH_CFG.REINT_MAX c) ≤ v.get (Reg.CH_REINT.LOSSES c)) hc
  have hend := lossEnd_regs (u := v) (failed := u.chState c = 1 ∧ (u.chan c).afterReset = true)
    (reached := k ≠ 9 ∧ k ≠ 10 ∧ v.get (Reg.CH_CFG.REINT_MAX c) ≤ v.get (Reg.CH_REINT.LOSSES c)) hc
  have hchan := congrArg (fun p => Per3.get p c) (lossEnd_chans (u := v) (c := c) (failed := u.chState c = 1 ∧ (u.chan c).afterReset = true)
    (reached := k ≠ 9 ∧ k ≠ 10 ∧ v.get (Reg.CH_CFG.REINT_MAX c) ≤ v.get (Reg.CH_REINT.LOSSES c)))
  generalize v.lossEnd c (u.chState c = 1 ∧ (u.chan c).afterReset = true)
    (k ≠ 9 ∧ k ≠ 10 ∧ v.get (Reg.CH_CFG.REINT_MAX c) ≤ v.get (Reg.CH_REINT.LOSSES c)) = w at hstate hend hchan ⊢
  have hfault : ChRegs c [] w (w.channelLostFault c k) := .of_within hc channelLostFault_within (by rfl)
  have hchan' : (w.channelLostFault c k).chan c = v.chan c :=
    (congrArg (fun p => Per3.get p c) (channelLostFault_within.same .chans (by decide))).trans hchan
  have hreg : ∀ f : Fld, f.OfChan c → f.key ≠ (Reg.CH_STATE.STATE c).key → (w.channelLostFault c k).get f = v.get f := fun f hf hne =>
    (hfault f hf List.not_mem_nil).trans (hend f hf (by simpa using hne))
  have hkeys := (show ∀ c < 3, (Reg.CH_LOSS.CAUSE c).key ≠ (Reg.CH_STATE.STATE c).key ∧ (Reg.CH_LOSS.CYCLE c).key ≠ (Reg.CH_STATE.STATE c).key ∧
    (Reg.CH_REINT.LOSSES c).key ≠ (Reg.CH_STATE.STATE c).key ∧ (Reg.CH_CFG.REINT_MAX c).key ∉ [(Reg.CH_LOSS.CAUSE c).key, (Reg.CH_LOSS.CYCLE c).key,
      (Reg.CH_REINT.LOSSES c).key, (Reg.CH_STATE.RB_LT c).key, (Reg.CH_STATE.RB_LK c).key] by decide) c hc
  obtain ⟨hcauseNe, hcycleNe, hlossesNe, hmaxNot⟩ := hkeys
  refine ⟨(hreg _ (Fld.ofChan_slot 0x40200068 hc rfl (show 0 < 32 by decide) (by decide)) hcauseNe).trans hcause,
    (hreg _ (Fld.ofChan_slot 0x40200068 hc rfl (show 8 < 32 by decide) (by decide)) hcycleNe).trans hcycle, by rw [hchan', hlogic], by rw [hchan', hlink],
    ?_, fun f hf hl => ?_⟩
  · rw [hreg _ (Fld.ofChan_slot 0x4020006C hc rfl (show 0 < 32 by decide) (by decide)) hlossesNe,
      ← hentry _ (Fld.ofChan_slot 0x40200044 hc rfl (show 28 < 32 by decide) (by decide)) hmaxNot]
    exact (hfault _ (Reg.CH_STATE.STATE_ofChan hc) List.not_mem_nil).trans hstate
  · simp only [lossKeys, List.mem_cons, List.not_mem_nil, or_false, not_or] at hl
    obtain ⟨hs, hca, hcy, hlo, hlt, hlk⟩ := hl
    exact (hreg f hf hs).trans (hentry f hf (by simp [hca, hcy, hlo, hlt, hlk]))

/-- A running channel that is lost with all that follows (R89, R95). -/
theorem Chip.chLost_lost {u : Chip} {c k : Nat} (hc : c < 3) (hu : u.chRuns c) : Lost c k u (u.chLost c k) :=
  (chLose_lost hc hu).kept hc ((chKept_spreads hc).lossSignal _ _ _)

/-- A lost channel is in LOST or BARRED. -/
theorem Chip.Lost.stands {c k : Nat} {u t : Chip} (h : Lost c k u t) : t.chState c = 4 ∨ t.chState c = 5 := by
  rw [h.state]
  split <;> simp

end Sys2Proof.Machine
end

section
/-!
PROOFS. Comparison of a window, mismatch, rollback and injection (03 R67, R76, R79, R82, R89, R92, R93).
-/
namespace Sys2Proof.Machine
open Chip

/-! ### Twins -/

theorem Chip.twin_modTwin_same {u : Chip} {c t : Nat} (g : Twin → Twin) (hc : c < 3) : (u.modTwin c t g).twin c t = g (u.twin c t) := by
  have hchan := chan_modChan_same (u := u) (fun h => if t = 0 then { h with logic := g h.logic } else { h with link := g h.link }) hc
  unfold Chip.twin Chip.modTwin
  rw [hchan]
  split <;> rfl

theorem Chip.twin_of_chans {u v : Chip} (h : v.chans = u.chans) (c t : Nat) : v.twin c t = u.twin c t := by
  unfold Chip.twin Chip.chan
  rw [h]

/-- An interrupt with its event, at the channel's page. -/
theorem Chip.irqRaise_regs {u : Chip} {c j src b : Nat} {l data : List Nat} (hc : c < 3) : ChRegs c l u (u.irqRaise (chPage j) src b data) := by
  refine .trans (fun f hf _ => get_irq _ _ _ _ hf.1 ?_) (.of_within hc raise_within (by rfl))
  have hpg := (chPage_in (c := j)).1
  have hraw := hf.2.2.1
  simp only [Reg.IRQ.RAW]
  omega

/-! ### A window that compares equal -/

theorem Twin.hold_lead (t : Twin) : t.hold.lead.committed = t.lead.committed ∧ t.hold.lead.drain = t.lead.drain := by
  have hclose : ∀ x : Twin, x.closeTrail.lead = x.lead := fun x => by
    unfold Twin.closeTrail
    split
    · split <;> rfl
    · rfl
  unfold Twin.hold
  dsimp only
  split
  · exact ⟨rfl, rfl⟩
  · rw [hclose]
    exact ⟨rfl, rfl⟩

/-- What the commit of a window leaves: its stores drain, its shadow set is the committed one, the next window is the oldest. -/
theorem Twin.commit_shows (x : Twin) (w : ClosedWin) :
    (x.asked = false → (x.commit w).closed.length = (x.closed.drop 1).length) ∧
      (∀ sh, x.lead.pending = some (w.no, sh) → (x.commit w).lead.committed = sh) ∧
      (x.commit w).lead.drain = x.lead.drain ++ x.lead.fill.filter (fun e => e.win == w.no) := by
  have hpending : ∀ sh, x.lead.pending = some (w.no, sh) → (x.lead.commit w).committed = sh := fun sh h => by simp [Core.commit, h]
  unfold Twin.commit
  extract_lets rebase log y
  have hy : y.lead = x.lead.commit w := rfl
  have hasked : y.asked = x.asked := rfl
  have hclosed : y.closed.length = (x.closed.drop 1).length := List.length_map ..
  split
  · rename_i hask
    obtain ⟨hcommitted, hdrain⟩ := y.hold_lead
    refine ⟨fun h => ?_, fun sh h => hcommitted.trans (hpending sh h), hdrain.trans rfl⟩
    simp [hasked, h] at hask
  · exact ⟨fun _ => hclosed, hpending, rfl⟩

/-- A comparison that finds no difference: what the channel shows and what the twin holds. -/
def Chip.passes (u : Chip) (c tw : Nat) (w : ClosedWin) (t : Chip) : Prop :=
  t.get (if tw = 0 then Reg.CH_WINCNT_LT.COUNT c else Reg.CH_WINCNT_LK.COUNT c) =
    (u.get (if tw = 0 then Reg.CH_WINCNT_LT.COUNT c else Reg.CH_WINCNT_LK.COUNT c) + 1) % 2 ^ 32 ∧
  t.get (Reg.CH_STATE.MM_CYC c) = u.get (Reg.CH_STATE.MM_CYC c) ∧ t.twin c tw = (u.twin c tw).commit w

theorem Chip.modTwin_get (u : Chip) (c tw : Nat) (g : Twin → Twin) (f : Fld) : (u.modTwin c tw g).get f = u.get f := rfl

/-- A window is counted and its next lane shown. -/
theorem Chip.counted_get {v : Chip} {f g : Fld} (lane : Nat) (hf : f.width = 32) (hfg : g.key ≠ f.key) :
    ((v.wrapInc f).put g lane).get f = (v.get f + 1) % 2 ^ 32 ∧
      ∀ x : Fld, g.key ≠ x.key → f.key ≠ x.key → ((v.wrapInc f).put g lane).get x = v.get x := by
  refine ⟨(get_put_ne _ _ _ _ hfg).trans ?_, fun x hg hf => (get_put_ne _ _ _ _ hg).trans (get_put_ne _ _ _ _ hf)⟩
  rw [Chip.wrapInc, get_put_same, hf]

theorem Chip.windowEqual_passes {u : Chip} {c tw : Nat} (w : ClosedWin) (hc : c < 3) (htw : tw < 2) :
    u.passes c tw w (u.windowEqual c tw w) ∧ (u.windowEqual c tw w).get (injOk c tw) = u.get (injOk c tw) := by
  have hkeys := (show ∀ c < 3, (Reg.CH_INJ.LT_LANE c).key ≠ (Reg.CH_WINCNT_LT.COUNT c).key ∧ (Reg.CH_INJ.LT_LANE c).key ≠ (Reg.CH_STATE.MM_CYC c).key ∧
    (Reg.CH_INJ.LT_LANE c).key ≠ (Reg.CH_INJ.LT_LAST_OK c).key ∧ (Reg.CH_WINCNT_LT.COUNT c).key ≠ (Reg.CH_STATE.MM_CYC c).key ∧
    (Reg.CH_WINCNT_LT.COUNT c).key ≠ (Reg.CH_INJ.LT_LAST_OK c).key ∧
    (Reg.CH_INJ.LK_LANE c).key ≠ (Reg.CH_WINCNT_LK.COUNT c).key ∧ (Reg.CH_INJ.LK_LANE c).key ≠ (Reg.CH_STATE.MM_CYC c).key ∧
    (Reg.CH_INJ.LK_LANE c).key ≠ (Reg.CH_INJ.LK_LAST_OK c).key ∧ (Reg.CH_WINCNT_LK.COUNT c).key ≠ (Reg.CH_STATE.MM_CYC c).key ∧
    (Reg.CH_WINCNT_LK.COUNT c).key ≠ (Reg.CH_INJ.LK_LAST_OK c).key by decide) c hc
  obtain ⟨h1, h2, h3, h4, h5, k1, k2, k3, k4, k5⟩ := hkeys
  have hall : ∀ (x : Chip) (lane : Nat), (∀ f, x.get f = u.get f) → x.twin c tw = (u.twin c tw).commit w →
      let t := if tw = 0 then (x.wrapInc (Reg.CH_WINCNT_LT.COUNT c)).put (Reg.CH_INJ.LT_LANE c) lane
        else (x.wrapInc (Reg.CH_WINCNT_LK.COUNT c)).put (Reg.CH_INJ.LK_LANE c) lane
      u.passes c tw w t ∧ t.get (injOk c tw) = u.get (injOk c tw) := fun x lane hreg htwin => by
    rcases (show tw = 0 ∨ tw = 1 by omega) with rfl | rfl
    · obtain ⟨hcount, hother⟩ := counted_get (v := x) lane (rfl : (Reg.CH_WINCNT_LT.COUNT c).width = 32) h1
      exact ⟨⟨hcount.trans (by rw [hreg]; rfl), (hother _ h2 h4).trans (hreg _), htwin⟩, (hother _ h3 h5).trans (hreg _)⟩
    · obtain ⟨hcount, hother⟩ := counted_get (v := x) lane (rfl : (Reg.CH_WINCNT_LK.COUNT c).width = 32) k1
      exact ⟨⟨hcount.trans (by rw [hreg]; rfl), (hother _ k2 k4).trans (hreg _), htwin⟩, (hother _ k3 k5).trans (hreg _)⟩
  exact hall _ _ (fun f => modTwin_get ..) (twin_modTwin_same _ hc)

/-! ### A mismatch -/

/-- What the capture of a mismatch writes, with the count of mismatches. -/
def captureKeys (c : Nat) : List Nat :=
  [(Reg.MM_SIG_LEAD.SIG c).key, (Reg.MM_SIG_TRAIL.SIG c).key, (Reg.MM_DIFF.LANES c).key, (Reg.MM_WIN.WIN c).key, (Reg.MM_INFO.COUNT c).key,
   (Reg.MM_INFO.DED c).key, (Reg.MM_INFO.PARITY c).key, (Reg.MM_INFO.INJ c).key, (Reg.MM_INFO.TWIN c).key, (Reg.CH_MMCNT.LT c).key,
   (Reg.CH_MMCNT.LK c).key]

/-- What page 1 of the channel shows of a mismatch. -/
def Chip.shows (u : Chip) (c : Nat) (m : MmInfo) : Prop :=
  u.get (Reg.MM_DIFF.LANES c) = m.diff % 2 ^ 64 ∧ u.get (Reg.MM_WIN.WIN c) = m.win % 2 ^ 32 ∧ u.get (Reg.MM_INFO.DED c) = lvl m.ded ∧
  u.get (Reg.MM_INFO.PARITY c) = lvl m.parity

theorem Chip.shows.kept {u t : Chip} {c : Nat} {m : MmInfo} {l : List Nat} (hc : c < 3) (h : u.shows c m) (hreg : ChRegs c l u t)
    (hl : (Reg.MM_DIFF.LANES c).key ∉ l ∧ (Reg.MM_WIN.WIN c).key ∉ l ∧ (Reg.MM_INFO.DED c).key ∉ l ∧ (Reg.MM_INFO.PARITY c).key ∉ l) : t.shows c m := by
  obtain ⟨hdiff, hwin, hded, hparity⟩ := h
  obtain ⟨ldiff, lwin, lded, lparity⟩ := hl
  exact ⟨(hreg _ (Fld.ofChan_slot 0x40201050 hc rfl (show 0 < 32 by decide) (by decide)) ldiff).trans hdiff,
    (hreg _ (Fld.ofChan_slot 0x40201058 hc rfl (show 0 < 32 by decide) (by decide)) lwin).trans hwin,
    (hreg _ (Fld.ofChan_slot 0x4020105C hc rfl (show 3 < 32 by decide) (by decide)) lded).trans hded,
    (hreg _ (Fld.ofChan_slot 0x4020105C hc rfl (show 2 < 32 by decide) (by decide)) lparity).trans hparity⟩

theorem lvl_lt (b : Bool) : lvl b < 2 := by cases b <;> decide

theorem Chip.mmCapture_shows {u : Chip} {c t : Nat} {m : MmInfo} (hc : c < 3) : (u.mmCapture c t m).shows c m := by
  have hkeys := (show ∀ c < 3, (Reg.MM_INFO.TWIN c).key ∉ [(Reg.MM_DIFF.LANES c).key, (Reg.MM_WIN.WIN c).key, (Reg.MM_INFO.DED c).key, (Reg.MM_INFO.PARITY c).key] ∧
    (Reg.MM_INFO.INJ c).key ∉ [(Reg.MM_DIFF.LANES c).key, (Reg.MM_WIN.WIN c).key, (Reg.MM_INFO.DED c).key, (Reg.MM_INFO.PARITY c).key] ∧
    (Reg.MM_INFO.PARITY c).key ∉ [(Reg.MM_DIFF.LANES c).key, (Reg.MM_WIN.WIN c).key, (Reg.MM_INFO.DED c).key] ∧
    (Reg.MM_INFO.DED c).key ∉ [(Reg.MM_DIFF.LANES c).key, (Reg.MM_WIN.WIN c).key] ∧
    (Reg.MM_INFO.COUNT c).key ∉ [(Reg.MM_DIFF.LANES c).key, (Reg.MM_WIN.WIN c).key] ∧
    (Reg.MM_WIN.WIN c).key ≠ (Reg.MM_DIFF.LANES c).key by decide) c hc
  simp only [List.mem_cons, List.not_mem_nil, or_false, not_or] at hkeys
  obtain ⟨⟨a1, a2, a3, a4⟩, ⟨b1, b2, b3, b4⟩, ⟨c1, c2, c3⟩, ⟨d1, d2⟩, ⟨e1, e2⟩, f1⟩ := hkeys
  unfold Chip.mmCapture
  refine ⟨?_, ?_, ?_, ?_⟩
  · simp only [get_put_ne _ _ _ _ a1, get_put_ne _ _ _ _ b1, get_put_ne _ _ _ _ c1, get_put_ne _ _ _ _ d1, get_put_ne _ _ _ _ e1, get_put_ne _ _ _ _ f1]
    exact get_put_same ..
  · simp only [get_put_ne _ _ _ _ a2, get_put_ne _ _ _ _ b2, get_put_ne _ _ _ _ c2, get_put_ne _ _ _ _ d2, get_put_ne _ _ _ _ e2]
    exact get_put_same ..
  · simp only [get_put_ne _ _ _ _ a3, get_put_ne _ _ _ _ b3, get_put_ne _ _ _ _ c3]
    exact (get_put_same ..).trans (Nat.mod_eq_of_lt (lvl_lt _))
  · simp only [get_put_ne _ _ _ _ a4, get_put_ne _ _ _ _ b4]
    exact (get_put_same ..).trans (Nat.mod_eq_of_lt (lvl_lt _))

/-- The capture of a mismatch and its count. -/
def Chip.mmCounted (u : Chip) (c t : Nat) (m : MmInfo) : Chip :=
  (u.mmCapture c t m).satInc (if t = 0 then Reg.CH_MMCNT.LT c else Reg.CH_MMCNT.LK c)

theorem Chip.mmCounted_regs (u : Chip) (c t : Nat) (m : MmInfo) : ChRegs c (captureKeys c) u (u.mmCounted c t m) := by
  have hcapture : ChRegs c (captureKeys c) u (u.mmCapture c t m) := by
    unfold Chip.mmCapture
    refine .trans (.trans (.trans (.trans (.trans (.trans (.trans (.trans (.put ?_) (.put ?_)) (.put ?_)) (.put ?_)) (.put ?_)) (.put ?_)) (.put ?_))
      (.put ?_)) (.put ?_)
    all_goals simp [captureKeys]
  refine hcapture.trans (.put ?_)
  split <;> simp [captureKeys]

theorem Chip.mmCounted_shows {u : Chip} {c t : Nat} {m : MmInfo} (hc : c < 3) : (u.mmCounted c t m).shows c m := by
  have hcount : ChRegs c [(Reg.CH_MMCNT.LT c).key, (Reg.CH_MMCNT.LK c).key] (u.mmCapture c t m) (u.mmCounted c t m) := .put (by split <;> simp)
  exact (mmCapture_shows hc).kept hc hcount ((show ∀ c < 3, (Reg.MM_DIFF.LANES c).key ∉ [(Reg.CH_MMCNT.LT c).key, (Reg.CH_MMCNT.LK c).key] ∧
    (Reg.MM_WIN.WIN c).key ∉ [(Reg.CH_MMCNT.LT c).key, (Reg.CH_MMCNT.LK c).key] ∧ (Reg.MM_INFO.DED c).key ∉ [(Reg.CH_MMCNT.LT c).key, (Reg.CH_MMCNT.LK c).key] ∧
    (Reg.MM_INFO.PARITY c).key ∉ [(Reg.CH_MMCNT.LT c).key, (Reg.CH_MMCNT.LK c).key] by decide) c hc)

theorem Chip.mmCounted_kept {u : Chip} {c t : Nat} {m : MmInfo} (hc : c < 3) : (u.mmCounted c t m).chState c = u.chState c ∧
    (u.mmCounted c t m).get (Reg.CH_STATE.MM_CYC c) = u.get (Reg.CH_STATE.MM_CYC c) := by
  have hreg := u.mmCounted_regs c t m
  have hnot := (show ∀ c < 3, (Reg.CH_STATE.STATE c).key ∉ captureKeys c ∧ (Reg.CH_STATE.MM_CYC c).key ∉ captureKeys c by decide) c hc
  exact ⟨hreg _ (Reg.CH_STATE.STATE_ofChan hc) hnot.1,
    hreg _ (Fld.ofChan_slot 0x40200040 hc rfl (show 5 < 32 by decide) (by decide)) hnot.2⟩

/-- The third event of a cycle loses the channel with MM_LIMIT (R89). -/
theorem Chip.mismatch_lost {u : Chip} {c t : Nat} {m : MmInfo} (hc : c < 3) (hstate : u.chState c = 3) (hcyc : u.get (Reg.CH_STATE.MM_CYC c) = 2) :
    (u.mismatch c t m false).shows c m ∧ (u.mismatch c t m false).get (Reg.CH_LOSS.CAUSE c) = 1 ∧
      ((u.mismatch c t m false).chState c = 4 ∨ (u.mismatch c t m false).chState c = 5) := by
  obtain ⟨hst, hmm⟩ := mmCounted_kept (u := u) (t := t) (m := m) hc
  have hrw : u.mismatch c t m false = ((u.mmCounted c t m).chLost c 1).irqAfter (chPage c) (chSrc c) 0
      [t, m.win, m.diff, lvl m.ded * 8 + lvl m.parity * 4 + lvl m.inj * 2 + t] := if_pos (by
    change (!false && (u.mmCounted c t m).get (Reg.CH_STATE.MM_CYC c) == 2) = true
    rw [hmm, hcyc]
    rfl)
  have hlost := (chLost_lost (k := 1) hc (.inr (.inr (hst.trans hstate)))).kept (k := 1) hc (.irqAfter_other (j := c) (src := chSrc c) (b := 0)
    (data := [t, m.win, m.diff, lvl m.ded * 8 + lvl m.parity * 4 + lvl m.inj * 2 + t]) hc)
  rw [← hrw] at hlost
  exact ⟨(mmCounted_shows hc).kept hc hlost.regs ((show ∀ c < 3, (Reg.MM_DIFF.LANES c).key ∉ lossKeys c ∧ (Reg.MM_WIN.WIN c).key ∉ lossKeys c ∧
    (Reg.MM_INFO.DED c).key ∉ lossKeys c ∧ (Reg.MM_INFO.PARITY c).key ∉ lossKeys c by decide) c hc), hlost.cause, hlost.stands⟩

/-- The start of a rollback: the cycle's events are counted, the twin discards what has not been compared. -/
def Chip.rollBack (v : Chip) (c tw : Nat) (m : MmInfo) (same : Bool) : Chip :=
  let w := (if same then v else v.put (Reg.CH_STATE.MM_CYC c) (v.get (Reg.CH_STATE.MM_CYC c) + 1)).irqRaise (chPage c) (chSrc c) 0
    [tw, m.win, m.diff, lvl m.ded * 8 + lvl m.parity * 4 + lvl m.inj * 2 + tw]
  (w.modTwin c tw (fun x => x.discard w.now m.win)).put (if tw = 0 then Reg.CH_STATE.RB_LT c else Reg.CH_STATE.RB_LK c) 1

theorem Chip.rollBack_regs {v : Chip} {c tw : Nat} {m : MmInfo} {same : Bool} (hc : c < 3) :
    ChRegs c [(Reg.CH_STATE.MM_CYC c).key, (Reg.CH_STATE.RB_LT c).key, (Reg.CH_STATE.RB_LK c).key] v (v.rollBack c tw m same) := by
  unfold Chip.rollBack
  refine .trans (.trans (.trans (.ite (.of_regs rfl) (.put (by simp))) (irqRaise_regs hc)) (.of_regs (t := Chip.modTwin _ c tw _) rfl)) (.put ?_)
  split <;> simp

theorem Chip.rollBack_cyc {v : Chip} {c tw : Nat} {m : MmInfo} {same : Bool} (hc : c < 3) :
    (v.rollBack c tw m same).get (Reg.CH_STATE.MM_CYC c) =
      (if same then v.get (Reg.CH_STATE.MM_CYC c) else (v.get (Reg.CH_STATE.MM_CYC c) + 1) % 4) := by
  have hcyc : (Reg.CH_STATE.MM_CYC c).OfChan c := Fld.ofChan_slot 0x40200040 hc rfl (show 5 < 32 by decide) (by decide)
  have hne := (show ∀ c < 3, (Reg.CH_STATE.RB_LT c).key ≠ (Reg.CH_STATE.MM_CYC c).key ∧ (Reg.CH_STATE.RB_LK c).key ≠ (Reg.CH_STATE.MM_CYC c).key by decide) c hc
  have hkey : (if tw = 0 then Reg.CH_STATE.RB_LT c else Reg.CH_STATE.RB_LK c).key ≠ (Reg.CH_STATE.MM_CYC c).key := by
    split
    · exact hne.1
    · exact hne.2
  unfold Chip.rollBack
  refine (get_put_ne _ _ _ _ hkey).trans ((modTwin_get ..).trans ((irqRaise_regs (l := []) hc _ hcyc List.not_mem_nil).trans ?_))
  split
  · rfl
  · exact get_put_same ..

theorem Chip.rollBack_twin {v : Chip} {c tw : Nat} {m : MmInfo} {same : Bool} (hc : c < 3) :
    (v.rollBack c tw m same).twin c tw = (v.twin c tw).discard v.now m.win := by
  have hstart : (if same then v else v.put (Reg.CH_STATE.MM_CYC c) (v.get (Reg.CH_STATE.MM_CYC c) + 1)).chans = v.chans ∧
      (if same then v else v.put (Reg.CH_STATE.MM_CYC c) (v.get (Reg.CH_STATE.MM_CYC c) + 1)).now = v.now := by
    split <;> exact ⟨rfl, rfl⟩
  unfold Chip.rollBack
  dsimp only
  rw [twin_of_chans (put_chans ..), twin_modTwin_same _ hc, irqRaise_now, hstart.2,
    twin_of_chans ((irqRaise_chans _ _ _ _ _).trans hstart.1)]

/-- Another event than the third of a cycle starts a rollback (R83). -/
theorem Chip.mismatch_eq_rollBack {u : Chip} {c tw : Nat} {m : MmInfo} {same : Bool} (hc : c < 3)
    (hcyc : same = true ∨ u.get (Reg.CH_STATE.MM_CYC c) ≠ 2) : u.mismatch c tw m same = (u.mmCounted c tw m).rollBack c tw m same := by
  obtain ⟨-, hmm⟩ := mmCounted_kept (u := u) (t := tw) (m := m) hc
  refine if_neg ?_
  change ¬ (!same && (u.mmCounted c tw m).get (Reg.CH_STATE.MM_CYC c) == 2) = true
  rw [hmm]
  rcases hcyc with rfl | hcyc
  · simp
  · simp [hcyc]

/-- What a mismatch that starts a rollback writes of the channel's registers. -/
theorem Chip.mismatch_regs {u : Chip} {c tw : Nat} {m : MmInfo} {same : Bool} (hc : c < 3)
    (hcyc : same = true ∨ u.get (Reg.CH_STATE.MM_CYC c) ≠ 2) :
    ChRegs c (captureKeys c ++ [(Reg.CH_STATE.MM_CYC c).key, (Reg.CH_STATE.RB_LT c).key, (Reg.CH_STATE.RB_LK c).key]) u (u.mismatch c tw m same) := by
  intro f hf hl
  rw [List.mem_append, not_or] at hl
  rw [mismatch_eq_rollBack hc hcyc]
  exact (rollBack_regs hc f hf hl.2).trans (mmCounted_regs _ _ _ _ f hf hl.1)

/-- The twin after it: what it has not compared is discarded, the mismatch and the count of the cycle show. -/
theorem Chip.mismatch_back {u : Chip} {c tw : Nat} {m : MmInfo} {same : Bool} (hc : c < 3)
    (hcyc : same = true ∨ u.get (Reg.CH_STATE.MM_CYC c) ≠ 2) :
    (u.mismatch c tw m same).shows c m ∧
      (u.mismatch c tw m same).get (Reg.CH_STATE.MM_CYC c) = (if same then u.get (Reg.CH_STATE.MM_CYC c) else (u.get (Reg.CH_STATE.MM_CYC c) + 1) % 4) ∧
      (u.mismatch c tw m same).twin c tw = (u.twin c tw).discard u.now m.win := by
  obtain ⟨-, hmm⟩ := mmCounted_kept (u := u) (t := tw) (m := m) hc
  have hchans : (u.mmCounted c tw m).chans = u.chans := rfl
  have hnow : (u.mmCounted c tw m).now = u.now := rfl
  rw [mismatch_eq_rollBack hc hcyc]
  refine ⟨(mmCounted_shows hc).kept hc (rollBack_regs hc) ?_, by rw [rollBack_cyc hc, hmm], ?_⟩
  · exact (show ∀ c < 3, (Reg.MM_DIFF.LANES c).key ∉ [(Reg.CH_STATE.MM_CYC c).key, (Reg.CH_STATE.RB_LT c).key, (Reg.CH_STATE.RB_LK c).key] ∧
      (Reg.MM_WIN.WIN c).key ∉ [(Reg.CH_STATE.MM_CYC c).key, (Reg.CH_STATE.RB_LT c).key, (Reg.CH_STATE.RB_LK c).key] ∧
      (Reg.MM_INFO.DED c).key ∉ [(Reg.CH_STATE.MM_CYC c).key, (Reg.CH_STATE.RB_LT c).key, (Reg.CH_STATE.RB_LK c).key] ∧
      (Reg.MM_INFO.PARITY c).key ∉ [(Reg.CH_STATE.MM_CYC c).key, (Reg.CH_STATE.RB_LT c).key, (Reg.CH_STATE.RB_LK c).key] by decide) c hc
  · rw [rollBack_twin hc, hnow, twin_of_chans hchans]

theorem Chip.mismatch_chState {u : Chip} {c tw : Nat} {m : MmInfo} {same : Bool} (hc : c < 3)
    (hcyc : same = true ∨ u.get (Reg.CH_STATE.MM_CYC c) ≠ 2) : (u.mismatch c tw m same).chState c = u.chState c :=
  mismatch_regs hc hcyc _ (Reg.CH_STATE.STATE_ofChan hc) ((show ∀ c < 3, (Reg.CH_STATE.STATE c).key ∉ captureKeys c ++
    [(Reg.CH_STATE.MM_CYC c).key, (Reg.CH_STATE.RB_LT c).key, (Reg.CH_STATE.RB_LK c).key] by decide) c hc)

/-- A mismatch without a comparison is that of the oldest closed window, or of the present one. -/
theorem Chip.mismatchNow_eq (u : Chip) (c tw : Nat) (ded parity same : Bool) :
    ∃ m : MmInfo, m.ded = ded ∧ m.parity = parity ∧ u.mismatchNow c tw ded parity same = u.mismatch c tw m same := by
  unfold Chip.mismatchNow
  dsimp only
  split
  · exact ⟨_, rfl, rfl, rfl⟩
  · exact ⟨_, rfl, rfl, rfl⟩

/-! ### WINDOW_COMPARE and SRAM_DED -/

theorem xor_eq_zero_iff {a b : Nat} : a ^^^ b = b ↔ a = 0 := by
  constructor
  · intro h
    have := congrArg (· ^^^ b) h
    simpa using this
  · rintro rfl
    simp

theorem injectLane_lt {no l : Nat} (h : injectLane no = some l) : l < 64 := by
  unfold injectLane at h
  split at h
  · cases h
    exact Nat.mod_lt _ (by decide)
  · cases h

/-- What a comparison of two equal signatures leaves, as the statement says it. -/
theorem Chip.passes.shows {u t : Chip} {c tw : Nat} {w : ClosedWin} {rest : List ClosedWin} (h : u.passes c tw w t) (hw : (u.twin c tw).closed = w :: rest) :
    t.get (if tw = 0 then Reg.CH_WINCNT_LT.COUNT c else Reg.CH_WINCNT_LK.COUNT c) =
        (u.get (if tw = 0 then Reg.CH_WINCNT_LT.COUNT c else Reg.CH_WINCNT_LK.COUNT c) + 1) % 2 ^ 32 ∧
      t.get (Reg.CH_STATE.MM_CYC c) = u.get (Reg.CH_STATE.MM_CYC c) ∧
      ((u.twin c tw).asked = false → (t.twin c tw).closed.length = rest.length) ∧
      (∀ sh, (u.twin c tw).lead.pending = some (w.no, sh) → (t.twin c tw).lead.committed = sh) ∧
      (t.twin c tw).lead.drain = (u.twin c tw).lead.drain ++ (u.twin c tw).lead.fill.filter (fun e => e.win == w.no) := by
  obtain ⟨hcount, hcyc, htwin⟩ := h
  obtain ⟨hclosed, hcommitted, hdrain⟩ := (u.twin c tw).commit_shows w
  rw [htwin]
  exact ⟨hcount, hcyc, fun ha => by rw [hclosed ha, hw]; rfl, hcommitted, hdrain⟩

/-- What the comparison of a closed window records. -/
def Twin.mmInfo (x : Twin) (w : ClosedWin) (sig : Nat) : MmInfo := ⟨w.no, w.lead, sig, w.lead ^^^ sig, x.started w.first, false, false, (injectLane w.no).isSome⟩

section
variable {u : Chip} {c tw sig : Nat} {same : Bool} {w : ClosedWin} {rest : List ClosedWin} (hstate : u.chState c = 3) (hrb : (u.twin c tw).rb = none)
  (hw : (u.twin c tw).closed = w :: rest) (htrail : w.trail = some sig)
include hstate hrb hw htrail

/-- The comparison of a window without injection. -/
theorem Chip.compareWindow_plain (hinj : injectLane w.no = none) : u.compareWindow c tw same =
    if w.lead ^^^ sig = 0 then u.windowEqual c tw w else u.mismatch c tw ((u.twin c tw).mmInfo w sig) same := by
  unfold Chip.compareWindow
  dsimp only
  rw [if_neg (by simp [hstate, hrb]), hw]
  dsimp only
  rw [htrail]
  dsimp only
  rw [hinj]
  dsimp only
  unfold Twin.mmInfo
  rw [hinj]

/-- The comparison of a window with injection: without its own difference it passes, with the lane alone it is a dead comparator. -/
theorem Chip.compareWindow_injected {l : Nat} (hinj : injectLane w.no = some l) : u.compareWindow c tw same =
    if w.lead ^^^ sig = 0 then (u.put (injOk c tw) 1).windowEqual c tw w
    else if w.lead ^^^ sig = 2 ^ l then ((u.put (injOk c tw) 0).irqRaise (chPage c) (chSrc c) 3 [tw, w.no, l, (w.lead ^^^ sig) ^^^ 2 ^ l]).chLost c 3
    else u.mismatch c tw ((u.twin c tw).mmInfo w sig) same := by
  have hzero : (w.lead ^^^ sig) ^^^ 2 ^ l = 2 ^ l ↔ w.lead ^^^ sig = 0 := xor_eq_zero_iff
  have hlane : (w.lead ^^^ sig) ^^^ 2 ^ l = 0 ↔ w.lead ^^^ sig = 2 ^ l := Nat.xor_eq_zero_iff
  unfold Chip.compareWindow
  dsimp only
  rw [if_neg (by simp [hstate, hrb]), hw]
  dsimp only
  rw [htrail]
  dsimp only
  rw [hinj]
  dsimp only
  simp only [hzero, hlane]
  unfold Twin.mmInfo
  rw [hinj]

end

theorem Chip.injOk_ofChan {c tw : Nat} (hc : c < 3) : (injOk c tw).OfChan c ∧ (injOk c tw).width = 1 ∧ (injOk c tw).key ∉ lossKeys c ∧
    (injOk c tw).key ≠ (Reg.CH_STATE.STATE c).key ∧ (injOk c tw).key ≠ (Reg.CH_STATE.MM_CYC c).key ∧
    (injOk c tw).key ≠ (Reg.CH_WINCNT_LT.COUNT c).key ∧ (injOk c tw).key ≠ (Reg.CH_WINCNT_LK.COUNT c).key := by
  unfold injOk
  split
  · exact ⟨Fld.ofChan_slot 0x40200054 hc rfl (show 16 < 32 by decide) (by decide), rfl,
      (show ∀ c < 3, (Reg.CH_INJ.LT_LAST_OK c).key ∉ lossKeys c ∧ (Reg.CH_INJ.LT_LAST_OK c).key ≠ (Reg.CH_STATE.STATE c).key ∧
        (Reg.CH_INJ.LT_LAST_OK c).key ≠ (Reg.CH_STATE.MM_CYC c).key ∧ (Reg.CH_INJ.LT_LAST_OK c).key ≠ (Reg.CH_WINCNT_LT.COUNT c).key ∧
        (Reg.CH_INJ.LT_LAST_OK c).key ≠ (Reg.CH_WINCNT_LK.COUNT c).key by decide) c hc⟩
  · exact ⟨Fld.ofChan_slot 0x40200054 hc rfl (show 17 < 32 by decide) (by decide), rfl,
      (show ∀ c < 3, (Reg.CH_INJ.LK_LAST_OK c).key ∉ lossKeys c ∧ (Reg.CH_INJ.LK_LAST_OK c).key ≠ (Reg.CH_STATE.STATE c).key ∧
        (Reg.CH_INJ.LK_LAST_OK c).key ≠ (Reg.CH_STATE.MM_CYC c).key ∧ (Reg.CH_INJ.LK_LAST_OK c).key ≠ (Reg.CH_WINCNT_LT.COUNT c).key ∧
        (Reg.CH_INJ.LK_LAST_OK c).key ≠ (Reg.CH_WINCNT_LK.COUNT c).key by decide) c hc⟩

/-- A dead comparator found in operation loses the channel with CMP_DEAD_RUN (R93). -/
theorem Chip.deadComparator {u : Chip} {c tw : Nat} (data : List Nat) (hc : c < 3) (hstate : u.chState c = 3) :
    let t := ((u.put (injOk c tw) 0).irqRaise (chPage c) (chSrc c) 3 data).chLost c 3
    t.get (Reg.CH_LOSS.CAUSE c) = 3 ∧ t.get (injOk c tw) = 0 ∧ (t.chState c = 4 ∨ t.chState c = 5) := by
  obtain ⟨hof, -, hnot, hne, -⟩ := injOk_ofChan (tw := tw) hc
  have hraise : ChRegs c [] (u.put (injOk c tw) 0) ((u.put (injOk c tw) 0).irqRaise (chPage c) (chSrc c) 3 data) := irqRaise_regs hc
  have hst : ((u.put (injOk c tw) 0).irqRaise (chPage c) (chSrc c) 3 data).chState c = 3 :=
    (hraise _ (Reg.CH_STATE.STATE_ofChan hc) List.not_mem_nil).trans ((get_put_ne _ _ _ _ hne).trans hstate)
  have hlost := chLost_lost (k := 3) hc (.inr (.inr hst))
  exact ⟨hlost.cause, (hlost.regs _ hof hnot).trans ((hraise _ hof List.not_mem_nil).trans ((get_put_same ..).trans (Nat.zero_mod _))), hlost.stands⟩

/-- A window that carries the injection and compares equal (R92). -/
theorem Chip.injected_passes {u : Chip} {c tw : Nat} (w : ClosedWin) (hc : c < 3) (htw : tw < 2) :
    u.passes c tw w ((u.put (injOk c tw) 1).windowEqual c tw w) ∧ ((u.put (injOk c tw) 1).windowEqual c tw w).get (injOk c tw) = 1 := by
  obtain ⟨-, hwidth, -, -, hcyc, hlt, hlk⟩ := injOk_ofChan (tw := tw) hc
  obtain ⟨⟨hcount, hmm, htwin⟩, hok⟩ := windowEqual_passes (u := u.put (injOk c tw) 1) w hc htw
  refine ⟨⟨hcount.trans ?_, hmm.trans (get_put_ne _ _ _ _ hcyc), htwin⟩, hok.trans ((get_put_same ..).trans ?_)⟩
  · rw [get_put_ne _ _ _ _ (by split <;> assumption)]
  · rw [hwidth]
    rfl

theorem windowCompares_compare (c tw sig : Nat) (same : Bool) (w : ClosedWin) (rest : List ClosedWin) (s : State) (hc : c < 3) (htw : tw < 2)
    (hstate : s.chip.chState c = 3) (hrb : (s.chip.twin c tw).rb = none) (hw : (s.chip.twin c tw).closed = w :: rest) (htrail : w.trail = some sig) :
    (let real := w.lead ^^^ sig
     let x := s.chip.twin c tw
     let count := if tw = 0 then Reg.CH_WINCNT_LT.COUNT c else Reg.CH_WINCNT_LK.COUNT c
     let mm := s.chip.get (Reg.CH_STATE.MM_CYC c)
     let passes := fun (t : Chip) => t.get count = (s.chip.get count + 1) % 2 ^ 32 ∧ t.get (Reg.CH_STATE.MM_CYC c) = mm ∧
       (x.asked = false → (t.twin c tw).closed.length = rest.length) ∧
       (∀ sh, x.lead.pending = some (w.no, sh) → (t.twin c tw).lead.committed = sh) ∧
       (t.twin c tw).lead.drain = x.lead.drain ++ x.lead.fill.filter (fun e => e.win == w.no)
     let backs := fun (t : Chip) => t.get (Reg.MM_DIFF.LANES c) = real % 2 ^ 64 ∧ t.get (Reg.MM_WIN.WIN c) = w.no % 2 ^ 32 ∧
       (if !same && mm == 2 then t.get (Reg.CH_LOSS.CAUSE c) = 1 ∧ (t.chState c = 4 ∨ t.chState c = 5)
        else t.chState c = 3 ∧ t.get (Reg.CH_STATE.MM_CYC c) = (if same then mm else (mm + 1) % 4) ∧ (t.twin c tw).rb = some s.chip.now ∧
          (t.twin c tw).lead.fill = [] ∧ (t.twin c tw).trail.fill = [] ∧ (t.twin c tw).log = x.log ∧ (t.twin c tw).lead.drain = x.lead.drain ∧
          (t.twin c tw).lead.committed = x.lead.committed)
     Completes (.windowCompare c tw same) s (fun t =>
       match injectLane w.no with
       | none => if real = 0 then passes t else backs t
       | some l => if real = 0 then passes t ∧ t.get (injOk c tw) = 1
         else if real = 2 ^ l then t.get (Reg.CH_LOSS.CAUSE c) = 3 ∧ t.get (injOk c tw) = 0 ∧ (t.chState c = 4 ∨ t.chState c = 5)
         else backs t)) := by
  intro real x count mm passes backs
  have hpasses : ∀ t, s.chip.passes c tw w t → passes t := fun t h => h.shows hw
  have hbacks : ∀ m : MmInfo, m.diff = real → m.win = w.no → backs (s.chip.mismatch c tw m same) := fun m hd hn => by
    by_cases hlimit : same = false ∧ mm = 2
    · obtain ⟨rfl, hmm⟩ := hlimit
      obtain ⟨⟨hdiff, hwin, -⟩, hcause, hst⟩ := mismatch_lost (t := tw) (m := m) hc hstate hmm
      refine ⟨hd ▸ hdiff, hn ▸ hwin, ?_⟩
      rw [if_pos (by simp [hmm])]
      exact ⟨hcause, hst⟩
    · have hback : same = true ∨ mm ≠ 2 := by
        cases same
        · exact .inr fun h => hlimit ⟨rfl, h⟩
        · exact .inl rfl
      obtain ⟨⟨hdiff, hwin, -⟩, hcyc, htwin⟩ := mismatch_back (u := s.chip) (tw := tw) (m := m) (same := same) hc hback
      refine ⟨hd ▸ hdiff, hn ▸ hwin, ?_⟩
      rw [if_neg (by rcases hback with rfl | h <;> simp [*]), htwin]
      exact ⟨(mismatch_chState hc hback).trans hstate, hcyc, rfl, rfl, rfl, rfl, rfl, rfl⟩
  refine ⟨_, rfl, ?_⟩
  change match injectLane w.no with
    | none => if real = 0 then passes (s.chip.compareWindow c tw same) else backs (s.chip.compareWindow c tw same)
    | some l => if real = 0 then passes (s.chip.compareWindow c tw same) ∧ (s.chip.compareWindow c tw same).get (injOk c tw) = 1
      else if real = 2 ^ l then (s.chip.compareWindow c tw same).get (Reg.CH_LOSS.CAUSE c) = 3 ∧ (s.chip.compareWindow c tw same).get (injOk c tw) = 0 ∧
        ((s.chip.compareWindow c tw same).chState c = 4 ∨ (s.chip.compareWindow c tw same).chState c = 5)
      else backs (s.chip.compareWindow c tw same)
  cases hinj : injectLane w.no with
  | none =>
    dsimp only
    rw [compareWindow_plain hstate hrb hw htrail hinj]
    by_cases hreal : w.lead ^^^ sig = 0
    · rw [if_pos hreal, if_pos hreal]
      exact hpasses _ (windowEqual_passes w hc htw).1
    · rw [if_neg hreal, if_neg hreal]
      exact hbacks _ rfl rfl
  | some l =>
    dsimp only
    rw [compareWindow_injected hstate hrb hw htrail hinj]
    by_cases hreal : w.lead ^^^ sig = 0
    · rw [if_pos hreal, if_pos hreal]
      exact (injected_passes w hc htw).imp (hpasses _) id
    · rw [if_neg hreal, if_neg hreal]
      by_cases hone : w.lead ^^^ sig = 2 ^ l
      · rw [if_pos hone, if_pos hone]
        exact deadComparator _ hc hstate
      · rw [if_neg hone, if_neg hone]
        exact hbacks _ rfl rfl

/-- A double-bit error in SRAM is counted and is a mismatch at once (R67). -/
theorem completes_sramDed (c tw a : Nat) (fetch : Bool) (s : State) (hc : c < 3) (hstate : s.chip.chState c = 3) (hrb : (s.chip.twin c tw).rb = none)
    (hcyc : s.chip.get (Reg.CH_STATE.MM_CYC c) < 2) :
    Completes (.sramDed c tw a fetch false) s (fun t => t.get (Reg.CH_ECC.DED c) = min (s.chip.get (Reg.CH_ECC.DED c) + 1) 255 ∧
      t.get (Reg.CH_ECC_ADDR.ADDR c) = a % 2 ^ 32 ∧ t.get (Reg.MM_INFO.DED c) = 1 ∧ (t.twin c tw).rb = some s.chip.now ∧
      t.get (Reg.CH_STATE.MM_CYC c) = s.chip.get (Reg.CH_STATE.MM_CYC c) + 1) := by
  change ∃ t, execSramDed c tw a fetch false s = s.become t ∧ _
  unfold execSramDed
  dsimp only
  rw [if_neg (by simp [hstate, hrb])]
  refine ⟨_, rfl, ?_⟩
  have hkeys := (show ∀ c < 3, (Reg.CH_ECC_ADDR.ADDR c).key ≠ (Reg.CH_ECC.DED c).key ∧ (Reg.CH_ECC_ADDR.ADDR c).key ≠ (Reg.CH_STATE.MM_CYC c).key ∧
    (Reg.CH_ECC.DED c).key ≠ (Reg.CH_STATE.MM_CYC c).key ∧
    (Reg.CH_ECC.DED c).key ∉ captureKeys c ++ [(Reg.CH_STATE.MM_CYC c).key, (Reg.CH_STATE.RB_LT c).key, (Reg.CH_STATE.RB_LK c).key] ∧
    (Reg.CH_ECC_ADDR.ADDR c).key ∉ captureKeys c ++ [(Reg.CH_STATE.MM_CYC c).key, (Reg.CH_STATE.RB_LT c).key, (Reg.CH_STATE.RB_LK c).key] by decide) c hc
  obtain ⟨hAD, hAM, hDM, hDnot, hAnot⟩ := hkeys
  have hDED : (Reg.CH_ECC.DED c).OfChan c := Fld.ofChan_slot 0x40200060 hc rfl (show 16 < 32 by decide) (by decide)
  have hADDR : (Reg.CH_ECC_ADDR.ADDR c).OfChan c := Fld.ofChan_slot 0x40200064 hc rfl (show 0 < 32 by decide) (by decide)
  have hCYC : (Reg.CH_STATE.MM_CYC c).OfChan c := Fld.ofChan_slot 0x40200040 hc rfl (show 5 < 32 by decide) (by decide)
  -- the counters, before the mismatch
  generalize hv : (s.chip.satInc (Reg.CH_ECC.DED c)).put (Reg.CH_ECC_ADDR.ADDR c) a = v
  have hded : v.get (Reg.CH_ECC.DED c) = min (s.chip.get (Reg.CH_ECC.DED c) + 1) 255 := by
    rw [← hv, get_put_ne _ _ _ _ hAD, get_satInc_same]
    rfl
  have haddr : v.get (Reg.CH_ECC_ADDR.ADDR c) = a % 2 ^ 32 := by rw [← hv]; exact get_put_same ..
  have hvcyc : v.get (Reg.CH_STATE.MM_CYC c) = s.chip.get (Reg.CH_STATE.MM_CYC c) := by
    rw [← hv, get_put_ne _ _ _ _ hAM, get_satInc_ne _ _ _ hDM]
  have hnow : v.now = s.chip.now := by rw [← hv]; rfl
  clear hv
  -- the event
  have hraise : ChRegs c [] v (v.irqRaise (chPage c) (chSrc c) 5 [a, lvl fetch]) := irqRaise_regs hc
  have hwnow := (irqRaise_now v (chPage c) (chSrc c) 5 [a, lvl fetch]).trans hnow
  generalize v.irqRaise (chPage c) (chSrc c) 5 [a, lvl fetch] = w at hraise hwnow
  have hwcyc := (hraise _ hCYC List.not_mem_nil).trans hvcyc
  obtain ⟨m, hm, -, heq⟩ := w.mismatchNow_eq c tw true false false
  have hback : false = true ∨ w.get (Reg.CH_STATE.MM_CYC c) ≠ 2 := .inr (by omega)
  obtain ⟨⟨-, -, hshow, -⟩, hcount, htwin⟩ := mismatch_back (tw := tw) (m := m) hc hback
  have hreg := mismatch_regs (tw := tw) (m := m) hc hback
  rw [heq]
  refine ⟨(hreg _ hDED hDnot).trans ((hraise _ hDED List.not_mem_nil).trans hded), (hreg _ hADDR hAnot).trans ((hraise _ hADDR List.not_mem_nil).trans haddr),
    hshow.trans (by rw [hm]; rfl), by rw [htwin, ← hwnow]; rfl, ?_⟩
  rw [hcount, if_neg (by decide), hwcyc, Nat.mod_eq_of_lt (by omega)]

/-- Settles O12. -/
theorem windowCompares : Obligations.WindowCompares := by
  unfold Obligations.WindowCompares
  refine ⟨windowCompares_compare, fun c tw a fetch s hc _ hstate hrb hcyc => completes_sramDed c tw a fetch s hc hstate hrb hcyc,
    fun c tw same s h => ⟨_, rfl, ?_⟩⟩
  change s.chip.compareWindow c tw same = s.chip
  unfold Chip.compareWindow
  dsimp only
  split
  · rfl
  · rename_i hrun
    rw [h.resolve_left fun hst => hrun (.inl hst)]

end Sys2Proof.Machine
end

section
/-!
PROOFS. Commit of stores to channel SRAM, and what a load sees (03 R65, R66, R71, R79, R80).
-/
namespace Sys2Proof.Machine
open Chip

/-! ### The bytes of an entry -/

/-- An entry stores exactly the bytes of its mask in its word. -/
theorem SbEntry.memRead_store (e : SbEntry) (m : List Host.Cell) (b : Nat) :
    memRead (e.store m) b = if e.addr / 4 * 4 ≤ b ∧ b < e.addr / 4 * 4 + 4 ∧ e.mask.testBit (b - e.addr / 4 * 4) = true
      then BitVec.ofNat 8 (e.data / 2 ^ (8 * (b - e.addr / 4 * 4))) else memRead m b := by
  have hbytes : ∀ n : Nat, memRead (foldUpTo n m fun m i => if e.mask.testBit i then memWrite m (e.addr / 4 * 4 + i) (BitVec.ofNat 8 (e.data / 2 ^ (8 * i))) else m) b =
      if e.addr / 4 * 4 ≤ b ∧ b < e.addr / 4 * 4 + n ∧ e.mask.testBit (b - e.addr / 4 * 4) = true
      then BitVec.ofNat 8 (e.data / 2 ^ (8 * (b - e.addr / 4 * 4))) else memRead m b := fun n => by
    induction n with
    | zero => rw [if_neg (by omega)]; rfl
    | succ n ih =>
      rw [foldUpTo_succ]
      by_cases hb : b = e.addr / 4 * 4 + n
      · subst hb
        rw [Nat.add_sub_cancel_left] at ih ⊢
        by_cases hmask : e.mask.testBit n = true
        · rw [if_pos hmask, memRead_write, if_pos rfl, if_pos ⟨by omega, by omega, hmask⟩]
        · rw [if_neg hmask, ih, if_neg (by omega), if_neg (fun h => hmask h.2.2)]
      · have hkeep : ∀ x : List Host.Cell, memRead (if e.mask.testBit n then memWrite x (e.addr / 4 * 4 + n) (BitVec.ofNat 8 (e.data / 2 ^ (8 * n))) else x) b =
            memRead x b := fun x => by
          split
          · rw [memRead_write, if_neg (Ne.symm hb)]
          · rfl
        rw [hkeep, ih]
        exact if_congr (and_congr_right fun _ => and_congr_left fun _ => by omega) rfl rfl
  exact hbytes 4

/-! ### STORE_COMMIT -/

theorem Chip.rsCatchUp_of_no_target {u : Chip} (h : u.conf.rs.target = none) : u.rsCatchUp = u := by
  unfold Chip.rsCatchUp Chip.rsRead
  rw [h]
  simp

theorem Chip.rsWrite_of_no_target {u : Chip} (c a : Nat) (h : u.conf.rs.target = none) : u.rsWrite c a = u := by
  unfold Chip.rsWrite
  simp [h]

/-- Without a resynchronisation a commit to SRAM changes the channel's SRAM and its list of write-backs. -/
theorem Chip.commitSram_of_no_target {u : Chip} (c : Nat) (e : SbEntry) (h : u.conf.rs.target = none) :
    u.commitSram c e = u.modChan c (fun h => { h with sram := e.store h.sram, writeBack := h.writeBack.filter (fun a => a != e.addr / 4 * 4) }) := by
  unfold Chip.commitSram
  rw [rsCatchUp_of_no_target h]
  exact rsWrite_of_no_target (u := u.modChan c _) c e.addr h

theorem Chip.sram_modTwin (u : Chip) {c : Nat} (tw : Nat) (g : Twin → Twin) (hc : c < 3) : ((u.modTwin c tw g).chan c).sram = (u.chan c).sram := by
  have hchan := chan_modChan_same (u := u) (fun h => if tw = 0 then { h with logic := g h.logic } else { h with link := g h.link }) hc
  unfold Chip.modTwin
  rw [hchan]
  split <;> rfl

theorem completes_storeCommit (c tw : Nat) (e : SbEntry) (s : State) (hc : c < 3) (hstate : s.chip.chState c = 3)
    (htarget : s.chip.conf.rs.target = none) (hdrain : (s.chip.twin c tw).lead.drain = [e]) (hgood : e.good = true) (hlo : 0x10000000 ≤ e.addr)
    (hhi : e.addr < 0x10800000) :
    Completes (.storeCommit c tw none) s (fun t => (t.twin c tw).lead.drain = [] ∧ (t.twin c tw).trail.drain = [] ∧
      (t.twin c tw).stallWin = none ∧ t.regs = s.chip.regs ∧
      ∀ b, memRead (t.chan c).sram b =
        (if e.addr / 4 * 4 ≤ b ∧ b < e.addr / 4 * 4 + 4 ∧ e.mask.testBit (b - e.addr / 4 * 4) = true
         then BitVec.ofNat 8 (e.data / 2 ^ (8 * (b - e.addr / 4 * 4))) else memRead (s.chip.chan c).sram b)) := by
  have hsram : inSram e.addr = true := by simp [inSram, hlo, hhi]
  have hall : s.chip.commitAll c [e] = ([], s.chip.commitSram c e) := by
    simp [Chip.commitAll, hgood, Chip.commitEntry, hsram]
  have hkept : (s.chip.commitSram c e).chState c = 3 ∧ ((s.chip.commitSram c e).chan c).sram = e.store (s.chip.chan c).sram ∧
      (s.chip.commitSram c e).regs = s.chip.regs := by
    rw [commitSram_of_no_target c e htarget]
    exact ⟨hstate, congrArg Channel.sram (chan_modChan_same _ hc), rfl⟩
  obtain ⟨hst, hmem, hregs⟩ := hkept
  change ∃ t, execStoreCommit c tw none s = s.become t ∧ _
  unfold execStoreCommit
  dsimp only
  rw [hdrain, if_neg (by simp [hstate]), hall]
  dsimp only
  generalize s.chip.commitSram c e = v at hst hmem hregs
  rw [if_neg (by simp [hst]), if_neg (by simp)]
  refine ⟨_, rfl, ?_⟩
  have htwin : (v.modTwin c tw fun t => t.drained []).twin c tw = (v.twin c tw).drained [] := twin_modTwin_same _ hc
  rw [htwin]
  refine ⟨rfl, rfl, ?_, hregs, fun b => ?_⟩
  · cases hstall : (v.twin c tw).stallWin <;> simp [Twin.drained, hstall]
  · rw [sram_modTwin v tw _ hc, hmem, e.memRead_store]

/-! ### What a load sees -/

theorem storedByte_append {l : List SbEntry} {e : SbEntry} {a : Nat} (haddr : e.addr / 4 = a / 4) (hmask : e.mask.testBit (a % 4) = true) :
    storedByte (l ++ [e]) a = some (BitVec.ofNat 8 (e.data / 2 ^ (8 * (a % 4)))) := by
  unfold storedByte
  rw [List.foldl_append]
  exact if_pos ⟨haddr, hmask⟩

/-! ### An entry with a parity error -/

theorem Chip.rollBack_sram {v : Chip} {c tw : Nat} {m : MmInfo} {same : Bool} (hc : c < 3) : ((v.rollBack c tw m same).chan c).sram = (v.chan c).sram := by
  have hstart : (if same then v else v.put (Reg.CH_STATE.MM_CYC c) (v.get (Reg.CH_STATE.MM_CYC c) + 1)).chans = v.chans := by split <;> rfl
  have hchan : ∀ x y : Chip, x.chans = y.chans → x.chan c = y.chan c := fun x y h => congrArg (fun p => Per3.get p c) h
  unfold Chip.rollBack
  dsimp only
  rw [hchan _ _ (put_chans ..), sram_modTwin _ _ _ hc, hchan _ _ ((irqRaise_chans ..).trans hstart)]

theorem SbEntry.flip_bad {e : SbEntry} (h : e.good = true) : ({ e with par := !e.par } : SbEntry).good = false := by
  unfold SbEntry.good at h ⊢
  rw [beq_iff_eq] at h
  simp [h]

theorem completes_storeCommit_bad (c tw : Nat) (e : SbEntry) (l : List SbEntry) (s : State) (hc : c < 3) (hstate : s.chip.chState c = 3)
    (hdrain : (s.chip.twin c tw).lead.drain = e :: l) (hgood : e.good = true) (hrb : (s.chip.twin c tw).rb = none)
    (hcyc : s.chip.get (Reg.CH_STATE.MM_CYC c) < 2) :
    Completes (.storeCommit c tw (some ⟨0, false⟩)) s (fun t => (t.twin c tw).rb = some s.chip.now ∧ t.get (Reg.MM_INFO.PARITY c) = 1 ∧
      (t.chan c).sram = (s.chip.chan c).sram ∧ (t.twin c tw).lead.drain = { e with par := !e.par } :: l) := by
  have hbad := e.flip_bad hgood
  have hflip : flipParity (e :: l) 0 = { e with par := !e.par } :: l := rfl
  have hall : s.chip.commitAll c ({ e with par := !e.par } :: l) = ({ e with par := !e.par } :: l, s.chip) := by
    simp [Chip.commitAll, hbad]
  generalize hv : s.chip.modTwin c tw (fun t => t.drained ({ e with par := !e.par } :: l)) = v
  have htwin : v.twin c tw = (s.chip.twin c tw).drained ({ e with par := !e.par } :: l) := by rw [← hv, twin_modTwin_same _ hc]
  have hsram : (v.chan c).sram = (s.chip.chan c).sram := by rw [← hv, sram_modTwin _ _ _ hc]
  have hnow : v.now = s.chip.now := by rw [← hv]; rfl
  have hvcyc : v.get (Reg.CH_STATE.MM_CYC c) = s.chip.get (Reg.CH_STATE.MM_CYC c) := by rw [← hv]; rfl
  have hback : false = true ∨ v.get (Reg.CH_STATE.MM_CYC c) ≠ 2 := .inr (by omega)
  obtain ⟨m, -, hpar, heq⟩ := v.mismatchNow_eq c tw false true false
  obtain ⟨⟨-, -, -, hshow⟩, -, hdiscard⟩ := mismatch_back (tw := tw) (m := m) hc hback
  have hvrb : (v.twin c tw).rb = none := by rw [htwin]; exact hrb
  change ∃ t, execStoreCommit c tw (some ⟨0, false⟩) s = s.become t ∧ _
  unfold execStoreCommit
  dsimp only
  rw [hdrain, hflip, if_neg (by simp [hstate]), hall]
  dsimp only
  rw [if_neg (by simp [hstate]), hv, if_pos (by simp [hbad, hvrb])]
  refine ⟨_, congrArg s.become heq, ?_⟩
  rw [hdiscard, htwin]
  refine ⟨by rw [hnow]; rfl, hshow.trans (by rw [hpar]; rfl), ?_, rfl⟩
  rw [← hsram, mismatch_eq_rollBack hc hback]
  exact rollBack_sram hc

/-- Settles O13. -/
theorem storesCommit : Obligations.StoresCommit := by
  unfold Obligations.StoresCommit
  refine ⟨fun c tw e s hc _ => completes_storeCommit c tw e s hc, fun c a k e u ha haddr hmask => ?_,
    fun c tw e l s hc _ => completes_storeCommit_bad c tw e l s hc, fun c a s hc => ⟨_, rfl, ?_⟩⟩
  · have hrom : inRom a = false := by simp [inRom]; omega
    have hbyte : ∀ l, storedByte (l ++ [e]) a = _ := fun l => storedByte_append haddr hmask
    refine ⟨?_, fun hnone => ?_⟩
    · simp [Chip.coreByte, hrom, hbyte]
    · simp [Chip.coreByte, hrom, hbyte, hnone]
  · have hchan := chan_modChan_same (u := s.chip) (fun h => { h with writeBack := h.writeBack.filter (fun x => x != a / 4 * 4) }) hc
    refine ⟨rfl, ?_, ?_, ?_, ?_⟩
    · rw [hchan]
      simp
    · rw [hchan]
    · have hlogic := congrArg Channel.logic hchan
      exact hlogic
    · have hlink := congrArg Channel.link hchan
      exact hlink

end Sys2Proof.Machine
end

section
/-!
PROOFS. Delivery of a channel's interrupts (02 R57, 03 R72).
-/
namespace Sys2Proof.Machine
open Chip

/-- The pending sources stand in rising order. -/
theorem Chip.cicMine_sorted (u : Chip) (c t : Nat) : (u.cicMine c t).Pairwise (· < ·) := by
  unfold Chip.cicMine setBits
  exact (List.pairwise_lt_range.filter _).filter _

/-- The least element of a rising list is its head. -/
theorem head_of_least {l : List Nat} {n : Nat} (hl : l.Pairwise (· < ·)) (hn : n ∈ l) (hle : ∀ m ∈ l, n ≤ m) : ∃ r, l = n :: r := by
  cases l with
  | nil => cases hn
  | cons m l =>
    rcases List.mem_cons.1 hn with rfl | hin
    · exact ⟨l, rfl⟩
    · have hlt := (List.pairwise_cons.1 hl).1 n hin
      have hge := hle m List.mem_cons_self
      omega

/-- A source that is delivered is no longer pending; every other source is as before. -/
theorem testBit_clear_source (p n m : Nat) : (if p.testBit n then p - 2 ^ n else p).testBit m = (p.testBit m && n != m) := by
  split
  · rename_i h
    exact testBit_sub_two_pow n p m h
  · rename_i h
    by_cases hm : n = m
    · subst hm; simpa using h
    · simp [hm]

/-- Settles O14. -/
theorem channelInterrupts : Obligations.ChannelInterrupts := by
  unfold Obligations.ChannelInterrupts
  refine ⟨fun c tw n s hc _ hstate => ?_, fun c tw s h => ?_⟩
  · intro x hrb hheld hstopped hreplay hfifo hlog hn hleast hmie
    obtain ⟨r, hmine⟩ := head_of_least (cicMine_sorted ..) hn hleast
    have hrun : ¬ (s.chip.chState c ≠ 3 ∨ x.rb.isSome = true ∨ x.held = true ∨ x.stopped = true ∨ x.replay < x.log.length ∨ 16 ≤ x.fifo.length ∨
        128 ≤ x.log.length) := by
      simp [hstate, hrb, hheld, hstopped]
      omega
    have hwake : ∀ u : Chip, (u.modTwin c tw fun t => { t with halted := false }).twin c tw = { u.twin c tw with halted := false } := fun u =>
      twin_modTwin_same _ hc
    change ∃ t, execChannelInterrupt c tw s = s.become t ∧ _
    unfold execChannelInterrupt
    dsimp only
    rw [if_neg hrun, hmine]
    dsimp only
    rw [if_neg (by simpa using hmie)]
    by_cases hmasked : x.lead.priv = 3 ∧ (rvStatus x.lead.arch).testBit 3 = false
    · rw [if_pos hmasked]
      refine ⟨_, rfl, ?_⟩
      rw [if_pos hmasked, hwake]
      exact ⟨rfl, rfl, rfl, rfl⟩
    · rw [if_neg hmasked]
      refine ⟨_, rfl, ?_⟩
      have hcic : ∀ (u : Chip) (k : Cic) (g : Twin → Twin), (({ u with cic := u.cic.set c k } : Chip).modTwin c tw g).cic.get c = k := fun u k g =>
        Per3.get_set_same hc
      have htwin : ∀ (u : Chip) (k : Cic) (g : Twin → Twin), (({ u with cic := u.cic.set c k } : Chip).modTwin c tw g).twin c tw = g (u.twin c tw) :=
        fun u k g => twin_modTwin_same (u := { u with cic := u.cic.set c k }) g hc
      rw [if_neg hmasked, hcic, htwin, hwake]
      refine ⟨rfl, rfl, ?_, ?_, fun m hm => ?_, rfl, rfl, rfl⟩
      · exact (testBit_clear_source _ _ _).trans (by simp)
      · simp
      · rw [testBit_clear_source, bne_iff_ne.2 (Ne.symm hm), Bool.and_true]
        rfl
  · change ∃ t, execChannelInterrupt c tw s = s.become t ∧ t = s.chip
    refine ⟨_, ?_, rfl⟩
    unfold execChannelInterrupt
    dsimp only
    split
    · rfl
    · split
      · rfl
      · rename_i hmine
        rw [if_pos]
        rcases h with h | h
        · simp [h] at hmine
        · simp [h]

end Sys2Proof.Machine
end

section
/-!
PROOFS. The end of a rollback, the loss of a channel, its automatic reset and its SELFTEST (03 R83, R85, R86, R91, R95 to R98).
-/
namespace Sys2Proof.Machine
open Chip

theorem Chip.twin_until (u : Chip) (t c tw : Nat) : (u.until t).twin c tw = u.twin c tw := rfl

/-! ### ROLLBACK_DONE -/

/-- What the end of a rollback shows: its duration, its twin, and that the rollback is over. -/
def Chip.rollbackShown (v : Chip) (c tw ns : Nat) : Chip :=
  (((v.put (if tw = 0 then Reg.CH_STATE.RB_LT c else Reg.CH_STATE.RB_LK c) 0).put (Reg.CH_RB.LAST_NS c) ns).put (Reg.CH_RB.TWIN c) tw).satInc
    (Reg.CH_RB.TOTAL c)

theorem Chip.rollbackShown_get {v : Chip} {c tw ns : Nat} (hc : c < 3) (htw : tw < 2) (hns : ns ≤ 4000) :
    (v.rollbackShown c tw ns).get (Reg.CH_RB.LAST_NS c) = ns ∧ (v.rollbackShown c tw ns).get (Reg.CH_RB.TWIN c) = tw ∧
      (v.rollbackShown c tw ns).get (if tw = 0 then Reg.CH_STATE.RB_LT c else Reg.CH_STATE.RB_LK c) = 0 ∧ (v.rollbackShown c tw ns).chState c = v.chState c := by
  generalize hrb : (if tw = 0 then Reg.CH_STATE.RB_LT c else Reg.CH_STATE.RB_LK c) = rb
  have hkeys := (show ∀ c < 3, (Reg.CH_RB.TOTAL c).key ∉ [(Reg.CH_RB.LAST_NS c).key, (Reg.CH_RB.TWIN c).key, (Reg.CH_STATE.RB_LT c).key,
      (Reg.CH_STATE.RB_LK c).key, (Reg.CH_STATE.STATE c).key] ∧
    (Reg.CH_RB.TWIN c).key ∉ [(Reg.CH_RB.LAST_NS c).key, (Reg.CH_STATE.RB_LT c).key, (Reg.CH_STATE.RB_LK c).key, (Reg.CH_STATE.STATE c).key] ∧
    (Reg.CH_RB.LAST_NS c).key ∉ [(Reg.CH_STATE.RB_LT c).key, (Reg.CH_STATE.RB_LK c).key, (Reg.CH_STATE.STATE c).key] ∧
    (Reg.CH_STATE.RB_LT c).key ≠ (Reg.CH_STATE.STATE c).key ∧ (Reg.CH_STATE.RB_LK c).key ≠ (Reg.CH_STATE.STATE c).key by decide) c hc
  simp only [List.mem_cons, List.not_mem_nil, or_false, not_or] at hkeys
  obtain ⟨⟨a1, a2, a3, a4, a5⟩, ⟨b1, b2, b3, b4⟩, ⟨c1, c2, c3⟩, d1, d2⟩ := hkeys
  have hrbKeys : (Reg.CH_RB.TOTAL c).key ≠ rb.key ∧ (Reg.CH_RB.TWIN c).key ≠ rb.key ∧ (Reg.CH_RB.LAST_NS c).key ≠ rb.key ∧ rb.key ≠ (Reg.CH_STATE.STATE c).key := by
    rw [← hrb]
    split
    · exact ⟨a3, b2, c1, d1⟩
    · exact ⟨a4, b3, c2, d2⟩
  obtain ⟨r1, r2, r3, r4⟩ := hrbKeys
  unfold Chip.rollbackShown Chip.chState
  rw [hrb]
  simp only [get_satInc_ne _ _ _ a1, get_satInc_ne _ _ _ a2, get_satInc_ne _ _ _ a5, get_satInc_ne _ _ _ r1, get_put_ne _ _ _ _ b1, get_put_ne _ _ _ _ b4,
    get_put_ne _ _ _ _ r2, get_put_ne _ _ _ _ r3, get_put_ne _ _ _ _ c3, get_put_ne _ _ _ _ r4, get_put_same]
  refine ⟨Nat.mod_eq_of_lt ?_, Nat.mod_eq_of_lt ?_, Nat.zero_mod _, trivial⟩
  · exact lt_of_le_of_lt hns (show 4000 < 2 ^ 16 by decide)
  · exact htw

theorem Chip.rollbackShown_chans (v : Chip) (c tw ns : Nat) : (v.rollbackShown c tw ns).chans = v.chans := rfl

/-- A rollback ends with both cores restored (R83, R85). -/
theorem completes_rollbackDone (c tw ns t0 : Nat) (s : State) (hc : c < 3) (htw : tw < 2) (hns : ns ≤ 4000) (hrb : (s.chip.twin c tw).rb = some t0)
    (hredo : (s.chip.twin c tw).redo = []) (hlead : (s.chip.twin c tw).lead.committed.good = true)
    (htrail : (s.chip.twin c tw).trail.committed.good = true) :
    Completes (.rollbackDone c tw ns false) s (fun t => (t.twin c tw).rb = none ∧
      (t.twin c tw).halted = ((s.chip.twin c tw).lead.committed.wfi && (s.chip.twin c tw).log == []) ∧
      (t.twin c tw).lead.arch = (s.chip.twin c tw).lead.committed.words.map (fun w => w % 2 ^ 32) ∧
      (t.twin c tw).trail.arch = (s.chip.twin c tw).trail.committed.words.map (fun w => w % 2 ^ 32) ∧
      t.get (Reg.CH_RB.LAST_NS c) = ns ∧ t.get (Reg.CH_RB.TWIN c) = tw ∧
      t.get (if tw = 0 then Reg.CH_STATE.RB_LT c else Reg.CH_STATE.RB_LK c) = 0 ∧ t.chState c = s.chip.chState c) := by
  have hend : ∀ (v : Chip) (data : List Nat) (f : Nat), ((v.irqRaise (chPage c) (chSrc c) 1 data).transientFault f).chans = v.chans ∧
      ChRegs c [] v ((v.irqRaise (chPage c) (chSrc c) 1 data).transientFault f) := fun v data f =>
    ⟨(faultEvent_within.same .chans (by decide)).trans (irqRaise_chans ..),
      (irqRaise_regs hc).trans (.of_within hc faultEvent_within (by rfl))⟩
  have hrb' : (if tw = 0 then Reg.CH_STATE.RB_LT c else Reg.CH_STATE.RB_LK c).OfChan c := by
    split
    · exact Fld.ofChan_slot 0x40200040 hc rfl (show 3 < 32 by decide) (by decide)
    · exact Fld.ofChan_slot 0x40200040 hc rfl (show 4 < 32 by decide) (by decide)
  change ∃ t, execRollbackDone c tw ns false s = s.become t ∧ _
  unfold execRollbackDone
  dsimp only
  rw [hrb]
  dsimp only
  rw [if_neg (by omega), twin_until, if_neg (by simp [hlead, htrail]), if_pos hredo]
  have hresume : ((s.chip.until (t0 + (ns + 9) / 10)).modTwin c tw Twin.resume).twin c tw = (s.chip.twin c tw).resume := twin_modTwin_same _ hc
  have hstate : ((s.chip.until (t0 + (ns + 9) / 10)).modTwin c tw Twin.resume).chState c = s.chip.chState c := rfl
  refine ⟨((((s.chip.until (t0 + (ns + 9) / 10)).modTwin c tw Twin.resume).rollbackShown c tw ns).irqRaise (chPage c) (chSrc c) 1
    [tw, ns, (((s.chip.until (t0 + (ns + 9) / 10)).modTwin c tw Twin.resume).rollbackShown c tw ns).get (Reg.CH_STATE.MM_CYC c)]).transientFault
    (0x5000 + c * 0x100 + tw + 1), rfl, ?_⟩
  generalize (s.chip.until (t0 + (ns + 9) / 10)).modTwin c tw Twin.resume = v at hresume hstate
  obtain ⟨hlast, htwin, hzero, hst⟩ := rollbackShown_get (v := v) hc htw hns
  obtain ⟨hchans, hreg⟩ := hend (v.rollbackShown c tw ns) [tw, ns, (v.rollbackShown c tw ns).get (Reg.CH_STATE.MM_CYC c)] (0x5000 + c * 0x100 + tw + 1)
  rw [twin_of_chans (hchans.trans (rollbackShown_chans ..)), hresume]
  refine ⟨rfl, ?_, rfl, rfl, ?_, ?_, ?_, ?_⟩
  · simp [Twin.resume, hredo]
  · exact (hreg _ (Fld.ofChan_slot 0x40200058 hc rfl (show 0 < 32 by decide) (by decide)) List.not_mem_nil).trans hlast
  · exact (hreg _ (Fld.ofChan_slot 0x40200058 hc rfl (show 16 < 32 by decide) (by decide)) List.not_mem_nil).trans htwin
  · exact (hreg _ hrb' List.not_mem_nil).trans hzero
  · exact (hreg _ (Reg.CH_STATE.STATE_ofChan hc) List.not_mem_nil).trans (hst.trans hstate)

/-- A rollback that does not end well loses the channel (R86). -/
theorem completes_rollbackDone_bad (c tw ns t0 : Nat) (s : State) (hc : c < 3) (hstate : s.chip.chState c = 3) (hrb : (s.chip.twin c tw).rb = some t0) :
    Completes (.rollbackDone c tw ns true) s (fun t => t.get (Reg.CH_LOSS.CAUSE c) = (if 4000 < ns then 4 else 5) ∧ (t.chState c = 4 ∨ t.chState c = 5) ∧
      (t.chan c).logic = {} ∧ (t.chan c).link = {}) := by
  have hlost : ∀ (t k : Nat), Lost c k (s.chip.until t) ((s.chip.until t).chLost c k) := fun t k => chLost_lost hc (.inr (.inr hstate))
  change ∃ t, execRollbackDone c tw ns true s = s.become t ∧ _
  unfold execRollbackDone
  dsimp only
  rw [hrb]
  dsimp only
  by_cases hlate : 4000 < ns
  · rw [if_pos hlate, if_pos hlate]
    have h := hlost (t0 + 400) 4
    exact ⟨_, rfl, h.cause, h.stands, h.logic, h.link⟩
  · rw [if_neg hlate, if_neg hlate, if_pos (.inl rfl)]
    have h := hlost (t0 + (ns + 9) / 10) 5
    exact ⟨_, rfl, h.cause, h.stands, h.logic, h.link⟩

/-- A rollback that does not end loses the channel with RB_TIMEOUT (R85). -/
theorem completes_rbTimeout (c tw t0 : Nat) (s : State) (hc : c < 3) (hstate : s.chip.chState c = 3) (hrb : (s.chip.twin c tw).rb = some t0) :
    Completes (.rbTimeout c tw) s (fun t => t.get (Reg.CH_LOSS.CAUSE c) = 4 ∧ (t.chan c).logic = {} ∧ (t.chan c).link = {} ∧
      t.get (Reg.CH_LOSS.CYCLE c) = s.chip.get Reg.MIR_CYCLE.COUNT % 2 ^ 24 ∧
      t.chState c = (if s.chip.get (Reg.CH_CFG.REINT_MAX c) ≤ t.get (Reg.CH_REINT.LOSSES c) then 5 else 4)) := by
  have h : Lost c 4 (s.chip.until (t0 + 400)) ((s.chip.until (t0 + 400)).chLost c 4) := chLost_lost hc (.inr (.inr hstate))
  change ∃ t, execRbTimeout c tw s = s.become t ∧ _
  unfold execRbTimeout
  dsimp only
  rw [hrb]
  refine ⟨_, rfl, h.cause, h.logic, h.link, h.cycle, ?_⟩
  rw [h.state]
  have hrun : ¬ ((s.chip.until (t0 + 400)).chState c = 1 ∧ ((s.chip.until (t0 + 400)).chan c).afterReset = true) := fun hx => by
    have : s.chip.chState c = 1 := hx.1
    omega
  simp [hrun]
  rfl

/-! ### The automatic reset -/

/-- A field among those that return to their reset value. -/
theorem Chip.resetFields_get {l : List Fld} {f : Fld} (hf : f ∈ l) (hkeys : ∀ g ∈ l, g.key = f.key → g = f) (u : Chip) :
    (u.resetFields l).get f = f.rst % 2 ^ f.width := by
  have hkeep : ∀ (l : List Fld), (∀ g ∈ l, g.key = f.key → g = f) → ∀ u : Chip, u.get f = f.rst % 2 ^ f.width →
      (u.resetFields l).get f = f.rst % 2 ^ f.width := fun l => by
    induction l with
    | nil => exact fun _ u h => h
    | cons g l ih =>
      refine fun hl u h => ih (fun x hx => hl x (List.mem_cons_of_mem g hx)) _ ?_
      by_cases hg : g.key = f.key
      · rw [hl g List.mem_cons_self hg]
        exact get_put_same ..
      · rwa [get_put_ne _ _ _ _ hg]
  induction l generalizing u with
  | nil => cases hf
  | cons g l ih =>
    have hrest : ∀ x ∈ l, x.key = f.key → x = f := fun x hx => hkeys x (List.mem_cons_of_mem g hx)
    rcases List.mem_cons.1 hf with rfl | hin
    · exact hkeep l hrest _ (get_put_same ..)
    · exact ih hin hrest _

theorem Chip.resetFields_now (u : Chip) (l : List Fld) : (u.resetFields l).now = u.now := foldl_keeps (g := fun (u : Chip) (f : Fld) => u.put f f.rst) Chip.now (fun _ _ => rfl) l u

theorem Chip.resetFields_chans (u : Chip) (l : List Fld) : (u.resetFields l).chans = u.chans := foldl_keeps (g := fun (u : Chip) (f : Fld) => u.put f f.rst) Chip.chans (fun _ _ => rfl) l u

theorem Chip.chEnter_now (u : Chip) (c new : Nat) : (u.chEnter c new).now = u.now := by
  unfold Chip.chEnter
  dsimp only
  split
  · rfl
  · exact (raiseAfter_now ..).trans (irq_now ..)

theorem Chip.resyncLost_now (u : Chip) (c : Nat) : (u.resyncLost c).now = u.now := by
  unfold Chip.resyncLost
  dsimp only
  split_ifs <;> rfl

/-- A channel in reset: its registers of Table 3.6 at their reset values, its memory empty, its losses kept. -/
theorem Chip.chHeld_shows {u : Chip} {c : Nat} (hc : c < 3) : ((u.chHeld c).chan c) = { losses := (u.chan c).losses } ∧
    (u.chHeld c).get (Reg.CH_RB.TOTAL c) = 0 ∧ (u.chHeld c).now = u.now := by
  have hreset : ∀ v : Chip, (((v.twinsReset c).resyncLost c).chan c).losses = (v.chan c).losses ∧ ((v.twinsReset c).resyncLost c).now = v.now := fun v => by
    have hlosses := congrArg Channel.losses (chan_modChan_same (u := v) (fun h => { h with logic := {}, link := {} }) hc)
    have hsame : ((v.twinsReset c).resyncLost c).chans = (v.twinsReset c).chans := resyncLost_within.same .chans (by decide)
    exact ⟨(congrArg (fun p => (Per3.get p c).losses) hsame).trans hlosses, resyncLost_now ..⟩
  have hend : ∀ v : Chip, (((v.percHeld c).chEnter c 0).resetFields (chResetFields c)).chans = v.chans ∧
      (((v.percHeld c).chEnter c 0).resetFields (chResetFields c)).now = v.now := fun v =>
    ⟨(resetFields_chans ..).trans ((chEnter_chans ..).trans (percHeld_within.same .chans (by decide))),
      (resetFields_now ..).trans ((chEnter_now ..).trans rfl)⟩
  have hmid : ∀ (v : Chip) (x : Per3 Cic) (y : Per3 Rt), ({ v.modChan c (fun h => { losses := h.losses }) with cic := x, rt := y } : Chip).chan c =
      { losses := (v.chan c).losses } := fun v x y => chan_modChan_same (u := v) (fun h => { losses := h.losses }) hc
  obtain ⟨hlosses, hnow⟩ := hreset u
  unfold Chip.chHeld
  dsimp only
  refine ⟨?_, ?_, (hend _).2.trans hnow⟩
  · exact (congrArg (fun p => Per3.get p c) (hend _).1).trans ((hmid _ _ _).trans (by rw [hlosses]))
  · exact resetFields_get (by simp [chResetFields]) ((show ∀ c < 3, ∀ g ∈ chResetFields c, g.key = (Reg.CH_RB.TOTAL c).key → g = Reg.CH_RB.TOTAL c by decide) c hc) _

/-- The automatic reset of a channel (R95). -/
theorem Chip.chReset_shows {u : Chip} {c : Nat} (hc : c < 3) : (u.chReset c).chState c = 1 ∧ ((u.chReset c).chan c).afterReset = true ∧
    ((u.chReset c).chan c).sram = [] ∧ ((u.chReset c).chan c).losses = (u.chan c).losses ∧ (u.chReset c).get (Reg.CH_RB.TOTAL c) = 0 ∧
    (u.chReset c).now = u.now := by
  obtain ⟨hchan, htotal, hnow⟩ := chHeld_shows (u := u) hc
  have hrw : u.chReset c = ((u.chHeld c).modChan c (fun h => { h with afterReset := true })).chEnter c 1 := rfl
  rw [hrw]
  generalize u.chHeld c = v at hchan htotal hnow
  have hmod := chan_modChan_same (u := v) (fun h => { h with afterReset := true }) hc
  rw [hchan] at hmod
  generalize hw : v.modChan c (fun h => { h with afterReset := true }) = w at hmod
  have hwtotal : w.get (Reg.CH_RB.TOTAL c) = 0 := by rw [← hw]; exact htotal
  have hwnow : w.now = u.now := by rw [← hw]; exact hnow
  have hend : (w.chEnter c 1).chan c = { losses := (u.chan c).losses, afterReset := true } :=
    (congrArg (fun p => Per3.get p c) (chEnter_chans w c 1)).trans hmod
  have hreg : (w.chEnter c 1).get (Reg.CH_RB.TOTAL c) = w.get (Reg.CH_RB.TOTAL c) :=
    ChRegs.chEnter (l := [(Reg.CH_STATE.STATE c).key]) hc (List.mem_singleton.2 rfl) _
      (Fld.ofChan_slot 0x40200058 hc rfl (show 24 < 32 by decide) (by decide))
      ((show ∀ c < 3, (Reg.CH_RB.TOTAL c).key ∉ [(Reg.CH_STATE.STATE c).key] by decide) c hc)
  refine ⟨chEnter_chState hc (by decide), ?_, ?_, ?_, hreg.trans hwtotal, (chEnter_now ..).trans hwnow⟩
  all_goals rw [hend]

theorem completes_channelLostTimeout (c t0 : Nat) (s : State) (hc : c < 3) (hstate : s.chip.chState c = 4) (hlost : (s.chip.chan c).lostAt = some t0) :
    Completes (.channelLostTimeout c) s (fun t => t.now = max s.chip.now (t0 + 1000000) ∧
      if s.chip.resetDiscards 5 then t.chState c = 4 ∧ (t.chan c).lostAt = none
      else t.chState c = 1 ∧ (t.chan c).afterReset = true ∧
        (t.chan c).sram = [] ∧ (t.chan c).losses = (s.chip.chan c).losses ∧ t.get (Reg.CH_RB.TOTAL c) = 0) := by
  have hdiscards : (s.chip.until (t0 + ms 10)).resetDiscards 5 = s.chip.resetDiscards 5 := by
    unfold Chip.resetDiscards
    have hhold : (s.chip.until (t0 + ms 10)).weir.hold = s.chip.weir.hold := by
      change (if s.chip.weir.off then s.chip.weir else _).hold = _
      split <;> rfl
    rw [hhold]
    rfl
  have hnow : (s.chip.until (t0 + ms 10)).now = max s.chip.now (t0 + 1000000) := until_now ..
  change ∃ t, execChannelLostTimeout c s = s.become t ∧ _
  unfold execChannelLostTimeout
  dsimp only
  rw [hstate, hlost]
  simp only [hdiscards]
  generalize hv : s.chip.until (t0 + ms 10) = v at hnow
  have hvchan : v.chan c = s.chip.chan c := by rw [← hv]; rfl
  have hvstate : v.chState c = 4 := by rw [← hv]; exact hstate
  by_cases hd : s.chip.resetDiscards 5 = true
  · simp only [hd, if_true]
    refine ⟨_, rfl, hnow, hvstate, ?_⟩
    rw [chan_modChan_same _ hc]
  · simp only [hd, Bool.false_eq_true, if_false]
    obtain ⟨hst, hafter, hsram, hlosses, htotal, hrnow⟩ := chReset_shows (u := v) hc
    exact ⟨_, rfl, hrnow.trans hnow, hst, hafter, hsram, hlosses.trans (by rw [hvchan]), htotal⟩

/-! ### SELFTEST -/

theorem completes_channelSelftestDone_pass (c : Nat) (s : State) (hc : c < 3) (hstate : s.chip.chState c = 1) :
    Completes (.channelSelftestDone c true true []) s (fun t => t.get (Reg.CH_INJ.BOOT_OK c) = 1 ∧
      if (s.chip.chan c).afterReset then t.chState c = 2 else t.chState c = 1 ∧ (t.chan c).passed = true) := by
  have hOK : (Reg.CH_INJ.BOOT_OK c).OfChan c := Fld.ofChan_slot 0x40200054 hc rfl (show 18 < 32 by decide) (by decide)
  have hnot := (show ∀ c < 3, (Reg.CH_INJ.BOOT_OK c).key ∉ [(Reg.CH_STATE.STATE c).key] by decide) c hc
  have hne : (Reg.CH_INJ.BOOT_OK c).key ≠ (Reg.CH_STATE.STATE c).key := by simpa using hnot
  change ∃ t, execChannelSelftestDone c true true [] s = s.become t ∧ _
  unfold execChannelSelftestDone
  dsimp only
  rw [if_neg (by simp [hstate])]
  generalize hv : s.chip.put (Reg.CH_INJ.BOOT_OK c) (lvl true) = v
  have hvok : v.get (Reg.CH_INJ.BOOT_OK c) = 1 := by rw [← hv]; exact get_put_same ..
  have hvchan : v.chan c = s.chip.chan c := by rw [← hv]; rfl
  have hvstate : v.chState c = 1 := by rw [← hv]; exact (get_put_ne _ _ _ _ hne).trans hstate
  simp only [Chip.marchRepair, Bool.not_true, Bool.or_self, Bool.false_eq_true, if_false, hvchan]
  by_cases hafter : (s.chip.chan c).afterReset = true
  · simp only [hafter, if_true]
    refine ⟨_, rfl, ?_, chEnter_chState hc (by decide)⟩
    exact (ChRegs.chEnter hc (List.mem_singleton.2 rfl) _ hOK hnot).trans hvok
  · simp only [hafter, Bool.false_eq_true, if_false]
    refine ⟨_, rfl, hvok, hvstate, ?_⟩
    rw [chan_modChan_same _ hc]

/-- A failed comparator test loses the channel with CMP_DEAD_BOOT (R97, R98). -/
theorem completes_channelSelftestDone_dead (c : Nat) (march : Bool) (s : State) (hc : c < 3) (hstate : s.chip.chState c = 1) :
    Completes (.channelSelftestDone c false march []) s (fun t => t.get (Reg.CH_INJ.BOOT_OK c) = 0 ∧ t.get (Reg.CH_LOSS.CAUSE c) = 2 ∧
      ((s.chip.chan c).afterReset = true → t.chState c = 5) ∧ (t.chState c = 4 ∨ t.chState c = 5)) := by
  have hOK : (Reg.CH_INJ.BOOT_OK c).OfChan c := Fld.ofChan_slot 0x40200054 hc rfl (show 18 < 32 by decide) (by decide)
  have hkeys := (show ∀ c < 3, (Reg.CH_INJ.BOOT_OK c).key ∉ lossKeys c ∧ (Reg.CH_INJ.BOOT_OK c).key ≠ (Reg.CH_STATE.STATE c).key by decide) c hc
  change ∃ t, execChannelSelftestDone c false march [] s = s.become t ∧ _
  unfold execChannelSelftestDone
  dsimp only
  rw [if_neg (by simp [hstate])]
  generalize hv : s.chip.put (Reg.CH_INJ.BOOT_OK c) (lvl false) = v
  have hvok : v.get (Reg.CH_INJ.BOOT_OK c) = 0 := by rw [← hv]; exact get_put_same ..
  have hvchan : v.chan c = s.chip.chan c := by rw [← hv]; rfl
  have hvstate : v.chState c = 1 := by rw [← hv]; exact (get_put_ne _ _ _ _ hkeys.2).trans hstate
  simp only [Chip.marchRepair, Bool.not_false, if_true]
  have h : Lost c 2 v (v.chLost c 2) := chLost_lost hc (.inl hvstate)
  refine ⟨_, rfl, (h.regs _ hOK hkeys.1).trans hvok, h.cause, fun hafter => ?_, h.stands⟩
  rw [h.state, if_pos (.inl ⟨hvstate, by rw [hvchan]; exact hafter⟩)]

/-! ### Age of losses -/

theorem signed_24_gt (v : Nat) : -1000000000 < signed 24 v := by
  unfold signed
  split <;> omega

/-- Time goes on to an instant of Weir time, whatever RATE and the phase accumulator hold. -/
theorem Chip.untilWeir_reaches {u : Chip} {t : Nat} (hoff : u.weir.off = false) : t ≤ (u.untilWeir t).weir.time := by
  unfold Chip.untilWeir
  extract_lets d r
  split
  · rename_i h
    simpa [hoff] using h
  · have hr : 0 < r := by have := signed_24_gt (u.get Reg.WR_RATE.RATE); omega
    have hceil : d ≤ r * ((d + r - 1) / r) := by
      have h1 := Int.lt_mul_ediv_self_add (x := d + r - 1) hr
      omega
    have hn : d ≤ r * (((d + r - 1) / r).toNat : Int) := hceil.trans (Int.mul_le_mul_of_nonneg_left (Int.self_le_toNat _) hr.le)
    generalize ((d + r - 1) / r).toNat = n at hn
    have htime : ((u.advance n).weir.time : Int) = ((u.weir.time : Int) + n + (u.weir.acc + n * signed 24 (u.get Reg.WR_RATE.RATE)) / 1000000000).toNat := by
      unfold Chip.advance
      simp [hoff]
    have hdiv : (t : Int) ≤ (u.weir.time : Int) + n + (u.weir.acc + n * signed 24 (u.get Reg.WR_RATE.RATE)) / 1000000000 := by
      have hprod : r * (n : Int) = 1000000000 * n + n * signed 24 (u.get Reg.WR_RATE.RATE) := by simp only [r]; ring
      rw [hprod] at hn
      generalize (n : Int) * signed 24 (u.get Reg.WR_RATE.RATE) = m at hn ⊢
      omega
    omega

theorem mem_recentLosses {now x : Nat} {l : List Nat} : x ∈ recentLosses now l ↔ x ∈ l ∧ now < x + sec 86400 := by
  unfold recentLosses
  rw [List.mem_filter, decide_eq_true_iff]

theorem chanLosses_shown {c : Nat} {v : Chip} {l : List Nat} (hc : c < 3) :
    (((v.modChan c fun h => { h with losses := l }).put (Reg.CH_REINT.LOSSES c) (min l.length 15)).chan c).losses = l :=
  congrArg Channel.losses (chan_modChan_same (u := v) (fun h => { h with losses := l }) hc)

/-- What the register and the channel show once the list of losses is `l`. -/
theorem lossesShown {c : Nat} {v : Chip} {l : List Nat} {t0 day : Nat} {old : List Nat} (hc : c < 3)
    (hin : ∀ x ∈ l, x ∈ old ∧ v.weir.time < x + day) (hfirst : t0 ∉ l) :
    let t := (v.modChan c fun h => { h with losses := l }).put (Reg.CH_REINT.LOSSES c) (min l.length 15)
    t.get (Reg.CH_REINT.LOSSES c) = min (t.chan c).losses.length 15 ∧
      (∀ x ∈ (t.chan c).losses, x ∈ old ∧ t.weir.time < x + day) ∧ t0 ∉ (t.chan c).losses := by
  intro t
  have hlosses : (t.chan c).losses = l := chanLosses_shown hc
  have hget : t.get (Reg.CH_REINT.LOSSES c) = min l.length 15 :=
    (get_put_same ..).trans (Nat.mod_eq_of_lt (lt_of_le_of_lt (Nat.min_le_right _ _) (show 15 < 2 ^ 4 by decide)))
  rw [hlosses]
  exact ⟨hget, hin, hfirst⟩

theorem completes_reintLossAgeOut (c t0 : Nat) (rest : List Nat) (s : State) (hc : c < 3) (hoff : s.chip.weir.off = false)
    (hlosses : (s.chip.chan c).losses = t0 :: rest) :
    Completes (.reintLossAgeOut c) s (fun t => t.get (Reg.CH_REINT.LOSSES c) = min (t.chan c).losses.length 15 ∧
      (∀ x ∈ (t.chan c).losses, x ∈ (s.chip.chan c).losses ∧ t.weir.time < x + 8640000000000) ∧ t0 ∉ (t.chan c).losses) := by
  have hday : sec 86400 = 8640000000000 := rfl
  have hreach := Chip.untilWeir_reaches (u := s.chip) (t := t0 + sec 86400) hoff
  have hsame : (s.chip.untilWeir (t0 + sec 86400)).chan c = s.chip.chan c :=
    congrArg (fun p => Per3.get p c) (untilWeir_within.same .chans (by decide))
  have hrun : execReintLossAgeOut c s = s.become (((s.chip.untilWeir (t0 + sec 86400)).modChan c fun h => { h with losses := recentLosses (s.chip.untilWeir (t0 + sec 86400)).weir.time (s.chip.chan c).losses }).put (Reg.CH_REINT.LOSSES c) (min (recentLosses (s.chip.untilWeir (t0 + sec 86400)).weir.time (s.chip.chan c).losses).length 15)) := by
    unfold execReintLossAgeOut
    dsimp only
    rw [hlosses]
    dsimp only
    rw [hsame, hlosses]
  rw [← hday]
  refine ⟨_, hrun, lossesShown hc (fun x hx => mem_recentLosses.1 hx) fun hin => ?_⟩
  exact absurd (mem_recentLosses.1 hin).2 (Nat.not_lt.2 hreach)

/-- Settles O15. -/
theorem channelRestarts : Obligations.ChannelRestarts := by
  unfold Obligations.ChannelRestarts
  exact ⟨completes_rollbackDone, fun c tw ns t0 s hc _ => completes_rollbackDone_bad c tw ns t0 s hc,
    fun c tw t0 s hc _ => completes_rbTimeout c tw t0 s hc, completes_channelLostTimeout, completes_channelSelftestDone_pass,
    completes_channelSelftestDone_dead, completes_reintLossAgeOut⟩

end Sys2Proof.Machine
end

section
/-!
PROOFS. Operations in which no time passes. `Chip.still` is elapsed time with the part of Weir that neither an entry to the safe state nor a
report changes; the operations of an entry keep it.
-/
namespace Sys2Proof.Machine
open Chip

/-- Weir without its enables, its safe-state line, the boot hold, the time of the cause, the open check and the arming of the power-fail
monitor. -/
def Weir.still (w : Weir) : Weir :=
  { w with en := Rails.low 32, line := Rails.low 1, hold := false, causeAt := 0, openCheck := none, pfArmed := true }

/-- Elapsed time and the part of Weir that an entry keeps. -/
def Chip.still (u : Chip) : Nat × Weir := (u.now, u.weir.still)

theorem Chip.still_of {u t : Chip} (hnow : t.now = u.now) (hweir : t.weir = u.weir) : t.still = u.still := by
  unfold Chip.still
  rw [hnow, hweir]

theorem Chip.still_now {u t : Chip} (h : t.still = u.still) : t.now = u.now := congrArg Prod.fst h

/-- A field of Weir that `Weir.still` keeps. -/
theorem Chip.still_field {β : Type} {u t : Chip} (p : Weir → β) (hp : ∀ w : Weir, p w.still = p w) (h : t.still = u.still) : p t.weir = p u.weir :=
  (hp _).symm.trans ((congrArg (fun x : Nat × Weir => p x.2) h).trans (hp _))

theorem Chip.still_time {u t : Chip} (h : t.still = u.still) : t.weir.time = u.weir.time := still_field Weir.time (fun _ => rfl) h

@[simp] theorem Chip.put_still (u : Chip) (f : Fld) (v : Nat) : (u.put f v).still = u.still := rfl

@[simp] theorem Chip.satInc_still (u : Chip) (f : Fld) : (u.satInc f).still = u.still := rfl

@[simp] theorem Chip.modOut_still (u : Chip) (n : Nat) (g : SluiceOut → SluiceOut) : (u.modOut n g).still = u.still := rfl

@[simp] theorem Chip.putBit_still (u : Chip) (f : Fld) (n : Nat) (b : Bool) : (u.putBit f n b).still = u.still := by
  cases b
  · exact still_of (clearBit_now ..) (clearBit_weir ..)
  · exact still_of (setBit_now ..) (setBit_weir ..)

@[simp] theorem Chip.irq_still (u : Chip) (pg b : Nat) : (u.irq pg b).still = u.still := still_of (irq_now ..) (irq_weir ..)

@[simp] theorem Chip.raise_still (u : Chip) (src code : Nat) (data : List Nat) : (u.raise src code data).still = u.still :=
  still_of (raise_now ..) (raise_weir ..)

@[simp] theorem Chip.raiseAfter_still (u : Chip) (src code : Nat) (data : List Nat) : (u.raiseAfter src code data).still = u.still :=
  still_of (raiseAfter_now ..) (raiseAfter_weir ..)

@[simp] theorem Chip.raiseSince_still (u : Chip) (src code : Nat) (data : List Nat) (t : Nat) : (u.raiseSince src code data t).still = u.still := by
  unfold Chip.raiseSince
  dsimp only
  split
  · rfl
  · exact still_of (stage_now ..) (stage_weir ..)

@[simp] theorem Chip.irqAfter_still (u : Chip) (pg src b : Nat) (data : List Nat) : (u.irqAfter pg src b data).still = u.still :=
  (raiseAfter_still ..).trans (irq_still ..)

@[simp] theorem Chip.free_still (u : Chip) : u.free.2.still = u.still := rfl

/-- A fold over operations in which no time passes. -/
theorem Chip.foldl_still {α : Type} {g : Chip → α → Chip} (h : ∀ t x, (g t x).still = t.still) (l : List α) (u : Chip) :
    (l.foldl g u).still = u.still := foldl_keeps Chip.still h l u

theorem Chip.foldUpTo_still {g : Chip → Nat → Chip} (h : ∀ t x, (g t x).still = t.still) (n : Nat) (u : Chip) :
    (foldUpTo n u g).still = u.still := foldl_still h _ u

/-! ### The outputs -/

@[simp] theorem Chip.enable_still (u : Chip) (n : Nat) (b : Bool) : (u.enable n b).still = u.still := by
  exact Prod.ext (still_now (t := u.putBit Reg.WR_EN.EN n b) (putBit_still u Reg.WR_EN.EN n b)) rfl

@[simp] theorem Chip.weirDemand_still (u : Chip) (n : Nat) : (u.weirDemand n).still = u.still := by
  unfold Chip.weirDemand
  split
  · rfl
  · exact enable_still ..

@[simp] theorem Chip.demand_still (u : Chip) (n : Nat) (hs ls : Bool) : (u.demand n hs ls).still = u.still := by simp [Chip.demand]

@[simp] theorem Chip.cancelTests_still (u : Chip) (n : Nat) : (u.cancelTests n).still = u.still := rfl

@[simp] theorem Chip.outEnter_still (u : Chip) (n st : Nat) (lines : Bool) : (u.outEnter n st lines).still = u.still := by simp [Chip.outEnter]

@[simp] theorem Chip.sluiceSafe_still (u : Chip) : u.sluiceSafe.still = u.still := by
  refine foldl_still (fun t n => ?_) _ u
  dsimp only
  split
  · rfl
  · split <;> simp

@[simp] theorem Chip.testDiscarded_still (u : Chip) (n reason t : Nat) : (u.testDiscarded n reason t).still = u.still := by simp [Chip.testDiscarded]

@[simp] theorem Chip.outCommand_still (u : Chip) (n : Nat) (b : Bool) : (u.outCommand n b).still = u.still := by
  unfold Chip.outCommand
  dsimp only
  split
  · rfl
  · split
    · exact modOut_still ..
    · split
      · split <;> simp
      · split
        · simp
        · split <;> simp

@[simp] theorem Chip.outImage_still (u : Chip) (img n : Nat) : (u.outImage img n).still = u.still := by
  unfold Chip.outImage
  extract_lets bit word o pending t done
  have hdone : ∀ x, (done x).still = x.still := fun x => modOut_still ..
  split
  · simp
  · split
    · rfl
    · split
      · rw [outCommand_still, hdone]
      · split
        · split
          · exact hdone u
          · rw [raiseAfter_still, irq_still, satInc_still, outCommand_still, hdone]
        · exact modOut_still ..

@[simp] theorem Chip.sluiceImage_still (u : Chip) (img : Nat) : (u.sluiceImage img).still = u.still := foldl_still (fun _ _ => outImage_still ..) _ u

/-! ### Confluence, the recorder and the power controller -/

@[simp] theorem Chip.modeChange_still (u : Chip) (mode mask c cause : Nat) : (u.modeChange mode mask c cause).still = u.still := by
  unfold Chip.modeChange
  dsimp only
  rw [irqAfter_still, foldUpTo_still fun _ _ => put_still ..]
  rfl

@[simp] theorem Chip.mirrorPublish_still (u : Chip) (task minority mask mode seq img : Nat) (msgs : List Nat) :
    (u.mirrorPublish task minority mask mode seq img msgs).still = u.still := rfl

@[simp] theorem Chip.confStop_still (u : Chip) (fcode : Nat) : (u.confStop fcode).still = u.still := by
  have hconf : ∀ (x : Chip) (v : Conf), ({ x with conf := v } : Chip).still = x.still := fun _ _ => rfl
  unfold Chip.confStop
  dsimp only
  rw [mirrorPublish_still, free_still, foldUpTo_still fun _ _ => by simp, sluiceImage_still, put_still, put_still, hconf, modeChange_still, irqAfter_still]

@[simp] theorem Chip.evrStore_still (u : Chip) (e : Ev) : (u.evrStore e).still = u.still := by
  unfold Chip.evrStore
  dsimp only
  split
  · exact irq_still ..
  · rfl

@[simp] theorem Chip.evrTrigger_still (u : Chip) (fault : Bool) : (u.evrTrigger fault).still = u.still := by
  unfold Chip.evrTrigger
  split <;> rfl

@[simp] theorem Chip.evrPlace_still (u : Chip) (e : Ev) : (u.evrPlace e).still = u.still := by
  unfold Chip.evrPlace
  split <;> simp

@[simp] theorem Chip.evrLift_still (u : Chip) (reason : Nat) : (u.evrLift reason).still = u.still := by
  unfold Chip.evrLift
  split
  · dsimp only
    rw [irq_still, evrPlace_still]
    rfl
  · rfl

@[simp] theorem Chip.evrSafeLine_still (u : Chip) : u.evrSafeLine.still = u.still := by simp [Chip.evrSafeLine]

@[simp] theorem Chip.pwrRestart_still (u : Chip) : u.pwrRestart.still = u.still := foldl_still (fun _ _ => put_still ..) _ _

@[simp] theorem Chip.pwrStart_still (u : Chip) (st : Nat) : (u.pwrStart st).still = u.still := by
  have hpwr : ∀ (x : Chip) (p : Power), ({ x with pwr := p } : Chip).still = x.still := fun _ _ => rfl
  have hlog : ∀ x : Chip, (foldUpTo 64 x fun u k => ((u.put (Reg.PWR_CLOG.TYPE k) 0).put (Reg.PWR_CLOG.INST k) 0).put (Reg.PWR_CLOG.ANSWER k) 0).still =
      x.still := fun x => foldUpTo_still (fun _ _ => by simp) 64 x
  unfold Chip.pwrStart
  dsimp only
  split <;> rw [put_still, hpwr, hlog, put_still]

@[simp] theorem Chip.pwrStartPending_still (u : Chip) : u.pwrStartPending.still = u.still := by
  unfold Chip.pwrStartPending
  dsimp only
  split
  · rfl
  · rw [pwrStart_still, put_still]

@[simp] theorem Chip.pwrWakeNow_still (u : Chip) (cause : Nat) : (u.pwrWakeNow cause).still = u.still := by
  unfold Chip.pwrWakeNow
  dsimp only
  split
  · simp
  · split
    · simp
    · split <;> rfl

@[simp] theorem Chip.pwrWake_still (u : Chip) (b : Nat) : (u.pwrWake b).still = u.still := by
  unfold Chip.pwrWake
  dsimp only
  split
  · rfl
  · split
    · rfl
    · exact pwrWakeNow_still ..

/-! ### The entry -/

@[simp] theorem Chip.faultEvent_still (u : Chip) (fcode cls : Nat) : (u.faultEvent fcode cls).still = u.still := by simp [Chip.faultEvent]

@[simp] theorem Chip.captureCause_still (u : Chip) (fcode : Nat) : (u.captureCause fcode).still = u.still := by
  have hflt : ∀ (x : Chip) (p : FaultUnit), ({ x with flt := p } : Chip).still = x.still := fun _ _ => rfl
  unfold Chip.captureCause
  dsimp only
  split
  · rfl
  · split <;> simp [hflt]

@[simp] theorem Chip.captureEntry_still (u : Chip) : u.captureEntry.still = u.still := by
  have hflt : ∀ (x : Chip) (p : FaultUnit), ({ x with flt := p } : Chip).still = x.still := fun _ _ => rfl
  unfold Chip.captureEntry
  dsimp only
  rw [raiseAfter_still, hflt]
  simp only [put_still]
  exact foldUpTo_still (fun _ _ => put_still ..) 12 u

@[simp] theorem Chip.safeLine_still (u : Chip) (fcode : Nat) : (u.safeLine fcode).still = u.still := by
  have hchans : ∀ (x : Chip) (h : Per3 Channel), ({ x with chans := h } : Chip).still = x.still := fun _ _ => rfl
  have hline : ∀ x : Chip, (x.modWeirLine true).still = x.still := fun _ => rfl
  have hports : ∀ x : Chip, (foldUpTo 3 x fun u c => (u.put (Reg.CH_STATE.RB_LT c) 0).put (Reg.CH_STATE.RB_LK c) 0).still = x.still := fun x =>
    foldUpTo_still (fun _ _ => by simp) 3 x
  have hzst : ∀ x : Chip, x.zstStop.still = x.still := fun _ => rfl
  unfold Chip.safeLine
  dsimp only
  rw [pwrWake_still, evrSafeLine_still, hline, hchans, hports]
  split
  · rw [hzst, sluiceSafe_still]
  · rw [confStop_still, hzst, sluiceSafe_still]

/-- No time passes in an entry to the safe state. -/
@[simp] theorem Chip.weirSafe_still (u : Chip) (cause : Nat) : (u.weirSafe cause).still = u.still := by
  have hlatch : ∀ (x : Chip) (v : Nat) (l : Lattice), ({ x with weir := { x.weir with hold := false, causeAt := v, openCheck := none }, lat := l } : Chip).still =
      x.still := fun _ _ _ => rfl
  have hclear : ∀ x : Chip, x.enablesClear.still = x.still := fun _ => rfl
  have hperms : ∀ x : Chip, x.permsClear.still = x.still := fun _ => rfl
  unfold Chip.weirSafe
  extract_lets +onlyGivenNames v latched
  have hv : v.still = u.still := by
    unfold v
    split
    · rfl
    · exact captureCause_still ..
  split
  · split <;> simp [hv]
  · dsimp only
    rw [safeLine_still, irqAfter_still, captureEntry_still, put_still, hperms, hlatch]
    simp [hv, hclear]

@[simp] theorem Chip.confSafe_still (u : Chip) (fcode : Nat) : (u.confSafe fcode).still = u.still := by
  have hlink : ∀ (x : Chip) (l : Link), ({ x with link := l } : Chip).still = x.still := fun _ _ => rfl
  unfold Chip.confSafe
  dsimp only
  rw [hlink, confStop_still, captureCause_still]

@[simp] theorem Chip.linkFail_still (u : Chip) (reason : Nat) (atWeir : Bool) : (u.linkFail reason atWeir).still = u.still := by
  have hlink : ∀ (x : Chip) (l : Link), ({ x with link := l } : Chip).still = x.still := fun _ _ => rfl
  unfold Chip.linkFail
  dsimp only
  rw [weirSafe_still]
  split
  · rw [hlink]; rfl
  · rw [confSafe_still, hlink]; rfl

end Sys2Proof.Machine
end

section
/-!
PROOFS. Every cause of Table 5.6 that a command brings enters the safe state (05 R173).
-/
namespace Sys2Proof.Machine
open Chip

theorem Chip.unlatched_of {u t : Chip} (hsafe : t.get Reg.WR_STAT.SAFE = u.get Reg.WR_STAT.SAFE) (hhold : t.weir.hold = u.weir.hold) :
    t.unlatched = u.unlatched := by
  unfold Chip.unlatched Chip.on
  rw [hsafe, hhold]

theorem Chip.advance_unlatched (u : Chip) (n : Nat) : (u.advance n).unlatched = u.unlatched := by
  refine unlatched_of rfl ?_
  unfold Chip.advance
  dsimp only
  split <;> rfl

theorem Chip.untilWeir_unlatched (u : Chip) (t : Nat) : (u.untilWeir t).unlatched = u.unlatched := by
  unfold Chip.untilWeir
  dsimp only
  split
  · rfl
  · exact advance_unlatched ..

theorem Chip.sluiceImage_conf (u : Chip) (img : Nat) : (u.sluiceImage img).conf = u.conf := sluiceImage_within.same .conf (by decide)

theorem Chip.mirrorPublish_voted (u : Chip) (task minority mask mode seq img : Nat) (msgs : List Nat) :
    (u.mirrorPublish task minority mask mode seq img msgs).conf.voted = u.conf.voted := rfl

theorem Chip.confStop_voted (u : Chip) (fcode : Nat) : (u.confStop fcode).conf.voted = 0 := by
  have hports : ∀ x : Chip, (foldUpTo 3 x fun u n => (u.put (Reg.CF_PSTAT.SLOTS n) 0).put (Reg.CF_PSTAT.PSTATE n) 0).conf = x.conf := fun x =>
    foldl_keeps Chip.conf (fun _ _ => rfl) (List.range 3) x
  unfold Chip.confStop
  dsimp only
  rw [mirrorPublish_voted, free_conf, hports, sluiceImage_conf, put_conf, put_conf]

/-- Confluence is stopped, or was, when Weir has entered the safe state (R110). -/
theorem Chip.safeLine_voted {u : Chip} {fcode : Nat} (hv : u.conf.voted = 0 ∨ u.get Reg.CF_MODE.MODE ≠ 0) : (u.safeLine fcode).conf.voted = 0 := by
  have hsafe : Within ⟨[.weir, .sout, .zst], some [0x405, 0x500]⟩ u u.sluiceSafe.zstStop := .chain zstStop_within (by decide) (sluiceSafe_within.le (by decide))
  unfold Chip.safeLine
  extract_lets u1 u2 u3 h u4
  have h1 : u1.conf = u.conf := hsafe.same .conf (by decide)
  have hmode : u1.get Reg.CF_MODE.MODE = u.get Reg.CF_MODE.MODE := hsafe.regs _ (by decide) (by decide) (by decide) (by decide)
  have h2 : u2.conf.voted = 0 := by
    unfold u2
    split
    · rename_i h0
      rw [h1]
      exact hv.resolve_right (not_not.2 (hmode.symm.trans h0))
    · exact confStop_voted ..
  have h3 : u3.conf = u2.conf := foldl_keeps Chip.conf (fun _ _ => rfl) (List.range 3) u2
  have hend : ((u4.modWeirLine true).evrSafeLine.pwrWake 3).conf = u4.conf :=
    ((modWeirLine_within.trans evrSafeLine_within).trans pwrWake_within).same .conf (by decide)
  rw [hend]
  exact (congrArg Conf.voted h3).trans h2

/-- What the entry does to the captured cause. -/
theorem Chip.weirSafe_capture {u : Chip} {cause : Nat} :
    Within ⟨frLog ++ [.flt], some [0x407, 0x409]⟩ u (if cause = 9 then u else u.captureCause (0x1000 + cause)) :=
  (Within.ite .unchanged captureCause_within).le (by decide)

theorem Chip.weirSafe_capture_latched {u : Chip} {cause : Nat} :
    ((if cause = 9 then u else u.captureCause (0x1000 + cause)).on Reg.WR_STAT.SAFE &&
      !(if cause = 9 then u else u.captureCause (0x1000 + cause)).weir.hold) = !u.unlatched := by
  have hweir : (if cause = 9 then u else u.captureCause (0x1000 + cause)).weir = u.weir := weirSafe_capture.same .weir (by decide)
  rw [Chip.on, weirSafe_capture.regs _ (by decide) (by decide) (by decide) (by decide), hweir]
  simp [Chip.unlatched, Chip.on]

/-- An entry latches its cause in Weir and the lattice, and then drives the safe-state line (R173). -/
theorem Chip.weirSafe_line {u : Chip} {cause : Nat} (hu : u.unlatched = true) : ∃ z n, u.weirSafe cause = z.safeLine n ∧
    Within ⟨frLog ++ [.flt, .weir, .lat], some [0x407, 0x409, 0x500]⟩ u z := by
  unfold Chip.weirSafe
  extract_lets +onlyGivenNames v latched
  rw [if_neg (by rw [show latched = _ from weirSafe_capture_latched, hu]; decide)]
  refine ⟨_, _, rfl, ?_⟩
  exact (((((((((weirSafe_capture.trans enablesClear_within).trans (put_within (Fld.inBlocks_self (by rfl)))).trans
    (put_within (Fld.inBlocks_self (by rfl)))).trans (put_within (Fld.inBlocks_self (by rfl)))).trans (weir_lat_within (by rfl))).trans
    permsClear_within).trans (put_within (Fld.inBlocks_self (by rfl)))).trans captureEntry_within).trans (irqAfter_within (.self (by rfl)))).le (by decide)

theorem Chip.weirSafe_voted {u : Chip} {cause : Nat} (hu : u.unlatched = true) (hv : u.conf.voted = 0 ∨ u.get Reg.CF_MODE.MODE ≠ 0) :
    (u.weirSafe cause).conf.voted = 0 := by
  obtain ⟨z, n, hz, hwithin⟩ := weirSafe_line (cause := cause) hu
  have hconf : z.conf = u.conf := hwithin.same .conf (by decide)
  have hmode : z.get Reg.CF_MODE.MODE = u.get Reg.CF_MODE.MODE := hwithin.regs _ (by decide) (by decide) (by decide) (by decide)
  rw [hz]
  exact safeLine_voted (by rwa [hconf, hmode])

/-- In a safe state already latched the cause stays, unless one of the same tick ranks higher (R173). -/
theorem Chip.weirSafe_cause {u : Chip} {cause : Nat} (hu : u.unlatched = false) (hc : cause < 256) : (u.weirSafe cause).get Reg.WR_STAT.CAUSE =
    if u.weir.causeAt = u.weirTime ∧ causeRank cause < causeRank (u.get Reg.WR_STAT.CAUSE) then cause else u.get Reg.WR_STAT.CAUSE := by
  unfold Chip.weirSafe
  extract_lets +onlyGivenNames v latched
  have hweir : v.weir = u.weir := weirSafe_capture.same .weir (by decide)
  have hcause : v.get Reg.WR_STAT.CAUSE = u.get Reg.WR_STAT.CAUSE := weirSafe_capture.regs _ (by decide) (by decide) (by decide) (by decide)
  have htime : v.weirTime = u.weirTime := by unfold Chip.weirTime; rw [hweir]
  rw [if_pos (by rw [show latched = _ from weirSafe_capture_latched, hu]; rfl), hweir, htime, hcause]
  split
  · rw [get_put_same]
    exact Nat.mod_eq_of_lt hc
  · exact hcause

theorem Chip.weirSafe_link (u : Chip) (cause : Nat) : (u.weirSafe cause).link = u.link := weirSafe_within.same .link (by decide)

theorem State.weirDoes_powered {s : State} (hoff : s.chip.weir.off = false) (u : Chip) : s.weirDoes u = s.become u := by
  unfold State.weirDoes
  rw [hoff]
  rfl

/-! ### The causes -/

variable (s : State)

theorem completes_dualRailFault (hoff : s.chip.weir.off = false) (hu : s.chip.unlatched = true) (hv : s.chip.conf.voted = 0 ∨ s.chip.get Reg.CF_MODE.MODE ≠ 0) :
    Completes .dualRailFault s (fun t => t.safeWith 2 = true ∧ t.conf.voted = 0 ∧ t.now = s.chip.now) :=
  ⟨_, State.weirDoes_powered hoff _, weirSafe_safeWith hu (by decide), weirSafe_voted hu hv, still_now (weirSafe_still ..)⟩

theorem completes_wdnMissingEdge (hoff : s.chip.weir.off = false) (hu : s.chip.unlatched = true) (hv : s.chip.conf.voted = 0 ∨ s.chip.get Reg.CF_MODE.MODE ≠ 0) :
    Completes .wdnMissingEdge s (fun t => t.safeWith 4 = true ∧ t.conf.voted = 0) := by
  have hlow : ∀ u : Chip, u.safeWith 4 = true → (u.modWeir fun w => { w with en := {} }).safeWith 4 = true := fun u h => by
    simp only [Chip.safeWith, Chip.enablesOff, Bool.and_eq_true] at h ⊢
    obtain ⟨⟨⟨⟨⟨⟨⟨⟨⟨-, hen⟩, hsafe⟩, hlockout⟩, hcause⟩, hperm⟩, hopen⟩, hcheck⟩, hhold⟩, hmode⟩ := h
    exact ⟨⟨⟨⟨⟨⟨⟨⟨⟨by simp [Rails.word, modWeir], hen⟩, hsafe⟩, hlockout⟩, hcause⟩, hperm⟩, hopen⟩, hcheck⟩, hhold⟩, hmode⟩
  exact ⟨_, State.weirDoes_powered hoff _, hlow _ (weirSafe_safeWith hu (by decide)), weirSafe_voted hu hv⟩

theorem completes_timeParity (hoff : s.chip.weir.off = false) (hu : s.chip.unlatched = true) (hv : s.chip.conf.voted = 0 ∨ s.chip.get Reg.CF_MODE.MODE ≠ 0) :
    Completes .timeParity s (fun t => t.safeWith 13 = true ∧ t.conf.voted = 0) :=
  ⟨_, State.weirDoes_powered hoff _, weirSafe_safeWith hu (by decide), weirSafe_voted hu hv⟩

theorem completes_linkSilence (hoff : s.chip.weir.off = false) (hu : s.chip.unlatched = true) (hup : s.chip.get Reg.WR_STAT.LINK_UP = 1) :
    Completes (.linkSilence true) s (fun t => t.safeWith 8 = true ∧ t.get Reg.WR_LINK.FAIL = 2 ∧ t.get Reg.WR_STAT.LINK_UP = 0 ∧
      t.link.sets = [] ∧ t.link.queries = []) := by
  obtain ⟨hsafe, hfail, hdown⟩ := linkFail_safeWith (u := s.chip) 2 (by decide) hu
  have hlink : (s.chip.linkFail 2 true).link = { s.chip.link with sets := [], acks := [], queries := [], verdicts := [] } := by
    unfold Chip.linkFail
    dsimp only
    rw [if_pos (.inl rfl), weirSafe_link]
    rfl
  refine ⟨s.chip.linkFail 2 true, ?_, hsafe, hfail, hdown, by rw [hlink], by rw [hlink]⟩
  change execLinkSilence true s = _
  unfold execLinkSilence Chip.on
  rw [hup, hoff, if_pos (by decide)]
  rfl

theorem completes_safeRequestFlit (hu : s.chip.unlatched = true) (hreq : s.chip.link.safeReq = true) :
    Completes .safeRequestFlit s (fun t => t.safeWith 9 = true ∧ t.link.safeReq = false) := by
  refine ⟨({ s.chip with link := { s.chip.link with safeReq := false } } : Chip).weirSafe 9, ?_, weirSafe_safeWith hu (by decide), ?_⟩
  · change execSafeRequestFlit s = _
    unfold execSafeRequestFlit
    dsimp only
    rw [if_pos hreq]
    rfl
  · rw [weirSafe_link]

theorem completes_checkOpenTimeout (hoff : s.chip.weir.off = false) (hu : s.chip.unlatched = true) (k : OpenCheck) (hk : s.chip.weir.openCheck = some k) :
    Completes .checkOpenTimeout s (fun t => t.safeWith 1 = true ∧ k.arr + 1130 ≤ t.weir.time) := by
  refine ⟨(s.chip.untilWeir (k.arr + 1130)).weirSafe 1, ?_, weirSafe_safeWith ((untilWeir_unlatched ..).trans hu) (by decide), ?_⟩
  · change execCheckOpenTimeout s = _
    unfold execCheckOpenTimeout
    dsimp only
    rw [hk]
    exact State.weirDoes_powered hoff _
  · rw [still_time (weirSafe_still ..)]
    exact untilWeir_reaches hoff

theorem Chip.checkerTest_fails {u : Chip} (hu : u.unlatched = true) :
    (u.checkerTest false).safeWith 2 = true ∧ (u.checkerTest false).weir.checker = (u.weir.checker + 1) % 32 := by
  unfold Chip.checkerTest
  dsimp only
  rw [if_neg Bool.false_ne_true]
  refine ⟨weirSafe_safeWith (u := u.modWeir fun w => { w with checker := (w.checker + 1) % 32 }) hu (by decide), ?_⟩
  exact still_field Weir.checker (fun _ => rfl) (weirSafe_still (u.modWeir fun w => { w with checker := (w.checker + 1) % 32 }) 2)

theorem Chip.until_checker (u : Chip) (t : Nat) : (u.until t).weir.checker = u.weir.checker := by
  unfold Chip.until Chip.advance
  dsimp only
  split <;> rfl

theorem completes_checkerRotateTimer_fails (hoff : s.chip.weir.off = false) (hu : s.chip.unlatched = true) :
    Completes (.checkerRotateTimer false) s (fun t => t.safeWith 2 = true ∧ t.weir.checker = (s.chip.weir.checker + 1) % 32) := by
  have hidle : ∀ u : Chip, u.unlatched = true → (u.modWeir fun w => { w with idleDue := u.now + ms 10 }).unlatched = true := fun _ => id
  have hwait := hidle _ ((advance_unlatched s.chip (s.chip.weir.idleDue - s.chip.now)).trans hu)
  have h := checkerTest_fails hwait
  refine ⟨_, ?_, h.1, h.2.trans (congrArg (fun n => (n + 1) % 32) (until_checker s.chip s.chip.weir.idleDue))⟩
  change execCheckerRotateTimer false s = _
  unfold execCheckerRotateTimer
  exact State.weirDoes_powered hoff _

theorem Chip.Falls.unlatched {u t : Chip} (h : Falls u t) : t.unlatched = u.unlatched := unlatched_of (h.shown _ (by decide)) h.hold

theorem Chip.put_unlatched {u : Chip} {f : Fld} {v : Nat} (hf : f.key ≠ Reg.WR_STAT.SAFE.key) : (u.put f v).unlatched = u.unlatched :=
  unlatched_of (get_put_ne _ _ _ _ hf) rfl

/-- The record of a rate gate (R158): both deviations, the period's only while the root PLL is in lock. -/
def Chip.gateRecord (u : Chip) (per wrc : Nat) : Chip :=
  let u := u.until u.weir.gateEnd
  let u := u.modWeir (fun w => { w with gateEnd := u.now + 1000000 })
  let u := if u.on Reg.CLK_STAT.ROOT_LOCK then u.put Reg.WR_RCHK.PER_DEV (pattern 16 ((per : Int) - 1000000)) else u
  u.put Reg.WR_RCHK.WRC_DEV (pattern 16 ((wrc : Int) - 100000))

theorem Chip.gateRecord_unlatched (u : Chip) (per wrc : Nat) : (u.gateRecord per wrc).unlatched = u.unlatched := by
  have hend : ∀ (x : Chip) (n : Nat), (x.modWeir fun w => { w with gateEnd := n }).unlatched = x.unlatched := fun _ _ => rfl
  unfold Chip.gateRecord
  dsimp only
  rw [put_unlatched (by decide)]
  split
  · rw [put_unlatched (by decide), hend]
    exact advance_unlatched ..
  · rw [hend]
    exact advance_unlatched ..

/-- What a gate leads to. -/
theorem execRateGateEnd_eq (per wrc : Nat) : execRateGateEnd per wrc s =
    s.weirDoes (
      let u := s.chip.gateRecord per wrc
      let u := if s.chip.on Reg.CLK_STAT.ROOT_LOCK ∧ 200 < ((per : Int) - 1000000).natAbs
        then ((u.irq weirPage 5).raise 1 0x01 [u.regRead 0x50002054]).weirSafe 3 else u
      if wrc < 90000 ∨ 110000 < wrc then u.weirSafe 4 else u) := rfl

theorem completes_rateGateEnd_period (hoff : s.chip.weir.off = false) (hu : s.chip.unlatched = true) (per wrc : Nat) (hlow : 90000 ≤ wrc)
    (hhigh : wrc ≤ 110000) (hlock : s.chip.get Reg.CLK_STAT.ROOT_LOCK = 1) (hper : per < 999800 ∨ 1000200 < per) :
    Completes (.rateGateEnd per wrc) s (fun t => t.safeWith 3 = true) := by
  have hon : s.chip.on Reg.CLK_STAT.ROOT_LOCK = true := by rw [Chip.on, hlock]; rfl
  have hfault : ∀ x : Chip, ((x.irq weirPage 5).raise 1 0x01 [x.regRead 0x50002054]).unlatched = x.unlatched := fun x =>
    (irq_falls.trans (.of_within raise_within (by rfl))).unlatched
  refine ⟨_, (execRateGateEnd_eq s per wrc).trans (State.weirDoes_powered hoff _), ?_⟩
  have hin : ¬(wrc < 90000 ∨ 110000 < wrc) := by omega
  dsimp only
  rw [if_neg hin, if_pos ⟨hon, by omega⟩]
  exact weirSafe_safeWith ((hfault _).trans ((gateRecord_unlatched ..).trans hu)) (by decide)

theorem completes_rateGateEnd_wrc (hoff : s.chip.weir.off = false) (hu : s.chip.unlatched = true) (per wrc : Nat) (hwrc : wrc < 90000 ∨ 110000 < wrc)
    (hper : s.chip.get Reg.CLK_STAT.ROOT_LOCK = 0 ∨ (999800 ≤ per ∧ per ≤ 1000200)) :
    Completes (.rateGateEnd per wrc) s (fun t => t.safeWith 4 = true) := by
  have hnot : ¬(s.chip.on Reg.CLK_STAT.ROOT_LOCK = true ∧ 200 < ((per : Int) - 1000000).natAbs) := fun h => by
    obtain ⟨hon, hdev⟩ := h
    rcases hper with h0 | hin
    · rw [Chip.on, h0] at hon
      exact absurd hon (by decide)
    · omega
  refine ⟨_, (execRateGateEnd_eq s per wrc).trans (State.weirDoes_powered hoff _), ?_⟩
  dsimp only
  rw [if_neg hnot, if_pos hwrc]
  exact weirSafe_safeWith ((gateRecord_unlatched ..).trans hu) (by decide)

/-! ### A safe state already latched -/

theorem completes_weirDoes_cause (c : Instr) (cause : Nat) (hc : cause < 256) (hexec : exec c s = s.weirDoes (s.chip.weirSafe cause))
    (hu : s.chip.unlatched = false) (hat : s.chip.weir.causeAt ≠ s.chip.weirTime) :
    Completes c s (fun t => t.get Reg.WR_STAT.CAUSE = s.chip.get Reg.WR_STAT.CAUSE) := by
  refine ⟨_, hexec, ?_⟩
  split
  · rfl
  · rw [weirSafe_cause hu hc, if_neg fun h => hat h.1]

theorem completes_linkSilence_cause (hu : s.chip.unlatched = false) (hat : s.chip.weir.causeAt ≠ s.chip.weirTime) :
    Completes (.linkSilence true) s (fun t => t.get Reg.WR_STAT.CAUSE = s.chip.get Reg.WR_STAT.CAUSE) := by
  have hfail : (s.chip.linkFail 2 true).get Reg.WR_STAT.CAUSE = s.chip.get Reg.WR_STAT.CAUSE := by
    have hlink : ∀ (x : Chip) (l : Link), ({ x with link := l } : Chip).unlatched = x.unlatched := fun _ _ => rfl
    have hget : ∀ (x : Chip) (l : Link) (f : Fld), ({ x with link := l } : Chip).get f = x.get f := fun _ _ _ => rfl
    unfold Chip.linkFail
    dsimp only
    rw [if_pos (.inl rfl), weirSafe_cause _ (by decide), if_neg fun h => hat h.1, hget, get_put_ne _ _ _ _ (by decide), get_put_ne _ _ _ _ (by decide)]
    rw [hlink, put_unlatched (by decide), put_unlatched (by decide)]
    exact hu
  refine ⟨_, rfl, ?_⟩
  split
  · exact hfail
  · rfl

theorem completes_dualRailFault_first (hoff : s.chip.weir.off = false) (hu : s.chip.unlatched = false) (hat : s.chip.weir.causeAt = s.chip.weirTime)
    (hcause : s.chip.get Reg.WR_STAT.CAUSE = 6 ∨ 2 < s.chip.get Reg.WR_STAT.CAUSE) :
    Completes .dualRailFault s (fun t => t.get Reg.WR_STAT.CAUSE = 2) := by
  have hrank : causeRank 2 < causeRank (s.chip.get Reg.WR_STAT.CAUSE) := by
    rw [show causeRank 2 = 2 from rfl]
    unfold causeRank
    split <;> omega
  refine ⟨_, State.weirDoes_powered hoff _, ?_⟩
  dsimp only
  rw [weirSafe_cause hu (by decide), if_pos ⟨hat, hrank⟩]

/-- Settles O21. -/
theorem safeStateEntry : Obligations.SafeStateEntry := by
  unfold Obligations.SafeStateEntry
  refine ⟨fun s hoff hu hv => ?_, fun s hu hat => ?_, completes_dualRailFault_first⟩
  · exact ⟨completes_dualRailFault s hoff hu hv, completes_wdnMissingEdge s hoff hu hv, completes_timeParity s hoff hu hv, completes_linkSilence s hoff hu,
      ⟨_, State.weirDoes_powered hoff _, weirSafe_safeWith hu (by decide)⟩, completes_safeRequestFlit s hu, completes_checkOpenTimeout s hoff hu,
      completes_checkerRotateTimer_fails s hoff hu, completes_rateGateEnd_period s hoff hu, completes_rateGateEnd_wrc s hoff hu⟩
  · exact ⟨completes_weirDoes_cause s _ _ (by decide) rfl hu hat, completes_weirDoes_cause s _ _ (by decide) rfl hu hat,
      completes_linkSilence_cause s hu hat⟩

end Sys2Proof.Machine
end

section
/-!
PROOFS. Weir's independent vote check (05 R144 to R147, R160).
-/
namespace Sys2Proof.Machine
open Chip

/-! ### What a passed check leaves alone -/

theorem Chip.enable_get (u : Chip) (n : Nat) (b : Bool) (f : Fld) (hf : Reg.WR_EN.EN.key ≠ f.key) : (u.enable n b).get f = u.get f := by
  change (u.putBit Reg.WR_EN.EN n b).get f = u.get f
  unfold Chip.putBit Chip.setBit Chip.clearBit
  split
  · exact get_put_ne _ _ _ _ hf
  · split
    · exact get_put_ne _ _ _ _ hf
    · rfl

theorem Chip.checkEnable_get (u : Chip) (v n : Nat) (f : Fld) (hf : Reg.WR_EN.EN.key ≠ f.key) : (u.checkEnable v n).get f = u.get f := by
  unfold Chip.checkEnable Chip.weirDemand
  split
  · rfl
  · split
    · split
      · exact enable_get _ _ _ _ hf
      · rfl
    · split
      · rfl
      · exact enable_get _ _ _ _ hf

@[simp] theorem Chip.checkEnable_still (u : Chip) (v n : Nat) : (u.checkEnable v n).still = u.still := by
  unfold Chip.checkEnable
  split
  · rfl
  · split
    · split
      · exact enable_still ..
      · rfl
    · exact weirDemand_still ..

theorem Chip.checkEnable_openCheck (u : Chip) (v n : Nat) : (u.checkEnable v n).weir.openCheck = u.weir.openCheck := by
  unfold Chip.checkEnable Chip.weirDemand
  split
  · rfl
  · split
    · split <;> rfl
    · split <;> rfl

/-- A steering word changes of Weir only RATE, CLAMP and IRQ_RAW. -/
theorem Chip.steer_get (u : Chip) (v : Nat) (f : Fld) (hf : f.weirShown = true) (hrate : Reg.WR_RATE.RATE.key ≠ f.key)
    (hclamp : Reg.WR_RATE.CLAMP.key ≠ f.key) : (u.steer v).get f = u.get f := by
  obtain ⟨hlo, hblock, -, hraw, hc⟩ := of_decide_eq_true hf
  unfold Chip.steer
  extract_lets w r a t
  have ht : t.get f = u.get f := (get_put_ne _ _ _ _ hclamp).trans (get_put_ne _ _ _ _ hrate)
  split
  · rfl
  · split
    · rfl
    · split
      · refine Eq.trans ?_ ht
        exact (raise_within.regs f hlo (by omega) hc (by rw [hblock]; rfl)).trans (get_irq _ _ _ _ hlo hraw)
      · exact ht

@[simp] theorem Chip.steer_weir (u : Chip) (v : Nat) : (u.steer v).weir = u.weir := steer_within.same .weir (by decide)

/-- The chip after the record of a passed check, before enables and steering follow. -/
def Chip.checkRecord (u : Chip) (v d : Nat) : Chip :=
  let u := (((u.put Reg.WR_VC.DIFF d).put Reg.WR_VC.OPEN 0).checkResult true).wrapInc Reg.WR_VCCNT.PASSED
  let u := u.modWeir (fun w => { w with lastV := v, openCheck := none })
  { u with lat := { u.lat with passed := u.lat.passed ++ [v] } }

theorem Chip.checkPass_eq (u : Chip) (v d : Nat) :
    u.checkPass v d = (foldUpTo 32 (u.checkRecord v d) (fun u n => u.checkEnable v n)).steer v := rfl

theorem Chip.checkPass_get (u : Chip) (v d : Nat) (f : Fld) (hf : f.weirShown = true) (hrate : Reg.WR_RATE.RATE.key ≠ f.key)
    (hclamp : Reg.WR_RATE.CLAMP.key ≠ f.key) : (u.checkPass v d).get f = (u.checkRecord v d).get f := by
  rw [checkPass_eq, steer_get _ _ _ hf hrate hclamp]
  exact foldl_keeps (fun t : Chip => t.get f) (fun t n => checkEnable_get t v n f (Fld.key_ne_of_weirShown hf)) _ _

theorem Chip.checkPass_field {β : Type} (p : Weir → β) (hp : ∀ w : Weir, p w.still = p w) (u : Chip) (v d : Nat) :
    p (u.checkPass v d).weir = p (u.checkRecord v d).weir := by
  rw [checkPass_eq, steer_weir]
  exact still_field p hp (foldUpTo_still (fun t n => checkEnable_still t v n) 32 _)

theorem Chip.checkEnables_openCheck (v : Nat) (l : List Nat) (u : Chip) :
    (l.foldl (fun u n => u.checkEnable v n) u).weir.openCheck = u.weir.openCheck := by
  induction l generalizing u with
  | nil => rfl
  | cons n l ih => rw [List.foldl_cons, ih, checkEnable_openCheck]

theorem Chip.checkPass_openCheck (u : Chip) (v d : Nat) : (u.checkPass v d).weir.openCheck = none := by
  rw [checkPass_eq, steer_weir]
  unfold foldUpTo
  rw [checkEnables_openCheck]
  rfl

theorem Chip.checkPass_lat (u : Chip) (v d : Nat) : (u.checkPass v d).lat = { u.lat with passed := u.lat.passed ++ [v] } := by
  have hsteer : ∀ x : Chip, (x.steer v).lat = x.lat := fun x => steer_within.same .lat (by decide)
  have henables : ∀ x : Chip, (foldUpTo 32 x fun u n => u.checkEnable v n).lat = x.lat := fun x =>
    foldl_keeps Chip.lat (fun t n => checkEnable_within.same .lat (by decide)) _ x
  rw [checkPass_eq, hsteer, henables]
  unfold Chip.checkRecord Chip.checkResult Chip.wrapInc Chip.modWeir
  simp only [put_lat]

theorem Chip.checkPass_link (u : Chip) (v d : Nat) : (u.checkPass v d).link = u.link := checkPass_within.same .link (by decide)

theorem Chip.checkResult_get (u : Chip) (b : Bool) (f : Fld) : (u.checkResult b).get f = (u.put Reg.WR_VC.PASS (lvl b)).get f := rfl

theorem Chip.modWeir_get (u : Chip) (g : Weir → Weir) (f : Fld) : (u.modWeir g).get f = u.get f := rfl

theorem Chip.withLat_get (u : Chip) (l : Lattice) (f : Fld) : ({ u with lat := l } : Chip).get f = u.get f := rfl

theorem Chip.checkRecord_get (u : Chip) (v d : Nat) (f : Fld) :
    (u.checkRecord v d).get f = ((((u.put Reg.WR_VC.DIFF d).put Reg.WR_VC.OPEN 0).checkResult true).wrapInc Reg.WR_VCCNT.PASSED).get f := by
  unfold Chip.checkRecord
  dsimp only
  rw [withLat_get, modWeir_get]

/-- A check with the result PASS shows it and counts it (R146). -/
theorem Chip.checkPass_shows (u : Chip) (v : Nat) {d : Nat} (hd : d < 8) :
    (u.checkPass v d).get Reg.WR_VC.DIFF = d ∧ (u.checkPass v d).get Reg.WR_VC.PASS = 1 ∧ (u.checkPass v d).get Reg.WR_VC.OPEN = 0 ∧
      (u.checkPass v d).get Reg.WR_VCCNT.PASSED = (u.get Reg.WR_VCCNT.PASSED + 1) % 2 ^ 32 := by
  have hne : ∀ f, Reg.WR_VCCNT.PASSED.key ≠ f.key → f.weirShown = true → Reg.WR_RATE.RATE.key ≠ f.key → Reg.WR_RATE.CLAMP.key ≠ f.key →
      (u.checkPass v d).get f = (((u.put Reg.WR_VC.DIFF d).put Reg.WR_VC.OPEN 0).put Reg.WR_VC.PASS 1).get f := fun f hk hf hrate hclamp => by
    rw [checkPass_get _ _ _ _ hf hrate hclamp, checkRecord_get]
    exact (get_put_ne _ _ _ _ hk).trans (checkResult_get ..)
  refine ⟨?_, ?_, ?_, ?_⟩
  · rw [hne _ (by decide) (by decide) (by decide) (by decide), get_put_ne _ _ _ _ (by decide), get_put_ne _ _ _ _ (by decide), get_put_same]
    exact Nat.mod_eq_of_lt hd
  · rw [hne _ (by decide) (by decide) (by decide) (by decide), get_put_same]
    rfl
  · rw [hne _ (by decide) (by decide) (by decide) (by decide), get_put_ne _ _ _ _ (by decide), get_put_same]
    rfl
  · rw [checkPass_get _ _ _ _ (by decide) (by decide) (by decide), checkRecord_get, Chip.wrapInc, get_put_same, checkResult_get,
      get_put_ne _ _ _ _ (by decide), get_put_ne _ _ _ _ (by decide), get_put_ne _ _ _ _ (by decide)]
    rfl

/-! ### Checks that need not run -/

theorem Chip.checks_none {u : Chip} (h : u.weir.openCheck.isSome = true ∨ u.weir.voted = []) : u.checks = u := by
  unfold Chip.checks Chip.runChecks
  split
  · rfl
  · rename_i hopen
    rcases h with h | h
    · simp [h] at hopen
    · rw [h]

/-! ### CHANNEL_IMAGE -/

variable (s : State)

theorem completes_channelImage_taken (c img : Nat) (hc : c < 3) (hst : s.chip.chState c = 3) (hin : s.chip.inSet c = true) (hsafe : s.chip.safe = false)
    (hvoted : s.chip.weir.voted = []) :
    Completes (.channelImage c img (imageCrc img)) s (fun t => t.weir.images.get c = s.chip.weir.images.get c ++ [img % 2 ^ 4096] ∧
      t.weir.arrivals.get c = s.chip.weir.arrivals.get c ++ [s.chip.weir.time] ∧ t.regs = s.chip.regs) := by
  refine ⟨s.chip.imageTaken c img, ?_, ?_⟩
  · change execChannelImage c img (imageCrc img) s = _
    unfold execChannelImage
    dsimp only
    rw [if_neg (by simp [hst, hin]; omega), if_neg (by simp)]
    rfl
  · unfold Chip.imageTaken
    extract_lets w taken
    rw [checks_none (u := { s.chip with weir := taken }) (.inr hvoted)]
    unfold taken
    dsimp only
    rw [if_neg (show ¬ s.chip.on Reg.WR_STAT.SAFE = true by rw [show s.chip.on Reg.WR_STAT.SAFE = false from hsafe]; decide)]
    exact ⟨Per3.get_set_same hc, Per3.get_set_same hc, rfl⟩

theorem completes_channelImage_bad (c img crc : Nat) (hc : c < 3) (hst : s.chip.chState c = 3) (hin : s.chip.inSet c = true) (hcrc : crc ≠ imageCrc img) :
    Completes (.channelImage c img crc) s (fun t => t.weir.images = s.chip.weir.images ∧ t.weir.arrivals = s.chip.weir.arrivals ∧
      t.weir.badImage.get c = true ∧ t.regs = s.chip.regs) := by
  refine ⟨s.chip.imageBad c, ?_, rfl, rfl, Per3.get_set_same hc, rfl⟩
  change execChannelImage c img crc s = _
  unfold execChannelImage
  dsimp only
  rw [if_neg (by simp [hst, hin]; omega), if_pos hcrc]
  rfl

theorem completes_channelImage_ignored (c img crc : Nat) (h : s.chip.chState c ≠ 3 ∨ s.chip.inSet c = false) :
    Completes (.channelImage c img crc) s (fun t => t = s.chip) := by
  refine ⟨_, ?_, rfl⟩
  change execChannelImage c img crc s = _
  unfold execChannelImage
  dsimp only
  rw [if_pos (.inr h)]
  rfl

/-! ### VOTED_IMAGE -/

/-- The mask of the channels whose image differs from `v`. -/
theorem maskOf_differing (v a b c : Nat) : maskOf ((([(0, a), (1, b), (2, c)] : List (Nat × Nat)).filter (fun e => e.2 != v)).map (·.1)) =
    (if a = v then 0 else 1) + (if b = v then 0 else 2) + (if c = v then 0 else 4) := by
  by_cases ha : a = v
  · by_cases hb : b = v <;> by_cases hc : c = v <;> simp [maskOf, ha, hb, hc]
  · by_cases hb : b = v <;> by_cases hc : c = v <;> simp [maskOf, ha, hb, hc]

/-- The outcome of a check of `v`, whose images of the channels `d` differ (R146). -/
def Chip.checkEnds (u t : Chip) (v arr d : Nat) (maj : Bool) : Prop :=
  t.get Reg.WR_VC.DIFF = d ∧ t.weir.images = u.weir.images ∧ t.weir.voted = u.weir.voted ∧ t.link = u.link ∧
  if d = 0 then t.get Reg.WR_VC.PASS = 1 ∧ t.get Reg.WR_VC.OPEN = 0 ∧ t.get Reg.WR_VCCNT.PASSED = (u.get Reg.WR_VCCNT.PASSED + 1) % 2 ^ 32 ∧
    t.weir.lastV = v ∧ t.lat.passed = u.lat.passed ++ [v]
  else if maj then t.get Reg.WR_VC.PASS = 0 ∧ t.get Reg.WR_VC.OPEN = 1 ∧ t.weir.openCheck = some ⟨v, d, arr⟩ ∧
    t.get Reg.WR_EN.EN = u.get Reg.WR_EN.EN ∧ t.safe = u.safe
  else t.get Reg.WR_VC.PASS = 0 ∧ t.safeWith 1 = true

theorem Chip.checkPass_ends (u : Chip) (v arr : Nat) (maj : Bool) : u.checkEnds (u.checkPass v 0) v arr 0 maj := by
  obtain ⟨hdiff, hpass, hopen, hcount⟩ := checkPass_shows u v (d := 0) (by decide)
  refine ⟨hdiff, checkPass_field Weir.images (fun _ => rfl) .., checkPass_field Weir.voted (fun _ => rfl) .., checkPass_link .., ?_⟩
  rw [if_pos rfl]
  exact ⟨hpass, hopen, hcount, checkPass_field Weir.lastV (fun _ => rfl) .., by rw [checkPass_lat]⟩

/-- The check stays open (R146). -/
def Chip.checkOpens (u : Chip) (v arr d : Nat) : Chip :=
  let u := ((u.put Reg.WR_VC.DIFF d).put Reg.WR_VC.OPEN 1).checkResult false
  let u := u.modWeir (fun w => { w with openCheck := some ⟨v, d, arr⟩ })
  (u.irq weirPage 2).raiseAfter 2 0x01 [d, arr]

theorem Chip.checkOpens_ends (u : Chip) (v arr : Nat) {d : Nat} (hd : d < 8) (h0 : d ≠ 0) : u.checkEnds (u.checkOpens v arr d) v arr d true := by
  unfold Chip.checkOpens
  extract_lets x y
  have hreport : ∀ f, f.weirShown = true → (((y.irq weirPage 2).raiseAfter 2 0x01 [d, arr])).get f = y.get f := fun f hf =>
    (irq_falls.trans (.of_within raiseAfter_within (by rfl))).shown f hf
  have hy : ∀ f, y.get f = (((u.put Reg.WR_VC.DIFF d).put Reg.WR_VC.OPEN 1).put Reg.WR_VC.PASS 0).get f := fun _ => rfl
  have hweir : (((y.irq weirPage 2).raiseAfter 2 0x01 [d, arr])).weir = y.weir := (raiseAfter_weir ..).trans (irq_weir ..)
  have hlink : (((y.irq weirPage 2).raiseAfter 2 0x01 [d, arr])).link = y.link := (raiseAfter_link ..).trans (irq_link ..)
  have hen : (((y.irq weirPage 2).raiseAfter 2 0x01 [d, arr])).get Reg.WR_EN.EN = y.get Reg.WR_EN.EN :=
    (raiseAfter_within.regs _ (by decide) (by decide) (by decide) (by decide)).trans (get_irq _ _ _ _ (by decide) (by decide))
  refine ⟨?_, by rw [hweir]; rfl, by rw [hweir]; rfl, hlink, ?_⟩
  · rw [hreport _ (by decide), hy, get_put_ne _ _ _ _ (by decide), get_put_ne _ _ _ _ (by decide), get_put_same]
    exact Nat.mod_eq_of_lt hd
  rw [if_neg h0, if_pos rfl]
  refine ⟨?_, ?_, by rw [hweir]; rfl, ?_, ?_⟩
  · rw [hreport _ (by decide), hy, get_put_same]
    rfl
  · rw [hreport _ (by decide), hy, get_put_ne _ _ _ _ (by decide), get_put_same]
    rfl
  · rw [hen, hy, get_put_ne _ _ _ _ (by decide), get_put_ne _ _ _ _ (by decide), get_put_ne _ _ _ _ (by decide)]
  · unfold Chip.safe Chip.on
    rw [hreport _ (by decide), hy, get_put_ne _ _ _ _ (by decide), get_put_ne _ _ _ _ (by decide), get_put_ne _ _ _ _ (by decide)]

theorem Chip.checkFails_ends (u : Chip) (v arr : Nat) {d : Nat} (hd : d < 8) (h0 : d ≠ 0) (hsafe : u.safe = false) :
    u.checkEnds (((u.put Reg.WR_VC.DIFF d).checkResult false).weirSafe 1) v arr d false := by
  have hget : ∀ f, ((u.put Reg.WR_VC.DIFF d).checkResult false).get f = ((u.put Reg.WR_VC.DIFF d).put Reg.WR_VC.PASS 0).get f := fun _ => rfl
  have hun : ((u.put Reg.WR_VC.DIFF d).checkResult false).unlatched = true := by
    unfold Chip.safe Chip.on at hsafe
    unfold Chip.unlatched Chip.on
    rw [hget, get_put_ne _ _ _ _ (by decide), get_put_ne _ _ _ _ (by decide), hsafe]
    rfl
  have hstill := weirSafe_still ((u.put Reg.WR_VC.DIFF d).checkResult false) 1
  have himages := still_field Weir.images (fun _ => rfl) hstill
  have hvoted := still_field Weir.voted (fun _ => rfl) hstill
  refine ⟨?_, himages, hvoted, weirSafe_link .., ?_⟩
  · rw [weirSafe_shown _ _ _ (by decide) (by decide), hget, get_put_ne _ _ _ _ (by decide), get_put_same]
    exact Nat.mod_eq_of_lt hd
  rw [if_neg h0, if_neg (by decide)]
  refine ⟨?_, weirSafe_safeWith hun (by decide)⟩
  rw [weirSafe_shown _ _ _ (by decide) (by decide), hget, get_put_same]
  rfl

/-- The check of `v` against three images (R146). -/
theorem Chip.checkOne_ends (u : Chip) (v arr a b c : Nat) (hsafe : u.safe = false) :
    u.checkEnds (u.checkOne ⟨v, arr⟩ [(0, a), (1, b), (2, c)]) v arr
      ((if a = v then 0 else 1) + (if b = v then 0 else 2) + (if c = v then 0 else 4)) (decide (maj3 a b c = v)) := by
  have hmaj : imageMajority ([(0, a), (1, b), (2, c)].map (·.2)) = some v ↔ maj3 a b c = v := by simp [imageMajority]
  unfold Chip.checkOne
  dsimp only
  rw [maskOf_differing]
  generalize hd : (if a = v then 0 else 1) + (if b = v then 0 else 2) + (if c = v then 0 else 4) = d
  have hlt : d < 8 := by subst hd; split_ifs <;> decide
  by_cases hm : maj3 a b c = v
  · rw [if_pos (hmaj.2 hm), decide_eq_true hm]
    by_cases h0 : d = 0
    · rw [if_pos h0, h0]
      exact checkPass_ends u v arr true
    · rw [if_neg h0]
      exact checkOpens_ends u v arr hlt h0
  · have h0 : d ≠ 0 := by
      rintro rfl
      have hav : a = v := by by_contra h; simp [h] at hd
      have hbv : b = v := by by_contra h; simp [h] at hd
      exact hm (by rw [hav, hbv, maj3_self])
    rw [if_neg (fun h => hm (hmaj.1 h)), decide_eq_false hm]
    exact checkFails_ends u v arr hlt h0 hsafe

theorem Chip.setChannels_full {u : Chip} (h : u.get Reg.WR_STAT.SET = 7) : u.setChannels = [0, 1, 2] := by
  unfold Chip.setChannels Chip.inSet
  rw [h]
  decide

/-- One voted image that waits is checked against the oldest image of each channel (R144). -/
theorem Chip.checks_one {u : Chip} {v : VotedV} {a b c : Nat} {la lb lc : List Nat} (hsafe : u.safe = false) (hopen : u.weir.openCheck = none)
    (hvoted : u.weir.voted = [v]) (hset : u.get Reg.WR_STAT.SET = 7) (himages : u.weir.images = ⟨a :: la, b :: lb, c :: lc⟩) :
    u.checks = (u.modWeir fun w => { w with voted := [], images := ⟨la, lb, lc⟩ }).checkOne v [(0, a), (1, b), (2, c)] := by
  have hnone : (((u.modWeir fun w => { w with voted := [], images := ⟨la, lb, lc⟩ }).checkOne v [(0, a), (1, b), (2, c)]).weir.voted) = [] :=
    (checkOne_ends _ v.img v.arr a b c (show (u.modWeir fun w => { w with voted := [], images := ⟨la, lb, lc⟩ }).safe = false from hsafe)).2.2.1
  have hlist : u.setChannels.filterMap (fun c => ((u.weir.images.get c).head?).map (fun i => (c, i))) = [(0, a), (1, b), (2, c)] := by
    rw [setChannels_full hset, himages]
    rfl
  have hstart : u.checks = Chip.runChecks 1 ((u.modWeir fun w => { w with voted := [], images := ⟨la, lb, lc⟩ }).checkOne v [(0, a), (1, b), (2, c)]) := by
    unfold Chip.safe at hsafe
    unfold Chip.checks
    rw [hvoted]
    rw [show ([v] : List VotedV).length + 1 = 1 + 1 from rfl, Chip.runChecks, hopen, hsafe, if_neg (by decide), hvoted]
    dsimp only
    rw [hlist, setChannels_full hset, if_neg (by simp), himages]
    rfl
  have hend : ∀ t : Chip, t.weir.voted = [] → Chip.runChecks 1 t = t := fun t ht => by
    unfold Chip.runChecks
    split
    · rfl
    · rw [ht]
  rw [hstart, hend _ hnone]

/-- The voted image that has arrived, with the three images that it is checked against (R144, R146). -/
theorem completes_votedImage (v a b c : Nat) (la lb lc rest : List Nat) (hlink : s.chip.link.voted = v :: rest) (hsafe : s.chip.safe = false)
    (hopen : s.chip.weir.openCheck = none) (hvoted : s.chip.weir.voted = []) (hset : s.chip.get Reg.WR_STAT.SET = 7)
    (himages : s.chip.weir.images = ⟨a :: la, b :: lb, c :: lc⟩) :
    let d := (if a = v then 0 else 1) + (if b = v then 0 else 2) + (if c = v then 0 else 4)
    Completes .votedImage s (fun t => t.weir.images = ⟨la, lb, lc⟩ ∧ t.weir.voted = [] ∧ t.get Reg.WR_VC.DIFF = d ∧ t.link.voted = rest ∧
      if d = 0 then t.get Reg.WR_VC.PASS = 1 ∧ t.get Reg.WR_VC.OPEN = 0 ∧ t.get Reg.WR_VCCNT.PASSED = (s.chip.get Reg.WR_VCCNT.PASSED + 1) % 2 ^ 32 ∧
        t.weir.lastV = v ∧ t.lat.passed = s.chip.lat.passed ++ [v]
      else if maj3 a b c = v then t.get Reg.WR_VC.PASS = 0 ∧ t.get Reg.WR_VC.OPEN = 1 ∧ t.weir.openCheck = some ⟨v, d, s.chip.weir.time⟩ ∧
        t.get Reg.WR_EN.EN = s.chip.get Reg.WR_EN.EN ∧ t.safe = false
      else t.get Reg.WR_VC.PASS = 0 ∧ t.safeWith 1 = true) := by
  intro d
  obtain ⟨w, l, hw, hl, hflush⟩ : ∃ w l, w = ({ s.chip.weir with ackWait := w.ackWait } : Weir) ∧ l = ({ s.chip.link with acks := l.acks, voted := rest } : Link) ∧
      ({ s.chip with link := { s.chip.link with voted := rest } } : Chip).flushAcks = { s.chip with weir := w, link := l } := by
    unfold Chip.flushAcks
    dsimp only
    split
    · exact ⟨_, _, rfl, rfl, rfl⟩
    · exact ⟨_, _, rfl, rfl, rfl⟩
  let arrived : Chip := { s.chip with
    weir := { w with voted := w.voted ++ [VotedV.mk v w.time] }, link := l, lat := { s.chip.lat with port := s.chip.lat.port ++ [v] } }
  have hrun : exec .votedImage s = s.become arrived.checks := by
    change execVotedImage s = _
    unfold execVotedImage
    dsimp only
    rw [hlink]
    dsimp only
    rw [hflush]
    exact if_neg (show ¬ s.chip.on Reg.WR_STAT.SAFE = true by rw [show s.chip.on Reg.WR_STAT.SAFE = false from hsafe]; decide)
  have htime : w.time = s.chip.weir.time := by rw [hw]
  have hchecks : arrived.checks = (arrived.modWeir fun w => { w with voted := [], images := ⟨la, lb, lc⟩ }).checkOne ⟨v, s.chip.weir.time⟩ [(0, a), (1, b), (2, c)] := by
    refine checks_one hsafe ?_ ?_ hset ?_
    · exact (congrArg Weir.openCheck hw).trans hopen
    · change w.voted ++ [VotedV.mk v w.time] = _
      rw [show w.voted = [] from (congrArg Weir.voted hw).trans hvoted, show w.time = s.chip.weir.time from htime]
      rfl
    · exact (congrArg Weir.images hw).trans himages
  obtain ⟨hdiff, himg, hnone, hlink', hend⟩ := checkOne_ends (arrived.modWeir fun w => { w with voted := [], images := ⟨la, lb, lc⟩ }) v s.chip.weir.time a b c hsafe
  rw [← hchecks] at hdiff himg hnone hlink' hend
  refine ⟨_, hrun, himg, hnone, hdiff, (congrArg Link.voted hlink').trans (congrArg Link.voted hl), ?_⟩
  by_cases h0 : d = 0
  · rw [if_pos h0] at hend ⊢
    exact hend
  · rw [if_neg h0] at hend ⊢
    by_cases hm : maj3 a b c = v
    · rw [if_pos (decide_eq_true hm)] at hend
      obtain ⟨hpass, hstays, hcheck, hen, hout⟩ := hend
      rw [if_pos hm]
      exact ⟨hpass, hstays, hcheck, hen, hout.trans hsafe⟩
    · rw [if_neg (by simpa using hm)] at hend
      rw [if_neg hm]
      exact hend

/-! ### VOTING_SET_FLIT -/

/-- The change of one channel's part in a change of the voting set (R160). -/
def Weir.setChange (w : Weir) (set c : Nat) : Weir :=
  { w with
    images := w.images.set c []
    releases := w.releases.set c 0
    delivered := w.delivered.set c 0
    arrivals := w.arrivals.set c []
    takeOut := if set.testBit c then w.takeOut.put c false else w.takeOut
    badImage := w.badImage.set c false
    entered := w.entered.set c w.time }

/-- The change of the voting set at one channel. -/
def Chip.setStep (old set : Nat) (u : Chip) (c : Nat) : Chip :=
  if old.testBit c = set.testBit c then u else u.modWeir fun w => w.setChange set c

theorem Chip.setChange_eq (u : Chip) (set : Nat) : u.setChange set = setStep (u.get Reg.WR_STAT.SET) set
    (setStep (u.get Reg.WR_STAT.SET) set (setStep (u.get Reg.WR_STAT.SET) set (u.put Reg.WR_STAT.SET set) 0) 1) 2 := rfl

theorem Chip.setStep_keeps {β : Type} (p : Weir → β) (old set : Nat) (u : Chip) (c : Nat) (hp : ∀ w : Weir, p (w.setChange set c) = p w) :
    p (setStep old set u c).weir = p u.weir := by
  unfold Chip.setStep
  split
  · rfl
  · exact hp _

theorem Chip.setChange_keeps {β : Type} (p : Weir → β) (u : Chip) (set : Nat) (hp : ∀ (w : Weir) (c : Nat), p (w.setChange set c) = p w) :
    p (u.setChange set).weir = p u.weir := by
  rw [setChange_eq, setStep_keeps p _ _ _ _ fun w => hp w 2, setStep_keeps p _ _ _ _ fun w => hp w 1, setStep_keeps p _ _ _ _ fun w => hp w 0, put_weir]

/-- A part `p` of Weir that belongs to one channel follows that channel's own change, which sets it to `q`. -/
theorem Chip.setChange_channel {β : Type} (p : Weir → β) (q : β) (u : Chip) (set : Nat) {c : Nat} (hc : c < 3)
    (hp : ∀ (w : Weir) (d : Nat), d ≠ c → p (w.setChange set d) = p w) (hq : ∀ w : Weir, w.time = u.weir.time → p (w.setChange set c) = q) :
    p (u.setChange set).weir = if u.inSet c = set.testBit c then p u.weir else q := by
  have hself : ∀ x : Chip, x.weir.time = u.weir.time → p (setStep (u.get Reg.WR_STAT.SET) set x c).weir =
      if u.inSet c = set.testBit c then p x.weir else q := fun x hx => by
    unfold Chip.setStep Chip.inSet
    split
    · rfl
    · exact hq _ hx
  have hother : ∀ (x : Chip) (d : Nat), d ≠ c → p (setStep (u.get Reg.WR_STAT.SET) set x d).weir = p x.weir := fun x d hd =>
    setStep_keeps p _ _ _ _ fun w => hp w d hd
  have htime : ∀ (x : Chip) (d : Nat), (setStep (u.get Reg.WR_STAT.SET) set x d).weir.time = x.weir.time := fun x d =>
    setStep_keeps Weir.time _ _ _ _ fun _ => rfl
  rw [setChange_eq]
  obtain rfl | rfl | rfl : c = 0 ∨ c = 1 ∨ c = 2 := by omega
  · rw [hother _ 2 (by decide), hother _ 1 (by decide), hself (u.put Reg.WR_STAT.SET set) rfl, put_weir]
  · rw [hother _ 2 (by decide), hself _ (htime (u.put Reg.WR_STAT.SET set) 0), hother _ 0 (by decide), put_weir]
  · rw [hself _ ((htime (setStep (u.get Reg.WR_STAT.SET) set (u.put Reg.WR_STAT.SET set) 0) 1).trans (htime (u.put Reg.WR_STAT.SET set) 0)), hother _ 1 (by decide), hother _ 0 (by decide), put_weir]

theorem Chip.setStep_regs (u : Chip) (old set c : Nat) : (setStep old set u c).regs = u.regs := by
  unfold Chip.setStep
  split <;> rfl

theorem Chip.setChange_get (u : Chip) (set : Nat) (f : Fld) : (u.setChange set).get f = (u.put Reg.WR_STAT.SET set).get f := by
  have hregs : (u.setChange set).regs = (u.put Reg.WR_STAT.SET set).regs := by
    rw [setChange_eq, setStep_regs, setStep_regs, setStep_regs]
  unfold Chip.get
  rw [hregs]

theorem Chip.setChange_link (u : Chip) (set : Nat) : (u.setChange set).link = u.link := setChange_within.same .link (by decide)

/-- Once the checks that can run have run, the set is acknowledged (R145). -/
theorem Chip.acknowledge {x : Chip} (set : Nat) (hvoted : x.weir.voted = []) (hlink : x.link.voted = []) :
    ((if x.on Reg.WR_STAT.SAFE then x else x.checks).modWeir fun w => { w with ackWait := w.ackWait ++ [set] }).flushAcks =
      { x with weir := { x.weir with ackWait := [] }, link := { x.link with acks := x.link.acks ++ (x.weir.ackWait ++ [set]) } } := by
  rw [checks_none (.inr hvoted), ite_self]
  unfold Chip.flushAcks
  rw [if_pos (show (x.modWeir fun w => { w with ackWait := w.ackWait ++ [set] }).link.voted = [] from hlink)]
  rfl

/-- The voting set that has arrived, applied (R145). -/
def Chip.setApplied (u : Chip) (set : Nat) (rest : List Nat) : Chip := ({ u with link := { u.link with sets := rest } } : Chip).setChange set

theorem Chip.setApplied_get (u : Chip) (set : Nat) (rest : List Nat) (f : Fld) : (u.setApplied set rest).get f = (u.put Reg.WR_STAT.SET set).get f :=
  setChange_get ..

theorem Chip.setApplied_keeps {β : Type} (p : Weir → β) (u : Chip) (set : Nat) (rest : List Nat) (hp : ∀ (w : Weir) (c : Nat), p (w.setChange set c) = p w) :
    p (u.setApplied set rest).weir = p u.weir := setChange_keeps p _ set hp

theorem Chip.setApplied_link (u : Chip) (set : Nat) (rest : List Nat) : (u.setApplied set rest).link = { u.link with sets := rest } := setChange_link ..

/-- What VOTING_SET_FLIT leads to, once it is known whether it closes an open check. -/
theorem execVotingSetFlit_eq {set : Nat} {rest : List Nat} {x : Chip} (hsets : s.chip.link.sets = set :: rest)
    (hx : (match (s.chip.setApplied set rest).weir.openCheck with
      | some k => if s.chip.get Reg.WR_STAT.SET - (s.chip.get Reg.WR_STAT.SET &&& set) = k.d ∧ (s.chip.setApplied set rest).weir.time ≤ k.arr + 1130
          then (s.chip.setApplied set rest).checkPass k.img k.d else s.chip.setApplied set rest
      | none => s.chip.setApplied set rest) = x) (hvoted : x.weir.voted = []) (hlink : x.link.voted = []) :
    exec .votingSetFlit s = s.become { x with
      weir := { x.weir with ackWait := [] }, link := { x.link with acks := x.link.acks ++ (x.weir.ackWait ++ [set]) } } := by
  rw [← acknowledge set hvoted hlink]
  change execVotingSetFlit s = _
  unfold execVotingSetFlit
  dsimp only
  rw [hsets]
  dsimp only
  subst hx
  rfl

theorem Chip.withWeirLink_get (x : Chip) (w : Weir) (l : Link) (f : Fld) : ({ x with weir := w, link := l } : Chip).get f = x.get f := rfl

/-- A passed check leaves alone what it does not show. -/
theorem Chip.checkPass_keeps (u : Chip) (v d : Nat) (f : Fld) (hf : f.weirShown = true)
    (hk : f.key ∉ [Reg.WR_RATE.RATE.key, Reg.WR_RATE.CLAMP.key, Reg.WR_VC.DIFF.key, Reg.WR_VC.OPEN.key, Reg.WR_VC.PASS.key, Reg.WR_VCCNT.PASSED.key]) :
    (u.checkPass v d).get f = u.get f := by
  simp only [List.mem_cons, List.not_mem_nil, or_false, not_or] at hk
  obtain ⟨hrate, hclamp, hdiff, hopen, hpass, hcount⟩ := hk
  rw [checkPass_get _ _ _ _ hf (Ne.symm hrate) (Ne.symm hclamp), checkRecord_get]
  refine (get_put_ne _ _ _ _ (Ne.symm hcount)).trans ((checkResult_get ..).trans ?_)
  rw [get_put_ne _ _ _ _ (Ne.symm hpass), get_put_ne _ _ _ _ (Ne.symm hopen), get_put_ne _ _ _ _ (Ne.symm hdiff)]

theorem completes_votingSetFlit_open (set : Nat) (k : OpenCheck) (rest : List Nat) (hsets : s.chip.link.sets = set :: rest)
    (hopen : s.chip.weir.openCheck = some k) (hvoted : s.chip.weir.voted = []) (hlink : s.chip.link.voted = []) :
    Completes .votingSetFlit s (fun t => t.get Reg.WR_STAT.SET = set % 8 ∧ t.link.sets = rest ∧
      t.link.acks = s.chip.link.acks ++ s.chip.weir.ackWait ++ [set] ∧
      if s.chip.get Reg.WR_STAT.SET - (s.chip.get Reg.WR_STAT.SET &&& set) = k.d ∧ s.chip.weir.time ≤ k.arr + 1130 then
        t.weir.openCheck = none ∧ t.get Reg.WR_VC.PASS = 1 ∧ t.get Reg.WR_VC.OPEN = 0 ∧ t.get Reg.WR_VCCNT.PASSED = (s.chip.get Reg.WR_VCCNT.PASSED + 1) % 2 ^ 32
      else t.weir.openCheck = some k ∧ t.get Reg.WR_VC.PASS = s.chip.get Reg.WR_VC.PASS ∧ t.get Reg.WR_EN.EN = s.chip.get Reg.WR_EN.EN) := by
  have hget := setApplied_get s.chip set rest
  have hopen' := (setApplied_keeps Weir.openCheck s.chip set rest fun _ _ => rfl).trans hopen
  have htime := setApplied_keeps Weir.time s.chip set rest fun _ _ => rfl
  have hvoted' := (setApplied_keeps Weir.voted s.chip set rest fun _ _ => rfl).trans hvoted
  have hack := setApplied_keeps Weir.ackWait s.chip set rest fun _ _ => rfl
  have hl := setApplied_link s.chip set rest
  have hold : s.chip.get Reg.WR_STAT.SET < 8 := get_lt ..
  have hset : (s.chip.setApplied set rest).get Reg.WR_STAT.SET = set % 8 := (hget _).trans (get_put_same ..)
  by_cases hclose : s.chip.get Reg.WR_STAT.SET - (s.chip.get Reg.WR_STAT.SET &&& set) = k.d ∧ s.chip.weir.time ≤ k.arr + 1130
  · obtain ⟨-, hpass, hshut, hcount⟩ := checkPass_shows (s.chip.setApplied set rest) k.img (d := k.d) (by omega)
    have hlink' := checkPass_link (s.chip.setApplied set rest) k.img k.d
    have hack' := (checkPass_field Weir.ackWait (fun _ => rfl) (s.chip.setApplied set rest) k.img k.d).trans (show _ = s.chip.weir.ackWait from hack)
    have hset' := (checkPass_keeps (s.chip.setApplied set rest) k.img k.d Reg.WR_STAT.SET (by decide) (by decide)).trans hset
    have hnone := checkPass_openCheck (s.chip.setApplied set rest) k.img k.d
    have hvoted'' := (checkPass_field Weir.voted (fun _ => rfl) (s.chip.setApplied set rest) k.img k.d).trans (show _ = [] from hvoted')
    have hlinkEq := hlink'.trans hl
    refine ⟨_, execVotingSetFlit_eq s hsets (by rw [hopen', htime]; exact if_pos hclose) hvoted'' ((congrArg Link.voted hlinkEq).trans hlink), ?_⟩
    simp only [withWeirLink_get]
    rw [if_pos hclose]
    refine ⟨hset', congrArg Link.sets hlinkEq, ?_, hnone, hpass, hshut, hcount.trans ?_⟩
    · rw [hlinkEq, hack', List.append_assoc]
    · rw [hget, get_put_ne _ _ _ _ (by decide)]
  · refine ⟨_, execVotingSetFlit_eq s hsets (by rw [hopen', htime]; exact if_neg hclose) hvoted' ((congrArg Link.voted hl).trans hlink), ?_⟩
    simp only [withWeirLink_get]
    rw [if_neg hclose]
    refine ⟨hset, congrArg Link.sets hl, ?_, hopen', ?_, ?_⟩
    · rw [hl, hack, List.append_assoc]
    · exact (hget _).trans (get_put_ne _ _ _ _ (by decide))
    · exact (hget _).trans (get_put_ne _ _ _ _ (by decide))

theorem completes_votingSetFlit_free (set c : Nat) (rest : List Nat) (hsets : s.chip.link.sets = set :: rest) (hopen : s.chip.weir.openCheck = none)
    (hvoted : s.chip.weir.voted = []) (hlink : s.chip.link.voted = []) (hc : c < 3) :
    Completes .votingSetFlit s (fun t => t.get Reg.WR_STAT.SET = set % 8 ∧ t.link.acks = s.chip.link.acks ++ s.chip.weir.ackWait ++ [set] ∧
      if s.chip.inSet c = set.testBit c then t.weir.images.get c = s.chip.weir.images.get c ∧ t.weir.delivered.get c = s.chip.weir.delivered.get c
      else t.weir.images.get c = [] ∧ t.weir.delivered.get c = 0 ∧ t.weir.arrivals.get c = [] ∧ t.weir.releases.get c = 0 ∧ t.weir.entered.get c = s.chip.weir.time) := by
  have hopen' := (setApplied_keeps Weir.openCheck s.chip set rest fun _ _ => rfl).trans hopen
  have hvoted' := (setApplied_keeps Weir.voted s.chip set rest fun _ _ => rfl).trans hvoted
  have hack := setApplied_keeps Weir.ackWait s.chip set rest fun _ _ => rfl
  have hl := setApplied_link s.chip set rest
  have hchannel := setChange_channel (fun w => (w.images.get c, w.delivered.get c, w.arrivals.get c, w.releases.get c, w.entered.get c))
    ([], 0, [], 0, s.chip.weir.time) ({ s.chip with link := { s.chip.link with sets := rest } } : Chip) set hc
    (fun w d hd => by simp [Weir.setChange, Per3.get_set_ne hc hd]) (fun w hw => by
      have hw : w.time = s.chip.weir.time := hw
      simp [Weir.setChange, Per3.get_set_same hc, hw])
  refine ⟨_, execVotingSetFlit_eq s hsets (by rw [hopen']) hvoted' ((congrArg Link.voted hl).trans hlink), (setApplied_get ..).trans (get_put_same ..), ?_, ?_⟩
  · dsimp only
    rw [hl, hack, List.append_assoc]
  · split
    · rename_i hsame
      have h := hchannel.trans (if_pos hsame)
      exact ⟨congrArg (·.1) h, congrArg (·.2.1) h⟩
    · rename_i hother
      have h := hchannel.trans (if_neg hother)
      exact ⟨congrArg (·.1) h, congrArg (·.2.1) h, congrArg (·.2.2.1) h, congrArg (·.2.2.2.1) h, congrArg (·.2.2.2.2) h⟩

/-- Settles O22. -/
theorem voteCheck : Obligations.VoteCheck := by
  unfold Obligations.VoteCheck
  refine ⟨fun c img s hc hst hin hsafe hvoted => ⟨completes_channelImage_taken s c img hc hst hin hsafe hvoted, fun crc hcrc => completes_channelImage_bad s c img crc hc hst hin hcrc⟩,
    fun c img crc s => completes_channelImage_ignored s c img crc, fun v a b c la lb lc rest s => completes_votedImage s v a b c la lb lc rest,
    fun set k rest s hsets hopen _ => completes_votingSetFlit_open s set k rest hsets hopen, fun set c rest s => completes_votingSetFlit_free s set c rest⟩

end Sys2Proof.Machine
end

section
/-!
PROOFS. Steering, the time registers, the rate gate within limits, the rotation of the checkers and the strap read (05 R138, R153 to R158,
R164 to R167, R178).
-/
namespace Sys2Proof.Machine
open Chip

/-! ### Signed fields -/

theorem signed_pattern {w : Nat} {x : Int} (hw : w ≠ 0) (hlow : -2 ^ (w - 1) ≤ x) (hhigh : x < 2 ^ (w - 1)) : signed w (pattern w x) = x := by
  obtain ⟨k, rfl⟩ := Nat.exists_eq_succ_of_ne_zero hw
  have hpow : (2 : Int) ^ (k + 1) = 2 * 2 ^ k := by rw [pow_succ]; ring
  have hcast : ((2 ^ (k + 1) : Nat) : Int) = 2 * 2 ^ k := by push_cast; exact hpow
  have hpos : (0 : Int) < 2 ^ k := by positivity
  simp only [Nat.succ_eq_add_one, Nat.add_sub_cancel] at hlow hhigh
  have hlt : (pattern (k + 1) x : Int) = x % (2 * 2 ^ k) := by
    unfold pattern
    rw [hpow, Int.toNat_of_nonneg (Int.emod_nonneg _ (by omega))]
  have hmod : pattern (k + 1) x % 2 ^ (k + 1) = pattern (k + 1) x := by
    apply Nat.mod_eq_of_lt
    have h := Int.emod_lt_of_pos x (show (0 : Int) < 2 * 2 ^ k by omega)
    omega
  have hhalf : ((2 ^ k : Nat) : Int) = 2 ^ k := by push_cast; rfl
  unfold signed
  rw [hmod, Nat.succ_eq_add_one, Nat.add_sub_cancel]
  by_cases hx : 0 ≤ x
  · have hval : x % (2 * 2 ^ k) = x := Int.emod_eq_of_lt hx (by omega)
    rw [if_pos (by omega)]
    omega
  · have hval : x % (2 * 2 ^ k) = x + 2 * 2 ^ k := by
      rw [← Int.add_emod_right]
      exact Int.emod_eq_of_lt (by omega) (by omega)
    rw [if_neg (by omega)]
    omega

theorem signed_mod (w v : Nat) : signed w (v % 2 ^ w) = signed w v := by
  unfold signed
  rw [Nat.mod_mod]

/-- A signed number put into a field of its width reads back. -/
theorem Chip.signed_put {u : Chip} {f : Fld} {x : Int} (hw : f.width ≠ 0) (hlow : -2 ^ (f.width - 1) ≤ x) (hhigh : x < 2 ^ (f.width - 1)) :
    signed f.width ((u.put f (pattern f.width x)).get f) = x := by
  rw [get_put_same, signed_mod, signed_pattern hw hlow hhigh]

/-! ### The steering word -/

theorem clampRate_eq (r : Int) : clampRate r = max (-100000) (min 100000 r) := by
  unfold clampRate
  split_ifs <;> omega

theorem clampRate_ne (r : Int) : clampRate r ≠ r ↔ r < -100000 ∨ 100000 < r := by
  rw [clampRate_eq]
  omega

theorem signed_bits (v lo : Nat) : signed 24 (bits v (lo + 31) lo) = signed 24 (bits v (lo + 23) lo) := by
  rw [← signed_mod 24 (bits v (lo + 31) lo), ← signed_mod 24 (bits v (lo + 23) lo)]
  unfold bits
  rw [show lo + 31 - lo + 1 = 32 by omega, show lo + 23 - lo + 1 = 24 by omega, Nat.mod_mod, Nat.mod_mod_of_dvd _ (by decide)]

theorem bits_testBit (v lo : Nat) : (bits v (lo + 31) lo).testBit 31 = v.testBit (lo + 31) := by
  unfold bits
  rw [show lo + 31 - lo + 1 = 32 by omega, Nat.testBit_mod_two_pow, Nat.testBit_div_two_pow]
  simp [Nat.add_comm]

theorem Chip.steer_ignored (u : Chip) (v : Nat) (h : u.get Reg.WR_CFG.STEER_EN = 0 ∨ v.testBit (32 * u.get Reg.WR_CFG.STEER_WORD + 31) = false) :
    u.steer v = u := by
  unfold Chip.steer
  rcases h with h | h
  · rw [if_pos (by rw [Chip.on, h]; rfl)]
  · dsimp only
    rw [bits_testBit, h]
    simp

theorem Chip.steer_rate (u : Chip) (v : Nat) (hen : u.get Reg.WR_CFG.STEER_EN = 1) (hvalid : v.testBit (32 * u.get Reg.WR_CFG.STEER_WORD + 31) = true) :
    let r := signed 24 (bits v (32 * u.get Reg.WR_CFG.STEER_WORD + 23) (32 * u.get Reg.WR_CFG.STEER_WORD))
    signed 24 ((u.steer v).get Reg.WR_RATE.RATE) = max (-100000) (min 100000 r) ∧ ((u.steer v).get Reg.WR_RATE.CLAMP = 1 ↔ (r < -100000 ∨ 100000 < r)) := by
  intro r
  have hreport : ∀ (x : Chip) (d : List Nat) (f : Fld), f.weirShown = true → ((x.irq weirPage 7).raise 1 0x02 d).get f = x.get f := fun x d f hf =>
    (irq_falls.trans (.of_within raise_within (by rfl))).shown f hf
  have hget : ∀ f, f.weirShown = true → (u.steer v).get f = ((u.put Reg.WR_RATE.RATE (pattern 24 (clampRate r))).put Reg.WR_RATE.CLAMP (lvl (clampRate r != r))).get f := by
    intro f hf
    unfold Chip.steer
    dsimp only
    rw [bits_testBit, hvalid, Chip.on, hen, signed_bits]
    rw [if_neg (by decide), if_neg (by decide)]
    split
    · exact hreport _ _ f hf
    · rfl
  have hrange : -8388608 ≤ clampRate r ∧ clampRate r < 8388608 := by
    rw [clampRate_eq]
    omega
  refine ⟨?_, ?_⟩
  · rw [hget _ (by decide), get_put_ne _ _ _ _ (by decide), ← clampRate_eq]
    exact signed_put (f := Reg.WR_RATE.RATE) (by decide) hrange.1 hrange.2
  · rw [hget _ (by decide), get_put_same, ← clampRate_ne]
    by_cases h : clampRate r = r
    · simp [h, lvl]
    · simp [h, lvl, Reg.WR_RATE.CLAMP]

/-! ### WR_TIME_LO and WR_STOFF_HI -/

theorem assoc_assocPut {α : Type} (l : List (Nat × α)) (k : Nat) (v d : α) : assoc (assocPut l k v) k d = v := by
  induction l with
  | nil => simp [assocPut, assoc]
  | cons e l ih =>
    obtain ⟨a, w⟩ := e
    unfold assocPut
    split
    · simp [assoc]
    · split
      · simp [assoc]
      · rename_i hne _
        unfold assoc at ih ⊢
        rw [List.find?_cons_of_neg (by simpa using Ne.symm hne)]
        exact ih

theorem pageReach_of_target {u : Chip} {req a t : Nat} (h : fabricTarget req a = some t) : u.pageReach req a = reaches t req := by
  unfold Chip.pageReach
  rw [h]

theorem weirTime_reached (u : Chip) {req : Nat} (hreq : req < 8) : u.pageReach req 0x50002040 = true ∧ u.pageReach req 0x50002060 = true := by
  have h : ∀ r < 8, (fabricTarget r 0x50002040 = some 5 ∧ fabricTarget r 0x50002060 = some 5) ∧ reaches 5 r = true := by decide
  obtain ⟨⟨hlo, hhi⟩, ht⟩ := h req hreq
  exact ⟨(pageReach_of_target hlo).trans ht, (pageReach_of_target hhi).trans ht⟩

theorem weirTime_bars (u : Chip) (req : Nat) : u.planeBars req 0x50002060 = (req != 7) := by
  have h : (pageInfo 0x50002060).elim false (fun p => p.ty / 256 == 0xC0) = true := by decide
  unfold Chip.planeBars pageBarred
  cases hp : pageInfo 0x50002060 with
  | none =>
    rw [hp] at h
    exact absurd h (by decide)
  | some p =>
    rw [hp] at h
    have hty : p.ty / 256 = 0xC0 := beq_iff_eq.1 h
    simp [Chip.controlPage, hty]

theorem Chip.atWeirTime {u : Chip} (off : Nat) (hoff : off < 0x1000) {req : Nat} {wr : Bool} (k : Chip → Chip) (hatt : u.attends 0x50002000 = true)
    (hbars : u.planeBars req (0x50002000 + off) = false) (hreach : u.pageReach req (0x50002000 + off) = true) :
    u.atPage req (0x50002000 + off) wr k = k u := atPage_attends u req 0x50002000 off wr k hoff hatt hbars hreach

variable (s : State)

theorem completes_wrTimeLoRead (req : Nat) (hreq : req < 8) (hatt : s.chip.attends 0x50002000 = true) :
    Completes (.wrTimeLoRead req) s (fun t => t.resp = .data (s.chip.weir.time % 2 ^ 32) ∧
      assoc t.weir.hiLatch req 0 = s.chip.weir.time / 2 ^ 32 % 2 ^ 32 ∧ t.regs = s.chip.regs ∧ t.weir.time = s.chip.weir.time) := by
  have hpage : s.chip.atPage req 0x50002040 false (fun u => u.timeLo req) = s.chip.timeLo req := by
    have hp : (pageInfo 0x50002040).isNone = false := by decide
    have hat : s.chip.attends 0x50002040 = true := (attends_add s.chip 0x50002000 0x40 (by decide)).trans hatt
    unfold Chip.atPage
    rw [hp, if_neg (by decide), if_neg (by simp), if_neg (by rw [(weirTime_reached s.chip hreq).1]; decide)]
    exact access_attends _ _ _ _ hat
  have hlow : ∀ n : Nat, n % 2 ^ 64 % 2 ^ 32 = n % 2 ^ 32 := fun n => Nat.mod_mod_of_dvd _ (pow_dvd_pow 2 (by decide))
  have hhigh : ∀ n : Nat, n % 2 ^ 64 / 2 ^ 32 = n / 2 ^ 32 % 2 ^ 32 := fun n => by
    rw [show (2 : Nat) ^ 64 = 2 ^ 32 * 2 ^ 32 from (pow_add 2 32 32), Nat.mod_mul_right_div_self]
  refine ⟨s.chip.timeLo req, congrArg s.become hpage, ?_, ?_, rfl, rfl⟩
  · exact congrArg BusResp.data (hlow _)
  · exact (assoc_assocPut ..).trans (hhigh _)

theorem Chip.stoffHi_again {u : Chip} {v lo : Nat} (hlo : u.weir.stoffLo = some lo) (hset : u.on Reg.WR_STAT.STOFF_SET = true) :
    u.stoffHi 7 v = u.answer .ok := by
  unfold Chip.stoffHi
  rw [if_neg (by decide), hlo]
  exact if_pos hset

/-- The station offset is set. -/
def Chip.stoffSet (u : Chip) (offset : Nat) : Chip :=
  ((((u.put Reg.WR_STOFF.STOFF offset).put Reg.WR_STAT.STOFF_SET 1).modWeir (fun w => { w with stoffLo := none })).answer .ok)

theorem Chip.stoffSet_get (u : Chip) (offset : Nat) (f : Fld) :
    (u.stoffSet offset).get f = ((u.put Reg.WR_STOFF.STOFF offset).put Reg.WR_STAT.STOFF_SET 1).get f := rfl

theorem Chip.stoffSet_shows (u : Chip) (offset : Nat) :
    (u.stoffSet offset).get Reg.WR_STAT.STOFF_SET = 1 ∧ (u.stoffSet offset).get Reg.WR_STOFF.STOFF = offset % 2 ^ 64 ∧
      (u.stoffSet offset).weir.time = u.weir.time := by
  refine ⟨?_, ?_, rfl⟩
  · rw [stoffSet_get, get_put_same]
    rfl
  · rw [stoffSet_get, get_put_ne _ _ _ _ (by decide), get_put_same, show Reg.WR_STOFF.STOFF.width = 64 from rfl]

theorem Chip.stoffHi_first {u : Chip} {lo : Nat} (v : Nat) (hlo : u.weir.stoffLo = some lo) (hset : u.on Reg.WR_STAT.STOFF_SET = false) :
    u.stoffHi 7 v = u.stoffSet (lo + v % 2 ^ 32 * 2 ^ 32) := by
  unfold Chip.stoffHi
  rw [if_neg (by decide), hlo]
  exact if_neg (by rw [hset]; decide)

theorem completes_wrStoffHiWrite (lo v : Nat) (hatt : s.chip.attends 0x50002000 = true) (hlo : s.chip.weir.stoffLo = some lo) :
    Completes (.wrStoffHiWrite 7 v) s (fun t =>
      if s.chip.get Reg.WR_STAT.STOFF_SET = 1 then t.regs = s.chip.regs
      else t.get Reg.WR_STAT.STOFF_SET = 1 ∧ t.get Reg.WR_STOFF.STOFF = (lo + v % 2 ^ 32 * 2 ^ 32) % 2 ^ 64 ∧ t.weir.time = s.chip.weir.time ∧
        t.alignedTime = (s.chip.weir.time + t.get Reg.WR_STOFF.STOFF) % 2 ^ 64) := by
  have hpage : s.chip.atPage 7 0x50002060 true (fun u => u.stoffHi 7 v) = s.chip.stoffHi 7 v :=
    atWeirTime 0x60 (by decide) _ hatt (weirTime_bars ..) (weirTime_reached s.chip (by decide)).2
  refine ⟨s.chip.stoffHi 7 v, congrArg s.become hpage, ?_⟩
  dsimp only
  by_cases hset : s.chip.get Reg.WR_STAT.STOFF_SET = 1
  · rw [if_pos hset, stoffHi_again hlo (by rw [Chip.on, hset]; rfl)]
    rfl
  · have hfresh : s.chip.on Reg.WR_STAT.STOFF_SET = false := by
      have hlt : s.chip.get Reg.WR_STAT.STOFF_SET < 2 := get_lt ..
      rw [Chip.on, bne_eq_false_iff_eq]
      omega
    rw [stoffHi_first v hlo hfresh]
    obtain ⟨hdone, hoffset, htime⟩ := stoffSet_shows s.chip (lo + v % 2 ^ 32 * 2 ^ 32)
    rw [if_neg hset]
    refine ⟨hdone, hoffset, htime, ?_⟩
    unfold Chip.alignedTime
    rw [htime]

theorem Chip.planeRefused_get {u : Chip} {req a : Nat} {f : Fld} (hlo : f.lo < 32) (hc : f.addr % 0x1000 ≠ 0xC) (h409 : f.addr / 0x100000 ≠ 0x409)
    (h4 : 0x40000000 ≤ f.addr) (hkey : (Reg.BLK_ERR.PLANE (pageOf a)).key ≠ f.key) : (u.planeRefused req a).get f = u.get f := by
  have hraise : ∀ (x : Chip) (src code : Nat) (d : List Nat), (x.raise src code d).get f = x.get f := fun x src code d =>
    raise_within.regs f hlo h4 hc (by simpa [Scope.covers] using h409)
  unfold Chip.planeRefused
  split
  · exact (hraise ..).trans ((refreshLines_get ..).trans (get_put_ne _ _ _ _ hkey))
  · exact hraise ..

theorem completes_wrStoffHiWrite_other (req v : Nat) (_hatt : s.chip.attends 0x50002000 = true) (hreq : req ≠ 7) :
    Completes (.wrStoffHiWrite req v) s (fun t => t.get Reg.WR_STOFF.STOFF = s.chip.get Reg.WR_STOFF.STOFF ∧
      t.get Reg.WR_STAT.STOFF_SET = s.chip.get Reg.WR_STAT.STOFF_SET) := by
  have hungate : ∀ f : Fld, f.lo < 32 → f.addr % 0x1000 ≠ 0xC → (s.chip.ungate 0x50002060).get f = s.chip.get f := fun f hlo hc => by
    unfold Chip.ungate
    dsimp only
    split
    · refine get_put_ne _ _ _ _ (Fld.key_ne (by decide) hlo fun h => hc ?_)
      rw [← h]
      decide
    · rfl
  have hpage : s.chip.atPage req 0x50002060 true (fun u => u.stoffHi req v) = (s.chip.ungate 0x50002060).planeRefused req 0x50002060 := by
    have hp : (pageInfo 0x50002060).isNone = false := by decide
    unfold Chip.atPage
    rw [hp, if_neg (by decide), if_pos (by rw [weirTime_bars]; simpa using hreq)]
  refine ⟨_, congrArg s.become hpage, ?_, ?_⟩
  · exact (planeRefused_get (by decide) (by decide) (by decide) (by decide) (by decide)).trans (hungate _ (by decide) (by decide))
  · exact (planeRefused_get (by decide) (by decide) (by decide) (by decide) (by decide)).trans (hungate _ (by decide) (by decide))

/-! ### The rate gate within limits, the rotation of the checkers -/

theorem completes_rateGateEnd_within (per wrc : Nat) (hoff : s.chip.weir.off = false) (hper : 999800 ≤ per) (hper' : per ≤ 1000200) (hwrc : 90000 ≤ wrc)
    (hwrc' : wrc ≤ 110000) (hlock : s.chip.get Reg.CLK_STAT.ROOT_LOCK = 1) :
    Completes (.rateGateEnd per wrc) s (fun t => signed 16 (t.get Reg.WR_RCHK.PER_DEV) = (per : Int) - 1000000 ∧
      signed 16 (t.get Reg.WR_RCHK.WRC_DEV) = (wrc : Int) - 100000 ∧ t.now = max s.chip.now s.chip.weir.gateEnd ∧
      t.weir.gateEnd = t.now + 1000000 ∧ t.safe = s.chip.safe) := by
  have hnot : ¬(s.chip.on Reg.CLK_STAT.ROOT_LOCK = true ∧ 200 < ((per : Int) - 1000000).natAbs) := fun h => by omega
  have hin : ¬(wrc < 90000 ∨ 110000 < wrc) := by omega
  let x : Chip := (s.chip.until s.chip.weir.gateEnd).modWeir fun w => { w with gateEnd := (s.chip.until s.chip.weir.gateEnd).now + 1000000 }
  have hx : ∀ f, x.get f = s.chip.get f := fun f => by
    unfold Chip.get
    rw [show x.regs = s.chip.regs from until_regs s.chip s.chip.weir.gateEnd]
  have hrecord : s.chip.gateRecord per wrc = (x.put Reg.WR_RCHK.PER_DEV (pattern 16 ((per : Int) - 1000000))).put Reg.WR_RCHK.WRC_DEV (pattern 16 ((wrc : Int) - 100000)) := by
    unfold Chip.gateRecord
    dsimp only
    rw [if_pos (show x.on Reg.CLK_STAT.ROOT_LOCK = true by rw [Chip.on, hx, hlock]; rfl)]
  have hnow : x.now = max s.chip.now s.chip.weir.gateEnd := until_now ..
  refine ⟨s.chip.gateRecord per wrc, ?_, ?_⟩
  · refine (execRateGateEnd_eq s per wrc).trans ((State.weirDoes_powered hoff _).trans ?_)
    dsimp only
    rw [if_neg hnot, if_neg hin]
    rfl
  rw [hrecord]
  refine ⟨?_, signed_put (f := Reg.WR_RCHK.WRC_DEV) (by decide) (by simp [Reg.WR_RCHK.WRC_DEV]; omega) (by simp [Reg.WR_RCHK.WRC_DEV]; omega), hnow, rfl, ?_⟩
  · rw [get_put_ne _ _ _ _ (by decide)]
    exact signed_put (f := Reg.WR_RCHK.PER_DEV) (by decide) (by simp [Reg.WR_RCHK.PER_DEV]; omega) (by simp [Reg.WR_RCHK.PER_DEV]; omega)
  · unfold Chip.safe Chip.on
    rw [get_put_ne _ _ _ _ (by decide), get_put_ne _ _ _ _ (by decide), hx]

theorem completes_checkerRotateTimer (hoff : s.chip.weir.off = false) :
    Completes (.checkerRotateTimer true) s (fun t => t.weir.checker = (s.chip.weir.checker + 1) % 32 ∧ t.now = max s.chip.now s.chip.weir.idleDue ∧
      t.weir.idleDue = t.now + 1000000 ∧ t.regs = s.chip.regs) := by
  refine ⟨_, State.weirDoes_powered hoff _, ?_, until_now .., ?_, until_regs s.chip s.chip.weir.idleDue⟩
  · exact congrArg (fun n => (n + 1) % 32) (until_checker s.chip s.chip.weir.idleDue)
  · rfl

/-! ### The strap read -/

theorem completes_strapReadTimer (pu pd : Nat) (hoff : s.chip.weir.off = false) (hpu : pu < 256) (hpd : pd < 256) :
    Completes (.strapReadTimer pu pd) s (fun t => t.get Reg.WR_SEAL.CURRENT = pu &&& pd ∧ t.get Reg.WR_SEAL.OPEN = pu ^^^ pd ∧
      t.get Reg.WR_STAT.MAINT = s.chip.get Reg.WR_STAT.MAINT ∧
      (((s.chip.get Reg.WR_SEAL.LATCHED ^^^ (pu &&& pd)) ||| (pu ^^^ pd)) &&& 0xEF = 0 → t.safe = s.chip.safe ∧ t.get Reg.WR_EN.EN = s.chip.get Reg.WR_EN.EN) ∧
      (((s.chip.get Reg.WR_SEAL.LATCHED ^^^ (pu &&& pd)) ||| (pu ^^^ pd)) &&& 0xEF ≠ 0 → s.chip.unlatched = true → t.safeWith 5 = true)) := by
  let x : Chip := (s.chip.until s.chip.weir.strapDue).modWeir fun w => { w with strapDue := (s.chip.until s.chip.weir.strapDue).now + ms 10 }
  have hx : ∀ f, x.get f = s.chip.get f := fun f => by
    unfold Chip.get
    rw [show x.regs = s.chip.regs from until_regs s.chip s.chip.weir.strapDue]
  have hxun : x.unlatched = s.chip.unlatched := advance_unlatched s.chip (s.chip.weir.strapDue - s.chip.now)
  have hxor : (pu ^^^ pd) % 256 = pu ^^^ pd := Nat.mod_eq_of_lt (Nat.xor_lt_two_pow (n := 8) hpu hpd)
  have hcurrent : (x.strapRead pu pd).get Reg.WR_SEAL.CURRENT = pu &&& pd :=
    (get_put_same ..).trans (Nat.mod_eq_of_lt (lt_of_le_of_lt Nat.and_le_left hpu))
  have hopen : (x.strapRead pu pd).get Reg.WR_SEAL.OPEN = pu ^^^ pd := by
    refine (get_put_ne _ _ _ _ (by decide)).trans ((get_put_same ..).trans ?_)
    rw [hxor]
    exact hxor
  have hother : ∀ f : Fld, Reg.WR_SEAL.CURRENT.key ≠ f.key → Reg.WR_SEAL.OPEN.key ≠ f.key → (x.strapRead pu pd).get f = s.chip.get f := fun f hc ho =>
    (get_put_ne _ _ _ _ hc).trans ((get_put_ne _ _ _ _ ho).trans (hx f))
  have hun : (x.strapRead pu pd).unlatched = s.chip.unlatched := (unlatched_of ((hother _ (by decide) (by decide)).trans (hx _).symm) rfl).trans hxun
  refine ⟨x.strapJudge pu pd, State.weirDoes_powered hoff _, ?_⟩
  unfold Chip.strapJudge
  extract_lets oldC oldO y new openS diff z
  have hz : Falls y z := by
    unfold z
    split
    · exact irq_falls.trans (.of_within raise_within (by rfl))
    · exact .rfl
  have hen : z.get Reg.WR_EN.EN = y.get Reg.WR_EN.EN := by
    unfold z
    split
    · exact (raise_within.regs _ (by decide) (by decide) (by decide) (by decide)).trans (get_irq _ _ _ _ (by decide) (by decide))
    · rfl
  have hcond : ((z.get Reg.WR_SEAL.LATCHED ^^^ new) ||| openS) &&& faultStraps =
      ((s.chip.get Reg.WR_SEAL.LATCHED ^^^ (pu &&& pd)) ||| (pu ^^^ pd)) &&& 0xEF := by
    rw [hz.shown _ (by decide), show y.get Reg.WR_SEAL.LATCHED = _ from hother _ (by decide) (by decide), show new = _ from hcurrent, show openS = _ from hopen]
    rfl
  have hshown : ∀ (f : Fld) (n : Nat), f.weirShown = true → f.key ∉ [Reg.WR_STAT.SAFE.key, Reg.WR_STAT.LOCKOUT.key, Reg.WR_STAT.CAUSE.key, Reg.WR_VC.OPEN.key] →
      y.get f = n → (if ((z.get Reg.WR_SEAL.LATCHED ^^^ new) ||| openS) &&& faultStraps ≠ 0 then z.weirSafe 5 else z).get f = n := fun f n hf hk hy => by
    split
    · rw [weirSafe_shown _ _ _ hf hk, hz.shown _ hf, hy]
    · rw [hz.shown _ hf, hy]
  refine ⟨hshown _ _ (by decide) (by decide) hcurrent, hshown _ _ (by decide) (by decide) hopen,
    hshown _ _ (by decide) (by decide) (hother _ (by decide) (by decide)), fun h0 => ?_, fun h1 hlatch => ?_⟩
  · rw [hcond, if_neg (not_not.2 h0)]
    refine ⟨?_, hen.trans (hother _ (by decide) (by decide))⟩
    unfold Chip.safe Chip.on
    rw [hz.shown _ (by decide), show y.get Reg.WR_STAT.SAFE = _ from hother _ (by decide) (by decide)]
  · rw [hcond, if_pos h1]
    exact weirSafe_safeWith (hz.unlatched.trans (hun.trans hlatch)) (by decide)

/-- Settles O23. -/
theorem timeAndStraps : Obligations.TimeAndStraps := by
  unfold Obligations.TimeAndStraps
  exact ⟨fun u v => steer_rate u v, fun u v => steer_ignored u v, fun req s => completes_wrTimeLoRead s req,
    fun lo v s => completes_wrStoffHiWrite s lo v, fun req v s => completes_wrStoffHiWrite_other s req v,
    fun per wrc s => completes_rateGateEnd_within s per wrc, completes_checkerRotateTimer, fun pu pd s => completes_strapReadTimer s pu pd⟩

end Sys2Proof.Machine
end

section
/-!
PROOFS. The power-fail trigger, its release and Weir's own reset (05 R152, R155, R164 to R176; 22 R599, R601).
-/
namespace Sys2Proof.Machine
open Chip

/-! ### Fields of a reset domain -/

theorem regLookup_filter_none {p : Nat × Nat → Bool} {l : Regs} {k d : Nat} (h : ∀ v, p (k, v) = false) : regLookup (l.filter p) k d = d := by
  induction l with
  | nil => rfl
  | cons e l ih =>
    obtain ⟨a, v⟩ := e
    by_cases ha : a = k
    · subst ha
      simpa [h v] using ih
    · by_cases hp : p (a, v) = true
      · simpa [hp, regLookup, ha] using ih
      · simpa [hp] using ih

/-- A field of a domain that is reset reads its reset value. -/
theorem Chip.get_resetDomains_in {u : Chip} {doms : List Dom} {f : Fld} (h : keyIn doms f.key = true) : (u.resetDomains doms).get f = f.rst % 2 ^ f.width :=
  congrArg (· % 2 ^ f.width) (regLookup_filter_none fun v => by simp [h])

theorem Chip.get_resetDomains_out {u : Chip} {doms : List Dom} {f : Fld} (h : keyIn doms f.key = false) : (u.resetDomains doms).get f = u.get f :=
  congrArg (· % 2 ^ f.width) (regLookup_filter fun v => by simp [h])

/-! ### The straps latched in the boot hold -/

/-- The boot hold (22 R601). -/
structure Chip.Holds (u : Chip) : Prop where
  hold : u.weir.hold = true
  rails : u.weir.en.t = 0
  en : u.get Reg.WR_EN.EN = 0
  safe : u.get Reg.WR_STAT.SAFE = 1
  lockout : u.get Reg.WR_STAT.LOCKOUT = 1
  cause : u.get Reg.WR_STAT.CAUSE = 0
  perm : u.noPermission = true

/-- What Weir shows after it has latched the straps in the boot hold: the hold, or the safe state with cause SEAL (R165). -/
structure Chip.Latched (u t : Chip) : Prop where
  hold : t.weir.hold = decide (u.get Reg.WR_SEAL.OPEN &&& 0xEF = 0)
  cause : t.get Reg.WR_STAT.CAUSE = if u.get Reg.WR_SEAL.OPEN &&& 0xEF = 0 then 0 else 5
  latched : t.get Reg.WR_SEAL.LATCHED = u.get Reg.WR_SEAL.CURRENT
  lockout : t.get Reg.WR_STAT.LOCKOUT = 1
  safe : t.safe = true
  enables : t.enablesOff = true
  perm : t.noPermission = true
  shown : ∀ f : Fld, f.weirShown = true → f.key ∉ [Reg.WR_STAT.SAFE.key, Reg.WR_STAT.LOCKOUT.key, Reg.WR_STAT.CAUSE.key, Reg.WR_VC.OPEN.key,
    Reg.WR_SEAL.LATCHED.key] → t.get f = u.get f
  still : t.still = u.still
  link : t.link = u.link

theorem Chip.strapLatch_latched {u : Chip} (h : u.Holds) : u.Latched u.strapLatch := by
  obtain ⟨hhold, hrails, hen, hsafe, hlockout, hcause, hperm⟩ := h
  unfold Chip.strapLatch
  extract_lets v
  have hget : ∀ f : Fld, f.key ≠ Reg.WR_SEAL.LATCHED.key → v.get f = u.get f := fun f hf => get_put_ne _ _ _ _ hf.symm
  have hlatched : v.get Reg.WR_SEAL.LATCHED = u.get Reg.WR_SEAL.CURRENT := by
    unfold v
    rw [get_put_same]
    exact Nat.mod_eq_of_lt (get_lt u Reg.WR_SEAL.CURRENT)
  have hweir : v.weir = u.weir := put_weir ..
  have hlat : v.lat = u.lat := put_lat ..
  have hlink : v.link = u.link := put_link ..
  have hstill : v.still = u.still := put_still ..
  have hopen : v.get Reg.WR_SEAL.OPEN &&& faultStraps = u.get Reg.WR_SEAL.OPEN &&& 0xEF := by rw [hget _ (by decide)]; rfl
  have hun : v.unlatched = true := by
    unfold Chip.unlatched
    rw [hweir, hhold]
    exact Bool.or_true _
  clear_value v
  rw [hopen]
  by_cases h0 : u.get Reg.WR_SEAL.OPEN &&& 0xEF = 0
  · rw [if_neg (not_not.2 h0)]
    refine ⟨by rw [hweir, hhold, decide_eq_true h0], by rw [if_pos h0, hget _ (by decide), hcause], hlatched, by rw [hget _ (by decide), hlockout], ?_, ?_, ?_,
      fun f _ hk => hget f (by simp_all), hstill, hlink⟩
    · rw [Chip.safe, Chip.on, hget _ (by decide), hsafe]
      rfl
    · have hen' : v.get Reg.WR_EN.EN = 0 := (hget _ (by decide)).trans hen
      simp [Chip.enablesOff, Rails.word, hweir, hrails, hen']
    · rw [Chip.noPermission, hlat]
      exact hperm
  · rw [if_pos h0]
    have hw := weirSafe_safeWith (cause := 5) hun (by decide)
    have hshown : ∀ f : Fld, f.weirShown = true → f.key ∉ [Reg.WR_STAT.SAFE.key, Reg.WR_STAT.LOCKOUT.key, Reg.WR_STAT.CAUSE.key, Reg.WR_VC.OPEN.key] →
        (v.weirSafe 5).get f = v.get f := fun f hf hk => weirSafe_shown v 5 f hf hk
    simp only [Chip.safeWith, Bool.and_eq_true, Bool.not_eq_true', beq_iff_eq] at hw
    obtain ⟨⟨⟨⟨⟨⟨⟨⟨hoff, hsafe'⟩, hlockout'⟩, hcause'⟩, hperm'⟩, -⟩, -⟩, hhold'⟩, -⟩ := hw
    refine ⟨by rw [hhold', decide_eq_false h0], by rw [if_neg h0, hcause'], (hshown _ (by decide) (by decide)).trans hlatched, ?_, hsafe', hoff, hperm',
      fun f hf hk => ?_, (weirSafe_still ..).trans hstill, (weirSafe_link ..).trans hlink⟩
    · have hlt := get_lt (v.weirSafe 5) Reg.WR_STAT.LOCKOUT
      rw [Chip.on, bne_iff_ne] at hlockout'
      simp only [Reg.WR_STAT.LOCKOUT] at hlt hlockout' ⊢
      omega
    · simp only [List.mem_cons, List.not_mem_nil, or_false, not_or] at hk
      obtain ⟨hks, hkl, hkc, hko, hkd⟩ := hk
      exact (hshown f hf (by simp [*])).trans (hget f hkd)

/-- The chip in the boot hold, before the straps are latched. -/
def Chip.heldOf (u : Chip) : Chip :=
  let w := u.weir
  let kept : Weir := { off := w.off, time := w.time, acc := w.acc, checker := w.checker, idleDue := w.idleDue, strapDue := w.strapDue, violation := w.violation, gateEnd := w.gateEnd, stoffLo := none, supplyDue := w.supplyDue, causeAt := w.time }
  let u := ({ u with weir := kept }).resetDomains [.weirCtl]
  let u := (((u.put Reg.WR_STAT.READY 0).put Reg.WR_EN.EN 0).put Reg.WR_STAT.SAFE 1).put Reg.WR_STAT.LOCKOUT 1
  let u := ((u.put Reg.WR_STAT.CAUSE 0).put Reg.WR_STAT.SET 0).put Reg.WR_STAT.PFAIL 0
  (((u.put Reg.WR_SNAPCNT.COUNT 0xFFFFFFFF).latHold).put Reg.WR_VC.PASS 0)

theorem Chip.weirHold_eq (u : Chip) : u.weirHold = u.heldOf.strapLatch := rfl

/-- What the boot hold writes, and what it keeps. -/
theorem Chip.heldOf_get (u : Chip) :
    u.heldOf.get Reg.WR_STAT.READY = 0 ∧ u.heldOf.get Reg.WR_EN.EN = 0 ∧ u.heldOf.get Reg.WR_STAT.SAFE = 1 ∧ u.heldOf.get Reg.WR_STAT.LOCKOUT = 1 ∧
      u.heldOf.get Reg.WR_STAT.CAUSE = 0 ∧ u.heldOf.get Reg.WR_STAT.PFAIL = 0 ∧ u.heldOf.get Reg.WR_SEAL.OPEN = u.get Reg.WR_SEAL.OPEN ∧
      u.heldOf.get Reg.WR_SEAL.CURRENT = u.get Reg.WR_SEAL.CURRENT := by
  have hend : ∀ (x : Chip) (f : Fld), f.key ∉ [Reg.WR_VC.PASS.key, Reg.LAT_STAT.SB_STATE.key, Reg.LAT_STAT.ROUTE.key, Reg.LAT_STAT.PASS_REQ.key,
      Reg.WR_SNAPCNT.COUNT.key] → (((x.put Reg.WR_SNAPCNT.COUNT 0xFFFFFFFF).latHold).put Reg.WR_VC.PASS 0).get f = x.get f := fun x f hf => by
    simp only [List.mem_cons, List.not_mem_nil, or_false, not_or] at hf
    obtain ⟨hpass, hstate, hroute, hreq, hcount⟩ := hf
    rw [get_put_ne _ _ _ _ (Ne.symm hpass), Chip.latHold, get_put_ne _ _ _ _ (Ne.symm hreq), get_put_ne _ _ _ _ (Ne.symm hroute),
      get_put_ne _ _ _ _ (Ne.symm hstate), withLat_get, get_put_ne _ _ _ _ (Ne.symm hcount)]
  have hreset : ∀ (x : Chip) (w : Weir) (f : Fld), keyIn [.weirCtl] f.key = false → (({ x with weir := w } : Chip).resetDomains [.weirCtl]).get f = x.get f :=
    fun x w f hf => get_resetDomains_out hf
  unfold Chip.heldOf
  extract_lets w kept r y z
  have hy : ∀ f : Fld, f.key ∉ [Reg.WR_STAT.CAUSE.key, Reg.WR_STAT.SET.key, Reg.WR_STAT.PFAIL.key] → z.get f = y.get f := fun f hf => by
    simp only [List.mem_cons, List.not_mem_nil, or_false, not_or] at hf
    obtain ⟨hcause, hset, hpfail⟩ := hf
    exact (get_put_ne _ _ _ _ (Ne.symm hpfail)).trans ((get_put_ne _ _ _ _ (Ne.symm hset)).trans (get_put_ne _ _ _ _ (Ne.symm hcause)))
  have hr : ∀ f : Fld, f.key ∉ [Reg.WR_STAT.READY.key, Reg.WR_EN.EN.key, Reg.WR_STAT.SAFE.key, Reg.WR_STAT.LOCKOUT.key] → y.get f = r.get f := fun f hf => by
    simp only [List.mem_cons, List.not_mem_nil, or_false, not_or] at hf
    obtain ⟨hready, hen, hsafe, hlock⟩ := hf
    exact (get_put_ne _ _ _ _ (Ne.symm hlock)).trans ((get_put_ne _ _ _ _ (Ne.symm hsafe)).trans ((get_put_ne _ _ _ _ (Ne.symm hen)).trans
      (get_put_ne _ _ _ _ (Ne.symm hready))))
  have hopen : r.get Reg.WR_SEAL.OPEN = u.get Reg.WR_SEAL.OPEN := hreset u kept _ (by decide)
  have hcurrent : r.get Reg.WR_SEAL.CURRENT = u.get Reg.WR_SEAL.CURRENT := hreset u kept _ (by decide)
  clear_value r
  refine ⟨?_, ?_, ?_, ?_, ?_, ?_, ?_, ?_⟩
  · rw [hend _ _ (by decide), hy _ (by decide)]
    unfold y
    rw [get_put_ne _ _ _ _ (by decide), get_put_ne _ _ _ _ (by decide), get_put_ne _ _ _ _ (by decide), get_put_same]
    rfl
  · rw [hend _ _ (by decide), hy _ (by decide)]
    unfold y
    rw [get_put_ne _ _ _ _ (by decide), get_put_ne _ _ _ _ (by decide), get_put_same]
    rfl
  · rw [hend _ _ (by decide), hy _ (by decide)]
    unfold y
    rw [get_put_ne _ _ _ _ (by decide), get_put_same]
    rfl
  · rw [hend _ _ (by decide), hy _ (by decide)]
    unfold y
    rw [get_put_same]
    rfl
  · rw [hend _ _ (by decide)]
    unfold z
    rw [get_put_ne _ _ _ _ (by decide), get_put_ne _ _ _ _ (by decide), get_put_same]
    rfl
  · rw [hend _ _ (by decide)]
    unfold z
    rw [get_put_same]
    rfl
  · rw [hend _ _ (by decide), hy _ (by decide), hr _ (by decide), hopen]
  · rw [hend _ _ (by decide), hy _ (by decide), hr _ (by decide), hcurrent]

theorem Chip.heldOf_holds (u : Chip) : u.heldOf.Holds := by
  obtain ⟨-, hen, hsafe, hlockout, hcause, -⟩ := heldOf_get u
  exact ⟨rfl, rfl, hen, hsafe, hlockout, hcause, by simp [noPermission, heldOf, latHold, Rails.low_word]⟩

/-- The boot hold with the straps latched. -/
theorem Chip.weirHold_latched (u : Chip) : u.heldOf.Latched u.weirHold := strapLatch_latched (heldOf_holds u)

variable (s : State)

/-! ### The trigger -/

theorem Chip.pwrAbandon_falls {u : Chip} : Falls u u.pwrAbandon := by
  unfold Chip.pwrAbandon
  extract_lets ph v w
  split
  · have hv : Falls u v := pwrRestart_falls.trans (.of_within ((put_within (Fld.inBlocks_self (by rfl))).trans (put_within (Fld.inBlocks_self (by rfl)))) (by rfl))
    exact (hv.trans (.of_within pwr_within (by rfl))).trans (.of_within (raiseAfter_within.trans pwrStartPending_within) (by rfl))
  · exact pwrWake_falls

@[simp] theorem Chip.pwrAbandon_still (u : Chip) : u.pwrAbandon.still = u.still := by
  have hpwr : ∀ (x : Chip) (p : Power), ({ x with pwr := p } : Chip).still = x.still := fun _ _ => rfl
  unfold Chip.pwrAbandon
  dsimp only
  split
  · rw [pwrStartPending_still, raiseAfter_still, hpwr, put_still, put_still, pwrRestart_still]
  · exact pwrWake_still ..

/-- The monitor shows what it sees (R168, R172). -/
def Chip.supplySeen (u : Chip) (low : Bool) (uvov : Nat) : Chip :=
  ((u.put Reg.WR_SUP.PFAIL_LOW (lvl low)).put Reg.WR_SUP.UVOV uvov).modWeir fun w => { w with violation := u.now }

/-- The trigger is latched with its origin. -/
def Chip.pfailLatched (u : Chip) (low : Bool) : Chip :=
  (u.put Reg.WR_STAT.PFAIL 1).modWeir fun w => { w with pfailAt := some u.now, pfailOrigin := if low then 1 else 2 }

/-- The trigger is reported and the power-fail flit leaves (R168, R169). -/
def Chip.pfailSent (u : Chip) (low : Bool) : Chip :=
  let v := ((u.irq weirPage 4).raise 0 0x03 [if low then 1 else 2, u.regRead 0x5000004C]).pwrAbandon
  { v with link := { v.link with resetDown := v.link.resetDown ++ [0] } }

theorem execPfailTrigger_eq (low : Bool) (uvov : Nat) : execPfailTrigger low uvov s =
    if (low = false ∧ uvov % 256 = 0) ∨ s.chip.weir.pfArmed = false ∨ s.chip.weir.pfailAt.isSome = true then s.weirDoes (s.chip.supplySeen low uvov)
    else s.weirDoes ((((s.chip.supplySeen low uvov).pfailLatched low).pfailSent low).weirSafe (if low then 6 else 7)) := rfl

theorem Chip.supplySeen_get (u : Chip) (low : Bool) (uvov : Nat) (f : Fld) :
    (u.supplySeen low uvov).get f = ((u.put Reg.WR_SUP.PFAIL_LOW (lvl low)).put Reg.WR_SUP.UVOV uvov).get f := rfl

theorem Chip.pfailLatched_get (u : Chip) (low : Bool) (f : Fld) : (u.pfailLatched low).get f = (u.put Reg.WR_STAT.PFAIL 1).get f := rfl

/-- What Weir shows once the first trigger is latched. -/
theorem Chip.pfailLatched_shows (u : Chip) (low : Bool) (uvov : Nat) :
    ((u.supplySeen low uvov).pfailLatched low).get Reg.WR_STAT.PFAIL = 1 ∧ ((u.supplySeen low uvov).pfailLatched low).get Reg.WR_SUP.PFAIL_LOW = lvl low ∧
      ((u.supplySeen low uvov).pfailLatched low).get Reg.WR_SUP.UVOV = uvov % 256 ∧ ((u.supplySeen low uvov).pfailLatched low).unlatched = u.unlatched := by
  refine ⟨?_, ?_, ?_, ?_⟩
  · rw [pfailLatched_get, get_put_same]
    rfl
  · rw [pfailLatched_get, get_put_ne _ _ _ _ (by decide), supplySeen_get, get_put_ne _ _ _ _ (by decide), get_put_same]
    exact Nat.mod_eq_of_lt (lvl_lt low)
  · rw [pfailLatched_get, get_put_ne _ _ _ _ (by decide), supplySeen_get, get_put_same]
    rfl
  · refine unlatched_of ?_ rfl
    rw [pfailLatched_get, get_put_ne _ _ _ _ (by decide), supplySeen_get, get_put_ne _ _ _ _ (by decide), get_put_ne _ _ _ _ (by decide)]

/-- The report and the flit leave what Weir shows. -/
theorem Chip.pfailSent_keeps (u : Chip) (low : Bool) : (u.pfailSent low).unlatched = u.unlatched ∧ (u.pfailSent low).still = u.still ∧
    (u.pfailSent low).link = { u.link with resetDown := u.link.resetDown ++ [0] } ∧ ∀ f : Fld, f.weirShown = true → (u.pfailSent low).get f = u.get f := by
  have hun : ∀ (x : Chip) (l : Link), ({ x with link := l } : Chip).unlatched = x.unlatched := fun _ _ => rfl
  have hget : ∀ (x : Chip) (l : Link) (f : Fld), ({ x with link := l } : Chip).get f = x.get f := fun _ _ _ => rfl
  have hstill : ∀ (x : Chip) (l : Link), ({ x with link := l } : Chip).still = x.still := fun _ _ => rfl
  have hlink : ∀ x : Chip, x.pwrAbandon.link = x.link := fun x => pwrAbandon_within.same .link (by decide)
  have hfalls : ∀ d, Falls u ((u.irq weirPage 4).raise 0 0x03 d).pwrAbandon := fun d => (irq_falls.trans (.of_within raise_within (by rfl))).trans pwrAbandon_falls
  unfold Chip.pfailSent
  dsimp only
  refine ⟨(hun _ _).trans (hfalls _).unlatched, ?_, ?_, fun f hf => (hget _ _ _).trans ((hfalls _).shown f hf)⟩
  · rw [hstill, pwrAbandon_still, raise_still, irq_still]
  · rw [hlink, raise_link, irq_link]

theorem completes_pfailTrigger (low : Bool) (uvov : Nat) (hoff : s.chip.weir.off = false) (hcond : low = true ∨ uvov % 256 ≠ 0)
    (harmed : s.chip.weir.pfArmed = true) (hnone : s.chip.weir.pfailAt = none) (hun : s.chip.unlatched = true) :
    Completes (.pfailTrigger low uvov) s (fun t => t.safeWith (if low then 6 else 7) = true ∧ t.get Reg.WR_STAT.PFAIL = 1 ∧
      t.weir.pfailAt = some s.chip.now ∧ t.link.resetDown = s.chip.link.resetDown ++ [0] ∧
      t.get Reg.WR_SUP.PFAIL_LOW = (if low then 1 else 0) ∧ t.get Reg.WR_SUP.UVOV = uvov % 256) := by
  have hgo : ¬((low = false ∧ uvov % 256 = 0) ∨ s.chip.weir.pfArmed = false ∨ s.chip.weir.pfailAt.isSome = true) := by
    rw [harmed, hnone]
    rcases hcond with rfl | h <;> simp [*]
  obtain ⟨hpfail, hlow, huvov, hun2⟩ := pfailLatched_shows s.chip low uvov
  have hpf : ((s.chip.supplySeen low uvov).pfailLatched low).weir.pfailAt = some s.chip.now := rfl
  have hlink : ((s.chip.supplySeen low uvov).pfailLatched low).link = s.chip.link := rfl
  generalize hu : (s.chip.supplySeen low uvov).pfailLatched low = u at hpfail hlow huvov hun2 hpf hlink
  obtain ⟨hun3, hstill, hsent, hget⟩ := pfailSent_keeps u low
  have hshown : ∀ f : Fld, f.weirShown = true → f.key ∉ [Reg.WR_STAT.SAFE.key, Reg.WR_STAT.LOCKOUT.key, Reg.WR_STAT.CAUSE.key, Reg.WR_VC.OPEN.key] →
      ((u.pfailSent low).weirSafe (if low then 6 else 7)).get f = u.get f := fun f hf hk => (weirSafe_shown _ _ f hf hk).trans (hget f hf)
  have hrun : exec (.pfailTrigger low uvov) s = s.become ((u.pfailSent low).weirSafe (if low then 6 else 7)) := by
    change execPfailTrigger low uvov s = _
    rw [execPfailTrigger_eq, if_neg hgo, State.weirDoes_powered hoff, hu]
  refine ⟨_, hrun, weirSafe_safeWith (hun3.trans (hun2.trans hun)) (by cases low <;> decide), (hshown _ (by decide) (by decide)).trans hpfail, ?_, ?_,
    (hshown _ (by decide) (by decide)).trans hlow, (hshown _ (by decide) (by decide)).trans huvov⟩
  · exact (still_field Weir.pfailAt (fun _ => rfl) ((weirSafe_still ..).trans hstill)).trans hpf
  · rw [weirSafe_link, hsent, hlink]

theorem completes_pfailTrigger_again (low : Bool) (uvov t0 : Nat) (hoff : s.chip.weir.off = false) (hat : s.chip.weir.pfailAt = some t0) :
    Completes (.pfailTrigger low uvov) s (fun t => t.weir.violation = s.chip.now ∧ t.weir.pfailAt = some t0 ∧ t.link = s.chip.link ∧
      t.get Reg.WR_STAT.CAUSE = s.chip.get Reg.WR_STAT.CAUSE) := by
  have hrun : exec (.pfailTrigger low uvov) s = s.become (s.chip.supplySeen low uvov) := by
    change execPfailTrigger low uvov s = _
    rw [execPfailTrigger_eq, if_pos (.inr (.inr (by rw [hat]; rfl))), State.weirDoes_powered hoff]
  refine ⟨_, hrun, rfl, hat, rfl, ?_⟩
  rw [supplySeen_get, get_put_ne _ _ _ _ (by decide), get_put_ne _ _ _ _ (by decide)]

theorem completes_triggerConditionClear (hoff : s.chip.weir.off = false) :
    Completes .triggerConditionClear s (fun t => t.get Reg.WR_SUP.PFAIL_LOW = 0 ∧ t.get Reg.WR_SUP.UVOV = 0 ∧ t.weir.violation = s.chip.now ∧
      t.weir.pfailAt = s.chip.weir.pfailAt ∧ t.get Reg.WR_STAT.PFAIL = s.chip.get Reg.WR_STAT.PFAIL) := by
  have hget : ∀ f, ((((s.chip.put Reg.WR_SUP.PFAIL_LOW 0).put Reg.WR_SUP.UVOV 0).modWeir fun w => { w with violation := s.chip.now })).get f =
      ((s.chip.put Reg.WR_SUP.PFAIL_LOW 0).put Reg.WR_SUP.UVOV 0).get f := fun _ => rfl
  refine ⟨((s.chip.put Reg.WR_SUP.PFAIL_LOW 0).put Reg.WR_SUP.UVOV 0).modWeir fun w => { w with violation := s.chip.now },
    State.weirDoes_powered hoff _, ?_, ?_, rfl, rfl, ?_⟩
  · rw [hget, get_put_ne _ _ _ _ (by decide), get_put_same]
    rfl
  · rw [hget, get_put_same]
    rfl
  · rw [hget, get_put_ne _ _ _ _ (by decide), get_put_ne _ _ _ _ (by decide)]

/-! ### The release -/

theorem Chip.sendSupply_release {u : Chip} (hhold : u.weir.hold = false) :
    u.sendSupply = ({ u with link := { u.link with resetDown := u.link.resetDown ++ [0x0101] } } : Chip).weirHold := by
  unfold Chip.sendSupply
  exact if_neg (by simp [hhold])

theorem Chip.until_hold (u : Chip) (t : Nat) : (u.until t).weir.hold = u.weir.hold := by
  unfold Chip.until Chip.advance
  dsimp only
  split <;> rfl

/-- The window of R172. -/
theorem pfail_window {n now t0 violation : Nat} (h : n = max now (max (t0 + ms 15) violation + ms 50)) : t0 + 6500000 ≤ n ∧ violation + 5000000 ≤ n := by
  unfold ms at h
  omega

/-- Weir after it has sent SUPPLY (R174; 22 R600, R601). -/
theorem Chip.sendSupply_shows {u : Chip} (hhold : u.weir.hold = false) :
    u.sendSupply.now = u.now ∧ u.sendSupply.link.resetDown = u.link.resetDown ++ [0x0101] ∧ u.sendSupply.weir.pfailAt = none ∧
      u.sendSupply.weir.hold = decide (u.get Reg.WR_SEAL.OPEN &&& 0xEF = 0) ∧
      u.sendSupply.get Reg.WR_STAT.CAUSE = (if u.get Reg.WR_SEAL.OPEN &&& 0xEF = 0 then 0 else 5) ∧
      u.sendSupply.get Reg.WR_SEAL.LATCHED = u.get Reg.WR_SEAL.CURRENT ∧ u.sendSupply.get Reg.WR_STAT.LOCKOUT = 1 ∧ u.sendSupply.safe = true ∧
      u.sendSupply.enablesOff = true ∧ u.sendSupply.noPermission = true ∧ u.sendSupply.get Reg.WR_STAT.PFAIL = 0 := by
  let w : Chip := { u with link := { u.link with resetDown := u.link.resetDown ++ [0x0101] } }
  have hregs : ∀ f, w.get f = u.get f := fun _ => rfl
  obtain ⟨hh, hcause, hlatched, hlockout, hsafe, hoff, hperm, hshown, hstill, hl⟩ := weirHold_latched w
  obtain ⟨-, -, -, -, -, hpfail, hopen, hcurrent⟩ := heldOf_get w
  rw [hopen, hregs] at hh hcause
  rw [hcurrent, hregs] at hlatched
  rw [sendSupply_release hhold]
  refine ⟨(still_now hstill).trans rfl, ?_, still_field Weir.pfailAt (fun _ => rfl) hstill, hh, hcause, hlatched, hlockout, hsafe, hoff, hperm,
    (hshown _ (by decide) (by decide)).trans hpfail⟩
  rw [hl]
  rfl

theorem completes_pfailRelease (t0 : Nat) (hoff : s.chip.weir.off = false) (hat : s.chip.weir.pfailAt = some t0) (hhold : s.chip.weir.hold = false)
    (hlow : s.chip.get Reg.WR_SUP.PFAIL_LOW = 0) (huvov : s.chip.get Reg.WR_SUP.UVOV = 0) :
    Completes .pfailRelease s (fun t => t0 + 6500000 ≤ t.now ∧ s.chip.weir.violation + 5000000 ≤ t.now ∧
      t.link.resetDown = s.chip.link.resetDown ++ [0x0101] ∧ t.weir.pfailAt = none ∧ t.weir.hold = decide (s.chip.get Reg.WR_SEAL.OPEN &&& 0xEF = 0) ∧
      t.get Reg.WR_STAT.CAUSE = (if s.chip.get Reg.WR_SEAL.OPEN &&& 0xEF = 0 then 0 else 5) ∧ t.get Reg.WR_SEAL.LATCHED = s.chip.get Reg.WR_SEAL.CURRENT ∧
      t.get Reg.WR_STAT.LOCKOUT = 1 ∧ t.safe = true ∧ t.enablesOff = true ∧ t.noPermission = true ∧ t.get Reg.WR_STAT.PFAIL = 0) := by
  have hclear : ¬(s.chip.on Reg.WR_SUP.PFAIL_LOW = true ∨ s.chip.on Reg.WR_SUP.UVOV = true) := by simp [Chip.on, hlow, huvov]
  have hrun : exec .pfailRelease s = s.weirDoes (s.chip.until (max (t0 + ms 15) s.chip.weir.violation + ms 50)).sendSupply := by
    change execPfailRelease s = _
    unfold execPfailRelease
    dsimp only
    rw [hat]
    exact if_neg hclear
  have hget : ∀ n f, (s.chip.until n).get f = s.chip.get f := fun n f => by
    unfold Chip.get
    rw [until_regs]
  have hlink : ∀ n, (s.chip.until n).link = s.chip.link := fun _ => rfl
  obtain ⟨hnow, hdown, hnone, hh, hcause, hlatched, hrest⟩ :=
    sendSupply_shows (u := s.chip.until (max (t0 + ms 15) s.chip.weir.violation + ms 50)) ((until_hold ..).trans hhold)
  rw [hget] at hh hcause hlatched
  rw [hlink] at hdown
  obtain ⟨htrigger, hviolation⟩ := pfail_window (hnow.trans (until_now ..))
  exact ⟨_, hrun.trans (State.weirDoes_powered hoff _), htrigger, hviolation, hdown, hnone, hh, hcause, hlatched, hrest⟩

theorem completes_pfailRelease_lasts (t0 : Nat) (hat : s.chip.weir.pfailAt = some t0)
    (hlasts : s.chip.get Reg.WR_SUP.PFAIL_LOW = 1 ∨ s.chip.get Reg.WR_SUP.UVOV ≠ 0) : Completes .pfailRelease s (fun t => t = s.chip) := by
  refine ⟨s.chip, ?_, rfl⟩
  change execPfailRelease s = _
  unfold execPfailRelease
  dsimp only
  rw [hat]
  dsimp only
  have hon : s.chip.on Reg.WR_SUP.PFAIL_LOW = true ∨ s.chip.on Reg.WR_SUP.UVOV = true := by simpa [Chip.on] using hlasts.imp_left fun h => by simp [h]
  rw [if_pos hon]
  unfold State.weirDoes
  rw [ite_self]
  rfl

/-! ### Weir's own reset and self-test -/

theorem completes_weirPor (pu pd : Nat) (hpu : pu < 256) (hpd : pd < 256) :
    Completes (.weirPor pu pd) s (fun t => t.weir.time = 0 ∧ t.get Reg.WR_STAT.WPOR = 1 ∧ t.get Reg.WR_STOFF.STOFF = 0 ∧ t.get Reg.WR_STAT.STOFF_SET = 0 ∧
      t.get Reg.WR_SEAL.LATCHED = pu &&& pd ∧ t.get Reg.WR_SEAL.OPEN = pu ^^^ pd ∧ t.safe = true ∧ t.enablesOff = true ∧ t.noPermission = true ∧
      t.get Reg.WR_SNAPCNT.COUNT = 0xFFFFFFFF ∧ t.now = s.chip.now ∧
      t.get Reg.WR_STAT.CAUSE = (if (pu ^^^ pd) &&& 0xEF = 0 then 0 else 5) ∧ t.weir.hold = decide ((pu ^^^ pd) &&& 0xEF = 0)) := by
  let w : Weir :=
    { supplyDue := !s.chip.boot.por, idleDue := s.chip.now + ms 10, strapDue := s.chip.now + ms 10, gateEnd := s.chip.now + 1000000,
      violation := s.chip.now }
  let x : Chip := ({ s.chip with weir := w, lat := {} } : Chip).resetDomains [.weir, .weirCtl]
  let y := x.strapRead pu pd
  have hrun : exec (.weirPor pu pd) s = s.become y.strapLatch := rfl
  have hreset : ∀ f : Fld, keyIn [.weir, .weirCtl] f.key = true → x.get f = f.rst % 2 ^ f.width := fun f hf => get_resetDomains_in hf
  have hy : ∀ f : Fld, f.key ≠ Reg.WR_SEAL.OPEN.key → f.key ≠ Reg.WR_SEAL.CURRENT.key → keyIn [.weir, .weirCtl] f.key = true → y.get f = f.rst % 2 ^ f.width :=
    fun f ho hc hf => (get_put_ne _ _ _ _ hc.symm).trans ((get_put_ne _ _ _ _ ho.symm).trans (hreset f hf))
  have hopen : y.get Reg.WR_SEAL.OPEN = pu ^^^ pd := by
    have hxor : (pu ^^^ pd) % 256 = pu ^^^ pd := Nat.mod_eq_of_lt (Nat.xor_lt_two_pow (n := 8) hpu hpd)
    refine (get_put_ne _ _ _ _ (by decide)).trans ((get_put_same ..).trans ?_)
    rw [hxor]
    exact hxor
  have hcurrent : y.get Reg.WR_SEAL.CURRENT = pu &&& pd :=
    (get_put_same ..).trans (Nat.mod_eq_of_lt (lt_of_le_of_lt Nat.and_le_left hpu))
  have hholds : y.Holds := ⟨rfl, rfl, hy _ (by decide) (by decide) (by decide), hy _ (by decide) (by decide) (by decide), hy _ (by decide) (by decide) (by decide),
    hy _ (by decide) (by decide) (by decide), by
      unfold Chip.noPermission
      rw [show y.lat = {} from rfl]
      simp [Rails.low_word]⟩
  have htime : y.weir.time = 0 := rfl
  have hnow : y.now = s.chip.now := rfl
  have hwpor : y.get Reg.WR_STAT.WPOR = 1 := hy _ (by decide) (by decide) (by decide)
  have hstoff : y.get Reg.WR_STOFF.STOFF = 0 := hy _ (by decide) (by decide) (by decide)
  have hset : y.get Reg.WR_STAT.STOFF_SET = 0 := hy _ (by decide) (by decide) (by decide)
  have hcount : y.get Reg.WR_SNAPCNT.COUNT = 0xFFFFFFFF := hy _ (by decide) (by decide) (by decide)
  clear_value y
  obtain ⟨hh, hcause, hlatched, -, hsafe, hoff', hperm, hshown, hstill, -⟩ := strapLatch_latched hholds
  rw [hopen] at hh hcause
  exact ⟨_, hrun, (still_time hstill).trans htime, (hshown _ (by decide) (by decide)).trans hwpor, (hshown _ (by decide) (by decide)).trans hstoff,
    (hshown _ (by decide) (by decide)).trans hset, hlatched.trans hcurrent, (hshown _ (by decide) (by decide)).trans hopen, hsafe, hoff', hperm,
    (hshown _ (by decide) (by decide)).trans hcount, (still_now hstill).trans hnow, hcause, hh⟩

theorem completes_weirSelftestDone (hoff : s.chip.weir.off = false) :
    Completes (.weirSelftestDone true) s (fun t => t.get Reg.WR_STAT.READY = (if s.chip.weir.supplyDue = true ∧ s.chip.weir.pfailAt = none ∧ s.chip.weir.hold = false then 0 else 1) ∧
      t.link.resetDown = (if s.chip.weir.supplyDue = true ∧ s.chip.weir.pfailAt = none then s.chip.link.resetDown ++ [0x0101] else s.chip.link.resetDown)) := by
  let u := s.chip.put Reg.WR_STAT.READY 1
  let v := u.modWeir fun w => { w with supplyDue := false }
  have hrun : exec (.weirSelftestDone true) s = s.become (if s.chip.weir.supplyDue = true ∧ s.chip.weir.pfailAt = none then v.sendSupply else u) := by
    change execWeirSelftestDone true s = _
    unfold execWeirSelftestDone
    dsimp only
    rw [if_neg (by decide)]
    by_cases hdue : s.chip.weir.supplyDue = true ∧ s.chip.weir.pfailAt = none
    · rw [if_pos hdue]
      exact (if_pos hdue).trans (State.weirDoes_powered hoff _)
    · rw [if_neg hdue]
      exact (if_neg hdue).trans (State.weirDoes_powered hoff _)
  have hready : u.get Reg.WR_STAT.READY = 1 := by
    unfold u
    rw [get_put_same]
    rfl
  by_cases hdue : s.chip.weir.supplyDue = true ∧ s.chip.weir.pfailAt = none
  · rw [if_pos hdue] at hrun
    refine ⟨_, hrun, ?_⟩
    dsimp only
    rw [if_pos hdue]
    cases hhold : s.chip.weir.hold with
    | true =>
      have hstay : v.sendSupply = { v with link := { v.link with resetDown := v.link.resetDown ++ [0x0101] } } := if_pos hhold
      rw [hstay, if_neg (by simp)]
      exact ⟨hready, rfl⟩
    | false =>
      rw [sendSupply_release (u := v) hhold, if_pos ⟨hdue.1, hdue.2, rfl⟩]
      obtain ⟨-, -, -, -, -, -, -, hshown, -, hl⟩ := weirHold_latched { v with link := { v.link with resetDown := v.link.resetDown ++ [0x0101] } }
      refine ⟨(hshown _ (by decide) (by decide)).trans (heldOf_get _).1, ?_⟩
      rw [hl]
      rfl
  · rw [if_neg hdue] at hrun
    refine ⟨_, hrun, ?_⟩
    dsimp only
    rw [if_neg hdue, if_neg fun h => hdue ⟨h.1, h.2.1⟩]
    exact ⟨hready, rfl⟩

/-- Settles O25. -/
theorem powerFail : Obligations.PowerFail := by
  unfold Obligations.PowerFail
  exact ⟨fun low uvov s => completes_pfailTrigger s low uvov, fun low uvov t0 s => completes_pfailTrigger_again s low uvov t0, completes_triggerConditionClear,
    fun t0 s hoff hat hhold => ⟨completes_pfailRelease s t0 hoff hat hhold, completes_pfailRelease_lasts s t0 hat⟩,
    fun pu pd s => completes_weirPor s pu pd, completes_weirSelftestDone⟩

end Sys2Proof.Machine
end

section
/-!
PROOFS. Latching, committing and sweeping in the conflict lattice (06 R189, R194 to R207, R226).
-/
namespace Sys2Proof.Machine
open Chip

/-! ### Bits of rails and vectors -/

theorem and_mod_two (t f : Nat) : (t &&& f) % 2 = if t % 2 = 1 ∧ f % 2 = 1 then 1 else 0 := by
  have h := Nat.and_mod_two_pow (a := t) (b := f) (n := 1)
  rw [pow_one] at h
  rw [h]
  rcases Nat.mod_two_eq_zero_or_one t with ht | ht <;> rcases Nat.mod_two_eq_zero_or_one f with hf | hf <;> rw [ht, hf] <;> decide

theorem testBit_sub_and (t f n : Nat) : (t - (t &&& f)).testBit n = (t.testBit n && !f.testBit n) := by
  induction n generalizing t f with
  | zero =>
    have hmod := and_mod_two t f
    have hle : t &&& f ≤ t := Nat.and_le_left
    generalize t &&& f = a at hmod hle ⊢
    simp only [Nat.testBit_zero]
    rw [← decide_not, ← Bool.decide_and, decide_eq_decide]
    split at hmod <;> omega
  | succ n ih =>
    have hmod := and_mod_two t f
    have hle : t &&& f ≤ t := Nat.and_le_left
    have hhalf : (t - (t &&& f)) / 2 = t / 2 - (t / 2 &&& f / 2) := by
      rw [← Nat.and_div_two]
      generalize t &&& f = a at hmod hle ⊢
      split at hmod <;> omega
    rw [Nat.testBit_add_one, hhalf, ih, Nat.testBit_add_one, Nat.testBit_add_one]

theorem Rails.word_testBit (r : Rails) (n : Nat) : r.word.testBit n = r.get n := testBit_sub_and ..

theorem testBit_clear (x m n : Nat) : (if x.testBit m then x - 2 ^ m else x).testBit n = (x.testBit n && m != n) := by
  split
  · rename_i h
    exact testBit_sub_two_pow _ _ _ h
  · rename_i h
    by_cases hmn : m = n
    · subst hmn
      simpa using h
    · simp [hmn]

/-- One place of dual-rail lines takes a value. -/
theorem Rails.get_put (r : Rails) (m : Nat) (b : Bool) (n : Nat) : (r.put m b).get n = if n = m then b else r.get n := by
  unfold Rails.put Rails.get
  dsimp only
  cases b <;> simp only [Bool.false_eq_true, if_true, if_false, testBit_clear, Nat.testBit_or, Nat.testBit_two_pow]
  · by_cases h : m = n
    · simp [h]
    · simp [h, Ne.symm h, bne_iff_ne.2 h]
  · by_cases h : m = n
    · simp [h]
    · simp [h, Ne.symm h, bne_iff_ne.2 h]

theorem Rails.get_ofWord (w v n : Nat) (hn : n < w) : (Rails.ofWord w v).get n = v.testBit n := by
  unfold Rails.ofWord Rails.get
  have hlt : v % 2 ^ w < 2 ^ w := Nat.mod_lt _ (Nat.two_pow_pos w)
  rw [show 2 ^ w - 1 - v % 2 ^ w = 2 ^ w - (v % 2 ^ w + 1) by omega, Nat.testBit_two_pow_sub_succ hlt, Nat.testBit_mod_two_pow]
  simp [hn]

theorem testBit_add_two_pow {y n : Nat} (h : y.testBit n = false) (k : Nat) : (y + 2 ^ n).testBit k = (y.testBit k || n == k) := by
  have hbit : (2 ^ n + y).testBit n = true := by rw [Nat.testBit_two_pow_add_eq, h]; rfl
  have hback := testBit_sub_two_pow n (2 ^ n + y) k hbit
  rw [Nat.add_sub_cancel_left] at hback
  rw [Nat.add_comm]
  by_cases hk : n = k
  · subst hk
    rw [hbit]
    simp
  · rw [hback, bne_iff_ne.2 hk, beq_eq_false_iff_ne.2 hk, Bool.and_true, Bool.or_false]

theorem div_mod_two (v n : Nat) : v / 2 ^ n % 2 = if v.testBit n then 1 else 0 := by
  rw [Nat.testBit_eq_decide_div_mod_eq]
  rcases Nat.mod_two_eq_zero_or_one (v / 2 ^ n) with h | h <;> simp [h]

/-- One bit of a vector takes a value. -/
theorem setBitsAt_testBit (v n x k : Nat) : (setBitsAt v n 1 x).testBit k = if k = n then x.testBit 0 else v.testBit k := by
  have hclear : (v - v / 2 ^ n % 2 * 2 ^ n) = if v.testBit n then v - 2 ^ n else v := by
    rw [div_mod_two]
    by_cases h : v.testBit n = true
    · rw [if_pos h, if_pos h, Nat.one_mul]
    · rw [if_neg h, if_neg h, Nat.zero_mul, Nat.sub_zero]
  unfold setBitsAt
  rw [pow_one, hclear]
  have hzero : (if v.testBit n then v - 2 ^ n else v).testBit n = false := by rw [testBit_clear]; simp
  rw [Nat.testBit_zero]
  rcases Nat.mod_two_eq_zero_or_one x with hx | hx
  · rw [hx, Nat.zero_mul, Nat.add_zero, testBit_clear]
    by_cases hk : k = n
    · simp [hk]
    · simp [hk, bne_iff_ne.2 (Ne.symm hk)]
  · rw [hx, Nat.one_mul, testBit_add_two_pow hzero, testBit_clear]
    by_cases hk : k = n
    · simp [hk]
    · simp [hk, bne_iff_ne.2 (Ne.symm hk), beq_eq_false_iff_ne.2 (Ne.symm hk)]

/-! ### Latching -/

/-- The lattice and every register but the request counts stay. -/
structure Chip.Requested (u t : Chip) : Prop where
  lat : t.lat = u.lat
  get : ∀ f : Fld, f.key ∉ [Reg.LAT_STAT.PASS_REQ.key, Reg.LAT_ERRCNT.RATE.key, Reg.LAT_ERRCNT.UPD_BAD.key] → t.get f = u.get f

theorem Chip.Requested.trans {u t v : Chip} (h : Chip.Requested u t) (k : Chip.Requested t v) : Chip.Requested u v :=
  ⟨k.lat.trans h.lat, fun f hf => (k.get f hf).trans (h.get f hf)⟩

theorem Chip.Requested.put {u : Chip} {f : Fld} {v : Nat} (hf : f.key ∈ [Reg.LAT_STAT.PASS_REQ.key, Reg.LAT_ERRCNT.RATE.key, Reg.LAT_ERRCNT.UPD_BAD.key]) :
    Chip.Requested u (u.put f v) :=
  ⟨put_lat .., fun _ hg => get_put_ne _ _ _ _ fun h => hg (h ▸ hf)⟩

theorem Chip.Requested.advance {u : Chip} {n : Nat} : Chip.Requested u (u.advance n) := ⟨rfl, fun _ _ => rfl⟩

theorem Chip.Requested.activeBank {u t : Chip} (h : Chip.Requested u t) : t.activeBank = u.activeBank := by
  unfold Chip.activeBank
  rw [h.get _ (by decide), h.lat]

theorem Chip.Requested.activeBad {u t : Chip} (h : Chip.Requested u t) : t.activeBad = u.activeBad := by
  unfold Chip.activeBad
  rw [h.get _ (by decide), h.lat]

/-- One request word changes only the counts and time. -/
theorem Chip.latRequest_requested (u : Chip) (f : Field) (done : List LatReq) (w : Nat) : Chip.Requested u (u.latRequest f done w).1 := by
  unfold Chip.latRequest
  dsimp only
  split
  · exact ⟨rfl, fun _ _ => rfl⟩
  · split
    · exact .put (by decide)
    · have hput : Chip.Requested u (u.put Reg.LAT_STAT.PASS_REQ (u.get Reg.LAT_STAT.PASS_REQ + 1)) := .put (by decide)
      split
      · exact hput.trans .advance
      · exact hput.trans .advance

theorem Chip.latRequests_requested (f : Field) (words : List Nat) (u : Chip) (done : List LatReq) :
    Chip.Requested u (words.foldl (fun (p : Chip × List LatReq) w => p.1.latRequest f p.2 w) (u, done)).1 := by
  induction words generalizing u done with
  | nil => exact ⟨rfl, fun _ _ => rfl⟩
  | cons w words ih => exact (latRequest_requested u f done w).trans (ih _ _)

theorem Chip.routeBad_none {u : Chip} (h : u.activeBad = []) (r : Nat) : u.routeBad r = false := by
  unfold Chip.routeBad
  rw [h]
  simp

/-- The state before the request words are processed: the counts of ignored words, and the sweep word in progress. -/
def Chip.latStart (u : Chip) (v : Nat) : Chip :=
  let upd := areaWords v (u.get Reg.LAT_CFG.UPD_BASE) (u.get Reg.LAT_CFG.UPD_CNT)
  let req := areaWords v (u.get Reg.LAT_CFG.REQ_BASE) (u.get Reg.LAT_CFG.REQ_CNT)
  let bad := (upd.filter (updBad u.activeBank)).length + (req.filter reqBad).length
  let t := u.put Reg.LAT_ERRCNT.UPD_BAD (min (u.get Reg.LAT_ERRCNT.UPD_BAD + bad) 0xFFFF)
  if (req.filter (fun w => w.testBit 31 && !reqBad w)).any (fun w => bits w 30 29 == 1) && decide (t.get Reg.LAT_STAT.PASS_REQ < 12) then t.advance 1 else t

/-- The field state with the update words of `v` laid over it. -/
def Chip.latOverlay (u : Chip) (v : Nat) : Field :=
  ((areaWords v (u.get Reg.LAT_CFG.UPD_BASE) (u.get Reg.LAT_CFG.UPD_CNT)).filter (fun w => !updBad u.activeBank w)).foldl (fun f w => updApply w f) u.field

/-- The request words of `v` that are processed. -/
def Chip.latWords (u : Chip) (v : Nat) : List Nat :=
  (areaWords v (u.get Reg.LAT_CFG.REQ_BASE) (u.get Reg.LAT_CFG.REQ_CNT)).filter (fun w => w.testBit 31 && !reqBad w)

/-- The requests of `v`, processed. -/
def Chip.latDone (u : Chip) (v : Nat) : Chip × List LatReq :=
  (u.latWords v).foldl (fun (p : Chip × List LatReq) w => p.1.latRequest (u.latOverlay v) p.2 w) (u.latStart v, [])

/-- `v` is latched. -/
def Chip.latLatched (u : Chip) (v : Nat) (rest : List Nat) : Chip :=
  { (u.latDone v).1 with lat := { (u.latDone v).1.lat with
    port := rest
    pend := some ⟨(u.latOverlay v).pdet, (u.latOverlay v).sclr, (u.latOverlay v).eready, (u.latDone v).2⟩ } }

theorem Chip.latStart_requested (u : Chip) (v : Nat) : Chip.Requested u (u.latStart v) := by
  unfold Chip.latStart
  extract_lets upd req bad t
  have ht : Chip.Requested u t := .put (by decide)
  split
  · exact ht.trans .advance
  · exact ht

theorem Chip.latStart_passReq (u : Chip) (v : Nat) : (u.latStart v).get Reg.LAT_STAT.PASS_REQ = u.get Reg.LAT_STAT.PASS_REQ := by
  unfold Chip.latStart
  extract_lets upd req bad t
  have ht : t.get Reg.LAT_STAT.PASS_REQ = u.get Reg.LAT_STAT.PASS_REQ := get_put_ne _ _ _ _ (by decide)
  split
  · exact ht
  · exact ht

theorem Chip.latDone_requested (u : Chip) (v : Nat) : Chip.Requested u (u.latDone v).1 :=
  (latStart_requested u v).trans (latRequests_requested ..)

/-- The first SET of a V (R196, R203, R205). -/
theorem Chip.latRequest_first (u : Chip) (f : Field) {w : Nat} (hset : bits w 30 29 = 1) :
    ∃ k, (u.latRequest f [] w).2 = [k] ∧ k.set = true ∧ k.route = bits w 10 0 ∧
      if u.get Reg.LAT_STAT.PASS_REQ < 12 then (k.grant = true ↔ routeFails u.activeBank u.lat.lock f k.route = none) ∧
        (u.latRequest f [] w).1.get Reg.LAT_STAT.PASS_REQ = u.get Reg.LAT_STAT.PASS_REQ + 1
      else k.grant = false ∧ k.reason = 6 := by
  have hbank : ∀ n, (u.put Reg.LAT_STAT.PASS_REQ n).activeBank = u.activeBank := fun n => Requested.activeBank (.put (by decide))
  unfold Chip.latRequest
  dsimp only
  rw [hset, if_neg (by decide)]
  by_cases hrate : u.get Reg.LAT_STAT.PASS_REQ < 12
  · have hcount : ((u.put Reg.LAT_STAT.PASS_REQ (u.get Reg.LAT_STAT.PASS_REQ + 1)).advance 33).get Reg.LAT_STAT.PASS_REQ = u.get Reg.LAT_STAT.PASS_REQ + 1 :=
      (get_put_same ..).trans (Nat.mod_eq_of_lt (lt_of_lt_of_le (Nat.succ_lt_succ hrate) (by decide)))
    simp only [if_neg (Nat.not_le.2 hrate), if_pos hrate, List.foldl_nil, List.nil_append, hbank]
    cases hfails : routeFails u.activeBank u.lat.lock f (bits w 10 0) with
    | none => exact ⟨_, rfl, rfl, rfl, by simp [hfails], hcount⟩
    | some e => exact ⟨_, rfl, rfl, rfl, by simp [hfails], hcount⟩
  · rw [if_pos (Nat.not_lt.1 hrate)]
    exact ⟨_, rfl, rfl, rfl, by rw [if_neg hrate]; exact ⟨rfl, rfl⟩⟩

variable (s : State)

theorem execLatticeLatch_eq {v w : Nat} {rest : List Nat} (hport : s.chip.lat.port = v :: rest) (hpend : s.chip.lat.pend = none)
    (hsafe : s.chip.safe = false) (hbad : s.chip.activeBad = []) : exec (.latticeLatch 0 w) s = s.become (s.chip.latLatched v rest) := by
  have hclean : ∀ r, (s.chip.latLatched v rest).routeBad r = false := fun r => routeBad_none (by
    unfold Chip.safe at hsafe
    exact (show _ = s.chip.activeBad from (latDone_requested s.chip v).activeBad).trans hbad) r
  have hecc : (s.chip.latLatched v rest).activeEcc (if (evaluated (s.chip.latDone v).2).any (s.chip.latLatched v rest).routeBad then 2 else 0) w =
      s.chip.latLatched v rest := by
    rw [if_neg (by simp [hclean])]
    rfl
  have hout : (s.chip.on Reg.WR_STAT.SAFE && !s.chip.weir.hold) = false := by
    rw [show s.chip.on Reg.WR_STAT.SAFE = false from hsafe]
    rfl
  change execLatticeLatch 0 w s = _
  unfold execLatticeLatch
  dsimp only
  rw [hport, hpend, hout]
  exact congrArg s.become hecc

theorem completes_latticeLatch (v w : Nat) (rest : List Nat) (hport : s.chip.lat.port = v :: rest) (hpend : s.chip.lat.pend = none)
    (hsafe : s.chip.safe = false) (hbad : s.chip.activeBad = []) :
    Completes (.latticeLatch 0 w) s (fun t => t.lat.port = rest ∧ t.lat.pend.isSome = true ∧ t.lat.lock = s.chip.lat.lock ∧ t.lat.perm = s.chip.lat.perm ∧
      t.lat.sperm = s.chip.lat.sperm ∧ t.field = s.chip.field ∧ t.get Reg.WR_EN.EN = s.chip.get Reg.WR_EN.EN ∧
      (let q := imageWord v (s.chip.get Reg.LAT_CFG.REQ_BASE)
       s.chip.get Reg.LAT_CFG.REQ_CNT = 1 → s.chip.get Reg.LAT_CFG.UPD_CNT = 0 → q.testBit 31 = true → bits q 30 29 = 1 → bits q 28 11 = 0 →
        ∃ k, t.lat.pend = some ⟨s.chip.lat.pdet, s.chip.lat.sclr, s.chip.lat.eready, [k]⟩ ∧ k.set = true ∧ k.route = bits q 10 0 ∧
          (if s.chip.get Reg.LAT_STAT.PASS_REQ < 12 then
            (k.grant = true ↔ routeFails s.chip.activeBank s.chip.lat.lock s.chip.field k.route = none) ∧ t.get Reg.LAT_STAT.PASS_REQ = s.chip.get Reg.LAT_STAT.PASS_REQ + 1
           else k.grant = false ∧ k.reason = 6))) := by
  have hkept := latDone_requested s.chip v
  have hlat : ∀ {β : Type} (p : Lattice → β), (∀ (l : Lattice) (a : List Nat) (b : Option LatPend), p { l with port := a, pend := b } = p l) →
      p (s.chip.latLatched v rest).lat = p s.chip.lat := fun p hp => (hp _ _ _).trans (congrArg p hkept.lat)
  have hget : ∀ f, (s.chip.latLatched v rest).get f = (s.chip.latDone v).1.get f := fun _ => rfl
  refine ⟨_, execLatticeLatch_eq s hport hpend hsafe hbad, rfl, rfl, hlat Lattice.lock fun _ _ _ => rfl, hlat Lattice.perm fun _ _ _ => rfl,
    hlat Lattice.sperm fun _ _ _ => rfl, hlat (fun l => (⟨l.pdet, l.sclr, l.eready⟩ : Field)) fun _ _ _ => rfl, (hget _).trans (hkept.get _ (by decide)), ?_⟩
  intro q hcnt hupd hvalid hset hres
  have hoverlay : s.chip.latOverlay v = s.chip.field := by
    unfold Chip.latOverlay areaWords
    rw [hupd]
    rfl
  have hwords : s.chip.latWords v = [q] := by
    have hgood : reqBad q = false := by simp [reqBad, hset, hres]
    unfold Chip.latWords areaWords
    rw [hcnt]
    simp only [List.range_one, List.map_cons, List.map_nil, Nat.add_zero]
    rw [List.filter_cons_of_pos (by rw [show (imageWord v (s.chip.get Reg.LAT_CFG.REQ_BASE)) = q from rfl, hvalid, hgood]; rfl), List.filter_nil]
  have hdone : s.chip.latDone v = (s.chip.latStart v).latRequest s.chip.field [] q := by
    unfold Chip.latDone
    rw [hwords, hoverlay]
    rfl
  have hpendEq : (s.chip.latLatched v rest).lat.pend = some ⟨s.chip.lat.pdet, s.chip.lat.sclr, s.chip.lat.eready, (s.chip.latDone v).2⟩ := by
    unfold Chip.latLatched
    rw [hoverlay]
    rfl
  have hstart := latStart_requested s.chip v
  have hpass := latStart_passReq s.chip v
  obtain ⟨k, hk, hkset, hroute, hgrant⟩ := latRequest_first (s.chip.latStart v) s.chip.field hset
  rw [hpass, hstart.activeBank, hstart.lat] at hgrant
  rw [hget, hpendEq, hdone, hk]
  exact ⟨k, rfl, hkset, hroute, hgrant⟩

/-! ### Signal outputs -/

/-- The enables, and nothing else that Weir or the lattice shows, may differ. -/
structure Chip.Signalled (u t : Chip) : Prop where
  lat : t.lat = u.lat
  get : ∀ f : Fld, Reg.WR_EN.EN.key ≠ f.key → t.get f = u.get f
  still : t.still = u.still
  openCheck : t.weir.openCheck = u.weir.openCheck
  hold : t.weir.hold = u.weir.hold

theorem Chip.Signalled.rfl {u : Chip} : Chip.Signalled u u := ⟨Eq.refl _, fun _ _ => Eq.refl _, Eq.refl _, Eq.refl _, Eq.refl _⟩

theorem Chip.Signalled.trans {u t v : Chip} (h : Chip.Signalled u t) (k : Chip.Signalled t v) : Chip.Signalled u v :=
  ⟨k.lat.trans h.lat, fun f hf => (k.get f hf).trans (h.get f hf), k.still.trans h.still, k.openCheck.trans h.openCheck, k.hold.trans h.hold⟩

theorem Chip.enable_signalled (u : Chip) (n : Nat) (b : Bool) : Chip.Signalled u (u.enable n b) := by
  refine ⟨?_, enable_get u n b, enable_still .., rfl, rfl⟩
  cases b
  · exact clearBit_lat u Reg.WR_EN.EN n
  · exact setBit_lat u Reg.WR_EN.EN n

/-- A pass over outputs that enables or disables those of a condition that the enables do not change. -/
theorem Chip.enables_get {u : Chip} {g : Chip → Nat → Chip} {cond : Nat → Bool} {b : Bool}
    (hg : ∀ t n, Chip.Signalled u t → g t n = if cond n then t.enable n b else t) (l : List Nat) {v : Chip} (hv : Chip.Signalled u v) :
    Chip.Signalled u (l.foldl g v) ∧ ∀ n, (l.foldl g v).weir.en.get n = if n ∈ l ∧ cond n = true then b else v.weir.en.get n := by
  induction l generalizing v with
  | nil => exact ⟨hv, fun n => by simp⟩
  | cons m l ih =>
    have hstep : Chip.Signalled u (g v m) ∧ ∀ n, (g v m).weir.en.get n = if n = m ∧ cond m = true then b else v.weir.en.get n := by
      rw [hg v m hv]
      cases hc : cond m with
      | false => exact ⟨hv, fun n => by simp⟩
      | true =>
        refine ⟨hv.trans (enable_signalled ..), fun n => ?_⟩
        have hput : (v.enable m b).weir.en = v.weir.en.put m b := Eq.refl _
        rw [if_pos (Eq.refl true), hput, Rails.get_put]
        simp
    obtain ⟨hkept, hbits⟩ := ih hstep.1
    refine ⟨hkept, fun n => ?_⟩
    rw [List.foldl_cons, hbits, hstep.2]
    by_cases hn : n = m
    · subst hn
      by_cases hc : cond n = true <;> simp [hc]
    · simp [hn]

/-- The signal outputs whose permission is withdrawn (05 R150). -/
def Chip.signalFalls (u : Chip) (n : Nat) : Bool :=
  u.on (Reg.WR_OMAP.USED n) && u.on (Reg.WR_OMAP.SIGNAL n) && !u.lat.sperm.get (u.get (Reg.WR_OMAP.SIGNO n))

/-- The signal outputs that V demands under permission (R149, R151, R195). -/
def Chip.signalRises (u : Chip) (v n : Nat) : Bool :=
  u.on (Reg.WR_OMAP.USED n) && u.on (Reg.WR_OMAP.SIGNAL n) && v.testBit (u.get (Reg.WR_OMAP.BIT n)) && u.lat.sperm.get (u.get (Reg.WR_OMAP.SIGNO n))

theorem omap_key_ne (n : Nat) : Reg.WR_EN.EN.key ≠ (Reg.WR_OMAP.USED n).key ∧ Reg.WR_EN.EN.key ≠ (Reg.WR_OMAP.SIGNAL n).key ∧
    Reg.WR_EN.EN.key ≠ (Reg.WR_OMAP.SIGNO n).key ∧ Reg.WR_EN.EN.key ≠ (Reg.WR_OMAP.BIT n).key := by
  have haddr : Reg.WR_EN.EN.addr ≠ (Reg.WR_OMAP.USED n).addr := (slot_ne (by decide) (by decide)).symm
  exact ⟨Fld.key_ne (by decide) (show _ < 32 by simp [Reg.WR_OMAP.USED]) haddr, Fld.key_ne (by decide) (show _ < 32 by simp [Reg.WR_OMAP.SIGNAL]) haddr,
    Fld.key_ne (by decide) (show _ < 32 by simp [Reg.WR_OMAP.SIGNO]) haddr, Fld.key_ne (by decide) (show _ < 32 by simp [Reg.WR_OMAP.BIT]) haddr⟩

theorem Chip.Signalled.omap {u t : Chip} (h : Chip.Signalled u t) (v : Nat) : t.signalFalls = u.signalFalls ∧ t.signalRises v = u.signalRises v := by
  have hmap : ∀ n, t.on (Reg.WR_OMAP.USED n) = u.on (Reg.WR_OMAP.USED n) ∧ t.on (Reg.WR_OMAP.SIGNAL n) = u.on (Reg.WR_OMAP.SIGNAL n) ∧
      t.get (Reg.WR_OMAP.SIGNO n) = u.get (Reg.WR_OMAP.SIGNO n) ∧ t.get (Reg.WR_OMAP.BIT n) = u.get (Reg.WR_OMAP.BIT n) := fun n => by
    obtain ⟨hused, hsignal, hsigno, hbit⟩ := omap_key_ne n
    unfold Chip.on
    rw [h.get _ hused, h.get _ hsignal, h.get _ hsigno, h.get _ hbit]
    exact ⟨Eq.refl _, Eq.refl _, Eq.refl _, Eq.refl _⟩
  constructor
  · funext n
    obtain ⟨hused, hsignal, hsigno, -⟩ := hmap n
    unfold Chip.signalFalls
    rw [hused, hsignal, hsigno, h.lat]
  · funext n
    obtain ⟨hused, hsignal, hsigno, hbit⟩ := hmap n
    unfold Chip.signalRises
    rw [hused, hsignal, hsigno, hbit, h.lat]

theorem Chip.signalEnables_get (u : Chip) : Chip.Signalled u u.signalEnables ∧ ∀ n, n < 32 →
    u.signalEnables.weir.en.get n = if u.signalFalls n = true then false else u.weir.en.get n := by
  obtain ⟨hkept, hbits⟩ := enables_get (u := u) (cond := u.signalFalls) (b := false)
    (g := fun u n => if u.on (Reg.WR_OMAP.USED n) && u.on (Reg.WR_OMAP.SIGNAL n) && !u.lat.sperm.get (u.get (Reg.WR_OMAP.SIGNO n)) then u.enable n false else u)
    (fun t n ht => by rw [← (ht.omap 0).1]; rfl) (List.range 32) .rfl
  unfold Chip.signalEnables foldUpTo
  refine ⟨hkept, fun n hn => ?_⟩
  rw [hbits]
  simp only [List.mem_range, hn, true_and]

theorem Chip.signalsUp_get (u : Chip) (v : Nat) : Chip.Signalled u (u.signalsUp v) ∧ ∀ n, n < 32 → (u.signalsUp v).weir.en.get n =
    if u.safe = false ∧ u.weir.openCheck = none ∧ u.signalRises v n = true then true else u.weir.en.get n := by
  unfold Chip.signalsUp Chip.safe
  split
  · rename_i hstop
    refine ⟨.rfl, fun n _ => (if_neg fun h => ?_).symm⟩
    obtain ⟨hsafe, hopen, -⟩ := h
    rw [hsafe, hopen] at hstop
    exact absurd hstop (by decide)
  · rename_i hgo
    simp only [Bool.or_eq_true, not_or, Bool.not_eq_true, Option.isSome_eq_false_iff, Option.isNone_iff_eq_none] at hgo
    obtain ⟨hsafe, hopen⟩ := hgo
    obtain ⟨hkept, hbits⟩ := enables_get (u := u) (cond := u.signalRises v) (b := true)
      (g := fun u n => if u.on (Reg.WR_OMAP.USED n) && u.on (Reg.WR_OMAP.SIGNAL n) && v.testBit (u.get (Reg.WR_OMAP.BIT n)) &&
        u.lat.sperm.get (u.get (Reg.WR_OMAP.SIGNO n)) then u.enable n true else u)
      (fun t n ht => by rw [← (ht.omap v).2]; rfl) (List.range 32) .rfl
    unfold foldUpTo
    refine ⟨hkept, fun n hn => ?_⟩
    rw [hbits, hsafe, hopen]
    simp only [List.mem_range, hn, true_and]

/-! ### Committing -/

theorem LatReq.apply_lock (k : LatReq) (x : Nat × Nat) (r : Nat) : (k.apply x).1.testBit r =
    if r = k.route then (if k.set = true ∧ k.grant = false then x.1.testBit r else k.set) else x.1.testBit r := by
  unfold LatReq.apply
  cases k.set <;> cases k.grant <;> simp [setBitsAt_testBit]

theorem LatReq.apply_perm (k : LatReq) (x : Nat × Nat) (r : Nat) : (k.apply x).2.testBit r =
    if r = k.route then k.set && k.grant else x.2.testBit r := by
  unfold LatReq.apply
  cases k.set <;> cases k.grant <;> simp [setBitsAt_testBit]

/-- What a report of Weir changes of the registers of a lattice page. -/
theorem Chip.latEvent_get (u : Chip) (b code : Nat) (d : List Nat) (f : Fld) (hf : f.weirShown = true) (hraw : f.addr ≠ (Reg.IRQ.RAW latPage).addr) :
    ((u.irq latPage b).raiseAfter 4 code d).get f = u.get f := by
  obtain ⟨hlo, hblock, -, -, hc⟩ := of_decide_eq_true hf
  exact (raiseAfter_within.regs f hlo (by omega) hc (by rw [hblock]; rfl)).trans (get_irq _ _ _ _ hlo hraw)

theorem Chip.latDenied_get (u : Chip) (num reason obj : Nat) (gate : Bool) (t : Nat) (f : Fld) (hf : f.weirShown = true) (hraw : f.addr ≠ (Reg.IRQ.RAW latPage).addr)
    (hk : f.key ∉ [Reg.LAT_DENY_LAST.REASON.key, Reg.LAT_DENY_LAST.OBJ.key, Reg.LAT_DENY_LAST.GATE.key, Reg.LAT_DENY_LAST.NUM.key, Reg.LAT_DENIALS.COUNT.key]) :
    (u.latDenied num reason obj gate t).get f = u.get f := by
  simp only [List.mem_cons, List.not_mem_nil, or_false, not_or] at hk
  obtain ⟨hreason, hobj, hgate, hnum, hcount⟩ := hk
  unfold Chip.latDenied
  rw [latEvent_get _ _ _ _ _ hf hraw, Chip.wrapInc, get_put_ne _ _ _ _ (Ne.symm hcount), Chip.denyLast, get_put_ne _ _ _ _ (Ne.symm hnum),
    get_put_ne _ _ _ _ (Ne.symm hgate), get_put_ne _ _ _ _ (Ne.symm hobj), get_put_ne _ _ _ _ (Ne.symm hreason)]

/-- A denial is counted, and shown with its reason. -/
theorem Chip.latDenied_shows (u : Chip) (num reason obj : Nat) (gate : Bool) (t : Nat) :
    (u.latDenied num reason obj gate t).get Reg.LAT_DENIALS.COUNT = (u.get Reg.LAT_DENIALS.COUNT + 1) % 2 ^ 32 ∧
      (u.latDenied num reason obj gate t).get Reg.LAT_DENY_LAST.REASON = reason % 16 := by
  unfold Chip.latDenied Chip.wrapInc Chip.denyLast
  constructor
  · rw [latEvent_get _ _ _ _ _ (by decide) (by decide), get_put_same, get_put_ne _ _ _ _ (by decide), get_put_ne _ _ _ _ (by decide),
      get_put_ne _ _ _ _ (by decide), get_put_ne _ _ _ _ (by decide)]
    rfl
  · rw [latEvent_get _ _ _ _ _ (by decide) (by decide), get_put_ne _ _ _ _ (by decide), get_put_ne _ _ _ _ (by decide),
      get_put_ne _ _ _ _ (by decide), get_put_ne _ _ _ _ (by decide), get_put_same]
    rfl

theorem Chip.latDenied_lat (u : Chip) (num reason obj : Nat) (gate : Bool) (t : Nat) : (u.latDenied num reason obj gate t).lat = u.lat :=
  (raiseAfter_lat ..).trans (irq_lat ..)

theorem Chip.latDenied_weir (u : Chip) (num reason obj : Nat) (gate : Bool) (t : Nat) : (u.latDenied num reason obj gate t).weir = u.weir :=
  (raiseAfter_weir ..).trans (irq_weir ..)

/-- The report of one processed request: GRANTS or DENIALS is counted, a denied SET flags its route (R197). -/
theorem Chip.latReport_shows (u : Chip) (k : LatReq) : (u.latReport k).weir = u.weir ∧
    (u.latReport k).lat = { u.lat with deniedRoutes := if k.set = true ∧ k.grant = false then u.lat.deniedRoutes ||| 2 ^ k.route else u.lat.deniedRoutes } ∧
    (u.latReport k).get Reg.LAT_GRANTS.COUNT = (u.get Reg.LAT_GRANTS.COUNT + (if k.set = true ∧ k.grant = true then 1 else 0)) % 2 ^ 32 ∧
    (u.latReport k).get Reg.LAT_DENIALS.COUNT = (u.get Reg.LAT_DENIALS.COUNT + (if k.set = true ∧ k.grant = false then 1 else 0)) % 2 ^ 32 := by
  have hgrants : (u.get Reg.LAT_GRANTS.COUNT + 0) % 2 ^ 32 = u.get Reg.LAT_GRANTS.COUNT := Nat.mod_eq_of_lt (get_lt u Reg.LAT_GRANTS.COUNT)
  have hdenials : (u.get Reg.LAT_DENIALS.COUNT + 0) % 2 ^ 32 = u.get Reg.LAT_DENIALS.COUNT := Nat.mod_eq_of_lt (get_lt u Reg.LAT_DENIALS.COUNT)
  unfold Chip.latReport
  cases hs : k.set with
  | false =>
    simp only [Bool.not_false, if_true, Bool.false_eq_true, false_and, if_false, hgrants, hdenials, and_self]
  | true =>
    cases hg : k.grant with
    | true =>
      simp only [Bool.not_true, Bool.false_eq_true, if_false, if_true, and_self, and_false, reduceCtorEq, hdenials, Chip.wrapInc]
      refine ⟨rfl, rfl, ?_, ?_⟩
      · rw [get_put_same]
        rfl
      · exact get_put_ne _ _ _ _ (by decide)
    | false =>
      simp only [Bool.not_true, Bool.false_eq_true, if_false, if_true, and_self, and_false, hgrants, withLat_get]
      obtain ⟨hcount, -⟩ := latDenied_shows u k.route k.reason k.obj false k.stamp
      exact ⟨latDenied_weir .., by rw [latDenied_lat], latDenied_get _ _ _ _ _ _ _ (by decide) (by decide) (by decide), hcount⟩

/-- The lattice with the overlay and the request `k` of `p` in effect (R195). -/
def Lattice.commit (l : Lattice) (p : LatPend) (k : LatReq) (rest : List Nat) (b : Bank) : Lattice :=
  { l with
    lock := (k.apply (l.lock, l.perm.word)).1
    perm := Rails.ofWord 2048 (k.apply (l.lock, l.perm.word)).2
    pdet := p.pdet, sclr := p.sclr, eready := p.eready, pend := none, passed := rest, committed := l.committed + 1
    sperm := Rails.ofWord 2048 (spermOf b (Rails.ofWord 2048 (k.apply (l.lock, l.perm.word)).2).word) }

/-- SPERM follows PERM in a lattice with the same banks. -/
theorem Chip.latSignals_eq (u : Chip) {l : Lattice} (h0 : l.bank0 = u.lat.bank0) (h1 : l.bank1 = u.lat.bank1) : ({ u with lat := l } : Chip).latSignals =
    ({ u with lat := { l with sperm := Rails.ofWord 2048 (spermOf u.activeBank l.perm.word) } } : Chip).signalEnables := by
  have hbank : ({ u with lat := l } : Chip).activeBank = u.activeBank := by
    unfold Chip.activeBank
    rw [h0, h1]
    rfl
  unfold Chip.latSignals
  rw [hbank]

theorem execLatticeCommit_eq {p : LatPend} {k : LatReq} {v : Nat} {rest : List Nat} (hpend : s.chip.lat.pend = some p)
    (hpassed : s.chip.lat.passed = v :: rest) (hreqs : p.reqs = [k]) : exec .latticeCommit s =
      s.become (((({ s.chip with lat := s.chip.lat.commit p k rest s.chip.activeBank } : Chip).signalEnables).signalsUp v).latReport k) := by
  change execLatticeCommit s = _
  unfold execLatticeCommit
  dsimp only
  rw [hpend, hpassed]
  dsimp only
  rw [hreqs, latSignals_eq s.chip]
  · simp only [List.foldl_cons, List.foldl_nil, Lattice.commit]
  · rfl
  · rfl

theorem completes_latticeCommit (p : LatPend) (k : LatReq) (v : Nat) (rest : List Nat) (hpend : s.chip.lat.pend = some p)
    (hpassed : s.chip.lat.passed = v :: rest) (hreqs : p.reqs = [k]) (hroute : k.route < 2048) :
    Completes .latticeCommit s (fun t => t.lat.pend = none ∧ t.lat.passed = rest ∧ t.field = ⟨p.pdet, p.sclr, p.eready⟩ ∧
      t.lat.sperm = Rails.ofWord 2048 (spermOf s.chip.activeBank t.lat.perm.word) ∧
      (∀ r, r ≠ k.route → r < 2048 → t.lat.lock.testBit r = s.chip.lat.lock.testBit r ∧ t.lat.perm.get r = s.chip.lat.perm.get r) ∧
      t.lat.perm.get k.route = (k.set && k.grant) ∧
      t.lat.lock.testBit k.route = (if k.set = true ∧ k.grant = false then s.chip.lat.lock.testBit k.route else k.set) ∧
      t.lat.deniedRoutes.testBit k.route = (s.chip.lat.deniedRoutes.testBit k.route || (k.set && !k.grant)) ∧
      t.get Reg.LAT_GRANTS.COUNT = (s.chip.get Reg.LAT_GRANTS.COUNT + (if k.set = true ∧ k.grant = true then 1 else 0)) % 2 ^ 32 ∧
      t.get Reg.LAT_DENIALS.COUNT = (s.chip.get Reg.LAT_DENIALS.COUNT + (if k.set = true ∧ k.grant = false then 1 else 0)) % 2 ^ 32 ∧
      ∀ n, n < 32 → s.chip.on (Reg.WR_OMAP.USED n) = true → s.chip.on (Reg.WR_OMAP.SIGNAL n) = true →
        (t.lat.sperm.get (s.chip.get (Reg.WR_OMAP.SIGNO n)) = false → t.weir.en.get n = false) ∧
        (t.lat.sperm.get (s.chip.get (Reg.WR_OMAP.SIGNO n)) = true → v.testBit (s.chip.get (Reg.WR_OMAP.BIT n)) = true → s.chip.safe = false →
          s.chip.weir.openCheck = none → t.weir.en.get n = true)) := by
  have hrun := execLatticeCommit_eq s hpend hpassed hreqs
  let x : Chip := { s.chip with lat := s.chip.lat.commit p k rest s.chip.activeBank }
  obtain ⟨hkept1, hen1⟩ := signalEnables_get x
  obtain ⟨hkept2, hen2⟩ := signalsUp_get x.signalEnables v
  have hkept := hkept1.trans hkept2
  obtain ⟨hweir, hlat, hgrants, hdenials⟩ := latReport_shows (x.signalEnables.signalsUp v) k
  rw [hkept.lat] at hlat
  rw [hkept.get _ (by decide)] at hgrants hdenials
  have hl : x.lat = s.chip.lat.commit p k rest s.chip.activeBank := rfl
  have hx : ∀ f, x.get f = s.chip.get f := fun _ => rfl
  refine ⟨_, hrun, ?_⟩
  change _ ∧ _ ∧ ((_ : Field) = _) ∧ _
  rw [show ∀ t : Chip, t.field = ⟨t.lat.pdet, t.lat.sclr, t.lat.eready⟩ from fun _ => rfl, hlat, hl]
  refine ⟨rfl, rfl, rfl, rfl, fun r hr hlt => ⟨?_, ?_⟩, ?_, ?_, ?_, hgrants, hdenials, fun n hn hused hsignal => ?_⟩
  · exact (LatReq.apply_lock ..).trans (if_neg hr)
  · exact (Rails.get_ofWord _ _ _ hlt).trans ((LatReq.apply_perm ..).trans ((if_neg hr).trans (Rails.word_testBit ..)))
  · exact (Rails.get_ofWord _ _ _ hroute).trans ((LatReq.apply_perm ..).trans (if_pos rfl))
  · exact (LatReq.apply_lock ..).trans (if_pos rfl)
  · dsimp only
    cases k.set <;> cases k.grant <;> simp [Lattice.commit, Nat.testBit_or, Nat.testBit_two_pow_self]
  · have hfalls : x.signalFalls n = !(s.chip.lat.commit p k rest s.chip.activeBank).sperm.get (s.chip.get (Reg.WR_OMAP.SIGNO n)) := by
      unfold Chip.signalFalls
      rw [show x.on (Reg.WR_OMAP.USED n) = true from hused, show x.on (Reg.WR_OMAP.SIGNAL n) = true from hsignal, hl, hx]
      rfl
    have hrises : x.signalEnables.signalRises v n = (v.testBit (s.chip.get (Reg.WR_OMAP.BIT n)) &&
        (s.chip.lat.commit p k rest s.chip.activeBank).sperm.get (s.chip.get (Reg.WR_OMAP.SIGNO n))) := by
      rw [(hkept1.omap v).2]
      unfold Chip.signalRises
      rw [show x.on (Reg.WR_OMAP.USED n) = true from hused, show x.on (Reg.WR_OMAP.SIGNAL n) = true from hsignal, hl, hx, hx]
      rfl
    have hen := (hen2 n hn).trans (by rw [hen1 n hn])
    rw [hrises, hfalls] at hen
    rw [hweir]
    refine ⟨fun hno => ?_, fun hyes hbit hsafe hopen => ?_⟩
    · have hno : (s.chip.lat.commit p k rest s.chip.activeBank).sperm.get (s.chip.get (Reg.WR_OMAP.SIGNO n)) = false := hno
      rw [hen, hno]
      simp
    · have hyes : (s.chip.lat.commit p k rest s.chip.activeBank).sperm.get (s.chip.get (Reg.WR_OMAP.SIGNO n)) = true := hyes
      have hsafe' : x.signalEnables.safe = false := by
        unfold Chip.safe Chip.on
        rw [hkept1.get _ (by decide)]
        exact hsafe
      rw [hen, hyes, hbit, hsafe', hkept1.openCheck, show x.weir.openCheck = none from hopen]
      rfl

theorem completes_latticeCommit_waits (h : s.chip.lat.pend = none ∨ s.chip.lat.passed = []) : Completes .latticeCommit s (fun t => t = s.chip) := by
  refine ⟨s.chip, ?_, rfl⟩
  change execLatticeCommit s = _
  unfold execLatticeCommit
  dsimp only
  rcases h with h | h
  · rw [h]
    rfl
  · rw [h]
    cases s.chip.lat.pend <;> rfl

/-! ### The sweep -/

/-- The deciding word of an evaluation is one of the 33 of the record (R201). -/
theorem failWord_le {b : Bank} {lock : Nat} {f : Field} {r : Nat} {e : Nat × Nat} (h : routeFails b lock f r = some e) : failWord e ≤ 32 := by
  unfold routeFails at h
  split at h
  · cases h
    simp [failWord]
  · obtain ⟨k, hk, hw⟩ := List.exists_of_findSome?_eq_some h
    have hk : k < 33 := List.mem_range.1 hk
    have hlow : ∀ (w n i : Nat), lowBit w n = some i → i < n := fun w n i hi => List.mem_range.1 (List.mem_of_find?_eq_some hi)
    unfold wordFails at hw
    dsimp only at hw
    split at hw
    · exact absurd hw (by simp)
    · split at hw
      · obtain ⟨i, hi, rfl⟩ := Option.map_eq_some_iff.1 hw
        have := hlow _ _ _ hi
        simp [failWord]
        omega
      · split at hw
        · obtain ⟨i, hi, rfl⟩ := Option.map_eq_some_iff.1 hw
          have : i < 128 := List.mem_range.1 (List.mem_of_find?_eq_some hi)
          simp [failWord]
          omega
        · split at hw
          · obtain ⟨i, hi, rfl⟩ := Option.map_eq_some_iff.1 hw
            have := hlow _ _ _ hi
            simp [failWord]
            omega
          · obtain ⟨i, -, rfl⟩ := Option.map_eq_some_iff.1 hw
            simp [failWord]

/-- The lattice of a route whose permission is withdrawn, SPERM in step with PERM. -/
def Lattice.withdraw (l : Lattice) (r : Nat) (b : Bank) : Lattice :=
  { l with perm := l.perm.put r false, sperm := Rails.ofWord 2048 (spermOf b (l.perm.put r false).word) }

/-- The evaluation of a route in the sweep (R199, R213). -/
def Chip.sweepRoute (u : Chip) (r : Nat) : Chip :=
  match (if u.lat.perm.get r then routeFails u.activeBank u.lat.lock u.field r else none) with
  | some e =>
    let u := u.advance (failWord e + 1)
    let u := { u with lat := { u.lat with perm := u.lat.perm.put r false } }
    ((u.latWithdrawn r e.1 e.2 1).advance (32 - failWord e)).latSignals
  | none => u.advance 33

theorem Chip.latWithdrawn_get (u : Chip) (r reason obj origin : Nat) (f : Fld) (hf : f.weirShown = true) (hraw : f.addr ≠ (Reg.IRQ.RAW latPage).addr)
    (hk : f.key ∉ [Reg.LAT_DENY_LAST.REASON.key, Reg.LAT_DENY_LAST.OBJ.key, Reg.LAT_DENY_LAST.GATE.key, Reg.LAT_DENY_LAST.NUM.key, Reg.LAT_WDRAW.COUNT.key]) :
    (u.latWithdrawn r reason obj origin).get f = u.get f := by
  simp only [List.mem_cons, List.not_mem_nil, or_false, not_or] at hk
  obtain ⟨hreason, hobj, hgate, hnum, hcount⟩ := hk
  unfold Chip.latWithdrawn
  rw [latEvent_get _ _ _ _ _ hf hraw, Chip.wrapInc, get_put_ne _ _ _ _ (Ne.symm hcount), Chip.denyLast, get_put_ne _ _ _ _ (Ne.symm hnum),
    get_put_ne _ _ _ _ (Ne.symm hgate), get_put_ne _ _ _ _ (Ne.symm hobj), get_put_ne _ _ _ _ (Ne.symm hreason)]

theorem Chip.latWithdrawn_count (u : Chip) (r reason obj origin : Nat) :
    (u.latWithdrawn r reason obj origin).get Reg.LAT_WDRAW.COUNT = (u.get Reg.LAT_WDRAW.COUNT + 1) % 2 ^ 32 := by
  unfold Chip.latWithdrawn Chip.wrapInc Chip.denyLast
  rw [latEvent_get _ _ _ _ _ (by decide) (by decide), get_put_same, get_put_ne _ _ _ _ (by decide), get_put_ne _ _ _ _ (by decide),
    get_put_ne _ _ _ _ (by decide), get_put_ne _ _ _ _ (by decide)]
  rfl

theorem Chip.latWithdrawn_lat (u : Chip) (r reason obj origin : Nat) : (u.latWithdrawn r reason obj origin).lat = u.lat := (raiseAfter_lat ..).trans (irq_lat ..)

@[simp] theorem Chip.latWithdrawn_still (u : Chip) (r reason obj origin : Nat) : (u.latWithdrawn r reason obj origin).still = u.still :=
  (raiseAfter_still ..).trans (irq_still ..)

/-- What the evaluation of a route that keeps its permission leaves: 33 ticks have passed (R204). -/
theorem Chip.sweepRoute_passes {u : Chip} {r : Nat} (h : ¬(u.lat.perm.get r = true ∧ routeFails u.activeBank u.lat.lock u.field r ≠ none)) :
    u.sweepRoute r = u.advance 33 := by
  have hnone : (if u.lat.perm.get r then routeFails u.activeBank u.lat.lock u.field r else none) = none := by
    split
    · rename_i hp
      by_contra hne
      exact h ⟨hp, hne⟩
    · rfl
  unfold Chip.sweepRoute
  rw [hnone]

/-- A route whose evaluation fails loses its permission, and SPERM follows (R199, R200). -/
theorem Chip.sweepRoute_withdraws {u : Chip} {r : Nat} (h : u.lat.perm.get r = true ∧ routeFails u.activeBank u.lat.lock u.field r ≠ none) :
    (u.sweepRoute r).now = u.now + 33 ∧ (u.sweepRoute r).lat = u.lat.withdraw r u.activeBank ∧
      (u.sweepRoute r).get Reg.LAT_WDRAW.COUNT = (u.get Reg.LAT_WDRAW.COUNT + 1) % 2 ^ 32 ∧
      (u.sweepRoute r).get Reg.LAT_STAT.ACTIVE_ID = u.get Reg.LAT_STAT.ACTIVE_ID ∧ (u.sweepRoute r).unlatched = u.unlatched := by
  obtain ⟨hp, hne⟩ := h
  obtain ⟨e, he⟩ := Option.ne_none_iff_exists'.1 hne
  have hle := failWord_le he
  unfold Chip.sweepRoute
  rw [if_pos hp, he]
  dsimp only
  have hx : ∀ f, ({ u.advance (failWord e + 1) with lat := { (u.advance (failWord e + 1)).lat with perm := (u.advance (failWord e + 1)).lat.perm.put r false } } : Chip).get f = u.get f :=
    fun _ => rfl
  have hxl : ({ u.advance (failWord e + 1) with lat := { (u.advance (failWord e + 1)).lat with perm := (u.advance (failWord e + 1)).lat.perm.put r false } } : Chip).lat =
      { u.lat with perm := u.lat.perm.put r false } := rfl
  have hxn : ({ u.advance (failWord e + 1) with lat := { (u.advance (failWord e + 1)).lat with perm := (u.advance (failWord e + 1)).lat.perm.put r false } } : Chip).now =
      u.now + (failWord e + 1) := rfl
  have hxu : ({ u.advance (failWord e + 1) with lat := { (u.advance (failWord e + 1)).lat with perm := (u.advance (failWord e + 1)).lat.perm.put r false } } : Chip).unlatched =
      u.unlatched := (show _ = (u.advance (failWord e + 1)).unlatched from rfl).trans (advance_unlatched ..)
  generalize ({ u.advance (failWord e + 1) with lat := { (u.advance (failWord e + 1)).lat with perm := (u.advance (failWord e + 1)).lat.perm.put r false } } : Chip) = x at hx hxl hxn hxu ⊢
  have hyget : ∀ f, ((x.latWithdrawn r e.1 e.2 1).advance (32 - failWord e)).get f = (x.latWithdrawn r e.1 e.2 1).get f := fun _ => rfl
  have hyl : ((x.latWithdrawn r e.1 e.2 1).advance (32 - failWord e)).lat = { u.lat with perm := u.lat.perm.put r false } := (latWithdrawn_lat ..).trans hxl
  have hyn : ((x.latWithdrawn r e.1 e.2 1).advance (32 - failWord e)).now = u.now + 33 := by
    rw [advance_now, still_now (latWithdrawn_still ..), hxn]
    omega
  have hyu : ((x.latWithdrawn r e.1 e.2 1).advance (32 - failWord e)).unlatched = u.unlatched := by
    rw [advance_unlatched]
    refine (unlatched_of (latWithdrawn_get _ _ _ _ _ _ (by decide) (by decide) (by decide)) ?_).trans hxu
    exact congrArg Weir.hold ((raiseAfter_weir ..).trans (irq_weir ..))
  have hcount : ((x.latWithdrawn r e.1 e.2 1).advance (32 - failWord e)).get Reg.LAT_WDRAW.COUNT = (u.get Reg.LAT_WDRAW.COUNT + 1) % 2 ^ 32 := by
    rw [hyget, latWithdrawn_count, hx]
  have hid : ((x.latWithdrawn r e.1 e.2 1).advance (32 - failWord e)).get Reg.LAT_STAT.ACTIVE_ID = u.get Reg.LAT_STAT.ACTIVE_ID := by
    rw [hyget, latWithdrawn_get _ _ _ _ _ _ (by decide) (by decide) (by decide), hx]
  generalize (x.latWithdrawn r e.1 e.2 1).advance (32 - failWord e) = y at hyl hyn hyu hcount hid
  have hbank : y.activeBank = u.activeBank := by
    unfold Chip.activeBank
    rw [hid, hyl]
  unfold Chip.latSignals
  dsimp only
  have hzget : ∀ f, ({ y with lat := { y.lat with sperm := Rails.ofWord 2048 (spermOf y.activeBank y.lat.perm.word) } } : Chip).get f = y.get f := fun f => withLat_get y _ f
  have hzl : ({ y with lat := { y.lat with sperm := Rails.ofWord 2048 (spermOf y.activeBank y.lat.perm.word) } } : Chip).lat = u.lat.withdraw r u.activeBank := by
    dsimp only
    rw [hbank, hyl]
    rfl
  have hzn : ({ y with lat := { y.lat with sperm := Rails.ofWord 2048 (spermOf y.activeBank y.lat.perm.word) } } : Chip).now = y.now := rfl
  have hzh : ({ y with lat := { y.lat with sperm := Rails.ofWord 2048 (spermOf y.activeBank y.lat.perm.word) } } : Chip).weir.hold = y.weir.hold := rfl
  generalize ({ y with lat := { y.lat with sperm := Rails.ofWord 2048 (spermOf y.activeBank y.lat.perm.word) } } : Chip) = z at hzget hzl hzn hzh ⊢
  have hkept := (signalEnables_get z).1
  refine ⟨(still_now hkept.still).trans (hzn.trans hyn), hkept.lat.trans hzl, ?_, ?_, ?_⟩
  · rw [hkept.get _ (by decide), hzget, hcount]
  · rw [hkept.get _ (by decide), hzget, hid]
  · rw [unlatched_of (hkept.get _ (by decide)) hkept.hold, unlatched_of (hzget _) hzh, hyu]

/-- The end of an evaluation: the next route, and after the last one the next pass (R204). -/
def Chip.sweepNext (u : Chip) (r : Nat) : Chip :=
  let u := u.put Reg.LAT_STAT.ROUTE ((r + 1) % 2048)
  if r = 2047 then u.passEnd else u

theorem Chip.sweepNext_get (u : Chip) (r : Nat) (f : Fld) (hk : f.key ∉ [Reg.LAT_STAT.ROUTE.key, Reg.LAT_PASS.CYCLES.key, Reg.LAT_PASS_MAX.CYCLES.key,
    Reg.LAT_PASSCNT.COUNT.key, Reg.LAT_STAT.PASS_REQ.key]) : (u.sweepNext r).get f = u.get f := by
  simp only [List.mem_cons, List.not_mem_nil, or_false, not_or] at hk
  obtain ⟨hroute, hcycles, hmax, hcount, hreq⟩ := hk
  unfold Chip.sweepNext
  dsimp only
  split
  · unfold Chip.passEnd
    dsimp only
    rw [get_put_ne _ _ _ _ (Ne.symm hreq), withLat_get, Chip.wrapInc, get_put_ne _ _ _ _ (Ne.symm hcount), Chip.highWater, get_put_ne _ _ _ _ (Ne.symm hmax),
      get_put_ne _ _ _ _ (Ne.symm hcycles), get_put_ne _ _ _ _ (Ne.symm hroute)]
  · exact get_put_ne _ _ _ _ (Ne.symm hroute)

theorem Chip.sweepNext_route (u : Chip) {r : Nat} : (u.sweepNext r).get Reg.LAT_STAT.ROUTE = (r + 1) % 2048 := by
  have hput : (u.put Reg.LAT_STAT.ROUTE ((r + 1) % 2048)).get Reg.LAT_STAT.ROUTE = (r + 1) % 2048 :=
    (get_put_same ..).trans (Nat.mod_eq_of_lt (Nat.mod_lt _ (by decide)))
  unfold Chip.sweepNext
  dsimp only
  split
  · unfold Chip.passEnd
    dsimp only
    rw [get_put_ne _ _ _ _ (by decide), withLat_get, Chip.wrapInc, get_put_ne _ _ _ _ (by decide), Chip.highWater, get_put_ne _ _ _ _ (by decide),
      get_put_ne _ _ _ _ (by decide), hput]
  · exact hput

theorem Chip.sweepNext_lat (u : Chip) (r : Nat) : ∃ start, (u.sweepNext r).lat = { u.lat with passStart := start } := by
  unfold Chip.sweepNext
  dsimp only
  split
  · exact ⟨_, rfl⟩
  · exact ⟨u.lat.passStart, rfl⟩

@[simp] theorem Chip.sweepNext_still (u : Chip) (r : Nat) : (u.sweepNext r).still = u.still := by
  unfold Chip.sweepNext
  dsimp only
  split <;> rfl

theorem Chip.sweepNext_hold (u : Chip) (r : Nat) : (u.sweepNext r).weir.hold = u.weir.hold := by
  unfold Chip.sweepNext
  dsimp only
  split <;> rfl

/-- The state in which an evaluation runs: the first one opens the pass (R204). -/
def Chip.sweepStart (u : Chip) : Chip :=
  if u.on Reg.LAT_STAT.SWEEP then u else ({ u with lat := { u.lat with passStart := u.now } }).put Reg.LAT_STAT.SWEEP 1

theorem Chip.sweepStart_of_sweeping {u : Chip} (h : u.get Reg.LAT_STAT.SWEEP = 1) : u.sweepStart = u := by
  unfold Chip.sweepStart Chip.on
  rw [h]
  rfl

theorem Chip.sweepStart_unlatched (u : Chip) : u.sweepStart.unlatched = u.unlatched := by
  unfold Chip.sweepStart
  split
  · rfl
  · exact (put_unlatched (by decide)).trans rfl

theorem Chip.sweepRoute_unlatched (u : Chip) (r : Nat) : (u.sweepRoute r).unlatched = u.unlatched := by
  by_cases h : u.lat.perm.get r = true ∧ routeFails u.activeBank u.lat.lock u.field r ≠ none
  · obtain ⟨-, -, -, -, hun⟩ := sweepRoute_withdraws h
    exact hun
  · rw [sweepRoute_passes h, advance_unlatched]

theorem execSweepEval_eq (s : State) (ecc w : Nat) :
    exec (.sweepEval ecc w) s = s.weirDoes (((s.chip.sweepStart.sweepRoute (s.chip.sweepStart.get Reg.LAT_STAT.ROUTE)).sweepNext
      (s.chip.sweepStart.get Reg.LAT_STAT.ROUTE)).activeEcc
      (if (s.chip.sweepStart.sweepRoute (s.chip.sweepStart.get Reg.LAT_STAT.ROUTE)).routeBad (s.chip.sweepStart.get Reg.LAT_STAT.ROUTE) then 2 else ecc) w) := rfl

theorem Chip.routeBad_eq_false {u : Chip} {r : Nat} (h : ∀ k, k < 33 → (r * 40 + k) ∉ u.activeBad) : u.routeBad r = false := by
  refine List.any_eq_false.2 fun k hk => ?_
  have hmem := h k (List.mem_range.1 hk)
  simpa using hmem

/-- The bank a route's evaluation leaves ACTIVE is the one it read. -/
theorem Chip.sweepRoute_activeBad (u : Chip) (r : Nat) : (u.sweepRoute r).activeBad = u.activeBad := by
  by_cases h : u.lat.perm.get r = true ∧ routeFails u.activeBank u.lat.lock u.field r ≠ none
  · obtain ⟨-, hlat, -, hid, -⟩ := sweepRoute_withdraws h
    unfold Chip.activeBad
    rw [hid, hlat]
    rfl
  · rw [sweepRoute_passes h]
    rfl

theorem completes_sweepEval (w : Nat) (s : State) (hoff : s.chip.weir.off = false) (hsweep : s.chip.get Reg.LAT_STAT.SWEEP = 1)
    (hbad : ∀ k, k < 33 → (s.chip.get Reg.LAT_STAT.ROUTE * 40 + k) ∉ s.chip.activeBad) :
    let r := s.chip.get Reg.LAT_STAT.ROUTE
    let fails := s.chip.lat.perm.get r = true ∧ routeFails s.chip.activeBank s.chip.lat.lock s.chip.field r ≠ none
    Completes (.sweepEval 0 w) s (fun t => t.now = s.chip.now + 33 ∧ t.get Reg.LAT_STAT.ROUTE = (r + 1) % 2048 ∧ t.lat.lock = s.chip.lat.lock ∧
      t.field = s.chip.field ∧ (∀ q, q ≠ r → t.lat.perm.get q = s.chip.lat.perm.get q) ∧
      (fails → t.lat.perm.get r = false ∧ t.lat.sperm = Rails.ofWord 2048 (spermOf s.chip.activeBank t.lat.perm.word) ∧
        t.get Reg.LAT_WDRAW.COUNT = (s.chip.get Reg.LAT_WDRAW.COUNT + 1) % 2 ^ 32) ∧
      (¬ fails → t.lat.perm = s.chip.lat.perm ∧ t.lat.sperm = s.chip.lat.sperm ∧ t.get Reg.WR_EN.EN = s.chip.get Reg.WR_EN.EN)) := by
  have hrun : exec (.sweepEval 0 w) s = s.become ((s.chip.sweepRoute (s.chip.get Reg.LAT_STAT.ROUTE)).sweepNext (s.chip.get Reg.LAT_STAT.ROUTE)) := by
    have hgood : (s.chip.sweepRoute (s.chip.get Reg.LAT_STAT.ROUTE)).routeBad (s.chip.get Reg.LAT_STAT.ROUTE) = false :=
      routeBad_eq_false (by rwa [sweepRoute_activeBad])
    rw [execSweepEval_eq, sweepStart_of_sweeping hsweep, hgood, State.weirDoes_powered hoff]
    rfl
  dsimp only
  refine ⟨_, hrun, ?_⟩
  generalize s.chip = u
  generalize u.get Reg.LAT_STAT.ROUTE = r
  obtain ⟨start, hnext⟩ := sweepNext_lat (u.sweepRoute r) r
  rw [sweepNext_route, still_now (sweepNext_still ..), Chip.field, hnext, sweepNext_get _ _ _ (by decide), sweepNext_get _ _ _ (by decide)]
  by_cases h : u.lat.perm.get r = true ∧ routeFails u.activeBank u.lat.lock u.field r ≠ none
  · obtain ⟨hnow, hlat, hcount, -, -⟩ := sweepRoute_withdraws h
    rw [hlat]
    refine ⟨hnow, rfl, rfl, rfl, fun q hq => ?_, fun _ => ⟨?_, rfl, hcount⟩, fun hno => absurd h hno⟩
    · exact (Rails.get_put ..).trans (if_neg hq)
    · exact (Rails.get_put ..).trans (if_pos rfl)
  · rw [sweepRoute_passes h]
    exact ⟨advance_now .., rfl, rfl, rfl, fun _ _ => rfl, fun hyes => absurd hyes h, fun _ => ⟨rfl, rfl, rfl⟩⟩

theorem Chip.activeEcc_two (u : Chip) (w : Nat) : u.activeEcc 2 w = u.weirSafe 14 := by
  rw [Chip.activeEcc, if_neg (by decide), if_pos rfl]

theorem Chip.until_unlatched (u : Chip) (n : Nat) : (u.until n).unlatched = u.unlatched := advance_unlatched ..

theorem completes_sweepEval_uncorrectable (w : Nat) (s : State) (hoff : s.chip.weir.off = false) (hun : s.chip.unlatched = true) :
    Completes (.sweepEval 2 w) s (fun t => t.safeWith 14 = true) := by
  obtain ⟨r, hr⟩ : ∃ r, s.chip.sweepStart.get Reg.LAT_STAT.ROUTE = r := ⟨_, rfl⟩
  have hrun : exec (.sweepEval 2 w) s = s.become (((s.chip.sweepStart.sweepRoute r).sweepNext r).weirSafe 14) := by
    rw [execSweepEval_eq, hr, ite_self, activeEcc_two, State.weirDoes_powered hoff]
  refine ⟨_, hrun, weirSafe_safeWith ?_ (by decide)⟩
  rw [unlatched_of (sweepNext_get _ _ _ (by decide)) (sweepNext_hold ..), sweepRoute_unlatched, sweepStart_unlatched, hun]

theorem completes_sweepPassTimeout (s : State) (hoff : s.chip.weir.off = false) (hun : s.chip.unlatched = true) (hsweep : s.chip.get Reg.LAT_STAT.SWEEP = 1) :
    Completes .sweepPassTimeout s (fun t => t.safeWith 14 = true ∧ s.chip.lat.passStart + 70000 ≤ t.now) := by
  have hon : s.chip.on Reg.LAT_STAT.SWEEP = true := by
    rw [Chip.on, hsweep]
    rfl
  have hrun : exec .sweepPassTimeout s = s.become ((s.chip.until (s.chip.lat.passStart + 70000)).weirSafe 14) := by
    rw [← State.weirDoes_powered hoff]
    change execSweepPassTimeout s = _
    unfold execSweepPassTimeout
    dsimp only
    rw [if_pos hon]
  refine ⟨_, hrun, weirSafe_safeWith ((until_unlatched ..).trans hun) (by decide), ?_⟩
  rw [still_now (weirSafe_still ..), until_now]
  omega

/-- Settles O28: a latched image waits, a commit follows its request word by word, and the sweep only takes away. -/
theorem latticeCommits : Obligations.LatticeCommits := by
  unfold Obligations.LatticeCommits
  refine ⟨?latch, ?commit, ?waits, completes_sweepEval, completes_sweepEval_uncorrectable, completes_sweepPassTimeout⟩
  case latch => exact fun v w rest s => completes_latticeLatch s v w rest
  case commit => exact fun p k v rest s => completes_latticeCommit s p k v rest
  case waits => exact fun s => completes_latticeCommit_waits s

end Sys2Proof.Machine
end

section
/-!
PROOFS. Gate queries, verdicts and the permission return (06 R210 to R214; 12 R361).
-/
namespace Sys2Proof.Machine
open Chip

/-! ### Bytes of numbers -/

theorem leBytes_length (n v : Nat) : (leBytes n v).length = n := by
  induction n generalizing v with
  | zero => rfl
  | succ n ih => rw [leBytes, List.length_cons, ih]

theorem leNat_leBytes (n v : Nat) : leNat (leBytes n v) = v % 2 ^ (8 * n) := by
  induction n generalizing v with
  | zero => rw [leBytes, leNat, Nat.mul_zero, Nat.pow_zero, Nat.mod_one]
  | succ n ih =>
    have hpow : 2 ^ (8 * (n + 1)) = 256 * 2 ^ (8 * n) := by
      rw [Nat.mul_succ, Nat.pow_add, Nat.mul_comm]
    rw [leBytes, leNat, ih, BitVec.toNat_ofNat, hpow, Nat.mod_mul]

/-- The number at the head of a byte string. -/
theorem leAt_head (n v : Nat) (l : List Byte) : leAt (leBytes n v ++ l) 0 n = v % 2 ^ (8 * n) := by
  rw [leAt, List.drop_zero, List.take_left' (leBytes_length n v), leNat_leBytes]

/-- A number behind the head of a byte string. -/
theorem leAt_tail (n v o m : Nat) (l : List Byte) : leAt (leBytes n v ++ l) (n + o) m = leAt l o m := by
  rw [leAt, leAt, ← List.drop_drop, List.drop_left' (leBytes_length n v)]

/-- The layout of the permission return (Table 6.11). -/
theorem PermReturn.bytes_layout (r : PermReturn) : r.bytes.length = 0x480 ∧
    leAt r.bytes 0 4 = r.seq % 2 ^ 32 ∧ leAt r.bytes 0x20 256 = r.perm % 2 ^ 2048 ∧ leAt r.bytes 0x120 256 = r.lock % 2 ^ 2048 ∧
    leAt r.bytes 0x220 256 = r.sperm % 2 ^ 2048 ∧ leAt r.bytes 0x320 256 = r.deniedRoutes % 2 ^ 2048 ∧ leAt r.bytes 0x420 64 = r.deniedGates % 2 ^ 512 := by
  unfold PermReturn.bytes
  simp only [List.append_assoc]
  refine ⟨?_, ?_, ?_, ?_, ?_, ?_, ?_⟩
  · simp only [List.length_append, leBytes_length]
  · rw [leAt_head]
  · rw [show 0x20 = 4 + (4 + (8 + (16 + 0))) from rfl]
    rw [leAt_tail, leAt_tail, leAt_tail, leAt_tail, leAt_head]
  · rw [show 0x120 = 4 + (4 + (8 + (16 + (256 + 0)))) from rfl]
    rw [leAt_tail, leAt_tail, leAt_tail, leAt_tail, leAt_tail, leAt_head]
  · rw [show 0x220 = 4 + (4 + (8 + (16 + (256 + (256 + 0))))) from rfl]
    rw [leAt_tail, leAt_tail, leAt_tail, leAt_tail, leAt_tail, leAt_tail, leAt_head]
  · rw [show 0x320 = 4 + (4 + (8 + (16 + (256 + (256 + (256 + 0)))))) from rfl]
    rw [leAt_tail, leAt_tail, leAt_tail, leAt_tail, leAt_tail, leAt_tail, leAt_tail, leAt_head]
  · rw [show 0x420 = 4 + (4 + (8 + (16 + (256 + (256 + (256 + (256 + 0))))))) from rfl]
    rw [leAt_tail, leAt_tail, leAt_tail, leAt_tail, leAt_tail, leAt_tail, leAt_tail, leAt_tail, leAt_head]

/-! ### The verdict on one connection -/

/-- The lattice after a verdict on connection `c` (R212). -/
def Lattice.verdictOn (l : Lattice) (go : Bool) (c : Nat) : Lattice :=
  if go then { l with lastDeny := setBitsAt l.lastDeny c 1 0 }
  else if l.lastDeny.testBit c then l
  else { l with lastDeny := l.lastDeny ||| 2 ^ c, deniedGates := l.deniedGates ||| 2 ^ c }

theorem Chip.gateEntryVerdict_lat (u : Chip) (c : Nat) : (u.gateEntryVerdict c).lat = u.lat.verdictOn (u.gateGo c) c := by
  unfold Chip.gateEntryVerdict Lattice.verdictOn
  dsimp only
  split
  · rfl
  · split
    · rfl
    · rw [latDenied_lat]

theorem Chip.gateEntryVerdict_link (u : Chip) (c : Nat) : (u.gateEntryVerdict c).link = u.link := by
  unfold Chip.gateEntryVerdict
  dsimp only
  split
  · rfl
  · split
    · rfl
    · exact (raiseAfter_link ..).trans (irq_link ..)

/-- The first DENY on a connection is counted and shown with its reason (R212). -/
theorem Chip.gateEntryVerdict_reports (u : Chip) (c : Nat) (hgo : u.gateGo c = false) (hlast : u.lat.lastDeny.testBit c = false) :
    (u.gateEntryVerdict c).get Reg.LAT_DENIALS.COUNT = (u.get Reg.LAT_DENIALS.COUNT + 1) % 2 ^ 32 ∧ (u.gateEntryVerdict c).get Reg.LAT_DENY_LAST.REASON = 7 := by
  unfold Chip.gateEntryVerdict
  dsimp only
  rw [hgo, hlast, if_neg Bool.false_ne_true, if_neg Bool.false_ne_true]
  exact latDenied_shows ..

/-- Every other verdict changes no register. -/
theorem Chip.gateEntryVerdict_regs (u : Chip) (c : Nat) (h : u.gateGo c = true ∨ u.lat.lastDeny.testBit c = true) : (u.gateEntryVerdict c).regs = u.regs := by
  unfold Chip.gateEntryVerdict
  dsimp only
  split
  · rfl
  · rw [if_pos (h.resolve_left ‹_›)]

/-- The verdicts of a result change neither the queue of queries, the count of commits nor the verdicts sent. -/
theorem Chip.gateVerdicts_keep (q : List Nat) (u : Chip) :
    (q.foldl Chip.gateEntryVerdict u).link = u.link ∧ (q.foldl Chip.gateEntryVerdict u).lat.committed = u.lat.committed := by
  induction q generalizing u with
  | nil => exact ⟨rfl, rfl⟩
  | cons c q ih =>
    obtain ⟨hlink, hcommitted⟩ := ih (u.gateEntryVerdict c)
    refine ⟨hlink.trans (gateEntryVerdict_link u c), hcommitted.trans ?_⟩
    rw [gateEntryVerdict_lat, Lattice.verdictOn]
    split
    · rfl
    · split <;> rfl

/-- GO exactly for a VALID gate-table entry whose signal or route is permitted (R211). -/
theorem Chip.gateGo_iff (u : Chip) (c : Nat) : u.gateGo c = true ↔ ((gateEntry u.activeBank c).testBit 31 = true ∧
    ((bits (gateEntry u.activeBank c) 30 29 = 0 ∧ u.lat.sperm.get (gateEntry u.activeBank c % 2048) = true) ∨
     (bits (gateEntry u.activeBank c) 30 29 = 1 ∧ u.lat.perm.get (gateEntry u.activeBank c % 2048) = true))) := by
  unfold Chip.gateGo
  simp only [Bool.and_eq_true, Bool.or_eq_true, beq_iff_eq]

/-- The answer to the oldest query (R210 to R212). -/
def Chip.answered (u : Chip) (q : List Nat) (rest : List (List Nat)) : Chip :=
  let v := q.map u.gateGo
  let u := q.foldl Chip.gateEntryVerdict u
  let l := u.lat
  { u with lat := { l with queries := rest, committed := l.committed - 1 }, link := { u.link with verdicts := u.link.verdicts ++ [v] } }

theorem exec_gateVerdict {s : State} {q : List Nat} {rest : List (List Nat)} (hq : s.chip.lat.queries = q :: rest) (hc : s.chip.lat.committed ≠ 0)
    (hs : s.chip.safe = false) : exec .gateVerdict s = s.become (s.chip.answered q rest) := by
  have hsafe : s.chip.on Reg.WR_STAT.SAFE = false := hs
  change execGateVerdict s = _
  unfold execGateVerdict
  dsimp only
  rw [hq]
  dsimp only
  rw [if_neg (by simp [hc, hsafe])]
  rfl

/-! ### The commands -/

variable (s : State)

theorem completes_gateQuery (q : List Nat) (rest : List (List Nat)) (hq : s.chip.link.queries = q :: rest) :
    Completes .gateQuery s (fun t => t.link.queries = rest ∧ t.lat.queries = s.chip.lat.queries ++ [q.take 64] ∧
      t.get Reg.LAT_DENIALS.COUNT = (s.chip.get Reg.LAT_DENIALS.COUNT + (if 64 < q.length then 1 else 0)) % 2 ^ 32 ∧
      (64 < q.length → t.get Reg.LAT_DENY_LAST.REASON = 8)) := by
  obtain ⟨u, hu⟩ : ∃ u : Chip, ({ s.chip with link := { s.chip.link with queries := rest }, lat := { s.chip.lat with queries := s.chip.lat.queries ++ [q.take 64] } } : Chip) = u :=
    ⟨_, rfl⟩
  have hrun : exec .gateQuery s = s.become (if 64 < q.length then u.latDenied 0 8 0 false u.weirTime else u) := by
    change execGateQuery s = _
    unfold execGateQuery
    dsimp only
    rw [hq]
    subst hu
    rfl
  have hlink : u.link.queries = rest := by rw [← hu]
  have hlat : u.lat.queries = s.chip.lat.queries ++ [q.take 64] := by rw [← hu]
  have hget : u.get Reg.LAT_DENIALS.COUNT = s.chip.get Reg.LAT_DENIALS.COUNT := by
    rw [← hu]
    rfl
  refine ⟨_, hrun, ?_⟩
  by_cases h : 64 < q.length
  · obtain ⟨hcount, hreason⟩ := latDenied_shows u 0 8 0 false u.weirTime
    rw [if_pos h, if_pos h, ← hget]
    exact ⟨(congrArg Link.queries ((raiseAfter_link ..).trans (irq_link ..))).trans hlink, (congrArg Lattice.queries (latDenied_lat ..)).trans hlat, hcount, fun _ => hreason⟩
  · rw [if_neg h, if_neg h]
    exact ⟨hlink, hlat, hget.trans (Nat.mod_eq_of_lt (get_lt s.chip Reg.LAT_DENIALS.COUNT)).symm, fun hlong => absurd hlong h⟩

theorem completes_gateVerdict (q : List Nat) (rest : List (List Nat)) (hq : s.chip.lat.queries = q :: rest) (hc : s.chip.lat.committed ≠ 0)
    (hs : s.chip.safe = false) : Completes .gateVerdict s (fun t => t.lat.queries = rest ∧ t.lat.committed + 1 = s.chip.lat.committed ∧
      ∃ v : List Bool, t.link.verdicts = s.chip.link.verdicts ++ [v] ∧ v.length = q.length ∧
        ∀ k c : Nat, q[k]? = some c → (v[k]? = some true ↔ ((gateEntry s.chip.activeBank c).testBit 31 = true ∧
          ((bits (gateEntry s.chip.activeBank c) 30 29 = 0 ∧ s.chip.lat.sperm.get (gateEntry s.chip.activeBank c % 2048) = true) ∨
           (bits (gateEntry s.chip.activeBank c) 30 29 = 1 ∧ s.chip.lat.perm.get (gateEntry s.chip.activeBank c % 2048) = true))))) := by
  obtain ⟨hlink, hcommitted⟩ := gateVerdicts_keep q s.chip
  refine ⟨_, exec_gateVerdict hq hc hs, rfl, ?_, q.map s.chip.gateGo, ?_, List.length_map .., fun k c hk => ?_⟩
  · change (q.foldl Chip.gateEntryVerdict s.chip).lat.committed - 1 + 1 = _
    rw [hcommitted]
    omega
  · change (q.foldl Chip.gateEntryVerdict s.chip).link.verdicts ++ _ = _
    rw [hlink]
  · rw [List.getElem?_map, hk, Option.map_some, Option.some_inj, gateGo_iff]

theorem completes_gateVerdict_one (c : Nat) (rest : List (List Nat)) (hq : s.chip.lat.queries = [c] :: rest) (hc : s.chip.lat.committed ≠ 0)
    (hs : s.chip.safe = false) :
    let report := s.chip.gateGo c = false ∧ s.chip.lat.lastDeny.testBit c = false
    Completes .gateVerdict s (fun t => t.lat.lastDeny.testBit c = !s.chip.gateGo c ∧
      (report → t.lat.deniedGates.testBit c = true ∧ t.get Reg.LAT_DENIALS.COUNT = (s.chip.get Reg.LAT_DENIALS.COUNT + 1) % 2 ^ 32 ∧ t.get Reg.LAT_DENY_LAST.REASON = 7) ∧
      (¬ report → t.lat.deniedGates = s.chip.lat.deniedGates ∧ t.regs = s.chip.regs)) := by
  refine ⟨_, exec_gateVerdict hq hc hs, ?_⟩
  change (s.chip.gateEntryVerdict c).lat.lastDeny.testBit c = _ ∧ (_ → (s.chip.gateEntryVerdict c).lat.deniedGates.testBit c = true ∧
    (s.chip.gateEntryVerdict c).get Reg.LAT_DENIALS.COUNT = _ ∧ (s.chip.gateEntryVerdict c).get Reg.LAT_DENY_LAST.REASON = 7) ∧
    (_ → (s.chip.gateEntryVerdict c).lat.deniedGates = _ ∧ (s.chip.gateEntryVerdict c).regs = s.chip.regs)
  have hreports := gateEntryVerdict_reports s.chip c
  have hregs := gateEntryVerdict_regs s.chip c
  rw [gateEntryVerdict_lat, Lattice.verdictOn]
  cases hgo : s.chip.gateGo c with
  | true =>
    refine ⟨?_, fun h => absurd h.1 (by decide), fun _ => ⟨rfl, hregs (Or.inl hgo)⟩⟩
    rw [if_pos rfl, setBitsAt_testBit, if_pos rfl]
    rfl
  | false =>
    rw [if_neg Bool.false_ne_true]
    cases hlast : s.chip.lat.lastDeny.testBit c with
    | true =>
      rw [if_pos rfl]
      exact ⟨hlast, fun h => absurd h.2 (by decide), fun _ => ⟨rfl, hregs (Or.inr hlast)⟩⟩
    | false =>
      rw [if_neg Bool.false_ne_true]
      have hset : ∀ v : Nat, (v ||| 2 ^ c).testBit c = true := fun v => by rw [Nat.testBit_or, Nat.testBit_two_pow_self, Bool.or_true]
      exact ⟨hset _, fun _ => ⟨hset _, hreports hgo hlast⟩, fun h => absurd ⟨rfl, rfl⟩ h⟩

theorem completes_gateVerdict_waits (h : s.chip.safe = true ∨ s.chip.lat.queries = []) : Completes .gateVerdict s (fun t => t = s.chip) := by
  refine ⟨s.chip, ?_, rfl⟩
  change execGateVerdict s = _
  unfold execGateVerdict
  dsimp only
  rcases h with h | h
  · have hsafe : s.chip.on Reg.WR_STAT.SAFE = true := h
    cases s.chip.lat.queries with
    | nil => rfl
    | cons q rest =>
      dsimp only
      rw [if_pos (Or.inr hsafe)]
      rfl
  · rw [h]
    rfl

theorem completes_verdictReceive (v : List Bool) (vs : List (List Bool)) (res : Nat) (rest : List Nat) (hv : s.chip.link.verdicts = v :: vs)
    (hres : s.chip.zst.awaiting = res :: rest) :
    Completes .verdictReceive s (fun t => t.link.verdicts = vs ∧ t.zst.awaiting = rest ∧ t.zst.txq = s.chip.zst.txq.map (applyVerdict res v) ∧
      ∀ (f : TxFrame) (pos : Nat), f.gate = .waiting res pos → applyVerdict res v [f] = (if v.getD pos false = true then [{ f with gate := .go }] else [])) := by
  have hrun : exec .verdictReceive s = s.become { s.chip with
      link := { s.chip.link with verdicts := vs }
      zst := { s.chip.zst with awaiting := rest, txq := s.chip.zst.txq.map (applyVerdict res v) } } := by
    change execVerdictReceive s = _
    unfold execVerdictReceive
    dsimp only
    rw [hv, hres]
  refine ⟨_, hrun, rfl, rfl, rfl, fun f pos hf => ?_⟩
  obtain ⟨conn, bytes, gate, rtag⟩ := f
  subst hf
  by_cases hgo : v.getD pos false = true <;> simp only [applyVerdict, List.filterMap_cons, List.filterMap_nil, if_true, hgo, if_false, Bool.false_eq_true]

theorem completes_permissionReturn (r : PermReturn) (hr : s.chip.lat.capture = some r) :
    Completes .permissionReturn s (fun t => t.lat.capture = none ∧ t.lat.buffer = r ∧ t.lat.buffer.bytes.length = 0x480 ∧
      leAt t.lat.buffer.bytes 0 4 = r.seq % 2 ^ 32 ∧ leAt t.lat.buffer.bytes 0x20 256 = r.perm % 2 ^ 2048 ∧
      leAt t.lat.buffer.bytes 0x120 256 = r.lock % 2 ^ 2048 ∧ leAt t.lat.buffer.bytes 0x220 256 = r.sperm % 2 ^ 2048 ∧
      leAt t.lat.buffer.bytes 0x320 256 = r.deniedRoutes % 2 ^ 2048 ∧ leAt t.lat.buffer.bytes 0x420 64 = r.deniedGates % 2 ^ 512 ∧ t.regs = s.chip.regs) := by
  have hrun : exec .permissionReturn s = s.become { s.chip with lat := { s.chip.lat with capture := none, buffer := r } } := by
    change execPermissionReturn s = _
    unfold execPermissionReturn
    dsimp only
    rw [hr]
  obtain ⟨hlen, hseq, hperm, hlock, hsperm, hroutes, hgates⟩ := r.bytes_layout
  exact ⟨_, hrun, rfl, rfl, hlen, hseq, hperm, hlock, hsperm, hroutes, hgates, rfl⟩

/-- Settles O29: a query is answered by what the committed lattice permits, a DENY is reported once, and the permission return is laid out as Table 6.11 says. -/
theorem latticeGates : Obligations.LatticeGates := by
  unfold Obligations.LatticeGates
  refine ⟨?query, ?verdict, ?one, completes_gateVerdict_waits, ?receive, ?permission⟩
  case query => exact fun q rest s => completes_gateQuery s q rest
  case verdict => exact fun q rest s => completes_gateVerdict s q rest
  case one => exact fun c rest s => completes_gateVerdict_one s c rest
  case receive => exact fun v vs res rest s => completes_verdictReceive s v vs res rest
  case permission => exact fun r s => completes_permissionReturn s r

end Sys2Proof.Machine
end

section
/-!
PROOFS. The STANDBY bank and the arming of a swap (06 R216 to R221).
-/
namespace Sys2Proof.Machine
open Chip

/-! ### Words of a bank -/

theorem assoc_cons {α : Type} (e : Nat × α) (l : List (Nat × α)) (k : Nat) (d : α) : assoc (e :: l) k d = if e.1 = k then e.2 else assoc l k d := by
  unfold assoc
  by_cases h : e.1 = k
  · rw [List.find?_cons_of_pos (by simpa using h), if_pos h]
  · rw [List.find?_cons_of_neg (by simpa using h), if_neg h]

theorem assoc_filter {α : Type} (p : Nat → Bool) (l : List (Nat × α)) (k : Nat) (d : α) :
    assoc (l.filter (fun e => p e.1)) k d = if p k then assoc l k d else d := by
  induction l with
  | nil => exact (ite_self d).symm
  | cons e l ih =>
    rw [List.filter_cons, assoc_cons]
    by_cases he : e.1 = k
    · subst he
      cases hp : p e.1 with
      | true => rw [if_pos rfl, if_pos rfl, if_pos rfl, assoc_cons, if_pos rfl]
      | false =>
        rw [if_neg Bool.false_ne_true, if_neg Bool.false_ne_true, ih, hp]
        rfl
    · rw [if_neg he]
      split
      · rw [assoc_cons, if_neg he, ih]
      · exact ih

theorem assoc_append {α : Type} (a b : List (Nat × α)) (k : Nat) (d : α) : assoc (a ++ b) k d = assoc a k (assoc b k d) := by
  induction a with
  | nil => rfl
  | cons e a ih => rw [List.cons_append, assoc_cons, assoc_cons, ih]

theorem assoc_assocPut_ne {α : Type} (l : List (Nat × α)) {k j : Nat} (v d : α) (h : j ≠ k) : assoc (assocPut l k v) j d = assoc l j d := by
  induction l with
  | nil =>
    rw [assocPut, assoc_cons, if_neg (Ne.symm h)]
  | cons e l ih =>
    obtain ⟨a, w⟩ := e
    unfold assocPut
    split
    · rename_i hk
      rw [assoc_cons, assoc_cons, if_neg (Ne.symm h), if_neg (fun ha => h (hk.trans ha).symm)]
    · split
      · rw [assoc_cons, if_neg (Ne.symm h)]
      · rw [assoc_cons, assoc_cons, ih]

/-- A word put below the reserved area is read back, modulo its 256 bits; every other word stays. -/
theorem bankWord_bankPut (b : Bank) {i : Nat} (hi : i < 82176) (v j : Nat) : bankWord (bankPut b i v) j = if j = i then v % 2 ^ 256 else bankWord b j := by
  unfold bankWord bankPut
  rw [if_neg (by omega)]
  by_cases hv : v = 0
  · rw [if_pos hv, assoc_filter (fun n => n != i), hv]
    by_cases hj : j = i
    · rw [if_pos hj, hj, bne_self_eq_false, if_neg Bool.false_ne_true, Nat.zero_mod]
    · rw [if_neg hj, if_pos (bne_iff_ne.2 hj)]
  · rw [if_neg hv]
    by_cases hj : j = i
    · rw [if_pos hj, hj, assoc_assocPut]
    · rw [if_neg hj, assoc_assocPut_ne _ _ _ hj]

/-- The words of the bank that a COPY leaves (R219). -/
theorem bankWord_copyWords (src dst : Bank) (i : Nat) : bankWord (copyWords src dst) i =
    if 82176 ≤ i then bankWord dst i else if 81920 ≤ i ∨ i % 40 < 33 then bankWord src i else 0 := by
  unfold bankWord copyWords
  rw [assoc_append, assoc_filter (fun n => decide (n < 82176 ∧ (81920 ≤ n ∨ n % 40 < 33))), assoc_filter (fun n => decide (82176 ≤ n))]
  simp only [decide_eq_true_eq]
  by_cases hi : 82176 ≤ i
  · rw [if_neg (by omega), if_pos hi, if_pos hi]
  · rw [if_neg hi, if_neg hi]
    by_cases hc : 81920 ≤ i ∨ i % 40 < 33
    · rw [if_pos ⟨by omega, hc⟩, if_pos hc]
    · rw [if_neg (fun h => hc h.2), if_neg hc]

/-- The bits replaced in a number read as they were written. -/
theorem setBitsAt_field (v lo w x : Nat) : setBitsAt v lo w x / 2 ^ lo % 2 ^ w = x % 2 ^ w := by
  have hle : v / 2 ^ lo % 2 ^ w * 2 ^ lo ≤ v := (Nat.mul_le_mul_right _ (Nat.mod_le _ _)).trans (Nat.div_mul_le_self _ _)
  have hdiv : (v - v / 2 ^ lo % 2 ^ w * 2 ^ lo) / 2 ^ lo = 2 ^ w * (v / 2 ^ lo / 2 ^ w) := by
    rw [Nat.mul_comm, Nat.sub_mul_div]
    have := Nat.div_add_mod (v / 2 ^ lo) (2 ^ w)
    omega
  unfold setBitsAt
  rw [Nat.add_mul_div_right _ _ (Nat.two_pow_pos lo), hdiv, Nat.mul_add_mod, Nat.mod_mod]

theorem leNat_lt (l : List Byte) : leNat l < 2 ^ (8 * l.length) := by
  induction l with
  | nil => exact Nat.one_pos
  | cons b l ih =>
    have hb := b.isLt
    have hpow : 2 ^ (8 * (l.length + 1)) = 256 * 2 ^ (8 * l.length) := by rw [Nat.mul_succ, Nat.pow_add, Nat.mul_comm]
    rw [leNat, List.length_cons, hpow]
    omega

/-- A field inside the low `n` bits is not touched by what lies above. -/
theorem mod_div_mod (v : Nat) {lo w n : Nat} (h : lo + w ≤ n) : v % 2 ^ n / 2 ^ lo % 2 ^ w = v / 2 ^ lo % 2 ^ w := by
  obtain ⟨m, rfl⟩ := Nat.exists_eq_add_of_le h
  rw [Nat.pow_add, Nat.pow_add, Nat.mul_assoc, Nat.mod_mul_right_div_self, Nat.mod_mul_right_mod]

/-! ### What the commands keep of the banks -/

/-- The lattice that `t` shows is the one of `u`: which bank is ACTIVE, both banks, the changed routes. -/
structure Chip.BanksKept (u t : Chip) : Prop where
  id : t.get Reg.LAT_STAT.ACTIVE_ID = u.get Reg.LAT_STAT.ACTIVE_ID
  bank0 : t.lat.bank0 = u.lat.bank0
  bank1 : t.lat.bank1 = u.lat.bank1
  bad0 : t.lat.bad0 = u.lat.bad0
  bad1 : t.lat.bad1 = u.lat.bad1
  changed : t.lat.changed = u.lat.changed

namespace Chip.BanksKept

theorem of_lat {u t : Chip} (hid : t.get Reg.LAT_STAT.ACTIVE_ID = u.get Reg.LAT_STAT.ACTIVE_ID) (hlat : t.lat = u.lat) : Chip.BanksKept u t :=
  ⟨hid, congrArg Lattice.bank0 hlat, congrArg Lattice.bank1 hlat, congrArg Lattice.bad0 hlat, congrArg Lattice.bad1 hlat, congrArg Lattice.changed hlat⟩

theorem trans {u t v : Chip} (h : Chip.BanksKept u t) (k : Chip.BanksKept t v) : Chip.BanksKept u v :=
  ⟨k.id.trans h.id, k.bank0.trans h.bank0, k.bank1.trans h.bank1, k.bad0.trans h.bad0, k.bad1.trans h.bad1, k.changed.trans h.changed⟩

theorem put {u : Chip} {f : Fld} {v : Nat} (h : f.key ≠ Reg.LAT_STAT.ACTIVE_ID.key) : Chip.BanksKept u (u.put f v) := of_lat (get_put_ne _ _ _ _ h) rfl

theorem active {u t : Chip} (h : Chip.BanksKept u t) : t.activeBank = u.activeBank := by
  unfold Chip.activeBank
  rw [h.id, h.bank0, h.bank1]

theorem standby {u t : Chip} (h : Chip.BanksKept u t) : t.standbyBank = u.standbyBank := by
  unfold Chip.standbyBank
  rw [h.id, h.bank0, h.bank1]

end Chip.BanksKept

/-- An event of the lattice page reports; it changes no bank and no other register of it. -/
theorem Chip.latEvent_kept (u : Chip) (b code : Nat) (d : List Nat) : BanksKept u ((u.irq latPage b).raiseAfter 4 code d) :=
  .of_lat (latEvent_get _ _ _ _ _ (by decide) (by decide)) ((raiseAfter_lat ..).trans (irq_lat ..))

theorem Chip.sbDone_get (u : Chip) (cmd : Nat) (f : Fld) (hf : f.weirShown = true) (hraw : f.addr ≠ (Reg.IRQ.RAW latPage).addr) :
    (u.sbDone cmd).get f = u.get f := latEvent_get _ _ _ _ _ hf hraw

theorem Chip.sbDone_kept (u : Chip) (cmd : Nat) : BanksKept u (u.sbDone cmd) := latEvent_kept ..

/-- What a STANDBY command shows, in a state that names it and in another (R216). -/
def Chip.Commanded (u t : Chip) (ok : List Nat) (st : Nat) : Prop :=
  BanksKept u t ∧ if u.sbState ∈ ok then t.sbState = st ∧ t.get Reg.LAT_STAT.CMD_ERR = 0 else t.sbState = u.sbState ∧ t.get Reg.LAT_STAT.CMD_ERR = 1

theorem Chip.sbCommand_commanded (u : Chip) (ok : List Nat) {st : Nat} (hst : st < 8) : u.Commanded (u.sbCommand ok st) ok st := by
  unfold Chip.Commanded Chip.sbCommand
  by_cases h : u.sbState ∈ ok
  · rw [if_pos (List.contains_iff_mem.2 h), if_pos h]
    refine ⟨(BanksKept.put (by decide)).trans (.put (by decide)), ?_, get_put_same ..⟩
    rw [Chip.sbState, get_put_ne _ _ _ _ (by decide), get_put_same]
    exact Nat.mod_eq_of_lt hst
  · rw [if_neg (fun hc => h (List.contains_iff_mem.1 hc)), if_neg h]
    exact ⟨.put (by decide), get_put_ne _ _ _ _ (by decide), get_put_same ..⟩

theorem Chip.sbLoadEnd_commanded (u : Chip) : u.Commanded u.sbLoadEnd [1] 3 := by
  obtain ⟨hkept, hshown⟩ := sbCommand_commanded u [1] (st := 3) (by decide)
  unfold Chip.sbLoadEnd
  by_cases h : u.sbState = 1
  · rw [if_pos h]
    refine ⟨hkept.trans (sbDone_kept ..), ?_⟩
    unfold Chip.sbState at hshown ⊢
    rwa [sbDone_get _ _ _ (by decide) (by decide), sbDone_get _ _ _ (by decide) (by decide)]
  · rw [if_neg h]
    exact ⟨hkept, hshown⟩

theorem Chip.sbCopy_commanded (u : Chip) : u.Commanded u.sbCopy [0, 3, 5, 6] 2 := by
  unfold Chip.sbCopy
  by_cases h : u.sbState ∈ [0, 3, 5, 6]
  · rw [if_pos (List.contains_iff_mem.2 h)]
    have hwaits : BanksKept u { u with lat := { u.lat with copyWaits := true } } := ⟨rfl, rfl, rfl, rfl, rfl, rfl⟩
    have hst : ({ u with lat := { u.lat with copyWaits := true } } : Chip).sbState = u.sbState := rfl
    generalize ({ u with lat := { u.lat with copyWaits := true } } : Chip) = x at hwaits hst ⊢
    obtain ⟨hkept, hshown⟩ := sbCommand_commanded x [0, 3, 5, 6] (st := 2) (by decide)
    rw [hst] at hshown
    exact ⟨hwaits.trans hkept, hshown⟩
  · rw [if_neg (fun hc => h (List.contains_iff_mem.1 hc))]
    obtain ⟨hkept, hshown⟩ := sbCommand_commanded u [] (st := 2) (by decide)
    refine ⟨hkept, ?_⟩
    rw [if_neg h]
    rwa [if_neg List.not_mem_nil] at hshown

theorem Chip.atStandby {u : Chip} {off : Nat} (hoff : off < 0x1000) (k : Chip → Chip) (hatt : u.attends 0x50006000 = true) :
    u.access (0x50006000 + off) true k = k u := access_attends _ _ _ _ (attends_header (by decide) hoff hatt)

/-! ### The commands -/

variable (s : State)

theorem completes_standbyCommand (c : Instr) (ok : List Nat) (st : Nat)
    (hc : (c, ok, st) ∈ [(Instr.loadBegin, [0, 3, 5, 6], 1), (Instr.loadEnd, [1], 3), (Instr.copy, [0, 3, 5, 6], 2), (Instr.verify, [3, 6], 4)])
    (hatt : s.chip.attends 0x50006000 = true) : Completes c s (fun t => t.standbyBank = s.chip.standbyBank ∧ t.activeBank = s.chip.activeBank ∧
      if s.chip.sbState ∈ ok then t.sbState = st ∧ t.get Reg.LAT_STAT.CMD_ERR = 0 else t.sbState = s.chip.sbState ∧ t.get Reg.LAT_STAT.CMD_ERR = 1) := by
  have hshows : ∀ {t : Chip} {ok : List Nat} {st : Nat}, s.chip.Commanded t ok st → t.standbyBank = s.chip.standbyBank ∧ t.activeBank = s.chip.activeBank ∧
      if s.chip.sbState ∈ ok then t.sbState = st ∧ t.get Reg.LAT_STAT.CMD_ERR = 0 else t.sbState = s.chip.sbState ∧ t.get Reg.LAT_STAT.CMD_ERR = 1 :=
    fun h => ⟨h.1.standby, h.1.active, h.2⟩
  simp only [List.mem_cons, Prod.mk.injEq, List.not_mem_nil, or_false] at hc
  rcases hc with ⟨rfl, rfl, rfl⟩ | ⟨rfl, rfl, rfl⟩ | ⟨rfl, rfl, rfl⟩ | ⟨rfl, rfl, rfl⟩
  · exact ⟨_, congrArg s.become (atStandby (off := 0x48) (by decide) Chip.sbLoadBegin hatt), hshows (sbCommand_commanded _ _ (by decide))⟩
  · exact ⟨_, congrArg s.become (atStandby (off := 0x48) (by decide) Chip.sbLoadEnd hatt), hshows (sbLoadEnd_commanded _)⟩
  · exact ⟨_, congrArg s.become (atStandby (off := 0x48) (by decide) Chip.sbCopy hatt), hshows (sbCopy_commanded _)⟩
  · exact ⟨_, congrArg s.become (atStandby (off := 0x48) (by decide) Chip.sbVerify hatt), hshows (sbCommand_commanded _ _ (by decide))⟩

theorem completes_copyCaptureStart : Completes .copyCaptureStart s (fun t => t.regs = s.chip.regs ∧
    (t.lat.copyWaits = true ↔ (s.chip.lat.copyWaits = true ∧ ¬ (s.chip.sbState = 2 ∧ s.chip.get Reg.LAT_STAT.ROUTE = 0)))) := by
  refine ⟨_, rfl, ?_⟩
  dsimp only
  split
  · rename_i h
    exact ⟨rfl, by simp [h.1, h.2.2]⟩
  · rename_i h
    refine ⟨rfl, fun hw => ⟨hw, fun hs => h ⟨hs.1, hw, hs.2⟩⟩, fun hw => hw.1⟩

theorem Chip.putStandby_get (u : Chip) (b : Bank) (bad : List Nat) (f : Fld) : (u.putStandby b bad).get f = u.get f := by
  unfold Chip.putStandby
  split <;> rfl

theorem Chip.putStandby_active (u : Chip) (b : Bank) (bad : List Nat) : (u.putStandby b bad).activeBank = u.activeBank := by
  unfold Chip.activeBank
  rw [putStandby_get]
  unfold Chip.putStandby
  split <;> rfl

theorem Chip.putStandby_standby (u : Chip) (b : Bank) (bad : List Nat) : (u.putStandby b bad).standbyBank = b := by
  unfold Chip.standbyBank
  rw [putStandby_get]
  unfold Chip.putStandby
  split <;> rfl

theorem completes_copyDone (w : Nat) (hst : s.chip.sbState = 2) (hw : s.chip.lat.copyWaits = false) :
    Completes (.copyDone 0 w) s (fun t => t.sbState = 3 ∧ t.activeBank = s.chip.activeBank ∧
      (∀ r k, r < 2048 → k < 40 → routeWord t.standbyBank r k = (if k < 33 then routeWord s.chip.activeBank r k else 0)) ∧
      (∀ i, 81920 ≤ i → i < 82176 → bankWord t.standbyBank i = bankWord s.chip.activeBank i) ∧
      ∀ i, 82176 ≤ i → bankWord t.standbyBank i = bankWord s.chip.standbyBank i) := by
  obtain ⟨x, hx⟩ : ∃ x, s.chip.putStandby (copyWords s.chip.activeBank s.chip.standbyBank) s.chip.activeBad = x := ⟨_, rfl⟩
  have hrun : exec (.copyDone 0 w) s = s.become ((x.put Reg.LAT_STAT.SB_STATE 3).sbDone 3) := by
    change execCopyDone 0 w s = _
    unfold execCopyDone
    dsimp only
    rw [if_pos ⟨hst, hw⟩, if_neg (by decide), hx]
    rfl
  have hkept : BanksKept x ((x.put Reg.LAT_STAT.SB_STATE 3).sbDone 3) := (BanksKept.put (by decide)).trans (sbDone_kept ..)
  refine ⟨_, hrun, ?_⟩
  dsimp only
  rw [hkept.active, hkept.standby, ← hx, putStandby_active, putStandby_standby]
  refine ⟨?_, rfl, fun r k hr hk => ?_, fun i hlo hhi => ?_, fun i hlo => ?_⟩
  · exact (sbDone_get _ _ _ (by decide) (by decide)).trans (get_put_same ..)
  · unfold routeWord
    rw [bankWord_copyWords, if_neg (by omega)]
    by_cases h : k < 33
    · rw [if_pos (by omega), if_pos h]
    · rw [if_neg (by omega), if_neg h]
  · rw [bankWord_copyWords, if_neg (by omega), if_pos (Or.inl hlo)]
  · rw [bankWord_copyWords, if_pos hlo]

theorem completes_standbyWrite (a : Nat) (b : List Byte) (hlo : 0x50400000 ≤ a) (hhi : a < 0x50800000) (hopen : s.chip.standbyOpen = true)
    (hsize : (b.length = 4 ∧ a % 4 = 0) ∨ (b.length = 32 ∧ a % 32 = 0)) : Completes (.standbyWrite 7 a b) s (fun t => t.resp = .ok ∧
      (if a - 0x50400000 < 0x282000 then bankField t.standbyBank (a - 0x50400000) (8 * b.length) = leNat b else t.standbyBank = s.chip.standbyBank) ∧
      (∀ i, i ≠ (a - 0x50400000) / 32 → bankWord t.standbyBank i = bankWord s.chip.standbyBank i) ∧ t.activeBank = s.chip.activeBank ∧
      t.sbState = (if s.chip.sbState = 5 ∨ s.chip.sbState = 6 then 3 else s.chip.sbState)) := by
  obtain ⟨off, hoff⟩ : ∃ off, a - 0x50400000 = off := ⟨_, rfl⟩
  obtain ⟨v, hv⟩ : ∃ v, setBitsAt (bankWord s.chip.standbyBank (off / 32)) (8 * (off % 32)) (8 * b.length) (leNat b) = v := ⟨_, rfl⟩
  obtain ⟨x, hx⟩ : ∃ x, s.chip.putStandby (bankPut s.chip.standbyBank (off / 32) v) (s.chip.standbyBad.filter (fun x => x != off / 32)) = x := ⟨_, rfl⟩
  have hxst : x.sbState = s.chip.sbState := by
    rw [← hx]
    exact putStandby_get ..
  have hrun : exec (.standbyWrite 7 a b) s =
      s.become ((if s.chip.sbState = 5 ∨ s.chip.sbState = 6 then x.put Reg.LAT_STAT.SB_STATE 3 else x).answer .ok) := by
    change execStandbyWrite 7 a b s = _
    unfold execStandbyWrite Chip.standbyWrite
    have hsizes : (!s.chip.standbyOpen || !((b.length == 4 && a % 4 == 0) || (b.length == 32 && a % 32 == 0))) = false := by
      rw [hopen]
      rcases hsize with ⟨hl, ha⟩ | ⟨hl, ha⟩ <;> rw [hl, ha] <;> simp
    rw [if_pos (show standbyWindow a = true from decide_eq_true ⟨hlo, hhi⟩), if_neg (by decide), hsizes, if_neg Bool.false_ne_true, hoff]
    dsimp only
    rw [hv, hx, hxst]
  have hkept : BanksKept x ((if s.chip.sbState = 5 ∨ s.chip.sbState = 6 then x.put Reg.LAT_STAT.SB_STATE 3 else x).answer .ok) := by
    split
    · exact (BanksKept.put (f := Reg.LAT_STAT.SB_STATE) (v := 3) (by decide)).trans (.of_lat rfl rfl)
    · exact .of_lat rfl rfl
  refine ⟨_, hrun, rfl, ?_⟩
  rw [hkept.active, hkept.standby, ← hx, putStandby_active, putStandby_standby, hoff, hx]
  have hput : bankPut s.chip.standbyBank (off / 32) v = s.chip.standbyBank ∨ off / 32 < 82176 := by
    by_cases hi : off / 32 < 82176
    · exact Or.inr hi
    · exact Or.inl (if_pos (by omega))
  refine ⟨?_, fun i hi => ?_, rfl, ?_⟩
  · split
    · have hpow : leNat b < 2 ^ (8 * b.length) := leNat_lt b
      unfold bankField
      rw [bankWord_bankPut _ (by omega), if_pos rfl, ← hv]
      have hsplit : 8 * (off % 32) + 8 * b.length ≤ 256 := by omega
      rw [mod_div_mod _ hsplit, setBitsAt_field, Nat.mod_eq_of_lt hpow]
    · exact if_pos (by omega)
  · rcases hput with h | h
    · rw [h]
    · rw [bankWord_bankPut _ h, if_neg hi]
  · split
    · change (x.put Reg.LAT_STAT.SB_STATE 3).get Reg.LAT_STAT.SB_STATE = 3
      exact get_put_same ..
    · exact hxst

theorem completes_standbyWrite_refused (req a : Nat) (b : List Byte) (hlo : 0x50400000 ≤ a) (hhi : a < 0x50800000) (hreq : req ≠ 7) :
    Completes (.standbyWrite req a b) s (fun t => t.resp = .error ∧ t.get (Reg.BLK_ERR.PLANE 0x50006000) = 1 ∧ t.standbyBank = s.chip.standbyBank ∧ t.activeBank = s.chip.activeBank) := by
  have hrun : exec (.standbyWrite req a b) s = s.become (s.chip.standbyRefused req a) := by
    change execStandbyWrite req a b s = _
    unfold execStandbyWrite Chip.standbyWrite
    rw [if_pos (show standbyWindow a = true from decide_eq_true ⟨hlo, hhi⟩), if_pos hreq]
  have hget : ∀ f : Fld, f.lo < 32 → 0x40000000 ≤ f.addr → f.addr / 0x100000 ≠ 0x409 → (s.chip.standbyRefused req a).get f =
      (s.chip.put (Reg.BLK_ERR.PLANE latPage) 1).get f := fun f hl h4 hb =>
    (get_raise _ _ _ _ _ hl h4 hb).trans (refreshLines_get ..)
  have hlat : (s.chip.standbyRefused req a).lat = s.chip.lat := (raise_lat ..).trans (refreshLines_lat ..)
  have hkept : BanksKept s.chip (s.chip.standbyRefused req a) :=
    .of_lat ((hget _ (by decide) (by decide) (by decide)).trans (get_put_ne _ _ _ _ (by decide))) hlat
  exact ⟨_, hrun, rfl, (hget _ (by decide) (by decide) (by decide)).trans (get_put_same ..), hkept.standby, hkept.active⟩

/-! ### The swap -/

theorem Chip.swapRefuse_shows (u : Chip) {result : Nat} (hr : result < 8) : (u.swapRefuse result).sbState = u.sbState ∧
    (u.swapRefuse result).get Reg.LAT_SWAP.ARM = 0 ∧ (u.swapRefuse result).get Reg.LAT_SWAP.RESULT = result := by
  have hevent : ∀ (x : Chip) (d : List Nat) (f : Fld), f.weirShown = true → f.addr ≠ (Reg.IRQ.RAW latPage).addr → ((x.irq latPage 4).raiseAfter 4 5 d).get f = x.get f :=
    fun x d f => latEvent_get x 4 5 d f
  unfold Chip.swapRefuse Chip.sbState
  rw [hevent _ _ _ (by decide) (by decide), hevent _ _ _ (by decide) (by decide), hevent _ _ _ (by decide) (by decide)]
  refine ⟨?_, get_put_same .., ?_⟩
  · rw [get_put_ne _ _ _ _ (by decide), get_put_ne _ _ _ _ (by decide)]
  · rw [get_put_ne _ _ _ _ (by decide), get_put_same]
    exact Nat.mod_eq_of_lt hr

theorem completes_latSwapArm (arm : Bool) (hatt : s.chip.attends 0x50006000 = true) :
    let late := s.chip.get Reg.LAT_SWAP_AT.AT = s.chip.get Reg.WR_SNAPCNT.COUNT ∨
        2 ^ 31 ≤ (s.chip.get Reg.LAT_SWAP_AT.AT + 2 ^ 32 - s.chip.get Reg.WR_SNAPCNT.COUNT) % 2 ^ 32
    Completes (.latSwapArm arm) s (fun t => t.sbState = s.chip.sbState ∧
      (arm = false → t.get Reg.LAT_SWAP.ARM = 0 ∧ t.get Reg.LAT_SWAP.RESULT = s.chip.get Reg.LAT_SWAP.RESULT) ∧
      (arm = true → s.chip.sbState = 5 → ¬ late → t.get Reg.LAT_SWAP.ARM = 1) ∧
      (arm = true → s.chip.sbState = 5 → late → t.get Reg.LAT_SWAP.ARM = 0 ∧ t.get Reg.LAT_SWAP.RESULT = 6) ∧
      (arm = true → s.chip.sbState ≠ 5 → t.get Reg.LAT_SWAP.ARM = 0 ∧ t.get Reg.LAT_SWAP.RESULT = (if s.chip.sbState ∈ [1, 2, 4] then 3 else 2))) := by
  have hrun : exec (.latSwapArm arm) s = s.become (s.chip.swapArm arm) :=
    congrArg s.become (atStandby (off := 0x60) (by decide) (fun u => u.swapArm arm) hatt)
  dsimp only
  refine ⟨_, hrun, ?_⟩
  generalize s.chip = u
  have hput : ∀ v, (u.put Reg.LAT_SWAP.ARM v).sbState = u.sbState := fun _ => get_put_ne _ _ _ _ (by decide)
  unfold Chip.swapArm
  cases arm with
  | false =>
    rw [if_pos (by decide)]
    exact ⟨hput 0, fun _ => ⟨get_put_same .., get_put_ne _ _ _ _ (by decide)⟩, fun h => absurd h (by decide), fun h => absurd h (by decide), fun h => absurd h (by decide)⟩
  | true =>
    rw [if_neg (by decide)]
    dsimp only
    have hat : u.get Reg.LAT_SWAP_AT.AT < 2 ^ 32 := get_lt u Reg.LAT_SWAP_AT.AT
    have hcount : u.get Reg.WR_SNAPCNT.COUNT < 2 ^ 32 := get_lt u Reg.WR_SNAPCNT.COUNT
    have hd : (u.get Reg.LAT_SWAP_AT.AT + 2 ^ 32 - u.get Reg.WR_SNAPCNT.COUNT) % 2 ^ 32 = 0 ↔ u.get Reg.LAT_SWAP_AT.AT = u.get Reg.WR_SNAPCNT.COUNT := by omega
    rw [← hd]
    generalize (u.get Reg.LAT_SWAP_AT.AT + 2 ^ 32 - u.get Reg.WR_SNAPCNT.COUNT) % 2 ^ 32 = d
    by_cases hbusy : u.sbState ∈ [1, 2, 4]
    · have h5 : u.sbState ≠ 5 := fun h => by
        rw [h] at hbusy
        exact absurd hbusy (by decide)
      obtain ⟨hst, harm, hres⟩ := swapRefuse_shows u (result := 3) (by decide)
      rw [if_pos (List.contains_iff_mem.2 hbusy), if_pos hbusy]
      exact ⟨hst, fun h => absurd h (by decide), fun _ h => absurd h h5, fun _ h => absurd h h5, fun _ _ => ⟨harm, hres⟩⟩
    · rw [if_neg (fun h => hbusy (List.contains_iff_mem.1 h)), if_neg hbusy]
      by_cases h5 : u.sbState = 5
      · rw [if_neg (not_not.2 h5)]
        by_cases hlate : d = 0 ∨ 2 ^ 31 ≤ d
        · obtain ⟨hst, harm, hres⟩ := swapRefuse_shows u (result := 6) (by decide)
          rw [if_pos hlate]
          exact ⟨hst, fun h => absurd h (by decide), fun _ _ h => absurd hlate h, fun _ _ _ => ⟨harm, hres⟩, fun _ h => absurd h5 h⟩
        · rw [if_neg hlate]
          exact ⟨hput 1, fun h => absurd h (by decide), fun _ _ _ => get_put_same .., fun _ _ h => absurd h hlate, fun _ h => absurd h5 h⟩
      · obtain ⟨hst, harm, hres⟩ := swapRefuse_shows u (result := 2) (by decide)
        rw [if_pos h5]
        exact ⟨hst, fun h => absurd h (by decide), fun _ h => absurd h h5, fun _ h => absurd h h5, fun _ _ => ⟨harm, hres⟩⟩

/-! ### The end of a VERIFY -/

/-- What the entry to the safe state leaves of the lattice: everything but permissions, waiting images and the request in progress. -/
theorem Chip.weirSafe_stored {β : Type} (p : Lattice → β) (hperm : ∀ (l : Lattice) (a b : Rails), p { l with perm := a, sperm := b } = p l)
    (hpend : ∀ l : Lattice, p { l with pend := none, port := [], passed := [] } = p l) (u : Chip) (cause : Nat) : p (u.weirSafe cause).lat = p u.lat := by
  have hclear : ∀ x : Chip, p x.permsClear.lat = p x.lat := fun x => hperm x.lat _ _
  have hend : ∀ (x : Chip) (d : List Nat) (n : Nat), ((x.captureEntry.irqAfter weirPage 0 0 d).safeLine n).lat = x.lat := fun x d n =>
    ((((Falls.of_within captureEntry_within (by rfl)).trans irq_falls).trans (.of_within raiseAfter_within (by rfl))).trans safeLine_falls).lat
  have hlatch : ∀ (x : Chip) (w : Weir), p ({ x with weir := w, lat := { x.lat with pend := none, port := [], passed := [] } } : Chip).lat = p x.lat := fun x _ => hpend x.lat
  have henables : ∀ x : Chip, x.enablesClear.lat = x.lat := fun _ => rfl
  have hv : (if cause = 9 then u else u.captureCause (0x1000 + cause)).lat = u.lat := weirSafe_capture.same .lat (by decide)
  unfold Chip.weirSafe
  generalize (if cause = 9 then u else u.captureCause (0x1000 + cause)) = v at hv ⊢
  dsimp only
  split
  · split
    · rw [put_lat, hv]
    · rw [hv]
  · rw [hend, put_lat, hclear, hlatch, put_lat, put_lat, put_lat, henables, hv]

theorem Chip.weirSafe_kept (u : Chip) (cause : Nat) : BanksKept u (u.weirSafe cause) where
  id := weirSafe_shown _ _ _ (by decide) (by decide)
  bank0 := weirSafe_stored Lattice.bank0 (fun _ _ _ => rfl) (fun _ => rfl) u cause
  bank1 := weirSafe_stored Lattice.bank1 (fun _ _ _ => rfl) (fun _ => rfl) u cause
  bad0 := weirSafe_stored Lattice.bad0 (fun _ _ _ => rfl) (fun _ => rfl) u cause
  bad1 := weirSafe_stored Lattice.bad1 (fun _ _ _ => rfl) (fun _ => rfl) u cause
  changed := weirSafe_stored Lattice.changed (fun _ _ _ => rfl) (fun _ => rfl) u cause

/-- The codes of Table 6.14 that a word can give rise to. -/
theorem verifyWord_le (b : Bank) (i : Nat) : verifyWord b i ≤ 7 := by
  unfold verifyWord
  extract_lets
  repeat' split
  all_goals omega

/-- The first of the errors that the structure and the poisoned words give. -/
def firstError (structural : Option (Nat × Nat)) (poisoned : Option Nat) : Option (Nat × Nat) :=
  match structural, poisoned with
  | none, none => none
  | some e, none => some e
  | none, some w => some (w, 8)
  | some e, some w => if w < e.1 then some (w, 8) else some e

theorem scanBank_eq (b : Bank) (bad : List Nat) : ∃ poisoned, scanBank b bad =
    firstError (b.findSome? (fun e => if e.1 < 82176 ∧ verifyWord b e.1 ≠ 0 then some (e.1, verifyWord b e.1) else none)) poisoned := ⟨_, rfl⟩

theorem scanBank_code {b : Bank} {bad : List Nat} {e : Nat × Nat} (h : scanBank b bad = some e) : 0 < e.2 ∧ e.2 < 16 := by
  have hword : ∀ x, b.findSome? (fun e => if e.1 < 82176 ∧ verifyWord b e.1 ≠ 0 then some (e.1, verifyWord b e.1) else none) = some x → 0 < x.2 ∧ x.2 < 16 := by
    intro x hx
    obtain ⟨w, -, hw⟩ := List.exists_of_findSome?_eq_some hx
    split at hw
    · rename_i hbad
      cases hw
      have := verifyWord_le b w.1
      exact ⟨Nat.pos_of_ne_zero hbad.2, by dsimp only; omega⟩
    · exact absurd hw (by simp)
  obtain ⟨poisoned, hscan⟩ := scanBank_eq b bad
  rw [hscan] at h
  generalize b.findSome? (fun e => if e.1 < 82176 ∧ verifyWord b e.1 ≠ 0 then some (e.1, verifyWord b e.1) else none) = structural at h hword
  have h8 : ∀ w, some (w, 8) = some e → 0 < e.2 ∧ e.2 < 16 := fun w hw => by
    cases hw
    exact ⟨Nat.succ_pos 7, show 8 < 16 by decide⟩
  unfold firstError at h
  cases structural with
  | none =>
    cases poisoned with
    | none => exact absurd h (by simp)
    | some w => exact h8 w h
  | some x =>
    cases poisoned with
    | none => exact hword e h
    | some w =>
      dsimp only at h
      split at h
      · exact h8 w h
      · exact hword e h

/-- Both phases of a VERIFY of `b` against `a` have run: the check value and the routes that differ (R220). -/
def Chip.verifyScanned (u : Chip) (a b : Bank) (bad : List Nat) : Chip :=
  let cv := bankCheck b
  let u := (u.putStandby b bad).put Reg.LAT_CVC.CVC cv
  let u := if u.get Reg.LAT_STAT.ACTIVE_ID = 0 then { u with lat := { u.lat with cv1 := cv } } else { u with lat := { u.lat with cv0 := cv } }
  let changed := maskOf ((List.range 2048).filter (routeChanged a b))
  ({ u with lat := { u.lat with changed := changed } }).put Reg.LAT_CHANGED.COUNT (popCount changed 2048)

/-- The result of the scan of `b` (Table 6.14). -/
def Chip.verifyResult (u : Chip) (b : Bank) (bad : List Nat) : Chip :=
  let f := u.free
  let mismatch := bankCheck b != u.get Reg.LAT_CV.CV
  match scanBank b bad with
  | some e => (u.put Reg.LAT_VERR.ERR e.2).put Reg.LAT_VERR.WORD e.1
  | none => if mismatch then (f.2.put Reg.LAT_VERR.ERR 1).put Reg.LAT_VERR.WORD f.1
    else (u.put Reg.LAT_VERR.ERR 0).put Reg.LAT_VERR.WORD 0

/-- The VERIFY is over: VERIFIED or FAILED, with SB_DONE; an uncorrectable word of ACTIVE that it read is acted on (R226). -/
def Chip.verifyEnded (u : Chip) (here : Bool) (ecc w : Nat) : Chip :=
  let u := (u.put Reg.LAT_STAT.SB_STATE (if u.get Reg.LAT_VERR.ERR = 0 then 5 else 6)).sbDone 4
  u.activeEcc (if u.activeBad.any comparedWord then 2 else if here then 0 else ecc) (w - 2 ^ 17)

theorem Chip.verifyDone_eq (u : Chip) (ecc w : Nat) : u.verifyDone ecc w = if u.sbState ≠ 4 then u else
    (((if ecc = 1 ∧ decide (w < 2 ^ 17) = true then u.latCorrected (1 - u.get Reg.LAT_STAT.ACTIVE_ID) w else u).verifyScanned u.activeBank u.standbyBank
      (if ecc = 2 ∧ decide (w < 2 ^ 17) = true then w :: u.standbyBad else u.standbyBad)).verifyResult u.standbyBank
      (if ecc = 2 ∧ decide (w < 2 ^ 17) = true then w :: u.standbyBad else u.standbyBad)).verifyEnded (decide (w < 2 ^ 17)) ecc w := rfl

theorem Chip.activeEcc_kept (u : Chip) {ecc : Nat} (h : ecc ≠ 1) (w : Nat) : BanksKept u (u.activeEcc ecc w) ∧
    ∀ f : Fld, f.weirShown = true → f.key ∉ [Reg.WR_STAT.SAFE.key, Reg.WR_STAT.LOCKOUT.key, Reg.WR_STAT.CAUSE.key, Reg.WR_VC.OPEN.key] →
      (u.activeEcc ecc w).get f = u.get f := by
  unfold Chip.activeEcc
  rw [if_neg h]
  split
  · exact ⟨weirSafe_kept .., fun f hf hk => weirSafe_shown _ _ f hf hk⟩
  · exact ⟨.of_lat rfl rfl, fun _ _ _ => rfl⟩

theorem Chip.putStandby_self (u : Chip) : (u.putStandby u.standbyBank u.standbyBad).lat.bank0 = u.lat.bank0 ∧
    (u.putStandby u.standbyBank u.standbyBad).lat.bank1 = u.lat.bank1 := by
  unfold Chip.putStandby Chip.standbyBank
  split <;> exact ⟨rfl, rfl⟩

/-- What both phases of the VERIFY show: the check value of STANDBY and the routes that differ. -/
theorem Chip.verifyScanned_shows (u : Chip) {t : Chip} (ht : u.verifyScanned u.activeBank u.standbyBank u.standbyBad = t) :
    t.activeBank = u.activeBank ∧ t.standbyBank = u.standbyBank ∧ t.get Reg.LAT_CVC.CVC = bankCheck u.standbyBank % 2 ^ 64 ∧
    t.get Reg.LAT_CV.CV = u.get Reg.LAT_CV.CV ∧ t.lat.changed = maskOf ((List.range 2048).filter (routeChanged u.activeBank u.standbyBank)) := by
  obtain ⟨h0, h1⟩ := putStandby_self u
  have hget := putStandby_get u u.standbyBank u.standbyBad
  unfold Chip.verifyScanned at ht
  generalize maskOf ((List.range 2048).filter (routeChanged u.activeBank u.standbyBank)) = m at ht ⊢
  generalize u.putStandby u.standbyBank u.standbyBad = x at ht h0 h1 hget
  generalize bankCheck u.standbyBank = cv at ht ⊢
  obtain ⟨y, hy⟩ : ∃ y, (if (x.put Reg.LAT_CVC.CVC cv).get Reg.LAT_STAT.ACTIVE_ID = 0 then { x.put Reg.LAT_CVC.CVC cv with lat := { (x.put Reg.LAT_CVC.CVC cv).lat with cv1 := cv } }
    else { x.put Reg.LAT_CVC.CVC cv with lat := { (x.put Reg.LAT_CVC.CVC cv).lat with cv0 := cv } }) = y := ⟨_, rfl⟩
  have hyget : ∀ f, y.get f = (x.put Reg.LAT_CVC.CVC cv).get f := fun f => by
    rw [← hy]
    split <;> exact withLat_get ..
  have hy0 : y.lat.bank0 = u.lat.bank0 := by
    rw [← hy, ← h0]
    split <;> rfl
  have hy1 : y.lat.bank1 = u.lat.bank1 := by
    rw [← hy, ← h1]
    split <;> rfl
  dsimp only at ht
  rw [hy] at ht
  have htget : ∀ f : Fld, f.key ∉ [Reg.LAT_CHANGED.COUNT.key, Reg.LAT_CVC.CVC.key] → t.get f = u.get f := fun f hf => by
    simp only [List.mem_cons, List.not_mem_nil, or_false, not_or] at hf
    rw [← ht, get_put_ne _ _ _ _ (Ne.symm hf.1), withLat_get, hyget, get_put_ne _ _ _ _ (Ne.symm hf.2), hget]
  have hid := htget Reg.LAT_STAT.ACTIVE_ID (by decide)
  have ht0 : t.lat.bank0 = u.lat.bank0 := by
    rw [← ht]
    exact hy0
  have ht1 : t.lat.bank1 = u.lat.bank1 := by
    rw [← ht]
    exact hy1
  refine ⟨?_, ?_, ?_, htget _ (by decide), by rw [← ht]; rfl⟩
  · unfold Chip.activeBank
    rw [hid, ht0, ht1]
  · unfold Chip.standbyBank
    rw [hid, ht0, ht1]
  · rw [← ht, get_put_ne _ _ _ _ (by decide), withLat_get, hyget, get_put_same]
    rfl

theorem Chip.free_get (u : Chip) (f : Fld) : u.free.2.get f = u.get f := rfl

/-- The scan shows code 0 exactly for a bank without error whose check value is LAT_CV. -/
theorem Chip.verifyResult_shows (u : Chip) (b : Bank) (bad : List Nat) :
    BanksKept u (u.verifyResult b bad) ∧ (u.verifyResult b bad).get Reg.LAT_CVC.CVC = u.get Reg.LAT_CVC.CVC ∧
    ((u.verifyResult b bad).get Reg.LAT_VERR.ERR = 0 ↔ scanBank b bad = none ∧ bankCheck b = u.get Reg.LAT_CV.CV) := by
  have hputs : ∀ (x : Chip) (e n : Nat), e < 16 → BanksKept x ((x.put Reg.LAT_VERR.ERR e).put Reg.LAT_VERR.WORD n) ∧
      ((x.put Reg.LAT_VERR.ERR e).put Reg.LAT_VERR.WORD n).get Reg.LAT_CVC.CVC = x.get Reg.LAT_CVC.CVC ∧
      ((x.put Reg.LAT_VERR.ERR e).put Reg.LAT_VERR.WORD n).get Reg.LAT_VERR.ERR = e := fun x e n he =>
    ⟨(BanksKept.put (by decide)).trans (.put (by decide)), by rw [get_put_ne _ _ _ _ (by decide), get_put_ne _ _ _ _ (by decide)],
      by rw [get_put_ne _ _ _ _ (by decide), get_put_same]; exact Nat.mod_eq_of_lt he⟩
  unfold Chip.verifyResult
  dsimp only
  generalize bankCheck b = cv
  cases hscan : scanBank b bad with
  | some e =>
    obtain ⟨hpos, hlt⟩ := scanBank_code hscan
    obtain ⟨hkept, hcvc, herr⟩ := hputs u e.2 e.1 hlt
    dsimp only
    rw [herr]
    exact ⟨hkept, hcvc, fun h => absurd h (by omega), fun h => absurd h.1 (by simp)⟩
  | none =>
    dsimp only
    by_cases hcv : cv = u.get Reg.LAT_CV.CV
    · obtain ⟨hkept, hcvc, herr⟩ := hputs u 0 0 (by decide)
      rw [if_neg (by rw [hcv, bne_self_eq_false]; exact Bool.false_ne_true), herr]
      exact ⟨hkept, hcvc, fun _ => ⟨rfl, hcv⟩, fun _ => rfl⟩
    · obtain ⟨hkept, hcvc, herr⟩ := hputs u.free.2 1 u.free.1 (by decide)
      rw [if_pos (bne_iff_ne.2 hcv), herr]
      have hfree : BanksKept u u.free.2 := .of_lat rfl rfl
      exact ⟨hfree.trans hkept, hcvc, fun h => absurd h (by decide), fun h => absurd h.2 hcv⟩

theorem Chip.verifyEnded_shows (u : Chip) (here : Bool) (w : Nat) : BanksKept u (u.verifyEnded here 0 w) ∧
    (u.verifyEnded here 0 w).get Reg.LAT_CVC.CVC = u.get Reg.LAT_CVC.CVC ∧
    (u.verifyEnded here 0 w).sbState = if u.get Reg.LAT_VERR.ERR = 0 then 5 else 6 := by
  have hst : ∀ n, n < 8 → (u.put Reg.LAT_STAT.SB_STATE n).get Reg.LAT_STAT.SB_STATE = n := fun n hn => (get_put_same ..).trans (Nat.mod_eq_of_lt hn)
  obtain ⟨n, hn⟩ : ∃ n, (if u.get Reg.LAT_VERR.ERR = 0 then 5 else 6) = n := ⟨_, rfl⟩
  have hlt : n < 8 := by
    rw [← hn]
    split <;> decide
  unfold Chip.verifyEnded Chip.sbState
  dsimp only
  rw [hn]
  generalize hc : (if ((u.put Reg.LAT_STAT.SB_STATE n).sbDone 4).activeBad.any comparedWord = true then 2 else if here = true then 0 else 0) = c
  have hc1 : c ≠ 1 := by
    rw [← hc]
    split
    · decide
    · rw [ite_self]
      decide
  obtain ⟨hkept, hget⟩ := activeEcc_kept ((u.put Reg.LAT_STAT.SB_STATE n).sbDone 4) hc1 (w - 2 ^ 17)
  have hdone : BanksKept u ((u.put Reg.LAT_STAT.SB_STATE n).sbDone 4) := (BanksKept.put (by decide)).trans (sbDone_kept ..)
  refine ⟨hdone.trans hkept, ?_, ?_⟩
  · rw [hget _ (by decide) (by decide), sbDone_get _ _ _ (by decide) (by decide), get_put_ne _ _ _ _ (by decide)]
  · rw [hget _ (by decide) (by decide), sbDone_get _ _ _ (by decide) (by decide), hst n hlt]

theorem completes_verifyDone (w : Nat) (hst : s.chip.sbState = 4) :
    Completes (.verifyDone 0 w) s (fun t => t.activeBank = s.chip.activeBank ∧ t.standbyBank = s.chip.standbyBank ∧ t.get Reg.LAT_CVC.CVC = bankCheck s.chip.standbyBank % 2 ^ 64 ∧
      t.sbState = (if scanBank s.chip.standbyBank s.chip.standbyBad = none ∧ bankCheck s.chip.standbyBank = s.chip.get Reg.LAT_CV.CV then 5 else 6) ∧
      ∀ r, t.lat.changed.testBit r = (decide (r < 2048) && routeChanged s.chip.activeBank s.chip.standbyBank r)) := by
  obtain ⟨x, hx⟩ : ∃ x, s.chip.verifyScanned s.chip.activeBank s.chip.standbyBank s.chip.standbyBad = x := ⟨_, rfl⟩
  have hrun : exec (.verifyDone 0 w) s = s.become ((x.verifyResult s.chip.standbyBank s.chip.standbyBad).verifyEnded (decide (w < 2 ^ 17)) 0 w) := by
    refine congrArg s.become ((verifyDone_eq s.chip 0 w).trans ?_)
    rw [if_neg (not_not.2 hst), if_neg (fun h => absurd h.1 (by decide)), if_neg (fun h => absurd h.1 (by decide)), hx]
  obtain ⟨hactive, hstandby, hcvc, hcv, hchanged⟩ := verifyScanned_shows s.chip hx
  obtain ⟨hkept, hcvc', herr⟩ := verifyResult_shows x s.chip.standbyBank s.chip.standbyBad
  obtain ⟨hkept', hcvc'', hst'⟩ := verifyEnded_shows (x.verifyResult s.chip.standbyBank s.chip.standbyBad) (decide (w < 2 ^ 17)) w
  have hall := hkept.trans hkept'
  refine ⟨_, hrun, hall.active.trans hactive, hall.standby.trans hstandby, hcvc''.trans (hcvc'.trans hcvc), hst'.trans ?_, fun r => ?_⟩
  · exact if_congr (by rw [herr, hcv]) rfl rfl
  · rw [hall.changed, hchanged, Bool.eq_iff_iff, testBit_maskOf, List.mem_filter, List.mem_range, Bool.and_eq_true, decide_eq_true_eq]

/-- Settles O30: each command acts in the states that name it, COPY and VERIFY leave what they say, only the loader writes, and a swap is armed only in VERIFIED. -/
theorem standbyBank : Obligations.StandbyBank := by
  unfold Obligations.StandbyBank
  refine ⟨?command, completes_copyCaptureStart, ?copy, ?verify, ?write, ?refused, ?arm⟩
  case command => exact fun c ok st hc s => completes_standbyCommand s c ok st hc
  case copy => exact fun w s => completes_copyDone s w
  case verify => exact fun w s => completes_verifyDone s w
  case write => exact fun a b s => completes_standbyWrite s a b
  case refused => exact fun req a b s => completes_standbyWrite_refused s req a b
  case arm => exact fun arm s => completes_latSwapArm s arm

end Sys2Proof.Machine
end

section
/-!
PROOFS. The stores of a channel to its Confluence port (04 R101 to R106, R111, R113).
-/
namespace Sys2Proof.Machine
open Chip

/-! ### Ports -/

theorem Chip.port_modPort_same (u : Chip) {c : Nat} (hc : c < 3) (g : CfPort → CfPort) : (u.modPort c g).port c = g (u.port c) := Per3.get_set_same hc

theorem Chip.port_modPort_ne (u : Chip) {c d : Nat} (hd : d < 3) (h : c ≠ d) (g : CfPort → CfPort) : (u.modPort c g).port d = u.port d := Per3.get_set_ne hd h

theorem Chip.modPort_get (u : Chip) (c : Nat) (g : CfPort → CfPort) {f : Fld} (hf : (Reg.CF_PSTAT.SLOTS c).key ≠ f.key) : (u.modPort c g).get f = u.get f :=
  get_put_ne _ _ _ _ hf

theorem Reg.CF_PSTAT.SLOTS_key (c : Nat) {f : Fld} (hlo : f.lo < 32) (h0 : f.addr ≠ 0) (h : f.addr < 0x40300048 ∨ 0x40300050 < f.addr) :
    (Reg.CF_PSTAT.SLOTS c).key ≠ f.key :=
  Fld.key_ne (f := Reg.CF_PSTAT.SLOTS c) (show 2 < 32 by decide) hlo (slot_ne h0 h)

theorem Chip.modPort_voting (u : Chip) (c : Nat) (g : CfPort → CfPort) (d : Nat) : (u.modPort c g).voting d = u.voting d :=
  congrArg (Nat.testBit · d) (modPort_get u c g (Reg.CF_PSTAT.SLOTS_key c (by decide) (by decide) (by decide)))

/-- A port whose stores do not wait, or wait for a slot that is not free (R106). -/
def Chip.portStands (u : Chip) (d : Nat) : Prop := (u.port d).wait = [] ∨ (2 ≤ (u.port d).queue.length ∧ u.voting d = true)

/-- Nothing goes on where every port stands. -/
theorem Chip.cfResume_stands {u : Chip} (h : ∀ d, d < 3 → u.portStands d) (n : Nat) : u.cfResume n = u := by
  cases n with
  | zero => rfl
  | succ n =>
    have hfind : [0, 1, 2].find? (fun c => (u.port c).wait != [] && ((u.port c).queue.length < 2 || !u.voting c)) = none := by
      refine List.find?_eq_none.2 fun d hd => ?_
      have hd3 : d < 3 := (show ∀ e ∈ [0, 1, 2], e < 3 by decide) d hd
      rcases h d hd3 with hw | ⟨hq, hv⟩
      · rw [hw]
        exact Bool.false_ne_true
      · have hlong : decide ((u.port d).queue.length < 2) = false := decide_eq_false (by omega)
        rw [hv, hlong, Bool.not_true, Bool.or_self, Bool.and_false]
        exact Bool.false_ne_true
    unfold Chip.cfResume
    rw [hfind]

/-- A store to a port none of whose stores waits is done at once, unless it has no slot. -/
theorem Chip.modPort_stands {u : Chip} (h : ∀ d, d < 3 → (u.port d).wait = []) {c : Nat} (hc : c < 3) (g : CfPort → CfPort) (hg : (g (u.port c)).wait = []) :
    ∀ d, d < 3 → (u.modPort c g).portStands d := fun d hd => Or.inl <| by
  by_cases hdc : c = d
  · subst hdc
    rwa [port_modPort_same _ hc]
  · rw [port_modPort_ne _ hd hdc, h d hd]

theorem Chip.cfStore_img {u : Chip} {c : Nat} (h : (u.port c).wait = []) (n v : Nat) : u.cfStore c (.img n v) = u.cfImg c n v := if_neg (not_not.2 h)

theorem Chip.cfStore_msg {u : Chip} {c : Nat} (h : (u.port c).wait = []) (v : Nat) : u.cfStore c (.msg v) = u.cfMsg c v := if_neg (not_not.2 h)

theorem Chip.cfStore_deliver {u : Chip} {c : Nat} (h : (u.port c).wait = []) (v : Nat) (bad : Option Nat) : u.cfStore c (.deliver v bad) =
    if (u.cfDeliver c v bad).1 then (u.cfDeliver c v bad).2 else (u.cfDeliver c v bad).2.modPort c (fun p => { p with wait := [.deliver v bad] }) := if_neg (not_not.2 h)

/-! ### Image words (R101, R102) -/

/-- The bits of a number outside those replaced read as before. -/
theorem setBitsAt_other (v lo w x : Nat) {lo' w' : Nat} (h : lo' + w' ≤ lo ∨ lo + w ≤ lo') : setBitsAt v lo w x / 2 ^ lo' % 2 ^ w' = v / 2 ^ lo' % 2 ^ w' := by
  have hle : v / 2 ^ lo % 2 ^ w * 2 ^ lo ≤ v := (Nat.mul_le_mul_right _ (Nat.mod_le _ _)).trans (Nat.div_mul_le_self _ _)
  rcases h with h | h
  · have hmod : setBitsAt v lo w x % 2 ^ lo = v % 2 ^ lo := by
      unfold setBitsAt
      rw [Nat.add_mul_mod_self_right, Nat.mul_comm, Nat.sub_mul_mod (by rwa [Nat.mul_comm] at hle)]
    rw [← mod_div_mod _ h, hmod, mod_div_mod _ h]
  · have hdiv : setBitsAt v lo w x / 2 ^ lo / 2 ^ w = v / 2 ^ lo / 2 ^ w := by
      have hsub : (v - v / 2 ^ lo % 2 ^ w * 2 ^ lo) / 2 ^ lo = 2 ^ w * (v / 2 ^ lo / 2 ^ w) := by
        rw [Nat.mul_comm, Nat.sub_mul_div]
        have := Nat.div_add_mod (v / 2 ^ lo) (2 ^ w)
        omega
      unfold setBitsAt
      rw [Nat.add_mul_div_right _ _ (Nat.two_pow_pos lo), hsub, Nat.mul_add_div (Nat.two_pow_pos w), Nat.div_eq_of_lt (Nat.mod_lt _ (Nat.two_pow_pos w)), Nat.add_zero]
    obtain ⟨k, rfl⟩ := Nat.exists_eq_add_of_le h
    rw [Nat.pow_add, Nat.pow_add, ← Nat.div_div_eq_div_mul, ← Nat.div_div_eq_div_mul, ← Nat.div_div_eq_div_mul, ← Nat.div_div_eq_div_mul, hdiv]

theorem bits_word (v m : Nat) : bits v (32 * m + 31) (32 * m) = v / 2 ^ (32 * m) % 2 ^ 32 := by
  unfold bits
  rw [show 32 * m + 31 - 32 * m + 1 = 32 by omega]

/-- The image with a word replaced reads that word there, and elsewhere as before. -/
theorem imgPut_word (img n v m : Nat) : bits (imgPut img n v) (32 * m + 31) (32 * m) = if m = n then v % 2 ^ 32 else bits img (32 * m + 31) (32 * m) := by
  have hput : imgPut img n v = setBitsAt img (32 * n) 32 v := by
    unfold imgPut setBitsAt
    rw [bits_word]
  rw [hput, bits_word, bits_word]
  by_cases h : m = n
  · rw [if_pos h, h, setBitsAt_field]
  · rw [if_neg h, setBitsAt_other _ _ _ _ (by omega)]

/-! ### The commands -/

theorem Chip.atPort {u : Chip} {off : Nat} (hoff : off < 0x1000) (k : Chip → Chip) (hatt : u.attends 0x40301000 = true) :
    u.access (0x40301000 + off) true k = k u := access_attends _ _ _ _ (attends_header (by decide) hoff hatt)

variable (s : State)

theorem exec_cfPortImg {c n v : Nat} (hn : n < 128) (hatt : s.chip.attends 0x40301000 = true) :
    exec (.cfPortImg c n v) s = s.become (s.chip.cfPut c (.img n v)) := by
  have haddr : 0x40301100 + 4 * n = 0x40301000 + (0x100 + 4 * n) := by omega
  change execCfPortImg c n v s = _
  unfold execCfPortImg
  rw [haddr]
  exact congrArg s.become (atPort (by omega) (fun u => u.cfPut c (.img n v)) hatt)

theorem exec_cfPortMsg {c v : Nat} (hatt : s.chip.attends 0x40301000 = true) : exec (.cfPortMsg c v) s = s.become (s.chip.cfPut c (.msg v)) :=
  congrArg s.become (atPort (off := 0x44) (by decide) (fun u => u.cfPut c (.msg v)) hatt)

theorem exec_cfPortDeliver {c v : Nat} {bad : Option Nat} (hatt : s.chip.attends 0x40301000 = true) :
    exec (.cfPortDeliver c v bad) s = s.become (s.chip.cfPut c (.deliver v bad)) :=
  congrArg s.become (atPort (off := 0x48) (by decide) (fun u => u.cfPut c (.deliver v bad)) hatt)

theorem completes_cfPortImg (c n v : Nat) (hc : c < 3) (hn : n < 128) (hatt : s.chip.attends 0x40301000 = true) (hw : ∀ d, d < 3 → (s.chip.port d).wait = []) :
    Completes (.cfPortImg c n v) s (fun t =>
      if n < s.chip.get Reg.CF_CFG.IMG_WORDS then
        bits (t.port c).fill.img (32 * n + 31) (32 * n) = v % 2 ^ 32 ∧
        (∀ m, m ≠ n → bits (t.port c).fill.img (32 * m + 31) (32 * m) = bits (s.chip.port c).fill.img (32 * m + 31) (32 * m)) ∧
        (t.port c).queue = (s.chip.port c).queue
      else t = s.chip) := by
  refine ⟨_, exec_cfPortImg s hn hatt, ?_⟩
  unfold Chip.cfPut
  rw [cfStore_img (hw c hc)]
  unfold Chip.cfImg
  split
  · rw [cfResume_stands (modPort_stands hw hc _ (hw c hc)), port_modPort_same _ hc]
    exact ⟨(imgPut_word ..).trans (if_pos rfl), fun m hm => (imgPut_word ..).trans (if_neg hm), rfl⟩
  · exact cfResume_stands (fun d hd => Or.inl (hw d hd)) 8

theorem completes_cfPortMsg (c v : Nat) (hc : c < 3) (hatt : s.chip.attends 0x40301000 = true) (hw : ∀ d, d < 3 → (s.chip.port d).wait = []) :
    Completes (.cfPortMsg c v) s (fun t =>
      if 65536 < 4 * (s.chip.port c).fill.msgs.length + 4 then
        (t.port c).fill.ovf = true ∧ (t.port c).fill.msgs = (s.chip.port c).fill.msgs
      else (t.port c).fill.msgs = (s.chip.port c).fill.msgs ++ [v % 2 ^ 32] ∧ (t.port c).fill.ovf = (s.chip.port c).fill.ovf) := by
  refine ⟨_, exec_cfPortMsg s hatt, ?_⟩
  unfold Chip.cfPut
  rw [cfStore_msg (hw c hc)]
  unfold Chip.cfMsg
  have hstands := modPort_stands hw hc (fun p => if 16384 ≤ p.fill.msgs.length then { p with fill := { p.fill with ovf := true } }
    else { p with fill := { p.fill with msgs := p.fill.msgs ++ [v % 2 ^ 32] } }) (by split <;> exact hw c hc)
  rw [cfResume_stands hstands]
  dsimp only
  rw [port_modPort_same _ hc]
  by_cases hlong : 16384 ≤ (s.chip.port c).fill.msgs.length
  · rw [if_pos (by omega), if_pos hlong]
    exact ⟨rfl, rfl⟩
  · rw [if_neg (by omega), if_neg hlong]
    exact ⟨rfl, rfl⟩

/-- Behind a stalled DELIVER every store to the port waits. -/
theorem Chip.cfPut_waits {u : Chip} {c : Nat} (hc : c < 3) (hothers : ∀ d, d < 3 → d ≠ c → (u.port d).wait = []) (hw : (u.port c).wait ≠ [])
    (hv : u.voting c = true) (hq : 2 ≤ (u.port c).queue.length) (st : PortStore) : (u.cfPut c st).port c = { u.port c with wait := (u.port c).wait ++ [st] } := by
  have hstands : ∀ d, d < 3 → (u.modPort c (fun p => { p with wait := p.wait ++ [st] })).portStands d := fun d hd => by
    by_cases hdc : c = d
    · subst hdc
      refine Or.inr ⟨?_, (modPort_voting ..).trans hv⟩
      rw [port_modPort_same _ hc]
      exact hq
    · refine Or.inl ?_
      rw [port_modPort_ne _ hd hdc, hothers d hd (Ne.symm hdc)]
  unfold Chip.cfPut Chip.cfStore
  rw [if_pos hw, cfResume_stands hstands, port_modPort_same _ hc]

/-! ### A delivery -/

/-- A voting port without a result keeps the window open. -/
theorem Chip.not_allPresent {u : Chip} {d : Nat} (hd : d < 3) (hv : u.voting d = true) (hq : (u.port d).queue = []) : u.allPresent = false := by
  have hlt : u.present.length < u.votingCount := by
    have hsome : ∀ c, (if u.voting c then ((u.port c).queue.head?).map (fun r => (c, r)) else none).isSome = (u.voting c && (u.port c).queue.head?.isSome) := fun c => by
      cases u.voting c <;> simp
    have hnone : (u.port d).queue.head?.isSome = false := by rw [hq]; rfl
    unfold Chip.present Chip.votingCount popCount setBits
    rw [List.length_filterMap_eq_countP, ← List.countP_eq_length_filter]
    simp only [hsome]
    change List.countP (fun c => u.voting c && (u.port c).queue.head?.isSome) [0, 1, 2] < List.countP u.voting [0, 1, 2]
    simp only [List.countP_cons, List.countP_nil]
    have hle : ∀ c, (if (u.voting c && (u.port c).queue.head?.isSome) = true then 1 else 0) ≤ if u.voting c = true then 1 else 0 := fun c => by
      cases u.voting c <;> cases (u.port c).queue.head?.isSome <;> decide
    have hd0 : (if (u.voting d && (u.port d).queue.head?.isSome) = true then 1 else 0) + 1 ≤ if u.voting d = true then 1 else 0 := by
      rw [hv, hnone]
      decide
    have h0 := hle 0
    have h1 := hle 1
    have h2 := hle 2
    rcases (show d = 0 ∨ d = 1 ∨ d = 2 by omega) with rfl | rfl | rfl <;> omega
  unfold Chip.allPresent
  have hne : (u.present.length == u.votingCount) = false := beq_eq_false_iff_ne.2 (Nat.ne_of_lt hlt)
  rw [hne, Bool.and_false]

/-- A delivery that leaves a voting port without a result opens the window, or leaves it open (R111, R113). -/
theorem Chip.windows_opens {u : Chip} {c d : Nat} (hc : c < 3) (hvc : u.voting c = true) (hqc : (u.port c).queue ≠ []) (hd : d < 3) (hv : u.voting d = true)
    (hq : (u.port d).queue = []) (n : Nat) : (u.windows (n + 1)).conf.ports = u.conf.ports ∧ (u.windows (n + 1)).conf.window.isSome = true := by
  have hmem : u.present ≠ [] := by
    obtain ⟨r, l, hl⟩ := List.exists_cons_of_ne_nil hqc
    refine List.ne_nil_of_mem (a := (c, r)) (List.mem_filterMap.2 ⟨c, List.mem_range.2 hc, ?_⟩)
    rw [if_pos hvc, hl]
    rfl
  unfold Chip.windows
  rw [if_neg hmem]
  by_cases hw : u.conf.window.isSome = true
  · dsimp only
    rw [if_pos hw, not_allPresent hd hv hq, if_neg Bool.false_ne_true]
    exact ⟨rfl, hw⟩
  · dsimp only
    have hopen : (u.modConf (fun v => { v with window := some u.weir.time })).allPresent = false := not_allPresent hd hv hq
    rw [if_neg hw, hopen, if_neg Bool.false_ne_true]
    exact ⟨rfl, rfl⟩

/-- A delivery before the window has expired (R105, R106, R113). -/
theorem Chip.cfDeliver_inTime {u : Chip} (hdue : u.overdue = false) (c v : Nat) (bad : Option Nat) : u.cfDeliver c v bad =
    if !u.voting c then (true, u.modPort c (fun p => { p with fill := {} }))
    else if (u.port c).fill.ovf then (true, (u.put (Reg.CF_PSTAT.OVF c) 1).modPort c (fun p => { p with fill := {} }))
    else if 2 ≤ (u.port c).queue.length then (false, u)
    else (true, ((u.put (Reg.CF_PSTAT.OVF c) 0).modPort c (fun p => { p with fill := {}, queue := p.queue ++ [{ (u.port c).fill with hdr := v % 2 ^ 32, bad := bad, arr := u.weir.time }] })).windows 3) := by
  unfold Chip.cfDeliver
  rw [hdue]
  rfl

theorem completes_cfPortDeliver (c v : Nat) (bad : Option Nat) (hc : c < 3) (hatt : s.chip.attends 0x40301000 = true) (hdue : s.chip.overdue = false)
    (hw : ∀ d, d < 3 → (s.chip.port d).wait = []) : Completes (.cfPortDeliver c v bad) s (fun t =>
      (s.chip.voting c = false → (t.port c).queue = (s.chip.port c).queue ∧ (t.port c).fill = {}) ∧
      (s.chip.voting c = true → (s.chip.port c).fill.ovf = true → (t.port c).queue = (s.chip.port c).queue ∧ t.get (Reg.CF_PSTAT.OVF c) = 1) ∧
      (s.chip.voting c = true → (s.chip.port c).fill.ovf = false → 2 ≤ (s.chip.port c).queue.length →
        t.port c = { s.chip.port c with wait := [.deliver v bad] } ∧ t.conf.window = s.chip.conf.window) ∧
      (s.chip.voting c = true → (s.chip.port c).fill.ovf = false → (s.chip.port c).queue.length < 2 →
        (∃ d, d < 3 ∧ d ≠ c ∧ s.chip.voting d = true ∧ (s.chip.port d).queue = []) →
        (t.port c).queue = (s.chip.port c).queue ++ [{ (s.chip.port c).fill with hdr := v % 2 ^ 32, bad := bad, arr := s.chip.weir.time }] ∧
        (t.port c).fill = {} ∧ t.conf.window.isSome = true)) := by
  refine ⟨_, exec_cfPortDeliver s hatt, ?_⟩
  generalize s.chip = u at hw hdue
  unfold Chip.cfPut
  rw [cfStore_deliver (hw c hc)]
  have hdeliver := cfDeliver_inTime hdue c v bad
  cases hv : u.voting c with
  | false =>
    rw [hv, if_pos (by decide)] at hdeliver
    rw [hdeliver, if_pos rfl, cfResume_stands (modPort_stands hw hc _ (hw c hc)), port_modPort_same _ hc]
    exact ⟨fun _ => ⟨rfl, rfl⟩, fun h => absurd h (by decide), fun h => absurd h (by decide), fun h => absurd h (by decide)⟩
  | true =>
    rw [hv, if_neg (by decide)] at hdeliver
    cases hovf : (u.port c).fill.ovf with
    | true =>
      have hput : ∀ d, (u.put (Reg.CF_PSTAT.OVF c) 1).port d = u.port d := fun _ => rfl
      rw [hovf, if_pos rfl] at hdeliver
      have hwait : ∀ d, d < 3 → ((u.put (Reg.CF_PSTAT.OVF c) 1).port d).wait = [] := hw
      rw [hdeliver, if_pos rfl, cfResume_stands (modPort_stands hwait hc _ (hw c hc)), port_modPort_same _ hc, hput]
      refine ⟨fun h => absurd h (by decide), fun _ _ => ⟨rfl, ?_⟩, fun _ h => absurd h (by decide), fun _ h => absurd h (by decide)⟩
      have hkey : (Reg.CF_PSTAT.SLOTS c).key ≠ (Reg.CF_PSTAT.OVF c).key := (show ∀ c < 3, (Reg.CF_PSTAT.SLOTS c).key ≠ (Reg.CF_PSTAT.OVF c).key by decide) c hc
      exact (modPort_get _ _ _ hkey).trans (get_put_same ..)
    | false =>
      rw [hovf, if_neg Bool.false_ne_true] at hdeliver
      by_cases hfull : 2 ≤ (u.port c).queue.length
      · rw [if_pos hfull] at hdeliver
        rw [hdeliver, if_neg Bool.false_ne_true]
        have hstands : ∀ d, d < 3 → (u.modPort c (fun p => { p with wait := [.deliver v bad] })).portStands d := fun d hd => by
          by_cases hdc : c = d
          · subst hdc
            refine Or.inr ⟨?_, (modPort_voting ..).trans hv⟩
            rw [port_modPort_same _ hc]
            exact hfull
          · refine Or.inl ?_
            rw [port_modPort_ne _ hd hdc, hw d hd]
        rw [cfResume_stands hstands, port_modPort_same _ hc]
        exact ⟨fun h => absurd h (by decide), fun _ h => absurd h (by decide), fun _ _ _ => ⟨rfl, rfl⟩, fun _ _ h => absurd h (by omega)⟩
      · rw [if_neg hfull] at hdeliver
        rw [hdeliver, if_pos rfl]
        refine ⟨fun h => absurd h (by decide), fun _ h => absurd h (by decide), fun _ _ h => absurd h hfull, fun _ _ _ ⟨d, hd, hdc, hvd, hqd⟩ => ?_⟩
        dsimp only
        obtain ⟨r, hr⟩ : ∃ r : Result, { (u.port c).fill with hdr := v % 2 ^ 32, bad := bad, arr := u.weir.time } = r := ⟨_, rfl⟩
        rw [hr]
        obtain ⟨x, hx⟩ : ∃ x, (u.put (Reg.CF_PSTAT.OVF c) 0).modPort c (fun p => { p with fill := {}, queue := p.queue ++ [r] }) = x := ⟨_, rfl⟩
        rw [hx]
        have hput : ∀ d, (u.put (Reg.CF_PSTAT.OVF c) 0).port d = u.port d := fun _ => rfl
        have hsame : x.port c = { u.port c with fill := {}, queue := (u.port c).queue ++ [r] } := by rw [← hx, port_modPort_same _ hc, hput]
        have hother : ∀ e, e < 3 → e ≠ c → x.port e = u.port e := fun e he hec => by rw [← hx, port_modPort_ne _ he (Ne.symm hec), hput]
        have hvoting : ∀ e, x.voting e = u.voting e := fun e => by
          rw [← hx, modPort_voting]
          exact congrArg (Nat.testBit · e) (get_put_ne _ _ _ _ (Fld.key_ne (f := Reg.CF_PSTAT.OVF c) (show 5 < 32 by decide) (by decide) (slot_ne (by decide) (by decide))))
        obtain ⟨hports, hwindow⟩ := windows_opens hc ((hvoting c).trans hv) (by rw [hsame]; simp) hd ((hvoting d).trans hvd) (by rw [hother d hd hdc, hqd]) 2
        have hport : ∀ e, (x.windows 3).port e = x.port e := fun e => congrArg (fun p => Per3.get p e) hports
        have hstands : ∀ e, e < 3 → (x.windows 3).portStands e := fun e he => Or.inl <| by
          rw [hport]
          by_cases hec : e = c
          · rw [hec, hsame]
            exact hw c hc
          · rw [hother e he hec, hw e he]
        rw [cfResume_stands hstands, hport, hsame]
        exact ⟨rfl, rfl, hwindow⟩

/-- Settles O16: what a channel's stores do at its Confluence port, and which of them wait. -/
theorem confluencePorts : Obligations.ConfluencePorts := by
  unfold Obligations.ConfluencePorts
  refine ⟨?image, ?message, ?waits, ?deliver⟩
  case image => exact fun c n v s => completes_cfPortImg s c n v
  case message => exact fun c v s => completes_cfPortMsg s c v
  case waits =>
    intro c n v s hc hn hatt hothers hw hv hq
    exact ⟨⟨_, exec_cfPortImg s hn hatt, cfPut_waits hc hothers hw hv hq _⟩, ⟨_, exec_cfPortMsg s hatt, cfPut_waits hc hothers hw hv hq _⟩⟩
  case deliver => exact fun c v bad s => completes_cfPortDeliver s c v bad

end Sys2Proof.Machine
end

section
/-!
PROOFS. A vote closed by expiry in 2oo3 (04 R108, R111, R117 to R120).
-/
namespace Sys2Proof.Machine
open Chip

/-! ### What Confluence holds for the votes -/

/-- What of Confluence a vote reads and shows. -/
structure CfView where
  ports : Per3 CfPort
  releases : List CfRelease
  recon : Option Recon
  mode : Nat
  mask : Nat
  outcome : Nat
  expired : Nat

def Chip.cfView (u : Chip) : CfView :=
  ⟨u.conf.ports, u.conf.releases, u.conf.recon, u.get Reg.CF_MODE.MODE, u.get Reg.CF_MODE.MASK, u.get Reg.CF_LAST.OUTCOME, u.get Reg.CF_CNT.EXPIRED⟩

theorem Chip.cfView_of {u t : Chip} (hconf : t.conf.ports = u.conf.ports ∧ t.conf.releases = u.conf.releases ∧ t.conf.recon = u.conf.recon)
    (hregs : ∀ f ∈ [Reg.CF_MODE.MODE, Reg.CF_MODE.MASK, Reg.CF_LAST.OUTCOME, Reg.CF_CNT.EXPIRED], t.get f = u.get f) : t.cfView = u.cfView := by
  obtain ⟨hports, hreleases, hrecon⟩ := hconf
  unfold Chip.cfView
  rw [hports, hreleases, hrecon, hregs _ (by simp), hregs _ (by simp), hregs _ (by simp), hregs _ (by simp)]

theorem Chip.cfView_within {S : Scope} {u t : Chip} (h : Within S u t) (hs : (!S.parts.contains .conf && !S.covers 0x403) = true) : t.cfView = u.cfView := by
  simp only [Bool.and_eq_true, Bool.not_eq_true', List.contains_eq_mem, decide_eq_false_iff_not] at hs
  obtain ⟨hparts, hblocks⟩ := hs
  have hconf : t.conf = u.conf := h.same .conf hparts
  refine cfView_of ⟨by rw [hconf], by rw [hconf], by rw [hconf]⟩ fun f hf => ?_
  have hblock : f.lo < 32 ∧ 0x40000000 ≤ f.addr ∧ f.addr % 0x1000 ≠ 0xC ∧ f.addr / 0x100000 = 0x403 :=
    (show ∀ g ∈ [Reg.CF_MODE.MODE, Reg.CF_MODE.MASK, Reg.CF_LAST.OUTCOME, Reg.CF_CNT.EXPIRED], g.lo < 32 ∧ 0x40000000 ≤ g.addr ∧ g.addr % 0x1000 ≠ 0xC ∧
      g.addr / 0x100000 = 0x403 by decide) f hf
  obtain ⟨hlo, haddr, hstat, hb⟩ := hblock
  exact h.regs f hlo haddr hstat (by rw [hb]; exact hblocks)

theorem Chip.put_cfView (u : Chip) {f : Fld} (v : Nat)
    (hk : f.key ∉ [Reg.CF_MODE.MODE.key, Reg.CF_MODE.MASK.key, Reg.CF_LAST.OUTCOME.key, Reg.CF_CNT.EXPIRED.key]) : (u.put f v).cfView = u.cfView := by
  simp only [List.mem_cons, List.not_mem_nil, or_false, not_or] at hk
  obtain ⟨hmode, hmask, houtcome, hexpired⟩ := hk
  unfold Chip.cfView
  rw [get_put_ne _ _ _ _ hmode, get_put_ne _ _ _ _ hmask, get_put_ne _ _ _ _ houtcome, get_put_ne _ _ _ _ hexpired, put_conf]

/-- The registers of the ports show nothing of this. -/
theorem Chip.put_pstat_cfView (u : Chip) {f : Fld} (v c : Nat) (hf : f.addr = slot c 3 0x40300048 0x4) (hlo : f.lo < 32) : (u.put f v).cfView = u.cfView := by
  have hne : ∀ g : Fld, g.lo < 32 → g.addr ≠ 0 → (g.addr < 0x40300048 ∨ 0x40300048 + (3 - 1) * 0x4 < g.addr) → f.key ≠ g.key := fun g hg h0 h =>
    Fld.key_ne hlo hg (by rw [hf]; exact slot_ne h0 h)
  refine put_cfView u v ?_
  simp only [List.mem_cons, List.not_mem_nil, or_false, not_or]
  exact ⟨hne _ (by decide) (by decide) (by decide), hne _ (by decide) (by decide) (by decide), hne _ (by decide) (by decide) (by decide),
    hne _ (by decide) (by decide) (by decide)⟩

theorem Chip.irqAfter_cfView (u : Chip) (pg src b : Nat) (data : List Nat) (hpg : pg + 0x10 < 0x40300044) : (u.irqAfter pg src b data).cfView = u.cfView := by
  have hirq : (u.irq pg b).cfView = u.cfView := by
    refine cfView_of (by rw [irq_conf]; exact ⟨rfl, rfl, rfl⟩) fun f hf => ?_
    obtain ⟨hlo, haddr⟩ := (show ∀ g ∈ [Reg.CF_MODE.MODE, Reg.CF_MODE.MASK, Reg.CF_LAST.OUTCOME, Reg.CF_CNT.EXPIRED], g.lo < 32 ∧ 0x40300044 ≤ g.addr by decide) f hf
    refine get_irq _ _ _ _ hlo ?_
    simp only [Reg.IRQ.RAW]
    omega
  exact (cfView_within raiseAfter_within (by rfl)).trans hirq

theorem foldl_cfView {α : Type} {g : Chip → α → Chip} (h : ∀ t x, (g t x).cfView = t.cfView) (l : List α) (u : Chip) : (l.foldl g u).cfView = u.cfView :=
  foldl_keeps Chip.cfView h l u

/-! ### A mode change, a departure, a loss -/

theorem Chip.modeChange_cfView (u : Chip) {mode mask : Nat} (c cause : Nat) (hmode : mode < 4) (hmask : mask < 8) :
    (u.modeChange mode mask c cause).cfView = { u.cfView with mode := mode, mask := mask } := by
  have hset : ((u.put Reg.CF_MODE.MODE mode).put Reg.CF_MODE.MASK mask).cfView = { u.cfView with mode := mode, mask := mask } := by
    unfold Chip.cfView
    rw [get_put_ne _ _ _ _ (by decide), get_put_same, get_put_same, get_put_ne _ _ _ _ (by decide), get_put_ne _ _ _ _ (by decide), get_put_ne _ _ _ _ (by decide),
      get_put_ne _ _ _ _ (by decide), Nat.mod_eq_of_lt (show mode < 2 ^ Reg.CF_MODE.MODE.width from hmode),
      Nat.mod_eq_of_lt (show mask < 2 ^ Reg.CF_MODE.MASK.width from hmask)]
    rfl
  unfold Chip.modeChange
  extract_lets om os u1 u2
  rw [irqAfter_cfView _ _ _ _ _ (by decide)]
  refine Eq.trans ?_ hset
  unfold u2 foldUpTo
  exact foldl_cfView (fun t n => put_pstat_cfView t _ n rfl (show 0 < 32 by decide)) _ _

/-- A port replaced. -/
theorem Chip.modPort_cfView (u : Chip) (c : Nat) (g : CfPort → CfPort) : (u.modPort c g).cfView = { u.cfView with ports := u.conf.ports.set c (g (u.port c)) } := by
  unfold Chip.modPort
  dsimp only
  rw [put_pstat_cfView _ _ c rfl (show 2 < 32 by decide)]
  rfl

theorem Chip.startRecon_cfView (u : Chip) (t0 set : Nat) (shrink : Bool) : (u.startRecon t0 set shrink).cfView = { u.cfView with recon := some ⟨t0, set, shrink⟩ } := rfl

theorem Chip.startRecon_sets (u : Chip) (t0 set : Nat) (shrink : Bool) : (u.startRecon t0 set shrink).link.sets = u.link.sets ++ [set] := rfl

/-- The first departure from a set of three: 2oo2 with the smaller set, and the reconfiguration starts (R118, R120). -/
theorem Chip.depart_first {u : Chip} {c : Nat} (cause t0 : Nat) (hv : u.voting c = true) (hmode : u.get Reg.CF_MODE.MODE = 3) (hmask : u.get Reg.CF_MODE.MASK = 7) :
    (u.depart c cause t0).cfView = { u.cfView with ports := u.conf.ports.set c {}, recon := some ⟨t0, 7 - 2 ^ c, true⟩, mode := 2, mask := 7 - 2 ^ c } ∧
      (u.depart c cause t0).link.sets = u.link.sets ++ [7 - 2 ^ c] := by
  have hview := modPort_cfView u c (fun _ => {})
  have hget : ∀ f : Fld, f.lo < 32 → f.addr ≠ 0 → (f.addr < 0x40300048 ∨ 0x40300050 < f.addr) → (u.modPort c fun _ => {}).get f = u.get f := fun f hlo h0 h =>
    modPort_get u c _ (Reg.CF_PSTAT.SLOTS_key c hlo h0 h)
  have hmode' := (hget Reg.CF_MODE.MODE (by decide) (by decide) (by decide)).trans hmode
  have hmask' := (hget Reg.CF_MODE.MASK (by decide) (by decide) (by decide)).trans hmask
  have hlink : (u.modPort c fun _ => {}).link = u.link := rfl
  unfold Chip.depart
  rw [if_neg (by rw [hv]; decide)]
  dsimp only
  generalize (u.modPort c fun _ => {}) = x at hview hmode' hmask' hlink ⊢
  rw [if_pos hmode', hmask']
  have hchange := modeChange_cfView x c cause (mode := 2) (mask := 7 - 2 ^ c) (by decide) (Nat.lt_succ_of_le (Nat.sub_le 7 _))
  have hclink : (x.modeChange 2 (7 - 2 ^ c) c cause).link = x.link := modeChange_within.same .link (by decide)
  generalize x.modeChange 2 (7 - 2 ^ c) c cause = y at hchange hclink ⊢
  rw [startRecon_cfView, startRecon_sets, hchange, hview, hclink, hlink]
  exact ⟨rfl, rfl⟩

theorem Chip.resyncLost_cfView (u : Chip) (c : Nat) : (u.resyncLost c).cfView = u.cfView := by
  have hrs : ∀ (x : Chip) (rs : Resync), ((({ x with conf := { x.conf with rs := rs } } : Chip).put (Reg.CF_PSTAT.PSTATE c) 0).put Reg.CF_RS.DIRTY 0).cfView = x.cfView := fun x rs => by
    rw [put_cfView _ _ (by decide), put_pstat_cfView _ _ c rfl (show 0 < 32 by decide)]
    rfl
  unfold Chip.resyncLost
  split
  · extract_lets rs
    split
    · exact hrs u rs
    · exact (put_cfView _ _ (by decide)).trans (hrs u rs)
  · rfl

theorem Chip.lossEntry_cfView {u : Chip} {c k : Nat} (hc : c < 3) : (u.lossEntry c k).cfView = u.cfView := by
  have hpg : chPage c + 0x10 < 0x40300044 := (show ∀ c < 3, chPage c + 0x10 < 0x40300044 by decide) c hc
  have hchan : ∀ (x : Chip) (g : Channel → Channel), (x.modChan c g).cfView = x.cfView := fun _ _ => rfl
  unfold Chip.lossEntry
  extract_lets u1 cyc u2
  rw [irqAfter_cfView _ _ _ _ _ hpg, hchan]
  refine (resyncLost_cfView ..).trans ?_
  exact cfView_within (((countLoss_within.trans (put_within (Reg.CH_LOSS.CAUSE_in))).trans (put_within (Reg.CH_LOSS.CYCLE_in))).trans twinsReset_within) (by rfl)

theorem Chip.chEnter_cfView {u : Chip} {c new : Nat} (hc : c < 3) : (u.chEnter c new).cfView = u.cfView := by
  have hpg : chPage c + 0x10 < 0x40300044 := (show ∀ c < 3, chPage c + 0x10 < 0x40300044 by decide) c hc
  unfold Chip.chEnter
  extract_lets old v w
  split
  · rfl
  · rw [irqAfter_cfView _ _ _ _ _ hpg]
    refine (put_cfView _ _ (by decide)).trans ?_
    exact cfView_within (put_within (Reg.CH_STATE.STATE_in)) (by rfl)

theorem Chip.bar_cfView {u : Chip} {c : Nat} (hc : c < 3) : (u.bar c).cfView = u.cfView :=
  (chEnter_cfView hc).trans (irqAfter_cfView _ _ _ _ _ ((show ∀ c < 3, chPage c + 0x10 < 0x40300044 by decide) c hc))

/-- The loss of a channel takes nothing from the votes; it is its departure that does. -/
theorem Chip.chLose_cfView {u : Chip} {c : Nat} (hc : c < 3) (k : Nat) : (u.chLose c k).cfView = u.cfView := by
  by_cases h : u.chRuns c
  · rw [chLose_of_runs k h, cfView_within channelLostFault_within (by rfl)]
    refine Eq.trans ?_ (lossEntry_cfView (k := k) hc)
    unfold Chip.lossEnd
    split_ifs
    · exact bar_cfView hc
    · exact (bar_cfView hc).trans (chEnter_cfView hc)
    · exact chEnter_cfView hc
  · rw [chLose_of_not_runs k h]

/-! ### The closing of a vote -/

/-- The ports with the first result of each of `l` taken. -/
def takeResults (p : Per3 CfPort) (l : List (Nat × Result)) : Per3 CfPort := l.foldl (fun p e => p.set e.1 { p.get e.1 with queue := (p.get e.1).queue.drop 1 }) p

theorem Chip.voteDone_cfView (u : Chip) (l : List (Nat × Result)) (minority : Nat) {outcome : Nat} (ho : outcome < 16) :
    (u.voteDone l minority outcome).cfView = { u.cfView with ports := takeResults u.conf.ports l, outcome := outcome } := by
  have hfold : ∀ x : Chip, (l.foldl (fun u e => (u.put (Reg.CF_PSTAT.LAST_SEQ e.1) (e.2.hdr / 256)).modPort e.1 (fun p => { p with queue := p.queue.drop 1 })) x).cfView =
      { x.cfView with ports := takeResults x.conf.ports l } := by
    unfold takeResults
    induction l with
    | nil => exact fun x => rfl
    | cons e l ih =>
      intro x
      have hstep := modPort_cfView (x.put (Reg.CF_PSTAT.LAST_SEQ e.1) (e.2.hdr / 256)) e.1 (fun p => { p with queue := p.queue.drop 1 })
      rw [put_pstat_cfView _ _ e.1 rfl (show 8 < 32 by decide)] at hstep
      rw [List.foldl_cons, List.foldl_cons, ih, hstep]
      rfl
  have houtcome : ∀ x : Chip, (x.put Reg.CF_LAST.OUTCOME outcome).cfView = { x.cfView with outcome := outcome } := fun x => by
    unfold Chip.cfView
    rw [get_put_ne _ _ _ _ (by decide), get_put_ne _ _ _ _ (by decide), get_put_same, get_put_ne _ _ _ _ (by decide),
      Nat.mod_eq_of_lt (show outcome < 2 ^ Reg.CF_LAST.OUTCOME.width from ho)]
    rfl
  have hcount : ∀ x : Chip, (if minority = 0 then x else x.satInc Reg.CF_CNT.MINOR).cfView = x.cfView ∧ (if minority = 0 then x else x.satInc Reg.CF_CNT.MINOR).conf = x.conf := fun x => by
    split
    · exact ⟨rfl, rfl⟩
    · exact ⟨put_cfView _ _ (by decide), rfl⟩
  unfold Chip.voteDone
  extract_lets u1 u2 u3 u4
  have h4 : u4.cfView = { u.cfView with outcome := outcome } ∧ u4.conf = u.conf := by
    obtain ⟨hview, hconf⟩ := hcount u3
    refine ⟨hview.trans ?_, hconf⟩
    unfold u3 u2 u1 Chip.wrapInc
    rw [put_cfView _ _ (by decide), put_cfView _ _ (by decide), put_cfView _ _ (by decide), houtcome, put_cfView _ _ (by decide)]
  rw [hfold, h4.1, h4.2]

theorem Chip.portParity_cfView (u : Chip) (l : List (Nat × Result)) : (u.portParity l).cfView = u.cfView :=
  foldl_cfView (fun t e => by
    split
    · rw [irqAfter_cfView _ _ _ _ _ (by decide), put_pstat_cfView _ _ e.1 rfl (show 4 < 32 by decide)]
    · rfl) l u

/-- The start of a vote by expiry: the window is closed, and the expiry counted and reported (R108, R111). -/
def Chip.voteExpired (u : Chip) : Chip :=
  (((u.modConf (fun v => { v with window := none })).portParity u.present).satInc Reg.CF_CNT.EXPIRED).irqAfter cfPage 22 1
    [maskOf (u.present.map (·.1)), (u.present.headD (0, {})).2.hdr / 256]

theorem Chip.voteExpired_cfView (u : Chip) (h : u.get Reg.CF_CNT.EXPIRED < 0xFFFF) : u.voteExpired.cfView = { u.cfView with expired := u.get Reg.CF_CNT.EXPIRED + 1 } := by
  have hwindow : (u.modConf (fun v => { v with window := none })).cfView = u.cfView := rfl
  have hstart : ((u.modConf (fun v => { v with window := none })).portParity u.present).cfView = u.cfView := (portParity_cfView ..).trans hwindow
  have hsat : ∀ x : Chip, x.cfView = u.cfView → (x.satInc Reg.CF_CNT.EXPIRED).cfView = { u.cfView with expired := u.get Reg.CF_CNT.EXPIRED + 1 } := fun x hx => by
    have hexp : x.get Reg.CF_CNT.EXPIRED = u.get Reg.CF_CNT.EXPIRED := congrArg CfView.expired hx
    rw [← hx]
    unfold Chip.satInc Chip.cfView
    rw [get_put_ne _ _ _ _ (by decide), get_put_ne _ _ _ _ (by decide), get_put_ne _ _ _ _ (by decide), get_put_same, hexp]
    have hmin : min (u.get Reg.CF_CNT.EXPIRED + 1) (2 ^ Reg.CF_CNT.EXPIRED.width - 1) % 2 ^ Reg.CF_CNT.EXPIRED.width = u.get Reg.CF_CNT.EXPIRED + 1 := by
      rw [show Reg.CF_CNT.EXPIRED.width = 16 from rfl]
      omega
    rw [hmin]
    rfl
  unfold Chip.voteExpired
  rw [irqAfter_cfView _ _ _ _ _ (by decide), hsat _ hstart]

/-- What the start of the vote leaves alone. -/
theorem Chip.voteExpired_within {u : Chip} : Within ⟨frLog ++ [.conf], some [0x403, 0x409]⟩ u u.voteExpired :=
  (((modConf_within (fun _ => by rfl)).trans portParity_within).trans (satInc_within (Fld.inBlocks_self (by rfl)))).trans (irqAfter_within (.self (by rfl))) |>.le (by decide)

/-- The vote on the results `l` that are present at closure (R114 to R117). -/
def Chip.voteOn (u : Chip) (l : List (Nat × Result)) (close seq : Nat) : Chip :=
  match l with
  | [(0, a), (1, b), (2, c)] =>
    let o := vote3 a b c
    if o.minority = 0 then (u.voteDone l 0 0).hold o.res close 0
    else
      let u := u.irqAfter cfPage 22 0 [o.minority, o.res.hdr / 256, o.item.1, o.item.2]
      if popCount o.minority 3 ≤ 1 ∧ o.majority = true then
        let u := u.voteDone l o.minority 1
        let u := (setBits o.minority 3).foldl (fun u c => u.voteOut c 7 close) u
        u.hold o.res close o.minority
      else (u.voteDone l o.minority 3).confSafe 0x3005
  | [(c1, a), (c2, b)] =>
    let same := !a.differs b && !b.differs a
    if u.votingCount = 3 then
      if same then
        let u := u.voteDone l 0 2
        let u := u.voteOut (3 - c1 - c2) 8 close
        u.hold a close 0
      else
        let u := u.irqAfter cfPage 22 0 [2 ^ c1 + 2 ^ c2, seq, (firstItem a b).1, (firstItem a b).2]
        (u.voteDone l (2 ^ c1 + 2 ^ c2) 3).confSafe 0x3005
    else if same then (u.voteDone l 0 0).hold a close 0
    else
      let u := u.irqAfter cfPage 22 0 [2 ^ c1 + 2 ^ c2, seq, (firstItem a b).1, (firstItem a b).2]
      (u.voteDone l (2 ^ c1 + 2 ^ c2) 3).confSafe (if a.bad.isSome ∨ b.bad.isSome then 0x3004 else 0x3002)
  | _ => (u.voteDone l 0 3).confSafe (if u.votingCount = 3 then 0x3005 else 0x3003)

theorem Chip.vote_expired (u : Chip) : u.vote true = u.voteExpired.voteOn u.present u.weir.time ((u.present.headD (0, {})).2.hdr / 256) := by
  unfold Chip.vote
  extract_lets +onlyGivenNames close l u1 u2 seq u3
  have h3 : u.voteExpired = u3 := by
    unfold Chip.voteExpired u3
    rw [if_pos rfl]
  have hl : u.present = l := rfl
  have hseq : (u.present.headD (0, {})).2.hdr / 256 = seq := rfl
  have hclose : u.weir.time = close := rfl
  rw [h3, hseq, hl, hclose]
  clear_value u3 seq u2 u1 l close
  unfold Chip.voteOn
  rfl

/-- Two results present (R117). -/
theorem Chip.voteOn_two {u : Chip} {c1 c2 : Nat} (hlt : c1 < c2) (h3 : c2 < 3) (a b : Result) (close seq : Nat) (hcount : u.votingCount = 3) :
    u.voteOn [(c1, a), (c2, b)] close seq =
    if !a.differs b && !b.differs a then ((u.voteDone [(c1, a), (c2, b)] 0 2).voteOut (3 - c1 - c2) 8 close).hold a close 0
    else ((u.irqAfter cfPage 22 0 [2 ^ c1 + 2 ^ c2, seq, (firstItem a b).1, (firstItem a b).2]).voteDone [(c1, a), (c2, b)] (2 ^ c1 + 2 ^ c2) 3).confSafe 0x3005 := by
  rcases (show (c1 = 0 ∧ c2 = 1) ∨ (c1 = 0 ∧ c2 = 2) ∨ (c1 = 1 ∧ c2 = 2) by omega) with ⟨rfl, rfl⟩ | ⟨rfl, rfl⟩ | ⟨rfl, rfl⟩ <;> exact if_pos hcount

/-- Fewer than two results present. -/
theorem Chip.voteOn_few {u : Chip} {l : List (Nat × Result)} (hl : l.length ≤ 1) (close seq : Nat) (hcount : u.votingCount = 3) :
    u.voteOn l close seq = (u.voteDone l 0 3).confSafe 0x3005 := by
  unfold Chip.voteOn
  split
  · exact absurd hl (by simp)
  · exact absurd hl (by simp)
  · rw [if_pos hcount]

/-! ### Confluence in SAFE -/

theorem Chip.confStop_expired (u : Chip) (fcode : Nat) : (u.confStop fcode).get Reg.CF_CNT.EXPIRED = u.get Reg.CF_CNT.EXPIRED ∧ (u.confStop fcode).get Reg.CF_MODE.MASK = 0 := by
  have hports : ∀ x : Chip, (foldUpTo 3 x fun u n => (u.put (Reg.CF_PSTAT.SLOTS n) 0).put (Reg.CF_PSTAT.PSTATE n) 0).cfView = x.cfView := fun x =>
    foldl_cfView (fun t n => by rw [put_pstat_cfView _ _ n rfl (show 0 < 32 by decide), put_pstat_cfView _ _ n rfl (show 2 < 32 by decide)]) (List.range 3) x
  have hend : ∀ (y : Chip) (f : Fld), f ∈ [Reg.CF_CNT.EXPIRED, Reg.CF_MODE.MASK] → (y.free.2.mirrorPublish (y.free.1 / 2 ^ 24) 0 0 0 y.free.1 0 []).get f = y.get f := fun y f hf => by
    obtain ⟨hlo, haddr, hstat, hb⟩ := (show ∀ g ∈ [Reg.CF_CNT.EXPIRED, Reg.CF_MODE.MASK], g.lo < 32 ∧ 0x40000000 ≤ g.addr ∧ g.addr % 0x1000 ≠ 0xC ∧ g.addr / 0x100000 = 0x403 by decide) f hf
    exact (free_within.trans mirrorPublish_within).regs f hlo haddr hstat (by rw [hb]; decide)
  have hconf : ∀ (x : Chip) (v : Conf) (f : Fld), f ∈ [Reg.CF_CNT.EXPIRED, Reg.CF_MODE.MASK] →
      (((({ x with conf := v } : Chip).put Reg.CF_MODE.RS_PHASE 0).put Reg.CF_RS.DIRTY 0).sluiceImage 0).get f = x.get f := fun x v f hf => by
    obtain ⟨hlo, haddr, hstat, hb, hk1, hk2⟩ := (show ∀ g ∈ [Reg.CF_CNT.EXPIRED, Reg.CF_MODE.MASK], g.lo < 32 ∧ 0x40000000 ≤ g.addr ∧ g.addr % 0x1000 ≠ 0xC ∧ g.addr / 0x100000 = 0x403 ∧
      Reg.CF_RS.DIRTY.key ≠ g.key ∧ Reg.CF_MODE.RS_PHASE.key ≠ g.key by decide) f hf
    refine (sluiceImage_within.regs f hlo haddr hstat (by rw [hb]; decide)).trans ?_
    rw [get_put_ne _ _ _ _ hk1, get_put_ne _ _ _ _ hk2]
    rfl
  have hchange := modeChange_cfView (u.irqAfter cfPage 22 4 [fcode]) 3 0 (mode := 0) (mask := 0) (by decide) (by decide)
  rw [irqAfter_cfView _ _ _ _ _ (by decide)] at hchange
  exact ⟨(hend _ _ (by simp)).trans ((congrArg CfView.expired (hports _)).trans ((hconf _ _ _ (by simp)).trans (congrArg CfView.expired hchange))),
    (hend _ _ (by simp)).trans ((congrArg CfView.mask (hports _)).trans ((hconf _ _ _ (by simp)).trans (congrArg CfView.mask hchange)))⟩

theorem Chip.confStop_conf (u : Chip) (fcode : Nat) : (u.confStop fcode).conf.releases = [] ∧ ∀ d, ((u.confStop fcode).port d).wait = [] := by
  have hports : ∀ x : Chip, (foldUpTo 3 x fun u n => (u.put (Reg.CF_PSTAT.SLOTS n) 0).put (Reg.CF_PSTAT.PSTATE n) 0).conf = x.conf := fun x =>
    foldl_keeps Chip.conf (fun _ _ => rfl) (List.range 3) x
  have hmirror : ∀ (x : Chip) (task minority mask mode seq img : Nat) (msgs : List Nat), (x.mirrorPublish task minority mask mode seq img msgs).conf.releases = x.conf.releases ∧
      ∀ d, (x.mirrorPublish task minority mask mode seq img msgs).port d = x.port d := fun _ _ _ _ _ _ _ _ => ⟨rfl, fun _ => rfl⟩
  unfold Chip.confStop
  dsimp only
  refine ⟨?_, fun d => ?_⟩
  · rw [(hmirror ..).1, free_conf, hports, sluiceImage_conf, put_conf, put_conf]
  · rw [(hmirror ..).2, Chip.port, free_conf, hports, sluiceImage_conf, put_conf, put_conf]
    unfold Per3.get
    split_ifs <;> rfl

/-- Confluence asks Weir for the safe state. -/
def Chip.requestsSafe (x : Chip) : Chip := { x with link := { x.link with safeReq := true } }

theorem Chip.requestsSafe_get (x : Chip) (f : Fld) : x.requestsSafe.get f = x.get f := rfl

theorem Chip.requestsSafe_conf (x : Chip) : x.requestsSafe.conf = x.conf := rfl

theorem Chip.requestsSafe_port (x : Chip) (d : Nat) : x.requestsSafe.port d = x.port d := rfl

theorem Chip.confSafe_eq (u : Chip) (fcode : Nat) : u.confSafe fcode = ((u.captureCause fcode).confStop fcode).requestsSafe := rfl

/-- What Confluence in SAFE shows (R110). -/
theorem Chip.confSafe_shows {u : Chip} {fcode : Nat} (hfirst : u.flt.firstAt = none) (hf : fcode < 2 ^ 16) : (u.confSafe fcode).get Reg.CF_MODE.MODE = 0 ∧
    (u.confSafe fcode).get Reg.CF_MODE.MASK = 0 ∧ (u.confSafe fcode).link.safeReq = true ∧ (u.confSafe fcode).get Reg.FLT_FIRST.FCODE = fcode ∧
    (u.confSafe fcode).conf.voted = 0 ∧ (u.confSafe fcode).conf.releases = [] ∧ (u.confSafe fcode).get Reg.CF_CNT.EXPIRED = u.get Reg.CF_CNT.EXPIRED ∧
    ∀ d, ((u.confSafe fcode).port d).wait = [] := by
  obtain ⟨hexpired, hmask⟩ := confStop_expired (u.captureCause fcode) fcode
  obtain ⟨hreleases, hwait⟩ := confStop_conf (u.captureCause fcode) fcode
  have hcapture : (u.captureCause fcode).cfView = u.cfView := cfView_within captureCause_within (by rfl)
  have hexp : (u.captureCause fcode).get Reg.CF_CNT.EXPIRED = u.get Reg.CF_CNT.EXPIRED := congrArg CfView.expired hcapture
  have hcode : ((u.captureCause fcode).confStop fcode).get Reg.FLT_FIRST.FCODE = fcode :=
    (confStop_within.regs _ (by decide) (by decide) (by decide) (by decide)).trans (captureCause_first hfirst hf)
  rw [confSafe_eq, requestsSafe_get, requestsSafe_get, requestsSafe_get, requestsSafe_get, requestsSafe_conf, hexpired, hmask, hcode, hexp, confStop_mode, confStop_voted, hreleases]
  exact ⟨rfl, rfl, rfl, rfl, rfl, rfl, rfl, fun d => (congrArg CfPort.wait (requestsSafe_port ..)).trans (hwait d)⟩

/-- With no channel voting nothing else is closed, and nothing goes on. -/
theorem Chip.confSafe_ends {u : Chip} {fcode : Nat} (hfirst : u.flt.firstAt = none) (hf : fcode < 2 ^ 16) (n m : Nat) :
    ((u.confSafe fcode).windows n).cfResume m = u.confSafe fcode := by
  obtain ⟨-, hmask, -, -, -, -, -, hwait⟩ := confSafe_shows hfirst hf
  have hpresent : (u.confSafe fcode).present = [] := by
    refine List.filterMap_eq_nil_iff.2 fun c _ => ?_
    have hv : (u.confSafe fcode).voting c = false := by
      unfold Chip.voting
      rw [hmask, Nat.zero_testBit]
    rw [hv, if_neg Bool.false_ne_true]
  have hwindows : (u.confSafe fcode).windows n = u.confSafe fcode := by
    cases n with
    | zero => rfl
    | succ n =>
      unfold Chip.windows
      rw [if_pos hpresent]
  rw [hwindows, cfResume_stands fun d _ => Or.inl (hwait d)]

/-! ### The commands -/

/-- A result held for its release. -/
theorem Chip.hold_shows (u : Chip) (r : Result) (close minority : Nat) : (u.hold r close minority).conf.releases.getLast?.map (fun r => r.res) = some r ∧
    (u.hold r close minority).conf.ports = u.conf.ports ∧ (∀ f, (u.hold r close minority).get f = u.get f) ∧ (u.hold r close minority).link.sets = u.link.sets := by
  have hlast : ∀ (l : List CfRelease) (x : CfRelease), (l ++ [x]).getLast?.map (fun r => r.res) = some x.res := fun l x => by
    rw [List.getLast?_append, List.getLast?_singleton, Option.some_or, Option.map_some]
  unfold Chip.hold
  split
  · exact ⟨hlast .., rfl, fun _ => rfl, rfl⟩
  · exact ⟨hlast .., rfl, fun _ => rfl, rfl⟩

/-- Two of three ports with one result each. -/
theorem Chip.present_two {u : Chip} {c1 c2 : Nat} {a b : Result} (hlt : c1 < c2) (h3 : c2 < 3) (hmask : u.get Reg.CF_MODE.MASK = 7)
    (hq1 : (u.port c1).queue = [a]) (hq2 : (u.port c2).queue = [b]) (hq3 : (u.port (3 - c1 - c2)).queue = []) : u.present = [(c1, a), (c2, b)] := by
  have hv : ∀ c, c < 3 → u.voting c = true := fun c hc => by
    unfold Chip.voting
    rw [hmask]
    exact (show ∀ c < 3, Nat.testBit 7 c = true by decide) c hc
  have hrange : List.range 3 = [0, 1, 2] := rfl
  unfold Chip.present
  rw [hrange]
  rcases (show (c1 = 0 ∧ c2 = 1) ∨ (c1 = 0 ∧ c2 = 2) ∨ (c1 = 1 ∧ c2 = 2) by omega) with ⟨rfl, rfl⟩ | ⟨rfl, rfl⟩ | ⟨rfl, rfl⟩ <;>
    simp [hv, hq1, hq2, hq3]

/-- The ports after two results have been taken and the third channel has left. -/
theorem ports_after {p : Per3 CfPort} {c1 c2 : Nat} {a b : Result} (hlt : c1 < c2) (h3 : c2 < 3) (hq1 : (p.get c1).queue = [a]) (hq2 : (p.get c2).queue = [b])
    (hw1 : (p.get c1).wait = []) (hw2 : (p.get c2).wait = []) (d : Nat) (hd : d < 3) :
    (((takeResults p [(c1, a), (c2, b)]).set (3 - c1 - c2) {}).get d).queue = [] ∧ (((takeResults p [(c1, a), (c2, b)]).set (3 - c1 - c2) {}).get d).wait = [] := by
  have hthird : 3 - c1 - c2 < 3 ∧ 3 - c1 - c2 ≠ c1 ∧ 3 - c1 - c2 ≠ c2 := by omega
  unfold takeResults
  rw [List.foldl_cons, List.foldl_cons, List.foldl_nil]
  by_cases hd3 : 3 - c1 - c2 = d
  · rw [← hd3, Per3.get_set_same hthird.1]
    exact ⟨rfl, rfl⟩
  · rw [Per3.get_set_ne hd hd3]
    by_cases hd2 : c2 = d
    · rw [← hd2, Per3.get_set_same h3, Per3.get_set_ne h3 (Nat.ne_of_lt hlt)]
      exact ⟨by rw [hq2]; rfl, hw2⟩
    · have hd1 : c1 = d := by omega
      rw [Per3.get_set_ne hd hd2, ← hd1, Per3.get_set_same (by omega)]
      exact ⟨by rw [hq1]; rfl, hw1⟩

/-- Nothing is left to vote on, and nothing waits. -/
theorem Chip.vote_ends {u : Chip} (h : ∀ d, d < 3 → (u.port d).queue = [] ∧ (u.port d).wait = []) (n m : Nat) : (u.windows n).cfResume m = u := by
  have hpresent : u.present = [] := by
    refine List.filterMap_eq_nil_iff.2 fun c hc => ?_
    rw [(h c (List.mem_range.1 hc)).1]
    exact ite_self none
  have hwindows : u.windows n = u := by
    cases n with
    | zero => rfl
    | succ n =>
      unfold Chip.windows
      rw [if_pos hpresent]
  rw [hwindows, cfResume_stands fun d hd => Or.inl (h d hd).2]

/-- What the command has before it when the vote begins. -/
theorem exec_voteExpiry {s : State} {t0 : Nat} (hwin : s.chip.conf.window = some t0) : ∃ u : Chip, exec .voteExpiry s = s.become (((u.vote true).windows 3).cfResume 8) ∧
    u.cfView = s.chip.cfView ∧ u.link = s.chip.link ∧ u.flt = s.chip.flt ∧ u.chans = s.chip.chans ∧ u.regs = s.chip.regs := by
  have hend : s.chip.windowEnd = some (t0 + us (s.chip.get Reg.CF_CFG.VOTE_WIN)) := by
    unfold Chip.windowEnd
    rw [hwin]
    rfl
  obtain ⟨t, ht⟩ : ∃ t, t0 + us (s.chip.get Reg.CF_CFG.VOTE_WIN) = t := ⟨_, rfl⟩
  rw [ht] at hend
  have hrun : exec .voteExpiry s = s.become ((((s.chip.untilWeir t).vote true).windows 3).cfResume 8) := by
    change execVoteExpiry s = _
    unfold execVoteExpiry
    dsimp only
    rw [hend]
    rfl
  refine ⟨s.chip.untilWeir t, hrun, ?_⟩
  unfold Chip.untilWeir
  dsimp only
  split
  · exact ⟨rfl, rfl, rfl, rfl, rfl⟩
  · exact ⟨rfl, rfl, rfl, rfl, rfl⟩

variable (s : State)

theorem Chip.votingCount_of_mask {u : Chip} (h : u.get Reg.CF_MODE.MASK = 7) : u.votingCount = 3 := by
  unfold Chip.votingCount
  rw [h]
  decide

/-- Two equal results: the vote succeeds and the absent channel leaves (R117, R118). -/
theorem Chip.expiry_succeeds {x : Chip} {c1 c2 : Nat} (a b : Result) (close : Nat) (hlt : c1 < c2) (h3 : c2 < 3) (hmode : x.get Reg.CF_MODE.MODE = 3)
    (hmask : x.get Reg.CF_MODE.MASK = 7) (hq1 : (x.port c1).queue = [a]) (hq2 : (x.port c2).queue = [b]) (hw1 : (x.port c1).wait = []) (hw2 : (x.port c2).wait = [])
    (hactive : x.chState (3 - c1 - c2) = 3) {t : Chip} (ht : (((x.voteDone [(c1, a), (c2, b)] 0 2).voteOut (3 - c1 - c2) 8 close).hold a close 0) = t) :
    t.get Reg.CF_CNT.EXPIRED = x.get Reg.CF_CNT.EXPIRED ∧ t.get Reg.CF_MODE.MODE = 2 ∧ t.get Reg.CF_MODE.MASK = 7 - 2 ^ (3 - c1 - c2) ∧ t.get Reg.CF_LAST.OUTCOME = 2 ∧
    t.get (Reg.CH_LOSS.CAUSE (3 - c1 - c2)) = 8 ∧ t.link.sets = x.link.sets ++ [7 - 2 ^ (3 - c1 - c2)] ∧ t.conf.releases.getLast?.map (fun r => r.res) = some a ∧
    ∀ d, d < 3 → (t.port d).queue = [] ∧ (t.port d).wait = [] := by
  have hthird : 3 - c1 - c2 < 3 := by omega
  have hports := ports_after (p := x.conf.ports) hlt h3 hq1 hq2 hw1 hw2
  generalize 3 - c1 - c2 = c at *
  have hdone := voteDone_cfView x [(c1, a), (c2, b)] 0 (outcome := 2) (by decide)
  have hdlink : (x.voteDone [(c1, a), (c2, b)] 0 2).link = x.link := voteDone_within.same .link (by decide)
  have hdstate : (x.voteDone [(c1, a), (c2, b)] 0 2).chState c = 3 :=
    ((show ∀ c < 3, ∀ t : Chip, Within ⟨frLog ++ [.conf], some [0x403, 0x409]⟩ x t → t.chState c = x.chState c from fun c hc t h =>
      (ChRegs.of_within (l := []) hc h (by rfl)) _ (Reg.CH_STATE.STATE_ofChan hc) (by simp)) c hthird _ (voteDone_within.le (by decide))).trans hactive
  generalize x.voteDone [(c1, a), (c2, b)] 0 2 = y at *
  have hymode : y.get Reg.CF_MODE.MODE = 3 := (congrArg CfView.mode hdone).trans hmode
  have hymask : y.get Reg.CF_MODE.MASK = 7 := (congrArg CfView.mask hdone).trans hmask
  have hyports : y.conf.ports = takeResults x.conf.ports [(c1, a), (c2, b)] := congrArg CfView.ports hdone
  have hvoting : y.voting c = true := by
    unfold Chip.voting
    rw [hymask]
    exact (show ∀ c < 3, Nat.testBit 7 c = true by decide) c hthird
  obtain ⟨hdepart, hsets⟩ := depart_first 8 close hvoting hymode hymask
  have hzstate : (y.depart c 8 close).chState c = 3 :=
    ((ChRegs.of_within (l := []) hthird (depart_within (u := y) (c := c) (cause := 8) (t0 := close)) (by rfl)) _ (Reg.CH_STATE.STATE_ofChan hthird) (by simp)).trans hdstate
  have hout : y.voteOut c 8 close = (y.depart c 8 close).chLose c 8 := rfl
  rw [hout] at ht
  generalize y.depart c 8 close = z at *
  have hlost : Lost c 8 z (z.chLose c 8) := chLose_lost hthird (Or.inr (Or.inr hzstate))
  have hlose := chLose_cfView (u := z) hthird 8
  have hllink : (z.chLose c 8).link = z.link := chLose_within.same .link (by decide)
  have hcause := hlost.cause
  clear hlost
  generalize z.chLose c 8 = w at *
  obtain ⟨hlast, hhports, hget, hhsets⟩ := hold_shows w a close 0
  have hview := hlose.trans hdepart
  rw [ht] at hlast hhports hget hhsets
  refine ⟨?_, ?_, ?_, ?_, (hget _).trans hcause, ?_, hlast, fun d hd => ?_⟩
  · rw [hget]
    exact (congrArg CfView.expired hview).trans (congrArg CfView.expired hdone)
  · rw [hget]
    exact congrArg CfView.mode hview
  · rw [hget]
    exact congrArg CfView.mask hview
  · rw [hget]
    exact (congrArg CfView.outcome hview).trans (congrArg CfView.outcome hdone)
  · rw [hhsets, hllink, hsets, hdlink]
  · have hwports : w.conf.ports = (takeResults x.conf.ports [(c1, a), (c2, b)]).set c {} := by
      rw [← hyports]
      exact congrArg CfView.ports hview
    unfold Chip.port
    rw [hhports, hwports]
    exact hports d hd

/-- Two results that differ: Confluence enters SAFE and asks Weir for the safe state (R117). -/
theorem Chip.expiry_fails {x : Chip} (l : List (Nat × Result)) (data : List Nat) (minority : Nat) (hfirst : x.flt.firstAt = none) {y : Chip}
    (hy : (x.irqAfter cfPage 22 0 data).voteDone l minority 3 = y) : y.flt.firstAt = none ∧ y.get Reg.CF_CNT.EXPIRED = x.get Reg.CF_CNT.EXPIRED := by
  have hdone := voteDone_cfView (x.irqAfter cfPage 22 0 data) l minority (outcome := 3) (by decide)
  rw [hy, irqAfter_cfView _ _ _ _ _ (by decide)] at hdone
  refine ⟨?_, congrArg CfView.expired hdone⟩
  rw [← hy, (voteDone_within (l := l)).same .flt (by decide), (irqAfter_within (.self (by rfl))).same .flt (by decide), hfirst]

/-- The outcome of a vote by expiry with two results, from its start on. -/
theorem Chip.expiry_two {x : Chip} {c1 c2 : Nat} (a b : Result) (close seq : Nat) (hlt : c1 < c2) (h3 : c2 < 3) (hmode : x.get Reg.CF_MODE.MODE = 3)
    (hmask : x.get Reg.CF_MODE.MASK = 7) (hq1 : (x.port c1).queue = [a]) (hq2 : (x.port c2).queue = [b]) (hw1 : (x.port c1).wait = []) (hw2 : (x.port c2).wait = [])
    (hactive : x.chState (3 - c1 - c2) = 3) (hfirst : x.flt.firstAt = none) {t : Chip} (ht : ((x.voteOn [(c1, a), (c2, b)] close seq).windows 3).cfResume 8 = t) :
    t.get Reg.CF_CNT.EXPIRED = x.get Reg.CF_CNT.EXPIRED ∧
      if a.differs b = false ∧ b.differs a = false then
        t.get Reg.CF_MODE.MODE = 2 ∧ t.get Reg.CF_MODE.MASK = 7 - 2 ^ (3 - c1 - c2) ∧ t.get Reg.CF_LAST.OUTCOME = 2 ∧
        t.get (Reg.CH_LOSS.CAUSE (3 - c1 - c2)) = 8 ∧ t.link.sets = x.link.sets ++ [7 - 2 ^ (3 - c1 - c2)] ∧
        t.conf.releases.getLast?.map (fun r => r.res) = some a
      else t.get Reg.CF_MODE.MODE = 0 ∧ t.get Reg.CF_MODE.MASK = 0 ∧ t.link.safeReq = true ∧ t.get Reg.FLT_FIRST.FCODE = 0x3005 ∧ t.conf.voted = 0 := by
  rw [voteOn_two hlt h3 a b close seq (votingCount_of_mask hmask)] at ht
  by_cases hsame : a.differs b = false ∧ b.differs a = false
  · have hcond : (!a.differs b && !b.differs a) = true := by rw [hsame.1, hsame.2]; rfl
    rw [if_pos hcond] at ht
    obtain ⟨v, hv⟩ : ∃ v, ((x.voteDone [(c1, a), (c2, b)] 0 2).voteOut (3 - c1 - c2) 8 close).hold a close 0 = v := ⟨_, rfl⟩
    obtain ⟨hexp, hmode2, hmask2, hout, hcause, hsets, hlast, hports⟩ := expiry_succeeds a b close hlt h3 hmode hmask hq1 hq2 hw1 hw2 hactive hv
    rw [hv, vote_ends hports] at ht
    subst ht
    rw [if_pos hsame]
    exact ⟨hexp, hmode2, hmask2, hout, hcause, hsets, hlast⟩
  · have hcond : ¬ (!a.differs b && !b.differs a) = true := fun h => hsame (by simpa using h)
    rw [if_neg hcond] at ht
    obtain ⟨y, hy⟩ : ∃ y, (x.irqAfter cfPage 22 0 [2 ^ c1 + 2 ^ c2, seq, (firstItem a b).1, (firstItem a b).2]).voteDone [(c1, a), (c2, b)] (2 ^ c1 + 2 ^ c2) 3 = y := ⟨_, rfl⟩
    obtain ⟨hyflt, hyexp⟩ := expiry_fails _ _ _ hfirst hy
    obtain ⟨hmode0, hmask0, hreq, hcode, hvoted, -, hexpired, -⟩ := confSafe_shows hyflt (show 0x3005 < 2 ^ 16 by decide)
    rw [hy, confSafe_ends hyflt (by decide)] at ht
    subst ht
    rw [if_neg hsame]
    exact ⟨hexpired.trans hyexp, hmode0, hmask0, hreq, hcode, hvoted⟩

theorem Chip.port_of_cfView {u t : Chip} (h : t.cfView.ports = u.cfView.ports) (d : Nat) : t.port d = u.port d := congrArg (fun p => Per3.get p d) h

theorem completes_voteExpiry_two (c1 c2 t0 : Nat) (a b : Result) (hlt : c1 < c2) (h3 : c2 < 3) (hwin : s.chip.conf.window = some t0)
    (hmode : s.chip.get Reg.CF_MODE.MODE = 3) (hmask : s.chip.get Reg.CF_MODE.MASK = 7) (hq1 : (s.chip.port c1).queue = [a]) (hq2 : (s.chip.port c2).queue = [b])
    (hq3 : (s.chip.port (3 - c1 - c2)).queue = []) (hw1 : (s.chip.port c1).wait = []) (hw2 : (s.chip.port c2).wait = [])
    (hactive : s.chip.chState (3 - c1 - c2) = 3) (hfirst : s.chip.flt.firstAt = none) (hexp : s.chip.get Reg.CF_CNT.EXPIRED < 0xFFFF) :
    Completes .voteExpiry s (fun t => t.get Reg.CF_CNT.EXPIRED = s.chip.get Reg.CF_CNT.EXPIRED + 1 ∧
      if a.differs b = false ∧ b.differs a = false then
        t.get Reg.CF_MODE.MODE = 2 ∧ t.get Reg.CF_MODE.MASK = 7 - 2 ^ (3 - c1 - c2) ∧ t.get Reg.CF_LAST.OUTCOME = 2 ∧
        t.get (Reg.CH_LOSS.CAUSE (3 - c1 - c2)) = 8 ∧ t.link.sets = s.chip.link.sets ++ [7 - 2 ^ (3 - c1 - c2)] ∧
        t.conf.releases.getLast?.map (fun r => r.res) = some a
      else t.get Reg.CF_MODE.MODE = 0 ∧ t.get Reg.CF_MODE.MASK = 0 ∧ t.link.safeReq = true ∧ t.get Reg.FLT_FIRST.FCODE = 0x3005 ∧ t.conf.voted = 0) := by
  obtain ⟨u, hrun, hview, hlink, hflt, -, hregs⟩ := exec_voteExpiry hwin
  have hports : ∀ d, u.port d = s.chip.port d := port_of_cfView (congrArg CfView.ports hview)
  have hget : ∀ f, u.get f = s.chip.get f := fun f => congrArg f.read hregs
  have hpresent : u.present = [(c1, a), (c2, b)] :=
    present_two hlt h3 ((hget _).trans hmask) (by rw [hports, hq1]) (by rw [hports, hq2]) (by rw [hports, hq3])
  have hx := voteExpired_cfView u (by rwa [hget])
  have hxlink : u.voteExpired.link = u.link := voteExpired_within.same .link (by decide)
  have hxflt : u.voteExpired.flt = u.flt := voteExpired_within.same .flt (by decide)
  have hthird : 3 - c1 - c2 < 3 := by omega
  have hxstate : u.voteExpired.chState (3 - c1 - c2) = 3 :=
    ((ChRegs.of_within (l := []) hthird voteExpired_within (by rfl)) _ (Reg.CH_STATE.STATE_ofChan hthird) (by simp)).trans ((hget _).trans hactive)
  have hxports : ∀ d, u.voteExpired.port d = s.chip.port d := fun d => (port_of_cfView (by rw [hx]) d).trans (hports d)
  have hxmode : u.voteExpired.cfView.mode = 3 := by rw [hx]; exact (hget _).trans hmode
  have hxmask : u.voteExpired.cfView.mask = 7 := by rw [hx]; exact (hget _).trans hmask
  have hxexp : u.voteExpired.cfView.expired = s.chip.get Reg.CF_CNT.EXPIRED + 1 := by rw [hx, hget]
  have htwo := expiry_two a b u.weir.time (([(c1, a), (c2, b)].headD (0, {})).2.hdr / 256) hlt h3 hxmode hxmask (by rw [hxports, hq1]) (by rw [hxports, hq2])
    (by rw [hxports, hw1]) (by rw [hxports, hw2]) hxstate (by rw [hxflt, hflt, hfirst]) rfl
  refine ⟨_, hrun, ?_⟩
  rw [vote_expired, hpresent]
  rw [show u.voteExpired.get Reg.CF_CNT.EXPIRED = s.chip.get Reg.CF_CNT.EXPIRED + 1 from hxexp, hxlink, hlink] at htwo
  exact htwo

theorem completes_voteExpiry_few (t0 : Nat) (hwin : s.chip.conf.window = some t0) (_hmode : s.chip.get Reg.CF_MODE.MODE = 3)
    (hmask : s.chip.get Reg.CF_MODE.MASK = 7) (hfew : s.chip.present.length ≤ 1) (hfirst : s.chip.flt.firstAt = none) :
    Completes .voteExpiry s (fun t => t.get Reg.CF_MODE.MODE = 0 ∧ t.link.safeReq = true ∧ t.get Reg.FLT_FIRST.FCODE = 0x3005 ∧ t.conf.releases = []) := by
  obtain ⟨u, hrun, hview, hlink, hflt, hchans, hregs⟩ := exec_voteExpiry hwin
  refine ⟨_, hrun, ?_⟩
  have hpresent : u.present = s.chip.present := by
    have hports : u.conf.ports = s.chip.conf.ports := congrArg CfView.ports hview
    have hm : u.get Reg.CF_MODE.MASK = s.chip.get Reg.CF_MODE.MASK := congrArg CfView.mask hview
    unfold Chip.present Chip.voting Chip.port
    rw [hports, hm]
  have hxmask : u.voteExpired.get Reg.CF_MODE.MASK = 7 := by
    have hstart : u.voteExpired.get Reg.CF_MODE.MASK = u.get Reg.CF_MODE.MASK := by
      have hsat : ∀ x : Chip, (x.satInc Reg.CF_CNT.EXPIRED).get Reg.CF_MODE.MASK = x.get Reg.CF_MODE.MASK := fun x => get_put_ne _ _ _ _ (by decide)
      unfold Chip.voteExpired
      refine (congrArg CfView.mask (irqAfter_cfView _ _ _ _ _ (by decide))).trans ((hsat _).trans ?_)
      exact (congrArg CfView.mask (portParity_cfView ..)).trans rfl
    exact hstart.trans ((congrArg CfView.mask hview).trans hmask)
  have hxflt : u.voteExpired.flt = u.flt := voteExpired_within.same .flt (by decide)
  rw [vote_expired, hpresent, voteOn_few hfew _ _ (votingCount_of_mask hxmask)]
  have hyflt : (u.voteExpired.voteDone s.chip.present 0 3).flt.firstAt = none := by
    rw [voteDone_within.same .flt (by decide), hxflt, hflt, hfirst]
  rw [confSafe_ends hyflt (by decide)]
  obtain ⟨hmode0, -, hreq, hcode, -, hreleases, -, -⟩ := confSafe_shows hyflt (show 0x3005 < 2 ^ 16 by decide)
  exact ⟨hmode0, hreq, hcode, hreleases⟩

/-- Settles O18: an expired window with two equal results takes the absent channel out; otherwise Confluence asks for the safe state. -/
theorem voteByExpiry : Obligations.VoteByExpiry := by
  unfold Obligations.VoteByExpiry
  refine ⟨?two, ?few⟩
  case two => exact fun c1 c2 t0 a b s => completes_voteExpiry_two s c1 c2 t0 a b
  case few => exact fun t0 s => completes_voteExpiry_few s t0

end Sys2Proof.Machine
end

section
/-!
PROOFS. The library blocks that a task's dispatch calls (07 R249 to R252, Tables 7.6, 7.9, 7.13; 08 R276).
-/
namespace Sys2Proof.Machine

/-! ### PT and edges -/

theorem ptTicks_of_le {pt : Nat} (h : pt ≤ (2 ^ 31 - 1) * 100000) : ptTicks pt = pt := by
  have hmax : (ptMax : Int) = 214748364700000 := by decide
  unfold ptTicks
  rw [hmax, if_neg (by omega), if_neg (by omega)]
  rfl

theorem rises_eq (m : Option Bool) (x : Bool) : rises m x = (x && m == some false) := by
  rcases m with _ | _ | _ <;> cases x <;> rfl

theorem falls_eq (m : Option Bool) (x : Bool) : falls m x = (!x && m == some true) := by
  rcases m with _ | _ | _ <;> cases x <;> rfl

/-- A timer that neither restarts nor has been carried across a swap keeps its deadline (R249). -/
theorem retime_running {b : Blk} (hf : b.fresh = false) (hc : b.carried = false) (now p : Nat) : retime now b p = { b with ptSt := p } := by
  unfold retime
  rw [if_neg (by rw [hf]; exact Bool.false_ne_true), if_neg (fun h => by rw [hc] at h; exact Bool.false_ne_true h.1), ← hc]

/-! ### Timers (R249) -/

theorem blkTon_false {b : Blk} {now pt : Nat} (hle : pt ≤ (2 ^ 31 - 1) * 100000) (hf : b.fresh = false) (hc : b.carried = false) :
    (blkTon now b false pt).st = 0 ∧ (blkTon now b false pt).q = false ∧ (blkTon now b false pt).et = 0 := by
  unfold blkTon
  dsimp only
  rw [ptTicks_of_le hle, retime_running hf hc]
  exact ⟨rfl, rfl, rfl⟩

theorem blkTon_true {b : Blk} {now pt : Nat} (h0 : 0 < pt) (hle : pt ≤ (2 ^ 31 - 1) * 100000) (hf : b.fresh = false) (hc : b.carried = false) :
    (b.st = 0 → (blkTon now b true pt).st = 1 ∧ (blkTon now b true pt).q = false ∧ (blkTon now b true pt).deadline = now + pt ∧ (blkTon now b true pt).et = 0) ∧
    (b.st = 1 → (now : Int) < b.deadline → (blkTon now b true pt).st = 1 ∧ (blkTon now b true pt).q = false ∧ (blkTon now b true pt).deadline = b.deadline ∧
      (blkTon now b true pt).et = now - (b.deadline - pt)) ∧
    (b.st = 1 → b.deadline ≤ now → (blkTon now b true pt).st = 2 ∧ (blkTon now b true pt).q = true ∧ (blkTon now b true pt).et = pt) ∧
    (b.st = 2 → (blkTon now b true pt).st = 2 ∧ (blkTon now b true pt).q = true) := by
  have hrunning : ¬ (now : Int) + pt ≤ now := by omega
  unfold blkTon
  dsimp only
  rw [ptTicks_of_le hle, retime_running hf hc]
  refine ⟨fun h => ?_, fun h hd => ?_, fun h hd => ?_, fun h => ?_⟩
  · simp [h, hrunning]
  · simp [h, Int.not_le.2 hd]
  · simp [h, hd]
  · simp [h]

theorem blkTof_true {b : Blk} {now pt : Nat} (hle : pt ≤ (2 ^ 31 - 1) * 100000) (hf : b.fresh = false) (hc : b.carried = false) :
    (blkTof now b true pt).q = true ∧ (blkTof now b true pt).st = 2 := by
  unfold blkTof
  dsimp only
  rw [ptTicks_of_le hle, retime_running hf hc]
  simp

theorem blkTof_false {b : Blk} {now pt : Nat} (h0 : 0 < pt) (hle : pt ≤ (2 ^ 31 - 1) * 100000) (hf : b.fresh = false) (hc : b.carried = false) :
    (b.st = 2 → (blkTof now b false pt).st = 1 ∧ (blkTof now b false pt).q = true ∧ (blkTof now b false pt).deadline = now + pt) ∧
    (b.st = 1 → ((blkTof now b false pt).q = true ↔ (now : Int) < b.deadline)) ∧ (b.st = 0 → (blkTof now b false pt).q = false) := by
  have hrunning : ¬ (now : Int) + pt ≤ now := by omega
  unfold blkTof
  dsimp only
  rw [ptTicks_of_le hle, retime_running hf hc]
  refine ⟨fun h => ?_, fun h => ?_, fun h => ?_⟩
  · simp [h, hrunning]
  · by_cases hd : b.deadline ≤ now
    · simp [h, hd]
    · simp [h, hd, Int.not_le.1 hd]
  · simp [h]

theorem blkTp_call {b : Blk} {now pt : Nat} (h0 : 0 < pt) (hle : pt ≤ (2 ^ 31 - 1) * 100000) (hf : b.fresh = false) (hc : b.carried = false) :
    (b.st = 0 → b.m1 = some false → (blkTp now b true pt).q = true ∧ (blkTp now b true pt).deadline = now + pt) ∧
    (b.st = 0 → b.m1 = some true → (blkTp now b true pt).q = false) ∧
    (∀ i, b.st = 1 → ((blkTp now b i pt).q = true ↔ (now : Int) < b.deadline)) ∧ ∀ i, (blkTp now b i pt).m1 = some i := by
  have hrunning : ¬ (now : Int) + pt ≤ now := by omega
  unfold blkTp
  dsimp only
  rw [ptTicks_of_le hle, retime_running hf hc]
  refine ⟨fun h hm => ?_, fun h hm => ?_, fun i h => ?_, fun i => rfl⟩
  · simp [h, hm, hrunning]
  · simp [h, hm]
  · by_cases hd : b.deadline ≤ now
    · simp [h, hd]
    · simp [h, hd, Int.not_le.1 hd]

/-- A carried timer takes a new PT into its deadline at its first call after a swap, and keeps the time elapsed (08 R276). -/
theorem blkTon_carried {b : Blk} {now pt : Nat} (hle : pt ≤ (2 ^ 31 - 1) * 100000) (hf : b.fresh = false) (hc : b.carried = true) (hst : b.st = 1) (hne : b.ptSt ≠ pt)
    (hd : (now : Int) < b.deadline - b.ptSt + pt) : (blkTon now b true pt).deadline = b.deadline - b.ptSt + pt ∧ (blkTon now b true pt).ptSt = pt ∧
      (blkTon now b true pt).et = now - (b.deadline - b.ptSt) ∧ (blkTon now b true pt).carried = false := by
  unfold blkTon retime
  rw [ptTicks_of_le hle]
  simp [hf, hc, hst, Ne.symm hne, Int.not_le.2 hd]

/-! ### Commands of the blocks without a timer -/

theorem requestWord_eq {n : Nat} (hn : n < 2048) : requestWord 1 n = 2 ^ 31 + 2 ^ 29 + n ∧ requestWord 2 n = 2 ^ 31 + 2 ^ 30 + n := by
  unfold requestWord
  omega

/-- A source whose VALID bit is 0 gives every block its restrictive value (R637). -/
theorem src_invalid {x : SnapBuf} {conn : Nat} (h : (x.payload conn).2 = false) (i : Nat) : (x.src (.zst conn i)).2 = false ∧ x.detected (.zst conn i) = 0 := by
  refine ⟨h, ?_⟩
  unfold SnapBuf.detected
  dsimp only
  rw [h]
  rfl

/-- A pair of inputs shows a position while exactly one of them stands, both with their status (Table 7.13). -/
theorem detected_pair (x : SnapBuf) (i j : Nat) : x.detected (.pair i j) =
    if (x.sinStat.testBit i && x.sinStat.testBit j) && x.sinVal.testBit i && !x.sinVal.testBit j then 1
    else if (x.sinStat.testBit i && x.sinStat.testBit j) && x.sinVal.testBit j && !x.sinVal.testBit i then 2 else 0 := by
  unfold SnapBuf.detected SnapBuf.src
  dsimp only
  cases x.sinStat.testBit i && x.sinStat.testBit j <;> simp

theorem ptEvents_range (b : Blk) {pt : Int} (h : pt < 0 ∨ (2 ^ 31 - 1) * 100000 < pt) :
    ptEvents b pt = (if b.badPt then [] else [(0x11, [b.key, pattern 64 pt])]) ∧ ptBad pt = true ∧ ptTicks pt = (if pt < 0 then 0 else (2 ^ 31 - 1) * 100000) := by
  have hmax : (ptMax : Int) = (2 ^ 31 - 1) * 100000 := by decide
  have hbad : ptBad pt = true := decide_eq_true (by rwa [hmax])
  refine ⟨?_, hbad, ?_⟩
  · unfold ptEvents
    rw [hbad]
    cases b.badPt <;> rfl
  · unfold ptTicks
    rw [hmax]
    rcases h with h | h
    · rw [if_pos h, if_pos h]
    · rw [if_neg (by omega), if_pos h, if_neg (by omega)]
      rfl

theorem blkCtu_cv (b : Blk) (x : Bool) (pv : Int) : (blkCtu b x false pv).cv = (if x = true ∧ b.m1 = some false ∧ b.cv < 32767 then b.cv + 1 else b.cv) := by
  unfold blkCtu
  rw [rises_eq]
  simp only [Bool.false_eq_true, if_false, Bool.and_eq_true, beq_iff_eq, and_assoc]

theorem blkCtd_cv (b : Blk) (x : Bool) (pv : Int) : (blkCtd b x false pv).cv = (if x = true ∧ b.m1 = some false ∧ -32768 < b.cv then b.cv - 1 else b.cv) := by
  unfold blkCtd
  rw [rises_eq]
  simp only [Bool.false_eq_true, if_false, Bool.and_eq_true, beq_iff_eq, and_assoc]

/-- SIGNAL rises at an edge of CLEAR_CMD under permission and falls with either (Table 7.13). -/
theorem signal_q (now : Nat) (x : SnapBuf) (dr : Nat → Bool) (b : Blk) (clear perm : Bool) (o : SignalOut) :
    (blkCall now x dr b (.signal clear perm o)).blk.q = (clear && perm && (b.q || b.m1 == some false)) ∧ (blkCall now x dr b (.signal clear perm o)).blk.m1 = some clear := by
  unfold blkCall
  dsimp only
  rw [rises_eq]
  cases o <;> cases clear <;> cases perm <;> exact ⟨rfl, rfl⟩

/-- ROUTE at a call that neither restarts nor follows a swap (Table 7.13). -/
theorem blkRoute_call {b : Blk} {n : Nat} (p : PermReturn) (set rel : Bool) (hn : n < 2048) (hf : b.fresh = false) (hc : b.carried = false) (h1 : b.m1 = some false)
    (h2 : b.m2 = some false) : (blkRoute p b n set rel).reqs = (if set then [2 ^ 31 + 2 ^ 29 + n] else []) ++ (if rel then [2 ^ 31 + 2 ^ 30 + n] else []) := by
  obtain ⟨hset, hrel⟩ := requestWord_eq hn
  unfold blkRoute
  rw [hset, hrel, h1, h2, hf, hc]
  cases set <;> cases rel <;> rfl

/-- Settles O32: each block of the library computes what its pseudocode and Table 7.13 give it. -/
theorem libraryBlocks : Obligations.LibraryBlocks := by
  unfold Obligations.LibraryBlocks
  refine ⟨?timers, ?range, ?edges, ?counters, ?flags, ?point, ?invalid, ?inputs, ?route, ?carried⟩
  case timers =>
    intro now sb dr b pt h0 hle hf hc
    obtain ⟨htof, hst⟩ := blkTof_true (now := now) hle hf hc
    obtain ⟨hoffst, hoffq, hoffet⟩ := blkTon_false (now := now) hle hf hc
    exact ⟨⟨hoffst, hoffq, hoffet, blkTon_true h0 hle hf hc⟩, ⟨htof, hst, blkTof_false h0 hle hf hc⟩, blkTp_call h0 hle hf hc⟩
  case range =>
    intro now sb dr b pt h
    obtain ⟨hevents, hbad, hticks⟩ := ptEvents_range b h
    exact ⟨hevents, hbad, hticks⟩
  case edges => exact fun now sb dr b x => ⟨rises_eq .., falls_eq .., rfl, rfl⟩
  case counters =>
    exact fun now sb dr b x pv => ⟨rfl, blkCtu_cv .., decide_eq_true_iff, rfl, blkCtd_cv .., decide_eq_true_iff⟩
  case flags =>
    intro now sb dr b x y o
    obtain ⟨hq, hm⟩ := signal_q now sb dr b x y o
    refine ⟨rfl, rfl, hq, hm, fun n hn => ?_, fun n hn => ?_⟩
    · subst hn
      rfl
    · subst hn
      rfl
  case point =>
    intro now sb dr b n pos i j dv
    have hpos : ∀ (k v : Nat), ((pos == k && v != k) = true ↔ pos = k ∧ v ≠ k) := fun k v => by simp
    exact ⟨congrArg (fun v => some ((⟨0, n⟩ : LObj), v)) (detected_pair sb i j), hpos 1 _, hpos 2 _⟩
  case invalid =>
    intro now conn i n pos flt sb dr b dv ks h
    obtain ⟨hsrc, hdet⟩ := src_invalid h i
    have hand : ∀ a c : Bool, c = false → (a && c) = false := fun a c hc => by rw [hc, Bool.and_false]
    refine ⟨congrArg (fun v => some ((⟨0, n⟩ : LObj), v)) hdet, ?_, ?_, hand _ _ hsrc⟩
    · exact congrArg (fun v => some ((⟨1, n⟩ : LObj), lvl v)) (hand _ _ hsrc)
    · exact congrArg (fun v => some ((⟨2, n⟩ : LObj), lvl (v && ks.all dr))) (hand _ _ hsrc)
  case inputs => exact fun now n i sb dr b ks => ⟨rfl, rfl⟩
  case route => exact fun now sb dr b n set rel hn hf hc h1 h2 => ⟨blkRoute_call sb.perm set rel hn hf hc h1 h2, rfl, rfl, rfl⟩
  case carried => exact fun now pt sb dr b hle hf hc hst hne hd => blkTon_carried hle hf hc hst hne hd

end Sys2Proof.Machine
end

section
/-!
PROOFS. The staging commands of the runtime against a channel that is being resynchronised (08 R264; 04 R126).
-/
namespace Sys2Proof.Machine

/-- The OLC_LOAD of one byte 0 to the start of the idle bank, under the check value 0. -/
def loadOfOneByte : GateEntry := { code := 0x0102, tag := 0, cv := 0, args := [0, 1] ++ List.replicate 46 0 }

/-- Channel A is the target of a bulk copy whose source, channel B, holds a byte that A does not have yet; A's runtime is in LOADING. -/
def loadingInBulkCopy : Chip :=
  let u := State.reset.chip
  let u := { u with
    weir := { u.weir with time := 1000 }
    conf := { u.conf with rs := { target := some 0 } }
    chans := u.chans.set 1 { u.chans.get 1 with sram := [(0x10000000, 5)] }
    rt := u.rt.set 0 { u.rt.get 0 with stg := { st := 1 } } }
  u.put Reg.CF_MODE.RS_PHASE 1

theorem loadingInBulkCopy_accepts : loadOfOneByte.cv = (loadingInBulkCopy.run 0).cv ∧ (loadingInBulkCopy.run 0).stg.st = 1 ∧ loadOfOneByte.arg 16 1 = 0 ∧
    loadOfOneByte.arg 17 1 = 1 ∧ loadOfOneByte.args.length = 48 ∧ loadOfOneByte.arg 20 4 = 0 ∧ (loadingInBulkCopy.run 0).bank = 0 := by
  decide +kernel

/-- The load catches the copy up, which brings the byte of the source into A's SRAM, outside the bytes that the command names. -/
theorem loadingInBulkCopy_copies : memRead (loadingInBulkCopy.sram 0) 0x10000000 = 0 ∧ memRead ((loadingInBulkCopy.cmdProcess 0 loadOfOneByte).sram 0) 0x10000000 = 5 := by
  decide +kernel

/-- Refutes O34: an OLC_LOAD of a channel that is the target of a resynchronisation changes bytes beside its own, since its write first catches the bulk copy up. -/
theorem not_runtimeCommands : ¬ Obligations.RuntimeCommands := by
  unfold Obligations.RuntimeCommands
  rintro ⟨-, h, -⟩
  obtain ⟨hcv, hst, htarget, hlen, hargs, hoff, hbank⟩ := loadingInBulkCopy_accepts
  obtain ⟨hbefore, hafter⟩ := loadingInBulkCopy_copies
  obtain ⟨-, -, -, hload, -⟩ := h loadingInBulkCopy 0 loadOfOneByte (by decide) hcv
  obtain ⟨-, hread⟩ := hload rfl hst htarget (by rw [hlen]) (by rw [hlen]; decide) hargs (by rw [hlen, hoff]; decide)
  have hbyte := hread 0x10000000
  rw [hlen, hoff, hbank, hafter] at hbyte
  dsimp only at hbyte
  rw [if_neg (by decide), hbefore] at hbyte
  exact absurd hbyte (by decide)

end Sys2Proof.Machine
end

section
/-!
PROOFS. Event intake (16 R480 to R483, 01 R20): staging, assembly buffers, the merge unit and LOST records.
-/
namespace Sys2Proof.Machine
open Chip

/-! ### Lists of assembly buffers -/

theorem modAt_eq_modify {α : Type} (g : α → α) : ∀ (l : List α) (n : Nat), modAt l n g = l.modify n g
  | [], n => by simp [modAt]
  | x :: l, 0 => rfl
  | x :: l, n + 1 => by simp [modAt, modAt_eq_modify g l n]

theorem modAt_getD_same {α : Type} (g : α → α) {l : List α} {n : Nat} (d : α) (h : n < l.length) : (modAt l n g).getD n d = g (l.getD n d) := by
  simp [modAt_eq_modify, List.getD_eq_getElem?_getD, h]

theorem modAt_getD_ne {α : Type} (g : α → α) (l : List α) {n m : Nat} (d : α) (h : n ≠ m) : (modAt l n g).getD m d = l.getD m d := by
  simp [modAt_eq_modify, List.getD_eq_getElem?_getD, h]

@[simp] theorem modAt_length {α : Type} (g : α → α) (l : List α) (n : Nat) : (modAt l n g).length = l.length := by simp [modAt_eq_modify]

/-! ### Staging -/

theorem Chip.stage_free {u : Chip} {e : Ev} (hl : sourceListed e.src = true) (hs : u.staged e.src = false) :
    u.stage e = ({ u with intake := { u.intake with staged := u.intake.staged ++ [e] } }).countStaged := by
  simp [Chip.stage, hl, hs]

theorem Chip.stage_full {u : Chip} {e : Ev} (hl : sourceListed e.src = true) (hs : u.staged e.src = true) :
    u.stage e = u.eventLost e.src e.stamp := by
  simp [Chip.stage, hl, hs]

theorem Chip.stage_unlisted {u : Chip} {e : Ev} (hl : sourceListed e.src = false) : u.stage e = u := by simp [Chip.stage, hl]

theorem Chip.countStaged_full (u : Chip) : u.countStaged.get Reg.INT_STAT.FULL = min u.intake.staged.length 255 :=
  (get_put_same ..).trans (Nat.mod_eq_of_lt (by simp only [Reg.INT_STAT.FULL]; omega))

/-- The pending losses after one more of a source (R483). -/
def lossesAfter (l : List LostPend) (src stamp : Nat) : List LostPend :=
  if l.any (fun p => p.src == src) then l.map (fun p => if p.src = src then { p with count := p.count + 1 } else p) else l ++ [⟨src, 1, stamp⟩]

theorem Chip.eventLost_intake (u : Chip) (src stamp : Nat) :
    (u.eventLost src stamp).intake = { u.intake with lost := lossesAfter u.intake.lost src stamp } := by
  unfold Chip.eventLost
  exact irq_intake ..

theorem Chip.eventLost_sum (u : Chip) (src stamp : Nat) (hsrc : src < 256) :
    (u.eventLost src stamp).get Reg.INT_LOSTSUM.COUNT = min (u.get Reg.INT_LOSTSUM.COUNT + 1) (2 ^ 32 - 1) := by
  unfold Chip.eventLost
  dsimp only
  rw [get_irq _ _ _ _ (by decide) (by decide)]
  refine (get_satInc_same ..).trans ?_
  rw [get_satInc_ne _ _ _ ((show ∀ n < 256, (Reg.INT_LOST.COUNT n).key ≠ Reg.INT_LOSTSUM.COUNT.key by decide +kernel) src hsrc)]
  rfl

theorem Chip.eventLost_count (u : Chip) (src stamp : Nat) (hsrc : src < 256) :
    (u.eventLost src stamp).get (Reg.INT_LOST.COUNT src) = min (u.get (Reg.INT_LOST.COUNT src) + 1) 65535 := by
  have haddr : ∀ n < 256, (Reg.INT_LOST.COUNT n).addr ≠ (Reg.IRQ.RAW 0x40900000).addr := by decide +kernel
  have hlo : ∀ n, (Reg.INT_LOST.COUNT n).lo < 32 := fun n => by simp only [Reg.INT_LOST.COUNT]; omega
  unfold Chip.eventLost
  dsimp only
  rw [get_irq _ _ _ _ (hlo src) (haddr src hsrc)]
  refine (get_satInc_ne _ _ _ (Ne.symm ((show ∀ n < 256, (Reg.INT_LOST.COUNT n).key ≠ Reg.INT_LOSTSUM.COUNT.key by decide +kernel) src hsrc))).trans ?_
  exact get_satInc_same ..

theorem Chip.eventLost_raw (u : Chip) (src stamp : Nat) : ((u.eventLost src stamp).get (Reg.IRQ.RAW 0x40900000)).testBit 0 = true := by
  unfold Chip.eventLost
  dsimp only
  rw [testBit_irq _ _ _ _ (by decide)]
  simp

theorem Chip.eventLost_pending (u : Chip) (src stamp : Nat) :
    (∀ p ∈ u.intake.lost, p.src = src → { p with count := p.count + 1 } ∈ (u.eventLost src stamp).intake.lost) ∧
    ((∀ p ∈ u.intake.lost, p.src ≠ src) → LostPend.mk src 1 stamp ∈ (u.eventLost src stamp).intake.lost) := by
  rw [eventLost_intake]
  unfold lossesAfter
  constructor
  · rintro p hp rfl
    rw [if_pos (List.any_eq_true.2 ⟨p, hp, by simp⟩)]
    exact List.mem_map.2 ⟨p, hp, if_pos rfl⟩
  · intro hnone
    rw [if_neg (by simpa using hnone)]
    simp

/-- Staging changes the staging registers and the pending losses of event intake. -/
theorem Chip.stage_asm (u : Chip) (e : Ev) : (u.stage e).intake.asm = u.intake.asm := by
  unfold Chip.stage
  split
  · rfl
  · split
    · rw [eventLost_intake]
    · rfl

theorem sourceListed_lt {src : Nat} (h : sourceListed src = true) : src < 256 := by
  simp only [sourceListed, decide_eq_true_eq] at h
  omega

theorem writerSource_listed {req : Nat} (h : req ≤ 6) : sourceListed (writerSource req) = true :=
  (show ∀ r < 7, sourceListed (writerSource r) = true by decide) req (by omega)

theorem writerSource_eq {req : Nat} : (if req < 3 then 19 + req else 93 + req) = writerSource req := by
  unfold writerSource
  split
  · rfl
  · omega

section
variable {s : State}

theorem completes_eventRaise (src code : Nat) (d : List Nat) :
    (sourceListed src = true → s.chip.staged src = false → Completes (.eventRaise src code d) s (fun t =>
      t.intake = { s.chip.intake with staged := s.chip.intake.staged ++ [{ src := src, code := code, data := d, stamp := s.chip.weirTime, inj := false }] } ∧
      t.get Reg.INT_STAT.FULL = min (s.chip.intake.staged.length + 1) 255 ∧ t.get Reg.INT_LOSTSUM.COUNT = s.chip.get Reg.INT_LOSTSUM.COUNT)) ∧
    (sourceListed src = true → s.chip.staged src = true → Completes (.eventRaise src code d) s (fun t => t.intake.staged = s.chip.intake.staged ∧
      t.get (Reg.INT_LOST.COUNT src) = min (s.chip.get (Reg.INT_LOST.COUNT src) + 1) 65535 ∧ t.get Reg.INT_LOSTSUM.COUNT = min (s.chip.get Reg.INT_LOSTSUM.COUNT + 1) (2 ^ 32 - 1) ∧
      (t.get (Reg.IRQ.RAW 0x40900000)).testBit 0 = true ∧
      (∀ p ∈ s.chip.intake.lost, p.src = src → { p with count := p.count + 1 } ∈ t.intake.lost) ∧
      ((∀ p ∈ s.chip.intake.lost, p.src ≠ src) → LostPend.mk src 1 s.chip.weirTime ∈ t.intake.lost))) ∧
    (sourceListed src = false → Completes (.eventRaise src code d) s (fun t => t = s.chip)) := by
  refine ⟨fun hl hs => ⟨_, congrArg s.become (stage_free hl hs), rfl, ?_, get_put_ne _ _ _ _ (by decide)⟩,
    fun hl hs => ⟨_, congrArg s.become (stage_full hl hs), ?_, eventLost_count _ _ _ (sourceListed_lt hl), eventLost_sum _ _ _ (sourceListed_lt hl),
      eventLost_raw .., eventLost_pending ..⟩, fun hl => ⟨_, congrArg s.become (stage_unlisted hl), rfl⟩⟩
  · rw [countStaged_full]
    simp
  · rw [eventLost_intake]

/-! ### Assembly buffers -/

theorem completes_intAsmWrite (req k v : Nat) (hreq : req ≤ 6) (hk : k ≤ 10) (hatt : s.chip.attends (0x40901040 + 4 * k) = true)
    (hlen : s.chip.intake.asm.length = 7) (hwords : ∀ b ∈ s.chip.intake.asm, b.length = 11) :
    Completes (.intAsmWrite req k v) s (fun t => t.resp = .ok ∧ (t.intake.asm.getD req []).getD k 0 = v % 2 ^ 32 ∧
      (∀ q j, q ≠ req ∨ j ≠ k → (t.intake.asm.getD q []).getD j 0 = (s.chip.intake.asm.getD q []).getD j 0) ∧ t.intake.staged = s.chip.intake.staged) := by
  have hbuf : k < (s.chip.intake.asm.getD req []).length := by
    have hin : req < s.chip.intake.asm.length := by omega
    rw [List.getD_eq_getElem?_getD, List.getElem?_eq_getElem hin, Option.getD_some, hwords _ (List.getElem_mem hin)]
    omega
  refine ⟨_, congrArg s.become ((access_attends _ _ _ _ hatt).trans (if_pos ⟨hreq, hk⟩)), rfl, ?_, fun q j hne => ?_, rfl⟩
  · simp only [answer_intake]
    rw [modAt_getD_same _ _ (by omega), modAt_getD_same _ _ hbuf]
  · simp only [answer_intake]
    by_cases hq : req = q
    · subst hq
      rw [modAt_getD_same _ _ (by omega), modAt_getD_ne _ _ _ (hne.resolve_left (fun h => h rfl)).symm]
    · rw [modAt_getD_ne _ _ _ hq]

theorem pageInfo_intake {off : Nat} (h : off < 0x1000) : ∃ p, pageInfo (0x40901000 + off) = some p :=
  ⟨_, (pageInfo_aligned_add (by decide) h).trans rfl⟩

/-- An access to event intake that no writer of it makes is refused under R38. -/
theorem Chip.intakePlane (u : Chip) {req off : Nat} (h : off < 0x1000) : (u.planeRefused req (0x40901000 + off)).resp = .error ∧
    (u.planeRefused req (0x40901000 + off)).intake.asm = u.intake.asm ∧ (u.planeRefused req (0x40901000 + off)).get (Reg.BLK_ERR.PLANE 0x40901000) = 1 := by
  obtain ⟨p, hp⟩ := pageInfo_intake h
  have hplane := u.planeRefused_plane (req := req) hp
  rw [pageOf_aligned_add (by decide) h] at hplane
  refine ⟨hplane.1, ?_, hplane.2⟩
  unfold Chip.planeRefused
  rw [hp]
  refine (stage_asm ..).trans ?_
  exact congrArg Intake.asm (refreshLines_within.same .intake (by decide))

theorem completes_intAsmWrite_barred (req k v : Nat) (hreq : 6 < req) (hk : k ≤ 10) (hatt : s.chip.attends (0x40901040 + 4 * k) = true)
    (hattRaise : s.chip.attends 0x40901070 = true) :
    Completes (.intAsmWrite req k v) s (fun t => t.resp = .error ∧ t.intake.asm = s.chip.intake.asm ∧ t.get (Reg.BLK_ERR.PLANE 0x40901000) = 1) ∧
    Completes (.intRaise req) s (fun t => t.resp = .error ∧ t.intake.asm = s.chip.intake.asm ∧ t.get (Reg.BLK_ERR.PLANE 0x40901000) = 1) := by
  have haddr : 0x40901040 + 4 * k = 0x40901000 + (0x40 + 4 * k) := by omega
  refine ⟨⟨_, congrArg s.become ((access_attends _ _ _ _ hatt).trans (if_neg (by omega))), ?_⟩,
    ⟨_, congrArg s.become ((access_attends _ _ _ _ hattRaise).trans (if_neg (by omega))), s.chip.intakePlane (off := 0x70) (by decide)⟩⟩
  rw [haddr]
  exact s.chip.intakePlane (by omega)

theorem completes_intRaise (req : Nat) (hreq : req ≤ 6) (hatt : s.chip.attends 0x40901070 = true) :
    let src := if req < 3 then 19 + req else 93 + req
    let b := s.chip.intake.asm.getD req []
    Completes (.intRaise req) s (fun t => t.resp = .ok ∧ t.intake.asm = s.chip.intake.asm ∧
      (s.chip.staged src = false → t.intake.staged = s.chip.intake.staged ++ [{ src := src, code := b.getD 0 0 % 2 ^ 16, data := b.drop 1, stamp := s.chip.weirTime, inj := false, raw := true }]) ∧
      (s.chip.staged src = true → t.intake.staged = s.chip.intake.staged ∧ t.get Reg.INT_LOSTSUM.COUNT = min (s.chip.get Reg.INT_LOSTSUM.COUNT + 1) (2 ^ 32 - 1))) := by
  rw [writerSource_eq]
  have hl := writerSource_listed hreq
  refine ⟨_, congrArg s.become ((access_attends _ _ _ _ hatt).trans (if_pos hreq)), rfl, stage_asm .., fun hs => ?_, fun hs => ?_⟩
  · rw [answer_intake, stage_free hl hs]
    rfl
  · rw [answer_intake, answer_get, stage_full hl hs]
    refine ⟨?_, eventLost_sum _ _ _ (sourceListed_lt hl)⟩
    rw [eventLost_intake]

/-! ### The merge unit -/

/-- Whether the merge unit takes `e` before `x` or they are level (R481). -/
def Ev.Before (e x : Ev) : Prop := e.stamp < x.stamp ∨ (e.stamp = x.stamp ∧ e.src ≤ x.src)

theorem mergeNext_cons_cons (b c : Ev) (l : List Ev) :
    mergeNext (b :: c :: l) = mergeNext ((if c.stamp < b.stamp ∨ (c.stamp = b.stamp ∧ c.src < b.src) then c else b) :: l) := by
  unfold mergeNext
  simp only [List.foldl_cons]
  split <;> rfl

/-- The merge unit finds the staged event with the lowest stamp and then the lowest source. -/
theorem mergeNext_cons (b : Ev) (l : List Ev) : ∃ e ∈ b :: l, mergeNext (b :: l) = some e ∧ ∀ x ∈ b :: l, e.Before x := by
  induction l generalizing b with
  | nil => exact ⟨b, by simp, rfl, by simp [Ev.Before]⟩
  | cons c l ih =>
    rw [mergeNext_cons_cons]
    split
    · next hc =>
      obtain ⟨e, hmem, he, hall⟩ := ih c
      refine ⟨e, List.mem_cons_of_mem _ hmem, he, List.forall_mem_cons.2 ⟨?_, hall⟩⟩
      have := hall c (by simp)
      unfold Ev.Before at *
      omega
    · next hc =>
      obtain ⟨e, hmem, he, hall⟩ := ih b
      obtain ⟨hb, hrest⟩ := List.forall_mem_cons.1 hall
      refine ⟨e, ?_, he, List.forall_mem_cons.2 ⟨hb, List.forall_mem_cons.2 ⟨?_, hrest⟩⟩⟩
      · rcases List.mem_cons.1 hmem with rfl | hmem
        · simp
        · simp [hmem]
      · unfold Ev.Before at *
        omega

theorem mergeNext_some {l : List Ev} (h : l ≠ []) : ∃ e ∈ l, mergeNext l = some e ∧ ∀ x ∈ l, e.Before x := by
  cases l with
  | nil => exact absurd rfl h
  | cons b l => exact mergeNext_cons b l

theorem completes_eventMerge_refused (hne : s.chip.intake.staged ≠ []) (href : s.chip.evrRefuses = true) :
    Completes .eventMerge s (fun t => t.intake.staged = s.chip.intake.staged ∧ t.evr = s.chip.evr ∧
      t.intake.lost = s.chip.intake.lost ∧ t.intake.stallSince = some (s.chip.intake.stallSince.getD s.chip.now) ∧
      (s.chip.intake.stallSince = none → t.get Reg.INT_STAT.STALL = 1)) := by
  obtain ⟨e, -, he, -⟩ := mergeNext_some hne
  refine ⟨_, show execEventMerge s = _ by unfold execEventMerge; dsimp only; rw [he]; dsimp only; rw [if_pos href]; rfl, ?_⟩
  cases hsince : s.chip.intake.stallSince with
  | some k => exact ⟨rfl, rfl, rfl, hsince, fun h => nomatch h⟩
  | none =>
    simp only [Option.isSome_none, Bool.false_eq_true, if_false]
    refine ⟨by simp, by simp, by simp, by simp, fun _ => ?_⟩
    rw [get_irq _ _ _ _ (by decide) (by decide), get_put_same]
    rfl

/-- What the recorder's intake of an event leaves alone: everything but the commissioning store. -/
theorem Chip.recorded_within {u : Chip} (e : Ev) : Within ⟨[.com], some []⟩ u ((u.swapRecorded e).keyRecorded e) :=
  (swapRecorded_within.trans keyRecorded_within).le (by decide)

theorem Chip.restage_none {u : Chip} (src : Nat) (h : u.intake.later = []) : u.restage src = u := by
  unfold Chip.restage
  rw [h]
  rfl

theorem completes_eventMerge_passed (hne : s.chip.intake.staged ≠ []) (href : s.chip.evrRefuses = false) (hport : s.chip.evr.port = none)
    (hlater : s.chip.intake.later = []) (hsince : s.chip.intake.stallSince = none) :
    Completes .eventMerge s (fun t => t.get Reg.INT_STAT.STALL = 0 ∧ ∃ e ∈ s.chip.intake.staged, t.evr.port = some e ∧ t.intake.staged = s.chip.intake.staged.filter (fun x => x.src != e.src) ∧
      ∀ x ∈ s.chip.intake.staged, e.stamp < x.stamp ∨ (e.stamp = x.stamp ∧ e.src ≤ x.src)) := by
  obtain ⟨e, hmem, he, hall⟩ := mergeNext_some hne
  refine ⟨_, show execEventMerge s = _ by
    unfold execEventMerge
    dsimp only
    rw [he]
    dsimp only
    rw [href, hport, restage_none _ (by exact hlater), hsince]
    rfl, ?_⟩
  refine ⟨?_, e, hmem, ?_, ?_, hall⟩
  · rw [(recorded_within e).regs _ (by decide) (by decide) (by decide) (by decide), get_put_same]
    rfl
  · rw [(recorded_within e).same .evr (by decide)]
    rfl
  · rw [(recorded_within e).same .intake (by decide)]
    rfl

/-! ### LOST records -/

/-- A LOST record with the losses that its source has pending. -/
def Chip.lostStaged (u : Chip) (src : Nat) (p : LostPend) : Chip :=
  ({ u with intake := { u.intake with lost := u.intake.lost.filter (fun x => x.src != src) } } : Chip).raise src 0xFF [p.count, p.first]

theorem execLostRecordStage_open {src : Nat} {p : LostPend} (hp : s.chip.intake.lost.find? (fun x => x.src == src) = some p)
    (hopen : ∀ q, s.chip.evr.spill = some q → q.closed = false) :
    execLostRecordStage src s = s.become (if s.chip.staged src = true then s.chip else s.chip.lostStaged src p) := by
  unfold execLostRecordStage
  dsimp only
  rw [hp]
  dsimp only
  cases hspill : s.chip.evr.spill with
  | none =>
    simp only [Bool.or_false]
    split <;> rfl
  | some q =>
    simp only [hopen q hspill, Bool.or_false]
    split <;> rfl

theorem completes_lostRecordStage (src : Nat) (p : LostPend) (hp : s.chip.intake.lost.find? (fun x => x.src == src) = some p) (hl : sourceListed src = true)
    (hopen : ∀ q, s.chip.evr.spill = some q → q.closed = false) :
    (s.chip.staged src = false → Completes (.lostRecordStage src) s (fun t => t.reports src 0xFF [p.count, p.first] = true ∧ t.intake.lost = s.chip.intake.lost.filter (fun x => x.src != src))) ∧
    (s.chip.staged src = true → Completes (.lostRecordStage src) s (fun t => t = s.chip)) := by
  have hexec := execLostRecordStage_open hp hopen
  refine ⟨fun hst => ⟨s.chip.lostStaged src p, hexec.trans (by rw [hst]; rfl), raise_reports _ _ _ _ hl hst, ?_⟩,
    fun hst => ⟨_, hexec.trans (congrArg s.become (if_pos hst)), rfl⟩⟩
  unfold Chip.lostStaged Chip.raise
  rw [stage_free hl hst]
  rfl

end

/-- Settles O47. -/
theorem eventIntake : Obligations.EventIntake := by
  unfold Obligations.EventIntake
  exact ⟨fun src code d _ => completes_eventRaise src code d,
    fun req k v _ hreq hk hatt hlen hwords => completes_intAsmWrite req k v hreq hk hatt hlen hwords,
    fun req k v _ hreq hk hatt hr => completes_intAsmWrite_barred req k v hreq hk hatt hr,
    fun req _ hreq hatt => completes_intRaise req hreq hatt,
    fun s h => ⟨_, show execEventMerge s = _ by unfold execEventMerge; dsimp only; rw [h]; rfl, rfl⟩,
    fun _ => completes_eventMerge_refused, fun _ => completes_eventMerge_passed,
    fun src p _ hp hl hopen => completes_lostRecordStage src p hp hl hopen⟩

end Sys2Proof.Machine
end

section
/-!
PROOFS. The shared fabric (16 R465 to R478): routing and its errors, reserved slots, the weighted round robin with aging,
responses and hung targets.
-/
namespace Sys2Proof.Machine
open Chip

/-! ### Targets and outstanding entries -/

section
variable {u : Chip} {g h : Nat}

theorem Chip.target_modTarget_same (f : FabTarget → FabTarget) (hg : g < u.fab.targets.length) : (u.modTarget g f).target g = f (u.target g) :=
  modAt_getD_same _ _ hg

theorem Chip.target_modTarget_ne (f : FabTarget → FabTarget) (hne : g ≠ h) : (u.modTarget g f).target h = u.target h :=
  modAt_getD_ne _ _ _ hne

theorem Chip.target_of_fab {t : Chip} (h : t.fab = u.fab) (g : Nat) : t.target g = u.target g := by
  unfold Chip.target
  rw [h]

theorem Chip.outOf_of_fab {t : Chip} (h : t.fab = u.fab) (q : Nat) : t.outOf q = u.outOf q := by
  unfold Chip.outOf
  rw [h]

theorem Chip.modOutstanding_fab (u : Chip) (q : Nat) (f : Nat → Nat) : (u.modOutstanding q f).fab = { u.fab with out := modAt u.fab.out q f } := rfl

theorem Chip.outOf_modOutstanding_same {q : Nat} (f : Nat → Nat) (hq : q < u.fab.out.length) : (u.modOutstanding q f).outOf q = f (u.outOf q) :=
  modAt_getD_same _ _ hq

theorem Chip.outOf_modOutstanding_ne {q r : Nat} (f : Nat → Nat) (hne : q ≠ r) : (u.modOutstanding q f).outOf r = u.outOf r :=
  modAt_getD_ne _ _ _ hne

theorem Chip.target_modOutstanding (q : Nat) (f : Nat → Nat) (g : Nat) : (u.modOutstanding q f).target g = u.target g := rfl

end

/-! ### Arbiter errors -/

/-- The arbiter's interrupt drives no channel. -/
theorem Chip.irq_arb_cic (u : Chip) (b : Nat) : (u.irq arbPage b).cic = u.cic := by
  unfold Chip.irq
  rw [refreshLines_eq]
  rfl

/-- What event intake holds, staged or waiting, is held still. -/
def Chip.LogKept (u t : Chip) : Prop := ∀ e ∈ u.intake.staged ++ u.intake.later, e ∈ t.intake.staged ++ t.intake.later

theorem Chip.LogKept.reports {u t : Chip} (h : LogKept u t) {src code : Nat} {d : List Nat} (hu : u.reports src code d = true) : t.reports src code d = true := by
  unfold Chip.reports at *
  obtain ⟨e, he, hval⟩ := List.any_eq_true.1 hu
  exact List.any_eq_true.2 ⟨e, h e he, hval⟩

theorem Chip.LogKept.of_intake {u t : Chip} (h : t.intake = u.intake) : LogKept u t := by
  unfold LogKept
  rw [h]
  exact fun e he => he

theorem Chip.LogKept.trans {u t v : Chip} (h : LogKept u t) (k : LogKept t v) : LogKept u v := fun e he => k e (h e he)

theorem Chip.stage_logKept (u : Chip) (e : Ev) : LogKept u (u.stage e) := by
  unfold Chip.stage
  split
  · exact .of_intake rfl
  · split
    · unfold LogKept
      rw [eventLost_intake]
      exact fun x hx => hx
    · intro x hx
      rcases List.mem_append.1 hx with hx | hx
      · exact List.mem_append_left _ (List.mem_append_left _ hx)
      · exact List.mem_append_right _ hx

theorem Chip.raiseAfter_logKept (u : Chip) (src code : Nat) (d : List Nat) : LogKept u (u.raiseAfter src code d) := by
  unfold Chip.raiseAfter Chip.raiseSince
  dsimp only
  split
  · intro x hx
    rcases List.mem_append.1 hx with hx | hx
    · exact List.mem_append_left _ hx
    · exact List.mem_append_right _ (List.mem_append_left _ hx)
  · exact stage_logKept u _

theorem Chip.put_logKept (u : Chip) (f : Fld) (v : Nat) : LogKept u (u.put f v) := .of_intake rfl

theorem Chip.nonsafetyFault_logKept (u : Chip) (fcode : Nat) : LogKept u (u.nonsafetyFault fcode) := by
  unfold Chip.nonsafetyFault Chip.faultEvent Chip.satInc
  exact ((put_logKept u _ _).trans (put_logKept _ Reg.FLT_STAT.LAST_CLASS 3)).trans (raiseAfter_logKept _ 26 0x05 [fcode, 3])

theorem Chip.chanIrq_get (u : Chip) (c n : Nat) (f : Fld) : (u.chanIrq c n).get f = u.get f := rfl

theorem Chip.chanIrq_reports (u : Chip) (c n src code : Nat) (d : List Nat) : (u.chanIrq c n).reports src code d = u.reports src code d := rfl

theorem Chip.stage_free_cic {u : Chip} {e : Ev} (hl : sourceListed e.src = true) (hs : u.staged e.src = false) : (u.stage e).cic = u.cic := by
  rw [stage_free hl hs]
  rfl

theorem Chip.staged_of_intake {u t : Chip} (h : t.intake = u.intake) (src : Nat) : t.staged src = u.staged src := by
  unfold Chip.staged
  rw [h]

theorem Chip.chanIrq_pend_same (u : Chip) {c : Nat} (hc : c < 3) (n : Nat) : ((u.chanIrq c n).cic.get c).pend = (u.cic.get c).pend ||| 2 ^ n := by
  unfold Chip.chanIrq
  rw [Per3.get_set_same hc]

theorem Chip.chanIrq_pend_keeps (u : Chip) {c d : Nat} (hd : d < 3) {n m : Nat} (h : (u.cic.get d).pend.testBit m = true) :
    ((u.chanIrq c n).cic.get d).pend.testBit m = true := by
  by_cases hcd : c = d
  · subst hcd
    rw [chanIrq_pend_same _ hd, Nat.testBit_or, h, Bool.true_or]
  · unfold Chip.chanIrq
    rwa [Per3.get_set_ne hd hcd]

/-- The error registers of the arbiter, with cause `b` (Table 16.9). -/
def Chip.arbShown (u : Chip) (b req tgt a : Nat) : Chip :=
  ((((u.setBit Reg.ARB_ERR.CAUSE b).put Reg.ARB_ERR_ADDR.ADDR a).put Reg.ARB_ERR_INFO.TGT tgt).put Reg.ARB_ERR_INFO.CAUSE b).put Reg.ARB_ERR_INFO.REQ req

/-- What an arbiter error of cause `b` shows and reports (Table 16.9, R478). -/
structure Chip.ArbFailed (u t : Chip) (b req tgt a : Nat) : Prop where
  fab : t.fab = u.fab
  reports : t.reports 27 (b + 1) [req, tgt, a] = true
  cause : (t.get Reg.ARB_ERR.CAUSE).testBit b = true
  addr : t.get Reg.ARB_ERR_ADDR.ADDR = a % 2 ^ 32
  infoTarget : t.get Reg.ARB_ERR_INFO.TGT = tgt
  infoCause : t.get Reg.ARB_ERR_INFO.CAUSE = b
  infoReq : t.get Reg.ARB_ERR_INFO.REQ = req
  channel : req < 3 → (t.cic.get req).pend.testBit (112 + b) = true
  others : 3 ≤ req → t.cic = u.cic

/-- The error registers, the interrupt and the event of an arbiter error. -/
def Chip.arbReported (u : Chip) (b req tgt a : Nat) : Chip := ((u.arbShown b req tgt a).irq arbPage b).raise 27 (b + 1) [req, tgt, a]

theorem Chip.arbError_eq (u : Chip) (b req tgt a : Nat) :
    u.arbError b req tgt a = if req < 3 then (u.arbReported b req tgt a).chanIrq req (112 + b) else u.arbReported b req tgt a := rfl

/-- The event and the interrupt of an arbiter error change no register of its page but IRQ_RAW. -/
theorem Chip.arbReported_get (u : Chip) (b req tgt a : Nat) {f : Fld} (hlo : f.lo < 32) (h4 : 0x40000000 ≤ f.addr) (h409 : f.addr / 0x100000 ≠ 0x409)
    (hraw : f.addr ≠ (Reg.IRQ.RAW arbPage).addr) : (u.arbReported b req tgt a).get f = (u.arbShown b req tgt a).get f := by
  unfold Chip.arbReported
  rw [get_raise _ _ _ _ f hlo h4 h409, get_irq _ _ _ _ hlo hraw]

theorem Chip.arbError_get (u : Chip) (b req tgt a : Nat) {f : Fld} (hlo : f.lo < 32) (h4 : 0x40000000 ≤ f.addr) (h409 : f.addr / 0x100000 ≠ 0x409)
    (hraw : f.addr ≠ (Reg.IRQ.RAW arbPage).addr) : (u.arbError b req tgt a).get f = (u.arbShown b req tgt a).get f := by
  have hget := u.arbReported_get b req tgt a hlo h4 h409 hraw
  rw [arbError_eq]
  split
  · rwa [chanIrq_get]
  · exact hget

theorem Chip.arbShown_cause (u : Chip) {b : Nat} (req tgt a k : Nat) (hk : k < 5) :
    ((u.arbShown b req tgt a).get Reg.ARB_ERR.CAUSE).testBit k = ((u.get Reg.ARB_ERR.CAUSE).testBit k || b == k) := by
  unfold Chip.arbShown
  rw [get_put_ne _ _ _ _ (by decide), get_put_ne _ _ _ _ (by decide), get_put_ne _ _ _ _ (by decide), get_put_ne _ _ _ _ (by decide), testBit_setBit _ _ _ _ hk]

theorem Chip.arbError_cause (u : Chip) {b : Nat} (req tgt a k : Nat) (hk : k < 5) :
    ((u.arbError b req tgt a).get Reg.ARB_ERR.CAUSE).testBit k = ((u.get Reg.ARB_ERR.CAUSE).testBit k || b == k) := by
  rw [arbError_get _ _ _ _ _ (by decide) (by decide) (by decide) (by decide), arbShown_cause _ _ _ _ _ hk]

theorem Chip.arbShown_intake (u : Chip) (b req tgt a : Nat) : (u.arbShown b req tgt a).intake = u.intake := rfl

theorem Chip.arbShown_cic (u : Chip) (b req tgt a : Nat) : (u.arbShown b req tgt a).cic = u.cic := rfl

theorem Chip.arbShown_staged (u : Chip) (b req tgt a src : Nat) : ((u.arbShown b req tgt a).irq arbPage b).staged src = u.staged src :=
  staged_of_intake ((irq_intake ..).trans (arbShown_intake ..)) src

theorem Chip.arbReported_cic {u : Chip} {b req tgt a : Nat} (hs : u.staged 27 = false) : (u.arbReported b req tgt a).cic = u.cic := by
  unfold Chip.arbReported Chip.raise
  rw [stage_free_cic (by exact (by decide : sourceListed 27 = true)) (by rw [arbShown_staged, hs]), irq_arb_cic, arbShown_cic]

theorem Chip.arbReported_reports {u : Chip} {b req tgt a : Nat} (hs : u.staged 27 = false) :
    (u.arbReported b req tgt a).reports 27 (b + 1) [req, tgt, a] = true :=
  raise_reports _ _ _ _ (by decide) (by rw [arbShown_staged, hs])

theorem Chip.arbError_failed {u : Chip} {b req tgt a : Nat} (hs : u.staged 27 = false) (hb : b < 4) (hreq : req < 16) (htgt : tgt < 16) :
    ArbFailed u (u.arbError b req tgt a) b req tgt a where
  fab := arbError_within.same .fab (by decide)
  reports := by
    have hrep := arbReported_reports (b := b) (req := req) (tgt := tgt) (a := a) hs
    rw [arbError_eq]
    split
    · rwa [chanIrq_reports]
    · exact hrep
  cause := by simp [arbError_cause _ _ _ _ _ (show b < 5 by omega)]
  addr := by
    rw [arbError_get _ _ _ _ _ (by decide) (by decide) (by decide) (by decide)]
    unfold Chip.arbShown
    rw [get_put_ne _ _ _ _ (by decide), get_put_ne _ _ _ _ (by decide), get_put_ne _ _ _ _ (by decide), get_put_same]
    rfl
  infoTarget := by
    rw [arbError_get _ _ _ _ _ (by decide) (by decide) (by decide) (by decide)]
    unfold Chip.arbShown
    rw [get_put_ne _ _ _ _ (by decide), get_put_ne _ _ _ _ (by decide), get_put_same]
    exact Nat.mod_eq_of_lt htgt
  infoCause := by
    rw [arbError_get _ _ _ _ _ (by decide) (by decide) (by decide) (by decide)]
    unfold Chip.arbShown
    rw [get_put_ne _ _ _ _ (by decide), get_put_same]
    exact Nat.mod_eq_of_lt (show b < 16 by omega)
  infoReq := by
    rw [arbError_get _ _ _ _ _ (by decide) (by decide) (by decide) (by decide)]
    unfold Chip.arbShown
    rw [get_put_same]
    exact Nat.mod_eq_of_lt hreq
  channel h := by
    rw [arbError_eq, if_pos h, chanIrq_pend_same _ h, Nat.testBit_or, Nat.testBit_two_pow_self, Bool.or_true]
  others h := by
    rw [arbError_eq, if_neg (by omega)]
    exact arbReported_cic hs

/-! ### Requests -/

section
variable {s : State} {req a : Nat} {wr : Bool}

theorem completes_fabricRequest_limit (h : 9 < req ∨ outLimit req ≤ s.chip.outOf req) : Completes (.fabricRequest req a wr) s (fun t => t = s.chip) :=
  ⟨_, show execFabricRequest req a wr s = _ by unfold execFabricRequest; dsimp only; rw [if_pos h]; rfl, rfl⟩

theorem fabricTarget_lt {g : Nat} (h : fabricTarget req a = some g) : g < 7 := by
  unfold fabricTarget at h
  repeat' split at h
  all_goals simp only [Option.some.injEq, reduceCtorEq] at h
  all_goals omega

/-- What the statement says of a request that ends in an arbiter error of cause `b`. -/
theorem Chip.ArbFailed.shown {u t : Chip} {b tgt : Nat} (h : ArbFailed u t b req tgt a) :
    t.refuse.resp = .error ∧ t.refuse.fab = u.fab ∧ t.refuse.reports 27 (b + 1) [req, tgt, a] = true ∧
       (t.refuse.get Reg.ARB_ERR.CAUSE).testBit b = true ∧ t.refuse.get Reg.ARB_ERR_ADDR.ADDR = a % 2 ^ 32 ∧ t.refuse.get Reg.ARB_ERR_INFO.TGT = tgt ∧
       t.refuse.get Reg.ARB_ERR_INFO.CAUSE = b ∧ t.refuse.get Reg.ARB_ERR_INFO.REQ = req ∧
       (req < 3 → (t.refuse.cic.get req).pend.testBit (112 + b) = true) ∧ (3 ≤ req → t.refuse.cic = u.cic) :=
  ⟨rfl, h.fab, h.reports, h.cause, h.addr, h.infoTarget, h.infoCause, h.infoReq, h.channel, h.others⟩

section
variable (hreq : req ≤ 9) (hout : s.chip.outOf req < outLimit req)
include hreq hout

theorem execFabricRequest_unmapped (hnone : regionOf a = .none) : execFabricRequest req a wr s = s.become (s.chip.unmapped req a) := by
  unfold execFabricRequest
  dsimp only
  rw [if_neg (by omega), if_pos hnone]

/-- A request to a place that the shared fabric does not carry. -/
theorem execFabricRequest_off (hregion : regionOf a ≠ .none) (htarget : fabricTarget req a = none) (hbar : wr = true → pageBarred s.chip req a = false) :
    execFabricRequest req a wr s = s.become (if req < 3 ∨ permitted req a wr = false then s.chip.denied req 15 a else s.chip.answer .ok) := by
  unfold execFabricRequest
  dsimp only
  rw [if_neg (by omega), if_neg hregion, htarget]
  dsimp only
  rw [if_neg (fun h => by rw [hbar h.1] at h; exact Bool.noConfusion h.2)]
  by_cases hchan : req < 3
  · rw [if_pos hchan, if_pos (.inl hchan)]
  · rw [if_neg hchan]
    cases hp : permitted req a wr
    · rw [if_neg Bool.false_ne_true, if_pos (.inr rfl)]
    · rw [if_pos rfl, if_neg (by simp [hchan])]

theorem execFabricRequest_unserved {g : Nat} (hregion : regionOf a ≠ .none) (htarget : fabricTarget req a = some g) (hreach : reaches g req = false) :
    execFabricRequest req a wr s = s.become (s.chip.denied req g a) := by
  unfold execFabricRequest
  dsimp only
  rw [if_neg (by omega), if_neg hregion, htarget]
  dsimp only
  rw [hreach]
  rfl

/-- A request that its target takes: an error where it is hung, else it waits there. -/
theorem execFabricRequest_taken {g : Nat} (hregion : regionOf a ≠ .none) (htarget : fabricTarget req a = some g) (hreach : reaches g req = true)
    (hthree : g = 3 → wr = true → intakeWrite req a = true) (hfour : g = 4 → wr = false)
    (hfive : g = 5 → req = 7 ∨ (standbyWindow a = false ∧ wr = false)) :
    execFabricRequest req a wr s = s.become (if (s.chip.target g).hung = true then (s.chip.arbError 2 req g a).refuse
      else (s.chip.modTarget g (fun g => { g with waiting := g.waiting ++ [⟨req, a, wr, 0, 0⟩] })).modOutstanding req (· + 1)) := by
  have h5 : ¬ (g = 5 ∧ ((standbyWindow a = true ∨ wr = true) ∧ req ≠ 7)) := by
    rintro ⟨hg, hwin, hne⟩
    obtain ⟨hs, hw⟩ := (hfive hg).resolve_left hne
    rw [hs, hw] at hwin
    simp at hwin
  have h3 : ¬ (g = 3 ∧ wr = true ∧ intakeWrite req a = false) := by
    rintro ⟨hg, hw, hno⟩
    rw [hthree hg hw] at hno
    cases hno
  have h4 : ¬ (g = 4 ∧ wr = true) := by
    rintro ⟨hg, hw⟩
    rw [hfour hg] at hw
    cases hw
  unfold execFabricRequest
  dsimp only
  rw [if_neg (by omega), if_neg hregion, htarget]
  dsimp only
  rw [hreach, if_neg (by simp), if_neg h5, if_neg h3, if_neg h4]
  split <;> rfl

end

theorem completes_fabricRequest (hreq : req ≤ 9) (hout : s.chip.outOf req < outLimit req) (hs : s.chip.staged 27 = false) :
    let failed := fun (t : Chip) (b tgt : Nat) => t.resp = .error ∧ t.fab = s.chip.fab ∧ t.reports 27 (b + 1) [req, tgt, a] = true ∧
       (t.get Reg.ARB_ERR.CAUSE).testBit b = true ∧ t.get Reg.ARB_ERR_ADDR.ADDR = a % 2 ^ 32 ∧ t.get Reg.ARB_ERR_INFO.TGT = tgt ∧ t.get Reg.ARB_ERR_INFO.CAUSE = b ∧
       t.get Reg.ARB_ERR_INFO.REQ = req ∧ (req < 3 → (t.cic.get req).pend.testBit (112 + b) = true) ∧ (3 ≤ req → t.cic = s.chip.cic)
    let takes := fun (g : Nat) => (g = 3 → wr = true → intakeWrite req a = true) ∧ (g = 4 → wr = false) ∧ (g = 5 → req = 7 ∨ (standbyWindow a = false ∧ wr = false))
    (regionOf a = .none → Completes (.fabricRequest req a wr) s (fun t => failed t 0 15)) ∧
     (regionOf a ≠ .none → fabricTarget req a = none → (wr = true → pageBarred s.chip req a = false) →
       (req < 3 ∨ permitted req a wr = false → Completes (.fabricRequest req a wr) s (fun t => failed t 1 15)) ∧
       (3 ≤ req → permitted req a wr = true → Completes (.fabricRequest req a wr) s (fun t => t = s.chip.answer .ok))) ∧
     (∀ g, regionOf a ≠ .none → fabricTarget req a = some g → reaches g req = false → Completes (.fabricRequest req a wr) s (fun t => failed t 1 g)) ∧
     (∀ g, regionOf a ≠ .none → fabricTarget req a = some g → reaches g req = true → takes g → (s.chip.target g).hung = true →
       Completes (.fabricRequest req a wr) s (fun t => failed t 2 g)) ∧
     (∀ g, regionOf a ≠ .none → fabricTarget req a = some g → reaches g req = true → takes g → (s.chip.target g).hung = false → s.chip.fab.targets.length = 7 → s.chip.fab.out.length = 10 →
       Completes (.fabricRequest req a wr) s (fun t => (t.target g).waiting = (s.chip.target g).waiting ++ [⟨req, a, wr, 0, 0⟩] ∧
         (t.target g).queue = (s.chip.target g).queue ∧ (∀ h, h ≠ g → t.target h = s.chip.target h) ∧ t.outOf req = s.chip.outOf req + 1 ∧
         (∀ q, q ≠ req → t.outOf q = s.chip.outOf q) ∧ t.intake = s.chip.intake)) := by
  have hlt : ∀ {g}, fabricTarget req a = some g → g < 16 := fun h => by have := fabricTarget_lt h; omega
  have herr : ∀ {b tgt : Nat}, b < 4 → tgt < 16 → ArbFailed s.chip (s.chip.arbError b req tgt a) b req tgt a :=
    fun hb htgt => arbError_failed hs hb (by omega) htgt
  intro failed takes
  refine ⟨fun hnone => ⟨_, execFabricRequest_unmapped hreq hout hnone, (herr (by decide) (by decide)).shown⟩, fun hregion htarget hbar => ⟨fun hno => ?_, fun hchan hp => ?_⟩,
    fun g hregion htarget hreach => ⟨_, execFabricRequest_unserved hreq hout hregion htarget hreach, (herr (by decide) (hlt htarget)).shown⟩,
    fun g hregion htarget hreach htakes hhung => ?_, fun g hregion htarget hreach htakes hhung htargets houts => ?_⟩
  · exact ⟨_, (execFabricRequest_off hreq hout hregion htarget hbar).trans (congrArg s.become (if_pos hno)), (herr (by decide) (by decide)).shown⟩
  · exact ⟨_, (execFabricRequest_off hreq hout hregion htarget hbar).trans (congrArg s.become (if_neg (by simp [hp]; omega))), rfl⟩
  · obtain ⟨hthree, hfour, hfive⟩ := htakes
    exact ⟨_, (execFabricRequest_taken hreq hout hregion htarget hreach hthree hfour hfive).trans (congrArg s.become (if_pos hhung)),
      (herr (by decide) (hlt htarget)).shown⟩
  · obtain ⟨hthree, hfour, hfive⟩ := htakes
    have hg : g < s.chip.fab.targets.length := by have := fabricTarget_lt htarget; omega
    refine ⟨_, (execFabricRequest_taken hreq hout hregion htarget hreach hthree hfour hfive).trans (congrArg s.become (if_neg (by simp [hhung]))), ?_⟩
    simp only [target_modOutstanding]
    rw [target_modTarget_same _ hg]
    exact ⟨rfl, rfl, fun h hne => target_modTarget_ne _ hne.symm, outOf_modOutstanding_same (u := Chip.modTarget ..) _ (by change req < s.chip.fab.out.length; omega),
      fun q hq => outOf_modOutstanding_ne (u := Chip.modTarget ..) _ hq.symm, rfl⟩

end

end Sys2Proof.Machine
end

section
/-!
PROOFS. The shared fabric (16 R468 to R472, R475, R477): decisions, responses and hung targets.
-/
namespace Sys2Proof.Machine
open Chip

/-! ### Grants -/

theorem dropFirst_append {c : Nat} {r : FabReq} {before rest : List FabReq} (hr : r.req = c) (hbefore : ∀ x ∈ before, x.req ≠ c) :
    dropFirst c (before ++ r :: rest) = before ++ rest := by
  induction before with
  | nil => simp [dropFirst, hr]
  | cons x before ih =>
    obtain ⟨hx, hrest⟩ := List.forall_mem_cons.1 hbefore
    simp only [List.cons_append, dropFirst, if_neg hx, ih hrest]

theorem find?_first {c : Nat} {r : FabReq} {before rest : List FabReq} (hr : r.req = c) (hbefore : ∀ x ∈ before, x.req ≠ c) :
    (before ++ r :: rest).find? (fun x => x.req == c) = some r := by
  rw [List.find?_append, List.find?_eq_none.2 (by simpa using hbefore), Option.none_or]
  simp [hr]

/-- The first request of a requester in a list that holds one. -/
theorem exists_first {l : List FabReq} {c : Nat} (h : ∃ r ∈ l, r.req = c) :
    ∃ before r rest, l = before ++ r :: rest ∧ r.req = c ∧ ∀ x ∈ before, x.req ≠ c := by
  induction l with
  | nil => simp at h
  | cons x l ih =>
    by_cases hx : x.req = c
    · exact ⟨[], x, l, rfl, hx, by simp⟩
    · obtain ⟨r, hmem, hr⟩ := h
      rcases List.mem_cons.1 hmem with rfl | hmem
      · exact absurd hr hx
      · obtain ⟨before, r, rest, rfl, hreq, hall⟩ := ih ⟨r, hmem, hr⟩
        exact ⟨x :: before, r, rest, rfl, hreq, List.forall_mem_cons.2 ⟨hx, hall⟩⟩

/-- A grant moves the first waiting request of the requester into the queue. -/
theorem Chip.target_grant {u : Chip} {g c : Nat} {r : FabReq} {before rest : List FabReq} (hg : g < u.fab.targets.length)
    (hwait : (u.target g).waiting = before ++ r :: rest) (hr : r.req = c) (hbefore : ∀ x ∈ before, x.req ≠ c) :
    (u.grant g c).target g = { u.target g with waiting := before ++ rest, queue := (u.target g).queue ++ [{ r with granted := u.now }] } := by
  unfold Chip.grant
  rw [target_modTarget_same _ hg]
  dsimp only
  rw [hwait, find?_first hr hbefore, dropFirst_append hr hbefore]

section
variable {s : State}

theorem completes_arbitrationDecision_idle (g slot : Nat) (h : 6 < g ∨ (s.chip.target g).hung = true ∨ (s.chip.target g).waiting = []) :
    Completes (.arbitrationDecision g slot) s (fun t => t = s.chip) := by
  refine ⟨_, show execArbitrationDecision g slot s = s.become s.chip from ?_, rfl⟩
  unfold execArbitrationDecision
  dsimp only
  by_cases hout : 6 < g ∨ (s.chip.target g).hung = true
  · rw [if_pos hout]
  · have hwait : (s.chip.target g).waiting = [] := by tauto
    rw [if_neg hout, hwait]
    have hids : (s.chip.target g).pendingIds = [] := by simp [FabTarget.pendingIds, hwait]
    cases slotChannel g slot <;> simp [hids]

theorem completes_arbitrationDecision_reserved (g c : Nat) (r : FabReq) (before rest : List FabReq) (hg : g = 3 ∨ g = 5) (hc : c < 3)
    (hlen : s.chip.fab.targets.length = 7) (hhung : (s.chip.target g).hung = false) (hwait : (s.chip.target g).waiting = before ++ r :: rest) (hr : r.req = c)
    (hbefore : ∀ x ∈ before, x.req ≠ c) (hqueue : ∀ x ∈ (s.chip.target g).queue, x.req ≠ c) :
    Completes (.arbitrationDecision g (5 * c)) s (fun t => t.target g = { s.chip.target g with waiting := before ++ rest, queue := (s.chip.target g).queue ++ [{ r with granted := s.chip.now }] } ∧
      t.regs = s.chip.regs) := by
  have hslot : slotChannel g (5 * c) = some c := by
    have : ∀ d < 3, slotChannel 3 (5 * d) = some d ∧ slotChannel 5 (5 * d) = some d := by decide
    rcases hg with rfl | rfl
    · exact (this c hc).1
    · exact (this c hc).2
  have hbusy : ((s.chip.target g).waiting.any (fun r => r.req == c) && !(s.chip.target g).queue.any (fun r => r.req == c)) = true := by
    rw [hwait]
    simp only [Bool.and_eq_true, List.any_eq_true, Bool.not_eq_true', List.any_eq_false, beq_iff_eq]
    exact ⟨⟨r, by simp, hr⟩, hqueue⟩
  refine ⟨_, show execArbitrationDecision g (5 * c) s = s.become (s.chip.grant g c) from ?_, target_grant (by omega) hwait hr hbefore, rfl⟩
  unfold execArbitrationDecision
  dsimp only
  rw [if_neg (by simp only [hhung, Bool.false_eq_true, or_false]; omega), hslot]
  dsimp only
  rw [if_pos hbusy]

end

/-! ### The weighted round robin -/

/-- A requester, by its ID minus 3, has a request waiting. -/
def FabTarget.Waits (g : FabTarget) (j : Nat) : Prop := j < 7 ∧ ∃ r ∈ g.waiting, r.req = j + 3

/-- A candidate of R471: aged where a requester is, else with credit. -/
def FabTarget.Cand (g : FabTarget) (j : Nat) : Prop :=
  g.Waits j ∧ ((∃ i, g.Waits i ∧ g.ageLim ≤ g.ages.getD i 0) → g.ageLim ≤ g.ages.getD j 0) ∧
    ((∀ i, g.Waits i → g.ages.getD i 0 < g.ageLim) → 0 < g.credits.getD j 0)

theorem FabTarget.mem_pendingIds {g : FabTarget} {j : Nat} : j ∈ g.pendingIds ↔ g.Waits j := by
  simp [FabTarget.pendingIds, FabTarget.Waits]

theorem FabTarget.mem_candidates {g : FabTarget} {j : Nat} : j ∈ g.candidates ↔ g.Cand j := by
  have haged : ∀ i, i ∈ g.pendingIds.filter (fun j => decide (g.ageLim ≤ g.ages.getD j 0)) ↔ g.Waits i ∧ g.ageLim ≤ g.ages.getD i 0 := by
    simp only [List.mem_filter, mem_pendingIds, decide_eq_true_eq, implies_true]
  unfold FabTarget.candidates FabTarget.Cand
  dsimp only
  split
  · next hnone =>
    have hyoung : ∀ i, g.Waits i → g.ages.getD i 0 < g.ageLim := fun i hi => by
      by_contra hold
      exact List.not_mem_nil ((hnone ▸ haged i).2 ⟨hi, by omega⟩)
    rw [List.mem_filter, mem_pendingIds, decide_eq_true_eq]
    refine ⟨fun ⟨hw, hcred⟩ => ⟨hw, ?_, fun _ => hcred⟩, fun ⟨hw, _, hcred⟩ => ⟨hw, hcred hyoung⟩⟩
    rintro ⟨i, hi, hage⟩
    have := hyoung i hi
    omega
  · next hsome =>
    obtain ⟨i, hi⟩ := List.exists_mem_of_ne_nil _ hsome
    rw [haged]
    refine ⟨fun ⟨hw, hage⟩ => ⟨hw, fun _ => hage, fun hyoung => ?_⟩, fun ⟨hw, hage, _⟩ => ⟨hw, hage ⟨i, (haged i).1 hi⟩⟩⟩
    have := hyoung j hw
    omega

theorem FabTarget.pendingIds_sorted (g : FabTarget) : g.pendingIds.Pairwise (· < ·) := List.pairwise_lt_range.filter _

theorem FabTarget.candidates_sorted (g : FabTarget) : g.candidates.Pairwise (· < ·) := by
  unfold FabTarget.candidates
  dsimp only
  split
  · exact g.pendingIds_sorted.filter _
  · exact g.pendingIds_sorted.filter _

/-- The first candidate at or after the pointer, wrapping (R471). -/
theorem firstFrom_eq {p j : Nat} {l : List Nat} (hsorted : l.Pairwise (· < ·)) (hj : j ∈ l) (hafter : p ≤ j + 3 → ∀ i ∈ l, p ≤ i + 3 → j ≤ i)
    (hwrap : j + 3 < p → ∀ i ∈ l, j ≤ i ∧ i + 3 < p) : firstFrom p l = some j := by
  unfold firstFrom
  by_cases hp : p ≤ j + 3
  · have hfind : l.find? (fun j => decide (p ≤ j + 3)) = some j := by
      have hfirst := hafter hp
      clear hafter hwrap
      induction l with
      | nil => cases hj
      | cons x l ih =>
        obtain ⟨hx, hl⟩ := List.pairwise_cons.1 hsorted
        rcases List.mem_cons.1 hj with rfl | hj
        · simp [hp]
        · have hlow : ¬ p ≤ x + 3 := fun hx3 => by
            have := hfirst x (by simp) hx3
            have := hx j hj
            omega
          rw [List.find?_cons_of_neg (by simpa using hlow)]
          exact ih hl hj (fun i hi => hfirst i (List.mem_cons_of_mem _ hi))
    rw [hfind]
  · have hall := hwrap (by omega)
    have hnone : l.find? (fun j => decide (p ≤ j + 3)) = none := List.find?_eq_none.2 (fun i hi => by
      have := (hall i hi).2
      simp only [decide_eq_true_eq]
      omega)
    rw [hnone]
    cases l with
    | nil => cases hj
    | cons x l =>
      obtain ⟨hx, -⟩ := List.pairwise_cons.1 hsorted
      rcases List.mem_cons.1 hj with rfl | hj
      · rfl
      · have := (hall x (by simp)).1
        have := hx j hj
        omega

/-- The ages after a decision: one more for each of the requesters in `l`. -/
theorem foldl_age (f : Nat → Nat) {l : List Nat} (hl : l.Nodup) (a : List Nat) {i : Nat} (hi : i < a.length) :
    (l.foldl (fun a k => modAt a k f) a).getD i 0 = if i ∈ l then f (a.getD i 0) else a.getD i 0 := by
  induction l generalizing a with
  | nil => simp
  | cons k l ih =>
    obtain ⟨hk, hl⟩ := List.nodup_cons.1 hl
    rw [List.foldl_cons, ih hl _ (by simpa using hi)]
    by_cases hki : k = i
    · subst hki
      rw [if_neg hk, if_pos (by simp), modAt_getD_same _ _ hi]
    · rw [modAt_getD_ne _ _ _ hki]
      simp [Ne.symm hki]

theorem FabTarget.mem_heads_foldl {r : FabReq} {l acc : List FabReq} (h : r ∈ acc) :
    r ∈ l.foldl (fun l r => if l.any (fun x => x.req == r.req) then l else l ++ [r]) acc := by
  induction l generalizing acc with
  | nil => exact h
  | cons x l ih =>
    rw [List.foldl_cons]
    refine ih ?_
    split
    · exact h
    · exact List.mem_append_left _ h

/-- The first waiting request of a requester takes part in the decision. -/
theorem FabTarget.mem_heads {r : FabReq} {before rest : List FabReq} (hbefore : ∀ x ∈ before, x.req ≠ r.req) (acc : List FabReq)
    (hacc : ∀ x ∈ acc, x.req ≠ r.req) :
    r ∈ (before ++ r :: rest).foldl (fun l r => if l.any (fun x => x.req == r.req) then l else l ++ [r]) acc := by
  induction before generalizing acc with
  | nil =>
    rw [List.nil_append, List.foldl_cons, if_neg (by simpa using hacc)]
    exact mem_heads_foldl (by simp)
  | cons x before ih =>
    obtain ⟨hx, hrest⟩ := List.forall_mem_cons.1 hbefore
    rw [List.cons_append, List.foldl_cons]
    refine ih hrest _ ?_
    split
    · exact hacc
    · intro y hy
      rcases List.mem_append.1 hy with hy | hy
      · exact hacc y hy
      · rw [List.mem_singleton.1 hy]
        exact hx

/-- A target after the decision for requester `j + 3`: pointer, credit and ages (R471). -/
def FabTarget.passed (g : FabTarget) (j : Nat) : FabTarget :=
  { g with
    pointer := if j = 6 then 3 else j + 4
    credits := modAt g.credits j (· - 1)
    ages := (g.pendingIds.filter (fun k => k != j)).foldl (fun l k => modAt l k (fun a => min (a + 1) 1023)) (modAt g.ages j (fun _ => 0)) }

/-- The requests that a decision for requester `j + 3` passes over. -/
def FabTarget.lost (g : FabTarget) (j : Nat) : List FabReq := g.heads.filter (fun r => decide (3 ≤ r.req) && r.req != j + 3)

/-- Those of them that have waited too long (R471, STARVE). -/
def FabTarget.starved (g : FabTarget) (t j : Nat) : List FabReq := (g.lost j).filter (fun r => decide (r.waits + 1 = g.ageLim + reachCount t))

/-- The requests that wait at a target, each with its count of decisions. -/
def FabTarget.counted (g : FabTarget) (j : Nat) : FabTarget :=
  { g.passed j with waiting := g.waiting.map (fun r => if (g.lost j).contains r then { r with waits := r.waits + 1 } else r) }

/-- STARVE for each request of a list. -/
def Chip.starve (u : Chip) (t : Nat) (l : List FabReq) : Chip := l.foldl (fun u r => (u.arbError 3 r.req t r.addr).nonsafetyFault 0x6005) u

theorem Chip.roundRobin_eq {u : Chip} {t j : Nat} {k : FabTarget} (hk : (if (u.target t).candidates = [] then u.reload t (u.target t) else u.target t) = k)
    (hj : firstFrom k.pointer k.candidates = some j) : u.roundRobin t = (((u.modTarget t (fun _ => k.counted j)).highWater (Reg.ARB_LAT.MAX t)
      ((k.lost j).foldl (fun m r => max m (r.waits + 1)) 0)).starve t (k.starved t j)).grant t (j + 3) := by
  unfold Chip.roundRobin
  dsimp only
  rw [hk, hj]
  rfl

theorem Chip.starve_within {u : Chip} {t : Nat} {l : List FabReq} : Within ⟨frLog, some [0x407, 0x409, 0x40A]⟩ u (u.starve t l) := by
  unfold Chip.starve
  exact Within.foldl fun _ _ => (arbError_within.trans nonsafetyFault_within).le (by decide)

theorem Chip.nonsafetyFault_now (u : Chip) (fcode : Nat) : (u.nonsafetyFault fcode).now = u.now := by
  simp [Chip.nonsafetyFault, Chip.faultEvent, Chip.satInc]

theorem Chip.arbError_now (u : Chip) (b req tgt a : Nat) : (u.arbError b req tgt a).now = u.now := by
  rw [arbError_eq]
  split
  · simp [Chip.chanIrq, Chip.arbReported, Chip.arbShown]
  · simp [Chip.arbReported, Chip.arbShown]

theorem Chip.starve_now (u : Chip) (t : Nat) (l : List FabReq) : (u.starve t l).now = u.now :=
  foldl_keeps Chip.now (fun _ _ => (nonsafetyFault_now ..).trans (arbError_now ..)) l u

theorem Chip.starve_cause_keeps (u : Chip) (t : Nat) (l : List FabReq) (h : (u.get Reg.ARB_ERR.CAUSE).testBit 3 = true) :
    ((u.starve t l).get Reg.ARB_ERR.CAUSE).testBit 3 = true := by
  unfold Chip.starve
  induction l generalizing u with
  | nil => exact h
  | cons r l ih =>
    refine ih _ ?_
    rw [nonsafetyFault_within.regs _ (by decide) (by decide) (by decide) (by decide), arbError_cause _ _ _ _ _ (by decide)]
    simp

theorem Chip.starve_cause (u : Chip) (t : Nat) {l : List FabReq} (h : l ≠ []) : ((u.starve t l).get Reg.ARB_ERR.CAUSE).testBit 3 = true := by
  cases l with
  | nil => exact absurd rfl h
  | cons r l =>
    refine starve_cause_keeps _ t l ?_
    rw [nonsafetyFault_within.regs _ (by decide) (by decide) (by decide) (by decide), arbError_cause _ _ _ _ _ (by decide)]
    simp

theorem Chip.highWater_fab (u : Chip) (f : Fld) (v : Nat) : (u.highWater f v).fab = u.fab := rfl

/-- The requester that wins, and its first waiting request. -/
theorem Chip.target_roundRobin {u : Chip} {t j : Nat} {k : FabTarget} (ht : t < u.fab.targets.length)
    (hk : (if (u.target t).candidates = [] then u.reload t (u.target t) else u.target t) = k) (hj : firstFrom k.pointer k.candidates = some j)
    (hwaits : k.Waits j) : ∃ before r rest, k.waiting = before ++ r :: rest ∧ r.req = j + 3 ∧
      ∃ after, after.length = before.length + rest.length ∧
        (u.roundRobin t).target t = { k.passed j with waiting := after, queue := k.queue ++ [{ r with granted := u.now }] } := by
  obtain ⟨-, hmem⟩ := hwaits
  obtain ⟨before, r, rest, hwait, hr, hbefore⟩ := exists_first hmem
  refine ⟨before, r, rest, hwait, hr, ?_⟩
  have hown : (k.lost j).contains r = false := by simp [FabTarget.lost, hr]
  generalize hcount : (fun r : FabReq => if (k.lost j).contains r then { r with waits := r.waits + 1 } else r) = count
  have hreq : ∀ x, (count x).req = x.req := fun x => by
    rw [← hcount]
    dsimp only
    split <;> rfl
  have hr' : count r = r := by rw [← hcount]; simp only [hown, Bool.false_eq_true, if_false]
  set y := ((u.modTarget t (fun _ => k.counted j)).highWater (Reg.ARB_LAT.MAX t) ((k.lost j).foldl (fun m r => max m (r.waits + 1)) 0)) with hy
  have hyfab : (y.starve t (k.starved t j)).fab = (u.modTarget t (fun _ => k.counted j)).fab := starve_within.same .fab (by decide)
  have htarget : (y.starve t (k.starved t j)).target t = k.counted j := (target_of_fab hyfab t).trans (target_modTarget_same _ ht)
  have hlen : t < (y.starve t (k.starved t j)).fab.targets.length := by
    rw [hyfab]
    simpa [Chip.modTarget] using ht
  have hnow : (y.starve t (k.starved t j)).now = u.now := starve_now ..
  refine ⟨before.map count ++ rest.map count, by simp, ?_⟩
  rw [roundRobin_eq hk hj, ← hy, target_grant (r := r) (before := before.map count) (rest := rest.map count) hlen ?_ hr ?_, htarget, hnow]
  · rfl
  · rw [htarget]
    unfold FabTarget.counted
    simp only
    rw [hcount, hwait, List.map_append, List.map_cons, hr']
  · intro x hx
    obtain ⟨w, hw, rfl⟩ := List.mem_map.1 hx
    rw [hreq]
    exact hbefore w hw

theorem Chip.roundRobin_starves {u : Chip} {t j : Nat} {k : FabTarget}
    (hk : (if (u.target t).candidates = [] then u.reload t (u.target t) else u.target t) = k) (hj : firstFrom k.pointer k.candidates = some j)
    (h : k.starved t j ≠ []) : ((u.roundRobin t).get Reg.ARB_ERR.CAUSE).testBit 3 = true := by
  rw [roundRobin_eq hk hj]
  exact starve_cause _ t h

theorem FabTarget.starved_of_first {k : FabTarget} {t j n : Nat} {r : FabReq} (hn : k.waiting[n]? = some r) (h3 : 3 ≤ r.req) (hj : r.req ≠ j + 3)
    (hfirst : ∀ m x, m < n → k.waiting[m]? = some x → x.req ≠ r.req) (hwaits : r.waits + 1 = k.ageLim + reachCount t) : k.starved t j ≠ [] := by
  obtain ⟨hlt, hget⟩ := List.getElem?_eq_some_iff.1 hn
  have hsplit : k.waiting = k.waiting.take n ++ r :: k.waiting.drop (n + 1) := by
    rw [← hget, ← List.drop_eq_getElem_cons hlt, List.take_append_drop]
  have hbefore : ∀ x ∈ k.waiting.take n, x.req ≠ r.req := fun x hx => by
    obtain ⟨m, hm⟩ := List.mem_iff_getElem?.1 hx
    rw [List.getElem?_take] at hm
    split at hm
    · next hmn => exact hfirst m x hmn hm
    · cases hm
  have hheads : r ∈ k.heads := by
    unfold FabTarget.heads
    rw [hsplit]
    exact mem_heads hbefore [] (by simp)
  refine List.ne_nil_of_mem (a := r) ?_
  simp only [FabTarget.starved, FabTarget.lost, List.mem_filter, Bool.and_eq_true, decide_eq_true_eq, bne_iff_ne]
  exact ⟨⟨hheads, h3, hj⟩, hwaits⟩

section
variable {s : State}

/-- Outside a reserved slot that is taken a free queue entry goes to the weighted round robin. -/
theorem execArbitrationDecision_roundRobin {g slot j : Nat} (hg : g < 7) (hhung : (s.chip.target g).hung = false)
    (hslot : ∀ c, slotChannel g slot = some c → ∀ x ∈ (s.chip.target g).waiting, x.req ≠ c)
    (hfree : ((s.chip.target g).queue.filter (fun r => decide (3 ≤ r.req))).length < queueDepth g) (hj : (s.chip.target g).Waits j) :
    execArbitrationDecision g slot s = s.become (s.chip.roundRobin g) := by
  have hids : (s.chip.target g).pendingIds ≠ [] := List.ne_nil_of_mem (FabTarget.mem_pendingIds.2 hj)
  unfold execArbitrationDecision
  dsimp only
  rw [if_neg (by simp only [hhung, Bool.false_eq_true, or_false]; omega)]
  cases hc : slotChannel g slot with
  | none => simp only [if_pos (show _ ∧ _ from ⟨hfree, hids⟩)]
  | some c =>
    have hnone : (s.chip.target g).waiting.any (fun r => r.req == c) = false := by simpa using hslot c hc
    simp only [hnone, Bool.false_and, Bool.false_eq_true, if_false, if_pos (show _ ∧ _ from ⟨hfree, hids⟩)]

theorem completes_arbitrationDecision_roundRobin (g slot : Nat) (hg : g < 7) (hlen : s.chip.fab.targets.length = 7) (hhung : (s.chip.target g).hung = false)
    (hslot : ∀ c, slotChannel g slot = some c → ∀ x ∈ (s.chip.target g).waiting, x.req ≠ c)
    (hfree : ((s.chip.target g).queue.filter (fun r => decide (3 ≤ r.req))).length < queueDepth g) (hcred : (s.chip.target g).credits.length = 7)
    (hages : (s.chip.target g).ages.length = 7) {k : FabTarget} (hk : (∃ j, (s.chip.target g).Cand j) → k = s.chip.target g)
    (hreload : (∀ j, ¬ (s.chip.target g).Cand j) → k = s.chip.reload g (s.chip.target g)) {j : Nat} (hj : k.Cand j)
    (hafter : k.pointer ≤ j + 3 → ∀ i, k.Cand i → k.pointer ≤ i + 3 → j ≤ i) (hwrap : j + 3 < k.pointer → ∀ i, k.Cand i → j ≤ i ∧ i + 3 < k.pointer) :
    Completes (.arbitrationDecision g slot) s (fun t =>
        (t.target g).pointer = (if j = 6 then 3 else j + 4) ∧ (t.target g).credits.getD j 0 = k.credits.getD j 0 - 1 ∧ (t.target g).ages.getD j 0 = 0 ∧
        (∀ i, i ≠ j → (t.target g).credits.getD i 0 = k.credits.getD i 0) ∧
        (∀ i, i ≠ j → (s.chip.target g).Waits i → (t.target g).ages.getD i 0 = min (k.ages.getD i 0 + 1) 1023) ∧
        (t.target g).queue.length = (s.chip.target g).queue.length + 1 ∧ (t.target g).waiting.length + 1 = (s.chip.target g).waiting.length ∧
        (∃ r ∈ (s.chip.target g).waiting, r.req = j + 3 ∧ (t.target g).queue = (s.chip.target g).queue ++ [{ r with granted := s.chip.now }]) ∧
        (∀ (n : Nat) (r : FabReq), (s.chip.target g).waiting[n]? = some r → 3 ≤ r.req → r.req ≠ j + 3 →
          (∀ m x, m < n → (s.chip.target g).waiting[m]? = some x → x.req ≠ r.req) →
          r.waits + 1 = k.ageLim + reachCount g → (t.get Reg.ARB_ERR.CAUSE).testBit 3 = true)) := by
  have hround : (if (s.chip.target g).candidates = [] then s.chip.reload g (s.chip.target g) else s.chip.target g) = k := by
    split
    · next hnone => exact (hreload fun i hi => List.not_mem_nil (hnone ▸ FabTarget.mem_candidates.2 hi)).symm
    · next hsome =>
      obtain ⟨i, hi⟩ := List.exists_mem_of_ne_nil _ hsome
      exact (hk ⟨i, FabTarget.mem_candidates.1 hi⟩).symm
  have hkept : k.waiting = (s.chip.target g).waiting ∧ k.queue = (s.chip.target g).queue ∧ k.ages = (s.chip.target g).ages ∧ k.credits.length = 7 := by
    rw [← hround]
    split
    · exact ⟨rfl, rfl, rfl, by simp [Chip.reload]⟩
    · exact ⟨rfl, rfl, rfl, hcred⟩
  obtain ⟨hkwait, hkqueue, hkages, hkcred⟩ := hkept
  have hwaitsIff : ∀ i, k.Waits i ↔ (s.chip.target g).Waits i := fun i => by unfold FabTarget.Waits; rw [hkwait]
  have hwaits : k.Waits j := hj.1
  have hj7 : j < 7 := hwaits.1
  have hfirst : firstFrom k.pointer k.candidates = some j := firstFrom_eq k.candidates_sorted (FabTarget.mem_candidates.2 hj)
    (fun hp i hi => hafter hp i (FabTarget.mem_candidates.1 hi)) (fun hp i hi => hwrap hp i (FabTarget.mem_candidates.1 hi))
  obtain ⟨before, r, rest, hsplit, hr, after, hafterLen, htarget⟩ := target_roundRobin (by omega) hround hfirst hwaits
  refine ⟨_, execArbitrationDecision_roundRobin hg hhung hslot hfree ((hwaitsIff j).1 hwaits), ?_⟩
  dsimp only
  rw [htarget, ← hkwait, ← hkqueue]
  have hnodup : (k.pendingIds.filter (fun i => i != j)).Nodup := (k.pendingIds_sorted.filter _).imp (fun h => Nat.ne_of_lt h)
  have hagesAt : ∀ i, i < 7 → (k.passed j).ages.getD i 0 =
      if i ∈ k.pendingIds.filter (fun i => i != j) then min ((modAt k.ages j (fun _ => 0)).getD i 0 + 1) 1023 else (modAt k.ages j (fun _ => 0)).getD i 0 :=
    fun i hi => foldl_age _ hnodup _ (by simp [hkages]; omega)
  refine ⟨rfl, modAt_getD_same _ _ (by omega), ?_, fun i hi => modAt_getD_ne _ _ _ hi.symm, fun i hi hw => ?_, by simp, ?_, ⟨r, ?_, hr, rfl⟩,
    fun n x hn h3 hne hlead hstarve => ?_⟩
  · refine (hagesAt j hj7).trans ?_
    rw [if_neg (by simp), modAt_getD_same _ _ (by rw [hkages]; omega)]
  · refine (hagesAt i hw.1).trans ?_
    rw [if_pos (by simp [FabTarget.mem_pendingIds, hwaitsIff, hw, hi]), modAt_getD_ne _ _ _ hi.symm]
  · rw [hsplit]
    simp [hafterLen]
    omega
  · rw [hsplit]
    simp
  · exact roundRobin_starves hround hfirst (FabTarget.starved_of_first hn h3 hne hlead hstarve)

end

end Sys2Proof.Machine
end

section
namespace Sys2Proof.Machine
open Chip

/-! ### Responses and hung targets -/

/-- The outstanding entries of the requests of a list are free. -/
def Chip.freed (u : Chip) (l : List FabReq) : Chip := l.foldl (fun u x => u.modOutstanding x.req (· - 1)) u

theorem Chip.freed_within {u : Chip} {l : List FabReq} : Within ⟨[.fab], some [0x40A]⟩ u (u.freed l) := by
  unfold Chip.freed
  exact Within.foldl fun _ _ => modOutstanding_within

theorem Chip.freed_now (u : Chip) (l : List FabReq) : (u.freed l).now = u.now := by
  unfold Chip.freed
  exact foldl_keeps Chip.now (by intros; rfl) l u

theorem Chip.freed_targets (u : Chip) (l : List FabReq) : (u.freed l).fab.targets = u.fab.targets := by
  unfold Chip.freed
  exact foldl_keeps (fun t : Chip => t.fab.targets) (by intros; rfl) l u

theorem Chip.freed_outOf (u : Chip) (l : List FabReq) {q : Nat} (hq : q < u.fab.out.length) :
    (u.freed l).outOf q = u.outOf q - (l.filter (fun x => x.req == q)).length := by
  unfold Chip.freed
  induction l generalizing u with
  | nil => rfl
  | cons x l ih =>
    rw [List.foldl_cons, ih _ (by simpa [modOutstanding_fab] using hq)]
    by_cases hx : x.req = q
    · subst hx
      rw [outOf_modOutstanding_same _ hq, List.filter_cons_of_pos (by simp), List.length_cons]
      omega
    · rw [outOf_modOutstanding_ne _ hx, List.filter_cons_of_neg (by simpa using hx)]

/-- Channel interrupt 114 for every request of a list (Table 16.8). -/
def Chip.hungIrqs (u : Chip) (l : List FabReq) : Chip := l.foldl (fun u x => u.chanIrq x.req 114) u

theorem Chip.hungIrqs_within {u : Chip} {l : List FabReq} : Within ⟨[.cic], some []⟩ u (u.hungIrqs l) := by
  unfold Chip.hungIrqs
  exact Within.foldl fun _ _ => chanIrq_within

theorem Chip.hungIrqs_get (u : Chip) (l : List FabReq) (f : Fld) : (u.hungIrqs l).get f = u.get f := by
  unfold Chip.hungIrqs
  exact foldl_keeps (fun t : Chip => t.get f) (by intros; rfl) l u

theorem Chip.hungIrqs_now (u : Chip) (l : List FabReq) : (u.hungIrqs l).now = u.now := by
  unfold Chip.hungIrqs
  exact foldl_keeps Chip.now (by intros; rfl) l u

theorem Chip.hungIrqs_resp (u : Chip) (l : List FabReq) : (u.hungIrqs l).resp = u.resp := by
  unfold Chip.hungIrqs
  exact foldl_keeps Chip.resp (by intros; rfl) l u

theorem Chip.hungIrqs_keeps (u : Chip) (l : List FabReq) {d : Nat} (hd : d < 3) (h : (u.cic.get d).pend.testBit 114 = true) :
    ((u.hungIrqs l).cic.get d).pend.testBit 114 = true := by
  unfold Chip.hungIrqs
  induction l generalizing u with
  | nil => exact h
  | cons x l ih => exact ih _ (chanIrq_pend_keeps u hd h)

theorem Chip.hungIrqs_pend (u : Chip) {l : List FabReq} {x : FabReq} (hx : x ∈ l) (hreq : x.req < 3) :
    ((u.hungIrqs l).cic.get x.req).pend.testBit 114 = true := by
  induction l generalizing u with
  | nil => cases hx
  | cons y l ih =>
    rcases List.mem_cons.1 hx with rfl | hx
    · refine hungIrqs_keeps (u.chanIrq x.req 114) l hreq ?_
      rw [chanIrq_pend_same _ hreq, Nat.testBit_or, Nat.testBit_two_pow_self, Bool.or_true]
    · exact ih (u.chanIrq y.req 114) hx

/-- A target after its hang: its queue is lost and the outstanding entries of that are free (R477). -/
def Chip.hungTarget (u : Chip) (g : Nat) (r : FabReq) (rest : List FabReq) : Chip :=
  ((u.until (r.granted + us 100)).modTarget g (fun g => { g with queue := [], hung := true })).freed (r :: rest)

/-- The same with the error and the interrupts of the channels' requests. -/
def Chip.hungShown (u : Chip) (g : Nat) (r : FabReq) (rest : List FabReq) : Chip :=
  ((u.hungTarget g r rest).arbError 2 r.req g r.addr).refuse.hungIrqs (rest.filter (fun x => decide (x.req < 3)))

section
variable {s : State} {g : Nat} {r : FabReq} {rest : List FabReq}

theorem execArbHung_held (hqueue : (s.chip.target g).queue = r :: rest) : execArbHung g s = s.become
    (if (r :: rest).any (fun x => decide (x.req < 3)) then s.chip.hungShown g r rest else (s.chip.hungShown g r rest).nonsafetyFault 0x6004) := by
  unfold execArbHung
  dsimp only
  rw [hqueue]
  rfl

theorem completes_fabricResponse (hg : g < 7) (htargets : s.chip.fab.targets.length = 7) (houts : s.chip.fab.out.length = 10) (hr : r.req ≤ 9)
    (hqueue : (s.chip.target g).queue = r :: rest) :
    Completes (.fabricResponse g) s (fun t => t.target g = { s.chip.target g with queue := rest } ∧ t.outOf r.req = s.chip.outOf r.req - 1 ∧ t.resp = .ok ∧
      (∀ q, q ≠ r.req → t.outOf q = s.chip.outOf q)) := by
  refine ⟨((s.chip.modTarget g (fun g => { g with queue := rest })).modOutstanding r.req (· - 1)).answer .ok, ?_, ?_, ?_, rfl, fun q hq => ?_⟩
  · change execFabricResponse g s = _
    unfold execFabricResponse
    dsimp only
    rw [hqueue]
    rfl
  · exact target_modTarget_same _ (by omega)
  · exact outOf_modOutstanding_same (u := Chip.modTarget ..) _ (by change r.req < s.chip.fab.out.length; omega)
  · exact outOf_modOutstanding_ne (u := Chip.modTarget ..) _ hq.symm

/-- What a hang leaves at the targets and at the requesters. -/
theorem Chip.hungTarget_shows {u : Chip} (hg : g < 7) (htargets : u.fab.targets.length = 7) (houts : u.fab.out.length = 10) :
    ((u.hungTarget g r rest).target g).hung = true ∧ ((u.hungTarget g r rest).target g).queue = [] ∧
      ((u.hungTarget g r rest).target g).waiting = (u.target g).waiting ∧ r.granted + us 100 ≤ (u.hungTarget g r rest).now ∧
      ∀ q, q ≤ 9 → (u.hungTarget g r rest).outOf q = u.outOf q - ((r :: rest).filter (fun x => x.req == q)).length := by
  have hfab : (u.until (r.granted + us 100)).fab = u.fab := until_fab ..
  have htarget : (u.hungTarget g r rest).target g = { u.target g with queue := [], hung := true } := by
    have hmod := target_modTarget_same (u := u.until (r.granted + us 100)) (g := g) (fun g => { g with queue := [], hung := true }) (by rw [hfab]; omega)
    rw [target_of_fab hfab] at hmod
    rw [← hmod]
    unfold Chip.hungTarget Chip.target
    rw [freed_targets]
  rw [htarget]
  refine ⟨rfl, rfl, rfl, ?_, fun q hq => ?_⟩
  · have hnow : (u.hungTarget g r rest).now = max u.now (r.granted + us 100) := (freed_now ..).trans (until_now ..)
    rw [hnow]
    exact le_max_right ..
  · unfold Chip.hungTarget
    rw [freed_outOf _ _ (by change q < (u.until (r.granted + us 100)).fab.out.length; rw [hfab]; omega)]
    exact congrArg (· - _) (outOf_of_fab hfab q)

theorem Chip.hungTarget_intake (u : Chip) (g : Nat) (r : FabReq) (rest : List FabReq) : (u.hungTarget g r rest).intake = u.intake :=
  (freed_within.same .intake (by decide)).trans (until_intake u (r.granted + us 100))

/-- What the hang of a target shows: the error and the fault that may follow leave targets and requesters alone. -/
structure Chip.HungShown (u : Chip) (g : Nat) (r : FabReq) (rest : List FabReq) (t : Chip) : Prop where
  fab : t.fab = (u.hungTarget g r rest).fab
  now : t.now = (u.hungTarget g r rest).now
  resp : t.resp = .error
  reports : t.reports 27 3 [r.req, g, r.addr] = true
  cause : (t.get Reg.ARB_ERR.CAUSE).testBit 2 = true

theorem Chip.hungShown_shows {u : Chip} (hs : u.staged 27 = false) (hg : g < 7) (hr : r.req ≤ 9) : HungShown u g r rest (u.hungShown g r rest) := by
  have hfailed := arbError_failed (b := 2) (req := r.req) (tgt := g) (a := r.addr) ((staged_of_intake (u.hungTarget_intake g r rest) 27).trans hs)
    (by decide) (by omega) (by omega)
  unfold Chip.hungShown
  refine ⟨?_, ?_, hungIrqs_resp .., ?_, ?_⟩
  · exact (hungIrqs_within.same .fab (by decide)).trans hfailed.fab
  · exact (hungIrqs_now ..).trans (arbError_now ..)
  · exact (LogKept.of_intake (hungIrqs_within.same .intake (by decide))).reports hfailed.reports
  · rw [hungIrqs_get]
    exact hfailed.cause

theorem Chip.HungShown.fault {u t : Chip} (h : HungShown u g r rest t) : HungShown u g r rest (t.nonsafetyFault 0x6004) where
  fab := (nonsafetyFault_within.same .fab (by decide)).trans h.fab
  now := (nonsafetyFault_now ..).trans h.now
  resp := by
    rw [← h.resp]
    simp [Chip.nonsafetyFault, Chip.faultEvent, Chip.satInc]
  reports := (nonsafetyFault_logKept t _).reports h.reports
  cause := by
    rw [nonsafetyFault_within.regs _ (by decide) (by decide) (by decide) (by decide)]
    exact h.cause

theorem Chip.hungShown_pend {u : Chip} (hs : u.staged 27 = false) (hg : g < 7) (hr : r.req ≤ 9) {x : FabReq} (hx : x ∈ r :: rest) (hreq : x.req < 3) :
    ((u.hungShown g r rest).cic.get x.req).pend.testBit 114 = true := by
  unfold Chip.hungShown
  rcases List.mem_cons.1 hx with rfl | hx
  · refine hungIrqs_keeps _ _ hreq ?_
    exact (arbError_failed (b := 2) (req := x.req) (tgt := g) (a := x.addr) ((staged_of_intake (u.hungTarget_intake g x rest) 27).trans hs)
      (by decide) (by omega) (by omega)).channel hreq
  · exact hungIrqs_pend _ (by simp [hx, hreq]) hreq

theorem completes_arbHung (hg : g < 7) (htargets : s.chip.fab.targets.length = 7) (houts : s.chip.fab.out.length = 10)
    (hqueue : (s.chip.target g).queue = r :: rest) (hreqs : ∀ x ∈ r :: rest, x.req ≤ 9) (hs : s.chip.staged 27 = false) :
    Completes (.arbHung g) s (fun t => (t.target g).hung = true ∧ (t.target g).queue = [] ∧ (t.target g).waiting = (s.chip.target g).waiting ∧ t.resp = .error ∧
      t.reports 27 3 [r.req, g, r.addr] = true ∧ (t.get Reg.ARB_ERR.CAUSE).testBit 2 = true ∧ r.granted + us 100 ≤ t.now ∧
      (∀ q, q ≤ 9 → t.outOf q = s.chip.outOf q - ((r :: rest).filter (fun x => x.req == q)).length) ∧
      (∀ x ∈ r :: rest, x.req < 3 → (t.cic.get x.req).pend.testBit 114 = true)) := by
  have hr : r.req ≤ 9 := hreqs r (by simp)
  have hshown := hungShown_shows (rest := rest) hs hg hr
  obtain ⟨hhung, hempty, hwait, hnow, hout⟩ := hungTarget_shows (r := r) (rest := rest) hg htargets houts
  have hall : ∀ {t : Chip}, HungShown s.chip g r rest t → (t.target g).hung = true ∧ (t.target g).queue = [] ∧ (t.target g).waiting = (s.chip.target g).waiting ∧
      t.resp = .error ∧ t.reports 27 3 [r.req, g, r.addr] = true ∧ (t.get Reg.ARB_ERR.CAUSE).testBit 2 = true ∧ r.granted + us 100 ≤ t.now ∧
      (∀ q, q ≤ 9 → t.outOf q = s.chip.outOf q - ((r :: rest).filter (fun x => x.req == q)).length) := fun {t} h => by
    rw [target_of_fab h.fab, h.now]
    exact ⟨hhung, hempty, hwait, h.resp, h.reports, h.cause, hnow, fun q hq => (outOf_of_fab h.fab q).trans (hout q hq)⟩
  cases hany : (r :: rest).any (fun x => decide (x.req < 3)) with
  | true =>
    obtain ⟨h1, h2, h3, h4, h5, h6, h7, h8⟩ := hall hshown
    exact ⟨_, (execArbHung_held hqueue).trans (congrArg s.become (if_pos hany)), h1, h2, h3, h4, h5, h6, h7, h8, fun x hx hreq => hungShown_pend hs hg hr hx hreq⟩
  | false =>
    obtain ⟨h1, h2, h3, h4, h5, h6, h7, h8⟩ := hall hshown.fault
    refine ⟨_, (execArbHung_held hqueue).trans (congrArg s.become (if_neg (by simp [hany]))), h1, h2, h3, h4, h5, h6, h7, h8, fun x hx hreq => ?_⟩
    have := List.any_eq_false.1 hany x hx
    simp [hreq] at this

theorem fabric_idle (hqueue : (s.chip.target g).queue = []) :
    Completes (.fabricResponse g) s (fun t => t = s.chip) ∧ Completes (.arbHung g) s (fun t => t = s.chip) :=
  ⟨⟨_, show execFabricResponse g s = _ by unfold execFabricResponse; dsimp only; rw [hqueue]; rfl, rfl⟩,
    ⟨_, show execArbHung g s = _ by unfold execArbHung; dsimp only; rw [hqueue]; rfl, rfl⟩⟩

end

/-- Settles O46. -/
theorem fabricArbiter : Obligations.FabricArbiter := by
  unfold Obligations.FabricArbiter
  refine ⟨fun req a wr s h => completes_fabricRequest_limit h, fun req a wr s hreq hout hs => completes_fabricRequest hreq hout hs,
    fun g slot s h => completes_arbitrationDecision_idle g slot h,
    fun g c r before rest s hg hc hlen hhung hwait hr hbefore hqueue => completes_arbitrationDecision_reserved g c r before rest hg hc hlen hhung hwait hr hbefore hqueue,
    ?_, fun g s h => fabric_idle h, fun g r rest s hg htargets houts hr hqueue => completes_fabricResponse hg htargets houts hr hqueue,
    fun g r rest s hg htargets houts hqueue hreqs hs => completes_arbHung hg htargets houts hqueue hreqs hs⟩
  intro g slot s hg hlen hhung hslot hfree hcred hages g0 waits cand k hk hreload j hj hafter hwrap
  have hkept : k.waiting = g0.waiting := by
    by_cases h : ∃ i, cand g0 i
    · rw [hk h]
    · rw [hreload (fun i hi => h ⟨i, hi⟩)]
      rfl
  have hcand : ∀ i, k.Cand i ↔ cand k i := fun i => by
    unfold FabTarget.Cand FabTarget.Waits
    rw [hkept]
  exact completes_arbitrationDecision_roundRobin g slot hg hlen hhung hslot hfree hcred hages hk hreload ((hcand j).2 hj)
    (fun hp i hi => hafter hp i ((hcand i).1 hi)) (fun hp i hi => hwrap hp i ((hcand i).1 hi))

end Sys2Proof.Machine
end

section
/-!
PROOFS. The field ports (14 R409 to R431): delivery by class, refused transmission, PLCA, bus-off, engines, links and the
service port.
-/
namespace Sys2Proof.Machine
open Chip

/-! ### Port state and port registers -/

section
variable {u : Chip} {p q : Nat}

theorem Chip.pt_modPt_same (g : PortRt → PortRt) (hp : p < u.ports.length) : (u.modPt p g).pt p = g (u.pt p) := modAt_getD_same _ _ hp

theorem Chip.pt_modPt_ne (g : PortRt → PortRt) (hne : p ≠ q) : (u.modPt p g).pt q = u.pt q := modAt_getD_ne _ _ _ hne

@[simp] theorem Chip.modPt_get (u : Chip) (p : Nat) (g : PortRt → PortRt) (f : Fld) : (u.modPt p g).get f = u.get f := rfl

theorem Chip.pt_of_ports {t : Chip} (h : t.ports = u.ports) (p : Nat) : t.pt p = u.pt p := by
  unfold Chip.pt
  rw [h]

/-- The registers of a port lie outside event intake's block. -/
theorem portPage_block (p : Nat) {off : Nat} (hoff : off < 0x2000) : 0x40000000 ≤ portPage p + off ∧ (portPage p + off) / 0x100000 ≠ 0x409 := by
  unfold portPage
  split_ifs <;> omega

theorem Chip.get_raise_port (u : Chip) (src code : Nat) (d : List Nat) {p off : Nat} {f : Fld} (hlo : f.lo < 32) (hoff : off < 0x2000)
    (haddr : f.addr = portPage p + off) : (u.raise src code d).get f = u.get f := by
  obtain ⟨hlow, hblock⟩ := portPage_block p hoff
  exact get_raise _ _ _ _ f hlo (by rw [haddr]; exact hlow) (by rw [haddr]; exact hblock)

end

/-! ### Reception -/

section
variable {u : Chip} {p : Nat}

/-- A frame is dropped: the counter `x` rises, and nothing is delivered. -/
def Chip.Drops (u t : Chip) (p : Nat) (x : Fld) : Prop := t.get x = min (u.get x + 1) 65535 ∧ (t.pt p).rx = (u.pt p).rx

theorem Chip.satInc_drops (u : Chip) (p : Nat) {x : Fld} (hx : x.width = 16) : Drops u (u.satInc x) p x :=
  ⟨by rw [get_satInc_same, hx]; rfl, rfl⟩

theorem Chip.classDrop_drops (hp : p < u.ports.length) (kind : Nat) : Drops u (u.classDrop p kind) p (Reg.PORT_STAT.CLASS_DROP (portPage p)) := by
  have hcount := u.satInc_drops p (x := Reg.PORT_STAT.CLASS_DROP (portPage p)) rfl
  have hlen : p < (u.satInc (Reg.PORT_STAT.CLASS_DROP (portPage p))).ports.length := hp
  unfold Chip.classDrop
  dsimp only
  generalize u.satInc (Reg.PORT_STAT.CLASS_DROP (portPage p)) = x at hcount hlen
  obtain ⟨hget, hrx⟩ := hcount
  have hkept : ∀ (g : PortRt → PortRt), (g (x.pt p)).rx = (x.pt p).rx → Drops u (x.modPt p g) p (Reg.PORT_STAT.CLASS_DROP (portPage p)) := fun g hg =>
    ⟨hget, by rw [pt_modPt_same _ hlen, hg, hrx]⟩
  split_ifs
  · obtain ⟨hget', hrx'⟩ := hkept (fun r => { r with drops := 0, dropAt := some x.now }) rfl
    refine ⟨?_, ?_⟩
    · rw [get_raise_port _ _ _ _ (by simp [Reg.PORT_STAT.CLASS_DROP]) (by decide) rfl]
      exact hget'
    · rw [pt_of_ports (raise_ports ..)]
      exact hrx'
  · exact hkept (fun r => { r with drops := r.drops + 1 }) rfl

/-- A frame is delivered to a receiver with the port's class as tag. -/
theorem Chip.deliver_takes (hp : p < u.ports.length) (d : Receiver) (b : List Byte) :
    ((u.deliver p d b).pt p).rx = some ⟨d, u.portClass p, b⟩ ∧ (u.deliver p d b).regs = u.regs :=
  ⟨congrArg PortRt.rx (pt_modPt_same (fun r => { r with rx := some ⟨d, u.portClass p, b⟩ }) hp), rfl⟩

theorem Chip.deliverOther_eq (b : List Byte) : u.deliverOther p b = if u.portClass p = 0 then u.classDrop p 3 else
    if u.portClass p = 1 then u.deliver p .bridge b else u.deliver p .management b := rfl

theorem Chip.cbRecover_untagged {e : EthFrame} (h : e.rtag = none) : u.cbRecover p e = (true, u) := by
  unfold Chip.cbRecover
  rw [h]

theorem Chip.ethRx_good {f : List Byte} (hlen : f.length ≤ 1518) : u.ethRx p f true =
    (let e := ethParse f
     let safe := u.portClass p == 0
     if e.type = 0x88B5 then
       if !safe then u.classDrop p 0
       else if e.vid = some (u.portCfg p Reg.PORT_CFG.VID) ∧ e.dst = 0x035A * 2 ^ 32 + u.get Reg.ZST_ID.ID then
         let r := u.cbRecover p e
         if r.1 then r.2.deliver p .zst (zstTrim e.payload) else r.2
       else u.filtDrop p
     else if e.type = 0x88F7 then (if safe then u.deliver p .time e.payload else u.classDrop p 1)
     else if e.type = 0x88B6 ∧ ¬ (u.portClass p = 1 ∧ beAt e.payload 0 1 = 2) then (if safe then u.deliver p .time e.payload else u.classDrop p 2)
     else u.deliverOther p f) := by
  unfold Chip.ethRx
  rw [if_neg (by simpa using hlen)]

end

section
variable {s : State} {p : Nat}

theorem exec_portFrameRx {f : PortRx} (hp : p ≤ 14) (hon : (s.chip.pt p).disabled = false) : exec (.portFrameRx p f) s = s.become (match f with
    | .eth b ok => s.chip.ethRx p b ok
    | .can id ext fd remote b ok => s.chip.canRx p id ext fd remote b ok
    | .canXl _ sdt af b ok => s.chip.canXlRx p sdt af b ok
    | .uart b ok => if ok then s.chip.deliverOther p b else s.chip.rxErr p) := by
  refine congrArg s.become (if_neg ?_)
  rw [hon]
  simpa using hp

/-- What the statement says of a good Ethernet frame. -/
theorem completes_portFrameRx_eth (f : List Byte) (hp : p ≤ 14) (hlen : p < s.chip.ports.length) (hon : (s.chip.pt p).disabled = false) (hshort : f.length ≤ 1518) :
    let e := ethParse f
    let cls := s.chip.portClass p
    let mine := e.vid = some (s.chip.portCfg p Reg.PORT_CFG.VID) ∧ e.dst = 0x035A * 2 ^ 32 + s.chip.get Reg.ZST_ID.ID
    Completes (.portFrameRx p (.eth f true)) s (fun t =>
      let drops := fun (x : Fld) => t.get x = min (s.chip.get x + 1) 65535 ∧ (t.pt p).rx = (s.chip.pt p).rx
      let takes := fun (d : Receiver) (b : List Byte) => (t.pt p).rx = some ⟨d, cls, b⟩ ∧ t.regs = s.chip.regs
      (e.type = 0x88B5 → cls ≠ 0 → drops (Reg.PORT_STAT.CLASS_DROP (portPage p))) ∧
      (e.type = 0x88B5 → cls = 0 → ¬ mine → drops (Reg.PORT_CNT.FILT_DROP (portPage p))) ∧
      (e.type = 0x88B5 → cls = 0 → mine → e.rtag = none → takes .zst (zstTrim e.payload)) ∧
      (e.type = 0x88F7 → cls ≠ 0 → drops (Reg.PORT_STAT.CLASS_DROP (portPage p))) ∧ (e.type = 0x88F7 → cls = 0 → takes .time e.payload) ∧
      (e.type = 0x88B6 → cls = 0 → takes .time e.payload) ∧ (e.type = 0x88B6 → cls = 1 → beAt e.payload 0 1 = 2 → takes .bridge f) ∧
      (e.type = 0x88B6 → cls ≠ 0 → ¬ (cls = 1 ∧ beAt e.payload 0 1 = 2) → drops (Reg.PORT_STAT.CLASS_DROP (portPage p))) ∧
      (e.type ∉ [0x88B5, 0x88B6, 0x88F7] → cls = 0 → drops (Reg.PORT_STAT.CLASS_DROP (portPage p))) ∧
      (e.type ∉ [0x88B5, 0x88B6, 0x88F7] → cls = 1 → takes .bridge f) ∧ (e.type ∉ [0x88B5, 0x88B6, 0x88F7] → 2 ≤ cls → takes .management f)) := by
  refine ⟨_, exec_portFrameRx hp hon, ?_⟩
  have hdrop : ∀ kind, Drops s.chip (s.chip.classDrop p kind) p (Reg.PORT_STAT.CLASS_DROP (portPage p)) := classDrop_drops hlen
  have htake := fun d b => deliver_takes (u := s.chip) hlen d b
  dsimp only
  rw [ethRx_good hshort, deliverOther_eq]
  generalize hcls : s.chip.portClass p = cls at htake ⊢
  dsimp only
  generalize ethParse f = e
  simp only [List.mem_cons, List.not_mem_nil, or_false, not_or]
  refine ⟨fun ht hc => ?_, fun ht hc hm => ?_, fun ht hc hm hr => ?_, fun ht hc => ?_, fun ht hc => ?_, fun ht hc => ?_, fun ht hc hv => ?_, fun ht hc hv => ?_,
    fun ⟨h5, h6, h7⟩ hc => ?_, fun ⟨h5, h6, h7⟩ hc => ?_, fun ⟨h5, h6, h7⟩ hc => ?_⟩
  · rw [if_pos ht, if_pos (by simpa using hc)]
    exact hdrop 0
  · rw [if_pos ht, if_neg (by simp [hc]), if_neg hm]
    exact s.chip.satInc_drops p rfl
  · rw [if_pos ht, if_neg (by simp [hc]), if_pos hm, cbRecover_untagged hr]
    exact htake ..
  · rw [if_neg (by omega), if_pos ht, if_neg (by simpa using hc)]
    exact hdrop 1
  · rw [if_neg (by omega), if_pos ht, if_pos (by simpa using hc)]
    exact htake ..
  · rw [if_neg (by omega), if_neg (by omega), if_pos ⟨ht, by omega⟩, if_pos (by simpa using hc)]
    exact htake ..
  · rw [if_neg (by omega), if_neg (by omega), if_neg (by tauto), if_neg (by omega), if_pos hc]
    exact htake ..
  · rw [if_neg (by omega), if_neg (by omega), if_pos ⟨ht, hv⟩, if_neg (by simpa using hc)]
    exact hdrop 2
  · rw [if_neg h5, if_neg h7, if_neg (by tauto), if_pos hc]
    exact hdrop 3
  · rw [if_neg h5, if_neg h7, if_neg (by tauto), if_neg (by omega), if_pos hc]
    exact htake ..
  · rw [if_neg h5, if_neg h7, if_neg (by tauto), if_neg (by omega), if_neg (by omega)]
    exact htake ..

theorem completes_portFrameRx_faulty (f : List Byte) (ok : Bool) (hp : p ≤ 14) (hon : (s.chip.pt p).disabled = false) (hbad : ok = false ∨ 1518 < f.length) :
    Completes (.portFrameRx p (.eth f ok)) s (fun t => t.get (Reg.PORT_CNT.RXERR (portPage p)) = min (s.chip.get (Reg.PORT_CNT.RXERR (portPage p)) + 1) 65535 ∧ t.ports = s.chip.ports) := by
  refine ⟨_, (exec_portFrameRx hp hon).trans (congrArg s.become (if_pos ?_)), (s.chip.satInc_drops p rfl).1, rfl⟩
  rcases hbad with rfl | hlong
  · rfl
  · simp [hlong]

theorem completes_portFrameRx_can (id : Nat) (f : List Byte) (_h8 : 8 ≤ p) (h12 : p < 12) (hlen : p < s.chip.ports.length) (hon : (s.chip.pt p).disabled = false)
    (hcls : s.chip.portClass p = 0) (hmode : s.chip.portCfg p Reg.PORT_CFG.MODE = 1) :
    let m := s.chip.get (Reg.CAN_ZMSK.ID (portPage p))
    let zst := id &&& m = s.chip.get (Reg.CAN_ZRX.ID (portPage p)) &&& m
    let beacon := id = s.chip.get (Reg.CAN_BCN.ID (portPage p))
    Completes (.portFrameRx p (.can id true true false f true)) s (fun t =>
      (zst → (t.pt p).rx = some ⟨.zst, 0, zstTrim f⟩) ∧ (¬ zst → beacon → (t.pt p).rx = some ⟨.time, 0, f⟩) ∧
      (¬ zst → ¬ beacon → (t.pt p).rx = (s.chip.pt p).rx ∧ t.get (Reg.PORT_CNT.FILT_DROP (portPage p)) = min (s.chip.get (Reg.PORT_CNT.FILT_DROP (portPage p)) + 1) 65535)) := by
  intro m zst beacon
  have hrx : s.chip.canRx p id true true false f true = if zst then s.chip.deliver p .zst (zstTrim f) else
      if beacon then s.chip.deliver p .time f else s.chip.filtDrop p := by
    unfold Chip.canRx Chip.canZst
    simp only [Bool.not_true, Bool.false_eq_true, if_false, hcls, if_true, hmode, beq_self_eq_true, Bool.and_self, beq_iff_eq, zst, beacon, m]
  have htake := fun d b => (deliver_takes (u := s.chip) hlen d b).1
  rw [hcls] at htake
  refine ⟨_, (exec_portFrameRx (by omega) hon).trans (congrArg s.become hrx), fun hz => ?_, fun hz hb => ?_, fun hz hb => ?_⟩
  · rw [if_pos hz]
    exact htake ..
  · rw [if_neg hz, if_pos hb]
    exact htake ..
  · rw [if_neg hz, if_neg hb]
    exact (s.chip.satInc_drops p rfl).symm

theorem completes_portTxRefused (src : Nat) : Completes (.portTxRefused p src) s (fun t =>
      if (s.chip.portClass p = 0 ∧ src < 2) ∨ (s.chip.portClass p = 1 ∧ src = 2) ∨ (2 ≤ s.chip.portClass p ∧ src = 3) then t = s.chip.answer .ok
      else t.resp = .error ∧ t.get (Reg.BLK_ERR.PLANE (portPage p)) = 1) := by
  have hiff : (if s.chip.portClass p = 0 then src = 0 ∨ src = 1 else if s.chip.portClass p = 1 then src = 2 else src = 3) ↔
      (s.chip.portClass p = 0 ∧ src < 2) ∨ (s.chip.portClass p = 1 ∧ src = 2) ∨ (2 ≤ s.chip.portClass p ∧ src = 3) := by
    split_ifs <;> omega
  refine ⟨_, rfl, ?_⟩
  dsimp only
  by_cases hok : (s.chip.portClass p = 0 ∧ src < 2) ∨ (s.chip.portClass p = 1 ∧ src = 2) ∨ (2 ≤ s.chip.portClass p ∧ src = 3)
  · rw [if_pos hok, if_pos (hiff.2 hok)]
  · rw [if_neg hok, if_neg (fun h => hok (hiff.1 h))]
    exact ⟨rfl, (refreshLines_get ..).trans (get_put_same ..)⟩

end

end Sys2Proof.Machine
end

section
namespace Sys2Proof.Machine
open Chip

/-! ### PLCA, bus-off, engines and links -/

section
variable {s : State} {p : Nat}

theorem completes_plcaBeaconTimeout (h4 : p < 4) (hlen : p < s.chip.ports.length) (hactive : s.chip.get (Reg.PORT_STAT.PLCA_ACTIVE (portPage p)) = 1)
    (hnode : s.chip.get (Reg.T1S_PLCA.NODE_ID (portPage p)) ≠ 0) :
    Completes (.plcaBeaconTimeout p) s (fun t => t.now = max s.chip.now ((s.chip.pt p).plcaAt + 100000) ∧ t.get (Reg.PORT_STAT.PLCA_ACTIVE (portPage p)) = 0 ∧
      t.get (Reg.T1S_STAT.BCN_MISS (portPage p)) = min (s.chip.get (Reg.T1S_STAT.BCN_MISS (portPage p)) + 1) 65535 ∧ (t.pt p).plcaLost = true ∧
      (s.chip.staged 25 = false → t.reports 25 4 [p] = true)) := by
  have hraw : ∀ q < 4, (Reg.PORT_STAT.PLCA_ACTIVE (portPage q)).addr ≠ (Reg.IRQ.RAW zstPage).addr ∧ (Reg.T1S_STAT.BCN_MISS (portPage q)).addr ≠ (Reg.IRQ.RAW zstPage).addr ∧
    (Reg.T1S_STAT.BCN_MISS (portPage q)).key ≠ (Reg.PORT_STAT.PLCA_ACTIVE (portPage q)).key := by decide
  obtain ⟨hrawActive, hrawMiss, hkey⟩ := hraw p h4
  set u := s.chip.until ((s.chip.pt p).plcaAt + ms 1) with hu
  have hget : ∀ f, u.get f = s.chip.get f := fun f => congrArg f.read (until_regs ..)
  have hports : u.ports = s.chip.ports := until_ports ..
  set w := (((u.put (Reg.PORT_STAT.PLCA_ACTIVE (portPage p)) 0).satInc (Reg.T1S_STAT.BCN_MISS (portPage p))).modPt p (fun r => { r with plcaLost := true })) with hw
  refine ⟨(w.irq zstPage 6).raise 25 0x04 [p], ?_, ?_, ?_, ?_, ?_, fun hs => ?_⟩
  · change execPlcaBeaconTimeout p s = _
    unfold execPlcaBeaconTimeout
    dsimp only
    rw [if_pos ⟨h4, hactive, hnode⟩]
    rfl
  · rw [raise_now, irq_now]
    exact until_now ..
  · rw [get_raise_port _ _ _ _ (by simp [Reg.PORT_STAT.PLCA_ACTIVE]) (by decide) rfl, get_irq _ _ _ _ (by simp [Reg.PORT_STAT.PLCA_ACTIVE]) hrawActive, hw, modPt_get,
      get_satInc_ne _ _ _ hkey, get_put_same]
    rfl
  · rw [get_raise_port _ _ _ _ (by simp [Reg.T1S_STAT.BCN_MISS]) (by decide) rfl, get_irq _ _ _ _ (by simp [Reg.T1S_STAT.BCN_MISS]) hrawMiss, hw, modPt_get,
      get_satInc_same, get_put_ne _ _ _ _ hkey.symm, hget]
    rfl
  · rw [pt_of_ports (raise_ports ..), pt_of_ports (irq_ports ..), hw, pt_modPt_same _ (by change p < u.ports.length; rw [hports]; exact hlen)]
  · refine raise_reports _ _ _ _ (by decide) ?_
    rw [staged_of_intake (irq_intake ..), ← hs]
    exact staged_of_intake (u := s.chip) (t := w) (until_intake s.chip ((s.chip.pt p).plcaAt + ms 1)) 25

theorem portSource_listed (hp : p < 15) : sourceListed (portSource p) = true := (show ∀ q < 15, sourceListed (portSource q) = true by decide) p hp

theorem completes_plcaBeaconRx (h4 : p < 4) (hlen : p < s.chip.ports.length) (hmode : s.chip.portCfg p Reg.PORT_CFG.MODE = 0) (hon : (s.chip.pt p).disabled = false) :
    Completes (.plcaBeaconRx p) s (fun t => t.get (Reg.PORT_STAT.PLCA_ACTIVE (portPage p)) = 1 ∧ (t.pt p).plcaLost = false ∧ (t.pt p).plcaAt = s.chip.now ∧
      ((s.chip.pt p).plcaLost = true → s.chip.staged (128 + p) = false → t.reports (128 + p) 2 [p] = true)) := by
  have hsource : portSource p = 128 + p := by unfold portSource; rw [if_pos h4]
  set w := (s.chip.put (Reg.PORT_STAT.PLCA_ACTIVE (portPage p)) 1).modPt p (fun r => { r with plcaAt := s.chip.now, plcaLost := false }) with hw
  have hactive : w.get (Reg.PORT_STAT.PLCA_ACTIVE (portPage p)) = 1 := by rw [hw, modPt_get, get_put_same]; rfl
  have hpt : w.pt p = { s.chip.pt p with plcaAt := s.chip.now, plcaLost := false } := pt_modPt_same _ hlen
  refine ⟨if (s.chip.pt p).plcaLost then w.raise (portSource p) 0x02 [p] else w, ?_, ?_⟩
  · change execPlcaBeaconRx p s = _
    unfold execPlcaBeaconRx
    dsimp only
    rw [if_pos ⟨h4, hmode, hon⟩]
    rfl
  · split
    · refine ⟨?_, ?_, ?_, fun _ hs => ?_⟩
      · rw [get_raise_port _ _ _ _ (by simp [Reg.PORT_STAT.PLCA_ACTIVE]) (by decide) rfl, hactive]
      · rw [pt_of_ports (raise_ports ..), hpt]
      · rw [pt_of_ports (raise_ports ..), hpt]
      · rw [hsource]
        exact raise_reports _ _ _ _ (hsource ▸ portSource_listed (by omega)) hs
    · next hlost => exact ⟨hactive, by rw [hpt], by rw [hpt], fun h => absurd h hlost⟩

/-- A bit field reads 0 or 1. -/
theorem Chip.get_bit (u : Chip) {f : Fld} (hf : f.width = 1) : u.get f = 0 ∨ u.get f = 1 := by
  have := u.get_lt f
  rw [hf] at this
  omega

theorem completes_busOff (tec : Nat) (h8 : 8 ≤ p) (h12 : p < 12) :
    Completes (.busOff p tec) s (fun t => t.get (Reg.PORT_STAT.BUS_OFF (portPage p)) = 1 ∧ t.zst = s.chip.zst ∧
      (s.chip.get (Reg.PORT_STAT.BUS_OFF (portPage p)) = 0 → t.get (Reg.PORT_STAT.LINK (portPage p)) = 0 ∧
        (s.chip.staged (132 + p) = false → t.reports (132 + p) 3 [p, tec] = true))) := by
  have hsource : portSource p = 132 + p := by unfold portSource; rw [if_neg (by omega), if_neg (by omega), if_neg (by omega), if_pos h12]; omega
  have hkeys : ∀ q < 12, (Reg.PORT_STAT.LINK (portPage q)).key ≠ (Reg.PORT_STAT.BUS_OFF (portPage q)).key ∧
    (Reg.PORT_STAT.ERR_PASSIVE (portPage q)).key ≠ (Reg.PORT_STAT.BUS_OFF (portPage q)).key ∧
    (Reg.PORT_STAT.ERR_PASSIVE (portPage q)).key ≠ (Reg.PORT_STAT.LINK (portPage q)).key := by decide
  obtain ⟨hlink, herr, herrLink⟩ := hkeys p h12
  by_cases hoff : s.chip.get (Reg.PORT_STAT.BUS_OFF (portPage p)) = 0
  · refine ⟨(((s.chip.put (Reg.PORT_STAT.BUS_OFF (portPage p)) 1).put (Reg.PORT_STAT.LINK (portPage p)) 0).put (Reg.PORT_STAT.ERR_PASSIVE (portPage p)) 0).raise
      (portSource p) 0x03 [p, tec], ?_, ?_, raise_zst .., fun _ => ⟨?_, fun hs => ?_⟩⟩
    · change execBusOff p tec s = _
      unfold execBusOff
      dsimp only
      rw [if_pos ⟨h8, h12, hoff⟩]
      rfl
    · rw [get_raise_port _ _ _ _ (by simp [Reg.PORT_STAT.BUS_OFF]) (by decide) rfl, get_put_ne _ _ _ _ herr, get_put_ne _ _ _ _ hlink, get_put_same]
      rfl
    · rw [get_raise_port _ _ _ _ (by simp [Reg.PORT_STAT.LINK]) (by decide) rfl, get_put_ne _ _ _ _ herrLink, get_put_same]
      rfl
    · rw [hsource]
      exact raise_reports _ _ _ _ (hsource ▸ portSource_listed (by omega)) hs
  · refine ⟨s.chip, ?_, (s.chip.get_bit rfl).resolve_left hoff, rfl, fun h => absurd h hoff⟩
    change execBusOff p tec s = _
    unfold execBusOff
    dsimp only
    rw [if_neg (by tauto)]
    rfl

theorem completes_busOn (h8 : 8 ≤ p) (h12 : p < 12) :
    Completes (.busOn p) s (fun t => t.get (Reg.PORT_STAT.BUS_OFF (portPage p)) = 0 ∧ t.zst = s.chip.zst ∧
      (s.chip.get (Reg.PORT_STAT.BUS_OFF (portPage p)) = 1 → t.get (Reg.PORT_STAT.LINK (portPage p)) = 1 ∧
        (s.chip.staged (132 + p) = false → t.reports (132 + p) 4 [p] = true))) := by
  have hsource : portSource p = 132 + p := by unfold portSource; rw [if_neg (by omega), if_neg (by omega), if_neg (by omega), if_pos h12]; omega
  have hlink := (show ∀ q < 12, (Reg.PORT_STAT.LINK (portPage q)).key ≠ (Reg.PORT_STAT.BUS_OFF (portPage q)).key by decide) p h12
  by_cases hoff : s.chip.get (Reg.PORT_STAT.BUS_OFF (portPage p)) = 1
  · refine ⟨((s.chip.put (Reg.PORT_STAT.BUS_OFF (portPage p)) 0).put (Reg.PORT_STAT.LINK (portPage p)) 1).raise (portSource p) 0x04 [p], ?_, ?_,
      raise_zst .., fun _ => ⟨?_, fun hs => ?_⟩⟩
    · change execBusOn p s = _
      unfold execBusOn
      dsimp only
      rw [if_pos ⟨h8, h12, hoff⟩]
      rfl
    · rw [get_raise_port _ _ _ _ (by simp [Reg.PORT_STAT.BUS_OFF]) (by decide) rfl, get_put_ne _ _ _ _ hlink, get_put_same]
      rfl
    · rw [get_raise_port _ _ _ _ (by simp [Reg.PORT_STAT.LINK]) (by decide) rfl, get_put_same]
      rfl
    · rw [hsource]
      exact raise_reports _ _ _ _ (hsource ▸ portSource_listed (by omega)) hs
  · refine ⟨s.chip, ?_, (s.chip.get_bit rfl).resolve_right hoff, rfl, fun h => absurd h hoff⟩
    change execBusOn p s = _
    unfold execBusOn
    dsimp only
    rw [if_neg (by tauto)]
    rfl

/-! ### Engines -/

/-- A port whose protocol engine has failed: disabled, link down, out of PLCA. -/
def Chip.portFailed (u : Chip) (p : Nat) : Chip :=
  ((u.modPt p (fun r => { r with disabled := true })).put (Reg.PORT_STAT.LINK (portPage p)) 0).put (Reg.PORT_STAT.PLCA_ACTIVE (portPage p)) 0

theorem portPage_keys : ∀ p < 15, ∀ q < 15, (Reg.PORT_STAT.PLCA_ACTIVE (portPage p)).key ≠ (Reg.PORT_STAT.LINK (portPage q)).key ∧
    (p ≠ q → (Reg.PORT_STAT.LINK (portPage p)).key ≠ (Reg.PORT_STAT.LINK (portPage q)).key) := by decide

/-- The state of the ports after those of a list have failed. -/
theorem Chip.portsFailed {l : List Nat} (u : Chip) (hl : ∀ p ∈ l, p < 15) (hlen : u.ports.length = 15) :
    (∀ p, p < 15 → ((l.foldl Chip.portFailed u).pt p).disabled = ((u.pt p).disabled || l.contains p)) ∧
    ∀ p, p < 15 → (l.foldl Chip.portFailed u).get (Reg.PORT_STAT.LINK (portPage p)) = if p ∈ l then 0 else u.get (Reg.PORT_STAT.LINK (portPage p)) := by
  induction l generalizing u with
  | nil => exact ⟨fun p _ => by simp, fun p _ => by simp⟩
  | cons q l ih =>
    obtain ⟨hq, hl⟩ := List.forall_mem_cons.1 hl
    obtain ⟨hdis, hlink⟩ := ih (u.portFailed q) hl (by simpa [Chip.portFailed, Chip.modPt] using hlen)
    refine ⟨fun p hp => ?_, fun p hp => ?_⟩
    · have hstep : ((u.portFailed q).pt p).disabled = ((u.pt p).disabled || p == q) := by
        by_cases hpq : q = p
        · subst hpq
          exact (congrArg PortRt.disabled (pt_modPt_same (fun r => { r with disabled := true }) (by omega))).trans (by simp)
        · exact (congrArg PortRt.disabled (pt_modPt_ne _ hpq)).trans (by simp [Ne.symm hpq])
      rw [List.foldl_cons, hdis p hp, hstep, List.contains_cons, Bool.or_assoc]
    · obtain ⟨hactive, hother⟩ := portPage_keys q hq p hp
      rw [List.foldl_cons, hlink p hp]
      unfold Chip.portFailed
      rw [get_put_ne _ _ _ _ hactive]
      by_cases hpq : q = p
      · subst hpq
        rw [get_put_same]
        simp
      · rw [get_put_ne _ _ _ _ (hother hpq), modPt_get]
        simp [Ne.symm hpq]

theorem completes_engineFault (e cause : Nat) (he : e < 6) (hlen : s.chip.ports.length = 15) :
    Completes (.engineFault e cause) s (fun t => (∀ p, p < 15 → (t.pt p).disabled = ((s.chip.pt p).disabled || (enginePorts e).contains p)) ∧
      (∀ p, p ∈ enginePorts e → t.get (Reg.PORT_STAT.LINK (portPage p)) = 0 ∧ t.portSends p = false) ∧
      (∀ p, p < 15 → p ∉ enginePorts e → t.get (Reg.PORT_STAT.LINK (portPage p)) = s.chip.get (Reg.PORT_STAT.LINK (portPage p)))) := by
  have hports := (show ∀ k < 6, ∀ p ∈ enginePorts k, p < 15 by decide) e he
  obtain ⟨hdis, hlink⟩ := s.chip.portsFailed hports hlen
  set w := (enginePorts e).foldl Chip.portFailed s.chip with hw
  set t := (w.raise (if e < 4 then 132 + e else 140 + e) 0x08 [e, cause]).nonsafetyFault 0x6003 with ht
  have hpt : ∀ p, t.pt p = w.pt p := fun p => pt_of_ports ((nonsafetyFault_within.same .ports (by decide)).trans (raise_ports ..)) p
  have hget : ∀ p, t.get (Reg.PORT_STAT.LINK (portPage p)) = w.get (Reg.PORT_STAT.LINK (portPage p)) := fun p => by
    rw [ht, nonsafetyFault_within.regs _ (by simp [Reg.PORT_STAT.LINK]) (portPage_block p (off := 0x44) (by decide)).1 ?_ ?_,
      get_raise_port _ _ _ _ (by simp [Reg.PORT_STAT.LINK]) (by decide) rfl]
    · simp only [Reg.PORT_STAT.LINK]
      unfold portPage
      split_ifs <;> omega
    · have hblock : (portPage p + 0x44) / 0x100000 ≠ 0x407 ∧ (portPage p + 0x44) / 0x100000 ≠ 0x409 := by
        unfold portPage
        split_ifs <;> omega
      simp [Scope.covers, Reg.PORT_STAT.LINK, hblock.1, hblock.2]
  refine ⟨t, ?_, fun p hp => by rw [hpt, hdis p hp], fun p hp => ⟨by rw [hget, hlink p (hports p hp), if_pos hp], ?_⟩, fun p hp hne => by rw [hget, hlink p hp, if_neg hne]⟩
  · change execEngineFault e cause s = _
    unfold execEngineFault
    dsimp only
    rw [if_neg (by omega)]
    rfl
  · unfold Chip.portSends
    rw [hpt, hdis p (hports p hp)]
    simp [hp]

/-! ### Links -/

theorem Chip.gptpSelect_link (u : Chip) {f : Fld} (p : Nat) (hp : p < 8) (hf : f = Reg.PORT_STAT.LINK (portPage p) ∨ f = Reg.PORT_CNT.RXERR (portPage p)) :
    u.gptpSelect.get f = u.get f := by
  have hlo : f.lo < 32 := by rcases hf with rfl | rfl <;> simp [Reg.PORT_STAT.LINK, Reg.PORT_CNT.RXERR]
  have hfar : f.key ≠ Reg.TM_STAT.AS_CAPABLE.key ∧ (∀ q ∈ [4, 5, 6, 7], (Reg.PORT_STAT.GP_SLAVE (portPage q)).key ≠ f.key) ∧ 0x40000000 ≤ f.addr ∧ f.addr / 0x100000 ≠ 0x409 := by
    have hall : ∀ p < 8, ∀ f ∈ [Reg.PORT_STAT.LINK (portPage p), Reg.PORT_CNT.RXERR (portPage p)], f.key ≠ Reg.TM_STAT.AS_CAPABLE.key ∧
      (∀ q ∈ [4, 5, 6, 7], (Reg.PORT_STAT.GP_SLAVE (portPage q)).key ≠ f.key) ∧ 0x40000000 ≤ f.addr ∧ f.addr / 0x100000 ≠ 0x409 := by decide
    exact hall p hp f (by simpa using hf)
  obtain ⟨hcap, hslave, h4, h409⟩ := hfar
  have hfold : ∀ (g : Nat → Nat) (l : List Nat), (∀ q ∈ l, (Reg.PORT_STAT.GP_SLAVE (portPage q)).key ≠ f.key) → ∀ x : Chip,
      (l.foldl (fun u p => u.put (Reg.PORT_STAT.GP_SLAVE (portPage p)) (g p)) x).get f = x.get f := fun g l => by
    induction l with
    | nil => exact fun _ _ => rfl
    | cons q l ih =>
      intro hl x
      obtain ⟨hq, hl⟩ := List.forall_mem_cons.1 hl
      rw [List.foldl_cons, ih hl, get_put_ne _ _ _ _ hq]
  unfold Chip.gptpSelect
  extract_lets +onlyGivenNames best slave u1 u2
  have hu2 : u2.get f = u.get f := (get_put_ne _ _ _ _ hcap.symm).trans (hfold _ _ hslave u)
  clear_value u2 u1 slave best
  split
  · dsimp only
    split
    · split
      · exact hu2
      · exact (get_raise _ _ _ _ f hlo h4 h409).trans hu2
    · exact hu2
  · exact hu2

/-- The link of a port and its error counter, as PORT_LINK_CHANGE sets them before the best master clock algorithm runs. -/
def Chip.linkPut (u : Chip) (p : Nat) (up cut : Bool) : Chip :=
  let u := u.put (Reg.PORT_STAT.LINK (portPage p)) (lvl (up && !(u.pt p).disabled))
  if !up && cut then u.rxErr p else u

/-- PLCA and the neighbour of a port whose link has changed. -/
def Chip.linkPlca (u : Chip) (p : Nat) (up : Bool) : Chip :=
  let coord := decide (p < 4) && u.portCfg p Reg.PORT_CFG.MODE == 0 && u.get (Reg.T1S_PLCA.NODE_ID (portPage p)) == 0
  let u := if p < 4 then (if coord || !up then u.put (Reg.PORT_STAT.PLCA_ACTIVE (portPage p)) (lvl (up && !(u.pt p).disabled)) else u) else u
  if up then u else u.modPt p (fun r => { r with announce := none, asCapable := false })

theorem Chip.linkPlca_get (u : Chip) (up : Bool) {f : Fld} (hf : (Reg.PORT_STAT.PLCA_ACTIVE (portPage p)).key ≠ f.key) : (u.linkPlca p up).get f = u.get f := by
  unfold Chip.linkPlca
  extract_lets +onlyGivenNames coord w
  have hw : w.get f = u.get f := by
    change (if _ then (if _ then _ else _) else _ : Chip).get f = _
    split
    · split
      · exact get_put_ne _ _ _ _ hf
      · rfl
    · rfl
  clear_value w
  split
  · exact hw
  · exact hw

theorem completes_portLinkChange (up cut : Bool) (h8 : p < 8) :
    Completes (.portLinkChange p up cut) s (fun t => t.on (Reg.PORT_STAT.LINK (portPage p)) = (up && !(s.chip.pt p).disabled) ∧
      t.get (Reg.PORT_CNT.RXERR (portPage p)) = (if up = false ∧ cut = true then min (s.chip.get (Reg.PORT_CNT.RXERR (portPage p)) + 1) 65535
        else s.chip.get (Reg.PORT_CNT.RXERR (portPage p)))) := by
  have hkeys : ∀ q < 8, (Reg.PORT_STAT.PLCA_ACTIVE (portPage q)).key ≠ (Reg.PORT_STAT.LINK (portPage q)).key ∧ (Reg.PORT_STAT.PLCA_ACTIVE (portPage q)).key ≠ (Reg.PORT_CNT.RXERR (portPage q)).key ∧
    (Reg.PORT_CNT.RXERR (portPage q)).key ≠ (Reg.PORT_STAT.LINK (portPage q)).key := by decide
  obtain ⟨hlink, herr, herrLink⟩ := hkeys p h8
  have hon : ∀ b : Bool, (lvl b % 2 != 0) = b := by decide
  refine ⟨((s.chip.linkPut p up cut).linkPlca p up).gptpSelect, ?_, ?_, ?_⟩
  · change execPortLinkChange p up cut s = _
    unfold execPortLinkChange
    dsimp only
    rw [if_neg (by omega)]
    rfl
  · unfold Chip.on
    rw [gptpSelect_link _ p h8 (.inl rfl), linkPlca_get _ _ hlink]
    unfold Chip.linkPut Chip.rxErr
    dsimp only
    split
    · rw [get_satInc_ne _ _ _ herrLink, get_put_same]
      exact hon _
    · rw [get_put_same]
      exact hon _
  · rw [gptpSelect_link _ p h8 (.inr rfl), linkPlca_get _ _ herr]
    unfold Chip.linkPut Chip.rxErr
    dsimp only
    split
    · next h =>
      rw [if_pos (by simpa using h), get_satInc_same, get_put_ne _ _ _ _ herrLink.symm]
      rfl
    · next h =>
      rw [if_neg (by simpa using h), get_put_ne _ _ _ _ herrLink.symm]

/-! ### The service port -/

theorem completes_serviceLinkUp : Completes .serviceLinkUp s (fun t => t.get (Reg.PORT_STAT.LINK (portPage 14)) = 1 ∧ t.svc.since = some (s.chip.svc.since.getD s.chip.now) ∧
    t.svc.connected = s.chip.svc.connected) :=
  ⟨_, rfl, get_put_same s.chip (Reg.PORT_STAT.LINK (portPage 14)) 1, rfl, rfl⟩

theorem completes_serviceConnected (x : Nat) (h : s.chip.svc.since = some x) :
    Completes .serviceConnected s (fun t => t.svc.connected = true ∧ t.now = max s.chip.now (x + 100000000)) := by
  refine ⟨_, show execServiceConnected s = _ by unfold execServiceConnected; dsimp only; rw [h]; rfl, rfl, ?_⟩
  exact until_now ..

/-- A discard of queued commands empties the queue and reports the first of them. -/
theorem Chip.gateDiscard_shows (u : Chip) : u.gateDiscard.gate.queue = [] ∧ u.gateDiscard.gate.placed = u.gate.placed ∧ u.gateDiscard.svc = u.svc ∧
    (∀ f : Fld, f.lo < 32 → 0x40000000 ≤ f.addr → f.addr % 0x1000 ≠ 0xC → f.addr / 0x100000 ≠ 0x409 → u.gateDiscard.get f = u.get f) ∧
    ∀ e rest, u.gate.queue = e :: rest → u.staged 26 = false → u.gateDiscard.reports 26 6 [e.code, e.tag, 1] = true := by
  have hkept : ∀ (l : List GateEntry) (x : Chip), (l.foldl (fun u e => u.fwRaise 26 0x06 [e.code, e.tag, 1]) x).gate = x.gate ∧
      (l.foldl (fun u e => u.fwRaise 26 0x06 [e.code, e.tag, 1]) x).svc = x.svc ∧ LogKept x (l.foldl (fun u e => u.fwRaise 26 0x06 [e.code, e.tag, 1]) x) ∧
      ∀ f : Fld, f.lo < 32 → 0x40000000 ≤ f.addr → f.addr % 0x1000 ≠ 0xC → f.addr / 0x100000 ≠ 0x409 → (l.foldl (fun u e => u.fwRaise 26 0x06 [e.code, e.tag, 1]) x).get f = x.get f := fun l => by
    induction l with
    | nil => exact fun x => ⟨rfl, rfl, .of_intake rfl, fun _ _ _ _ _ => rfl⟩
    | cons e l ih =>
      intro x
      obtain ⟨hgate, hsvc, hlog, hget⟩ := ih (x.fwRaise 26 0x06 [e.code, e.tag, 1])
      exact ⟨hgate.trans (raiseAfter_gate ..), hsvc.trans (raiseAfter_svc ..), (raiseAfter_logKept x _ _ _).trans hlog,
        fun f hlo h4 hc h409 => (hget f hlo h4 hc h409).trans (get_raiseAfter _ _ _ _ f hlo h4 hc h409)⟩
  unfold Chip.gateDiscard
  obtain ⟨hgate, hsvc, -, hget⟩ := hkept u.gate.queue { u with gate := { u.gate with queue := [] } }
  refine ⟨(congrArg Gate.queue hgate).trans rfl, (congrArg Gate.placed hgate).trans rfl, hsvc, hget, fun e rest hqueue hs => ?_⟩
  rw [hqueue]
  obtain ⟨-, -, hlog, -⟩ := hkept rest (({ u with gate := { u.gate with queue := [] } } : Chip).fwRaise 26 0x06 [e.code, e.tag, 1])
  refine hlog.reports ?_
  unfold Chip.fwRaise Chip.raiseAfter Chip.raiseSince
  dsimp only
  rw [if_neg (by simp [show Chip.staged ({ u with gate := { u.gate with queue := [] } } : Chip) 26 = false from hs])]
  exact raise_reports _ _ _ _ (by decide) hs

theorem completes_serviceLinkLoss : Completes .serviceLinkLoss s (fun t => t.get (Reg.PORT_STAT.LINK (portPage 14)) = 0 ∧ t.svc = {} ∧ t.gate.queue = [] ∧ t.gate.placed = s.chip.gate.placed ∧
    (∀ e rest, s.chip.gate.queue = e :: rest → s.chip.staged 26 = false → t.reports 26 6 [e.code, e.tag, 1] = true)) := by
  obtain ⟨hqueue, hplaced, hsvc, hget, hreports⟩ := gateDiscard_shows { s.chip.put (Reg.PORT_STAT.LINK (portPage 14)) 0 with svc := {} }
  refine ⟨_, rfl, ?_, hsvc, hqueue, hplaced, hreports⟩
  rw [hget _ (by decide) (by decide) (by decide) (by decide)]
  exact get_put_same s.chip (Reg.PORT_STAT.LINK (portPage 14)) 0

end

/-- Settles O42. -/
theorem fieldPorts : Obligations.FieldPorts := by
  unfold Obligations.FieldPorts
  refine ⟨fun p f s hp hlen hon hshort => completes_portFrameRx_eth f hp hlen hon hshort, fun p f ok s hp hon hbad => completes_portFrameRx_faulty f ok hp hon hbad,
    fun p id f s h8 h12 hlen hon hcls hmode => completes_portFrameRx_can id f h8 h12 hlen hon hcls hmode,
    fun p f s hoff => ⟨_, congrArg s.become (if_pos (by simp [hoff])), rfl⟩, fun p src s _ => completes_portTxRefused src,
    fun p s h4 hlen hactive hnode => completes_plcaBeaconTimeout h4 hlen hactive hnode,
    fun p s hnode => ⟨_, show execPlcaBeaconTimeout p s = _ by unfold execPlcaBeaconTimeout; dsimp only; rw [if_neg (by tauto)]; rfl, rfl⟩,
    fun p s h4 hlen hmode hon => completes_plcaBeaconRx h4 hlen hmode hon, fun p tec s h8 h12 => ⟨completes_busOff tec h8 h12, completes_busOn h8 h12⟩,
    fun e cause s he hlen => completes_engineFault e cause he hlen, fun p up cut s h8 _ => completes_portLinkChange up cut h8,
    fun s => completes_serviceLinkUp, fun x s h => completes_serviceConnected x h,
    fun s h => ⟨_, show execServiceConnected s = _ by unfold execServiceConnected; dsimp only; rw [h]; rfl, rfl⟩, fun s => completes_serviceLinkLoss⟩

end Sys2Proof.Machine
end

section
/-!
PROOFS. The power controller (19 R530 to R547): requests, consent, rollback, entry and wake.
-/
namespace Sys2Proof.Machine
open Chip

/-! ### The controller's own registers -/

/-- A register of the power controller behind the header of its pages. -/
def Fld.OfPwr (f : Fld) : Prop := f.lo < 32 ∧ 0x44700040 ≤ f.addr ∧ f.addr < 0x44702000 ∧ f.addr % 0x1000 ≠ 0xC

theorem Fld.ofPwr_self {f : Fld} (h : (f.lo.blt 32 && (0x44700040 : Nat).ble f.addr && f.addr.blt 0x44702000 && (f.addr % 0x1000 != 0xC)) = true) : f.OfPwr := by
  simp only [Bool.and_eq_true, bne_iff_ne] at h
  obtain ⟨⟨⟨hlo, hlow⟩, hhigh⟩, hstat⟩ := h
  exact ⟨Nat.le_of_ble_eq_true hlo, Nat.le_of_ble_eq_true hlow, Nat.le_of_ble_eq_true hhigh, hstat⟩

theorem pwrClog_ofPwr {k : Nat} (hk : k < 64) : (Reg.PWR_CLOG.TYPE k).OfPwr ∧ (Reg.PWR_CLOG.INST k).OfPwr ∧ (Reg.PWR_CLOG.ANSWER k).OfPwr := by
  have haddr : slot k 64 0x44701040 0x4 = 0x44701040 + k * 4 := slot_of_lt _ _ hk
  simp only [Reg.PWR_CLOG.TYPE, Reg.PWR_CLOG.INST, Reg.PWR_CLOG.ANSWER, Fld.OfPwr, haddr]
  omega

section
variable {u : Chip} {f : Fld}

theorem Chip.pwr_regs {S : Scope} {t : Chip} (h : Within S u t) (hf : f.OfPwr) (hS : S.covers 0x447 = false) : t.get f = u.get f := by
  obtain ⟨hlo, hlow, hhigh, hstat⟩ := hf
  exact h.regs f hlo (by omega) hstat (by rw [show f.addr / 0x100000 = 0x447 by omega]; exact hS)

theorem Chip.pwrIrq_get (b : Nat) (hf : f.OfPwr) : (u.irq pwrPage b).get f = u.get f := by
  obtain ⟨hlo, hlow, -, -⟩ := hf
  exact get_irq _ _ _ _ hlo (by simp only [Reg.IRQ.RAW, pwrPage]; omega)

theorem Chip.pwrRaise_get (src code : Nat) (d : List Nat) (hf : f.OfPwr) : (u.raiseAfter src code d).get f = u.get f :=
  pwr_regs raiseAfter_within hf (by decide)

/-- An event of the power controller leaves its registers alone. -/
theorem Chip.pwrEvent_get (b code : Nat) (d : List Nat) (hf : f.OfPwr) : ((u.irq pwrPage b).raiseAfter 102 code d).get f = u.get f :=
  (pwrRaise_get _ _ _ hf).trans (pwrIrq_get b hf)

/-- IRQ_RAW of the power controller. -/
theorem Chip.pwrRaise_raw (src code : Nat) (d : List Nat) : (u.raiseAfter src code d).get (Reg.IRQ.RAW pwrPage) = u.get (Reg.IRQ.RAW pwrPage) :=
  raiseAfter_within.regs _ (by decide) (by decide) (by decide) (by decide)

theorem Chip.pwrEvent_raw (b code : Nat) (d : List Nat) (hb : b < 31) : (((u.irq pwrPage b).raiseAfter 102 code d).get (Reg.IRQ.RAW pwrPage)).testBit b = true := by
  rw [pwrRaise_raw, testBit_irq _ _ _ _ hb]
  simp

/-- An event whose staging register is free, or free again, is reported. -/
theorem Chip.raiseAfter_reports (src code : Nat) (d : List Nat) (hl : sourceListed src = true) (hs : u.staged src = false) :
    (u.raiseAfter src code d).reports src code d = true := by
  unfold Chip.raiseAfter Chip.raiseSince
  dsimp only
  rw [if_neg (by simp [hs])]
  exact raise_reports _ _ _ _ hl hs

theorem Chip.pwrEvent_reports (b code : Nat) (d : List Nat) (hs : u.staged 102 = false) :
    ((u.irq pwrPage b).raiseAfter 102 code d).reports 102 code d = true :=
  raiseAfter_reports 102 code d (by decide) ((staged_of_intake (irq_intake ..) 102).trans hs)

end

/-! ### Requests -/

section
variable {s : State}

theorem pageInfo_pwrReq : pageInfo 0x44700040 = some ⟨0xE047, 0, 0, 2, 5, 0x44700000⟩ := by decide +kernel

theorem fabricTarget_pwrReq (req : Nat) : fabricTarget req 0x44700040 = none := rfl

/-- PWR_REQ is open to the management plane and to the loader (02 R38). -/
theorem Chip.atPwrReq (u : Chip) (req : Nat) (k : Chip → Chip) (hatt : u.attends 0x44700040 = true) :
    u.atPage req 0x44700040 true k = if 3 ≤ req ∧ req ≤ 7 then k u else u.denied req 15 0x44700040 := by
  have hbars : u.planeBars req 0x44700040 = false := by
    unfold Chip.planeBars pageBarred
    rw [pageInfo_pwrReq]
    rfl
  have hreach : u.pageReach req 0x44700040 = decide (3 ≤ req ∧ req ≤ 7) := by
    unfold Chip.pageReach
    rw [fabricTarget_pwrReq, pageInfo_pwrReq]
    simp only [Chip.controlPage]
    split
    · rw [decide_eq_false (by omega), if_neg (by decide), if_neg (by decide)]
    · exact decide_eq_decide.2 (by omega)
  unfold Chip.atPage
  rw [pageInfo_pwrReq, hbars, hreach, fabricTarget_pwrReq, access_attends _ _ _ _ hatt]
  simp only [Option.isNone_some, Bool.and_false, Bool.false_eq_true, if_false, Bool.not_eq_true', decide_eq_false_iff_not, ite_not, Option.getD_none]

theorem exec_pwrReqWrite (req v : Nat) (hatt : s.chip.attends 0x44700040 = true) :
    exec (.pwrReqWrite req v) s = s.become (if 3 ≤ req ∧ req ≤ 7 then s.chip.pwrRequest req v else s.chip.denied req 15 0x44700040) :=
  congrArg s.become (s.chip.atPwrReq req _ hatt)

theorem Chip.pwrInvalid_iff (u : Chip) (st : Nat) : u.pwrInvalid st = true ↔
    5 ≤ st ∨ (st = 3 ∧ u.get Reg.PWR_CFG.RETMODE = 0 ∧ 8 < popCount (u.get Reg.PWR_RETBANK.MASK) 32) := by
  simp [Chip.pwrInvalid, and_assoc]

/-- PWR_REQ from a management core (R532, R533). -/
theorem Chip.pwrRequest_eq (u : Chip) {req : Nat} (h3 : 3 ≤ req) (h6 : req ≤ 6) (v : Nat) : u.pwrRequest req v =
    (let st := v % 8
     let u := u.answer .ok
     if u.pwrInvalid st then u.put Reg.PWR_STAT.RESULT 6
     else if u.get Reg.PWR_STAT.PHASE = 0 ∧ u.pwrState = 0 ∧ st = 0 then u
     else if u.get Reg.PWR_STAT.PHASE = 0 ∧ st = u.pwrState then u.put Reg.PWR_STAT.RESULT 1
     else if u.get Reg.PWR_STAT.PHASE = 0 ∧ u.pwrState = 0 then u.pwrStart st
     else
       let old := u.get Reg.PWR_STAT.PENDING
       if st = 0 then (if old = 7 then u else (u.put Reg.PWR_STAT.PENDING 7).put Reg.PWR_STAT.RESULT 5)
       else if old = 7 then u.put Reg.PWR_STAT.PENDING st
       else (((u.put Reg.PWR_STAT.PENDING st).put Reg.PWR_STAT.RESULT 4).irq pwrPage 3).raiseAfter 102 0x04 [old, st]) := by
  unfold Chip.pwrRequest
  dsimp only
  rw [if_neg (by omega)]

/-- The log of the consents, emptied at the start of a request. -/
def Chip.clogCleared (u : Chip) : Chip :=
  foldUpTo 64 u (fun u k => ((u.put (Reg.PWR_CLOG.TYPE k) 0).put (Reg.PWR_CLOG.INST k) 0).put (Reg.PWR_CLOG.ANSWER k) 0)

theorem Chip.clogCleared_pwr (u : Chip) : u.clogCleared.pwr = u.pwr ∧ u.clogCleared.now = u.now ∧ u.clogCleared.resp = u.resp := by
  unfold Chip.clogCleared foldUpTo
  exact ⟨foldl_keeps Chip.pwr (by intros; rfl) _ _, foldl_keeps Chip.now (by intros; rfl) _ _, foldl_keeps Chip.resp (by intros; rfl) _ _⟩

theorem Chip.clogCleared_get (u : Chip) {f : Fld} (hlo : f.lo < 32) (hlow : 0x40000000 ≤ f.addr) (hf : f.addr < 0x44701000) : u.clogCleared.get f = u.get f := by
  have hkey : ∀ k, slot k 64 0x44701040 0x4 ≠ f.addr := fun k => by
    by_cases hk : k < 64
    · rw [slot_of_lt _ _ hk]
      omega
    · rw [slot_of_ge _ _ (by omega)]
      omega
  unfold Chip.clogCleared foldUpTo
  refine foldl_keeps (fun t : Chip => t.get f) ?_ _ _
  intro t k
  rw [get_put_ne _ _ _ _ (Fld.key_ne (by simp [Reg.PWR_CLOG.ANSWER]) hlo (hkey k)), get_put_ne _ _ _ _ (Fld.key_ne (by simp [Reg.PWR_CLOG.INST]) hlo (hkey k)),
    get_put_ne _ _ _ _ (Fld.key_ne (by simp [Reg.PWR_CLOG.TYPE]) hlo (hkey k))]

theorem Chip.pwrStart_eq (u : Chip) (st : Nat) : u.pwrStart st =
    (let w := (u.put Reg.PWR_STAT.TARGET st).clogCleared
     if st = 1 then ({ w with pwr := { w.pwr with startAt := w.now, asks := [0x44000000], stopped := [], asked := 0, askAt := w.now } }).put Reg.PWR_STAT.PHASE 2
     else ({ w with pwr := { w.pwr with startAt := w.now, notice := true, asks := [], stopped := [], asked := 0 } }).put Reg.PWR_STAT.PHASE 1) := rfl

theorem Chip.pwrStart_idle (u : Chip) : (u.pwrStart 1).resp = u.resp ∧ (u.pwrStart 1).get Reg.PWR_STAT.PHASE = 2 ∧ (u.pwrStart 1).get Reg.PWR_STAT.TARGET = 1 ∧
    (u.pwrStart 1).pwr.asks = [0x44000000] ∧ (u.pwrStart 1).pwr.stopped = [] ∧ (u.pwrStart 1).pwr.startAt = u.now := by
  obtain ⟨-, hnow, hresp⟩ := (u.put Reg.PWR_STAT.TARGET 1).clogCleared_pwr
  have htarget := (u.put Reg.PWR_STAT.TARGET 1).clogCleared_get (f := Reg.PWR_STAT.TARGET) (by decide) (by decide) (by decide)
  rw [get_put_same] at htarget
  rw [pwrStart_eq]
  generalize (u.put Reg.PWR_STAT.TARGET 1).clogCleared = w at *
  dsimp only
  rw [if_pos rfl]
  exact ⟨hresp, get_put_same .., (get_put_ne _ _ _ _ (by decide)).trans htarget, rfl, rfl, hnow⟩

theorem Chip.pwrStart_deep (u : Chip) {st : Nat} (h2 : 2 ≤ st) (h8 : st < 8) (hstate : u.get Reg.PWR_STAT.STATE = 0) :
    (u.pwrStart st).resp = u.resp ∧ (u.pwrStart st).get Reg.PWR_STAT.PHASE = 1 ∧ (u.pwrStart st).get Reg.PWR_STAT.TARGET = st ∧
    (u.pwrStart st).pwr.notice = true ∧ (u.pwrStart st).pwr.startAt = u.now ∧ (u.pwrStart st).get Reg.PWR_STAT.STATE = 0 := by
  obtain ⟨-, hnow, hresp⟩ := (u.put Reg.PWR_STAT.TARGET st).clogCleared_pwr
  have htarget := (u.put Reg.PWR_STAT.TARGET st).clogCleared_get (f := Reg.PWR_STAT.TARGET) (by decide) (by decide) (by decide)
  have hkept := (u.put Reg.PWR_STAT.TARGET st).clogCleared_get (f := Reg.PWR_STAT.STATE) (by decide) (by decide) (by decide)
  rw [get_put_same] at htarget
  rw [get_put_ne _ _ _ _ (by decide), hstate] at hkept
  rw [pwrStart_eq]
  generalize (u.put Reg.PWR_STAT.TARGET st).clogCleared = w at *
  dsimp only
  rw [if_neg (by omega)]
  exact ⟨hresp, get_put_same .., (get_put_ne _ _ _ _ (by decide)).trans (htarget.trans (Nat.mod_eq_of_lt h8)), rfl, hnow,
    (get_put_ne _ _ _ _ (by decide)).trans hkept⟩

theorem completes_pwrReqWrite (req v : Nat) (hatt : s.chip.attends 0x44700040 = true) :
    let st := v % 8
    let ph := s.chip.get Reg.PWR_STAT.PHASE
    let now := s.chip.get Reg.PWR_STAT.STATE
    let old := s.chip.get Reg.PWR_STAT.PENDING
    let bad := 5 ≤ st ∨ (st = 3 ∧ s.chip.get Reg.PWR_CFG.RETMODE = 0 ∧ 8 < popCount (s.chip.get Reg.PWR_RETBANK.MASK) 32)
    let same := fun (t : Chip) => t.resp = .ok ∧ t.pwr = s.chip.pwr ∧ t.get Reg.PWR_STAT.PHASE = ph ∧ t.get Reg.PWR_STAT.STATE = now
    (req < 3 ∨ 6 < req → Completes (.pwrReqWrite req v) s (fun t => t.resp = .error ∧ t.pwr = s.chip.pwr ∧ t.get Reg.PWR_STAT.PHASE = ph ∧ (req = 7 → t.regs = s.chip.regs))) ∧
     (3 ≤ req → req ≤ 6 → bad → Completes (.pwrReqWrite req v) s (fun t => same t ∧ t.get Reg.PWR_STAT.RESULT = 6 ∧ t.get Reg.PWR_STAT.PENDING = old)) ∧
     (3 ≤ req → req ≤ 6 → ¬ bad → ph = 0 → now = 0 → st = 0 → Completes (.pwrReqWrite req v) s (fun t => t = s.chip.answer .ok)) ∧
     (3 ≤ req → req ≤ 6 → ¬ bad → ph = 0 → st = now → st ≠ 0 → Completes (.pwrReqWrite req v) s (fun t => same t ∧ t.get Reg.PWR_STAT.RESULT = 1 ∧ t.get Reg.PWR_STAT.PENDING = old)) ∧
     (3 ≤ req → req ≤ 6 → ¬ bad → ph = 0 → now = 0 → st = 1 → Completes (.pwrReqWrite req v) s (fun t => t.resp = .ok ∧ t.get Reg.PWR_STAT.PHASE = 2 ∧ t.get Reg.PWR_STAT.TARGET = 1 ∧
       t.pwr.asks = [0x44000000] ∧ t.pwr.stopped = [] ∧ t.pwr.startAt = s.chip.now)) ∧
     (3 ≤ req → req ≤ 6 → ¬ bad → ph = 0 → now = 0 → 2 ≤ st → Completes (.pwrReqWrite req v) s (fun t => t.resp = .ok ∧ t.get Reg.PWR_STAT.PHASE = 1 ∧ t.get Reg.PWR_STAT.TARGET = st ∧
       t.pwr.notice = true ∧ t.pwr.startAt = s.chip.now ∧ t.get Reg.PWR_STAT.STATE = 0)) ∧
     (3 ≤ req → req ≤ 6 → ¬ bad → ph ≠ 0 ∨ (now ≠ 0 ∧ st ≠ now) → s.chip.staged 102 = false →
       (st = 0 → old = 7 → Completes (.pwrReqWrite req v) s (fun t => same t ∧ t.regs = s.chip.regs)) ∧
       (st = 0 → old ≠ 7 → Completes (.pwrReqWrite req v) s (fun t => same t ∧ t.get Reg.PWR_STAT.PENDING = 7 ∧ t.get Reg.PWR_STAT.RESULT = 5)) ∧
       (st ≠ 0 → old = 7 → Completes (.pwrReqWrite req v) s (fun t => same t ∧ t.get Reg.PWR_STAT.PENDING = st ∧ t.get Reg.PWR_STAT.RESULT = s.chip.get Reg.PWR_STAT.RESULT)) ∧
       (st ≠ 0 → old ≠ 7 → Completes (.pwrReqWrite req v) s (fun t => same t ∧ t.get Reg.PWR_STAT.PENDING = st ∧ t.get Reg.PWR_STAT.RESULT = 4 ∧ t.reports 102 4 [old, st] = true ∧
         (t.get (Reg.IRQ.RAW pwrPage)).testBit 3 = true))) := by
  intro st ph now old bad same
  have hst : st < 8 := Nat.mod_lt _ (by decide)
  have hexec := fun (h3 : 3 ≤ req) (h6 : req ≤ 6) => (exec_pwrReqWrite req v hatt).trans (congrArg s.become ((if_pos ⟨h3, by omega⟩).trans (s.chip.pwrRequest_eq h3 h6 v)))
  have hput : ∀ x, same ((s.chip.answer .ok).put Reg.PWR_STAT.RESULT x) := fun x =>
    ⟨rfl, rfl, get_put_ne _ _ _ _ (by decide), get_put_ne _ _ _ _ (by decide)⟩
  have hinvalid : ¬ bad → ((s.chip.answer .ok).pwrInvalid (v % 8)) = false := fun hbad => by
    rw [← Bool.not_eq_true]
    exact fun h => hbad ((pwrInvalid_iff ..).1 h)
  refine ⟨fun hreq => ?_, fun h3 h6 hbad => ⟨_, (hexec h3 h6).trans (congrArg s.become (if_pos ((pwrInvalid_iff ..).2 hbad))), hput 6, get_put_same ..,
      get_put_ne _ _ _ _ (by decide)⟩, fun h3 h6 hbad hph hnow h0 => ?_, fun h3 h6 hbad hph hnow h0 => ?_, fun h3 h6 hbad hph hnow h1 => ?_,
      fun h3 h6 hbad hph hnow h2 => ?_, fun h3 h6 hbad hbusy hs => ?_⟩
  · by_cases h7 : req = 7
    · exact ⟨_, (exec_pwrReqWrite req v hatt).trans (congrArg s.become ((if_pos (by omega)).trans (if_pos (by omega)))), rfl, rfl, rfl, fun _ => rfl⟩
    · refine ⟨_, (exec_pwrReqWrite req v hatt).trans (congrArg s.become (if_neg (by omega))), rfl, denied_within.same .pwr (by decide), ?_, fun h => absurd h h7⟩
      exact denied_within.regs _ (by decide) (by decide) (by decide) (by decide)
  · refine ⟨_, (hexec h3 h6).trans (congrArg s.become ?_), rfl⟩
    dsimp only
    rw [hinvalid hbad, if_neg Bool.false_ne_true, if_pos ⟨hph, hnow, h0⟩]
  · refine ⟨(s.chip.answer .ok).put Reg.PWR_STAT.RESULT 1, (hexec h3 h6).trans (congrArg s.become ?_), hput 1, get_put_same .., get_put_ne _ _ _ _ (by decide)⟩
    dsimp only
    rw [hinvalid hbad, if_neg Bool.false_ne_true, if_neg (fun h => h0 h.2.2), if_pos ⟨hph, hnow⟩]
  · refine ⟨(s.chip.answer .ok).pwrStart 1, (hexec h3 h6).trans (congrArg s.become ?_), pwrStart_idle _⟩
    dsimp only
    rw [hinvalid hbad, if_neg Bool.false_ne_true, if_neg (fun h => by omega), if_neg (fun h => by have : v % 8 = now := h.2; omega), if_pos ⟨hph, hnow⟩]
    exact congrArg _ h1
  · refine ⟨(s.chip.answer .ok).pwrStart st, (hexec h3 h6).trans (congrArg s.become ?_), pwrStart_deep _ h2 hst hnow⟩
    dsimp only
    rw [hinvalid hbad, if_neg Bool.false_ne_true, if_neg (fun h => by omega), if_neg (fun h => by have : v % 8 = now := h.2; omega), if_pos ⟨hph, hnow⟩]
  · have hlate : s.chip.pwrRequest req v = (let u := s.chip.answer .ok
        if st = 0 then (if old = 7 then u else (u.put Reg.PWR_STAT.PENDING 7).put Reg.PWR_STAT.RESULT 5)
        else if old = 7 then u.put Reg.PWR_STAT.PENDING st
        else (((u.put Reg.PWR_STAT.PENDING st).put Reg.PWR_STAT.RESULT 4).irq pwrPage 3).raiseAfter 102 0x04 [old, st]) := by
      rw [pwrRequest_eq _ h3 h6]
      dsimp only
      rw [hinvalid hbad, if_neg Bool.false_ne_true, if_neg (fun h => ?_), if_neg (fun h => ?_), if_neg (fun h => ?_)]
      · rfl
      · obtain ⟨hph, hnow⟩ := h
        rcases hbusy with hbusy | ⟨hbusy, -⟩
        · exact hbusy hph
        · exact hbusy hnow
      · obtain ⟨hph, hsame⟩ := h
        rcases hbusy with hbusy | ⟨-, hbusy⟩
        · exact hbusy hph
        · exact hbusy hsame
      · obtain ⟨hph, hnow, -⟩ := h
        rcases hbusy with hbusy | ⟨hbusy, -⟩
        · exact hbusy hph
        · exact hbusy hnow
    have hrun : ∀ {t}, s.chip.pwrRequest req v = t → exec (.pwrReqWrite req v) s = s.become t := fun h =>
      (exec_pwrReqWrite req v hatt).trans (congrArg s.become ((if_pos ⟨h3, by omega⟩).trans h))
    refine ⟨fun h0 h7 => ?_, fun h0 h7 => ?_, fun h0 h7 => ?_, fun h0 h7 => ?_⟩
    · exact ⟨_, hrun (hlate.trans ((if_pos h0).trans (if_pos h7))), ⟨rfl, rfl, rfl, rfl⟩, rfl⟩
    · refine ⟨_, hrun (hlate.trans ((if_pos h0).trans (if_neg h7))), ⟨rfl, rfl, ?_, ?_⟩, ?_, get_put_same ..⟩
      · exact (get_put_ne _ _ _ _ (by decide)).trans (get_put_ne _ _ _ _ (by decide))
      · exact (get_put_ne _ _ _ _ (by decide)).trans (get_put_ne _ _ _ _ (by decide))
      · exact (get_put_ne _ _ _ _ (by decide)).trans (get_put_same ..)
    · refine ⟨_, hrun (hlate.trans ((if_neg h0).trans (if_pos h7))), ⟨rfl, rfl, ?_, ?_⟩, (get_put_same ..).trans (Nat.mod_eq_of_lt hst), ?_⟩
      · exact get_put_ne _ _ _ _ (by decide)
      · exact get_put_ne _ _ _ _ (by decide)
      · exact get_put_ne _ _ _ _ (by decide)
    · refine ⟨_, hrun (hlate.trans ((if_neg h0).trans (if_neg h7))), ⟨?_, ?_, ?_, ?_⟩, ?_, ?_, pwrEvent_reports 3 _ _ hs, pwrEvent_raw _ _ _ (by decide)⟩
      · rw [raiseAfter_resp, irq_resp]
        rfl
      · rw [raiseAfter_pwr, irq_pwr]
        rfl
      · rw [pwrEvent_get _ _ _ (Fld.ofPwr_self (by rfl)), get_put_ne _ _ _ _ (by decide), get_put_ne _ _ _ _ (by decide)]
        rfl
      · rw [pwrEvent_get _ _ _ (Fld.ofPwr_self (by rfl)), get_put_ne _ _ _ _ (by decide), get_put_ne _ _ _ _ (by decide)]
        rfl
      · rw [pwrEvent_get _ _ _ (Fld.ofPwr_self (by rfl)), get_put_ne _ _ _ _ (by decide), get_put_same]
        exact Nat.mod_eq_of_lt hst
      · rw [pwrEvent_get _ _ _ (Fld.ofPwr_self (by rfl)), get_put_same]
        rfl

end

end Sys2Proof.Machine
end

section
namespace Sys2Proof.Machine
open Chip

/-! ### The asks -/

theorem askOrder_pages : ∀ pg ∈ askOrder, ((pageInfo pg).map (fun p => decide (p.ty < 2 ^ 16 ∧ p.inst < 256))) = some true := by decide +kernel

theorem pageInfo_asked {pg : Nat} (h : pg ∈ askOrder) : ∃ p, pageInfo pg = some p ∧ p.ty < 2 ^ 16 ∧ p.inst < 256 := by
  obtain ⟨p, hp, hsmall⟩ := Option.map_eq_some_iff.1 (askOrder_pages pg h)
  obtain ⟨hty, hinst⟩ := of_decide_eq_true hsmall
  exact ⟨p, hp, hty, hinst⟩

theorem askOrder_shape : askOrder.Nodup ∧ askOrder.getLast? = some 0x50000000 ∧ 0x44700000 ∉ askOrder ∧ 0x40100000 ∉ askOrder := by decide +kernel

section
variable {u : Chip} {pg a : Nat} {p : PageInfo} {f : Fld}

/-- The address of the PWR_CLOG entry that the next answer takes. -/
theorem pwrClog_addr (hk : u.pwr.asked < 64) : slot u.pwr.asked 64 0x44701040 0x4 = 0x44701040 + 4 * u.pwr.asked := by
  rw [slot_of_lt _ _ hk, Nat.mul_comm]

theorem Chip.pwrLog_some (hp : pageInfo pg = some p) : u.pwrLog pg a =
    { ((u.put (Reg.PWR_CLOG.TYPE u.pwr.asked) p.ty).put (Reg.PWR_CLOG.INST u.pwr.asked) p.inst).put (Reg.PWR_CLOG.ANSWER u.pwr.asked) a with
      pwr := { u.pwr with asked := u.pwr.asked + 1 } } := by
  unfold Chip.pwrLog
  dsimp only
  rw [hp]
  rfl

theorem Chip.withPwr_get (u : Chip) (x : Power) (f : Fld) : ({ u with pwr := x } : Chip).get f = u.get f := rfl

theorem Chip.pwrLog_pwr (hp : pageInfo pg = some p) : (u.pwrLog pg a).pwr = { u.pwr with asked := u.pwr.asked + 1 } := by rw [pwrLog_some hp]

/-- What PWR_CLOG shows of an answer. -/
structure Chip.Answered (t : Chip) (k : Nat) (p : PageInfo) (a : Nat) : Prop where
  type : t.get (Reg.PWR_CLOG.TYPE k) = p.ty
  inst : t.get (Reg.PWR_CLOG.INST k) = p.inst
  answer : t.get (Reg.PWR_CLOG.ANSWER k) = a

theorem Chip.pwrLog_answered (hp : pageInfo pg = some p) (hty : p.ty < 2 ^ 16) (hinst : p.inst < 256) (ha : a < 4) : (u.pwrLog pg a).Answered u.pwr.asked p a := by
  have hkeys : ∀ k, (Reg.PWR_CLOG.ANSWER k).key ≠ (Reg.PWR_CLOG.TYPE k).key ∧ (Reg.PWR_CLOG.ANSWER k).key ≠ (Reg.PWR_CLOG.INST k).key ∧
      (Reg.PWR_CLOG.INST k).key ≠ (Reg.PWR_CLOG.TYPE k).key := fun k => by
    simp only [Fld.key, Reg.PWR_CLOG.ANSWER, Reg.PWR_CLOG.TYPE, Reg.PWR_CLOG.INST]
    omega
  obtain ⟨hat, hai, hit⟩ := hkeys u.pwr.asked
  rw [pwrLog_some hp]
  refine ⟨?_, ?_, ?_⟩
  · rw [withPwr_get, get_put_ne _ _ _ _ hat, get_put_ne _ _ _ _ hit, get_put_same]
    exact Nat.mod_eq_of_lt hty
  · rw [withPwr_get, get_put_ne _ _ _ _ hai, get_put_same]
    exact Nat.mod_eq_of_lt hinst
  · rw [withPwr_get, get_put_same]
    exact Nat.mod_eq_of_lt ha

theorem Chip.Answered.of_get {t v : Chip} {k : Nat} (h : t.Answered k p a) (hk : k < 64) (hget : ∀ f : Fld, f.OfPwr → 0x44701000 ≤ f.addr → v.get f = t.get f) : v.Answered k p a := by
  obtain ⟨htype, hinst, hanswer⟩ := pwrClog_ofPwr hk
  have haddr : 0x44701000 ≤ slot k 64 0x44701040 0x4 := by rw [slot_of_lt _ _ hk]; omega
  exact ⟨(hget _ htype haddr).trans h.type, (hget _ hinst haddr).trans h.inst, (hget _ hanswer haddr).trans h.answer⟩

theorem Chip.pwrLog_get (hp : pageInfo pg = some p) (hk : u.pwr.asked < 64) (hlo : f.lo < 32) (hf : f.addr < 0x44701000) : (u.pwrLog pg a).get f = u.get f := by
  have hne : slot u.pwr.asked 64 0x44701040 0x4 ≠ f.addr := by rw [pwrClog_addr hk]; omega
  rw [pwrLog_some hp, withPwr_get, get_put_ne _ _ _ _ (Fld.key_ne (by simp [Reg.PWR_CLOG.ANSWER]) hlo hne),
    get_put_ne _ _ _ _ (Fld.key_ne (by simp [Reg.PWR_CLOG.INST]) hlo hne), get_put_ne _ _ _ _ (Fld.key_ne (by simp [Reg.PWR_CLOG.TYPE]) hlo hne)]

/-! ### Restart and rollback -/

theorem Chip.pwrRestart_pwr (u : Chip) : u.pwrRestart.pwr = { u.pwr with stopped := [], asks := [], notice := false, sclHeld := false } := by
  unfold Chip.pwrRestart
  exact foldl_keeps Chip.pwr (by intros; rfl) _ _

theorem Chip.pwrRestart_get (u : Chip) (hlo : f.lo < 32) (hf : f.addr % 0x1000 ≠ 0xC) : u.pwrRestart.get f = u.get f := by
  unfold Chip.pwrRestart
  refine foldl_keeps (fun t : Chip => t.get f) (fun t x => ?_) _ _
  refine get_put_ne _ _ _ _ (Fld.key_ne (by simp [Reg.BLK_STAT.PWR]) hlo ?_)
  have := pageOf_mod (a := x)
  simp only [Reg.BLK_STAT.PWR]
  omega

theorem Chip.foldl_restarted (l : List Nat) (x : Chip) (pg : Nat) (h : pg ∈ l ∨ x.get (Reg.BLK_STAT.PWR (pageOf pg)) = 0) :
    (l.foldl (fun u pg => u.put (Reg.BLK_STAT.PWR (pageOf pg)) 0) x).get (Reg.BLK_STAT.PWR (pageOf pg)) = 0 := by
  induction l generalizing x with
  | nil => exact h.resolve_left List.not_mem_nil
  | cons y l ih =>
    refine ih _ ?_
    dsimp only
    by_cases hy : pageOf y = pageOf pg
    · rw [hy, get_put_same]
      exact .inr rfl
    · refine (h.imp_left fun hmem => ?_).imp_right fun h0 => ?_
      · exact (List.mem_cons.1 hmem).resolve_left fun heq => hy (heq ▸ rfl)
      · exact (get_put_ne _ _ _ _ (Fld.key_ne (by simp [Reg.BLK_STAT.PWR]) (by simp [Reg.BLK_STAT.PWR]) (by simpa [Reg.BLK_STAT.PWR] using hy))).trans h0

theorem Chip.pwrRestart_stopped (u : Chip) {pg : Nat} (h : pg ∈ u.pwr.stopped) : u.pwrRestart.get (Reg.BLK_STAT.PWR (pageOf pg)) = 0 :=
  foldl_restarted _ _ _ (.inl h)

theorem Chip.pwrStartPending_none (h : u.get Reg.PWR_STAT.PENDING = 7) : u.pwrStartPending = u := if_pos h

/-- The registers after a rollback, before its event (R539). -/
def Chip.rolledBack (u : Chip) (ty inst why : Nat) : Chip :=
  ((((((u.put Reg.PWR_REFUSER.TYPE ty).put Reg.PWR_REFUSER.INST inst).put Reg.PWR_REFUSER.WHY why).pwrRestart).put Reg.PWR_STAT.PHASE 0).put
    Reg.PWR_STAT.RESULT (why + 1)).satInc Reg.PWR_CNT.REFUSALS

/-- The fields that a rollback sets. -/
def rollbackKeys : List Nat := [Reg.PWR_REFUSER.TYPE.key, Reg.PWR_REFUSER.INST.key, Reg.PWR_REFUSER.WHY.key, Reg.PWR_STAT.PHASE.key, Reg.PWR_STAT.RESULT.key,
  Reg.PWR_CNT.REFUSALS.key]

theorem Chip.rolledBack_get (u : Chip) (ty inst why : Nat) (hlo : f.lo < 32) (hc : f.addr % 0x1000 ≠ 0xC) (hf : f.key ∉ rollbackKeys) :
    (u.rolledBack ty inst why).get f = u.get f := by
  simp only [rollbackKeys, List.mem_cons, List.not_mem_nil, or_false, not_or] at hf
  obtain ⟨htype, hinst, hwhy, hphase, hresult, hrefusals⟩ := hf
  unfold Chip.rolledBack
  rw [get_satInc_ne _ _ _ (Ne.symm hrefusals), get_put_ne _ _ _ _ (Ne.symm hresult), get_put_ne _ _ _ _ (Ne.symm hphase), pwrRestart_get _ hlo hc,
    get_put_ne _ _ _ _ (Ne.symm hwhy), get_put_ne _ _ _ _ (Ne.symm hinst), get_put_ne _ _ _ _ (Ne.symm htype)]

/-- What a rollback shows (R539). -/
structure Chip.RolledBack (u t : Chip) (p : PageInfo) (why : Nat) : Prop where
  phase : t.get Reg.PWR_STAT.PHASE = 0
  result : t.get Reg.PWR_STAT.RESULT = why + 1
  type : t.get Reg.PWR_REFUSER.TYPE = p.ty
  inst : t.get Reg.PWR_REFUSER.INST = p.inst
  why : t.get Reg.PWR_REFUSER.WHY = why
  refusals : t.get Reg.PWR_CNT.REFUSALS = min (u.get Reg.PWR_CNT.REFUSALS + 1) 65535
  stopped : t.pwr.stopped = []
  asks : t.pwr.asks = []
  notice : t.pwr.notice = false
  others : ∀ f : Fld, f.OfPwr → f.key ∉ rollbackKeys → t.get f = u.get f
  restarted : ∀ x ∈ u.pwr.stopped, t.get (Reg.BLK_STAT.PWR (pageOf x)) = 0

theorem Chip.rolledBack_shows (u : Chip) {why : Nat} (hty : p.ty < 2 ^ 16) (hinst : p.inst < 256) (hwhy : why < 4) :
    RolledBack u (u.rolledBack p.ty p.inst why) p why where
  phase := by
    unfold Chip.rolledBack
    rw [get_satInc_ne _ _ _ (by decide), get_put_ne _ _ _ _ (by decide), get_put_same]
    rfl
  result := by
    unfold Chip.rolledBack
    rw [get_satInc_ne _ _ _ (by decide), get_put_same]
    exact Nat.mod_eq_of_lt (show why + 1 < 16 by omega)
  type := by
    unfold Chip.rolledBack
    rw [get_satInc_ne _ _ _ (by decide), get_put_ne _ _ _ _ (by decide), get_put_ne _ _ _ _ (by decide), pwrRestart_get _ (by decide) (by decide),
      get_put_ne _ _ _ _ (by decide), get_put_ne _ _ _ _ (by decide), get_put_same]
    exact Nat.mod_eq_of_lt hty
  inst := by
    unfold Chip.rolledBack
    rw [get_satInc_ne _ _ _ (by decide), get_put_ne _ _ _ _ (by decide), get_put_ne _ _ _ _ (by decide), pwrRestart_get _ (by decide) (by decide),
      get_put_ne _ _ _ _ (by decide), get_put_same]
    exact Nat.mod_eq_of_lt hinst
  why := by
    unfold Chip.rolledBack
    rw [get_satInc_ne _ _ _ (by decide), get_put_ne _ _ _ _ (by decide), get_put_ne _ _ _ _ (by decide), pwrRestart_get _ (by decide) (by decide), get_put_same]
    exact Nat.mod_eq_of_lt hwhy
  refusals := by
    unfold Chip.rolledBack
    rw [get_satInc_same, get_put_ne _ _ _ _ (by decide), get_put_ne _ _ _ _ (by decide), pwrRestart_get _ (by decide) (by decide),
      get_put_ne _ _ _ _ (by decide), get_put_ne _ _ _ _ (by decide), get_put_ne _ _ _ _ (by decide)]
    rfl
  stopped := congrArg Power.stopped (pwrRestart_pwr ..)
  asks := congrArg Power.asks (pwrRestart_pwr ..)
  notice := congrArg Power.notice (pwrRestart_pwr ..)
  others f hf hkey := by
    obtain ⟨hlo, -, -, hc⟩ := hf
    exact rolledBack_get _ _ _ _ hlo hc hkey
  restarted x hx := by
    have hlo : (Reg.BLK_STAT.PWR (pageOf x)).lo < 32 := by simp [Reg.BLK_STAT.PWR]
    have hc : (Reg.BLK_STAT.PWR (pageOf x)).addr % 0x1000 = 0xC := by
      have := pageOf_mod (a := x)
      simp only [Reg.BLK_STAT.PWR]
      omega
    have hkept : StatusKept (((u.put Reg.PWR_REFUSER.TYPE p.ty).put Reg.PWR_REFUSER.INST p.inst).put Reg.PWR_REFUSER.WHY why).pwrRestart (u.rolledBack p.ty p.inst why) :=
      ((StatusKept.put (Fld.notStatus_self (by rfl))).trans (StatusKept.put (Fld.notStatus_self (by rfl)))).trans (StatusKept.satInc (Fld.notStatus_self (by rfl)))
    exact (hkept _ hlo (.inr hc)).trans (pwrRestart_stopped _ hx)

/-- A rollback with its interrupt and event. -/
def Chip.rollbackTold (u : Chip) (ty inst why : Nat) : Chip :=
  ((u.rolledBack ty inst why).irq pwrPage 1).raiseAfter 102 0x02 [((u.rolledBack ty inst why).irq pwrPage 1).get Reg.PWR_STAT.TARGET, ty, inst, why]

theorem Chip.rollbackTold_get (u : Chip) (ty inst why : Nat) (hf : f.OfPwr) : (u.rollbackTold ty inst why).get f = (u.rolledBack ty inst why).get f :=
  pwrEvent_get _ _ _ hf

theorem Chip.rollbackTold_pwr (u : Chip) (ty inst why : Nat) : (u.rollbackTold ty inst why).pwr = (u.rolledBack ty inst why).pwr :=
  (raiseAfter_pwr ..).trans (irq_pwr ..)

theorem Chip.rollbackTold_shows (u : Chip) {why : Nat} (hty : p.ty < 2 ^ 16) (hinst : p.inst < 256) (hwhy : why < 4) :
    RolledBack u (u.rollbackTold p.ty p.inst why) p why := by
  have h := u.rolledBack_shows hty hinst hwhy
  have hget : ∀ {f : Fld}, f.OfPwr → (u.rollbackTold p.ty p.inst why).get f = (u.rolledBack p.ty p.inst why).get f := rollbackTold_get _ _ _ _
  have hpwr := u.rollbackTold_pwr p.ty p.inst why
  refine ⟨(hget (Fld.ofPwr_self (by rfl))).trans h.phase, (hget (Fld.ofPwr_self (by rfl))).trans h.result, (hget (Fld.ofPwr_self (by rfl))).trans h.type,
    (hget (Fld.ofPwr_self (by rfl))).trans h.inst, (hget (Fld.ofPwr_self (by rfl))).trans h.why, (hget (Fld.ofPwr_self (by rfl))).trans h.refusals,
    (congrArg Power.stopped hpwr).trans h.stopped, (congrArg Power.asks hpwr).trans h.asks, (congrArg Power.notice hpwr).trans h.notice,
    fun f hf hkey => (hget hf).trans (h.others f hf hkey), fun x hx => ?_⟩
  have hkept : StatusKept (u.rolledBack p.ty p.inst why) (u.rollbackTold p.ty p.inst why) := (StatusKept.irq (by rfl)).trans StatusKept.raiseSince
  refine (hkept _ (by simp [Reg.BLK_STAT.PWR]) (.inr ?_)).trans (h.restarted x hx)
  have := pageOf_mod (a := x)
  simp only [Reg.BLK_STAT.PWR]
  omega

theorem Chip.pwrRollback_eq {why : Nat} (hp : pageInfo pg = some p) (hty : p.ty < 2 ^ 16) (hinst : p.inst < 256) (hwhy : why < 4)
    (hpend : u.get Reg.PWR_STAT.PENDING = 7) :
    u.pwrRollback pg why = { u.rollbackTold p.ty p.inst why with pwr := { (u.rollbackTold p.ty p.inst why).pwr with wakePend := 0 } } := by
  have hnone : (u.rollbackTold p.ty p.inst why).get Reg.PWR_STAT.PENDING = 7 :=
    ((u.rollbackTold_shows hty hinst hwhy).others _ (Fld.ofPwr_self (by rfl)) (by decide)).trans hpend
  rw [← withPwr_get _ { (u.rollbackTold p.ty p.inst why).pwr with wakePend := 0 }] at hnone
  refine Eq.trans ?_ (pwrStartPending_none hnone)
  unfold Chip.pwrRollback Chip.rollbackTold Chip.rolledBack
  rw [hp]

theorem Chip.pwrRestart_kept (u : Chip) : u.pwrRestart.now = u.now ∧ u.pwrRestart.intake = u.intake := by
  unfold Chip.pwrRestart
  exact ⟨foldl_keeps Chip.now (by intros; rfl) _ _, foldl_keeps Chip.intake (by intros; rfl) _ _⟩

theorem Chip.rolledBack_kept (u : Chip) (ty inst why : Nat) : (u.rolledBack ty inst why).now = u.now ∧ (u.rolledBack ty inst why).intake = u.intake := by
  obtain ⟨hnow, hintake⟩ := (((u.put Reg.PWR_REFUSER.TYPE ty).put Reg.PWR_REFUSER.INST inst).put Reg.PWR_REFUSER.WHY why).pwrRestart_kept
  unfold Chip.rolledBack Chip.satInc
  exact ⟨by simpa using hnow, by simpa using hintake⟩

theorem Chip.rolledBack_target (u : Chip) (ty inst why : Nat) :
    ((u.rolledBack ty inst why).irq pwrPage 1).get Reg.PWR_STAT.TARGET = u.get Reg.PWR_STAT.TARGET :=
  (pwrIrq_get _ (Fld.ofPwr_self (by rfl))).trans (rolledBack_get _ _ _ _ (by decide) (by decide) (by decide))

/-- The event and the interrupt of a rollback. -/
theorem Chip.rollbackTold_told (u : Chip) (ty inst why : Nat) (hs : u.staged 102 = false) :
    (u.rollbackTold ty inst why).reports 102 2 [u.get Reg.PWR_STAT.TARGET, ty, inst, why] = true ∧
      ((u.rollbackTold ty inst why).get (Reg.IRQ.RAW pwrPage)).testBit 1 = true ∧ (u.rollbackTold ty inst why).now = u.now := by
  obtain ⟨hnow, hintake⟩ := u.rolledBack_kept ty inst why
  have hstaged : (u.rolledBack ty inst why).staged 102 = false := (staged_of_intake hintake 102).trans hs
  have htarget := u.rolledBack_target ty inst why
  unfold Chip.rollbackTold
  rw [htarget]
  generalize u.rolledBack ty inst why = w at *
  exact ⟨pwrEvent_reports 1 _ _ hstaged, pwrEvent_raw 1 _ _ (by decide), by rw [raiseAfter_now, irq_now, hnow]⟩

theorem Chip.RolledBack.withPwr {t : Chip} {why : Nat} (h : RolledBack u t p why) (k : Nat) :
    RolledBack u { t with pwr := { t.pwr with wakePend := k } } p why :=
  ⟨h.phase, h.result, h.type, h.inst, h.why, h.refusals, h.stopped, h.asks, h.notice, h.others, h.restarted⟩

theorem Chip.withPwr_told {t v : Chip} {why ty inst k : Nat} (x : Power) (h : t.reports 102 2 [k, ty, inst, why] = true ∧
      (t.get (Reg.IRQ.RAW pwrPage)).testBit 1 = true ∧ t.now = u.now) (hv : v = { t with pwr := x }) :
    v.reports 102 2 [k, ty, inst, why] = true ∧ (v.get (Reg.IRQ.RAW pwrPage)).testBit 1 = true ∧ v.now = u.now := by
  subst hv
  exact h

/-- A rollback that leaves RUN with nothing pending. -/
theorem Chip.pwrRollback_shows {why : Nat} (hp : pageInfo pg = some p) (hty : p.ty < 2 ^ 16) (hinst : p.inst < 256) (hwhy : why < 4)
    (hpend : u.get Reg.PWR_STAT.PENDING = 7) (hs : u.staged 102 = false) : RolledBack u (u.pwrRollback pg why) p why ∧
      (u.pwrRollback pg why).reports 102 2 [u.get Reg.PWR_STAT.TARGET, p.ty, p.inst, why] = true ∧
      ((u.pwrRollback pg why).get (Reg.IRQ.RAW pwrPage)).testBit 1 = true ∧ (u.pwrRollback pg why).now = u.now := by
  have heq := pwrRollback_eq hp hty hinst hwhy hpend
  refine ⟨?_, withPwr_told _ (u.rollbackTold_told p.ty p.inst why hs) heq⟩
  rw [heq]
  exact (u.rollbackTold_shows hty hinst hwhy).withPwr 0

end

end Sys2Proof.Machine
end

section
namespace Sys2Proof.Machine
open Chip

/-! ### Entry -/

section
variable {u : Chip} {f : Fld}

/-- Weir, the clocks and the safe inputs at an entry to target `t` (R540). -/
def Chip.pwrDown (u : Chip) (t : Nat) : Chip := if t = 1 then u else u.weirSleep.pllStop.sinSleep

/-- PWR_HOLD released and Weir without power, at an entry to OFF. -/
def Chip.pwrOff (u : Chip) (t : Nat) : Chip :=
  if t = 4 then { u with pwr := { u.pwr with hold := false }, weir := { u.weir with pfArmed := false, off := true } } else u

/-- The parts of the unit that an entry to target `t` stops. -/
def Chip.pwrAsleep (u : Chip) (t : Nat) : Chip := if t = 3 then ((u.pwrDown t).pwrOff t).pwrForget else (u.pwrDown t).pwrOff t

/-- The registers of an entry. -/
def Chip.pwrEntered (u : Chip) (t : Nat) : Chip :=
  (((((u.pwrAsleep t).put Reg.PWR_STAT.STATE t).put Reg.PWR_STAT.PHASE 0).put Reg.PWR_STAT.RESULT 1).satInc Reg.PWR_CNT.ENTRIES)

theorem Chip.pwrEnter_eq (u : Chip) : u.pwrEnter =
    (let t := u.get Reg.PWR_STAT.TARGET
     let v := ((u.pwrEntered t).irq pwrPage 0).raiseAfter 102 0x01 [t, ((u.pwrEntered t).now - (u.pwrEntered t).pwr.startAt) / 100]
     if v.pwr.wakePend = 0 then { v with pwr := { v.pwr with wakePend := 0 } } else ({ v with pwr := { v.pwr with wakePend := 0 } } : Chip).pwrWakeNow v.pwr.wakePend) := rfl

theorem Chip.pwrDown_within {t : Nat} : Within ⟨[.weir, .lat, .sin], some [0x401, 0x404, 0x500]⟩ u (u.pwrDown t) := by
  unfold Chip.pwrDown
  exact (Within.ite .unchanged ((weirSleep_within.trans pllStop_within).trans sinSleep_within)).le (by decide)

theorem Chip.pwrOff_within {t : Nat} : Within ⟨[.weir, .pwr], some []⟩ u (u.pwrOff t) := by
  unfold Chip.pwrOff
  exact (Within.ite (weir_pwr_within (by rfl)) .unchanged).le (by decide)

theorem Chip.pwrAsleep_within {t : Nat} : Within ⟨[.weir, .lat, .sin, .msram, .ddr, .evr, .pwr], some [0x401, 0x404, 0x500]⟩ u (u.pwrAsleep t) := by
  unfold Chip.pwrAsleep
  exact (Within.ite ((pwrDown_within.trans pwrOff_within).trans pwrForget_within) (pwrDown_within.trans pwrOff_within)).le (by decide)

theorem Chip.pwrForget_pwr (u : Chip) : u.pwrForget.pwr = u.pwr := pwrForget_within.same .pwr (by decide)

theorem Chip.pwrDown_pwr (u : Chip) (t : Nat) : (u.pwrDown t).pwr = u.pwr := pwrDown_within.same .pwr (by decide)

theorem Chip.pwrOff_pwr (u : Chip) (t : Nat) : (u.pwrOff t).pwr = if t = 4 then { u.pwr with hold := false } else u.pwr := by
  unfold Chip.pwrOff
  split <;> rfl

theorem Chip.pwrAsleep_pwr (u : Chip) (t : Nat) : (u.pwrAsleep t).pwr = if t = 4 then { u.pwr with hold := false } else u.pwr := by
  unfold Chip.pwrAsleep
  split
  · rw [pwrForget_pwr, pwrOff_pwr, pwrDown_pwr]
  · rw [pwrOff_pwr, pwrDown_pwr]

/-- Weir has every enable clear and every permission withdrawn. -/
def Chip.WeirDark (t : Chip) : Prop := t.weir.en = Rails.low 32 ∧ t.get Reg.WR_EN.EN = 0 ∧ t.lat.perm = Rails.low 2048 ∧ t.lat.sperm = Rails.low 2048

theorem Chip.WeirDark.off {t : Chip} (h : t.WeirDark) : t.enablesOff = true ∧ t.noPermission = true := by
  obtain ⟨hen, hreg, hperm, hsperm⟩ := h
  unfold Chip.enablesOff Chip.noPermission
  rw [hen, hreg, hperm, hsperm]
  simp [Rails.low_word]

theorem Chip.weirSleep_dark (u : Chip) : u.weirSleep.WeirDark :=
  ⟨rfl, (get_put_same u Reg.WR_EN.EN 0).trans rfl, rfl, rfl⟩

theorem Chip.pwrDown_dark (u : Chip) {t : Nat} (ht : t ≠ 1) : (u.pwrDown t).WeirDark := by
  have hkept : Within ⟨[.sin], some [0x401, 0x404]⟩ u.weirSleep u.weirSleep.pllStop.sinSleep := (pllStop_within.trans sinSleep_within).le (by decide)
  obtain ⟨hen, hreg, hperm, hsperm⟩ := u.weirSleep_dark
  unfold Chip.pwrDown
  rw [if_neg ht]
  refine ⟨(congrArg Weir.en (hkept.same .weir (by decide))).trans hen, (hkept.regs _ (by decide) (by decide) (by decide) (by decide)).trans hreg,
    (congrArg Lattice.perm (hkept.same .lat (by decide))).trans hperm, (congrArg Lattice.sperm (hkept.same .lat (by decide))).trans hsperm⟩

theorem Chip.pwrOff_dark {t : Nat} (h : u.WeirDark) : (u.pwrOff t).WeirDark := by
  unfold Chip.pwrOff
  split
  · exact h
  · exact h

theorem Chip.WeirDark.within {S : Scope} {t : Chip} (h : u.WeirDark) (hk : Within S u t) (hweir : .weir ∉ S.parts) (hlat : .lat ∉ S.parts) (hS : S.covers 0x500 = false) :
    t.WeirDark := by
  obtain ⟨hen, hreg, hperm, hsperm⟩ := h
  exact ⟨(congrArg Weir.en (hk.same .weir hweir)).trans hen, (hk.regs Reg.WR_EN.EN (by decide) (by decide) (by decide) hS).trans hreg,
    (congrArg Lattice.perm (hk.same .lat hlat)).trans hperm, (congrArg Lattice.sperm (hk.same .lat hlat)).trans hsperm⟩

theorem Chip.pwrAsleep_dark (u : Chip) {t : Nat} (ht : t ≠ 1) : (u.pwrAsleep t).WeirDark := by
  have h := pwrOff_dark (t := t) (u.pwrDown_dark ht)
  unfold Chip.pwrAsleep
  split
  · exact h.within pwrForget_within (by decide) (by decide) (by decide)
  · exact h

/-- What DEEP_SLEEP keeps of the memories (Table 19.1). -/
theorem Chip.pwrForget_memories (u : Chip) :
    (u.get Reg.PWR_CFG.RETMODE = 1 → u.pwrForget.msram = u.msram ∧ (u.get Reg.PWR_CFG.DDR_SR = 1 → u.pwrForget.ddr = u.ddr)) ∧
    (u.get Reg.PWR_CFG.RETMODE = 0 → ∀ x, x ∈ u.pwrForget.msram ↔ x ∈ u.msram ∧ (u.get Reg.PWR_RETBANK.MASK).testBit ((x.1 - 0x20000000) / 0x40000) = true) := by
  have hdrop : ∀ f, (if u.on Reg.PWR_CFG.DDR_SR then u else { u with ddr := [] } : Chip).get f = u.get f := fun f => by split <;> rfl
  have hmsram : (if u.on Reg.PWR_CFG.DDR_SR then u else { u with ddr := [] } : Chip).msram = u.msram := by split <;> rfl
  have hddr : u.get Reg.PWR_CFG.DDR_SR = 1 → (if u.on Reg.PWR_CFG.DDR_SR then u else { u with ddr := [] } : Chip).ddr = u.ddr := fun h => by
    rw [if_pos (by simp [Chip.on, h])]
  unfold Chip.pwrForget
  dsimp only
  generalize (if u.on Reg.PWR_CFG.DDR_SR then u else { u with ddr := [] } : Chip) = w at *
  unfold Chip.on
  rw [hdrop, hdrop]
  refine ⟨fun h => ?_, fun h x => ?_⟩
  · rw [if_pos (by simp [h])]
    exact ⟨hmsram, hddr⟩
  · rw [if_neg (by simp [h])]
    simp only [List.mem_filter, hmsram]

theorem Chip.pwrAsleep_memories (u : Chip) :
    (u.get Reg.PWR_CFG.RETMODE = 1 → (u.pwrAsleep 3).msram = u.msram ∧ (u.get Reg.PWR_CFG.DDR_SR = 1 → (u.pwrAsleep 3).ddr = u.ddr)) ∧
    (u.get Reg.PWR_CFG.RETMODE = 0 → ∀ x, x ∈ (u.pwrAsleep 3).msram ↔ x ∈ u.msram ∧ (u.get Reg.PWR_RETBANK.MASK).testBit ((x.1 - 0x20000000) / 0x40000) = true) := by
  have hkept : Within ⟨[.weir, .lat, .sin, .pwr], some [0x401, 0x404, 0x500]⟩ u ((u.pwrDown 3).pwrOff 3) := (pwrDown_within.trans pwrOff_within).le (by decide)
  have h := ((u.pwrDown 3).pwrOff 3).pwrForget_memories
  rw [pwr_regs hkept (f := Reg.PWR_CFG.RETMODE) (Fld.ofPwr_self (by rfl)) (by decide), pwr_regs hkept (f := Reg.PWR_CFG.DDR_SR) (Fld.ofPwr_self (by rfl)) (by decide),
    pwr_regs hkept (f := Reg.PWR_RETBANK.MASK) (Fld.ofPwr_self (by rfl)) (by decide), hkept.same .msram (by decide), hkept.same .ddr (by decide)] at h
  exact h

/-- The fields that an entry sets. -/
def entryKeys : List Nat := [Reg.PWR_STAT.STATE.key, Reg.PWR_STAT.PHASE.key, Reg.PWR_STAT.RESULT.key, Reg.PWR_CNT.ENTRIES.key]

/-- What the entry to state `t` shows (R540). -/
structure Chip.Entered (u v : Chip) (t : Nat) : Prop where
  state : v.get Reg.PWR_STAT.STATE = t
  phase : v.get Reg.PWR_STAT.PHASE = 0
  result : v.get Reg.PWR_STAT.RESULT = 1
  entries : v.get Reg.PWR_CNT.ENTRIES = min (u.get Reg.PWR_CNT.ENTRIES + 1) 65535
  dark : t ≠ 1 → v.WeirDark
  msram : v.msram = (u.pwrAsleep t).msram
  ddr : v.ddr = (u.pwrAsleep t).ddr
  others : ∀ f : Fld, f.OfPwr → f.key ∉ entryKeys → v.get f = u.get f
  status : StatusKept u v

theorem Chip.pwrAsleep_get (u : Chip) (t : Nat) (hf : f.OfPwr) : (u.pwrAsleep t).get f = u.get f := pwr_regs pwrAsleep_within hf (by decide)

theorem Chip.pwrForget_regs (u : Chip) : u.pwrForget.regs = u.regs := by
  have hdrop : (if u.on Reg.PWR_CFG.DDR_SR then u else { u with ddr := [] } : Chip).regs = u.regs := by split <;> rfl
  unfold Chip.pwrForget
  dsimp only
  generalize (if u.on Reg.PWR_CFG.DDR_SR then u else { u with ddr := [] } : Chip) = w at *
  split
  · exact hdrop
  · exact hdrop

theorem Chip.sinSleep_status (u : Chip) : StatusKept u u.sinSleep :=
  (StatusKept.put (g := Reg.TOUT_STAT.ACTIVE) (v := 15) (Fld.notStatus_self (by rfl))).trans (.of_regs (by rfl))

theorem Chip.pwrAsleep_status (u : Chip) (t : Nat) : StatusKept u (u.pwrAsleep t) := by
  have hdown : StatusKept u (u.pwrDown t) := by
    refine StatusKept.ite .rfl ?_
    have hsleep : StatusKept u u.weirSleep := StatusKept.put (g := Reg.WR_EN.EN) (v := 0) (Fld.notStatus_self (by rfl))
    have hpll : StatusKept u.weirSleep u.weirSleep.pllStop := by
      unfold Chip.pllStop
      exact (((((StatusKept.put (Fld.notStatus_self (by rfl))).trans (.put (Fld.notStatus_self (by rfl)))).trans (.put (Fld.notStatus_self (by rfl)))).trans
        (.put (Fld.notStatus_self (by rfl)))).trans (.put (Fld.notStatus_self (by rfl)))).trans (.put (Fld.notStatus_self (by rfl)))
    have hsin := u.weirSleep.pllStop.sinSleep_status
    exact (hsleep.trans hpll).trans hsin
  have hoff : StatusKept (u.pwrDown t) ((u.pwrDown t).pwrOff t) := StatusKept.ite (.of_regs (by rfl)) .rfl
  have hforget : StatusKept ((u.pwrDown t).pwrOff t) ((u.pwrDown t).pwrOff t).pwrForget := .of_regs (pwrForget_regs _)
  exact StatusKept.ite ((hdown.trans hoff).trans hforget) (hdown.trans hoff)

theorem Chip.pwrEntered_shows (u : Chip) {t : Nat} (ht : t < 8) : Entered u (u.pwrEntered t) t where
  state := by
    unfold Chip.pwrEntered
    rw [get_satInc_ne _ _ _ (by decide), get_put_ne _ _ _ _ (by decide), get_put_ne _ _ _ _ (by decide), get_put_same]
    exact Nat.mod_eq_of_lt ht
  phase := by
    unfold Chip.pwrEntered
    rw [get_satInc_ne _ _ _ (by decide), get_put_ne _ _ _ _ (by decide), get_put_same]
    rfl
  result := by
    unfold Chip.pwrEntered
    rw [get_satInc_ne _ _ _ (by decide), get_put_same]
    rfl
  entries := by
    unfold Chip.pwrEntered
    rw [get_satInc_same, get_put_ne _ _ _ _ (by decide), get_put_ne _ _ _ _ (by decide), get_put_ne _ _ _ _ (by decide),
      pwrAsleep_get _ _ (Fld.ofPwr_self (by rfl))]
    rfl
  dark h := by
    unfold Chip.pwrEntered
    have hregs : Within ⟨[], some [0x447]⟩ (u.pwrAsleep t) (((((u.pwrAsleep t).put Reg.PWR_STAT.STATE t).put Reg.PWR_STAT.PHASE 0).put Reg.PWR_STAT.RESULT 1).satInc
        Reg.PWR_CNT.ENTRIES) :=
      ((((put_within (Fld.inBlocks_self (by rfl))).trans (put_within (Fld.inBlocks_self (by rfl)))).trans (put_within (Fld.inBlocks_self (by rfl)))).trans
        (satInc_within (Fld.inBlocks_self (by rfl)))).le (by decide)
    exact (u.pwrAsleep_dark h).within hregs (by decide) (by decide) (by decide)
  msram := rfl
  ddr := rfl
  others f hf hkey := by
    simp only [entryKeys, List.mem_cons, List.not_mem_nil, or_false, not_or] at hkey
    obtain ⟨hstate, hphase, hresult, hentries⟩ := hkey
    unfold Chip.pwrEntered
    rw [get_satInc_ne _ _ _ (Ne.symm hentries), get_put_ne _ _ _ _ (Ne.symm hresult), get_put_ne _ _ _ _ (Ne.symm hphase), get_put_ne _ _ _ _ (Ne.symm hstate),
      pwrAsleep_get _ _ hf]
  status := (((u.pwrAsleep_status t).trans (.put (Fld.notStatus_self (by rfl)))).trans (.put (Fld.notStatus_self (by rfl)))).trans
    ((StatusKept.put (Fld.notStatus_self (by rfl))).trans (.satInc (Fld.notStatus_self (by rfl))))

theorem Chip.pwrEntered_pwr (u : Chip) (t : Nat) : (u.pwrEntered t).pwr = if t = 4 then { u.pwr with hold := false } else u.pwr := u.pwrAsleep_pwr t

/-- The event of an entry changes nothing of what the entry shows. -/
theorem Chip.Entered.told {v : Chip} {t : Nat} (h : Entered u v t) (d : List Nat) : Entered u ((v.irq pwrPage 0).raiseAfter 102 0x01 d) t where
  state := (pwrEvent_get _ _ _ (Fld.ofPwr_self (by rfl))).trans h.state
  phase := (pwrEvent_get _ _ _ (Fld.ofPwr_self (by rfl))).trans h.phase
  result := (pwrEvent_get _ _ _ (Fld.ofPwr_self (by rfl))).trans h.result
  entries := (pwrEvent_get _ _ _ (Fld.ofPwr_self (by rfl))).trans h.entries
  dark ht := ((h.dark ht).within (irq_within (.self (by rfl))) (by decide) (by decide) (by decide)).within raiseAfter_within (by decide) (by decide) (by decide)
  msram := ((raiseAfter_msram ..).trans (irq_msram ..)).trans h.msram
  ddr := ((raiseAfter_ddr ..).trans (irq_ddr ..)).trans h.ddr
  others f hf hkey := (pwrEvent_get _ _ _ hf).trans (h.others f hf hkey)
  status := h.status.trans ((StatusKept.irq (by rfl)).trans StatusKept.raiseSince)

theorem Chip.Entered.withPwr {v : Chip} {t : Nat} (h : Entered u v t) (x : Power) : Entered u { v with pwr := x } t :=
  ⟨h.state, h.phase, h.result, h.entries, h.dark, h.msram, h.ddr, h.others, h.status⟩

/-- An entry to state `t` with its interrupt and event. -/
def Chip.entryTold (u : Chip) (t : Nat) : Chip :=
  ((u.pwrEntered t).irq pwrPage 0).raiseAfter 102 0x01 [t, ((u.pwrEntered t).now - (u.pwrEntered t).pwr.startAt) / 100]

theorem Chip.entryTold_shows (u : Chip) {t : Nat} (ht : t < 8) : Entered u (u.entryTold t) t := (u.pwrEntered_shows ht).told _

theorem Chip.entryTold_raw (u : Chip) (t : Nat) : ((u.entryTold t).get (Reg.IRQ.RAW pwrPage)).testBit 0 = true := pwrEvent_raw 0 _ _ (by decide)

theorem Chip.entryTold_pwr (u : Chip) (t : Nat) : (u.entryTold t).pwr = if t = 4 then { u.pwr with hold := false } else u.pwr := by
  unfold Chip.entryTold
  rw [raiseAfter_pwr, irq_pwr, pwrEntered_pwr]

theorem Chip.pwrEnter_told (u : Chip) : u.pwrEnter =
    if (u.entryTold (u.get Reg.PWR_STAT.TARGET)).pwr.wakePend = 0 then
      { u.entryTold (u.get Reg.PWR_STAT.TARGET) with pwr := { (u.entryTold (u.get Reg.PWR_STAT.TARGET)).pwr with wakePend := 0 } }
    else ({ u.entryTold (u.get Reg.PWR_STAT.TARGET) with pwr := { (u.entryTold (u.get Reg.PWR_STAT.TARGET)).pwr with wakePend := 0 } } : Chip).pwrWakeNow
      (u.entryTold (u.get Reg.PWR_STAT.TARGET)).pwr.wakePend := u.pwrEnter_eq

theorem Chip.entry_withPwr {v w : Chip} {t : Nat} {x : Power} (h : Entered u v t) (hraw : (v.get (Reg.IRQ.RAW pwrPage)).testBit 0 = true)
    (hhold : t = 4 → x.hold = false) (hw : w = { v with pwr := x }) :
    Entered u w t ∧ (w.get (Reg.IRQ.RAW pwrPage)).testBit 0 = true ∧ (t = 4 → w.pwr.hold = false) := by
  subst hw
  exact ⟨h.withPwr x, hraw, hhold⟩

/-- The entry to a state with no wake source waiting. -/
theorem Chip.pwrEnter_shows {u : Chip} (hwake : u.pwr.wakePend = 0) : Entered u u.pwrEnter (u.get Reg.PWR_STAT.TARGET) ∧
    (u.pwrEnter.get (Reg.IRQ.RAW pwrPage)).testBit 0 = true ∧ (u.get Reg.PWR_STAT.TARGET = 4 → u.pwrEnter.pwr.hold = false) := by
  have hpwr := u.entryTold_pwr (u.get Reg.PWR_STAT.TARGET)
  have hnone : (u.entryTold (u.get Reg.PWR_STAT.TARGET)).pwr.wakePend = 0 := by
    rw [hpwr]
    split
    · exact hwake
    · exact hwake
  refine entry_withPwr (u.entryTold_shows (u.get_lt _)) (u.entryTold_raw _) (fun h4 => ?_) (u.pwrEnter_told.trans (if_pos hnone))
  rw [hpwr, if_pos h4]

end

end Sys2Proof.Machine
end

section
namespace Sys2Proof.Machine
open Chip

section
variable {s : State}

/-! ### The asks begin -/

theorem completes_consentAskStart :
    (s.chip.get Reg.PWR_STAT.PHASE ≠ 1 → Completes .consentAskStart s (fun t => t = s.chip) ∧ Completes .noticeTimeout s (fun t => t = s.chip)) ∧
    (s.chip.get Reg.PWR_STAT.PHASE = 1 →
      ((∀ pg ∈ askOrder, pg < 0x41000000 ∨ pg = 0x50000000 → s.chip.consents pg true = true) → Completes .consentAskStart s (fun t => t.get Reg.PWR_STAT.PHASE = 2 ∧ t.pwr.asks = askOrder)) ∧
      ((∃ pg ∈ askOrder, pg < 0x41000000 ∧ s.chip.consents pg true = false) → Completes .consentAskStart s (fun t => t = s.chip)) ∧
      Completes .noticeTimeout s (fun t => t.get Reg.PWR_STAT.PHASE = 2 ∧ t.pwr.asks = askOrder ∧ t.now = max s.chip.now (s.chip.pwr.startAt + ms (s.chip.get Reg.PWR_CFG.NOTICE_MS)))) := by
  have hask : ∀ u : Chip, u.pwrAsk.get Reg.PWR_STAT.PHASE = 2 ∧ u.pwrAsk.pwr.asks = askOrder ∧ u.pwrAsk.now = u.now := fun u =>
    ⟨get_put_same .., rfl, rfl⟩
  refine ⟨fun hph => ⟨⟨_, congrArg s.become (if_neg fun h => hph h.1), rfl⟩, ⟨_, congrArg s.become (if_neg hph), rfl⟩⟩, fun hph => ⟨fun hall => ?_, fun hsome => ?_, ?_⟩⟩
  · obtain ⟨hphase, hasks, -⟩ := hask s.chip
    refine ⟨_, congrArg s.become (if_pos ⟨hph, ?_⟩), hphase, hasks⟩
    simp only [List.all_eq_true, List.mem_filter, decide_eq_true_eq]
    rintro pg ⟨hmem, hpg⟩
    exact hall pg hmem (by omega)
  · obtain ⟨pg, hmem, hlow, hno⟩ := hsome
    refine ⟨_, congrArg s.become (if_neg ?_), rfl⟩
    rintro ⟨-, hall⟩
    simp only [List.all_eq_true, List.mem_filter, decide_eq_true_eq] at hall
    rw [hall pg ⟨hmem, by omega⟩] at hno
    cases hno
  · obtain ⟨hphase, hasks, hnow⟩ := hask (s.chip.until (s.chip.pwr.startAt + ms (s.chip.get Reg.PWR_CFG.NOTICE_MS)))
    exact ⟨_, congrArg s.become (if_pos hph), hphase, hasks, hnow.trans (until_now ..)⟩

/-! ### Answers -/

theorem consent_idle (ready : Bool) (h : s.chip.get Reg.PWR_STAT.PHASE ≠ 2 ∨ s.chip.pwr.asks = []) :
    Completes (.consentAnswer ready) s (fun t => t = s.chip) ∧ Completes .consentTimeout s (fun t => t = s.chip) := by
  refine ⟨⟨s.chip, ?_, rfl⟩, ⟨s.chip, ?_, rfl⟩⟩
  · change execConsentAnswer ready s = s.become s.chip
    unfold execConsentAnswer
    dsimp only
    split
    · rfl
    · next hph =>
      rw [h.resolve_left hph]
  · change execConsentTimeout s = s.become s.chip
    unfold execConsentTimeout
    dsimp only
    split
    · rfl
    · next hph =>
      rw [h.resolve_left hph]

/-- A block that consents stops, and the next one is asked (R538). -/
def Chip.blockStopped (u : Chip) (pg : Nat) (rest : List Nat) : Chip :=
  { (u.pwrLog pg 1).put (Reg.BLK_STAT.PWR (pageOf pg)) 3 with
    pwr := { (u.pwrLog pg 1).pwr with asks := rest, stopped := pg :: (u.pwrLog pg 1).pwr.stopped, askAt := (u.pwrLog pg 1).now } }

theorem execConsentAnswer_asked {ready : Bool} {pg : Nat} {rest : List Nat} (hph : s.chip.get Reg.PWR_STAT.PHASE = 2) (hasks : s.chip.pwr.asks = pg :: rest) :
    execConsentAnswer ready s = s.become (if s.chip.consents pg ready = true then
      (if rest = [] then (s.chip.blockStopped pg rest).pwrEnter else s.chip.blockStopped pg rest) else (s.chip.pwrLog pg 2).pwrRollback pg 1) := by
  unfold execConsentAnswer
  dsimp only
  rw [if_neg (by simpa using hph), hasks]
  dsimp only
  split
  · rfl
  · rfl

theorem execConsentTimeout_asked {pg : Nat} {rest : List Nat} (hph : s.chip.get Reg.PWR_STAT.PHASE = 2) (hasks : s.chip.pwr.asks = pg :: rest) :
    execConsentTimeout s = s.become (((s.chip.until (s.chip.pwr.askAt + us 100)).pwrLog pg 3).pwrRollback pg 2) := by
  unfold execConsentTimeout
  dsimp only
  rw [if_neg (by simpa using hph), hasks]

/-- What the stop of a consenting block shows. -/
structure Chip.Stopped (u t : Chip) (pg : Nat) (rest : List Nat) (p : PageInfo) : Prop where
  logged : t.Answered u.pwr.asked p 1
  gated : t.get (Reg.BLK_STAT.PWR (pageOf pg)) = 3
  pwr : t.pwr = { u.pwr with asked := u.pwr.asked + 1, asks := rest, stopped := pg :: u.pwr.stopped, askAt := u.now }
  others : ∀ f : Fld, f.OfPwr → f.addr < 0x44701000 → t.get f = u.get f
  msram : t.msram = u.msram
  ddr : t.ddr = u.ddr

theorem Chip.pwrLog_now (u : Chip) {pg a : Nat} {p : PageInfo} (hp : pageInfo pg = some p) : (u.pwrLog pg a).now = u.now := by rw [pwrLog_some hp]; rfl

theorem Chip.blockStopped_shows {u : Chip} {pg : Nat} {p : PageInfo} (rest : List Nat) (hp : pageInfo pg = some p) (hty : p.ty < 2 ^ 16) (hinst : p.inst < 256)
    (hk : u.pwr.asked < 64) : Stopped u (u.blockStopped pg rest) pg rest p := by
  have hput : ∀ f : Fld, f.OfPwr → ((u.pwrLog pg 1).put (Reg.BLK_STAT.PWR (pageOf pg)) 3).get f = (u.pwrLog pg 1).get f := fun f ⟨hlo, _, _, hc⟩ => by
    refine get_put_ne _ _ _ _ (Fld.key_ne (by simp [Reg.BLK_STAT.PWR]) hlo ?_)
    have := pageOf_mod (a := pg)
    simp only [Reg.BLK_STAT.PWR]
    omega
  have hpwr := pwrLog_pwr (u := u) (a := 1) hp
  have hnow := u.pwrLog_now (a := 1) hp
  unfold Chip.blockStopped
  refine ⟨?_, (withPwr_get ..).trans (get_put_same ..), ?_, fun f hf hlow => ?_, ?_, ?_⟩
  · exact (pwrLog_answered hp hty hinst (by decide)).of_get hk (fun f hf _ => (withPwr_get ..).trans (hput f hf))
  · dsimp only
    rw [hpwr, hnow]
  · rw [withPwr_get, hput f hf]
    exact pwrLog_get hp hk hf.1 hlow
  · exact (pwrLog_within (ans := 1)).same .msram (by decide)
  · exact (pwrLog_within (ans := 1)).same .ddr (by decide)

/-- The statement's clauses on the answer of the asked block. -/
theorem completes_consent {pg : Nat} {rest : List Nat} (hph : s.chip.get Reg.PWR_STAT.PHASE = 2) (hasks : s.chip.pwr.asks = pg :: rest) (hpg : pg ∈ askOrder)
    (hstate : s.chip.get Reg.PWR_STAT.STATE = 0) (hpend : s.chip.get Reg.PWR_STAT.PENDING = 7) (hs : s.chip.staged 102 = false) (hk : s.chip.pwr.asked < 64)
    (ready : Bool) :
    let p := (pageInfo pg).getD ⟨0, 0, 0, 0, 0, 0⟩
    let k := s.chip.pwr.asked
    let logged := fun (t : Chip) (a : Nat) => t.get (Reg.PWR_CLOG.TYPE k) = p.ty ∧ t.get (Reg.PWR_CLOG.INST k) = p.inst ∧ t.get (Reg.PWR_CLOG.ANSWER k) = a
    let back := fun (t : Chip) (why : Nat) => logged t (why + 1) ∧ t.get Reg.PWR_STAT.PHASE = 0 ∧ t.get Reg.PWR_STAT.STATE = 0 ∧ t.get Reg.PWR_STAT.RESULT = why + 1 ∧
       t.get Reg.PWR_REFUSER.TYPE = p.ty ∧ t.get Reg.PWR_REFUSER.INST = p.inst ∧ t.get Reg.PWR_REFUSER.WHY = why ∧ t.pwr.stopped = [] ∧ t.pwr.asks = [] ∧ t.pwr.notice = false ∧
       (∀ x ∈ s.chip.pwr.stopped, t.get (Reg.BLK_STAT.PWR (pageOf x)) = 0) ∧ t.get Reg.PWR_CNT.REFUSALS = min (s.chip.get Reg.PWR_CNT.REFUSALS + 1) 65535 ∧
       t.reports 102 2 [s.chip.get Reg.PWR_STAT.TARGET, p.ty, p.inst, why] = true ∧ (t.get (Reg.IRQ.RAW pwrPage)).testBit 1 = true
    (s.chip.consents pg ready = true → rest ≠ [] → Completes (.consentAnswer ready) s (fun t => logged t 1 ∧ t.get (Reg.BLK_STAT.PWR (pageOf pg)) = 3 ∧ t.pwr.asks = rest ∧
       t.pwr.stopped = pg :: s.chip.pwr.stopped ∧ t.get Reg.PWR_STAT.PHASE = 2)) ∧
     (s.chip.consents pg ready = true → rest = [] → s.chip.pwr.wakePend = 0 → s.chip.get Reg.PWR_STAT.TARGET ≤ 4 → Completes (.consentAnswer ready) s (fun t => logged t 1 ∧
       t.get (Reg.BLK_STAT.PWR (pageOf pg)) = 3 ∧ t.get Reg.PWR_STAT.STATE = s.chip.get Reg.PWR_STAT.TARGET ∧ t.get Reg.PWR_STAT.PHASE = 0 ∧ t.get Reg.PWR_STAT.RESULT = 1 ∧
       t.get Reg.PWR_CNT.ENTRIES = min (s.chip.get Reg.PWR_CNT.ENTRIES + 1) 65535 ∧ (t.get (Reg.IRQ.RAW pwrPage)).testBit 0 = true ∧
       (s.chip.get Reg.PWR_STAT.TARGET ≠ 1 → t.enablesOff = true ∧ t.noPermission = true) ∧ (s.chip.get Reg.PWR_STAT.TARGET = 4 → t.pwr.hold = false) ∧
       (s.chip.get Reg.PWR_STAT.TARGET = 3 → s.chip.get Reg.PWR_CFG.RETMODE = 1 → t.msram = s.chip.msram ∧ (s.chip.get Reg.PWR_CFG.DDR_SR = 1 → t.ddr = s.chip.ddr)) ∧
       (s.chip.get Reg.PWR_STAT.TARGET = 3 → s.chip.get Reg.PWR_CFG.RETMODE = 0 → ∀ x, x ∈ t.msram ↔ x ∈ s.chip.msram ∧
         (s.chip.get Reg.PWR_RETBANK.MASK).testBit ((x.1 - 0x20000000) / 0x40000) = true))) ∧
     (s.chip.consents pg ready = false → Completes (.consentAnswer ready) s (fun t => back t 1)) ∧
     Completes .consentTimeout s (fun t => back t 2 ∧ t.now = max s.chip.now (s.chip.pwr.askAt + us 100)) := by
  obtain ⟨p, hp, hty, hinst⟩ := pageInfo_asked hpg
  rw [hp, Option.getD_some]
  intro q k logged back
  have hanswered : ∀ {t a}, t.Answered k p a → logged t a := fun h => ⟨h.type, h.inst, h.answer⟩
  -- A rollback after the answer `why + 1`, from a chip `u` that has the registers, the stopped blocks and the staging of `s`.
  have hback : ∀ {u : Chip} {why : Nat}, u.pwr = s.chip.pwr → (∀ f, u.get f = s.chip.get f) → u.intake = s.chip.intake → why < 3 →
      back ((u.pwrLog pg (why + 1)).pwrRollback pg why) why ∧ ((u.pwrLog pg (why + 1)).pwrRollback pg why).now = u.now := by
    intro u why hpwr hget hintake hwhy
    have hask : u.pwr.asked = k := congrArg Power.asked hpwr
    have hku : u.pwr.asked < 64 := hask ▸ hk
    have hlog : ∀ {f : Fld}, f.lo < 32 → f.addr < 0x44701000 → (u.pwrLog pg (why + 1)).get f = s.chip.get f := fun hlo hlow =>
      (pwrLog_get hp hku hlo hlow).trans (hget _)
    have hstaged : (u.pwrLog pg (why + 1)).staged 102 = false := by
      rw [staged_of_intake ((pwrLog_within.same .intake (by decide)).trans hintake), hs]
    obtain ⟨hrolled, hreports, hraw, hnow⟩ := pwrRollback_shows (u := u.pwrLog pg (why + 1)) (why := why) hp hty hinst (by omega)
      ((hlog (by decide) (by decide)).trans hpend) hstaged
    have hlogged : ((u.pwrLog pg (why + 1)).pwrRollback pg why).Answered k p (why + 1) := by
      rw [← hask]
      refine (pwrLog_answered hp hty hinst (by omega)).of_get hku (fun f hf hhigh => hrolled.others f hf ?_)
      have hkeys : ∀ x ∈ rollbackKeys, x < 0x44701000 * 32 := by decide
      intro hmem
      have := hkeys _ hmem
      unfold Fld.key at this
      omega
    rw [hlog (by decide) (by decide)] at hreports
    refine ⟨⟨hanswered hlogged, hrolled.phase, ?_, hrolled.result, hrolled.type, hrolled.inst, hrolled.why, hrolled.stopped, hrolled.asks, hrolled.notice,
      fun x hx => hrolled.restarted x ?_, hrolled.refusals.trans ?_, hreports, hraw⟩, hnow.trans (u.pwrLog_now hp)⟩
    · exact (hrolled.others _ (Fld.ofPwr_self (by rfl)) (by decide)).trans ((hlog (by decide) (by decide)).trans hstate)
    · rw [pwrLog_pwr hp, hpwr]
      exact hx
    · rw [hlog (by decide) (by decide)]
  have hstop := blockStopped_shows (u := s.chip) (pg := pg) rest hp hty hinst hk
  refine ⟨fun hc hrest => ⟨_, (execConsentAnswer_asked hph hasks).trans (congrArg s.become ((if_pos hc).trans (if_neg hrest))), hanswered hstop.logged, hstop.gated,
      congrArg Power.asks hstop.pwr, congrArg Power.stopped hstop.pwr, (hstop.others _ (Fld.ofPwr_self (by rfl)) (by decide)).trans hph⟩,
    fun hc hrest hwake _ => ?_, fun hc => ?_, ?_⟩
  · have htarget : (s.chip.blockStopped pg rest).get Reg.PWR_STAT.TARGET = s.chip.get Reg.PWR_STAT.TARGET := hstop.others _ (Fld.ofPwr_self (by rfl)) (by decide)
    obtain ⟨hent, hraw, hhold⟩ := pwrEnter_shows (u := s.chip.blockStopped pg rest) ((congrArg Power.wakePend hstop.pwr).trans hwake)
    have hmem := (s.chip.blockStopped pg rest).pwrAsleep_memories
    rw [hstop.others _ (Fld.ofPwr_self (by rfl)) (by decide), hstop.others _ (Fld.ofPwr_self (by rfl)) (by decide), hstop.others _ (Fld.ofPwr_self (by rfl)) (by decide),
      hstop.msram, hstop.ddr] at hmem
    rw [htarget] at hent hhold
    have hlogged : (s.chip.blockStopped pg rest).pwrEnter.Answered k p 1 := hstop.logged.of_get hk (fun f hf hhigh => hent.others f hf (by
      have hkeys : ∀ x ∈ entryKeys, x < 0x44701000 * 32 := by decide
      intro hmem
      have := hkeys _ hmem
      unfold Fld.key at this
      omega))
    refine ⟨_, (execConsentAnswer_asked hph hasks).trans (congrArg s.become ((if_pos hc).trans (if_pos hrest))), hanswered hlogged, ?_, hent.state, hent.phase, hent.result,
      hent.entries.trans ?_, hraw, fun h1 => (hent.dark h1).off, hhold, fun h3 hret => ?_, fun h3 hret => ?_⟩
    · refine (hent.status _ (by simp [Reg.BLK_STAT.PWR]) (.inr ?_)).trans hstop.gated
      have := pageOf_mod (a := pg)
      simp only [Reg.BLK_STAT.PWR]
      omega
    · rw [hstop.others _ (Fld.ofPwr_self (by rfl)) (by decide)]
    · rw [hent.msram, hent.ddr, h3]
      exact hmem.1 hret
    · rw [hent.msram, h3]
      exact hmem.2 hret
  · exact ⟨_, (execConsentAnswer_asked hph hasks).trans (congrArg s.become (if_neg (by simp [hc]))), (hback rfl (fun _ => rfl) rfl (by decide)).1⟩
  · have hget : ∀ f, (s.chip.until (s.chip.pwr.askAt + us 100)).get f = s.chip.get f := fun f => congrArg f.read (until_regs ..)
    obtain ⟨hb, hnow⟩ := hback (u := s.chip.until (s.chip.pwr.askAt + us 100)) (why := 2) (until_pwr ..) hget (until_intake ..) (by decide)
    exact ⟨_, execConsentTimeout_asked hph hasks, hb, hnow.trans (until_now ..)⟩

end

end Sys2Proof.Machine
end

section
namespace Sys2Proof.Machine
open Chip

section
variable {s : State} {u : Chip}

/-! ### Wake -/

theorem Chip.pwrWake_kept {b : Nat} (h : u.get Reg.PWR_STAT.PHASE = 1 ∨ u.get Reg.PWR_STAT.PHASE = 2) :
    u.pwrWake b = { u with pwr := { u.pwr with wakePend := u.pwr.wakePend ||| 2 ^ b } } := if_pos h

theorem Chip.pwrWake_none {b : Nat} (hph : u.get Reg.PWR_STAT.PHASE = 0 ∨ u.get Reg.PWR_STAT.PHASE = 4) (h : u.pwrState = 0) : u.pwrWake b = u := by
  unfold Chip.pwrWake
  dsimp only
  rw [if_neg (by omega), if_pos (.inl h)]

theorem Chip.pwrWake_now {b : Nat} (hph : u.get Reg.PWR_STAT.PHASE = 0 ∨ u.get Reg.PWR_STAT.PHASE = 4) (h : u.pwrState ≠ 0) (hb : u.pwrState = 4 → b = 0) :
    u.pwrWake b = u.pwrWakeNow (2 ^ b) := by
  unfold Chip.pwrWake
  dsimp only
  rw [if_neg (by omega), if_neg (by tauto)]

theorem wake_cause (x : Nat) {b : Nat} (hb : b < 5) : ((x ||| 2 ^ b) % 2 ^ 5).testBit b = true := by
  rw [Nat.testBit_mod_two_pow, Nat.testBit_or, Nat.testBit_two_pow_self, Bool.or_true]
  simp [hb]

/-- A wake source in SLEEP or DEEP_SLEEP starts the wake phase. -/
theorem Chip.pwrWakeNow_sleep {b : Nat} (h : u.pwrState = 2 ∨ u.pwrState = 3) (hb : b < 5) :
    (u.pwrWakeNow (2 ^ b)).get Reg.PWR_STAT.PHASE = 4 ∧ ((u.pwrWakeNow (2 ^ b)).get Reg.PWR_WAKE.CAUSE).testBit b = true ∧
      (u.pwrWakeNow (2 ^ b)).get Reg.PWR_STAT.STATE = u.get Reg.PWR_STAT.STATE ∧ (u.pwrWakeNow (2 ^ b)).pwr = u.pwr ∧ (u.pwrWakeNow (2 ^ b)).now = u.now := by
  have heq : u.pwrWakeNow (2 ^ b) = (u.put Reg.PWR_WAKE.CAUSE (u.get Reg.PWR_WAKE.CAUSE ||| 2 ^ b)).put Reg.PWR_STAT.PHASE 4 := by
    unfold Chip.pwrWakeNow
    dsimp only
    rw [if_neg (by omega), if_pos h]
  rw [heq]
  refine ⟨get_put_same .., ?_, ?_, rfl, rfl⟩
  · rw [get_put_ne _ _ _ _ (by decide), get_put_same]
    exact wake_cause _ hb
  · rw [get_put_ne _ _ _ _ (by decide), get_put_ne _ _ _ _ (by decide)]

/-- A wake source in OFF raises PWR_HOLD. -/
theorem Chip.pwrWakeNow_off {b : Nat} (h : u.pwrState = 4) : (u.pwrWakeNow (2 ^ b)).pwr.hold = true ∧ (u.pwrWakeNow (2 ^ b)).get Reg.PWR_STAT.STATE = 4 := by
  have heq : u.pwrWakeNow (2 ^ b) = { u.put Reg.PWR_WAKE.CAUSE (u.get Reg.PWR_WAKE.CAUSE ||| 2 ^ b) with pwr := { u.pwr with hold := true } } := by
    unfold Chip.pwrWakeNow
    dsimp only
    rw [if_neg (by omega), if_neg (by omega), if_pos h]
    rfl
  rw [heq]
  refine ⟨rfl, ?_⟩
  rw [withPwr_get, get_put_ne _ _ _ _ (by decide)]
  exact h

/-- The registers of a wake from IDLE, before its event. -/
def Chip.idleWoken (u : Chip) (cause : Nat) : Chip :=
  ((u.put Reg.PWR_WAKE.CAUSE (u.get Reg.PWR_WAKE.CAUSE ||| cause)).pwrRestart).put Reg.PWR_STAT.STATE 0

theorem Chip.idleWoken_shows {b : Nat} (hb : b < 5) : (u.idleWoken (2 ^ b)).get Reg.PWR_STAT.STATE = 0 ∧ ((u.idleWoken (2 ^ b)).get Reg.PWR_WAKE.CAUSE).testBit b = true ∧
    (u.idleWoken (2 ^ b)).pwr.stopped = [] ∧ (u.idleWoken (2 ^ b)).get Reg.PWR_STAT.PENDING = u.get Reg.PWR_STAT.PENDING := by
  unfold Chip.idleWoken
  refine ⟨get_put_same .., ?_, ?_, ?_⟩
  · rw [get_put_ne _ _ _ _ (by decide), pwrRestart_get _ (by decide) (by decide), get_put_same]
    exact wake_cause _ hb
  · exact congrArg Power.stopped (pwrRestart_pwr _)
  · rw [get_put_ne _ _ _ _ (by decide), pwrRestart_get _ (by decide) (by decide), get_put_ne _ _ _ _ (by decide)]

/-- A wake source in IDLE returns to RUN at once. -/
theorem Chip.pwrWakeNow_idle {b : Nat} (h : u.pwrState = 1) (hb : b < 5) (hpend : u.get Reg.PWR_STAT.PENDING = 7) :
    (u.pwrWakeNow (2 ^ b)).get Reg.PWR_STAT.STATE = 0 ∧ ((u.pwrWakeNow (2 ^ b)).get Reg.PWR_WAKE.CAUSE).testBit b = true ∧ (u.pwrWakeNow (2 ^ b)).pwr.stopped = [] ∧
      ((u.pwrWakeNow (2 ^ b)).get (Reg.IRQ.RAW pwrPage)).testBit 2 = true := by
  obtain ⟨hstate, hcause, hstopped, hpending⟩ := u.idleWoken_shows hb
  have hnow : u.pwrWakeNow (2 ^ b) = (((u.idleWoken (2 ^ b)).irq pwrPage 2).raiseAfter 102 0x03
      [1, (u.idleWoken (2 ^ b)).get Reg.PWR_WAKE.CAUSE, (u.idleWoken (2 ^ b)).weirTime]).pwrStartPending := by
    unfold Chip.pwrWakeNow
    dsimp only
    rw [if_pos h]
    rfl
  generalize u.idleWoken (2 ^ b) = w at *
  rw [hnow, pwrStartPending_none]
  · refine ⟨(pwrEvent_get _ _ _ (Fld.ofPwr_self (by rfl))).trans hstate, ?_, ?_, pwrEvent_raw _ _ _ (by decide)⟩
    · rw [pwrEvent_get _ _ _ (Fld.ofPwr_self (by rfl))]
      exact hcause
    · rw [raiseAfter_pwr, irq_pwr]
      exact hstopped
  · exact (pwrEvent_get _ _ _ (Fld.ofPwr_self (by rfl))).trans (hpending.trans hpend)

theorem completes_idleWake :
    (s.chip.get Reg.PWR_STAT.STATE ≠ 1 ∨ (∀ e ∈ s.chip.plic.enable, e &&& s.chip.plic.pend = 0) → Completes .idleWake s (fun t => t = s.chip)) ∧
    (s.chip.get Reg.PWR_STAT.STATE = 1 → s.chip.get Reg.PWR_STAT.PHASE = 0 → s.chip.get Reg.PWR_STAT.PENDING = 7 → (∃ e ∈ s.chip.plic.enable, e &&& s.chip.plic.pend ≠ 0) →
      Completes .idleWake s (fun t => t.get Reg.PWR_STAT.STATE = 0 ∧ (t.get Reg.PWR_WAKE.CAUSE).testBit 4 = true ∧ t.pwr.stopped = [] ∧ (t.get (Reg.IRQ.RAW pwrPage)).testBit 2 = true)) := by
  refine ⟨fun h => ⟨_, congrArg s.become (if_neg ?_), rfl⟩, fun hst hph hpend hsome => ?_⟩
  · rintro ⟨hst, hwaits⟩
    obtain ⟨e, he, hne⟩ := List.any_eq_true.1 hwaits
    rcases h with h | h
    · exact h hst
    · rw [h e he] at hne
      cases hne
  · obtain ⟨e, he, hne⟩ := hsome
    have hst' : s.chip.pwrState = 1 := hst
    refine ⟨_, congrArg s.become ((if_pos ⟨hst', List.any_eq_true.2 ⟨e, he, by simpa using hne⟩⟩).trans (pwrWake_now (.inl hph) (by omega) (by omega))), ?_⟩
    exact pwrWakeNow_idle hst' (by decide) hpend

/-! ### The wake phase ends -/

/-- The registers of a wake from SLEEP or DEEP_SLEEP, and its event (R544). -/
def Chip.restarted (u : Chip) : Chip :=
  (((({ u with pwr := { u.pwr with sclHeld := false } } : Chip).pllStart.pwrRestart).put Reg.PWR_STAT.STATE 0).put Reg.PWR_STAT.PHASE 0)

def Chip.wakeTold (u : Chip) : Chip :=
  (u.restarted.irq pwrPage 2).raiseAfter 102 0x03 [u.pwrState, u.restarted.get Reg.PWR_WAKE.CAUSE, u.restarted.weirTime]

theorem execWakeRestart_eq (crcOk : Bool) : execWakeRestart crcOk s =
    (if s.chip.get Reg.PWR_STAT.PHASE ≠ 4 ∨ (s.chip.pwrState ≠ 2 ∧ s.chip.pwrState ≠ 3) then s.become s.chip
     else if s.chip.pwrState == 3 && s.chip.get Reg.PWR_CFG.RETMODE == 0 then s.become (s.chip.wakeTold.resetRequest 3 4 0 false)
     else s.become ((({ s.chip.wakeTold with weir := { s.chip.wakeTold.weir with withheld := false } } : Chip).sinWake crcOk true).pwrStartPending)) := rfl

theorem Chip.restarted_shows (u : Chip) : u.restarted.get Reg.PWR_STAT.STATE = 0 ∧ u.restarted.get Reg.PWR_STAT.PHASE = 0 ∧
    u.restarted.get Reg.PWR_STAT.PENDING = u.get Reg.PWR_STAT.PENDING ∧ u.restarted.pwr.stopped = [] ∧ u.restarted.pwr.sclHeld = false ∧ u.restarted.boot = u.boot := by
  have hpll : ({ u with pwr := { u.pwr with sclHeld := false } } : Chip).pllStart.get Reg.PWR_STAT.PENDING = u.get Reg.PWR_STAT.PENDING :=
    (pwr_regs pllStart_within (Fld.ofPwr_self (by rfl)) (by decide)).trans (withPwr_get ..)
  have hboot : ({ u with pwr := { u.pwr with sclHeld := false } } : Chip).pllStart.boot = u.boot := pllStart_within.same .boot (by decide)
  unfold Chip.restarted
  generalize ({ u with pwr := { u.pwr with sclHeld := false } } : Chip).pllStart = w at *
  refine ⟨?_, get_put_same .., ?_, congrArg Power.stopped (pwrRestart_pwr w), congrArg Power.sclHeld (pwrRestart_pwr w), ?_⟩
  · rw [get_put_ne _ _ _ _ (by decide), get_put_same]
    rfl
  · rw [get_put_ne _ _ _ _ (by decide), get_put_ne _ _ _ _ (by decide), pwrRestart_get _ (by decide) (by decide), hpll]
  · exact (pwrRestart_within.same .boot (by decide)).trans hboot

theorem Chip.wakeTold_shows (u : Chip) : u.wakeTold.get Reg.PWR_STAT.STATE = 0 ∧ u.wakeTold.get Reg.PWR_STAT.PHASE = 0 ∧
    u.wakeTold.get Reg.PWR_STAT.PENDING = u.get Reg.PWR_STAT.PENDING ∧ u.wakeTold.pwr.stopped = [] ∧ u.wakeTold.pwr.sclHeld = false ∧ u.wakeTold.boot = u.boot := by
  obtain ⟨hstate, hphase, hpending, hstopped, hscl, hboot⟩ := u.restarted_shows
  unfold Chip.wakeTold
  generalize u.restarted = w at *
  refine ⟨(pwrEvent_get _ _ _ (Fld.ofPwr_self (by rfl))).trans hstate, (pwrEvent_get _ _ _ (Fld.ofPwr_self (by rfl))).trans hphase,
    (pwrEvent_get _ _ _ (Fld.ofPwr_self (by rfl))).trans hpending, ?_, ?_, ?_⟩
  · rw [raiseAfter_pwr, irq_pwr, hstopped]
  · rw [raiseAfter_pwr, irq_pwr, hscl]
  · rw [raiseAfter_boot, irq_boot, hboot]

theorem Chip.sinWake_pwr (u : Chip) (crcOk : Bool) {f : Fld} (hf : f.OfPwr) : (u.sinWake crcOk true).get f = u.get f ∧ (u.sinWake crcOk true).pwr = u.pwr ∧
    (u.sinWake crcOk true).weir = u.weir :=
  ⟨pwr_regs sinWake_within hf (by decide), sinWake_within.same .pwr (by decide), sinWake_within.same .weir (by decide)⟩

theorem Chip.withWeir_get (u : Chip) (x : Weir) (f : Fld) : ({ u with weir := x } : Chip).get f = u.get f := rfl

/-- Weir's part of the wake: the withheld snapshot comes again. -/
def Chip.wakeSnaps (u : Chip) : Chip := { u.wakeTold with weir := { u.wakeTold.weir with withheld := false } }

theorem execWakeRestart_run (crcOk : Bool) (hph : s.chip.get Reg.PWR_STAT.PHASE = 4)
    (hst : s.chip.pwrState = 2 ∨ (s.chip.pwrState = 3 ∧ s.chip.get Reg.PWR_CFG.RETMODE = 1)) :
    execWakeRestart crcOk s = s.become (s.chip.wakeSnaps.sinWake crcOk true).pwrStartPending := by
  have hbanks : ¬ (s.chip.pwrState == 3 && s.chip.get Reg.PWR_CFG.RETMODE == 0) = true := by
    simp only [Bool.and_eq_true, beq_iff_eq]
    omega
  exact (execWakeRestart_eq (s := s) crcOk).trans ((if_neg (by omega)).trans (if_neg hbanks))

theorem execWakeRestart_reset (crcOk : Bool) (hph : s.chip.get Reg.PWR_STAT.PHASE = 4) (hst : s.chip.pwrState = 3) (hret : s.chip.get Reg.PWR_CFG.RETMODE = 0) :
    execWakeRestart crcOk s = s.become (s.chip.wakeTold.resetRequest 3 4 0 false) := by
  have hbanks : (s.chip.pwrState == 3 && s.chip.get Reg.PWR_CFG.RETMODE == 0) = true := by simp [hst, hret]
  exact (execWakeRestart_eq (s := s) crcOk).trans ((if_neg (by omega)).trans (if_pos hbanks))

theorem Chip.withWeir_kept (u : Chip) (x : Weir) : ({ u with weir := x } : Chip).pwr = u.pwr ∧ ({ u with weir := x } : Chip).weir = x := ⟨rfl, rfl⟩

theorem Chip.wakeSnaps_get (u : Chip) (f : Fld) : u.wakeSnaps.get f = u.wakeTold.get f := by
  unfold Chip.wakeSnaps
  exact withWeir_get _ _ f

theorem Chip.wakeSnaps_kept (u : Chip) : u.wakeSnaps.pwr = u.wakeTold.pwr ∧ u.wakeSnaps.weir.withheld = false := by
  unfold Chip.wakeSnaps
  obtain ⟨hpwr, hweir⟩ := u.wakeTold.withWeir_kept { u.wakeTold.weir with withheld := false }
  exact ⟨hpwr, congrArg Weir.withheld hweir⟩

/-- The wake of the safe inputs leaves the power controller as the restart left it. -/
theorem Chip.sinWake_run (u : Chip) (crcOk : Bool) (hpend : u.get Reg.PWR_STAT.PENDING = 7) :
    let t := (u.wakeSnaps.sinWake crcOk true).pwrStartPending
    t.get Reg.PWR_STAT.STATE = 0 ∧ t.get Reg.PWR_STAT.PHASE = 0 ∧ t.pwr.stopped = [] ∧ t.pwr.sclHeld = false ∧ t.weir.withheld = false := by
  obtain ⟨hrun, hphase, hpending, hstopped, hscl, -⟩ := u.wakeTold_shows
  have hsin : ∀ {f : Fld}, f.OfPwr → (u.wakeSnaps.sinWake crcOk true).get f = u.wakeTold.get f := fun hf =>
    (u.wakeSnaps.sinWake_pwr crcOk hf).1.trans (u.wakeSnaps_get _)
  obtain ⟨-, hpwr, hweir⟩ := u.wakeSnaps.sinWake_pwr crcOk (f := Reg.PWR_STAT.STATE) (Fld.ofPwr_self (by rfl))
  obtain ⟨hkept, hwithheld⟩ := u.wakeSnaps_kept
  intro t
  have ht : t = u.wakeSnaps.sinWake crcOk true := pwrStartPending_none ((hsin (Fld.ofPwr_self (by rfl))).trans (hpending.trans hpend))
  rw [ht, hsin (Fld.ofPwr_self (by rfl)), hsin (Fld.ofPwr_self (by rfl)), hpwr, hweir, hkept]
  exact ⟨hrun, hphase, hstopped, hscl, hwithheld⟩

theorem Chip.resetRequest_first {u : Chip} (h : u.boot.reset = none) (kind origin slot : Nat) (cold : Bool) :
    (u.resetRequest kind origin slot cold).boot.reset.map (fun r => (r.kind, r.origin)) = some (kind, origin) := by
  unfold Chip.resetRequest
  rw [if_neg]
  · rfl
  · unfold Chip.resetDiscards
    rw [h]
    exact Bool.false_ne_true

theorem completes_wakeRestart_reset (crcOk : Bool) (hph : s.chip.get Reg.PWR_STAT.PHASE = 4) (hst : s.chip.get Reg.PWR_STAT.STATE = 3)
    (hret : s.chip.get Reg.PWR_CFG.RETMODE = 0) (hreset : s.chip.boot.reset = none) :
    Completes (.wakeRestart crcOk) s (fun t => t.get Reg.PWR_STAT.STATE = 0 ∧ t.boot.reset.map (fun r => (r.kind, r.origin)) = some (3, 4)) := by
  obtain ⟨hrun, -, -, -, -, hboot⟩ := s.chip.wakeTold_shows
  exact ⟨_, execWakeRestart_reset crcOk hph hst hret, (pwr_regs resetRequest_within (Fld.ofPwr_self (by rfl)) (by decide)).trans hrun,
    resetRequest_first ((congrArg Boot.reset hboot).trans hreset) ..⟩

theorem completes_wake :
    let st := s.chip.get Reg.PWR_STAT.STATE
    let ph := s.chip.get Reg.PWR_STAT.PHASE
    (ph = 0 → st = 0 → Completes .wakeNLow s (fun t => t = s.chip)) ∧
     (ph = 1 ∨ ph = 2 → Completes .wakeNLow s (fun t => t.pwr.wakePend.testBit 0 = true ∧ t.regs = s.chip.regs)) ∧
     (ph = 0 ∨ ph = 4 → st = 2 ∨ st = 3 → Completes .wakeNLow s (fun t => t.get Reg.PWR_STAT.PHASE = 4 ∧ (t.get Reg.PWR_WAKE.CAUSE).testBit 0 = true ∧ t.get Reg.PWR_STAT.STATE = st)) ∧
     (ph = 0 → st = 4 → Completes .wakeNLow s (fun t => t.pwr.hold = true ∧ t.get Reg.PWR_STAT.STATE = 4)) ∧
     (∀ addr, s.chip.get Reg.PWR_CFG.I2C_EN = 0 ∨ s.chip.get Reg.PWR_CFG.I2C_ADDR ≠ addr → Completes (.i2cAddressMatch addr) s (fun t => t = s.chip)) ∧
     (s.chip.get Reg.PWR_CFG.I2C_EN = 1 → ph = 0 → st = 2 ∨ st = 3 → Completes (.i2cAddressMatch (s.chip.get Reg.PWR_CFG.I2C_ADDR)) s (fun t => t.get Reg.PWR_STAT.PHASE = 4 ∧
       (t.get Reg.PWR_WAKE.CAUSE).testBit 1 = true ∧ t.pwr.sclHeld = (s.chip.pwr.sclHeld || s.chip.get (Reg.BLK_STAT.PWR 0x44000000) == 3))) ∧
     (s.chip.get Reg.PWR_CFG.TIMER_EN = 0 → Completes .aonAlarm s (fun t => t = s.chip)) ∧
     (s.chip.get Reg.PWR_CFG.TIMER_EN = 1 → ph = 0 → st = 2 ∨ st = 3 → Completes .aonAlarm s (fun t => t.get Reg.PWR_STAT.PHASE = 4 ∧ (t.get Reg.PWR_WAKE.CAUSE).testBit 2 = true ∧ s.chip.now ≤ t.now)) ∧
     (∀ crcOk, ph ≠ 4 ∨ (st ≠ 2 ∧ st ≠ 3) → Completes (.wakeRestart crcOk) s (fun t => t = s.chip)) ∧
     (∀ crcOk, ph = 4 → st = 2 ∨ (st = 3 ∧ s.chip.get Reg.PWR_CFG.RETMODE = 1) → s.chip.get Reg.PWR_STAT.PENDING = 7 → Completes (.wakeRestart crcOk) s (fun t =>
       t.get Reg.PWR_STAT.STATE = 0 ∧ t.get Reg.PWR_STAT.PHASE = 0 ∧ t.pwr.stopped = [] ∧ t.pwr.sclHeld = false ∧ t.weir.withheld = false)) ∧
     (∀ crcOk, ph = 4 → st = 3 → s.chip.get Reg.PWR_CFG.RETMODE = 0 → s.chip.boot.reset = none → Completes (.wakeRestart crcOk) s (fun t => t.get Reg.PWR_STAT.STATE = 0 ∧
       t.boot.reset.map (fun r => (r.kind, r.origin)) = some (3, 4))) := by
  intro st ph
  refine ⟨fun hph hst => ⟨_, congrArg s.become (pwrWake_none (.inl hph) hst), rfl⟩, fun hph => ⟨_, congrArg s.become (pwrWake_kept hph), ?_, rfl⟩, fun hph hst => ?_,
    fun hph hst => ?_, fun addr h => ?_, fun hen hph hst => ?_, fun hen => ?_, fun hen hph hst => ?_, fun crcOk h => ⟨_, (execWakeRestart_eq (s := s) crcOk).trans (if_pos h), rfl⟩,
    fun crcOk hph hst hpend => ⟨_, execWakeRestart_run crcOk hph hst, s.chip.sinWake_run crcOk hpend⟩, fun crcOk hph hst hret hreset => completes_wakeRestart_reset crcOk hph hst hret hreset⟩
  · simp
  · have hst' : s.chip.pwrState = 2 ∨ s.chip.pwrState = 3 := hst
    obtain ⟨hphase, hcause, hstate, -, -⟩ := pwrWakeNow_sleep (u := s.chip) (b := 0) hst' (by decide)
    exact ⟨_, congrArg s.become (pwrWake_now hph (by omega) (by omega)), hphase, hcause, hstate⟩
  · have hst' : s.chip.pwrState = 4 := hst
    exact ⟨_, congrArg s.become (pwrWake_now (.inl hph) (by omega) (fun _ => rfl)), pwrWakeNow_off hst'⟩
  · refine ⟨_, show execI2cAddressMatch addr s = _ by unfold execI2cAddressMatch; dsimp only; rw [if_neg (by simpa [Chip.on, or_iff_not_imp_left] using h)]; rfl, rfl⟩
  · have hst' : s.chip.pwrState = 2 ∨ s.chip.pwrState = 3 := hst
    set v : Chip := { s.chip with pwr := { s.chip.pwr with sclHeld := s.chip.pwr.sclHeld || s.chip.get (Reg.BLK_STAT.PWR 0x44000000) == 3 } } with hv
    have hvst : v.pwrState = 2 ∨ v.pwrState = 3 := hst'
    obtain ⟨hphase, hcause, -, hpwr, -⟩ := pwrWakeNow_sleep (u := v) (b := 1) hvst (by decide)
    have hwake : v.pwrWake 1 = v.pwrWakeNow (2 ^ 1) := pwrWake_now (.inl hph) (by omega) (by omega)
    refine ⟨v.pwrWakeNow (2 ^ 1), ?_, hphase, hcause, congrArg Power.sclHeld hpwr⟩
    rw [← hwake]
    change execI2cAddressMatch _ s = _
    unfold execI2cAddressMatch
    dsimp only
    rw [if_pos (by simp [Chip.on, hen])]
    rfl
  · refine ⟨_, show execAonAlarm s = _ by unfold execAonAlarm; dsimp only; rw [if_neg (by simp [Chip.on, hen])]; rfl, rfl⟩
  · have hst' : s.chip.pwrState = 2 ∨ s.chip.pwrState = 3 := hst
    have hexec : execAonAlarm s = s.become ((s.chip.advance (((s.chip.get Reg.PWR_ALARM.COUNT + 2 ^ 48 - s.chip.aonCount) % 2 ^ 48 * 100000000 + 32767) / 32768)).pwrWake 2) := by
      unfold execAonAlarm
      dsimp only
      rw [if_pos (by simp [Chip.on, hen])]
    generalize ((s.chip.get Reg.PWR_ALARM.COUNT + 2 ^ 48 - s.chip.aonCount) % 2 ^ 48 * 100000000 + 32767) / 32768 = n at hexec
    have hget : ∀ f, (s.chip.advance n).get f = s.chip.get f := fun f => congrArg f.read (advance_regs ..)
    have hvst : (s.chip.advance n).pwrState = 2 ∨ (s.chip.advance n).pwrState = 3 := by unfold Chip.pwrState; rw [hget]; exact hst
    have hvph : (s.chip.advance n).get Reg.PWR_STAT.PHASE = 0 := (hget _).trans hph
    obtain ⟨hphase, hcause, -, -, hnow⟩ := pwrWakeNow_sleep (u := s.chip.advance n) (b := 2) hvst (by decide)
    refine ⟨_, hexec.trans (congrArg s.become (pwrWake_now (.inl hvph) (by omega) (by omega))), hphase, hcause, ?_⟩
    rw [hnow, advance_now]
    omega

end

/-- Settles O51. -/
theorem powerStates : Obligations.PowerStates := by
  unfold Obligations.PowerStates
  exact ⟨fun req v s hatt => completes_pwrReqWrite req v hatt, fun s => completes_consentAskStart, askOrder_shape, fun ready s h => consent_idle ready h,
    fun ready pg rest s hph hasks hpg hstate hpend hs hk _ => completes_consent hph hasks hpg hstate hpend hs hk ready, fun s => completes_idleWake, fun s => completes_wake⟩

end Sys2Proof.Machine
end

section
/-!
PROOFS. Time that goes on to an instant of Weir time, and the partner logic of a channel (13 R387 to R401).
-/
namespace Sys2Proof.Machine
open Chip

section
variable {u : Chip}

/-! ### Weir time reaches an instant -/

theorem signed_24_lt (v : Nat) : signed 24 v < 1000000000 := by
  unfold signed
  split <;> omega

/-- Weir time after `n` ticks, over the phase accumulator. -/
theorem Chip.advance_time (n : Nat) (hoff : u.weir.off = false) : (u.advance n).weir.time =
    (((u.weir.time : Int) * 1000000000 + u.weir.acc + n * (1000000000 + signed 24 (u.get Reg.WR_RATE.RATE))) / 1000000000).toNat := by
  have h : (u.advance n).weir.time = ((u.weir.time : Int) + n + (u.weir.acc + n * signed 24 (u.get Reg.WR_RATE.RATE)) / 1000000000).toNat := by
    unfold Chip.advance
    simp [hoff]
  rw [h, Int.mul_add]
  generalize (n : Int) * signed 24 (u.get Reg.WR_RATE.RATE) = m
  congr 1
  omega

/-- The least number of steps of `r` that covers a distance covers it, and by less than one step too much. -/
theorem steps_cover {d r : Int} (hr : 0 < r) : d ≤ ((d + r - 1) / r).toNat * r ∧ (0 < d → (((d + r - 1) / r).toNat : Int) * r < d + r) := by
  have hover := Int.lt_mul_ediv_self_add (x := d + r - 1) hr
  have hunder := Int.mul_ediv_self_le (x := d + r - 1) (ne_of_gt hr)
  generalize hq : (d + r - 1) / r = q at hover hunder ⊢
  rw [Int.mul_comm] at hover hunder
  constructor
  · have h : q * r ≤ q.toNat * r := Int.mul_le_mul_of_nonneg_right (Int.self_le_toNat q) hr.le
    omega
  · intro hd
    have hpos : 0 ≤ q := hq ▸ Int.ediv_nonneg (by omega) hr.le
    rw [Int.toNat_of_nonneg hpos]
    omega

/-- Time goes on to an instant of Weir time, and not beyond it by more than the step that RATE gives. -/
theorem Chip.untilWeir_time (u : Chip) (t : Nat) (hoff : u.weir.off = false) : u.reaches t (u.untilWeir t) := by
  unfold Chip.reaches Chip.untilWeir
  extract_lets d r
  by_cases hle : t ≤ u.weir.time
  · rw [if_pos (.inl hle), Nat.max_eq_left hle]
    exact ⟨le_rfl, fun _ => Nat.le_add_right _ _⟩
  have hr : 0 < r ∧ r < 2000000000 := by
    have h1 := signed_24_gt (u.get Reg.WR_RATE.RATE)
    have h2 := signed_24_lt (u.get Reg.WR_RATE.RATE)
    omega
  rw [if_neg (by simp [hle, hoff]), Nat.max_eq_right (by omega), advance_time _ hoff]
  obtain ⟨hge, hlt⟩ := steps_cover (d := d) hr.1
  change d ≤ _ * (1000000000 + signed 24 (u.get Reg.WR_RATE.RATE)) at hge
  change 0 < d → _ * (1000000000 + signed 24 (u.get Reg.WR_RATE.RATE)) < _ at hlt
  have hrate : u.get Reg.WR_RATE.RATE = 0 → r = 1000000000 := fun h => by simp only [r, h]; rfl
  generalize ((((d + r - 1) / r).toNat : Int) * (1000000000 + signed 24 (u.get Reg.WR_RATE.RATE))) = m at hge hlt ⊢
  refine ⟨by omega, fun hclock => ?_⟩
  have hacc : 0 ≤ u.weir.acc ∧ u.weir.acc < 1000000000 := of_decide_eq_true hclock
  have hd : 0 < d := by omega
  have hm := hlt hd
  split
  · rename_i h0
    have := hrate h0
    omega
  · omega

theorem Chip.untilWeir_rt (t : Nat) : (u.untilWeir t).rt = u.rt := by
  unfold Chip.untilWeir
  dsimp only
  split <;> rfl

theorem Chip.untilWeir_regs (t : Nat) : (u.untilWeir t).regs = u.regs := by
  unfold Chip.untilWeir
  dsimp only
  split <;> rfl

/-! ### The runtime of a channel -/

variable {c : Nat}

theorem Chip.run_of_rt {t : Chip} (h : t.rt = u.rt) (c : Nat) : t.run c = u.run c := congrArg (fun p => Per3.get p c) h

theorem Chip.run_modRun (hc : c < 3) (g : Rt → Rt) : (u.modRun c g).run c = g (u.run c) := Per3.get_set_same hc

theorem Chip.run_rtEvent (k code : Nat) (data : List Nat) (c : Nat) : (u.rtEvent k code data).run c = u.run c := run_of_rt (fwRaise_rt ..) c

theorem Chip.pair_rtEvent (k code : Nat) (data : List Nat) (c : Nat) : (u.rtEvent k code data).pair c = u.pair c := congrArg Rt.pair (run_rtEvent ..)

theorem Chip.run_modPair (hc : c < 3) (g : Partner → Partner) : (u.modPair c g).run c = { u.run c with pair := g (u.pair c) } := run_modRun hc _

theorem Chip.pair_modPair (hc : c < 3) (g : Partner → Partner) : (u.modPair c g).pair c = g (u.pair c) := congrArg Rt.pair (run_modPair hc g)

theorem Chip.run_order (hc : c < 3) (a v : Nat) : (u.order c a v).run c = { u.run c with writes := (u.run c).writes ++ [(a, v % 2 ^ 32)] } := run_modRun hc _

theorem Chip.run_sendLater (hc : c < 3) (n kind : Nat) (b : List Byte) :
    (u.sendLater c n kind b).run c = { u.run c with send := (u.run c).send ++ [SendItem.mk n kind b] } := run_modRun hc _

/-! ### Requests and partner states (Table 13.5) -/

/-- A transition changes the state, and the pages applied where SYNCING begins. -/
theorem Chip.pair_pairEnter (hc : c < 3) (new cause : Nat) : ((u.pairEnter c new cause).pair c).st = new ∧
    ((u.pairEnter c new cause).pair c).request = (u.pair c).request ∧ ((u.pairEnter c new cause).pair c).returning = (u.pair c).returning ∧
    ((u.pairEnter c new cause).pair c).fromPtr = (u.pair c).fromPtr := by
  unfold Chip.pairEnter
  dsimp only
  split
  · rename_i h
    exact ⟨h, rfl, rfl, rfl⟩
  · rw [pair_rtEvent, pair_modPair hc]
    exact ⟨rfl, rfl, rfl, rfl⟩

/-- A request starts unless one runs (R394). -/
theorem Chip.pair_pairRequest (hc : c < 3) (reason : Nat) : (u.pairRequest c reason).pair c =
    if (u.pair c).request.isSome then u.pair c else { u.pair c with request := some reason, wait := 0 } := by
  unfold Chip.pairRequest
  split
  · rfl
  · rw [pair_rtEvent, pair_modPair hc]

theorem Chip.pairRequest_weir (c reason : Nat) : (u.pairRequest c reason).weir = u.weir := by
  unfold Chip.pairRequest
  split
  · rfl
  · exact fwRaise_weir ..

theorem execJoinWaitExpiry_active {s : State} (h : s.chip.chState c = 3) : ∃ u : Chip,
    u = ((s.chip.untilWeir ((s.chip.run c).activeAt + s.chip.get Reg.PR_CFG.JOIN_WAIT * 100000)).modPair c (fun p => { p with joined := true })) ∧
    execJoinWaitExpiry c s = s.become (if u.isPartner && (u.pair c).st == 1 && (u.pair c).fromPtr.isNone then u.pairRequest c 1 else u) := by
  unfold execJoinWaitExpiry
  dsimp only
  rw [if_neg (by simpa using h)]
  exact ⟨_, rfl, rfl⟩

/-- JOIN_WAIT has passed: a partner in JOINING that has heard no partner requests START (R387). -/
theorem completes_joinWaitExpiry (s : State) (hc : c < 3) (hact : s.chip.chState c = 3) : Completes (.joinWaitExpiry c) s (fun t =>
    (s.chip.weir.off = false → s.chip.reaches ((s.chip.run c).activeAt + s.chip.get Reg.PR_CFG.JOIN_WAIT * 100000) t) ∧
      (t.pair c).joined = true ∧ (t.pair c).st = (s.chip.pair c).st ∧
      (t.pair c).request = (if s.chip.isPartner = true ∧ (s.chip.pair c).st = 1 ∧ (s.chip.pair c).fromPtr = none ∧ (s.chip.pair c).request = none then some 1
        else (s.chip.pair c).request)) := by
  obtain ⟨u, hu, hexec⟩ := execJoinWaitExpiry_active hact
  have hpair : u.pair c = { s.chip.pair c with joined := true } := by
    rw [hu, pair_modPair hc]
    exact congrArg (fun r : Rt => { r.pair with joined := true }) (run_of_rt (untilWeir_rt _) c)
  have hweir : u.weir = (s.chip.untilWeir ((s.chip.run c).activeAt + s.chip.get Reg.PR_CFG.JOIN_WAIT * 100000)).weir := by rw [hu]; rfl
  have hpartner : u.isPartner = s.chip.isPartner := by
    rw [hu]
    exact congrArg (fun l : Regs => ({ s.chip with regs := l } : Chip).isPartner) (untilWeir_regs _)
  have htime := fun hoff => untilWeir_time s.chip ((s.chip.run c).activeAt + s.chip.get Reg.PR_CFG.JOIN_WAIT * 100000) hoff
  unfold Chip.reaches at htime ⊢
  rw [← hweir] at htime
  refine ⟨_, hexec, ?_⟩
  split
  · rename_i hcond
    obtain ⟨⟨h1, h2⟩, h3⟩ : (u.isPartner = true ∧ (u.pair c).st = 1) ∧ (u.pair c).fromPtr = none := by simpa using hcond
    rw [hpair] at h2 h3
    rw [pairRequest_weir, pair_pairRequest hc, hpair, ← hpartner]
    dsimp only at h2 h3 ⊢
    refine ⟨htime, by split <;> rfl, by split <;> rfl, ?_⟩
    cases hr : (s.chip.pair c).request <;> simp [h1, h2, h3]
  · rename_i hcond
    rw [hpair] at hcond ⊢
    refine ⟨htime, rfl, rfl, ?_⟩
    rw [← hpartner, if_neg]
    rintro ⟨h1, h2, h3, _⟩
    exact hcond (by simp [h1, h2, h3])

/-! ### Grants and heartbeats -/

theorem beNat_lt (l : List Byte) : beNat l < 256 ^ l.length := by
  unfold beNat
  induction l using List.reverseRecOn with
  | nil => decide
  | append_singleton l b ih =>
    rw [List.foldl_append, List.length_append, List.length_singleton, Nat.pow_succ]
    have := b.isLt
    simp only [List.foldl_cons, List.foldl_nil]
    omega

theorem beAt_4_lt (l : List Byte) (o : Nat) : beAt l o 4 < 2 ^ 32 := by
  unfold beAt
  calc beNat ((l.drop o).take 4) < 256 ^ ((l.drop o).take 4).length := beNat_lt _
    _ ≤ 256 ^ 4 := Nat.pow_le_pow_right (by decide) (List.length_take_le ..)
    _ = 2 ^ 32 := by decide

theorem Chip.claim_rtEvent (k code : Nat) (data : List Nat) : (u.rtEvent k code data).claim = u.claim := by
  unfold Chip.claim
  rw [rtEvent_within.regs Reg.ZST_CLAIM.EPOCH (by decide) (by decide) (by decide) (by decide),
    rtEvent_within.regs Reg.ZST_CLAIM.RANK (by decide) (by decide) (by decide) (by decide)]

/-- What a grant or a refusal does (R393, R394). -/
theorem pairAnswer_pair (hc : c < 3) (f : List Byte) :
    let t := u.pairAnswer c f
    let cl := beAt (frPayload f) 0 4
    let res := beAt (frPayload f) 4 1
    (cl % 256 ≠ u.rank → t = u) ∧
    (cl % 256 = u.rank → res = 0 → cl / 256 ≤ u.highClaim c / 256 → t = u) ∧
    (cl % 256 = u.rank → res = 0 → u.highClaim c / 256 < cl / 256 → (t.pair c).grant = some cl ∧ (t.pair c).request = none ∧
      (t.run c).writes = (u.run c).writes ++ [(0x40600048, cl)]) ∧
    (cl % 256 = u.rank → res ≠ 0 → (u.pair c).request.isSome = true → (t.pair c).request = none ∧ (t.pair c).returning = false ∧
      (t.pair c).st = (if res = 2 ∧ (u.pair c).st = 1 then 2 else (u.pair c).st)) := by
  intro t cl res
  refine ⟨fun h => if_pos h, fun h h0 hlow => ?_, fun h h0 hhigh => ?_, fun h h0 hreq => ?_⟩
  · exact (if_neg (not_not.2 h)).trans ((if_pos h0).trans (if_neg (Nat.not_lt.2 hlow)))
  · have ht : t = (u.modPair c (fun x => { x with grant := some cl, request := none })).order c 0x40600048 cl :=
      (if_neg (not_not.2 h)).trans ((if_pos h0).trans (if_pos hhigh))
    have hrun := run_order (u := u.modPair c (fun x => { x with grant := some cl, request := none })) hc 0x40600048 cl
    rw [← ht, run_modPair hc] at hrun
    unfold Chip.pair
    rw [hrun]
    exact ⟨rfl, rfl, by rw [Nat.mod_eq_of_lt (beAt_4_lt _ _)]⟩
  · let v := (u.modPair c (fun x => { x with request := none, returning := false })).rtEvent c 0x38 [res, beAt (frPayload f) 5 1]
    have ht : t = if res = 2 ∧ (v.pair c).st = 1 then v.pairEnter c 2 4 else v :=
      (if_neg (not_not.2 h)).trans ((if_neg h0).trans (if_pos hreq))
    have hv : v.pair c = { u.pair c with request := none, returning := false } := (pair_rtEvent ..).trans (pair_modPair hc _)
    rw [ht, hv]
    obtain ⟨hst, hrq, hret, -⟩ := pair_pairEnter (u := v) hc 2 4
    rw [hv] at hrq hret
    split
    · exact ⟨hrq, hret, hst⟩
    · rw [hv]
      exact ⟨rfl, rfl, rfl⟩

/-- What the partner's heartbeat does to the partner state (Table 13.5). -/
theorem partnerBeat_pair (hc : c < 3) (b : Beat) :
    let t := u.partnerBeat c b
    (t.pair c).fromPtr = some b ∧
    ((u.pair c).st = 1 → b.state = 4 → (t.pair c).st = 2) ∧ ((u.pair c).st = 1 → b.state ≠ 4 → (t.pair c).st = 1) ∧
    ((u.pair c).st = 4 → u.claim < b.frame → (t.pair c).st = 2 ∧ (t.pair c).returning = false) ∧ ((u.pair c).st = 4 → b.frame ≤ u.claim → (t.pair c).st = 4) := by
  let w := u.modPair c (fun p => { p with fromPtr := some b })
  let v := if b.frame % 256 = w.rank ∧ (u.pair c).fromPtr.any (fun x => x.frame % 256 == b.frame % 256) = false then w.rtEvent c 0x3C [w.rank, b.frame % 256] else w
  have ht : u.partnerBeat c b = if (v.pair c).st = 1 then (if b.state = 4 then v.pairEnter c 2 2 else if b.state = 1 then v.pairRequest c 1 else v)
      else if (v.pair c).st = 4 ∧ v.claim < b.frame then (v.modPair c (fun p => { p with returning := false })).pairEnter c 2 8 else v := rfl
  have hw : w.pair c = { u.pair c with fromPtr := some b } := pair_modPair hc _
  have hv : v.pair c = { u.pair c with fromPtr := some b } ∧ v.claim = u.claim := by
    simp only [v]
    split
    · exact ⟨(pair_rtEvent ..).trans hw, claim_rtEvent ..⟩
    · exact ⟨hw, rfl⟩
  obtain ⟨hvp, hvc⟩ := hv
  clear_value v
  intro t
  change t = _ at ht
  clear_value t
  rw [hvp, hvc] at ht
  dsimp only at ht
  subst ht
  by_cases h1 : (u.pair c).st = 1
  · rw [if_pos h1]
    by_cases h4 : b.state = 4
    · obtain ⟨hst, -, -, hfrom⟩ := pair_pairEnter (u := v) hc 2 2
      rw [if_pos h4]
      exact ⟨by rw [hfrom, hvp], fun _ _ => hst, fun _ h => absurd h4 h, fun h => absurd (h1.symm.trans h) (by decide), fun h => absurd (h1.symm.trans h) (by decide)⟩
    · rw [if_neg h4]
      have hkeep : ∀ x : Chip, (x.pair c).fromPtr = some b → (x.pair c).st = 1 → _ := fun x hf hs =>
        (⟨hf, fun _ h => absurd h h4, fun _ _ => hs, fun h => absurd (h1.symm.trans h) (by decide), fun h => absurd (h1.symm.trans h) (by decide)⟩ :
          (x.pair c).fromPtr = some b ∧ ((u.pair c).st = 1 → b.state = 4 → (x.pair c).st = 2) ∧ ((u.pair c).st = 1 → b.state ≠ 4 → (x.pair c).st = 1) ∧
          ((u.pair c).st = 4 → u.claim < b.frame → (x.pair c).st = 2 ∧ (x.pair c).returning = false) ∧ ((u.pair c).st = 4 → b.frame ≤ u.claim → (x.pair c).st = 4))
      split
      · refine hkeep _ ?_ ?_ <;> rw [pair_pairRequest hc, hvp] <;> split
        · rfl
        · rfl
        · exact h1
        · exact h1
      · exact hkeep v (by rw [hvp]) (by rw [hvp]; exact h1)
  · rw [if_neg h1]
    split
    · rename_i hcond
      obtain ⟨hst, -, hret, hfrom⟩ := pair_pairEnter (u := v.modPair c (fun p => { p with returning := false })) hc 2 8
      rw [pair_modPair hc] at hret hfrom
      exact ⟨by rw [hfrom, hvp], fun h => absurd h h1, fun h => absurd h h1, fun _ _ => ⟨hst, hret⟩, fun _ h => absurd hcond.2 (Nat.not_lt.2 h)⟩
    · rename_i hcond
      rw [hvp]
      exact ⟨rfl, fun h => absurd h h1, fun h => absurd h h1, fun h h' => absurd ⟨h, h'⟩ hcond, fun h _ => h⟩

/-! ### The witness (Table 13.6) -/

/-- The answer of the witness that waits for the next task-0 delivery, and what it leaves of E and the holder. -/
def Answers (u : Chip) (c rank reason r e holder : Nat) (t : Chip) : Prop :=
  (∃ x, (t.run c).send = (u.run c).send ++ [x] ∧ x.kind = 5 ∧ x.conn = u.get Reg.PR_HB.TX ∧
    x.payload = beBytes 4 ((t.pair c).epoch * 256 + rank) ++ beBytes 1 r ++ beBytes 1 reason ++ beBytes 2 0) ∧
  (t.pair c).epoch = e ∧ (t.pair c).holder = holder

theorem witAnswer_answers (hc : c < 3) (rank r reason : Nat) :
    Answers u c rank reason r (u.pair c).epoch (u.pair c).holder (u.witAnswer c rank r reason) := by
  have hrun := run_sendLater (u := u) hc (u.get Reg.PR_HB.TX) 5 (beBytes 4 ((u.pair c).epoch * 256 + rank) ++ beBytes 1 r ++ beBytes 1 reason ++ beBytes 2 0)
  change (u.witAnswer c rank r reason).run c = _ at hrun
  unfold Answers Chip.pair
  rw [hrun]
  exact ⟨⟨_, rfl, rfl, rfl, rfl⟩, rfl, rfl⟩

/-- E changes in the partner logic, and only an order to write ZST_CLAIM comes with it. -/
theorem witEpoch_run (hc : c < 3) (e : Nat) : ((u.witEpoch c e).pair c) = { u.pair c with epoch := e } ∧ ((u.witEpoch c e).run c).send = (u.run c).send := by
  unfold Chip.witEpoch
  split
  · rename_i h
    exact ⟨by rw [← h], rfl⟩
  · unfold Chip.pair
    rw [run_order hc, run_modPair hc]
    exact ⟨rfl, rfl⟩

theorem witGrant_answers (hc : c < 3) (rank e reason : Nat) : Answers u c rank reason 0 e rank (u.witGrant c rank e reason) := by
  let v := (u.witEpoch c e).modPair c (fun p => { p with holder := rank })
  obtain ⟨hpair, hsend⟩ := witEpoch_run (u := u) hc e
  have hv : v.run c = { (u.witEpoch c e).run c with pair := { u.pair c with epoch := e, holder := rank } } := by
    rw [← show _ = ({ u.pair c with epoch := e, holder := rank } : Partner) from congrArg (fun p : Partner => { p with holder := rank }) hpair]
    exact run_modPair hc _
  have hvp : v.pair c = { u.pair c with epoch := e, holder := rank } := congrArg Rt.pair hv
  have hvs : (v.run c).send = (u.run c).send := by rw [hv]; exact hsend
  have htx : v.get Reg.PR_HB.TX = u.get Reg.PR_HB.TX := by
    change (u.witEpoch c e).get _ = _
    unfold Chip.witEpoch
    split <;> rfl
  obtain ⟨hx, he, hh⟩ := witAnswer_answers (u := v) hc rank 0 reason
  rw [hvs, htx] at hx
  rw [hvp] at he hh
  have hrt : (u.witGrant c rank e reason).run c = (v.witAnswer c rank 0 reason).run c := run_rtEvent ..
  unfold Answers Chip.pair
  rw [hrt]
  exact ⟨hx, he, hh⟩

/-- One request by rows 3 to 10 of Table 13.6, row by row. -/
theorem witDecide_rows (hc : c < 3) {e cv1 cv2 : Nat} (q : EpochReq) (hrank : q.rank = 1 ∨ q.rank = 2) (hreason : q.reason = 1 ∨ q.reason = 2)
    (hep : (u.pair c).epoch = e) :
    let p := u.pair c
    let live := fun r => u.connIs c (u.rankConn r) 2
    let own := p.beatOfRank q.rank
    let ans := fun r => Answers u c q.rank q.reason r e p.holder (u.witDecide c q)
    let grants := fun e' => Answers u c q.rank q.reason 0 e' q.rank (u.witDecide c q)
    (e = 0xFFFFFF → ans 5) ∧
    (e ≠ 0xFFFFFF → p.holder ≠ 0 → live p.holder = true → (∃ b, p.beatOfRank p.holder = some b ∧ b.cv = cv1) → q.cv = cv2 → cv1 ≠ cv2 → ans 3) ∧
    (e ≠ 0xFFFFFF → p.holder = 0 → live q.rank = false → ans 4) ∧
    (e ≠ 0xFFFFFF → p.holder = 0 → live q.rank = true → q.reason = 1 → grants (e + 1)) ∧
    (∀ b, e ≠ 0xFFFFFF → p.holder = q.rank → live q.rank = true → own = some b → b.cv = q.cv → b.frame / 256 < e → ans 0) ∧
    (∀ b, e ≠ 0xFFFFFF → p.holder = q.rank → live q.rank = true → own = some b → b.cv = q.cv → b.frame / 256 = e → ans 1) ∧
    (∀ b, e ≠ 0xFFFFFF → p.holder = 3 - q.rank → live p.holder = true → p.beatOfRank p.holder = some b → b.cv = q.cv → live q.rank = true → q.reason = 1 → ans 2) ∧
    (∀ b b', e ≠ 0xFFFFFF → p.holder = 3 - q.rank → p.beatOfRank p.holder = some b → b.cv = q.cv → live q.rank = true → q.reason = 2 → own = some b' →
      if b'.state = 3 then grants (e + 1) else ans 4) := by
  have hans : ∀ r, Answers u c q.rank q.reason r e (u.pair c).holder (u.witAnswer c q.rank r q.reason) := fun r => hep ▸ witAnswer_answers hc q.rank r q.reason
  have hgrant : ∀ e', Answers u c q.rank q.reason 0 e' q.rank (u.witGrant c q.rank e' q.reason) := fun e' => witGrant_answers hc q.rank e' q.reason
  intro p live own ans grants
  have hd : u.witDecide c q = if e = 0xFFFFFF then u.witAnswer c q.rank 5 q.reason
      else if p.holder != 0 && live p.holder && (p.beatOfRank p.holder).any (fun b => b.cv != q.cv) then u.witAnswer c q.rank 3 q.reason
      else if !live q.rank then u.witAnswer c q.rank 4 q.reason
      else if p.holder = q.rank ∧ (own.map (fun b => b.frame / 256)).getD 0 < e then u.witGrant c q.rank e q.reason
      else if p.holder = q.rank ∧ (own.map (fun b => b.frame / 256)).getD 0 = e then u.witAnswer c q.rank 1 q.reason
      else if q.reason = 1 ∧ p.holder = 3 - q.rank ∧ live (3 - q.rank) = true then u.witAnswer c q.rank 2 q.reason
      else if q.reason = 2 ∧ own.any (fun b => b.state == 3) = false then u.witAnswer c q.rank 4 q.reason
      else u.witGrant c q.rank (e + 1) q.reason := by
    rw [← hep]
    rfl
  simp only [ans, grants, own]
  simp only [own] at hd
  clear_value live
  generalize u.witDecide c q = t at hd ⊢
  change ∀ r, Answers u c q.rank q.reason r e p.holder _ at hans
  clear_value p
  -- the row that applies is the first whose condition holds
  refine ⟨fun h => ?_, fun h h0 hl hb hq hne => ?_, fun h h0 hl => ?_, fun h h0 hl hr => ?_, fun b h h0 hl hb hcv hlt => ?_, fun b h h0 hl hb hcv heq => ?_,
    fun b h h0 hl hb hcv hlr hr => ?_, fun b b' h h0 hb hcv hlr hr hb' => ?_⟩
  · rw [hd, if_pos h]
    exact hans 5
  · obtain ⟨b, hb, hcv⟩ := hb
    rw [hd, if_neg h, if_pos (by simp [h0, hl, hb, hcv, hq, hne])]
    exact hans 3
  · rw [hd, if_neg h, if_neg (by simp [h0]), if_pos (by simp [hl])]
    exact hans 4
  · rw [hd, if_neg h, if_neg (by simp [h0]), if_neg (by simp [hl]), if_neg (by omega), if_neg (by omega), if_neg (by omega), if_neg (by omega)]
    exact hgrant _
  · rw [hd, if_neg h, if_neg (by simp [h0, hb, hcv]), if_neg (by simp [hl]), if_pos ⟨h0, by simpa [hb] using hlt⟩, h0]
    exact hgrant e
  · rw [hd, if_neg h, if_neg (by simp [h0, hb, hcv]), if_neg (by simp [hl]), if_neg (by simp [hb, heq]), if_pos ⟨h0, by simpa [hb] using heq⟩]
    exact hans 1
  · rw [hd, if_neg h, if_neg (by simp [hb, hcv]), if_neg (by simp [hlr]), if_neg (by omega), if_neg (by omega), if_pos ⟨hr, h0, h0 ▸ hl⟩]
    exact hans 2
  · by_cases h3 : b'.state = 3
    · rw [if_pos h3, hd, if_neg h, if_neg (by simp [hb, hcv]), if_neg (by simp [hlr]), if_neg (by omega), if_neg (by omega), if_neg (by omega),
        if_neg (by simp [hb', h3])]
      exact hgrant _
    · rw [if_neg h3, hd, if_neg h, if_neg (by simp [hb, hcv]), if_neg (by simp [hlr]), if_neg (by omega), if_neg (by omega), if_neg (by omega),
        if_pos ⟨hr, by simp [hb', h3]⟩]
      exact hans 4

end

/-- EPOCH_RECORD_WRITE (R400). -/
theorem completes_epochRecordWrite (s : State) : Completes .epochRecordWrite s (fun t => t.ret.epochDirty = false ∧ t.ret.epoch = s.chip.ret.epoch ∧
    t.regs = s.chip.regs ∧ t.ret.epochEmmc = (if s.chip.ret.epochDirty = true then s.chip.ret.epoch else s.chip.ret.epochEmmc)) := by
  refine ⟨_, rfl, ?_⟩
  split
  · exact ⟨rfl, rfl, rfl, rfl⟩
  · rename_i h
    exact ⟨by simpa using h, rfl, rfl, rfl⟩

/-- Settles O41: a request starts at JOIN_WAIT, answers and heartbeats move the partner state, and Table 13.6 is decided row by row. -/
theorem pairProtocol : Obligations.PairProtocol := by
  unfold Obligations.PairProtocol
  refine ⟨fun c s hc h => completes_joinWaitExpiry s hc h, fun c s h => ⟨_, if_pos h, rfl⟩, completes_epochRecordWrite,
    fun u c f hc => pairAnswer_pair hc f, fun u c b hc => partnerBeat_pair hc b, fun u c e cv1 cv2 q hc hrank hreason _ hep => ?_⟩
  obtain ⟨h1, h2, h3, h4, h5, h6, h7, h8⟩ := witDecide_rows (cv1 := cv1) (cv2 := cv2) hc q hrank hreason hep
  refine ⟨h1, h2, h3, h4, fun b h h0 hl hb hcv hlt => h5 b h h0 hl hb hcv hlt, h6, h7, fun b b' h h0 hb hcv hlr hr hb' => ?_⟩
  have h := h8 b b' h h0 hb hcv hlr hr hb'
  split <;> rename_i h3
  · exact (if_pos h3).mp h
  · exact (if_neg h3).mp h

end Sys2Proof.Machine
end

section
/-!
PROOFS. Measurements of station time and the best master clock of the ports (14 R418 to R424).
-/
namespace Sys2Proof.Machine
open Chip

/-! ### A measurement (R420, R421) -/

section
variable {u : Chip}

theorem Chip.evrUpdateSource_now (u : Chip) : u.evrUpdateSource.now = u.now := by
  unfold Chip.evrUpdateSource
  dsimp only
  split
  · rfl
  · unfold Chip.evrOwn Chip.evrEnter
    dsimp only
    refine congrArg Prod.fst (a₂ := Chip.still _) (?_ : Chip.still _ = Chip.still _)
    split <;> simp

theorem Chip.evrUnlocked_now (u : Chip) : u.evrUnlocked.now = u.now := evrUpdateSource_now _

/-- TM registers of a measurement: those of every field outside the recorder's and event intake's pages stay under what follows it. -/
structure TimeKept (u t : Chip) : Prop where
  regs : ∀ f ∈ [Reg.TM_OFF.OFF, Reg.TM_STAT.MEAS, Reg.TM_STAT.PORT, Reg.TM_STAT.VALID, Reg.TM_NRR.PPB, Reg.TM_STAT.LOCKED], t.get f = u.get f
  tm : t.tm = u.tm

theorem TimeKept.rfl : TimeKept u u := ⟨fun _ _ => .refl _, .refl _⟩

theorem TimeKept.trans {u v t : Chip} (h1 : TimeKept u v) (h2 : TimeKept v t) : TimeKept u t :=
  ⟨fun f hf => (h2.regs f hf).trans (h1.regs f hf), h2.tm.trans h1.tm⟩

theorem TimeKept.of_within {t : Chip} (h : Within ⟨frLog ++ [.evr], some [0x409, 0x445]⟩ u t) : TimeKept u t := by
  refine ⟨fun f hf => ?_, h.same .tm (by decide)⟩
  have hplace : ∀ f ∈ [Reg.TM_OFF.OFF, Reg.TM_STAT.MEAS, Reg.TM_STAT.PORT, Reg.TM_STAT.VALID, Reg.TM_NRR.PPB, Reg.TM_STAT.LOCKED],
      f.lo < 32 ∧ 0x40000000 ≤ f.addr ∧ f.addr % 0x1000 ≠ 0xC ∧ (⟨frLog ++ [.evr], some [0x409, 0x445]⟩ : Scope).covers (f.addr / 0x100000) = false := by decide
  obtain ⟨hlo, h4, hstat, hcov⟩ := hplace f hf
  exact h.regs f hlo h4 hstat hcov

theorem Chip.raise_timeKept (u : Chip) (src code : Nat) (data : List Nat) : TimeKept u (u.raise src code data) := .of_within (raise_within.le (by decide))

/-- TM_OFF, and TM_NRR where the rate is known. -/
def Chip.timeOff (u : Chip) (off : Nat) (ppb : Option Nat) : Chip :=
  let u := u.put Reg.TM_OFF.OFF off
  match ppb with
  | some r => u.put Reg.TM_NRR.PPB r
  | none => u

/-- TM_STAT counts a measurement and names its port. -/
def Chip.timeStat (u : Chip) (p : Nat) : Chip := ((u.wrapInc Reg.TM_STAT.MEAS).put Reg.TM_STAT.PORT p).put Reg.TM_STAT.VALID 1

/-- The run length and the instant of a measurement. -/
def Chip.timeRan (u : Chip) (run : Nat) : Chip := { u with tm := { u.tm with run := run, last := some u.now } }

theorem Chip.timeRan_get (u : Chip) (run : Nat) (f : Fld) : (u.timeRan run).get f = u.get f := rfl

theorem Chip.timeStat_get (u : Chip) (p : Nat) {f : Fld} (h1 : Reg.TM_STAT.MEAS.key ≠ f.key) (h2 : Reg.TM_STAT.PORT.key ≠ f.key) (h3 : Reg.TM_STAT.VALID.key ≠ f.key) :
    (u.timeStat p).get f = u.get f :=
  (get_put_ne _ _ _ _ h3).trans ((get_put_ne _ _ _ _ h2).trans (get_put_ne _ _ _ _ h1))

theorem Chip.timeOff_get (u : Chip) (off : Nat) (ppb : Option Nat) {f : Fld} (h1 : Reg.TM_OFF.OFF.key ≠ f.key) (h2 : Reg.TM_NRR.PPB.key ≠ f.key) :
    (u.timeOff off ppb).get f = u.get f := by
  cases ppb with
  | none => exact get_put_ne _ _ _ _ h1
  | some r => exact (get_put_ne _ _ _ _ h2).trans (get_put_ne _ _ _ _ h1)

theorem Chip.timeStat_shows (u : Chip) {p : Nat} (hp : p < 15) : (u.timeStat p).get Reg.TM_STAT.MEAS = (u.get Reg.TM_STAT.MEAS + 1) % 65536 ∧
    (u.timeStat p).get Reg.TM_STAT.PORT = p ∧ (u.timeStat p).get Reg.TM_STAT.VALID = 1 := by
  unfold Chip.timeStat
  refine ⟨?_, ?_, get_put_same ..⟩
  · rw [get_put_ne _ _ _ _ (by decide), get_put_ne _ _ _ _ (by decide)]
    exact get_put_same ..
  · rw [get_put_ne _ _ _ _ (by decide), get_put_same]
    exact Nat.mod_eq_of_lt (hp.trans (by decide))

theorem Chip.timeOff_shows (u : Chip) {off : Nat} (ppb : Option Nat) (hoff : off < 2 ^ 64) : (u.timeOff off ppb).get Reg.TM_OFF.OFF = off ∧
    ∀ x, ppb = some x → (u.timeOff off ppb).get Reg.TM_NRR.PPB = x % 2 ^ 32 := by
  have h : (u.put Reg.TM_OFF.OFF off).get Reg.TM_OFF.OFF = off := (get_put_same ..).trans (Nat.mod_eq_of_lt hoff)
  cases ppb with
  | none => exact ⟨h, by simp⟩
  | some r =>
    refine ⟨(get_put_ne _ _ _ _ (by decide)).trans h, ?_⟩
    rintro x ⟨⟩
    exact get_put_same ..

/-- The registers and the run length of a measurement, before LOCKED is judged. -/
def Chip.timeTaken (u : Chip) (p off : Nat) (ppb : Option Nat) (run : Nat) : Chip := ((u.timeOff off ppb).timeStat p).timeRan run

/-- A field that no measurement writes. -/
theorem Chip.timeTaken_other (u : Chip) (p off : Nat) (ppb : Option Nat) (run : Nat) {f : Fld}
    (hf : ∀ g ∈ [Reg.TM_OFF.OFF, Reg.TM_STAT.MEAS, Reg.TM_STAT.PORT, Reg.TM_STAT.VALID, Reg.TM_NRR.PPB], g.key ≠ f.key) :
    (u.timeTaken p off ppb run).get f = u.get f := by
  simp only [List.forall_mem_cons] at hf
  obtain ⟨h1, h2, h3, h4, h5, -⟩ := hf
  unfold Chip.timeTaken
  rw [timeRan_get, timeStat_get _ _ h2 h3 h4, timeOff_get _ _ _ h1 h5]

/-- What a measurement leaves in its registers. -/
theorem Chip.timeTaken_shows (u : Chip) {p off : Nat} (ppb : Option Nat) (run : Nat) (hp : p < 15) (hoff : off < 2 ^ 64) :
    let t := u.timeTaken p off ppb run
    t.get Reg.TM_OFF.OFF = off ∧ t.get Reg.TM_STAT.MEAS = (u.get Reg.TM_STAT.MEAS + 1) % 65536 ∧ t.get Reg.TM_STAT.PORT = p ∧ t.get Reg.TM_STAT.VALID = 1 ∧
      ∀ x, ppb = some x → t.get Reg.TM_NRR.PPB = x % 2 ^ 32 := by
  obtain ⟨hmeas, hport, hvalid⟩ := (u.timeOff off ppb).timeStat_shows hp
  obtain ⟨hval, hppb⟩ := u.timeOff_shows ppb hoff
  rw [timeOff_get _ _ _ (by decide) (by decide)] at hmeas
  dsimp only
  unfold Chip.timeTaken
  refine ⟨?_, hmeas, hport, hvalid, fun x hx => ?_⟩
  · rw [timeRan_get, timeStat_get _ _ (by decide) (by decide) (by decide), hval]
  · rw [timeRan_get, timeStat_get _ _ (by decide) (by decide) (by decide), hppb x hx]

/-- The residual of a measurement against TM_STOFF, and whether it is within 1,000 ns. -/
def Chip.timeInside (u : Chip) (off : Nat) : Bool :=
  let r := signed 64 off - 10 * signed 64 (u.get Reg.TM_STOFF.STOFF)
  decide (-1000 ≤ r ∧ r ≤ 1000)

/-- The run of measurements within 1,000 ns after one more. -/
def Chip.timeRun (u : Chip) (off : Nat) : Nat := if u.timeInside off && u.on Reg.TM_STAT.STOFF then min (u.tm.run + 1) 8 else 0

/-- The judgment of LOCKED after a measurement. -/
theorem Chip.timeMeasured_eq (u : Chip) (p off : Nat) (ppb : Option Nat) {v : Chip} (hv : v = u.timeTaken p off ppb (u.timeRun off)) :
    ∃ d1 d2, u.timeMeasured p off ppb =
      if u.on Reg.TM_STAT.LOCKED then
        if u.timeInside off then v.evrMeasured else ((v.put Reg.TM_STAT.LOCKED 0).evrUnlocked).raise (portSource p) 0x06 d1
      else if u.timeRun off = 8 then ((v.put Reg.TM_STAT.LOCKED 1).raise (portSource p) 0x05 d2).evrMeasured
      else v := by
  unfold Chip.timeMeasured
  extract_lets u1 u2 u3 r inside run _ u4 src
  have hu3 : u3 = (u.timeOff off ppb).timeStat p := rfl
  have hkeep : ∀ f, f = Reg.TM_STOFF.STOFF ∨ f = Reg.TM_STAT.STOFF ∨ f = Reg.TM_STAT.LOCKED → u3.get f = u.get f := by
    rintro f (rfl | rfl | rfl) <;>
      rw [hu3, timeStat_get _ _ (by decide) (by decide) (by decide), timeOff_get _ _ _ (by decide) (by decide)]
  have hinside : inside = u.timeInside off := by
    unfold inside r Chip.timeInside
    rw [hkeep _ (.inl rfl)]
  have hran : u3.tm.run = u.tm.run := by
    rw [hu3]
    cases ppb <;> rfl
  have hrun : run = u.timeRun off := by
    unfold run Chip.timeRun Chip.on
    rw [hinside, hran, hkeep _ (.inr (.inl rfl))]
  have hu4 : u4 = u.timeTaken p off ppb (u.timeRun off) := by
    rw [← hrun]
    rfl
  have hlocked : u4.on Reg.TM_STAT.LOCKED = u.on Reg.TM_STAT.LOCKED := congrArg (· != 0) (hkeep _ (.inr (.inr rfl)))
  clear_value src u4 run inside
  subst hinside hrun
  rw [hlocked, hv, ← hu4]
  exact ⟨_, _, rfl⟩

/-- A chip that keeps all that a measurement has left but LOCKED, which it shows as `w`. -/
def TimeShows (v t : Chip) (w : Nat) : Prop :=
  (∀ f ∈ [Reg.TM_OFF.OFF, Reg.TM_STAT.MEAS, Reg.TM_STAT.PORT, Reg.TM_STAT.VALID, Reg.TM_NRR.PPB], t.get f = v.get f) ∧ t.tm = v.tm ∧
    t.get Reg.TM_STAT.LOCKED = w

theorem TimeKept.shows {v t : Chip} (hk : TimeKept v t) : TimeShows v t (v.get Reg.TM_STAT.LOCKED) :=
  ⟨fun f hf => hk.regs f (by simp at hf ⊢; tauto), hk.tm, hk.regs _ (by simp)⟩

theorem TimeKept.shows_put {v t : Chip} {b : Nat} (hb : b < 2) (hk : TimeKept (v.put Reg.TM_STAT.LOCKED b) t) : TimeShows v t b := by
  have hkeys : ∀ f ∈ [Reg.TM_OFF.OFF, Reg.TM_STAT.MEAS, Reg.TM_STAT.PORT, Reg.TM_STAT.VALID, Reg.TM_NRR.PPB], Reg.TM_STAT.LOCKED.key ≠ f.key := by decide
  refine ⟨fun f hf => ?_, hk.tm, ?_⟩
  · rw [hk.regs f (by simp at hf ⊢; tauto), get_put_ne _ _ _ _ (hkeys f hf)]
  · rw [hk.regs _ (by simp), get_put_same]
    exact Nat.mod_eq_of_lt hb

/-- LOCKED after a measurement; the other registers are those of the measurement. -/
theorem Chip.timeMeasured_locked (u : Chip) (p off : Nat) (ppb : Option Nat) {v : Chip} (hv : v = u.timeTaken p off ppb (u.timeRun off)) :
    TimeShows v (u.timeMeasured p off ppb) (if u.get Reg.TM_STAT.LOCKED = 0 then lvl (u.timeRun off == 8) else lvl (u.timeInside off)) := by
  obtain ⟨d1, d2, heq⟩ := u.timeMeasured_eq p off ppb hv
  have hlk : v.get Reg.TM_STAT.LOCKED = u.get Reg.TM_STAT.LOCKED := by
    rw [hv]
    exact timeTaken_other _ _ _ _ _ (by decide)
  have hwidth : u.get Reg.TM_STAT.LOCKED < 2 := u.get_lt Reg.TM_STAT.LOCKED
  have hrises : TimeShows v (((v.put Reg.TM_STAT.LOCKED 1).raise (portSource p) 0x05 d2).evrMeasured) 1 :=
    TimeKept.shows_put (by decide) ((raise_timeKept ..).trans (.of_within (evrMeasured_within (u := _))))
  have hfalls : TimeShows v (((v.put Reg.TM_STAT.LOCKED 0).evrUnlocked).raise (portSource p) 0x06 d1) 0 :=
    TimeKept.shows_put (by decide) (.trans (.of_within evrUnlocked_within) (raise_timeKept ..))
  have hstays : TimeShows v v.evrMeasured (v.get Reg.TM_STAT.LOCKED) := TimeKept.shows (.of_within evrMeasured_within)
  have hnothing : TimeShows v v (v.get Reg.TM_STAT.LOCKED) := TimeKept.shows .rfl
  rw [heq]
  clear heq hv
  unfold Chip.on
  by_cases h0 : u.get Reg.TM_STAT.LOCKED = 0
  · rw [if_neg (by simp [h0]), if_pos h0]
    by_cases h8 : u.timeRun off = 8
    · rw [if_pos h8, h8]
      exact hrises
    · rw [if_neg h8, beq_eq_false_iff_ne.2 h8]
      rw [hlk, h0] at hnothing
      exact hnothing
  · rw [if_pos (by simpa using h0), if_neg h0]
    cases hin : u.timeInside off
    · exact hfalls
    · rw [hlk, show u.get Reg.TM_STAT.LOCKED = 1 by omega] at hstays
      exact hstays

/-- A measurement (R420, R421). -/
theorem timeMeasured_shows {p off : Nat} (ppb : Option Nat) (hp : p < 15) (hoff : off < 2 ^ 64) :
    let t := u.timeMeasured p off ppb
    let r := signed 64 off - 10 * signed 64 (u.get Reg.TM_STOFF.STOFF)
    let inside := -1000 ≤ r ∧ r ≤ 1000
    t.get Reg.TM_OFF.OFF = off ∧ t.get Reg.TM_STAT.MEAS = (u.get Reg.TM_STAT.MEAS + 1) % 65536 ∧ t.get Reg.TM_STAT.PORT = p ∧ t.get Reg.TM_STAT.VALID = 1 ∧
     (u.get Reg.TM_STAT.LOCKED = 1 → (t.get Reg.TM_STAT.LOCKED = 1 ↔ inside)) ∧
     (u.get Reg.TM_STAT.LOCKED = 0 → (t.get Reg.TM_STAT.LOCKED = 1 ↔ inside ∧ u.get Reg.TM_STAT.STOFF = 1 ∧ 7 ≤ u.tm.run)) ∧
     (¬ inside ∨ u.get Reg.TM_STAT.STOFF = 0 → t.tm.run = 0) ∧ t.tm.last = some u.now ∧ (∀ x, ppb = some x → t.get Reg.TM_NRR.PPB = x % 2 ^ 32) := by
  intro t r inside
  obtain ⟨hregs, htm, hlocked⟩ := u.timeMeasured_locked p off ppb rfl
  obtain ⟨hval, hmeas, hport, hvalid, hppb⟩ := u.timeTaken_shows ppb (u.timeRun off) hp hoff
  simp only [List.forall_mem_cons, List.not_mem_nil, false_implies, implies_true, and_true] at hregs
  obtain ⟨r1, r2, r3, r4, r5⟩ := hregs
  have hin : u.timeInside off = true ↔ inside := decide_eq_true_iff
  have hst : u.get Reg.TM_STAT.STOFF < 2 := u.get_lt Reg.TM_STAT.STOFF
  have hlvl : ∀ b, lvl b = 1 ↔ b = true := by decide
  have hlast : (u.timeTaken p off ppb (u.timeRun off)).tm.last = some u.now := by cases ppb <;> rfl
  have hran : (u.timeTaken p off ppb (u.timeRun off)).tm.run = u.timeRun off := rfl
  refine ⟨r1.trans hval, r2.trans hmeas, r3.trans hport, r4.trans hvalid, fun h => ?_, fun h => ?_, fun h => ?_, (congrArg _ htm).trans hlast, fun x hx => r5.trans (hppb x hx)⟩
  · rw [hlocked, if_neg (by omega), hlvl, hin]
  · rw [hlocked, if_pos h, hlvl, ← hin, beq_iff_eq]
    unfold Chip.timeRun Chip.on
    by_cases hi : u.timeInside off = true <;> by_cases hs : u.get Reg.TM_STAT.STOFF = 0
    · simp [hs]
    · rw [if_pos (by simp [hi, hs])]
      simp only [hi, true_and]
      omega
    · simp [hi]
    · simp [hi]
  · rw [htm, hran]
    unfold Chip.timeRun Chip.on
    rw [← hin] at h
    rw [if_neg]
    rcases h with h | h
    · simp [h]
    · simp [h]

end
end Sys2Proof.Machine
end

section
/-!
PROOFS. The best master clock of the ports, beacons, Pdelay and sequence recovery (14 R418 to R424).
-/
namespace Sys2Proof.Machine
open Chip

/-! ### The best master clock algorithm (R419) -/

section
variable {u : Chip} {p : Nat}

/-- The Announce of a port that takes part in the choice of the slave port: priority vector, port, grandmaster. -/
def Chip.gpCand (u : Chip) (p : Nat) : Option (Nat × Nat × Nat) :=
  if u.gptpOn p && u.on (Reg.PORT_STAT.LINK (portPage p)) then (u.pt p).announce.map (fun a => (a.1, p, a.2)) else none

/-- The better of two Announces. -/
def gpBetter (b : Option (Nat × Nat × Nat)) (c : Option (Nat × Nat × Nat)) : Option (Nat × Nat × Nat) :=
  match b, c with
  | some x, some y => if y.1 < x.1 then some y else some x
  | none, c => c
  | b, none => b

/-- The best Announce of the ports with gPTP. -/
def Chip.gpBest (u : Chip) : Option (Nat × Nat × Nat) := ([4, 5, 6, 7]).foldl (fun b p => gpBetter b (u.gpCand p)) none

/-- The best of a list is one of its Announces, and none of them ranks before it. -/
theorem gpBetter_foldl (cand : Nat → Option (Nat × Nat × Nat)) (l : List Nat) (b : Option (Nat × Nat × Nat)) :
    let r := l.foldl (fun b p => gpBetter b (cand p)) b
    (∀ x, r = some x → b = some x ∨ ∃ q ∈ l, cand q = some x) ∧
    (∀ y, (b = some y ∨ ∃ q ∈ l, cand q = some y) → ∃ x, r = some x ∧ x.1 ≤ y.1) := by
  induction l generalizing b with
  | nil => exact ⟨fun x hx => .inl hx, fun y hy => ⟨y, by simpa using hy, le_rfl⟩⟩
  | cons q l ih =>
    obtain ⟨hfrom, hleast⟩ := ih (gpBetter b (cand q))
    rw [List.foldl_cons]
    have hor : ∀ x, gpBetter b (cand q) = some x → b = some x ∨ cand q = some x := by
      intro x hx
      cases b <;> cases hc : cand q <;> simp only [gpBetter, hc] at hx
      · exact absurd hx (by simp)
      · exact .inr hx
      · exact .inl hx
      · split at hx
        · exact .inr hx
        · exact .inl hx
    have hle : ∀ y, (b = some y ∨ cand q = some y) → ∃ x, gpBetter b (cand q) = some x ∧ x.1 ≤ y.1 := by
      intro y hy
      cases hb : b with
      | none =>
        rw [hb] at hy
        obtain hy | hy := hy
        · exact absurd hy (by simp)
        · exact ⟨y, by rw [hy]; rfl, le_rfl⟩
      | some x =>
        cases hc : cand q with
        | none =>
          rw [hb, hc] at hy
          obtain hy | hy := hy
          · exact ⟨y, by rw [hy]; rfl, le_rfl⟩
          · exact absurd hy (by simp)
        | some z =>
          simp only [hb, hc, Option.some.injEq] at hy
          simp only [gpBetter]
          split
          · exact ⟨z, rfl, by rcases hy with rfl | rfl <;> omega⟩
          · exact ⟨x, rfl, by rcases hy with rfl | rfl <;> omega⟩
    refine ⟨fun x hx => ?_, fun y hy => ?_⟩
    · rcases hfrom x hx with h | ⟨q', hq', h⟩
      · rcases hor x h with h | h
        · exact .inl h
        · exact .inr ⟨q, by simp, h⟩
      · exact .inr ⟨q', by simp [hq'], h⟩
    · have hy' : (b = some y ∨ cand q = some y) ∨ ∃ q' ∈ l, cand q' = some y := by
        simp only [List.mem_cons, exists_eq_or_imp] at hy
        tauto
      rcases hy' with h | h
      · obtain ⟨x, hx, hxy⟩ := hle y h
        obtain ⟨z, hz, hzx⟩ := hleast x (.inl hx)
        exact ⟨z, hz, hzx.trans hxy⟩
      · exact hleast y (.inr h)

theorem Chip.gpCand_eq_some {x : Nat × Nat × Nat} : u.gpCand p = some x ↔
    u.gptpOn p = true ∧ u.on (Reg.PORT_STAT.LINK (portPage p)) = true ∧ (u.pt p).announce = some (x.1, x.2.2) ∧ x.2.1 = p := by
  unfold Chip.gpCand
  split
  · rename_i h
    obtain ⟨hon, hlink⟩ := Bool.and_eq_true_iff.1 h
    simp only [hon, hlink, true_and, Option.map_eq_some_iff]
    constructor
    · rintro ⟨a, ha, rfl⟩
      exact ⟨ha, rfl⟩
    · rintro ⟨ha, rfl⟩
      exact ⟨_, ha, rfl⟩
  · rename_i h
    simp only [reduceCtorEq, false_iff]
    rintro ⟨hon, hlink, -⟩
    exact h (by rw [hon, hlink]; rfl)

/-- The slave port and the Announce chosen. -/
theorem Chip.gpBest_chosen {x : Nat × Nat × Nat} (h : u.gpBest = some x) : (4 ≤ x.2.1 ∧ x.2.1 < 8) ∧ u.gptpOn x.2.1 = true ∧
    u.on (Reg.PORT_STAT.LINK (portPage x.2.1)) = true ∧ (u.pt x.2.1).announce = some (x.1, x.2.2) := by
  obtain h | ⟨q, hq, h⟩ := (gpBetter_foldl u.gpCand [4, 5, 6, 7] none).1 x h
  · exact absurd h (by simp)
  · obtain ⟨hon, hlink, ha, rfl⟩ := gpCand_eq_some.1 h
    exact ⟨(show ∀ q ∈ [4, 5, 6, 7], 4 ≤ q ∧ q < 8 by decide) _ hq, hon, hlink, ha⟩

/-- No Announce of a port that takes part ranks before the one chosen. -/
theorem Chip.gpBest_least {a : Nat × Nat} (h4 : 4 ≤ p) (h8 : p < 8) (hon : u.gptpOn p = true) (hlink : u.on (Reg.PORT_STAT.LINK (portPage p)) = true)
    (ha : (u.pt p).announce = some a) : ∃ x, u.gpBest = some x ∧ x.1 ≤ a.1 :=
  (gpBetter_foldl u.gpCand [4, 5, 6, 7] none).2 (a.1, p, a.2) (.inr ⟨p, by simp; omega, gpCand_eq_some.2 ⟨hon, hlink, ha, rfl⟩⟩)

/-- The slave flags of the ports and AS_CAPABLE of the slave port. -/
def Chip.gpFlags (u : Chip) (slave : Option Nat) : Chip :=
  let u := ([4, 5, 6, 7]).foldl (fun u p => u.put (Reg.PORT_STAT.GP_SLAVE (portPage p)) (lvl (slave == some p))) u
  u.put Reg.TM_STAT.AS_CAPABLE (match slave with
    | some p => lvl (u.pt p).asCapable
    | none => 0)

theorem Chip.gptpSelect_eq (u : Chip) : u.gptpSelect =
    let v := u.gpFlags (u.gpBest.map (fun b => b.2.1))
    match u.gpBest with
    | some b =>
      let w := { v with tm := { v.tm with gm := some b.2.2 } }
      match v.tm.gm with
      | some g => if g = b.2.2 then w else w.raise (portSource b.2.1) 0x07 [g, b.2.2]
      | none => w
    | none => v := by
  have hbest : ([4, 5, 6, 7]).foldl (fun (b : Option (Nat × Nat × Nat)) p =>
      match (u.pt p).announce with
      | some a =>
        if u.gptpOn p && u.on (Reg.PORT_STAT.LINK (portPage p)) then
          match b with
          | some x => if a.1 < x.1 then some (a.1, p, a.2) else b
          | none => some (a.1, p, a.2)
        else b
      | none => b) none = u.gpBest := by
    unfold Chip.gpBest
    congr 1
    funext b p
    unfold Chip.gpCand
    cases (u.pt p).announce with
    | none => cases b <;> simp [gpBetter]
    | some a =>
      dsimp only
      split <;> cases b <;> rfl
  unfold Chip.gptpSelect
  extract_lets best slave u1 u2
  have hb : best = u.gpBest := hbest
  have hu2 : u2 = u.gpFlags (u.gpBest.map (fun b => b.2.1)) := by
    rw [← hb]
    rfl
  clear_value u2 u1 slave best
  subst hb hu2
  rfl

theorem slave_keys : ∀ q ∈ [4, 5, 6, 7], Reg.TM_STAT.AS_CAPABLE.key ≠ (Reg.PORT_STAT.GP_SLAVE (portPage q)).key ∧
    (∀ q' ∈ [4, 5, 6, 7], q ≠ q' → (Reg.PORT_STAT.GP_SLAVE (portPage q)).key ≠ (Reg.PORT_STAT.GP_SLAVE (portPage q')).key) := by decide

theorem Chip.gpFlags_slave (u : Chip) (slave : Option Nat) {q : Nat} (hq : q ∈ [4, 5, 6, 7]) :
    (u.gpFlags slave).get (Reg.PORT_STAT.GP_SLAVE (portPage q)) = lvl (slave == some q) := by
  have hsame : ∀ v : Chip, (v.put (Reg.PORT_STAT.GP_SLAVE (portPage q)) (lvl (slave == some q))).get (Reg.PORT_STAT.GP_SLAVE (portPage q)) = lvl (slave == some q) :=
    fun v => (get_put_same ..).trans (by cases slave == some q <;> rfl)
  have hother : ∀ (v : Chip), ∀ q' ∈ [4, 5, 6, 7], q' ≠ q → (v.put (Reg.PORT_STAT.GP_SLAVE (portPage q')) (lvl (slave == some q'))).get
      (Reg.PORT_STAT.GP_SLAVE (portPage q)) = v.get (Reg.PORT_STAT.GP_SLAVE (portPage q)) :=
    fun v q' hq' hne => get_put_ne _ _ _ _ ((slave_keys q' hq').2 q hq hne)
  refine (get_put_ne _ _ _ _ (slave_keys q hq).1).trans ?_
  simp only [List.mem_cons, List.not_mem_nil, or_false] at hq
  simp only [List.foldl_cons, List.foldl_nil]
  rcases hq with rfl | rfl | rfl | rfl
  · rw [hother _ 7 (by decide) (by decide), hother _ 6 (by decide) (by decide), hother _ 5 (by decide) (by decide), hsame]
  · rw [hother _ 7 (by decide) (by decide), hother _ 6 (by decide) (by decide), hsame]
  · rw [hother _ 7 (by decide) (by decide), hsame]
  · exact hsame _

/-- The slave flag of a port after the choice. -/
theorem Chip.gptpSelect_slave (u : Chip) {q : Nat} (hq : q ∈ [4, 5, 6, 7]) :
    u.gptpSelect.get (Reg.PORT_STAT.GP_SLAVE (portPage q)) = lvl (u.gpBest.map (fun b => b.2.1) == some q) := by
  rw [← u.gpFlags_slave _ hq, gptpSelect_eq]
  dsimp only
  generalize u.gpFlags (u.gpBest.map (fun b => b.2.1)) = v
  have hraise : ∀ (w : Chip) src d, (w.raise src 7 d).get (Reg.PORT_STAT.GP_SLAVE (portPage q)) = w.get (Reg.PORT_STAT.GP_SLAVE (portPage q)) :=
    fun w src d => get_raise_port w src 7 d (show 4 < 32 by decide) (by decide) rfl
  split
  · split
    · split
      · rfl
      · exact hraise ..
    · rfl
  · rfl

theorem Chip.gptpSelect_ports (u : Chip) : u.gptpSelect.ports = u.ports := gptpSelect_within.same .ports (by decide)

theorem Chip.gptpSelect_gm (u : Chip) {x : Nat × Nat × Nat} (h : u.gpBest = some x) : u.gptpSelect.tm.gm = some x.2.2 := by
  rw [gptpSelect_eq, h]
  dsimp only
  generalize u.gpFlags _ = v
  split
  · split
    · rfl
    · exact congrArg TimeFn.gm (raise_tm ..)
  · rfl

theorem Chip.gptpOn_of_ports {t : Chip} (h : t.ports = u.ports) (p : Nat) : t.gptpOn p = u.gptpOn p := by
  unfold Chip.gptpOn Chip.portClass Chip.portCfg
  rw [h]

theorem Chip.gptpOn_modPt (u : Chip) (p q : Nat) (g : PortRt → PortRt) (hg : ∀ r, (g r).cfg = r.cfg) : (u.modPt p g).gptpOn q = u.gptpOn q := by
  have hcfg : ((u.modPt p g).pt q).cfg = (u.pt q).cfg := by
    by_cases hpq : p = q
    · subst hpq
      by_cases hp : p < u.ports.length
      · rw [pt_modPt_same _ hp, hg]
      · simp only [Chip.pt, Chip.modPt]
        rw [List.getD_eq_default _ _ (by rw [modAt_length]; omega), List.getD_eq_default _ _ (by omega)]
    · rw [pt_modPt_ne _ hpq]
  unfold Chip.gptpOn Chip.portClass Chip.portCfg
  unfold Chip.pt at hcfg
  rw [hcfg]

theorem Chip.gptpOn_range (h : u.gptpOn p = true) : 4 ≤ p ∧ p < 8 := by
  unfold Chip.gptpOn at h
  simp only [Bool.and_eq_true, decide_eq_true_eq] at h
  exact h.1.1

theorem Chip.on_of_one {f : Fld} (h : u.get f = 1) : u.on f = true := by
  unfold Chip.on
  rw [h]
  rfl

theorem Chip.one_of_on {f : Fld} (hf : f.width = 1) (h : u.on f = true) : u.get f = 1 := by
  have hlt := u.get_lt f
  rw [hf] at hlt
  have hne : u.get f ≠ 0 := by simpa [Chip.on] using h
  omega

theorem mem_gptpPorts {q : Nat} (h4 : 4 ≤ q) (h8 : q < 8) : q ∈ [4, 5, 6, 7] := by
  simp
  omega

/-- ANNOUNCE_RX (R419, R421). -/
theorem completes_announceRx (m : AnnounceOp) (s : State) (hp : p < s.chip.ports.length) :
    Completes (.announceRx p m) s (fun t => (s.chip.gptpOn p = false → t = s.chip) ∧ (s.chip.gptpOn p = true → (t.pt p).announce = some (announceRank m p, m.gm) ∧
      (s.chip.get (Reg.PORT_STAT.LINK (portPage p)) = 1 → (∀ q, 4 ≤ q → q < 8 → q ≠ p → (s.chip.pt q).announce = none) →
        t.get (Reg.PORT_STAT.GP_SLAVE (portPage p)) = 1 ∧ t.tm.gm = some m.gm) ∧
      ∀ q, 4 ≤ q → q < 8 → t.get (Reg.PORT_STAT.GP_SLAVE (portPage q)) = 1 → t.gptpOn q = true ∧ t.get (Reg.PORT_STAT.LINK (portPage q)) = 1 ∧
        ∃ a, (t.pt q).announce = some a ∧ ∀ q' b, 4 ≤ q' → q' < 8 → t.gptpOn q' = true → t.get (Reg.PORT_STAT.LINK (portPage q')) = 1 → (t.pt q').announce = some b → a.1 ≤ b.1)) := by
  refine ⟨_, rfl, fun h => if_neg (by simp [h]), fun hon => ?_⟩
  rw [if_pos hon]
  set u := s.chip.modPt p (fun r => { r with announce := some (announceRank m p, m.gm) }) with hu
  obtain ⟨h4, h8⟩ := gptpOn_range hon
  have hann : (u.pt p).announce = some (announceRank m p, m.gm) := congrArg PortRt.announce (pt_modPt_same _ hp)
  have honu : ∀ q, u.gptpOn q = s.chip.gptpOn q := fun q => gptpOn_modPt _ _ _ _ (fun _ => rfl)
  have hpt : ∀ q, u.gptpSelect.pt q = u.pt q := pt_of_ports u.gptpSelect_ports
  have hont : ∀ q, u.gptpSelect.gptpOn q = u.gptpOn q := gptpOn_of_ports u.gptpSelect_ports
  have hlink : ∀ q, q < 8 → u.gptpSelect.get (Reg.PORT_STAT.LINK (portPage q)) = u.get (Reg.PORT_STAT.LINK (portPage q)) := fun q hq => gptpSelect_link u q hq (.inl rfl)
  refine ⟨by rw [hpt, hann], fun hup hnone => ?_, fun q hq4 hq8 hslave => ?_⟩
  · obtain ⟨x, hx, -⟩ := gpBest_least h4 h8 ((honu p).trans hon) (on_of_one (show u.get _ = 1 from hup)) hann
    obtain ⟨⟨hx4, hx8⟩, -, -, hxa⟩ := gpBest_chosen hx
    have hxp : x.2.1 = p := by
      by_contra hne
      rw [hu, pt_modPt_ne _ (Ne.symm hne), hnone _ hx4 hx8 hne] at hxa
      exact absurd hxa (by simp)
    rw [hxp, hann, Option.some.injEq] at hxa
    refine ⟨?_, ?_⟩
    · rw [gptpSelect_slave _ (mem_gptpPorts h4 h8), hx, Option.map_some, hxp, beq_self_eq_true]
      rfl
    · rw [gptpSelect_gm _ hx, ← (Prod.mk.inj hxa).2]
  · rw [gptpSelect_slave _ (mem_gptpPorts hq4 hq8)] at hslave
    have hchosen : u.gpBest.map (fun b => b.2.1) = some q := by
      by_contra hne
      rw [beq_eq_false_iff_ne.2 hne] at hslave
      exact absurd hslave (by decide)
    obtain ⟨x, hx, rfl⟩ := Option.map_eq_some_iff.1 hchosen
    obtain ⟨-, hxon, hxlink, hxa⟩ := gpBest_chosen hx
    refine ⟨by rw [hont, hxon], ?_, (x.1, x.2.2), by rw [hpt, hxa], fun q' b hq4' hq8' hon' hlink' hb => ?_⟩
    · rw [hlink _ hq8]
      exact one_of_on rfl hxlink
    · rw [hont] at hon'
      rw [hlink _ hq8'] at hlink'
      rw [hpt] at hb
      obtain ⟨y, hy, hle⟩ := gpBest_least hq4' hq8' hon' (on_of_one hlink') hb
      rw [hx, Option.some.injEq] at hy
      exact hy ▸ hle

/-! ### Beacons, silence and Pdelay -/

variable {s : State}

/-- TIME_BEACON_RX (R423, R424). -/
theorem completes_timeBeaconRx (cap : Nat) (b : List Byte) (hport : beaconPort (s.chip.get Reg.TM_CFG.SRC) = some p) (hp : p < s.chip.ports.length)
    (hclass : s.chip.portClass p = 0) (hver : beAt b 0 1 = 1) (hnet : beAt b 2 2 = s.chip.get Reg.ZST_GCFG.NET_ID) :
    Completes (.timeBeaconRx p cap b) s (fun t =>
      (beAt b 1 1 < 128 → t = s.chip) ∧ (128 ≤ beAt b 1 1 → (t.pt p).rxCap = some cap ∧
       ((s.chip.pt p).rxCap = none → t.regs = s.chip.regs) ∧
       (∀ c, (s.chip.pt p).rxCap = some c → beAt b 8 8 ≠ 0 → t.get Reg.TM_OFF.OFF = pattern 64 (10 * (beAt b 8 8 : Int) - 10 * (c : Int)) ∧
         t.get Reg.TM_STAT.MEAS = (s.chip.get Reg.TM_STAT.MEAS + 1) % 65536 ∧ t.get Reg.TM_STAT.PORT = p ∧ (t.pt p).pair = some (beAt b 8 8, c)))) := by
  have hp15 : p < 15 := by
    unfold beaconPort at hport
    split_ifs at hport <;> simp only [Option.some.injEq] at hport <;> omega
  by_cases hlocked : 128 ≤ beAt b 1 1
  swap
  · refine ⟨s.chip, ?_, fun _ => rfl, fun h => absurd h hlocked⟩
    change execTimeBeaconRx p cap b s = _
    unfold execTimeBeaconRx
    exact if_neg (fun h => hlocked h.2.2.2.1)
  set u := s.chip.modPt p (fun r => { r with rxCap := some cap }) with hu
  have hcap : u.pt p = { s.chip.pt p with rxCap := some cap } := pt_modPt_same _ hp
  have hexec : exec (.timeBeaconRx p cap b) s = match (s.chip.pt p).rxCap with
      | none => s.become u
      | some c => if beAt b 8 8 = 0 then s.become u else s.become ((u.modPt p (fun r => { r with pair := some (beAt b 8 8, c) })).timeMeasured p
          (pattern 64 (10 * (beAt b 8 8 : Int) - 10 * (c : Int))) ((s.chip.pt p).pair.bind (fun (q : Nat × Nat) =>
            if c ≤ q.2 then none
            else some (pattern 32 ((((beAt b 8 8 : Int) - (q.1 : Int)) - ((c : Int) - (q.2 : Int))) * 1000000000 / ((c : Int) - (q.2 : Int))))))) := by
    change execTimeBeaconRx p cap b s = _
    unfold execTimeBeaconRx
    dsimp only
    exact if_pos ⟨hport, hclass, hver, hlocked, hnet⟩
  unfold Completes
  rw [hexec]
  cases hrx : (s.chip.pt p).rxCap with
  | none => exact ⟨u, rfl, fun h => absurd hlocked (by omega), fun _ => ⟨by rw [hcap], fun _ => rfl, by simp⟩⟩
  | some c =>
    by_cases hv : beAt b 8 8 = 0
    · exact ⟨u, if_pos hv, fun h => absurd hlocked (by omega), fun _ => ⟨by rw [hcap], by simp, fun _ _ h => absurd hv h⟩⟩
    · refine ⟨_, if_neg hv, fun h => absurd hlocked (by omega), fun _ => ?_⟩
      set w := u.modPt p (fun r => { r with pair := some (beAt b 8 8, c) }) with hw
      have hwp : w.pt p = { u.pt p with pair := some (beAt b 8 8, c) } := pt_modPt_same _ (by rw [hu]; simpa [Chip.modPt, modAt_length] using hp)
      have hoff : pattern 64 (10 * (beAt b 8 8 : Int) - 10 * (c : Int)) < 2 ^ 64 := by
        unfold pattern
        omega
      generalize (s.chip.pt p).pair.bind _ = ppb
      have hpt : ∀ q, (w.timeMeasured p (pattern 64 (10 * (beAt b 8 8 : Int) - 10 * (c : Int))) ppb).pt q = w.pt q := pt_of_ports (timeMeasured_within.same .ports (by decide))
      obtain ⟨hval, hmeas, hpn, -⟩ := timeMeasured_shows (u := w) ppb hp15 hoff
      refine ⟨by rw [hpt, hwp, hcap], by simp, ?_⟩
      rintro _ ⟨⟩ _
      exact ⟨hval, hmeas, hpn, by rw [hpt, hwp]⟩

theorem Chip.until_sec (t : Nat) : (u.until (t + sec 1)).now = max u.now (t + 100000000) := by
  rw [until_now]
  rfl

/-- The run of measurements is over. -/
def Chip.timeRunOver (u : Chip) : Chip := { u with tm := { u.tm with run := 0 } }

theorem exec_timeSilence {x : Nat} (h : s.chip.tm.last = some x) : ∃ src d, exec .timeSilence s =
      s.become (if ((s.chip.until (x + sec 1)).timeRunOver).on Reg.TM_STAT.LOCKED
        then (((s.chip.until (x + sec 1)).timeRunOver.put Reg.TM_STAT.LOCKED 0).evrUnlocked).raise src 0x06 d else (s.chip.until (x + sec 1)).timeRunOver) := by
  change ∃ src d, execTimeSilence s = _
  unfold execTimeSilence
  dsimp only
  rw [h]
  dsimp only
  generalize s.chip.until (x + sec 1) = w
  exact ⟨_, _, rfl⟩

/-- TIME_SILENCE (R421). -/
theorem completes_timeSilence {x : Nat} (h : s.chip.tm.last = some x) :
    Completes .timeSilence s (fun t => t.now = max s.chip.now (x + 100000000) ∧ t.tm.run = 0 ∧ t.get Reg.TM_STAT.LOCKED = 0) := by
  obtain ⟨src, d, hexec⟩ := exec_timeSilence h
  have hnow : (s.chip.until (x + sec 1)).timeRunOver.now = max s.chip.now (x + 100000000) := until_sec ..
  have hrun : (s.chip.until (x + sec 1)).timeRunOver.tm.run = 0 := rfl
  rw [Completes, hexec]
  refine ⟨_, rfl, ?_⟩
  clear hexec
  generalize (s.chip.until (x + sec 1)).timeRunOver = u at hnow hrun ⊢
  split
  · have hk : TimeShows u (((u.put Reg.TM_STAT.LOCKED 0).evrUnlocked).raise src 0x06 d) 0 :=
      TimeKept.shows_put (by decide) (.trans (.of_within evrUnlocked_within) (raise_timeKept ..))
    exact ⟨by rw [raise_now, evrUnlocked_now]; exact hnow, by rw [hk.2.1]; exact hrun, hk.2.2⟩
  · rename_i hoff
    exact ⟨hnow, hrun, by simpa [Chip.on] using hoff⟩

/-- A frame on the wire, and the instant at which it was asked for. -/
theorem Chip.wired_asked (w : List Wire) (hp : p < u.ports.length) :
    (((u.wired p w).modPt p (fun r => { r with asked := u.now })).pt p).wire = w ∧ (((u.wired p w).modPt p (fun r => { r with asked := u.now })).pt p).asked = u.now := by
  have hlen : p < (u.wired p w).ports.length := by
    unfold Chip.wired Chip.modPt
    dsimp only
    rwa [modAt_length]
  have hwire : ((u.wired p w).pt p).wire = w := congrArg PortRt.wire (pt_modPt_same _ hp)
  rw [pt_modPt_same _ hlen]
  exact ⟨hwire, rfl⟩

theorem exec_pdelayInterval (t1 : Nat) (hon : s.chip.gptpOn p = true) (hsends : s.chip.portSends p = true) {v : Chip}
    (hv : v = s.chip.until ((s.chip.pt p).asked + sec 1)) :
    exec (.pdelayInterval p t1) s = s.become ((v.wired p [.gptp 2 t1]).modPt p (fun r => { r with asked := v.now })) := by
  change execPdelayInterval p t1 s = _
  unfold execPdelayInterval
  dsimp only
  rw [if_pos (by rw [hon, hsends]; rfl), ← hv]

theorem completes_pdelayReqRx (t2 t3 : Nat) (hp : p < s.chip.ports.length) (hon : s.chip.gptpOn p = true) (hsends : s.chip.portSends p = true) :
    Completes (.pdelayReqRx p t2 t3) s (fun t => (t.pt p).wire = [.gptp 3 t2, .gptp 0xA t3] ∧ t.regs = s.chip.regs) := by
  refine ⟨_, rfl, ?_⟩
  rw [if_pos (by rw [hon, hsends]; rfl)]
  exact ⟨congrArg PortRt.wire (pt_modPt_same _ hp), rfl⟩

theorem completes_pdelayInterval (t1 : Nat) (hp : p < s.chip.ports.length) (hon : s.chip.gptpOn p = true) (hsends : s.chip.portSends p = true) :
    Completes (.pdelayInterval p t1) s (fun t => t.now = max s.chip.now ((s.chip.pt p).asked + 100000000) ∧ (t.pt p).wire = [.gptp 2 t1] ∧ (t.pt p).asked = t.now) := by
  obtain ⟨v, hv⟩ : ∃ v : Chip, v = s.chip.until ((s.chip.pt p).asked + sec 1) := ⟨_, rfl⟩
  have hports : v.ports = s.chip.ports := by rw [hv]; exact until_ports ..
  have hnow : v.now = max s.chip.now ((s.chip.pt p).asked + 100000000) := by rw [hv]; exact until_sec _
  obtain ⟨hwire, hasked⟩ := wired_asked (u := v) [.gptp 2 t1] (hports ▸ hp)
  exact ⟨_, exec_pdelayInterval t1 hon hsends hv, hnow, hwire, hasked⟩

theorem completes_pdelayRespRx (delay : Nat) (hp : p < s.chip.ports.length) (hon : s.chip.gptpOn p = true) :
    Completes (.pdelayRespRx p delay) s (fun t => (t.pt p).delay = delay ∧ ((t.pt p).asCapable = true ↔ delay ≤ 800) ∧
      (s.chip.get (Reg.PORT_STAT.GP_SLAVE (portPage p)) = 1 → (t.get Reg.TM_STAT.AS_CAPABLE = 1 ↔ delay ≤ 800))) := by
  set u := s.chip.modPt p (fun r => { r with delay := delay, asCapable := decide (delay ≤ 800) }) with hu
  have hpt : u.pt p = { s.chip.pt p with delay := delay, asCapable := decide (delay ≤ 800) } := pt_modPt_same _ hp
  refine ⟨if u.on (Reg.PORT_STAT.GP_SLAVE (portPage p)) then u.put Reg.TM_STAT.AS_CAPABLE (lvl (decide (delay ≤ 800))) else u, if_pos hon, ?_⟩
  have hkeep : (if u.on (Reg.PORT_STAT.GP_SLAVE (portPage p)) then u.put Reg.TM_STAT.AS_CAPABLE (lvl (decide (delay ≤ 800))) else u).pt p = u.pt p := by
    split <;> rfl
  refine ⟨by rw [hkeep, hpt], by rw [hkeep, hpt]; exact decide_eq_true_iff, fun hslave => ?_⟩
  rw [if_pos (on_of_one (show u.get _ = 1 from hslave)), get_put_same]
  by_cases hd : delay ≤ 800
  · simp [hd, lvl, Reg.TM_STAT.AS_CAPABLE]
  · simp [hd, lvl]

end
end Sys2Proof.Machine
end

section
/-!
PROOFS. Sequence recovery of a stream (14 R418), and the time of the ports as a whole.
-/
namespace Sys2Proof.Machine
open Chip

/-! ### Sequence recovery -/

/-- The distance of a sequence number from the last one, as 802.1CB counts it. -/
def CbStream.delta (x : CbStream) (n : Nat) : Int := signed 16 ((n + 65536 - x.seq) % 65536)

theorem CbStream.recover_far {x : CbStream} {hist n now : Nat} (hany : x.any = false) (h : (hist : Int) ≤ x.delta n ∨ x.delta n ≤ -(hist : Int)) :
    x.recover hist n now = (false, x) := by
  unfold CbStream.recover
  rw [hany]
  exact if_pos h

/-- A number within the history passes exactly if it has not come yet. -/
theorem CbStream.recover_old {x : CbStream} {hist n now k : Nat} (hany : x.any = false) (hd : x.delta n = -(k : Int)) (hk : k < hist) :
    (x.recover hist n now).1 = !x.hist.testBit k := by
  unfold CbStream.recover
  rw [hany]
  unfold CbStream.delta at hd
  simp only [Bool.false_eq_true, if_false, hd]
  rw [if_neg (by omega), if_pos (by omega)]
  have : (- -(k : Int)).toNat = k := by omega
  rw [this]
  cases h : x.hist.testBit k <;> simp

/-- A number ahead of the last one and within the history passes, and becomes the last one. -/
theorem CbStream.recover_new {x : CbStream} {hist n now : Nat} (hany : x.any = false) (h0 : 0 < x.delta n) (h : x.delta n < hist) :
    (x.recover hist n now).1 = true ∧ (x.recover hist n now).2.seq = n := by
  unfold CbStream.recover
  rw [hany]
  unfold CbStream.delta at h0 h
  simp only [Bool.false_eq_true, if_false]
  rw [if_neg (by omega), if_neg (by omega)]
  exact ⟨rfl, rfl⟩

theorem CbStream.delta_ahead {x : CbStream} {k : Nat} (hseq : x.seq < 65536) (hk : k < 32768) : x.delta ((x.seq + k) % 65536) = k := by
  unfold CbStream.delta signed
  rw [show ((x.seq + k) % 65536 + 65536 - x.seq) % 65536 = k by omega]
  rw [if_pos (by omega)]
  omega

theorem CbStream.delta_behind {x : CbStream} {k : Nat} (hseq : x.seq < 65536) (hk : 0 < k) (hk' : k ≤ 32768) : x.delta ((x.seq + 65536 - k) % 65536) = -(k : Int) := by
  unfold CbStream.delta signed
  rw [show ((x.seq + 65536 - k) % 65536 + 65536 - x.seq) % 65536 = 65536 - k by omega]
  rw [if_neg (by omega)]
  omega

theorem CbStream.recover_numbers (x : CbStream) (hist now : Nat) (h2 : 2 ≤ hist) (h32 : hist ≤ 32) (hany : x.any = false) (hseq : x.seq < 65536) (h0 : x.hist.testBit 0 = true) :
    (x.recover hist x.seq now).1 = false ∧ (x.recover hist ((x.seq + 1) % 65536) now).1 = true ∧ (x.recover hist ((x.seq + 1) % 65536) now).2.seq = (x.seq + 1) % 65536 ∧
    (∀ k, k < hist → (x.recover hist ((x.seq + 65536 - k) % 65536) now).1 = !x.hist.testBit k) ∧
    (∀ k, hist ≤ k → k ≤ 65536 - hist → (x.recover hist ((x.seq + k) % 65536) now) = (false, x)) ∧
    ∀ n, ({ x with any := true } : CbStream).recover hist n now = (true, { x with any := false, seq := n, hist := 1, last := now }) := by
  have hlast : ∀ n, n = x.seq → (x.recover hist n now).1 = !x.hist.testBit 0 := fun n hn => by
    refine recover_old (k := 0) hany ?_ (by omega)
    have := delta_ahead (x := x) (k := 0) hseq (by omega)
    rw [Nat.add_zero, Nat.mod_eq_of_lt hseq] at this
    rw [hn, this]
    rfl
  have h1 := delta_ahead (x := x) (k := 1) hseq (by omega)
  obtain ⟨hpass, hnew⟩ := recover_new (hist := hist) (now := now) hany (n := (x.seq + 1) % 65536) (by rw [h1]; decide) (by rw [h1]; omega)
  refine ⟨by rw [hlast _ rfl, h0]; rfl, hpass, hnew, fun k hk => ?_, fun k hk hk' => recover_far hany ?_, fun n => rfl⟩
  · rcases Nat.eq_zero_or_pos k with rfl | hpos
    · exact hlast _ (by omega)
    · exact recover_old hany (delta_behind hseq hpos (by omega)) hk
  · by_cases hhalf : k < 32768
    · rw [delta_ahead hseq hhalf]
      omega
    · have hb := delta_behind (x := x) (k := 65536 - k) hseq (by omega) (by omega)
      rw [show x.seq + 65536 - (65536 - k) = x.seq + k by omega] at hb
      rw [hb]
      omega

/-- The histories of the streams with a key are reset. -/
def cbReset (l : List CbStream) (key : Nat) : List CbStream := l.map (fun y => if y.key = key then { y with any := true, hist := 0 } else y)

theorem cbReset_streams (l : List CbStream) (key : Nat) : (∀ x ∈ cbReset l key, x.key = key → x.any = true) ∧ (cbReset l key).length = l.length ∧
    ∀ x ∈ cbReset l key, x.key ≠ key → x ∈ l := by
  unfold cbReset
  simp only [List.mem_map, List.length_map, true_and, forall_exists_index, and_imp]
  refine ⟨?_, ?_⟩
  · rintro _ y - rfl
    split
    · exact fun _ => rfl
    · exact fun h => absurd h ‹_›
  · rintro _ y hy rfl
    split
    · exact fun h => absurd ‹y.key = key› h
    · exact fun _ => hy

/-- CB_RESET_TIMER (R418). -/
theorem completes_cbResetTimer (key : Nat) (s : State) (h : ∃ x ∈ s.chip.cb, x.key = key) : Completes (.cbResetTimer key) s (fun t =>
    (∀ x ∈ t.cb, x.key = key → x.any = true) ∧ t.cb.length = s.chip.cb.length ∧ (∀ x ∈ t.cb, x.key ≠ key → x ∈ s.chip.cb) ∧ t.regs = s.chip.regs ∧ s.chip.now ≤ t.now) := by
  obtain ⟨x, hx, hkey⟩ := h
  obtain ⟨y, hy⟩ : ∃ y, s.chip.cb.find? (fun x => x.key == key) = some y := by
    rw [← Option.isSome_iff_exists, List.find?_isSome]
    exact ⟨x, hx, by simp [hkey]⟩
  obtain ⟨n, hexec⟩ : ∃ n, exec (.cbResetTimer key) s = s.become { s.chip.until n with cb := cbReset s.chip.cb key } := by
    change ∃ n, execCbResetTimer key s = _
    unfold execCbResetTimer
    dsimp only
    rw [hy]
    exact ⟨_, rfl⟩
  obtain ⟨hany, hlen, hother⟩ := cbReset_streams s.chip.cb key
  exact ⟨_, hexec, hany, hlen, hother, until_regs s.chip n, (until_now s.chip n).ge.trans' (Nat.le_max_left _ _)⟩

/-- GPTP_SYNC_RX (R420, R424). -/
theorem completes_gptpSyncRx (p station stamp ppb : Nat) (s : State) :
    (let follows := s.chip.gptpOn p = true ∧ s.chip.get (Reg.PORT_STAT.GP_SLAVE (portPage p)) = 1 ∧ s.chip.get Reg.TM_CFG.SRC = 0
     Completes (.gptpSyncRx p station stamp ppb) s (fun t =>
      (follows → t = s.chip.timeMeasured p (pattern 64 ((station : Int) - 10 * (stamp : Int))) (some ppb)) ∧ (¬ follows → t = s.chip))) := by
  intro follows
  have hcond : (s.chip.gptpOn p && s.chip.on (Reg.PORT_STAT.GP_SLAVE (portPage p)) && s.chip.get Reg.TM_CFG.SRC == 0) = true ↔ follows := by
    simp only [Bool.and_eq_true, beq_iff_eq, and_assoc, follows]
    exact and_congr_right fun _ => and_congr_left fun _ => ⟨one_of_on rfl, on_of_one⟩
  change ∃ u, execGptpSyncRx p station stamp ppb s = _ ∧ _
  unfold execGptpSyncRx
  dsimp only
  by_cases h : follows
  · rw [if_pos (hcond.2 h)]
    exact ⟨_, rfl, fun _ => rfl, fun h' => absurd h h'⟩
  · rw [if_neg (mt hcond.1 h)]
    exact ⟨_, rfl, fun h' => absurd h' h, fun _ => rfl⟩

theorem exec_timeBeaconRx_ignored {p : Nat} {s : State} (h : beaconPort (s.chip.get Reg.TM_CFG.SRC) ≠ some p ∨ s.chip.portClass p ≠ 0) (cap : Nat) (b : List Byte) :
    exec (.timeBeaconRx p cap b) s = s.become s.chip := by
  change execTimeBeaconRx p cap b s = _
  unfold execTimeBeaconRx
  exact if_neg (fun hc => h.elim (fun h => h hc.1) (fun h => h hc.2.1))

theorem exec_timeSilence_none {s : State} (h : s.chip.tm.last = none) : exec .timeSilence s = s.become s.chip := by
  change execTimeSilence s = _
  unfold execTimeSilence
  dsimp only
  rw [h]

theorem exec_pdelay_off {p a b c : Nat} {s : State} (h : s.chip.gptpOn p = false) : exec (.pdelayReqRx p a b) s = s.become s.chip ∧
    exec (.pdelayInterval p a) s = s.become s.chip ∧ exec (.pdelayRespRx p c) s = s.become s.chip := by
  refine ⟨congrArg s.become (if_neg ?_), if_neg ?_, if_neg ?_⟩ <;> simp [h]

theorem exec_cbResetTimer_none {key : Nat} {s : State} (h : ∀ x ∈ s.chip.cb, x.key ≠ key) : exec (.cbResetTimer key) s = s.become s.chip := by
  have hfind : s.chip.cb.find? (fun x => x.key == key) = none := by
    rw [List.find?_eq_none]
    exact fun x hx => by simpa using h x hx
  change execCbResetTimer key s = _
  unfold execCbResetTimer
  dsimp only
  rw [hfind]

/-- Settles O43: measurements, the slave port, beacons, silence, Pdelay and sequence recovery. -/
theorem portTime : Obligations.PortTime := by
  unfold Obligations.PortTime
  refine ⟨fun u p off ppb hp hoff => timeMeasured_shows ppb hp hoff, completes_gptpSyncRx,
    fun p cap b s hport hp hclass hver hnet => completes_timeBeaconRx cap b hport hp hclass hver hnet,
    fun p s h cap b => ⟨_, exec_timeBeaconRx_ignored h cap b, rfl⟩, fun x s h => completes_timeSilence h, fun s h => ⟨_, exec_timeSilence_none h, rfl⟩,
    fun p m s hp => completes_announceRx m s hp,
    fun p t1 t2 t3 s hp hon hsends => ⟨completes_pdelayReqRx t2 t3 hp hon hsends, completes_pdelayInterval t1 hp hon hsends⟩,
    fun p delay s hp hon => completes_pdelayRespRx delay hp hon, fun p a b c s h => ?_, fun x hist now => x.recover_numbers hist now,
    completes_cbResetTimer, fun key s h => ⟨_, exec_cbResetTimer_none h, rfl⟩⟩
  obtain ⟨h1, h2, h3⟩ := exec_pdelay_off (a := a) (b := b) (c := c) h
  exact ⟨⟨_, h1, rfl⟩, ⟨_, h2, rfl⟩, ⟨_, h3, rfl⟩⟩

end Sys2Proof.Machine
end

section
/-!
PROOFS. How records enter the Carafe (17 R487 to R491): what an entry stores, and what it leaves of the recorder.
-/
namespace Sys2Proof.Machine
open Chip

/-! ### Association lists -/

theorem find_assocPut_same {α : Type} (l : List (Nat × α)) (k : Nat) (v : α) : (assocPut l k v).find? (fun e => e.1 == k) = some (k, v) := by
  induction l with
  | nil => simp [assocPut]
  | cons e l ih =>
    obtain ⟨a, w⟩ := e
    unfold assocPut
    split
    · simp
    · split
      · simp
      · rename_i hne _
        rw [List.find?_cons_of_neg (by simpa using Ne.symm hne), ih]

theorem find_assocPut_ne {α : Type} (l : List (Nat × α)) {k j : Nat} (v : α) (h : j ≠ k) :
    (assocPut l k v).find? (fun e => e.1 == j) = l.find? (fun e => e.1 == j) := by
  induction l with
  | nil => simp [assocPut, Ne.symm h]
  | cons e l ih =>
    obtain ⟨a, w⟩ := e
    unfold assocPut
    split
    · rename_i hk
      subst hk
      rw [List.find?_cons_of_neg (by simpa using Ne.symm h), List.find?_cons_of_neg (by simpa using Ne.symm h)]
    · split
      · rw [List.find?_cons_of_neg (by simpa using Ne.symm h)]
      · by_cases ha : a = j
        · rw [List.find?_cons_of_pos (by simpa using ha), List.find?_cons_of_pos (by simpa using ha)]
        · rw [List.find?_cons_of_neg (by simpa using ha), List.find?_cons_of_neg (by simpa using ha), ih]

/-! ### What record entry leaves -/

/-- A register field of the recorder or of another block that no record entry changes: all but PEND, STATE, the latches of the recorder's
page, BLK_STAT and the fields of event intake. -/
def Fld.entryKeeps (f : Fld) : Bool :=
  decide (f.lo < 32 ∧ 0x40000000 ≤ f.addr ∧ f.addr % 0x1000 ≠ 0xC ∧ f.addr / 0x100000 ≠ 0x409 ∧ f.addr ≠ 0x44500010) &&
    f.key != Reg.EVR_CF.PEND.key && f.key != Reg.EVR_STAT.STATE.key

/-- The recorder without the Carafe's slots, the triggers, the Spillway's counts and the freeze. -/
def Recorder.base (r : Recorder) : Recorder :=
  { r with carafe := [], spill := none, half := false, trig := false, trigFault := false, frozenAt := none }

/-- The Carafe slot of place `i` behind HEAD. -/
def Chip.carafeAt (u : Chip) (i : Nat) : Option (Nat × Rec) := u.evr.carafe.find? (fun x => x.1 == (u.get Reg.EVR_CF.HEAD + i) % 4096)

/-- The records that stand in the Carafe stay where they are. -/
structure CarafeKept (u t : Chip) : Prop where
  head : t.get Reg.EVR_CF.HEAD = u.get Reg.EVR_CF.HEAD
  pend : u.get Reg.EVR_CF.PEND ≤ t.get Reg.EVR_CF.PEND
  slots : ∀ i < u.get Reg.EVR_CF.PEND, i < 4096 → t.carafeAt i = u.carafeAt i

/-- What every record entry keeps: registers, latched interrupts, the records before it and the recorder's other state. -/
structure Grows (u t : Chip) : Prop where
  regs : ∀ f : Fld, f.entryKeeps = true → t.get f = u.get f
  raw : ∀ b < 31, (u.get (Reg.IRQ.RAW evrPage)).testBit b = true → (t.get (Reg.IRQ.RAW evrPage)).testBit b = true
  pend : u.get Reg.EVR_CF.PEND ≤ t.get Reg.EVR_CF.PEND
  slots : ∀ i < u.get Reg.EVR_CF.PEND, i < 4096 → t.carafeAt i = u.carafeAt i
  base : t.evr.base = u.evr.base

variable {u t v : Chip}

theorem Grows.rfl : Grows u u := ⟨fun _ _ => .refl _, fun _ _ h => h, le_rfl, fun _ _ _ => .refl _, .refl _⟩

theorem Grows.trans (h1 : Grows u v) (h2 : Grows v t) : Grows u t where
  regs f hf := (h2.regs f hf).trans (h1.regs f hf)
  raw b hb h := h2.raw b hb (h1.raw b hb h)
  pend := h1.pend.trans h2.pend
  slots i hi h4 := (h2.slots i (hi.trans_le h1.pend) h4).trans (h1.slots i hi h4)
  base := h2.base.trans h1.base

theorem Fld.entryKeeps_iff {f : Fld} : f.entryKeeps = true ↔ (f.lo < 32 ∧ 0x40000000 ≤ f.addr ∧ f.addr % 0x1000 ≠ 0xC ∧ f.addr / 0x100000 ≠ 0x409 ∧
    f.addr ≠ 0x44500010) ∧ f.key ≠ Reg.EVR_CF.PEND.key ∧ f.key ≠ Reg.EVR_STAT.STATE.key := by
  unfold Fld.entryKeeps
  simp only [Bool.and_eq_true, decide_eq_true_eq, bne_iff_ne, and_assoc]

theorem Grows.head (h : Grows u t) : t.get Reg.EVR_CF.HEAD = u.get Reg.EVR_CF.HEAD := h.regs _ (by decide)

theorem Grows.kept (h : Grows u t) : CarafeKept u t := ⟨h.head, h.pend, h.slots⟩

theorem CarafeKept.trans (h1 : CarafeKept u v) (h2 : CarafeKept v t) : CarafeKept u t :=
  ⟨h2.head.trans h1.head, h1.pend.trans h2.pend, fun i hi h4 => (h2.slots i (hi.trans_le h1.pend) h4).trans (h1.slots i hi h4)⟩

theorem CarafeKept.of_eq (hh : t.get Reg.EVR_CF.HEAD = u.get Reg.EVR_CF.HEAD) (hp : t.get Reg.EVR_CF.PEND = u.get Reg.EVR_CF.PEND) (hc : t.evr.carafe = u.evr.carafe) :
    CarafeKept u t := ⟨hh, hp.ge, fun i _ _ => by unfold Chip.carafeAt; rw [hc, hh]⟩

/-- What event intake takes or loses is no matter of the recorder. -/
theorem Grows.of_log (h : Within ⟨frLog, some [0x409]⟩ u t) : Grows u t := by
  have hget : ∀ f : Fld, f.lo < 32 → 0x40000000 ≤ f.addr → f.addr % 0x1000 ≠ 0xC → f.addr / 0x100000 ≠ 0x409 → t.get f = u.get f :=
    fun f hlo h4 hstat h9 => h.regs f hlo h4 hstat (by simpa [Scope.covers] using h9)
  have hevr : t.evr = u.evr := h.same .evr (by decide)
  have hhead := hget Reg.EVR_CF.HEAD (by decide) (by decide) (by decide) (by decide)
  have hpend := hget Reg.EVR_CF.PEND (by decide) (by decide) (by decide) (by decide)
  refine ⟨fun f hf => ?_, fun b _ hb => ?_, hpend.ge, fun i _ _ => ?_, by rw [hevr]⟩
  · obtain ⟨⟨h1, h2, h3, h4, -⟩, -, -⟩ := Fld.entryKeeps_iff.1 hf
    exact hget f h1 h2 h3 h4
  · rwa [hget _ (by decide) (by decide) (by decide) (by decide)]
  · unfold Chip.carafeAt
    rw [hevr, hhead]

/-- A change of the recorder's state that keeps the Carafe. -/
theorem Grows.of_evr {e : Recorder} (hc : e.carafe = u.evr.carafe) (hb : e.base = u.evr.base) : Grows u { u with evr := e } :=
  ⟨fun _ _ => .refl _, fun _ _ h => h, le_rfl, fun _ _ _ => by unfold Chip.carafeAt; dsimp only; rw [hc]; rfl, hb⟩

theorem Grows.of_put {x : Nat} : Grows u (u.put Reg.EVR_STAT.STATE x) := by
  have hget : ∀ f : Fld, f.key ≠ Reg.EVR_STAT.STATE.key → (u.put Reg.EVR_STAT.STATE x).get f = u.get f := fun f hf => get_put_ne _ _ _ _ hf.symm
  refine ⟨fun f hf => hget f (Fld.entryKeeps_iff.1 hf).2.2, fun b _ hb => ?_, (hget _ (by decide)).ge, fun i _ _ => ?_, .refl _⟩
  · rwa [hget _ (by decide)]
  · unfold Chip.carafeAt
    rw [hget _ (by decide)]
    rfl

theorem Chip.irq_evr_get (f : Fld) (b : Nat) (hlo : f.lo < 32) (ha : f.addr ≠ 0x44500010) : (u.irq evrPage b).get f = u.get f :=
  get_irq _ _ _ _ hlo ha

theorem Grows.of_irq {b : Nat} : Grows u (u.irq evrPage b) := by
  refine ⟨fun f hf => ?_, fun k hk hb => ?_, (irq_evr_get _ _ (by decide) (by decide)).ge, fun i _ _ => ?_, by rw [irq_evr]⟩
  · obtain ⟨⟨h1, -, -, -, h5⟩, -, -⟩ := Fld.entryKeeps_iff.1 hf
    exact irq_evr_get f b h1 h5
  · rw [testBit_irq _ _ _ _ hk, hb, Bool.true_or]
  · unfold Chip.carafeAt
    rw [irq_evr, irq_evr_get _ _ (by decide) (by decide)]

/-! ### An event takes a slot -/

/-- The record that an event becomes. -/
def Chip.recOf (u : Chip) (e : Ev) : Rec :=
  { ev := e, time := (e.stamp * 10 + u.get Reg.EVR_CALOFF.VAL) % 2 ^ 64, tsrc := u.get Reg.EVR_STAT.TSRC }

/-- The recorder with an event in the next slot. -/
def Chip.evrWith (u : Chip) (e : Ev) : Recorder :=
  let v := u.evr
  let sp := v.spill.map (fun p => if p.closed then p else { p with entered := p.entered + 1, closed := decide (4096 ≤ p.entered + 1) })
  { v with carafe := assocPut v.carafe ((u.get Reg.EVR_CF.HEAD + u.get Reg.EVR_CF.PEND) % 4096) (u.recOf e), spill := sp,
           half := v.half || (u.get Reg.EVR_CF.PEND + 1 == 2048) }

theorem Chip.evrStore_room (e : Ev) (h : u.get Reg.EVR_CF.PEND < 4096) :
    u.evrStore e = ({ u with evr := u.evrWith e } : Chip).put Reg.EVR_CF.PEND (u.get Reg.EVR_CF.PEND + 1) := by
  unfold Chip.evrStore
  dsimp only
  rw [if_neg (by omega)]
  rfl

theorem Chip.evrStore_full (e : Ev) (h : 4096 ≤ u.get Reg.EVR_CF.PEND) : u.evrStore e = u.eventLost e.src e.stamp := by
  unfold Chip.evrStore
  dsimp only
  rw [if_pos h]

theorem Chip.evrStore_get (e : Ev) {f : Fld} (hf : f.key ≠ Reg.EVR_CF.PEND.key) (hlo : f.lo < 32) (h4 : 0x40000000 ≤ f.addr) (hstat : f.addr % 0x1000 ≠ 0xC)
    (h9 : f.addr / 0x100000 ≠ 0x409) : (u.evrStore e).get f = u.get f := by
  by_cases h : u.get Reg.EVR_CF.PEND < 4096
  · rw [evrStore_room e h, get_put_ne _ _ _ _ hf.symm]
    rfl
  · rw [evrStore_full e (by omega)]
    exact eventLost_within.regs f hlo h4 hstat (by simpa [Scope.covers] using h9)

theorem Chip.evrStore_pend (e : Ev) (h : u.get Reg.EVR_CF.PEND < 4096) : (u.evrStore e).get Reg.EVR_CF.PEND = u.get Reg.EVR_CF.PEND + 1 := by
  rw [evrStore_room e h, get_put_same]
  exact Nat.mod_eq_of_lt (by change _ < 8192; omega)

theorem Chip.evrStore_evr (e : Ev) (h : u.get Reg.EVR_CF.PEND < 4096) : (u.evrStore e).evr = u.evrWith e := by
  rw [evrStore_room e h]
  rfl

theorem Chip.evrStore_grows (e : Ev) : Grows u (u.evrStore e) := by
  by_cases h : u.get Reg.EVR_CF.PEND < 4096
  swap
  · rw [evrStore_full e (by omega)]
    exact .of_log eventLost_within
  refine ⟨fun f hf => ?_, fun b _ hb => ?_, by rw [evrStore_pend e h]; omega, fun i hi h4 => ?_, by rw [evrStore_evr e h]; rfl⟩
  · obtain ⟨⟨h1, h2, h3, h4, -⟩, h6, -⟩ := Fld.entryKeeps_iff.1 hf
    exact evrStore_get e h6 h1 h2 h3 h4
  · rwa [evrStore_get e (by decide) (by decide) (by decide) (by decide) (by decide)]
  · unfold Chip.carafeAt
    rw [evrStore_evr e h, evrStore_get e (by decide) (by decide) (by decide) (by decide) (by decide)]
    exact find_assocPut_ne _ _ (by omega)

/-- The event has taken the slot behind the pending ones. -/
theorem Chip.evrStore_slot (e : Ev) (h : u.get Reg.EVR_CF.PEND < 4096) :
    (u.evrStore e).carafeAt (u.get Reg.EVR_CF.PEND) = some ((u.get Reg.EVR_CF.HEAD + u.get Reg.EVR_CF.PEND) % 4096, u.recOf e) := by
  unfold Chip.carafeAt
  rw [evrStore_evr e h, evrStore_get e (by decide) (by decide) (by decide) (by decide) (by decide)]
  exact find_assocPut_same ..

/-! ### Triggers and the freeze -/

theorem Chip.evrTrigger_regs (fault : Bool) : (u.evrTrigger fault).regs = u.regs := by
  unfold Chip.evrTrigger
  split <;> rfl

theorem Chip.evrTrigger_get (fault : Bool) (f : Fld) : (u.evrTrigger fault).get f = u.get f := congrArg f.read (evrTrigger_regs fault)

/-- A trigger acts in RUN, FROZEN and SPILL (R492). -/
theorem Chip.evrTrigger_evr (fault : Bool) : (u.evrTrigger fault).evr =
    if u.get Reg.EVR_STAT.STATE = 2 ∨ u.get Reg.EVR_STAT.STATE = 3 ∨ u.get Reg.EVR_STAT.STATE = 4 then
      { u.evr with trig := true, trigFault := u.evr.trigFault || fault } else u.evr := by
  unfold Chip.evrTrigger Chip.evrState
  split <;> rfl

theorem Chip.evrTrigger_grows (fault : Bool) : Grows u (u.evrTrigger fault) := by
  unfold Chip.evrTrigger
  split
  · exact .of_evr rfl rfl
  · exact .rfl

theorem Chip.evrPlace_grows (e : Ev) : Grows u (u.evrPlace e) := by
  unfold Chip.evrPlace
  split
  · exact (evrStore_grows e).trans (evrTrigger_grows _)
  · exact evrStore_grows e

theorem Chip.evrPlace_get (e : Ev) (f : Fld) : (u.evrPlace e).get f = (u.evrStore e).get f := by
  unfold Chip.evrPlace
  split
  · exact evrTrigger_get ..
  · rfl

theorem Chip.evrPlace_state (e : Ev) : (u.evrPlace e).get Reg.EVR_STAT.STATE = u.get Reg.EVR_STAT.STATE := by
  rw [evrPlace_get, evrStore_get e (by decide) (by decide) (by decide) (by decide) (by decide)]

theorem Chip.evrPlace_slot (e : Ev) (h : u.get Reg.EVR_CF.PEND < 4096) :
    (u.evrPlace e).carafeAt (u.get Reg.EVR_CF.PEND) = some ((u.get Reg.EVR_CF.HEAD + u.get Reg.EVR_CF.PEND) % 4096, u.recOf e) := by
  rw [← evrStore_slot e h]
  unfold Chip.evrPlace
  split
  · exact (evrTrigger_grows _).slots _ (by rw [evrStore_pend e h]; omega) h
  · rfl

theorem Chip.evrLift_grows (reason : Nat) : Grows u (u.evrLift reason) := by
  unfold Chip.evrLift
  split
  · extract_lets d _ v e
    have hv : Grows u v := (Grows.of_evr (e := { u.evr with frozenAt := none }) rfl rfl).trans .of_put
    exact hv.trans ((evrPlace_grows e).trans .of_irq)
  · exact .rfl

theorem Chip.evrLift_none {reason : Nat} (h : u.get Reg.EVR_STAT.STATE ≠ 3) : u.evrLift reason = u := if_neg h

/-- The recorder back in RUN. -/
def Chip.thawed (u : Chip) : Chip := ({ u with evr := { u.evr with frozenAt := none } } : Chip).put Reg.EVR_STAT.STATE 2

theorem Chip.thawed_grows (u : Chip) : Grows u u.thawed := (Grows.of_evr (e := { u.evr with frozenAt := none }) rfl rfl).trans .of_put

theorem Chip.thawed_state (u : Chip) : u.thawed.get Reg.EVR_STAT.STATE = 2 := get_put_same ..

theorem Chip.thawed_get (u : Chip) {f : Fld} (hf : Reg.EVR_STAT.STATE.key ≠ f.key) : u.thawed.get f = u.get f := get_put_ne _ _ _ _ hf

theorem Chip.thawed_evr (u : Chip) : u.thawed.evr = { u.evr with frozenAt := none } := rfl

/-- The freeze is over, with a record of its own and its interrupt. -/
theorem Chip.evrLift_frozen {reason : Nat} (h : u.get Reg.EVR_STAT.STATE = 3) : ∃ (d : Nat), u.evrLift reason =
    (u.thawed.evrPlace { src := 101, code := 0x04, data := [reason, d, u.thawed.get Reg.EVR_CF.PEND], stamp := u.thawed.weirTime, inj := false }).irq evrPage 2 :=
  ⟨_, if_pos h⟩

/-! ### Record entry -/

theorem Chip.evrEnter_grows (e : Ev) : Grows u (u.evrEnter e) := by
  unfold Chip.evrEnter
  dsimp only
  split
  · exact (evrPlace_grows e).trans (evrLift_grows 1)
  · exact evrPlace_grows e

theorem Chip.evrEnter_plain (e : Ev) (h : u.get Reg.EVR_STAT.STATE ≠ 3 ∨ u.get Reg.EVR_CF.PEND ≠ 3686) : u.evrEnter e = u.evrPlace e := by
  unfold Chip.evrEnter
  dsimp only
  split
  · rename_i hp
    refine evrLift_none ?_
    rw [evrPlace_state]
    rcases h with h | h
    · exact h
    · rw [evrPlace_get, evrStore_pend e (by omega)] at hp
      omega
  · rfl

/-- The event has taken its slot, and whatever follows keeps it there. -/
theorem Chip.evrEnter_slot (e : Ev) (h : u.get Reg.EVR_CF.PEND < 4096) :
    (u.evrEnter e).carafeAt (u.get Reg.EVR_CF.PEND) = some ((u.get Reg.EVR_CF.HEAD + u.get Reg.EVR_CF.PEND) % 4096, u.recOf e) := by
  rw [← evrPlace_slot e h]
  unfold Chip.evrEnter
  dsimp only
  split
  · exact (evrLift_grows 1).slots _ (by rw [evrPlace_get, evrStore_pend e h]; omega) h
  · rfl

theorem Chip.evrEnter_state (e : Ev) (h : u.get Reg.EVR_STAT.STATE ≠ 3 ∨ u.get Reg.EVR_CF.PEND ≠ 3686) :
    (u.evrEnter e).get Reg.EVR_STAT.STATE = u.get Reg.EVR_STAT.STATE := by
  rw [evrEnter_plain e h, evrPlace_state]

/-! ### The recorder's own records (Table 17.6) -/

theorem Chip.evrOwn_grows (code : Nat) (data : List Nat) : Grows u (u.evrOwn code data) := evrEnter_grows _

theorem Chip.evrOwn_state (code : Nat) (data : List Nat) (h : u.get Reg.EVR_STAT.STATE ≠ 3 ∨ u.get Reg.EVR_CF.PEND ≠ 3686) :
    (u.evrOwn code data).get Reg.EVR_STAT.STATE = u.get Reg.EVR_STAT.STATE := evrEnter_state _ h

/-- A record of the recorder's own with these data stands at place `i` behind HEAD. -/
def Chip.OwnAt (t : Chip) (slot code : Nat) (data : List Nat) : Prop :=
  ∃ r, t.evr.carafe.find? (fun x => x.1 == slot) = some (slot, r) ∧ r.ev.src = 101 ∧ r.ev.code = code ∧ r.ev.data = data

/-- The recorder's own record takes the next slot; later record entries keep it. -/
theorem Chip.evrOwn_at (code : Nat) (data : List Nat) (h : u.get Reg.EVR_CF.PEND < 4096) (hg : CarafeKept (u.evrOwn code data) t) :
    t.OwnAt ((u.get Reg.EVR_CF.HEAD + u.get Reg.EVR_CF.PEND) % 4096) code data := by
  have hslot := evrEnter_slot (u := u) { src := 101, code := code, data := data, stamp := u.weirTime, inj := false } h
  have hpend : u.get Reg.EVR_CF.PEND < (u.evrOwn code data).get Reg.EVR_CF.PEND := by
    unfold Chip.evrOwn Chip.evrEnter
    dsimp only
    have hp := evrStore_pend (u := u) { src := 101, code := code, data := data, stamp := u.weirTime, inj := false } h
    split
    · refine Nat.lt_of_lt_of_le ?_ (evrLift_grows 1).pend
      rw [evrPlace_get, hp]
      omega
    · rw [evrPlace_get, hp]
      omega
  have hkept := (hg.slots _ hpend h).trans hslot
  unfold Chip.carafeAt at hkept
  rw [hg.head, (evrOwn_grows code data).head] at hkept
  exact ⟨_, hkept, rfl, rfl, rfl⟩

end Sys2Proof.Machine
end

section
/-!
PROOFS. The recorder's commands: freeze, format, the Spillway, reading the log and clearing Eddy (17 R498 to R507).
-/
namespace Sys2Proof.Machine
open Chip

section
variable {s : State} {u t : Chip}

/-! ### What stays of the recorder's state -/

theorem Grows.logs (h : Grows u t) : t.log = u.log := by
  have hlogs : t.evr.base.logs = u.evr.base.logs := by rw [h.base]
  have hlba : t.evr.base.lba = u.evr.base.lba := by rw [h.base]
  change t.evr.logs = u.evr.logs at hlogs
  change t.evr.lba = u.evr.lba at hlba
  unfold Chip.log
  rw [hlogs, hlba]

theorem Grows.clear (h : Grows u t) : t.evr.clear = u.evr.clear := by
  have hc : t.evr.base.clear = u.evr.base.clear := by rw [h.base]
  exact hc

theorem Grows.of_answer {r : BusResp} : Grows u (u.answer r) := ⟨fun _ _ => .refl _, fun _ _ h => h, le_rfl, fun _ _ _ => .refl _, .refl _⟩

theorem Chip.evrStore_frozenAt (e : Ev) : (u.evrStore e).evr.frozenAt = u.evr.frozenAt := by
  by_cases h : u.get Reg.EVR_CF.PEND < 4096
  · rw [evrStore_evr e h]
    rfl
  · rw [evrStore_full e (by omega), eventLost_within.same .evr (by decide)]

/-- Without the fill limit of a freeze a record entry leaves the freeze alone. -/
theorem Chip.evrOwn_frozenAt (code : Nat) (data : List Nat) (h : u.get Reg.EVR_STAT.STATE ≠ 3 ∨ u.get Reg.EVR_CF.PEND ≠ 3686) :
    (u.evrOwn code data).evr.frozenAt = u.evr.frozenAt := by
  unfold Chip.evrOwn
  rw [evrEnter_plain _ h]
  unfold Chip.evrPlace
  split
  · rw [evrTrigger_evr, ← evrStore_frozenAt]
    split <;> rfl
  · exact evrStore_frozenAt _

theorem Chip.log_modLog (g : EmmcLog → EmmcLog) : (u.modLog g).log = g u.log := assoc_assocPut ..

/-! ### FREEZE, UNFREEZE, FLUSH, FORMAT (R498, R499) -/

/-- A command that the recorder does not take (Table 17.9). -/
theorem Chip.evrIgnore_kept : u.evrIgnore.get Reg.EVR_STAT.CMD_ERR = 1 ∧ u.evrIgnore.get Reg.EVR_STAT.STATE = u.get Reg.EVR_STAT.STATE ∧ u.evrIgnore.evr = u.evr :=
  ⟨get_put_same .., get_put_ne _ _ _ _ (by decide), rfl⟩

/-- A command register write reaches the recorder. -/
theorem completes_evrCommand {i : Instr} {v : Nat} {g : Chip} {P : Chip → Prop} (hatt : s.chip.attends 0x4450004C = true)
    (hexec : exec i s = s.become (s.chip.access 0x4450004C true (fun u => u.evrCommand v))) (hg : s.chip.evrCommand v = g.answer .ok) (h : P (g.answer .ok)) :
    Completes i s P := by
  refine ⟨g.answer .ok, ?_, h⟩
  rw [hexec, access_attends _ _ _ _ hatt, hg]
  rfl

/-- The recorder enters FROZEN. -/
def Chip.frozen (u : Chip) : Chip := (({ u with evr := { u.evr with frozenAt := some u.now } } : Chip).put Reg.EVR_STAT.STATE 3).put Reg.EVR_STAT.CMD_ERR 0

theorem Chip.frozen_get {f : Fld} (h1 : Reg.EVR_STAT.STATE.key ≠ f.key) (h2 : Reg.EVR_STAT.CMD_ERR.key ≠ f.key) : u.frozen.get f = u.get f :=
  (get_put_ne _ _ _ _ h2).trans (get_put_ne _ _ _ _ h1)

theorem Chip.frozen_state : u.frozen.get Reg.EVR_STAT.STATE = 3 := (get_put_ne _ _ _ _ (by decide)).trans (get_put_same ..)

theorem Chip.evrFreeze_run (h : u.get Reg.EVR_STAT.STATE = 2) : u.evrFreeze = u.frozen.evrOwn 0x0B [1] := if_pos h

/-- The recorder leaves FROZEN at a command. -/
def Chip.unfrozen (u : Chip) : Chip := u.thawed.put Reg.EVR_STAT.CMD_ERR 0

theorem Chip.unfrozen_get {f : Fld} (h1 : Reg.EVR_STAT.STATE.key ≠ f.key) (h2 : Reg.EVR_STAT.CMD_ERR.key ≠ f.key) : u.unfrozen.get f = u.get f :=
  (get_put_ne _ _ _ _ h2).trans (thawed_get _ h1)

theorem Chip.unfrozen_state : u.unfrozen.get Reg.EVR_STAT.STATE = 2 := (get_put_ne _ _ _ _ (by decide)).trans (thawed_state _)

theorem Chip.evrUnfreeze_frozen (h : u.get Reg.EVR_STAT.STATE = 3) : u.evrUnfreeze = u.unfrozen.evrOwn 0x0B [0] := if_pos h

theorem completes_freeze (hatt : s.chip.attends 0x4450004C = true) (hst : s.chip.get Reg.EVR_STAT.STATE = 2) (hpend : s.chip.get Reg.EVR_CF.PEND ≠ 3686) :
    Completes .freeze s (fun t => t.resp = .ok ∧ t.get Reg.EVR_STAT.STATE = 3 ∧ t.get Reg.EVR_STAT.CMD_ERR = 0 ∧ t.evr.frozenAt = some s.chip.now ∧
      (s.chip.get Reg.EVR_CF.PEND < 4096 → t.OwnAt ((s.chip.get Reg.EVR_CF.HEAD + s.chip.get Reg.EVR_CF.PEND) % 4096) 0x0B [1])) := by
  refine completes_evrCommand hatt rfl (congrArg (fun v : Chip => v.answer .ok) (evrFreeze_run hst)) ?_
  have hp : s.chip.frozen.get Reg.EVR_CF.PEND = s.chip.get Reg.EVR_CF.PEND := frozen_get (by decide) (by decide)
  have hh : s.chip.frozen.get Reg.EVR_CF.HEAD = s.chip.get Reg.EVR_CF.HEAD := frozen_get (by decide) (by decide)
  have hst3 := s.chip.frozen_state
  have herr : s.chip.frozen.get Reg.EVR_STAT.CMD_ERR = 0 := get_put_same ..
  have hat : s.chip.frozen.evr.frozenAt = some s.chip.now := rfl
  rw [← hp, ← hh]
  rw [← hp] at hpend
  generalize s.chip.frozen = v at *
  refine ⟨rfl, (evrOwn_state _ _ (.inr hpend)).trans hst3, ((evrOwn_grows _ _).regs _ (by decide)).trans herr, (evrOwn_frozenAt _ _ (.inr hpend)).trans hat, fun hroom => ?_⟩
  exact evrOwn_at _ _ hroom Grows.of_answer.kept

theorem completes_unfreeze (hatt : s.chip.attends 0x4450004C = true) (hst : s.chip.get Reg.EVR_STAT.STATE = 3) :
    Completes .unfreeze s (fun t => t.resp = .ok ∧ t.get Reg.EVR_STAT.STATE = 2 ∧ t.get Reg.EVR_STAT.CMD_ERR = 0 ∧ t.evr.frozenAt = none ∧
      (s.chip.get Reg.EVR_CF.PEND < 4096 → t.OwnAt ((s.chip.get Reg.EVR_CF.HEAD + s.chip.get Reg.EVR_CF.PEND) % 4096) 0x0B [0])) := by
  refine completes_evrCommand hatt rfl (congrArg (fun v : Chip => v.answer .ok) (evrUnfreeze_frozen hst)) ?_
  have hp : s.chip.unfrozen.get Reg.EVR_CF.PEND = s.chip.get Reg.EVR_CF.PEND := unfrozen_get (by decide) (by decide)
  have hh : s.chip.unfrozen.get Reg.EVR_CF.HEAD = s.chip.get Reg.EVR_CF.HEAD := unfrozen_get (by decide) (by decide)
  have hst2 := s.chip.unfrozen_state
  have herr : s.chip.unfrozen.get Reg.EVR_STAT.CMD_ERR = 0 := get_put_same ..
  have hat : s.chip.unfrozen.evr.frozenAt = none := rfl
  rw [← hp, ← hh]
  generalize s.chip.unfrozen = v at *
  have hplain : v.get Reg.EVR_STAT.STATE ≠ 3 ∨ v.get Reg.EVR_CF.PEND ≠ 3686 := .inl (by rw [hst2]; decide)
  refine ⟨rfl, (evrOwn_state _ _ hplain).trans hst2, ((evrOwn_grows _ _).regs _ (by decide)).trans herr, (evrOwn_frozenAt _ _ hplain).trans hat, fun hroom => ?_⟩
  exact evrOwn_at _ _ hroom Grows.of_answer.kept

theorem completes_flush (hatt : s.chip.attends 0x4450004C = true) (hst : s.chip.get Reg.EVR_STAT.STATE = 2 ∨ s.chip.get Reg.EVR_STAT.STATE = 3) :
    Completes .flush s (fun t => t.resp = .ok ∧ t.get Reg.EVR_STAT.CMD_ERR = 0 ∧ t.evr.trig = true ∧ t.get Reg.EVR_STAT.STATE = s.chip.get Reg.EVR_STAT.STATE) := by
  refine completes_evrCommand hatt rfl (congrArg (fun v : Chip => v.answer .ok) (if_pos hst : s.chip.evrFlush = (s.chip.put Reg.EVR_STAT.CMD_ERR 0).evrTrigger false)) ?_
  have hsame : (s.chip.put Reg.EVR_STAT.CMD_ERR 0).get Reg.EVR_STAT.STATE = s.chip.get Reg.EVR_STAT.STATE := get_put_ne _ _ _ _ (by decide)
  refine ⟨rfl, (evrTrigger_get ..).trans (get_put_same ..), ?_, (evrTrigger_get ..).trans hsame⟩
  rw [answer_evr, evrTrigger_evr, hsame, if_pos (by tauto)]

/-- A new log, with no record in it. -/
def Chip.formatted (u : Chip) : Chip :=
  let n := u.get Reg.EVR_FMT_N.COUNT
  let m := u.get Reg.EVR_FMT_M.COUNT
  let u := { u with evr := { u.evr with lba := u.get Reg.EVR_LBA.LBA, recovered := true, committed := none } }
  let u := (((u.put Reg.EVR_N.VAL n).put Reg.EVR_M.VAL m).put Reg.EVR_BASE.VAL 0).put Reg.EVR_SEQ.VAL 0
  let u := (u.put Reg.EVR_HWFILL.VAL 0).put Reg.EVR_STAT.HW_FULL (lvl (n == 0))
  let u := u.modLog (fun _ => ({} : EmmcLog).writeSb u.evrSb)
  u.put Reg.EVR_STAT.CMD_ERR 0

theorem Chip.evrFormat_fits (h : u.get Reg.EVR_STAT.STATE = 1) (hok : u.evrGeometryOk = true) :
    u.evrFormat = (u.formatted.evrOwn 0x09 [u.get Reg.EVR_FMT_N.COUNT, u.get Reg.EVR_FMT_M.COUNT]).put Reg.EVR_STAT.STATE 2 := if_pos ⟨h, hok⟩

theorem EmmcLog.writeSb_best (sb : Superblock) : ∀ l : EmmcLog, ∃ g, (l.writeSb sb).best = some { sb with gen := g } ∧ (l.writeSb sb).eddy = l.eddy ∧
    (l.writeSb sb).headwater = l.headwater := by
  intro l
  unfold EmmcLog.writeSb EmmcLog.best
  rcases h0 : l.sb0 with _ | a <;> rcases h1 : l.sb1 with _ | b
  · exact ⟨1, by simp, rfl, rfl⟩
  · refine ⟨b.gen + 1, ?_, rfl, rfl⟩
    simp only [if_true]
    rw [if_neg (by simp)]
  · refine ⟨a.gen + 1, ?_, rfl, rfl⟩
    simp
  · by_cases hab : a.gen ≤ b.gen
    · refine ⟨(if a.gen < b.gen then b else a).gen + 1, ?_, ?_, ?_⟩
      · simp only [hab, decide_true, if_true]
        rw [if_neg]
        split <;> simp
        omega
      all_goals simp [hab]
    · refine ⟨a.gen + 1, ?_, ?_, ?_⟩
      · simp [hab, show ¬ a.gen < b.gen by omega]
      all_goals simp [hab]

theorem Chip.modLog_get (g : EmmcLog → EmmcLog) (f : Fld) : (u.modLog g).get f = u.get f := rfl

theorem Chip.modLog_put_log (g : EmmcLog → EmmcLog) (f : Fld) (x : Nat) : ((u.modLog g).put f x).log = g u.log := log_modLog g

theorem Chip.withEvr_get (e : Recorder) (f : Fld) : ({ u with evr := e } : Chip).get f = u.get f := rfl

theorem Chip.formatted_shows : u.formatted.get Reg.EVR_STAT.STATE = u.get Reg.EVR_STAT.STATE ∧ u.formatted.get Reg.EVR_STAT.CMD_ERR = 0 ∧
    u.formatted.get Reg.EVR_N.VAL = u.get Reg.EVR_FMT_N.COUNT ∧ u.formatted.get Reg.EVR_M.VAL = u.get Reg.EVR_FMT_M.COUNT ∧ u.formatted.get Reg.EVR_BASE.VAL = 0 ∧
    u.formatted.get Reg.EVR_SEQ.VAL = 0 ∧ u.formatted.get Reg.EVR_CF.PEND = u.get Reg.EVR_CF.PEND ∧ u.formatted.get Reg.EVR_CF.HEAD = u.get Reg.EVR_CF.HEAD := by
  have hn : u.get Reg.EVR_FMT_N.COUNT % 2 ^ 32 = u.get Reg.EVR_FMT_N.COUNT := Nat.mod_eq_of_lt (u.get_lt Reg.EVR_FMT_N.COUNT)
  have hm : u.get Reg.EVR_FMT_M.COUNT % 2 ^ 32 = u.get Reg.EVR_FMT_M.COUNT := Nat.mod_eq_of_lt (u.get_lt Reg.EVR_FMT_M.COUNT)
  unfold Chip.formatted
  refine ⟨?_, ?_, ?_, ?_, ?_, ?_, ?_, ?_⟩ <;>
    simp (disch := decide) only [get_put_ne, get_put_same, modLog_get, withEvr_get]
  · rfl
  · exact hn
  · exact hm
  · rfl
  · rfl

theorem Chip.formatted_log : u.formatted.log.eddy = [] ∧ u.formatted.log.headwater = [] ∧ u.formatted.log.best.isSome = true := by
  unfold Chip.formatted
  dsimp only
  rw [modLog_put_log]
  obtain ⟨g, hbest, heddy, hhw⟩ := EmmcLog.writeSb_best (Chip.evrSb _) ({} : EmmcLog)
  rw [heddy, hhw, hbest]
  exact ⟨rfl, rfl, rfl⟩

theorem completes_format (hatt : s.chip.attends 0x4450004C = true) (hst : s.chip.get Reg.EVR_STAT.STATE = 1) (hok : s.chip.evrGeometryOk = true) :
    Completes .format s (fun t => t.resp = .ok ∧ t.get Reg.EVR_STAT.STATE = 2 ∧ t.get Reg.EVR_STAT.CMD_ERR = 0 ∧ t.get Reg.EVR_N.VAL = s.chip.get Reg.EVR_FMT_N.COUNT ∧
      t.get Reg.EVR_M.VAL = s.chip.get Reg.EVR_FMT_M.COUNT ∧ t.get Reg.EVR_BASE.VAL = 0 ∧ t.get Reg.EVR_SEQ.VAL = 0 ∧ t.log.eddy = [] ∧ t.log.headwater = [] ∧
      t.log.best.isSome ∧ (s.chip.get Reg.EVR_CF.PEND < 4096 →
        t.OwnAt ((s.chip.get Reg.EVR_CF.HEAD + s.chip.get Reg.EVR_CF.PEND) % 4096) 9 [s.chip.get Reg.EVR_FMT_N.COUNT, s.chip.get Reg.EVR_FMT_M.COUNT])) := by
  refine completes_evrCommand hatt rfl (congrArg (fun v : Chip => v.answer .ok) (evrFormat_fits hst hok)) ?_
  obtain ⟨-, herr, hn, hm, hbase, hseq, hp, hh⟩ := s.chip.formatted_shows
  obtain ⟨heddy, hhw, hbest⟩ := s.chip.formatted_log
  rw [← hp, ← hh]
  generalize s.chip.formatted = v at *
  have hown := evrOwn_grows (u := v) 9 [s.chip.get Reg.EVR_FMT_N.COUNT, s.chip.get Reg.EVR_FMT_M.COUNT]
  have hg : Grows (v.evrOwn 9 [s.chip.get Reg.EVR_FMT_N.COUNT, s.chip.get Reg.EVR_FMT_M.COUNT])
      (((v.evrOwn 9 [s.chip.get Reg.EVR_FMT_N.COUNT, s.chip.get Reg.EVR_FMT_M.COUNT]).put Reg.EVR_STAT.STATE 2).answer .ok) := Grows.of_put.trans .of_answer
  have hall := hown.trans hg
  refine ⟨rfl, (answer_get ..).trans (get_put_same ..), (hall.regs _ (by decide)).trans herr, (hall.regs _ (by decide)).trans hn, (hall.regs _ (by decide)).trans hm,
    (hall.regs _ (by decide)).trans hbase, (hall.regs _ (by decide)).trans hseq, ?_, ?_, ?_, fun hroom => evrOwn_at _ _ hroom hg.kept⟩
  all_goals rw [hall.logs]; assumption

theorem completes_evrIgnored {i : Instr} {v : Nat} (hatt : s.chip.attends 0x4450004C = true)
    (hexec : exec i s = s.become (s.chip.access 0x4450004C true (fun u => u.evrCommand v))) (hg : s.chip.evrCommand v = s.chip.evrIgnore.answer .ok) :
    Completes i s (fun t => t.resp = .ok ∧ t.get Reg.EVR_STAT.CMD_ERR = 1 ∧ t.get Reg.EVR_STAT.STATE = s.chip.get Reg.EVR_STAT.STATE ∧ t.evr = s.chip.evr) := by
  obtain ⟨herr, hst, hevr⟩ := s.chip.evrIgnore_kept
  exact completes_evrCommand hatt hexec hg ⟨rfl, herr, hst, hevr⟩

theorem Chip.evrGeometryOk_iff : u.evrGeometryOk = true ↔ u.get Reg.EVR_FMT_N.COUNT ≤ 1048576 ∧ 8192 ≤ u.get Reg.EVR_FMT_M.COUNT ∧
    u.get Reg.EVR_FMT_M.COUNT - 8192 ≤ Config.emmcSpare ∧ u.get Reg.EVR_FMT_N.COUNT % 8 = 0 ∧ u.get Reg.EVR_FMT_M.COUNT % 8 = 0 := decide_eq_true_iff

/-! ### The Spillway (R501) -/

/-- What the Spillway keeps once it runs, whatever part of it follows: its state, its start, its intake, and the records. -/
structure Spills (u t : Chip) : Prop where
  state : t.get Reg.EVR_STAT.STATE = u.get Reg.EVR_STAT.STATE
  head : t.get Reg.EVR_CF.HEAD = u.get Reg.EVR_CF.HEAD
  pend : t.get Reg.EVR_CF.PEND = u.get Reg.EVR_CF.PEND
  start : t.evr.spill.map Spill.start = u.evr.spill.map Spill.start
  closed : t.evr.spill.map Spill.closed = u.evr.spill.map Spill.closed
  carafe : t.evr.carafe = u.evr.carafe
  fetching : t.evr.fetching = u.evr.fetching
  down : t.link.resetDown = u.link.resetDown
  now : t.now = u.now

theorem Spills.rfl : Spills u u := ⟨.refl _, .refl _, .refl _, .refl _, .refl _, .refl _, .refl _, .refl _, .refl _⟩

theorem Spills.trans {v : Chip} (h1 : Spills u v) (h2 : Spills v t) : Spills u t :=
  ⟨h2.state.trans h1.state, h2.head.trans h1.head, h2.pend.trans h1.pend, h2.start.trans h1.start, h2.closed.trans h1.closed, h2.carafe.trans h1.carafe,
    h2.fetching.trans h1.fetching, h2.down.trans h1.down, h2.now.trans h1.now⟩

/-- A register field that is none of those of the Spillway. -/
theorem Spills.of_put {f : Fld} {x : Nat} (h1 : f.key ≠ Reg.EVR_STAT.STATE.key) (h2 : f.key ≠ Reg.EVR_CF.HEAD.key) (h3 : f.key ≠ Reg.EVR_CF.PEND.key) :
    Spills u (u.put f x) :=
  ⟨get_put_ne _ _ _ _ h1, get_put_ne _ _ _ _ h2, get_put_ne _ _ _ _ h3, .refl _, .refl _, .refl _, .refl _, .refl _, .refl _⟩

theorem Spills.of_evr {e : Recorder} (h1 : e.spill.map Spill.start = u.evr.spill.map Spill.start) (h2 : e.spill.map Spill.closed = u.evr.spill.map Spill.closed)
    (h3 : e.carafe = u.evr.carafe) (h4 : e.fetching = u.evr.fetching) : Spills u { u with evr := e } :=
  ⟨.refl _, .refl _, .refl _, h1, h2, h3, h4, .refl _, .refl _⟩

theorem Spills.of_irq {b : Nat} : Spills u (u.irq evrPage b) :=
  ⟨irq_evr_get _ _ (by decide) (by decide), irq_evr_get _ _ (by decide) (by decide), irq_evr_get _ _ (by decide) (by decide), by rw [irq_evr], by rw [irq_evr],
    by rw [irq_evr], by rw [irq_evr], by rw [irq_link], by rw [irq_now]⟩

theorem Chip.evrCheck_spills : Spills u u.evrCheck := by
  unfold Chip.evrCheck
  split
  · exact .rfl
  · exact .of_put (by decide) (by decide) (by decide)

theorem Chip.captureFlushed_spills : Spills u u.captureFlushed := by
  unfold Chip.captureFlushed
  split
  · exact Spills.trans (v := { u with flt := { u.flt with entryAt := none } })
      ⟨.refl _, .refl _, .refl _, .refl _, .refl _, .refl _, .refl _, .refl _, .refl _⟩ (.of_put (by decide) (by decide) (by decide))
  · exact .rfl

theorem Chip.retFlush_spills : Spills u u.retFlush := ⟨.refl _, .refl _, .refl _, .refl _, .refl _, .refl _, .refl _, .refl _, .refl _⟩

theorem Chip.spillNext_spills : Spills u u.spillNext := by
  unfold Chip.spillNext
  split
  · exact .rfl
  · rename_i p hp
    split_ifs
    · exact .rfl
    · exact .of_evr (.refl _) (.refl _) (.refl _) (.refl _)
    · exact .rfl
    · exact .of_evr (by rw [hp]; exact .refl _) (by rw [hp]; exact .refl _) (.refl _) (.refl _)
    · dsimp only
      refine Spills.trans ?_ (Spills.of_put (f := Reg.EVR_SEQ.VAL) (by decide) (by decide) (by decide))
      refine Spills.trans ?_ retFlush_spills
      exact .of_evr (by simp [hp]) (by simp [hp]) (.refl _) (.refl _)

theorem Chip.evrFlushEnd_spills (f : Flush) : Spills u (u.evrFlushEnd f) := by
  unfold Chip.evrFlushEnd
  extract_lets _ v w
  have hv : Spills u v := (Spills.of_evr (e := { u.evr with flush := none }) (.refl _) (.refl _) (.refl _) (.refl _)).trans .of_irq
  have hw : Spills u w := by
    refine hv.trans ?_
    unfold w
    split
    · exact captureFlushed_spills
    · exact .rfl
  clear_value w
  clear hv
  clear_value v
  split
  · split
    · exact hw
    · refine hw.trans (.trans ?_ evrCheck_spills)
      refine Spills.trans ?_ (Spills.of_put (f := Reg.EVR_BASE.VAL) (by decide) (by decide) (by decide))
      exact .of_evr (.refl _) (.refl _) (.refl _) (.refl _)
  · exact hw.trans spillNext_spills

theorem Chip.evrProceed_spills (f : Flush) : Spills u (u.evrProceed f) := by
  unfold Chip.evrProceed
  split
  · exact evrFlushEnd_spills f
  · exact .of_evr (.refl _) (.refl _) (.refl _) (.refl _)

/-- The recorder right before SPILL: the freeze is lifted, and a clear that has not reached step 2 is refused. -/
def Chip.spillReady (u : Chip) : Chip :=
  let u := u.evrLift 3
  let early := match u.evr.clear with
    | some c => !c.step2
    | none => false
  if early then (({ u with evr := { u.evr with clear := none } }).evrOwn 0x08 [5]).put Reg.EVR_CLR_STAT.RESULT 6 else u

/-- The Spillway starts. -/
def Chip.spillBegun (u : Chip) : Chip :=
  let v := u.evr
  let hw := match v.flush with
    | some f => f.hw
    | none => []
  let sp : Spill := ⟨u.weirTime, u.now, u.get Reg.EVR_CF.PEND, 0, decide (4096 ≤ u.get Reg.EVR_CF.PEND), false, hw⟩
  let fl := v.flush.map (fun f => { f with hw := [] })
  let u := { u with evr := { v with fetching := false, spill := some sp, flush := fl } }
  u.put Reg.EVR_STAT.STATE 4

/-- The power-fail flit has been taken from the link. -/
def Chip.flitTaken (u : Chip) : Chip := { u with link := { u.link with resetDown := u.link.resetDown.drop 1 } }

theorem exec_spillwayStart (h : s.chip.link.resetDown.head? = some 0) (hst : ¬ (s.chip.get Reg.EVR_STAT.STATE = 1 ∨ s.chip.get Reg.EVR_STAT.STATE = 5 ∨
    s.chip.get Reg.EVR_STAT.STATE = 4)) : ∃ v : Chip, v = ((s.chip.flitTaken.evrOwn 0x02 [s.chip.weir.pfailOrigin, s.chip.get Reg.EVR_CF.PEND]).spillReady).spillBegun ∧
    exec .spillwayStart s = s.become (match v.evr.flush with
        | some f => v.evrProceed f
        | none => v.spillNext) := by
  refine ⟨_, rfl, ?_⟩
  change execSpillwayStart s = _
  unfold execSpillwayStart
  dsimp only
  rw [if_neg (not_not.2 h)]
  exact if_neg hst

theorem exec_spillwayStart_idle (h : s.chip.link.resetDown.head? = some 0) (hst : s.chip.get Reg.EVR_STAT.STATE = 1 ∨ s.chip.get Reg.EVR_STAT.STATE = 5 ∨
    s.chip.get Reg.EVR_STAT.STATE = 4) : exec .spillwayStart s = s.become s.chip.flitTaken := by
  change execSpillwayStart s = _
  unfold execSpillwayStart
  dsimp only
  rw [if_neg (not_not.2 h)]
  exact if_pos hst

/-- A clear that has not reached step 2 is over. -/
def Chip.clearRefused (u : Chip) : Chip := (({ u with evr := { u.evr with clear := none } }).evrOwn 0x08 [5]).put Reg.EVR_CLR_STAT.RESULT 6

theorem Chip.noClear_kept : CarafeKept u { u with evr := { u.evr with clear := none } } := .of_eq rfl rfl rfl

theorem Chip.clearRefused_kept : CarafeKept u u.clearRefused :=
  noClear_kept.trans
    ((evrOwn_grows _ _).kept.trans (.of_eq (get_put_ne _ _ _ _ (by decide)) (get_put_ne _ _ _ _ (by decide)) rfl))

theorem Chip.clearRefused_within : Within ⟨frLog ++ [.evr], some [0x409, 0x445]⟩ u u.clearRefused :=
  ((evr_within.trans evrOwn_within).trans (put_within (Fld.inBlocks_self (by rfl)))).le (by decide)

theorem Chip.spillReady_eq : u.spillReady = u.evrLift 3 ∨ u.spillReady = (u.evrLift 3).clearRefused := by
  unfold Chip.spillReady
  dsimp only
  split_ifs
  · exact .inr rfl
  · exact .inl rfl

theorem Chip.spillReady_kept : CarafeKept u u.spillReady := by
  rcases u.spillReady_eq with h | h <;> rw [h]
  · exact (evrLift_grows 3).kept
  · exact (evrLift_grows 3).kept.trans clearRefused_kept

theorem Chip.spillReady_within : Within ⟨frLog ++ [.evr], some [0x409, 0x445]⟩ u u.spillReady := by
  rcases u.spillReady_eq with h | h <;> rw [h]
  · exact evrLift_within.le (by decide)
  · exact (evrLift_within.trans clearRefused_within).le (by decide)

theorem Chip.spillBegun_shows : u.spillBegun.get Reg.EVR_STAT.STATE = 4 ∧ u.spillBegun.evr.fetching = false ∧ u.spillBegun.evr.spill.map Spill.start = some u.weirTime ∧
    u.spillBegun.link = u.link ∧ CarafeKept u u.spillBegun :=
  ⟨get_put_same .., rfl, rfl, rfl, .of_eq (get_put_ne _ _ _ _ (by decide)) (get_put_ne _ _ _ _ (by decide)) rfl⟩

theorem Chip.weirTime_of_weir (h : t.weir = u.weir) : t.weirTime = u.weirTime := by
  unfold Chip.weirTime
  rw [h]

/-- SPILLWAY_START (R501). -/
theorem completes_spillwayStart {rest : List Nat} (hdown : s.chip.link.resetDown = 0 :: rest) (hst : s.chip.get Reg.EVR_STAT.STATE = 0 ∨ s.chip.get Reg.EVR_STAT.STATE = 2 ∨
    s.chip.get Reg.EVR_STAT.STATE = 3) :
    Completes .spillwayStart s (fun t => t.get Reg.EVR_STAT.STATE = 4 ∧ t.evr.fetching = false ∧ t.evr.spill.map (·.start) = some s.chip.weirTime ∧
       t.link.resetDown = rest ∧ (s.chip.get Reg.EVR_CF.PEND < 4096 →
        t.OwnAt ((s.chip.get Reg.EVR_CF.HEAD + s.chip.get Reg.EVR_CF.PEND) % 4096) 2 [s.chip.weir.pfailOrigin, s.chip.get Reg.EVR_CF.PEND])) := by
  obtain ⟨v, hv, hexec⟩ := exec_spillwayStart (by rw [hdown]; rfl) (by omega : ¬ (s.chip.get Reg.EVR_STAT.STATE = 1 ∨ _ ∨ _))
  have htaken : s.chip.flitTaken.link.resetDown = rest := by
    change s.chip.link.resetDown.drop 1 = rest
    rw [hdown]
    rfl
  have htime : s.chip.flitTaken.weirTime = s.chip.weirTime := rfl
  have hp : s.chip.flitTaken.get Reg.EVR_CF.PEND = s.chip.get Reg.EVR_CF.PEND := rfl
  have hh : s.chip.flitTaken.get Reg.EVR_CF.HEAD = s.chip.get Reg.EVR_CF.HEAD := rfl
  generalize s.chip.flitTaken = w at hv htaken htime hp hh
  obtain ⟨x, hx⟩ : ∃ x, x = w.evrOwn 0x02 [s.chip.weir.pfailOrigin, s.chip.get Reg.EVR_CF.PEND] := ⟨_, rfl⟩
  rw [← hx] at hv
  have hwx : Within ⟨frLog ++ [.evr], some [0x409, 0x445]⟩ w x.spillReady := (hx ▸ evrOwn_within.trans spillReady_within).le (by decide)
  obtain ⟨hstate, hfetch, hstart, hlink, hkept⟩ := x.spillReady.spillBegun_shows
  rw [← hv] at hstate hfetch hstart hlink hkept
  have hlast : Spills v (match v.evr.flush with
        | some f => v.evrProceed f
        | none => v.spillNext) := by
    split
    · exact evrProceed_spills _
    · exact spillNext_spills
  refine ⟨_, hexec, hlast.state.trans hstate, hlast.fetching.trans hfetch, ?_, ?_, fun hroom => ?_⟩
  · refine hlast.start.trans (hstart.trans (congrArg some ?_))
    rw [weirTime_of_weir (hwx.same .weir (by decide)), htime]
  · rw [hlast.down, hlink, hwx.same .link (by decide), htaken]
  · rw [← hh, ← hp] at *
    have hall : CarafeKept x _ := (spillReady_kept.trans hkept).trans (.of_eq hlast.head hlast.pend hlast.carafe)
    exact evrOwn_at _ _ hroom (hx ▸ hall)

end
end Sys2Proof.Machine
end

section
/-!
PROOFS. The Spillway's intake, the window onto the log and the clear of Eddy (17 R501 to R507).
-/
namespace Sys2Proof.Machine
open Chip

section
variable {s : State} {u t : Chip}

/-! ### The Spillway's intake (R501) -/

/-- The Carafe accepts no more records. -/
def Chip.intakeClosed (u : Chip) : Chip := { u with evr := { u.evr with spill := u.evr.spill.map (fun (p : Spill) => { p with closed := true }) } }

theorem Chip.refuses_of_closed (h : u.evr.spill.map Spill.closed = some true) : u.evrRefuses = true := by
  unfold Chip.evrRefuses
  obtain ⟨p, hp, hc⟩ := Option.map_eq_some_iff.1 h
  rw [hp]
  simp [hc]

theorem completes_spillwayIntakeClose {p : Spill} (hp : s.chip.evr.spill = some p) : Completes .spillwayIntakeClose s (fun t =>
    t.evrRefuses = true ∧ (p.closed = false → t.now = max s.chip.now (p.startNow + ms 1))) := by
  obtain ⟨v, hv⟩ : ∃ v, v = if p.closed then s.chip else s.chip.until (p.startNow + ms 1) := ⟨_, rfl⟩
  have hexec : exec .spillwayIntakeClose s = s.become (v.intakeClosed.spillNext) := by
    change execSpillwayIntakeClose s = _
    unfold execSpillwayIntakeClose
    dsimp only
    rw [hp]
    dsimp only
    rw [← hv]
    rfl
  have hspill : v.evr.spill = some p := by
    rw [hv]
    split
    · exact hp
    · rw [until_evr]
      exact hp
  have hclosed : v.intakeClosed.evr.spill.map Spill.closed = some true := by
    unfold Chip.intakeClosed
    rw [hspill]
    rfl
  have hnow : v.intakeClosed.now = v.now := rfl
  have hnext := v.intakeClosed.spillNext_spills
  refine ⟨_, hexec, refuses_of_closed (hnext.closed.trans hclosed), fun hopen => ?_⟩
  rw [hnext.now, hnow, hv, if_neg (by simp [hopen]), until_now]

/-! ### The window onto the log (R504, R505) -/

theorem Chip.evrFetch_shows (i : Nat) : (u.evrFetch i).get Reg.EVR_CURSOR.INDEX = i % 2 ^ 32 ∧ (u.evrFetch i).get Reg.EVR_STAT.WIN_READY = 0 ∧
    (u.evrFetch i).get Reg.EVR_STAT.GONE = 0 ∧ (u.evrFetch i).evr.fetching = true := by
  unfold Chip.evrFetch
  refine ⟨?_, ?_, ?_, rfl⟩
  · rw [get_put_ne _ _ _ _ (by decide), get_put_ne _ _ _ _ (by decide), get_put_same]
    rfl
  · rw [get_put_ne _ _ _ _ (by decide), get_put_same]
    rfl
  · rw [get_put_same]
    rfl

theorem completes_evrCursorWrite (i : Nat) (hatt : s.chip.attends 0x44501040 = true) : Completes (.evrCursorWrite i) s (fun t => t.resp = .ok ∧
    t.get Reg.EVR_CURSOR.INDEX = i % 2 ^ 32 ∧ t.get Reg.EVR_STAT.WIN_READY = 0 ∧ t.get Reg.EVR_STAT.GONE = 0 ∧ t.evr.fetching = true) :=
  ⟨_, congrArg s.become (access_attends _ _ _ _ hatt), rfl, evrFetch_shows i⟩

theorem leAt_4_lt (b : List Byte) (o : Nat) : leAt b o 4 < 2 ^ 32 := by
  unfold leAt
  calc leNat ((b.drop o).take 4) < 2 ^ (8 * ((b.drop o).take 4).length) := leNat_lt _
    _ ≤ 2 ^ (8 * 4) := Nat.pow_le_pow_right (by decide) (Nat.mul_le_mul_left 8 (List.length_take_le ..))

/-- The window shows 64 bytes as words. -/
def Chip.windowPut (u : Chip) (b : List Byte) (n : Nat) : Chip := foldUpTo n u (fun u k => u.put (Reg.EVR_WIN.DATA k) (leAt b (4 * k) 4))

theorem Chip.windowPut_get (b : List Byte) (n : Nat) {f : Fld} (hf : ∀ k < n, (Reg.EVR_WIN.DATA k).key ≠ f.key) : (u.windowPut b n).get f = u.get f := by
  induction n with
  | zero => rfl
  | succ n ih =>
    unfold Chip.windowPut at ih ⊢
    rw [foldUpTo_succ, get_put_ne _ _ _ _ (hf n (by omega)), ih (fun k hk => hf k (by omega))]

theorem window_keys : ∀ j < 16, ∀ k < 16, j ≠ k → (Reg.EVR_WIN.DATA j).key ≠ (Reg.EVR_WIN.DATA k).key := by decide

theorem Chip.windowPut_word (b : List Byte) {n k : Nat} (hn : n ≤ 16) (hk : k < n) : (u.windowPut b n).get (Reg.EVR_WIN.DATA k) = leAt b (4 * k) 4 := by
  induction n with
  | zero => omega
  | succ n ih =>
    unfold Chip.windowPut at ih ⊢
    rw [foldUpTo_succ]
    by_cases hkn : k = n
    · rw [hkn, get_put_same]
      exact Nat.mod_eq_of_lt (leAt_4_lt _ _)
    · rw [get_put_ne _ _ _ _ (window_keys n (by omega) k (by omega) (Ne.symm hkn)), ih (by omega) (by omega)]

theorem Chip.windowPut_evr (b : List Byte) (n : Nat) : (u.windowPut b n).evr = u.evr := by
  induction n with
  | zero => rfl
  | succ n ih =>
    unfold Chip.windowPut at ih ⊢
    rw [foldUpTo_succ, put_evr, ih]

/-- A fetch has come to its end. -/
def Chip.fetchEnded (u : Chip) : Chip := { u with evr := { u.evr with fetching := false } }

theorem Chip.fetchEnded_shows (b : List Byte) (gone : Bool) :
    (((u.windowPut b 16).fetchEnded.put Reg.EVR_STAT.WIN_READY 1).put Reg.EVR_STAT.GONE (lvl gone)).evr.fetching = false ∧
    (((u.windowPut b 16).fetchEnded.put Reg.EVR_STAT.WIN_READY 1).put Reg.EVR_STAT.GONE (lvl gone)).get Reg.EVR_STAT.WIN_READY = 1 ∧
    (((u.windowPut b 16).fetchEnded.put Reg.EVR_STAT.WIN_READY 1).put Reg.EVR_STAT.GONE (lvl gone)).get Reg.EVR_STAT.GONE = lvl gone ∧
    ∀ k < 16, (((u.windowPut b 16).fetchEnded.put Reg.EVR_STAT.WIN_READY 1).put Reg.EVR_STAT.GONE (lvl gone)).get (Reg.EVR_WIN.DATA k) = leAt b (4 * k) 4 := by
  have hkeys : ∀ k < 16, Reg.EVR_STAT.GONE.key ≠ (Reg.EVR_WIN.DATA k).key ∧ Reg.EVR_STAT.WIN_READY.key ≠ (Reg.EVR_WIN.DATA k).key := by decide
  have hword := fun k (hk : k < 16) => windowPut_word (u := u) b (le_refl 16) hk
  generalize u.windowPut b 16 = v at *
  refine ⟨rfl, ?_, ?_, fun k hk => ?_⟩
  · rw [get_put_ne _ _ _ _ (by decide), get_put_same]
    rfl
  · rw [get_put_same]
    cases gone <;> rfl
  · rw [get_put_ne _ _ _ _ (hkeys k hk).1, get_put_ne _ _ _ _ (hkeys k hk).2]
    exact hword k hk

theorem exec_windowFetchDone (h : s.chip.evr.fetching = true) : exec .windowFetchDone s =
    s.become (((s.chip.windowPut (match s.chip.evrSelected with
      | some r => r.bytes
      | none => List.replicate 64 0) 16).fetchEnded.put Reg.EVR_STAT.WIN_READY 1).put Reg.EVR_STAT.GONE (lvl s.chip.evrSelected.isNone)) := by
  change execWindowFetchDone s = _
  unfold execWindowFetchDone
  dsimp only
  rw [if_neg (by simp [h])]
  rfl

theorem leAt_zeros : ∀ k < 16, leAt (List.replicate 64 (0 : Byte)) (4 * k) 4 = 0 := by decide

theorem completes_windowFetchDone (h : s.chip.evr.fetching = true) : Completes .windowFetchDone s (fun t => t.evr.fetching = false ∧ t.get Reg.EVR_STAT.WIN_READY = 1 ∧
    (∀ r, s.chip.evrSelected = some r → t.get Reg.EVR_STAT.GONE = 0 ∧ ∀ k, k < 16 → t.get (Reg.EVR_WIN.DATA k) = leAt r.bytes (4 * k) 4) ∧
    (s.chip.evrSelected = none → t.get Reg.EVR_STAT.GONE = 1 ∧ ∀ k, k < 16 → t.get (Reg.EVR_WIN.DATA k) = 0)) := by
  refine ⟨_, exec_windowFetchDone h, ?_⟩
  cases hsel : s.chip.evrSelected with
  | none =>
    obtain ⟨hf, hr, hg, hw⟩ := s.chip.fetchEnded_shows (List.replicate 64 0) true
    exact ⟨hf, hr, by simp, fun _ => ⟨hg, fun k hk => (hw k hk).trans (leAt_zeros k hk)⟩⟩
  | some r =>
    obtain ⟨hf, hr, hg, hw⟩ := s.chip.fetchEnded_shows r.bytes false
    refine ⟨hf, hr, ?_, by simp⟩
    rintro _ ⟨⟩
    exact ⟨hg, hw⟩

/-- The record that the cursor selects is one of the log's. -/
theorem Chip.evrSelected_present {r : Rec} (h : u.evrSelected = some r) :
    (u.get Reg.EVR_CURCTL.AREA = 0 → r.seq = u.get Reg.EVR_CURSOR.INDEX ∧ ∃ k, (k, r) ∈ u.log.eddy) ∧
    (u.get Reg.EVR_CURCTL.AREA = 1 → (u.get Reg.EVR_CURSOR.INDEX, r) ∈ u.log.headwater) := by
  unfold Chip.evrSelected at h
  dsimp only at h
  refine ⟨fun ha => ?_, fun ha => ?_⟩
  · rw [if_pos ha] at h
    obtain ⟨e, he, hr⟩ := List.exists_of_findSome?_eq_some h
    split at hr
    · rename_i hseq
      obtain rfl := Option.some.inj hr
      exact ⟨hseq, e.1, he⟩
    · exact absurd hr (by simp)
  · rw [if_neg (by omega)] at h
    obtain ⟨e, he, hr⟩ := List.exists_of_findSome?_eq_some h
    split at hr
    · rename_i hidx
      obtain rfl := Option.some.inj hr
      rw [← hidx]
      exact he
    · exact absurd hr (by simp)

theorem completes_evrWin15Read (hatt : s.chip.attends 0x445010BC = true) :
    (s.chip.get Reg.EVR_STAT.WIN_READY = 1 → Completes .evrWin15Read s (fun t => t.resp = .data (s.chip.get (Reg.EVR_WIN.DATA 15)) ∧
      t.get Reg.EVR_CURSOR.INDEX = (s.chip.get Reg.EVR_CURSOR.INDEX + 1) % 2 ^ 32 ∧ t.get Reg.EVR_STAT.WIN_READY = 0 ∧ t.evr.fetching = true)) ∧
    (s.chip.get Reg.EVR_STAT.WIN_READY = 0 → Completes .evrWin15Read s (fun t => t.resp = .error ∧ t.get (Reg.BLK_ERR.ACCESS 0x44501000) = 1 ∧ t.evr = s.chip.evr)) := by
  have hexec : exec .evrWin15Read s = s.become s.chip.evrWin15 := congrArg s.become (access_attends _ _ _ _ hatt)
  constructor
  · intro h
    refine ⟨(s.chip.evrFetch (s.chip.get Reg.EVR_CURSOR.INDEX + 1)).answer (.data (s.chip.get (Reg.EVR_WIN.DATA 15))), hexec.trans (congrArg s.become ?_), rfl, ?_⟩
    · exact if_pos (on_of_one h)
    · obtain ⟨hi, hw, -, hf⟩ := s.chip.evrFetch_shows (s.chip.get Reg.EVR_CURSOR.INDEX + 1)
      exact ⟨hi, hw, hf⟩
  · intro h
    refine ⟨s.chip.evrWinError, hexec.trans (congrArg s.become ?_), rfl, ?_, ?_⟩
    · exact if_neg (by simp [Chip.on, h])
    · unfold Chip.evrWinError Chip.refuse
      rw [answer_get, refreshLines_get, get_put_same]
      rfl
    · unfold Chip.evrWinError Chip.refuse
      rw [answer_evr, refreshLines_evr]
      rfl

/-! ### Clearing Eddy (R507) -/

theorem logPage : ∃ p, pageInfo 0x445010C4 = some p ∧ ∀ u : Chip, u.controlPage p = false := by
  have h : (pageInfo 0x445010C4).map PageInfo.ty = some 0xE045 := by decide
  obtain ⟨p, hp, hty⟩ := Option.map_eq_some_iff.1 h
  refine ⟨p, hp, fun u => ?_⟩
  unfold Chip.controlPage
  rw [hty]
  rfl

theorem log_reach (u : Chip) (req : Nat) : u.planeBars req 0x445010C4 = false ∧ u.pageReach req 0x445010C4 = decide (3 ≤ req ∧ req ≤ 7) := by
  obtain ⟨p, hp, hcontrol⟩ := logPage
  have htarget : fabricTarget req 0x445010C4 = none := by
    have hreg : regionOf 0x445010C4 = .pages := by decide
    have hty : (pageInfo 0x445010C4).map (fun p => (decide (p.ty = 0xE043), decide (p.ty / 256 = 0xD0))) = some (false, false) := by decide
    unfold fabricTarget
    rw [hreg]
    rw [hp] at hty ⊢
    simp only [Option.map_some, Option.some.injEq, Prod.mk.injEq, decide_eq_false_iff_not] at hty
    dsimp only
    rw [if_neg (by decide), if_neg hty.1, if_neg hty.2]
  constructor
  · unfold Chip.planeBars pageBarred
    rw [hp]
    simp [hcontrol]
  · unfold Chip.pageReach
    rw [htarget, hp]
    dsimp only
    rw [hcontrol]
    split
    · exact (decide_eq_false (by omega)).symm
    · exact decide_eq_decide.2 (by omega)

theorem exec_evrClrHiWrite (req hi : Nat) : exec (.evrClrHiWrite req hi) s = s.become (s.chip.atPage req 0x445010C4 true (fun u => (u.evrClear req hi).answer .ok)) := rfl

/-- The value quoted by a clear, in its register. -/
def Chip.quoted (u : Chip) (hi : Nat) : Chip := u.put Reg.EVR_CLR.CV (u.get Reg.EVR_CLR.CV % 2 ^ 32 + hi % 2 ^ 32 * 2 ^ 32)

theorem Chip.quoted_get (hi : Nat) {f : Fld} (hf : Reg.EVR_CLR.CV.key ≠ f.key) : (u.quoted hi).get f = u.get f := get_put_ne _ _ _ _ hf

theorem Chip.quoted_cv (hi : Nat) : (u.quoted hi).get Reg.EVR_CLR.CV = u.get Reg.EVR_CLR.CV % 2 ^ 32 + hi % 2 ^ 32 * 2 ^ 32 := by
  have h : u.get Reg.EVR_CLR.CV % 2 ^ 32 + hi % 2 ^ 32 * 2 ^ 32 < 2 ^ 64 := by omega
  unfold Chip.quoted
  rw [get_put_same]
  exact Nat.mod_eq_of_lt h

/-- The first refusal reason of a clear (Table 17.6). -/
def Chip.clearDenied (u : Chip) (hi : Nat) : Nat :=
  let st := u.get Reg.EVR_STAT.STATE
  if st = 4 then 5 else if u.get Reg.EVR_CLR.CV % 2 ^ 32 + hi % 2 ^ 32 * 2 ^ 32 ≠ u.get Reg.EVR_LOGCV.VAL then 1 else if u.get Reg.WR_STAT.MAINT = 0 then 2
    else if u.svc.connected = false then 3 else if st ≠ 2 ∧ st ≠ 3 then 4 else 0

theorem Chip.clearReason_quoted (hi : Nat) : (u.quoted hi).clearReason = u.clearDenied hi := by
  unfold Chip.clearReason Chip.clearDenied Chip.evrState Chip.on
  rw [quoted_cv, quoted_get _ (by decide), quoted_get _ (by decide), quoted_get _ (by decide)]
  have hsvc : (u.quoted hi).svc = u.svc := put_svc ..
  rw [hsvc]
  simp

theorem Chip.evrClear_core {req : Nat} (hi : Nat) (hreq : 3 ≤ req ∧ req ≤ 6) : u.evrClear req hi =
    if (u.quoted hi).clearReason ≠ 0 then ((u.quoted hi).evrOwn 0x08 [(u.quoted hi).clearReason]).put Reg.EVR_CLR_STAT.RESULT ((u.quoted hi).clearReason + 1)
    else if (u.quoted hi).evr.clear.isSome then u.quoted hi
    else
      let v := if (u.quoted hi).evrState = 3 then (u.quoted hi).thawed else u.quoted hi
      (({ v with evr := { v.evr with clear := some ⟨(u.quoted hi).get Reg.EVR_CLR.CV, false, false, 0⟩ } }).put Reg.EVR_CLR_STAT.RESULT 0).evrTrigger false := by
  unfold Chip.evrClear
  dsimp only
  rw [if_neg (by simp [hreq])]
  rfl

theorem Chip.evrClear_other {req : Nat} (hi : Nat) (hreq : req = 7) : u.evrClear req hi =
    ((u.quoted hi).free.2.evrOwn 0x08 [(u.quoted hi).free.1]).put Reg.EVR_CLR_STAT.RESULT ((u.quoted hi).free.1 + 1) := by
  unfold Chip.evrClear
  dsimp only
  rw [if_pos (by simp [hreq])]
  rfl

/-- A clear is accepted. -/
theorem Chip.clearBegins_shows (c : EddyClear) (h : u.get Reg.EVR_STAT.STATE = 2) :
    let t := (({ u with evr := { u.evr with clear := some c } } : Chip).put Reg.EVR_CLR_STAT.RESULT 0).evrTrigger false
    t.get Reg.EVR_CLR_STAT.RESULT = 0 ∧ t.evr.clear = some c ∧ t.get Reg.EVR_STAT.STATE = 2 ∧ t.evr.trig = true := by
  intro t
  have hst : (({ u with evr := { u.evr with clear := some c } } : Chip).put Reg.EVR_CLR_STAT.RESULT 0).get Reg.EVR_STAT.STATE = 2 := (get_put_ne _ _ _ _ (by decide)).trans h
  have hevr : t.evr = { u.evr with clear := some c, trig := true, trigFault := u.evr.trigFault || false } := by
    unfold t
    rw [evrTrigger_evr, if_pos (.inl hst)]
    rfl
  exact ⟨(evrTrigger_get ..).trans (get_put_same ..), by rw [hevr], (evrTrigger_get ..).trans hst, by rw [hevr]⟩

/-- EVR_CLR_HI_WRITE (R507). -/
theorem completes_evrClrHiWrite (req hi : Nat) (hatt : s.chip.attends 0x445010C4 = true) :
     (req < 3 ∨ 7 < req → Completes (.evrClrHiWrite req hi) s (fun t => t.resp = .error ∧ t.evr = s.chip.evr)) ∧
     (req = 7 → Completes (.evrClrHiWrite req hi) s (fun t => t.resp = .ok ∧ t.evr.clear = s.chip.evr.clear ∧ t.get Reg.EVR_BASE.VAL = s.chip.get Reg.EVR_BASE.VAL)) ∧
     (3 ≤ req → req ≤ 6 → s.chip.clearDenied hi ≠ 0 → Completes (.evrClrHiWrite req hi) s (fun t => t.resp = .ok ∧
        t.get Reg.EVR_CLR_STAT.RESULT = s.chip.clearDenied hi + 1 ∧ t.evr.clear = s.chip.evr.clear)) ∧
     (3 ≤ req → req ≤ 6 → s.chip.clearDenied hi = 0 → s.chip.evr.clear = none → Completes (.evrClrHiWrite req hi) s (fun t => t.resp = .ok ∧ t.get Reg.EVR_CLR_STAT.RESULT = 0 ∧
       t.evr.clear = some ⟨s.chip.get Reg.EVR_CLR.CV % 2 ^ 32 + hi % 2 ^ 32 * 2 ^ 32, false, false, 0⟩ ∧ t.get Reg.EVR_STAT.STATE = 2 ∧ t.evr.trig = true)) := by
  obtain ⟨hbars, hreach⟩ := log_reach s.chip req
  have hadmit : 3 ≤ req ∧ req ≤ 7 → exec (.evrClrHiWrite req hi) s = s.become ((s.chip.evrClear req hi).answer .ok) := fun h => by
    rw [exec_evrClrHiWrite]
    exact congrArg s.become (atPage_attends s.chip req 0x445010C4 0xC4 true _ (by decide) hatt hbars (by rw [show pageOf 0x445010C4 + 0xC4 = 0x445010C4 by decide, hreach]; exact decide_eq_true h))
  have hquoted : (s.chip.quoted hi).evr = s.chip.evr := put_evr ..
  have hreason := clearReason_quoted (u := s.chip) hi
  have hcv := quoted_cv (u := s.chip) hi
  have hst : (s.chip.quoted hi).get Reg.EVR_STAT.STATE = s.chip.get Reg.EVR_STAT.STATE := quoted_get _ (by decide)
  have hbase : (s.chip.quoted hi).get Reg.EVR_BASE.VAL = s.chip.get Reg.EVR_BASE.VAL := quoted_get _ (by decide)
  refine ⟨fun h => ?_, fun h => ?_, fun h3 h6 hr => ?_, fun h3 h6 hr hc => ?_⟩
  · have hno : exec (.evrClrHiWrite req hi) s = s.become (s.chip.denied req ((fabricTarget req 0x445010C4).getD 15) 0x445010C4) := by
      obtain ⟨p, hp, -⟩ := logPage
      rw [exec_evrClrHiWrite]
      unfold Chip.atPage
      rw [hp, hbars, hreach, decide_eq_false (by omega)]
      rfl
    exact ⟨_, hno, rfl, denied_within.same .evr (by decide)⟩
  · have hfree := evrClear_other (u := s.chip) hi h
    have hf : (s.chip.quoted hi).free.2.evr = s.chip.evr := (free_evr _).trans hquoted
    have hfb : (s.chip.quoted hi).free.2.get Reg.EVR_BASE.VAL = s.chip.get Reg.EVR_BASE.VAL := (congrArg (Fld.read _) (free_regs _)).trans hbase
    refine ⟨_, hadmit (by omega), rfl, ?_⟩
    rw [hfree]
    generalize (s.chip.quoted hi).free = p at *
    have hg := evrOwn_grows (u := p.2) 0x08 [p.1]
    rw [answer_get, answer_evr, put_evr]
    exact ⟨hg.clear.trans (by rw [hf]), (get_put_ne _ _ _ _ (by decide)).trans ((hg.regs _ (by decide)).trans hfb)⟩
  · refine ⟨_, hadmit ⟨h3, by omega⟩, rfl, ?_⟩
    rw [evrClear_core hi ⟨h3, h6⟩, hreason, if_pos hr]
    have hlt : s.chip.clearDenied hi + 1 < 2 ^ 4 := by
      unfold Chip.clearDenied
      dsimp only
      split_ifs <;> decide
    generalize s.chip.quoted hi = v at *
    have hg := evrOwn_grows (u := v) 0x08 [s.chip.clearDenied hi]
    rw [answer_get, answer_evr, put_evr, get_put_same]
    exact ⟨Nat.mod_eq_of_lt hlt, hg.clear.trans (by rw [hquoted])⟩
  · refine ⟨_, hadmit ⟨h3, by omega⟩, rfl, ?_⟩
    have hrun : s.chip.get Reg.EVR_STAT.STATE = 2 ∨ s.chip.get Reg.EVR_STAT.STATE = 3 := by
      by_contra hn
      unfold Chip.clearDenied at hr
      dsimp only at hr
      split_ifs at hr
      omega
    rw [evrClear_core hi ⟨h3, h6⟩, hreason, if_neg (by simp [hr]), if_neg (by rw [hquoted, hc]; decide)]
    unfold Chip.evrState
    rw [hcv, hst]
    have hvst : (if s.chip.get Reg.EVR_STAT.STATE = 3 then (s.chip.quoted hi).thawed else s.chip.quoted hi).get Reg.EVR_STAT.STATE = 2 := by
      split
      · exact thawed_state _
      · rw [hst]
        omega
    generalize (if s.chip.get Reg.EVR_STAT.STATE = 3 then (s.chip.quoted hi).thawed else s.chip.quoted hi) = v at hvst ⊢
    generalize s.chip.get Reg.EVR_CLR.CV % 2 ^ 32 + hi % 2 ^ 32 * 2 ^ 32 = q
    rw [answer_get, answer_get, answer_evr]
    exact clearBegins_shows _ hvst

end

/-- Settles O49: the recorder's commands, the Spillway, the window and the clear. -/
theorem recorderCommands : Obligations.RecorderCommands := by
  unfold Obligations.RecorderCommands
  refine ⟨fun s hatt => ⟨completes_freeze hatt, fun h => completes_evrIgnored hatt rfl (congrArg (fun v : Chip => v.answer .ok) (if_neg h)), completes_unfreeze hatt,
      fun h => completes_evrIgnored hatt rfl (congrArg (fun v : Chip => v.answer .ok) (if_neg h)), completes_flush hatt,
      fun h2 h3 => completes_evrIgnored hatt rfl (congrArg (fun v : Chip => v.answer .ok) (if_neg (fun h => h.elim h2 h3))),
      fun h hok => completes_format hatt h (evrGeometryOk_iff.2 hok),
      fun h => completes_evrIgnored hatt rfl (congrArg (fun v : Chip => v.answer .ok) (if_neg fun hc => ?_))⟩,
    fun s h => ⟨_, if_pos h, rfl⟩, fun rest s h => ⟨fun hst => ?_, completes_spillwayStart h⟩,
    fun s => ⟨fun h => ?_, fun p hp => completes_spillwayIntakeClose hp⟩, fun i s hatt => completes_evrCursorWrite i hatt,
    fun s => ⟨fun h => ⟨_, if_pos (by simp [h]), rfl⟩, completes_windowFetchDone⟩, fun u r h => evrSelected_present h, fun s hatt => completes_evrWin15Read hatt,
    fun req hi s hatt => completes_evrClrHiWrite req hi hatt⟩
  · rcases h with h | h
    · exact h hc.1
    · exact h (evrGeometryOk_iff.1 hc.2)
  · exact ⟨_, exec_spillwayStart_idle (by rw [h]; rfl) (by tauto), rfl, rfl, by change s.chip.link.resetDown.drop 1 = rest; rw [h]; rfl⟩
  · refine ⟨s.chip, ?_, rfl⟩
    change execSpillwayIntakeClose s = _
    unfold execSpillwayIntakeClose
    dsimp only
    rw [h]
    rfl

end Sys2Proof.Machine
end

section
/-!
PROOFS. Record entry and the start of a flush (17 R487 to R493).
-/
namespace Sys2Proof.Machine
open Chip

section
variable {s : State} {u t : Chip}

/-! ### Triggers under record entry (Table 17.2) -/

/-- Record entry keeps a held trigger and never makes one a FAULT. -/
def Chip.TrigKept (u t : Chip) : Prop := (u.evr.trig = true → t.evr.trig = true) ∧ t.evr.trigFault = u.evr.trigFault

theorem Chip.evrStore_trig (e : Ev) : (u.evrStore e).evr.trig = u.evr.trig ∧ (u.evrStore e).evr.trigFault = u.evr.trigFault := by
  by_cases h : u.get Reg.EVR_CF.PEND < 4096
  · rw [evrStore_evr e h]
    exact ⟨rfl, rfl⟩
  · rw [evrStore_full e (by omega), eventLost_within.same .evr (by decide)]
    exact ⟨rfl, rfl⟩

theorem Chip.evrStore_state (e : Ev) : (u.evrStore e).get Reg.EVR_STAT.STATE = u.get Reg.EVR_STAT.STATE :=
  evrStore_get e (by decide) (by decide) (by decide) (by decide) (by decide)

theorem Chip.evrPlace_trigKept (e : Ev) : u.TrigKept (u.evrPlace e) := by
  obtain ⟨ht, hf⟩ := evrStore_trig (u := u) e
  unfold Chip.evrPlace
  split
  · unfold Chip.TrigKept
    rw [evrTrigger_evr]
    split
    · exact ⟨fun _ => rfl, by dsimp only; rw [Bool.or_false, hf]⟩
    · exact ⟨fun h => ht.trans h, hf⟩
  · exact ⟨fun h => ht.trans h, hf⟩

/-- An urgent source triggers a flush where the recorder takes triggers. -/
theorem Chip.evrPlace_urgent {e : Ev} (hu : u.evrUrgent e.src = true) (hst : 2 ≤ u.get Reg.EVR_STAT.STATE ∧ u.get Reg.EVR_STAT.STATE ≤ 4) :
    (u.evrPlace e).evr.trig = true := by
  unfold Chip.evrPlace
  rw [if_pos hu, evrTrigger_evr, evrStore_state, if_pos (by omega)]

theorem Chip.evrLift_trigKept (reason : Nat) : u.TrigKept (u.evrLift reason) := by
  by_cases h : u.get Reg.EVR_STAT.STATE = 3
  · obtain ⟨d, heq⟩ := evrLift_frozen (reason := reason) h
    obtain ⟨ht, hf⟩ := u.thawed.evrPlace_trigKept { src := 101, code := 0x04, data := [reason, d, u.thawed.get Reg.EVR_CF.PEND], stamp := u.thawed.weirTime, inj := false }
    rw [heq]
    unfold Chip.TrigKept
    rw [irq_evr]
    exact ⟨ht, hf⟩
  · rw [evrLift_none h]
    exact ⟨id, rfl⟩

theorem Chip.evrEnter_trigKept (e : Ev) : (u.evrPlace e).TrigKept (u.evrEnter e) ∧ u.TrigKept (u.evrEnter e) := by
  obtain ⟨ht, hf⟩ := evrPlace_trigKept (u := u) e
  have h : (u.evrPlace e).TrigKept (u.evrEnter e) := by
    unfold Chip.evrEnter
    dsimp only
    split
    · exact evrLift_trigKept 1
    · exact ⟨id, rfl⟩
  exact ⟨h, fun hu => h.1 (ht hu), h.2.trans hf⟩

/-! ### RECORD_ENTRY (R491, R500) -/

/-- The write port is free again. -/
def Chip.portTaken (u : Chip) : Chip := { u with evr := { u.evr with port := none } }

theorem exec_recordEntry {e : Ev} (hp : s.chip.evr.port = some e) (hr : s.chip.evrRefuses = false) : exec .recordEntry s = s.become (s.chip.portTaken.evrEnter e) := by
  change execRecordEntry s = _
  unfold execRecordEntry
  dsimp only
  rw [hp]
  dsimp only
  rw [hr]
  rfl

theorem Chip.room_of_takes (h : u.evrRefuses = false) : u.get Reg.EVR_CF.PEND < 4096 := by
  unfold Chip.evrRefuses at h
  simp only [Bool.or_eq_false_iff, decide_eq_false_iff_not] at h
  omega

/-- The fill limit lifts the freeze (R500). -/
theorem Chip.evrEnter_breaks (e : Ev) (hst : u.get Reg.EVR_STAT.STATE = 3) (hp : u.get Reg.EVR_CF.PEND = 3686) :
    (u.evrEnter e).get Reg.EVR_CF.PEND = 3688 ∧ (u.evrEnter e).get Reg.EVR_STAT.STATE = 2 ∧ ((u.evrEnter e).get (Reg.IRQ.RAW evrPage)).testBit 2 = true ∧
      ∃ d, (u.evrEnter e).OwnAt ((u.get Reg.EVR_CF.HEAD + 3687) % 4096) 4 [1, d, 3687] := by
  have hplaced : (u.evrPlace e).get Reg.EVR_CF.PEND = 3687 := by rw [evrPlace_get, evrStore_pend e (by omega), hp]
  have heq : u.evrEnter e = (u.evrPlace e).evrLift 1 := by
    unfold Chip.evrEnter
    dsimp only
    rw [if_pos ⟨by omega, hplaced⟩]
  have hhead := (evrPlace_grows (u := u) e).head
  obtain ⟨d, hlift⟩ := evrLift_frozen (u := u.evrPlace e) (reason := 1) ((evrPlace_state e).trans hst)
  rw [heq, hlift]
  rw [← hhead]
  generalize u.evrPlace e = v at *
  have hwp : v.thawed.get Reg.EVR_CF.PEND = 3687 := (thawed_get _ (by decide)).trans hplaced
  have hwh : v.thawed.get Reg.EVR_CF.HEAD = v.get Reg.EVR_CF.HEAD := thawed_get _ (by decide)
  have hws := v.thawed_state
  rw [hwp]
  generalize v.thawed = w at *
  obtain ⟨f, hf⟩ : ∃ f : Ev, f = { src := 101, code := 0x04, data := [1, d, 3687], stamp := w.weirTime, inj := false } := ⟨_, rfl⟩
  rw [← hf]
  have hslot := evrPlace_slot (u := w) f (by omega)
  unfold Chip.carafeAt at hslot
  rw [(evrPlace_grows f).head, hwp, hwh] at hslot
  refine ⟨?_, ?_, ?_, d, w.recOf f, ?_, ?_⟩
  · rw [irq_evr_get _ _ (by decide) (by decide), evrPlace_get, evrStore_pend f (by omega), hwp]
  · rw [irq_evr_get _ _ (by decide) (by decide), evrPlace_state, hws]
  · rw [testBit_irq _ _ _ _ (by decide)]
    simp
  · rw [irq_evr]
    exact hslot
  · rw [hf]
    exact ⟨rfl, rfl, rfl⟩

/-- RECORD_ENTRY (R491, R500). -/
theorem completes_recordEntry {e : Ev} (hport : s.chip.evr.port = some e) (htakes : s.chip.evrRefuses = false) :
    (let pend := s.chip.get Reg.EVR_CF.PEND
     let slot := (s.chip.get Reg.EVR_CF.HEAD + pend) % 4096
     let st := s.chip.get Reg.EVR_STAT.STATE
     Completes .recordEntry s (fun t => t.evr.port = none ∧ t.get Reg.EVR_CF.HEAD = s.chip.get Reg.EVR_CF.HEAD ∧
      (∃ r, t.evr.carafe.find? (fun x => x.1 == slot) = some (slot, r) ∧ r.ev = e ∧ r.time = (e.stamp * 10 + s.chip.get Reg.EVR_CALOFF.VAL) % 2 ^ 64 ∧
        r.tsrc = s.chip.get Reg.EVR_STAT.TSRC ∧ r.taken = false) ∧
      (st ≠ 3 ∨ pend ≠ 3686 → t.get Reg.EVR_CF.PEND = pend + 1 ∧ t.get Reg.EVR_STAT.STATE = st) ∧
      (st = 3 → pend = 3686 → t.get Reg.EVR_CF.PEND = 3688 ∧ t.get Reg.EVR_STAT.STATE = 2 ∧ (t.get (Reg.IRQ.RAW evrPage)).testBit 2 = true ∧
        ∃ r, t.evr.carafe.find? (fun x => x.1 == (slot + 1) % 4096) = some ((slot + 1) % 4096, r) ∧ r.ev.src = 101 ∧ r.ev.code = 4 ∧ r.ev.data.getD 0 0 = 1 ∧ r.ev.data.getD 2 0 = 3687) ∧
      (s.chip.evrUrgent e.src = true → 2 ≤ st → st ≤ 4 → t.evr.trig = true) ∧ t.evr.trigFault = s.chip.evr.trigFault)) := by
  have hroom := room_of_takes htakes
  have hget : ∀ f : Fld, s.chip.portTaken.get f = s.chip.get f := fun _ => rfl
  have hnone : s.chip.portTaken.evr.port = none := rfl
  have hfault : s.chip.portTaken.evr.trigFault = s.chip.evr.trigFault := rfl
  have hurg : s.chip.portTaken.evrUrgent e.src = s.chip.evrUrgent e.src := rfl
  refine ⟨_, exec_recordEntry hport htakes, ?_⟩
  simp only [← hget, ← hfault, ← hurg] at hroom ⊢
  generalize s.chip.portTaken = v at *
  have hg := evrEnter_grows (u := v) e
  have hslot := evrEnter_slot (u := v) e hroom
  unfold Chip.carafeAt at hslot
  rw [hg.head] at hslot
  have hportKept : (v.evrEnter e).evr.base.port = v.evr.base.port := by rw [hg.base]
  refine ⟨hportKept.trans hnone, hg.head, ⟨_, hslot, rfl, rfl, rfl, rfl⟩, fun h => ?_, fun h3 h6 => ?_, fun hu h2 h4 => ?_, (evrEnter_trigKept e).2.2⟩
  · rw [evrEnter_plain e h]
    exact ⟨by rw [evrPlace_get, evrStore_pend e hroom], evrPlace_state e⟩
  · obtain ⟨hp, hs, hraw, d, r, hr, hsrc, hcode, hdata⟩ := evrEnter_breaks e h3 h6
    refine ⟨hp, hs, hraw, r, ?_, hsrc, hcode, by rw [hdata]; rfl, by rw [hdata]; rfl⟩
    rw [h6, show ((v.get Reg.EVR_CF.HEAD + 3686) % 4096 + 1) % 4096 = (v.get Reg.EVR_CF.HEAD + 3687) % 4096 by omega]
    exact hr
  · exact (evrEnter_trigKept e).1.1 (evrPlace_urgent hu ⟨h2, h4⟩)

/-! ### FLUSH_HALF and FLUSH_TIMER (R492) -/

theorem completes_flushHalf (hhalf : s.chip.evr.half = true) (hst : s.chip.get Reg.EVR_STAT.STATE = 2) :
    Completes .flushHalf s (fun t => t.evr.half = false ∧ t.evr.trig = true ∧ (t.get (Reg.IRQ.RAW evrPage)).testBit 1 = true) := by
  obtain ⟨v, hv⟩ : ∃ v : Chip, v = { s.chip with evr := { s.chip.evr with half := false } } := ⟨_, rfl⟩
  have hexec : exec .flushHalf s = s.become ((v.irq evrPage 1).evrTrigger false) := by
    rw [hv]
    exact congrArg s.become (if_pos hhalf)
  have hvst : v.get Reg.EVR_STAT.STATE = 2 := by rw [hv]; exact hst
  have hvh : v.evr.half = false := by rw [hv]
  refine ⟨_, hexec, ?_⟩
  dsimp only
  rw [evrTrigger_get, evrTrigger_evr, irq_evr_get _ _ (by decide) (by decide), if_pos (.inl hvst), irq_evr, testBit_irq _ _ _ _ (by decide)]
  exact ⟨hvh, rfl, by simp⟩

theorem completes_flushTimer (hp : 0 < s.chip.get Reg.EVR_CF.PEND) (hst : s.chip.get Reg.EVR_STAT.STATE = 2) :
    Completes .flushTimer s (fun t => t.evr.trig = true ∧ t.now = max s.chip.now (s.chip.evr.lastFlush + sec 1)) := by
  have hexec : exec .flushTimer s = s.become ((s.chip.until (s.chip.evr.lastFlush + sec 1)).evrTrigger false) := congrArg s.become (if_pos hp)
  have hnow := until_now s.chip (s.chip.evr.lastFlush + sec 1)
  have hvst : (s.chip.until (s.chip.evr.lastFlush + sec 1)).get Reg.EVR_STAT.STATE = 2 := (congrArg (Fld.read _) (until_regs ..)).trans hst
  rw [← hnow]
  refine ⟨_, hexec, ?_⟩
  generalize s.chip.until (s.chip.evr.lastFlush + sec 1) = v at *
  rw [evrTrigger_evr, if_pos (.inl hvst)]
  exact ⟨rfl, congrArg Prod.fst (evrTrigger_still ..)⟩

/-! ### FLUSH_START (R489, R492) -/

theorem completes_flushStart_idle (h : s.chip.evr.trig = false ∨ s.chip.evr.flush.isSome ∨ (s.chip.get Reg.EVR_STAT.STATE ≠ 2 ∧ s.chip.get Reg.EVR_STAT.STATE ≠ 4)) :
    Completes .flushStart s (fun t => t = s.chip) := by
  have hidle : s.chip.evrFlushStart = s.chip := by
    unfold Chip.evrFlushStart Chip.evrState
    dsimp only
    rw [if_pos]
    rcases h with h | h | ⟨h2, h4⟩
    · simp [h]
    · simp [h]
    · simp [h2, h4]
  refine ⟨s.chip, ?_, rfl⟩
  change execFlushStart s = _
  unfold execFlushStart
  rw [hidle]
  dsimp only
  split
  · rename_i hf hf'
    exact absurd (hf.symm.trans hf') (by simp)
  · rfl

/-- A list of which every entry is taken. -/
theorem filterMap_all {α β : Type} {f : α → Option β} {l : List α} (h : ∀ x ∈ l, (f x).isSome = true) :
    (l.filterMap f).length = l.length ∧ ∀ i : Nat, (l.filterMap f)[i]? = (l[i]? : Option α).bind f := by
  induction l with
  | nil => exact ⟨rfl, fun i => by simp⟩
  | cons x l ih =>
    obtain ⟨hx, hl⟩ := List.forall_mem_cons.1 h
    obtain ⟨hlen, hget⟩ := ih hl
    obtain ⟨y, hy⟩ := Option.isSome_iff_exists.1 hx
    rw [List.filterMap_cons_some hy]
    refine ⟨by simp [hlen], fun i => ?_⟩
    cases i with
    | zero => simp [hy]
    | succ i => simpa using hget i

/-- The records of a flush: every pending record, with SEQ and PCC. -/
def Chip.takenRecs (u : Chip) : List (Nat × Rec) :=
  u.pendingRecs.zipIdx.map (fun (e : (Nat × Rec) × Nat) => (e.1.1, { e.1.2 with seq := (u.get Reg.EVR_SEQ.VAL + e.2) % 2 ^ 32, pcc := u.get Reg.EVR_PCC.VAL, taken := true }))

theorem Chip.takenRecs_shows (h : ∀ i, i < u.get Reg.EVR_CF.PEND → (u.evr.carafe.find? (fun e => e.1 == (u.get Reg.EVR_CF.HEAD + i) % 4096)).isSome) :
    (u.takenRecs.map (·.2)).length = u.get Reg.EVR_CF.PEND ∧ ∀ (i : Nat) (r : Rec), (u.takenRecs.map (·.2))[i]? = some r →
      r.seq = (u.get Reg.EVR_SEQ.VAL + i) % 2 ^ 32 ∧ r.pcc = u.get Reg.EVR_PCC.VAL ∧ r.taken = true ∧
      ∃ q, u.evr.carafe.find? (fun e => e.1 == (u.get Reg.EVR_CF.HEAD + i) % 4096) = some q ∧ q.2.ev = r.ev ∧ q.2.time = r.time := by
  obtain ⟨hlen, hget⟩ := filterMap_all (l := List.range (u.get Reg.EVR_CF.PEND)) (f := fun i =>
    (u.evr.carafe.find? (fun e => e.1 == (u.get Reg.EVR_CF.HEAD + i) % 4096)).map (fun e => ((u.get Reg.EVR_CF.HEAD + i) % 4096, e.2)))
    (fun i hi => by simpa using h i (List.mem_range.1 hi))
  change u.pendingRecs.length = _ at hlen
  change ∀ i, u.pendingRecs[i]? = _ at hget
  unfold Chip.takenRecs
  refine ⟨by simpa using hlen, fun i r hr => ?_⟩
  simp only [List.getElem?_map, List.getElem?_zipIdx, hget, Option.map_map, Option.map_eq_some_iff, Option.bind_eq_some_iff] at hr
  obtain ⟨⟨k, q⟩, ⟨j, hj, p, hp, hpq⟩, hr⟩ := hr
  obtain rfl : i = j := by
    have hi : i < u.get Reg.EVR_CF.PEND := by
      by_contra hn
      rw [List.getElem?_eq_none (by simpa using hn)] at hj
      exact absurd hj (by simp)
    simpa [List.getElem?_range hi] using hj
  obtain ⟨-, rfl⟩ := Prod.mk.inj hpq
  subst hr
  exact ⟨by simp, rfl, rfl, p, hp, rfl, rfl⟩

/-- The flush that takes every pending record. -/
def Chip.flushOf (u : Chip) : Flush :=
  { eddy := u.takenRecs.map (·.2), hw := if decide (u.get Reg.EVR_STAT.STATE = 4) then [] else u.hwPart (u.takenRecs.map (·.2)), fault := u.evr.trigFault }

theorem Chip.evrFlushStart_run (htrig : u.evr.trig = true) (hflush : u.evr.flush = none) (hst : u.get Reg.EVR_STAT.STATE = 2)
    (hclear : ∀ c, u.evr.clear = some c → c.step2 = false) : ∃ e : Recorder, e.trig = false ∧ e.lastFlush = u.now ∧ e.flush = some u.flushOf ∧
    u.evrFlushStart = ({ u with evr := e } : Chip).put Reg.EVR_SEQ.VAL (u.get Reg.EVR_SEQ.VAL + (u.takenRecs.map (·.2)).length) := by
  have hbusy : (match u.evr.clear with
    | some c => c.step2
    | none => false) = false := by
    split
    · exact hclear _ ‹_›
    · rfl
  unfold Chip.evrFlushStart
  extract_lets busy seq pcc taken recs v spilling sp f car cl v' w
  have hno : ¬ ((!u.evr.trig || u.evr.flush.isSome || busy || !(u.evrState == 2 || (u.evrState == 4 && u.evr.recovered))) = true) := by
    rw [show busy = false from hbusy, htrig, hflush, show u.evrState = 2 from hst]
    simp
  rw [if_neg hno]
  exact ⟨v', rfl, rfl, rfl, rfl⟩

theorem Chip.mem_hwPart (l : List Rec) (r : Rec) : r ∈ u.hwPart l ↔ r ∈ l ∧ u.get Reg.EVR_STAT.HW_FULL = 0 ∧ r.seq < u.get Reg.EVR_N.VAL := by
  unfold Chip.hwPart Chip.on
  by_cases h : u.get Reg.EVR_STAT.HW_FULL = 0
  · simp [h]
  · simp [h]

/-- FLUSH_START in RUN (R489, R492). -/
theorem completes_flushStart (htrig : s.chip.evr.trig = true) (hflush : s.chip.evr.flush = none) (hst : s.chip.get Reg.EVR_STAT.STATE = 2)
    (hclear : ∀ c, s.chip.evr.clear = some c → c.step2 = false) (hp : 0 < s.chip.get Reg.EVR_CF.PEND)
    (hall : ∀ i, i < s.chip.get Reg.EVR_CF.PEND → (s.chip.evr.carafe.find? (fun e => e.1 == (s.chip.get Reg.EVR_CF.HEAD + i) % 4096)).isSome) :
    Completes .flushStart s (fun t => t.evr.trig = false ∧ t.evr.lastFlush = s.chip.now ∧ t.get Reg.EVR_SEQ.VAL = (s.chip.get Reg.EVR_SEQ.VAL + s.chip.get Reg.EVR_CF.PEND) % 2 ^ 32 ∧
      t.get Reg.EVR_CF.PEND = s.chip.get Reg.EVR_CF.PEND ∧
      ∃ f, t.evr.flush = some f ∧ f.fault = s.chip.evr.trigFault ∧ f.eddy.length = s.chip.get Reg.EVR_CF.PEND ∧
        (∀ (i : Nat) (r : Rec), f.eddy[i]? = some r → r.seq = (s.chip.get Reg.EVR_SEQ.VAL + i) % 2 ^ 32 ∧ r.pcc = s.chip.get Reg.EVR_PCC.VAL ∧ r.taken = true ∧
          ∃ q, s.chip.evr.carafe.find? (fun e => e.1 == (s.chip.get Reg.EVR_CF.HEAD + i) % 4096) = some q ∧ q.2.ev = r.ev ∧ q.2.time = r.time) ∧
        (∀ r, r ∈ f.hw ↔ r ∈ f.eddy ∧ s.chip.get Reg.EVR_STAT.HW_FULL = 0 ∧ r.seq < s.chip.get Reg.EVR_N.VAL)) := by
  obtain ⟨e, he, hlast, hf, heq⟩ := s.chip.evrFlushStart_run htrig hflush hst hclear
  obtain ⟨hlen, hrecs⟩ := s.chip.takenRecs_shows hall
  rw [hlen] at heq
  have hproceed : ∀ v : Chip, v.evrProceed s.chip.flushOf = { v with evr := { v.evr with flush := some s.chip.flushOf } } := fun v => by
    refine if_neg (fun h => ?_)
    have hnil : (s.chip.takenRecs.map (·.2)) = [] := h.1
    rw [hnil] at hlen
    exact absurd hlen (by simpa using Nat.ne_of_lt hp)
  have hexec : ∀ v : Chip, s.chip.evrFlushStart = v → v.evr.flush = some s.chip.flushOf → exec .flushStart s = s.become (v.evrProceed s.chip.flushOf) := fun v hv hvf => by
    change execFlushStart s = _
    unfold execFlushStart
    rw [hv]
    dsimp only
    rw [hflush, hvf]
  have hseq := get_put_same ({ s.chip with evr := e } : Chip) Reg.EVR_SEQ.VAL (s.chip.get Reg.EVR_SEQ.VAL + s.chip.get Reg.EVR_CF.PEND)
  have hpend : (({ s.chip with evr := e } : Chip).put Reg.EVR_SEQ.VAL (s.chip.get Reg.EVR_SEQ.VAL + s.chip.get Reg.EVR_CF.PEND)).get Reg.EVR_CF.PEND =
    s.chip.get Reg.EVR_CF.PEND := get_put_ne _ _ _ _ (by decide)
  have hevr : (({ s.chip with evr := e } : Chip).put Reg.EVR_SEQ.VAL (s.chip.get Reg.EVR_SEQ.VAL + s.chip.get Reg.EVR_CF.PEND)).evr = e := put_evr ..
  rw [← heq] at hseq hpend hevr
  have hrun := hexec _ rfl (by rw [hevr, hf])
  rw [hproceed] at hrun
  refine ⟨_, hrun, ?_⟩
  generalize s.chip.evrFlushStart = v at *
  refine ⟨by rw [hevr]; exact he, by rw [hevr]; exact hlast, hseq, hpend, s.chip.flushOf, rfl, rfl, hlen, hrecs, fun r => ?_⟩
  have hhw : s.chip.flushOf.hw = s.chip.hwPart (s.chip.takenRecs.map (·.2)) := if_neg (by simp [hst])
  rw [hhw]
  exact mem_hwPart _ r

end
end Sys2Proof.Machine
end

section
/-!
PROOFS. Sector writes, failed writes and the recovery of the log (17 R493 to R498, R508).
-/
namespace Sys2Proof.Machine
open Chip

section
variable {s : State} {u t : Chip}

/-! ### Sectors -/

theorem leadSector_cons (slot : Rec → Nat) (r : Rec) (l : List Rec) : ∃ n ≤ (l.takeWhile (fun x => slot x / 8 == slot r / 8 && decide (slot r < slot x))).length,
    leadSector slot (r :: l) = (r :: l.take n, l.drop n) := ⟨_, le_rfl, rfl⟩

/-- The leading records lie in one sector, and the others follow. -/
theorem leadSector_shows (slot : Rec → Nat) {l : List Rec} (h : l ≠ []) :
    (leadSector slot l).1 ++ (leadSector slot l).2 = l ∧ (∀ x ∈ (leadSector slot l).1, ∀ y ∈ (leadSector slot l).1, slot x / 8 = slot y / 8) ∧
      ∃ last, (leadSector slot l).1.getLast? = some last := by
  cases l with
  | nil => exact absurd rfl h
  | cons r l =>
    obtain ⟨n, hn, heq⟩ := leadSector_cons slot r l
    rw [heq]
    have hsame : ∀ x ∈ r :: l.take n, slot x / 8 = slot r / 8 := by
      intro x hx
      rcases List.mem_cons.1 hx with rfl | hx
      · rfl
      · have hpre : l.take n <+: l.takeWhile (fun x => slot x / 8 == slot r / 8 && decide (slot r < slot x)) :=
          List.prefix_of_prefix_length_le (List.take_prefix n l) (List.takeWhile_prefix _) ((List.length_take_le n l).trans hn)
        have := List.mem_takeWhile_imp (hpre.subset hx)
        simp only [Bool.and_eq_true, beq_iff_eq] at this
        exact this.1
    exact ⟨by simp, fun x hx y hy => (hsame x hx).trans (hsame y hy).symm, _, List.getLast?_eq_some_getLast (List.cons_ne_nil _ _)⟩

theorem find_foldl_assocPut_ne (l : List Rec) (slot : Rec → Nat) (m : List (Nat × Rec)) {j : Nat} (h : ∀ x ∈ l, slot x ≠ j) :
    ((l.map (fun r => (slot r, r))).foldl (fun m e => assocPut m e.1 e.2) m).find? (fun e => e.1 == j) = m.find? (fun e => e.1 == j) := by
  induction l generalizing m with
  | nil => rfl
  | cons x l ih =>
    obtain ⟨hx, hl⟩ := List.forall_mem_cons.1 h
    rw [List.map_cons, List.foldl_cons, ih _ hl, find_assocPut_ne _ _ (Ne.symm hx)]

/-- A record whose slot no other record of the sector takes stands there afterwards. -/
theorem find_writeSector (slot : Rec → Nat) (m : List (Nat × Rec)) {l : List Rec} {r : Rec} (hr : r ∈ l) (honly : ∀ x ∈ l, slot x = slot r → x = r) :
    (writeSector m (l.map (fun r => (slot r, r)))).find? (fun e => e.1 == slot r) = some (slot r, r) := by
  have hfold : ∀ (l : List Rec) (m : List (Nat × Rec)), r ∈ l → (∀ x ∈ l, slot x = slot r → x = r) →
      ((l.map (fun r => (slot r, r))).foldl (fun m e => assocPut m e.1 e.2) m).find? (fun e => e.1 == slot r) = some (slot r, r) := by
    intro l
    induction l with
    | nil => exact fun m hr => absurd hr (by simp)
    | cons x l ih =>
      intro m hr honly
      obtain ⟨hx, hl⟩ := List.forall_mem_cons.1 honly
      rw [List.map_cons, List.foldl_cons]
      by_cases hrl : r ∈ l
      · exact ih _ hrl hl
      · obtain rfl : r = x := (List.mem_cons.1 hr).resolve_right hrl
        rw [find_foldl_assocPut_ne _ _ _ (fun y hy hslot => hrl (hl y hy hslot ▸ hy))]
        exact find_assocPut_same ..
  cases l with
  | nil => exact absurd hr (by simp)
  | cons x l => exact hfold (x :: l) _ hr honly

/-! ### A sector of Eddy (R493, R506) -/

/-- The slots of committed records are free. -/
def Chip.slotsFreed (u : Chip) (n : Nat) : Chip :=
  (u.put Reg.EVR_CF.HEAD ((u.get Reg.EVR_CF.HEAD + n) % 4096)).put Reg.EVR_CF.PEND (u.get Reg.EVR_CF.PEND - n)

theorem Chip.slotsFreed_shows (n : Nat) : (u.slotsFreed n).get Reg.EVR_CF.PEND = u.get Reg.EVR_CF.PEND - n ∧
    (u.slotsFreed n).get Reg.EVR_CF.HEAD = (u.get Reg.EVR_CF.HEAD + n) % 4096 := by
  unfold Chip.slotsFreed
  have hp : u.get Reg.EVR_CF.PEND < 8192 := u.get_lt Reg.EVR_CF.PEND
  rw [get_put_same, get_put_ne _ _ _ _ (by decide), get_put_same]
  exact ⟨Nat.mod_eq_of_lt (by change _ < 8192; omega), Nat.mod_eq_of_lt (by change _ < 4096; omega)⟩

theorem Chip.slotsFreed_get (n : Nat) {f : Fld} (h1 : Reg.EVR_CF.HEAD.key ≠ f.key) (h2 : Reg.EVR_CF.PEND.key ≠ f.key) : (u.slotsFreed n).get f = u.get f :=
  (get_put_ne _ _ _ _ h2).trans (get_put_ne _ _ _ _ h1)

/-- The log check value with `r` as the highest committed record (R506). -/
def Chip.logCheck (u : Chip) (r : Rec) : Nat := crcOf crc64 (leBytes 4 (u.get Reg.EVR_PCC.VAL) ++ leBytes 4 (u.get Reg.EVR_BASE.VAL) ++
      leBytes 4 r.seq ++ leBytes 4 r.crc ++ leBytes 4 (u.get Reg.EVR_HWFILL.VAL))

theorem Chip.evrCheck_some {r : Rec} (h : u.evr.committed = some r) : u.evrCheck = u.put Reg.EVR_LOGCV.VAL (u.logCheck r) := by
  unfold Chip.evrCheck
  rw [h]
  rfl

/-- The recorder after a sector write: its last record is committed. -/
def Chip.committedWith (u : Chip) (recs : List Rec) : Chip :=
  { u with evr := { u.evr with committed := recs.getLast?, spill := u.evr.spill.map (fun p => { p with written := p.written + recs.length }) } }

theorem Chip.evrCommit_eq (recs : List Rec) : u.evrCommit recs =
    (((u.modLog (fun l => { l with eddy := writeSector l.eddy (recs.map (fun r => (u.eddySlot r, r))) })).slotsFreed recs.length).committedWith recs).evrCheck := rfl

theorem Chip.evrCommit_shows {recs : List Rec} {last : Rec} (hlast : recs.getLast? = some last) :
    (u.evrCommit recs).get Reg.EVR_CF.PEND = u.get Reg.EVR_CF.PEND - recs.length ∧ (u.evrCommit recs).get Reg.EVR_CF.HEAD = (u.get Reg.EVR_CF.HEAD + recs.length) % 4096 ∧
      (u.evrCommit recs).get Reg.EVR_LOGCV.VAL = u.logCheck last % 2 ^ 64 ∧ (u.evrCommit recs).evr.tries = u.evr.tries ∧
      (u.evrCommit recs).log.eddy = writeSector u.log.eddy (recs.map (fun r => (u.eddySlot r, r))) := by
  rw [evrCommit_eq]
  have hget : ∀ f, (u.modLog (fun l => { l with eddy := writeSector l.eddy (recs.map (fun r => (u.eddySlot r, r))) })).get f = u.get f := fun _ => rfl
  have htries : (u.modLog (fun l => { l with eddy := writeSector l.eddy (recs.map (fun r => (u.eddySlot r, r))) })).evr.tries = u.evr.tries := rfl
  have hlog := congrArg EmmcLog.eddy (log_modLog (u := u) (fun l => { l with eddy := writeSector l.eddy (recs.map (fun r => (u.eddySlot r, r))) }))
  generalize u.modLog (fun l => { l with eddy := writeSector l.eddy (recs.map (fun r => (u.eddySlot r, r))) }) = v at *
  obtain ⟨hp, hh⟩ := slotsFreed_shows (u := v) recs.length
  have hother := fun f => slotsFreed_get (u := v) recs.length (f := f)
  have hevr : (v.slotsFreed recs.length).evr = v.evr := (put_evr ..).trans (put_evr ..)
  rw [hget] at hp hh
  generalize v.slotsFreed recs.length = w at *
  have hcget : ∀ f, (w.committedWith recs).get f = w.get f := fun _ => rfl
  have hcom : (w.committedWith recs).evr.committed = some last := hlast
  have hctries : (w.committedWith recs).evr.tries = w.evr.tries := rfl
  have hclog : (w.committedWith recs).log = w.log := rfl
  have hcheck : (w.committedWith recs).logCheck last = u.logCheck last := by
    unfold Chip.logCheck
    rw [hcget, hcget, hcget, hother _ (by decide) (by decide), hother _ (by decide) (by decide), hother _ (by decide) (by decide), hget, hget, hget]
  rw [evrCheck_some hcom, hcheck]
  generalize w.committedWith recs = x at *
  refine ⟨?_, ?_, get_put_same .., ?_, ?_⟩
  · rw [get_put_ne _ _ _ _ (by decide), hcget, hp]
  · rw [get_put_ne _ _ _ _ (by decide), hcget, hh]
  · rw [put_evr, hctries, hevr, htries]
  · refine Eq.trans ?_ hlog
    unfold Chip.log at hclog ⊢
    rw [put_evr, hclog, hevr]

/-- The first attempt of the next write. -/
def Chip.triesOver (u : Chip) : Chip := { u with evr := { u.evr with tries := 0 } }

theorem exec_emmcWriteDone_eddy {f : Flush} (hf : s.chip.evr.flush = some f) (hne : f.eddy ≠ []) : exec .emmcWriteDone s =
    s.become ((s.chip.triesOver.evrCommit (leadSector s.chip.eddySlot f.eddy).1).evrProceed { f with eddy := (leadSector s.chip.eddySlot f.eddy).2 }) := by
  have hslot : s.chip.triesOver.eddySlot = s.chip.eddySlot := rfl
  have hfl : s.chip.triesOver.evr.flush = some f := hf
  rw [← hslot]
  change execEmmcWriteDone s = _
  unfold execEmmcWriteDone
  change (match s.chip.triesOver.evr.flush, s.chip.triesOver.evr.clear with
    | some f, _ => _
    | none, some c => _
    | none, none => _) = _
  rw [hfl]
  exact if_pos hne

/-- EMMC_WRITE_DONE of an Eddy sector, with more of the flush to follow (R493, R506). -/
theorem completes_emmcWriteDone_eddy {f : Flush} (hf : s.chip.evr.flush = some f) (hne : f.eddy ≠ []) {last : Rec}
    (hlast : (leadSector s.chip.eddySlot f.eddy).1.getLast? = some last) (hmore : (leadSector s.chip.eddySlot f.eddy).2 ≠ [] ∨ f.hw ≠ []) :
    (let p := leadSector s.chip.eddySlot f.eddy
     Completes .emmcWriteDone s (fun t => t.evr.flush = some { f with eddy := p.2 } ∧ t.evr.tries = 0 ∧
      t.get Reg.EVR_CF.PEND = s.chip.get Reg.EVR_CF.PEND - p.1.length ∧ t.get Reg.EVR_CF.HEAD = (s.chip.get Reg.EVR_CF.HEAD + p.1.length) % 4096 ∧
      (∀ r ∈ p.1, (∀ x ∈ p.1, s.chip.eddySlot x = s.chip.eddySlot r → x = r) → t.log.eddy.find? (fun e => e.1 == s.chip.eddySlot r) = some (s.chip.eddySlot r, r)) ∧
      t.get Reg.EVR_LOGCV.VAL = crcOf crc64 (leBytes 4 (s.chip.get Reg.EVR_PCC.VAL) ++ leBytes 4 (s.chip.get Reg.EVR_BASE.VAL) ++ leBytes 4 last.seq ++ leBytes 4 last.crc ++
        leBytes 4 (s.chip.get Reg.EVR_HWFILL.VAL)) % 2 ^ 64)) := by
  intro p
  have hexec := exec_emmcWriteDone_eddy hf hne
  have hproceed : ∀ v : Chip, v.evrProceed { f with eddy := (leadSector s.chip.eddySlot f.eddy).2 } =
      { v with evr := { v.evr with flush := some { f with eddy := (leadSector s.chip.eddySlot f.eddy).2 } } } := fun v =>
    if_neg (fun h => hmore.elim (fun hn => hn h.1) (fun hn => hn h.2.1))
  rw [hproceed] at hexec
  obtain ⟨hp, hh, hcv, htries, hlog⟩ := evrCommit_shows (u := s.chip.triesOver) hlast
  have hget : ∀ x, s.chip.triesOver.get x = s.chip.get x := fun _ => rfl
  have hslot : s.chip.triesOver.eddySlot = s.chip.eddySlot := rfl
  have hcheck : s.chip.triesOver.logCheck last = s.chip.logCheck last := rfl
  have hzero : s.chip.triesOver.evr.tries = 0 := rfl
  rw [hget] at hp hh
  rw [hcheck] at hcv
  rw [hslot] at hlog
  refine ⟨_, hexec, ?_⟩
  generalize s.chip.triesOver.evrCommit (leadSector s.chip.eddySlot f.eddy).1 = v at *
  refine ⟨rfl, htries.trans hzero, hp, hh, fun r hr honly => ?_, hcv⟩
  change v.log.eddy.find? _ = _
  rw [hlog]
  exact find_writeSector _ _ hr honly

/-! ### A sector of Headwater (R497) -/

/-- What the end of a flush and the next part of the Spillway keep of the log and its registers. -/
structure LogStays (u t : Chip) : Prop where
  fill : t.get Reg.EVR_HWFILL.VAL = u.get Reg.EVR_HWFILL.VAL
  full : t.get Reg.EVR_STAT.HW_FULL = u.get Reg.EVR_STAT.HW_FULL
  result : t.get Reg.EVR_CLR_STAT.RESULT = u.get Reg.EVR_CLR_STAT.RESULT
  raw : ∀ b < 31, (u.get (Reg.IRQ.RAW evrPage)).testBit b = true → (t.get (Reg.IRQ.RAW evrPage)).testBit b = true
  log : t.log = u.log

theorem LogStays.rfl : LogStays u u := ⟨.refl _, .refl _, .refl _, fun _ _ h => h, .refl _⟩

theorem LogStays.trans {v : Chip} (h1 : LogStays u v) (h2 : LogStays v t) : LogStays u t :=
  ⟨h2.fill.trans h1.fill, h2.full.trans h1.full, h2.result.trans h1.result, fun b hb h => h2.raw b hb (h1.raw b hb h), h2.log.trans h1.log⟩

theorem LogStays.of_put {f : Fld} {x : Nat} (hf : ∀ g ∈ [Reg.EVR_HWFILL.VAL, Reg.EVR_STAT.HW_FULL, Reg.EVR_CLR_STAT.RESULT, Reg.IRQ.RAW evrPage], f.key ≠ g.key) :
    LogStays u (u.put f x) := by
  simp only [List.forall_mem_cons] at hf
  obtain ⟨h1, h2, h3, h4, -⟩ := hf
  exact ⟨get_put_ne _ _ _ _ h1, get_put_ne _ _ _ _ h2, get_put_ne _ _ _ _ h3, fun b _ h => by rwa [get_put_ne _ _ _ _ h4], by unfold Chip.log; rw [put_evr]⟩

theorem LogStays.of_evr {e : Recorder} (h1 : e.logs = u.evr.logs) (h2 : e.lba = u.evr.lba) : LogStays u { u with evr := e } :=
  ⟨.refl _, .refl _, .refl _, fun _ _ h => h, by unfold Chip.log; dsimp only; rw [h1, h2]⟩

theorem LogStays.of_irq {b : Nat} : LogStays u (u.irq evrPage b) :=
  ⟨irq_evr_get _ _ (by decide) (by decide), irq_evr_get _ _ (by decide) (by decide), irq_evr_get _ _ (by decide) (by decide),
    fun k hk h => by rw [testBit_irq _ _ _ _ hk, h, Bool.true_or], by unfold Chip.log; rw [irq_evr]⟩

theorem Chip.evrCheck_logStays : LogStays u u.evrCheck := by
  unfold Chip.evrCheck
  split
  · exact .rfl
  · exact .of_put (by decide)

theorem Chip.captureFlushed_logStays : LogStays u u.captureFlushed := by
  unfold Chip.captureFlushed
  split
  · exact LogStays.trans (v := { u with flt := { u.flt with entryAt := none } }) ⟨.refl _, .refl _, .refl _, fun _ _ h => h, .refl _⟩ (.of_put (by decide))
  · exact .rfl

theorem Chip.retFlush_logStays : LogStays u u.retFlush := ⟨.refl _, .refl _, .refl _, fun _ _ h => h, .refl _⟩

theorem Chip.spillNext_logStays : LogStays u u.spillNext := by
  unfold Chip.spillNext
  split
  · exact .rfl
  · split_ifs
    · exact .rfl
    · exact .of_evr (.refl _) (.refl _)
    · exact .rfl
    · exact .of_evr (.refl _) (.refl _)
    · dsimp only
      refine LogStays.trans ?_ (LogStays.of_put (f := Reg.EVR_SEQ.VAL) (by decide))
      refine LogStays.trans ?_ retFlush_logStays
      exact .of_evr (.refl _) (.refl _)

theorem Chip.evrFlushEnd_logStays (f : Flush) : LogStays u (u.evrFlushEnd f) := by
  unfold Chip.evrFlushEnd
  extract_lets _ v w
  have hv : LogStays u v := (LogStays.of_evr (e := { u.evr with flush := none }) (.refl _) (.refl _)).trans .of_irq
  have hw : LogStays u w := by
    refine hv.trans ?_
    unfold w
    split
    · exact captureFlushed_logStays
    · exact .rfl
  clear_value w
  clear hv
  clear_value v
  split
  · split
    · exact hw
    · refine hw.trans (.trans ?_ evrCheck_logStays)
      refine LogStays.trans ?_ (LogStays.of_put (f := Reg.EVR_BASE.VAL) (by decide))
      exact .of_evr (.refl _) (.refl _)
  · exact hw.trans spillNext_logStays

theorem Chip.evrProceed_logStays (f : Flush) : LogStays u (u.evrProceed f) := by
  unfold Chip.evrProceed
  split
  · exact evrFlushEnd_logStays f
  · exact .of_evr (.refl _) (.refl _)

theorem exec_emmcWriteDone_headwater {f : Flush} (hf : s.chip.evr.flush = some f) (hnil : f.eddy = []) (hne : f.hw ≠ []) : exec .emmcWriteDone s =
    s.become ((s.chip.triesOver.evrHeadwater (leadSector (fun r => r.seq) f.hw).1).evrProceed { f with hw := (leadSector (fun r => r.seq) f.hw).2 }) := by
  have hfl : s.chip.triesOver.evr.flush = some f := hf
  change execEmmcWriteDone s = _
  unfold execEmmcWriteDone
  change (match s.chip.triesOver.evr.flush, s.chip.triesOver.evr.clear with
    | some f, _ => _
    | none, some c => _
    | none, none => _) = _
  rw [hfl]
  exact (if_neg (not_not.2 hnil)).trans (if_pos hne)

theorem foldl_max_init (l : List Rec) (a b : Nat) : l.foldl (fun m r => max m (r.seq + 1)) (max a b) = max a (l.foldl (fun m r => max m (r.seq + 1)) b) := by
  induction l generalizing b with
  | nil => rfl
  | cons r l ih => rw [List.foldl_cons, List.foldl_cons, max_assoc, ih]

theorem foldl_max_le (l : List Rec) (a n : Nat) (ha : a ≤ n) (hl : ∀ r ∈ l, r.seq < n) : l.foldl (fun m r => max m (r.seq + 1)) a ≤ n := by
  induction l generalizing a with
  | nil => exact ha
  | cons r l ih =>
    obtain ⟨hr, hl⟩ := List.forall_mem_cons.1 hl
    exact ih _ (max_le ha hr) hl

/-- How far Headwater is filled after a sector with these records. -/
def Chip.hwFill (u : Chip) (recs : List Rec) : Nat := recs.foldl (fun m r => max m (r.seq + 1)) (u.get Reg.EVR_HWFILL.VAL)

theorem Chip.evrHeadwater_eq (recs : List Rec) : u.evrHeadwater recs =
    let v := ((u.modLog (fun l => { l with headwater := writeSector l.headwater (recs.map (fun r => (r.seq, r))) })).put Reg.EVR_HWFILL.VAL (u.hwFill recs)).evrCheck
    if u.hwFill recs = v.get Reg.EVR_N.VAL ∧ v.get Reg.EVR_STAT.HW_FULL = 0 then ((v.put Reg.EVR_STAT.HW_FULL 1).irq evrPage 6).evrOwn 0x06 [u.hwFill recs - 1] else v := by
  have hfill : max (u.get Reg.EVR_HWFILL.VAL) (recs.foldl (fun m r => max m (r.seq + 1)) 0) = u.hwFill recs := by
    rw [Chip.hwFill, ← foldl_max_init, Nat.max_zero]
  rw [← hfill]
  rfl

/-- A sector of Headwater has been written. -/
theorem Chip.evrHeadwater_shows {recs : List Rec} (hseq : ∀ r ∈ recs, r.seq < u.get Reg.EVR_N.VAL) :
    (u.evrHeadwater recs).get Reg.EVR_HWFILL.VAL = u.hwFill recs ∧ (u.evrHeadwater recs).log.eddy = u.log.eddy ∧
      (u.hwFill recs = u.get Reg.EVR_N.VAL → u.get Reg.EVR_STAT.HW_FULL = 0 → (u.evrHeadwater recs).get Reg.EVR_STAT.HW_FULL = 1 ∧
        ((u.evrHeadwater recs).get (Reg.IRQ.RAW evrPage)).testBit 6 = true) ∧
      (u.hwFill recs ≠ u.get Reg.EVR_N.VAL → (u.evrHeadwater recs).get Reg.EVR_STAT.HW_FULL = u.get Reg.EVR_STAT.HW_FULL) := by
  have hlt : u.hwFill recs < 2 ^ 32 := by
    have hn : u.get Reg.EVR_N.VAL < 2 ^ 32 := u.get_lt Reg.EVR_N.VAL
    have hf : u.get Reg.EVR_HWFILL.VAL < 2 ^ 32 := u.get_lt Reg.EVR_HWFILL.VAL
    have hle : u.hwFill recs ≤ max (u.get Reg.EVR_HWFILL.VAL) (u.get Reg.EVR_N.VAL) := foldl_max_le _ _ _ (le_max_left _ _) (fun r hr => (hseq r hr).trans_le (le_max_right _ _))
    omega
  rw [evrHeadwater_eq]
  generalize u.hwFill recs = fill at *
  have hget : ∀ f, (u.modLog (fun l => { l with headwater := writeSector l.headwater (recs.map (fun r => (r.seq, r))) })).get f = u.get f := fun _ => rfl
  have hlog := congrArg EmmcLog.eddy (log_modLog (u := u) (fun l => { l with headwater := writeSector l.headwater (recs.map (fun r => (r.seq, r))) }))
  generalize u.modLog (fun l => { l with headwater := writeSector l.headwater (recs.map (fun r => (r.seq, r))) }) = w at *
  have hcheck := evrCheck_logStays (u := w.put Reg.EVR_HWFILL.VAL fill)
  have hn : (w.put Reg.EVR_HWFILL.VAL fill).evrCheck.get Reg.EVR_N.VAL = u.get Reg.EVR_N.VAL := by
    unfold Chip.evrCheck
    split
    · rw [get_put_ne _ _ _ _ (by decide), hget]
    · rw [get_put_ne _ _ _ _ (by decide), get_put_ne _ _ _ _ (by decide), hget]
  have hfill : (w.put Reg.EVR_HWFILL.VAL fill).evrCheck.get Reg.EVR_HWFILL.VAL = fill := by
    rw [hcheck.fill, get_put_same]
    exact Nat.mod_eq_of_lt hlt
  have hfull : (w.put Reg.EVR_HWFILL.VAL fill).evrCheck.get Reg.EVR_STAT.HW_FULL = u.get Reg.EVR_STAT.HW_FULL := by
    rw [hcheck.full, get_put_ne _ _ _ _ (by decide), hget]
  have heddy : (w.put Reg.EVR_HWFILL.VAL fill).evrCheck.log.eddy = u.log.eddy := by
    rw [hcheck.log, ← show _ = u.log.eddy from hlog]
    unfold Chip.log
    rw [put_evr]
  generalize (w.put Reg.EVR_HWFILL.VAL fill).evrCheck = v at *
  dsimp only
  rw [hn, hfull]
  split
  · rename_i hcond
    have hg := evrOwn_grows (u := (v.put Reg.EVR_STAT.HW_FULL 1).irq evrPage 6) 0x06 [fill - 1]
    have hirq : ∀ f : Fld, f.lo < 32 → f.addr ≠ 0x44500010 → ((v.put Reg.EVR_STAT.HW_FULL 1).irq evrPage 6).get f = (v.put Reg.EVR_STAT.HW_FULL 1).get f :=
      fun f h1 h2 => irq_evr_get f 6 h1 h2
    refine ⟨?_, ?_, fun _ _ => ⟨?_, ?_⟩, fun h => absurd hcond.1 h⟩
    · rw [hg.regs _ (by decide), hirq _ (by decide) (by decide), get_put_ne _ _ _ _ (by decide), hfill]
    · rw [hg.logs, ← heddy]
      unfold Chip.log
      rw [irq_evr, put_evr]
    · rw [hg.regs _ (by decide), hirq _ (by decide) (by decide), get_put_same]
      rfl
    · exact hg.raw 6 (by decide) (by rw [testBit_irq _ _ _ _ (by decide)]; simp)
  · rename_i hcond
    exact ⟨hfill, heddy, fun h1 h2 => absurd ⟨h1, h2⟩ hcond, fun _ => hfull⟩

theorem completes_emmcWriteDone_headwater {f : Flush} (hf : s.chip.evr.flush = some f) (hnil : f.eddy = []) (hne : f.hw ≠ [])
    (hseq : ∀ r ∈ f.hw, r.seq < s.chip.get Reg.EVR_N.VAL) :
    (let fill := s.chip.hwFill (leadSector (fun r => r.seq) f.hw).1
     Completes .emmcWriteDone s (fun t => t.get Reg.EVR_HWFILL.VAL = fill ∧ t.log.eddy = s.chip.log.eddy ∧
      (fill = s.chip.get Reg.EVR_N.VAL → s.chip.get Reg.EVR_STAT.HW_FULL = 0 → t.get Reg.EVR_STAT.HW_FULL = 1 ∧ (t.get (Reg.IRQ.RAW evrPage)).testBit 6 = true) ∧
      (fill ≠ s.chip.get Reg.EVR_N.VAL → t.get Reg.EVR_STAT.HW_FULL = s.chip.get Reg.EVR_STAT.HW_FULL))) := by
  intro fill
  have hlead : ∀ r ∈ (leadSector (fun r => r.seq) f.hw).1, r.seq < s.chip.triesOver.get Reg.EVR_N.VAL := fun r hr =>
    hseq r ((leadSector_shows (fun r => r.seq) hne).1 ▸ List.mem_append_left _ hr)
  obtain ⟨h1, h2, h3, h4⟩ := evrHeadwater_shows hlead
  have hget : ∀ x, s.chip.triesOver.get x = s.chip.get x := fun _ => rfl
  have hfill : s.chip.triesOver.hwFill (leadSector (fun r => r.seq) f.hw).1 = fill := rfl
  have hlog : s.chip.triesOver.log = s.chip.log := rfl
  rw [hfill] at h1 h3 h4
  rw [hlog] at h2
  simp only [hget] at h3 h4
  clear_value fill
  refine ⟨_, exec_emmcWriteDone_headwater hf hnil hne, ?_⟩
  generalize s.chip.triesOver.evrHeadwater (leadSector (fun r => r.seq) f.hw).1 = v at *
  have hstays := evrProceed_logStays (u := v) { f with hw := (leadSector (fun r => r.seq) f.hw).2 }
  refine ⟨hstays.fill.trans h1, by rw [hstays.log]; exact h2, fun ha hb => ?_, fun ha => hstays.full.trans (h4 ha)⟩
  obtain ⟨hx, hy⟩ := h3 ha hb
  exact ⟨hstays.full.trans hx, hstays.raw 6 (by decide) hy⟩

/-! ### Step 2 of a clear (R508) -/

/-- EDDY_CLEARED as a record. -/
def Chip.clearRec (u : Chip) (data : List Nat) : Rec :=
  { ev := { src := 101, code := 0x05, data := data, stamp := u.weirTime, inj := false }, time := (u.weirTime * 10 + u.get Reg.EVR_CALOFF.VAL) % 2 ^ 64,
    tsrc := u.get Reg.EVR_STAT.TSRC }

/-- A record ahead of those that wait. -/
theorem Chip.evrFirst_room {data : List Nat} (h : u.get Reg.EVR_CF.PEND < 4096) : ∃ half, u.evrFirst 0x05 data =
    (({ u with evr := { u.evr with carafe := assocPut u.evr.carafe ((u.get Reg.EVR_CF.HEAD + 4095) % 4096) (u.clearRec data), half := half } } : Chip).put Reg.EVR_CF.HEAD
      ((u.get Reg.EVR_CF.HEAD + 4095) % 4096)).put Reg.EVR_CF.PEND (u.get Reg.EVR_CF.PEND + 1) := by
  unfold Chip.evrFirst
  dsimp only
  rw [if_neg (by omega)]
  exact ⟨_, rfl⟩

theorem Chip.evrFirst_shows {data : List Nat} (h : u.get Reg.EVR_CF.PEND < 4096) :
    (u.evrFirst 0x05 data).get Reg.EVR_CF.HEAD = (u.get Reg.EVR_CF.HEAD + 4095) % 4096 ∧ (u.evrFirst 0x05 data).log = u.log ∧
      (u.evrFirst 0x05 data).evr.clear = u.evr.clear ∧ (u.evrFirst 0x05 data).OwnAt ((u.get Reg.EVR_CF.HEAD + 4095) % 4096) 5 data := by
  obtain ⟨half, heq⟩ := evrFirst_room (data := data) h
  rw [heq]
  refine ⟨?_, ?_, ?_, u.clearRec data, ?_, rfl, rfl, rfl⟩
  · rw [get_put_ne _ _ _ _ (by decide), get_put_same]
    exact Nat.mod_eq_of_lt (Nat.mod_lt _ (by decide))
  · unfold Chip.log
    rw [put_evr, put_evr]
  · rw [put_evr, put_evr]
  · rw [put_evr, put_evr]
    exact find_assocPut_same ..

/-- The new Eddy is empty; the superblock describes it. -/
def Chip.eddyEmptied (u : Chip) : Chip := u.modLog (fun l => { (l.writeSb u.evrSb) with eddy := [] })

/-- No clear is under way. -/
def Chip.clearOver (u : Chip) : Chip := { u with evr := { u.evr with clear := none } }

theorem Chip.evrCleared_eq (c : EddyClear) : u.evrCleared c =
    ((((u.eddyEmptied.clearOver.evrCheck.evrFirst 0x05 [c.oldBase, (u.get Reg.EVR_BASE.VAL + 2 ^ 32 - 1) % 2 ^ 32, u.log.eddy.length, c.quoted]).put Reg.EVR_CLR_STAT.RESULT
      1).irq evrPage 4).evrTrigger false).spillNext := rfl

theorem Chip.eddyEmptied_log : u.eddyEmptied.log.eddy = [] ∧ u.eddyEmptied.log.headwater = u.log.headwater ∧
    u.eddyEmptied.log.best.map Superblock.base = some (u.get Reg.EVR_BASE.VAL) := by
  unfold Chip.eddyEmptied
  rw [log_modLog]
  obtain ⟨g, hbest, heddy, hhw⟩ := EmmcLog.writeSb_best u.evrSb u.log
  have hbest' : ({ (u.log.writeSb u.evrSb) with eddy := [] } : EmmcLog).best = some { u.evrSb with gen := g } := hbest
  rw [hbest']
  exact ⟨rfl, hhw, rfl⟩

theorem Chip.evrCheck_get {f : Fld} (hf : Reg.EVR_LOGCV.VAL.key ≠ f.key) : u.evrCheck.get f = u.get f := by
  unfold Chip.evrCheck
  split
  · rfl
  · exact get_put_ne _ _ _ _ hf

theorem Chip.evrCheck_evr : u.evrCheck.evr = u.evr := by
  unfold Chip.evrCheck
  split
  · rfl
  · exact put_evr ..

theorem Chip.evrTrigger_logStays (fault : Bool) : LogStays u (u.evrTrigger fault) := by
  unfold Chip.evrTrigger
  split
  · exact .of_evr (.refl _) (.refl _)
  · exact .rfl

theorem Chip.spillNext_clear : u.spillNext.evr.clear = u.evr.clear := by
  unfold Chip.spillNext
  split
  · rfl
  · split_ifs
    · rfl
    · rfl
    · rfl
    · rfl
    · dsimp only
      rw [put_evr]
      rfl

theorem Chip.evrTrigger_carafe (fault : Bool) : (u.evrTrigger fault).evr.carafe = u.evr.carafe := by
  unfold Chip.evrTrigger
  split <;> rfl

theorem Chip.evrTrigger_clear (fault : Bool) : (u.evrTrigger fault).evr.clear = u.evr.clear := by
  unfold Chip.evrTrigger
  split <;> rfl

/-- A clear is shown as done, and what follows keeps the log and the Carafe. -/
theorem Chip.clearShown (u : Chip) (ht : t = (((u.put Reg.EVR_CLR_STAT.RESULT 1).irq evrPage 4).evrTrigger false).spillNext) :
    t.log = u.log ∧ t.get Reg.EVR_CLR_STAT.RESULT = 1 ∧ t.evr.clear = u.evr.clear ∧ (t.get (Reg.IRQ.RAW evrPage)).testBit 4 = true ∧
      t.get Reg.EVR_CF.HEAD = u.get Reg.EVR_CF.HEAD ∧ t.evr.carafe = u.evr.carafe := by
  have hres : ((u.put Reg.EVR_CLR_STAT.RESULT 1).irq evrPage 4).get Reg.EVR_CLR_STAT.RESULT = 1 := by
    rw [irq_evr_get _ _ (by decide) (by decide), get_put_same]
    rfl
  have hraw : (((u.put Reg.EVR_CLR_STAT.RESULT 1).irq evrPage 4).get (Reg.IRQ.RAW evrPage)).testBit 4 = true := by
    rw [testBit_irq _ _ _ _ (by decide)]
    simp
  have hhead : ((u.put Reg.EVR_CLR_STAT.RESULT 1).irq evrPage 4).get Reg.EVR_CF.HEAD = u.get Reg.EVR_CF.HEAD := by
    rw [irq_evr_get _ _ (by decide) (by decide), get_put_ne _ _ _ _ (by decide)]
  have hevr : ((u.put Reg.EVR_CLR_STAT.RESULT 1).irq evrPage 4).evr = u.evr := by rw [irq_evr, put_evr]
  have hlog : ((u.put Reg.EVR_CLR_STAT.RESULT 1).irq evrPage 4).log = u.log := by
    unfold Chip.log
    rw [hevr]
  generalize (u.put Reg.EVR_CLR_STAT.RESULT 1).irq evrPage 4 = z at *
  have hstay := (evrTrigger_logStays (u := z) false).trans spillNext_logStays
  have hspill := spillNext_spills (u := z.evrTrigger false)
  rw [← ht] at hstay hspill
  exact ⟨hstay.log.trans hlog, hstay.result.trans hres, by rw [ht, spillNext_clear, evrTrigger_clear, hevr], hstay.raw 4 (by decide) hraw,
    by rw [hspill.head, evrTrigger_get, hhead], by rw [hspill.carafe, evrTrigger_carafe, hevr]⟩

theorem exec_emmcWriteDone_clear {c : EddyClear} (hf : s.chip.evr.flush = none) (hc : s.chip.evr.clear = some c) (h2 : c.step2 = true) :
    exec .emmcWriteDone s = s.become (s.chip.triesOver.evrCleared c) := by
  have hfl : s.chip.triesOver.evr.flush = none := hf
  have hcl : s.chip.triesOver.evr.clear = some c := hc
  change execEmmcWriteDone s = _
  unfold execEmmcWriteDone
  change (match s.chip.triesOver.evr.flush, s.chip.triesOver.evr.clear with
    | some f, _ => _
    | none, some c => _
    | none, none => _) = _
  rw [hfl, hcl]
  exact congrArg s.become (if_pos h2)

theorem completes_emmcWriteDone_clear {c : EddyClear} (hf : s.chip.evr.flush = none) (hc : s.chip.evr.clear = some c) (h2 : c.step2 = true)
    (hp : s.chip.get Reg.EVR_CF.PEND < 4096) :
    (let head := (s.chip.get Reg.EVR_CF.HEAD + 4095) % 4096
     Completes .emmcWriteDone s (fun t => t.log.eddy = [] ∧ t.log.headwater = s.chip.log.headwater ∧ t.log.best.map (·.base) = some (s.chip.get Reg.EVR_BASE.VAL) ∧
      t.get Reg.EVR_CLR_STAT.RESULT = 1 ∧ t.evr.clear = none ∧ (t.get (Reg.IRQ.RAW evrPage)).testBit 4 = true ∧ t.get Reg.EVR_CF.HEAD = head ∧
      t.OwnAt head 5 [c.oldBase, (s.chip.get Reg.EVR_BASE.VAL + 2 ^ 32 - 1) % 2 ^ 32, s.chip.log.eddy.length, c.quoted])) := by
  intro head
  have hexec := exec_emmcWriteDone_clear hf hc h2
  rw [evrCleared_eq] at hexec
  have hget : ∀ x, s.chip.triesOver.get x = s.chip.get x := fun _ => rfl
  have hlog : s.chip.triesOver.log = s.chip.log := rfl
  obtain ⟨heddy, hhw, hbest⟩ := s.chip.triesOver.eddyEmptied_log
  have heget : ∀ x, s.chip.triesOver.eddyEmptied.get x = s.chip.get x := fun _ => rfl
  rw [hget] at hexec hbest
  rw [hlog] at hexec hhw
  generalize s.chip.triesOver.eddyEmptied = v at *
  have hvlog : v.clearOver.log = v.log := rfl
  have hvget : ∀ x, v.clearOver.get x = v.get x := fun _ => rfl
  have hvclear : v.clearOver.evr.clear = none := rfl
  generalize v.clearOver = w at *
  have hwp : w.evrCheck.get Reg.EVR_CF.PEND = s.chip.get Reg.EVR_CF.PEND := by rw [evrCheck_get (by decide), hvget, heget]
  have hwh : w.evrCheck.get Reg.EVR_CF.HEAD = s.chip.get Reg.EVR_CF.HEAD := by rw [evrCheck_get (by decide), hvget, heget]
  have hwl : w.evrCheck.log = v.log := evrCheck_logStays.log.trans hvlog
  have hwc : w.evrCheck.evr.clear = none := by rw [evrCheck_evr]; exact hvclear
  generalize [c.oldBase, (s.chip.get Reg.EVR_BASE.VAL + 2 ^ 32 - 1) % 2 ^ 32, s.chip.log.eddy.length, c.quoted] = data at *
  generalize w.evrCheck = x at *
  obtain ⟨hh, hl, hcl, hown⟩ := evrFirst_shows (u := x) (data := data) (by omega)
  rw [hwh] at hh hown
  generalize x.evrFirst 0x05 data = y at *
  obtain ⟨t, ht⟩ : ∃ t, t = (((y.put Reg.EVR_CLR_STAT.RESULT 1).irq evrPage 4).evrTrigger false).spillNext := ⟨_, rfl⟩
  obtain ⟨k1, k2, k3, k4, k5, k6⟩ := clearShown y ht
  refine ⟨t, hexec.trans (by rw [ht]; rfl), ?_⟩
  have hall : t.log = v.log := by rw [k1, hl, hwl]
  dsimp only
  rw [hall, k3, hcl, hwc, k5, hh]
  refine ⟨heddy, hhw, hbest, k2, rfl, k4, rfl, ?_⟩
  unfold Chip.OwnAt at hown ⊢
  rw [k6]
  exact hown

/-! ### No write in progress, and failed writes (R494) -/

theorem completes_emmcWrite_none (hf : s.chip.evr.flush = none) (hc : ∀ c, s.chip.evr.clear = some c → c.step2 = false) :
    Completes .emmcWriteDone s (fun t => t = s.chip) ∧ ∀ status, Completes (.emmcWriteFail status) s (fun t => t = s.chip) := by
  constructor
  · have hfl : s.chip.triesOver.evr.flush = none := hf
    refine ⟨s.chip, ?_, rfl⟩
    change execEmmcWriteDone s = _
    unfold execEmmcWriteDone
    change (match s.chip.triesOver.evr.flush, s.chip.triesOver.evr.clear with
      | some f, _ => _
      | none, some c => _
      | none, none => _) = _
    rw [hfl]
    cases hcl : s.chip.triesOver.evr.clear with
    | none => rfl
    | some c => exact congrArg s.become (if_neg (by rw [hc c hcl]; decide))
  · intro status
    refine ⟨s.chip, ?_, rfl⟩
    change execEmmcWriteFail status s = _
    unfold execEmmcWriteFail
    dsimp only
    refine if_pos ?_
    rw [hf]
    cases hcl : s.chip.evr.clear with
    | none => rfl
    | some c => simp [hc c hcl]

/-- No write is in progress any more. -/
def Chip.writesDropped (u : Chip) : Chip :=
  { u with evr := { u.evr with tries := 0, flush := none, clear := none, trig := false, trigFault := false, spill := none } }

theorem exec_emmcWriteFail {status : Nat} (hf : s.chip.evr.flush.isSome) (ht : 3 ≤ s.chip.evr.tries) : exec (.emmcWriteFail status) s =
    s.become ((((s.chip.writesDropped.put Reg.EVR_STAT.STATE 5).evrOwn 0x07 [status, s.chip.evrSector]).irq evrPage 3).nonsafetyFault 0x6001) := by
  change execEmmcWriteFail status s = _
  unfold execEmmcWriteFail
  dsimp only
  rw [if_neg (by simp [hf]), if_neg (by omega)]
  rfl

theorem Chip.nonsafetyFault_count (fcode : Nat) : (u.nonsafetyFault fcode).get Reg.FLT_CNT.NONSAFETY =
    min (u.get Reg.FLT_CNT.NONSAFETY + 1) (2 ^ Reg.FLT_CNT.NONSAFETY.width - 1) := by
  unfold Chip.nonsafetyFault Chip.faultEvent
  rw [get_raiseAfter _ _ _ _ _ (by decide) (by decide) (by decide) (by decide), get_put_ne _ _ _ _ (by decide), get_satInc_same]

/-- Where the recorder takes no triggers, a record of its own starts no flush. -/
theorem Chip.evrOwn_quiet (code : Nat) (data : List Nat) (h : u.get Reg.EVR_STAT.STATE = 5) : (u.evrOwn code data).evr.trig = u.evr.trig := by
  unfold Chip.evrOwn
  rw [evrEnter_plain _ (.inl (by omega))]
  unfold Chip.evrPlace
  split
  · rw [evrTrigger_evr, evrStore_state, if_neg (by omega)]
    exact (evrStore_trig _).1
  · exact (evrStore_trig _).1

theorem completes_emmcWriteFail (status : Nat) (hf : s.chip.evr.flush.isSome) :
    (s.chip.evr.tries < 3 → Completes (.emmcWriteFail status) s (fun t => t = { s.chip with evr := { s.chip.evr with tries := s.chip.evr.tries + 1 } })) ∧
    (3 ≤ s.chip.evr.tries → Completes (.emmcWriteFail status) s (fun t => t.get Reg.EVR_STAT.STATE = 5 ∧ t.evr.flush = none ∧ t.evr.trig = false ∧
      (t.get (Reg.IRQ.RAW evrPage)).testBit 3 = true ∧ t.log = s.chip.log ∧ t.get Reg.FLT_CNT.NONSAFETY = min (s.chip.get Reg.FLT_CNT.NONSAFETY + 1) (2 ^ Reg.FLT_CNT.NONSAFETY.width - 1))) := by
  constructor
  · intro ht
    refine ⟨_, ?_, rfl⟩
    change execEmmcWriteFail status s = _
    unfold execEmmcWriteFail
    dsimp only
    rw [if_neg (by simp [hf]), if_pos ht]
    rfl
  · intro ht
    refine ⟨_, exec_emmcWriteFail hf ht, ?_⟩
    have hst : (s.chip.writesDropped.put Reg.EVR_STAT.STATE 5).get Reg.EVR_STAT.STATE = 5 := get_put_same ..
    have hcnt : (s.chip.writesDropped.put Reg.EVR_STAT.STATE 5).get Reg.FLT_CNT.NONSAFETY = s.chip.get Reg.FLT_CNT.NONSAFETY := get_put_ne _ _ _ _ (by decide)
    have hevr : (s.chip.writesDropped.put Reg.EVR_STAT.STATE 5).evr.flush = none ∧ (s.chip.writesDropped.put Reg.EVR_STAT.STATE 5).evr.trig = false := ⟨rfl, rfl⟩
    have hlog : (s.chip.writesDropped.put Reg.EVR_STAT.STATE 5).log = s.chip.log := rfl
    obtain ⟨hflush, htrig⟩ := hevr
    generalize s.chip.writesDropped.put Reg.EVR_STAT.STATE 5 = v at *
    have hg := evrOwn_grows (u := v) 0x07 [status, s.chip.evrSector]
    have hs := evrOwn_state (u := v) 0x07 [status, s.chip.evrSector] (.inl (by omega))
    have hq := evrOwn_quiet (u := v) 0x07 [status, s.chip.evrSector] hst
    generalize v.evrOwn 0x07 [status, s.chip.evrSector] = w at *
    have hfault : ∀ f : Fld, f.lo < 32 → 0x40000000 ≤ f.addr → f.addr % 0x1000 ≠ 0xC → f.addr / 0x100000 ≠ 0x407 → f.addr / 0x100000 ≠ 0x409 →
        ((w.irq evrPage 3).nonsafetyFault 0x6001).get f = (w.irq evrPage 3).get f := fun f h1 h2 h3 h4 h5 =>
      nonsafetyFault_within.regs f h1 h2 h3 (by simp [Scope.covers, h4, h5])
    have hsame : ((w.irq evrPage 3).nonsafetyFault 0x6001).evr = w.evr := (nonsafetyFault_within.same .evr (by decide)).trans (irq_evr ..)
    have hwf : w.evr.base.flush = v.evr.base.flush := by rw [hg.base]
    refine ⟨?_, ?_, ?_, ?_, ?_, ?_⟩
    · rw [hfault _ (by decide) (by decide) (by decide) (by decide) (by decide), irq_evr_get _ _ (by decide) (by decide), hs, hst]
    · rw [hsame]
      exact Eq.trans hwf hflush
    · rw [hsame, hq, htrig]
    · rw [hfault _ (by decide) (by decide) (by decide) (by decide) (by decide), testBit_irq _ _ _ _ (by decide)]
      simp
    · rw [← hlog, ← hg.logs]
      unfold Chip.log
      rw [hsame]
    · rw [nonsafetyFault_count, irq_evr_get _ _ (by decide) (by decide), hg.regs _ (by decide), hcnt]

/-! ### Recovery of the log (R488, R496, R498) -/

/-- The superblock with the higher GEN. -/
theorem EmmcLog.best_highest {l : EmmcLog} {sb : Superblock} (h : l.sb0 = some sb ∨ l.sb1 = some sb)
    (hmax : ∀ x, l.sb0 = some x ∨ l.sb1 = some x → x.gen < sb.gen ∨ x = sb) : l.best = some sb := by
  unfold EmmcLog.best
  rcases h0 : l.sb0 with _ | a <;> rcases h1 : l.sb1 with _ | b
  · simp [h0, h1] at h
  · simpa [h0, h1] using h
  · simpa [h0, h1] using h
  · have ha := hmax a (.inl h0)
    have hb := hmax b (.inr h1)
    simp only [h0, h1, Option.some.injEq] at h
    dsimp only
    rw [Option.some.injEq]
    split
    · rcases h with rfl | rfl
      · rcases hb with hb | hb
        · omega
        · exact hb
      · rfl
    · rcases h with rfl | rfl
      · rfl
      · rcases ha with ha | ha
        · omega
        · exact ha

/-- The record with the highest SEQ is one of the list, and none has a higher one. -/
theorem highestSeq_shows (l : List Rec) : (highestSeq l = none → l = []) ∧ ∀ r, highestSeq l = some r → r ∈ l ∧ ∀ x ∈ l, x.seq ≤ r.seq := by
  have hfold : ∀ (l : List Rec) (b : Option Rec), (l.foldl (fun b r => match b with
      | none => some r
      | some x => if x.seq < r.seq then some r else some x) b = none → b = none ∧ l = []) ∧
      ∀ r, l.foldl (fun b r => match b with
      | none => some r
      | some x => if x.seq < r.seq then some r else some x) b = some r → (b = some r ∨ r ∈ l) ∧ (∀ x ∈ l, x.seq ≤ r.seq) ∧ ∀ x, b = some x → x.seq ≤ r.seq := by
    intro l
    induction l with
    | nil => exact fun b => ⟨fun h => ⟨h, rfl⟩, fun r h => ⟨.inl h, by simp, fun x hx => by rw [hx] at h; exact (Option.some.inj h).symm ▸ le_rfl⟩⟩
    | cons y l ih =>
      intro b
      rw [List.foldl_cons]
      cases b with
      | none =>
        obtain ⟨h1, h2⟩ := ih (some y)
        refine ⟨fun h => absurd (h1 h).1 (by simp), fun r h => ?_⟩
        obtain ⟨hr, hl, hb⟩ := h2 r h
        refine ⟨.inr ?_, List.forall_mem_cons.2 ⟨hb y rfl, hl⟩, by simp⟩
        rcases hr with hr | hr
        · simp [Option.some.inj hr]
        · simp [hr]
      | some x =>
        dsimp only
        by_cases hxy : x.seq < y.seq
        · rw [if_pos hxy]
          obtain ⟨h1, h2⟩ := ih (some y)
          refine ⟨fun h => absurd (h1 h).1 (by simp), fun r h => ?_⟩
          obtain ⟨hr, hl, hb⟩ := h2 r h
          have hy := hb y rfl
          refine ⟨.inr ?_, List.forall_mem_cons.2 ⟨hy, hl⟩, ?_⟩
          · rcases hr with hr | hr
            · simp [Option.some.inj hr]
            · simp [hr]
          · rintro _ ⟨⟩
            omega
        · rw [if_neg hxy]
          obtain ⟨h1, h2⟩ := ih (some x)
          refine ⟨fun h => absurd (h1 h).1 (by simp), fun r h => ?_⟩
          obtain ⟨hr, hl, hb⟩ := h2 r h
          have hx := hb x rfl
          refine ⟨hr.imp id (by simp +contextual), List.forall_mem_cons.2 ⟨by omega, hl⟩, ?_⟩
          rintro _ ⟨⟩
          exact hx
  obtain ⟨h1, h2⟩ := hfold l none
  refine ⟨fun h => (h1 h).2, fun r h => ?_⟩
  obtain ⟨hr, hl, -⟩ := h2 r h
  exact ⟨hr.resolve_left (by simp), hl⟩

end
end Sys2Proof.Machine
end

section
/-!
PROOFS. The recovery of the log, and O48 (17 R487 to R498).
-/
namespace Sys2Proof.Machine
open Chip

section
variable {s : State} {u t : Chip}

/-- The log that eMMC holds at EVR_LBA becomes the log of the recorder. -/
def Chip.logChosen (u : Chip) : Chip := { u with evr := { u.evr with lba := u.get Reg.EVR_LBA.LBA } }

/-- SEQ after the highest record found, or BASE. -/
def nextSeq (sb : Superblock) : Option Rec → Nat
  | some r => max sb.base (r.seq + 1)
  | none => sb.base

/-- Whether the last record of the log closed a Spillway. -/
def spillDone : Option Rec → Nat
  | some r => lvl (r.ev.src == 101 && r.ev.code == 0x03)
  | none => 0

/-- The geometry of a superblock in the registers, and the next power cycle in the log. -/
def Chip.geometryTaken (u : Chip) (sb : Superblock) (top : Option Rec) : Chip :=
  let next := nextSeq sb top
  let u := (((u.put Reg.EVR_N.VAL sb.n).put Reg.EVR_M.VAL sb.m).put Reg.EVR_BASE.VAL sb.base).put Reg.EVR_PCC.VAL (sb.pcc + 1)
  let fill := u.log.headwater.foldl (fun m e => max m (e.1 + 1)) 0
  let u := (u.put Reg.EVR_SEQ.VAL next).put Reg.EVR_HWFILL.VAL fill
  let u := u.put Reg.EVR_STAT.HW_FULL (lvl (decide (sb.n ≤ fill)))
  u.modLog (fun l => l.writeSb u.evrSb)

/-- The recorder knows its log again. -/
def Chip.logKnown (u : Chip) (top : Option Rec) : Chip := ({ u with evr := { u.evr with recovered := true, committed := top } }).evrCheck

/-- The highest SEQ of the log, or a free value where the log holds none. -/
def Chip.lastSeq (u : Chip) : Option Rec → Nat × Chip
  | some r => (r.seq, u)
  | none => u.free

theorem Chip.lastSeq_keeps (top : Option Rec) : (∀ f, (u.lastSeq top).2.get f = u.get f) ∧ (u.lastSeq top).2.evr = u.evr := by
  cases top with
  | some r => exact ⟨fun _ => rfl, rfl⟩
  | none => exact ⟨fun f => free_get u f, free_evr u⟩

theorem exec_logRecoveryDone_idle (h0 : s.chip.get Reg.EVR_STAT.STATE ≠ 0) (h4 : s.chip.get Reg.EVR_STAT.STATE ≠ 4) : exec .logRecoveryDone s = s.become s.chip := by
  change execLogRecoveryDone s = _
  unfold execLogRecoveryDone Chip.evrState
  dsimp only
  exact if_pos (by simp [h0, h4])

theorem exec_logRecoveryDone_none (h0 : s.chip.get Reg.EVR_STAT.STATE = 0) (hbest : s.chip.logChosen.log.best = none) :
    exec .logRecoveryDone s = s.become (s.chip.logChosen.put Reg.EVR_STAT.STATE 1) := by
  change execLogRecoveryDone s = _
  unfold execLogRecoveryDone Chip.evrState
  dsimp only
  rw [if_neg (by simp [h0])]
  change (match s.chip.logChosen.log.best with
    | none => _
    | some sb => _) = _
  rw [hbest]
  rfl

/-- The records of a recovered log: the first one of the new power cycle. -/
def Chip.recoveryEnd (u : Chip) (top : Option Rec) : Chip :=
  (u.lastSeq top).2.evrOwn 0x01 [(u.lastSeq top).2.get Reg.EVR_PCC.VAL, (u.lastSeq top).2.get Reg.WR_STAT.WPOR, spillDone top, (u.lastSeq top).1]

/-- What follows once the log is found: the body of LOG_RECOVERY_DONE over the highest record. -/
def Chip.recovery (u : Chip) (sb : Superblock) (top : Option Rec) : Chip :=
  let v := ((u.geometryTaken sb top).logKnown top).recoveryEnd top
  if v.evrState = 0 then v.put Reg.EVR_STAT.STATE 2 else v.spillNext

theorem exec_logRecoveryDone_some {sb : Superblock} (h0 : s.chip.get Reg.EVR_STAT.STATE = 0) (hbest : s.chip.logChosen.log.best = some sb) :
    exec .logRecoveryDone s = s.become (s.chip.logChosen.recovery sb (highestSeq s.chip.logChosen.log.found)) := by
  change execLogRecoveryDone s = _
  unfold execLogRecoveryDone
  dsimp only
  rw [if_neg (by simp [Chip.evrState, h0])]
  change (match s.chip.logChosen.log.best with
    | none => _
    | some sb => _) = _
  rw [hbest]
  dsimp only
  refine congrArg s.become ?_
  unfold Chip.logChosen
  generalize highestSeq _ = top
  cases top <;> rfl

theorem Chip.geometryTaken_shows (sb : Superblock) (top : Option Rec) :
    (∀ f : Fld, f.key ∉ [Reg.EVR_N.VAL, Reg.EVR_M.VAL, Reg.EVR_BASE.VAL, Reg.EVR_PCC.VAL, Reg.EVR_SEQ.VAL, Reg.EVR_HWFILL.VAL, Reg.EVR_STAT.HW_FULL].map Fld.key →
      (u.geometryTaken sb top).get f = u.get f) ∧
    (u.geometryTaken sb top).get Reg.EVR_N.VAL = sb.n % 2 ^ 32 ∧ (u.geometryTaken sb top).get Reg.EVR_M.VAL = sb.m % 2 ^ 32 ∧
    (u.geometryTaken sb top).get Reg.EVR_BASE.VAL = sb.base % 2 ^ 32 ∧ (u.geometryTaken sb top).get Reg.EVR_PCC.VAL = (sb.pcc + 1) % 2 ^ 32 ∧
    (u.geometryTaken sb top).get Reg.EVR_SEQ.VAL = nextSeq sb top % 2 ^ 32 := by
  unfold Chip.geometryTaken
  refine ⟨fun f hf => ?_, ?_, ?_, ?_, ?_, ?_⟩
  · simp only [List.map_cons, List.map_nil, List.mem_cons, List.not_mem_nil, or_false, not_or] at hf
    obtain ⟨h1, h2, h3, h4, h5, h6, h7⟩ := hf
    dsimp only
    rw [modLog_get, get_put_ne _ _ _ _ (Ne.symm h7), get_put_ne _ _ _ _ (Ne.symm h6), get_put_ne _ _ _ _ (Ne.symm h5), get_put_ne _ _ _ _ (Ne.symm h4),
      get_put_ne _ _ _ _ (Ne.symm h3), get_put_ne _ _ _ _ (Ne.symm h2), get_put_ne _ _ _ _ (Ne.symm h1)]
  all_goals
    simp (disch := decide) only [get_put_ne, get_put_same, modLog_get]
    rfl

theorem Chip.geometryTaken_log (sb : Superblock) (top : Option Rec) :
    (u.geometryTaken sb top).log.best.map Superblock.pcc = some ((u.geometryTaken sb top).get Reg.EVR_PCC.VAL) := by
  unfold Chip.geometryTaken
  dsimp only
  rw [log_modLog, modLog_get]
  obtain ⟨g, hbest, -, -⟩ := EmmcLog.writeSb_best (Chip.evrSb _) _
  rw [hbest]
  rfl

theorem Chip.logKnown_keeps (top : Option Rec) : (∀ f : Fld, Reg.EVR_LOGCV.VAL.key ≠ f.key → (u.logKnown top).get f = u.get f) ∧ (u.logKnown top).log = u.log := by
  unfold Chip.logKnown
  refine ⟨fun f hf => evrCheck_get hf, ?_⟩
  unfold Chip.log
  rw [evrCheck_evr]

/-- LOG_RECOVERY_DONE with a superblock (R496, R498). -/
theorem completes_logRecoveryDone {sb : Superblock} (h0 : s.chip.get Reg.EVR_STAT.STATE = 0) (hbest : s.chip.logChosen.log.best = some sb) :
    Completes .logRecoveryDone s (fun t => t.get Reg.EVR_STAT.STATE = 2 ∧ t.get Reg.EVR_N.VAL = sb.n % 2 ^ 32 ∧ t.get Reg.EVR_M.VAL = sb.m % 2 ^ 32 ∧
      t.get Reg.EVR_BASE.VAL = sb.base % 2 ^ 32 ∧ t.get Reg.EVR_PCC.VAL = (sb.pcc + 1) % 2 ^ 32 ∧ t.log.best.map (·.pcc) = some ((sb.pcc + 1) % 2 ^ 32) ∧
      t.get Reg.EVR_SEQ.VAL = nextSeq sb (highestSeq s.chip.logChosen.log.found) % 2 ^ 32 ∧
      (s.chip.get Reg.EVR_CF.PEND < 4096 → ∃ d, t.OwnAt ((s.chip.get Reg.EVR_CF.HEAD + s.chip.get Reg.EVR_CF.PEND) % 4096) 1 ((sb.pcc + 1) % 2 ^ 32 :: d))) := by
  have hexec := exec_logRecoveryDone_some h0 hbest
  unfold Chip.recovery Chip.recoveryEnd at hexec
  dsimp only at hexec
  have hget : ∀ f, s.chip.logChosen.get f = s.chip.get f := fun _ => rfl
  generalize highestSeq s.chip.logChosen.log.found = top at *
  obtain ⟨hkept, hn, hm, hb, hpcc, hseq⟩ := s.chip.logChosen.geometryTaken_shows sb top
  have hlog := s.chip.logChosen.geometryTaken_log sb top
  rw [hpcc] at hlog
  have hst := hkept Reg.EVR_STAT.STATE (by decide)
  have hp := hkept Reg.EVR_CF.PEND (by decide)
  have hh := hkept Reg.EVR_CF.HEAD (by decide)
  rw [hget] at hst hp hh
  generalize s.chip.logChosen.geometryTaken sb top = v at *
  obtain ⟨hwget, hwlog⟩ := v.logKnown_keeps top
  generalize v.logKnown top = w at *
  obtain ⟨hxget, hxevr⟩ := w.lastSeq_keeps top
  generalize w.lastSeq top = p at *
  obtain ⟨n, x⟩ := p
  dsimp only at hxget hxevr hexec
  have hback : ∀ f : Fld, Reg.EVR_LOGCV.VAL.key ≠ f.key → x.get f = v.get f := fun f hf => (hxget f).trans (hwget f hf)
  have hxlog : x.log = v.log := by
    rw [← hwlog]
    unfold Chip.log
    rw [hxevr]
  have hxst : x.get Reg.EVR_STAT.STATE = 0 := by rw [hback _ (by decide), hst, h0]
  have hxp : x.get Reg.EVR_CF.PEND = s.chip.get Reg.EVR_CF.PEND := by rw [hback _ (by decide), hp]
  have hxh : x.get Reg.EVR_CF.HEAD = s.chip.get Reg.EVR_CF.HEAD := by rw [hback _ (by decide), hh]
  have hxpcc : x.get Reg.EVR_PCC.VAL = (sb.pcc + 1) % 2 ^ 32 := by rw [hback _ (by decide), hpcc]
  rw [hxpcc] at hexec
  generalize [x.get Reg.WR_STAT.WPOR, spillDone top, n] = d at *
  have hown := evrOwn_grows (u := x) 1 ((sb.pcc + 1) % 2 ^ 32 :: d)
  have hend : (x.evrOwn 1 ((sb.pcc + 1) % 2 ^ 32 :: d)).evrState = 0 := (evrOwn_state _ _ (.inl (by omega))).trans hxst
  rw [if_pos hend] at hexec
  have hput : Grows (x.evrOwn 1 ((sb.pcc + 1) % 2 ^ 32 :: d)) ((x.evrOwn 1 ((sb.pcc + 1) % 2 ^ 32 :: d)).put Reg.EVR_STAT.STATE 2) := Grows.of_put
  have hall := hown.trans hput
  refine ⟨_, hexec, get_put_same .., ?_, ?_, ?_, ?_, ?_, ?_, fun hroom => ⟨d, ?_⟩⟩
  · rw [hall.regs _ (by decide), hback _ (by decide), hn]
  · rw [hall.regs _ (by decide), hback _ (by decide), hm]
  · rw [hall.regs _ (by decide), hback _ (by decide), hb]
  · rw [hall.regs _ (by decide), hxpcc]
  · rw [hall.logs, hxlog]
    exact hlog
  · rw [hall.regs _ (by decide), hback _ (by decide), hseq]
  · rw [← hxp, ← hxh]
    exact evrOwn_at _ _ (by omega) hput.kept

end

/-- Settles O48, by the rules for record entry, for the start of a flush, for the completed writes and for the recovery of the log. -/
theorem recorderFlush : Obligations.RecorderFlush := by
  unfold Obligations.RecorderFlush
  refine ⟨fun s h => ?_, fun e s hport htakes => completes_recordEntry hport htakes, fun s => ⟨fun h => ?_, completes_flushHalf, fun h => ?_, completes_flushTimer⟩,
    fun s => completes_flushStart_idle, fun s => completes_flushStart, fun f s hf hne => ?_, fun f s hf he hh hlt => completes_emmcWriteDone_headwater hf he hh hlt,
    fun c s hf hc h2 hp => ?_, fun s => completes_emmcWrite_none, fun status s hf => completes_emmcWriteFail status hf,
    fun s h0 h4 => ⟨_, exec_logRecoveryDone_idle h0 h4, rfl⟩, fun s h0 => ⟨fun hn0 hn1 => ?_, fun sb h hmax => ?_⟩⟩
  · refine ⟨s.chip, ?_, rfl⟩
    change execRecordEntry s = _
    unfold execRecordEntry
    dsimp only
    rcases h with h | h
    · rw [h]
      rfl
    · split
      · rw [if_pos h]
        rfl
      · rfl
  · exact ⟨s.chip, congrArg s.become (if_neg (by simp [h])), rfl⟩
  · exact ⟨s.chip, congrArg s.become (if_neg (by omega)), rfl⟩
  · obtain ⟨happ, hsame, last, hlast⟩ := leadSector_shows s.chip.eddySlot hne
    exact ⟨happ, hsame, last, hlast, fun h => completes_emmcWriteDone_eddy hf hne hlast h⟩
  · obtain ⟨t, hexec, k1, k2, k3, k4, k5, k6, k7, r, hr, hsrc, hcode, hdata⟩ := completes_emmcWriteDone_clear hf hc h2 hp
    exact ⟨t, hexec, k1, k2, k3, k4, k5, k6, k7, r, hr, hsrc, hcode, hdata⟩
  · refine ⟨_, exec_logRecoveryDone_none h0 ?_, get_put_same ..⟩
    change (assoc s.chip.evr.logs (s.chip.get Reg.EVR_LBA.LBA) {}).best = none
    unfold EmmcLog.best
    rw [hn0, hn1]
  · obtain ⟨t, hexec, k1, k2, k3, k4, k5, k6, k7, k8⟩ := completes_logRecoveryDone h0 (EmmcLog.best_highest (l := s.chip.logChosen.log) h hmax)
    obtain ⟨hnil, hhigh⟩ := highestSeq_shows s.chip.logChosen.log.found
    refine ⟨t, hexec, k1, k2, k3, k4, k5, k6, fun r hr hrmax => ?_, fun hempty => ?_, fun hroom => ?_⟩
    · rw [k7]
      cases htop : highestSeq s.chip.logChosen.log.found with
      | none => exact absurd hr (by rw [show (assoc s.chip.evr.logs (s.chip.get Reg.EVR_LBA.LBA) {}).found = [] from hnil htop]; simp)
      | some q =>
        obtain ⟨hq, hqmax⟩ := hhigh q htop
        have heq : q.seq = r.seq := le_antisymm (hrmax q hq) (hqmax r hr)
        unfold nextSeq
        dsimp only
        rw [heq]
    · rw [k7, show s.chip.logChosen.log.found = [] from hempty]
      rfl
    · obtain ⟨d, r, hr, hsrc, hcode, hdata⟩ := k8 hroom
      exact ⟨r, hr, hsrc, hcode, by rw [hdata]; rfl⟩

end Sys2Proof.Machine
end

section
/-!
PROOFS. What the load of step 9 leaves of WPOR (22 R602, 07 R258).
-/
namespace Sys2Proof.Machine
open Chip

/-! ### The loader's writes -/

/-- A part of a register that the loader writes is not WPOR. -/
def Piece.sparesWpor (p : Piece) : Bool := p.fld.acc != .rwl || p.fld.key != Reg.WR_STAT.WPOR.key

theorem headerPieces_sparesWpor {pg : Nat} (hpg : pg % 0x1000 = 0) (off : Nat) : (Reg.headerPieces pg off).all Piece.sparesWpor = true := by
  have hkey : ∀ p : Piece, p.fld.lo < 32 → pg ≤ p.fld.addr → p.fld.addr < pg + 0x40 → p.sparesWpor = true := fun p hlo h1 h2 => by
    unfold Piece.sparesWpor Fld.key
    rw [Bool.or_eq_true, bne_iff_ne, bne_iff_ne, show Reg.WR_STAT.WPOR.addr = 0x50000040 from rfl, show Reg.WR_STAT.WPOR.lo = 11 from rfl]
    omega
  have hctrl : (⟨Reg.BLK_CTRL.ENABLE pg, 0, 1, 0⟩ : Piece).sparesWpor = true := hkey _ (show 0 < 32 by decide) (Nat.le_add_right pg 8) (Nat.add_lt_add_left (by decide) pg)
  have hconsent : (⟨Reg.BLK_PWR.CONSENT pg, 16, 2, 0⟩ : Piece).sparesWpor = true :=
    hkey _ (show 16 < 32 by decide) (Nat.le_add_right pg 0x1C) (Nat.add_lt_add_left (by decide) pg)
  have hdelay : (⟨Reg.BLK_PWR.IDLE_DLY pg, 8, 8, 0⟩ : Piece).sparesWpor = true :=
    hkey _ (show 8 < 32 by decide) (Nat.le_add_right pg 0x1C) (Nat.add_lt_add_left (by decide) pg)
  have hgate : (⟨Reg.BLK_PWR.GATE pg, 0, 2, 0⟩ : Piece).sparesWpor = true := hkey _ (show 0 < 32 by decide) (Nat.le_add_right pg 0x1C) (Nat.add_lt_add_left (by decide) pg)
  unfold Reg.headerPieces
  split_ifs
  · rw [List.all_cons, List.all_cons, hctrl]
    rfl
  · rfl
  · rfl
  · rfl
  · rw [List.all_cons, List.all_cons, List.all_cons, hconsent, hdelay, hgate]
    rfl
  all_goals rfl

theorem regRows_sparesWpor : Reg.regRows.all (fun r => (List.range (max 1 r.count)).all (fun i => (r.pieces i).all Piece.sparesWpor)) = true := by
  decide +kernel

theorem regPieces_sparesWpor (a : Nat) : ∀ p ∈ (regPieces a).filter (fun p => p.fld.acc == .rwl), p.fld.key ≠ Reg.WR_STAT.WPOR.key := by
  have hall : (regPieces a).all Piece.sparesWpor = true := by
    unfold regPieces
    split
    · split
      · exact headerPieces_sparesWpor pageOf_mod _
      · exact headerPieces_sparesWpor page0_mod _
    · split
      · rfl
      · rename_i r hr
        split
        · rename_i i hi
          exact List.all_eq_true.1 (List.all_eq_true.1 regRows_sparesWpor r (List.mem_of_find?_eq_some hr)) i (List.mem_range.2 (RegRow.index?_lt hi))
        · rfl
  intro p hp
  obtain ⟨hmem, hacc⟩ := List.mem_filter.1 hp
  have h := List.all_eq_true.1 hall p hmem
  unfold Piece.sparesWpor at h
  rw [show (p.fld.acc != .rwl) = false by simpa using hacc, Bool.false_or] at h
  exact bne_iff_ne.1 h

/-! ### WPOR kept -/

section
variable {u t v : Chip}

/-- WPOR reads as before. -/
def Chip.WporKept (u t : Chip) : Prop := t.get Reg.WR_STAT.WPOR = u.get Reg.WR_STAT.WPOR

namespace Chip.WporKept

theorem rfl : Chip.WporKept u u := .refl _

theorem trans (h : Chip.WporKept u t) (k : Chip.WporKept t v) : Chip.WporKept u v := Eq.trans k h

theorem ite {c : Prop} [Decidable c] (h : Chip.WporKept u t) (k : Chip.WporKept u v) : Chip.WporKept u (if c then t else v) := by
  split
  · exact h
  · exact k

theorem put {f : Fld} {x : Nat} (h : f.key ≠ Reg.WR_STAT.WPOR.key) : Chip.WporKept u (u.put f x) := get_put_ne _ _ _ _ h

theorem foldl {α : Type} {g : Chip → α → Chip} {l : List α} (h : ∀ t, ∀ x ∈ l, Chip.WporKept t (g t x)) : Chip.WporKept u (l.foldl g u) := by
  induction l generalizing u with
  | nil => exact .rfl
  | cons x l ih => exact (h u x (.head _)).trans (ih fun t y hy => h t y (.tail _ hy))

/-- An operation outside Weir's registers. -/
theorem of_within {S : Scope} (h : Within S u t) (hs : S.covers 0x500 = false) : Chip.WporKept u t :=
  h.regs _ (by decide) (by decide) (by decide) hs

theorem of_falls (h : Falls u t) : Chip.WporKept u t := h.shown _ (by decide)

end Chip.WporKept

theorem Chip.putRwl_wpor (a x : Nat) : WporKept u (u.putRwl a x) := .foldl fun _ p hp => .put (regPieces_sparesWpor a p hp)

theorem Chip.loadRegs_wpor (l : List Nat) (b : List Byte) : WporKept u (u.loadRegs l b) := .foldl fun _ _ _ => putRwl_wpor _ _

theorem Chip.loadSet_wpor (k : Nat) (b : List Byte) : WporKept u (u.loadSet k b) := by
  unfold Chip.loadSet
  dsimp only
  exact .ite (((loadRegs_wpor ..).trans (.of_within takePortCfg_within (by rfl))).trans (loadRegs_wpor ..))
    (.ite ((loadRegs_wpor ..).trans (.of_within loadRouting_within (by rfl))) (loadRegs_wpor ..))

theorem Chip.loadOne_wpor (s : ParamSet) : WporKept u (u.loadOne s) := by
  unfold Chip.loadOne
  dsimp only
  have hheads : WporKept u (if s.1 ≤ 12 then { u with com := { u.com with heads := u.com.heads ++ [(s.1, s.2.1, s.2.2.length)] } } else u) := .ite .rfl .rfl
  exact .ite (hheads.trans (loadSet_wpor ..)) (hheads.trans (.of_within loadContent_within (by rfl)))

theorem Chip.weirDefaults_wpor : WporKept u u.weirDefaults := .foldl fun _ a _ => .foldl fun _ p hp => .put (regPieces_sparesWpor a p hp)

theorem Chip.unload_wpor (back : Chip) : WporKept u (u.unload back) := by
  unfold Chip.unload
  extract_lets v
  exact WporKept.trans (t := v) .rfl (.foldl fun _ _ _ => putRwl_wpor _ _)

theorem Chip.weirSafe_wpor (cause : Nat) : WporKept u (u.weirSafe cause) := weirSafe_shown _ _ _ (by decide) (by decide)

theorem Chip.latEvent_wpor (b code : Nat) (d : List Nat) : WporKept u ((u.irq latPage b).raiseAfter 4 code d) := latEvent_get _ _ _ _ _ (by decide) (by decide)

theorem Chip.sbCommand_wpor (ok : List Nat) (st : Nat) : WporKept u (u.sbCommand ok st) :=
  .ite ((WporKept.put (by decide)).trans (.put (by decide))) (.put (by decide))

theorem Chip.sbLoadEnd_wpor : WporKept u u.sbLoadEnd := .ite ((sbCommand_wpor ..).trans (latEvent_wpor ..)) (sbCommand_wpor ..)

theorem Chip.latCorrected_wpor (bank w : Nat) : WporKept u (u.latCorrected bank w) :=
  (WporKept.put (by decide)).trans (latEvent_wpor ..)

theorem Chip.activeEcc_wpor (ecc w : Nat) : WporKept u (u.activeEcc ecc w) := .ite (latCorrected_wpor ..) (.ite (weirSafe_wpor _) .rfl)

theorem Chip.verifyScanned_wpor (a b : Bank) (bad : List Nat) : WporKept u (u.verifyScanned a b bad) := by
  have hbank : ∀ x : Chip, WporKept x (x.putStandby b bad) := fun x => .ite .rfl .rfl
  unfold Chip.verifyScanned
  extract_lets cv v _ w changed
  have hv : WporKept u v := (hbank u).trans (.put (by decide))
  have hw : WporKept u w := hv.trans (.ite .rfl .rfl)
  clear_value changed w
  exact (hw.trans (t := { w with lat := { w.lat with changed := changed } }) .rfl).trans (.put (by decide))

theorem Chip.verifyResult_wpor (b : Bank) (bad : List Nat) : WporKept u (u.verifyResult b bad) := by
  unfold Chip.verifyResult
  extract_lets f mismatch
  split
  · exact (WporKept.put (by decide)).trans (.put (by decide))
  · have hfree : WporKept u f.2 := .rfl
    exact .ite ((hfree.trans (.put (by decide))).trans (.put (by decide))) ((WporKept.put (by decide)).trans (.put (by decide)))

theorem Chip.verifyDone_wpor (ecc w : Nat) : WporKept u (u.verifyDone ecc w) := by
  rw [verifyDone_eq]
  exact .ite .rfl ((((WporKept.ite (latCorrected_wpor ..) .rfl).trans (verifyScanned_wpor ..)).trans (verifyResult_wpor ..)).trans
    (((WporKept.put (by decide)).trans (latEvent_wpor ..)).trans (activeEcc_wpor ..)))

theorem Chip.swapArm_wpor (arm : Bool) : WporKept u (u.swapArm arm) := by
  have hrefuse : ∀ n, WporKept u (u.swapRefuse n) := fun n => ((WporKept.put (by decide)).trans (.put (by decide))).trans (latEvent_wpor ..)
  exact .ite (.put (by decide)) (.ite (hrefuse _) (.ite (hrefuse _) (.ite (hrefuse _) (.put (by decide)))))

theorem Chip.loadLattice_wpor (b : List Byte) (ecc w : Nat) : WporKept u (u.loadLattice b ecc w) := by
  have hbank : ∀ (x : Chip) (bank : Bank), WporKept x (x.putStandby bank []) := fun x bank => .ite .rfl .rfl
  unfold Chip.loadLattice
  extract_lets bank v
  have hv : WporKept u v := ((((sbCommand_wpor ..).trans (hbank _ _)).trans sbLoadEnd_wpor).trans (sbCommand_wpor ..)).trans (verifyDone_wpor ..)
  exact .ite ((hv.trans (.put (by decide))).trans (swapArm_wpor _)) hv

theorem Chip.loadPackage_wpor (l : List ParamSet) (ecc w : Nat) : WporKept u (u.loadPackage l ecc w) := by
  unfold Chip.loadPackage
  extract_lets -underBinder v back
  have hv : WporKept u v := ((WporKept.foldl fun _ _ _ => loadOne_wpor _).trans (.of_within loadKeys_within (by rfl))).trans (.of_within loadClaim_within (by rfl))
  clear_value v back
  split
  · extract_lets d cond
    have hd : WporKept u d := (hv.trans (unload_wpor _)).trans (.of_within cfgDefaults_within (by rfl))
    exact .ite hd (hd.trans (.foldl fun _ _ _ => .ite (.of_within rtEvent_within (by rfl)) .rfl))
  · extract_lets v'
    have hv' : WporKept u v' := hv.trans (.of_within loadEvents_within (by rfl))
    split
    · exact hv'
    · extract_lets x
      have hx : WporKept u x := hv'.trans (loadLattice_wpor ..)
      have hbank : ∀ y : Chip, WporKept y (y.putStandby [] []) := fun y => .ite .rfl .rfl
      exact .ite hx (((hx.trans (unload_wpor _)).trans (hbank _)).trans (.of_within cfgDefaults_within (by rfl)))

theorem Chip.weirCfgCheck_wpor : WporKept u u.weirCfgCheck :=
  .ite .rfl (WporKept.trans (t := u.modWeir (fun w => { w with cfgOk := false })) .rfl (weirSafe_wpor _))

theorem Chip.outLockout_wpor (n cause : Nat) (fb env : Bool) (stamp : Nat) : WporKept u (u.outLockout n cause fb env stamp) := by
  have hcause : ∀ (x : Chip) (m c : Nat), WporKept x (x.put (Reg.SOUT_ST.CAUSE m) c) := fun x m c => .of_within (put_within Reg.SOUT_ST.CAUSE_in) (by rfl)
  unfold Chip.outLockout
  extract_lets g side v w x
  have hv : WporKept u v := .foldl fun t m _ => (WporKept.of_falls outEnter_falls).trans (hcause _ _ _)
  have hw : WporKept u w := (hv.trans (hcause _ _ _)).trans (.of_within (setBit_within (Fld.inBlocks_self (by rfl))) (by rfl))
  have hx : WporKept u x := .ite (hw.trans (.of_within (irq_within (.self (by rfl))) (by rfl))) hw
  exact .ite (hcause _ _ _) (((hx.trans (.put (by decide))).trans (.of_within (irq_within (.self (by rfl))) (by rfl))).trans (.of_within raiseSince_within (by rfl)))

end
end Sys2Proof.Machine
end

section
/-!
PROOFS. The steps of the boot (22 R602 to R607), and O55.
-/
namespace Sys2Proof.Machine
open Chip

section
variable {s : State} {u t v : Chip} {r : ResetReq} {k m m2 : Nat} {ok ok2 : Bool}

/-! ### When a step is taken -/

theorem exec_bootStepDone_idle (h : s.chip.boot.reset = none ∨ s.chip.boot.released = none ∨ s.chip.boot.stopped = true ∨ k ∈ s.chip.boot.done) :
    exec (.bootStepDone k ok ok2 m m2) s = s.become s.chip := by
  change execBootStepDone k ok ok2 m m2 s = _
  unfold execBootStepDone
  dsimp only
  split
  · rename_i r x hr hx
    rw [if_pos]
    rcases h with h | h | h | h
    · exact absurd (hr.symm.trans h) (by simp)
    · exact absurd (hx.symm.trans h) (by simp)
    · simp [h]
    · rw [List.contains_iff_mem.2 h, Bool.or_true, Bool.true_or]
  · rfl

theorem exec_bootStepDone_early (hr : s.chip.boot.reset = some r) (h : ∃ n ∈ bootNeeds (r.kind == 1) k, n ∉ s.chip.boot.done) :
    exec (.bootStepDone k ok ok2 m m2) s = s.become s.chip := by
  obtain ⟨n, hn, hnot⟩ := h
  change execBootStepDone k ok ok2 m m2 s = _
  unfold execBootStepDone
  dsimp only
  rw [hr]
  split
  · rename_i r' x hr' hx
    obtain rfl := Option.some.inj hr'
    rw [if_pos]
    rw [Bool.or_eq_true, Bool.not_eq_true', List.all_eq_false]
    exact .inr ⟨n, hn, by simpa using hnot⟩
  · rfl

/-- A step that is due: not taken yet, with what it needs behind it. -/
def Chip.stepDue (u : Chip) (r : ResetReq) (k : Nat) : Prop := k ∉ u.boot.done ∧ ∀ n ∈ bootNeeds (r.kind == 1) k, n ∈ u.boot.done

theorem exec_bootStepDone_due (hr : s.chip.boot.reset = some r) (hrel : s.chip.boot.released.isSome) (hstop : s.chip.boot.stopped = false)
    (hdue : s.chip.stepDue r k) (ok ok2 : Bool) (m m2 : Nat) : exec (.bootStepDone k ok ok2 m m2) s = s.become (s.chip.bootStep r k ok ok2 m m2) := by
  obtain ⟨hnot, hneeds⟩ := hdue
  obtain ⟨x, hx⟩ := Option.isSome_iff_exists.1 hrel
  change execBootStepDone k ok ok2 m m2 s = _
  unfold execBootStepDone
  dsimp only
  rw [hr, hx]
  dsimp only
  rw [if_neg]
  have hall : (bootNeeds (r.kind == 1) k).all (fun n => s.chip.boot.done.contains n) = true :=
    List.all_eq_true.2 fun n hn => List.contains_iff_mem.2 (hneeds n hn)
  rw [hstop, hall]
  simpa using hnot

/-! ### A completed step and a stop -/

/-- A step that has completed, of the boot of `r`. -/
def Chip.stepDone (t : Chip) (r : ResetReq) (k : Nat) : Prop := k ∈ t.boot.done ∧ t.get Reg.BOOT_STAT.STEP = k ∧ t.boot.reset = some r

theorem mem_addNew (n : Nat) (l : List Nat) : n ∈ addNew n l := by
  unfold addNew
  split
  · exact List.contains_iff_mem.1 ‹_›
  · simp

theorem Chip.bootDone_done (hk : k < 16) (hr : v.boot.reset = some r) : (v.bootDone k).stepDone r k :=
  ⟨mem_addNew k _, (get_put_same ..).trans (Nat.mod_eq_of_lt hk), hr⟩

theorem Chip.bootDone_get {f : Fld} (hf : Reg.BOOT_STAT.STEP.key ≠ f.key) : (v.bootDone k).get f = v.get f := get_put_ne _ _ _ _ hf

theorem Chip.bootDone_com : (v.bootDone k).com = v.com := rfl

theorem Chip.bootFail_stops (fcode : Nat) (hr : u.boot.reset.isSome) (hs : u.staged 28 = false) (hk : k ∉ u.boot.done) :
    (u.bootFail fcode k).boot.stopped = true ∧ (u.bootFail fcode k).get Reg.BOOT_STAT.FAIL = 1 ∧ k ∉ (u.bootFail fcode k).boot.done ∧
      (u.bootFail fcode k).reports 28 4 [fcode, k] = true ∧ ((u.bootFail fcode k).get (Reg.IRQ.RAW clkPage)).testBit 2 = true := by
  have hstop : u.bootStop = ({ u with boot := { u.boot with stopped := true } }).put Reg.BOOT_STAT.FAIL 1 := if_pos hr
  obtain ⟨v, hv⟩ : ∃ v, v = u.bootStop := ⟨_, rfl⟩
  have hboot : v.boot = { u.boot with stopped := true } := by rw [hv, hstop]; rfl
  have hfail : v.get Reg.BOOT_STAT.FAIL = 1 := by rw [hv, hstop]; exact get_put_same ..
  have hstaged : v.staged 28 = false := by rw [hv, hstop]; exact hs
  have heq : u.bootFail fcode k = (v.irq clkPage 2).raiseAfter 28 4 [fcode, k] := by rw [hv]; rfl
  have hkept : (u.bootFail fcode k).boot = v.boot := by rw [heq, raiseAfter_boot, irq_boot]
  rw [hkept, heq, get_raiseAfter _ _ _ _ _ (by decide) (by decide) (by decide) (by decide), get_irq _ _ _ _ (by decide) (by decide), hboot]
  refine ⟨rfl, hfail, hk, raiseAfter_reports _ _ _ (by decide) ?_, ?_⟩
  · unfold Chip.staged
    rw [irq_intake]
    exact hstaged
  · rw [get_raiseAfter _ _ _ _ _ (by decide) (by decide) (by decide) (by decide), testBit_irq _ _ _ _ (by decide)]
    simp

/-! ### Steps 1 to 5 -/

theorem Chip.bootStep_one (hr : u.boot.reset = some r) : (u.bootStep r 1 true ok2 m m2).stepDone r 1 ∧
    (u.bootStep r 1 true ok2 m m2).get Reg.FW_SVN.SVN = u.com.svn % 2 ^ 32 := by
  have hshown : u.fwShow.get Reg.FW_SVN.SVN = u.com.svn % 2 ^ 32 := by
    unfold Chip.fwShow
    dsimp only
    rw [get_put_ne _ _ _ _ (by decide), get_put_ne _ _ _ _ (by decide), get_put_same]
    rfl
  change (u.fwShow.bootDone 1).stepDone r 1 ∧ (u.fwShow.bootDone 1).get Reg.FW_SVN.SVN = _
  rw [bootDone_get (by decide)]
  exact ⟨bootDone_done (by decide) hr, hshown⟩

theorem Chip.bootStep_three (hr : u.boot.reset = some r) :
    (u.bootStep r 3 true true m m2).stepDone r 3 ∧ (u.bootStep r 3 true true m m2).get Reg.CLK_STAT.ROOT_LOCK = 1 ∧
      (u.bootStep r 3 true true m m2).get Reg.CLK_STAT.ON_PLL = 1 ∧ (u.bootStep r 3 true true m m2).get Reg.CLK_CTL.SEL = 1 := by
  obtain ⟨v, hv⟩ : ∃ v, v = if r.kind = 1 then u.bootStep3 else u.bootStep3.put Reg.CLK_STAT.DDR_LOCK 1 := ⟨_, rfl⟩
  have hboot : v.boot = u.boot := by
    rw [hv]
    split <;> rfl
  have hget : ∀ f : Fld, Reg.CLK_STAT.DDR_LOCK.key ≠ f.key → v.get f = u.bootStep3.get f := fun f hf => by
    rw [hv]
    split
    · rfl
    · exact get_put_ne _ _ _ _ hf
  change (Chip.bootDone (if r.kind = 1 then u.bootStep3 else u.bootStep3.put Reg.CLK_STAT.DDR_LOCK 1) 3).stepDone r 3 ∧
    (Chip.bootDone (if r.kind = 1 then u.bootStep3 else u.bootStep3.put Reg.CLK_STAT.DDR_LOCK 1) 3).get _ = 1 ∧
    (Chip.bootDone (if r.kind = 1 then u.bootStep3 else u.bootStep3.put Reg.CLK_STAT.DDR_LOCK 1) 3).get _ = 1 ∧
    (Chip.bootDone (if r.kind = 1 then u.bootStep3 else u.bootStep3.put Reg.CLK_STAT.DDR_LOCK 1) 3).get _ = 1
  rw [← hv, bootDone_get (by decide), bootDone_get (by decide), bootDone_get (by decide), hget _ (by decide), hget _ (by decide), hget _ (by decide)]
  refine ⟨bootDone_done (by decide) (by rw [hboot, hr]), ?_, ?_, ?_⟩
  all_goals
    unfold Chip.bootStep3
    dsimp only
    simp (disch := decide) only [get_put_ne, get_put_same]
    rfl

/-- A clock fault shown, with the link silent (R595). -/
def Chip.clockShown (u : Chip) (fcode dom : Nat) : Chip :=
  let u := u.sluiceSafe
  ((({ u with link := { u.link with silent := true } } : Chip).put Reg.CLK_FLT.VALID 1).put Reg.CLK_FLT.DOMAIN dom).put Reg.CLK_FLT.FCODE fcode

/-- What a clock fault shows, whatever the boot does after it. -/
structure Chip.ClockFaulted (u t : Chip) (fcode dom : Nat) : Prop where
  silent : t.link.silent = true
  valid : t.get Reg.CLK_FLT.VALID = 1
  domain : t.get Reg.CLK_FLT.DOMAIN = dom
  fcode : t.get Reg.CLK_FLT.FCODE = fcode
  raw : (t.get (Reg.IRQ.RAW clkPage)).testBit 0 = true
  dhs : t.get Reg.SOUT_DHS.VAL = u.sluiceSafe.get Reg.SOUT_DHS.VAL
  dls : t.get Reg.SOUT_DLS.VAL = u.sluiceSafe.get Reg.SOUT_DLS.VAL
  reset : t.boot.reset = u.boot.reset
  done : t.boot.done = u.boot.done

/-- The boot stops, or a fault of it is reported: what the clock fault has shown stays. -/
theorem Chip.ClockFaulted.step {fcode dom : Nat} (h : ClockFaulted u t fcode dom) (hlink : v.link = t.link) (hreset : v.boot.reset = t.boot.reset)
    (hdone : v.boot.done = t.boot.done) (hget : ∀ f : Fld, f.addr ∈ [0x40100044, 0x40500054, 0x40500058] → f.lo < 32 → v.get f = t.get f)
    (hraw : (t.get (Reg.IRQ.RAW clkPage)).testBit 0 = true → (v.get (Reg.IRQ.RAW clkPage)).testBit 0 = true) : ClockFaulted u v fcode dom :=
  ⟨by rw [hlink]; exact h.silent, (hget _ (by decide) (by decide)).trans h.valid, (hget _ (by decide) (by decide)).trans h.domain,
    (hget _ (by decide) (by decide)).trans h.fcode, hraw h.raw, (hget _ (by decide) (by decide)).trans h.dhs, (hget _ (by decide) (by decide)).trans h.dls,
    hreset.trans h.reset, hdone.trans h.done⟩

theorem Chip.ClockFaulted.bootStop {fcode dom : Nat} (h : ClockFaulted u t fcode dom) : ClockFaulted u t.bootStop fcode dom := by
  unfold Chip.bootStop
  split
  · exact h.step rfl rfl rfl
      (fun f hf hlo => get_put_ne _ _ _ _ (Fld.key_ne (by decide) hlo fun e => absurd (e ▸ hf) (by decide)))
      (fun hr => (congrArg (Nat.testBit · 0) (get_put_ne _ _ _ _ (by decide))).trans hr)
  · exact h

theorem Chip.ClockFaulted.bootFail {fcode dom : Nat} (h : ClockFaulted u t fcode dom) (fc : Nat) : ClockFaulted u (t.bootFail fc k) fcode dom := by
  refine h.bootStop.step ?_ ?_ ?_ (fun f hf hlo => ?_) (fun hr => ?_)
  · exact (raiseAfter_link ..).trans (irq_link ..)
  · exact congrArg Boot.reset ((raiseAfter_boot ..).trans (irq_boot ..))
  · exact congrArg Boot.done ((raiseAfter_boot ..).trans (irq_boot ..))
  · have hraw : f.addr ≠ (Reg.IRQ.RAW clkPage).addr := fun e => absurd (e ▸ hf) (by decide)
    have hblock : 0x40000000 ≤ f.addr ∧ f.addr % 0x1000 ≠ 0xC ∧ f.addr / 0x100000 ≠ 0x409 := by
      simp only [List.mem_cons, List.not_mem_nil, or_false] at hf
      omega
    obtain ⟨h4, hc, h9⟩ := hblock
    exact (get_raiseAfter _ _ _ _ _ hlo h4 hc h9).trans (get_irq _ _ _ _ hlo hraw)
  · refine (congrArg (Nat.testBit · 0) (get_raiseAfter _ _ _ _ _ (by decide) (by decide) (by decide) (by decide))).trans ?_
    rw [testBit_irq _ _ _ _ (by decide), hr]
    rfl

theorem Chip.clockFault_faulted {fcode dom : Nat} (hf : fcode < 2 ^ 16) (hd : dom < 16) (data : List Nat) : ClockFaulted u (u.clockFault fcode dom data) fcode dom := by
  obtain ⟨v, hv⟩ : ∃ v, v = u.clockShown fcode dom := ⟨_, rfl⟩
  have heq : u.clockFault fcode dom data = if ((v.irq clkPage 0).raiseAfter 28 0x01 ([fcode, dom] ++ data)).boot.done.contains 3 then
      ((v.irq clkPage 0).raiseAfter 28 0x01 ([fcode, dom] ++ data)).bootStop else (v.irq clkPage 0).raiseAfter 28 0x01 ([fcode, dom] ++ data) := by
    rw [hv]
    rfl
  have hboot : v.boot = u.boot := by
    rw [hv]
    exact sluiceSafe_within.same .boot (by decide)
  have hshown : ClockFaulted u ((v.irq clkPage 0).raiseAfter 28 0x01 ([fcode, dom] ++ data)) fcode dom := by
    have hget : ∀ f : Fld, f.lo < 32 → f.addr ≠ (Reg.IRQ.RAW clkPage).addr → 0x40000000 ≤ f.addr → f.addr % 0x1000 ≠ 0xC → f.addr / 0x100000 ≠ 0x409 →
        ((v.irq clkPage 0).raiseAfter 28 0x01 ([fcode, dom] ++ data)).get f = v.get f := fun f hlo hraw h4 hc h9 =>
      (get_raiseAfter _ _ _ _ _ hlo h4 hc h9).trans (get_irq _ _ _ _ hlo hraw)
    refine ⟨?_, ?_, ?_, ?_, ?_, ?_, ?_, ?_, ?_⟩
    · rw [raiseAfter_link, irq_link, hv]
      rfl
    · rw [hget _ (by decide) (by decide) (by decide) (by decide) (by decide), hv]
      unfold Chip.clockShown
      rw [get_put_ne _ _ _ _ (by decide), get_put_ne _ _ _ _ (by decide), get_put_same]
      rfl
    · rw [hget _ (by decide) (by decide) (by decide) (by decide) (by decide), hv]
      unfold Chip.clockShown
      rw [get_put_ne _ _ _ _ (by decide), get_put_same]
      exact Nat.mod_eq_of_lt hd
    · rw [hget _ (by decide) (by decide) (by decide) (by decide) (by decide), hv]
      unfold Chip.clockShown
      rw [get_put_same]
      exact Nat.mod_eq_of_lt hf
    · rw [get_raiseAfter _ _ _ _ _ (by decide) (by decide) (by decide) (by decide), testBit_irq _ _ _ _ (by decide)]
      simp
    · rw [hget _ (by decide) (by decide) (by decide) (by decide) (by decide), hv]
      unfold Chip.clockShown
      rw [get_put_ne _ _ _ _ (by decide), get_put_ne _ _ _ _ (by decide), get_put_ne _ _ _ _ (by decide)]
      rfl
    · rw [hget _ (by decide) (by decide) (by decide) (by decide) (by decide), hv]
      unfold Chip.clockShown
      rw [get_put_ne _ _ _ _ (by decide), get_put_ne _ _ _ _ (by decide), get_put_ne _ _ _ _ (by decide)]
      rfl
    · rw [raiseAfter_boot, irq_boot, hboot]
    · rw [raiseAfter_boot, irq_boot, hboot]
  rw [heq]
  split
  · exact hshown.bootStop
  · exact hshown

theorem Chip.clockFaultFree_faulted {fcode dom : Nat} (hf : fcode < 2 ^ 16) (hd : dom < 16) : ClockFaulted u.free.2 (u.clockFaultFree fcode dom) fcode dom :=
  clockFault_faulted hf hd _

/-- A boot that is under way stops. -/
theorem Chip.bootFail_stopped (fcode : Nat) (hr : u.boot.reset.isSome) : (u.bootFail fcode k).boot.stopped = true := by
  have hstop : u.bootStop = ({ u with boot := { u.boot with stopped := true } }).put Reg.BOOT_STAT.FAIL 1 := if_pos hr
  have hkept : (u.bootFail fcode k).boot = u.bootStop.boot := (raiseAfter_boot ..).trans (irq_boot ..)
  rw [hkept, hstop]
  rfl

/-- The clocks fail in step 3: the boot stops and the link falls silent (R596). -/
theorem Chip.bootStep_three_clock (hr : u.boot.reset = some r) : (u.bootStep r 3 true false m m2).boot.stopped = true ∧
    (u.bootStep r 3 true false m m2).link.silent = true ∧ (u.bootStep r 3 true false m m2).get Reg.CLK_FLT.FCODE = 0x7006 := by
  have hfault := clockFaultFree_faulted (u := u) (fcode := 0x7006) (dom := 7) (by decide) (by decide)
  have hall := hfault.bootFail (k := 3) 0x7006
  have heq : u.bootStep r 3 true false m m2 = (u.clockFaultFree 0x7006 7).bootFail 0x7006 3 := by
    rw [Chip.bootStep.eq_3, if_neg (by decide), if_pos (by decide)]
  have hreset : (u.clockFaultFree 0x7006 7).boot.reset = some r := hfault.reset.trans hr
  rw [heq]
  exact ⟨bootFail_stopped _ (by rw [hreset]; rfl), hall.silent, hall.fcode⟩

theorem Chip.bootStep_four (hr : u.boot.reset = some r) (h : ∀ c, c < 3 → u.get (Reg.CH_STATE.STATE c) ≠ 1 ∨ (u.chan c).passed = true) :
    (u.bootStep r 4 ok ok2 m m2).stepDone r 4 ∧ (u.bootStep r 4 ok ok2 m m2).boot.sinBad = m ∧ (u.bootStep r 4 ok ok2 m m2).boot.soutBad = m2 := by
  have hall : (List.range 3).all (fun c => u.chState c != 1 || (u.chan c).passed) = true :=
    List.all_eq_true.2 fun c hc => by simpa [Chip.chState] using h c (List.mem_range.1 hc)
  have heq : u.bootStep r 4 ok ok2 m m2 = ({ u with boot := { u.boot with sinBad := m, soutBad := m2 } } : Chip).bootDone 4 := if_pos hall
  rw [heq]
  exact ⟨bootDone_done (by decide) hr, rfl, rfl⟩

theorem Chip.bootStep_four_waits (h : ∃ c, c < 3 ∧ u.get (Reg.CH_STATE.STATE c) = 1 ∧ (u.chan c).passed = false) : u.bootStep r 4 ok ok2 m m2 = u := by
  obtain ⟨c, hc, hst, hp⟩ := h
  refine if_neg fun hall => ?_
  have := List.all_eq_true.1 hall c (List.mem_range.2 hc)
  simp [Chip.chState, hst, hp] at this

theorem Chip.bootStep_five (hr : u.boot.reset = some r) (hcold : r.kind = 1) : (u.bootStep r 5 true ok2 m m2).stepDone r 5 ∧
    (u.bootStep r 5 true ok2 m m2).get Reg.CLK_STAT.DDR_LOCK = 1 := by
  have heq : u.bootStep r 5 true ok2 m m2 = (u.put Reg.CLK_STAT.DDR_LOCK 1).bootDone 5 :=
    (if_neg (not_not.2 hcold)).trans (if_neg (by decide))
  rw [heq, bootDone_get (by decide)]
  exact ⟨bootDone_done (by decide) hr, get_put_same ..⟩

theorem Chip.bootStep_five_fails (hcold : r.kind = 1) : u.bootStep r 5 false ok2 m m2 = u.bootFail 0x7105 5 :=
  (if_neg (not_not.2 hcold)).trans (if_pos rfl)

/-! ### Step 6 (20 R570, R572) -/

theorem getD_modAt {α : Type} {g : α → α} {d : α} {l : List α} {n : Nat} (hn : n < l.length) : (modAt l n g).getD n d = g (l.getD n d) := by
  induction l generalizing n with
  | nil => exact absurd hn (by simp)
  | cons x l ih =>
    cases n with
    | zero => rfl
    | succ n => simpa [modAt] using ih (Nat.lt_of_succ_lt_succ hn)

/-- The slot that a boot tries first. -/
def Chip.firstSlot (u : Chip) : Nat := if u.com.trial = 0 then u.com.run else 1 - u.com.run

/-- A slot that may start. -/
def Chip.slotFit (u : Chip) (n : Nat) (sig : Bool) : Prop := sig = true ∧ (u.com.slots.getD n {}).state ≠ 0 ∧ u.com.svn ≤ (u.com.slots.getD n {}).svn

theorem Chip.bootSlot_first (h : u.slotFit u.firstSlot ok) : u.bootSlot ok ok2 = some (u.firstSlot, false) := by
  obtain ⟨h1, h2⟩ := h
  subst h1
  exact if_pos (by simpa [Chip.firstSlot, Chip.trialSlot] using h2)

theorem Chip.bootSlot_other (h : ¬ u.slotFit u.firstSlot ok) (h2 : u.slotFit (1 - u.firstSlot) ok2) : u.bootSlot ok ok2 = some (1 - u.firstSlot, true) := by
  obtain ⟨k1, k2⟩ := h2
  subst k1
  unfold Chip.bootSlot
  dsimp only
  rw [if_neg, if_pos]
  · rfl
  · simpa [Chip.firstSlot, Chip.trialSlot] using k2
  · simpa [Chip.slotFit, Chip.firstSlot, Chip.trialSlot] using h

theorem Chip.bootSlot_none (h : ¬ u.slotFit u.firstSlot ok) (h2 : ¬ u.slotFit (1 - u.firstSlot) ok2) : u.bootSlot ok ok2 = none := by
  unfold Chip.bootSlot
  dsimp only
  rw [if_neg, if_neg]
  · simpa [Chip.slotFit, Chip.firstSlot, Chip.trialSlot] using h2
  · simpa [Chip.slotFit, Chip.firstSlot, Chip.trialSlot] using h

end
end Sys2Proof.Machine
end

section
/-!
PROOFS. The later steps of the boot, and O55 (22 R602 to R607).
-/
namespace Sys2Proof.Machine
open Chip

section
variable {s : State} {u t v : Chip} {r : ResetReq} {k m m2 : Nat} {ok ok2 : Bool}

/-! ### Step 6 (20 R570, R572) -/

/-- The store once a slot starts. -/
def Commission.started (k : Commission) (slot : Nat) (fallback trial : Bool) : Commission :=
  let slots := modAt k.slots slot (fun f => { f with state := if trial then 4 else 5 })
  let slots := if fallback then modAt slots (1 - slot) (fun f => { f with state := if f.state = 0 then 0 else 3 }) else slots
  { k with slots := slots, run := if trial then k.run else slot, trial := if k.trial ≠ 0 ∧ trial = false then 0 else k.trial, reverted := none }

/-- The started slot in the firmware registers. -/
def Chip.slotShown (u : Chip) (slot : Nat) (fallback : Bool) : Chip :=
  ({ u with com := u.com.started slot fallback (decide (u.com.trial ≠ 0 ∧ slot = u.trialSlot)), boot := { u.boot with recovery := false } } : Chip).fwShow

theorem Chip.bootStep6_eq (slot : Nat) (fallback act : Bool) : u.bootStep6 slot fallback act =
    (((match u.com.reverted with
      | some f => (u.slotShown slot fallback).fwRaise 100 0x07 [f, slot]
      | none => u.slotShown slot fallback).put Reg.BOOT_STAT.SLOT slot).put Reg.BOOT_STAT.FALLBACK (lvl fallback)).put Reg.FW_STAT.ACT_BOOT (lvl act) := rfl

/-- What the start of a slot shows, and the report of a trial that is used up. -/
theorem Chip.bootStep6_shows {slot : Nat} {fallback act : Bool} (hslot : slot < 2) (hs : u.staged 100 = false) (ht : u.bootStep6 slot fallback act = t) :
    t.get Reg.BOOT_STAT.SLOT = slot ∧ t.get Reg.BOOT_STAT.FALLBACK = lvl fallback ∧
      t.com = u.com.started slot fallback (decide (u.com.trial ≠ 0 ∧ slot = u.trialSlot)) ∧ t.boot = { u.boot with recovery := false } ∧
      ∀ f, u.com.reverted = some f → t.reports 100 7 [f, slot] = true := by
  subst ht
  rw [bootStep6_eq]
  have hcom : (u.slotShown slot fallback).com = u.com.started slot fallback (decide (u.com.trial ≠ 0 ∧ slot = u.trialSlot)) :=
    fwShow_within.same .com (by decide)
  have hboot : (u.slotShown slot fallback).boot = { u.boot with recovery := false } := fwShow_within.same .boot (by decide)
  have hintake : (u.slotShown slot fallback).intake = u.intake := fwShow_within.same .intake (by decide)
  generalize u.slotShown slot fallback = v at *
  obtain ⟨w, hw⟩ : ∃ w : Chip, w = match u.com.reverted with
      | some f => v.fwRaise 100 0x07 [f, slot]
      | none => v := ⟨_, rfl⟩
  rw [← hw]
  have hwcom : w.com = v.com := by
    rw [hw]
    split
    · exact raiseAfter_com ..
    · rfl
  have hwboot : w.boot = v.boot := by
    rw [hw]
    split
    · exact raiseAfter_boot ..
    · rfl
  refine ⟨?_, ?_, hwcom.trans hcom, hwboot.trans hboot, fun f hf => ?_⟩
  · rw [get_put_ne _ _ _ _ (by decide), get_put_ne _ _ _ _ (by decide), get_put_same]
    exact Nat.mod_eq_of_lt hslot
  · rw [get_put_ne _ _ _ _ (by decide), get_put_same]
    cases fallback <;> rfl
  · have hrep : w.reports 100 7 [f, slot] = true := by
      rw [hw, hf]
      refine raiseAfter_reports _ _ _ (by decide) ?_
      unfold Chip.staged
      rw [hintake]
      exact hs
    exact hrep

theorem Chip.bootStep_six {slot : Nat} {fallback : Bool} (h : u.bootSlot ok ok2 = some (slot, fallback)) :
    u.bootStep r 6 ok ok2 m m2 = (u.bootStep6 slot fallback (r.kind == 3 && r.origin == 3)).bootDone 6 := by
  rw [Chip.bootStep.eq_6, h]

theorem Chip.bootStep_six_first (hr : u.boot.reset = some r) (hs : u.staged 100 = false) (hrun : u.com.run ≤ 1) (hlen : u.com.slots.length = 2)
    (h : u.slotFit u.firstSlot ok) (ht : u.bootStep r 6 ok ok2 m m2 = t) :
    t.stepDone r 6 ∧ t.get Reg.BOOT_STAT.SLOT = u.firstSlot ∧ t.get Reg.BOOT_STAT.FALLBACK = 0 ∧
      (t.com.slots.getD u.firstSlot {}).state = (if u.com.trial = 0 then 5 else 4) ∧ t.com.run = u.com.run ∧ t.boot.recovery = false ∧
      (∀ f, u.com.reverted = some f → t.reports 100 7 [f, u.firstSlot] = true) := by
  have hlt : u.firstSlot < 2 := by
    unfold Chip.firstSlot
    split <;> omega
  obtain ⟨v, hv⟩ : ∃ v, u.bootStep6 u.firstSlot false (r.kind == 3 && r.origin == 3) = v := ⟨_, rfl⟩
  obtain ⟨hslot, hfb, hcom, hboot, hrep⟩ := bootStep6_shows hlt hs hv
  rw [bootStep_six (bootSlot_first h), hv] at ht
  subst ht
  rw [bootDone_get (by decide), bootDone_get (by decide), bootDone_com, hcom]
  have htrial : decide (u.com.trial ≠ 0 ∧ u.firstSlot = u.trialSlot) = decide (u.com.trial ≠ 0) := by
    by_cases h0 : u.com.trial = 0
    · simp [h0]
    · simp [h0, Chip.firstSlot, Chip.trialSlot]
  rw [htrial]
  refine ⟨bootDone_done (by decide) (by rw [hboot]; exact hr), hslot, hfb, ?_, ?_, by rw [show (v.bootDone 6).boot.recovery = v.boot.recovery from rfl, hboot], hrep⟩
  · unfold Commission.started
    dsimp only
    rw [if_neg (by decide), getD_modAt (by rw [hlen]; exact hlt)]
    by_cases h0 : u.com.trial = 0 <;> simp [h0]
  · unfold Commission.started Chip.firstSlot
    by_cases h0 : u.com.trial = 0 <;> simp [h0]

theorem Chip.bootStep_six_other (hr : u.boot.reset = some r) (hs : u.staged 100 = false) (hrun : u.com.run ≤ 1)
    (h : ¬ u.slotFit u.firstSlot ok) (h2 : u.slotFit (1 - u.firstSlot) ok2) (ht : u.bootStep r 6 ok ok2 m m2 = t) :
    t.stepDone r 6 ∧ t.get Reg.BOOT_STAT.SLOT = 1 - u.firstSlot ∧ t.get Reg.BOOT_STAT.FALLBACK = 1 ∧ t.com.trial = 0 ∧ t.com.run = 1 - u.firstSlot := by
  obtain ⟨v, hv⟩ : ∃ v, u.bootStep6 (1 - u.firstSlot) true (r.kind == 3 && r.origin == 3) = v := ⟨_, rfl⟩
  obtain ⟨hslot, hfb, hcom, hboot, -⟩ := bootStep6_shows (by omega) hs hv
  rw [bootStep_six (bootSlot_other h h2), hv] at ht
  subst ht
  rw [bootDone_get (by decide), bootDone_get (by decide), bootDone_com, hcom]
  have htrial : decide (u.com.trial ≠ 0 ∧ 1 - u.firstSlot = u.trialSlot) = false := by
    by_cases h0 : u.com.trial = 0
    · simp [h0]
    · simp only [decide_eq_false_iff_not, Chip.firstSlot, Chip.trialSlot, if_neg h0]
      omega
  rw [htrial]
  refine ⟨bootDone_done (by decide) (by rw [hboot]; exact hr), hslot, hfb, ?_, rfl⟩
  unfold Commission.started
  by_cases h0 : u.com.trial = 0 <;> simp [h0]

/-! ### Steps 7 and 8 -/

theorem Chip.bootStep_seven_bad (hr : u.boot.reset = some r) : (u.bootStep r 7 false ok2 m m2).stepDone r 7 ∧ (u.bootStep r 7 false ok2 m m2).boot.emmcBad = true ∧
    (u.bootStep r 7 false ok2 m m2).get Reg.EVR_STAT.STATE = 5 := by
  have heq : u.bootStep r 7 false ok2 m m2 = (({ u with boot := { u.boot with emmcBad := true } } : Chip).put Reg.EVR_STAT.STATE 5).bootDone 7 := by
    rw [Chip.bootStep.eq_7, if_neg Bool.false_ne_true]
  rw [heq, bootDone_get (by decide)]
  exact ⟨bootDone_done (by decide) hr, rfl, get_put_same ..⟩

/-- The PENDING package becomes the CURRENT one, where eMMC works (R555). -/
def Commission.promoted (k : Commission) (bad : Bool) : Commission :=
  if bad then k else match k.pending with
    | some p => { k with current := some p, pending := none }
    | none => k

/-- The package promoted. -/
def Chip.pkgPromoted (u : Chip) : Chip := { u with com := u.com.promoted u.boot.emmcBad }

theorem Chip.bootCheck_com : u.bootCheck.com = u.com.promoted u.boot.emmcBad := by
  unfold Chip.bootCheck
  extract_lets -underBinder k k' w
  have hw : w.com = u.com.promoted u.boot.emmcBad := rfl
  split
  · exact hw
  · rename_i l _
    extract_lets x want got bad y
    have hx : x.com = w.com := rfl
    have hy : y.com = x.com := by
      unfold y
      split <;> rfl
    split
    · exact (cfgDefaults_within.same .com (by decide)).trans hw
    · exact (foldl_keeps Chip.com (fun _ _ => raiseAfter_com ..) bad y).trans (hy.trans hw)

/-- Without a package that can be read the defaults apply. -/
theorem Chip.bootCheck_none (h : u.pkgPromoted.bootPackage = none) : u.bootCheck.get Reg.CFG_STAT.DEFAULTS = 1 ∧ u.bootCheck.get Reg.CFG_PKGCV.CV = 0 := by
  have heq : u.bootCheck = (u.pkgPromoted.put Reg.CFG_PKGCV.CV 0).put Reg.CFG_STAT.DEFAULTS 1 := by
    unfold Chip.bootCheck
    change (match u.pkgPromoted.bootPackage with
      | none => _
      | some l => _) = _
    rw [h]
    rfl
  rw [heq]
  exact ⟨get_put_same .., (get_put_ne _ _ _ _ (by decide)).trans (get_put_same ..)⟩

/-- A schedule that a restart has lost is reported (Table 20.7). -/
def Chip.scheduleLost (u : Chip) : Chip :=
  match u.com.schedule with
  | some e => ({ u with com := { u.com with schedule := none } }).fwRaise 100 0x08 [e.1, e.2]
  | none => u

theorem Chip.bootStep8_eq : u.bootStep8 = (u.bootCheck.fwShow.scheduleLost.put (Reg.IDB_STAT.BUSY 0) 1).put (Reg.IDB_STAT.BUSY 1) 1 := rfl

theorem Chip.scheduleLost_keeps : u.scheduleLost.com = { u.com with schedule := none } ∧
    ∀ f : Fld, f.lo < 32 → f.addr / 0x100000 = 0x407 → f.addr % 0x1000 ≠ 0xC → u.scheduleLost.get f = u.get f := by
  unfold Chip.scheduleLost
  split
  · exact ⟨raiseAfter_com .., fun f hlo hb hc => get_raiseAfter _ _ _ _ _ hlo (by omega) hc (by omega)⟩
  · rename_i hnone
    refine ⟨?_, fun _ _ _ _ => rfl⟩
    rw [← hnone]

/-- Step 8 after the check: what its registers show, and no schedule. -/
theorem Chip.bootStep8_keeps : u.bootStep8.com = { u.bootCheck.com with schedule := none } ∧
    ∀ f : Fld, f.lo < 32 → f.addr / 0x100000 = 0x407 → f.addr % 0x1000 ≠ 0xC → u.bootStep8.get f = u.bootCheck.get f := by
  rw [bootStep8_eq]
  generalize u.bootCheck = v
  have hcom : v.fwShow.com = v.com := fwShow_within.same .com (by decide)
  have hget : ∀ f : Fld, f.lo < 32 → f.addr / 0x100000 = 0x407 → f.addr % 0x1000 ≠ 0xC → v.fwShow.get f = v.get f := fun f hlo hb hc =>
    fwShow_within.regs f hlo (by omega) hc (by rw [hb]; decide)
  generalize v.fwShow = x at *
  obtain ⟨hycom, hyget⟩ := x.scheduleLost_keeps
  rw [hcom] at hycom
  refine ⟨hycom, fun f hlo hb hc => ?_⟩
  have hkey : ∀ i < 2, (Reg.IDB_STAT.BUSY i).key ≠ f.key := fun i hi => Fld.key_ne
    ((show ∀ i < 2, (Reg.IDB_STAT.BUSY i).lo < 32 by decide) i hi) hlo
    (fun e => absurd ((show ∀ i < 2, (Reg.IDB_STAT.BUSY i).addr / 0x100000 ≠ 0x407 by decide) i hi) (not_not.2 (by rw [e]; exact hb)))
  rw [get_put_ne _ _ _ _ (hkey 1 (by decide)), get_put_ne _ _ _ _ (hkey 0 (by decide)), hyget f hlo hb hc, hget f hlo hb hc]

theorem Chip.bootStep_eight (hr : u.boot.reset = some r) (ht : u.bootStep r 8 ok ok2 m m2 = t) : t.stepDone r 8 ∧ t.com.schedule = none ∧
    (u.boot.emmcBad = false → ∀ p, u.com.pending = some p → t.com.current = some p ∧ t.com.pending = none ∧
      (pkgGood p = false → t.get Reg.CFG_STAT.DEFAULTS = 1 ∧ t.get Reg.CFG_PKGCV.CV = 0)) ∧
    (u.boot.emmcBad = true → t.com.pending = u.com.pending ∧ t.com.current = u.com.current ∧ t.get Reg.CFG_STAT.DEFAULTS = 1) := by
  obtain ⟨hcom, hget⟩ := u.bootStep8_keeps
  have hboot : u.bootStep8.boot = u.boot := bootStep8_within.same .boot (by decide)
  subst ht
  rw [show u.bootStep r 8 ok ok2 m m2 = u.bootStep8.bootDone 8 from rfl, bootDone_get (by decide), bootDone_get (by decide), bootDone_com, hcom, bootCheck_com,
    hget _ (by decide) (by decide) (by decide), hget _ (by decide) (by decide) (by decide)]
  refine ⟨bootDone_done (by decide) (by rw [hboot]; exact hr), rfl, fun hgood p hp => ?_, fun hbad => ?_⟩
  · have hpromoted : u.com.promoted u.boot.emmcBad = { u.com with current := some p, pending := none } := by
      unfold Commission.promoted
      rw [hgood, hp]
      rfl
    rw [hpromoted]
    refine ⟨rfl, rfl, fun hno => bootCheck_none ?_⟩
    unfold Chip.bootPackage Chip.pkgPromoted
    dsimp only
    rw [hpromoted, hgood]
    simp [hno]
  · have hsame : u.com.promoted u.boot.emmcBad = u.com := by
      unfold Commission.promoted
      rw [hbad]
      rfl
    rw [hsame]
    exact ⟨rfl, rfl, (bootCheck_none (by unfold Chip.bootPackage Chip.pkgPromoted; exact if_pos hbad)).1⟩

/-! ### Step 9 (R605; 07 R258) -/

/-- WPOR is read and cleared. -/
def Chip.wporRead (u : Chip) : Chip := ({ u with boot := { u.boot with wpor := u.on Reg.WR_STAT.WPOR } } : Chip).put Reg.WR_STAT.WPOR 0

/-- The load of step 9, after WPOR. -/
def Chip.bootLoad (u : Chip) (ecc w : Nat) : Chip :=
  let u := foldUpTo 3 u (fun u c => if u.chState c = 3 then u else u.loadFirmware c)
  let u := match u.on Reg.CFG_STAT.DEFAULTS, u.bootPackage with
    | false, some l => u.loadPackage l ecc w
    | _, _ => u.weirDefaults.loadClaim
  let u := if u.on Reg.WR_STAT.STOFF_SET then (u.put Reg.TM_STOFF.STOFF (u.get Reg.WR_STOFF.STOFF)).put Reg.TM_STAT.STOFF 1 else u
  let u := (u.modWeir (fun x => { x with cfgCv := u.suppliedCv })).weirCfgCheck
  let u := ((u.sinLoad.sluiceLoad).sinComparatorTest u.boot.sinBad).sluiceComparatorTest u.boot.soutBad
  u.fabricRewind

theorem Chip.bootStep9_eq (ecc w : Nat) : u.bootStep9 ecc w = u.wporRead.bootLoad ecc w := rfl

theorem Chip.cfgChecked_wpor (g : Weir → Weir) : WporKept u (u.modWeir g).weirCfgCheck := WporKept.trans (t := u.modWeir g) .rfl weirCfgCheck_wpor

theorem Chip.sluiceComparatorTest_wpor (failing : Nat) : WporKept u (u.sluiceComparatorTest failing) := .foldl fun _ _ _ => outLockout_wpor ..

theorem Chip.bootLoad_keeps (ecc w : Nat) : (u.bootLoad ecc w).boot = u.boot ∧ WporKept u (u.bootLoad ecc w) := by
  unfold Chip.bootLoad
  extract_lets a b c d e
  have ha : a.boot = u.boot ∧ WporKept u a :=
    have h : Within ⟨[.chans], some []⟩ u a := (Within.foldUpTo fun _ _ => (Within.ite .unchanged loadFirmware_within).le (by decide))
    ⟨h.same .boot (by decide), .of_within h (by rfl)⟩
  have hb : b.boot = a.boot ∧ WporKept a b := by
    unfold b
    split
    · exact ⟨loadPackage_within.same .boot (by decide), loadPackage_wpor ..⟩
    · exact ⟨(weirDefaults_within.trans loadClaim_within).same .boot (by decide), weirDefaults_wpor.trans (.of_within loadClaim_within (by rfl))⟩
  have hc : c.boot = b.boot ∧ WporKept b c := ⟨timeCopy_within.same .boot (by decide), .of_within timeCopy_within (by rfl)⟩
  have hd : d.boot = c.boot ∧ WporKept c d :=
    ⟨((modWeir_within fun _ => by rfl).trans weirCfgCheck_within).same .boot (by decide),
      cfgChecked_wpor _⟩
  have he : e.boot = d.boot ∧ WporKept d e := by
    refine ⟨(((sinLoad_within.trans sluiceLoad_within).trans sinComparatorTest_within).trans sluiceComparatorTest_within).same .boot (by decide), ?_⟩
    exact (((WporKept.of_within sinLoad_within (by rfl)).trans (.of_within sluiceLoad_within (by rfl))).trans
      (.of_within sinComparatorTest_within (by rfl))).trans (sluiceComparatorTest_wpor _)
  have hf : e.fabricRewind.boot = e.boot ∧ WporKept e e.fabricRewind := ⟨fabricRewind_within.same .boot (by decide), .of_within fabricRewind_within (by rfl)⟩
  exact ⟨(((((hf.1.trans he.1).trans hd.1).trans hc.1).trans hb.1).trans ha.1), ((((ha.2.trans hb.2).trans hc.2).trans hd.2).trans he.2).trans hf.2⟩

theorem Chip.bootStep_nine (hr : u.boot.reset = some r) (ht : u.bootStep r 9 ok ok2 m m2 = t) :
    t.stepDone r 9 ∧ t.get Reg.WR_STAT.WPOR = 0 ∧ t.boot.wpor = decide (u.get Reg.WR_STAT.WPOR = 1) := by
  obtain ⟨hboot, hwpor⟩ := u.wporRead.bootLoad_keeps m m2
  subst ht
  rw [show u.bootStep r 9 ok ok2 m m2 = (u.wporRead.bootLoad m m2).bootDone 9 from rfl, bootDone_get (by decide), hwpor]
  refine ⟨bootDone_done (by decide) (by rw [hboot]; exact hr), get_put_same .., ?_⟩
  rw [show ((u.wporRead.bootLoad m m2).bootDone 9).boot.wpor = (u.wporRead.bootLoad m m2).boot.wpor from rfl, hboot]
  have hlt : u.get Reg.WR_STAT.WPOR < 2 := u.get_lt Reg.WR_STAT.WPOR
  change u.on Reg.WR_STAT.WPOR = _
  unfold Chip.on
  rcases Nat.lt_or_ge (u.get Reg.WR_STAT.WPOR) 1 with h | h
  · rw [show u.get Reg.WR_STAT.WPOR = 0 by omega]
    rfl
  · rw [show u.get Reg.WR_STAT.WPOR = 1 by omega]
    rfl

/-! ### Step 11 -/

/-- The channels that have passed enter ACTIVE. -/
def Chip.channelsStart (u : Chip) (r : ResetReq) (l : List Nat) : Chip := l.foldl (fun u c => (u.rtStart c r).chActive c) u

/-- What follows in step 11 once the channels are ACTIVE. -/
def Chip.activeEnd (u : Chip) (l : List Nat) (held : Bool) : Chip :=
  let u := l.foldl (fun u c => u.modChan c (fun h => { h with passed := false })) u
  let u := if held then u else u.confStart (maskOf l)
  let u := (u.setChange (u.get Reg.CF_MODE.MASK)).latRestrict.signalEnables
  let u := if u.boot.restart = 2 then u.keepProofs else u
  ((u.put Reg.TM_STAT.VALID 0).toutArm).fwBooted (l.length == 3)

/-- The channels that have passed their self-test. -/
def Chip.passedChannels (u : Chip) : List Nat := (List.range 3).filter (fun c => u.chState c == 1 && (u.chan c).passed)

theorem Chip.bootActive_eq : u.bootActive r =
    ((if u.heldCause then u.confSafe 0x9001 else u).channelsStart r u.passedChannels).activeEnd u.passedChannels u.heldCause := by
  unfold Chip.bootActive Chip.activeEnd Chip.channelsStart Chip.passedChannels
  rfl

theorem Chip.activeEnd_keeps (l : List Nat) (held : Bool) : (u.activeEnd l held).boot = u.boot ∧
    ∀ c, c < 3 → (u.activeEnd l held).get (Reg.CH_STATE.STATE c) = u.get (Reg.CH_STATE.STATE c) := by
  have hall : Within ⟨frConf ++ [.chans, .weir, .lat, .sin, .com], some (blConf ++ [0x404, 0x406, 0x444])⟩ u (u.activeEnd l held) := by
    unfold Chip.activeEnd
    extract_lets a b c d
    have ha : Within ⟨[.chans], some []⟩ u a := Within.foldl fun _ _ => modChan_within (fun _ => by rfl)
    have hb : Within ⟨frConf ++ [.weir], some blConf⟩ a b := (Within.ite .unchanged confStart_within).le (by decide)
    have hc : Within ⟨[.weir, .lat], some [0x500]⟩ b c := ((setChange_within.trans latRestrict_within).trans signalEnables_within).le (by decide)
    have hd : Within ⟨[.sin], some [0x404]⟩ c d := (Within.ite keepProofs_within .unchanged).le (by decide)
    exact ((((((ha.trans hb).trans hc).trans hd).trans (put_within (Fld.inBlocks_self (by rfl)))).trans toutArm_within).trans fwBooted_within).le (by decide)
  refine ⟨hall.same .boot (by decide), fun c hc => hall.regs _ ?_ ?_ ?_ ?_⟩
  · exact (show ∀ c < 3, (Reg.CH_STATE.STATE c).lo < 32 by decide) c hc
  · exact (show ∀ c < 3, 0x40000000 ≤ (Reg.CH_STATE.STATE c).addr by decide) c hc
  · exact (show ∀ c < 3, (Reg.CH_STATE.STATE c).addr % 0x1000 ≠ 0xC by decide) c hc
  · exact (show ∀ c < 3, (Scope.mk (frConf ++ [.chans, .weir, .lat, .sin, .com]) (some (blConf ++ [0x404, 0x406, 0x444]))).covers
      ((Reg.CH_STATE.STATE c).addr / 0x100000) = false by decide) c hc

/-- The start of a channel's runtime leaves the request and the channel states. -/
theorem Chip.rtStart_keeps (c : Nat) (r : ResetReq) : (u.rtStart c r).boot.reset = u.boot.reset ∧
    ∀ d, d < 3 → (u.rtStart c r).get (Reg.CH_STATE.STATE d) = u.get (Reg.CH_STATE.STATE d) := by
  constructor
  · unfold Chip.rtStart
    extract_lets k rx warm rt kept rt' ended u1 u2 u3 u4 _ u5
    have h1 : u1.boot = u.boot := (rt_within.trans retainedBytes_within).same .boot (by decide)
    have h2 : u2.boot = u1.boot := by
      unfold u2
      split
      · exact rtEvent_within.same .boot (by decide)
      · rfl
    have h3 : u3.boot = u2.boot := (Within.ite rtEvent_within rtEvent_within).same .boot (by decide)
    have h4 : u4.boot = u3.boot := (Within.foldl fun _ _ => rtEvent_within).same .boot (by decide)
    have h5 : u5.boot.reset = u4.boot.reset := rfl
    have hstarted : u5.boot.reset = u.boot.reset := by rw [h5, h4, h3, h2, h1]
    split
    · exact (congrArg Boot.reset ((modPair_within.trans pairEnter_within).same .boot (by decide))).trans hstarted
    · exact hstarted
  · intro d hd
    refine rtStart_within.regs _ ?_ ?_ ?_ ?_
    · exact (show ∀ c < 3, (Reg.CH_STATE.STATE c).lo < 32 by decide) d hd
    · exact (show ∀ c < 3, 0x40000000 ≤ (Reg.CH_STATE.STATE c).addr by decide) d hd
    · exact (show ∀ c < 3, (Reg.CH_STATE.STATE c).addr % 0x1000 ≠ 0xC by decide) d hd
    · exact (show ∀ c < 3, (Scope.mk (frLog ++ [.chans, .conf, .rt, .boot]) (some [0x403, 0x409])).covers
        ((Reg.CH_STATE.STATE c).addr / 0x100000) = false by decide) d hd

theorem Chip.chActive_keeps {c d : Nat} (hc : c < 3) (hd : d < 3) : (u.chActive c).boot = u.boot ∧
    (u.chActive c).get (Reg.CH_STATE.STATE d) = if c = d then 3 else u.get (Reg.CH_STATE.STATE d) := by
  refine ⟨chActive_within.same .boot (by decide), ?_⟩
  change (u.chEnter c 3).get (Reg.CH_STATE.STATE d) = _
  by_cases h : c = d
  · subst h
    rw [if_pos rfl]
    exact chEnter_chState hc (by decide)
  · rw [if_neg h]
    unfold Chip.chEnter
    dsimp only
    have hkey : (Reg.CH_STATE.STATE c).key ≠ (Reg.CH_STATE.STATE d).key :=
      (show ∀ c < 3, ∀ d < 3, c ≠ d → (Reg.CH_STATE.STATE c).key ≠ (Reg.CH_STATE.STATE d).key by decide) c hc d hd h
    obtain ⟨hlo, h4, hcc, h9, hraw⟩ := (show ∀ c < 3, ∀ d < 3, (Reg.CH_STATE.STATE d).lo < 32 ∧ 0x40000000 ≤ (Reg.CH_STATE.STATE d).addr ∧
      (Reg.CH_STATE.STATE d).addr % 0x1000 ≠ 0xC ∧ (Reg.CH_STATE.STATE d).addr / 0x100000 ≠ 0x409 ∧
      (Reg.CH_STATE.STATE d).addr ≠ (Reg.IRQ.RAW (chPage c)).addr by decide) c hc d hd
    split
    · rfl
    · unfold Chip.irqAfter
      rw [get_raiseAfter _ _ _ _ _ hlo h4 hcc h9, get_irq _ _ _ _ hlo hraw,
        get_put_ne _ _ _ _ ((show ∀ d < 3, Reg.CF_MODE.SYNC_CH.key ≠ (Reg.CH_STATE.STATE d).key by decide) d hd), get_put_ne _ _ _ _ hkey]

theorem Chip.channelsStart_keeps {l : List Nat} (hl : ∀ c ∈ l, c < 3) : (u.channelsStart r l).boot.reset = u.boot.reset ∧
    ∀ d, d < 3 → (u.channelsStart r l).get (Reg.CH_STATE.STATE d) = if d ∈ l then 3 else u.get (Reg.CH_STATE.STATE d) := by
  unfold Chip.channelsStart
  induction l generalizing u with
  | nil => exact ⟨rfl, fun d _ => by simp⟩
  | cons c l ih =>
    obtain ⟨hc, hl⟩ := List.forall_mem_cons.1 hl
    obtain ⟨hreset, hst⟩ := u.rtStart_keeps c r
    obtain ⟨ih1, ih2⟩ := ih (u := (u.rtStart c r).chActive c) hl
    refine ⟨ih1.trans ((congrArg Boot.reset (chActive_keeps hc hc).1).trans hreset), fun d hd => ?_⟩
    refine (ih2 d hd).trans ?_
    rw [(chActive_keeps hc hd).2, hst d hd]
    by_cases hdl : d ∈ l
    · simp [hdl]
    · by_cases hcd : c = d
      · simp [hcd]
      · simp [hdl, hcd, Ne.symm hcd]

theorem Chip.bootStep_eleven (hr : u.boot.reset = some r) (ht : u.bootStep r 11 ok ok2 m m2 = t) :
    t.stepDone r 11 ∧ ∀ c, c < 3 → t.get (Reg.CH_STATE.STATE c) =
      (if u.get (Reg.CH_STATE.STATE c) = 1 ∧ (u.chan c).passed = true then 3 else u.get (Reg.CH_STATE.STATE c)) := by
  have hl : ∀ c ∈ u.passedChannels, c < 3 := fun c hc => List.mem_range.1 (List.mem_filter.1 hc).1
  have hheld : (if u.heldCause then u.confSafe 0x9001 else u).boot = u.boot ∧
      ∀ d, d < 3 → (if u.heldCause then u.confSafe 0x9001 else u).get (Reg.CH_STATE.STATE d) = u.get (Reg.CH_STATE.STATE d) := by
    have h : Within ⟨frConf ++ [.weir], some blConf⟩ u (if u.heldCause then u.confSafe 0x9001 else u) := (Within.ite confSafe_within .unchanged).le (by decide)
    refine ⟨h.same .boot (by decide), fun d hd => h.regs _ ?_ ?_ ?_ ?_⟩
    · exact (show ∀ c < 3, (Reg.CH_STATE.STATE c).lo < 32 by decide) d hd
    · exact (show ∀ c < 3, 0x40000000 ≤ (Reg.CH_STATE.STATE c).addr by decide) d hd
    · exact (show ∀ c < 3, (Reg.CH_STATE.STATE c).addr % 0x1000 ≠ 0xC by decide) d hd
    · exact (show ∀ c < 3, (Scope.mk (frConf ++ [.weir]) (some blConf)).covers ((Reg.CH_STATE.STATE c).addr / 0x100000) = false by decide) d hd
  subst ht
  rw [show u.bootStep r 11 ok ok2 m m2 = (u.bootActive r).bootDone 11 from rfl, bootActive_eq]
  generalize (if u.heldCause then u.confSafe 0x9001 else u) = v at *
  obtain ⟨hvb, hvs⟩ := hheld
  obtain ⟨hsb, hss⟩ := channelsStart_keeps (u := v) (r := r) hl
  generalize v.channelsStart r u.passedChannels = w at *
  obtain ⟨hwb, hws⟩ := w.activeEnd_keeps u.passedChannels u.heldCause
  generalize w.activeEnd u.passedChannels u.heldCause = x at *
  refine ⟨bootDone_done (by decide) (by rw [hwb, hsb, hvb, hr]), fun c hc => ?_⟩
  rw [bootDone_get ((show ∀ c < 3, Reg.BOOT_STAT.STEP.key ≠ (Reg.CH_STATE.STATE c).key by decide) c hc), hws c hc, hss c hc, hvs c hc]
  have hmem : c ∈ u.passedChannels ↔ u.get (Reg.CH_STATE.STATE c) = 1 ∧ (u.chan c).passed = true := by
    simp [Chip.passedChannels, Chip.chState, hc]
  by_cases h : c ∈ u.passedChannels
  · rw [if_pos h, if_pos (hmem.1 h)]
  · rw [if_neg h, if_neg (mt hmem.2 h)]

end

/-- Settles O55, step by step. -/
theorem bootSteps : Obligations.BootSteps := by
  unfold Obligations.BootSteps
  refine ⟨fun k m m2 ok ok2 s h => ⟨_, exec_bootStepDone_idle h, rfl⟩, fun k m m2 ok ok2 r s hr h => ⟨_, exec_bootStepDone_early hr h, rfl⟩,
    fun m m2 r s hr hrel hstop h28 h100 => ?_⟩
  have hdone : ∀ {k : Nat} {ok ok2 : Bool} {P : Chip → Prop}, s.chip.stepDue r k → (∀ t, s.chip.bootStep r k ok ok2 m m2 = t → P t) →
      Completes (.bootStepDone k ok ok2 m m2) s P := fun hdue hP => ⟨_, exec_bootStepDone_due hr hrel hstop hdue _ _ m m2, hP _ rfl⟩
  have hreset : s.chip.boot.reset.isSome := by rw [hr]; rfl
  refine ⟨fun h => ⟨hdone h ?_, hdone h ?_⟩, fun h => ⟨fun hready => hdone h ?_, fun hready => hdone h ?_⟩, fun h => ⟨hdone h ?_, hdone h ?_, hdone h ?_⟩,
    fun h hall => hdone h ?_, fun h hwait => hdone h ?_, fun h => ⟨fun hcold => ⟨hdone h ?_, hdone h ?_⟩, fun hwarm => hdone h ?_⟩,
    fun h hrun hlen ok ok2 => ⟨fun hfit => hdone h ?_, fun hno hfit => hdone h ?_, fun hno hno2 => hdone h ?_⟩, fun h => ⟨hdone h ?_, hdone h ?_⟩,
    fun h => hdone h ?_, fun h => hdone h ?_, fun h => hdone h ?_, fun h => hdone h ?_⟩
  · rintro t rfl
    exact bootStep_one hr
  · rintro t rfl
    rw [Chip.bootStep.eq_1, if_neg (by decide)]
    exact bootFail_stops _ hreset h28 h.1
  · rintro t rfl
    rw [Chip.bootStep.eq_2, if_pos (on_of_one hready)]
    exact bootDone_done (by decide) hr
  · rintro t rfl
    rw [Chip.bootStep.eq_2, if_neg (by simp [Chip.on, hready])]
  · rintro t rfl
    exact bootStep_three hr
  · rintro t rfl
    rw [Chip.bootStep.eq_3, if_pos (by decide)]
    exact bootFail_stops _ hreset h28 h.1
  · rintro t rfl
    exact bootStep_three_clock hr
  · rintro t rfl
    exact bootStep_four hr hall
  · rintro t rfl
    exact bootStep_four_waits hwait
  · rintro t rfl
    exact bootStep_five hr hcold
  · rintro t rfl
    rw [bootStep_five_fails hcold]
    exact bootFail_stops _ hreset h28 h.1
  · rintro t rfl
    exact if_pos hwarm
  · exact fun t => bootStep_six_first hr h100 hrun hlen hfit
  · exact fun t => bootStep_six_other hr h100 hrun hno hfit
  · rintro t rfl
    rw [Chip.bootStep.eq_6, bootSlot_none hno hno2]
  · rintro t rfl
    rw [Chip.bootStep.eq_7, if_pos rfl]
    exact bootDone_done (by decide) hr
  · rintro t rfl
    exact bootStep_seven_bad hr
  · exact fun t => bootStep_eight hr
  · exact fun t => bootStep_nine hr
  · rintro t rfl
    exact bootDone_done (by decide) ((congrArg Boot.reset (sluiceOffTest_within.same .boot (by decide))).trans hr)
  · exact fun t => bootStep_eleven hr

end Sys2Proof.Machine
end

section
/-!
PROOFS. A clock fault beside a demand line that has not fallen (22 R595; 10 R313).
-/
namespace Sys2Proof.Machine

/-- Out of reset, output 0 is used and stands in OFF, and its HS demand line is high. -/
def offWithDemand : State :=
  let u := State.reset.chip
  let u := { u with boot := { u.boot with released := some 0 } }
  { State.reset with chip := ((u.put (Reg.SOUT_CFG.USED 0) 1).put (Reg.SOUT_ST.STATE 0) 1).put Reg.SOUT_DHS.VAL 1 }

theorem offWithDemand_watched : offWithDemand.chip.get Reg.PWR_STAT.STATE ≤ 1 ∧ offWithDemand.chip.boot.released ≠ none ∧
    offWithDemand.chip.outUsed 0 = true ∧ offWithDemand.chip.outState 0 ≠ 6 := by
  decide +kernel

/-- The safe state of Sluice ends the tests of an output in OFF and leaves its demand lines. -/
theorem offWithDemand_stays : (((offWithDemand.chip.put Reg.CLK_STAT.REF_OK 0).clockFaultFree 0x7002 0).get Reg.SOUT_DHS.VAL).testBit 0 = true := by
  decide +kernel

theorem exec_refMissing_offWithDemand : exec .refMissing offWithDemand = offWithDemand.become ((offWithDemand.chip.put Reg.CLK_STAT.REF_OK 0).clockFaultFree 0x7002 0) := by
  have hwatch : offWithDemand.chip.clkWatch = true := by decide +kernel
  exact congrArg offWithDemand.become (if_pos hwatch)

/-- Refutes O54: a clock fault finds an output in OFF whose HS demand line is high, and leaves the line high. -/
theorem not_clocksAndResets : ¬ Obligations.ClocksAndResets := by
  unfold Obligations.ClocksAndResets
  rintro ⟨hclocks, -⟩
  obtain ⟨-, -, -, hmissing, -⟩ := hclocks offWithDemand
  obtain ⟨hpwr, hrel, hused, hst⟩ := offWithDemand_watched
  obtain ⟨t, hexec, ⟨-, -, -, -, -, hlines⟩, -⟩ := hmissing ⟨hpwr, hrel⟩
  rw [exec_refMissing_offWithDemand] at hexec
  obtain rfl : _ = t := congrArg State.chip (Host.Outcome.next.inj hexec)
  exact absurd (hlines 0 (by decide) hused hst).1 (by rw [offWithDemand_stays]; decide)

end Sys2Proof.Machine
end
